-- ==== Sys2Proof/Word.lean ====
section
/-! DEFINITION. The word types of the block: 32-bit registers and 8-bit memory cells (R8, R80). -/

namespace Sys2Proof

/-- A set-up register's contents (R8). -/
abbrev Word := BitVec 32

/-- One byte of host memory or of a frame. -/
abbrev Byte := BitVec 8

end Sys2Proof
end

