-- ==== Sys2Proof/Syntax.lean ====
section
/-! DEFINITION. The commands of the block, as plain data: what the outside world does to the module, and the
happenings the spec's table of operations and events lists (spec/opcode_table.json). Operands carry what comes from
outside: accesses, frames, levels and measured quantities. -/

namespace Sys2Proof

/-- A privilege level of the fabric (R111). -/
inductive Level where
  | sp | aM | bM | aS | bS | u
  deriving DecidableEq, Repr

/-! ### Operands of the chain, measurement and balancing rows (06, 07, 08) -/

/-- What the unit's own monitors show (R45, R122, R123, R487): VSUP, VAUX and VCOIL in mV, the die temperature in 0.01 °C, the draw
over 10 ms in mW with the whole seconds it has stayed above 7.5 W, the main oscillator's deviation in 0.1 ppm, and the SAFE and
AON islands less CORE in mV. -/
structure SupplyIn where
  vsupMv : Nat
  vauxMv : Nat
  coilMv : Nat
  dieTemp : Int
  drawMw : Nat
  aboveS : Nat
  mainDev : Int
  safeMv : Int
  aonMv : Int
  deriving DecidableEq, Repr

/-- The ORed logic rail: the higher of the two supplies feeds it (R45). -/
def SupplyIn.rail (e : SupplyIn) : Nat := max e.vsupMv e.vauxMv

/-- What is outside the unit when it starts: how many tiles stand on the ring, those whose stack lies below 30 V (R132), what the
monitors show, the delay measurement of
step 6 (transit times T_AB and T_BA in ns, and the m_k of each tile in ns, none where none came; R137), the tiles that find no
lock (R140), whether the Fog loop is open outside the tiles (R48), the configuration copies with an uncorrectable read (bit 0 A,
bit 1 B), and the records of the cell history with one (R77). -/
structure StartEnv where
  tiles : Nat
  lowStack : List Nat
  sup : SupplyIn
  tAB : Nat
  tBA : Nat
  marks : List (Option Nat)
  noLock : List Nat
  loopOpen : Bool
  cfgUe : Nat
  histUe : List Nat
  deriving DecidableEq, Repr

/-- A tile's factory data: trim signature (R135), hardware revision (R151), bleed resistances in mΩ (R183), and the share
of the tap-wire drop left 40 µs after the FETs went off, in 0.000001 (R188). -/
structure TileTrim where
  sig : Nat
  hwRev : Nat
  rBleed : List Nat
  residue : Nat
  deriving DecidableEq, Repr

/-- What a tile finds when a strobe reaches it: the side, the plant time of its arrival in ns, whether it fired within the last 5 µs,
its 24 inputs in 10 µV, the diode code, the stack in 10 mV and the deviation of the second reference in 10 µV (R136, R158, R161). -/
structure StrobeIn where
  fromX3 : Bool
  arriveNs : Nat
  within5us : Bool
  volts : List Int
  diode : Nat
  stack : Nat
  refDev : Int
  deriving DecidableEq, Repr

/-- How a frame reaches a tile (R128 to R130): whole, or with its header or payload check failing, with the receiver it came in on and
how many code errors that receiver met in it. -/
inductive FrameChk where
  | ok
  | header (x3 : Bool) (codes : Nat)
  | payload (x3 : Bool) (codes : Nat)
  deriving DecidableEq, Repr

/-- What becomes of a read frame at a tile and of its slot on the way back to CHAIN (R141, R148): it arrives; it arrives with its check
spoilt, with the code errors met at the port; the header's check fails at the tile; or it does not arrive. -/
inductive SlotFate where
  | arrives
  | spoilt (codes : Nat)
  | header (x3 : Bool) (codes : Nat)
  | lost
  deriving DecidableEq, Repr

/-- One cell of a tap-wire calibration (R192): the means in 10 µV of cells j − 1, j and j + 1 with FET j off, and with it on. -/
structure CalStep where
  offLo : Nat
  off : Nat
  offHi : Nat
  onLo : Nat
  on : Nat
  onHi : Nat
  deriving DecidableEq, Repr

/-- What HVM converts (R167, R170): voltages in mV against STR_NEG, the shunt sense in nV, whether it lies beyond the converter's range,
the Hall sensor's output and reference in µV, and how many shunt samples have been over range since HVM last took values. At a sample
instant the values are those after the digital filter, between the two samples either side (DESIGN CHOICE, log 14). -/
structure HvmIn where
  vStr : Int
  vLinkPos : Int
  vPre : Int
  vLinkNeg : Int
  shuntNv : Int
  overRange : Bool
  hallSig : Int
  hallRef : Int
  overN : Nat
  deriving DecidableEq, Repr


/-- What a THERM round reads beside sweeps and registers (R251, R263): MOD_TEMP's code, the PS_TEMP pin in mV, and the
pulses of TA_TACH0 to TA_TACH2 over the last second. -/
structure ThermIn where
  modTemp : Nat
  psMv : Nat
  pulses : List Nat
  deriving DecidableEq, Repr

/-- What the LC0 trigger takes (R281, R283): the mean of the shunt samples over AVG_TICKS (mA), the latest V_LINK sample (mV,
none where it carries no value), and the leg sense voltages in µV. -/
structure Lc0In where
  y : Int
  vLink : Option Int
  isense : List Int
  deriving DecidableEq, Repr

/-- Means of the HVM converter samples over a channel's last 200 µs or 100 ms (R273): mV, mV, W and mA. -/
structure CtrlIn where
  vStr : Int
  vLink : Int
  pStr : Int
  iShunt : Int
  deriving DecidableEq, Repr


/-- A CAN frame on the bus (R403, R409): identifier, format bits, DLC, data, and how long ago its SOF edge was, in ns. -/
structure CanFrame where
  id : Nat
  ide : Bool
  fdf : Bool
  brs : Bool
  esi : Bool
  rtr : Bool
  dlc : Nat
  data : List Byte
  sofNs : Nat
  deriving DecidableEq, Repr

/-- How a transmission attempt ends (R413, R414): sent, with the time since its SOF; arbitration lost; or an error with its
code of CANn.LEC, whether it lay in the data phase, and whether a dominant bit was seen during a passive error flag. -/
inductive CanEnd where
  | sent (sofNs : Nat)
  | lost
  | error (code : Nat) (dataPhase dominant : Bool)
  deriving DecidableEq, Repr

/-- What a receiving controller meets (R403, R414): an error with its code, whether in the data phase, and how much the
standard adds to RXEC for it; or a protocol exception event. -/
inductive CanRxErr where
  | error (code : Nat) (dataPhase : Bool) (add : Nat)
  | pxe
  deriving DecidableEq, Repr


/-- What SAFE finds at an output every 10 ms (R316): its two pins in mV and its current in mA. -/
structure SoPins where
  hiMv : Int
  loMv : Int
  ma : Nat
  deriving DecidableEq, Repr


/-- What ETH finds with a frame on a port (R380 to R386): whether its FCS checks, how long ago its ingress stamp was, whether the egress
queue of its class is full, its wait behind Class 0 frames and its residence without that wait, all in ns, and the preemptions
it makes. -/
structure RingIn where
  fcsOk : Bool
  agoNs : Nat
  full : Bool
  waitNs : Nat
  resNs : Nat
  preempts : Nat
  deriving DecidableEq, Repr

/-- The commands: one constructor per row of spec/opcode_table.json, in the table's order. -/
inductive Instr where
  /-- RAIL_RISE (R61): The logic rail rises above 4.7 V for 1 ms from OFF and a start-up of POR scope begins at t0. -/
  | railRise (env : StartEnv)
  /-- SERVICE_FW_RUNNING (R64): Cluster A's service firmware reports running and the power state moves from START to RUN. -/
  | serviceFwRunning
  /-- SAFE_READY (R72): Once every ready condition holds, including 25 passed sweeps and a valid insulation result, SAFE reports ready. -/
  | safeReady
  /-- LOW_WARNING (R61): The rail falls below 4.5 V for 100 µs; an event is recorded and every function continues. -/
  | lowWarning (now : SupplyIn)
  /-- RAIL_HIGH (R61): The rail rises above 36 V for 100 µs; an event is recorded and every function continues. -/
  | railHigh (now : SupplyIn)
  /-- OVER_VOLTAGE (R61): The rail stays above 36 V for 400 ms and this is treated as a power-fail. -/
  | overVoltage (now : SupplyIn)
  /-- POWER_FAIL (R67): The rail falls below 4.0 V for 20 µs and HOLDUP is entered with its ride-through phase. -/
  | powerFail (now : SupplyIn)
  /-- RAIL_RETURN (R64): The rail returns within its range during ride-through, so HOLDUP is left, RUN resumes and the clusters restart under APP scope. -/
  | railReturn (now : SupplyIn)
  /-- RIDE_THROUGH_END (R67): 10 ms after power-fail detection without the rail's return, the flush phase begins. -/
  | rideThroughEnd
  /-- FLUSH_END (R67): REC flush, EST snapshot and OT48/PC24 commit have completed, LAST_FLUSH_OK is set and the unit switches off. -/
  | flushEnd (env : StartEnv)
  /-- HOLDUP_ENERGY_EXHAUSTED (R68): Hold-up energy runs out before the flush completes; the last committed data stands and the unit goes OFF. -/
  | holdupEnergyExhausted
  /-- RAIL_RETURN_IN_FLUSH (R68): The rail returns during the flush phase; the flush completes and a POR-scope start-up follows. -/
  | railReturnInFlush
  /-- COIL_UV (R45): VCOIL falls below 8.0 V; coil loads drop by themselves, an event is recorded and DIAG trips. -/
  | coilUv (now : SupplyIn)
  /-- WATCH (R65): A WATCH request on QP0 is refused, or accepted and WATCH entry begins. -/
  | watch
  /-- WATCH_REACHED (R65): The accepted entry has flushed REC, written the snapshot, slept the tiles and switched off every block except AON. -/
  | watchReached (env : StartEnv)
  /-- WAKE_INPUT (R66): WAKE stays on for 10 ms in WATCH and a start-up of SYSTEM scope begins. -/
  | wakeInput (env : StartEnv)
  /-- CAN0_WAKE_PATTERN (R66): A wake-up pattern on CAN0 in WATCH starts a start-up of SYSTEM scope. -/
  | can0WakePattern (env : StartEnv)
  /-- WAKE_TIMER_EXPIRY (R66): The AON wake timer runs out in WATCH and a start-up of SYSTEM scope begins. -/
  | wakeTimerExpiry (env : StartEnv)
  /-- UNIT_RESET (R520): The QP0 request completes with OK and the SYSTEM-scope reset follows within 1 ms. -/
  | unitReset (env : StartEnv)
  /-- CLUSTER_RESET (R520): The QP0 request completes with OK and the requesting cluster is reset under APP scope within 1 ms. -/
  | clusterReset
  /-- MAIN_OSCILLATOR_LOSS (R70): The main oscillator deviates beyond ±2 % of the SP oscillator for 10 µs, causing a SYSTEM-scope reset. -/
  | mainOscillatorLoss (now : SupplyIn) (env : StartEnv)
  /-- DIE_OVER_TEMPERATURE (R70): The controller die exceeds 125 °C and is held in a SYSTEM-scope reset until below 110 °C. -/
  | dieOverTemperature (now : SupplyIn)
  /-- LOCKSTEP_MISMATCH (R70): An SP lockstep mismatch causes a SAFETY-scope reset. -/
  | lockstepMismatch
  /-- SP_WATCHDOG_EXPIRY (R70): The SP watchdog runs out and causes a SAFETY-scope reset. -/
  | spWatchdogExpiry
  /-- SAFETY_RESET (R69): SP, SAFE and STL reset, the safe state holds, and SP repeats its start-up steps 2, 4, 7 and 8. -/
  | safetyReset (row : Nat)
  /-- CLUSTER_WATCHDOG_EXPIRY (R70): A cluster watchdog runs out, or an uncorrectable error hits its private region, and that cluster is reset under APP scope. -/
  | clusterWatchdogExpiry (c : Nat)
  /-- SAFE_ISLAND_LIMIT (R487): The SAFE island differs from CORE by over 60 mV for 10 µs, causing a SAFETY reset and setting ISL_ERR. -/
  | safeIslandLimit (now : SupplyIn)
  /-- AON_ISLAND_LIMIT (R487): The AON island differs from CORE by over 100 mV for 10 µs, causing a SYSTEM reset with cause 0x6. -/
  | aonIslandLimit (now : SupplyIn) (env : StartEnv)
  /-- PEAK_DRAW_LIMIT (R79): After 30 s above 7.5 W, PWR lowers cluster B to 600 MHz, paces STOR writes and sets PEAK. -/
  | peakDrawLimit (now : SupplyIn)
  /-- PEAK_DRAW_RELEASE (R79): The 60 s mean draw reaches 7.5 W or less, and the throttle and pacing are released. -/
  | peakDrawRelease (now : SupplyIn) (spanMs mwMs : Nat)
  /-- SQ_TAIL (R91): A doorbell write of a new SQ tail is checked and accepted or rejected. -/
  | sqTail (lvl : Level) (qp value : Nat) (writes : List (Nat × List Byte))
  /-- CQ_HEAD (R91): A doorbell write of a new CQ head is checked and releases CQ slots, or is rejected. -/
  | cqHead (lvl : Level) (qp value : Nat)
  /-- SQ_FETCH (R97): With a CQ slot reserved, QMGR fetches the next SQ entry, judges it in the order of R521 and passes it to its engine. -/
  | sqFetch (qp : Nat) (ue : List Nat)
  /-- TIMED_START (R96): Plant time reaches AT of a waiting TIMED entry and the entry starts. -/
  | timedStart (qp : Nat)
  /-- COAL_TIMEOUT (R108): COAL_US passes after the first unannounced completion and the queue pair's interrupt is signalled. -/
  | coalTimeout (qp : Nat)
  /-- IRQPEND_CLEAR (R108): The host clears an IRQPEND bit and QMGR signals again if a cause arose since the last signal. -/
  | irqpendClear (lvl : Level) (hi : Bool) (value : Nat)
  /-- QP_ENABLE (R102): Writing 1 to QPn_CTRL.ENABLE checks the rings and enables the queue pair or sets CFG_ERR. -/
  | qpEnable (lvl : Level) (qp : Nat)
  /-- QP_DISABLE (R102): Writing 0 to ENABLE stops fetching, drops unfetched entries and flushes or completes fetched ones. -/
  | qpDisable (lvl : Level) (qp : Nat)
  /-- QP_IDLE (R102): The last completion of a disabled queue pair is written and IDLE becomes 1. -/
  | qpIdle (qp : Nat)
  /-- NOP (R104): The common NOP opcode completes with RESULT 0. -/
  | nop (qp : Nat)
  /-- GET_STATUS (R104): The engine's status block is written into the buffer. -/
  | getStatus (qp : Nat)
  /-- SET_CONFIG (R104): A configuration item is checked, stored in the configuration area and applied by its change class. -/
  | setConfig (qp : Nat)
  /-- GET_CONFIG (R104): A configuration item is written into the buffer. -/
  | getConfig (qp : Nat)
  /-- ENABLE (R104): An engine, channel, session, port or function named by ARG0 is enabled. -/
  | enable (qp : Nat)
  /-- DISABLE (R104): An engine, channel, session, port or function named by ARG0 is disabled. -/
  | disable (qp : Nat)
  /-- POST_BUFFER (R104): An empty buffer is posted for stream output and completes when filled. -/
  | postBuffer (qp : Nat)
  /-- MARK (R104): The entry completes after all earlier entries, returning PT64 at completion. -/
  | mark (qp : Nat)
  /-- FLUSH (R104): Posted buffers are returned, a partly filled one with OK and empty ones with FLUSHED. -/
  | flush (qp : Nat)
  /-- LOCK_SET (R117): Writing 1s to SYS.LOCK_SET locks the named blocks until the next SYSTEM or POR reset. -/
  | lockSet (lvl : Level) (value : Nat)
  /-- REGISTER_WRITE (R114): A write to a register without its own row takes effect, or is ignored under access, ownership, lock, class or gate rules. -/
  | registerWrite (lvl : Level) (addr width value : Nat)
  /-- LO_READ (R12): A read of a _LO register copies _HI into the reading level's shadow. -/
  | loRead (lvl : Level) (addr width : Nat) (now : SupplyIn)
  /-- LO_WRITE (R12): A write of a _LO register stages the low half for that level. -/
  | loWrite (lvl : Level) (addr value : Nat)
  /-- HI_WRITE (R12): A write of a _HI register commits the upper and staged lower halves at one instant, or the upper half alone. -/
  | hiWrite (lvl : Level) (addr value : Nat)
  /-- INC_WRITE (R388): A write of PTP.INC0 or INC1 sets the domain's increment, saturating at ±500 ppm and setting INC_SAT. -/
  | incWrite (lvl : Level) (dom value : Nat)
  /-- PRESET (R494): A write of PERF.Cn_PRESET loads VALUE and clears HI in one FAB cycle. -/
  | preset (lvl : Level) (ctr value : Nat)
  /-- SAMPLE_INSTANT (R136): At a scheduled instant, CHAIN launches the ARM and strobe and then SWEEP_RD 8 µs after the instant. -/
  | sampleInstant (rx : Option Nat) (hv : HvmIn) (transit : Option Nat)
  /-- ARM (R130): A tile receiving ARM records SNUM as the number of its next sample. -/
  | arm (k snum lead : Nat) (fromX3 : Bool) (chk : FrameChk)
  /-- STROBE (R136): A strobe reaches a tile, which fires after its compensated delay and converts all 24 channels into the hold. -/
  | strobe (k : Nat) (si : StrobeIn)
  /-- SWEEP_RD (R130): Each tile fills its slot from the hold entry matching SNUM. -/
  | sweepRd (k sinceNs : Nat) (fate : SlotFate)
  /-- HOLD_RD (R130): Each masked tile fills its slot from the hold and sets FROM_HOLD. -/
  | holdRd (k sinceNs : Nat) (fate : SlotFate)
  /-- TREG_RD (R130): The addressed tile writes the value of a tile register into the frame. -/
  | tregRd (k reg : Nat) (chk : FrameChk)
  /-- TREG_WR (R130): The addressed tiles write the tile registers owned by BAL or MEAS. -/
  | tregWr (k : Nat) (ws : List (Nat × Nat)) (chk : FrameChk)
  /-- ENUM (R134): Each tile takes its position from ARG, passes on ARG + 1 and enters NUMBERED, or flags POS_MISMATCH. -/
  | enum (portB : Bool)
  /-- DLY_MARK (R137): Each tile latches the interval between two DLY_MARK arrivals in DLY_M. -/
  | dlyMark (k m : Nat) (chk : FrameChk)
  /-- DLY_SET (R130): The addressed tile loads DLY_X2, DLY_X3 and D_ALIGN. -/
  | dlySet (k x2 x3 align : Nat) (chk : FrameChk)
  /-- PROBE_FRAME (R130): Each tile ORs its bit into the PROBE word. -/
  | probeFrame (k : Nat) (portB : Bool) (chk : FrameChk)
  /-- SAFE_WR (R130): A tile loads its threshold and filter registers from a frame with SRC_SP set. -/
  | safeWr (k ov uv filt : Nat) (srcSp : Bool) (chk : FrameChk)
  /-- SAFE_RD (R130): A tile returns its threshold and filter registers for SP's read-back. -/
  | safeRd (k : Nat) (chk : FrameChk)
  /-- REARM (R130): A tripped tile returns to ARMED on a frame with SRC_SP set. -/
  | rearm (k : Nat) (srcSp : Bool) (chk : FrameChk)
  /-- ARM_SAFE (R130): A numbered tile with matching thresholds enters ARMED and closes its Fog switch. -/
  | armSafe (k : Nat) (srcSp : Bool) (chk : FrameChk)
  /-- SLEEP (R130): A tile passes the frame on and enters SLEEP. -/
  | sleep (k : Nat) (chk : FrameChk)
  /-- TILE_SILENCE_TIMEOUT (R132): After 2.0 s without a valid frame, a tile enters SLEEP and opens its Fog switch. -/
  | tileSilenceTimeout (k : Nat)
  /-- TILE_WAKE (R133): Activity on a receiver wakes a sleeping tile, which sends idles on both sides within 1.2 ms. -/
  | tileWake (k : Nat) (fresh : Option TileTrim) (stack : Nat)
  /-- TILE_CLOCK_LOCK (R140): A tile locks its oscillator to the facing receiver's symbol clock. -/
  | tileClockLock (k : Nat) (onX3 ok : Bool)
  /-- STACK_LOW (R132): The stack falls below 36 V and an armed tile opens its Fog switch and sets SUPPLY_LOW. -/
  | stackLow (k : Nat)
  /-- STACK_RESTORED (R132): The stack stays above 37 V for 10 ms and the Fog switch closes again. -/
  | stackRestored (k : Nat)
  /-- COMPARATOR_TRIP (R132): A cell crosses its threshold for FILT and the tile enters TRIPPED with its Fog switch open. -/
  | comparatorTrip (k cell : Nat) (ov : Bool) (v : Int)
  /-- COMPARATOR_SELF_TEST (R163): Every 20 ms a tile tests one comparator with the stand-in guarding, setting CMP_BAD on failure. -/
  | comparatorSelfTest (k : Nat) (tripUs standInUs : Option Nat)
  /-- OPEN_WIRE_TEST (R162): Every OW_INT_MS the tile sinks test current at the next tap and judges it open or intact over the next sample. -/
  | openWireTest
  /-- SYNC_LOSS (R143): A receiver loses sync; the tile aborts the passing frame, enters loop mode and sends LINK_DOWN. -/
  | syncLoss (node : Nat) (x3 : Bool) (codes : Nat)
  /-- LOOP_MODE_EXIT (R147): A tile leaves loop mode once its lost side has been in sync for 10 ms. -/
  | loopModeExit (k : Nat) (x3 : Bool)
  /-- LINK_DOWN (R144): CHAIN receives LINK_DOWN, aborts its read frame on that port and re-reads missing tiles from the far side. -/
  | linkDown (portB : Bool) (pos : Nat) (lostX3 : Bool)
  /-- READ_INCOMPLETE (R144): A read frame ends in abort or fails to return and CHAIN launches HOLD_RD for the missing tiles. -/
  | readIncomplete (sinceNs : Nat)
  /-- SWEEP_DEADLINE (R144): 240 µs after the instant, a sweep with slots still not good is delivered flagged and counted. -/
  | sweepDeadline
  /-- SWEEP_COMPLETE (R25): A complete sweep reaches the sweep bus and every consumer takes it. -/
  | sweepComplete
  /-- PROBE_RETURN (R145): PROBE frames return and CHAIN locates the break and writes a report. -/
  | probeReturn
  /-- RING_CLOSE (R147): A PROBE from port A returns at port B with every tile set, and CHAIN returns to closed-ring operation. -/
  | ringClose (tAB tBA : Nat) (marks : List (Option Nat))
  /-- CHAIN_ROUND (R135): Every 1 s CHAIN repeats both ENUM passes, reads trim signatures and checks the tile thresholds. -/
  | chainRound
  /-- DELAY_REMEASURE (R139): A drift of strobe transit over 20 ns, or 1 s passing, triggers a new delay measurement at the next gap. -/
  | delayRemeasure (tAB tBA : Nat) (marks : List (Option Nat))
  /-- TILE_RD (R152): Reads one tile register, or completes with TILE_ABSENT. -/
  | tileRd
  /-- PROBE (R152): Launches a PROBE and returns CHAIN.BREAK. -/
  | probe
  /-- DLY_MEASURE (R152): Measures the ring delays and returns D_ALIGN. -/
  | dlyMeasure (tAB tBA : Nat) (marks : List (Option Nat))
  /-- TILE_SNAP (R152): Writes registers 0x00 to 0x0F of every tile into the buffer. -/
  | tileSnap
  /-- TABLE_COMMIT (R175): The staged sampling table is checked and made pending for the next sweep boundary. -/
  | tableCommit
  /-- REVERT (R175): A return to the start-up schedule is made pending for the next sweep boundary. -/
  | revert
  /-- SCHEDULE_BOUNDARY (R175): At a sweep boundary the pending commit or REVERT takes effect and completes. -/
  | scheduleBoundary
  /-- QUARTER_LOAD (R176): Entries are loaded into one staged quarter of the sampling table. -/
  | quarterLoad (qp : Nat)
  /-- CARRIER_STOP (R157): The PWM carrier stops under base CARRIER and MEAS enters holdover. -/
  | carrierStop
  /-- CARRIER_RESTART (R157): The carrier restarts and MEAS locks to it at the next instant. -/
  | carrierRestart
  /-- CARRIER_PERIOD_CHANGE (R157): A new carrier period applies from the next period start and too-close instants are dropped. -/
  | carrierPeriodChange
  /-- HVM_REPORT (R179): At every report period HVM writes a values record. -/
  | hvmReport (means : HvmIn) (iMinNv iMaxNv : Int)
  /-- INSULATION_PHASE_END (R171): An insulation phase ends, its value is taken and the injection path changes. -/
  | insulationPhaseEnd (vc u100 moved uMin : Int)
  /-- INSULATION_CYCLE_END (R172): The cycle ends, the insulation result is judged valid or invalid and a record is written. -/
  | insulationCycleEnd
  /-- SHUNT_OVER_RANGE (R170): Shunt over-range lasting 1 ms sets SHUNT_FAULT. -/
  | shuntOverRange (overN : Nat)
  /-- SET_TIMERS (R198): Bleed timers of the masked tiles are checked, written and read back. -/
  | setTimers
  /-- BLEED_STOP (R198): The STOP opcode on QP14 stops bleeding on the masked tiles. -/
  | bleedStop
  /-- BAL_SNAP (R199): Writes the latest round's timers and bleed status per tile. -/
  | balSnap
  /-- TAP_CAL (R192): Tap-wire calibration of the named tiles starts if its conditions hold. -/
  | tapCal (iMa : Int)
  /-- TAP_CAL_DONE (R193): Calibration ends; passing tiles' tap values are stored and loaded and the entry completes. -/
  | tapCalDone (iMax vMin vMax : Nat) (steps : List (List CalStep)) (tcals : List Nat)
  /-- BLEED_TIMER_EXPIRY (R184): A cell's timer reaches 0 and its FET turns off. -/
  | bleedTimerExpiry (k cell : Nat)
  /-- BLEED_POWER_TICK (R185): Every 1 ms the tile computes requested power, updates the credit, applies derating and sets the duty share. -/
  | bleedPowerTick (k : Nat)
  /-- BLEED_SILENCE (R187): No valid frame for BTO; the tile turns off every FET, clears timers and sets BAL_STOP. -/
  | bleedSilence (k : Nat)
  /-- PAUSE_FETS_OFF (R188): Under PAUSE, every FET turns off 40 µs before the fire instant. -/
  | pauseFetsOff (k : Nat)
  /-- PAUSE_FETS_ON (R188): FETs turn on again 10 µs after the fire instant. -/
  | pauseFetsOn (k : Nat)
  /-- BAL_ROUND (R194): Every 1 s BAL reads timers and BSTAT and clears a tile's timers on a mismatch. -/
  | balRound (elapsedS : Nat)
  /-- EST_CYCLE (R205): At each EST window close, EST predicts and updates every cell, and runs the parameter filter every PAR_DIV-th cycle. -/
  | estCycle
  /-- AGE_WAIT_EXPIRY (R217): AGE_WAIT_S passes without plant-time acquisition and KIND 0 record ages become unknown. -/
  | ageWaitExpiry
  /-- NO_EIS_TIMEOUT (R210): No EIS observation for EIS_STALE_S sets NO_EIS for the cell. -/
  | noEisTimeout (c : Nat)
  /-- STALE_TIMEOUT (R215): A cell without measurement update for 1 s becomes STALE. -/
  | staleTimeout (c : Nat)
  /-- SOP_EVALUATION (R221): Every 100 ms EST computes charge and discharge limits for three horizons and delivers them to CTRL. -/
  | sopEvaluation
  /-- SNAPSHOT_TIMER (R216): Every SNAP_MIN minutes EST writes a KIND 2 snapshot and EIS writes its phase offsets. -/
  | snapshotTimer
  /-- CHEM_COMMIT (R213): The staged chemistry is checked and brought into force at the next EST cycle. -/
  | chemCommit
  /-- CELL_RESET (R219): The named cells restart in the COLD row at the next cycle. -/
  | cellReset
  /-- SNAPSHOT (R225): A KIND 2 snapshot is written now. -/
  | snapshot
  /-- SEGMENT_END (R236): At the end of N samples, EIS forms phasors and adds kept segments to the sums. -/
  | segmentEnd
  /-- INTEGRATION_END (R238): After NSEG kept segments, EIS evaluates impedances, core-temperature observations and offsets and writes the record. -/
  | integrationEnd
  /-- HOLD_TIMEOUT (R235): An interruption lasting longer than HOLD_S abandons the integration. -/
  | holdTimeout
  /-- PLAN_COMMIT (R245): Staged plan and phase table are checked and made pending for the end of the integration. -/
  | planCommit
  /-- EIS_HISTORY_TIMER (R244): Every HIST_MIN minutes EIS writes its latest record to the cell history. -/
  | eisHistoryTimer
  /-- HOUSEKEEPING_ROUND (R252): Every 100 ms THERM judges sensors, fuses temperatures, sets limits and forbid signals and delivers TB. -/
  | housekeepingRound (tin : ThermIn)
  /-- FAST_ROUND (R252): While NEAR holds, a limit round runs every 10 ms. -/
  | fastRound (tin : ThermIn)
  /-- HEATER_DWELL_END (R262): The 10 s minimum state of the heater relay ends and a waiting demand acts. -/
  | heaterDwellEnd
  /-- ACT_FAULT (R263): An actuator driven with duty but slow tach for 5 s sets ACT_FAULT, or clears after 5 s without the condition. -/
  | actFault (a : Nat)
  /-- LC0_CYCLE (R276): At the LC0 trigger, CTRL ramps the reference, runs the loop and sets duty, checking leg over-current. -/
  | lc0Cycle (x : Lc0In)
  /-- FAST_CYCLE (R272): Every 200 µs each FAST outer channel runs its loop step. -/
  | fastCycle (x : CtrlIn)
  /-- SLOW_CYCLE (R272): After each THERM housekeeping round each SLOW channel runs its loop step. -/
  | slowCycle (x : CtrlIn) (dtNs : Nat)
  /-- DWELL_END (R279): DWELL_MS at zero ends and the ramp moves toward the new side. -/
  | dwellEnd (n : Nat)
  /-- SUPERVISION_CHECK (R285): At 5 kHz LC0's MODEL, HALL and TRACK checks run and a failure sends the channel to STOPPING. -/
  | supervisionCheck (x : CtrlIn) (iHall : Int)
  /-- STOPPING_TIMEOUT (R287): 2 s after a supervision failure the channel goes OPEN. -/
  | stoppingTimeout (n : Nat)
  /-- PS_FAULT (R283): PS_FAULT_N asserts; PWM lines go off within 1 µs and LC0 and its chain go OPEN. -/
  | psFault (low : Bool)
  /-- STOP (R275): The channel enters STOPPING toward OPEN_OUT at its ramp rates. -/
  | stop (qp : Nat)
  /-- SET_REF (R297): Sets the target of a channel whose REF_SRC is HOST. -/
  | setRef (qp : Nat)
  /-- SET_DISPATCH (R296): Installs a dispatch grant with limits, expiry and set-point on LC0. -/
  | setDispatch (qp : Nat)
  /-- DISPATCH_EXPIRY (R294): At EXPIRY the dispatch set-point becomes 0 and the dispatch term is removed in hardware. -/
  | dispatchExpiry
  /-- POWER_REQUEST (R292): A Rinpacon power request is judged and granted, reduced or refused within 2 ms. -/
  | powerRequest (sender : Nat) (req : List Byte)
  /-- FOG_ASSERT (R32): Loop current below 5 mA for 20 µs trips FOG, switching off masked outputs and asserting the PWM inhibit. -/
  | fogAssert (loopOpen : Bool)
  /-- FOG_DEASSERT (R311): The Fog line de-asserts when every tile has closed its switch. -/
  | fogDeassert
  /-- SP_EVALUATION (R309): Every 1 ms SP evaluates the sweeps delivered against the plausibility trip sources. -/
  | spEvaluation
  /-- SET_CRC_CHECK (R306): Every 10 s SP checks the CRC of the set in its memory and trips DIAG on failure. -/
  | setCrcCheck (flips : List (Nat × Nat))
  /-- SI_CHANNEL_CHANGE (R320): A safety input channel's raw state holds for DEB_US and its filtered state changes. -/
  | siChannelChange (n : Nat) (chB on : Bool)
  /-- DISCREPANCY_TIMEOUT (R321): T_DISC_MS passes without the other channel following, setting DISC_FAULT and tripping SIn. -/
  | discrepancyTimeout (n : Nat)
  /-- INPUT_TEST_PULSE (R320): 250 µs into a TPA or TPB pulse SAFE reads the channels and sets TP_FAULT after two failures. -/
  | inputTestPulse (tpb : Bool) (reads : Nat)
  /-- OUTPUT_SWITCH_ON (R313): PERMIT and REQUEST hold for ON_DLY_MS and the low-side switch turns on. -/
  | outputSwitchOn (n : Nat)
  /-- HIGH_SIDE_ON (R313): 1 ms after the low-side switch, the high-side switch turns on. -/
  | highSideOn (n : Nat)
  /-- OUTPUT_SWITCH_OFF (R313): On loss of PERMIT or REQUEST both switches turn off together within 50 µs. -/
  | outputSwitchOff (n : Nat)
  /-- OFF_STATE_CHECK (R316): Every 10 ms SAFE checks off outputs for PIN_HI and PIN_LO, and on outputs for OPEN_LOAD. -/
  | offStateCheck (pins : List SoPins) (coilMv : Int)
  /-- OVERCURR (R316): The output current limit acts, setting OVERCURR and tripping DIAG. -/
  | overcurr (n : Nat)
  /-- TEST_PULSE_SLOT (R317): At its slot a conducting switch is switched off for its test pulse, unless the slot is skipped. -/
  | testPulseSlot (j : Nat) (young : Bool)
  /-- TEST_PULSE_EVALUATE (R317): 150 µs into the pulse the switch is judged passed or stuck. -/
  | testPulseEvaluate (ma : Nat) (pinMv coilMv : Int)
  /-- TEST_PULSE_END (R317): At 200 µs the switch is switched on again and SW_OPEN is set if it does not conduct within 50 µs. -/
  | testPulseEnd (conducts late : Bool)
  /-- TEST_OVERDUE (R317): A switch conducting for 60 s without a passing pulse sets OVERDUE and trips DIAG. -/
  | testOverdue (n : Nat)
  /-- RST_IN_RISE (R322): The filtered RST_IN rises after being low and the high is timed. -/
  | rstInRise
  /-- RST_IN_FALL (R322): RST_IN falls and the reset edge is refused as short or evaluated under R323. -/
  | rstInFall (ticks : Nat)
  /-- RESET_HIGH_DISCARD (R322): A high lasting 2 s is discarded with LAST_RES 3. -/
  | resetHighDiscard (stl : Bool)
  /-- REARM_COMPLETE (R323): The Fog line de-asserts after REARM; trips clear, the inhibit releases and outputs switch on. -/
  | rearmComplete
  /-- REARM_TIMEOUT (R323): The Fog line stays asserted 50 ms after REARM and the edge is refused with LAST_RES 6. -/
  | rearmTimeout
  /-- PRECHARGE_START (R315): PRE and MAIN have PERMIT and the start request holds, so SP switches PRE on. -/
  | prechargeStart
  /-- PRECHARGE_SETTLED (R315): |V_STR − V_LINK| stays within PRE_DV_MV for PRE_SETTLE_MS, so MAIN switches on. -/
  | prechargeSettled
  /-- PRECHARGE_TIMEOUT (R315): PRE_TMAX_MS passes without settling and the sequence trips DIAG. -/
  | prechargeTimeout
  /-- PRECHARGE_OVERLAP_END (R315): PRE_OVL_MS after MAIN switches on, PRE switches off. -/
  | prechargeOverlapEnd
  /-- START_REQUEST_OFF (R315): The start request goes off and MAIN switches off without a latch. -/
  | startRequestOff
  /-- LOAD (R345): A COMMISSION LOAD chunk stores set bytes at OFFSET. -/
  | load (sess ofs : Nat) (data : List Byte)
  /-- LOAD_END (R326): SP checks the loaded set, writes it pending to both copies, writes the tile thresholds and reports CHECK. -/
  | loadEnd (sess : Nat)
  /-- CONFIRM (R326): SP writes the confirmation record to both copies if the confirmed value equals its CHECK. -/
  | confirm (sess value oper : Nat)
  /-- REPAIR (R326): SP rewrites both copies from the one good copy with SET_SEQ incremented. -/
  | repair (sess : Nat) (confirmed : Option Nat) (oper : Nat)
  /-- CYCLIC_SEND (R334): Every CYCLE_US a session sends its cyclic PDU. -/
  | cyclicSend (n : Nat)
  /-- CYCLIC (R335): A received cyclic PDU passes the five checks and updates the session and its requests. -/
  | cyclic (medium src : Nat) (pdu : List Byte)
  /-- RESET_RISE (R341): A RESET_RISE accepted on RST_STL starts an STL reset high. -/
  | resetRise (medium src : Nat) (pdu : List Byte)
  /-- RESET_FALL (R341): A RESET_FALL accepted on RST_STL ends the high and the edge is evaluated. -/
  | resetFall (medium src : Nat) (pdu : List Byte)
  /-- SESSION_OPEN (R338): In OPENING, a RESTART frame acknowledging a sent SEQ brings the session to RUN. -/
  | sessionOpen (medium src : Nat) (pdu : List Byte)
  /-- LOSS_VERDICT (R339): WDOG_US or ERR_MAX is exceeded; the session goes LOST, requests drop and a watched session trips STL. -/
  | lossVerdict (n : Nat)
  /-- SET_DATA (R346): Sets the host data of a DATA_SRC 1 session's cyclic frames. -/
  | setData
  /-- RESET_CMD (R346): Sends a RESET_RISE or RESET_FALL frame on the session. -/
  | resetCmd
  /-- RELAY_RX (R346): Passes one PDU from the host into a host-relay session. -/
  | relayRx
  /-- RELAY_TX (R346): Collects the next PDU SP sends on a host-relay session. -/
  | relayTx
  /-- SESS_READ (R346): Returns the latest accepted PDU and its acceptance time. -/
  | sessRead
  /-- BEACON_SEND (R355): Every 1 ms the unit sends its Beacon on the pair link, the ring and to the Keeper. -/
  | beaconSend (now : SupplyIn)
  /-- BEACON_RECEIVE (R359): A partner Beacon is accepted, updates the mirror and may change the role. -/
  | beaconReceive (path src : Nat) (frame : List Byte)
  /-- INIT_TIMEOUT (R354): The start-up wait runs out without an ACTIVE Beacon and the unit enters CLAIMING. -/
  | initTimeout
  /-- FAILURE_VERDICT (R363): No partner Beacon for 1.2 ms, or a FENCED Beacon, sends a standby to CLAIMING with a CLAIM. -/
  | failureVerdict
  /-- CLAIM_RESEND (R361): A unit still CLAIMING without an answer resends its CLAIM every 1 ms. -/
  | claimResend
  /-- HOLD_EXPIRED (R363): 2 ms without a Beacon or GRANT; the standby switches its outputs off and withholds PERMIT. -/
  | holdExpired
  /-- GRANT (R365): A GRANT makes the unit ACTIVE; it stores the epoch, writes delays, takes channels and drives. -/
  | grant (path src : Nat) (frame : List Byte)
  /-- DENY (R353): A DENY returns a claiming unit to STANDBY or aborts a handover. -/
  | deny (path src : Nat) (frame : List Byte)
  /-- ACK (R353): A Keeper ACK refreshes KEEPER health and may move a unit between ACTIVE, FENCED and STANDBY. -/
  | ack (path src : Nat) (frame : List Byte)
  /-- FENCE (R364): An active unit hearing neither peer for 0.9 ms enters FENCED and releases its lines. -/
  | fence
  /-- HANDOVER (R367): A planned handover starts with HO_STEP 1. -/
  | handover
  /-- HANDOVER_RELEASE (R367): At a quiet sweep boundary the active unit sends RELEASE to the Keeper. -/
  | handoverRelease
  /-- HANDOVER_ABORT (R367): HO_READY missing within 3 Beacons, or no ACK within 1 ms, aborts the handover. -/
  | handoverAbort
  /-- FINAL_BEACON_TIMEOUT (R367): No HO_STEP 3 Beacon 2 ms after the GRANT; the new active unit proceeds from its latest mirror. -/
  | finalBeaconTimeout
  /-- DEGRADATION (R368): A HEALTH_REQ bit is clear for DEGRADE_MS while the partner's is set and a planned handover starts. -/
  | degradation
  /-- TAKEBACK_HOLDOFF_END (R369): TAKEBACK_S passes without restart and the HOME unit sets TB_REQ. -/
  | takebackHoldoffEnd
  /-- KEEPER_SNAP (R371): Writes the Keeper service's state for every pair served. -/
  | keeperSnap
  /-- KEEPER_BEACON (R360): The Keeper receives a Beacon, answers with ACK and may adopt a higher epoch. -/
  | keeperBeacon (path src : Nat) (frame : List Byte)
  /-- CLAIM (R360): The Keeper receives a CLAIM and holds it pending. -/
  | claim (path src : Nat) (frame : List Byte)
  /-- KEEPER_CLAIM_GRANT (R360): The holder is silent for 1.2 ms, or unknown with the Keeper warm, and the Keeper sends a GRANT. -/
  | keeperClaimGrant (p : Nat)
  /-- KEEPER_CLAIM_TIMEOUT (R360): A pending claim reaches 500 µs and the Keeper sends a DENY. -/
  | keeperClaimTimeout (p : Nat)
  /-- RELEASE (R360): The Keeper receives a RELEASE and grants the partner, or denies a non-holder. -/
  | release (path src : Nat) (frame : List Byte)
  /-- KEEPER_WARM_UP (R360): After 10 ms of listening the Keeper is warm and adopts the largest epoch and the holder. -/
  | keeperWarmUp
  /-- RINPACON_FRAME (R380): A frame on a port is delivered, removed or forwarded, cut-through or store-and-forward. -/
  | rinpaconFrame (portB : Bool) (frame : List Byte) (r : RingIn)
  /-- LINK_CHANGE (R387): A port's link goes down or up and ETH sends a ring-state notice within 1 ms. -/
  | linkChange (portB up verified : Bool)
  /-- RING_STATE_NOTICE (R387): A received ring-state notice records or clears a down link. -/
  | ringStateNotice (payload : List Byte)
  /-- BREAK_RECORD_EXPIRY (R387): 10 s without a notice clears every recorded down link. -/
  | breakRecordExpiry
  /-- SEND (R396): Sends one Rinpacon frame of the queue pair's class. -/
  | send (qp : Nat)
  /-- PTP_EVENT_MESSAGE (R391): A PTP event message is stamped, corrected for residence if forwarded, and delivered on QP37. -/
  | ptpEventMessage (portB : Bool) (msg : List Byte) (agoNs resNs : Nat)
  /-- FOLLOW_UP_TIMEOUT (R392): A held Follow_Up waits over 10 ms for its Sync and is forwarded unchanged, counted in TC_MISS. -/
  | followUpTimeout
  /-- SELECT (R395): Changes the selected domain without a step in plant time. -/
  | select
  /-- DOM_STATE (R393): Declares a domain's state; the first LOCKED of the selected domain acquires plant time with a step. -/
  | domState
  /-- STEP (R394): Moves a domain counter by an offset, stepping or slewing plant time. -/
  | step
  /-- PTP_TX (R398): Sends a PTP message from the chosen ports. -/
  | ptpTx
  /-- SYNC_LOSS_TIMEOUT (R395): The selected domain has no Sync for LOSS_MS; HOLDOVER is set or the domain switches automatically. -/
  | syncLossTimeout (d : Nat)
  /-- SLEW_END (R389): S reaches 0 and SLEWING clears. -/
  | slewEnd
  /-- ANCHOR_PUBLISH (R484): Every 256 PTP ticks, and at each step or switch, a plant-time anchor is published to the domains. -/
  | anchorPublish
  /-- CAN_FRAME_RECEIVE (R409): A valid CAN frame is offered to the receive objects and written to the image or stream. -/
  | canFrameReceive (n : Nat) (fr : CanFrame)
  /-- TRANSMIT_ATTEMPT (R412): At a start of frame the pending object of highest priority enters arbitration. -/
  | transmitAttempt (n : Nat)
  /-- ATTEMPT_END (R414): An attempt ends sent, lost or in error; errors move counters, ALONE and bus-off states. -/
  | attemptEnd (n : Nat) (r : CanEnd) (tdcv : Option Nat)
  /-- TX_SET (R412): Loads a transmit object's data and marks it pending. -/
  | txSet (qp : Nat)
  /-- TX_CANCEL (R413): Cancels a pending transmit object according to its state. -/
  | txCancel (qp : Nat)
  /-- RECOVER (R416): Starts bus-off recovery on command. -/
  | recover (qp : Nat)
  /-- BUS_OFF_HOLD_EXPIRY (R416): BO_HOLD_MS after bus-off with BO_AUTO set, recovery starts. -/
  | busOffHoldExpiry (n : Nat)
  /-- BUS_OFF_RECOVERY_END (R416): 128 × 11 recessive bits are seen and the controller becomes error active. -/
  | busOffRecoveryEnd (n : Nat)
  /-- IMG_BEGIN (R426): Checks an image header and starts reception into a slot. -/
  | imgBegin
  /-- IMG_CHUNK (R428): Writes one 64 KiB payload chunk to the slot. -/
  | imgChunk
  /-- IMG_END (R427): Ends reception; the payload is read back and hashed. -/
  | imgEnd
  /-- IMAGE_VERIFIED (R427): The read-back hash completes and the slot becomes VALID or BAD. -/
  | imageVerified (readErr : Bool)
  /-- IMG_ABORT (R428): Returns the receiving slot to EMPTY. -/
  | imgAbort
  /-- FORWARD (R431): Offers a VALID or RUNNING image to a ring address. -/
  | forward
  /-- OFFER (R430): A received image OFFER is checked and answered with ACCEPT or REFUSE within 100 ms. -/
  | offer (src : Nat) (frame : List Byte)
  /-- ACCEPT (R430): The sender receives ACCEPT and starts sending DATA. -/
  | accept (src : Nat) (frame : List Byte)
  /-- REFUSE (R431): A REFUSE ends the transfer or forwarding. -/
  | refuse (src : Nat) (frame : List Byte)
  /-- DATA (R430): A DATA fragment is collected and completed chunks are written and acknowledged. -/
  | data (src : Nat) (frame : List Byte)
  /-- CHUNK_ACK (R430): A chunk acknowledgment opens the sender's window, or ends a transfer for index 0xFFFF. -/
  | chunkAck (src : Nat) (frame : List Byte)
  /-- CHUNK_NAK (R430): A chunk refusal causes the sender to resend the chunk. -/
  | chunkNak (src : Nat) (frame : List Byte)
  /-- CHUNK_RETRY_TIMEOUT (R430): 200 ms without an answer resends the chunk, or cancels after 5 attempts. -/
  | chunkRetryTimeout (chunk : Nat)
  /-- DONE (R430): The receiver verifies the image after the last chunk and answers. -/
  | done (src : Nat) (frame : List Byte)
  /-- CANCEL (R430): A received CANCEL ends the transfer and the slot returns to EMPTY. -/
  | cancel (src : Nat) (frame : List Byte)
  /-- QUERY (R438): A QUERY is answered with INFO carrying the running SYSTEM version. -/
  | query (src : Nat) (frame : List Byte)
  /-- INFO (R438): A received INFO gives the partner's running SYSTEM version. -/
  | info (src : Nat) (frame : List Byte)
  /-- ACTIVATE (R434): Starts a cluster handover, or on a pair member a reset or planned handover, into a VALID slot. -/
  | activate
  /-- READY (R434): The new cluster reports READY after booting. -/
  | ready
  /-- SWAP (R434): QMGR passes every engine queue pair's ownership to the new cluster at one FAB cycle. -/
  | swap
  /-- COMMIT (R437): TRIAL becomes RUNNING, the old slot FALLBACK, the floor rises and the old cluster is held in reset. -/
  | commit
  /-- ROLLBACK (R436): Returns ownership and firmware to the old images and marks the slot BAD. -/
  | rollback
  /-- HOLD_WINDOW_OPEN (R435): The window's conditions hold and SP switches to the new safety firmware with HOLD_WIN set. -/
  | holdWindowOpen
  /-- HOLD_WINDOW_END (R435): The new firmware has checked the set and evaluated the held sweeps, and HOLD_WIN clears. -/
  | holdWindowEnd
  /-- HOLD_WINDOW_REVERT (R435): A failed check, 38 ms, a trip or a power-fail makes SP resume the old firmware and roll back. -/
  | holdWindowRevert
  /-- HANDOVER_TIMEOUT (R434): BOOT_S, XFER_S, HOLD_WAIT_S or CONFIRM_S runs out, causing an abort or a rollback. -/
  | handoverTimeout
  /-- PEER_QUERY_TIMEOUT (R438): No INFO within 1 s and ACTIVATE completes with NO_PEER. -/
  | peerQueryTimeout
  /-- RECORD_ENTRY (R443): A happening enters REC, is rate-limited, stamped and buffered, possibly triggering a flush. -/
  | recordEntry (src code level inst arg0 arg1 : Nat)
  /-- REC_FLUSH_TIMER (R447): FLUSH_S passes since the oldest waiting record and the buffer is written to STOR. -/
  | recFlushTimer
  /-- REC_WRITE_DONE (R447): STOR completes a recorder write and STORED_SEQ advances. -/
  | recWriteDone
  /-- TIME_MARK (R446): Every 3,600 s of OT with plant time acquired, REC writes a TIME_MARK. -/
  | timeMark
  /-- READ (R451): Copies records by sequence number into the buffer; `bad` gives the SEQs whose records the copy finds damaged. -/
  | read (bad : List Nat)
  /-- LOG (R454): Makes a host-coded record. -/
  | log
  /-- SYNC (R454): Completes once the buffer is durable. -/
  | sync
  /-- CLEAR_NONCE (R452): Issues an 8-byte clearing nonce. -/
  | clearNonce
  /-- CLEAR (R453): Checks a clearing token and discards records below UPTO. -/
  | clear
  /-- CLEAR_NONCE_LAPSE (R452): An unused clearing nonce lapses after 300 s. -/
  | clearNonceLapse
  /-- GET_CERT (R469): Writes the unit certificate or the issuing CA certificate. -/
  | getCert
  /-- ATTEST (R469): Returns a signed attestation over a challenge. -/
  | attest
  /-- NONCE (R469): Issues an 8-byte nonce for a key record or session. -/
  | nonce
  /-- KEY_RECORD (R465): Checks an ENROL or REVOKE record and changes the key table. -/
  | keyRecord
  /-- KEY_LIST (R469): Writes the operator key table. -/
  | keyList
  /-- SESS_OPEN (R467): Opens a management session with a signed ECDH handshake. -/
  | sessOpen
  /-- SESS_IN (R468): Passes an AES-GCM protected message into a session. -/
  | sessIn
  /-- SESS_OUT (R468): Collects a protected message from a session when one is due. -/
  | sessOut
  /-- CLOSE (R468): Closes a management session. -/
  | close
  /-- KEY_NONCE_LAPSE (R465): An unused key-record nonce lapses after 300 s. -/
  | keyNonceLapse
  /-- SESSION_IDLE_TIMEOUT (R468): 600 s without a valid message closes a management session. -/
  | sessionIdleTimeout (n : Nat)
  /-- RNG_FAIL (R460): The entropy health tests fail and RNG_FAIL is set. -/
  | rngFail
  /-- THRESHOLD_EVENT (R495): A PERF counter passes THR and takes its IRQ, snapshot, record and reload actions. -/
  | thresholdEvent
  /-- COUNTER_WRAP (R492): VALUE wraps from 0xFFFF_FFFF to 0, HI increments and the WRAP bit is set. -/
  | counterWrap
  /-- PERIODIC_SNAPSHOT (R497): At each periodic PT instant a Clove snapshot of the masked counters is taken. -/
  | periodicSnapshot
  /-- SNAP (R497): Takes a Clove snapshot within 1 µs. -/
  | snap
  /-- PEPPER_FORCED_DISARM (R506): A class S condition ceasing, HOLDUP, WATCH, an update or the lock disarms slots within 1 µs. -/
  | pepperForcedDisarm
  /-- PEPPER_DUR_EXPIRY (R506): DUR_S after arming, the slot disarms. -/
  | pepperDurExpiry (k : Nat)
  /-- DOMAIN_NOT_OK (R485): A domain enters reset or loses DOM_OK and its crossings go to the two-flop path. -/
  | domainNotOk (dom : Nat)
  /-- CROSSING_RECOVERY (R486): 16 slow cycles after both domains are ready, the crossing returns to its mechanism and XRECOV_CNT rises. -/
  | crossingRecovery (dom n : Nat)
  /-- PARTNER_BEACON_TIMEOUT (R357): No partner Beacon for 10 ms clears PAIR_LINK and sets LONE, and the commanding unit takes its partner as in bypass and re-measures delays. -/
  | partnerBeaconTimeout (j5 ring : Bool)
  /-- KEEPER_ACK_TIMEOUT (R357): No Keeper ACK for 10 ms clears the KEEPER health bit and KEEPER_OK and sets RED.ERR.KEEPER_LOST. -/
  | keeperAckTimeout
  /-- PTP_GENERAL_MESSAGE (R392): A received Follow_Up or Announce is held for its Sync and given the residence, or forwarded, and delivered on QP37. -/
  | ptpGeneralMessage (portB : Bool) (msg : List Byte)
  /-- CAN_RECEIVE_ERROR (R414): An error or protocol exception in a frame the controller does not send is counted in ERRFRM_CNT or PXE_CNT, sets LEC, moves RXEC and may start bus integration. -/
  | canReceiveError (n : Nat) (r : CanRxErr)
  /-- BUS_INTEGRATION_END (R403): The controller sees 11 consecutive recessive bits while INTEGRATING and enters ERROR_ACTIVE. -/
  | busIntegrationEnd (n : Nat)
  /-- HALL_FAULT (R170): HALL_SIG leaves 0.25 to 4.75 V or HALL_REF leaves 2.3 to 2.7 V, so HALL_FAULT is set and I_HALL delivers the no-value code; it clears when both return. -/
  | hallFault (hallSig hallRef : Int)
  /-- SHUNT_COMMON_MODE_FAULT (R170): The shunt sense common mode leaves −2 to +2 V and HVM sets SHUNT_FAULT with the no-value code for I_SHUNT. -/
  | shuntCommonModeFault
  /-- VCOIL_RETURN (R45): VCOIL rises back to 8.0 V or above, so the DIAG condition clears in TRIP_ACTIVE and a reset edge can again be accepted. -/
  | vcoilReturn (now : SupplyIn)
  /-- DIE_TEMPERATURE_RELEASE (R70): The die cools below 110 °C and the held SYSTEM reset is released, so start-up begins. -/
  | dieTemperatureRelease (env : StartEnv)
  /-- TILE_STACK_RESET (R132): A tile's stack falls below 30 V and the tile is held in reset, which is equivalent to SLEEP with the Fog switch open. -/
  | tileStackReset (k : Nat)
  /-- INSULATION_SLOT_START (R173): With SLOTS above 1, plant time reaches the start of the module's slot and an insulation cycle begins with phase 0. -/
  | insulationSlotStart
  /-- CARRIER_VALLEY (R281): At each leg's carrier valley, new duties load, and legs with a cause other than the inhibit go to the off level. -/
  | carrierValley (leg : Nat) (ready : Bool)
  deriving DecidableEq, Repr

end Sys2Proof
end

