-- ==== Sys2Proof/Config.lean ====
section
/-! DEFINITION. What one unit fixes and the spec does not state, and the free values: constants without a body, so that
no proof can see what they are (logs 3, 7, 8). -/

namespace Sys2Proof.Config

/-- SYS.PART.HW_MAJOR (high byte) and HW_MINOR, fixed per unit (R121; log 7). -/
opaque hwRev : BitVec 16
/-- SYS.SERIAL, fixed per unit (R121; log 7). -/
opaque serial : BitVec 64
/-- ETH.MAC, fixed per unit (R400; log 7). -/
opaque mac : BitVec 48
/-- How many crossings return to their own mechanism at a reset, fixed for a hardware revision (R486; log 7): every
crossing of the module, and those with an end in the SAFE domain. -/
opaque crossingsAll : BitVec 32
opaque crossingsSafe : BitVec 32

/-- The share of the wear reserve used once so many bytes have been written, in % (R77; log 7). -/
opaque wearOf : Nat → Nat

/-- LEAD under PAUSE in units of 10 ns, beyond the 45 µs that R157 asks for at least (R188; log 7). -/
opaque armLead : Nat

/-- The free values: the n-th value that the spec leaves open (log 3). -/
opaque freeValue : Nat → BitVec 64

/-- SHA-256 of a byte string, 32 bytes (R427, R453; log 8). -/
opaque sha256 : List Byte → BitVec 256
/-- HMAC-SHA-256 under IDK's storage key (R466; log 8). -/
opaque hmacStorage : List Byte → BitVec 256
/-- ECDSA P-256 verification: public key (X then Y), message, signature (R453, R463; log 8). -/
opaque ecdsaOk : List Byte → List Byte → List Byte → Bool
/-- Whether X then Y is a valid point on P-256 (R465; log 8). -/
opaque pointOk : List Byte → Bool
/-- The unit key's ECDSA signature of a message, 64 bytes (R458; log 8). -/
opaque unitSign : List Byte → BitVec 512
/-- The public key of release key n (1 to 4), X then Y (R461; log 7). -/
opaque releaseKey : Nat → BitVec 512
/-- The unit certificate and the issuing CA's certificate (R459; log 7). -/
opaque unitCert : BitVec 8192
opaque caCert : BitVec 8192
/-- Their lengths, at most 1,024 bytes (R459; log 7). -/
opaque unitCertLen : Nat
opaque caCertLen : Nat
/-- The CRC of the boot record, whose layout is not stated: of the slots' states, the floors and the trial count (R469; log 8). -/
opaque bootCrc : List Nat → BitVec 32
/-- A value of the CTR_DRBG (R460): the n-th 64-bit draw (log 8). -/
opaque drbg : Nat → BitVec 64
/-- The two AES-128 keys of a management session from its handshake (R467; log 8). -/
opaque sessionKeys : List Byte → BitVec 256
/-- The ephemeral public key IDK makes for the n-th draw, X then Y (R467; log 8). -/
opaque ephemeralKey : Nat → BitVec 512
/-- AES-128-GCM: opening a message (key, IV, ciphertext with tag), none where the tag fails (R468; log 8). -/
opaque gcmOpen : BitVec 128 → BitVec 96 → List Byte → Option (List Byte)
/-- AES-128-GCM: sealing a message (R468; log 8). -/
opaque gcmSeal : BitVec 128 → BitVec 96 → List Byte → List Byte

end Sys2Proof.Config
end

