-- ==== Sys2Proof/Machine/Bits.lean ====
section
/-! DEFINITION. Numbers, bit fields, bytes and check values: rounding and saturation (R14), two's complement (R13),
little-endian layout (R8), register fields (R9), sparse maps in one canonical form, and cyclic check values. -/

namespace Sys2Proof.Machine

/-! ### Rounding and saturation (R14) -/

/-- n ÷ d to the nearest integer, ties away from zero (R14); 0 when d is 0, which no caller passes. -/
def roundDiv (n d : Int) : Int :=
  if d = 0 then 0
  else
    let q : Int := ((2 * n.natAbs + d.natAbs) / (2 * d.natAbs) : Nat)
    if (n < 0) = (d < 0) then q else -q

/-- The same over natural numbers: n ÷ d to the nearest, a tie upwards (R14). -/
def roundNat (n d : Nat) : Nat := if d = 0 then 0 else (2 * n + d) / (2 * d)

/-- The nearest value of the range lo to hi (R14). -/
def clampInt (lo hi x : Int) : Int := if x < lo then lo else if hi < x then hi else x

/-- The same over natural numbers. -/
def clampNat (lo hi x : Nat) : Nat := if x < lo then lo else if hi < x then hi else x

/-- Saturation to an unsigned field of w bits (R14). -/
def satU (w : Nat) (x : Int) : Nat := (clampInt 0 (2 ^ w - 1) x).toNat

/-- Saturation to a two's-complement field of w bits (R14); `low` keeps the most negative code free where it is the
no-value code (R15). -/
def satS (w : Nat) (low : Int) (x : Int) : Int := clampInt low (2 ^ (w - 1) - 1) x

/-- A temperature in 0.01 °C, S16 whose code 0x8000 is never a value (R15). -/
def satTemp (x : Int) : Int := satS 16 (-32767) x

/-- A current in mA, S32 whose code 0x8000_0000 is never a value (R15). -/
def satMilli (x : Int) : Int := satS 32 (-2147483647) x

/-- A counter of w bits that wraps (R14). -/
def wrapInc (w : Nat) (x : Nat) : Nat := (x + 1) % 2 ^ w

/-- The two's-complement reading of a w-bit number (R13). -/
def sInt (w : Nat) (x : Nat) : Int := if 2 ^ (w - 1) ≤ x % 2 ^ w then (x % 2 ^ w : Int) - 2 ^ w else (x % 2 ^ w : Int)

/-- The w-bit two's-complement code of an integer (R13). -/
def sCode (w : Nat) (x : Int) : Nat := (x % (2 ^ w : Int)).toNat

/-! ### Bits of a number -/

/-- Bit i of x. -/
def bitOf (x i : Nat) : Bool := x.testBit i

/-- x with bit i set to b. -/
def setBit (x i : Nat) (b : Bool) : Nat :=
  if b then x ||| (1 <<< i) else if x.testBit i then x - (1 <<< i) else x

/-- Bits [hi:lo] of x. -/
def bits (x hi lo : Nat) : Nat := (x >>> lo) % 2 ^ (hi + 1 - lo)

/-- 1 for true, 0 for false. -/
def b2n (b : Bool) : Nat := if b then 1 else 0

/-- How many of the n lowest bits of x are set. -/
def popCount (n x : Nat) : Nat := ((List.range n).filter (fun i => x.testBit i)).length

/-- The mask of the positions of a list at which p holds, position 0 first. -/
def maskOf {α : Type} (p : α → Bool) (l : List α) : Nat :=
  (l.zipIdx).foldl (fun m xi => if p xi.1 then m ||| (1 <<< xi.2) else m) 0

/-! ### Register fields (R9) -/

/-- A field of a register: the register's address, the field's lowest bit and its width. -/
structure Fld where
  addr : Nat
  lo : Nat
  width : Nat
  deriving DecidableEq, Repr

/-- The value of a field in a word. -/
def fldGet (w : Word) (lo width : Nat) : Nat := (w.toNat >>> lo) % 2 ^ width

/-- The word with a field replaced; bits of v above the field are dropped. -/
def fldSet (w : Word) (lo width v : Nat) : Word :=
  (w &&& ~~~(BitVec.ofNat 32 ((2 ^ width - 1) <<< lo))) ||| BitVec.ofNat 32 ((v % 2 ^ width) <<< lo)

/-! ### Sparse maps: strictly rising keys, no entry equal to what its key reads as by default -/

/-- The value of a key: its entry, else its default. -/
def mapGet {α : Type} (dflt : Nat → α) : List (Nat × α) → Nat → α
  | [], a => dflt a
  | (k, v) :: t, a => if k = a then v else mapGet dflt t a

/-- The map with an entry for a key, in the key's place. -/
def mapPut {α : Type} : List (Nat × α) → Nat → α → List (Nat × α)
  | [], a, v => [(a, v)]
  | (k, x) :: t, a, v => if a < k then (a, v) :: (k, x) :: t else if k = a then (a, v) :: t else (k, x) :: mapPut t a v

/-- The map with a key's value replaced, in canonical form: a key that takes its default value leaves the map. -/
def mapSet {α : Type} [DecidableEq α] (dflt : Nat → α) (m : List (Nat × α)) (a : Nat) (v : α) : List (Nat × α) :=
  if v = dflt a then m.filter (fun e => decide (e.1 ≠ a)) else mapPut m a v

/-- Every key of the map lies above `lo`, keys strictly rise, and no entry is its key's default. -/
def mapWf {α : Type} [DecidableEq α] (dflt : Nat → α) : Option Nat → List (Nat × α) → Bool
  | _, [] => true
  | lo, (k, v) :: t => (match lo with | none => true | some l => decide (l < k)) && decide (v ≠ dflt k) && mapWf dflt (some k) t

/-- The map without the entries of keys from a to b (every key of the span reads as its default). -/
def mapClear {α : Type} (m : List (Nat × α)) (a b : Nat) : List (Nat × α) :=
  m.filter (fun e => decide (e.1 < a) || decide (b < e.1))

/-! ### Bytes, little-endian (R8, R83) -/

/-- The n bytes of a number, least significant first. -/
def leBytes (n v : Nat) : List Byte := (List.range n).map (fun i => BitVec.ofNat 8 (v >>> (8 * i)))

/-- The number that bytes hold, least significant first. -/
def leNat : List Byte → Nat
  | [] => 0
  | b :: t => b.toNat + 256 * leNat t

/-- The n-byte number at an offset of a byte string; bytes beyond its end read as 0. -/
def fieldAt (bs : List Byte) (ofs n : Nat) : Nat := leNat ((bs.drop ofs).take n)

/-- Bytes with those at an offset replaced, the length kept. -/
def patch (bs : List Byte) (ofs : Nat) (new : List Byte) : List Byte :=
  (bs.take ofs ++ new ++ bs.drop (ofs + new.length)).take bs.length

/-- n bytes of zero. -/
def zeros (n : Nat) : List Byte := List.replicate n 0

/-- Bytes cut or filled with zeros to n. -/
def padTo (n : Nat) (bs : List Byte) : List Byte := bs.take n ++ zeros (n - bs.length)

/-- Two's-complement field of n bytes. -/
def sBytes (n : Nat) (v : Int) : List Byte := leBytes n (sCode (8 * n) v)

/-! ### Check values: the parametrized cyclic code (R141, R325, R333, R472) -/

/-- The n lowest bits of x in reverse order. -/
def revBits (n x : Nat) : Nat := (List.range n).foldl (fun acc i => if x.testBit i then acc ||| (1 <<< (n - 1 - i)) else acc) 0

/-- One bit of a most-significant-first division by `poly`. -/
def crcBit (width poly reg : Nat) (b : Bool) : Nat :=
  let top := reg.testBit (width - 1)
  let sh := (reg <<< 1) % 2 ^ width
  if top != b then sh ^^^ poly else sh

/-- One byte, most significant bit first. -/
def crcByte (width poly reg byte : Nat) : Nat :=
  [7, 6, 5, 4, 3, 2, 1, 0].foldl (fun r i => crcBit width poly r (byte.testBit i)) reg

/-- The cyclic check value of a byte string with the parameters of R472. -/
def crcOf (width poly init : Nat) (refin refout : Bool) (xorout : Nat) (bs : List Byte) : Nat :=
  let r := bs.foldl (fun r b => crcByte width poly r (if refin then revBits 8 b.toNat else b.toNat)) (init % 2 ^ width)
  (if refout then revBits width r else r) ^^^ (xorout % 2 ^ width)

/-- CRC-32C: polynomial 0x1EDC_6F41, reflected, initial and final value all ones. -/
def crc32c (bs : List Byte) : Nat := crcOf 32 0x1EDC6F41 0xFFFFFFFF true true 0xFFFFFFFF bs

/-! ### Lists -/

/-- The list with element i replaced by its image; unchanged where it has no element i. -/
def modAt {α : Type} (l : List α) (i : Nat) (f : α → α) : List α := l.modify i f

/-- The elements whose position satisfies p, positions rising. -/
def pickIdx {α : Type} (l : List α) (p : Nat → Bool) : List α := ((l.zipIdx).filter (fun xi => p xi.2)).map Prod.fst

end Sys2Proof.Machine
end

