-- ==== Sys2Proof/Machine/Items.lean ====
section
/-! DEFINITION. The configuration items (R104): for each queue pair and item its size, its fields with their ranges and
defaults, whether it is lockable (R117) and its change class (R119), from the item tables of the chapters. -/

namespace Sys2Proof.Machine

/-- The change classes of R119; STAGED items come into force at a commit (R212, R245). -/
inductive Cls where
  | stat | boundary | live | staged
  deriving DecidableEq, Repr

/-- The range of a field: unsigned, two's complement, or binary32 of a kind. -/
inductive Rng where
  | u (lo hi : Nat) | s (lo hi : Int) | posF | nonnegF | finF | any
  deriving DecidableEq, Repr

/-- A field of an item: offset, bytes, range and default. -/
structure ItemFld where
  ofs : Nat
  n : Nat
  rng : Rng
  dflt : Int
  deriving DecidableEq, Repr

/-- A configuration item. `hasDflt` is false where the chapter gives no default, so that the item holds no value until
it is set (R104). -/
structure ItemDesc where
  size : Nat
  lockable : Bool
  cls : Cls
  hasDflt : Bool
  flds : List ItemFld
  deriving DecidableEq, Repr

/-- Whether a binary32 code is finite. -/
def f32Finite (x : Nat) : Bool := decide ((x >>> 23) % 256 ≠ 255)

/-- Whether a field's raw value lies in its range. -/
def inRng (n : Nat) (r : Rng) (x : Nat) : Bool :=
  match r with
  | .u lo hi => decide (lo ≤ x) && decide (x ≤ hi)
  | .s lo hi => decide (lo ≤ sInt (8 * n) x) && decide (sInt (8 * n) x ≤ hi)
  | .posF => f32Finite x && decide (x < 2 ^ 31) && decide (x ≠ 0)
  | .nonnegF => f32Finite x && (decide (x < 2 ^ 31) || decide (x = 2 ^ 31))
  | .finF => f32Finite x
  | .any => true

/-- The offset of the first field outside its range (ITEM_RANGE). -/
def firstBad (flds : List ItemFld) (bs : List Byte) : Option Nat :=
  (flds.find? (fun f => !inRng f.n f.rng (fieldAt bs f.ofs f.n))).map ItemFld.ofs

/-- An item's default contents. -/
def dfltBytes (d : ItemDesc) : List Byte :=
  d.flds.foldl (fun bs f => patch bs f.ofs (sBytes f.n f.dflt)) (zeros d.size)

/-- Unsigned field. -/
def fu (ofs n lo hi : Nat) (d : Nat) : ItemFld := ⟨ofs, n, .u lo hi, d⟩
/-- Signed field. -/
def fs (ofs n : Nat) (lo hi d : Int) : ItemFld := ⟨ofs, n, .s lo hi, d⟩
/-- A reserved field, 0. -/
def fz (ofs n : Nat) : ItemFld := ⟨ofs, n, .u 0 0, 0⟩
/-- A binary32 field with the code of its default. -/
def ff (ofs : Nat) (r : Rng) (d : Nat) : ItemFld := ⟨ofs, 4, r, d⟩

/-- CHAIN item 1 (R152); the set of a unit never configured is a -T24 (DESIGN CHOICE, log 6). -/
def itemChain : ItemDesc := ⟨4, true, .boundary, true, [fu 0 4 0 0xFFFFFFFF 24]⟩

/-- REC items 1 and 2 (R455). -/
def itemRec1 : ItemDesc := ⟨8, true, .live, true, [fu 0 2 1 3600 60, fu 2 2 1 4096 128, fu 4 1 0 3 2, fz 5 3]⟩
def itemRec2 : ItemDesc := ⟨516, true, .live, true, fu 0 1 0 64 0 :: fz 1 3 :: []⟩

/-- UPD item 1 on QP4 (R432) and on QP5 (R440). -/
def itemUpd4 : ItemDesc := ⟨8, true, .live, true, [fu 0 1 0 1 0, fu 1 1 1 4 4, fu 2 2 0 0xFFFF 0xFFFF, fu 4 1 0 1 1, fz 5 3]⟩
def itemUpd5 : ItemDesc := ⟨8, true, .live, true, [fu 0 2 5 600 60, fu 2 2 1 600 30, fu 4 2 10 3600 300, fu 6 2 1 600 60]⟩

/-- MEAS item 1 (R177). -/
def itemMeas : ItemDesc := ⟨16, true, .boundary, true, [fu 0 2 1 400 40, fu 2 1 0 1 1, fu 3 1 0 1 1, fu 4 1 10 255 40, fz 5 11]⟩

/-- The quarter in force on QP8 to QP11 (R176), which only GET_CONFIG reads. -/
def itemQuarter : ItemDesc := ⟨512, false, .live, true, []⟩

/-- HVM items 1 and 2 (R179). -/
def itemHvm1 : ItemDesc := ⟨20, true, .boundary, true,
  [fu 0 4 23750 26250 25000, fu 4 1 0 1 0, fu 5 1 0 1 0, fu 6 2 1 1000 10, ⟨8, 4, .any, 0⟩, ⟨12, 4, .any, 0⟩, fz 16 4]⟩
def itemHvm2 : ItemDesc := ⟨8, true, .boundary, true,
  [fu 0 1 0 1 1, fu 1 1 1 64 1, ⟨2, 1, .any, 0⟩, ⟨3, 1, .any, 0⟩, fu 4 2 2000 8000 2000, fz 6 2]⟩

/-- BAL item 1 (R200). -/
def itemBal : ItemDesc := ⟨8, true, .boundary, true, [fu 0 1 0 1 1, fz 1 1, fu 2 2 200 1500 500, fu 4 2 100 5000 2000, fz 6 2]⟩

/-- EST items 1 to 5 (R212, R226). -/
def itemEst1 : ItemDesc := ⟨32, true, .boundary, true,
  [fu 0 4 100 100000 2000, fu 4 2 60 7200 1800, fu 6 2 60 43200 1800, fu 8 2 0 600 20, fu 10 2 1 200 15, fu 12 2 250 10000 1000,
   fu 14 2 1000 25000 7500, fu 16 1 1 100 10, fu 17 1 0 50 20, fu 18 2 10 3600 600, fu 20 4 1000 2000000 20000,
   fu 24 2 0 1440 10, fz 26 6]⟩
def itemEst2 : ItemDesc := ⟨48, true, .staged, false,
  [fu 0 4 1 4000000 0, fu 4 2 9000 10000 0, fs 6 2 (-4000) 12000 0, fu 8 4 0 5000000 0, fu 12 4 0 5000000 0, fu 16 2 0 50000 0,
   fu 18 2 0 50000 0, fu 20 2 1 65535 0, fu 22 2 1 65535 0, fu 40 1 2 8 0, fz 41 7]⟩
def itemEst3 : ItemDesc := ⟨1312, true, .staged, false, []⟩
def itemEst4 : ItemDesc := ⟨1760, true, .staged, false, []⟩
def itemEst5 : ItemDesc := ⟨32, true, .boundary, true,
  [ff 0 .posF 0x2EDBE6FF, ff 4 .posF 0x322BCC77, ff 8 .posF 0x38D1B717, ff 12 .posF 0x358637BD, ff 16 .posF 0x38D1B717,
   ff 20 .nonnegF 0x3A03126F, ff 24 .posF 0x3DCCCCCD, ff 28 .posF 0x40A00000]⟩

/-- EIS items 1 to 3 (R230, R240, R246). -/
def itemEis1 : ItemDesc := ⟨32, true, .boundary, true,
  [fu 0 1 0 2 1, ⟨1, 1, .any, 0xFF⟩, fu 2 1 2 64 6, fu 3 1 1 50 10, fu 4 4 1000 2000000 1000000, fu 8 2 5 50 20, fu 10 2 1 65535 200,
   fu 12 2 32768 65535 62258, fu 14 2 10 2000 300, fu 16 2 1 3600 60, fu 18 2 0 1440 60, fu 20 1 0 1 1, fz 21 11]⟩
def itemEis2 : ItemDesc := ⟨80, true, .staged, false, [fu 0 4 1 0xFFFFFFFF 0, fu 4 4 64 262144 0, fu 8 1 1 16 0, fz 9 7]⟩
def itemEis3 : ItemDesc := ⟨360, true, .staged, false, [fu 0 4 50 1000000 0, fu 4 1 2 16 0, fz 5 1, fu 6 2 0 1000 0]⟩

/-- THERM items 1 to 3 (R266 to R268). -/
def itemTherm1 : ItemDesc := ⟨48, true, .boundary, true,
  [fu 0 1 0 1 1, fu 1 1 0 50 20, fu 2 2 0 1000 200, fu 4 2 1 3600 60, fs 6 2 (-4000) 15000 6000, fu 8 2 0 2000 300,
   fu 10 2 200 5000 1500, fu 12 2 0 3000 500, fu 14 2 50 1000 200, ⟨16, 2, .any, 5000⟩, ⟨18, 2, .any, 500⟩, fu 20 2 0 1000 300,
   fu 22 2 10 2000 500, fu 24 4 0 2000000 0, fu 28 4 0 2000000 0, fu 32 4 1000 2000000 50000, fu 36 2 0 1000 500,
   fs 38 2 0 15000 9000, fu 40 2 2000 5000 3435, fu 42 2 1000 60000 10000, fu 44 1 1 100 10, fz 45 3]⟩
def itemTherm2 : ItemDesc := ⟨104, true, .boundary, false, fu 0 1 2 8 0 :: fz 1 7 :: []⟩
def itemTherm3 : ItemDesc := ⟨64, true, .stat, true,
  ([0, 1, 2, 3].map (fun a => [fu (16 * a) 1 0 2 0, fu (16 * a + 1) 1 1 7 1, fu (16 * a + 2) 2 0 10000 0,
     (if a = 3 then ⟨16 * a + 4, 2, .any, 25000⟩ else fu (16 * a + 4) 2 100 25000 25000), fu (16 * a + 6) 1 0 1 0,
     fu (16 * a + 7) 1 0 1 0, (if a = 3 then ⟨16 * a + 8, 1, .any, 2⟩ else fu (16 * a + 8) 1 1 8 2), fz (16 * a + 9) 1,
     fu (16 * a + 10) 2 0 30000 0, fu (16 * a + 12) 2 0 10000 3000, fz (16 * a + 14) 2])).flatten⟩

/-- CTRL items 1 to 5 (R298). -/
def itemCtrl1 (lc : Nat) : ItemDesc := ⟨40, true, .stat, true,
  [fs 0 4 1 2147483647 50000, fu 4 2 0 65535 (if lc = 0 then 50 else 0), fu 6 2 0 65535 50, fs 8 4 1 2147483647 20000,
   fs 12 4 1 2147483647 100000, fu 16 2 0 65535 250, fz 18 2, ff 20 .finF 0, ff 24 .nonnegF 0x3F800000, ⟨28, 4, .any, 0⟩,
   fu 32 4 (if lc = 0 then 2000000 else 1) 0xFFFFFFFF 2000000, fz 36 4]⟩
def itemCtrl2 (lc : Nat) : ItemDesc :=
  if lc = 0 then ⟨192, true, .stat, false, [fu 0 1 2 4 0, fz 1 3]⟩ else ⟨76, true, .stat, false, [fu 0 1 2 9 0, fz 1 3]⟩
def itemCtrl3 : ItemDesc := ⟨76, true, .stat, false, [fu 0 1 2 9 0, fz 1 3]⟩
def itemCtrl4 : ItemDesc := ⟨20, true, .stat, false, [⟨0, 4, .any, 0⟩, ⟨4, 4, .any, 0⟩, ⟨8, 4, .any, 0⟩, ff 12 .finF 0, fu 16 1 0 1 0, fz 17 3]⟩
def itemCtrl5 : ItemDesc := ⟨8, true, .live, true, [⟨0, 4, .any, 10000⟩, fu 4 2 1 500 20, fz 6 2]⟩

/-- An STL session entry (R347). -/
def itemStl : ItemDesc := ⟨48, false, .stat, true,
  [fu 0 1 0 5 0, fu 1 1 0 1 0, fu 2 1 0 1 1, fu 3 1 0 1 0, ⟨4, 4, .any, 0⟩, ⟨8, 4, .any, 0⟩, fu 12 2 0 16383 0, fu 14 2 8 256 8,
   ⟨16, 4, .any, 10000⟩, fu 20 4 0 10000000 50000, fu 24 4 100 1000000 20000, ⟨28, 4, .any, 0⟩, ⟨32, 4, .any, 0⟩, fu 36 1 0 127 0,
   fu 37 1 0 127 0, fu 38 1 1 255 4, fu 39 1 1 255 10, fu 40 1 0 1 1, fz 41 7]⟩

/-- RED items 1 to 3 (R372). -/
def itemRed1 : ItemDesc := ⟨16, true, .boundary, true,
  [fu 0 1 0 1 0, fu 1 1 0 1 0, ⟨2, 2, .any, 0⟩, fu 4 2 0 16383 0, fu 6 2 0 16383 0, fu 8 1 0 1 0, fz 9 1, fu 10 2 100 5000 500, fz 12 4]⟩
def itemRed2 : ItemDesc := ⟨132, true, .stat, true, fu 0 1 0 16 0 :: fz 1 3 :: []⟩
def itemRed3 : ItemDesc := ⟨8, true, .live, true, [fu 0 1 0 1 1, fz 1 1, fu 2 2 10 3600 60, fu 4 2 100 10000 1000, fu 6 2 0 0x1FFF 0x1FFF]⟩

/-- ETH items 1 to 3 (R397). -/
def itemEth1 : ItemDesc := ⟨16, true, .stat, true,
  [fu 0 2 0 16383 0, fu 2 1 2 64 64, ⟨3, 1, .any, 0xFF⟩, fu 4 2 1 4094 1, fu 6 2 0 1000 400, fu 8 2 0 1000 200, fz 10 6]⟩
def itemEthPort (p : Nat) : ItemDesc := ⟨8, true, .stat, true, [fu 0 1 0 1 p, fu 1 1 0 1 1, fz 2 6]⟩

/-- PTP items 1 to 3 (R399). -/
def itemPtpDom (d : Nat) : ItemDesc := ⟨8, true, .stat, true, [fu 0 1 0 1 0, fu 1 1 0 127 d, fu 2 1 0 1 1, fz 3 1, fu 4 2 500 60000 3000, fz 6 2]⟩
def itemPtp3 : ItemDesc := ⟨8, true, .live, true, [fu 0 1 0 1 1, fu 1 1 0 1 0, fu 2 2 1 500 100, fz 4 4]⟩

/-- CAN item 1 (R420) and object items 0x100 + k (R408). -/
def itemCan1 : ItemDesc := ⟨32, true, .stat, true,
  [fu 0 1 0 2 0, fu 1 1 0 1 1, fu 2 1 0 1 1, fu 3 1 0 1 1, fu 4 2 1 256 1, fu 6 2 2 256 63, fu 8 1 1 128 16, fu 9 1 1 128 16,
   fu 10 1 1 32 1, fu 11 1 1 32 7, fu 12 1 1 16 2, fu 13 1 1 16 2, fu 14 1 0 1 1, fu 15 1 0 127 8, fu 16 1 0 127 0, fu 17 1 1 255 16,
   fu 18 2 0 10000 100, fz 20 12]⟩
def itemCanObj : ItemDesc := ⟨16, true, .boundary, true,
  [fu 0 1 0 3 0, fu 1 1 0 63 0, fu 2 1 0 15 0, fz 3 1, fu 4 4 0 0x1FFFFFFF 0, fu 8 4 0 0x1FFFFFFF 0x1FFFFFFF, fz 12 4]⟩

/-- PERF item 1 (R499). -/
def itemPerf : ItemDesc := ⟨8, true, .live, true, [fu 0 4 100 3600000000 1000000, ⟨4, 2, .any, 0⟩, fz 6 2]⟩

/-- The item with a number (ARG0) on a queue pair: none where its chapter defines none (R104). -/
def itemDesc (qp arg0 : Nat) : Option ItemDesc :=
  match qp, arg0 with
  | 2, 1 => some itemRec1 | 2, 2 => some itemRec2
  | 4, 1 => some itemUpd4 | 5, 1 => some itemUpd5
  | 7, 1 => some itemMeas
  | 8, 1 => some itemQuarter | 9, 1 => some itemQuarter | 10, 1 => some itemQuarter | 11, 1 => some itemQuarter
  | 12, 1 => some itemChain
  | 13, 1 => some itemHvm1 | 13, 2 => some itemHvm2
  | 14, 1 => some itemBal
  | 15, 1 => some itemEst1 | 15, 2 => some itemEst2 | 15, 3 => some itemEst3 | 15, 4 => some itemEst4 | 15, 5 => some itemEst5
  | 18, 1 => some itemEis1 | 18, 2 => some itemEis2 | 18, 3 => some itemEis3
  | 20, 1 => some itemTherm1 | 20, 2 => some itemTherm2 | 20, 3 => some itemTherm3
  | 31, a => if a % 256 = 1 ∧ a < 65536 then some itemStl else none
  | 32, 1 => some itemRed1 | 32, 2 => some itemRed2 | 32, 3 => some itemRed3
  | 36, 1 => some itemEth1 | 36, 2 => some (itemEthPort 0) | 36, 3 => some (itemEthPort 1)
  | 37, 1 => some (itemPtpDom 0) | 37, 2 => some (itemPtpDom 1) | 37, 3 => some itemPtp3
  | 42, 1 => some itemPerf
  | q, a =>
    if 21 ≤ q ∧ q ≤ 28 then
      match a with
      | 1 => some (itemCtrl1 (q - 21))
      | 2 => some (itemCtrl2 (q - 21))
      | 3 => if q = 21 then some itemCtrl3 else none
      | 4 => if q = 21 then some itemCtrl4 else none
      | 5 => if q = 21 then some itemCtrl5 else none
      | _ => none
    else if 38 ≤ q ∧ q ≤ 40 then
      (if a = 1 then some itemCan1 else if 0x100 ≤ a ∧ a < 0x180 then some itemCanObj else none)
    else none

/-- The key of an item in the configuration maps. -/
def itemKey (qp arg0 : Nat) : Nat := qp * 65536 + arg0

/-- What an item holds where nothing was ever set: its default, or nothing. -/
def itemDflt (key : Nat) : List Byte :=
  match itemDesc (key / 65536) (key % 65536) with
  | some d => if d.hasDflt then dfltBytes d else []
  | none => []

end Sys2Proof.Machine
end

