-- ==== Sys2Proof/Machine/RegTable.lean ====
section
/-! DEFINITION. The register map of the set-up window, written from the register tables of the spec: for each
register its address, for each field its address, lowest bit and width (R8, R109; the rule of each table stands
beside it), and for each block the rows that say which bits are RW, W1C or WO, the value after reset, and
whether the register is lockable (R9, R11, R117). -/

namespace Sys2Proof.Machine.R

/-! ### STOR (R77) -/

/-- STOR_STATUS, R77. -/
def STOR_STATUS : Nat := 0x10170000
def STOR_STATUS_READY : Fld := ⟨STOR_STATUS, 0, 1⟩ -- RO, reset 0
def STOR_STATUS_WR_INHIBIT : Fld := ⟨STOR_STATUS, 1, 1⟩ -- RO, reset 0
def STOR_STATUS_LAST_FLUSH_OK : Fld := ⟨STOR_STATUS, 2, 1⟩ -- RO, reset Stored value
def STOR_STATUS_CFG_COPY : Fld := ⟨STOR_STATUS, 3, 1⟩ -- RO, reset 0
def STOR_STATUS_CFG_NONE : Fld := ⟨STOR_STATUS, 4, 1⟩ -- RO, reset 0
def STOR_STATUS_WEAR : Fld := ⟨STOR_STATUS, 8, 8⟩ -- RO, reset Stored value
/-- STOR_ERR, R77. -/
def STOR_ERR : Nat := 0x10170004
def STOR_ERR_IMG_UE : Fld := ⟨STOR_ERR, 0, 1⟩ -- W1C, reset 0
def STOR_ERR_REC_UE : Fld := ⟨STOR_ERR, 1, 1⟩ -- W1C, reset 0
def STOR_ERR_HIST_UE : Fld := ⟨STOR_ERR, 2, 1⟩ -- W1C, reset 0
def STOR_ERR_CFG_UE : Fld := ⟨STOR_ERR, 3, 1⟩ -- W1C, reset 0
def STOR_ERR_CFG_NONE : Fld := ⟨STOR_ERR, 4, 1⟩ -- W1C, reset 0
/-- STOR_WR_KIB_LO, R77. -/
def STOR_WR_KIB_LO : Nat := 0x10170008
def STOR_WR_KIB_LO_WR_KIB : Fld := ⟨STOR_WR_KIB_LO, 0, 32⟩ -- RO, reset Stored value
/-- STOR_WR_KIB_HI, R77. -/
def STOR_WR_KIB_HI : Nat := 0x1017000C
def STOR_WR_KIB_HI_WR_KIB : Fld := ⟨STOR_WR_KIB_HI, 0, 32⟩ -- RO, reset Stored value
/-! ### QMGR (R106) -/

/-- QMGR_GSTATUS, R106. -/
def QMGR_GSTATUS : Nat := 0x10010000
def QMGR_GSTATUS_READY : Fld := ⟨QMGR_GSTATUS, 0, 1⟩ -- RO, reset 0
/-- QMGR_OWNER0, R106. -/
def QMGR_OWNER0 : Nat := 0x10010004
def QMGR_OWNER0_OWNER : Fld := ⟨QMGR_OWNER0, 0, 32⟩ -- RO, reset 0
/-- QMGR_OWNER1, R106. -/
def QMGR_OWNER1 : Nat := 0x10010008
def QMGR_OWNER1_OWNER : Fld := ⟨QMGR_OWNER1, 0, 14⟩ -- RO, reset 0x2000
/-- QMGR_ERRPEND0, R106. -/
def QMGR_ERRPEND0 : Nat := 0x1001000C
def QMGR_ERRPEND0_PEND : Fld := ⟨QMGR_ERRPEND0, 0, 32⟩ -- W1C, reset 0
/-- QMGR_ERRPEND1, R106. -/
def QMGR_ERRPEND1 : Nat := 0x10010010
def QMGR_ERRPEND1_PEND : Fld := ⟨QMGR_ERRPEND1, 0, 14⟩ -- W1C, reset 0
/-- QMGR_IRQPEND0, R106. -/
def QMGR_IRQPEND0 : Nat := 0x10010014
def QMGR_IRQPEND0_PEND : Fld := ⟨QMGR_IRQPEND0, 0, 32⟩ -- W1C, reset 0
/-- QMGR_IRQPEND1, R106. -/
def QMGR_IRQPEND1 : Nat := 0x10010018
def QMGR_IRQPEND1_PEND : Fld := ⟨QMGR_IRQPEND1, 0, 14⟩ -- W1C, reset 0
/-- QMGR_DB_FOREIGN_CNT, R106. -/
def QMGR_DB_FOREIGN_CNT : Nat := 0x1001001C
def QMGR_DB_FOREIGN_CNT_COUNT : Fld := ⟨QMGR_DB_FOREIGN_CNT, 0, 32⟩ -- RO, reset 0
/-- QP_SQ_BASE_LO, R107. -/
def QP_SQ_BASE_LO (n : Nat) : Nat := 0x10010100 + 0x40 * n
def QP_SQ_BASE_LO_SQ_BASE (n : Nat) : Fld := ⟨QP_SQ_BASE_LO n, 0, 32⟩ -- RW, reset 0
/-- QP_SQ_BASE_HI, R107. -/
def QP_SQ_BASE_HI (n : Nat) : Nat := 0x10010104 + 0x40 * n
def QP_SQ_BASE_HI_SQ_BASE (n : Nat) : Fld := ⟨QP_SQ_BASE_HI n, 0, 32⟩ -- RW, reset 0
/-- QP_CQ_BASE_LO, R107. -/
def QP_CQ_BASE_LO (n : Nat) : Nat := 0x10010108 + 0x40 * n
def QP_CQ_BASE_LO_CQ_BASE (n : Nat) : Fld := ⟨QP_CQ_BASE_LO n, 0, 32⟩ -- RW, reset 0
/-- QP_CQ_BASE_HI, R107. -/
def QP_CQ_BASE_HI (n : Nat) : Nat := 0x1001010C + 0x40 * n
def QP_CQ_BASE_HI_CQ_BASE (n : Nat) : Fld := ⟨QP_CQ_BASE_HI n, 0, 32⟩ -- RW, reset 0
/-- QP_CFG, R107. -/
def QP_CFG (n : Nat) : Nat := 0x10010110 + 0x40 * n
def QP_CFG_SQ_LOG2 (n : Nat) : Fld := ⟨QP_CFG n, 0, 4⟩ -- RW, reset 4
def QP_CFG_CQ_LOG2 (n : Nat) : Fld := ⟨QP_CFG n, 4, 4⟩ -- RW, reset 4
def QP_CFG_IRQ_EN (n : Nat) : Fld := ⟨QP_CFG n, 8, 1⟩ -- RW, reset 0
def QP_CFG_COAL_LOG2 (n : Nat) : Fld := ⟨QP_CFG n, 12, 4⟩ -- RW, reset 0
def QP_CFG_COAL_US (n : Nat) : Fld := ⟨QP_CFG n, 16, 12⟩ -- RW, reset 0
/-- QP_CTRL, R107. -/
def QP_CTRL (n : Nat) : Nat := 0x10010114 + 0x40 * n
def QP_CTRL_ENABLE (n : Nat) : Fld := ⟨QP_CTRL n, 0, 1⟩ -- RW, reset 0
/-- QP_STATUS, R107. -/
def QP_STATUS (n : Nat) : Nat := 0x10010118 + 0x40 * n
def QP_STATUS_SQ_HEAD (n : Nat) : Fld := ⟨QP_STATUS n, 0, 12⟩ -- RO, reset 0
def QP_STATUS_CQ_TAIL (n : Nat) : Fld := ⟨QP_STATUS n, 16, 12⟩ -- RO, reset 0
def QP_STATUS_IDLE (n : Nat) : Fld := ⟨QP_STATUS n, 29, 1⟩ -- RO, reset 1
def QP_STATUS_CFG_ERR (n : Nat) : Fld := ⟨QP_STATUS n, 30, 1⟩ -- RO, reset 0
def QP_STATUS_STALLED (n : Nat) : Fld := ⟨QP_STATUS n, 31, 1⟩ -- RO, reset 0
/-- QP_DB_STATE, R107. -/
def QP_DB_STATE (n : Nat) : Nat := 0x1001011C + 0x40 * n
def QP_DB_STATE_SQ_TAIL (n : Nat) : Fld := ⟨QP_DB_STATE n, 0, 12⟩ -- RO, reset 0
def QP_DB_STATE_CQ_HEAD (n : Nat) : Fld := ⟨QP_DB_STATE n, 16, 12⟩ -- RO, reset 0
/-- QP_SEQ, R107. -/
def QP_SEQ (n : Nat) : Nat := 0x10010120 + 0x40 * n
def QP_SEQ_SEQ (n : Nat) : Fld := ⟨QP_SEQ n, 0, 32⟩ -- RO, reset 0
/-- QP_ERR_CNT, R107. -/
def QP_ERR_CNT (n : Nat) : Nat := 0x10010124 + 0x40 * n
def QP_ERR_CNT_COUNT (n : Nat) : Fld := ⟨QP_ERR_CNT n, 0, 32⟩ -- RO, reset 0
/-- QP_DB_REJ_CNT, R107. -/
def QP_DB_REJ_CNT (n : Nat) : Nat := 0x10010128 + 0x40 * n
def QP_DB_REJ_CNT_COUNT (n : Nat) : Fld := ⟨QP_DB_REJ_CNT n, 0, 32⟩ -- RO, reset 0
/-- QP_LAST_ERR, R107. -/
def QP_LAST_ERR (n : Nat) : Nat := 0x1001012C + 0x40 * n
def QP_LAST_ERR_TAG (n : Nat) : Fld := ⟨QP_LAST_ERR n, 0, 16⟩ -- RO, reset 0
def QP_LAST_ERR_OPC (n : Nat) : Fld := ⟨QP_LAST_ERR n, 16, 8⟩ -- RO, reset 0
def QP_LAST_ERR_STATUS (n : Nat) : Fld := ⟨QP_LAST_ERR n, 24, 7⟩ -- RO, reset 0
/-! ### SYS (R121) -/

/-- SYS_PART, R121. -/
def SYS_PART : Nat := 0x10000000
def SYS_PART_PART_CODE : Fld := ⟨SYS_PART, 0, 16⟩ -- RO, reset 0x7220
def SYS_PART_HW_MINOR : Fld := ⟨SYS_PART, 16, 8⟩ -- RO, reset Fixed
def SYS_PART_HW_MAJOR : Fld := ⟨SYS_PART, 24, 8⟩ -- RO, reset Fixed
/-- SYS_SERIAL_LO, R121. -/
def SYS_SERIAL_LO : Nat := 0x10000004
def SYS_SERIAL_LO_SERIAL : Fld := ⟨SYS_SERIAL_LO, 0, 32⟩ -- RO, reset Fixed
/-- SYS_SERIAL_HI, R121. -/
def SYS_SERIAL_HI : Nat := 0x10000008
def SYS_SERIAL_HI_SERIAL : Fld := ⟨SYS_SERIAL_HI, 0, 32⟩ -- RO, reset Fixed
/-- SYS_FW_VER_SP, R121. -/
def SYS_FW_VER_SP : Nat := 0x1000000C
def SYS_FW_VER_SP_BUILD : Fld := ⟨SYS_FW_VER_SP, 0, 16⟩ -- RO, reset 0
def SYS_FW_VER_SP_MINOR : Fld := ⟨SYS_FW_VER_SP, 16, 8⟩ -- RO, reset 0
def SYS_FW_VER_SP_MAJOR : Fld := ⟨SYS_FW_VER_SP, 24, 8⟩ -- RO, reset 0
/-- SYS_FW_VER_A, R121. -/
def SYS_FW_VER_A : Nat := 0x10000010
def SYS_FW_VER_A_VER : Fld := ⟨SYS_FW_VER_A, 0, 32⟩ -- RO, reset 0
/-- SYS_FW_VER_B, R121. -/
def SYS_FW_VER_B : Nat := 0x10000014
def SYS_FW_VER_B_VER : Fld := ⟨SYS_FW_VER_B, 0, 32⟩ -- RO, reset 0
/-- SYS_WHOAMI, R121. -/
def SYS_WHOAMI : Nat := 0x10000018
def SYS_WHOAMI_INITIATOR : Fld := ⟨SYS_WHOAMI, 0, 2⟩ -- RO, reset Per reader
def SYS_WHOAMI_MODE : Fld := ⟨SYS_WHOAMI, 2, 2⟩ -- RO, reset Per reader
/-- SYS_RESET_CAUSE, R121. -/
def SYS_RESET_CAUSE : Nat := 0x1000001C
def SYS_RESET_CAUSE_CAUSE : Fld := ⟨SYS_RESET_CAUSE, 0, 4⟩ -- RO, reset 0x0 (AON)
def SYS_RESET_CAUSE_UNCLEAN : Fld := ⟨SYS_RESET_CAUSE, 8, 1⟩ -- RO, reset Stored value
/-- SYS_RST_CNT, R121. -/
def SYS_RST_CNT : Nat := 0x10000020
def SYS_RST_CNT_SAFETY : Fld := ⟨SYS_RST_CNT, 0, 8⟩ -- RO, reset 0
def SYS_RST_CNT_APP_A : Fld := ⟨SYS_RST_CNT, 8, 8⟩ -- RO, reset 0
def SYS_RST_CNT_APP_B : Fld := ⟨SYS_RST_CNT, 16, 8⟩ -- RO, reset 0
/-- SYS_LOCK, R121. -/
def SYS_LOCK : Nat := 0x10000024
def SYS_LOCK_LOCKED : Fld := ⟨SYS_LOCK, 0, 25⟩ -- RO, reset 0
/-- SYS_LOCK_SET, R121. -/
def SYS_LOCK_SET : Nat := 0x10000028
def SYS_LOCK_SET_SET : Fld := ⟨SYS_LOCK_SET, 0, 25⟩ -- WO, reset 0
/-- SYS_OT_LO, R121. -/
def SYS_OT_LO : Nat := 0x1000002C
def SYS_OT_LO_OT48 : Fld := ⟨SYS_OT_LO, 0, 32⟩ -- RO, reset Stored value
/-- SYS_OT_HI, R121. -/
def SYS_OT_HI : Nat := 0x10000030
def SYS_OT_HI_OT48 : Fld := ⟨SYS_OT_HI, 0, 16⟩ -- RO, reset Stored value
/-- SYS_PC, R121. -/
def SYS_PC : Nat := 0x10000034
def SYS_PC_PC24 : Fld := ⟨SYS_PC, 0, 24⟩ -- RO, reset Stored value
/-! ### CLK (R122) -/

/-- CLK_STATUS, R122. -/
def CLK_STATUS : Nat := 0x10001000
def CLK_STATUS_DOM_OK : Fld := ⟨CLK_STATUS, 0, 12⟩ -- RO, reset 0
def CLK_STATUS_MAIN_OK : Fld := ⟨CLK_STATUS, 16, 1⟩ -- RO, reset 0
def CLK_STATUS_SP_OSC_OK : Fld := ⟨CLK_STATUS, 17, 1⟩ -- RO, reset 0
def CLK_STATUS_AON_OK : Fld := ⟨CLK_STATUS, 18, 1⟩ -- RO, reset 0
/-- CLK_MAIN_DEV, R122. -/
def CLK_MAIN_DEV : Nat := 0x10001004
def CLK_MAIN_DEV_DEV : Fld := ⟨CLK_MAIN_DEV, 0, 16⟩ -- RS, reset 0
/-- CLK_GATE, R122. -/
def CLK_GATE : Nat := 0x10001008
def CLK_GATE_CAN1_OFF : Fld := ⟨CLK_GATE, 0, 1⟩ -- RW, reset 0
def CLK_GATE_CAN2_OFF : Fld := ⟨CLK_GATE, 1, 1⟩ -- RW, reset 0
def CLK_GATE_ETHB_OFF : Fld := ⟨CLK_GATE, 2, 1⟩ -- RW, reset 0
def CLK_GATE_KEEP_OFF : Fld := ⟨CLK_GATE, 3, 1⟩ -- RW, reset 0
/-- CLK_APP_RATE, R122. -/
def CLK_APP_RATE : Nat := 0x1000100C
def CLK_APP_RATE_SLOW_A : Fld := ⟨CLK_APP_RATE, 0, 1⟩ -- RO, reset 0
def CLK_APP_RATE_SLOW_B : Fld := ⟨CLK_APP_RATE, 1, 1⟩ -- RO, reset 0
/-! ### PWR (R123) -/

/-- PWR_STATE, R123. -/
def PWR_STATE : Nat := 0x10002000
def PWR_STATE_STATE : Fld := ⟨PWR_STATE, 0, 3⟩ -- RO, reset 1
/-- PWR_RAIL, R123. -/
def PWR_RAIL : Nat := 0x10002004
def PWR_RAIL_LOGIC_MV : Fld := ⟨PWR_RAIL, 0, 16⟩ -- RS, reset 0
def PWR_RAIL_COIL_MV : Fld := ⟨PWR_RAIL, 16, 16⟩ -- RS, reset 0
/-- PWR_SRC, R123. -/
def PWR_SRC : Nat := 0x10002008
def PWR_SRC_VSUP_ON : Fld := ⟨PWR_SRC, 0, 1⟩ -- RO, reset 0
def PWR_SRC_VAUX_ON : Fld := ⟨PWR_SRC, 1, 1⟩ -- RO, reset 0
def PWR_SRC_AUX_FEEDS : Fld := ⟨PWR_SRC, 2, 1⟩ -- RO, reset 0
/-- PWR_EVT, R123. -/
def PWR_EVT : Nat := 0x1000200C
def PWR_EVT_LOW_WARN : Fld := ⟨PWR_EVT, 0, 1⟩ -- W1C, reset 0
def PWR_EVT_HIGH : Fld := ⟨PWR_EVT, 1, 1⟩ -- W1C, reset 0
def PWR_EVT_RIDE : Fld := ⟨PWR_EVT, 2, 1⟩ -- W1C, reset 0
def PWR_EVT_COIL_UV : Fld := ⟨PWR_EVT, 3, 1⟩ -- W1C, reset 0
def PWR_EVT_PEAK : Fld := ⟨PWR_EVT, 4, 1⟩ -- W1C, reset 0
/-- PWR_DIE_TEMP, R123. -/
def PWR_DIE_TEMP : Nat := 0x10002010
def PWR_DIE_TEMP_TEMP : Fld := ⟨PWR_DIE_TEMP, 0, 16⟩ -- RS, reset 0x8000
/-- PWR_DRAW, R123. -/
def PWR_DRAW : Nat := 0x10002014
def PWR_DRAW_DRAW_MW : Fld := ⟨PWR_DRAW, 0, 16⟩ -- RS, reset 0
def PWR_DRAW_ABOVE_S : Fld := ⟨PWR_DRAW, 16, 16⟩ -- RS, reset 0
/-- PWR_THROTTLE, R123. -/
def PWR_THROTTLE : Nat := 0x10002018
def PWR_THROTTLE_APPB_SLOW : Fld := ⟨PWR_THROTTLE, 0, 1⟩ -- RO, reset 0
def PWR_THROTTLE_STOR_PACED : Fld := ⟨PWR_THROTTLE, 1, 1⟩ -- RO, reset 0
/-- PWR_WAKE_CFG, R123. -/
def PWR_WAKE_CFG : Nat := 0x1000201C
def PWR_WAKE_CFG_TIMER_MIN : Fld := ⟨PWR_WAKE_CFG, 0, 16⟩ -- RW, reset 0
def PWR_WAKE_CFG_WAKE_EN : Fld := ⟨PWR_WAKE_CFG, 16, 1⟩ -- RW, reset 1
def PWR_WAKE_CFG_CAN0_EN : Fld := ⟨PWR_WAKE_CFG, 17, 1⟩ -- RW, reset 1
/-- PWR_WAKE_SRC, R123. -/
def PWR_WAKE_SRC : Nat := 0x10002020
def PWR_WAKE_SRC_SRC : Fld := ⟨PWR_WAKE_SRC, 0, 2⟩ -- RO, reset 0
/-! ### CHAIN (R150) -/

/-- CHAIN_CFG, R150. -/
def CHAIN_CFG : Nat := 0x10020000
def CHAIN_CFG_NN : Fld := ⟨CHAIN_CFG, 0, 5⟩ -- RO, reset Stored value
def CHAIN_CFG_PAIR : Fld := ⟨CHAIN_CFG, 8, 1⟩ -- RO, reset Stored value
def CHAIN_CFG_FAR_END : Fld := ⟨CHAIN_CFG, 9, 1⟩ -- RO, reset Stored value
/-- CHAIN_STATUS, R150. -/
def CHAIN_STATUS : Nat := 0x10020004
def CHAIN_STATUS_RUN : Fld := ⟨CHAIN_STATUS, 0, 1⟩ -- RO, reset 0
def CHAIN_STATUS_CMD : Fld := ⟨CHAIN_STATUS, 1, 1⟩ -- RO, reset 0
def CHAIN_STATUS_ENUM_DONE : Fld := ⟨CHAIN_STATUS, 2, 1⟩ -- RO, reset 0
def CHAIN_STATUS_DLY_VALID : Fld := ⟨CHAIN_STATUS, 3, 1⟩ -- RO, reset 0
def CHAIN_STATUS_RING_CLOSED : Fld := ⟨CHAIN_STATUS, 4, 1⟩ -- RO, reset 0
def CHAIN_STATUS_NN_MATCH : Fld := ⟨CHAIN_STATUS, 5, 1⟩ -- RO, reset 0
def CHAIN_STATUS_TWO_DIR : Fld := ⟨CHAIN_STATUS, 6, 1⟩ -- RO, reset 0
def CHAIN_STATUS_CNT_A : Fld := ⟨CHAIN_STATUS, 8, 5⟩ -- RO, reset 0
def CHAIN_STATUS_CNT_B : Fld := ⟨CHAIN_STATUS, 16, 5⟩ -- RO, reset 0
/-- CHAIN_BREAK, R150. -/
def CHAIN_BREAK : Nat := 0x10020008
def CHAIN_BREAK_HOP_A : Fld := ⟨CHAIN_BREAK, 0, 5⟩ -- RO, reset 0
def CHAIN_BREAK_A_VALID : Fld := ⟨CHAIN_BREAK, 5, 1⟩ -- RO, reset 0
def CHAIN_BREAK_HOP_B : Fld := ⟨CHAIN_BREAK, 8, 5⟩ -- RO, reset 0
def CHAIN_BREAK_B_VALID : Fld := ⟨CHAIN_BREAK, 13, 1⟩ -- RO, reset 0
def CHAIN_BREAK_SNUM : Fld := ⟨CHAIN_BREAK, 16, 16⟩ -- RO, reset 0
/-- CHAIN_MISSING, R150. -/
def CHAIN_MISSING : Nat := 0x1002000C
def CHAIN_MISSING_MASK : Fld := ⟨CHAIN_MISSING, 0, 24⟩ -- RO, reset 0
/-- CHAIN_ALIGN, R150. -/
def CHAIN_ALIGN : Nat := 0x10020010
def CHAIN_ALIGN_D_ALIGN_NS : Fld := ⟨CHAIN_ALIGN, 0, 16⟩ -- RO, reset 0
def CHAIN_ALIGN_ASYM_NS : Fld := ⟨CHAIN_ALIGN, 16, 16⟩ -- RO, reset 0
/-- CHAIN_RING_T, R150. -/
def CHAIN_RING_T : Nat := 0x10020014
def CHAIN_RING_T_T_AB_NS : Fld := ⟨CHAIN_RING_T, 0, 16⟩ -- RO, reset 0
def CHAIN_RING_T_T_BA_NS : Fld := ⟨CHAIN_RING_T, 16, 16⟩ -- RO, reset 0
/-- CHAIN_ERR, R150. -/
def CHAIN_ERR : Nat := 0x10020018
def CHAIN_ERR_SYNC_A : Fld := ⟨CHAIN_ERR, 0, 1⟩ -- W1C, reset 0
def CHAIN_ERR_SYNC_B : Fld := ⟨CHAIN_ERR, 1, 1⟩ -- W1C, reset 0
def CHAIN_ERR_HCRC : Fld := ⟨CHAIN_ERR, 2, 1⟩ -- W1C, reset 0
def CHAIN_ERR_SCRC : Fld := ⟨CHAIN_ERR, 3, 1⟩ -- W1C, reset 0
def CHAIN_ERR_NOT_HELD : Fld := ⟨CHAIN_ERR, 4, 1⟩ -- W1C, reset 0
def CHAIN_ERR_POS_MISMATCH : Fld := ⟨CHAIN_ERR, 5, 1⟩ -- W1C, reset 0
def CHAIN_ERR_TRIM_CHANGE : Fld := ⟨CHAIN_ERR, 6, 1⟩ -- W1C, reset 0
def CHAIN_ERR_ASYM : Fld := ⟨CHAIN_ERR, 7, 1⟩ -- W1C, reset 0
def CHAIN_ERR_TILE_LOST : Fld := ⟨CHAIN_ERR, 8, 1⟩ -- W1C, reset 0
def CHAIN_ERR_FLAGGED : Fld := ⟨CHAIN_ERR, 9, 1⟩ -- W1C, reset 0
/-- CHAIN_CODE_ERR_A, R150. -/
def CHAIN_CODE_ERR_A : Nat := 0x1002001C
def CHAIN_CODE_ERR_A_COUNT : Fld := ⟨CHAIN_CODE_ERR_A, 0, 32⟩ -- RO, reset 0
/-- CHAIN_CODE_ERR_B, R150. -/
def CHAIN_CODE_ERR_B : Nat := 0x10020020
def CHAIN_CODE_ERR_B_COUNT : Fld := ⟨CHAIN_CODE_ERR_B, 0, 32⟩ -- RO, reset 0
/-- CHAIN_SLOT_ERR_CNT, R150. -/
def CHAIN_SLOT_ERR_CNT : Nat := 0x10020024
def CHAIN_SLOT_ERR_CNT_COUNT : Fld := ⟨CHAIN_SLOT_ERR_CNT, 0, 32⟩ -- RO, reset 0
/-- CHAIN_REREAD_CNT, R150. -/
def CHAIN_REREAD_CNT : Nat := 0x10020028
def CHAIN_REREAD_CNT_COUNT : Fld := ⟨CHAIN_REREAD_CNT, 0, 32⟩ -- RO, reset 0
/-- CHAIN_FLAGGED_CNT, R150. -/
def CHAIN_FLAGGED_CNT : Nat := 0x1002002C
def CHAIN_FLAGGED_CNT_COUNT : Fld := ⟨CHAIN_FLAGGED_CNT, 0, 32⟩ -- RO, reset 0
/-- CHAIN_RPT_LOST, R150. -/
def CHAIN_RPT_LOST : Nat := 0x10020030
def CHAIN_RPT_LOST_COUNT : Fld := ⟨CHAIN_RPT_LOST, 0, 32⟩ -- RO, reset 0
/-- CHAIN_DLY, R150. -/
def CHAIN_DLY (k : Nat) : Nat := 0x10020040 + 0x4 * k
def CHAIN_DLY_DLY_A_NS (k : Nat) : Fld := ⟨CHAIN_DLY k, 0, 16⟩ -- RO, reset 0
def CHAIN_DLY_DLY_B_NS (k : Nat) : Fld := ⟨CHAIN_DLY k, 16, 16⟩ -- RO, reset 0
/-- CHAIN_TRIM, R150. -/
def CHAIN_TRIM (k : Nat) : Nat := 0x100200A0 + 0x4 * k
def CHAIN_TRIM_SIG (k : Nat) : Fld := ⟨CHAIN_TRIM k, 0, 32⟩ -- RO, reset Stored value
/-! ### MEAS (R178) -/

/-- MEAS_STATUS, R178. -/
def MEAS_STATUS : Nat := 0x10030000
def MEAS_STATUS_RUN : Fld := ⟨MEAS_STATUS, 0, 1⟩ -- RO, reset 0
def MEAS_STATUS_TABLE : Fld := ⟨MEAS_STATUS, 1, 1⟩ -- RO, reset 0
def MEAS_STATUS_BASE : Fld := ⟨MEAS_STATUS, 2, 1⟩ -- RO, reset 0
def MEAS_STATUS_CARRIER_ABSENT : Fld := ⟨MEAS_STATUS, 3, 1⟩ -- RO, reset 0
def MEAS_STATUS_PTP_UNACQ : Fld := ⟨MEAS_STATUS, 4, 1⟩ -- RO, reset 0
def MEAS_STATUS_PENDING : Fld := ⟨MEAS_STATUS, 5, 1⟩ -- RO, reset 0
def MEAS_STATUS_SHADOW : Fld := ⟨MEAS_STATUS, 6, 1⟩ -- RO, reset 0
/-- MEAS_SNUM, R178. -/
def MEAS_SNUM : Nat := 0x10030004
def MEAS_SNUM_SNUM : Fld := ⟨MEAS_SNUM, 0, 32⟩ -- RO, reset 0
/-- MEAS_LAST_T_LO, R178. -/
def MEAS_LAST_T_LO : Nat := 0x10030008
def MEAS_LAST_T_LO_T_INST : Fld := ⟨MEAS_LAST_T_LO, 0, 32⟩ -- RO, reset 0
/-- MEAS_LAST_T_HI, R178. -/
def MEAS_LAST_T_HI : Nat := 0x1003000C
def MEAS_LAST_T_HI_T_INST : Fld := ⟨MEAS_LAST_T_HI, 0, 32⟩ -- RO, reset 0
/-- MEAS_RATE, R178. -/
def MEAS_RATE : Nat := 0x10030010
def MEAS_RATE_SPS : Fld := ⟨MEAS_RATE, 0, 16⟩ -- RO, reset 0
/-- MEAS_SWEEP_LOST_CNT, R178. -/
def MEAS_SWEEP_LOST_CNT : Nat := 0x10030014
def MEAS_SWEEP_LOST_CNT_COUNT : Fld := ⟨MEAS_SWEEP_LOST_CNT, 0, 32⟩ -- RO, reset 0
/-- MEAS_SKIP_CNT, R178. -/
def MEAS_SKIP_CNT : Nat := 0x10030018
def MEAS_SKIP_CNT_COUNT : Fld := ⟨MEAS_SKIP_CNT, 0, 32⟩ -- RO, reset 0
/-- MEAS_ERR, R178. -/
def MEAS_ERR : Nat := 0x1003001C
def MEAS_ERR_TABLE_REJ : Fld := ⟨MEAS_ERR, 0, 1⟩ -- W1C, reset 0
def MEAS_ERR_OW_OPEN : Fld := ⟨MEAS_ERR, 1, 1⟩ -- W1C, reset 0
def MEAS_ERR_REF_FAIL : Fld := ⟨MEAS_ERR, 2, 1⟩ -- W1C, reset 0
def MEAS_ERR_CMP_FAIL : Fld := ⟨MEAS_ERR, 3, 1⟩ -- W1C, reset 0
def MEAS_ERR_CARRIER_LOST : Fld := ⟨MEAS_ERR, 4, 1⟩ -- W1C, reset 0
def MEAS_ERR_NOVAL : Fld := ⟨MEAS_ERR, 5, 1⟩ -- W1C, reset 0
/-! ### HVM (R181) -/

/-- HVM_STATUS, R181. -/
def HVM_STATUS : Nat := 0x10150000
def HVM_STATUS_RUN : Fld := ⟨HVM_STATUS, 0, 1⟩ -- RO, reset 0
def HVM_STATUS_ISO_ACTIVE : Fld := ⟨HVM_STATUS, 1, 1⟩ -- RO, reset 0
def HVM_STATUS_ISO_VALID : Fld := ⟨HVM_STATUS, 2, 1⟩ -- RO, reset 0
def HVM_STATUS_HALL_FAULT : Fld := ⟨HVM_STATUS, 3, 1⟩ -- RO, reset 0
def HVM_STATUS_SHUNT_FAULT : Fld := ⟨HVM_STATUS, 4, 1⟩ -- RO, reset 0
def HVM_STATUS_NO_SLOT : Fld := ⟨HVM_STATUS, 5, 1⟩ -- RO, reset 0
/-- HVM_V_STR, R181. -/
def HVM_V_STR : Nat := 0x10150004
def HVM_V_STR_MV : Fld := ⟨HVM_V_STR, 0, 32⟩ -- RS, reset 0
/-- HVM_V_LINK, R181. -/
def HVM_V_LINK : Nat := 0x10150008
def HVM_V_LINK_MV : Fld := ⟨HVM_V_LINK, 0, 32⟩ -- RS, reset 0
/-- HVM_V_PRE, R181. -/
def HVM_V_PRE : Nat := 0x1015000C
def HVM_V_PRE_MV : Fld := ⟨HVM_V_PRE, 0, 32⟩ -- RS, reset 0
/-- HVM_V_LINK_NEG, R181. -/
def HVM_V_LINK_NEG : Nat := 0x10150010
def HVM_V_LINK_NEG_MV : Fld := ⟨HVM_V_LINK_NEG, 0, 32⟩ -- RS, reset 0
/-- HVM_I_SHUNT, R181. -/
def HVM_I_SHUNT : Nat := 0x10150014
def HVM_I_SHUNT_MA : Fld := ⟨HVM_I_SHUNT, 0, 32⟩ -- RS, reset 0
/-- HVM_I_HALL, R181. -/
def HVM_I_HALL : Nat := 0x10150018
def HVM_I_HALL_MA : Fld := ⟨HVM_I_HALL, 0, 32⟩ -- RS, reset 0x8000_0000
/-- HVM_ISO_TOTAL, R181. -/
def HVM_ISO_TOTAL : Nat := 0x1015001C
def HVM_ISO_TOTAL_OHM : Fld := ⟨HVM_ISO_TOTAL, 0, 32⟩ -- RO, reset 0xFFFF_FFFF
/-- HVM_ISO_POS, R181. -/
def HVM_ISO_POS : Nat := 0x10150020
def HVM_ISO_POS_OHM : Fld := ⟨HVM_ISO_POS, 0, 32⟩ -- RO, reset 0xFFFF_FFFF
/-- HVM_ISO_NEG, R181. -/
def HVM_ISO_NEG : Nat := 0x10150024
def HVM_ISO_NEG_OHM : Fld := ⟨HVM_ISO_NEG, 0, 32⟩ -- RO, reset 0xFFFF_FFFF
/-- HVM_ISO_T_LO, R181. -/
def HVM_ISO_T_LO : Nat := 0x10150028
def HVM_ISO_T_LO_TIME : Fld := ⟨HVM_ISO_T_LO, 0, 32⟩ -- RO, reset 0
/-- HVM_ISO_T_HI, R181. -/
def HVM_ISO_T_HI : Nat := 0x1015002C
def HVM_ISO_T_HI_TIME : Fld := ⟨HVM_ISO_T_HI, 0, 32⟩ -- RO, reset 0
/-- HVM_OVR_CNT, R181. -/
def HVM_OVR_CNT : Nat := 0x10150030
def HVM_OVR_CNT_COUNT : Fld := ⟨HVM_OVR_CNT, 0, 32⟩ -- RO, reset 0
/-- HVM_ERR, R181. -/
def HVM_ERR : Nat := 0x10150034
def HVM_ERR_SHUNT : Fld := ⟨HVM_ERR, 0, 1⟩ -- W1C, reset 0
def HVM_ERR_HALL : Fld := ⟨HVM_ERR, 1, 1⟩ -- W1C, reset 0
def HVM_ERR_ISO_INVALID : Fld := ⟨HVM_ERR, 2, 1⟩ -- W1C, reset 0
def HVM_ERR_LOST : Fld := ⟨HVM_ERR, 3, 1⟩ -- W1C, reset 0
/-! ### BAL (R201) -/

/-- BAL_STATUS, R201. -/
def BAL_STATUS : Nat := 0x10040000
def BAL_STATUS_RUN : Fld := ⟨BAL_STATUS, 0, 1⟩ -- RO, reset 0
def BAL_STATUS_MODE : Fld := ⟨BAL_STATUS, 1, 1⟩ -- RO, reset 0
def BAL_STATUS_CAL_RUN : Fld := ⟨BAL_STATUS, 2, 1⟩ -- RO, reset 0
def BAL_STATUS_SHADOW : Fld := ⟨BAL_STATUS, 3, 1⟩ -- RO, reset 0
def BAL_STATUS_N_BLEED : Fld := ⟨BAL_STATUS, 16, 9⟩ -- RO, reset 0
/-- BAL_DERATED, R201. -/
def BAL_DERATED : Nat := 0x10040004
def BAL_DERATED_MASK : Fld := ⟨BAL_DERATED, 0, 24⟩ -- RO, reset 0
/-- BAL_HELD, R201. -/
def BAL_HELD : Nat := 0x10040008
def BAL_HELD_MASK : Fld := ⟨BAL_HELD, 0, 24⟩ -- RO, reset 0
/-- BAL_CAL_VALID, R201. -/
def BAL_CAL_VALID : Nat := 0x1004000C
def BAL_CAL_VALID_MASK : Fld := ⟨BAL_CAL_VALID, 0, 24⟩ -- RO, reset 0
/-- BAL_ERR, R201. -/
def BAL_ERR : Nat := 0x10040010
def BAL_ERR_SILENCE : Fld := ⟨BAL_ERR, 0, 1⟩ -- W1C, reset 0
def BAL_ERR_HOT : Fld := ⟨BAL_ERR, 1, 1⟩ -- W1C, reset 0
def BAL_ERR_MISMATCH : Fld := ⟨BAL_ERR, 2, 1⟩ -- W1C, reset 0
def BAL_ERR_UV_TRIP : Fld := ⟨BAL_ERR, 3, 1⟩ -- W1C, reset 0
def BAL_ERR_OPEN_TAP : Fld := ⟨BAL_ERR, 4, 1⟩ -- W1C, reset 0
def BAL_ERR_CAL_FAIL : Fld := ⟨BAL_ERR, 5, 1⟩ -- W1C, reset 0
def BAL_ERR_REJECTED : Fld := ⟨BAL_ERR, 6, 1⟩ -- W1C, reset 0
/-- BAL_MISMATCH_CNT, R201. -/
def BAL_MISMATCH_CNT : Nat := 0x10040014
def BAL_MISMATCH_CNT_COUNT : Fld := ⟨BAL_MISMATCH_CNT, 0, 32⟩ -- RO, reset 0
/-! ### EST (R227) -/

/-- EST_STATUS, R227. -/
def EST_STATUS : Nat := 0x10050000
def EST_STATUS_RUN : Fld := ⟨EST_STATUS, 0, 1⟩ -- RO, reset 0
def EST_STATUS_CHEM_OK : Fld := ⟨EST_STATUS, 1, 1⟩ -- RO, reset 0
def EST_STATUS_SOP_VALID : Fld := ⟨EST_STATUS, 2, 1⟩ -- RO, reset 0
def EST_STATUS_DECIDED : Fld := ⟨EST_STATUS, 3, 1⟩ -- RO, reset 0
def EST_STATUS_SHADOW : Fld := ⟨EST_STATUS, 4, 1⟩ -- RO, reset 0
def EST_STATUS_I_ALT : Fld := ⟨EST_STATUS, 5, 1⟩ -- RO, reset 0
def EST_STATUS_NO_CURRENT : Fld := ⟨EST_STATUS, 6, 1⟩ -- RO, reset 0
/-- EST_CHEM_ID, R227. -/
def EST_CHEM_ID : Nat := 0x10050004
def EST_CHEM_ID_ID : Fld := ⟨EST_CHEM_ID, 0, 32⟩ -- RO, reset Stored value
/-- EST_CYCLE_CNT, R227. -/
def EST_CYCLE_CNT : Nat := 0x10050008
def EST_CYCLE_CNT_COUNT : Fld := ⟨EST_CYCLE_CNT, 0, 32⟩ -- RO, reset 0
/-- EST_CFG, R227. -/
def EST_CFG : Nat := 0x1005000C
def EST_CFG_RESULT_DIV : Fld := ⟨EST_CFG, 0, 8⟩ -- RW, reset 1
/-- EST_N_START_A, R227. -/
def EST_N_START_A : Nat := 0x10050010
def EST_N_START_A_STORED : Fld := ⟨EST_N_START_A, 0, 10⟩ -- RO, reset 0
def EST_N_START_A_FUSED : Fld := ⟨EST_N_START_A, 16, 10⟩ -- RO, reset 0
/-- EST_N_START_B, R227. -/
def EST_N_START_B : Nat := 0x10050014
def EST_N_START_B_OCV : Fld := ⟨EST_N_START_B, 0, 10⟩ -- RO, reset 0
def EST_N_START_B_COLD : Fld := ⟨EST_N_START_B, 16, 10⟩ -- RO, reset 0
/-- EST_N_NOW, R227. -/
def EST_N_NOW : Nat := 0x10050018
def EST_N_NOW_COLD : Fld := ⟨EST_N_NOW, 0, 10⟩ -- RO, reset 0
def EST_N_NOW_STALE : Fld := ⟨EST_N_NOW, 16, 10⟩ -- RO, reset 0
/-- EST_LAST_T_LO, R227. -/
def EST_LAST_T_LO : Nat := 0x1005001C
def EST_LAST_T_LO_TIME : Fld := ⟨EST_LAST_T_LO, 0, 32⟩ -- RO, reset 0
/-- EST_LAST_T_HI, R227. -/
def EST_LAST_T_HI : Nat := 0x10050020
def EST_LAST_T_HI_TIME : Fld := ⟨EST_LAST_T_HI, 0, 32⟩ -- RO, reset 0
/-- EST_RESULT_LOST_CNT, R227. -/
def EST_RESULT_LOST_CNT : Nat := 0x10050024
def EST_RESULT_LOST_CNT_COUNT : Fld := ⟨EST_RESULT_LOST_CNT, 0, 32⟩ -- RO, reset 0
/-- EST_SOP_LOST_CNT, R227. -/
def EST_SOP_LOST_CNT : Nat := 0x10050028
def EST_SOP_LOST_CNT_COUNT : Fld := ⟨EST_SOP_LOST_CNT, 0, 32⟩ -- RO, reset 0
/-- EST_DIVERGE_CNT, R227. -/
def EST_DIVERGE_CNT : Nat := 0x1005002C
def EST_DIVERGE_CNT_COUNT : Fld := ⟨EST_DIVERGE_CNT, 0, 32⟩ -- RO, reset 0
/-- EST_CLAMP_CNT, R227. -/
def EST_CLAMP_CNT : Nat := 0x10050030
def EST_CLAMP_CNT_COUNT : Fld := ⟨EST_CLAMP_CNT, 0, 32⟩ -- RO, reset 0
/-- EST_ERR, R227. -/
def EST_ERR : Nat := 0x10050034
def EST_ERR_DIVERGED : Fld := ⟨EST_ERR, 0, 1⟩ -- W1C, reset 0
def EST_ERR_NO_CURRENT : Fld := ⟨EST_ERR, 1, 1⟩ -- W1C, reset 0
def EST_ERR_SOP_INVALID : Fld := ⟨EST_ERR, 2, 1⟩ -- W1C, reset 0
def EST_ERR_LOST : Fld := ⟨EST_ERR, 3, 1⟩ -- W1C, reset 0
def EST_ERR_CHEM_REJ : Fld := ⟨EST_ERR, 4, 1⟩ -- W1C, reset 0
def EST_ERR_SNAP_FAIL : Fld := ⟨EST_ERR, 5, 1⟩ -- W1C, reset 0
/-! ### EIS (R247) -/

/-- EIS_STATUS, R247. -/
def EIS_STATUS : Nat := 0x10060000
def EIS_STATUS_RUN : Fld := ⟨EIS_STATUS, 0, 1⟩ -- RO, reset 0
def EIS_STATUS_ACCUM : Fld := ⟨EIS_STATUS, 1, 1⟩ -- RO, reset 0
def EIS_STATUS_EXC : Fld := ⟨EIS_STATUS, 2, 1⟩ -- RO, reset 0
def EIS_STATUS_HELD : Fld := ⟨EIS_STATUS, 3, 1⟩ -- RO, reset 0
def EIS_STATUS_MODE : Fld := ⟨EIS_STATUS, 4, 2⟩ -- RO, reset 0
def EIS_STATUS_SHADOW : Fld := ⟨EIS_STATUS, 6, 1⟩ -- RO, reset 0
def EIS_STATUS_REF_OK : Fld := ⟨EIS_STATUS, 7, 1⟩ -- RO, reset 0
def EIS_STATUS_PLAN_OK : Fld := ⟨EIS_STATUS, 8, 1⟩ -- RO, reset 0
def EIS_STATUS_PENDING : Fld := ⟨EIS_STATUS, 9, 1⟩ -- RO, reset 0
/-- EIS_PLAN_ID, R247. -/
def EIS_PLAN_ID : Nat := 0x10060004
def EIS_PLAN_ID_ID : Fld := ⟨EIS_PLAN_ID, 0, 32⟩ -- RO, reset 0
/-- EIS_INT_CNT, R247. -/
def EIS_INT_CNT : Nat := 0x10060008
def EIS_INT_CNT_COUNT : Fld := ⟨EIS_INT_CNT, 0, 32⟩ -- RO, reset 0
/-- EIS_SEG, R247. -/
def EIS_SEG : Nat := 0x1006000C
def EIS_SEG_DONE : Fld := ⟨EIS_SEG, 0, 8⟩ -- RO, reset 0
def EIS_SEG_NSEG : Fld := ⟨EIS_SEG, 8, 8⟩ -- RO, reset 0
/-- EIS_S_FIRST, R247. -/
def EIS_S_FIRST : Nat := 0x10060010
def EIS_S_FIRST_SNUM : Fld := ⟨EIS_S_FIRST, 0, 32⟩ -- RO, reset 0
/-- EIS_FS, R247. -/
def EIS_FS : Nat := 0x10060014
def EIS_FS_RATE : Fld := ⟨EIS_FS, 0, 32⟩ -- RO, reset 0
/-- EIS_AMP_PK, R247. -/
def EIS_AMP_PK : Nat := 0x10060018
def EIS_AMP_PK_MA : Fld := ⟨EIS_AMP_PK, 0, 32⟩ -- RO, reset 0
/-- EIS_RESULT_LOST_CNT, R247. -/
def EIS_RESULT_LOST_CNT : Nat := 0x1006001C
def EIS_RESULT_LOST_CNT_COUNT : Fld := ⟨EIS_RESULT_LOST_CNT, 0, 32⟩ -- RO, reset 0
/-- EIS_ABANDON_CNT, R247. -/
def EIS_ABANDON_CNT : Nat := 0x10060020
def EIS_ABANDON_CNT_COUNT : Fld := ⟨EIS_ABANDON_CNT, 0, 32⟩ -- RO, reset 0
/-- EIS_INTERRUPT_CNT, R247. -/
def EIS_INTERRUPT_CNT : Nat := 0x10060024
def EIS_INTERRUPT_CNT_COUNT : Fld := ⟨EIS_INTERRUPT_CNT, 0, 32⟩ -- RO, reset 0
/-- EIS_SEG_DROP_CNT, R247. -/
def EIS_SEG_DROP_CNT : Nat := 0x10060028
def EIS_SEG_DROP_CNT_COUNT : Fld := ⟨EIS_SEG_DROP_CNT, 0, 32⟩ -- RO, reset 0
/-- EIS_ERR, R247. -/
def EIS_ERR : Nat := 0x1006002C
def EIS_ERR_PLAN_REJ : Fld := ⟨EIS_ERR, 0, 1⟩ -- W1C, reset 0
def EIS_ERR_TABLE_REJ : Fld := ⟨EIS_ERR, 1, 1⟩ -- W1C, reset 0
def EIS_ERR_ABANDONED : Fld := ⟨EIS_ERR, 2, 1⟩ -- W1C, reset 0
def EIS_ERR_LOST : Fld := ⟨EIS_ERR, 3, 1⟩ -- W1C, reset 0
def EIS_ERR_RATE_CHANGE : Fld := ⟨EIS_ERR, 4, 1⟩ -- W1C, reset 0
def EIS_ERR_REF_MISMATCH : Fld := ⟨EIS_ERR, 5, 1⟩ -- W1C, reset 0
def EIS_ERR_OFS_CLAMP : Fld := ⟨EIS_ERR, 6, 1⟩ -- W1C, reset 0
/-! ### THERM (R270) -/

/-- THERM_STATUS, R270. -/
def THERM_STATUS : Nat := 0x10070000
def THERM_STATUS_RUN : Fld := ⟨THERM_STATUS, 0, 1⟩ -- RO, reset 0
def THERM_STATUS_ACT_RUN : Fld := ⟨THERM_STATUS, 1, 1⟩ -- RO, reset 0
def THERM_STATUS_VALID : Fld := ⟨THERM_STATUS, 2, 1⟩ -- RO, reset 0
def THERM_STATUS_FAST : Fld := ⟨THERM_STATUS, 3, 1⟩ -- RO, reset 0
def THERM_STATUS_CHG_FORBID : Fld := ⟨THERM_STATUS, 4, 1⟩ -- RO, reset 0
def THERM_STATUS_DIS_FORBID : Fld := ⟨THERM_STATUS, 5, 1⟩ -- RO, reset 0
def THERM_STATUS_EXC_FORBID : Fld := ⟨THERM_STATUS, 6, 1⟩ -- RO, reset 0
def THERM_STATUS_WR_FORBID : Fld := ⟨THERM_STATUS, 7, 1⟩ -- RO, reset 0
def THERM_STATUS_COOL_FAULT : Fld := ⟨THERM_STATUS, 8, 1⟩ -- RO, reset 0
def THERM_STATUS_PS_HOT : Fld := ⟨THERM_STATUS, 9, 1⟩ -- RO, reset 0
def THERM_STATUS_SHADOW : Fld := ⟨THERM_STATUS, 10, 1⟩ -- RO, reset 0
/-- THERM_LIM_CHG, R270. -/
def THERM_LIM_CHG : Nat := 0x10070004
def THERM_LIM_CHG_MA : Fld := ⟨THERM_LIM_CHG, 0, 32⟩ -- RS, reset 0
/-- THERM_LIM_DIS, R270. -/
def THERM_LIM_DIS : Nat := 0x10070008
def THERM_LIM_DIS_MA : Fld := ⟨THERM_LIM_DIS, 0, 32⟩ -- RS, reset 0
/-- THERM_T_HI, R270. -/
def THERM_T_HI : Nat := 0x1007000C
def THERM_T_HI_TEMP : Fld := ⟨THERM_T_HI, 0, 16⟩ -- RS, reset 0x8000
def THERM_T_HI_CELL : Fld := ⟨THERM_T_HI, 16, 10⟩ -- RS, reset 0
/-- THERM_T_LO, R270. -/
def THERM_T_LO : Nat := 0x10070010
def THERM_T_LO_TEMP : Fld := ⟨THERM_T_LO, 0, 16⟩ -- RS, reset 0x8000
def THERM_T_LO_CELL : Fld := ⟨THERM_T_LO, 16, 10⟩ -- RS, reset 0
/-- THERM_MOD, R270. -/
def THERM_MOD : Nat := 0x10070014
def THERM_MOD_MOD_TEMP : Fld := ⟨THERM_MOD, 0, 16⟩ -- RS, reset 0x8000
def THERM_MOD_PS_TEMP : Fld := ⟨THERM_MOD, 16, 16⟩ -- RS, reset 0x8000
/-- THERM_BROKEN, R270. -/
def THERM_BROKEN : Nat := 0x10070018
def THERM_BROKEN_MASK : Fld := ⟨THERM_BROKEN, 0, 24⟩ -- RO, reset 0
/-- THERM_STALE, R270. -/
def THERM_STALE : Nat := 0x1007001C
def THERM_STALE_MASK : Fld := ⟨THERM_STALE, 0, 24⟩ -- RO, reset 0
/-- THERM_ACT, R270. -/
def THERM_ACT : Nat := 0x10070020
def THERM_ACT_FAULT : Fld := ⟨THERM_ACT, 0, 4⟩ -- RO, reset 0
def THERM_ACT_DRIVEN : Fld := ⟨THERM_ACT, 4, 4⟩ -- RO, reset 0
/-- THERM_TACH01, R270. -/
def THERM_TACH01 : Nat := 0x10070024
def THERM_TACH01_TACH0 : Fld := ⟨THERM_TACH01, 0, 16⟩ -- RS, reset 0
def THERM_TACH01_TACH1 : Fld := ⟨THERM_TACH01, 16, 16⟩ -- RS, reset 0
/-- THERM_TACH2, R270. -/
def THERM_TACH2 : Nat := 0x10070028
def THERM_TACH2_TACH2 : Fld := ⟨THERM_TACH2, 0, 16⟩ -- RS, reset 0
/-- THERM_ROUND_CNT, R270. -/
def THERM_ROUND_CNT : Nat := 0x1007002C
def THERM_ROUND_CNT_COUNT : Fld := ⟨THERM_ROUND_CNT, 0, 32⟩ -- RO, reset 0
/-- THERM_RESULT_LOST_CNT, R270. -/
def THERM_RESULT_LOST_CNT : Nat := 0x10070030
def THERM_RESULT_LOST_CNT_COUNT : Fld := ⟨THERM_RESULT_LOST_CNT, 0, 32⟩ -- RO, reset 0
/-- THERM_ERR, R270. -/
def THERM_ERR : Nat := 0x10070034
def THERM_ERR_BROKEN : Fld := ⟨THERM_ERR, 0, 1⟩ -- W1C, reset 0
def THERM_ERR_STALE : Fld := ⟨THERM_ERR, 1, 1⟩ -- W1C, reset 0
def THERM_ERR_FORBID : Fld := ⟨THERM_ERR, 2, 1⟩ -- W1C, reset 0
def THERM_ERR_ACT_FAULT : Fld := ⟨THERM_ERR, 3, 1⟩ -- W1C, reset 0
def THERM_ERR_TABLE_REJ : Fld := ⟨THERM_ERR, 4, 1⟩ -- W1C, reset 0
def THERM_ERR_LOST : Fld := ⟨THERM_ERR, 5, 1⟩ -- W1C, reset 0
def THERM_ERR_WR_FORBID : Fld := ⟨THERM_ERR, 6, 1⟩ -- W1C, reset 0
/-- THERM_TB, R270. -/
def THERM_TB (k : Nat) : Nat := 0x10070040 + 0x4 * k
def THERM_TB_TB (k : Nat) : Fld := ⟨THERM_TB k, 0, 16⟩ -- RS, reset 0x8000
def THERM_TB_DIODE (k : Nat) : Fld := ⟨THERM_TB k, 16, 16⟩ -- RS, reset 0x8000
/-! ### CTRL (R299) -/

/-- CTRL_STATUS, R299. -/
def CTRL_STATUS : Nat := 0x10080000
def CTRL_STATUS_CLOSED : Fld := ⟨CTRL_STATUS, 0, 8⟩ -- RO, reset 0
def CTRL_STATUS_STOPPING : Fld := ⟨CTRL_STATUS, 8, 8⟩ -- RO, reset 0
def CTRL_STATUS_ACTIVE : Fld := ⟨CTRL_STATUS, 16, 1⟩ -- RO, reset 0
def CTRL_STATUS_INHIBIT : Fld := ⟨CTRL_STATUS, 17, 1⟩ -- RO, reset 0
def CTRL_STATUS_EXC : Fld := ⟨CTRL_STATUS, 18, 1⟩ -- RO, reset 0
def CTRL_STATUS_DISP : Fld := ⟨CTRL_STATUS, 19, 1⟩ -- RO, reset 0
def CTRL_STATUS_EST_FB : Fld := ⟨CTRL_STATUS, 20, 1⟩ -- RO, reset 0
def CTRL_STATUS_THERM_FB : Fld := ⟨CTRL_STATUS, 21, 1⟩ -- RO, reset 0
/-- CTRL_HARD_CHG_MA, R299. -/
def CTRL_HARD_CHG_MA : Nat := 0x10080004
def CTRL_HARD_CHG_MA_MA : Fld := ⟨CTRL_HARD_CHG_MA, 0, 32⟩ -- RW, reset 0
/-- CTRL_HARD_DIS_MA, R299. -/
def CTRL_HARD_DIS_MA : Nat := 0x10080008
def CTRL_HARD_DIS_MA_MA : Fld := ⟨CTRL_HARD_DIS_MA, 0, 32⟩ -- RW, reset 0
/-- CTRL_EST_FB_CHG_MA, R299. -/
def CTRL_EST_FB_CHG_MA : Nat := 0x1008000C
def CTRL_EST_FB_CHG_MA_MA : Fld := ⟨CTRL_EST_FB_CHG_MA, 0, 32⟩ -- RW, reset 0
/-- CTRL_EST_FB_DIS_MA, R299. -/
def CTRL_EST_FB_DIS_MA : Nat := 0x10080010
def CTRL_EST_FB_DIS_MA_MA : Fld := ⟨CTRL_EST_FB_DIS_MA, 0, 32⟩ -- RW, reset 0
/-- CTRL_LIM_CHG, R299. -/
def CTRL_LIM_CHG : Nat := 0x10080014
def CTRL_LIM_CHG_MA : Fld := ⟨CTRL_LIM_CHG, 0, 32⟩ -- RS, reset 0
/-- CTRL_LIM_DIS, R299. -/
def CTRL_LIM_DIS : Nat := 0x10080018
def CTRL_LIM_DIS_MA : Fld := ⟨CTRL_LIM_DIS, 0, 32⟩ -- RS, reset 0
/-- CTRL_LIM_SRC, R299. -/
def CTRL_LIM_SRC : Nat := 0x1008001C
def CTRL_LIM_SRC_CHG : Fld := ⟨CTRL_LIM_SRC, 0, 2⟩ -- RO, reset 0
def CTRL_LIM_SRC_DIS : Fld := ⟨CTRL_LIM_SRC, 2, 2⟩ -- RO, reset 0
/-- CTRL_DISP_EXP_LO, R299. -/
def CTRL_DISP_EXP_LO : Nat := 0x10080020
def CTRL_DISP_EXP_LO_EXPIRY : Fld := ⟨CTRL_DISP_EXP_LO, 0, 32⟩ -- RO, reset 0
/-- CTRL_DISP_EXP_HI, R299. -/
def CTRL_DISP_EXP_HI : Nat := 0x10080024
def CTRL_DISP_EXP_HI_EXPIRY : Fld := ⟨CTRL_DISP_EXP_HI, 0, 32⟩ -- RO, reset 0
/-- CTRL_ERR, R299. -/
def CTRL_ERR : Nat := 0x10080028
def CTRL_ERR_SUPERVISION : Fld := ⟨CTRL_ERR, 0, 1⟩ -- W1C, reset 0
def CTRL_ERR_PS_FAULT : Fld := ⟨CTRL_ERR, 1, 1⟩ -- W1C, reset 0
def CTRL_ERR_LEG_OC : Fld := ⟨CTRL_ERR, 2, 1⟩ -- W1C, reset 0
def CTRL_ERR_INHIBIT : Fld := ⟨CTRL_ERR, 3, 1⟩ -- W1C, reset 0
def CTRL_ERR_DISP_EXPIRED : Fld := ⟨CTRL_ERR, 4, 1⟩ -- W1C, reset 0
def CTRL_ERR_LINK : Fld := ⟨CTRL_ERR, 5, 1⟩ -- W1C, reset 0
/-- CTRL_SUP_CNT, R299. -/
def CTRL_SUP_CNT : Nat := 0x1008002C
def CTRL_SUP_CNT_COUNT : Fld := ⟨CTRL_SUP_CNT, 0, 32⟩ -- RO, reset 0
/-- LC_CFG, R300. -/
def LC_CFG (n : Nat) : Nat := 0x10080100 + 0x80 * n
def LC_CFG_RATE (n : Nat) : Fld := ⟨LC_CFG n, 0, 1⟩ -- RW, reset 0
def LC_CFG_REF_SRC (n : Nat) : Fld := ⟨LC_CFG n, 4, 4⟩ -- RW, reset 0
def LC_CFG_FB (n : Nat) : Fld := ⟨LC_CFG n, 8, 8⟩ -- RW, reset 0
/-- LC_KP, R300. -/
def LC_KP (n : Nat) : Nat := 0x10080104 + 0x80 * n
def LC_KP_Coefficient (n : Nat) : Fld := ⟨LC_KP n, 0, 32⟩ -- RW, reset 0
/-- LC_KI, R300. -/
def LC_KI (n : Nat) : Nat := 0x10080108 + 0x80 * n
def LC_KI_Coefficient (n : Nat) : Fld := ⟨LC_KI n, 0, 32⟩ -- RW, reset 0
/-- LC_KD, R300. -/
def LC_KD (n : Nat) : Nat := 0x1008010C + 0x80 * n
def LC_KD_Coefficient (n : Nat) : Fld := ⟨LC_KD n, 0, 32⟩ -- RW, reset 0
/-- LC_KB, R300. -/
def LC_KB (n : Nat) : Nat := 0x10080110 + 0x80 * n
def LC_KB_Coefficient (n : Nat) : Fld := ⟨LC_KB n, 0, 32⟩ -- RW, reset 0
/-- LC_TF, R300. -/
def LC_TF (n : Nat) : Nat := 0x10080114 + 0x80 * n
def LC_TF_Coefficient (n : Nat) : Fld := ⟨LC_TF n, 0, 32⟩ -- RW, reset 0
/-- LC_OUT_MIN, R300. -/
def LC_OUT_MIN (n : Nat) : Nat := 0x10080118 + 0x80 * n
def LC_OUT_MIN_MIN (n : Nat) : Fld := ⟨LC_OUT_MIN n, 0, 32⟩ -- RW, reset 0
/-- LC_OUT_MAX, R300. -/
def LC_OUT_MAX (n : Nat) : Nat := 0x1008011C + 0x80 * n
def LC_OUT_MAX_MAX (n : Nat) : Fld := ⟨LC_OUT_MAX n, 0, 32⟩ -- RW, reset 0
/-- LC_RAMP_UP, R300. -/
def LC_RAMP_UP (n : Nat) : Nat := 0x10080120 + 0x80 * n
def LC_RAMP_UP_RATE (n : Nat) : Fld := ⟨LC_RAMP_UP n, 0, 32⟩ -- RW, reset 0
/-- LC_RAMP_DN, R300. -/
def LC_RAMP_DN (n : Nat) : Nat := 0x10080124 + 0x80 * n
def LC_RAMP_DN_RATE (n : Nat) : Fld := ⟨LC_RAMP_DN n, 0, 32⟩ -- RW, reset 0
/-- LC_DWELL, R300. -/
def LC_DWELL (n : Nat) : Nat := 0x10080128 + 0x80 * n
def LC_DWELL_MS (n : Nat) : Fld := ⟨LC_DWELL n, 0, 16⟩ -- RW, reset 0
/-- LC_OPEN_OUT, R300. -/
def LC_OPEN_OUT (n : Nat) : Nat := 0x1008012C + 0x80 * n
def LC_OPEN_OUT_OUT (n : Nat) : Fld := ⟨LC_OPEN_OUT n, 0, 32⟩ -- RW, reset 0
/-- LC_STATE, R300. -/
def LC_STATE (n : Nat) : Nat := 0x10080130 + 0x80 * n
def LC_STATE_STATE (n : Nat) : Fld := ⟨LC_STATE n, 0, 2⟩ -- RO, reset 0
def LC_STATE_SAT_HI (n : Nat) : Fld := ⟨LC_STATE n, 2, 1⟩ -- RO, reset 0
def LC_STATE_SAT_LO (n : Nat) : Fld := ⟨LC_STATE n, 3, 1⟩ -- RO, reset 0
def LC_STATE_LIMITED (n : Nat) : Fld := ⟨LC_STATE n, 4, 1⟩ -- RO, reset 0
def LC_STATE_DWELL (n : Nat) : Fld := ⟨LC_STATE n, 5, 1⟩ -- RO, reset 0
def LC_STATE_SUP_FAIL (n : Nat) : Fld := ⟨LC_STATE n, 6, 1⟩ -- RO, reset 0
def LC_STATE_WHY (n : Nat) : Fld := ⟨LC_STATE n, 8, 8⟩ -- RO, reset 0
/-- LC_TARGET, R300. -/
def LC_TARGET (n : Nat) : Nat := 0x10080134 + 0x80 * n
def LC_TARGET_T (n : Nat) : Fld := ⟨LC_TARGET n, 0, 32⟩ -- RS, reset 0
/-- LC_RAMP, R300. -/
def LC_RAMP (n : Nat) : Nat := 0x10080138 + 0x80 * n
def LC_RAMP_RS (n : Nat) : Fld := ⟨LC_RAMP n, 0, 32⟩ -- RS, reset 0
/-- LC_FB, R300. -/
def LC_FB (n : Nat) : Nat := 0x1008013C + 0x80 * n
def LC_FB_Y (n : Nat) : Fld := ⟨LC_FB n, 0, 32⟩ -- RS, reset 0
/-- LC_OUT, R300. -/
def LC_OUT (n : Nat) : Nat := 0x10080140 + 0x80 * n
def LC_OUT_U (n : Nat) : Fld := ⟨LC_OUT n, 0, 32⟩ -- RS, reset 0
/-- LC_INTEG, R300. -/
def LC_INTEG (n : Nat) : Nat := 0x10080144 + 0x80 * n
def LC_INTEG_I (n : Nat) : Fld := ⟨LC_INTEG n, 0, 32⟩ -- RS, reset 0
/-! ### PWM (R301) -/

/-- PWM_CFG, R301. -/
def PWM_CFG : Nat := 0x10160000
def PWM_CFG_LEGS_M1 : Fld := ⟨PWM_CFG, 0, 2⟩ -- RW, reset 0
def PWM_CFG_OFF_EN : Fld := ⟨PWM_CFG, 2, 1⟩ -- RW, reset 1
def PWM_CFG_LC0_DIV : Fld := ⟨PWM_CFG, 8, 4⟩ -- RW, reset 1
/-- PWM_PERIOD, R301. -/
def PWM_PERIOD : Nat := 0x10160004
def PWM_PERIOD_TICKS : Fld := ⟨PWM_PERIOD, 0, 16⟩ -- RW, reset 5,000
/-- PWM_DEAD, R301. -/
def PWM_DEAD : Nat := 0x10160008
def PWM_DEAD_DT_NS : Fld := ⟨PWM_DEAD, 0, 11⟩ -- RW, reset 500
/-- PWM_MINP, R301. -/
def PWM_MINP : Nat := 0x1016000C
def PWM_MINP_MIN_PULSE_NS : Fld := ⟨PWM_MINP, 0, 11⟩ -- RW, reset 200
/-- PWM_TRIG, R301. -/
def PWM_TRIG : Nat := 0x10160010
def PWM_TRIG_TRIG_TICKS : Fld := ⟨PWM_TRIG, 0, 16⟩ -- RW, reset 0
def PWM_TRIG_AVG_TICKS : Fld := ⟨PWM_TRIG, 16, 16⟩ -- RW, reset 0
/-- PWM_STATUS, R301. -/
def PWM_STATUS : Nat := 0x10160014
def PWM_STATUS_ARMED : Fld := ⟨PWM_STATUS, 0, 1⟩ -- RO, reset 0
def PWM_STATUS_DRIVEN : Fld := ⟨PWM_STATUS, 1, 1⟩ -- RO, reset 0
def PWM_STATUS_INHIBIT : Fld := ⟨PWM_STATUS, 2, 1⟩ -- RO, reset 0
def PWM_STATUS_PS_FAULT : Fld := ⟨PWM_STATUS, 3, 1⟩ -- RO, reset 0
def PWM_STATUS_PS_EN : Fld := ⟨PWM_STATUS, 4, 1⟩ -- RO, reset 0
def PWM_STATUS_LEG_OC : Fld := ⟨PWM_STATUS, 8, 4⟩ -- RO, reset 0
/-- PWM_DUTY01, R301. -/
def PWM_DUTY01 : Nat := 0x10160018
def PWM_DUTY01_D0 : Fld := ⟨PWM_DUTY01, 0, 16⟩ -- RS, reset 0
def PWM_DUTY01_D1 : Fld := ⟨PWM_DUTY01, 16, 16⟩ -- RS, reset 0
/-- PWM_DUTY23, R301. -/
def PWM_DUTY23 : Nat := 0x1016001C
def PWM_DUTY23_D0 : Fld := ⟨PWM_DUTY23, 0, 16⟩ -- RS, reset 0
def PWM_DUTY23_D1 : Fld := ⟨PWM_DUTY23, 16, 16⟩ -- RS, reset 0
/-- PWM_ILEG01, R301. -/
def PWM_ILEG01 : Nat := 0x10160020
def PWM_ILEG01_I0 : Fld := ⟨PWM_ILEG01, 0, 16⟩ -- RS, reset 0
def PWM_ILEG01_I1 : Fld := ⟨PWM_ILEG01, 16, 16⟩ -- RS, reset 0
/-- PWM_ILEG23, R301. -/
def PWM_ILEG23 : Nat := 0x10160024
def PWM_ILEG23_I0 : Fld := ⟨PWM_ILEG23, 0, 16⟩ -- RS, reset 0
def PWM_ILEG23_I1 : Fld := ⟨PWM_ILEG23, 16, 16⟩ -- RS, reset 0
/-- PWM_PERIOD_CNT, R301. -/
def PWM_PERIOD_CNT : Nat := 0x10160028
def PWM_PERIOD_CNT_COUNT : Fld := ⟨PWM_PERIOD_CNT, 0, 32⟩ -- RO, reset 0
/-- PWM_ERR, R301. -/
def PWM_ERR : Nat := 0x1016002C
def PWM_ERR_PS_FAULT : Fld := ⟨PWM_ERR, 0, 1⟩ -- W1C, reset 0
def PWM_ERR_LEG_OC : Fld := ⟨PWM_ERR, 1, 1⟩ -- W1C, reset 0
def PWM_ERR_CFG : Fld := ⟨PWM_ERR, 2, 1⟩ -- W1C, reset 0
/-! ### SAFE (R328) -/

/-- SAFE_STATUS, R328. -/
def SAFE_STATUS : Nat := 0x10090000
def SAFE_STATUS_READY : Fld := ⟨SAFE_STATUS, 0, 1⟩ -- RO, reset 0
def SAFE_STATUS_SAFE_STATE : Fld := ⟨SAFE_STATUS, 1, 1⟩ -- RO, reset 1
def SAFE_STATUS_INHIBIT : Fld := ⟨SAFE_STATUS, 2, 1⟩ -- RO, reset 1
def SAFE_STATUS_FOG : Fld := ⟨SAFE_STATUS, 3, 1⟩ -- RO, reset 1
def SAFE_STATUS_SET_VALID : Fld := ⟨SAFE_STATUS, 4, 1⟩ -- RO, reset 0
def SAFE_STATUS_SET_CONF : Fld := ⟨SAFE_STATUS, 5, 1⟩ -- RO, reset 0
def SAFE_STATUS_RST_NEEDED : Fld := ⟨SAFE_STATUS, 6, 1⟩ -- RO, reset 1
def SAFE_STATUS_SEQ_RUN : Fld := ⟨SAFE_STATUS, 7, 1⟩ -- RO, reset 0
def SAFE_STATUS_STANDBY : Fld := ⟨SAFE_STATUS, 8, 1⟩ -- RO, reset 0
def SAFE_STATUS_HOLD_WIN : Fld := ⟨SAFE_STATUS, 9, 1⟩ -- RO, reset 0
def SAFE_STATUS_TEST_SUSP : Fld := ⟨SAFE_STATUS, 10, 1⟩ -- RO, reset 0
def SAFE_STATUS_SO_ON : Fld := ⟨SAFE_STATUS, 12, 4⟩ -- RO, reset 0
def SAFE_STATUS_SI_ON : Fld := ⟨SAFE_STATUS, 16, 4⟩ -- RO, reset 0
/-- SAFE_TRIP_LATCH, R328. -/
def SAFE_TRIP_LATCH : Nat := 0x10090004
def SAFE_TRIP_LATCH_SRC : Fld := ⟨SAFE_TRIP_LATCH, 0, 16⟩ -- RO, reset 0
/-- SAFE_TRIP_ACTIVE, R328. -/
def SAFE_TRIP_ACTIVE : Nat := 0x10090008
def SAFE_TRIP_ACTIVE_SRC : Fld := ⟨SAFE_TRIP_ACTIVE, 0, 16⟩ -- RO, reset 0
/-- SAFE_FIRST, R328. -/
def SAFE_FIRST : Nat := 0x1009000C
def SAFE_FIRST_SRC : Fld := ⟨SAFE_FIRST, 0, 4⟩ -- RO, reset 0
def SAFE_FIRST_VALID : Fld := ⟨SAFE_FIRST, 4, 1⟩ -- RO, reset 0
def SAFE_FIRST_TILE : Fld := ⟨SAFE_FIRST, 8, 8⟩ -- RO, reset 0xFF
def SAFE_FIRST_CELL : Fld := ⟨SAFE_FIRST, 16, 10⟩ -- RO, reset 0x3FF
/-- SAFE_FIRST_T_LO, R328. -/
def SAFE_FIRST_T_LO : Nat := 0x10090010
def SAFE_FIRST_T_LO_TIME : Fld := ⟨SAFE_FIRST_T_LO, 0, 32⟩ -- RO, reset 0
/-- SAFE_FIRST_T_HI, R328. -/
def SAFE_FIRST_T_HI : Nat := 0x10090014
def SAFE_FIRST_T_HI_TIME : Fld := ⟨SAFE_FIRST_T_HI, 0, 32⟩ -- RO, reset 0
/-- SAFE_SO_STAT, R328. -/
def SAFE_SO_STAT : Nat := 0x10090018
def SAFE_SO_STAT_STATE (n : Nat) : Fld := ⟨SAFE_SO_STAT, 8 * n + 0, 2⟩ -- RO, reset 0
def SAFE_SO_STAT_REQ (n : Nat) : Fld := ⟨SAFE_SO_STAT, 8 * n + 2, 1⟩ -- RO, reset 0
def SAFE_SO_STAT_PERMIT (n : Nat) : Fld := ⟨SAFE_SO_STAT, 8 * n + 3, 1⟩ -- RO, reset 0
def SAFE_SO_STAT_HS (n : Nat) : Fld := ⟨SAFE_SO_STAT, 8 * n + 4, 1⟩ -- RO, reset 0
def SAFE_SO_STAT_LS (n : Nat) : Fld := ⟨SAFE_SO_STAT, 8 * n + 5, 1⟩ -- RO, reset 0
/-- SAFE_SO_DIAG, R328. -/
def SAFE_SO_DIAG : Nat := 0x1009001C
def SAFE_SO_DIAG_DIAG (n : Nat) : Fld := ⟨SAFE_SO_DIAG, 8 * n + 0, 8⟩ -- RO, reset 0
/-- SAFE_SO_I01, R328. -/
def SAFE_SO_I01 : Nat := 0x10090020
def SAFE_SO_I01_MA0 : Fld := ⟨SAFE_SO_I01, 0, 16⟩ -- RS, reset 0
def SAFE_SO_I01_MA1 : Fld := ⟨SAFE_SO_I01, 16, 16⟩ -- RS, reset 0
/-- SAFE_SO_I23, R328. -/
def SAFE_SO_I23 : Nat := 0x10090024
def SAFE_SO_I23_MA0 : Fld := ⟨SAFE_SO_I23, 0, 16⟩ -- RS, reset 0
def SAFE_SO_I23_MA1 : Fld := ⟨SAFE_SO_I23, 16, 16⟩ -- RS, reset 0
/-- SAFE_SI_STAT, R328. -/
def SAFE_SI_STAT : Nat := 0x10090028
def SAFE_SI_STAT_STAT (n : Nat) : Fld := ⟨SAFE_SI_STAT, 8 * n + 0, 8⟩ -- RO, reset 0
/-- SAFE_RST, R328. -/
def SAFE_RST : Nat := 0x1009002C
def SAFE_RST_LEVEL : Fld := ⟨SAFE_RST, 0, 1⟩ -- RO, reset 0
def SAFE_RST_HIGH_RUN : Fld := ⟨SAFE_RST, 1, 1⟩ -- RO, reset 0
def SAFE_RST_LAST_SRC : Fld := ⟨SAFE_RST, 2, 2⟩ -- RO, reset 0
def SAFE_RST_LAST_RES : Fld := ⟨SAFE_RST, 8, 4⟩ -- RO, reset 0
def SAFE_RST_HIGH_MS : Fld := ⟨SAFE_RST, 16, 16⟩ -- RO, reset 0
/-- SAFE_RST_CNT, R328. -/
def SAFE_RST_CNT : Nat := 0x10090030
def SAFE_RST_CNT_ACCEPTED : Fld := ⟨SAFE_RST_CNT, 0, 16⟩ -- RO, reset 0
def SAFE_RST_CNT_REFUSED : Fld := ⟨SAFE_RST_CNT, 16, 16⟩ -- RO, reset 0
/-- SAFE_SET_CHECK, R328. -/
def SAFE_SET_CHECK : Nat := 0x10090034
def SAFE_SET_CHECK_CHECK : Fld := ⟨SAFE_SET_CHECK, 0, 32⟩ -- RO, reset 0
/-- SAFE_SET_SEQ, R328. -/
def SAFE_SET_SEQ : Nat := 0x10090038
def SAFE_SET_SEQ_SEQ : Fld := ⟨SAFE_SET_SEQ, 0, 32⟩ -- RO, reset 0
/-- SAFE_SET_STAT, R328. -/
def SAFE_SET_STAT : Nat := 0x1009003C
def SAFE_SET_STAT_A_OK : Fld := ⟨SAFE_SET_STAT, 0, 1⟩ -- RO, reset 0
def SAFE_SET_STAT_B_OK : Fld := ⟨SAFE_SET_STAT, 1, 1⟩ -- RO, reset 0
def SAFE_SET_STAT_AGREE : Fld := ⟨SAFE_SET_STAT, 2, 1⟩ -- RO, reset 0
def SAFE_SET_STAT_SET_PENDING : Fld := ⟨SAFE_SET_STAT, 3, 1⟩ -- RO, reset 0
def SAFE_SET_STAT_RANGE_ERR : Fld := ⟨SAFE_SET_STAT, 4, 1⟩ -- RO, reset 0
def SAFE_SET_STAT_RAM_ERR : Fld := ⟨SAFE_SET_STAT, 5, 1⟩ -- RO, reset 0
def SAFE_SET_STAT_ERR_OFS : Fld := ⟨SAFE_SET_STAT, 16, 16⟩ -- RO, reset 0
/-- SAFE_UNVER, R328. -/
def SAFE_UNVER : Nat := 0x10090040
def SAFE_UNVER_MASK : Fld := ⟨SAFE_UNVER, 0, 24⟩ -- RO, reset 0
/-- SAFE_TRIP_CNT, R328. -/
def SAFE_TRIP_CNT : Nat := 0x10090044
def SAFE_TRIP_CNT_COUNT : Fld := ⟨SAFE_TRIP_CNT, 0, 32⟩ -- RO, reset 0
/-- SAFE_TEST_CNT, R328. -/
def SAFE_TEST_CNT : Nat := 0x10090048
def SAFE_TEST_CNT_COUNT : Fld := ⟨SAFE_TEST_CNT, 0, 32⟩ -- RO, reset 0
/-- SAFE_TEST_ABORT_CNT, R328. -/
def SAFE_TEST_ABORT_CNT : Nat := 0x1009004C
def SAFE_TEST_ABORT_CNT_COUNT : Fld := ⟨SAFE_TEST_ABORT_CNT, 0, 32⟩ -- RO, reset 0
/-- SAFE_RPT_LOST_CNT, R328. -/
def SAFE_RPT_LOST_CNT : Nat := 0x10090050
def SAFE_RPT_LOST_CNT_COUNT : Fld := ⟨SAFE_RPT_LOST_CNT, 0, 32⟩ -- RO, reset 0
/-! ### STL (R349) -/

/-- STL_STATUS, R349. -/
def STL_STATUS : Nat := 0x100A0000
def STL_STATUS_RUN : Fld := ⟨STL_STATUS, 0, 1⟩ -- RO, reset 0
def STL_STATUS_N_RUN : Fld := ⟨STL_STATUS, 16, 9⟩ -- RO, reset 0
/-- STL_NAMED_CHECK, R349. -/
def STL_NAMED_CHECK : Nat := 0x100A0004
def STL_NAMED_CHECK_CHECK : Fld := ⟨STL_NAMED_CHECK, 0, 32⟩ -- RO, reset 0
/-- STL_MASQ_CNT, R349. -/
def STL_MASQ_CNT : Nat := 0x100A0008
def STL_MASQ_CNT_COUNT : Fld := ⟨STL_MASQ_CNT, 0, 32⟩ -- RO, reset 0
/-- STL_LOST, R349. -/
def STL_LOST (w : Nat) : Nat := 0x100A0020 + 0x4 * w
def STL_LOST_LOST (w : Nat) : Fld := ⟨STL_LOST w, 0, 32⟩ -- RO, reset 0
/-- STL_RUN, R349. -/
def STL_RUN (w : Nat) : Nat := 0x100A0040 + 0x4 * w
def STL_RUN_RUN (w : Nat) : Fld := ⟨STL_RUN w, 0, 32⟩ -- RO, reset 0
/-- STL_S_STAT, R349. -/
def STL_S_STAT (s : Nat) : Nat := 0x100A1000 + 0x10 * s
def STL_S_STAT_STATE (s : Nat) : Fld := ⟨STL_S_STAT s, 0, 2⟩ -- RO, reset 0
def STL_S_STAT_FALLBACK (s : Nat) : Fld := ⟨STL_S_STAT s, 2, 1⟩ -- RO, reset 0
def STL_S_STAT_NAMED (s : Nat) : Fld := ⟨STL_S_STAT s, 3, 1⟩ -- RO, reset 0
def STL_S_STAT_MASQ (s : Nat) : Fld := ⟨STL_S_STAT s, 8, 8⟩ -- RO, reset 0
def STL_S_STAT_LOST (s : Nat) : Fld := ⟨STL_S_STAT s, 16, 16⟩ -- RO, reset 0
/-- STL_S_RXSEQ, R349. -/
def STL_S_RXSEQ (s : Nat) : Nat := 0x100A1004 + 0x10 * s
def STL_S_RXSEQ_SEQ (s : Nat) : Fld := ⟨STL_S_RXSEQ s, 0, 32⟩ -- RO, reset 0
/-- STL_S_ERR, R349. -/
def STL_S_ERR (s : Nat) : Nat := 0x100A1008 + 0x10 * s
def STL_S_ERR_CRC_ERR (s : Nat) : Fld := ⟨STL_S_ERR s, 0, 16⟩ -- RO, reset 0
def STL_S_ERR_SEQ_ERR (s : Nat) : Fld := ⟨STL_S_ERR s, 16, 16⟩ -- RO, reset 0
/-- STL_S_CNT, R349. -/
def STL_S_CNT (s : Nat) : Nat := 0x100A100C + 0x10 * s
def STL_S_CNT_DELAY (s : Nat) : Fld := ⟨STL_S_CNT s, 0, 8⟩ -- RO, reset 0
def STL_S_CNT_DUP (s : Nat) : Fld := ⟨STL_S_CNT s, 8, 8⟩ -- RO, reset 0
def STL_S_CNT_GAP (s : Nat) : Fld := ⟨STL_S_CNT s, 16, 16⟩ -- RO, reset 0
/-! ### RED (R373) -/

/-- RED_CFG, R373. -/
def RED_CFG : Nat := 0x100B0000
def RED_CFG_PAIR : Fld := ⟨RED_CFG, 0, 1⟩ -- RO, reset Stored value
def RED_CFG_HOME : Fld := ⟨RED_CFG, 1, 1⟩ -- RO, reset Stored value
def RED_CFG_KEEP_PATH : Fld := ⟨RED_CFG, 2, 1⟩ -- RO, reset Stored value
def RED_CFG_KSVC : Fld := ⟨RED_CFG, 3, 1⟩ -- RO, reset 0
def RED_CFG_PAIR_ID : Fld := ⟨RED_CFG, 16, 16⟩ -- RO, reset Stored value
/-- RED_STATUS, R373. -/
def RED_STATUS : Nat := 0x100B0004
def RED_STATUS_ROLE : Fld := ⟨RED_STATUS, 0, 3⟩ -- RO, reset 0
def RED_STATUS_LONE : Fld := ⟨RED_STATUS, 3, 1⟩ -- RO, reset 0
def RED_STATUS_PEER_J5 : Fld := ⟨RED_STATUS, 4, 1⟩ -- RO, reset 0
def RED_STATUS_PEER_RING : Fld := ⟨RED_STATUS, 5, 1⟩ -- RO, reset 0
def RED_STATUS_KEEPER_OK : Fld := ⟨RED_STATUS, 6, 1⟩ -- RO, reset 0
def RED_STATUS_HO_RUN : Fld := ⟨RED_STATUS, 7, 1⟩ -- RO, reset 0
def RED_STATUS_HO_STEP : Fld := ⟨RED_STATUS, 8, 2⟩ -- RO, reset 0
def RED_STATUS_TB_REQ : Fld := ⟨RED_STATUS, 10, 1⟩ -- RO, reset 0
/-- RED_EPOCH, R373. -/
def RED_EPOCH : Nat := 0x100B0008
def RED_EPOCH_EPOCH : Fld := ⟨RED_EPOCH, 0, 32⟩ -- RO, reset Stored value
/-- RED_HEALTH, R373. -/
def RED_HEALTH : Nat := 0x100B000C
def RED_HEALTH_OWN : Fld := ⟨RED_HEALTH, 0, 16⟩ -- RO, reset 0
def RED_HEALTH_PEER : Fld := ⟨RED_HEALTH, 16, 16⟩ -- RO, reset 0
/-- RED_TB, R373. -/
def RED_TB : Nat := 0x100B0010
def RED_TB_REMAIN_S : Fld := ⟨RED_TB, 0, 16⟩ -- RO, reset 0
def RED_TB_TB_EN : Fld := ⟨RED_TB, 16, 1⟩ -- RO, reset 1
/-- RED_PEER_SEQ, R373. -/
def RED_PEER_SEQ : Nat := 0x100B0014
def RED_PEER_SEQ_SEQ : Fld := ⟨RED_PEER_SEQ, 0, 32⟩ -- RO, reset 0
/-- RED_LAST_SW_T_LO, R373. -/
def RED_LAST_SW_T_LO : Nat := 0x100B0018
def RED_LAST_SW_T_LO_TIME : Fld := ⟨RED_LAST_SW_T_LO, 0, 32⟩ -- RO, reset 0
/-- RED_LAST_SW_T_HI, R373. -/
def RED_LAST_SW_T_HI : Nat := 0x100B001C
def RED_LAST_SW_T_HI_TIME : Fld := ⟨RED_LAST_SW_T_HI, 0, 32⟩ -- RO, reset 0
/-- RED_LAST_GAP, R373. -/
def RED_LAST_GAP : Nat := 0x100B0020
def RED_LAST_GAP_US : Fld := ⟨RED_LAST_GAP, 0, 32⟩ -- RO, reset 0
/-- RED_SW_CNT, R373. -/
def RED_SW_CNT : Nat := 0x100B0024
def RED_SW_CNT_FAIL : Fld := ⟨RED_SW_CNT, 0, 16⟩ -- RO, reset 0
def RED_SW_CNT_PLANNED : Fld := ⟨RED_SW_CNT, 16, 16⟩ -- RO, reset 0
/-- RED_BEACON_BAD_CNT, R373. -/
def RED_BEACON_BAD_CNT : Nat := 0x100B0028
def RED_BEACON_BAD_CNT_COUNT : Fld := ⟨RED_BEACON_BAD_CNT, 0, 32⟩ -- RO, reset 0
/-- RED_DENY_CNT, R373. -/
def RED_DENY_CNT : Nat := 0x100B002C
def RED_DENY_CNT_COUNT : Fld := ⟨RED_DENY_CNT, 0, 32⟩ -- RO, reset 0
/-- RED_FENCE_CNT, R373. -/
def RED_FENCE_CNT : Nat := 0x100B0030
def RED_FENCE_CNT_COUNT : Fld := ⟨RED_FENCE_CNT, 0, 32⟩ -- RO, reset 0
/-- RED_ERR, R373. -/
def RED_ERR : Nat := 0x100B0034
def RED_ERR_BEACON_LOST : Fld := ⟨RED_ERR, 0, 1⟩ -- W1C, reset 0
def RED_ERR_DENIED : Fld := ⟨RED_ERR, 1, 1⟩ -- W1C, reset 0
def RED_ERR_FENCED : Fld := ⟨RED_ERR, 2, 1⟩ -- W1C, reset 0
def RED_ERR_EPOCH_CONFLICT : Fld := ⟨RED_ERR, 3, 1⟩ -- W1C, reset 0
def RED_ERR_CFG_MISMATCH : Fld := ⟨RED_ERR, 4, 1⟩ -- W1C, reset 0
def RED_ERR_KEEPER_LOST : Fld := ⟨RED_ERR, 5, 1⟩ -- W1C, reset 0
def RED_ERR_HO_ABORT : Fld := ⟨RED_ERR, 6, 1⟩ -- W1C, reset 0
def RED_ERR_HOLD_EXPIRED : Fld := ⟨RED_ERR, 7, 1⟩ -- W1C, reset 0
/-- RED_KSVC, R373. -/
def RED_KSVC : Nat := 0x100B0040
def RED_KSVC_N : Fld := ⟨RED_KSVC, 0, 5⟩ -- RO, reset 0
def RED_KSVC_DENY_SENT : Fld := ⟨RED_KSVC, 16, 16⟩ -- RO, reset 0
/-- RED_KS_EPOCH, R373. -/
def RED_KS_EPOCH (p : Nat) : Nat := 0x100B0080 + 0x8 * p
def RED_KS_EPOCH_EPOCH (p : Nat) : Fld := ⟨RED_KS_EPOCH p, 0, 32⟩ -- RO, reset 0
/-- RED_KS_STATE, R373. -/
def RED_KS_STATE (p : Nat) : Nat := 0x100B0084 + 0x8 * p
def RED_KS_STATE_HOLDER (p : Nat) : Fld := ⟨RED_KS_STATE p, 0, 2⟩ -- RO, reset 3
def RED_KS_STATE_WARM (p : Nat) : Fld := ⟨RED_KS_STATE p, 2, 1⟩ -- RO, reset 0
def RED_KS_STATE_PENDING (p : Nat) : Fld := ⟨RED_KS_STATE p, 3, 1⟩ -- RO, reset 0
/-! ### ETH (R400) -/

/-- ETH_CFG, R400. -/
def ETH_CFG : Nat := 0x100C0000
def ETH_CFG_ADDR : Fld := ⟨ETH_CFG, 0, 14⟩ -- RO, reset Stored value
def ETH_CFG_N_RING : Fld := ⟨ETH_CFG, 16, 7⟩ -- RO, reset Stored value
/-- ETH_STATUS, R400. -/
def ETH_STATUS : Nat := 0x100C0004
def ETH_STATUS_LINK_A : Fld := ⟨ETH_STATUS, 0, 1⟩ -- RO, reset 0
def ETH_STATUS_LINK_B : Fld := ⟨ETH_STATUS, 1, 1⟩ -- RO, reset 0
def ETH_STATUS_PREEMPT_A : Fld := ⟨ETH_STATUS, 2, 1⟩ -- RO, reset 0
def ETH_STATUS_PREEMPT_B : Fld := ⟨ETH_STATUS, 3, 1⟩ -- RO, reset 0
def ETH_STATUS_MASTER_A : Fld := ⟨ETH_STATUS, 4, 1⟩ -- RO, reset 0
def ETH_STATUS_MASTER_B : Fld := ⟨ETH_STATUS, 5, 1⟩ -- RO, reset 0
def ETH_STATUS_RING_OK : Fld := ⟨ETH_STATUS, 6, 1⟩ -- RO, reset 0
/-- ETH_BREAK, R400. -/
def ETH_BREAK : Nat := 0x100C0008
def ETH_BREAK_POS : Fld := ⟨ETH_BREAK, 0, 6⟩ -- RO, reset 0
def ETH_BREAK_VALID : Fld := ⟨ETH_BREAK, 6, 1⟩ -- RO, reset 0
/-- ETH_NO_ROUTE_CNT, R400. -/
def ETH_NO_ROUTE_CNT : Nat := 0x100C000C
def ETH_NO_ROUTE_CNT_COUNT : Fld := ⟨ETH_NO_ROUTE_CNT, 0, 32⟩ -- RO, reset 0
/-- ETH_P_RX, R400. -/
def ETH_P_RX (p : Nat) : Nat := 0x100C0010 + 0x20 * p
def ETH_P_RX_COUNT (p : Nat) : Fld := ⟨ETH_P_RX p, 0, 32⟩ -- RO, reset 0
/-- ETH_P_TX, R400. -/
def ETH_P_TX (p : Nat) : Nat := 0x100C0014 + 0x20 * p
def ETH_P_TX_COUNT (p : Nat) : Fld := ⟨ETH_P_TX p, 0, 32⟩ -- RO, reset 0
/-- ETH_P_FCS_ERR, R400. -/
def ETH_P_FCS_ERR (p : Nat) : Nat := 0x100C0018 + 0x20 * p
def ETH_P_FCS_ERR_COUNT (p : Nat) : Fld := ⟨ETH_P_FCS_ERR p, 0, 32⟩ -- RO, reset 0
/-- ETH_P_STOMPED, R400. -/
def ETH_P_STOMPED (p : Nat) : Nat := 0x100C001C + 0x20 * p
def ETH_P_STOMPED_COUNT (p : Nat) : Fld := ⟨ETH_P_STOMPED p, 0, 32⟩ -- RO, reset 0
/-- ETH_P_HOP_DROP, R400. -/
def ETH_P_HOP_DROP (p : Nat) : Nat := 0x100C0020 + 0x20 * p
def ETH_P_HOP_DROP_COUNT (p : Nat) : Fld := ⟨ETH_P_HOP_DROP p, 0, 16⟩ -- RO, reset 0
def ETH_P_HOP_DROP_Q_DROP (p : Nat) : Fld := ⟨ETH_P_HOP_DROP p, 16, 16⟩ -- RO, reset 0
/-- ETH_P_CL0, R400. -/
def ETH_P_CL0 (p : Nat) : Nat := 0x100C0024 + 0x20 * p
def ETH_P_CL0_COUNT (p : Nat) : Fld := ⟨ETH_P_CL0 p, 0, 32⟩ -- RO, reset 0
/-- ETH_P_CL0_WAIT, R400. -/
def ETH_P_CL0_WAIT (p : Nat) : Nat := 0x100C0028 + 0x20 * p
def ETH_P_CL0_WAIT_CL0_WAIT_MAX (p : Nat) : Fld := ⟨ETH_P_CL0_WAIT p, 0, 16⟩ -- RO, reset 0
def ETH_P_CL0_WAIT_RES_MAX (p : Nat) : Fld := ⟨ETH_P_CL0_WAIT p, 16, 16⟩ -- RO, reset 0
/-- ETH_P_PREEMPT, R400. -/
def ETH_P_PREEMPT (p : Nat) : Nat := 0x100C002C + 0x20 * p
def ETH_P_PREEMPT_COUNT (p : Nat) : Fld := ⟨ETH_P_PREEMPT p, 0, 32⟩ -- RO, reset 0
/-- ETH_C1_LOST, R400. -/
def ETH_C1_LOST : Nat := 0x100C0050
def ETH_C1_LOST_COUNT : Fld := ⟨ETH_C1_LOST, 0, 32⟩ -- RO, reset 0
/-- ETH_C2_LOST, R400. -/
def ETH_C2_LOST : Nat := 0x100C0054
def ETH_C2_LOST_COUNT : Fld := ⟨ETH_C2_LOST, 0, 32⟩ -- RO, reset 0
/-- ETH_C3_LOST, R400. -/
def ETH_C3_LOST : Nat := 0x100C0058
def ETH_C3_LOST_COUNT : Fld := ⟨ETH_C3_LOST, 0, 32⟩ -- RO, reset 0
/-- ETH_ERR, R400. -/
def ETH_ERR : Nat := 0x100C005C
def ETH_ERR_LINK_A : Fld := ⟨ETH_ERR, 0, 1⟩ -- W1C, reset 0
def ETH_ERR_LINK_B : Fld := ⟨ETH_ERR, 1, 1⟩ -- W1C, reset 0
def ETH_ERR_NO_PREEMPT : Fld := ⟨ETH_ERR, 2, 1⟩ -- W1C, reset 0
def ETH_ERR_FCS : Fld := ⟨ETH_ERR, 3, 1⟩ -- W1C, reset 0
def ETH_ERR_HDR : Fld := ⟨ETH_ERR, 4, 1⟩ -- W1C, reset 0
def ETH_ERR_LOST : Fld := ⟨ETH_ERR, 5, 1⟩ -- W1C, reset 0
/-- ETH_MAC_LO, R400. -/
def ETH_MAC_LO : Nat := 0x100C0060
def ETH_MAC_LO_MAC : Fld := ⟨ETH_MAC_LO, 0, 32⟩ -- RO, reset Fixed
/-- ETH_MAC_HI, R400. -/
def ETH_MAC_HI : Nat := 0x100C0064
def ETH_MAC_HI_MAC : Fld := ⟨ETH_MAC_HI, 0, 16⟩ -- RO, reset Fixed
/-! ### PTP (R401) -/

/-- PTP_STATUS, R401. -/
def PTP_STATUS : Nat := 0x100D0000
def PTP_STATUS_RUN : Fld := ⟨PTP_STATUS, 0, 1⟩ -- RO, reset 0
def PTP_STATUS_SEL : Fld := ⟨PTP_STATUS, 1, 1⟩ -- RO, reset 0
def PTP_STATUS_ACQ : Fld := ⟨PTP_STATUS, 2, 1⟩ -- RO, reset 0
def PTP_STATUS_SLEWING : Fld := ⟨PTP_STATUS, 3, 1⟩ -- RO, reset 0
def PTP_STATUS_D0_EN : Fld := ⟨PTP_STATUS, 4, 1⟩ -- RO, reset 0
def PTP_STATUS_D1_EN : Fld := ⟨PTP_STATUS, 5, 1⟩ -- RO, reset 0
def PTP_STATUS_D0_LOCK : Fld := ⟨PTP_STATUS, 6, 1⟩ -- RO, reset 0
def PTP_STATUS_D1_LOCK : Fld := ⟨PTP_STATUS, 7, 1⟩ -- RO, reset 0
def PTP_STATUS_D0_SYNC : Fld := ⟨PTP_STATUS, 8, 1⟩ -- RO, reset 0
def PTP_STATUS_D1_SYNC : Fld := ⟨PTP_STATUS, 9, 1⟩ -- RO, reset 0
def PTP_STATUS_HOLDOVER : Fld := ⟨PTP_STATUS, 10, 1⟩ -- RO, reset 0
/-- PTP_TIME_LO, R401. -/
def PTP_TIME_LO : Nat := 0x100D0004
def PTP_TIME_LO_PT : Fld := ⟨PTP_TIME_LO, 0, 32⟩ -- RO, reset 0
/-- PTP_TIME_HI, R401. -/
def PTP_TIME_HI : Nat := 0x100D0008
def PTP_TIME_HI_PT : Fld := ⟨PTP_TIME_HI, 0, 32⟩ -- RO, reset 0
/-- PTP_D0_LO, R401. -/
def PTP_D0_LO : Nat := 0x100D000C
def PTP_D0_LO_T : Fld := ⟨PTP_D0_LO, 0, 32⟩ -- RO, reset 0
/-- PTP_D0_HI, R401. -/
def PTP_D0_HI : Nat := 0x100D0010
def PTP_D0_HI_T : Fld := ⟨PTP_D0_HI, 0, 32⟩ -- RO, reset 0
/-- PTP_D1_LO, R401. -/
def PTP_D1_LO : Nat := 0x100D0014
def PTP_D1_LO_T : Fld := ⟨PTP_D1_LO, 0, 32⟩ -- RO, reset 0
/-- PTP_D1_HI, R401. -/
def PTP_D1_HI : Nat := 0x100D0018
def PTP_D1_HI_T : Fld := ⟨PTP_D1_HI, 0, 32⟩ -- RO, reset 0
/-- PTP_INC0, R401. -/
def PTP_INC0 : Nat := 0x100D001C
def PTP_INC0_INC : Fld := ⟨PTP_INC0, 0, 32⟩ -- RW, reset 0x4000_0000
/-- PTP_INC1, R401. -/
def PTP_INC1 : Nat := 0x100D0020
def PTP_INC1_INC : Fld := ⟨PTP_INC1, 0, 32⟩ -- RW, reset 0x4000_0000
/-- PTP_SLEW, R401. -/
def PTP_SLEW : Nat := 0x100D0024
def PTP_SLEW_S : Fld := ⟨PTP_SLEW, 0, 32⟩ -- RS, reset 0
/-- PTP_LINK_DLY, R401. -/
def PTP_LINK_DLY : Nat := 0x100D0028
def PTP_LINK_DLY_A_NS : Fld := ⟨PTP_LINK_DLY, 0, 16⟩ -- RW, reset 0
def PTP_LINK_DLY_B_NS : Fld := ⟨PTP_LINK_DLY, 16, 16⟩ -- RW, reset 0
/-- PTP_TS_LOST_CNT, R401. -/
def PTP_TS_LOST_CNT : Nat := 0x100D002C
def PTP_TS_LOST_CNT_COUNT : Fld := ⟨PTP_TS_LOST_CNT, 0, 32⟩ -- RO, reset 0
/-- PTP_STEP_CNT, R401. -/
def PTP_STEP_CNT : Nat := 0x100D0030
def PTP_STEP_CNT_STEPS : Fld := ⟨PTP_STEP_CNT, 0, 16⟩ -- RO, reset 0
def PTP_STEP_CNT_SWITCHES : Fld := ⟨PTP_STEP_CNT, 16, 16⟩ -- RO, reset 0
/-- PTP_TC_MISS, R401. -/
def PTP_TC_MISS : Nat := 0x100D0034
def PTP_TC_MISS_COUNT : Fld := ⟨PTP_TC_MISS, 0, 32⟩ -- RO, reset 0
/-- PTP_ERR, R401. -/
def PTP_ERR : Nat := 0x100D0038
def PTP_ERR_STEP : Fld := ⟨PTP_ERR, 0, 1⟩ -- W1C, reset 0
def PTP_ERR_SWITCH : Fld := ⟨PTP_ERR, 1, 1⟩ -- W1C, reset 0
def PTP_ERR_LOSS_D0 : Fld := ⟨PTP_ERR, 2, 1⟩ -- W1C, reset 0
def PTP_ERR_LOSS_D1 : Fld := ⟨PTP_ERR, 3, 1⟩ -- W1C, reset 0
def PTP_ERR_INC_SAT : Fld := ⟨PTP_ERR, 4, 1⟩ -- W1C, reset 0
def PTP_ERR_LOST : Fld := ⟨PTP_ERR, 5, 1⟩ -- W1C, reset 0
/-! ### CAN (R421) -/

/-- CAN_STATUS, R421. -/
def CAN_STATUS (n : Nat) : Nat := 0x100E0000 + 0x1000 * n
def CAN_STATUS_STATE (n : Nat) : Fld := ⟨CAN_STATUS n, 0, 3⟩ -- RO, reset 0
def CAN_STATUS_MODE (n : Nat) : Fld := ⟨CAN_STATUS n, 3, 2⟩ -- RO, reset 0
def CAN_STATUS_ALONE (n : Nat) : Fld := ⟨CAN_STATUS n, 5, 1⟩ -- RO, reset 0
def CAN_STATUS_TX_BUSY (n : Nat) : Fld := ⟨CAN_STATUS n, 6, 1⟩ -- RO, reset 0
/-- CAN_ECNT, R421. -/
def CAN_ECNT (n : Nat) : Nat := 0x100E0004 + 0x1000 * n
def CAN_ECNT_TEC (n : Nat) : Fld := ⟨CAN_ECNT n, 0, 9⟩ -- RS, reset 0
def CAN_ECNT_RXEC (n : Nat) : Fld := ⟨CAN_ECNT n, 16, 9⟩ -- RS, reset 0
/-- CAN_LEC, R421. -/
def CAN_LEC (n : Nat) : Nat := 0x100E0008 + 0x1000 * n
def CAN_LEC_CODE (n : Nat) : Fld := ⟨CAN_LEC n, 0, 3⟩ -- RO, reset 0
def CAN_LEC_DATA_PHASE (n : Nat) : Fld := ⟨CAN_LEC n, 3, 1⟩ -- RO, reset 0
def CAN_LEC_TX (n : Nat) : Fld := ⟨CAN_LEC n, 4, 1⟩ -- RO, reset 0
/-- CAN_TDC, R421. -/
def CAN_TDC (n : Nat) : Nat := 0x100E000C + 0x1000 * n
def CAN_TDC_TDCV (n : Nat) : Fld := ⟨CAN_TDC n, 0, 7⟩ -- RS, reset 0
/-- CAN_IMG_BASE_LO, R421. -/
def CAN_IMG_BASE_LO (n : Nat) : Nat := 0x100E0010 + 0x1000 * n
def CAN_IMG_BASE_LO_BASE (n : Nat) : Fld := ⟨CAN_IMG_BASE_LO n, 0, 32⟩ -- RW, reset 0
/-- CAN_IMG_BASE_HI, R421. -/
def CAN_IMG_BASE_HI (n : Nat) : Nat := 0x100E0014 + 0x1000 * n
def CAN_IMG_BASE_HI_BASE (n : Nat) : Fld := ⟨CAN_IMG_BASE_HI n, 0, 32⟩ -- RW, reset 0
/-- CAN_RX_CNT, R421. -/
def CAN_RX_CNT (n : Nat) : Nat := 0x100E0018 + 0x1000 * n
def CAN_RX_CNT_COUNT (n : Nat) : Fld := ⟨CAN_RX_CNT n, 0, 32⟩ -- RO, reset 0
/-- CAN_TX_CNT, R421. -/
def CAN_TX_CNT (n : Nat) : Nat := 0x100E001C + 0x1000 * n
def CAN_TX_CNT_COUNT (n : Nat) : Fld := ⟨CAN_TX_CNT n, 0, 32⟩ -- RO, reset 0
/-- CAN_ERRFRM_CNT, R421. -/
def CAN_ERRFRM_CNT (n : Nat) : Nat := 0x100E0020 + 0x1000 * n
def CAN_ERRFRM_CNT_COUNT (n : Nat) : Fld := ⟨CAN_ERRFRM_CNT n, 0, 32⟩ -- RO, reset 0
/-- CAN_NOMATCH_CNT, R421. -/
def CAN_NOMATCH_CNT (n : Nat) : Nat := 0x100E0024 + 0x1000 * n
def CAN_NOMATCH_CNT_COUNT (n : Nat) : Fld := ⟨CAN_NOMATCH_CNT n, 0, 32⟩ -- RO, reset 0
/-- CAN_RPT_LOST_CNT, R421. -/
def CAN_RPT_LOST_CNT (n : Nat) : Nat := 0x100E0028 + 0x1000 * n
def CAN_RPT_LOST_CNT_COUNT (n : Nat) : Fld := ⟨CAN_RPT_LOST_CNT n, 0, 32⟩ -- RO, reset 0
/-- CAN_BO_CNT, R421. -/
def CAN_BO_CNT (n : Nat) : Nat := 0x100E002C + 0x1000 * n
def CAN_BO_CNT_BUSOFF (n : Nat) : Fld := ⟨CAN_BO_CNT n, 0, 16⟩ -- RO, reset 0
def CAN_BO_CNT_PXE_CNT (n : Nat) : Fld := ⟨CAN_BO_CNT n, 16, 16⟩ -- RO, reset 0
/-- CAN_ERR, R421. -/
def CAN_ERR (n : Nat) : Nat := 0x100E0030 + 0x1000 * n
def CAN_ERR_BUS_OFF (n : Nat) : Fld := ⟨CAN_ERR n, 0, 1⟩ -- W1C, reset 0
def CAN_ERR_PASSIVE (n : Nat) : Fld := ⟨CAN_ERR n, 1, 1⟩ -- W1C, reset 0
def CAN_ERR_ALONE (n : Nat) : Fld := ⟨CAN_ERR n, 2, 1⟩ -- W1C, reset 0
def CAN_ERR_PXE (n : Nat) : Fld := ⟨CAN_ERR n, 3, 1⟩ -- W1C, reset 0
def CAN_ERR_TDC_RANGE (n : Nat) : Fld := ⟨CAN_ERR n, 4, 1⟩ -- W1C, reset 0
def CAN_ERR_LOST (n : Nat) : Fld := ⟨CAN_ERR n, 5, 1⟩ -- W1C, reset 0
/-- CAN_TXPEND, R421. -/
def CAN_TXPEND (n : Nat) (w : Nat) : Nat := 0x100E0040 + 0x1000 * n + 0x4 * w
def CAN_TXPEND_PEND (n : Nat) (w : Nat) : Fld := ⟨CAN_TXPEND n w, 0, 32⟩ -- RO, reset 0
/-- CAN_STL_OWN, R421. -/
def CAN_STL_OWN (n : Nat) (w : Nat) : Nat := 0x100E0050 + 0x1000 * n + 0x4 * w
def CAN_STL_OWN_OWN (n : Nat) (w : Nat) : Fld := ⟨CAN_STL_OWN n w, 0, 32⟩ -- RO, reset 0
/-! ### UPD (R441) -/

/-- UPD_STATUS, R441. -/
def UPD_STATUS : Nat := 0x100F0000
def UPD_STATUS_RX : Fld := ⟨UPD_STATUS, 0, 1⟩ -- RO, reset 0
def UPD_STATUS_FWD : Fld := ⟨UPD_STATUS, 1, 1⟩ -- RO, reset 0
def UPD_STATUS_HO_RUN : Fld := ⟨UPD_STATUS, 2, 1⟩ -- RO, reset 0
def UPD_STATUS_HOLD_WIN : Fld := ⟨UPD_STATUS, 3, 1⟩ -- RO, reset 0
def UPD_STATUS_SP_STAGED : Fld := ⟨UPD_STATUS, 4, 1⟩ -- RO, reset 0
def UPD_STATUS_HO_KIND : Fld := ⟨UPD_STATUS, 5, 2⟩ -- RO, reset 0
def UPD_STATUS_HO_STEP : Fld := ⟨UPD_STATUS, 8, 4⟩ -- RO, reset 0
/-- UPD_BOOT, R441. -/
def UPD_BOOT : Nat := 0x100F0004
def UPD_BOOT_SYS_RUN : Fld := ⟨UPD_BOOT, 0, 1⟩ -- RO, reset Stored value
def UPD_BOOT_APP_RUN : Fld := ⟨UPD_BOOT, 1, 1⟩ -- RO, reset Stored value
def UPD_BOOT_SYS_TRIAL : Fld := ⟨UPD_BOOT, 2, 1⟩ -- RO, reset Stored value
def UPD_BOOT_APP_TRIAL : Fld := ⟨UPD_BOOT, 3, 1⟩ -- RO, reset Stored value
def UPD_BOOT_TRIAL_CNT : Fld := ⟨UPD_BOOT, 4, 2⟩ -- RO, reset Stored value
/-- UPD_FLOOR, R441. -/
def UPD_FLOOR : Nat := 0x100F0008
def UPD_FLOOR_SYS : Fld := ⟨UPD_FLOOR, 0, 16⟩ -- RO, reset Stored value
def UPD_FLOOR_APP : Fld := ⟨UPD_FLOOR, 16, 16⟩ -- RO, reset Stored value
/-- UPD_SLOT, R441. -/
def UPD_SLOT (k : Nat) : Nat := 0x100F0010 + 0x4 * k
def UPD_SLOT_STATE (k : Nat) : Fld := ⟨UPD_SLOT k, 0, 3⟩ -- RO, reset Stored value
def UPD_SLOT_SEC_LEVEL (k : Nat) : Fld := ⟨UPD_SLOT k, 16, 16⟩ -- RO, reset Stored value
/-- UPD_VER, R441. -/
def UPD_VER (k : Nat) : Nat := 0x100F0020 + 0x4 * k
def UPD_VER_VERSION (k : Nat) : Fld := ⟨UPD_VER k, 0, 32⟩ -- RO, reset Stored value
/-- UPD_RX_PROG, R441. -/
def UPD_RX_PROG : Nat := 0x100F0030
def UPD_RX_PROG_DONE : Fld := ⟨UPD_RX_PROG, 0, 16⟩ -- RO, reset 0
def UPD_RX_PROG_TOTAL : Fld := ⟨UPD_RX_PROG, 16, 16⟩ -- RO, reset 0
/-- UPD_RX_SRC, R441. -/
def UPD_RX_SRC : Nat := 0x100F0034
def UPD_RX_SRC_ADDR : Fld := ⟨UPD_RX_SRC, 0, 14⟩ -- RO, reset 0
def UPD_RX_SRC_HOST : Fld := ⟨UPD_RX_SRC, 15, 1⟩ -- RO, reset 0
def UPD_RX_SRC_SLOT : Fld := ⟨UPD_RX_SRC, 16, 2⟩ -- RO, reset 0
/-- UPD_LAST_REFUSE, R441. -/
def UPD_LAST_REFUSE : Nat := 0x100F0038
def UPD_LAST_REFUSE_CAUSE : Fld := ⟨UPD_LAST_REFUSE, 0, 8⟩ -- RO, reset 0
/-- UPD_HOLD_LAST_US, R441. -/
def UPD_HOLD_LAST_US : Nat := 0x100F003C
def UPD_HOLD_LAST_US_US : Fld := ⟨UPD_HOLD_LAST_US, 0, 32⟩ -- RO, reset 0
/-- UPD_REFUSE_CNT, R441. -/
def UPD_REFUSE_CNT : Nat := 0x100F0040
def UPD_REFUSE_CNT_COUNT : Fld := ⟨UPD_REFUSE_CNT, 0, 32⟩ -- RO, reset 0
/-- UPD_RETRY_CNT, R441. -/
def UPD_RETRY_CNT : Nat := 0x100F0044
def UPD_RETRY_CNT_COUNT : Fld := ⟨UPD_RETRY_CNT, 0, 32⟩ -- RO, reset 0
/-- UPD_ROLLBACK_CNT, R441. -/
def UPD_ROLLBACK_CNT : Nat := 0x100F0048
def UPD_ROLLBACK_CNT_ROLLBACK : Fld := ⟨UPD_ROLLBACK_CNT, 0, 16⟩ -- RO, reset 0
def UPD_ROLLBACK_CNT_REVERT : Fld := ⟨UPD_ROLLBACK_CNT, 16, 16⟩ -- RO, reset 0
/-- UPD_ERR, R441. -/
def UPD_ERR : Nat := 0x100F004C
def UPD_ERR_HDR : Fld := ⟨UPD_ERR, 0, 1⟩ -- W1C, reset 0
def UPD_ERR_HASH : Fld := ⟨UPD_ERR, 1, 1⟩ -- W1C, reset 0
def UPD_ERR_STOR : Fld := ⟨UPD_ERR, 2, 1⟩ -- W1C, reset 0
def UPD_ERR_HO_ABORT : Fld := ⟨UPD_ERR, 3, 1⟩ -- W1C, reset 0
def UPD_ERR_ROLLBACK : Fld := ⟨UPD_ERR, 4, 1⟩ -- W1C, reset 0
def UPD_ERR_SP_REVERT : Fld := ⟨UPD_ERR, 5, 1⟩ -- W1C, reset 0
def UPD_ERR_FWD_END : Fld := ⟨UPD_ERR, 6, 1⟩ -- W1C, reset 0
def UPD_ERR_LOST : Fld := ⟨UPD_ERR, 7, 1⟩ -- W1C, reset 0
/-! ### REC (R456) -/

/-- REC_STATUS, R456. -/
def REC_STATUS : Nat := 0x10100000
def REC_STATUS_RUN : Fld := ⟨REC_STATUS, 0, 1⟩ -- RO, reset 0
def REC_STATUS_FLUSHING : Fld := ⟨REC_STATUS, 1, 1⟩ -- RO, reset 0
def REC_STATUS_WR_HELD : Fld := ⟨REC_STATUS, 2, 1⟩ -- RO, reset 0
def REC_STATUS_NONCE : Fld := ⟨REC_STATUS, 3, 1⟩ -- RO, reset 0
def REC_STATUS_SEALED : Fld := ⟨REC_STATUS, 4, 1⟩ -- RO, reset 0
/-- REC_NEXT_SEQ, R456. -/
def REC_NEXT_SEQ : Nat := 0x10100004
def REC_NEXT_SEQ_SEQ : Fld := ⟨REC_NEXT_SEQ, 0, 32⟩ -- RO, reset Stored value
/-- REC_OLDEST_SEQ, R456. -/
def REC_OLDEST_SEQ : Nat := 0x10100008
def REC_OLDEST_SEQ_SEQ : Fld := ⟨REC_OLDEST_SEQ, 0, 32⟩ -- RO, reset Stored value
/-- REC_STORED_SEQ, R456. -/
def REC_STORED_SEQ : Nat := 0x1010000C
def REC_STORED_SEQ_SEQ : Fld := ⟨REC_STORED_SEQ, 0, 32⟩ -- RO, reset Stored value
/-- REC_BUF, R456. -/
def REC_BUF : Nat := 0x10100010
def REC_BUF_WAITING : Fld := ⟨REC_BUF, 0, 13⟩ -- RO, reset 0
def REC_BUF_BUCKETS : Fld := ⟨REC_BUF, 16, 11⟩ -- RO, reset 0
/-- REC_DROP_CNT, R456. -/
def REC_DROP_CNT : Nat := 0x10100014
def REC_DROP_CNT_COUNT : Fld := ⟨REC_DROP_CNT, 0, 32⟩ -- RO, reset 0
/-- REC_SUPPR_CNT, R456. -/
def REC_SUPPR_CNT : Nat := 0x10100018
def REC_SUPPR_CNT_COUNT : Fld := ⟨REC_SUPPR_CNT, 0, 32⟩ -- RO, reset 0
/-- REC_ERR, R456. -/
def REC_ERR : Nat := 0x1010001C
def REC_ERR_DROP : Fld := ⟨REC_ERR, 0, 1⟩ -- W1C, reset 0
def REC_ERR_STOR : Fld := ⟨REC_ERR, 1, 1⟩ -- W1C, reset 0
def REC_ERR_CLEAR_REFUSED : Fld := ⟨REC_ERR, 2, 1⟩ -- W1C, reset 0
def REC_ERR_SHARED : Fld := ⟨REC_ERR, 3, 1⟩ -- W1C, reset 0
def REC_ERR_UNCLEAN : Fld := ⟨REC_ERR, 4, 1⟩ -- W1C, reset 0
/-! ### IDK (R470) -/

/-- IDK_STATUS, R470. -/
def IDK_STATUS : Nat := 0x10110000
def IDK_STATUS_READY : Fld := ⟨IDK_STATUS, 0, 1⟩ -- RO, reset 0
def IDK_STATUS_RNG_FAIL : Fld := ⟨IDK_STATUS, 1, 1⟩ -- RO, reset 0
def IDK_STATUS_A_OK : Fld := ⟨IDK_STATUS, 2, 1⟩ -- RO, reset 0
def IDK_STATUS_B_OK : Fld := ⟨IDK_STATUS, 3, 1⟩ -- RO, reset 0
def IDK_STATUS_N_OPER : Fld := ⟨IDK_STATUS, 4, 6⟩ -- RO, reset 0
def IDK_STATUS_N_SESS : Fld := ⟨IDK_STATUS, 12, 3⟩ -- RO, reset 0
def IDK_STATUS_NONCE : Fld := ⟨IDK_STATUS, 15, 1⟩ -- RO, reset 0
/-- IDK_REL_REVOKE, R470. -/
def IDK_REL_REVOKE : Nat := 0x10110004
def IDK_REL_REVOKE_FUSE : Fld := ⟨IDK_REL_REVOKE, 0, 4⟩ -- RO, reset Fixed
/-- IDK_TABLE_SEQ, R470. -/
def IDK_TABLE_SEQ : Nat := 0x10110008
def IDK_TABLE_SEQ_SEQ : Fld := ⟨IDK_TABLE_SEQ, 0, 32⟩ -- RO, reset Stored value
/-- IDK_SIG_FAIL_CNT, R470. -/
def IDK_SIG_FAIL_CNT : Nat := 0x1011000C
def IDK_SIG_FAIL_CNT_COUNT : Fld := ⟨IDK_SIG_FAIL_CNT, 0, 32⟩ -- RO, reset 0
/-- IDK_SESS_BAD_CNT, R470. -/
def IDK_SESS_BAD_CNT : Nat := 0x10110010
def IDK_SESS_BAD_CNT_COUNT : Fld := ⟨IDK_SESS_BAD_CNT, 0, 32⟩ -- RO, reset 0
/-- IDK_ERR, R470. -/
def IDK_ERR : Nat := 0x10110014
def IDK_ERR_REC_REJ : Fld := ⟨IDK_ERR, 0, 1⟩ -- W1C, reset 0
def IDK_ERR_TABLE_LOST : Fld := ⟨IDK_ERR, 1, 1⟩ -- W1C, reset 0
def IDK_ERR_RNG : Fld := ⟨IDK_ERR, 2, 1⟩ -- W1C, reset 0
def IDK_ERR_SESS_CLOSED : Fld := ⟨IDK_ERR, 3, 1⟩ -- W1C, reset 0
/-! ### CRC (R478) -/

/-- CRC_STATUS, R478. -/
def CRC_STATUS : Nat := 0x10120000
def CRC_STATUS_EN : Fld := ⟨CRC_STATUS, 0, 16⟩ -- RO, reset 0
/-- CRC_ERR, R478. -/
def CRC_ERR : Nat := 0x10120004
def CRC_ERR_BAD : Fld := ⟨CRC_ERR, 0, 16⟩ -- W1C, reset 0
/-- CRC_U_CFG, R478. -/
def CRC_U_CFG (n : Nat) : Nat := 0x10120100 + 0x20 * n
def CRC_U_CFG_WIDTH (n : Nat) : Fld := ⟨CRC_U_CFG n, 0, 6⟩ -- RW, reset 32
def CRC_U_CFG_REFIN (n : Nat) : Fld := ⟨CRC_U_CFG n, 8, 1⟩ -- RW, reset 1
def CRC_U_CFG_REFOUT (n : Nat) : Fld := ⟨CRC_U_CFG n, 9, 1⟩ -- RW, reset 1
def CRC_U_CFG_ORDER (n : Nat) : Fld := ⟨CRC_U_CFG n, 10, 1⟩ -- RW, reset 0
def CRC_U_CFG_STRIP (n : Nat) : Fld := ⟨CRC_U_CFG n, 11, 1⟩ -- RW, reset 1
def CRC_U_CFG_MODE (n : Nat) : Fld := ⟨CRC_U_CFG n, 12, 2⟩ -- RW, reset 0
/-- CRC_U_POLY, R478. -/
def CRC_U_POLY (n : Nat) : Nat := 0x10120104 + 0x20 * n
def CRC_U_POLY_POLY (n : Nat) : Fld := ⟨CRC_U_POLY n, 0, 32⟩ -- RW, reset 0x1EDC_6F41
/-- CRC_U_INIT, R478. -/
def CRC_U_INIT (n : Nat) : Nat := 0x10120108 + 0x20 * n
def CRC_U_INIT_INIT (n : Nat) : Fld := ⟨CRC_U_INIT n, 0, 32⟩ -- RW, reset 0xFFFF_FFFF
/-- CRC_U_XOROUT, R478. -/
def CRC_U_XOROUT (n : Nat) : Nat := 0x1012010C + 0x20 * n
def CRC_U_XOROUT_XOROUT (n : Nat) : Fld := ⟨CRC_U_XOROUT n, 0, 32⟩ -- RW, reset 0xFFFF_FFFF
/-- CRC_U_BIND, R478. -/
def CRC_U_BIND (n : Nat) : Nat := 0x10120110 + 0x20 * n
def CRC_U_BIND_SVC (n : Nat) : Fld := ⟨CRC_U_BIND n, 0, 8⟩ -- RW, reset 0
def CRC_U_BIND_PEER (n : Nat) : Fld := ⟨CRC_U_BIND n, 16, 16⟩ -- RW, reset 0xFFFF
/-- CRC_U_CHECK, R478. -/
def CRC_U_CHECK (n : Nat) : Nat := 0x10120114 + 0x20 * n
def CRC_U_CHECK_CHECK (n : Nat) : Fld := ⟨CRC_U_CHECK n, 0, 32⟩ -- RO, reset 0
/-- CRC_U_GOOD_CNT, R478. -/
def CRC_U_GOOD_CNT (n : Nat) : Nat := 0x10120118 + 0x20 * n
def CRC_U_GOOD_CNT_COUNT (n : Nat) : Fld := ⟨CRC_U_GOOD_CNT n, 0, 32⟩ -- RO, reset 0
/-- CRC_U_BAD_CNT, R478. -/
def CRC_U_BAD_CNT (n : Nat) : Nat := 0x1012011C + 0x20 * n
def CRC_U_BAD_CNT_COUNT (n : Nat) : Fld := ⟨CRC_U_BAD_CNT n, 0, 32⟩ -- RO, reset 0
/-! ### CLK (R488) -/

/-- CLK_XSTAT, R488. -/
def CLK_XSTAT : Nat := 0x10001010
def CLK_XSTAT_TWO_FLOP : Fld := ⟨CLK_XSTAT, 0, 12⟩ -- RO, reset 0xFFF
/-- CLK_XRECOV_CNT, R488. -/
def CLK_XRECOV_CNT : Nat := 0x10001014
def CLK_XRECOV_CNT_COUNT : Fld := ⟨CLK_XRECOV_CNT, 0, 32⟩ -- RO, reset 0
/-- CLK_ISL_DIFF, R488. -/
def CLK_ISL_DIFF : Nat := 0x10001018
def CLK_ISL_DIFF_SAFE_MV : Fld := ⟨CLK_ISL_DIFF, 0, 16⟩ -- RS, reset 0
def CLK_ISL_DIFF_AON_MV : Fld := ⟨CLK_ISL_DIFF, 16, 16⟩ -- RS, reset 0
/-- CLK_ISL_ERR, R488. -/
def CLK_ISL_ERR : Nat := 0x1000101C
def CLK_ISL_ERR_SAFE : Fld := ⟨CLK_ISL_ERR, 0, 1⟩ -- W1C, reset 0
def CLK_ISL_ERR_AON : Fld := ⟨CLK_ISL_ERR, 1, 1⟩ -- W1C, reset 0
/-! ### PERF (R501) -/

/-- PERF_STATUS, R501. -/
def PERF_STATUS : Nat := 0x10130000
def PERF_STATUS_EN : Fld := ⟨PERF_STATUS, 0, 16⟩ -- RO, reset 0
def PERF_STATUS_PERIODIC : Fld := ⟨PERF_STATUS, 16, 1⟩ -- RO, reset 0
/-- PERF_WRAP, R501. -/
def PERF_WRAP : Nat := 0x10130004
def PERF_WRAP_WRAP : Fld := ⟨PERF_WRAP, 0, 16⟩ -- W1C, reset 0
/-- PERF_THR_PEND, R501. -/
def PERF_THR_PEND : Nat := 0x10130008
def PERF_THR_PEND_PEND : Fld := ⟨PERF_THR_PEND, 0, 16⟩ -- W1C, reset 0
/-- PERF_SNAP_SEQ, R501. -/
def PERF_SNAP_SEQ : Nat := 0x1013000C
def PERF_SNAP_SEQ_SEQ : Fld := ⟨PERF_SNAP_SEQ, 0, 32⟩ -- RO, reset 0
/-- PERF_SNAP_LOST_CNT, R501. -/
def PERF_SNAP_LOST_CNT : Nat := 0x10130010
def PERF_SNAP_LOST_CNT_COUNT : Fld := ⟨PERF_SNAP_LOST_CNT, 0, 32⟩ -- RO, reset 0
/-- PERF_ERR, R501. -/
def PERF_ERR : Nat := 0x10130014
def PERF_ERR_CFG : Fld := ⟨PERF_ERR, 0, 1⟩ -- W1C, reset 0
def PERF_ERR_LOST : Fld := ⟨PERF_ERR, 1, 1⟩ -- W1C, reset 0
def PERF_ERR_THR_OVERRUN : Fld := ⟨PERF_ERR, 2, 1⟩ -- W1C, reset 0
def PERF_ERR_THRESHOLD : Fld := ⟨PERF_ERR, 3, 1⟩ -- W1C, reset 0
/-- PERF_C_CFG, R501. -/
def PERF_C_CFG (n : Nat) : Nat := 0x10130100 + 0x20 * n
def PERF_C_CFG_KIND (n : Nat) : Fld := ⟨PERF_C_CFG n, 0, 2⟩ -- RW, reset 0
def PERF_C_CFG_BLK (n : Nat) : Fld := ⟨PERF_C_CFG n, 2, 6⟩ -- RW, reset 0
def PERF_C_CFG_OFS (n : Nat) : Fld := ⟨PERF_C_CFG n, 8, 16⟩ -- RW, reset 0
def PERF_C_CFG_LSB (n : Nat) : Fld := ⟨PERF_C_CFG n, 24, 5⟩ -- RW, reset 0
def PERF_C_CFG_USER (n : Nat) : Fld := ⟨PERF_C_CFG n, 29, 1⟩ -- RW, reset 0
/-- PERF_C_THR, R501. -/
def PERF_C_THR (n : Nat) : Nat := 0x10130104 + 0x20 * n
def PERF_C_THR_THR (n : Nat) : Fld := ⟨PERF_C_THR n, 0, 32⟩ -- RW, reset 0
/-- PERF_C_ACT, R501. -/
def PERF_C_ACT (n : Nat) : Nat := 0x10130108 + 0x20 * n
def PERF_C_ACT_ACT (n : Nat) : Fld := ⟨PERF_C_ACT n, 0, 4⟩ -- RW, reset 0
/-- PERF_C_RELOAD, R501. -/
def PERF_C_RELOAD (n : Nat) : Nat := 0x1013010C + 0x20 * n
def PERF_C_RELOAD_RELOAD (n : Nat) : Fld := ⟨PERF_C_RELOAD n, 0, 32⟩ -- RW, reset 0
/-- PERF_C_VAL_LO, R501. -/
def PERF_C_VAL_LO (n : Nat) : Nat := 0x10130110 + 0x20 * n
def PERF_C_VAL_LO_VALUE (n : Nat) : Fld := ⟨PERF_C_VAL_LO n, 0, 32⟩ -- RS, reset 0
/-- PERF_C_VAL_HI, R501. -/
def PERF_C_VAL_HI (n : Nat) : Nat := 0x10130114 + 0x20 * n
def PERF_C_VAL_HI_HI (n : Nat) : Fld := ⟨PERF_C_VAL_HI n, 0, 16⟩ -- RS, reset 0
/-- PERF_C_PRESET, R501. -/
def PERF_C_PRESET (n : Nat) : Nat := 0x10130118 + 0x20 * n
def PERF_C_PRESET_VALUE (n : Nat) : Fld := ⟨PERF_C_PRESET n, 0, 32⟩ -- WO, reset 0
/-! ### PEPPER (R507) -/

/-- PEPPER_STATUS, R507. -/
def PEPPER_STATUS : Nat := 0x10140000
def PEPPER_STATUS_ARMED : Fld := ⟨PEPPER_STATUS, 0, 8⟩ -- RO, reset 0
def PEPPER_STATUS_S_OK : Fld := ⟨PEPPER_STATUS, 8, 1⟩ -- RO, reset 0
/-- PEPPER_SEED, R507. -/
def PEPPER_SEED : Nat := 0x10140004
def PEPPER_SEED_SEED : Fld := ⟨PEPPER_SEED, 0, 32⟩ -- RW, reset 1
/-- PEPPER_ERR, R507. -/
def PEPPER_ERR : Nat := 0x10140008
def PEPPER_ERR_ARMED : Fld := ⟨PEPPER_ERR, 0, 1⟩ -- W1C, reset 0
def PEPPER_ERR_FORCED : Fld := ⟨PEPPER_ERR, 1, 1⟩ -- W1C, reset 0
def PEPPER_ERR_CFG : Fld := ⟨PEPPER_ERR, 2, 1⟩ -- W1C, reset 0
/-- PEPPER_S_CFG, R507. -/
def PEPPER_S_CFG (k : Nat) : Nat := 0x10140100 + 0x20 * k
def PEPPER_S_CFG_TARGET (k : Nat) : Fld := ⟨PEPPER_S_CFG k, 0, 5⟩ -- RW, reset 0
def PEPPER_S_CFG_KIND (k : Nat) : Fld := ⟨PEPPER_S_CFG k, 5, 3⟩ -- RW, reset 0
def PEPPER_S_CFG_INST (k : Nat) : Fld := ⟨PEPPER_S_CFG k, 8, 8⟩ -- RW, reset 0
def PEPPER_S_CFG_RATE (k : Nat) : Fld := ⟨PEPPER_S_CFG k, 16, 16⟩ -- RW, reset 0
/-- PEPPER_S_AMOUNT, R507. -/
def PEPPER_S_AMOUNT (k : Nat) : Nat := 0x10140104 + 0x20 * k
def PEPPER_S_AMOUNT_NS (k : Nat) : Fld := ⟨PEPPER_S_AMOUNT k, 0, 24⟩ -- RW, reset 0
/-- PEPPER_S_DUR, R507. -/
def PEPPER_S_DUR (k : Nat) : Nat := 0x10140108 + 0x20 * k
def PEPPER_S_DUR_DUR_S (k : Nat) : Fld := ⟨PEPPER_S_DUR k, 0, 10⟩ -- RW, reset 60
/-- PEPPER_S_STAT, R507. -/
def PEPPER_S_STAT (k : Nat) : Nat := 0x1014010C + 0x20 * k
def PEPPER_S_STAT_ARMED (k : Nat) : Fld := ⟨PEPPER_S_STAT k, 0, 1⟩ -- RO, reset 0
def PEPPER_S_STAT_FORCED_OFF (k : Nat) : Fld := ⟨PEPPER_S_STAT k, 1, 1⟩ -- RO, reset 0
def PEPPER_S_STAT_LEFT_S (k : Nat) : Fld := ⟨PEPPER_S_STAT k, 16, 10⟩ -- RO, reset 0
/-- PEPPER_S_ACTS, R507. -/
def PEPPER_S_ACTS (k : Nat) : Nat := 0x10140110 + 0x20 * k
def PEPPER_S_ACTS_COUNT (k : Nat) : Fld := ⟨PEPPER_S_ACTS k, 0, 32⟩ -- RO, reset 0
/-- SQ_TAIL doorbell of queue pair n, R90. -/
def DB_SQ_TAIL (n : Nat) : Nat := 0x10018000 + 8 * n
/-- CQ_HEAD doorbell of queue pair n, R90. -/
def DB_CQ_HEAD (n : Nat) : Nat := 0x10018004 + 8 * n

/-- One register, or an array of registers of one shape: its first address, how many there are and how far apart,
the masks of its RW, W1C and WO bits (every other bit is RO, RS or reserved: R9, R10), its value after the reset of
its block (R11), and whether it is lockable (R117). -/
structure Row where
  addr : Nat
  count : Nat
  stride : Nat
  rw : Nat
  w1c : Nat
  wo : Nat
  reset : Nat
  lockable : Bool
  deriving DecidableEq, Repr

/-- The registers of SYS. -/
def rowsSYS : List Row :=
  [⟨0x10000000, 1, 0x4, 0x0, 0x0, 0x0, 0x7220, false⟩ /- SYS_PART -/,
   ⟨0x10000004, 1, 0x4, 0x0, 0x0, 0x0, 0x0, false⟩ /- SYS_SERIAL_LO -/,
   ⟨0x10000008, 1, 0x4, 0x0, 0x0, 0x0, 0x0, false⟩ /- SYS_SERIAL_HI -/,
   ⟨0x1000000C, 1, 0x4, 0x0, 0x0, 0x0, 0x0, false⟩ /- SYS_FW_VER_SP -/,
   ⟨0x10000010, 1, 0x4, 0x0, 0x0, 0x0, 0x0, false⟩ /- SYS_FW_VER_A -/,
   ⟨0x10000014, 1, 0x4, 0x0, 0x0, 0x0, 0x0, false⟩ /- SYS_FW_VER_B -/,
   ⟨0x10000018, 1, 0x4, 0x0, 0x0, 0x0, 0x0, false⟩ /- SYS_WHOAMI -/,
   ⟨0x1000001C, 1, 0x4, 0x0, 0x0, 0x0, 0x0, false⟩ /- SYS_RESET_CAUSE -/,
   ⟨0x10000020, 1, 0x4, 0x0, 0x0, 0x0, 0x0, false⟩ /- SYS_RST_CNT -/,
   ⟨0x10000024, 1, 0x4, 0x0, 0x0, 0x0, 0x0, false⟩ /- SYS_LOCK -/,
   ⟨0x10000028, 1, 0x4, 0x0, 0x0, 0x1FFFFFF, 0x0, false⟩ /- SYS_LOCK_SET -/,
   ⟨0x1000002C, 1, 0x4, 0x0, 0x0, 0x0, 0x0, false⟩ /- SYS_OT_LO -/,
   ⟨0x10000030, 1, 0x4, 0x0, 0x0, 0x0, 0x0, false⟩ /- SYS_OT_HI -/,
   ⟨0x10000034, 1, 0x4, 0x0, 0x0, 0x0, 0x0, false⟩ /- SYS_PC -/]

/-- The registers of CLK. -/
def rowsCLK : List Row :=
  [⟨0x10001000, 1, 0x4, 0x0, 0x0, 0x0, 0x0, false⟩ /- CLK_STATUS -/,
   ⟨0x10001004, 1, 0x4, 0x0, 0x0, 0x0, 0x0, false⟩ /- CLK_MAIN_DEV -/,
   ⟨0x10001008, 1, 0x4, 0xF, 0x0, 0x0, 0x0, false⟩ /- CLK_GATE -/,
   ⟨0x1000100C, 1, 0x4, 0x0, 0x0, 0x0, 0x0, false⟩ /- CLK_APP_RATE -/,
   ⟨0x10001010, 1, 0x4, 0x0, 0x0, 0x0, 0xFFF, false⟩ /- CLK_XSTAT -/,
   ⟨0x10001014, 1, 0x4, 0x0, 0x0, 0x0, 0x0, false⟩ /- CLK_XRECOV_CNT -/,
   ⟨0x10001018, 1, 0x4, 0x0, 0x0, 0x0, 0x0, false⟩ /- CLK_ISL_DIFF -/,
   ⟨0x1000101C, 1, 0x4, 0x0, 0x3, 0x0, 0x0, false⟩ /- CLK_ISL_ERR -/]

/-- The registers of PWR. -/
def rowsPWR : List Row :=
  [⟨0x10002000, 1, 0x4, 0x0, 0x0, 0x0, 0x1, false⟩ /- PWR_STATE -/,
   ⟨0x10002004, 1, 0x4, 0x0, 0x0, 0x0, 0x0, false⟩ /- PWR_RAIL -/,
   ⟨0x10002008, 1, 0x4, 0x0, 0x0, 0x0, 0x0, false⟩ /- PWR_SRC -/,
   ⟨0x1000200C, 1, 0x4, 0x0, 0x1F, 0x0, 0x0, false⟩ /- PWR_EVT -/,
   ⟨0x10002010, 1, 0x4, 0x0, 0x0, 0x0, 0x8000, false⟩ /- PWR_DIE_TEMP -/,
   ⟨0x10002014, 1, 0x4, 0x0, 0x0, 0x0, 0x0, false⟩ /- PWR_DRAW -/,
   ⟨0x10002018, 1, 0x4, 0x0, 0x0, 0x0, 0x0, false⟩ /- PWR_THROTTLE -/,
   ⟨0x1000201C, 1, 0x4, 0x3FFFF, 0x0, 0x0, 0x30000, false⟩ /- PWR_WAKE_CFG -/,
   ⟨0x10002020, 1, 0x4, 0x0, 0x0, 0x0, 0x0, false⟩ /- PWR_WAKE_SRC -/]

/-- The registers of QMGR. -/
def rowsQMGR : List Row :=
  [⟨0x10010000, 1, 0x4, 0x0, 0x0, 0x0, 0x0, false⟩ /- QMGR_GSTATUS -/,
   ⟨0x10010004, 1, 0x4, 0x0, 0x0, 0x0, 0x0, false⟩ /- QMGR_OWNER0 -/,
   ⟨0x10010008, 1, 0x4, 0x0, 0x0, 0x0, 0x2000, false⟩ /- QMGR_OWNER1 -/,
   ⟨0x1001000C, 1, 0x4, 0x0, 0xFFFFFFFF, 0x0, 0x0, false⟩ /- QMGR_ERRPEND0 -/,
   ⟨0x10010010, 1, 0x4, 0x0, 0x3FFF, 0x0, 0x0, false⟩ /- QMGR_ERRPEND1 -/,
   ⟨0x10010014, 1, 0x4, 0x0, 0xFFFFFFFF, 0x0, 0x0, false⟩ /- QMGR_IRQPEND0 -/,
   ⟨0x10010018, 1, 0x4, 0x0, 0x3FFF, 0x0, 0x0, false⟩ /- QMGR_IRQPEND1 -/,
   ⟨0x1001001C, 1, 0x4, 0x0, 0x0, 0x0, 0x0, false⟩ /- QMGR_DB_FOREIGN_CNT -/,
   ⟨0x10010100, 46, 0x40, 0xFFFFFFFF, 0x0, 0x0, 0x0, true⟩ /- QP_SQ_BASE_LO -/,
   ⟨0x10010104, 46, 0x40, 0xFFFFFFFF, 0x0, 0x0, 0x0, true⟩ /- QP_SQ_BASE_HI -/,
   ⟨0x10010108, 46, 0x40, 0xFFFFFFFF, 0x0, 0x0, 0x0, true⟩ /- QP_CQ_BASE_LO -/,
   ⟨0x1001010C, 46, 0x40, 0xFFFFFFFF, 0x0, 0x0, 0x0, true⟩ /- QP_CQ_BASE_HI -/,
   ⟨0x10010110, 46, 0x40, 0xFFFF1FF, 0x0, 0x0, 0x44, true⟩ /- QP_CFG -/,
   ⟨0x10010114, 46, 0x40, 0x1, 0x0, 0x0, 0x0, true⟩ /- QP_CTRL -/,
   ⟨0x10010118, 46, 0x40, 0x0, 0x0, 0x0, 0x20000000, false⟩ /- QP_STATUS -/,
   ⟨0x1001011C, 46, 0x40, 0x0, 0x0, 0x0, 0x0, false⟩ /- QP_DB_STATE -/,
   ⟨0x10010120, 46, 0x40, 0x0, 0x0, 0x0, 0x0, false⟩ /- QP_SEQ -/,
   ⟨0x10010124, 46, 0x40, 0x0, 0x0, 0x0, 0x0, false⟩ /- QP_ERR_CNT -/,
   ⟨0x10010128, 46, 0x40, 0x0, 0x0, 0x0, 0x0, false⟩ /- QP_DB_REJ_CNT -/,
   ⟨0x1001012C, 46, 0x40, 0x0, 0x0, 0x0, 0x0, false⟩ /- QP_LAST_ERR -/,
   ⟨0x10018000, 46, 0x8, 0x0, 0x0, 0xFFFFFFFF, 0x0, false⟩ /- SQ_TAIL doorbell -/,
   ⟨0x10018004, 46, 0x8, 0x0, 0x0, 0xFFFFFFFF, 0x0, false⟩ /- CQ_HEAD doorbell -/]

/-- The registers of CHAIN. -/
def rowsCHAIN : List Row :=
  [⟨0x10020000, 1, 0x4, 0x0, 0x0, 0x0, 0x0, false⟩ /- CHAIN_CFG -/,
   ⟨0x10020004, 1, 0x4, 0x0, 0x0, 0x0, 0x0, false⟩ /- CHAIN_STATUS -/,
   ⟨0x10020008, 1, 0x4, 0x0, 0x0, 0x0, 0x0, false⟩ /- CHAIN_BREAK -/,
   ⟨0x1002000C, 1, 0x4, 0x0, 0x0, 0x0, 0x0, false⟩ /- CHAIN_MISSING -/,
   ⟨0x10020010, 1, 0x4, 0x0, 0x0, 0x0, 0x0, false⟩ /- CHAIN_ALIGN -/,
   ⟨0x10020014, 1, 0x4, 0x0, 0x0, 0x0, 0x0, false⟩ /- CHAIN_RING_T -/,
   ⟨0x10020018, 1, 0x4, 0x0, 0x3FF, 0x0, 0x0, false⟩ /- CHAIN_ERR -/,
   ⟨0x1002001C, 1, 0x4, 0x0, 0x0, 0x0, 0x0, false⟩ /- CHAIN_CODE_ERR_A -/,
   ⟨0x10020020, 1, 0x4, 0x0, 0x0, 0x0, 0x0, false⟩ /- CHAIN_CODE_ERR_B -/,
   ⟨0x10020024, 1, 0x4, 0x0, 0x0, 0x0, 0x0, false⟩ /- CHAIN_SLOT_ERR_CNT -/,
   ⟨0x10020028, 1, 0x4, 0x0, 0x0, 0x0, 0x0, false⟩ /- CHAIN_REREAD_CNT -/,
   ⟨0x1002002C, 1, 0x4, 0x0, 0x0, 0x0, 0x0, false⟩ /- CHAIN_FLAGGED_CNT -/,
   ⟨0x10020030, 1, 0x4, 0x0, 0x0, 0x0, 0x0, false⟩ /- CHAIN_RPT_LOST -/,
   ⟨0x10020040, 24, 0x4, 0x0, 0x0, 0x0, 0x0, false⟩ /- CHAIN_DLY -/,
   ⟨0x100200A0, 24, 0x4, 0x0, 0x0, 0x0, 0x0, false⟩ /- CHAIN_TRIM -/]

/-- The registers of MEAS. -/
def rowsMEAS : List Row :=
  [⟨0x10030000, 1, 0x4, 0x0, 0x0, 0x0, 0x0, false⟩ /- MEAS_STATUS -/,
   ⟨0x10030004, 1, 0x4, 0x0, 0x0, 0x0, 0x0, false⟩ /- MEAS_SNUM -/,
   ⟨0x10030008, 1, 0x4, 0x0, 0x0, 0x0, 0x0, false⟩ /- MEAS_LAST_T_LO -/,
   ⟨0x1003000C, 1, 0x4, 0x0, 0x0, 0x0, 0x0, false⟩ /- MEAS_LAST_T_HI -/,
   ⟨0x10030010, 1, 0x4, 0x0, 0x0, 0x0, 0x0, false⟩ /- MEAS_RATE -/,
   ⟨0x10030014, 1, 0x4, 0x0, 0x0, 0x0, 0x0, false⟩ /- MEAS_SWEEP_LOST_CNT -/,
   ⟨0x10030018, 1, 0x4, 0x0, 0x0, 0x0, 0x0, false⟩ /- MEAS_SKIP_CNT -/,
   ⟨0x1003001C, 1, 0x4, 0x0, 0x3F, 0x0, 0x0, false⟩ /- MEAS_ERR -/]

/-- The registers of BAL. -/
def rowsBAL : List Row :=
  [⟨0x10040000, 1, 0x4, 0x0, 0x0, 0x0, 0x0, false⟩ /- BAL_STATUS -/,
   ⟨0x10040004, 1, 0x4, 0x0, 0x0, 0x0, 0x0, false⟩ /- BAL_DERATED -/,
   ⟨0x10040008, 1, 0x4, 0x0, 0x0, 0x0, 0x0, false⟩ /- BAL_HELD -/,
   ⟨0x1004000C, 1, 0x4, 0x0, 0x0, 0x0, 0x0, false⟩ /- BAL_CAL_VALID -/,
   ⟨0x10040010, 1, 0x4, 0x0, 0x7F, 0x0, 0x0, false⟩ /- BAL_ERR -/,
   ⟨0x10040014, 1, 0x4, 0x0, 0x0, 0x0, 0x0, false⟩ /- BAL_MISMATCH_CNT -/]

/-- The registers of EST. -/
def rowsEST : List Row :=
  [⟨0x10050000, 1, 0x4, 0x0, 0x0, 0x0, 0x0, false⟩ /- EST_STATUS -/,
   ⟨0x10050004, 1, 0x4, 0x0, 0x0, 0x0, 0x0, false⟩ /- EST_CHEM_ID -/,
   ⟨0x10050008, 1, 0x4, 0x0, 0x0, 0x0, 0x0, false⟩ /- EST_CYCLE_CNT -/,
   ⟨0x1005000C, 1, 0x4, 0xFF, 0x0, 0x0, 0x1, true⟩ /- EST_CFG -/,
   ⟨0x10050010, 1, 0x4, 0x0, 0x0, 0x0, 0x0, false⟩ /- EST_N_START_A -/,
   ⟨0x10050014, 1, 0x4, 0x0, 0x0, 0x0, 0x0, false⟩ /- EST_N_START_B -/,
   ⟨0x10050018, 1, 0x4, 0x0, 0x0, 0x0, 0x0, false⟩ /- EST_N_NOW -/,
   ⟨0x1005001C, 1, 0x4, 0x0, 0x0, 0x0, 0x0, false⟩ /- EST_LAST_T_LO -/,
   ⟨0x10050020, 1, 0x4, 0x0, 0x0, 0x0, 0x0, false⟩ /- EST_LAST_T_HI -/,
   ⟨0x10050024, 1, 0x4, 0x0, 0x0, 0x0, 0x0, false⟩ /- EST_RESULT_LOST_CNT -/,
   ⟨0x10050028, 1, 0x4, 0x0, 0x0, 0x0, 0x0, false⟩ /- EST_SOP_LOST_CNT -/,
   ⟨0x1005002C, 1, 0x4, 0x0, 0x0, 0x0, 0x0, false⟩ /- EST_DIVERGE_CNT -/,
   ⟨0x10050030, 1, 0x4, 0x0, 0x0, 0x0, 0x0, false⟩ /- EST_CLAMP_CNT -/,
   ⟨0x10050034, 1, 0x4, 0x0, 0x3F, 0x0, 0x0, false⟩ /- EST_ERR -/]

/-- The registers of EIS. -/
def rowsEIS : List Row :=
  [⟨0x10060000, 1, 0x4, 0x0, 0x0, 0x0, 0x0, false⟩ /- EIS_STATUS -/,
   ⟨0x10060004, 1, 0x4, 0x0, 0x0, 0x0, 0x0, false⟩ /- EIS_PLAN_ID -/,
   ⟨0x10060008, 1, 0x4, 0x0, 0x0, 0x0, 0x0, false⟩ /- EIS_INT_CNT -/,
   ⟨0x1006000C, 1, 0x4, 0x0, 0x0, 0x0, 0x0, false⟩ /- EIS_SEG -/,
   ⟨0x10060010, 1, 0x4, 0x0, 0x0, 0x0, 0x0, false⟩ /- EIS_S_FIRST -/,
   ⟨0x10060014, 1, 0x4, 0x0, 0x0, 0x0, 0x0, false⟩ /- EIS_FS -/,
   ⟨0x10060018, 1, 0x4, 0x0, 0x0, 0x0, 0x0, false⟩ /- EIS_AMP_PK -/,
   ⟨0x1006001C, 1, 0x4, 0x0, 0x0, 0x0, 0x0, false⟩ /- EIS_RESULT_LOST_CNT -/,
   ⟨0x10060020, 1, 0x4, 0x0, 0x0, 0x0, 0x0, false⟩ /- EIS_ABANDON_CNT -/,
   ⟨0x10060024, 1, 0x4, 0x0, 0x0, 0x0, 0x0, false⟩ /- EIS_INTERRUPT_CNT -/,
   ⟨0x10060028, 1, 0x4, 0x0, 0x0, 0x0, 0x0, false⟩ /- EIS_SEG_DROP_CNT -/,
   ⟨0x1006002C, 1, 0x4, 0x0, 0x7F, 0x0, 0x0, false⟩ /- EIS_ERR -/]

/-- The registers of THERM. -/
def rowsTHERM : List Row :=
  [⟨0x10070000, 1, 0x4, 0x0, 0x0, 0x0, 0x0, false⟩ /- THERM_STATUS -/,
   ⟨0x10070004, 1, 0x4, 0x0, 0x0, 0x0, 0x0, false⟩ /- THERM_LIM_CHG -/,
   ⟨0x10070008, 1, 0x4, 0x0, 0x0, 0x0, 0x0, false⟩ /- THERM_LIM_DIS -/,
   ⟨0x1007000C, 1, 0x4, 0x0, 0x0, 0x0, 0x8000, false⟩ /- THERM_T_HI -/,
   ⟨0x10070010, 1, 0x4, 0x0, 0x0, 0x0, 0x8000, false⟩ /- THERM_T_LO -/,
   ⟨0x10070014, 1, 0x4, 0x0, 0x0, 0x0, 0x80008000, false⟩ /- THERM_MOD -/,
   ⟨0x10070018, 1, 0x4, 0x0, 0x0, 0x0, 0x0, false⟩ /- THERM_BROKEN -/,
   ⟨0x1007001C, 1, 0x4, 0x0, 0x0, 0x0, 0x0, false⟩ /- THERM_STALE -/,
   ⟨0x10070020, 1, 0x4, 0x0, 0x0, 0x0, 0x0, false⟩ /- THERM_ACT -/,
   ⟨0x10070024, 1, 0x4, 0x0, 0x0, 0x0, 0x0, false⟩ /- THERM_TACH01 -/,
   ⟨0x10070028, 1, 0x4, 0x0, 0x0, 0x0, 0x0, false⟩ /- THERM_TACH2 -/,
   ⟨0x1007002C, 1, 0x4, 0x0, 0x0, 0x0, 0x0, false⟩ /- THERM_ROUND_CNT -/,
   ⟨0x10070030, 1, 0x4, 0x0, 0x0, 0x0, 0x0, false⟩ /- THERM_RESULT_LOST_CNT -/,
   ⟨0x10070034, 1, 0x4, 0x0, 0x7F, 0x0, 0x0, false⟩ /- THERM_ERR -/,
   ⟨0x10070040, 24, 0x4, 0x0, 0x0, 0x0, 0x80008000, false⟩ /- THERM_TB -/]

/-- The registers of CTRL. -/
def rowsCTRL : List Row :=
  [⟨0x10080000, 1, 0x4, 0x0, 0x0, 0x0, 0x0, false⟩ /- CTRL_STATUS -/,
   ⟨0x10080004, 1, 0x4, 0xFFFFFFFF, 0x0, 0x0, 0x0, true⟩ /- CTRL_HARD_CHG_MA -/,
   ⟨0x10080008, 1, 0x4, 0xFFFFFFFF, 0x0, 0x0, 0x0, true⟩ /- CTRL_HARD_DIS_MA -/,
   ⟨0x1008000C, 1, 0x4, 0xFFFFFFFF, 0x0, 0x0, 0x0, true⟩ /- CTRL_EST_FB_CHG_MA -/,
   ⟨0x10080010, 1, 0x4, 0xFFFFFFFF, 0x0, 0x0, 0x0, true⟩ /- CTRL_EST_FB_DIS_MA -/,
   ⟨0x10080014, 1, 0x4, 0x0, 0x0, 0x0, 0x0, false⟩ /- CTRL_LIM_CHG -/,
   ⟨0x10080018, 1, 0x4, 0x0, 0x0, 0x0, 0x0, false⟩ /- CTRL_LIM_DIS -/,
   ⟨0x1008001C, 1, 0x4, 0x0, 0x0, 0x0, 0x0, false⟩ /- CTRL_LIM_SRC -/,
   ⟨0x10080020, 1, 0x4, 0x0, 0x0, 0x0, 0x0, false⟩ /- CTRL_DISP_EXP_LO -/,
   ⟨0x10080024, 1, 0x4, 0x0, 0x0, 0x0, 0x0, false⟩ /- CTRL_DISP_EXP_HI -/,
   ⟨0x10080028, 1, 0x4, 0x0, 0x3F, 0x0, 0x0, false⟩ /- CTRL_ERR -/,
   ⟨0x1008002C, 1, 0x4, 0x0, 0x0, 0x0, 0x0, false⟩ /- CTRL_SUP_CNT -/,
   ⟨0x10080100, 8, 0x80, 0xFFF1, 0x0, 0x0, 0x0, true⟩ /- LC_CFG -/,
   ⟨0x10080104, 8, 0x80, 0xFFFFFFFF, 0x0, 0x0, 0x0, true⟩ /- LC_KP -/,
   ⟨0x10080108, 8, 0x80, 0xFFFFFFFF, 0x0, 0x0, 0x0, true⟩ /- LC_KI -/,
   ⟨0x1008010C, 8, 0x80, 0xFFFFFFFF, 0x0, 0x0, 0x0, true⟩ /- LC_KD -/,
   ⟨0x10080110, 8, 0x80, 0xFFFFFFFF, 0x0, 0x0, 0x0, true⟩ /- LC_KB -/,
   ⟨0x10080114, 8, 0x80, 0xFFFFFFFF, 0x0, 0x0, 0x0, true⟩ /- LC_TF -/,
   ⟨0x10080118, 8, 0x80, 0xFFFFFFFF, 0x0, 0x0, 0x0, false⟩ /- LC_OUT_MIN -/,
   ⟨0x1008011C, 8, 0x80, 0xFFFFFFFF, 0x0, 0x0, 0x0, false⟩ /- LC_OUT_MAX -/,
   ⟨0x10080120, 8, 0x80, 0xFFFFFFFF, 0x0, 0x0, 0x0, false⟩ /- LC_RAMP_UP -/,
   ⟨0x10080124, 8, 0x80, 0xFFFFFFFF, 0x0, 0x0, 0x0, false⟩ /- LC_RAMP_DN -/,
   ⟨0x10080128, 8, 0x80, 0xFFFF, 0x0, 0x0, 0x0, false⟩ /- LC_DWELL -/,
   ⟨0x1008012C, 8, 0x80, 0xFFFFFFFF, 0x0, 0x0, 0x0, true⟩ /- LC_OPEN_OUT -/,
   ⟨0x10080130, 8, 0x80, 0x0, 0x0, 0x0, 0x0, false⟩ /- LC_STATE -/,
   ⟨0x10080134, 8, 0x80, 0x0, 0x0, 0x0, 0x0, false⟩ /- LC_TARGET -/,
   ⟨0x10080138, 8, 0x80, 0x0, 0x0, 0x0, 0x0, false⟩ /- LC_RAMP -/,
   ⟨0x1008013C, 8, 0x80, 0x0, 0x0, 0x0, 0x0, false⟩ /- LC_FB -/,
   ⟨0x10080140, 8, 0x80, 0x0, 0x0, 0x0, 0x0, false⟩ /- LC_OUT -/,
   ⟨0x10080144, 8, 0x80, 0x0, 0x0, 0x0, 0x0, false⟩ /- LC_INTEG -/]

/-- The registers of SAFE. -/
def rowsSAFE : List Row :=
  [⟨0x10090000, 1, 0x4, 0x0, 0x0, 0x0, 0x4E, false⟩ /- SAFE_STATUS -/,
   ⟨0x10090004, 1, 0x4, 0x0, 0x0, 0x0, 0x0, false⟩ /- SAFE_TRIP_LATCH -/,
   ⟨0x10090008, 1, 0x4, 0x0, 0x0, 0x0, 0x0, false⟩ /- SAFE_TRIP_ACTIVE -/,
   ⟨0x1009000C, 1, 0x4, 0x0, 0x0, 0x0, 0x3FFFF00, false⟩ /- SAFE_FIRST -/,
   ⟨0x10090010, 1, 0x4, 0x0, 0x0, 0x0, 0x0, false⟩ /- SAFE_FIRST_T_LO -/,
   ⟨0x10090014, 1, 0x4, 0x0, 0x0, 0x0, 0x0, false⟩ /- SAFE_FIRST_T_HI -/,
   ⟨0x10090018, 1, 0x4, 0x0, 0x0, 0x0, 0x0, false⟩ /- SAFE_SO_STAT -/,
   ⟨0x1009001C, 1, 0x4, 0x0, 0x0, 0x0, 0x0, false⟩ /- SAFE_SO_DIAG -/,
   ⟨0x10090020, 1, 0x4, 0x0, 0x0, 0x0, 0x0, false⟩ /- SAFE_SO_I01 -/,
   ⟨0x10090024, 1, 0x4, 0x0, 0x0, 0x0, 0x0, false⟩ /- SAFE_SO_I23 -/,
   ⟨0x10090028, 1, 0x4, 0x0, 0x0, 0x0, 0x0, false⟩ /- SAFE_SI_STAT -/,
   ⟨0x1009002C, 1, 0x4, 0x0, 0x0, 0x0, 0x0, false⟩ /- SAFE_RST -/,
   ⟨0x10090030, 1, 0x4, 0x0, 0x0, 0x0, 0x0, false⟩ /- SAFE_RST_CNT -/,
   ⟨0x10090034, 1, 0x4, 0x0, 0x0, 0x0, 0x0, false⟩ /- SAFE_SET_CHECK -/,
   ⟨0x10090038, 1, 0x4, 0x0, 0x0, 0x0, 0x0, false⟩ /- SAFE_SET_SEQ -/,
   ⟨0x1009003C, 1, 0x4, 0x0, 0x0, 0x0, 0x0, false⟩ /- SAFE_SET_STAT -/,
   ⟨0x10090040, 1, 0x4, 0x0, 0x0, 0x0, 0x0, false⟩ /- SAFE_UNVER -/,
   ⟨0x10090044, 1, 0x4, 0x0, 0x0, 0x0, 0x0, false⟩ /- SAFE_TRIP_CNT -/,
   ⟨0x10090048, 1, 0x4, 0x0, 0x0, 0x0, 0x0, false⟩ /- SAFE_TEST_CNT -/,
   ⟨0x1009004C, 1, 0x4, 0x0, 0x0, 0x0, 0x0, false⟩ /- SAFE_TEST_ABORT_CNT -/,
   ⟨0x10090050, 1, 0x4, 0x0, 0x0, 0x0, 0x0, false⟩ /- SAFE_RPT_LOST_CNT -/]

/-- The registers of STL. -/
def rowsSTL : List Row :=
  [⟨0x100A0000, 1, 0x4, 0x0, 0x0, 0x0, 0x0, false⟩ /- STL_STATUS -/,
   ⟨0x100A0004, 1, 0x4, 0x0, 0x0, 0x0, 0x0, false⟩ /- STL_NAMED_CHECK -/,
   ⟨0x100A0008, 1, 0x4, 0x0, 0x0, 0x0, 0x0, false⟩ /- STL_MASQ_CNT -/,
   ⟨0x100A0020, 8, 0x4, 0x0, 0x0, 0x0, 0x0, false⟩ /- STL_LOST -/,
   ⟨0x100A0040, 8, 0x4, 0x0, 0x0, 0x0, 0x0, false⟩ /- STL_RUN -/,
   ⟨0x100A1000, 256, 0x10, 0x0, 0x0, 0x0, 0x0, false⟩ /- STL_S_STAT -/,
   ⟨0x100A1004, 256, 0x10, 0x0, 0x0, 0x0, 0x0, false⟩ /- STL_S_RXSEQ -/,
   ⟨0x100A1008, 256, 0x10, 0x0, 0x0, 0x0, 0x0, false⟩ /- STL_S_ERR -/,
   ⟨0x100A100C, 256, 0x10, 0x0, 0x0, 0x0, 0x0, false⟩ /- STL_S_CNT -/]

/-- The registers of RED. -/
def rowsRED : List Row :=
  [⟨0x100B0000, 1, 0x4, 0x0, 0x0, 0x0, 0x0, false⟩ /- RED_CFG -/,
   ⟨0x100B0004, 1, 0x4, 0x0, 0x0, 0x0, 0x0, false⟩ /- RED_STATUS -/,
   ⟨0x100B0008, 1, 0x4, 0x0, 0x0, 0x0, 0x0, false⟩ /- RED_EPOCH -/,
   ⟨0x100B000C, 1, 0x4, 0x0, 0x0, 0x0, 0x0, false⟩ /- RED_HEALTH -/,
   ⟨0x100B0010, 1, 0x4, 0x0, 0x0, 0x0, 0x10000, false⟩ /- RED_TB -/,
   ⟨0x100B0014, 1, 0x4, 0x0, 0x0, 0x0, 0x0, false⟩ /- RED_PEER_SEQ -/,
   ⟨0x100B0018, 1, 0x4, 0x0, 0x0, 0x0, 0x0, false⟩ /- RED_LAST_SW_T_LO -/,
   ⟨0x100B001C, 1, 0x4, 0x0, 0x0, 0x0, 0x0, false⟩ /- RED_LAST_SW_T_HI -/,
   ⟨0x100B0020, 1, 0x4, 0x0, 0x0, 0x0, 0x0, false⟩ /- RED_LAST_GAP -/,
   ⟨0x100B0024, 1, 0x4, 0x0, 0x0, 0x0, 0x0, false⟩ /- RED_SW_CNT -/,
   ⟨0x100B0028, 1, 0x4, 0x0, 0x0, 0x0, 0x0, false⟩ /- RED_BEACON_BAD_CNT -/,
   ⟨0x100B002C, 1, 0x4, 0x0, 0x0, 0x0, 0x0, false⟩ /- RED_DENY_CNT -/,
   ⟨0x100B0030, 1, 0x4, 0x0, 0x0, 0x0, 0x0, false⟩ /- RED_FENCE_CNT -/,
   ⟨0x100B0034, 1, 0x4, 0x0, 0xFF, 0x0, 0x0, false⟩ /- RED_ERR -/,
   ⟨0x100B0040, 1, 0x4, 0x0, 0x0, 0x0, 0x0, false⟩ /- RED_KSVC -/,
   ⟨0x100B0080, 16, 0x8, 0x0, 0x0, 0x0, 0x0, false⟩ /- RED_KS_EPOCH -/,
   ⟨0x100B0084, 16, 0x8, 0x0, 0x0, 0x0, 0x3, false⟩ /- RED_KS_STATE -/]

/-- The registers of ETH. -/
def rowsETH : List Row :=
  [⟨0x100C0000, 1, 0x4, 0x0, 0x0, 0x0, 0x0, false⟩ /- ETH_CFG -/,
   ⟨0x100C0004, 1, 0x4, 0x0, 0x0, 0x0, 0x0, false⟩ /- ETH_STATUS -/,
   ⟨0x100C0008, 1, 0x4, 0x0, 0x0, 0x0, 0x0, false⟩ /- ETH_BREAK -/,
   ⟨0x100C000C, 1, 0x4, 0x0, 0x0, 0x0, 0x0, false⟩ /- ETH_NO_ROUTE_CNT -/,
   ⟨0x100C0010, 2, 0x20, 0x0, 0x0, 0x0, 0x0, false⟩ /- ETH_P_RX -/,
   ⟨0x100C0014, 2, 0x20, 0x0, 0x0, 0x0, 0x0, false⟩ /- ETH_P_TX -/,
   ⟨0x100C0018, 2, 0x20, 0x0, 0x0, 0x0, 0x0, false⟩ /- ETH_P_FCS_ERR -/,
   ⟨0x100C001C, 2, 0x20, 0x0, 0x0, 0x0, 0x0, false⟩ /- ETH_P_STOMPED -/,
   ⟨0x100C0020, 2, 0x20, 0x0, 0x0, 0x0, 0x0, false⟩ /- ETH_P_HOP_DROP -/,
   ⟨0x100C0024, 2, 0x20, 0x0, 0x0, 0x0, 0x0, false⟩ /- ETH_P_CL0 -/,
   ⟨0x100C0028, 2, 0x20, 0x0, 0x0, 0x0, 0x0, false⟩ /- ETH_P_CL0_WAIT -/,
   ⟨0x100C002C, 2, 0x20, 0x0, 0x0, 0x0, 0x0, false⟩ /- ETH_P_PREEMPT -/,
   ⟨0x100C0050, 1, 0x4, 0x0, 0x0, 0x0, 0x0, false⟩ /- ETH_C1_LOST -/,
   ⟨0x100C0054, 1, 0x4, 0x0, 0x0, 0x0, 0x0, false⟩ /- ETH_C2_LOST -/,
   ⟨0x100C0058, 1, 0x4, 0x0, 0x0, 0x0, 0x0, false⟩ /- ETH_C3_LOST -/,
   ⟨0x100C005C, 1, 0x4, 0x0, 0x3F, 0x0, 0x0, false⟩ /- ETH_ERR -/,
   ⟨0x100C0060, 1, 0x4, 0x0, 0x0, 0x0, 0x0, false⟩ /- ETH_MAC_LO -/,
   ⟨0x100C0064, 1, 0x4, 0x0, 0x0, 0x0, 0x0, false⟩ /- ETH_MAC_HI -/]

/-- The registers of PTP. -/
def rowsPTP : List Row :=
  [⟨0x100D0000, 1, 0x4, 0x0, 0x0, 0x0, 0x0, false⟩ /- PTP_STATUS -/,
   ⟨0x100D0004, 1, 0x4, 0x0, 0x0, 0x0, 0x0, false⟩ /- PTP_TIME_LO -/,
   ⟨0x100D0008, 1, 0x4, 0x0, 0x0, 0x0, 0x0, false⟩ /- PTP_TIME_HI -/,
   ⟨0x100D000C, 1, 0x4, 0x0, 0x0, 0x0, 0x0, false⟩ /- PTP_D0_LO -/,
   ⟨0x100D0010, 1, 0x4, 0x0, 0x0, 0x0, 0x0, false⟩ /- PTP_D0_HI -/,
   ⟨0x100D0014, 1, 0x4, 0x0, 0x0, 0x0, 0x0, false⟩ /- PTP_D1_LO -/,
   ⟨0x100D0018, 1, 0x4, 0x0, 0x0, 0x0, 0x0, false⟩ /- PTP_D1_HI -/,
   ⟨0x100D001C, 1, 0x4, 0xFFFFFFFF, 0x0, 0x0, 0x40000000, false⟩ /- PTP_INC0 -/,
   ⟨0x100D0020, 1, 0x4, 0xFFFFFFFF, 0x0, 0x0, 0x40000000, false⟩ /- PTP_INC1 -/,
   ⟨0x100D0024, 1, 0x4, 0x0, 0x0, 0x0, 0x0, false⟩ /- PTP_SLEW -/,
   ⟨0x100D0028, 1, 0x4, 0xFFFFFFFF, 0x0, 0x0, 0x0, false⟩ /- PTP_LINK_DLY -/,
   ⟨0x100D002C, 1, 0x4, 0x0, 0x0, 0x0, 0x0, false⟩ /- PTP_TS_LOST_CNT -/,
   ⟨0x100D0030, 1, 0x4, 0x0, 0x0, 0x0, 0x0, false⟩ /- PTP_STEP_CNT -/,
   ⟨0x100D0034, 1, 0x4, 0x0, 0x0, 0x0, 0x0, false⟩ /- PTP_TC_MISS -/,
   ⟨0x100D0038, 1, 0x4, 0x0, 0x3F, 0x0, 0x0, false⟩ /- PTP_ERR -/]

/-- The registers of CAN. -/
def rowsCAN : List Row :=
  [⟨0x100E0000, 3, 0x1000, 0x0, 0x0, 0x0, 0x0, false⟩ /- CAN_STATUS -/,
   ⟨0x100E0004, 3, 0x1000, 0x0, 0x0, 0x0, 0x0, false⟩ /- CAN_ECNT -/,
   ⟨0x100E0008, 3, 0x1000, 0x0, 0x0, 0x0, 0x0, false⟩ /- CAN_LEC -/,
   ⟨0x100E000C, 3, 0x1000, 0x0, 0x0, 0x0, 0x0, false⟩ /- CAN_TDC -/,
   ⟨0x100E0010, 3, 0x1000, 0xFFFFFFFF, 0x0, 0x0, 0x0, true⟩ /- CAN_IMG_BASE_LO -/,
   ⟨0x100E0014, 3, 0x1000, 0xFFFFFFFF, 0x0, 0x0, 0x0, true⟩ /- CAN_IMG_BASE_HI -/,
   ⟨0x100E0018, 3, 0x1000, 0x0, 0x0, 0x0, 0x0, false⟩ /- CAN_RX_CNT -/,
   ⟨0x100E001C, 3, 0x1000, 0x0, 0x0, 0x0, 0x0, false⟩ /- CAN_TX_CNT -/,
   ⟨0x100E0020, 3, 0x1000, 0x0, 0x0, 0x0, 0x0, false⟩ /- CAN_ERRFRM_CNT -/,
   ⟨0x100E0024, 3, 0x1000, 0x0, 0x0, 0x0, 0x0, false⟩ /- CAN_NOMATCH_CNT -/,
   ⟨0x100E0028, 3, 0x1000, 0x0, 0x0, 0x0, 0x0, false⟩ /- CAN_RPT_LOST_CNT -/,
   ⟨0x100E002C, 3, 0x1000, 0x0, 0x0, 0x0, 0x0, false⟩ /- CAN_BO_CNT -/,
   ⟨0x100E0030, 3, 0x1000, 0x0, 0x3F, 0x0, 0x0, false⟩ /- CAN_ERR -/,
   ⟨0x100E0040, 4, 0x4, 0x0, 0x0, 0x0, 0x0, false⟩ /- CAN_TXPEND -/,
   ⟨0x100E1040, 4, 0x4, 0x0, 0x0, 0x0, 0x0, false⟩ /- CAN_TXPEND -/,
   ⟨0x100E2040, 4, 0x4, 0x0, 0x0, 0x0, 0x0, false⟩ /- CAN_TXPEND -/,
   ⟨0x100E0050, 4, 0x4, 0x0, 0x0, 0x0, 0x0, false⟩ /- CAN_STL_OWN -/,
   ⟨0x100E1050, 4, 0x4, 0x0, 0x0, 0x0, 0x0, false⟩ /- CAN_STL_OWN -/,
   ⟨0x100E2050, 4, 0x4, 0x0, 0x0, 0x0, 0x0, false⟩ /- CAN_STL_OWN -/]

/-- The registers of UPD. -/
def rowsUPD : List Row :=
  [⟨0x100F0000, 1, 0x4, 0x0, 0x0, 0x0, 0x0, false⟩ /- UPD_STATUS -/,
   ⟨0x100F0004, 1, 0x4, 0x0, 0x0, 0x0, 0x0, false⟩ /- UPD_BOOT -/,
   ⟨0x100F0008, 1, 0x4, 0x0, 0x0, 0x0, 0x0, false⟩ /- UPD_FLOOR -/,
   ⟨0x100F0010, 4, 0x4, 0x0, 0x0, 0x0, 0x0, false⟩ /- UPD_SLOT -/,
   ⟨0x100F0020, 4, 0x4, 0x0, 0x0, 0x0, 0x0, false⟩ /- UPD_VER -/,
   ⟨0x100F0030, 1, 0x4, 0x0, 0x0, 0x0, 0x0, false⟩ /- UPD_RX_PROG -/,
   ⟨0x100F0034, 1, 0x4, 0x0, 0x0, 0x0, 0x0, false⟩ /- UPD_RX_SRC -/,
   ⟨0x100F0038, 1, 0x4, 0x0, 0x0, 0x0, 0x0, false⟩ /- UPD_LAST_REFUSE -/,
   ⟨0x100F003C, 1, 0x4, 0x0, 0x0, 0x0, 0x0, false⟩ /- UPD_HOLD_LAST_US -/,
   ⟨0x100F0040, 1, 0x4, 0x0, 0x0, 0x0, 0x0, false⟩ /- UPD_REFUSE_CNT -/,
   ⟨0x100F0044, 1, 0x4, 0x0, 0x0, 0x0, 0x0, false⟩ /- UPD_RETRY_CNT -/,
   ⟨0x100F0048, 1, 0x4, 0x0, 0x0, 0x0, 0x0, false⟩ /- UPD_ROLLBACK_CNT -/,
   ⟨0x100F004C, 1, 0x4, 0x0, 0xFF, 0x0, 0x0, false⟩ /- UPD_ERR -/]

/-- The registers of REC. -/
def rowsREC : List Row :=
  [⟨0x10100000, 1, 0x4, 0x0, 0x0, 0x0, 0x0, false⟩ /- REC_STATUS -/,
   ⟨0x10100004, 1, 0x4, 0x0, 0x0, 0x0, 0x0, false⟩ /- REC_NEXT_SEQ -/,
   ⟨0x10100008, 1, 0x4, 0x0, 0x0, 0x0, 0x0, false⟩ /- REC_OLDEST_SEQ -/,
   ⟨0x1010000C, 1, 0x4, 0x0, 0x0, 0x0, 0x0, false⟩ /- REC_STORED_SEQ -/,
   ⟨0x10100010, 1, 0x4, 0x0, 0x0, 0x0, 0x0, false⟩ /- REC_BUF -/,
   ⟨0x10100014, 1, 0x4, 0x0, 0x0, 0x0, 0x0, false⟩ /- REC_DROP_CNT -/,
   ⟨0x10100018, 1, 0x4, 0x0, 0x0, 0x0, 0x0, false⟩ /- REC_SUPPR_CNT -/,
   ⟨0x1010001C, 1, 0x4, 0x0, 0x1F, 0x0, 0x0, false⟩ /- REC_ERR -/]

/-- The registers of IDK. -/
def rowsIDK : List Row :=
  [⟨0x10110000, 1, 0x4, 0x0, 0x0, 0x0, 0x0, false⟩ /- IDK_STATUS -/,
   ⟨0x10110004, 1, 0x4, 0x0, 0x0, 0x0, 0x0, false⟩ /- IDK_REL_REVOKE -/,
   ⟨0x10110008, 1, 0x4, 0x0, 0x0, 0x0, 0x0, false⟩ /- IDK_TABLE_SEQ -/,
   ⟨0x1011000C, 1, 0x4, 0x0, 0x0, 0x0, 0x0, false⟩ /- IDK_SIG_FAIL_CNT -/,
   ⟨0x10110010, 1, 0x4, 0x0, 0x0, 0x0, 0x0, false⟩ /- IDK_SESS_BAD_CNT -/,
   ⟨0x10110014, 1, 0x4, 0x0, 0xF, 0x0, 0x0, false⟩ /- IDK_ERR -/]

/-- The registers of CRC. -/
def rowsCRC : List Row :=
  [⟨0x10120000, 1, 0x4, 0x0, 0x0, 0x0, 0x0, false⟩ /- CRC_STATUS -/,
   ⟨0x10120004, 1, 0x4, 0x0, 0xFFFF, 0x0, 0x0, false⟩ /- CRC_ERR -/,
   ⟨0x10120100, 16, 0x20, 0x3F3F, 0x0, 0x0, 0xB20, true⟩ /- CRC_U_CFG -/,
   ⟨0x10120104, 16, 0x20, 0xFFFFFFFF, 0x0, 0x0, 0x1EDC6F41, true⟩ /- CRC_U_POLY -/,
   ⟨0x10120108, 16, 0x20, 0xFFFFFFFF, 0x0, 0x0, 0xFFFFFFFF, true⟩ /- CRC_U_INIT -/,
   ⟨0x1012010C, 16, 0x20, 0xFFFFFFFF, 0x0, 0x0, 0xFFFFFFFF, true⟩ /- CRC_U_XOROUT -/,
   ⟨0x10120110, 16, 0x20, 0xFFFF00FF, 0x0, 0x0, 0xFFFF0000, true⟩ /- CRC_U_BIND -/,
   ⟨0x10120114, 16, 0x20, 0x0, 0x0, 0x0, 0x0, false⟩ /- CRC_U_CHECK -/,
   ⟨0x10120118, 16, 0x20, 0x0, 0x0, 0x0, 0x0, false⟩ /- CRC_U_GOOD_CNT -/,
   ⟨0x1012011C, 16, 0x20, 0x0, 0x0, 0x0, 0x0, false⟩ /- CRC_U_BAD_CNT -/]

/-- The registers of PERF. -/
def rowsPERF : List Row :=
  [⟨0x10130000, 1, 0x4, 0x0, 0x0, 0x0, 0x0, false⟩ /- PERF_STATUS -/,
   ⟨0x10130004, 1, 0x4, 0x0, 0xFFFF, 0x0, 0x0, false⟩ /- PERF_WRAP -/,
   ⟨0x10130008, 1, 0x4, 0x0, 0xFFFF, 0x0, 0x0, false⟩ /- PERF_THR_PEND -/,
   ⟨0x1013000C, 1, 0x4, 0x0, 0x0, 0x0, 0x0, false⟩ /- PERF_SNAP_SEQ -/,
   ⟨0x10130010, 1, 0x4, 0x0, 0x0, 0x0, 0x0, false⟩ /- PERF_SNAP_LOST_CNT -/,
   ⟨0x10130014, 1, 0x4, 0x0, 0xF, 0x0, 0x0, false⟩ /- PERF_ERR -/,
   ⟨0x10130100, 16, 0x20, 0x3FFFFFFF, 0x0, 0x0, 0x0, true⟩ /- PERF_C_CFG -/,
   ⟨0x10130104, 16, 0x20, 0xFFFFFFFF, 0x0, 0x0, 0x0, true⟩ /- PERF_C_THR -/,
   ⟨0x10130108, 16, 0x20, 0xF, 0x0, 0x0, 0x0, true⟩ /- PERF_C_ACT -/,
   ⟨0x1013010C, 16, 0x20, 0xFFFFFFFF, 0x0, 0x0, 0x0, true⟩ /- PERF_C_RELOAD -/,
   ⟨0x10130110, 16, 0x20, 0x0, 0x0, 0x0, 0x0, false⟩ /- PERF_C_VAL_LO -/,
   ⟨0x10130114, 16, 0x20, 0x0, 0x0, 0x0, 0x0, false⟩ /- PERF_C_VAL_HI -/,
   ⟨0x10130118, 16, 0x20, 0x0, 0x0, 0xFFFFFFFF, 0x0, false⟩ /- PERF_C_PRESET -/,
   ⟨0x10131000, 16, 0x8, 0x0, 0x0, 0x0, 0x0, false⟩ /- PERF_U_VAL_LO -/,
   ⟨0x10131004, 16, 0x8, 0x0, 0x0, 0x0, 0x0, false⟩ /- PERF_U_VAL_HI -/]

/-- The registers of PEPPER. -/
def rowsPEPPER : List Row :=
  [⟨0x10140000, 1, 0x4, 0x0, 0x0, 0x0, 0x0, false⟩ /- PEPPER_STATUS -/,
   ⟨0x10140004, 1, 0x4, 0xFFFFFFFF, 0x0, 0x0, 0x1, true⟩ /- PEPPER_SEED -/,
   ⟨0x10140008, 1, 0x4, 0x0, 0x7, 0x0, 0x0, false⟩ /- PEPPER_ERR -/,
   ⟨0x10140100, 8, 0x20, 0xFFFFFFFF, 0x0, 0x0, 0x0, true⟩ /- PEPPER_S_CFG -/,
   ⟨0x10140104, 8, 0x20, 0xFFFFFF, 0x0, 0x0, 0x0, true⟩ /- PEPPER_S_AMOUNT -/,
   ⟨0x10140108, 8, 0x20, 0x3FF, 0x0, 0x0, 0x3C, true⟩ /- PEPPER_S_DUR -/,
   ⟨0x1014010C, 8, 0x20, 0x0, 0x0, 0x0, 0x0, false⟩ /- PEPPER_S_STAT -/,
   ⟨0x10140110, 8, 0x20, 0x0, 0x0, 0x0, 0x0, false⟩ /- PEPPER_S_ACTS -/]

/-- The registers of HVM. -/
def rowsHVM : List Row :=
  [⟨0x10150000, 1, 0x4, 0x0, 0x0, 0x0, 0x0, false⟩ /- HVM_STATUS -/,
   ⟨0x10150004, 1, 0x4, 0x0, 0x0, 0x0, 0x0, false⟩ /- HVM_V_STR -/,
   ⟨0x10150008, 1, 0x4, 0x0, 0x0, 0x0, 0x0, false⟩ /- HVM_V_LINK -/,
   ⟨0x1015000C, 1, 0x4, 0x0, 0x0, 0x0, 0x0, false⟩ /- HVM_V_PRE -/,
   ⟨0x10150010, 1, 0x4, 0x0, 0x0, 0x0, 0x0, false⟩ /- HVM_V_LINK_NEG -/,
   ⟨0x10150014, 1, 0x4, 0x0, 0x0, 0x0, 0x0, false⟩ /- HVM_I_SHUNT -/,
   ⟨0x10150018, 1, 0x4, 0x0, 0x0, 0x0, 0x80000000, false⟩ /- HVM_I_HALL -/,
   ⟨0x1015001C, 1, 0x4, 0x0, 0x0, 0x0, 0xFFFFFFFF, false⟩ /- HVM_ISO_TOTAL -/,
   ⟨0x10150020, 1, 0x4, 0x0, 0x0, 0x0, 0xFFFFFFFF, false⟩ /- HVM_ISO_POS -/,
   ⟨0x10150024, 1, 0x4, 0x0, 0x0, 0x0, 0xFFFFFFFF, false⟩ /- HVM_ISO_NEG -/,
   ⟨0x10150028, 1, 0x4, 0x0, 0x0, 0x0, 0x0, false⟩ /- HVM_ISO_T_LO -/,
   ⟨0x1015002C, 1, 0x4, 0x0, 0x0, 0x0, 0x0, false⟩ /- HVM_ISO_T_HI -/,
   ⟨0x10150030, 1, 0x4, 0x0, 0x0, 0x0, 0x0, false⟩ /- HVM_OVR_CNT -/,
   ⟨0x10150034, 1, 0x4, 0x0, 0xF, 0x0, 0x0, false⟩ /- HVM_ERR -/]

/-- The registers of PWM. -/
def rowsPWM : List Row :=
  [⟨0x10160000, 1, 0x4, 0xF07, 0x0, 0x0, 0x104, true⟩ /- PWM_CFG -/,
   ⟨0x10160004, 1, 0x4, 0xFFFF, 0x0, 0x0, 0x1388, true⟩ /- PWM_PERIOD -/,
   ⟨0x10160008, 1, 0x4, 0x7FF, 0x0, 0x0, 0x1F4, true⟩ /- PWM_DEAD -/,
   ⟨0x1016000C, 1, 0x4, 0x7FF, 0x0, 0x0, 0xC8, true⟩ /- PWM_MINP -/,
   ⟨0x10160010, 1, 0x4, 0xFFFFFFFF, 0x0, 0x0, 0x0, true⟩ /- PWM_TRIG -/,
   ⟨0x10160014, 1, 0x4, 0x0, 0x0, 0x0, 0x0, false⟩ /- PWM_STATUS -/,
   ⟨0x10160018, 1, 0x4, 0x0, 0x0, 0x0, 0x0, false⟩ /- PWM_DUTY01 -/,
   ⟨0x1016001C, 1, 0x4, 0x0, 0x0, 0x0, 0x0, false⟩ /- PWM_DUTY23 -/,
   ⟨0x10160020, 1, 0x4, 0x0, 0x0, 0x0, 0x0, false⟩ /- PWM_ILEG01 -/,
   ⟨0x10160024, 1, 0x4, 0x0, 0x0, 0x0, 0x0, false⟩ /- PWM_ILEG23 -/,
   ⟨0x10160028, 1, 0x4, 0x0, 0x0, 0x0, 0x0, false⟩ /- PWM_PERIOD_CNT -/,
   ⟨0x1016002C, 1, 0x4, 0x0, 0x7, 0x0, 0x0, false⟩ /- PWM_ERR -/]

/-- The registers of STOR. -/
def rowsSTOR : List Row :=
  [⟨0x10170000, 1, 0x4, 0x0, 0x0, 0x0, 0x0, false⟩ /- STOR_STATUS -/,
   ⟨0x10170004, 1, 0x4, 0x0, 0x1F, 0x0, 0x0, false⟩ /- STOR_ERR -/,
   ⟨0x10170008, 1, 0x4, 0x0, 0x0, 0x0, 0x0, false⟩ /- STOR_WR_KIB_LO -/,
   ⟨0x1017000C, 1, 0x4, 0x0, 0x0, 0x0, 0x0, false⟩ /- STOR_WR_KIB_HI -/]

/-- The counter fields that their chapters mark "wraps" (R490, R491): first address, how many and how far apart, lowest bit,
width. -/
def wrapRows : List (Nat × Nat × Nat × Nat × Nat) :=
  [(0x1001001C, 1, 0x4, 0, 32) /- QMGR_DB_FOREIGN_CNT.COUNT -/,
   (0x10010124, 46, 0x40, 0, 32) /- QP_ERR_CNT.COUNT -/,
   (0x10010128, 46, 0x40, 0, 32) /- QP_DB_REJ_CNT.COUNT -/,
   (0x1002001C, 1, 0x4, 0, 32) /- CHAIN_CODE_ERR_A.COUNT -/,
   (0x10020020, 1, 0x4, 0, 32) /- CHAIN_CODE_ERR_B.COUNT -/,
   (0x10020024, 1, 0x4, 0, 32) /- CHAIN_SLOT_ERR_CNT.COUNT -/,
   (0x10020028, 1, 0x4, 0, 32) /- CHAIN_REREAD_CNT.COUNT -/,
   (0x1002002C, 1, 0x4, 0, 32) /- CHAIN_FLAGGED_CNT.COUNT -/,
   (0x10020030, 1, 0x4, 0, 32) /- CHAIN_RPT_LOST.COUNT -/,
   (0x10030014, 1, 0x4, 0, 32) /- MEAS_SWEEP_LOST_CNT.COUNT -/,
   (0x10030018, 1, 0x4, 0, 32) /- MEAS_SKIP_CNT.COUNT -/,
   (0x10150030, 1, 0x4, 0, 32) /- HVM_OVR_CNT.COUNT -/,
   (0x10040014, 1, 0x4, 0, 32) /- BAL_MISMATCH_CNT.COUNT -/,
   (0x10050008, 1, 0x4, 0, 32) /- EST_CYCLE_CNT.COUNT -/,
   (0x10050024, 1, 0x4, 0, 32) /- EST_RESULT_LOST_CNT.COUNT -/,
   (0x10050028, 1, 0x4, 0, 32) /- EST_SOP_LOST_CNT.COUNT -/,
   (0x1005002C, 1, 0x4, 0, 32) /- EST_DIVERGE_CNT.COUNT -/,
   (0x10050030, 1, 0x4, 0, 32) /- EST_CLAMP_CNT.COUNT -/,
   (0x10060008, 1, 0x4, 0, 32) /- EIS_INT_CNT.COUNT -/,
   (0x1006001C, 1, 0x4, 0, 32) /- EIS_RESULT_LOST_CNT.COUNT -/,
   (0x10060020, 1, 0x4, 0, 32) /- EIS_ABANDON_CNT.COUNT -/,
   (0x10060024, 1, 0x4, 0, 32) /- EIS_INTERRUPT_CNT.COUNT -/,
   (0x10060028, 1, 0x4, 0, 32) /- EIS_SEG_DROP_CNT.COUNT -/,
   (0x1007002C, 1, 0x4, 0, 32) /- THERM_ROUND_CNT.COUNT -/,
   (0x10070030, 1, 0x4, 0, 32) /- THERM_RESULT_LOST_CNT.COUNT -/,
   (0x1008002C, 1, 0x4, 0, 32) /- CTRL_SUP_CNT.COUNT -/,
   (0x10160028, 1, 0x4, 0, 32) /- PWM_PERIOD_CNT.COUNT -/,
   (0x10090030, 1, 0x4, 0, 16) /- SAFE_RST_CNT.ACCEPTED -/,
   (0x10090030, 1, 0x4, 16, 16) /- SAFE_RST_CNT.REFUSED -/,
   (0x10090044, 1, 0x4, 0, 32) /- SAFE_TRIP_CNT.COUNT -/,
   (0x10090048, 1, 0x4, 0, 32) /- SAFE_TEST_CNT.COUNT -/,
   (0x1009004C, 1, 0x4, 0, 32) /- SAFE_TEST_ABORT_CNT.COUNT -/,
   (0x10090050, 1, 0x4, 0, 32) /- SAFE_RPT_LOST_CNT.COUNT -/,
   (0x100A0008, 1, 0x4, 0, 32) /- STL_MASQ_CNT.COUNT -/,
   (0x100A1000, 256, 0x10, 8, 8) /- STL_S_STAT.MASQ -/,
   (0x100A1000, 256, 0x10, 16, 16) /- STL_S_STAT.LOST -/,
   (0x100A1008, 256, 0x10, 0, 16) /- STL_S_ERR.CRC_ERR -/,
   (0x100A1008, 256, 0x10, 16, 16) /- STL_S_ERR.SEQ_ERR -/,
   (0x100A100C, 256, 0x10, 0, 8) /- STL_S_CNT.DELAY -/,
   (0x100A100C, 256, 0x10, 8, 8) /- STL_S_CNT.DUP -/] ++
  [(0x100A100C, 256, 0x10, 16, 16) /- STL_S_CNT.GAP -/,
   (0x100B0024, 1, 0x4, 0, 16) /- RED_SW_CNT.FAIL -/,
   (0x100B0024, 1, 0x4, 16, 16) /- RED_SW_CNT.PLANNED -/,
   (0x100B0028, 1, 0x4, 0, 32) /- RED_BEACON_BAD_CNT.COUNT -/,
   (0x100B002C, 1, 0x4, 0, 32) /- RED_DENY_CNT.COUNT -/,
   (0x100B0030, 1, 0x4, 0, 32) /- RED_FENCE_CNT.COUNT -/,
   (0x100B0040, 1, 0x4, 16, 16) /- RED_KSVC.DENY_SENT -/,
   (0x100C000C, 1, 0x4, 0, 32) /- ETH_NO_ROUTE_CNT.COUNT -/,
   (0x100C0010, 2, 0x20, 0, 32) /- ETH_P_RX.COUNT -/,
   (0x100C0014, 2, 0x20, 0, 32) /- ETH_P_TX.COUNT -/,
   (0x100C0018, 2, 0x20, 0, 32) /- ETH_P_FCS_ERR.COUNT -/,
   (0x100C001C, 2, 0x20, 0, 32) /- ETH_P_STOMPED.COUNT -/,
   (0x100C0020, 2, 0x20, 0, 16) /- ETH_P_HOP_DROP.COUNT -/,
   (0x100C0020, 2, 0x20, 16, 16) /- ETH_P_HOP_DROP.Q_DROP -/,
   (0x100C0024, 2, 0x20, 0, 32) /- ETH_P_CL0.COUNT -/,
   (0x100C002C, 2, 0x20, 0, 32) /- ETH_P_PREEMPT.COUNT -/,
   (0x100C0050, 1, 0x4, 0, 32) /- ETH_C1_LOST.COUNT -/,
   (0x100C0054, 1, 0x4, 0, 32) /- ETH_C2_LOST.COUNT -/,
   (0x100C0058, 1, 0x4, 0, 32) /- ETH_C3_LOST.COUNT -/,
   (0x100D002C, 1, 0x4, 0, 32) /- PTP_TS_LOST_CNT.COUNT -/,
   (0x100D0030, 1, 0x4, 0, 16) /- PTP_STEP_CNT.STEPS -/,
   (0x100D0030, 1, 0x4, 16, 16) /- PTP_STEP_CNT.SWITCHES -/,
   (0x100D0034, 1, 0x4, 0, 32) /- PTP_TC_MISS.COUNT -/,
   (0x100E0018, 3, 0x1000, 0, 32) /- CAN_RX_CNT.COUNT -/,
   (0x100E001C, 3, 0x1000, 0, 32) /- CAN_TX_CNT.COUNT -/,
   (0x100E0020, 3, 0x1000, 0, 32) /- CAN_ERRFRM_CNT.COUNT -/,
   (0x100E0024, 3, 0x1000, 0, 32) /- CAN_NOMATCH_CNT.COUNT -/,
   (0x100E0028, 3, 0x1000, 0, 32) /- CAN_RPT_LOST_CNT.COUNT -/,
   (0x100E002C, 3, 0x1000, 0, 16) /- CAN_BO_CNT.BUSOFF -/,
   (0x100E002C, 3, 0x1000, 16, 16) /- CAN_BO_CNT.PXE_CNT -/,
   (0x100F0040, 1, 0x4, 0, 32) /- UPD_REFUSE_CNT.COUNT -/,
   (0x100F0044, 1, 0x4, 0, 32) /- UPD_RETRY_CNT.COUNT -/,
   (0x100F0048, 1, 0x4, 0, 16) /- UPD_ROLLBACK_CNT.ROLLBACK -/,
   (0x100F0048, 1, 0x4, 16, 16) /- UPD_ROLLBACK_CNT.REVERT -/,
   (0x10100014, 1, 0x4, 0, 32) /- REC_DROP_CNT.COUNT -/,
   (0x10100018, 1, 0x4, 0, 32) /- REC_SUPPR_CNT.COUNT -/,
   (0x1011000C, 1, 0x4, 0, 32) /- IDK_SIG_FAIL_CNT.COUNT -/,
   (0x10110010, 1, 0x4, 0, 32) /- IDK_SESS_BAD_CNT.COUNT -/,
   (0x10120118, 16, 0x20, 0, 32) /- CRC_U_GOOD_CNT.COUNT -/,
   (0x1012011C, 16, 0x20, 0, 32) /- CRC_U_BAD_CNT.COUNT -/,
   (0x10001014, 1, 0x4, 0, 32) /- CLK_XRECOV_CNT.COUNT -/,
   (0x10130010, 1, 0x4, 0, 32) /- PERF_SNAP_LOST_CNT.COUNT -/,
   (0x10140110, 8, 0x20, 0, 32) /- PEPPER_S_ACTS.COUNT -/]

end Sys2Proof.Machine.R
end

