-- ==== Sys2Proof/Machine/RegMap.lean ====
section
/-! DEFINITION. The set-up window: which block spans which addresses (R109), which register row an address belongs
to, its value after reset (R11), the _LO/_HI pairs (R12), the lock bits (R118) and the SRC numbers (R444). -/

namespace Sys2Proof.Machine

/-- The blocks that have registers (R109); CAN by controller. -/
inductive Block where
  | sys | clk | pwr | qmgr | chain | meas | bal | est | eis | therm | ctrl | safe | stl | red | eth | ptp
  | can (n : Nat) | upd | recd | idk | crc | perf | pepper | hvm | pwm | stor
  deriving DecidableEq, Repr

/-- First address of a block's span (R109). -/
def blockBase : Block → Nat
  | .sys => 0x10000000 | .clk => 0x10001000 | .pwr => 0x10002000 | .qmgr => 0x10010000 | .chain => 0x10020000
  | .meas => 0x10030000 | .bal => 0x10040000 | .est => 0x10050000 | .eis => 0x10060000 | .therm => 0x10070000
  | .ctrl => 0x10080000 | .safe => 0x10090000 | .stl => 0x100A0000 | .red => 0x100B0000 | .eth => 0x100C0000
  | .ptp => 0x100D0000 | .can n => 0x100E0000 + 0x1000 * n | .upd => 0x100F0000 | .recd => 0x10100000
  | .idk => 0x10110000 | .crc => 0x10120000 | .perf => 0x10130000 | .pepper => 0x10140000 | .hvm => 0x10150000
  | .pwm => 0x10160000 | .stor => 0x10170000

/-- Last address of a block's span (R109). -/
def blockLast : Block → Nat
  | .sys => 0x10000FFF | .clk => 0x10001FFF | .pwr => 0x10002FFF | .can n => 0x100E0FFF + 0x1000 * n
  | b => blockBase b + 0xFFFF

/-- The block whose span holds an address (R109). -/
def blockOf (a : Nat) : Option Block :=
  if a < 0x10000000 then none
  else match a / 0x10000 - 0x1000 with
  | 0 => match a / 0x1000 % 16 with
    | 0 => some .sys | 1 => some .clk | 2 => some .pwr | _ => none
  | 1 => some .qmgr | 2 => some .chain | 3 => some .meas | 4 => some .bal | 5 => some .est | 6 => some .eis
  | 7 => some .therm | 8 => some .ctrl | 9 => some .safe | 10 => some .stl | 11 => some .red | 12 => some .eth
  | 13 => some .ptp
  | 14 => if a / 0x1000 % 16 < 3 then some (.can (a / 0x1000 % 16)) else none
  | 15 => some .upd | 16 => some .recd | 17 => some .idk | 18 => some .crc | 19 => some .perf | 20 => some .pepper
  | 21 => some .hvm | 22 => some .pwm | 23 => some .stor
  | _ => none

/-- The registers of a block. -/
def blockRows : Block → List R.Row
  | .sys => R.rowsSYS | .clk => R.rowsCLK | .pwr => R.rowsPWR | .qmgr => R.rowsQMGR | .chain => R.rowsCHAIN
  | .meas => R.rowsMEAS | .bal => R.rowsBAL | .est => R.rowsEST | .eis => R.rowsEIS | .therm => R.rowsTHERM
  | .ctrl => R.rowsCTRL | .safe => R.rowsSAFE | .stl => R.rowsSTL | .red => R.rowsRED | .eth => R.rowsETH
  | .ptp => R.rowsPTP | .can _ => R.rowsCAN | .upd => R.rowsUPD | .recd => R.rowsREC | .idk => R.rowsIDK
  | .crc => R.rowsCRC | .perf => R.rowsPERF | .pepper => R.rowsPEPPER | .hvm => R.rowsHVM | .pwm => R.rowsPWM
  | .stor => R.rowsSTOR

/-- The bit of SYS.LOCK that locks a block (R118); SYS, SAFE and STL have none. -/
def lockBit : Block → Option Nat
  | .clk => some 0 | .pwr => some 1 | .qmgr => some 2 | .chain => some 3 | .meas => some 4 | .bal => some 5
  | .est => some 6 | .eis => some 7 | .therm => some 8 | .ctrl => some 9 | .red => some 10 | .eth => some 11
  | .ptp => some 12 | .can n => some (13 + n) | .upd => some 16 | .recd => some 17 | .idk => some 18
  | .crc => some 19 | .perf => some 20 | .pepper => some 21 | .hvm => some 22 | .pwm => some 23 | .stor => some 24
  | .sys => none | .safe => none | .stl => none

/-- The SRC number of a block's records (R444). -/
def srcOf (b : Block) : Nat :=
  match lockBit b with
  | some n => n
  | none => match b with
    | .sys => 25
    | .safe => 26
    | _ => 27

/-- The block with a SRC number (R444), for the counters that PERF follows (R491). -/
def blockOfSrc (n : Nat) : Option Block :=
  ([Block.clk, .pwr, .qmgr, .chain, .meas, .bal, .est, .eis, .therm, .ctrl, .red, .eth, .ptp, .can 0, .can 1, .can 2,
    .upd, .recd, .idk, .crc, .perf, .pepper, .hvm, .pwm, .stor, .sys, .safe, .stl])[n]?

/-- Whether a row holds a register at an address. -/
def rowHas (r : R.Row) (a : Nat) : Bool :=
  decide (r.addr ≤ a) && decide ((a - r.addr) % r.stride = 0) && decide ((a - r.addr) / r.stride < r.count)

/-- The row of the register at an address: none where no chapter lists one (R109). -/
def findRow (a : Nat) : Option R.Row :=
  match blockOf a with
  | none => none
  | some b => (blockRows b).find? (fun r => rowHas r a)

/-- A register's value after the reset of its block (R11). -/
def resetVal (a : Nat) : Word :=
  match findRow a with
  | none => 0
  | some r => BitVec.ofNat 32 r.reset

/-- The _LO registers of the pairs read under R12, each with how many there are and how far apart; _HI is 4 above. -/
def pairRows : List (Nat × Nat × Nat) :=
  [(R.STOR_WR_KIB_LO, 1, 4), (R.QP_SQ_BASE_LO 0, 46, 0x40), (R.QP_CQ_BASE_LO 0, 46, 0x40), (R.SYS_SERIAL_LO, 1, 4),
   (R.SYS_OT_LO, 1, 4), (R.MEAS_LAST_T_LO, 1, 4), (R.HVM_ISO_T_LO, 1, 4), (R.EST_LAST_T_LO, 1, 4),
   (R.CTRL_DISP_EXP_LO, 1, 4), (R.SAFE_FIRST_T_LO, 1, 4), (R.RED_LAST_SW_T_LO, 1, 4), (R.ETH_MAC_LO, 1, 4),
   (R.PTP_TIME_LO, 1, 4), (R.PTP_D0_LO, 1, 4), (R.PTP_D1_LO, 1, 4), (R.CAN_IMG_BASE_LO 0, 3, 0x1000),
   (R.PERF_C_VAL_LO 0, 16, 0x20), (0x10131000, 16, 8)]

/-- Whether an address is the _LO register of a pair (R12). -/
def isPairLo (a : Nat) : Bool :=
  pairRows.any (fun p => decide (p.1 ≤ a) && decide ((a - p.1) % p.2.2 = 0) && decide ((a - p.1) / p.2.2 < p.2.1))

/-- Whether an address is the _HI register of a pair (R12). -/
def isPairHi (a : Nat) : Bool := decide (4 ≤ a) && isPairLo (a - 4)

end Sys2Proof.Machine
end

