-- ==== Sys2Proof/Machine/State.lean ====
section
/-! DEFINITION. The state of the block, as plain data: the set-up registers by address, host memory, the queue pairs, and
for every block of the module what it holds beside its registers; and the reasons a step can stop. -/

namespace Sys2Proof.Machine

open Sys2Proof

/-! ### Reasons to stop -/

/-- Why a step faults. -/
inductive Fault where
  /-- Raised by SQ_TAIL when a core's store before the doorbell lies outside host memory (R80): the address does not
  exist. Safe: the hardware has nothing there to go on with. -/
  | noHostMemory (addr : Nat)
  deriving DecidableEq, Repr

/-- Why a step is refused. -/
inductive Refusal where
  /-- Raised by an arm of exec whose command has no meaning yet. Safe: nothing is claimed of it. -/
  | notModelled (mnemonic : String)
  deriving DecidableEq, Repr

/-! ### What leaves the module (the model's own trace of outputs, log 4) -/

/-- The kinds of output. -/
inductive OutKind where
  | irq | perfIrq | chainFrame | strobe | beacon | keeperFrame | ringFrame | ringNotice | stlPdu | canFrame | ptpFrame | anchor | dispatch
  | adcReset
  deriving DecidableEq, Repr

/-- One output: its kind, its numbers and its bytes. -/
structure OutMsg where
  kind : OutKind
  args : List Nat
  data : List Byte
  deriving DecidableEq, Repr

/-! ### Queue pairs (R80 to R108) -/

/-- Where a fetched entry stands. -/
inductive EntrySt where
  /-- Judged under checks 1 to 7 of R521 and not started. -/
  | ready
  /-- TIMED, at the front of its queue pair, plant time below AT (R96). -/
  | waiting
  /-- A posted buffer that its engine holds, with the bytes written so far (R104). -/
  | posted (written : Nat)
  /-- Started; its action lasts (R102). The engine keeps a number with it. -/
  | running (note : Nat)
  /-- Started; its completion waits for an event from outside the module's own work (R102). -/
  | await (note : Nat)
  /-- Finished: STATUS, RESULT and RESULT_EXT (R86). -/
  | done (status result ext : Nat)
  deriving DecidableEq, Repr

/-- A fetched submission entry (R83) with the level whose doorbell made it ready (R93). -/
structure Entry where
  opc : Nat
  flags : Nat
  tag : Nat
  arg0 : Nat
  addr : Nat
  len : Nat
  arg1 : Nat
  at64 : Nat
  level : Level
  st : EntrySt
  /-- What the entry was fetched with beside its 32 bytes: the staged sampling table for a TABLE_COMMIT (R175), PWR.WAKE_CFG for a
  WATCH request (R124). -/
  snap : List (List Byte)
  deriving DecidableEq, Repr

/-- What QMGR holds for a queue pair beside its registers: the rings in force since it was enabled (R102), the level of
each entry made ready and not yet fetched (R93), the fetched entries in order (R95), the completions not yet announced,
whether one of them carries FLAGS.IRQ and whether COAL_US has passed since the first of them (R108). -/
structure QpState where
  sqBase : Nat
  cqBase : Nat
  sqLog : Nat
  cqLog : Nat
  levels : List Level
  entries : List Entry
  unann : Nat
  irqNote : Bool
  coalNote : Bool
  deriving DecidableEq, Repr

/-- A queue pair that has never been enabled. -/
def QpState.init : QpState :=
  { sqBase := 0, cqBase := 0, sqLog := 4, cqLog := 4, levels := [], entries := [], unann := 0, irqNote := false, coalNote := false }

/-! ### Event recorder (R443 to R457) -/

/-- A record (R443); `bad` when its RCRC fails on reading back. -/
structure RecEnt where
  seq : Nat
  ot : Nat
  pc : Nat
  src : Nat
  code : Nat
  rflags : Nat
  inst : Nat
  suppr : Nat
  arg0 : Nat
  arg1 : Nat
  bad : Bool
  deriving DecidableEq, Repr

/-- A token bucket (R449): tokens in units of 0.00001, the OT of the latest refill, and the records suppressed since. -/
structure Bucket where
  src : Nat
  code : Nat
  level : Nat
  tokens : Nat
  at48 : Nat
  suppr : Nat
  deriving DecidableEq, Repr

/-- REC: the sequence, the durable records and the buffer (oldest first), how many of the buffer are being written, the
buckets and the shared ones by LEVEL, the runs of missing SEQ not yet named by a LOST record, the clearing nonce, and
how many records were sealed at the start of the flush phase (R448). -/
structure RecSt where
  nextSeq : Nat
  oldest : Nat
  stored : Nat
  durable : List RecEnt
  buf : List RecEnt
  writing : Nat
  buckets : List Bucket
  shared : List Bucket
  lost : List (Nat × Nat)
  nonce : Option Nat
  sealedN : Nat
  deriving DecidableEq, Repr

/-! ### Identity and keys (R458 to R471) -/

/-- An operator key (R462): KEY_ID, OPER, RIGHTS, public key (X then Y). -/
structure OpKey where
  id : Nat
  oper : Nat
  rights : Nat
  pub : List Byte
  deriving DecidableEq, Repr

/-- The operator table and the revoked keys as one configuration copy holds them (R466): revoked entries keep the order in
which they were revoked. -/
structure KeyTab where
  keys : List OpKey
  revoked : List OpKey
  seq : Nat
  tagOk : Bool
  deriving DecidableEq, Repr

/-- An open management session (R467, R468). -/
structure MgmtSess where
  keyId : Nat
  oper : Nat
  rights : Nat
  keyIn : BitVec 128
  keyOut : BitVec 128
  cntIn : Nat
  cntOut : Nat
  bad : Nat
  deriving DecidableEq, Repr

/-- IDK: the table in use, the release keys revoked since delivery, the outstanding nonce, the sessions 0 to 3, the latest
message accepted on each, and how many values the DRBG has drawn. -/
structure IdkSt where
  tab : KeyTab
  burned : Nat
  nonce : Option Nat
  sess : List (Option MgmtSess)
  inbox : List (List Byte)
  draws : Nat
  deriving DecidableEq, Repr

/-! ### Managed storage (R75, R76) -/
/-! ### Tiles (R125 to R164, R183 to R197) -/

/-- The states of a tile (R132). -/
inductive TileSt where
  | sleep | awake | numbered | armed | tripped
  deriving DecidableEq, Repr

/-- One entry of a tile's sample hold (R142): the sample number, the cell fields, the diode and the TSTAT bits as they
stood at the instant, and the instant at which the tile fired, in ns of plant time (R136). -/
structure HoldEnt where
  snum : Nat
  cells : List Nat
  diode : Nat
  tstat : Nat
  fired : Int
  deriving DecidableEq, Repr

/-- One tile: whether it stands on the ring, its factory data, its state and the contents of its registers (R151, R164,
R196), its hold (newest first), and what its checks remember between samples. -/
structure Tile where
  present : Bool
  trim : TileTrim
  st : TileSt
  pos : Nat
  posMismatch : Bool
  fog : Bool
  locked : Bool
  lockX3 : Bool
  loopX2 : Bool
  loopX3 : Bool
  syncX2 : Bool
  syncX3 : Bool
  tripCell : Nat
  tripOv : Bool
  codeX2 : Nat
  codeX3 : Nat
  hcrcErr : Nat
  snumNew : Nat
  diode : Nat
  dlyM : Nat
  dlyX2 : Nat
  dlyX3 : Nat
  dAlign : Nat
  ovThr : Nat
  uvThr : Nat
  filt : Nat
  thrLoaded : Bool
  /-- The stack has been below 36 V and has not stayed above 37 V since; it stands below 30 V, which holds the tile in reset (R132).
  Both outlast sleep. -/
  supplyLow : Bool
  held : Bool
  /-- ARM received since the last fire: SNUM, LEAD and the side (R136, R188). -/
  arm : Option (Nat × Nat × Bool)
  /-- When after that ARM's arrival the FETs go off, in ns (R188). -/
  offNs : Int
  /-- FETs turned off for the coming instant under PAUSE (R188); and the pauses since the latest millisecond, in µs (R184). -/
  paused : Bool
  pauseUs : Nat
  hold : List HoldEnt
  convCnt : Nat
  owEn : Bool
  owInt : Nat
  owTap : Nat
  owOpen : Bool
  owMask : Nat
  /-- Tap whose test begins after the next sample, and the tap whose test current is on (R162, R191); the codes of the latest sample, and
  the number of the sample that the latest test was evaluated on. -/
  owDue : Option Nat
  owRun : Option Nat
  owPrev : List Nat
  owSnum : Option Nat
  /-- Taps whose latest test found them open, and those whose latest test passed (R162). -/
  owLast : Nat
  owPass : Nat
  refCh : Nat
  refFail : Bool
  refBad : Bool
  refMask : Nat
  refDev : Nat
  /-- Channels whose latest reference check failed, those whose latest one passed, and those whose latest two did (R161). -/
  refLast : Nat
  refPass : Nat
  refTwo : Nat
  cmpIdx : Nat
  cmpFail : Bool
  cmpMask : Nat
  cmpBad : Bool
  stack : Nat
  comp : Bool
  tapValid : Bool
  cal : Bool
  bto : Nat
  silence : Bool
  derated : Bool
  hot : Bool
  pReq : Nat
  uvStop : Bool
  timers : List Nat
  /-- On-time already counted towards the next second of each timer, in 1/65536 ms (R184). -/
  msOn : List Nat
  cond : Nat
  tmrPtr : Nat
  rtapPtr : Nat
  rtap : List Nat
  tcal : Nat
  /-- The peak credit C in nJ (R185); the share of the frame in which requested FETs conduct, in 1/65536; and the millisecond of the
  running 10 ms frame. -/
  credit : Nat
  share : Nat
  frameMs : Nat
  rejCnt : Nat
  deriving DecidableEq, Repr

/-- A tile's factory data where nothing else is known of it (DESIGN CHOICE, log 6): no signature, nominal resistances and
the nominal residue. -/
def TileTrim.nominal : TileTrim :=
  { sig := 0, hwRev := 0, rBleed := List.replicate 24 16800, residue := 18316 }

/-- A tile asleep, its registers at the values of its wake (R151, R164, R196). -/
def Tile.asleep (t : TileTrim) : Tile :=
  { present := true, trim := t, st := .sleep, pos := 31, posMismatch := false, fog := false, locked := false, lockX3 := false,
    loopX2 := false, loopX3 := false, syncX2 := false, syncX3 := false, tripCell := 0, tripOv := false, codeX2 := 0,
    codeX3 := 0, hcrcErr := 0, snumNew := 0, diode := 0x8000, dlyM := 0, dlyX2 := 0, dlyX3 := 0, dAlign := 0,
    ovThr := 0xFFFF, uvThr := 0, filt := 100, thrLoaded := false, supplyLow := false, held := false, arm := none, offNs := 0, paused := false, pauseUs := 0,
    hold := [], convCnt := 0, owEn := false, owInt := 40, owTap := 0, owOpen := false, owMask := 0, owDue := none, owRun := none,
    owPrev := [], owSnum := none, owLast := 0, owPass := 0, refCh := 0, refFail := false, refBad := false, refMask := 0, refDev := 0,
    refLast := 0, refPass := 0, refTwo := 0, cmpIdx := 0, cmpFail := false, cmpMask := 0, cmpBad := false, stack := 0, comp := false,
    tapValid := false, cal := false, bto := 50, silence := false, derated := false, hot := false, pReq := 0,
    uvStop := false, timers := List.replicate 24 0, msOn := List.replicate 24 0, cond := 0, tmrPtr := 0, rtapPtr := 0,
    rtap := List.replicate 25 0, tcal := 0, credit := 552000000000, share := 65536, frameMs := 0, rejCnt := 0 }

/-! ### CHAIN, MEAS, HVM and BAL -/

/-- A sweep being assembled or as delivered (R144, R165): its number and instant, the good slots by tile position as
bytes, the tiles read from the hold, whether both directions served, the table index, FLAGS of the instant, and the
string values taken at the instant (codes of R15). -/
structure Sweep where
  snum : Nat
  tInst : Nat
  /-- PTP clock ticks at the instant. -/
  ticks : Nat
  slots : List (Option (List Byte))
  fromHold : Nat
  twoDir : Bool
  idx : Nat
  flags : Nat
  iShunt : Nat
  iHall : Nat
  vStr : Nat
  vLink : Nat
  owTap : Nat
  deriving DecidableEq, Repr

/-- No sweep. -/
def Sweep.none : Sweep :=
  { snum := 0, tInst := 0, ticks := 0, slots := List.replicate 24 Option.none, fromHold := 0, twoDir := false, idx := 0xFFFF, flags := 0,
    iShunt := 0x80000000, iHall := 0x80000000, vStr := 0x80000000, vLink := 0x80000000, owTap := 0xFF }

/-- CHAIN: the data hops that are cut (numbering of R125), the sweep under assembly, the PROBE words from the two ports,
SP's latest read-back by position (OV_THR, UV_THR, FILT), whether a measured delay set has been in force since start-up (R137), the
trim signatures by position, and the positions that each port still reaches by the LINK_DOWN frames (R144). `readA`, `readB`: the
positions whose slots the read frames launched from each port still carry (R142, R144). `dlyDue`, `dlyAt`, `transit`: a delay
measurement is due, the PTP clock ticks at the latest one, and the latest strobe's transit time in ns (R139). `bypass`: the delay set in
force takes the partner as in bypass (R149). `copy`: the latest frame that a unit which does not command has passed on (R127). -/
structure ChainSt where
  cuts : List Nat
  asm : Option Sweep
  probeA : Nat
  probeB : Nat
  readBack : List (Option (Nat × Nat × Nat))
  measured : Bool
  trims : List (Option Nat)
  reachA : Nat
  reachB : Nat
  readA : Nat
  readB : Nat
  dlyDue : Bool
  dlyAt : Nat
  transit : Option Nat
  bypass : Bool
  copy : List Byte
  deriving DecidableEq, Repr

/-- A committed sampling-instants table (R155): base (1 CARRIER, 2 PTP), cycle, anchor and the entries (PERIODS, OFFSET). -/
structure MeasTable where
  base : Nat
  cycleNs : Nat
  anchor : Nat
  entries : List (Nat × Nat)
  deriving DecidableEq, Repr

/-- A change of schedule that waits for its sweep boundary (R175): none, a table, or the start-up schedule. -/
inductive MeasPend where
  | none | table (t : MeasTable) | revert
  deriving DecidableEq, Repr

/-- MEAS: whether it has started, the next sample number and table index, the table in force (none under the start-up
schedule), the staged quarters as 256 entries of 8 bytes, the pending change, whether the next instant is the first of
a new table, the last carrier period used, the instants counted in the running second, the EST window's sweeps, and
the latest sweep delivered. -/
structure MeasSt where
  /-- PTP clock ticks at the start of MEAS. -/
  t0 : Nat
  next : Nat
  nextIdx : Nat
  table : Option MeasTable
  staged : List (List Byte)
  pend : MeasPend
  first : Bool
  carrierNs : Nat
  /-- The time in ns from the latest instant taken to the latest one dropped since, corrected for a carrier change (R157). -/
  acc : Int
  /-- PTP clock ticks and T_INST of the latest instant taken, and SUM_CELLS of the latest sweep delivered (mV). -/
  tickLast : Nat
  tInst : Nat
  sumCells : Int
  /-- The commanding role has been taken and no instant has followed (R157). -/
  takeover : Bool
  secCount : Nat
  secIdx : Nat
  window : List Sweep
  last : Option Sweep
  /-- The tap of the string's next open-wire test (R162). -/
  owNext : Nat
  deriving DecidableEq, Repr

/-- The phases of an insulation cycle (R171). -/
inductive IsoPhase where
  | idle | p0 | p1 | p2
  deriving DecidableEq, Repr

/-- HVM: the latest values (signed mV and mA, none where the path is faulty), the running report period, and the insulation
cycle in progress with the values taken (mV, whether they settled, and U). -/
structure HvmSt where
  vStr : Int
  vLink : Int
  vPre : Int
  vLinkNeg : Int
  iShunt : Option Int
  iHall : Option Int
  iso : IsoPhase
  vc : List (Int × Bool × Int)
  /-- U has been below 50 V in the cycle in progress; the latest cycle's IFLAGS and its Vc0. -/
  isoLow : Bool
  isoFlags : Nat
  vc0 : Int
  /-- V_STR of the latest record (R292). -/
  recV : Int
  /-- R_TOTAL of the latest valid cycle, for SP (R172), with the PT64 and OT48 of its end. -/
  isoValid : Option (Nat × Nat × Nat)
  /-- Why SHUNT_FAULT stands: the input beyond its range for 1 ms, and its common mode (R170). -/
  shOver : Bool
  shCm : Bool
  deriving DecidableEq, Repr

/-- The stored tap-wire calibration of a position (R193): 25 values in 10 µΩ and T_CAL. -/
structure TapVals where
  r : List Nat
  tcal : Nat
  deriving DecidableEq, Repr

/-- BAL: the shadow of each tile's timers (R194), the mask of the TAP_CAL in progress, and the latest round's snapshot. -/
structure BalSt where
  shadow : List (List Nat)
  rejSeen : List Nat
  calMask : Option Nat
  snap : List (List Byte)
  taps : List (Option TapVals)
  deriving DecidableEq, Repr

/-! ### EST (R202 to R228) -/

/-- A committed chemistry (R212, R214): CHEM_ID and the contents of items 2, 3 and 4. -/
structure Chem where
  id : Nat
  hdr : List Byte
  ocv : List Byte
  par : List Byte
  deriving DecidableEq, Repr

/-- One cell of EST (R203, R208 to R211, R218, R219): the state in Q2.62, Q1.31 and Q10.22, the multipliers in UQ4.28, the
covariances (row by row) and the sensitivities dSoC/dg_Q, dVa/dg_Ra, dVa/dg_τa, dVb/dg_Rb, dVb/dg_τb as binary32 codes,
the latest residual, the charge in mA·ns since the latest update of g_Q, the flags, the observation of EIS waiting (Tc
and variance), how many updates in a row exceeded the bound, and for how many ns σ_SoC has stayed at or below CONV_SIG. -/
structure EstCell where
  soc : Int
  va : Int
  vb : Int
  tc : Int
  g : List Nat
  p : List (BitVec 32)
  pp : List (BitVec 32)
  sens : List (BitVec 32)
  resid : BitVec 32
  qAbs : Nat
  start : Nat
  cold : Bool
  predict : Bool
  noEis : Bool
  clamp : Bool
  diverged : Bool
  stale : Bool
  sinceNs : Nat
  obs : Option (BitVec 32 × BitVec 32)
  divRun : Nat
  convNs : Option Nat
  deriving DecidableEq, Repr

/-- The input of one EST cycle (R168): the closing sweep's number, plant time and PTP clock ticks, per cell the sum and
the count of usable codes, the currents and V_STR (sum and count), and whether the start-up schedule ran. -/
structure EstWin where
  snum : Nat
  t : Nat
  ticks : Nat
  vals : List (Nat × Nat)
  iShunt : Int × Nat
  iHall : Int × Nat
  vStr : Int × Nat
  startup : Bool
  deriving DecidableEq, Repr

/-- EST: the committed chemistry and one that waits for the next cycle (with RESET_PAR), the input waiting, whether the next
cycle is the first after the start, the cells, the ticks of the latest cycle, whether the wait for plant time has run
out, the cells' history records as taken at the start, whether every window since was at rest and the charge since
(mA·ns), the charge and latest ticks while disabled, whether a gap without cycles is to be covered (R207) and the current summed over the sweeps since the latest cycle, for how long the
current has been at rest, the currents of the latest PAR_DIV cycles, cycles and time since the parameter filter ran, and
the resets that wait for the next cycle (first, count, multipliers too). -/
structure EstSt where
  chem : Option Chem
  pend : Option (Chem × Bool)
  input : Option EstWin
  starting : Bool
  cells : List EstCell
  lastTicks : Option Nat
  waitOver : Bool
  recs : List (Option (List (BitVec 8)))
  rested : Bool
  qFirst : Int
  offQ : Int
  offTicks : Option Nat
  gap : Bool
  gapSum : Int
  gapN : Nat
  restNs : Nat
  span : List Int
  parCnt : Nat
  parNs : Nat
  resets : List (Nat × Nat × Bool)
  sopSeq : Nat
  sopChg : Nat
  sopDis : Nat
  /-- The latest evaluation's limits by horizon: charge and discharge in mA, then in W (magnitudes); and its SOC_MEAN. -/
  sopH : List (Nat × Nat × Nat × Nat)
  sopMean : Nat
  resDiv : Nat
  deriving DecidableEq, Repr

/-! ### EIS (R229 to R248) -/

/-- One cell of EIS in the integration in progress: of the segment its reference sample, the last usable one, the
substitutions, the sums X per point, the two bits of its tile's slot, and whether it is spoilt; of the integration per
point S_VI, S_VV and S_II, the count of kept segments, whether its tile bled and whether a sample was substituted. -/
structure EisCell where
  x0 : Option Nat
  last : Nat
  subs : Nat
  acc : List (Int × Int)
  tbits : Option Nat
  bad : Bool
  svi : List (BitVec 32 × BitVec 32)
  svv : List (BitVec 32)
  sii : List (BitVec 32)
  kept : Nat
  bled : Bool
  subst : Bool
  deriving DecidableEq, Repr

/-- EIS: plan and phase table in force, and a commit that waits (whether it resets the offsets); whether an integration is
in progress, and whether the next one waits for a valid excitation (R235); its first number and the instants of its
first and latest samples; whether a segment is in progress; the current's reference, last value, substitutions, whether
it spoils the segment, and its sums; segments kept and S_II of the current; segments dropped for the current; whether
it was interrupted; the cells; the phase offsets in 2^-16 of 0.001°; whether EST reported REST in every cycle of it; TB
at its first segment; the integration's interval of instants; the latest complete record; a segment or an integration that
has come to its end and is not yet evaluated; the excitation state the active module's Beacon carries (R234); the number of the
first instant that an integration may begin with (R233); whether a commit has taken effect whose entry waits for the first
integration under it (R245); G in mA and A_PK as the latest commit set them (R231); and whether the integration began under
the start-up schedule (R244). The interval of the instants of the integration is in ns (R232). -/
structure EisSt where
  plan : Option (List (BitVec 8))
  table : Option (List (BitVec 8))
  pend : Option (List (BitVec 8) × Option (List (BitVec 8)) × Bool)
  on : Bool
  waitExc : Bool
  sFirst : Nat
  tFirst : Nat
  tLast : Nat
  sLast : Nat
  segOn : Bool
  i0 : Option Int
  iLast : Int
  iSubs : Nat
  iBad : Bool
  iAcc : List (Int × Int)
  iKept : Nat
  iSii : List (BitVec 32)
  absent : Nat
  interrupted : Bool
  cells : List EisCell
  ofs : List Int
  restAll : Bool
  tb0 : List Nat
  perNs : Nat
  latest : List (BitVec 8)
  segDue : Bool
  intDue : Bool
  peerExc : Bool
  startAt : Nat
  comDue : Bool
  gain : BitVec 32
  apk : Nat
  startup : Bool
  deriving DecidableEq, Repr

/-! ### THERM (R249 to R271) -/

/-- One tile's sensor in THERM: the latest reading of a good slot, the ticks at which it came, whether it came since the latest
round, the filtered bleed power in W, the judgement, the substitution, and what its tests remember: the reading of the previous
housekeeping round, how many jumps in a row, for how long it has deviated, for how long its readings have passed every test, and TB in
0.01 °C. -/
structure ThermTile where
  diode : Option Nat
  goodAt : Nat
  got : Bool
  pf : BitVec 32
  broken : Bool
  stale : Bool
  subst : Bool
  prev : Option Nat
  jumps : Nat
  devMs : Nat
  okMs : Nat
  tb : Int
  deriving DecidableEq, Repr

/-- THERM: the tiles, the delivered bleed powers of the latest BAL round (0.1 W × share in 1/65536), whether a round has
run since ENABLE, for how long NEAR has been false, rounds since the latest report, the duties of the loop channels,
the heater relay with a dwell that runs, whether the unit has run a round since it took the commanding role (R264), what
LIM_RISE allows beyond whole mA in 1/1,000 mA (R257), and the J10 lines TA_PWM0 to TA_PWM2: the share of each period during which
the line sinks in 0.01 %, and the frequency in Hz, both 0 while released (R261). -/
structure ThermSt where
  tiles : List ThermTile
  pBal : List Nat
  started : Bool
  farMs : Nat
  rptN : Nat
  loopDuty : List Nat
  heater : Bool
  dwell : Bool
  j10On : Bool
  riseRem : Nat
  lines : List (Nat × Nat)
  deriving DecidableEq, Repr

/-! ### CTRL and PWM (R272 to R303) -/

/-- One loop channel beside its registers (R274 to R288): the set-point of SET_REF, the ramp state, derivative filter,
integrator, previous feedback and plausibility model in binary32, the latest feedback and output, whether a dwell runs
and the side it came from, whether the next cycle preloads the channel and the mirrored ramp state and output it preloads
from, whether an OPEN channel holds its last output, whether supervision stops it, and the counts of MODEL, HALL and TRACK. -/
structure LcSt where
  host : Int
  rs : Word
  df : Word
  integ : Word
  yPrev : Word
  ym : Word
  u : Int
  dwell : Bool
  fromPos : Bool
  preload : Bool
  mir : Option (Int × Int)
  held : Bool
  failing : Bool
  cnt : List Nat
  deriving DecidableEq, Repr

/-- A dispatch grant in force (R296): limits in mA, expiry, set-point; and who asked for it (R292): sender and REQ_ID, the
granted current, the current last announced, the horizon, and the ticks of the latest REVISE. -/
structure Grant where
  chg : Nat
  dis : Nat
  expiry : Nat
  setPoint : Int
  asker : Option (Nat × Nat)
  iGrant : Int
  announced : Nat
  horizon : Nat
  revisedAt : Option Nat
  deriving DecidableEq, Repr

/-- CTRL and PWM: the channels, the grant, requests whose deadline had passed, the sum and the count of r since the latest
supervision check, how many triggers in a row each leg lay above ILEG_MAX, the compare values computed and loaded by leg,
whether each leg is driven, and the duties. -/
structure CtrlSt where
  lcs : List LcSt
  grant : Option Grant
  lateReqs : Nat
  /-- Grants that start at a later AT, oldest first: AT and the grant (R292). -/
  later : List (Nat × Grant)
  /-- The references of the cycles since the latest supervision check: sum, count, and the latest one (R285). -/
  rSum : Int
  rN : Nat
  rLast : Int
  legOc : List Nat
  cNew : List Nat
  cNow : List Nat
  legOn : List Bool
  duty : List Word
  deriving DecidableEq, Repr

/-- A channel as the Beacon mirrors it (R290): state, target, ramp state and output. -/
structure LcMirror where
  st : Nat
  target : Int
  rs : Int
  u : Int
  deriving DecidableEq, Repr

/-! ### CAN (R403 to R422) -/

/-- A message object beside its item: the data loaded and the attempts made for it, new data that waits for the attempt to
end (R412), and UCNT of its mailbox (R410). TXPEND holds whether it is pending. -/
structure CanObj where
  data : List Byte
  attempts : Nat
  next : Option (List Byte)
  ucnt : Nat
  deriving DecidableEq, Repr

/-- A controller: its objects, the object whose transmission has begun with whether it was cancelled meanwhile (R413), how
many attempts in a row ended in an ACK error (R415), and whether DISABLE waits for the attempt to end (R418). -/
structure CanCtl where
  objs : List CanObj
  attempt : Option (Nat × Bool)
  aloneRun : Nat
  stopping : Bool
  deriving DecidableEq, Repr

/-! ### SAFE and STL (R304 to R350) -/

/-- SAFE and SP beside their registers: the safety set in SP's memory (empty for none), whether SP runs safety firmware, whether
a reset edge has been accepted since start-up, whether the flush phase forces the safe state, the outputs kept off until an
accepted edge (R363), VCOIL below 8.0 V; per output whether its latest off-state check passed and how many checks in a row
found too little current (R316); the switch under test (output, low side; R317); the input channels that failed their latest
test pulse (R320); the ticks at which an STL high began, and the source of the edge whose re-arming
runs (R322, R323); the step of the precharge sequence (0 none, 1 PRE, 2 overlap, 3 MAIN alone) and the accepted edge as its
start request (R315). `loopOpen` holds while the Fog loop is open outside the tiles: the external segment of J7, a cut cable or an
unmated connector (R48). -/
structure SafeSt where
  set : List Byte
  fw : Bool
  edge : Bool
  forced : Bool
  withheld : Nat
  coilLow : Bool
  offOk : List Bool
  lowN : List Nat
  test : Option (Nat × Bool)
  tpFail : Nat
  stlHigh : Option Nat
  rearm : Option Nat
  seq : Nat
  edgeReq : Bool
  /-- Sweeps delivered to SP and not yet evaluated, and the latest one evaluated (R309). -/
  queue : List Sweep
  lastSweep : Option Sweep
  /-- Consecutive usable values above and below the thresholds per cell, diodes outside per tile, sweeps beyond SUM_BAND, and
  for how many ms a cell, a missing current or voltage, HALL and CURRENT have stood (R307, R309). -/
  ovN : List Nat
  uvN : List Nat
  diodeN : List Nat
  sumN : Nat
  unMs : List Nat
  noMs : Nat
  hallMs : Nat
  curMs : Nat
  /-- Sweeps in a row that passed (R72), the tiles with CMP_BAD in the latest sweep, and whether the read-back matched. -/
  passed : Nat
  cmpBad : Nat
  readOk : Bool
  readBad : Option Nat
  /-- Insulation for SP (R307, R310): ms since the latest valid result or since the age began, the latest result taken
  (R_TOTAL, PT64, OT48), and whether a valid one has come since the role was taken. -/
  isoMs : Nat
  isoAt : Option (Nat × Nat × Nat)
  isoOwn : Bool
  /-- Commissioning (R345): the bytes loaded and the next OFFSET. -/
  load : List Byte
  loadNext : Nat
  /-- Whether a repair from the one good copy waits for its confirmation (R326). -/
  repair : Bool
  /-- The partner's Beacon for SAFE (R310, R319, R323): SO_ON, READY and the count of accepted edges. -/
  mirSo : Nat
  mirReady : Bool
  mirAcc : Option Nat
  loopOpen : Bool
  deriving DecidableEq, Repr

/-- An STL session beside its registers (R330 to R340): its next SEQ, the SEQ at which it last entered OPENING, how many frames it
has sent, ACK_SEQ, word 0 of the latest CYCLIC frame accepted in RUN (host data counts as 0), the latest frame accepted and
when (µs), the host's data, frames waiting for RELAY_TX, and the ticks of the frames that failed within the last second. -/
structure StlSess where
  seq : Nat
  openSeq : Nat
  sent : Nat
  ack : Nat
  word : Nat
  lastPdu : List Byte
  lastUs : Nat
  data : List Byte
  relay : List (List Byte)
  errs : List Nat
  deriving DecidableEq, Repr

/-! ### RED and the Keeper service (R351 to R373) -/

/-- A pair that the Keeper service serves (R360), beside KS_EPOCH and KS_STATE: the ticks of the latest Beacon of each unit, of the
latest one with ROLE ACTIVE from the holder, the pending claim (unit, epoch), what it heard while warming up (largest
epoch, holder), whether its units reach the service on J5-3 and J5-4, and its frame count. -/
structure KsPair where
  last : List (Option Nat)
  active : Option Nat
  claim : Option (Nat × Nat)
  heardEp : Nat
  heardBy : Option Nat
  direct : Bool
  seq : Nat
  deriving DecidableEq, Repr

/-- RED beside its registers: its frame count; the last accepted SEQ of the partner and of the Keeper (none before the first); the
partner's latest Beacon and the mirror (empty for none); the ticks of the latest Beacon; whether the role is claimed after a
failure verdict, and whether its CLAIM has an answer; why a planned handover runs (0 none, 1 host, 2 UPD, 3 take-back, 4
degradation, 5 SAFETY reset), whether the partner is ready and Beacons sent in step 1; whether this unit shows HO_READY; a GRANT
taken while the final Beacon is awaited; what a FENCED unit keeps of its channels; the ticks since which the gap of R365
runs, and since which the hold-off of R369 runs; whether CFG_AGREE held; and the pairs served. -/
structure RedSt where
  seq : Nat
  peerIn : Option Nat
  keepIn : Option Nat
  latest : List Byte
  mirror : List Byte
  lastTick : Nat
  verdict : Bool
  answered : Bool
  hoWhy : Nat
  hoPeer : Bool
  hoCount : Nat
  hoReady : Bool
  awaitFinal : Bool
  kept : Option (List LcMirror × Nat)
  gapFrom : Option Nat
  tbFrom : Option Nat
  agreed : Bool
  ks : List KsPair
  deriving DecidableEq, Repr

/-- The safety set as one configuration copy holds it (R325): its bytes, whether it waits for its confirmation, and the
confirmation record. -/
structure SafeCopy where
  set : List Byte
  pend : Bool
  conf : List Byte
  deriving DecidableEq, Repr

/-! ### ETH (R374 to R400) and UPD (R423 to R442) -/

/-- ETH beside its registers: whether each port is enabled, the count of Rinpacon frames originated, and the positions whose ETH-B link
is recorded down (R387). -/
structure EthSt where
  on : List Bool
  rseq : Nat
  down : List Nat
  deriving DecidableEq, Repr

/-- An image slot of STOR (R423, R425): its header, its payload, and whether its signature and every hash matched when they were
last checked (R426, R427). -/
structure ImgSlot where
  hdr : List Byte
  data : List Byte
  ok : Bool
  deriving DecidableEq, Repr

/-- The boot record (R424, R426, R437): the slots' states, the floors of SYSTEM and APPLICATION, and the trial boots counted. -/
structure BootRec where
  st : List Nat
  floorSys : Nat
  floorApp : Nat
  trials : Nat
  deriving DecidableEq, Repr

/-- A reception (R428, R430): the slot, the sender's address (0xFFFF for the host), XFER, the next chunk due, the fragments held by
chunk, fragment and bytes, and whether the payload is being read back. -/
structure UpdRx where
  slot : Nat
  src : Nat
  xfer : Nat
  next : Nat
  frags : List (Nat × Nat × List Byte)
  verifying : Bool
  deriving DecidableEq, Repr

/-- A forwarding (R430, R431): slot, destination, XFER, whether ACCEPT and DONE have gone by, the chunks sent and not acknowledged with
the attempts made, the next chunk to send and the chunks acknowledged. -/
structure UpdFwd where
  slot : Nat
  dst : Nat
  xfer : Nat
  accepted : Bool
  done : Bool
  unacked : List (Nat × Nat)
  next : Nat
  acked : Nat
  deriving DecidableEq, Repr

/-- A handover (R434, R439): slot, whether it is a pair handover, the old cluster, whether the new one has reported READY, whether
SWAP has been made, whether the hold window has ended or is not needed, and whether a rollback waits for a further window (R436). -/
structure UpdHo where
  slot : Nat
  pair : Bool
  old : Nat
  ready : Bool
  swapped : Bool
  windowDone : Bool
  back : Bool
  deriving DecidableEq, Repr

/-- UPD beside its registers: reception, forwarding, handover; the next XFER; per cluster whether service firmware runs; the slots
whose SAFETY sections run on SP and lie staged or kept in its other bank; the ticks at which the hold window opened; and
whether an ACTIVATE waits for the partner's version (R438) or for the role STANDBY (R439); whether the recovery service runs in
place of a service firmware (R73); and whether a trip has ended the hold window, so that the handover goes to rollback (R435). -/
structure UpdSt where
  rx : Option UpdRx
  fwd : Option UpdFwd
  ho : Option UpdHo
  xfer : Nat
  svc : List Bool
  spSlot : Option Nat
  spOther : Option Nat
  winFrom : Option Nat
  query : Option Nat
  await : Option Nat
  recovery : Bool
  winTrip : Bool
  deriving DecidableEq, Repr

/-- One configuration copy (R75, R76): whether its check passes, its sequence number, the configuration items by key, the
operator table (R466), the trim signatures and tap-wire values by position (R135, R193). -/
structure CfgCopy where
  ok : Bool
  seq : Nat
  items : List (Nat × List Byte)
  keyTab : KeyTab
  trims : List (Option Nat)
  taps : List (Option TapVals)
  /-- The committed chemistry (R214). -/
  chem : Option Chem
  /-- The committed plan and phase table of EIS (R245). -/
  plan : Option (List Byte)
  phase : Option (List Byte)
  /-- The safety set with its confirmation record (R325), and RED's epoch (R353). -/
  safe : SafeCopy
  epoch : Nat
  /-- The boot record (R424). -/
  boot : BootRec
  /-- Operating time and power-cycle count as committed (R75). -/
  ot48 : Nat
  pc24 : Nat
  deriving DecidableEq, Repr

/-- A record of the cell history (R75): its kind (0 to 3 an EST snapshot of that KIND, 16 an EIS record, 17 EIS phase
offsets) and its bytes. -/
structure HistEnt where
  kind : Nat
  data : List Byte
  deriving DecidableEq, Repr

/-- Managed storage (R75 to R77): the two configuration copies, the stored values (whether the last flush completed, the share of
the wear reserve used, the bytes written), the cell history (newest first), and the image slots. -/
structure NvSt where
  cfgA : CfgCopy
  cfgB : CfgCopy
  flushOk : Bool
  wear : Nat
  wrBytes : Nat
  hist : List HistEnt
  imgs : List ImgSlot
  deriving DecidableEq, Repr

/-! ### Power (R61 to R72) -/

/-- The power states (R63), HOLDUP by phase. -/
inductive PState where
  | off | start | run | ride | flush | watch
  deriving DecidableEq, Repr

/-- Power: the state; whether HOLDUP was entered on over-voltage (R61) or from WATCH (R64); the step that an accepted WATCH
entry has reached, 0 for none (R65); a wake source held during the entry (codes of PWR.WAKE_SRC); whether the rail
returned during the flush phase (R68); whether a die above 125 °C holds the unit in reset (R70); the operating time of
AON in ms with the ticks towards the next one (R16); the PTP clock ticks since the latest start-up; whether HOLDUP was entered
from START, whose outputs are off (R63); PWR.WAKE_CFG as the accepted WATCH request found it (R66, R124); and the operating time
at which the mean draw of R79 began. -/
structure PowerSt where
  st : PState
  ov : Bool
  fromWatch : Bool
  watchEntry : Nat
  heldWake : Nat
  railBack : Bool
  dieHot : Bool
  ot : Nat
  pc : Nat
  otTicks : Nat
  ticks : Nat
  fromStart : Bool
  wakeCfg : Word
  drawFrom : Nat
  deriving DecidableEq, Repr

/-! ### Plant time (R388 to R395) -/

/-- The two domain counters and plant time before acquisition, in units of 2^-28 ns; the slew remainder S in the same
units (signed); the declared servo offsets; the Follow_Up messages held for their Sync, with the port they came in on; and the
two-step Syncs forwarded, by port, sourcePortIdentity with sequenceId, what is to be added (ns × 2^16), and the ticks (R392). -/
structure PtpSt where
  d0 : Nat
  d1 : Nat
  pre : Nat
  s : Int
  servo : List Nat
  held : List (Bool × List Byte)
  syncs : List (Bool × List Byte × Nat × Nat)
  deriving DecidableEq, Repr

/-! ### PERF and PEPPER (R490 to R507) -/

/-- PERF: each counter's last reading of its source, and the counters whose VALUE wrapped since the previous snapshot
(R498). -/
structure PerfSt where
  last : List Nat
  wraps : Nat
  deriving DecidableEq, Repr

/-- PEPPER: the generator of each slot (R504), and the instant at which it was armed (R506). -/
structure PepperSt where
  lfsr : List Nat
  armT : List Nat
  deriving DecidableEq, Repr

/-! ### The whole block -/

/-- The state of the KSC-7220. -/
structure State where
  /-- The commands that wait, first in, first out. -/
  pending : List Instr
  /-- The set-up registers that do not hold their reset value, by address (R8, R11). -/
  regs : List (Nat × Word)
  /-- What the latest register read returned: a 64-bit read's two words, or a word with an upper half of 0 (R110). -/
  bus : BitVec 64
  /-- The shadows of _HI registers by level and address, and the staged low halves (R12). -/
  shadows : List ((Level × Nat) × Word)
  stages : List ((Level × Nat) × Word)
  /-- Host memory: bytes that are not zero, by address (R80; log 5). -/
  mem : List (Nat × Byte)
  /-- The aligned 8-byte words of host memory with an uncorrectable error (R101). -/
  memErr : List Nat
  qps : List QpState
  power : PowerSt
  nv : NvSt
  /-- Configuration items in force, and those that wait for their boundary, by key (R104, R119). -/
  cfg : List (Nat × List Byte)
  cfgPend : List (Nat × List Byte)
  recd : RecSt
  idk : IdkSt
  tiles : List Tile
  chain : ChainSt
  meas : MeasSt
  hvm : HvmSt
  bal : BalSt
  est : EstSt
  eis : EisSt
  therm : ThermSt
  ctrl : CtrlSt
  can : List CanCtl
  safe : SafeSt
  stl : List StlSess
  red : RedSt
  eth : EthSt
  upd : UpdSt
  ptp : PtpSt
  perf : PerfSt
  pepper : PepperSt
  /-- What the module has sent, newest first (log 4). -/
  out : List OutMsg
  /-- The index of the next free value (log 3). -/
  free : Nat
  deriving DecidableEq, Repr

/-- A configuration copy of a unit never configured (DESIGN CHOICE, log 6). -/
def CfgCopy.blank (s : Nat) : CfgCopy :=
  { ok := true, seq := s, items := [], keyTab := { keys := [], revoked := [], seq := s, tagOk := true },
    trims := List.replicate 24 none, taps := List.replicate 24 none,
    chem := none, plan := none, phase := none,
    safe := { set := [], pend := false, conf := [] }, epoch := 0,
    boot := { st := [3, 0, 0, 0], floorSys := 0, floorApp := 0, trials := 0 }, ot48 := 0, pc24 := 0 }

/-- What stands for a configuration copy where neither passes its check (R76): nothing configured, no image held. -/
def CfgCopy.absent : CfgCopy :=
  { CfgCopy.blank 0 with boot := { st := [0, 0, 0, 0], floorSys := 0, floorApp := 0, trials := 0 } }

/-- CHAIN not started. -/
def ChainSt.init : ChainSt :=
  { cuts := [], asm := none, probeA := 0, probeB := 0, readBack := List.replicate 24 none, measured := false,
    trims := List.replicate 24 none, reachA := 0, reachB := 0, readA := 0, readB := 0, dlyDue := false, dlyAt := 0, transit := none,
    bypass := false, copy := [] }

/-- MEAS not started. -/
def MeasSt.init : MeasSt :=
  { t0 := 0, next := 0, nextIdx := 0, table := none, staged := List.replicate 256 (List.replicate 8 0), pend := .none, first := false,
    carrierNs := 25000, acc := 0, tickLast := 0, tInst := 0, sumCells := 0, takeover := false, secCount := 0, secIdx := 0, window := [], last := none, owNext := 0 }

/-- HVM not started. -/
def HvmSt.init : HvmSt :=
  { vStr := 0, vLink := 0, vPre := 0, vLinkNeg := 0, iShunt := some 0, iHall := none, iso := .idle, vc := [], isoLow := false, isoFlags := 0,
    vc0 := 0, recV := 0, isoValid := none, shOver := false, shCm := false }

/-- BAL not started. -/
def BalSt.init : BalSt :=
  { shadow := List.replicate 24 (List.replicate 24 0), rejSeen := List.replicate 24 0, calMask := none, snap := [],
    taps := List.replicate 24 none }

/-- EST not started, no chemistry committed. -/
def EstSt.init : EstSt :=
  { chem := none, pend := none, input := none, starting := false, cells := [], lastTicks := none, waitOver := false, recs := [],
    rested := true, qFirst := 0, offQ := 0, offTicks := none, gap := false, gapSum := 0, gapN := 0, restNs := 0, span := [], parCnt := 0,
    parNs := 0, resets := [], sopSeq := 0, sopChg := 0, sopDis := 0, sopH := [], sopMean := 0, resDiv := 0 }

/-- EIS not started. -/
def EisSt.init : EisSt :=
  { plan := none, table := none, pend := none, on := false, waitExc := false, sFirst := 0, tFirst := 0, tLast := 0, sLast := 0, segOn := false,
    i0 := none, iLast := 0, iSubs := 0, iBad := false, iAcc := [], iKept := 0, iSii := [], absent := 0, interrupted := false, cells := [],
    ofs := [], restAll := false, tb0 := [], perNs := 0, latest := [], segDue := false, intDue := false, peerExc := false, startAt := 0, comDue := false,
    gain := 0, apk := 0, startup := false }

/-- A tile's sensor before its first reading. -/
def ThermTile.init : ThermTile :=
  { diode := none, goodAt := 0, got := false, pf := 0, broken := false, stale := false, subst := false, prev := none, jumps := 0, devMs := 0, okMs := 0,
    tb := -32768 }

/-- THERM not started. -/
def ThermSt.init : ThermSt :=
  { tiles := List.replicate 24 ThermTile.init, pBal := List.replicate 24 0, started := false, farMs := 0, rptN := 0,
    loopDuty := List.replicate 8 0, heater := false, dwell := false, j10On := false, riseRem := 0,
    lines := List.replicate 3 (0, 0) }

/-- A channel before it first closes. -/
def LcSt.init : LcSt :=
  { host := 0, rs := 0, df := 0, integ := 0, yPrev := 0, ym := 0, u := 0, dwell := false, fromPos := false, preload := false, mir := none,
    held := false, failing := false, cnt := [0, 0, 0] }

/-- CTRL not started. -/
def CtrlSt.init : CtrlSt :=
  { lcs := List.replicate 8 LcSt.init, grant := none, lateReqs := 0, later := [], rSum := 0, rN := 0, rLast := 0, legOc := List.replicate 4 0, cNew := List.replicate 4 0,
    cNow := List.replicate 4 0, legOn := List.replicate 4 false, duty := List.replicate 4 0 }

/-- A controller not started. -/
def CanCtl.init : CanCtl :=
  { objs := List.replicate 128 { data := [], attempts := 0, next := none, ucnt := 0 }, attempt := none, aloneRun := 0, stopping := false }

/-- SAFE not started: the Fog line asserted, no set. -/
def SafeSt.init : SafeSt :=
  { set := [], fw := false, edge := false, forced := false, withheld := 0, coilLow := false, offOk := List.replicate 4 false,
    lowN := List.replicate 4 0, test := none, tpFail := 0, stlHigh := none, rearm := none, seq := 0, edgeReq := false,
    queue := [], lastSweep := none, ovN := List.replicate 576 0, uvN := List.replicate 576 0, diodeN := List.replicate 24 0, sumN := 0,
    unMs := List.replicate 576 0, noMs := 0, hallMs := 0, curMs := 0, passed := 0, cmpBad := 0, readOk := false, readBad := none,
    isoMs := 0, isoAt := none, isoOwn := false, load := [], loadNext := 0, repair := false, mirSo := 0, mirReady := false, mirAcc := none, loopOpen := false }

/-- A session CLOSED. -/
def StlSess.init : StlSess :=
  { seq := 0, openSeq := 0, sent := 0, ack := 0, word := 0, lastPdu := [], lastUs := 0, data := [], relay := [], errs := [] }

/-- A pair served, before anything is heard. -/
def KsPair.init : KsPair := { last := [none, none], active := none, claim := none, heardEp := 0, heardBy := none, direct := false, seq := 0 }

/-- RED not started. -/
def RedSt.init : RedSt :=
  { seq := 0, peerIn := none, keepIn := none, latest := [], mirror := [], lastTick := 0, verdict := false, answered := false, hoWhy := 0,
    hoPeer := false, hoCount := 0, hoReady := false, awaitFinal := false, kept := none, gapFrom := none, tbFrom := none, agreed := false, ks := [] }

/-- ETH not started. -/
def EthSt.init : EthSt := { on := [false, false], rseq := 0, down := [] }

/-- UPD not started. -/
def UpdSt.init : UpdSt :=
  { rx := none, fwd := none, ho := none, xfer := 0, svc := [false, false], spSlot := none, spOther := none, winFrom := none, query := none,
    await := none, recovery := false, winTrip := false }

/-- The header of the SYSTEM image that the unit is delivered with in slot 0 (DESIGN CHOICE, log 6): version 1.0.0, SEC_LEVEL 0, one
section of each type, release key 1. -/
def factoryHdr : List Byte :=
  leBytes 4 0x4B56554F ++ leBytes 2 1 ++ leBytes 2 512 ++ leBytes 4 3 ++ leBytes 2 0x7220 ++ leBytes 2 0 ++ leBytes 2 0xFFFF ++ leBytes 2 0
    ++ leBytes 4 0x01000000 ++ leBytes 4 2 ++ leBytes 4 1 ++ leBytes 4 0 ++ zeros 8 ++ leBytes 1 2 ++ zeros 3
    ++ (leBytes 1 1 ++ zeros 3 ++ leBytes 4 0x01000000 ++ leBytes 4 0 ++ leBytes 4 1 ++ zeros 32)
    ++ (leBytes 1 2 ++ zeros 3 ++ leBytes 4 0x01000000 ++ leBytes 4 1 ++ leBytes 4 1 ++ zeros 32)
    ++ zeros 368

/-- The image slots as the unit is delivered (DESIGN CHOICE, log 6). -/
def factorySlots : List ImgSlot :=
  [⟨factoryHdr, zeros 2, true⟩, ⟨[], [], false⟩, ⟨[], [], false⟩, ⟨[], [], false⟩]

/-- The machine right after reset: no supply (OFF, R63), every register at its reset value (R11), host memory at zero,
nothing waiting. -/
def State.reset : State :=
  { pending := []
    regs := []
    bus := 0
    shadows := []
    stages := []
    mem := []
    memErr := []
    qps := List.replicate 46 QpState.init
    power := { st := .off, ov := false, fromWatch := false, watchEntry := 0, heldWake := 0, railBack := false, dieHot := false,
               ot := 0, pc := 0, otTicks := 0, ticks := 0, fromStart := false, wakeCfg := 0, drawFrom := 0 }
    nv := { cfgA := CfgCopy.blank 1, cfgB := CfgCopy.blank 0, flushOk := true, wear := 0, wrBytes := 0,
            hist := [], imgs := factorySlots }
    cfg := []
    cfgPend := []
    recd := { nextSeq := 0, oldest := 0, stored := 0, durable := [], buf := [], writing := 0, buckets := [],
              shared := [0, 1, 2, 3].map (fun l => { src := 0, code := 0, level := l, tokens := 0, at48 := 0, suppr := 0 }),
              lost := [], nonce := none, sealedN := 0 }
    idk := { tab := { keys := [], revoked := [], seq := 0, tagOk := true }, burned := 0, nonce := none,
             sess := List.replicate 4 none, inbox := List.replicate 4 [], draws := 0 }
    tiles := List.replicate 24 (Tile.asleep TileTrim.nominal)
    chain := ChainSt.init
    meas := MeasSt.init
    hvm := HvmSt.init
    bal := BalSt.init
    est := EstSt.init
    eis := EisSt.init
    therm := ThermSt.init
    ctrl := CtrlSt.init
    can := List.replicate 3 CanCtl.init
    safe := SafeSt.init
    stl := List.replicate 256 StlSess.init
    red := RedSt.init
    eth := EthSt.init
    upd := UpdSt.init
    ptp := { d0 := 0, d1 := 0, pre := 0, s := 0, servo := [0, 0], held := [], syncs := [] }
    perf := { last := List.replicate 16 0, wraps := 0 }
    pepper := { lfsr := List.replicate 8 1, armT := List.replicate 8 0 }
    out := []
    free := 0 }

end Sys2Proof.Machine
end

