-- ==== Sys2Proof/Machine/Ops.lean ====
section
/-! DEFINITION. The named operations that the commands share: registers by field, host memory, time, free values,
outputs, perturbation (R504), records (R443 to R449), and the configuration items with their storage (R76, R104). -/

namespace Sys2Proof.Machine

open Sys2Proof

/-! ### Registers -/

/-- The word of a register as it is held. -/
def regGet (s : State) (a : Nat) : Word := mapGet resetVal s.regs a

/-- The state with a register's word replaced. -/
def regSet (s : State) (a : Nat) (w : Word) : State := { s with regs := mapSet resetVal s.regs a w }

/-- The value of a field. -/
def rd (s : State) (f : Fld) : Nat := fldGet (regGet s f.addr) f.lo f.width

/-- The state with a field replaced (bits above the field are dropped). -/
def wr (s : State) (f : Fld) (v : Nat) : State := regSet s f.addr (fldSet (regGet s f.addr) f.lo f.width v)

/-- A field as a flag. -/
def flag (s : State) (f : Fld) : Bool := decide (rd s f ≠ 0)

/-- The state with a flag set or cleared. -/
def put (s : State) (f : Fld) (b : Bool) : State := wr s f (b2n b)

/-- The state with a field replaced by a signed value (R13). -/
def wrS (s : State) (f : Fld) (v : Int) : State := wr s f (sCode f.width v)

/-- A field's signed value (R13). -/
def rdS (s : State) (f : Fld) : Int := sInt f.width (rd s f)

/-- A counter field one further; it wraps (R14, R490). -/
def bump (s : State) (f : Fld) : State := wr s f (rd s f + 1)

/-- A wrapping counter field n further. -/
def bumpBy (s : State) (f : Fld) (n : Nat) : State := wr s f (rd s f + n)

/-- A counter field one further; it holds at its largest value (R490). -/
def bumpSat (s : State) (f : Fld) : State := if rd s f + 1 < 2 ^ f.width then wr s f (rd s f + 1) else s

/-- Bit i of a field replaced. -/
def putBit (s : State) (f : Fld) (i : Nat) (b : Bool) : State := wr s f (setBit (rd s f) i b)

/-- Bit i of a field. -/
def bitIn (s : State) (f : Fld) (i : Nat) : Bool := (rd s f).testBit i

/-- The registers of a span of addresses at their reset values (R11). -/
def resetSpan (s : State) (a b : Nat) : State :=
  { s with regs := mapClear s.regs a b
           shadows := s.shadows.filter (fun e => decide (e.1.2 < a) || decide (b < e.1.2))
           stages := s.stages.filter (fun e => decide (e.1.2 < a) || decide (b < e.1.2)) }

/-- The registers of a block at their reset values, its shadows and stages empty (R11, R12). -/
def resetBlock (s : State) (b : Block) : State := resetSpan s (blockBase b) (blockLast b)

/-- Whether a block is locked (R117). -/
def blockLocked (s : State) (b : Block) : Bool :=
  match lockBit b with
  | some n => bitIn s R.SYS_LOCK_LOCKED n
  | none => false

/-! ### Free values, outputs -/

/-- The next free value, and the state past it (log 3). -/
def fresh (s : State) : Nat × State := ((Config.freeValue s.free).toNat, { s with free := s.free + 1 })

/-- The state after something left the module (log 4). -/
def emit (s : State) (k : OutKind) (args : List Nat) (data : List Byte) : State :=
  { s with out := { kind := k, args := args, data := data } :: s.out }

/-! ### Host memory (R80, R101) -/

/-- Whether a span of n bytes lies within host memory (R85). -/
def inHost (a n : Nat) : Bool := decide (0x80000000 ≤ a) && decide (a + n ≤ 0x100000000)

/-- What a byte of host memory that nothing has written reads as: 0 (DESIGN CHOICE, log 5). -/
def memDflt (_ : Nat) : Byte := 0

/-- The canonical form of host memory: addresses strictly rising, no listed byte equal to what an unlisted address reads as. -/
def Memory.wf (m : List (Nat × Byte)) : Bool := mapWf memDflt none m

/-- One byte of host memory. -/
def memRd (s : State) (a : Nat) : Byte := mapGet memDflt s.mem a

/-- n bytes of host memory. -/
def memBytes (s : State) (a n : Nat) : List Byte := (List.range n).map (fun i => memRd s (a + i))

/-- The bytes with a list of them stored from an address on. -/
def cellsSet (m : List (Nat × Byte)) (a : Nat) : List Byte → List (Nat × Byte)
  | [] => m
  | b :: t => cellsSet (mapSet memDflt m a b) (a + 1) t

/-- Whether a span touches an aligned 8-byte word with an uncorrectable error (R101). -/
def memBad (s : State) (a n : Nat) : Bool := s.memErr.any (fun w => decide (w < a + n) && decide (a < w + 8))

/-- A write of bytes into host memory: it clears the error of every word it covers whole and leaves the error of a word it
covers in part, whose reads go on failing (R101). -/
def memWrite (s : State) (a : Nat) (bs : List Byte) : State :=
  let errs := s.memErr.filter (fun w => !(decide (a ≤ w) && decide (w + 8 ≤ a + bs.length)))
  { s with mem := cellsSet s.mem a bs, memErr := errs }

/-! ### Time (R16, R17, R389) -/

/-- The counter of the selected domain, in units of 2^-28 ns. -/
def tSel (s : State) : Nat := if flag s R.PTP_STATUS_SEL then s.ptp.d1 else s.ptp.d0

/-- Plant time in units of 2^-28 ns: T_sel − S once acquired, the count since the reset before. -/
def ptFine (s : State) : Int :=
  if flag s R.PTP_STATUS_ACQ then (tSel s : Int) - s.ptp.s else (s.ptp.pre : Int)

/-- A time in units of 2^-28 ns as PT64, to the nearest ns (R14). -/
def fineNs (x : Int) : Nat := satU 64 (roundDiv x (2 ^ 28))

/-- Plant time as PT64. -/
def ptNow (s : State) : Nat := fineNs (ptFine s)

/-- Operating time and power-cycle count (R16): both saturate. -/
def otNow (s : State) : Nat := min s.power.ot (2 ^ 48 - 1)
def pcNow (s : State) : Nat := min s.power.pc (2 ^ 24 - 1)

/-- Whether the unit is in HOLDUP, either phase (R63). -/
def inHoldup (s : State) : Bool := decide (s.power.st = .ride) || decide (s.power.st = .flush)

/-- Whether the blocks that the ride-through phase stops are running (R63, R67): in START and RUN, unless a hot die holds the unit
in reset (R70). -/
def fullUp (s : State) : Bool := !s.power.dieHot && (decide (s.power.st = .start) || decide (s.power.st = .run))

/-- Whether the module's blocks run at all: START, RUN or the ride-through phase (R63). -/
def blocksUp (s : State) : Bool := fullUp s || decide (s.power.st = .ride)

/-- Whether the safety function decides on the outputs: RUN, and a ride-through phase entered from RUN; in every other power state
they are off (R63, R511). -/
def outputsMay (s : State) : Bool := decide (s.power.st = .run) || (decide (s.power.st = .ride) && !s.power.fromStart)

/-! ### What the monitors show (R45, R122, R123, R488) -/

/-- The registers of the rails, the supplies, the die, the draw, the main oscillator and the islands take what the monitors show. -/
def supplyTake (s : State) (e : SupplyIn) : State :=
  let s1 := wr (wr s R.PWR_RAIL_LOGIC_MV (satU 16 e.rail)) R.PWR_RAIL_COIL_MV (satU 16 e.coilMv)
  let s2 := put (put (put s1 R.PWR_SRC_VSUP_ON (decide (4000 < e.vsupMv))) R.PWR_SRC_VAUX_ON (decide (4000 < e.vauxMv)))
    R.PWR_SRC_AUX_FEEDS (decide (e.vsupMv < e.vauxMv))
  let s3 := wr (wr (wrS s2 R.PWR_DIE_TEMP_TEMP (satTemp e.dieTemp)) R.PWR_DRAW_DRAW_MW (satU 16 e.drawMw)) R.PWR_DRAW_ABOVE_S (satU 16 e.aboveS)
  let s4 := wrS s3 R.CLK_MAIN_DEV_DEV (satS 16 (-32768) e.mainDev)
  wrS (wrS s4 R.CLK_ISL_DIFF_SAFE_MV (satS 16 (-32768) e.safeMv)) R.CLK_ISL_DIFF_AON_MV (satS 16 (-32768) e.aonMv)

/-- Whether words and streams cross to and from a clock domain; on the two-flop path, those that arrive are lost (R485). -/
def crossOk (s : State) (dom : Nat) : Bool := !bitIn s R.CLK_XSTAT_TWO_FLOP dom

/-! ### Perturbation (R502 to R506) -/

/-- The generator of R504 one act further: a Fibonacci shift register with taps 32, 22, 2 and 1 (DEDUCED, log 10). -/
def lfsrNext (x : Nat) : Nat :=
  let b := (bitOf x 31 != bitOf x 21) != (bitOf x 1 != bitOf x 0)
  (x <<< 1) % 2 ^ 32 + b2n b

/-- The acts of a slot k that an act of a target's instance meets: the generator advances once, and the act is perturbed
when its low half lies below RATE or RATE is 0 (R504). -/
def pepperSlot (target inst : Nat) (k : Nat) (r : Bool × State) : Bool × State :=
  let s := r.2
  if flag s (R.PEPPER_S_STAT_ARMED k) && decide (rd s (R.PEPPER_S_CFG_TARGET k) = target)
      && decide (rd s (R.PEPPER_S_CFG_INST k) = inst) then
    let x := s.pepper.lfsr.getD k 1
    let rate := rd s (R.PEPPER_S_CFG_RATE k)
    let s1 := { s with pepper := { s.pepper with lfsr := s.pepper.lfsr.set k (lfsrNext x) } }
    if rate = 0 ∨ x % 65536 < rate then (true, bump s1 (R.PEPPER_S_ACTS_COUNT k)) else (r.1, s1)
  else r

/-- One act of an instance of a target: whether some armed slot perturbs it, and the state after (R503, R504). The time
that a perturbed act waits is not modelled (log 2). -/
def pepperAct (s : State) (target inst : Nat) : Bool × State :=
  (List.range 8).foldl (fun r k => pepperSlot target inst k r) (false, s)

/-- The state after an act whose perturbation is only a wait. -/
def pepperWait (s : State) (target inst : Nat) : State := (pepperAct s target inst).2

/-! ### Configuration items (R104) -/

/-- The contents of an item in force. -/
def cfgItem (s : State) (qp a : Nat) : List Byte := mapGet itemDflt s.cfg (itemKey qp a)

/-- A field of an item in force: offset and bytes. -/
def cfgU (s : State) (qp a ofs n : Nat) : Nat := fieldAt (cfgItem s qp a) ofs n

/-- A signed field of an item in force. -/
def cfgS (s : State) (qp a ofs n : Nat) : Int := sInt (8 * n) (cfgU s qp a ofs n)

/-! ### Event records (R443 to R449) -/

/-- The 32 bytes of a record; RCRC inverted where it fails (R443). -/
def recBytes (r : RecEnt) : List Byte :=
  let b := leBytes 4 r.seq ++ leBytes 6 r.ot ++ leBytes 3 r.pc ++ leBytes 1 r.src ++ leBytes 2 r.code ++ leBytes 1 r.rflags
    ++ leBytes 1 r.inst ++ leBytes 2 r.suppr ++ leBytes 4 r.arg0 ++ leBytes 4 r.arg1
  b ++ leBytes 4 (if r.bad then crc32c b ^^^ 0xFFFFFFFF else crc32c b)

/-- How many records REC's buffer holds (R447), and the recorder area (R445). -/
def recBufMax : Nat := 4096
def recAreaMax : Nat := 2 ^ 25

/-- REC.BUF as it follows the buffer and the buckets (R456). -/
def recShow (s : State) : State :=
  wr (wr s R.REC_BUF_WAITING s.recd.buf.length) R.REC_BUF_BUCKETS s.recd.buckets.length

/-- Add a run of one missing SEQ (R448): it joins the run it continues. -/
def lostAdd (runs : List (Nat × Nat)) (seq : Nat) : List (Nat × Nat) :=
  match runs with
  | [] => [(seq, 1)]
  | (f, n) :: t => if t.isEmpty ∧ (f + n) % 2 ^ 32 = seq then [(f, n + 1)] else (f, n) :: lostAdd t seq

/-- Begin writing the buffer to STOR, unless a write runs or STOR refuses writes (R447, R448). -/
def recWriteStart (s : State) : State :=
  if s.recd.buf.isEmpty || flag s R.REC_STATUS_FLUSHING || !flag s R.STOR_STATUS_READY then s
  else if flag s R.STOR_STATUS_WR_INHIBIT then put (put s R.REC_STATUS_WR_HELD true) R.REC_ERR_STOR true
  else
    let s1 := pepperWait s 6 0
    put (put { s1 with recd := { s1.recd with writing := s1.recd.buf.length } } R.REC_STATUS_FLUSHING true)
      R.REC_STATUS_WR_HELD false

/-- Whether the waiting records beyond those being written call for a write: FLUSH_N of them, or one at or above
FLUSH_LEVEL (R447). -/
def recWants (s : State) : Bool :=
  let w := s.recd.buf.drop s.recd.writing
  decide (cfgU s 2 1 2 2 ≤ w.length) || w.any (fun r => decide (cfgU s 2 1 4 1 ≤ r.rflags % 4))

/-- A record with a SEQ of its own enters the buffer; on a full buffer R448 decides which record is lost. -/
def recEnter (s : State) (src code level inst suppr arg0 arg1 : Nat) : State :=
  if !flag s R.REC_STATUS_RUN then s
  else
    let fl := level + 4 * b2n (inHoldup s) + 8 * b2n (decide (65535 < suppr))
    let r : RecEnt := { seq := s.recd.nextSeq, ot := otNow s, pc := pcNow s, src := src, code := code, rflags := fl, inst := inst % 256,
                        suppr := min suppr 65535, arg0 := arg0 % 2 ^ 32, arg1 := arg1 % 2 ^ 32, bad := false }
    let s1 := { s with recd := { s.recd with nextSeq := (s.recd.nextSeq + 1) % 2 ^ 32 } }
    let s2 :=
      if s.recd.buf.length < recBufMax then { s1 with recd := { s1.recd with buf := s1.recd.buf ++ [r] } }
      else
        let s3 := put (bump s1 R.REC_DROP_CNT_COUNT) R.REC_ERR_DROP true
        match (if level = 3 then (s1.recd.buf.drop s1.recd.writing).findIdx? (fun x => decide (x.rflags % 4 < 2)) else none) with
        | some i =>
          let j := s1.recd.writing + i
          let gone := (s1.recd.buf.getD j r).seq
          { s3 with recd := { s3.recd with buf := s3.recd.buf.eraseIdx j ++ [r], lost := lostAdd s3.recd.lost gone } }
        | none => { s3 with recd := { s3.recd with lost := lostAdd s3.recd.lost r.seq } }
    recShow (if recWants s2 then recWriteStart s2 else s2)

/-- BURST and RATE (0.01 per s) of a pair: item 2's entry, else the default of its level; a pair of LEVEL 3 stays at BURST 16 and RATE
1 per s or above (R449, R455). -/
def recRate (s : State) (src code level : Nat) : Nat × Nat :=
  let it := cfgItem s 2 2
  match (List.range (fieldAt it 0 1)).find? (fun i => decide (fieldAt it (4 + 8 * i) 1 = src) && decide (fieldAt it (6 + 8 * i) 2 = code)) with
  | some i =>
    let b := fieldAt it (8 + 8 * i) 2
    let r := fieldAt it (10 + 8 * i) 2
    if level = 3 then (max 16 b, max 100 r) else (b, r)
  | none => if level < 2 then (8, 10) else if level = 2 then (16, 100) else (64, 1000)

/-- A bucket refilled to now and held at BURST, in units of 0.00001 token (R449). -/
def bucketFill (b : Bucket) (now burst rate : Nat) : Bucket :=
  { b with tokens := min (burst * 100000) (b.tokens + rate * (now - b.at48)), at48 := now }

/-- Take a token: whether the record is made, its SUPPR, and the bucket after (R449). -/
def bucketTake (b : Bucket) : Bool × Nat × Bucket :=
  if 100000 ≤ b.tokens then (true, b.suppr, { b with tokens := b.tokens - 100000, suppr := 0 })
  else (false, 0, { b with suppr := b.suppr + 1 })

/-- A happening offered to REC through the token bucket of its pair (R449): whether it was made, and the state. -/
def recOffer1 (s : State) (src code level inst arg0 arg1 : Nat) : Bool × State :=
  if !flag s R.REC_STATUS_RUN then (false, s)
  else
    let br := recRate s src code level
    let now := otNow s
    let finish (t : Bool × Nat × Bucket) (s1 : State) : Bool × State :=
      if t.1 then (true, recEnter s1 src code level inst t.2.1 arg0 arg1) else (false, bump s1 R.REC_SUPPR_CNT_COUNT)
    match s.recd.buckets.findIdx? (fun b => decide (b.src = src) && decide (b.code = code)) with
    | some i =>
      let b0 := s.recd.buckets.getD i { src := src, code := code, level := level, tokens := 0, at48 := now, suppr := 0 }
      let t := bucketTake (bucketFill b0 now br.1 br.2)
      finish t { s with recd := { s.recd with buckets := s.recd.buckets.set i t.2.2 } }
    | none =>
      if s.recd.buckets.length < 1024 then
        let t := bucketTake { src := src, code := code, level := level, tokens := br.1 * 100000, at48 := now, suppr := 0 }
        finish t (recShow { s with recd := { s.recd with buckets := s.recd.buckets ++ [t.2.2] } })
      else
        let d := if level < 2 then (8, 10) else if level = 2 then (16, 100) else (64, 1000)
        let b0 := s.recd.shared.getD level { src := 0, code := 0, level := level, tokens := 0, at48 := now, suppr := 0 }
        let t := bucketTake (bucketFill b0 now d.1 d.2)
        finish t (put { s with recd := { s.recd with shared := s.recd.shared.set level t.2.2 } } R.REC_ERR_SHARED true)

/-- One of REC's own ERR bits rose: its ERR_RISE record (R446). -/
def recOwnErr (s : State) (f : Fld) : State :=
  (recOffer1 (put s f true) 17 (0x1000 + f.lo) 2 0 ((regGet (put s f true) R.REC_ERR).toNat) 0).2

/-- What REC's own happenings leave beside the record that met them (R446): a record dropped or displaced, a pair that used
a shared bucket, a write refused. -/
def recAfter (s0 s : State) : State :=
  let s1 := if rd s R.REC_DROP_CNT_COUNT ≠ rd s0 R.REC_DROP_CNT_COUNT then recOwnErr s R.REC_ERR_DROP else s
  let s2 := if s.recd.shared ≠ s0.recd.shared then recOwnErr s1 R.REC_ERR_SHARED else s1
  if flag s R.REC_STATUS_WR_HELD && !flag s0 R.REC_STATUS_WR_HELD then recOwnErr s2 R.REC_ERR_STOR else s2

/-- A happening offered to REC, with what it leaves in REC's own ERR register (R446, R449). -/
def recOffer (s : State) (src code level inst arg0 arg1 : Nat) : Bool × State :=
  let r := recOffer1 s src code level inst arg0 arg1
  (r.1, recAfter s r.2)

/-- A record that is never suppressed (R449). -/
def recAlways (s : State) (src code level inst arg0 arg1 : Nat) : State :=
  recAfter s (recEnter s src code level inst 0 arg0 arg1)

/-- The same without the answer. -/
def record (s : State) (src code level inst arg0 arg1 : Nat) : State := (recOffer s src code level inst arg0 arg1).2

/-- The bits named LOST, whose ERR_RISE records have LEVEL 1 (R446). -/
def isLostBit (f : Fld) : Bool :=
  decide (f ∈ [R.HVM_ERR_LOST, R.EST_ERR_LOST, R.EIS_ERR_LOST, R.THERM_ERR_LOST, R.ETH_ERR_LOST, R.PTP_ERR_LOST, R.CAN_ERR_LOST 0,
    R.CAN_ERR_LOST 1, R.CAN_ERR_LOST 2, R.UPD_ERR_LOST, R.PERF_ERR_LOST])

/-- The SRC number of the block that holds a register (R444). -/
def srcAt (a : Nat) : Nat := match blockOf a with
  | some b => srcOf b
  | none => 25

/-- A happening that sets a bit of a block's ERR register (or of PWR.EVT): the bit, and its ERR_RISE record (R446). -/
def errRise (s : State) (f : Fld) (inst arg1 : Nat) : State :=
  let s1 := put s f true
  record s1 (srcAt f.addr) (0x1000 + f.lo) (if isLostBit f then 1 else 2) inst (regGet s1 f.addr).toNat arg1

/-- A TIME_MARK record (R446): PT64 at the OT stamp. -/
def timeMarkRec (s : State) (why : Nat) : State :=
  record s 17 0x0002 0 why (ptNow s % 2 ^ 32) (ptNow s / 2 ^ 32)

/-! ### Managed storage (R75, R76) -/

/-- STOR's count of bytes written, n further, and the share of the wear reserve used (R77). -/
def storCount (s : State) (n : Nat) : State :=
  let w := s.nv.wrBytes + n
  { s with nv := { s.nv with wrBytes := w, wear := max s.nv.wear (Config.wearOf w) } }

/-- Whether copy A is the newer copy whose check passes (R76): A where both carry one sequence number. -/
def NvSt.useA (v : NvSt) : Bool := v.cfgA.ok && (!v.cfgB.ok || decide (v.cfgB.seq ≤ v.cfgA.seq))

/-- The contents that STOR reads (R76): the newer copy whose check passes; none where neither does. -/
def NvSt.newest (v : NvSt) : CfgCopy := if v.useA then v.cfgA else if v.cfgB.ok then v.cfgB else CfgCopy.absent

/-- The configuration copy that STOR uses (R76). -/
def cfgNewest (s : State) : CfgCopy := s.nv.newest

/-- Whether STOR takes a write now: ready, and writes not refused (R77). -/
def storTakes (s : State) : Bool := flag s R.STOR_STATUS_READY && !flag s R.STOR_STATUS_WR_INHIBIT

/-- A change to the configuration area (R76): the newer copy's contents with the change go to the older copy, with a
sequence number one above, and that copy is then in use. Where neither copy passes, copy B takes the change (DESIGN CHOICE, log 32). -/
def cfgStore (s : State) (f : CfgCopy → CfgCopy) : State :=
  let c := cfgNewest s
  let c1 := { f c with ok := true, seq := c.seq + 1 }
  let s1 := pepperWait s 6 0
  let s2 := storCount s1 (32 * 1024 * 1024)
  if !s.nv.useA && s.nv.cfgB.ok then put { s2 with nv := { s2.nv with cfgA := c1 } } R.STOR_STATUS_CFG_COPY false
  else put { s2 with nv := { s2.nv with cfgB := c1 } } R.STOR_STATUS_CFG_COPY true

/-- A configuration item stored (R104). -/
def cfgStoreItem (s : State) (key : Nat) (bs : List Byte) : State :=
  cfgStore s (fun c => { c with items := mapSet itemDflt c.items key bs })

/-- An item in force from now on. -/
def cfgForce (s : State) (key : Nat) (bs : List Byte) : State :=
  { s with cfg := mapSet itemDflt s.cfg key bs, cfgPend := s.cfgPend.filter (fun e => decide (e.1 ≠ key)) }

/-- An item that waits for its boundary, replacing one that waits already (R119). -/
def cfgWait (s : State) (key : Nat) (bs : List Byte) : State :=
  { s with cfgPend := s.cfgPend.filter (fun e => decide (e.1 ≠ key)) ++ [(key, bs)] }

/-- The boundary of an item: what waits comes into force, the whole item at one instant (R119). -/
def cfgBoundary (s : State) (key : Nat) : State :=
  match s.cfgPend.find? (fun e => decide (e.1 = key)) with
  | some e => cfgForce s key e.2
  | none => s

/-- The size of the cell history (R75). -/
def histMax : Nat := 2 ^ 31

/-- The newest records that fit into n bytes, newest first: the area is circular (R75). -/
def histKeep : Nat → List HistEnt → List HistEnt
  | _, [] => []
  | n, h :: t => if h.data.length ≤ n then h :: histKeep (n - h.data.length) t else []

/-- A record added to the cell history; the oldest give way (R75). -/
def histAdd (s : State) (kind : Nat) (bs : List Byte) : State :=
  let s1 := pepperWait s 6 0
  let s2 := storCount s1 bs.length
  { s2 with nv := { s2.nv with hist := histKeep histMax ({ kind := kind, data := bs } :: s2.nv.hist) } }

/-! ### Ownership and signals (R24, R91, R108) -/

/-- The cluster that owns a queue pair: 0 A, 1 B (R106). -/
def ownerOf (s : State) (qp : Nat) : Nat :=
  if qp < 32 then bits (rd s R.QMGR_OWNER0_OWNER) qp qp else bits (rd s R.QMGR_OWNER1_OWNER) (qp - 32) (qp - 32)

/-- The cluster of a level: none for SP and for user mode. -/
def clusterOf : Level → Option Nat
  | .aM => some 0 | .aS => some 0 | .bM => some 1 | .bS => some 1 | .sp => none | .u => none

/-- Whether a level is machine mode. -/
def isMachine : Level → Bool
  | .aM => true | .bM => true | _ => false

/-- The SRC number of a cluster's records (R444). -/
def clusterSrc (l : Level) : Nat := if clusterOf l = some 1 then 30 else 29

/-! ### Roles (R103, R352) -/

/-- The roles of RED.STATUS.ROLE (R352). -/
def roleInit : Nat := 0
def roleStandby : Nat := 1
def roleActive : Nat := 2
def roleClaiming : Nat := 3
def roleFenced : Nat := 4
def roleSingle : Nat := 5

/-- The role held. -/
def role (s : State) : Nat := rd s R.RED_STATUS_ROLE

/-- Whether the unit commands the chain: alone or active (R74, R352). -/
def commands (s : State) : Bool := decide (role s = roleActive) || decide (role s = roleSingle)

end Sys2Proof.Machine
end

