-- ==== Sys2Proof/Machine/Flags.lean ====
section
/-! DEFINITION. What a register reads as, where its value is formed at the read: identity, time, storage and recorder
sequence numbers, configuration in force (R9, R121, R456, R500); and how status words answer writes (W1C, R9). -/

namespace Sys2Proof.Machine

open Sys2Proof

/-- The low and high words of a number. -/
def loW (v : Nat) : Word := BitVec.ofNat 32 v
def hiW (v : Nat) : Word := BitVec.ofNat 32 (v >>> 32)

/-- SYS.WHOAMI by reader (R121). -/
def whoAmI : Level → Word
  | .sp => 0 | .aM => 1 | .aS => 5 | .bM => 2 | .bS => 6 | .u => 0

/-- The NN, PAIR and FAR_END of the set (R152), as in force since the start-up. -/
def setNn (s : State) : Nat := bits (cfgU s 12 1 0 4) 4 0
def setPair (s : State) : Bool := bitOf (cfgU s 12 1 0 4) 8
def setFarEnd (s : State) : Bool := bitOf (cfgU s 12 1 0 4) 9

/-- STOR.WR_KIB: lifetime KiB written, saturating (R77). -/
def wrKib (s : State) : Nat := min (roundNat s.nv.wrBytes 1024) (2 ^ 64 - 1)

/-- PTP.SLEW: S in ns to the nearest, saturating (R14, R402). -/
def slewView (s : State) : Word := BitVec.ofInt 32 (clampInt (-2147483648) 2147483647 (roundDiv s.ptp.s (2 ^ 28)))

/-- ETH.CFG: address and ring size of the item in force (R400). -/
def ethCfgView (s : State) : Word :=
  BitVec.ofNat 32 (cfgU s 36 1 0 2 % 2 ^ 14 + (cfgU s 36 1 2 1 % 128) <<< 16)

/-- RED.CFG: the item in force and whether this unit serves as Keeper (R373). -/
def redCfgView (s : State) : Word :=
  BitVec.ofNat 32 (cfgU s 32 1 0 1 % 2 + (cfgU s 32 1 1 1 % 2) <<< 1 + (cfgU s 32 1 8 1 % 2) <<< 2
    + (rd s R.RED_CFG_KSVC) <<< 3 + (cfgU s 32 1 2 2) <<< 16)

/-- Whether the conditions of R505 for class S perturbation hold: the safe state, no output on, PWM not driven. -/
def pepperSOk (s : State) : Bool :=
  flag s R.SAFE_STATUS_SAFE_STATE && decide (rd s R.SAFE_STATUS_SO_ON = 0) && !flag s R.PWM_STATUS_DRIVEN

/-- Whether a slot's target belongs to class S (R503). -/
def pepperClassS (s : State) (k : Nat) : Bool := decide (8 ≤ rd s (R.PEPPER_S_CFG_TARGET k))

/-- A slot disarmed (R505, R506). -/
def pepperDisarm (s : State) (k : Nat) (forced : Bool) : State :=
  if !flag s (R.PEPPER_S_STAT_ARMED k) then s
  else
    let s1 := put (put s (R.PEPPER_S_STAT_ARMED k) false) (R.PEPPER_S_STAT_FORCED_OFF k) forced
    let s2 := putBit s1 R.PEPPER_STATUS_ARMED k false
    if forced then errRise s2 R.PEPPER_ERR_FORCED k 0 else s2

/-- Class S as a condition of R505 ceases: its slots are disarmed (R506). -/
def pepperFollow (s : State) : State :=
  if pepperSOk s then s else (List.range 8).foldl (fun s k => if pepperClassS s k then pepperDisarm s k true else s) s

/-- LEFT_S: the seconds that an armed slot has left (R506, R507). -/
def pepperLeft (s : State) (k : Nat) : Nat :=
  if flag s (R.PEPPER_S_STAT_ARMED k) then
    max 1 (rd s (R.PEPPER_S_DUR_DUR_S k)) - (s.power.ticks - s.pepper.armT.getD k 0) / 250000000
  else 0

/-- The word that a mapped, readable register shows to a level now (R9), before any shadow of R12. -/
def regView (s : State) (lvl : Level) (a : Nat) : Word :=
  let w := regGet s a
  if a = R.SYS_PART then BitVec.ofNat 32 (0x7220 + Config.hwRev.toNat <<< 16)
  else if a = R.SYS_SERIAL_LO then loW Config.serial.toNat
  else if a = R.SYS_SERIAL_HI then hiW Config.serial.toNat
  else if a = R.SYS_WHOAMI then whoAmI lvl
  else if a = R.SYS_OT_LO then loW (otNow s)
  else if a = R.SYS_OT_HI then hiW (otNow s)
  else if a = R.SYS_PC then loW (pcNow s)
  else if a = R.STOR_STATUS then fldSet w 8 8 (min s.nv.wear 100)
  else if a = R.STOR_WR_KIB_LO then loW (wrKib s)
  else if a = R.STOR_WR_KIB_HI then hiW (wrKib s)
  else if a = R.REC_NEXT_SEQ then loW s.recd.nextSeq
  else if a = R.REC_OLDEST_SEQ then loW s.recd.oldest
  else if a = R.REC_STORED_SEQ then loW s.recd.stored
  else if a = R.PTP_TIME_LO then loW (ptNow s)
  else if a = R.PTP_TIME_HI then hiW (ptNow s)
  else if a = R.PTP_D0_LO then loW (fineNs s.ptp.d0)
  else if a = R.PTP_D0_HI then hiW (fineNs s.ptp.d0)
  else if a = R.PTP_D1_LO then loW (fineNs s.ptp.d1)
  else if a = R.PTP_D1_HI then hiW (fineNs s.ptp.d1)
  else if a = R.PTP_SLEW then slewView s
  else if a = R.ETH_CFG then ethCfgView s
  else if a = R.ETH_MAC_LO then loW Config.mac.toNat
  else if a = R.ETH_MAC_HI then hiW Config.mac.toNat
  else if a = R.RED_CFG then redCfgView s
  else if a = R.CHAIN_CFG then loW (cfgU s 12 1 0 4 % 2 ^ 5 + b2n (setPair s) <<< 8 + b2n (setFarEnd s) <<< 9)
  else if R.CHAIN_TRIM 0 ≤ a ∧ a ≤ R.CHAIN_TRIM 23 then loW ((s.chain.trims.getD ((a - R.CHAIN_TRIM 0) / 4) none).getD 0)
  else if a = R.IDK_REL_REVOKE then loW (s.idk.burned % 16)
  else if a = R.IDK_TABLE_SEQ then loW s.idk.tab.seq
  else if a = R.CHAIN_STATUS then fldSet w 1 1 (b2n (flag s R.CHAIN_STATUS_RUN && commands s))
  else if a = R.MEAS_STATUS then
    fldSet (fldSet w 6 1 (b2n (flag s R.MEAS_STATUS_RUN && !commands s))) 4 1
      (b2n (flag s R.MEAS_STATUS_RUN && !flag s R.PTP_STATUS_ACQ))
  else if a = R.BAL_STATUS then fldSet w 3 1 (b2n (flag s R.BAL_STATUS_RUN && !commands s))
  else if a = R.PEPPER_STATUS then fldSet w 8 1 (b2n (pepperSOk s))
  else if R.PEPPER_S_CFG 0 ≤ a ∧ a < R.PEPPER_S_CFG 8 ∧ (a - R.PEPPER_S_CFG 0) % 0x20 = 0x0C then
    fldSet w 16 10 (pepperLeft s ((a - R.PEPPER_S_CFG 0) / 0x20))
  else if 0x10131000 ≤ a ∧ a < 0x10131080 then
    let n := (a - 0x10131000) / 8
    if flag s (R.PERF_C_CFG_USER n) then
      (if (a - 0x10131000) % 8 = 0 then regGet s (R.PERF_C_VAL_LO n) else regGet s (R.PERF_C_VAL_HI n))
    else 0
  else w

/-- A word after a write under R9: RW bits take the value written, W1C bits written as 1 clear, all others keep theirs. -/
def writeWord (r : R.Row) (old v : Word) : Word :=
  let rw := BitVec.ofNat 32 r.rw
  let w1 := BitVec.ofNat 32 r.w1c
  (((old &&& ~~~rw) ||| (v &&& rw)) &&& ~~~(w1 &&& v))

end Sys2Proof.Machine
end

