-- ==== Sys2Proof/Machine/Operands.lean ====
section
/-! DEFINITION. The operands of submission entries (R83 to R85, R104): which opcodes a queue pair defines, which of them are
reserved to machine mode (R93) or to a unit that commands (R103), and what ARG0, ARG1 and LEN may hold, from the
opcode tables of the chapters. -/

namespace Sys2Proof.Machine

open Sys2Proof

/-! ### The common opcodes (R104) -/

def opNop : Nat := 0
def opGetStatus : Nat := 1
def opSetConfig : Nat := 2
def opGetConfig : Nat := 3
def opEnable : Nat := 4
def opDisable : Nat := 5
def opPost : Nat := 6
def opMark : Nat := 7
def opFlush : Nat := 8

/-- The queue pairs marked "stream" (R105). -/
def isStream (qp : Nat) : Bool :=
  decide (qp ∈ [1, 2, 4, 6, 12, 13, 16, 17, 19, 20, 30, 33, 34, 35, 37, 38, 39, 40, 42, 44, 45])

/-- The engine-specific opcodes of a queue pair, 0x40 up to but not including the value given. -/
def opEnd (qp : Nat) : Nat :=
  match qp with
  | 0 => 0x43 | 2 => 0x45 | 3 => 0x48 | 4 => 0x45 | 5 => 0x45 | 7 => 0x42 | 8 => 0x41 | 9 => 0x41 | 10 => 0x41 | 11 => 0x41
  | 12 => 0x44 | 14 => 0x44 | 15 => 0x43 | 18 => 0x41 | 21 => 0x43 | 22 => 0x43 | 23 => 0x43 | 24 => 0x43 | 25 => 0x43
  | 26 => 0x43 | 27 => 0x43 | 28 => 0x43 | 31 => 0x45 | 32 => 0x42 | 33 => 0x41 | 34 => 0x41 | 35 => 0x41 | 37 => 0x44
  | 38 => 0x43 | 39 => 0x43 | 40 => 0x43 | 42 => 0x41 | _ => 0x40

/-- Whether an opcode is defined for a queue pair (R104, R105, R329, R520). -/
def opKnown (qp opc : Nat) : Bool :=
  if qp = 30 then decide (opc ∈ [opNop, opGetStatus, opGetConfig, opPost, opMark, opFlush])
  else if opc ≤ opFlush then
    !(decide (qp = 0) && (decide (opc = opEnable) || decide (opc = opDisable))) && (decide (opc ≠ opPost) || isStream qp)
  else decide (0x40 ≤ opc) && decide (opc < opEnd qp)

/-- The opcodes that only a doorbell from A-M or B-M may start (R93). -/
def opMachineOnly (qp opc : Nat) : Bool :=
  (decide (qp = 3) && decide (0x42 ≤ opc) && decide (opc ≤ 0x47)) || decide (qp = 4) || decide (qp = 5) || decide (qp = 43)

/-- The opcodes that command the chain, balancing, the power stage or J10 (R99, R103, R152, R198, R297, R371). -/
def opCommands (qp opc : Nat) : Bool :=
  (decide (qp = 12) && decide (0x40 ≤ opc)) || (decide (qp = 14) && decide (opc ∈ [0x40, 0x41, 0x43]))
  || (decide (21 ≤ qp) && decide (qp ≤ 28) && decide (opc ∈ [opEnable, opDisable, 0x40, 0x41, 0x42]))
  || (decide (qp = 32) && decide (opc = 0x40))

/-- The function numbers that ENABLE and DISABLE take as ARG0 (R104): 0 where the chapter names no other. -/
def enableArg (qp a : Nat) : Bool :=
  match qp with
  | 20 => decide (a ≤ 1) | 31 => decide (a < 256) | 32 => decide (a = 1) | 36 => decide (a ≤ 1) | 37 => decide (a ≤ 1)
  | 41 => decide (a < 16) | 42 => decide (a ≤ 16) | 43 => decide (a < 8) | _ => decide (a = 0)

/-- The tile registers that TILE_RD may read (R151, R164, R196). -/
def tileRegMapped (a : Nat) : Bool := decide (a ∈ tileRegs)
where
  /-- The addresses of a tile's registers. -/
  tileRegs : List Nat := [0x00, 0x01, 0x02, 0x03, 0x04, 0x05, 0x06, 0x07, 0x08, 0x09, 0x0A, 0x0B, 0x0C, 0x10, 0x11, 0x12,
    0x20, 0x21, 0x22, 0x23, 0x24, 0x25, 0x26, 0x27, 0x28, 0x29, 0x2A, 0x2B, 0x2C, 0x40, 0x41, 0x42, 0x43, 0x44, 0x45, 0x46, 0x47,
    0x48, 0x49, 0x4A, 0x4B, 0x4C]

/-- Whether ARG0 and ARG1 hold what the opcode's table allows (R104, step 6 of R521). -/
def opArgs (qp opc arg0 arg1 : Nat) : Bool :=
  let z0 := decide (arg0 = 0)
  let z1 := decide (arg1 = 0)
  if opc = opNop ∨ opc = opGetStatus ∨ opc = opPost ∨ opc = opMark ∨ opc = opFlush then z0 && z1
  else if opc = opSetConfig then z1 && (itemDesc qp arg0).isSome && !(decide (8 ≤ qp) && decide (qp ≤ 11))
  else if opc = opGetConfig then z1 && ((itemDesc qp arg0).isSome || (decide (qp = 30) && decide (arg0 = 1)))
  else if opc = opEnable ∨ opc = opDisable then z1 && enableArg qp arg0
  else match qp, opc with
  | 2, 0x40 => true
  | 2, 0x41 => z1 && decide (arg0 < 2 ^ 26) && decide (0x8000 ≤ arg0 % 65536)
  | 3, 0x40 => z1 && decide (arg0 ≤ 1)
  | 3, 0x46 => z1 && decide (arg0 % 256 ≤ 3) && decide (arg0 / 256 ≤ 1)
  | 3, 0x47 => z1 && decide (arg0 ≤ 3)
  | 4, 0x41 => z1
  | 4, 0x44 => decide (arg0 ≤ 3) && decide (arg1 < 2 ^ 14)
  | 5, 0x40 => decide (arg0 ≤ 3) && decide (arg1 ≤ 1)
  | 12, 0x40 => z1 && decide (arg0 < 65536) && decide (arg0 % 256 < 32) && tileRegMapped (arg0 / 256)
  | 14, 0x42 => z0 && z1
  | 14, _ => z1 && decide (arg0 < 2 ^ 24)
  | 15, 0x40 => decide (arg0 ≠ 0) && decide (arg1 ≤ 1)
  | 15, 0x41 => decide (arg1 / 1024 = 0 ∨ arg1 / 1024 = 64) && decide (1 ≤ arg1 % 1024) && decide (arg0 + arg1 % 1024 ≤ 576)
  | 18, 0x40 => z0 && decide (arg1 ≤ 1)
  | 31, 0x41 => decide (arg0 < 256) && decide (arg1 ≤ 1)
  | 31, _ => z1 && decide (arg0 < 256)
  | 37, 0x40 => z1 && decide (arg0 ≤ 1)
  | 37, 0x41 => decide (arg0 ≤ 3)
  | 37, 0x42 => z1 && decide (arg0 ≤ 3)
  | 37, _ => z1 && decide (1 ≤ arg0) && decide (arg0 ≤ 3)
  | q, o =>
    if 8 ≤ q ∧ q ≤ 11 then z1 && decide (arg0 < 64)
    else if 21 ≤ q ∧ q ≤ 28 ∧ o = 0x41 then z1
    else if 33 ≤ q ∧ q ≤ 35 then z1 && decide (arg0 < 2 ^ 24) && !bitOf arg0 15
    else if 38 ≤ q ∧ q ≤ 40 ∧ o ≠ 0x42 then z1 && decide (arg0 < 128)
    else z0 && z1

/-- The block whose registers GET_STATUS writes where no chapter lays down a layout (R104). -/
def qpBlock (qp : Nat) : Block :=
  match qp with
  | 0 => .sys | 1 => .stor | 2 => .recd | 3 => .idk | 4 => .upd | 5 => .upd | 6 => .meas | 7 => .meas | 8 => .meas | 9 => .meas
  | 10 => .meas | 11 => .meas | 12 => .chain | 13 => .hvm | 14 => .bal | 15 => .est | 16 => .est | 17 => .est | 18 => .eis
  | 19 => .eis | 20 => .therm | 29 => .pwm | 30 => .safe | 31 => .stl | 32 => .red | 33 => .eth | 34 => .eth | 35 => .eth
  | 36 => .eth | 37 => .ptp | 38 => .can 0 | 39 => .can 1 | 40 => .can 2 | 41 => .crc | 42 => .perf | 43 => .pepper
  | 44 => .qmgr | 45 => .qmgr | _ => .ctrl

/-- The word addresses from a to b. -/
def wordSpan (a b : Nat) : List Nat := (List.range ((b - a) / 4 + 1)).map (fun i => a + 4 * i)

/-- The highest register offset below 0x100 that a block's chapter lists (R104). -/
def topOffset (b : Block) : Nat :=
  ((wordSpan (blockBase b) (blockBase b + 0xFC)).filter (fun a => (findRow a).isSome)).foldl (fun m a => max m (a - blockBase b)) 0

/-- The addresses whose registers make up a queue pair's status block, in order (R104, R225, R297, R329). -/
def statusAddrs (qp : Nat) : List Nat :=
  if qp = 0 then wordSpan 0x10000000 0x10000034 ++ wordSpan 0x10002000 0x10002020
  else if 15 ≤ qp ∧ qp ≤ 17 then
    [R.EST_STATUS, R.EST_CHEM_ID, R.EST_CYCLE_CNT, R.EST_CFG, R.EST_N_START_A, R.EST_N_START_B, R.EST_N_NOW, R.EST_DIVERGE_CNT]
  else if 21 ≤ qp ∧ qp ≤ 28 then wordSpan (R.LC_CFG (qp - 21)) (R.LC_CFG (qp - 21) + 0x44)
  else if qp = 30 then wordSpan 0x10090000 0x10090050
  else if qp = 44 ∨ qp = 45 then wordSpan 0x10010000 0x1001001C
  else wordSpan (blockBase (qpBlock qp)) (blockBase (qpBlock qp) + topOffset (qpBlock qp))

/-- Size of a configuration item on a queue pair; the safety set in force on QP30 gives its own (R329). -/
def itemSize (qp arg0 : Nat) : Nat := match itemDesc qp arg0 with
  | some d => d.size
  | none => 0

/-- Bytes that a classic or FD frame's DLC stands for (R408, ISO 11898-1). -/
def dlcBytes (fdf : Bool) (dlc : Nat) : Nat :=
  if dlc ≤ 8 then dlc
  else if !fdf then 8
  else match dlc with
  | 9 => 12 | 10 => 16 | 11 => 20 | 12 => 24 | 13 => 32 | 14 => 48 | _ => 64

/-- Whether a check-value unit is bound to what a SEND would send: enabled, with egress, the same service, and no peer or
this one (R474). -/
def crcBound (s : State) (svc dst : Nat) (dirBit : Nat) (n : Nat) : Bool :=
  bitIn s R.CRC_STATUS_EN n && bitOf (rd s (R.CRC_U_CFG_MODE n)) dirBit && decide (rd s (R.CRC_U_BIND_SVC n) = svc)
  && (decide (rd s (R.CRC_U_BIND_PEER n) = 0xFFFF) || decide (rd s (R.CRC_U_BIND_PEER n) = dst))

/-- The unit that serves a stream in a direction (bit 0 egress, bit 1 ingress): a unit narrowed to the peer or one that
takes every peer (R474). -/
def crcUnit (s : State) (svc peer dirBit : Nat) : Option Nat := (List.range 16).find? (crcBound s svc peer dirBit)

/-- How many bytes a unit appends (R475). -/
def crcLen (s : State) (n : Nat) : Nat := (rd s (R.CRC_U_CFG_WIDTH n) + 7) / 8

/-- Whether LEN suits the opcode, the item or the engine's chapter (step 7 of R521). `setLen` is the length of the safety
set in force, which GET_CONFIG on QP30 returns. -/
def opLen (s : State) (qp opc arg0 len setLen : Nat) : Bool :=
  let mul (m mx : Nat) := decide (0 < len) && decide (len % m = 0) && decide (len ≤ mx)
  if opc = opNop ∨ opc = opMark ∨ opc = opFlush ∨ opc = opEnable ∨ opc = opDisable then decide (len = 0)
  else if opc = opGetStatus then decide (4 * (statusAddrs qp).length ≤ len)
  else if opc = opSetConfig then decide (len = itemSize qp arg0)
  else if opc = opGetConfig then (if qp = 30 then decide (setLen ≤ len) && decide (0 < len) else decide (itemSize qp arg0 ≤ len))
  else if opc = opPost then
    match qp with
    | 4 => mul 32 1048576 | 6 => mul 2048 1048576 | 12 => mul 32 0xFFFFFFFF | 13 => mul 64 0xFFFFFFFF | 16 => mul 20480 983040
    | 17 => mul 128 1048576 | 19 => mul 83968 1007616 | 20 => mul 256 1048576 | 30 => mul 32 1048576 | 33 => mul 2048 1048576
    | 34 => mul 2048 1048576 | 35 => mul 2048 1048576 | 37 => mul 128 1048576 | 38 => mul 96 1048576 | 39 => mul 96 1048576
    | 40 => mul 96 1048576 | 42 => mul 192 1048512 | _ => decide (0 < len)
  else match qp, opc with
  | 2, 0x40 => mul 32 1048576
  | 2, 0x41 => decide (len = 8)
  | 2, 0x43 => decide (len = 8)
  | 2, 0x44 => decide (len = 96)
  | 3, 0x40 => decide (1024 ≤ len)
  | 3, 0x41 => decide (160 ≤ len)
  | 3, 0x42 => decide (len = 8)
  | 3, 0x43 => decide (len = 168)
  | 3, 0x44 => decide (2560 ≤ len)
  | 3, 0x45 => decide (0 < len)
  | 3, 0x46 => decide (0 < len)
  | 4, 0x40 => decide (len = 512)
  | 4, 0x41 => decide (0 < len)
  | 7, 0x40 => decide (len = 32)
  | 12, 0x43 => decide (768 ≤ len)
  | 14, 0x40 => decide (len = 48 * popCount 24 arg0)
  | 14, 0x42 => decide (1536 ≤ len)
  | 14, 0x43 => decide (1536 ≤ len)
  | 31, 0x40 => decide (len = cfgU s 31 (arg0 * 256 + 1) 14 2)
  | 31, 0x42 => decide (24 ≤ len) && decide (len ≤ 280)
  | 31, 0x43 => decide (280 ≤ len)
  | 31, 0x44 => decide (288 ≤ len)
  | 32, 0x41 => decide (256 ≤ len)
  | 37, 0x42 => decide (len = 8)
  | 37, 0x43 => decide (34 ≤ len) && decide (len ≤ 1472)
  | q, o =>
    if 8 ≤ q ∧ q ≤ 11 then decide (0 < len) && decide (len % 8 = 0) && decide (len + 8 * (arg0 % 64) ≤ 512)
    else if 21 ≤ q ∧ q ≤ 28 ∧ o = 0x42 then decide (len = 24)
    else if 33 ≤ q ∧ q ≤ 35 then
      let c := match crcUnit s (arg0 / 65536) (arg0 % 16384) 0 with
        | some n => crcLen s n
        | none => 0
      decide (4 ≤ len) && decide (len + c ≤ 1484)
    else if 38 ≤ q ∧ q ≤ 40 ∧ o = 0x40 then
      let k := 0x100 + arg0
      let fl := cfgU s q k 1 1
      decide (len = if bitOf fl 3 then 0 else dlcBytes (bitOf fl 1) (cfgU s q k 2 1))
    else decide (len = 0)

end Sys2Proof.Machine
end

