-- ==== Sys2Proof/Machine/Queue.lean ====
section
/-! DEFINITION. QMGR: doorbells (R90 to R93), fetching (R81, R97, R101, R521), order and time (R95, R96), completions (R86
to R88, R99, R100), interrupts (R108), enabling and disabling a queue pair (R80, R102), and posted buffers (R98, R104). -/

namespace Sys2Proof.Machine

open Sys2Proof

/-! ### The queue pairs -/

/-- What QMGR holds for a queue pair. -/
def qpAt (s : State) (qp : Nat) : QpState := s.qps.getD qp QpState.init

/-- The state with a queue pair's part changed. -/
def qpMod (s : State) (qp : Nat) (f : QpState → QpState) : State := { s with qps := modAt s.qps qp f }

/-- Whether a queue pair is enabled. -/
def qpOn (s : State) (qp : Nat) : Bool := flag s (R.QP_CTRL_ENABLE qp)

/-- Whether QMGR can reach host memory, which HOLDUP keeps in self-refresh (R63). -/
def hostReach (s : State) : Bool := fullUp s && flag s R.QMGR_GSTATUS_READY

/-! ### Interrupts (R108) -/

/-- The register field and bit of a queue pair's pending interrupt. -/
def irqPendFld (qp : Nat) : Fld := if qp < 32 then R.QMGR_IRQPEND0_PEND else R.QMGR_IRQPEND1_PEND
/-- The register field of a queue pair's pending error. -/
def errPendFld (qp : Nat) : Fld := if qp < 32 then R.QMGR_ERRPEND0_PEND else R.QMGR_ERRPEND1_PEND

/-- Whether one of the three cases of R108 has arisen among the completions not yet announced. -/
def irqCase (s : State) (qp : Nat) : Bool :=
  let q := qpAt s qp
  decide (0 < q.unann) && (q.irqNote || decide (2 ^ rd s (R.QP_CFG_COAL_LOG2 qp) ≤ q.unann) || q.coalNote)

/-- Signal the owner when a case has arisen, the interrupt is enabled and none is pending; that announces every completion
written so far. -/
def irqCheck (s : State) (qp : Nat) : State :=
  if flag s (R.QP_CFG_IRQ_EN qp) && !bitIn s (irqPendFld qp) (qp % 32) && irqCase s qp then
    let s1 := putBit s (irqPendFld qp) (qp % 32) true
    let s2 := qpMod s1 qp (fun q => { q with unann := 0, irqNote := false, coalNote := false })
    emit s2 .irq [ownerOf s2 qp, qp] []
  else s

/-! ### Completions (R86 to R88, R100) -/

/-- The 16 bytes of a completion (R86). -/
def cqeBytes (seq tag opc status phase result sqHead ext : Nat) : List Byte :=
  leBytes 4 seq ++ leBytes 2 tag ++ leBytes 1 opc ++ leBytes 1 (status % 128 + 128 * phase) ++ leBytes 4 result
    ++ leBytes 2 sqHead ++ leBytes 2 ext

/-- The PHASE of a completion with sequence number s on a ring of 2^k entries: the inverse of bit k of s (R87). -/
def cqPhase (seq k : Nat) : Nat := b2n (!bitOf seq k)

/-- RESULT as a completion carries it: 0 with a common STATUS other than OK (R86). -/
def cqResult (status result : Nat) : Nat := if status ≠ 0 ∧ status < 0x40 then 0 else result % 2 ^ 32

/-- The bookkeeping of an error completion (R100, R101). -/
def errNote (s : State) (qp tag opc status : Nat) : State :=
  if status = 0 ∨ status = 9 then s
  else
    let s1 := bump s (R.QP_ERR_CNT_COUNT qp)
    let s2 := wr (wr (wr s1 (R.QP_LAST_ERR_TAG qp) tag) (R.QP_LAST_ERR_OPC qp) opc) (R.QP_LAST_ERR_STATUS qp) status
    let s3 := putBit s2 (errPendFld qp) (qp % 32) true
    if status = 0x0A then record s3 2 0x4002 2 qp (tag + opc <<< 16) 0 else s3

/-- One finished entry leaves: its completion is written into its slot, or, for a successful NOCOMP entry, the slot is
freed (R84, R87, R97). -/
def complete (qp : Nat) (s : State) (e : Entry) : State :=
  match e.st with
  | .done status result ext =>
    if status = 0 ∧ bitOf e.flags 0 then s
    else
      let q := qpAt s qp
      let seq := rd s (R.QP_SEQ_SEQ qp)
      let slot := seq % 2 ^ q.cqLog
      let s1 := pepperWait s 2 qp
      let s2 := memWrite s1 (q.cqBase + 16 * slot)
        (cqeBytes seq e.tag e.opc status (cqPhase seq q.cqLog) (cqResult status result) (rd s (R.QP_STATUS_SQ_HEAD qp)) ext)
      let s3 := wr (bump s2 (R.QP_SEQ_SEQ qp)) (R.QP_STATUS_CQ_TAIL qp) ((slot + 1) % 2 ^ q.cqLog)
      let s4 := errNote s3 qp e.tag e.opc status
      let s5 := qpMod s4 qp (fun q => { q with unann := q.unann + 1, irqNote := q.irqNote || bitOf e.flags 1 })
      irqCheck s5 qp
  | _ => s

/-- Whether an entry is finished. -/
def Entry.isDone (e : Entry) : Bool := match e.st with
  | .done _ _ _ => true
  | _ => false

/-- Every finished entry at the front of a queue pair leaves, in order (R95); an enabled queue pair with nothing left is
idle (R107). -/
def drain (s : State) (qp : Nat) : State :=
  let es := (qpAt s qp).entries
  let s1 := qpMod s qp (fun q => { q with entries := es.dropWhile Entry.isDone })
  let s2 := (es.takeWhile Entry.isDone).foldl (complete qp) s1
  if (qpAt s2 qp).entries.isEmpty && qpOn s2 qp then put s2 (R.QP_STATUS_IDLE qp) true else s2

/-! ### Doorbells (R90 to R93) -/

/-- A doorbell that R91 rejects: counted, and offered to REC (R91, R446). -/
def dbReject (s : State) (qp value : Nat) (head foreign : Bool) : State :=
  let s1 := if foreign then bump s R.QMGR_DB_FOREIGN_CNT_COUNT else bump s (R.QP_DB_REJ_CNT_COUNT qp)
  record s1 2 0x4001 1 qp value (if foreign then 2 else if head then 1 else 0)

/-- Whether a level's access reaches a doorbell: a cluster in machine or supervisor mode, a queue pair that exists, QMGR
ready, and doorbells not closed by a WATCH entry or HOLDUP (R65, R90, R112). -/
def dbReaches (s : State) (lvl : Level) (qp : Nat) : Bool :=
  (clusterOf lvl).isSome && decide (qp < 46) && hostReach s && decide (s.power.watchEntry = 0)

/-- Whether a doorbell's writer is the cluster that owns the queue pair (R91). -/
def dbOwned (s : State) (lvl : Level) (qp : Nat) : Bool := decide (clusterOf lvl = some (ownerOf s qp))

/-- A write to SQ_TAIL (R91, R93): the entries it makes ready keep the writer's level. -/
def sqTailWrite (s : State) (lvl : Level) (qp v : Nat) : State :=
  if !dbReaches s lvl qp then s
  else
    let size := 2 ^ (qpAt s qp).sqLog
    let fetch := rd s (R.QP_STATUS_SQ_HEAD qp)
    let old := rd s (R.QP_DB_STATE_SQ_TAIL qp)
    if !dbOwned s lvl qp then dbReject s qp v false true
    else if !qpOn s qp || decide (size ≤ v) || decide ((v + size - fetch) % size < (old + size - fetch) % size) then
      dbReject s qp v false false
    else
      let s1 := wr s (R.QP_DB_STATE_SQ_TAIL qp) v
      qpMod s1 qp (fun q => { q with levels := q.levels ++ List.replicate ((v + size - old) % size) lvl })

/-- A write to CQ_HEAD (R91). -/
def cqHeadWrite (s : State) (lvl : Level) (qp v : Nat) : State :=
  if !dbReaches s lvl qp then s
  else
    let size := 2 ^ (qpAt s qp).cqLog
    let tail := rd s (R.QP_STATUS_CQ_TAIL qp)
    let old := rd s (R.QP_DB_STATE_CQ_HEAD qp)
    if !dbOwned s lvl qp then dbReject s qp v true true
    else if !qpOn s qp || decide (size ≤ v) || decide ((tail + size - old) % size < (v + size - old) % size) then
      dbReject s qp v true false
    else wr s (R.QP_DB_STATE_CQ_HEAD qp) v

/-- The cores' stores into host memory before a doorbell, in order: the first address outside host memory, if any. -/
def coreStores (s : State) : List (Nat × List Byte) → Except Nat State
  | [] => .ok s
  | (a, bs) :: t => if inHost a bs.length then coreStores (memWrite s a bs) t else .error a

/-! ### Fetching (R81, R82, R97, R101, R521) -/

/-- Whether a CQ slot can be reserved (R97): the completions not released and the slots reserved are fewer than the CQ
size − 1. -/
def slotFree (s : State) (qp : Nat) : Bool :=
  let q := qpAt s qp
  let size := 2 ^ q.cqLog
  let held := (rd s (R.QP_STATUS_CQ_TAIL qp) + size - rd s (R.QP_DB_STATE_CQ_HEAD qp)) % size
  decide (held + q.entries.length < size - 1)

/-- The entry that 32 bytes spell (R83). -/
def entryOf (bs : List Byte) (lvl : Level) : Entry :=
  { opc := fieldAt bs 0 1, flags := fieldAt bs 1 1, tag := fieldAt bs 2 2, arg0 := fieldAt bs 4 4, addr := fieldAt bs 8 8,
    len := fieldAt bs 16 4, arg1 := fieldAt bs 20 4, at64 := fieldAt bs 24 8, level := lvl, st := .ready, snap := [] }

/-- The address rules of R85. -/
def addrOk (addr len : Nat) : Bool :=
  decide (addr = 0) || (decide (addr % 8 = 0) && decide (len ≠ 0) && inHost addr len)

/-- The length of the safety set in force (R329): that of the set in SP memory. -/
def setLenNow (s : State) : Nat := s.safe.set.length

/-- Checks 2 to 7 of R521: the STATUS of the first that fails. -/
def judge (s : State) (qp : Nat) (e : Entry) : Option Nat :=
  if !opKnown qp e.opc then some 0x01
  else if opMachineOnly qp e.opc && !isMachine e.level then some 0x0C
  else if 8 ≤ e.flags then some 0x02
  else if !addrOk e.addr e.len then some 0x03
  else if !opArgs qp e.opc e.arg0 e.arg1 then some 0x05
  else if (e.addr = 0 ∧ e.len ≠ 0) || !opLen s qp e.opc e.arg0 e.len (setLenNow s) then some 0x04
  else none

/-- QMGR fetches the next entry (R97, R101, R521): it reserves a CQ slot, copies the entry and judges it. `ue` are the
aligned words of host memory in which an uncorrectable error has arisen meanwhile. -/
def fetchNext (s0 : State) (qp : Nat) (ue : List Nat) : State :=
  let s := { s0 with memErr := s0.memErr ++ (ue.map (fun a => a / 8 * 8)).filter (fun a => decide (a ∉ s0.memErr)) }
  let q := qpAt s qp
  let fetch := rd s (R.QP_STATUS_SQ_HEAD qp)
  if !hostReach s || !qpOn s qp || decide (fetch = rd s (R.QP_DB_STATE_SQ_TAIL qp)) then s
  else if !slotFree s qp then put s (R.QP_STATUS_STALLED qp) true
  else
    let s1 := pepperWait s 1 qp
    let a := q.sqBase + 32 * fetch
    let lvl := q.levels.headD .u
    let e0 := entryOf (memBytes s a 32) lvl
    let e :=
      if memBad s a 32 then { e0 with tag := 0xFFFF, opc := 0xFF, flags := 0, st := .done 0x0A 0 0 }
      else match judge s qp e0 with
        | some st => { e0 with st := .done st 0 0 }
        | none =>
          if qp = 7 ∧ e0.opc = 0x40 then { e0 with snap := s.meas.staged }
          else if qp = 0 ∧ e0.opc = 0x40 then { e0 with snap := [leBytes 4 (regGet s R.PWR_WAKE_CFG).toNat] }
          else e0
    let s2 := wr (put (put s1 (R.QP_STATUS_STALLED qp) false) (R.QP_STATUS_IDLE qp) false) (R.QP_STATUS_SQ_HEAD qp)
      ((fetch + 1) % 2 ^ q.sqLog)
    drain (qpMod s2 qp (fun q => { q with levels := q.levels.drop 1, entries := q.entries ++ [e] })) qp

/-! ### Starting an entry (R95, R96, steps 8 to 13 of R521) -/

/-- The first entry of a queue pair that has not started. -/
def frontIdx (es : List Entry) : Option Nat := es.findIdx? (fun e => decide (e.st = .ready) || decide (e.st = .waiting))

/-- How a TIMED entry stands at the front: due, too late, or waiting (R96). -/
inductive When where
  | now | late | later
  deriving DecidableEq, Repr

/-- R96: late once plant time exceeds AT by more than 1 ms, due from AT on. -/
def whenOf (s : State) (e : Entry) : When :=
  if !bitOf e.flags 2 then .now
  else if e.at64 + 1000000 < ptNow s then .late
  else if e.at64 ≤ ptNow s then .now
  else .later

/-- What a fetched entry becomes when its queue pair is disabled (R102). -/
def disabledSt : EntrySt → EntrySt
  | .waiting => .done 9 0 0
  | .posted 0 => .done 9 0 0
  | .posted (w + 1) => .done 0 (w + 1) 0
  | .await _ => .done 9 0 0
  | st => st

/-- An entry's standing replaced; finished entries at the front leave. -/
def setEntry (s : State) (qp i : Nat) (st : EntrySt) : State :=
  let st1 := if qpOn s qp then st else disabledSt st
  drain (qpMod s qp (fun q => { q with entries := modAt q.entries i (fun e => { e with st := st1 }) })) qp

/-- The standing of the first entry that has not started replaced. -/
def setFront (s : State) (qp : Nat) (st : EntrySt) : State :=
  match frontIdx (qpAt s qp).entries with
  | some i => setEntry s qp i st
  | none => s

/-- The block whose clock gate makes a queue pair complete every entry with STATE (R122). -/
def qpGated (s : State) (qp : Nat) : Bool :=
  (decide (qp = 39) && flag s R.CLK_GATE_CAN1_OFF) || (decide (qp = 40) && flag s R.CLK_GATE_CAN2_OFF)

/-- Start the first entry that has not started, if it carries this opcode: its time (step 8), the role (step 9), the clock
gate (R122), and then what `act` does, which answers the state and where the entry stands. MARK starts only at the
front of its queue pair (R104). The role is that of the entry's start (DESIGN CHOICE, log 33: R103 speaks of entries fetched after
a change of role only). -/
def runEntry (s : State) (qp opc : Nat) (act : Entry → State → State × EntrySt) : State :=
  match frontIdx (qpAt s qp).entries with
  | none => s
  | some i =>
    match (qpAt s qp).entries[i]? with
    | none => s
    | some e =>
      if !hostReach s || decide (e.opc ≠ opc) || decide (e.st ≠ .ready) || (decide (opc = opMark) && decide (i ≠ 0)) then s
      else match whenOf s e with
        | .late => setEntry s qp i (.done 8 0 0)
        | .later => setEntry s qp i .waiting
        | .now =>
          if opCommands qp opc && !commands s then setEntry s qp i (.done 0x0B 0 0)
          else if qpGated s qp then setEntry s qp i (.done 6 0 0)
          else
            let r := act e s
            setFront r.1 qp r.2

/-- The answers of an action: OK with RESULT and RESULT_EXT, or another STATUS with RESULT_EXT. -/
def okR (s : State) (result : Nat) : State × EntrySt := (s, .done 0 result 0)
def okX (s : State) (result ext : Nat) : State × EntrySt := (s, .done 0 result ext)
def failR (s : State) (status : Nat) : State × EntrySt := (s, .done status 0 0)
def failX (s : State) (status ext : Nat) : State × EntrySt := (s, .done status 0 ext)

/-- An action that reads its entry's buffer: MEM_ERR, and nothing used, where a word of it has an uncorrectable error
(R101, step 12 of R521). -/
def withBuf (e : Entry) (s : State) (k : List Byte → State × EntrySt) : State × EntrySt :=
  if memBad s e.addr e.len then failR s 0x0A else k (memBytes s e.addr e.len)

/-- The first started entry for which p holds finishes. -/
def finishEntry (s : State) (qp : Nat) (p : Entry → Bool) (status result ext : Nat) : State :=
  match (qpAt s qp).entries.findIdx? p with
  | some i => setEntry s qp i (.done status result ext)
  | none => s

/-- Whether an entry of an opcode runs, or waits for an outside event. -/
def Entry.runs (opc : Nat) (e : Entry) : Bool := match e.st with
  | .running _ => decide (e.opc = opc)
  | _ => false
def Entry.awaits (opc : Nat) (e : Entry) : Bool := match e.st with
  | .await _ => decide (e.opc = opc)
  | _ => false

/-- The number that the engine keeps with a running or awaiting entry. -/
def Entry.note (e : Entry) : Nat := match e.st with
  | .running n => n
  | .await n => n
  | _ => 0

/-- Whether a queue pair has an entry for which p holds. -/
def hasEntry (s : State) (qp : Nat) (p : Entry → Bool) : Bool := (qpAt s qp).entries.any p

/-- The waiting TIMED entry at the front starts, or is late (R96). -/
def timedStart (s : State) (qp : Nat) : State :=
  match frontIdx (qpAt s qp).entries with
  | none => s
  | some i =>
    match (qpAt s qp).entries[i]? with
    | none => s
    | some e =>
      if decide (e.st ≠ .waiting) then s
      else match whenOf s e with
        | .late => setEntry s qp i (.done 8 0 0)
        | .later => s
        | .now => qpMod s qp (fun q => { q with entries := modAt q.entries i (fun e => { e with st := .ready, flags := e.flags % 4 }) })

/-! ### Posted buffers (R98, R104) -/

/-- The posted buffer that takes n more bytes: its place in the queue pair and the bytes written. -/
def postedIdx (es : List Entry) (n : Nat) : Option (Nat × Nat) :=
  (es.zipIdx).findSome? (fun ei => match ei.1.st with
    | .posted w => if w + n ≤ ei.1.len then some (ei.2, w) else none
    | _ => none)

/-- A stream record goes into the posted buffer whose turn it is; a filled buffer completes. The answer says whether a
buffer was found (R98); none is while QMGR does not reach host memory or PEPPER withholds them (R503). -/
def streamWrite (s : State) (qp : Nat) (data : List Byte) : Bool × State :=
  let p := pepperAct s 3 qp
  let s1 := p.2
  if p.1 || !hostReach s1 then (false, s1)
  else match postedIdx (qpAt s1 qp).entries data.length with
    | none => (false, s1)
    | some (i, w) =>
      match (qpAt s1 qp).entries[i]? with
      | none => (false, s1)
      | some e =>
        let s2 := memWrite s1 (e.addr + w) data
        if w + data.length = e.len then (true, setEntry s2 qp i (.done 0 e.len 0))
        else (true, qpMod s2 qp (fun q => { q with entries := modAt q.entries i (fun e => { e with st := .posted (w + data.length) }) }))

/-- A stream record whose loss is counted and noted (R98). -/
def streamOr (s : State) (qp : Nat) (data : List Byte) (lost : State → State) : State :=
  let r := streamWrite s qp data
  if r.1 then r.2 else lost r.2

/-- How many posted buffers hold nothing yet. -/
def emptyPosted (es : List Entry) : Nat := (es.filter (fun e => decide (e.st = .posted 0))).length

/-- Every posted buffer returned: OK and the bytes written where it is partly filled, FLUSHED where it is empty (R104). -/
def flushPosted (s : State) (qp : Nat) : State :=
  drain (qpMod s qp (fun q => { q with entries := q.entries.map (fun e =>
    match e.st with
    | .posted _ => { e with st := disabledSt e.st }
    | _ => e) })) qp

/-! ### Enabling and disabling (R80, R102) -/

/-- Whether two spans of bytes share a byte. -/
def spansMeet (a n b m : Nat) : Bool := decide (a < b + m) && decide (b < a + n)

/-- Whether a queue pair is in use (R80). -/
def qpInUse (s : State) (qp : Nat) : Bool := qpOn s qp || !flag s (R.QP_STATUS_IDLE qp)

/-- Whether the bases and sizes that a queue pair's registers hold satisfy R80. -/
def ringsOk (s : State) (qp : Nat) : Bool :=
  let sb := rd s (R.QP_SQ_BASE_LO_SQ_BASE qp) + rd s (R.QP_SQ_BASE_HI_SQ_BASE qp) <<< 32
  let cb := rd s (R.QP_CQ_BASE_LO_CQ_BASE qp) + rd s (R.QP_CQ_BASE_HI_CQ_BASE qp) <<< 32
  let sl := rd s (R.QP_CFG_SQ_LOG2 qp)
  let cl := rd s (R.QP_CFG_CQ_LOG2 qp)
  let sn := 32 * 2 ^ sl
  let cn := 16 * 2 ^ cl
  decide (4 ≤ sl) && decide (sl ≤ 12) && decide (4 ≤ cl) && decide (cl ≤ 12) && decide (sb % 4096 = 0) && decide (cb % 4096 = 0)
  && inHost sb sn && inHost cb cn && !spansMeet sb sn cb cn
  && (List.range 46).all (fun m =>
      decide (m = qp) || !qpInUse s m ||
        (let q := qpAt s m
         !spansMeet sb sn q.sqBase (32 * 2 ^ q.sqLog) && !spansMeet sb sn q.cqBase (16 * 2 ^ q.cqLog)
         && !spansMeet cb cn q.sqBase (32 * 2 ^ q.sqLog) && !spansMeet cb cn q.cqBase (16 * 2 ^ q.cqLog)))

/-- The rings that a queue pair's registers give. -/
def ringsOf (s : State) (qp : Nat) : QpState :=
  { QpState.init with
    sqBase := rd s (R.QP_SQ_BASE_LO_SQ_BASE qp) + rd s (R.QP_SQ_BASE_HI_SQ_BASE qp) <<< 32
    cqBase := rd s (R.QP_CQ_BASE_LO_CQ_BASE qp) + rd s (R.QP_CQ_BASE_HI_CQ_BASE qp) <<< 32
    sqLog := rd s (R.QP_CFG_SQ_LOG2 qp)
    cqLog := rd s (R.QP_CFG_CQ_LOG2 qp) }

/-- A write of 1 to ENABLE (R102): ignored while the queue pair drains or is enabled already. Completions of the time before that
were not yet announced are not announced any more (DESIGN CHOICE, log 33: R108 does not say). -/
def qpEnable (s : State) (qp : Nat) : State :=
  if qpOn s qp || !flag s (R.QP_STATUS_IDLE qp) then s
  else if !ringsOk s qp then put s (R.QP_STATUS_CFG_ERR qp) true
  else
    let s1 := put s (R.QP_CTRL_ENABLE qp) true
    let s2 := regSet (regSet (regSet s1 (R.QP_STATUS qp) (BitVec.ofNat 32 (1 <<< 29))) (R.QP_DB_STATE qp) 0) (R.QP_SEQ qp) 0
    qpMod s2 qp (fun _ => ringsOf s qp)

/-- A write of 0 to ENABLE (R102): fetching stops, and what was fetched drains. -/
def qpDisable (s : State) (qp : Nat) : State :=
  if !qpOn s qp then s
  else
    let s1 := put (put s (R.QP_CTRL_ENABLE qp) false) (R.QP_STATUS_STALLED qp) false
    drain (qpMod s1 qp (fun q => { q with levels := [], entries := q.entries.map (fun e => { e with st := disabledSt e.st }) })) qp

/-- The last completion of a disabled queue pair is written (R102). -/
def qpIdleCheck (s : State) (qp : Nat) : State :=
  if (qpAt s qp).entries.isEmpty then put s (R.QP_STATUS_IDLE qp) true else s

/-- Whether a level may write a queue pair's registers: a cluster that owns it (R106, R112), with QMGR's bases, sizes and
CTRL not locked (R117). -/
def qpWritable (s : State) (lvl : Level) (qp : Nat) : Bool :=
  hostReach s && decide (qp < 46) && decide (clusterOf lvl = some (ownerOf s qp)) && !blockLocked s .qmgr

/-- A write of 1s to IRQPEND0 or IRQPEND1: the bits clear, and QMGR signals anew where a case has arisen meanwhile (R108). -/
def irqPendClear (s : State) (hi : Bool) (v : Nat) : State :=
  let f := if hi then R.QMGR_IRQPEND1_PEND else R.QMGR_IRQPEND0_PEND
  let old := rd s f
  let s1 := wr s f (old - (old &&& v))
  ((List.range (if hi then 14 else 32)).filter (fun i => bitOf v i && bitOf old i)).foldl
    (fun s i => irqCheck s (if hi then 32 + i else i)) s1

/-- Whether a cluster owns a queue pair in the scope of ERRPEND0 and IRQPEND0 (`hi` false) or of ERRPEND1 and IRQPEND1
(R106). -/
def ownsSome (s : State) (lvl : Level) (hi : Bool) : Bool :=
  match clusterOf lvl with
  | none => false
  | some c => (List.range (if hi then 14 else 32)).any (fun i => decide (ownerOf s (if hi then 32 + i else i) = c))

/-! ### The rows of QMGR -/

/-- SQ_TAIL: the cores' stores, then the doorbell. -/
def execSqTail (lvl : Level) (qp value : Nat) (writes : List (Nat × List Byte)) (s : State) : Host.Outcome State Fault Refusal :=
  match coreStores s writes with
  | .ok s1 => .next (sqTailWrite s1 lvl qp value)
  | .error a => .fault (.noHostMemory a)

/-- CQ_HEAD. -/
def execCqHead (lvl : Level) (qp value : Nat) (s : State) : Host.Outcome State Fault Refusal := .next (cqHeadWrite s lvl qp value)

/-- SQ_FETCH. -/
def execSqFetch (qp : Nat) (ue : List Nat) (s : State) : Host.Outcome State Fault Refusal := .next (fetchNext s qp ue)

/-- TIMED_START. -/
def execTimedStart (qp : Nat) (s : State) : Host.Outcome State Fault Refusal := .next (timedStart s qp)

/-- COAL_TIMEOUT: COAL_US has passed since the first completion not yet announced (R108). -/
def execCoalTimeout (qp : Nat) (s : State) : Host.Outcome State Fault Refusal :=
  .next (if decide (0 < (qpAt s qp).unann) && decide (rd s (R.QP_CFG_COAL_US qp) ≠ 0) then
    irqCheck (qpMod s qp (fun q => { q with coalNote := true })) qp else s)

/-- IRQPEND_CLEAR. -/
def execIrqpendClear (lvl : Level) (hi : Bool) (value : Nat) (s : State) : Host.Outcome State Fault Refusal :=
  .next (if hostReach s && ownsSome s lvl hi then irqPendClear s hi value else s)

/-- QP_ENABLE. -/
def execQpEnable (lvl : Level) (qp : Nat) (s : State) : Host.Outcome State Fault Refusal :=
  .next (if qpWritable s lvl qp then qpEnable s qp else s)

/-- QP_DISABLE. -/
def execQpDisable (lvl : Level) (qp : Nat) (s : State) : Host.Outcome State Fault Refusal :=
  .next (if qpWritable s lvl qp then qpDisable s qp else s)

/-- QP_IDLE. -/
def execQpIdle (qp : Nat) (s : State) : Host.Outcome State Fault Refusal := .next (qpIdleCheck s qp)

end Sys2Proof.Machine
end

