-- ==== Sys2Proof/Machine/Perf.lean ====
section
/-! DEFINITION. PERF's counters, thresholds and Clove snapshots (R490 to R501). Counters are brought up to date whenever a
command looks at them (log 11). -/

namespace Sys2Proof.Machine

open Sys2Proof

/-- Nominal frequency of a clock domain in Hz (R122); APP follows R79. -/
def domHz (s : State) (d : Nat) : Nat :=
  match d with
  | 0 => if flag s R.CLK_APP_RATE_SLOW_A then 600000000 else 1200000000
  | 1 => 400000000 | 2 => 200000000 | 3 => 200000000 | 4 => 200000000 | 5 => 200000000 | 6 => 125000000 | 7 => 125000000
  | 8 => 80000000 | 9 => 250000000 | 10 => 400000000 | _ => 32768

/-- The counter field that a counter's CFG names for KIND 1: a field marked "wraps" (R491). -/
def perfField (s : State) (n : Nat) : Option Fld :=
  match blockOfSrc (rd s (R.PERF_C_CFG_BLK n)) with
  | none => none
  | some b =>
    let a := blockBase b + rd s (R.PERF_C_CFG_OFS n)
    let lsb := rd s (R.PERF_C_CFG_LSB n)
    (R.wrapRows.find? (fun r => decide (r.1 ≤ a) && decide ((a - r.1) % r.2.2.1 = 0) && decide ((a - r.1) / r.2.2.1 < r.2.1)
      && decide (r.2.2.2.1 = lsb) && decide (a ≤ blockLast b))).map (fun r => ⟨a, lsb, r.2.2.2.2⟩)

/-- Whether ENABLE of a counter accepts its CFG (R491). -/
def perfCfgOk (s : State) (n : Nat) : Bool :=
  match rd s (R.PERF_C_CFG_KIND n) with
  | 1 => (perfField s n).isSome
  | 2 => decide (rd s (R.PERF_C_CFG_BLK n) < 12)
  | _ => false

/-- What a counter remembers of its source: the field's value, or the ticks of the PTP clock. -/
def perfSource (s : State) (n : Nat) : Nat :=
  match rd s (R.PERF_C_CFG_KIND n) with
  | 1 => match perfField s n with
    | some f => rd s f
    | none => 0
  | 2 => s.power.ticks
  | _ => 0

/-- How far a counter's source has advanced since it was last looked at (R491); a domain whose crossings are on the
two-flop path adds nothing. -/
def perfAdvance (s : State) (n : Nat) : Nat :=
  let old := s.perf.last.getD n 0
  let new := perfSource s n
  match rd s (R.PERF_C_CFG_KIND n) with
  | 1 => match perfField s n with
    | some f => (new + 2 ^ f.width - old % 2 ^ f.width) % 2 ^ f.width
    | none => 0
  | 2 =>
    let d := rd s (R.PERF_C_CFG_BLK n)
    if bitIn s R.CLK_XSTAT_TWO_FLOP d then 0 else new * domHz s d / 250000000 - old * domHz s d / 250000000
  | _ => 0

/-- One counter k further (R491, R492, R495): HI rises and WRAP is set where VALUE passes 0; the answer says whether the
threshold event fires. -/
def perfCount (s : State) (n k : Nat) : Bool × State :=
  let v := rd s (R.PERF_C_VAL_LO_VALUE n)
  let thr := rd s (R.PERF_C_THR_THR n)
  let fires := decide ((thr + 2 ^ 32 + 2 ^ 32 - v - 1) % 2 ^ 32 < k)
  let s1 := wr s (R.PERF_C_VAL_LO_VALUE n) ((v + k) % 2 ^ 32)
  let w := (v + k) / 2 ^ 32
  if w = 0 then (fires, s1)
  else
    let s2 := putBit (bumpBy s1 (R.PERF_C_VAL_HI_HI n) w) R.PERF_WRAP_WRAP n true
    (fires, { s2 with perf := { s2.perf with wraps := setBit s2.perf.wraps n true } })

/-- One enabled counter brought up to date; the counters whose events fired are collected. -/
def perfSync1 (r : List Nat × State) (n : Nat) : List Nat × State :=
  let s := r.2
  if !bitIn s R.PERF_STATUS_EN n then r
  else
    let k := perfAdvance s n
    let s1 := { s with perf := { s.perf with last := s.perf.last.set n (perfSource s n) } }
    if k = 0 then (r.1, s1)
    else
      let c := perfCount s1 n k
      (if c.1 then r.1 ++ [n] else r.1, c.2)

/-- The counters captured (R499): those of MASK, or every enabled one. -/
def perfMask (s : State) : Nat :=
  let m := cfgU s 42 1 4 2
  if m = 0 then rd s R.PERF_STATUS_EN else m

/-- The 192 bytes of a Clove record (R498). -/
def cloveBytes (s : State) (seq cause hits : Nat) : List Byte :=
  let m := perfMask s
  leBytes 8 (ptNow s) ++ leBytes 4 seq ++ leBytes 1 cause ++ zeros 1 ++ leBytes 2 hits ++ leBytes 2 m ++ leBytes 2 s.perf.wraps
    ++ zeros 12
    ++ ((List.range 16).map (fun n =>
        if bitOf m n then leBytes 4 (rd s (R.PERF_C_VAL_LO_VALUE n)) ++ leBytes 2 (rd s (R.PERF_C_VAL_HI_HI n))
          ++ leBytes 1 (rd s (R.PERF_C_CFG_KIND n)) ++ zeros 1
        else zeros 8)).flatten
    ++ zeros 32

/-- A Clove snapshot (R497): it takes the next SEQ, and is counted as lost where no buffer is posted. -/
def perfSnap (s : State) (cause hits : Nat) : State :=
  let s1 := bump s R.PERF_SNAP_SEQ_SEQ
  let bs := cloveBytes s1 (rd s1 R.PERF_SNAP_SEQ_SEQ) cause hits
  let s2 := { s1 with perf := { s1.perf with wraps := 0 } }
  streamOr s2 42 bs (fun s => errRise (bump s R.PERF_SNAP_LOST_CNT_COUNT) R.PERF_ERR_LOST 0 0)

/-- A fired event's IRQ and REC actions (R495, R496). -/
def perfFire (s : State) (n : Nat) : State :=
  let act := rd s (R.PERF_C_ACT_ACT n)
  let s1 :=
    if bitOf act 0 then
      (if bitIn s R.PERF_THR_PEND_PEND n then errRise s R.PERF_ERR_THR_OVERRUN n 0
       else emit (putBit s R.PERF_THR_PEND_PEND n true) .perfIrq [ownerOf s 42, n] [])
    else s
  if bitOf act 2 then errRise s1 R.PERF_ERR_THRESHOLD n (rd s1 (R.PERF_C_VAL_LO_VALUE n)) else s1

/-- A fired event's RELOAD action: VALUE becomes RELOAD and the counts beyond THR (R495). -/
def perfReload (s : State) (n : Nat) : State :=
  if bitOf (rd s (R.PERF_C_ACT_ACT n)) 3 then
    wr s (R.PERF_C_VAL_LO_VALUE n)
      ((rd s (R.PERF_C_RELOAD_RELOAD n) + (rd s (R.PERF_C_VAL_LO_VALUE n) + 2 ^ 32 - rd s (R.PERF_C_THR_THR n)) % 2 ^ 32) % 2 ^ 32)
  else s

/-- Every enabled counter brought up to date, with the actions of the events that fired; `cause` asks for a snapshot
besides (R495, R497). -/
def perfSyncWith (s : State) (cause : Nat) : State :=
  let r := (List.range 16).foldl perfSync1 ([], s)
  let s1 := r.1.foldl perfFire r.2
  let snapHits := r.1.filter (fun n => bitOf (rd s1 (R.PERF_C_ACT_ACT n)) 1)
  let c := cause + (if snapHits.isEmpty then 0 else 4)
  let s2 := if c = 0 then s1 else perfSnap s1 c (r.1.foldl (fun m n => setBit m n true) 0)
  r.1.foldl perfReload s2

/-- The counters as they stand now. -/
def perfSync (s : State) : State := perfSyncWith s 0

/-- A write to Cn_PRESET (R494): VALUE is loaded and HI cleared. -/
def perfPreset (s : State) (n v : Nat) : State :=
  let s1 := perfSync s
  wr (wr s1 (R.PERF_C_VAL_LO_VALUE n) v) (R.PERF_C_VAL_HI_HI n) 0

/-- SNAP on QP42 (R497, R499). -/
def perfSnapOp (_ : Entry) (s : State) : State × EntrySt :=
  let s1 := perfSyncWith s 2
  okR s1 (rd s1 R.PERF_SNAP_SEQ_SEQ)

/-- ENABLE on QP42: a counter, or the periodic snapshots (R491, R499). -/
def perfEnable (e : Entry) (s : State) : State × EntrySt :=
  if e.arg0 = 16 then okR (put s R.PERF_STATUS_PERIODIC true) 0
  else if !perfCfgOk s e.arg0 then failX (errRise s R.PERF_ERR_CFG e.arg0 0) 0x40 e.arg0
  else if bitIn s R.PERF_STATUS_EN e.arg0 then okR s 0
  else
    let s1 := perfSync s
    okR { putBit s1 R.PERF_STATUS_EN e.arg0 true with perf := { s1.perf with last := s1.perf.last.set e.arg0 (perfSource s1 e.arg0) } } 0

/-- DISABLE on QP42: the extended count holds (R494). -/
def perfDisable (e : Entry) (s : State) : State × EntrySt :=
  if e.arg0 = 16 then okR (put s R.PERF_STATUS_PERIODIC false) 0
  else okR (putBit (perfSync s) R.PERF_STATUS_EN e.arg0 false) 0

/-- THRESHOLD_EVENT: a counter's VALUE meets its THR (R495). -/
def execThresholdEvent (s : State) : Host.Outcome State Fault Refusal := .next (perfSync s)

/-- COUNTER_WRAP: a counter's VALUE passes from 0xFFFF_FFFF to 0 (R492). -/
def execCounterWrap (s : State) : Host.Outcome State Fault Refusal := .next (perfSync s)

/-- PERIODIC_SNAPSHOT: plant time reaches a multiple of PERIOD_US (R497). -/
def execPeriodicSnapshot (s : State) : Host.Outcome State Fault Refusal :=
  .next (if flag s R.PERF_STATUS_PERIODIC then perfSyncWith s 1 else s)

/-- SNAP on QP42. -/
def execSnap (s : State) : Host.Outcome State Fault Refusal := .next (runEntry s 42 0x40 perfSnapOp)

end Sys2Proof.Machine
end

