-- ==== Sys2Proof/Machine/Rec.lean ====
section
/-! DEFINITION. The event recorder: flushing, reading, submitting and clearing records (R445 to R455). -/

namespace Sys2Proof.Machine

open Sys2Proof

/-- Whether sequence number a lies before b, modulo 2^32 (R445). -/
def seqBefore (a b : Nat) : Bool :=
  let d := (b + 2 ^ 32 - a % 2 ^ 32) % 2 ^ 32
  decide (0 < d) && decide (d < 2 ^ 31)

/-- Every record held, oldest first (R450). -/
def recAll (s : State) : List RecEnt := s.recd.durable ++ s.recd.buf

/-- LOST records for the runs of missing sequence numbers, while there is room (R448). -/
def recLostRuns : List (Nat × Nat) → State → State
  | [], s => { s with recd := { s.recd with lost := [] } }
  | (f, n) :: t, s =>
    if s.recd.buf.length < recBufMax then recLostRuns t (recEnter s 17 0x0004 2 1 0 f n)
    else { s with recd := { s.recd with lost := (f, n) :: t } }

/-- Whether SYNC's target is durable. -/
def syncDone (s : State) (e : Entry) : Bool := Entry.runs 0x42 e && !seqBefore s.recd.stored e.note

/-- Every SYNC whose buffer has become durable completes with STORED_SEQ (R454). -/
def recSyncs : Nat → State → State
  | 0, s => s
  | n + 1, s => if hasEntry s 2 (syncDone s) then recSyncs n (finishEntry s 2 (syncDone s) 0 s.recd.stored 0) else s

/-- STOR has completed the running write (R447): its records are durable, the oldest beyond the area's size go, and
STORED_SEQ passes them. -/
def recWriteDone (s : State) : State :=
  if !flag s R.REC_STATUS_FLUSHING then s
  else
    let n := s.recd.writing
    let buf := s.recd.buf.drop n
    let dur := s.recd.durable ++ s.recd.buf.take n
    let dur1 := dur.drop (dur.length - recAreaMax)
    let stored := match buf with
      | [] => s.recd.nextSeq
      | r :: _ => r.seq
    let oldest := match dur1 with
      | [] => stored
      | r :: _ => r.seq
    let s1 := { s with recd := { s.recd with durable := dur1, buf := buf, writing := 0, stored := stored, oldest := oldest } }
    let s2 := recShow (storCount (put s1 R.REC_STATUS_FLUSHING false) (32 * n))
    let s3 := recLostRuns s2.recd.lost s2
    let s4 := recSyncs s3.qps.length s3
    if recWants s4 || hasEntry s4 2 (Entry.runs 0x42) || flag s4 R.REC_STATUS_SEALED then recAfter s4 (recWriteStart s4) else s4

/-- The records that READ delivers from a first SEQ on (R450, R451): good ones in rising order, at most n, whether a bad one
was skipped, and whether the end of the snapshot was reached. -/
def recSelect (n : Nat) : List RecEnt → List RecEnt × Bool × Bool
  | [] => ([], false, true)
  | r :: t =>
    match n with
    | 0 => ([], false, false)
    | m + 1 =>
      if r.bad then
        let x := recSelect (m + 1) t
        (x.1, true, x.2.2)
      else
        let x := recSelect m t
        (r :: x.1, x.2.1, x.2.2)

/-- Durable records whose copy fails (R451): their reads from the recorder area are uncorrectable (R77). -/
def recDamage (s : State) (bad : List Nat) : State :=
  let hit := s.recd.durable.any (fun r => decide (r.seq ∈ bad))
  let s1 := { s with recd := { s.recd with durable := s.recd.durable.map (fun r => if r.seq ∈ bad then { r with bad := true } else r) } }
  if hit then errRise s1 R.STOR_ERR_REC_UE 0 0 else s1

/-- READ (R450, R451, R454); `bad` gives the SEQs whose records the copy finds damaged. -/
def recRead (bad : List Nat) (e : Entry) (s0 : State) : State × EntrySt :=
  if seqBefore e.arg0 s0.recd.oldest then failR s0 0x40
  else
    let s := recDamage s0 (bad.filter (fun q => !seqBefore q e.arg0))
    let rest := (recAll s).filter (fun r => !seqBefore r.seq e.arg0)
    let sel := recSelect (min (e.len / 32) e.arg1) rest
    let s1 := memWrite s e.addr (sel.1.map recBytes).flatten
    let buffered := sel.1.any (fun r => !seqBefore r.seq s.recd.stored)
    okX s1 sel.1.length (b2n buffered + 2 * b2n sel.2.2 + 4 * b2n sel.2.1)

/-- LOG (R454): SRC is the cluster that submits it. -/
def recLog (e : Entry) (s : State) : State × EntrySt :=
  withBuf e s (fun bs =>
    let seq := s.recd.nextSeq
    let r := recOffer s (clusterSrc e.level) (e.arg0 % 65536) (bits e.arg0 25 24) (bits e.arg0 23 16) (fieldAt bs 0 4) (fieldAt bs 4 4)
    if r.1 then okX r.2 seq 0 else okX r.2 0 1)

/-- SYNC (R447, R454). -/
def recSync (_ : Entry) (s : State) : State × EntrySt :=
  if !storTakes s then failR s 0x42
  else if s.recd.buf.isEmpty then okR s s.recd.stored
  else (recWriteStart s, .running s.recd.nextSeq)

/-- A 64-bit value drawn from IDK's random source (R460). -/
def drawRandom (s : State) : Nat × State :=
  ((Config.drbg s.idk.draws).toNat, { s with idk := { s.idk with draws := s.idk.draws + 1 } })

/-- CLEAR_NONCE (R452, R460). -/
def recClearNonce (e : Entry) (s : State) : State × EntrySt :=
  if flag s R.IDK_STATUS_RNG_FAIL then failR s 0x06
  else
    let d := drawRandom s
    let s1 := put { d.2 with recd := { d.2.recd with nonce := some d.1 } } R.REC_STATUS_NONCE true
    okR (memWrite s1 e.addr (leBytes 8 d.1)) 8

/-- The outstanding clearing nonce is no more (R452). -/
def recDropNonce (s : State) : State := put { s with recd := { s.recd with nonce := none } } R.REC_STATUS_NONCE false

/-- An operator key of the table with a right (R462). -/
def operKey (s : State) (id right : Nat) : Option OpKey := s.idk.tab.keys.find? (fun k => decide (k.id = id) && bitOf k.rights right)

/-- The cause for which CLEAR refuses a token (R453): the first that applies. -/
def clearCause (s : State) (t : List Byte) : Option Nat :=
  let upto := fieldAt t 4 4
  match s.recd.nonce with
  | none => some 1
  | some n =>
    if fieldAt t 0x10 8 ≠ n then some 2
    else if fieldAt t 0 4 ≠ 0x43434552 ∨ fieldAt t 8 8 ≠ Config.serial.toNat then some 3
    else match operKey s (fieldAt t 0x18 4) 1 with
      | none => some 4
      | some k =>
        if !Config.ecdsaOk k.pub (t.take 0x20) (t.drop 0x20) then some 5
        else if seqBefore s.recd.stored upto || seqBefore upto s.recd.oldest then some 6
        else none

/-- CLEAR (R452, R453). -/
def recClear (e : Entry) (s : State) : State × EntrySt :=
  withBuf e s (fun t =>
    let upto := fieldAt t 4 4
    let oper := fieldAt t 0x1C 4
    match clearCause s t with
    | some c =>
      let s1 := if c = 5 then bump s R.IDK_SIG_FAIL_CNT_COUNT else s
      let s2 := recDropNonce s1
      let s3 := record s2 17 0x0006 1 c upto oper
      failX (errRise s3 R.REC_ERR_CLEAR_REFUSED 0 c) 0x41 c
    | none =>
      if !storTakes s then failR s 0x42
      else
        let keep := s.recd.durable.filter (fun r => !seqBefore r.seq upto)
        let n := s.recd.durable.length - keep.length
        let s1 := recDropNonce { s with recd := { s.recd with durable := keep, oldest := upto } }
        okR (recAlways s1 17 0x0003 1 0 n oper) n)

/-! ### The rows of REC -/

/-- RECORD_ENTRY: a happening enters REC (R443, R446). -/
def execRecordEntry (src code level inst arg0 arg1 : Nat) (s : State) : Host.Outcome State Fault Refusal :=
  .next (record s src code level inst arg0 arg1)

/-- REC_FLUSH_TIMER: FLUSH_S seconds have passed since the oldest waiting record entered (R447). -/
def execRecFlushTimer (s : State) : Host.Outcome State Fault Refusal := .next (recAfter s (recWriteStart s))

/-- REC_WRITE_DONE. -/
def execRecWriteDone (s : State) : Host.Outcome State Fault Refusal := .next (recWriteDone s)

/-- TIME_MARK: 3,600 s of operating time have passed while plant time is acquired (R446). -/
def execTimeMark (s : State) : Host.Outcome State Fault Refusal :=
  .next (if flag s R.PTP_STATUS_ACQ then timeMarkRec s 3 else s)

/-- READ on QP2. -/
def execRead (bad : List Nat) (s : State) : Host.Outcome State Fault Refusal := .next (runEntry s 2 0x40 (recRead bad))

/-- LOG on QP2. -/
def execLog (s : State) : Host.Outcome State Fault Refusal := .next (runEntry s 2 0x41 recLog)

/-- SYNC on QP2. -/
def execSync (s : State) : Host.Outcome State Fault Refusal := .next (runEntry s 2 0x42 recSync)

/-- CLEAR_NONCE on QP2. -/
def execClearNonce (s : State) : Host.Outcome State Fault Refusal := .next (runEntry s 2 0x43 recClearNonce)

/-- CLEAR on QP2. -/
def execClear (s : State) : Host.Outcome State Fault Refusal := .next (runEntry s 2 0x44 recClear)

/-- CLEAR_NONCE_LAPSE: 300 s have passed since CLEAR_NONCE (R452). -/
def execClearNonceLapse (s : State) : Host.Outcome State Fault Refusal := .next (recDropNonce s)

end Sys2Proof.Machine
end

