-- ==== Sys2Proof/Machine/Tile.lean ====
section
/-! DEFINITION. The tiles: registers (R151, R164, R196), states (R132), what a frame does to an addressed tile (R130), the
sample and its checks (R136, R141, R142, R158 to R163), and bleeding (R183 to R191). Tiles are numbered here by their
place on the ring, counted from the low end (R125). -/

namespace Sys2Proof.Machine

open Sys2Proof

/-- A tile by its place on the ring. -/
def tileAt (s : State) (k : Nat) : Tile := s.tiles.getD k { Tile.asleep TileTrim.nominal with present := false }

/-- The state with a tile changed. -/
def tileMod (s : State) (k : Nat) (f : Tile → Tile) : State := { s with tiles := modAt s.tiles k f }

/-- Whether a tile is there and awake, so that it takes part in the chain (R132). -/
def Tile.up (t : Tile) : Bool := t.present && decide (t.st ≠ .sleep)

/-- Whether a tile has a position: NUMBERED, ARMED or TRIPPED (R132). -/
def Tile.numbered (t : Tile) : Bool := t.present && (decide (t.st = .numbered) || decide (t.st = .armed) || decide (t.st = .tripped))

/-- A tile falls asleep: its switch opens, its FETs are off and its registers start anew at the next wake (R132, R151). Its stack stays
as low as it is. -/
def Tile.toSleep (t : Tile) : Tile := { Tile.asleep t.trim with present := t.present, supplyLow := t.supplyLow, held := t.held }

/-- The number of the sample with given low 16 bits that lies nearest to a count of 32 bits (R157). -/
def snumExtend (next rx : Nat) : Nat :=
  let d := (rx + 2 ^ 16 - next % 2 ^ 16) % 2 ^ 16
  if d < 2 ^ 15 then (next + d) % 2 ^ 32 else (next + 2 ^ 32 + d - 2 ^ 16) % 2 ^ 32

/-! ### Registers -/

/-- The cells beside the taps of a mask (R162): tap j lies between cells j − 1 and j. -/
def besideTaps (m : Nat) : Nat := ((m >>> 1) ||| m) % 2 ^ 24

/-- The cells beside a tap under test, if any. -/
def besideTest : Option Nat → Nat
  | some j => besideTaps (1 <<< j)
  | none => 0

/-- The cells whose FETs are held off by an open tap or a tap under test, from before sample n until the conversion of n + 1 (R191). -/
def Tile.heldMask (t : Tile) : Nat := besideTaps t.owMask ||| besideTest t.owDue ||| besideTest t.owRun

/-- The mask of the cells with non-zero timers (R196). -/
def Tile.active (t : Tile) : Nat := maskOf (fun v => decide (v ≠ 0)) t.timers

/-- Whether the tile may bleed at all: ARMED, or TRIPPED after an over-voltage trip (R183), not hot and without REF_BAD. -/
def Tile.mayBleed (t : Tile) : Bool :=
  (decide (t.st = .armed) || (decide (t.st = .tripped) && t.tripOv)) && !t.hot && !t.refBad

/-- The cells whose FETs conduct in the on-part of a frame (R183 to R191). -/
def Tile.bleedMask (t : Tile) : Nat := if t.mayBleed then t.active - (t.active &&& t.heldMask) else 0

/-- The cells whose FETs conduct now outside pauses: the on-part of the share D comes first in each 10 ms frame (R185; DESIGN CHOICE,
log 12). -/
def Tile.conducting (t : Tile) : Nat := if t.frameMs * 65536 < 10 * t.share then t.bleedMask else 0

/-- BAL_STOP: bleeding held off under R186, R187 or R191, or by an under-voltage trip (R197). -/
def Tile.balStop (t : Tile) : Bool := t.silence || t.hot || t.refBad || t.uvStop || decide (t.heldMask ≠ 0)

/-- STATE's code (R151). -/
def tileStCode : TileSt → Nat
  | .sleep => 0 | .awake => 1 | .numbered => 2 | .armed => 3 | .tripped => 4

/-- A tile register's value (R151, R164, R196); unmapped addresses read 0. -/
def tileReg (t : Tile) (a : Nat) : Nat :=
  match a with
  | 0x00 => t.pos + (t.trim.hwRev % 256) <<< 8
  | 0x01 => tileStCode t.st + b2n t.fog <<< 3 + b2n t.locked <<< 4 + b2n t.lockX3 <<< 5 + b2n t.loopX2 <<< 6 + b2n t.loopX3 <<< 7
      + b2n t.syncX2 <<< 8 + b2n t.syncX3 <<< 9 + (t.tripCell % 32) <<< 10 + b2n t.tripOv <<< 15
  | 0x02 => t.codeX2 % 65536 | 0x03 => t.codeX3 % 65536 | 0x04 => t.hcrcErr % 65536 | 0x05 => t.snumNew
  | 0x06 => t.diode | 0x07 => t.dlyM | 0x08 => t.dlyX2 | 0x09 => t.dlyX3 | 0x0A => t.dAlign
  | 0x0B => t.trim.sig % 65536 | 0x0C => t.trim.sig / 65536 % 65536
  | 0x10 => t.ovThr | 0x11 => t.uvThr | 0x12 => t.filt
  | 0x20 => b2n t.comp + b2n t.tapValid <<< 1 + b2n t.cal <<< 2 + t.bto <<< 8
  | 0x21 => b2n t.silence + b2n t.derated <<< 1 + b2n t.hot <<< 2 + b2n (decide (t.credit = 0)) <<< 3
      + b2n (decide (t.heldMask ≠ 0) || t.refBad) <<< 4 + t.pReq <<< 8
  | 0x22 => t.active % 65536 | 0x23 => t.active / 65536
  | 0x24 => t.cond % 65536 | 0x25 => t.cond / 65536
  | 0x26 => t.tmrPtr | 0x27 => t.timers.getD (if t.tmrPtr < 24 then t.tmrPtr else 0) 0
  | 0x28 => t.rtapPtr | 0x29 => t.rtap.getD (if t.rtapPtr < 25 then t.rtapPtr else 0) 0
  | 0x2A => t.tcal | 0x2B => (roundDiv t.credit 10000000).toNat | 0x2C => t.rejCnt % 65536
  | 0x40 => b2n t.owEn + t.owInt <<< 8
  | 0x41 => t.owTap + b2n t.owOpen <<< 8
  | 0x42 => t.owMask % 65536 | 0x43 => t.owMask / 65536
  | 0x44 => t.refCh + b2n t.refFail <<< 8 + b2n t.refBad <<< 9
  | 0x45 => t.refMask % 65536 | 0x46 => t.refMask / 65536 | 0x47 => t.refDev
  | 0x48 => t.cmpIdx + b2n t.cmpFail <<< 8
  | 0x49 => t.cmpMask % 65536 | 0x4A => t.cmpMask / 65536
  | 0x4B => t.stack | 0x4C => t.convCnt % 65536
  | _ => 0

/-- A write to TMR_DATA (R184, R187, R189): a 13th non-zero timer, or a non-zero one under COMPENSATE without TAP_VALID, is
ignored and counted; the pointer advances either way, and the silence and under-voltage stops end. -/
def tileTimerWr (t : Tile) (v : Nat) : Tile :=
  let p := if t.tmrPtr < 24 then t.tmrPtr else 0
  let others := ((t.timers.zipIdx).filter (fun xi => decide (xi.1 ≠ 0) && decide (xi.2 ≠ p))).length
  let bad := decide (v ≠ 0) && (decide (12 ≤ others) || (t.comp && !t.tapValid))
  let t1 := { t with tmrPtr := if p + 1 < 24 then p + 1 else 0, silence := false, uvStop := false }
  if bad then { t1 with rejCnt := t1.rejCnt + 1 }
  else { t1 with timers := t1.timers.set p (v % 65536), msOn := t1.msOn.set p 0 }

/-- A write of one register by TREG_WR: those that BAL and MEAS own (R130, R164, R196); any other is left alone. -/
def tileRegWr (t : Tile) (av : Nat × Nat) : Tile :=
  let v := av.2 % 65536
  match av.1 with
  | 0x20 => { t with comp := bitOf v 0, tapValid := bitOf v 1, cal := bitOf v 2, bto := clampNat 20 150 (v / 256) }
  | 0x26 => { t with tmrPtr := v % 32 }
  | 0x27 => tileTimerWr t v
  | 0x28 => { t with rtapPtr := v % 32 }
  | 0x29 =>
    let p := if t.rtapPtr < 25 then t.rtapPtr else 0
    let t1 := { t with rtapPtr := if p + 1 < 25 then p + 1 else 0 }
    if 30000 < v then t1 else { t1 with rtap := t1.rtap.set p v }
  | 0x2A => { t with tcal := v }
  | 0x40 => { t with owEn := bitOf v 0, owInt := v / 256 }
  | _ => t

/-! ### The sample (R136, R158, R188, R189) -/

/-- A tap's resistance at the diode reading, in 10 µΩ: scaled by 1 + 0.00393 × (T − T_CAL) (R189). Without a diode reading the
scale is 1 (DEDUCED, log 12). -/
def tapScaled (t : Tile) (diode k : Nat) : Rat :=
  let r : Rat := (t.rtap.getD k 0 : Nat)
  if diode = 0x8000 then r
  else r * (10000000 + 393 * (sInt 16 diode - sInt 16 t.tcal)) / 10000000

/-- I_j × 10 µΩ in 10 µV, for the cells of a mask: M_j ÷ R_BLEED_j (R189). -/
def bleedAmp (t : Tile) (m : List Nat) (mask : Nat) (j : Int) : Rat :=
  if j < 0 ∨ 24 ≤ j ∨ !bitOf mask j.toNat then 0
  else ((m.getD j.toNat 0 : Nat) : Rat) / (100 * (max 1 (t.trim.rBleed.getD j.toNat 16800) : Nat))

/-- Rounding to the nearest integer, ties away from zero (R14). -/
def roundRat (q : Rat) : Int := roundDiv q.num q.den

/-- The correction of a cell in 10 µV, for tap resistances in 10 µΩ (R189). -/
def correction (t : Tile) (tap : Nat → Rat) (m : List Nat) (mask j : Nat) : Rat :=
  let i (x : Int) : Rat := bleedAmp t m mask x
  tap (j + 1) * (i j - i (j + 1)) - tap j * (i ((j : Int) - 1) - i j)

/-- The corrected code of a cell: R189's correction scaled by a share of 0.000001 (R188), rounded once and saturated. -/
def corrected (t : Tile) (m : List Nat) (mask diode millionth : Nat) (j : Nat) : Nat :=
  let c := correction t (tapScaled t diode) m mask j
  (clampInt 0 524287 (roundRat (((m.getD j 0 : Nat) : Rat) + c * millionth / 1000000))).toNat

/-- The offset of a comparator's comparison in 10 µV (R191): the cell's correction from the latest conversion and the present FET states;
without TAP_VALID with 150 mΩ for every tap on the over-voltage side and 0 on the other. -/
def cmpOffset (t : Tile) (cell : Nat) (ov : Bool) : Rat :=
  let tap (k : Nat) : Rat := if t.tapValid then tapScaled t t.diode k else if ov then 15000 else 0
  correction t tap t.owPrev (if t.paused then 0 else t.conducting) cell

/-- Whether a cell's filtered tap voltage in 10 µV lies beyond its comparator's threshold (R132, R191). -/
def cmpCrosses (t : Tile) (cell : Nat) (ov : Bool) (v : Int) : Bool :=
  let x : Rat := (v : Rat) + cmpOffset t cell ov
  if ov then decide (((10 * t.ovThr : Nat) : Rat) < x) else decide (x < ((10 * t.uvThr : Nat) : Rat))

/-- What a converter makes of an input in 10 µV: the code, and OVR (R158). -/
def convert (v : Int) : Nat × Bool :=
  if v < 0 then (0, true) else if 524287 < v then (524287, true) else (v.toNat, false)

/-- The reference check of a sample (R161) on a channel: the tile after it, and whether the channel enters FAULT. REF_BAD clears only
when the latest two checks of every channel have passed. -/
def refCheck (t : Tile) (ch : Nat) (dev : Int) : Tile × Bool :=
  let fail := decide (150 < dev.natAbs)
  let enter := fail && bitOf t.refLast ch && !bitOf t.refMask ch
  let mask := if fail then (if bitOf t.refLast ch then setBit t.refMask ch true else t.refMask)
    else if bitOf t.refPass ch then setBit t.refMask ch false else t.refMask
  let two := setBit t.refTwo ch (!fail && bitOf t.refPass ch)
  let bad := if 3 ≤ popCount 24 mask then true else if two % 2 ^ 24 = 2 ^ 24 - 1 then false else t.refBad
  ({ t with refCh := ch, refFail := fail, refMask := mask, refBad := bad, refDev := sCode 16 (satS 16 (-32768) dev),
            refLast := setBit t.refLast ch fail, refPass := setBit t.refPass ch (!fail), refTwo := two }, enter)

/-- D of an open-wire test, against its threshold (R162). -/
def owOpenAt (prev now : List Nat) (j : Nat) : Bool :=
  let dv (i : Nat) : Int := (now.getD i 0 : Int) - (prev.getD i 0 : Int)
  if j = 0 then decide (30000 < (dv 0).natAbs)
  else if j = 24 then decide (30000 < (dv 23).natAbs)
  else decide (60000 < (dv (j - 1) - dv j).natAbs)

/-- The open-wire test evaluated on the sample after it (R162): the tile after it, and whether the tap is newly confirmed. -/
def owEval (t : Tile) (now : List Nat) : Tile × Bool :=
  match t.owRun with
  | none => (t, false)
  | some j =>
    let op := owOpenAt t.owPrev now j
    let conf := op && bitOf t.owLast j && !bitOf t.owMask j
    let mask := if op then (if bitOf t.owLast j then setBit t.owMask j true else t.owMask)
      else if bitOf t.owPass j then setBit t.owMask j false else t.owMask
    ({ t with owRun := none, owTap := j, owOpen := op, owMask := mask, owLast := setBit t.owLast j op,
              owPass := setBit t.owPass j (!op) }, conf)

/-- What the strobe answers beside the tile: a channel that entered FAULT and a tap newly confirmed open. -/
structure Fired where
  tile : Tile
  ref : Option Nat
  tap : Option Nat

/-- What an open-wire test leaves at the end of a sample: the test current off after an evaluation, and on at the tap whose turn it is
(R162). -/
def owTurn (t : Tile) (was : Option Nat) (snum : Nat) : Tile :=
  { t with owRun := t.owDue, owDue := none, owSnum := if was.isSome then some snum else t.owSnum }

/-- How long after the strobe's arrival a tile fires, in ns (R136). -/
def Tile.fireDelay (t : Tile) (fromX3 : Bool) : Int := (t.dAlign : Int) - (if fromX3 then t.dlyX3 else t.dlyX2)

/-- A tile fires (R136, R141, R142): it converts, checks, corrects and holds the sample. `next` is MEAS's count, by which the sample's
number gives the channel of the reference check (R161). The value of a cell with OVR, DIST or FAULT stays as converted (R159). -/
def tileFire (t : Tile) (next : Nat) (si : StrobeIn) : Fired :=
  let armed := t.arm.isSome
  let snum := match t.arm with
    | some a => a.1 % 65536
    | none => (t.snumNew + 1) % 65536
  let sideOk := match t.arm with
    | some a => decide (a.2.2 = si.fromX3)
    | none => false
  let owTap := t.owRun
  let raw := (List.range 24).map (fun j => convert (si.volts.getD j 0))
  let m := raw.map Prod.fst
  let could := t.conducting
  let cond := if t.paused && sideOk then 0 else could
  let share := if t.comp then 1000000 else if t.paused && sideOk then t.trim.residue else 1000000
  let comp := t.tapValid && !t.cal && decide (could ≠ 0)
  let r := refCheck { t with diode := si.diode % 65536 } (snumExtend next snum % 24) si.refDev
  let o := owEval r.1 m
  let t1 := o.1
  let dist := besideTest owTap
  let fault := if t1.refBad then 2 ^ 24 - 1 else t1.refMask ||| besideTaps t1.owMask
  let fields := (List.range 24).map (fun j =>
    let ovr := (raw.getD j (0, false)).2
    let v := if comp && !ovr && !bitOf (dist ||| fault) j then corrected t m could si.diode share j else m.getD j 0
    v + b2n ovr <<< 21 + b2n (bitOf dist j) <<< 22 + b2n (bitOf fault j) <<< 23)
  let tstat := b2n (!armed) <<< 1 + b2n (!t1.locked) <<< 2 + b2n (decide (t1.st = .tripped)) <<< 4 + b2n t1.supplyLow <<< 5
    + b2n (t1.loopX2 || t1.loopX3) <<< 6 + 1 <<< 7 + b2n t1.refBad <<< 8 + b2n owTap.isSome <<< 9 + b2n t1.cmpBad <<< 10
    + b2n (decide (cond ≠ 0)) <<< 11 + b2n comp <<< 12 + b2n t1.derated <<< 13 + b2n t1.balStop <<< 14
  let t2 := { t1 with arm := none, cond := cond, convCnt := t1.convCnt + 1, snumNew := snum, stack := satU 16 si.stack,
                      owPrev := m,
                      hold := ({ snum := snum, cells := fields, diode := si.diode % 65536, tstat := tstat,
                                 fired := (si.arriveNs : Int) + t.fireDelay si.fromX3 } :: t1.hold).take 4 }
  { tile := owTurn t2 owTap snum, ref := if r.2 then some t1.refCh else none, tap := if o.2 then owTap else none }

/-- A strobe reaches a tile (R136): ignored within 5 µs of the last fire and by a tile with no position. -/
def tileStrobe (s : State) (k : Nat) (si : StrobeIn) : State :=
  let t := tileAt s k
  if !t.numbered || si.within5us then s
  else
    let f := tileFire t s.meas.next si
    let s1 := tileMod s k (fun _ => f.tile)
    let s2 := match f.ref with
      | some c => errRise s1 R.MEAS_ERR_REF_FAIL t.pos (24 * t.pos + c)
      | none => s1
    match f.tap with
    | some j =>
      let s3 := errRise s2 R.MEAS_ERR_OW_OPEN t.pos j
      if besideTaps (1 <<< j) &&& t.active ≠ 0 then errRise s3 R.BAL_ERR_OPEN_TAP t.pos j else s3
    | none => s2

/-- A tile with OW_EN takes the string's tap for its next test; the FETs beside it are off from now on (R162, R191). -/
def owStart (tap : Nat) (t : Tile) : Tile := if t.numbered && t.owEn then { t with owDue := some tap } else t

/-! ### The slot (R141, R142) -/

/-- SCRC of a position over 78 bytes (R141). -/
def slotCrc (pos : Nat) (bs : List Byte) : Nat := crcOf 16 0x1021 (0xFF00 + pos) false false 0 bs

/-- The hold entry that a tile reads out for a sample number, sinceNs after its instant: none before 6 µs have passed (R142). -/
def holdFor (t : Tile) (snum sinceNs : Nat) : Option HoldEnt :=
  if sinceNs < 6000 then none else t.hold.find? (fun h => decide (h.snum = snum))

/-- The 80 bytes with which a tile fills its slot for a sample number, sinceNs after its instant (R141, R142). -/
def slotBytes (t : Tile) (snum sinceNs : Nat) (hold : Bool) : List Byte :=
  let from3 := b2n hold <<< 3 + 1 <<< 15
  let body := match holdFor t snum sinceNs with
    | some h => (h.cells.map (leBytes 3)).flatten ++ leBytes 2 h.diode ++ leBytes 2 (h.tstat + from3) ++ leBytes 2 h.snum
    | none => zeros 72 ++ leBytes 2 0x8000 ++ leBytes 2 (1 + from3) ++ leBytes 2 snum
  body ++ leBytes 2 (slotCrc t.pos body)

/-- Whether a slot is good: FILLED, and SCRC checks for the position (R141). -/
def slotGood (pos : Nat) (bs : List Byte) : Bool :=
  bitOf (fieldAt bs 74 2) 15 && decide (fieldAt bs 78 2 = slotCrc pos (bs.take 78))

/-- Whether a slot was filled at all. -/
def slotFilled (bs : List Byte) : Bool := bitOf (fieldAt bs 74 2) 15

/-! ### Commands to one tile (R130) -/

/-- A command that SP alone may give, or whose payload check fails, is ignored and counted (R130). -/
def refuseFrame (t : Tile) : Tile := { t with hcrcErr := t.hcrcErr + 1 }

/-- Code errors at a receiver of a tile (R128, R148). -/
def Tile.codeErr (t : Tile) (x3 : Bool) (n : Nat) : Tile := if x3 then { t with codeX3 := t.codeX3 + n } else { t with codeX2 := t.codeX2 + n }

/-- What a tile does with a frame whose action is `act` (R129, R130): it acts on none of a frame whose header fails, and ignores a command
whose payload fails. -/
def Tile.take (t : Tile) (chk : FrameChk) (payload : Bool) (act : Tile → Tile) : Tile :=
  match chk with
  | .ok => act t
  | .header x3 n => refuseFrame (t.codeErr x3 n)
  | .payload x3 n => if payload then refuseFrame (t.codeErr x3 n) else act (t.codeErr x3 n)

/-- A frame whose header failed its check shows in CHAIN.ERR (R148). -/
def hdrErr (s : State) (k : Nat) (chk : FrameChk) : State :=
  match chk with
  | .header _ _ => errRise s R.CHAIN_ERR_HCRC (tileAt s k).pos 0
  | _ => s

/-- A frame reaches a tile that is awake. -/
def tileFrame (s : State) (k : Nat) (chk : FrameChk) (payload : Bool) (act : Tile → Tile) : State :=
  if (tileAt s k).up then hdrErr (tileMod s k (fun t => t.take chk payload act)) k chk else s

/-- ARM_SAFE (R130, R132): from NUMBERED with the thresholds loaded. -/
def tileArmSafe (t : Tile) : Tile :=
  if t.st = .numbered ∧ t.thrLoaded then { t with st := .armed, fog := !t.supplyLow, cmpBad := false } else t

/-- REARM (R130): from TRIPPED. -/
def tileRearm (t : Tile) : Tile :=
  if t.st = .tripped then { t with st := .armed, fog := !t.supplyLow, cmpBad := false, tripCell := 0, tripOv := false } else t

/-- SAFE_WR (R130, R151). -/
def tileSafeWr (ov uv filt : Nat) (t : Tile) : Tile :=
  { t with ovThr := ov % 65536, uvThr := uv % 65536, filt := clampNat 10 100 filt, thrLoaded := true }

/-- A comparator trip (R132, R183): only an ARMED tile trips; an under-voltage trip clears every timer. -/
def tileTrip (t : Tile) (cell : Nat) (ov : Bool) : Tile :=
  if t.st ≠ .armed then t
  else
    let t1 := { t with st := .tripped, fog := false, tripCell := cell, tripOv := ov }
    if ov then t1 else { t1 with timers := List.replicate 24 0, msOn := List.replicate 24 0, uvStop := true }

/-- Whether a comparator's time to trip passes (R163): at least 0.9 × FILT and no later than FILT + 10 µs. -/
def cmpPass (filt : Nat) (us : Option Nat) : Bool :=
  match us with
  | some t => decide (9 * filt ≤ 10 * t) && decide (t ≤ filt + 10)
  | none => false

/-- A comparator self-test (R163): the next comparator in turn, and the stand-in where it is tested with it. The comparators are tested by
rising numbers, the first after a wake being number 1 (DESIGN CHOICE, log 34: the spec names no order). -/
def tileCmpTest (t : Tile) (us stand : Option Nat) : Tile × Bool :=
  let i := (t.cmpIdx + 1) % 48
  let ok := cmpPass t.filt us
  let okS := match stand with
    | some _ => cmpPass t.filt stand
    | none => true
  let t1 := { t with cmpIdx := i, cmpFail := !ok, cmpMask := if ok then t.cmpMask else setBit t.cmpMask (i / 2) true,
                     cmpBad := t.cmpBad || !ok || !okS }
  (t1, !ok || !okS)

/-! ### Bleeding (R184 to R187) -/

/-- A cell's requested power in µW: V² ÷ R_BLEED, with V from the latest conversion (R185). -/
def cellPower (t : Tile) (j : Nat) : Nat :=
  let v := match t.hold.head? with
    | some h => h.cells.getD j 0 % 2 ^ 20
    | none => 0
  v * v / (10 * max 1 (t.trim.rBleed.getD j 16800))

/-- The requested power of the cells of a mask, µW. -/
def maskPower (t : Tile) (mask : Nat) : Nat :=
  ((List.range 24).filter (fun j => bitOf mask j)).foldl (fun p j => p + cellPower t j) 0

/-- R186: whether bleeding is stopped by the diode. -/
def tileHot (t : Tile) : Bool :=
  let d := sInt 16 t.diode
  if t.diode = 0x8000 ∨ 11500 ≤ d then true else if t.hot then decide (10500 ≤ d) else false

/-- One second less for every cell whose on-time has come to one (R184). -/
def timersTick (timers on : List Nat) (mask share : Nat) : List Nat × List Nat :=
  let z := (timers.zip on).zipIdx.map (fun x =>
    let tv := x.1.1
    let acc := if bitOf mask x.2 then x.1.2 + share else x.1.2
    if tv ≠ 0 ∧ 65536000 ≤ acc then (tv - 1, acc - 65536000) else (tv, acc))
  (z.map Prod.fst, z.map Prod.snd)

/-- One millisecond of a tile's bleeding (R184 to R186): the share D, the credit from the mean power delivered, and the on-time without
the pauses. -/
def tilePower (t : Tile) : Tile :=
  let hot := tileHot t
  let t0 := { t with hot := hot }
  let d := sInt 16 t.diode
  let req := maskPower t0 t0.active
  let base := if t0.credit = 0 then 8000000 else 12600000
  let allow := if hot then 0 else if d ≤ 10000 then base else base * (11500 - d).toNat / 1500
  let share := if allow < req then allow * 65536 / req else 65536
  let t1 := { t0 with share := share, frameMs := (t0.frameMs + 1) % 10, derated := decide (allow < req) || (decide (10000 < d) && decide (d < 11500)),
                      pReq := min 255 ((roundDiv req 100000).toNat) }
  let can := maskPower t1 t1.bleedMask
  let act := if allow < req then can * allow / req else can
  let credit := if 8000000 < act then t1.credit - (act - 8000000) else min 552000000000 (t1.credit + (8000000 - act))
  let tt := timersTick t1.timers t1.msOn t1.bleedMask (share * (1000 - t1.pauseUs) / 1000)
  { t1 with credit := credit, timers := tt.1, msOn := tt.2, pauseUs := 0 }

/-- Every FET off, every timer cleared (R187). -/
def tileSilent (t : Tile) : Tile :=
  { t with timers := List.replicate 24 0, msOn := List.replicate 24 0, silence := true }

/-! ### The rows of the tiles -/

/-- ARM: the tile records SNUM as the number of its next sample, with LEAD and the side, and when its FETs go off (R130, R188). -/
def execArm (k snum lead : Nat) (fromX3 : Bool) (chk : FrameChk) (s : State) : Host.Outcome State Fault Refusal :=
  .next (tileFrame s k chk false (fun t =>
    { t with arm := some (snum % 65536, lead % 65536, fromX3), offNs := 10 * (lead % 65536 : Nat) + t.fireDelay fromX3 - 40000 }))

/-- STROBE. -/
def execStrobe (k : Nat) (si : StrobeIn) (s : State) : Host.Outcome State Fault Refusal := .next (tileStrobe s k si)

/-- DLY_MARK: the tile latches the interval between the two arrivals (R137). -/
def execDlyMark (k m : Nat) (chk : FrameChk) (s : State) : Host.Outcome State Fault Refusal :=
  .next (tileFrame s k chk false (fun t => { t with dlyM := satU 16 m }))

/-- DLY_SET (R130). -/
def execDlySet (k x2 x3 align : Nat) (chk : FrameChk) (s : State) : Host.Outcome State Fault Refusal :=
  .next (tileFrame s k chk true (fun t => { t with dlyX2 := x2 % 65536, dlyX3 := x3 % 65536, dAlign := align % 65536 }))

/-- SAFE_WR (R130). -/
def execSafeWr (k ov uv filt : Nat) (srcSp : Bool) (chk : FrameChk) (s : State) : Host.Outcome State Fault Refusal :=
  .next (tileFrame s k chk true (fun t => if srcSp then tileSafeWr ov uv filt t else refuseFrame t))

/-- SAFE_RD: SP reads the thresholds and the filter back (R22, R130); a frame that fails brings nothing back. -/
def execSafeRd (k : Nat) (chk : FrameChk) (s : State) : Host.Outcome State Fault Refusal :=
  let t := tileAt s k
  let s1 := tileFrame s k chk true (fun t => t)
  .next (if t.up && decide (chk = .ok) then
      { s1 with chain := { s1.chain with readBack := s1.chain.readBack.set k (some (t.ovThr, t.uvThr, t.filt)) } }
    else s1)

/-- REARM (R130). -/
def execRearm (k : Nat) (srcSp : Bool) (chk : FrameChk) (s : State) : Host.Outcome State Fault Refusal :=
  .next (tileFrame s k chk false (fun t => if srcSp then tileRearm t else refuseFrame t))

/-- ARM_SAFE (R130). -/
def execArmSafe (k : Nat) (srcSp : Bool) (chk : FrameChk) (s : State) : Host.Outcome State Fault Refusal :=
  .next (tileFrame s k chk false (fun t => if srcSp then tileArmSafe t else refuseFrame t))

/-- SLEEP (R130, R132). -/
def execSleep (k : Nat) (chk : FrameChk) (s : State) : Host.Outcome State Fault Refusal :=
  .next (tileFrame s k chk false Tile.toSleep)

/-- TILE_SILENCE_TIMEOUT: 2.0 s without a valid frame (R132). -/
def execTileSilenceTimeout (k : Nat) (s : State) : Host.Outcome State Fault Refusal :=
  .next (tileMod s k (fun t => if t.up then t.toSleep else t))

/-- TILE_CLOCK_LOCK: the tile locks, or fails to lock, to the facing receiver's symbol clock (R140); a receiver out of sync gives none. -/
def execTileClockLock (k : Nat) (onX3 ok : Bool) (s : State) : Host.Outcome State Fault Refusal :=
  .next (tileMod s k (fun t => if t.up then { t with locked := ok && (if onX3 then t.syncX3 else t.syncX2), lockX3 := onX3 } else t))

/-- STACK_LOW: the stack falls below 36 V (R132). -/
def execStackLow (k : Nat) (s : State) : Host.Outcome State Fault Refusal :=
  .next (tileMod s k (fun t => if t.present then { t with supplyLow := true, fog := false } else t))

/-- STACK_RESTORED: the stack has stayed above 37 V for 10 ms (R132). -/
def execStackRestored (k : Nat) (s : State) : Host.Outcome State Fault Refusal :=
  .next (tileMod s k (fun t => if t.present then { t with supplyLow := false, held := false, fog := decide (t.st = .armed) } else t))

/-- TILE_STACK_RESET: a stack below 30 V holds the tile in reset, which is SLEEP (R132). -/
def execTileStackReset (k : Nat) (s : State) : Host.Outcome State Fault Refusal :=
  .next (tileMod s k (fun t => if t.present then { t.toSleep with supplyLow := true, held := true } else t))

/-- COMPARATOR_TRIP (R132, R183, R191): an ARMED tile trips where the cell's filtered tap voltage with the comparator's offset lies beyond
the threshold. -/
def execComparatorTrip (k cell : Nat) (ov : Bool) (v : Int) (s : State) : Host.Outcome State Fault Refusal :=
  let t := tileAt s k
  if !t.present || decide (t.st ≠ .armed) || !cmpCrosses t (cell % 24) ov v then .next s
  else
    let s1 := tileMod s k (fun t => tileTrip t (cell % 24) ov)
    .next (if ov then s1 else errRise s1 R.BAL_ERR_UV_TRIP t.pos (24 * t.pos + cell % 24))

/-- COMPARATOR_SELF_TEST (R163). -/
def execComparatorSelfTest (k : Nat) (tripUs standInUs : Option Nat) (s : State) : Host.Outcome State Fault Refusal :=
  let t := tileAt s k
  if !t.up then .next s
  else
    let r := tileCmpTest t tripUs standInUs
    let s1 := tileMod s k (fun _ => r.1)
    .next (if r.2 then errRise s1 R.MEAS_ERR_CMP_FAIL t.pos (24 * t.pos + r.1.cmpIdx / 2) else s1)

/-- OPEN_WIRE_TEST: OW_INT_MS has passed and the test of the string's next tap begins; it is the same tap for every tile (R162). -/
def execOpenWireTest (s : State) : Host.Outcome State Fault Refusal :=
  .next (if s.tiles.any (fun t => t.numbered && t.owEn) then
      { s with tiles := s.tiles.map (owStart s.meas.owNext), meas := { s.meas with owNext := (s.meas.owNext + 1) % 25 } }
    else s)

/-- BLEED_TIMER_EXPIRY: a cell's timer has reached 0 and its FET is off (R184); what it counted towards a further second is dropped. -/
def execBleedTimerExpiry (k cell : Nat) (s : State) : Host.Outcome State Fault Refusal :=
  .next (tileMod s k (fun t => if t.timers.getD cell 0 = 0 then { t with msOn := t.msOn.set cell 0 } else t))

/-- BLEED_POWER_TICK (R185, R186). -/
def execBleedPowerTick (k : Nat) (s : State) : Host.Outcome State Fault Refusal :=
  let t := tileAt s k
  if !t.up then .next s
  else
    let s1 := tileMod s k tilePower
    .next (if tileHot t && !t.hot && decide (t.active ≠ 0) then errRise s1 R.BAL_ERR_HOT t.pos 0 else s1)

/-- BLEED_SILENCE: no valid frame for BTO (R187). -/
def execBleedSilence (k : Nat) (s : State) : Host.Outcome State Fault Refusal :=
  let t := tileAt s k
  if !t.up then .next s else .next (errRise (tileMod s k tileSilent) R.BAL_ERR_SILENCE t.pos 0)

/-- PAUSE_FETS_OFF: the FETs go off at the time that ARM set, 40 µs before the fire instant, under PAUSE (R188). -/
def execPauseFetsOff (k : Nat) (s : State) : Host.Outcome State Fault Refusal :=
  .next (tileMod s k (fun t => if t.up && !t.comp && t.arm.isSome then { t with paused := true } else t))

/-- PAUSE_FETS_ON: 10 µs after the fire instant; the 50 µs of the pause count as no on-time (R184, R188). -/
def execPauseFetsOn (k : Nat) (s : State) : Host.Outcome State Fault Refusal :=
  .next (tileMod s k (fun t => if t.paused then { t with paused := false, pauseUs := t.pauseUs + 50 } else t))

end Sys2Proof.Machine
end

