-- ==== Sys2Proof/Machine/Chain.lean ====
section
/-! DEFINITION. CHAIN: the ring and its breaks (R125, R143 to R147), enumeration (R134, R135), delays (R137), reading a
sweep (R141, R144), reports and queue (R145, R152). -/

namespace Sys2Proof.Machine

open Sys2Proof

/-! ### The ring -/

/-- How many tiles stand on the ring. -/
def ringN (s : State) : Nat := (s.tiles.filter (fun t => t.present)).length

/-- Whether a hop passes frames. -/
def hopOk (s : State) (h : Nat) : Bool := decide (h ∉ s.chain.cuts)

/-- Whether the far-end unit commands the chain: this unit, or its partner while this one does not (R125). -/
def farCommands (s : State) : Bool := setPair s && (setFarEnd s == commands s)

/-- Whether the way from the commanding unit's port to T00 is whole: the far-end unit's port B lies behind H(nn + 1) (R125). -/
def lowDoor (s : State) : Bool := !farCommands s || hopOk s (ringN s + 1)

/-- Whether the way from the commanding unit's port to the last tile is whole: the low-end unit's port B in a pair lies behind
H(nn + 1) (R125). -/
def highDoor (s : State) : Bool := !setPair s || farCommands s || hopOk s (ringN s + 1)

/-- Whether frames from the low end reach a tile: every tile and hop up to it passes them. -/
def lowReach (s : State) (k : Nat) : Bool := lowDoor s && (List.range (k + 1)).all (fun j => (tileAt s j).up && hopOk s j)

/-- Whether frames from the high end reach a tile. -/
def highReach (s : State) (k : Nat) : Bool :=
  let n := ringN s
  decide (k < n) && highDoor s && (List.range (n - k)).all (fun i => (tileAt s (k + i)).up && hopOk s (k + i + 1))

/-- Whether a port's frames travel UP: port A of the low-end unit, port B of the far-end unit (R125). -/
def goesUp (s : State) (portB : Bool) : Bool := portB == setFarEnd s

/-- Whether a port's frames reach a tile. -/
def portReach (s : State) (portB : Bool) (k : Nat) : Bool := if goesUp s portB then lowReach s k else highReach s k

/-- Whether either port reaches a tile. -/
def reached (s : State) (k : Nat) : Bool := lowReach s k || highReach s k

/-- Whether the ring passes frames all the way round. -/
def ringWhole (s : State) : Bool :=
  (List.range (ringN s + 1 + b2n (setPair s))).all (hopOk s) && (List.range (ringN s)).all (fun k => (tileAt s k).up)

/-- The place of the tile with a position that some port reaches. -/
def tileByPos (s : State) (p : Nat) : Option Nat :=
  (List.range 24).find? (fun k => (tileAt s k).numbered && decide ((tileAt s k).pos = p) && reached s k)

/-- The mask of the positions taken by reached tiles. -/
def posMask (s : State) : Nat := maskOf (fun p => (tileByPos s p).isSome) (List.range 24)

/-! ### What a unit passes on and launches (R127, R129, R131) -/

/-- Whether the unit's bypass switches join J2 to J3: unpowered, in reset, in the flush phase or in WATCH, or with CHAIN not started
(R127). A unit that neither commands nor is in bypass passes every symbol on. -/
def inBypass (s : State) : Bool := !commands s && (!blocksUp s || !flag s R.CHAIN_STATUS_RUN)

/-- Whether the partner's Beacons come (R149, R355). -/
def peerHeard (s : State) : Bool := flag s R.RED_STATUS_PEER_J5 || flag s R.RED_STATUS_PEER_RING

/-- The 12-byte header of a frame (R129). -/
def frameHdr (ty : Nat) (down : Bool) (addr count snum arg : Nat) : List Byte :=
  let b := leBytes 1 ty ++ leBytes 1 (b2n down) ++ leBytes 1 addr ++ leBytes 1 count ++ leBytes 2 snum ++ leBytes 2 arg
  b ++ leBytes 4 (crc32c b)

/-- A frame to every tile leaves a port of the unit that commands. -/
def launch (s : State) (portB : Bool) (ty count snum arg : Nat) (payload : List Byte) : State :=
  emit s .chainFrame [b2n portB] (frameHdr ty (!goesUp s portB) 31 count (snum % 65536) arg ++ payload)

/-- A word with its CRC-32C, as a payload carries it (R129). -/
def wordPayload (w : Nat) : List Byte := leBytes 4 w ++ leBytes 4 (crc32c (leBytes 4 w))

/-- A read frame leaves a port for the tiles of a mask: the slots leave as zeros (R129, R141), and its slots are awaited. -/
def launchRead (s : State) (portB : Bool) (ty snum mask : Nat) : State :=
  let n := popCount 24 mask
  let s1 := launch s portB ty n snum 0 (wordPayload mask ++ zeros (80 * n))
  if portB then { s1 with chain := { s1.chain with readB := mask } } else { s1 with chain := { s1.chain with readA := mask } }

/-- PROBE leaves both ports of the unit that commands (R144, R146). -/
def launchProbe (s : State) : State :=
  let s1 := { s with chain := { s.chain with probeA := 0, probeB := 0 } }
  if !commands s1 then s1 else launch (launch s1 false 9 1 0 0 (wordPayload 0)) true 9 1 0 0 (wordPayload 0)

/-- LEAD under PAUSE, in units of 10 ns: at least 45 µs (R157, R188). -/
def armArg (s : State) : Nat := if cfgU s 14 1 0 1 = 1 then 0 else min 65535 (max 4500 Config.armLead)

/-- The positions of the tiles that a port serves: with both ports reaching a tile, port A's (R146). -/
def sideMask (s : State) (portB : Bool) : Nat :=
  maskOf (fun p => match tileByPos s p with
    | some k => portReach s portB k && (!portB || !portReach s false k)
    | none => false) (List.range 24)

/-- ARM, the strobe and SWEEP_RD leave a port (R136, R142): the strobe at the instant less D_ALIGN; target 11 of R503 delays the read. -/
def launchSample (s : State) (portB : Bool) (snum mask : Nat) : State :=
  let s1 := launch s portB 1 0 snum (armArg s) []
  launchRead (pepperWait (emit s1 .strobe [b2n portB, ptNow s1 - rd s1 R.CHAIN_ALIGN_D_ALIGN_NS] []) 11 0) portB 2 snum mask

/-- A sample's frames and strobes (R131, R136, R146): on a closed ring from port A for every tile of the set, on an open one from both
ports for the tiles of each side. A unit that does not command passes the partner's frames on and keeps a copy (R127). -/
def instLaunch (s : State) (snum : Nat) : State :=
  if commands s then
    (if flag s R.CHAIN_STATUS_RING_CLOSED then
      let s1 := launchSample s false snum (2 ^ min 24 (setNn s) - 1)
      { s1 with chain := { s1.chain with readB := 0 } }
    else launchSample (launchSample s false snum (sideMask s false)) true snum (sideMask s true))
  else
    let fr := frameHdr 1 (farCommands s) 31 0 (snum % 65536) (armArg s)
    emit { s with chain := { s.chain with readA := 2 ^ 24 - 1, readB := 0, copy := fr } } .chainFrame [2] fr

/-! ### Waking (R132, R133, R140) -/

/-- A sleeping tile wakes on the activity that reaches it, unless a low stack holds it in reset. -/
def wakeTile (s : State) (k : Nat) (t : Tile) : Tile :=
  if !t.present || decide (t.st ≠ .sleep) || t.held then t
  else { Tile.asleep t.trim with st := .awake, supplyLow := t.supplyLow, syncX2 := hopOk s k, syncX3 := hopOk s (k + 1) }

/-- Each woken tile wakes the next in turn: places with the hop that leads to each, until one does not pass the activity on. -/
def wakeWalk (s : State) : List (Nat × Nat) → State
  | [] => s
  | (k, h) :: ks =>
    if hopOk s h && (tileAt s k).present && !(tileAt s k).held then wakeWalk (tileMod s k (wakeTile s k)) ks else s

/-- The places above a hop, and those below one, in order, with the hops that lead to them. -/
def waysUp (h : Nat) : List (Nat × Nat) := ((List.range 24).filter (fun k => decide (h ≤ k))).map (fun k => (k, k))
def waysDown (h : Nat) : List (Nat × Nat) := (((List.range 24).filter (fun k => decide (k < h))).map (fun k => (k, k + 1))).reverse

/-- Whether the receiver that faces the commanding unit is X3: the side of port A, or of port B where port A does not reach the tile
(R140). -/
def facingX3 (s : State) (k : Nat) : Bool := if portReach s false k then setFarEnd s else !setFarEnd s

/-! ### Reports (R145, R152) -/

/-- The 32 bytes of a CHAIN report (R152). -/
def chainReportBytes (s : State) (kind tile missing sig : Nat) : List Byte :=
  let hop (f v : Fld) : Nat := if flag s v then rd s f else 0xFF
  leBytes 8 (ptNow s) ++ leBytes 1 kind ++ leBytes 1 (hop R.CHAIN_BREAK_HOP_A R.CHAIN_BREAK_A_VALID)
    ++ leBytes 1 (hop R.CHAIN_BREAK_HOP_B R.CHAIN_BREAK_B_VALID) ++ leBytes 1 tile ++ leBytes 2 (rd s R.MEAS_SNUM_SNUM)
    ++ leBytes 2 (rd s R.CHAIN_ALIGN_D_ALIGN_NS) ++ leBytes 4 missing ++ leBytes 1 (rd s R.CHAIN_STATUS_CNT_A)
    ++ leBytes 1 (rd s R.CHAIN_STATUS_CNT_B) ++ zeros 2 ++ leBytes 4 sig ++ zeros 4

/-- A report goes to QP12 and, as CHAIN_REPORT, to REC (R145, R446). -/
def chainReport (s : State) (kind tile missing sig : Nat) : State :=
  let bs := chainReportBytes s kind tile missing sig
  let s1 := record s 3 (0x6000 + kind) 2 tile missing
    (fieldAt bs 9 1 + (fieldAt bs 10 1) <<< 8 + (fieldAt bs 12 2) <<< 16)
  streamOr s1 12 bs (fun s => bump s R.CHAIN_RPT_LOST_COUNT)

/-! ### Enumeration (R134, R135) -/

/-- ENUM at one tile with ARG p (R134): a tile without a position takes one if its clock is locked; one with a position
compares. The answer says whether it took one and whether the comparison failed. -/
def enumTile (t : Tile) (p : Nat) : Tile × Bool × Bool :=
  if !t.up then (t, false, false)
  else if t.st = .awake then
    (if t.locked then ({ t with st := .numbered, pos := p }, true, false) else (t, false, false))
  else if t.pos = p then (t, false, false)
  else ({ t with posMismatch := true }, false, true)

/-- One ENUM pass over the tiles a port reaches: each takes or compares its position, and a difference is reported. -/
def enumWalk (s : State) (up : Bool) : List Nat → Nat → List Nat → State × List Nat
  | [], _, joined => (s, joined)
  | k :: ks, i, joined =>
    let p := if up then i else (setNn s + 31 - i % 32) % 32
    let r := enumTile (tileAt s k) p
    let s1 := tileMod s k (fun _ => r.1)
    let s2 := if r.2.2 then chainReport (errRise s1 R.CHAIN_ERR_POS_MISMATCH r.1.pos 0) 6 r.1.pos 0 0 else s1
    enumWalk s2 up ks (i + 1) (if r.2.1 then joined ++ [k] else joined)

/-- Whether an ENUM pass travels UP: launched by this unit from a port, or, on a unit that does not command, by its partner from the
port of that name (R125, R126). -/
def passUp (s : State) (portB : Bool) : Bool := goesUp s portB == commands s

/-- The places of the tiles that an ENUM pass crosses, in order. -/
def passOrder (s : State) (portB : Bool) : List Nat :=
  if passUp s portB then (List.range 24).filter (lowReach s) else ((List.range 24).filter (highReach s)).reverse

/-- One ENUM pass from a port: CNT_A or CNT_B counts the positions passed; on a unit that does not command, of the partner's pass, which
it keeps in its tile list (R74, R149; DEDUCED, log 28). -/
def enumPass (s : State) (portB : Bool) : State × List Nat :=
  let ks := passOrder s portB
  let r := enumWalk s (passUp s portB) ks 0 []
  let s1 := wr r.1 (if portB then R.CHAIN_STATUS_CNT_B else R.CHAIN_STATUS_CNT_A) ks.length
  let found := maskOf (fun p => ks.any (fun k => (tileAt s1 k).numbered && decide ((tileAt s1 k).pos = p))) (List.range 24)
  let s2 := if portB then { s1 with chain := { s1.chain with reachB := found } } else { s1 with chain := { s1.chain with reachA := found } }
  (if commands s2 then launch s2 portB 6 0 0 0 [] else s2, r.2)

/-- NN_MATCH (R134). -/
def nnMatch (s : State) : Bool :=
  flag s R.CHAIN_STATUS_RING_CLOSED && decide (rd s R.CHAIN_STATUS_CNT_A = setNn s) && decide (rd s R.CHAIN_STATUS_CNT_B = setNn s)
    && decide (popCount 24 (posMask s) = setNn s)

/-- The set-up that MEAS and BAL write into every tile that has a position, with the stored tap values (R177, R193, R200). -/
def tileSetup (s : State) (t : Tile) : Tile :=
  if !t.numbered then t
  else
    let t1 := { t with comp := decide (cfgU s 14 1 0 1 = 1), bto := clampNat 20 150 (cfgU s 14 1 2 2 / 10),
                       owEn := decide (cfgU s 7 1 3 1 = 1), owInt := cfgU s 7 1 4 1 }
    match s.bal.taps.getD t.pos none with
    | some v => { t1 with rtap := v.r, tcal := v.tcal, tapValid := true }
    | none => t1

/-- BAL.CAL_VALID: the positions with TAP_VALID (R201). -/
def calValidMask (s : State) : Nat :=
  maskOf (fun p => match tileByPos s p with
    | some k => (tileAt s k).tapValid
    | none => false) (List.range 24)

/-- What follows an enumeration (R134, R139, R193): NN_MATCH, a delay measurement due, and, from the unit that commands, the set-up and tap values of every tile. A
unit that does not command sees by the frames it passes on whether the ring is closed (DEDUCED, log 28). -/
def afterEnum (s : State) : State :=
  let s0 := if commands s then s else put s R.CHAIN_STATUS_RING_CLOSED (ringWhole s)
  let s1 := put s0 R.CHAIN_STATUS_ENUM_DONE true
  let s2 := put { s1 with chain := { s1.chain with dlyDue := true } } R.CHAIN_STATUS_NN_MATCH (nnMatch s1)
  let s3 := if commands s2 then { s2 with tiles := s2.tiles.map (tileSetup s2) } else s2
  wr s3 R.BAL_CAL_VALID_MASK (calValidMask s3)

/-- The trim signature of a position read and compared with the stored one (R135). A changed tile's cells restart in EST with
their multipliers and their history records are dropped (R217, R228), its phase offsets are reset (R243), and its sensor is judged afresh
(R271). While STOR refuses writes, the new signature is kept in CHAIN and not stored (DESIGN CHOICE, log 34). -/
def trimCheck (s : State) (p : Nat) : State :=
  match tileByPos s p with
  | none => s
  | some k =>
    let sig := (tileAt s k).trim.sig
    let keep (s : State) : State :=
      let s1 := { s with chain := { s.chain with trims := s.chain.trims.set p (some sig) } }
      if storTakes s1 then cfgStore s1 (fun c => { c with trims := c.trims.set p (some sig) }) else s1
    match s.chain.trims.getD p none with
    | none => keep s
    | some old =>
      if old = sig then s
      else
        let s1 := chainReport (errRise (keep s) R.CHAIN_ERR_TRIM_CHANGE p 0) 5 p 0 sig
        { s1 with est := { s1.est with
                    resets := if flag s1 R.EST_STATUS_RUN then s1.est.resets ++ [(24 * p, 24, true)] else s1.est.resets
                    recs := (s1.est.recs.zipIdx).map (fun r => if r.2 / 24 = p then none else r.1) }
                  eis := { s1.eis with ofs := (s1.eis.ofs.zipIdx).map (fun o => if o.2 / 24 = p then 0 else o.1) }
                  therm := { s1.therm with tiles := s1.therm.tiles.set p { ThermTile.init with goodAt := s1.power.ticks } } }

/-! ### Delays (R137, R139, R149) -/

/-- D_ALIGN for a list of delays: the largest, rounded up to a multiple of 250 ns (R137). -/
def alignOf (ds : List Nat) : Nat := (ds.foldl max 0 + 249) / 250 * 250

/-- The delay set in force written into every tile that has a position: the X2 side takes d_A on the low-end unit, d_B on the
far-end unit (R137). -/
def dlyWrite (s : State) : State :=
  let far := setFarEnd s
  { s with tiles := s.tiles.map (fun t =>
      if !t.numbered then t
      else
        let a := rd s (R.CHAIN_DLY_DLY_A_NS t.pos)
        let b := rd s (R.CHAIN_DLY_DLY_B_NS t.pos)
        { t with dlyX2 := if far then b else a, dlyX3 := if far then a else b, dAlign := rd s R.CHAIN_ALIGN_D_ALIGN_NS }) }

/-- A delay set put in force: for each position d_A and d_B, and D_ALIGN over the reachable tiles. -/
def dlyForce (s : State) (ds : List (Nat × Nat × Nat)) : State :=
  let s1 := ds.foldl (fun s d => wr (wr s (R.CHAIN_DLY_DLY_A_NS d.1) d.2.1) (R.CHAIN_DLY_DLY_B_NS d.1) d.2.2) s
  let s2 := wr s1 R.CHAIN_ALIGN_D_ALIGN_NS (alignOf (ds.flatMap (fun d => [d.2.1, d.2.2])))
  dlyWrite s2

/-- The positions taken by reached tiles. -/
def takenPos (s : State) : List Nat := (List.range 24).filter (fun p => (tileByPos s p).isSome)

/-- The nominal delay set (R137), with the positions counted from the unit's own port A (DEDUCED, log 13). -/
def dlyNominal (s : State) : State :=
  let extra := if setPair s then (if peerHeard s then 85 else 15) else 0
  let ds := (takenPos s).map (fun p =>
    let k := if setFarEnd s then setNn s - 1 - p else p
    (p, 15 + 46 * k, 30 + 46 * (setNn s - 1 - k) + extra))
  let s1 := dlyForce s ds
  put { s1 with chain := { s1.chain with bypass := !peerHeard s1 } } R.CHAIN_STATUS_DLY_VALID false

/-- DLY_MARK from both ports: each tile that receives both latches the interval between them in DLY_M; one that does not keeps what it
holds (R130, R137; DEDUCED, log 34). `marks` is by place on the ring. -/
def dlyMarks (s : State) (marks : List (Option Nat)) : State :=
  let s1 := if commands s then launch (launch s false 7 0 0 0 []) true 7 0 0 0 [] else s
  { s1 with tiles := (s1.tiles.zipIdx).map (fun tk => match marks.getD tk.2 none with
      | some m => if tk.1.up then { tk.1 with dlyM := satU 16 m } else tk.1
      | none => tk.1) }

/-- A delay measurement (R137): T_AB, T_BA and the m_k that CHAIN reads from the tiles' DLY_M. -/
def dlyMeasured (s0 : State) (tAB tBA : Nat) (marks : List (Option Nat)) : State :=
  let s := dlyMarks s0 marks
  let ds := (takenPos s).map (fun p =>
    let m : Int := ((tileByPos s p).map (fun k => (tileAt s k).dlyM)).getD 0
    let a := satU 16 (roundDiv ((tAB + tBA : Int) - 2 * m + 40000) 4)
    let b := satU 16 (roundDiv ((tAB + tBA : Int) + 2 * m - 40000) 4)
    (p, a, b))
  let asym := if tAB ≤ tBA then tBA - tAB else tAB - tBA
  let s1 := wr (wr s R.CHAIN_RING_T_T_AB_NS (min 65535 tAB)) R.CHAIN_RING_T_T_BA_NS (min 65535 tBA)
  let s2 := wr (put (dlyForce s1 ds) R.CHAIN_STATUS_DLY_VALID true) R.CHAIN_ALIGN_ASYM_NS (min 65535 asym)
  let s3 := { s2 with chain := { s2.chain with measured := true, dlyDue := false, dlyAt := s2.power.ticks, transit := some tAB,
                                                bypass := !peerHeard s2 } }
  let s4 := if 20 < asym then chainReport (errRise s3 R.CHAIN_ERR_ASYM 0 0) 7 0xFF 0 0 else s3
  chainReport s4 8 0xFF 0 0

/-- The delays measured on a closed ring; on an open one the last measured set stays, or the nominal set is written (R137). -/
def dlyRun (s : State) (tAB tBA : Nat) (marks : List (Option Nat)) : State :=
  if flag s R.CHAIN_STATUS_RING_CLOSED then dlyMeasured s tAB tBA marks
  else
    let s1 := { s with chain := { s.chain with dlyDue := false, dlyAt := s.power.ticks } }
    if s1.chain.measured then dlyWrite s1 else dlyNominal s1

/-- Whether the delays are to be measured again (R139): after an enumeration or a change of R127, 1 s after the last measurement, or with
the strobe's transit time more than 20 ns from T_AB. -/
def dlyWanted (s : State) : Bool :=
  s.chain.dlyDue || decide (s.chain.dlyAt + 250000000 ≤ s.power.ticks)
  || (match s.chain.transit with
      | some t => decide (20 < ((t : Int) - rd s R.CHAIN_RING_T_T_AB_NS).natAbs)
      | none => false)

/-- The partner's Beacons start or stop (R127, R149): the unit that commands takes the partner as in pass-through or in bypass from now
on, so that every delay from its port B is 70 ns longer or shorter, and measures again. -/
def dlyPartner (s : State) : State :=
  if !setPair s || !commands s || (s.chain.bypass == !peerHeard s) then s
  else
    let move (b : Nat) : Nat := if peerHeard s then b + 70 else b - 70
    let ds := (takenPos s).map (fun p => (p, rd s (R.CHAIN_DLY_DLY_A_NS p), move (rd s (R.CHAIN_DLY_DLY_B_NS p))))
    let s1 := dlyForce s ds
    { s1 with chain := { s1.chain with bypass := !peerHeard s1, dlyDue := true } }

/-! ### Breaks (R143 to R147) -/

/-- The ring is open: RING_CLOSED and NN_MATCH clear, and the sweep under assembly is read from both directions (R144, R146). -/
def ringOpen (s : State) : State :=
  let s1 := put (put s R.CHAIN_STATUS_RING_CLOSED false) R.CHAIN_STATUS_NN_MATCH false
  { s1 with chain := { s1.chain with asm := s1.chain.asm.map (fun w => { w with twoDir := true }) } }

/-- How many positions from 0 up to the highest set bit of a PROBE word, and from nn − 1 down to the lowest: the tiles that frames
reached from that end (R145). -/
def reachUp (nn m : Nat) : Nat := (((List.range nn).reverse.find? (bitOf m)).map (· + 1)).getD 0
def reachDown (nn m : Nat) : Nat := (((List.range nn).find? (bitOf m)).map (nn - ·)).getD 0

/-- The tiles reached from the low end and from the high end by the PROBE words. -/
def probeReach (s : State) : Nat × Nat :=
  let far := setFarEnd s
  (reachUp (setNn s) (if far then s.chain.probeB else s.chain.probeA), reachDown (setNn s) (if far then s.chain.probeA else s.chain.probeB))

/-- HOP_A and HOP_B of the PROBE words (R145); none where both PROBEs crossed the whole ring. -/
def hopsOf (s : State) : Option Nat × Option Nat :=
  let nn := setNn s
  let far := setFarEnd s
  let r := probeReach s
  let low := if r.1 = 0 ∧ far then nn + 1 else r.1
  let high := if r.2 = 0 then (if setPair s && !far then nn + 1 else nn) else nn - r.2
  if r.1 = nn ∧ r.2 = nn then (none, none) else if far then (some high, some low) else (some low, some high)

/-- The break located and reported (R145). A PROBE that finds it where it stood already writes no further report (DESIGN CHOICE, log 34:
the spec does not say whether the PROBE of every second reports again). -/
def locate (s : State) : State :=
  let h := hopsOf s
  let s1 := wr (wr s R.CHAIN_BREAK_HOP_A (h.1.getD 0)) R.CHAIN_BREAK_HOP_B (h.2.getD 0)
  let s2 := put (put s1 R.CHAIN_BREAK_A_VALID h.1.isSome) R.CHAIN_BREAK_B_VALID h.2.isSome
  let same := decide (rd s2 R.CHAIN_BREAK_HOP_A = rd s R.CHAIN_BREAK_HOP_A) && decide (rd s2 R.CHAIN_BREAK_HOP_B = rd s R.CHAIN_BREAK_HOP_B)
    && (flag s2 R.CHAIN_BREAK_A_VALID == flag s R.CHAIN_BREAK_A_VALID) && (flag s2 R.CHAIN_BREAK_B_VALID == flag s R.CHAIN_BREAK_B_VALID)
  if (h.1.isNone && h.2.isNone) || same then s2
  else
    let s3 := wr s2 R.CHAIN_BREAK_SNUM (rd s R.MEAS_SNUM_SNUM % 65536)
    let r := probeReach s
    let missing := maskOf (fun p => decide (r.1 ≤ p) && decide (p + r.2 < setNn s)) (List.range 24)
    if popCount 24 missing = 1 then chainReport (errRise s3 R.CHAIN_ERR_TILE_LOST r.1 0) 3 r.1 missing 0
    else chainReport s3 1 0xFF missing 0

/-! ### Reading a sweep (R141, R144, R148) -/

/-- A slot comes back to CHAIN (R141, R148): good ones enter the sweep under assembly, bad ones are counted. -/
def slotReturn (s : State) (pos : Nat) (bs : List Byte) (hold : Bool) : State :=
  if !slotFilled bs then s
  else if !slotGood pos bs then errRise (bump s R.CHAIN_SLOT_ERR_CNT_COUNT) R.CHAIN_ERR_SCRC pos 0
  else
    let s1 := { s with chain := { s.chain with asm := s.chain.asm.map (fun w =>
      { w with slots := w.slots.set pos (some bs), fromHold := setBit w.fromHold pos hold }) } }
    if bitOf (fieldAt bs 74 2) 0 then errRise s1 R.CHAIN_ERR_NOT_HELD pos 0 else s1

/-- A tile's slot is awaited no more. -/
def readOff (s : State) (p : Nat) : State :=
  { s with chain := { s.chain with readA := setBit s.chain.readA p false, readB := setBit s.chain.readB p false } }

/-- Code errors at a port (R148, R150). -/
def portCode (s : State) (portB : Bool) (n : Nat) : State := bumpBy s (if portB then R.CHAIN_CODE_ERR_B_COUNT else R.CHAIN_CODE_ERR_A_COUNT) n

/-- The port at which the read frame with a tile's slot comes back: the other one on a closed ring, the one it left on an open ring. -/
def returnPort (s : State) (p : Nat) : Bool := bitOf s.chain.readA p == flag s R.CHAIN_STATUS_RING_CLOSED

/-- A read frame collects one tile's slot, sinceNs after the sample's instant: PEPPER may invert its SCRC (R503), and it may be spoilt or
lost on its way. A tile that finds the header bad ends the frame (R148); one whose slot comes back NOT_HELD from the sample on which it
evaluated an open-wire test repeats the test (R162). -/
def readSlot (s : State) (k sinceNs : Nat) (fate : SlotFate) (hold : Bool) : State :=
  let t := tileAt s k
  match s.chain.asm with
  | none => s
  | some w =>
    if !t.numbered || !reached s k || decide (24 ≤ t.pos) || !bitOf (s.chain.readA ||| s.chain.readB) t.pos then s
    else
      let deliver (s : State) (spoil : Bool) : State :=
        let bs := slotBytes t (w.snum % 65536) sinceNs hold
        let again := (holdFor t (w.snum % 65536) sinceNs).isNone && decide (t.owSnum = some (w.snum % 65536)) && t.owRun.isNone
        let s1 := if again then tileMod s k (fun t => { t with owRun := some t.owTap }) else s
        let p := pepperAct s1 9 t.pos
        let bs1 := if p.1 || spoil then bs.take 78 ++ leBytes 2 (fieldAt bs 78 2 ^^^ 0xFFFF) else bs
        readOff (slotReturn p.2 t.pos bs1 hold) t.pos
      match fate with
      | .arrives => deliver s false
      | .spoilt n => deliver (portCode s (returnPort s t.pos) n) true
      | .header x3 n =>
        let s1 := tileFrame s k (.header x3 n) true (fun t => t)
        if bitOf s1.chain.readA t.pos then { s1 with chain := { s1.chain with readA := 0 } } else { s1 with chain := { s1.chain with readB := 0 } }
      | .lost => readOff s t.pos

/-- The positions of the set whose slots are missing from the sweep under assembly. -/
def asmMissing (s : State) : Nat := match s.chain.asm with
  | none => 0
  | some w => maskOf (fun p => decide (p < setNn s) && (w.slots.getD p none).isNone) (List.range 24)

/-- HOLD_RD leaves a port for the missing tiles of a mask, and its slots are counted (R144, R150). -/
def holdLaunch (s : State) (portB : Bool) (mask : Nat) : State :=
  let m := asmMissing s &&& mask
  match s.chain.asm with
  | none => s
  | some w => if m = 0 ∨ !commands s then s else launchRead (bumpBy s R.CHAIN_REREAD_CNT_COUNT (popCount 24 m)) portB 3 w.snum m

/-- Whether a read of the missing tiles of a mask, launched so long after the instant, can finish within the 240 µs of R27: its bits at
160 Mbit/s (R142) and the ring's transit (R144; DEDUCED, log 34). -/
def holdFits (s : State) (sinceNs mask : Nat) : Bool :=
  decide (sinceNs + 1000 + 4000 * popCount 24 (asmMissing s &&& mask) + rd s R.CHAIN_RING_T_T_AB_NS ≤ 240000)

/-! ### Queue pair 12 (R152) -/

/-- TILE_RD. -/
def chainTileRd (e : Entry) (s : State) : State × EntrySt :=
  if !flag s R.CHAIN_STATUS_RUN then failR s 0x06
  else match tileByPos s (e.arg0 % 32) with
  | some k => okR s (tileReg (tileAt s k) (e.arg0 / 256) % 65536)
  | none => failR s 0x40

/-- PROBE: it completes when the PROBE frames have returned. -/
def chainProbe (_ : Entry) (s : State) : State × EntrySt :=
  if !flag s R.CHAIN_STATUS_RUN then failR s 0x06
  else (launchProbe s, .running 0)

/-- DLY_MEASURE. -/
def chainDlyMeasure (tAB tBA : Nat) (marks : List (Option Nat)) (_ : Entry) (s : State) : State × EntrySt :=
  if !flag s R.CHAIN_STATUS_RUN then failR s 0x06
  else
    let s1 := dlyRun s tAB tBA marks
    okR s1 (rd s1 R.CHAIN_ALIGN_D_ALIGN_NS)

/-- TILE_SNAP: registers 0x00 to 0x0F of every position. -/
def chainTileSnap (e : Entry) (s : State) : State × EntrySt :=
  if !flag s R.CHAIN_STATUS_RUN then failR s 0x06
  else
    let bs := ((List.range 24).map (fun p => match tileByPos s p with
      | some k => ((List.range 16).map (fun a => leBytes 2 (tileReg (tileAt s k) a))).flatten
      | none => zeros 32)).flatten
    okR (memWrite s e.addr bs) 768

/-! ### The rows of CHAIN -/

/-- SWEEP_RD: one tile's slot of the read frame (R130). -/
def execSweepRd (k sinceNs : Nat) (fate : SlotFate) (s : State) : Host.Outcome State Fault Refusal := .next (readSlot s k sinceNs fate false)

/-- HOLD_RD: one tile's slot read again from its hold (R130, R144). Where no HOLD_RD for it is under way, CHAIN launches one. -/
def execHoldRd (k sinceNs : Nat) (fate : SlotFate) (s : State) : Host.Outcome State Fault Refusal :=
  let p := (tileAt s k).pos
  let s1 := if bitOf (s.chain.readA ||| s.chain.readB) p then s
    else if commands s then holdLaunch s (!portReach s false k) (1 <<< p)
    else { s with chain := { s.chain with readA := setBit s.chain.readA p true } }
  .next (readSlot s1 k sinceNs fate true)

/-- TREG_RD: the addressed tile answers the value of a register (R130), which the commanding unit takes off the frame. -/
def execTregRd (k reg : Nat) (chk : FrameChk) (s : State) : Host.Outcome State Fault Refusal :=
  let t := tileAt s k
  let s1 := tileFrame s k chk true (fun t => t)
  .next { s1 with bus := if t.up && reached s k && decide (chk = .ok) then BitVec.ofNat 64 (tileReg t reg + 1 <<< 16) else 0 }

/-- TREG_WR: the addressed tile writes the registers that BAL and MEAS own (R130); a unit not commanding takes the timers it
copies into its shadow (R127, R194). -/
def execTregWr (k : Nat) (ws : List (Nat × Nat)) (chk : FrameChk) (s : State) : Host.Outcome State Fault Refusal :=
  if !(tileAt s k).up then .next s
  else
    let s1 := tileFrame s k chk true (fun t => ws.foldl tileRegWr t)
    let t1 := tileAt s1 k
    .next (if commands s then s1 else { s1 with bal := { s1.bal with shadow := s1.bal.shadow.set t1.pos t1.timers } })

/-- PROBE_FRAME: a tile sets its bit in the PROBE word of a port (R130). -/
def execProbeFrame (k : Nat) (portB : Bool) (chk : FrameChk) (s : State) : Host.Outcome State Fault Refusal :=
  let t := tileAt s k
  if !t.numbered || !portReach s portB k then .next s
  else
    let s1 := tileFrame s k chk true (fun t => t)
    if chk ≠ .ok then .next s1
    else if portB then .next { s1 with chain := { s1.chain with probeB := setBit s1.chain.probeB t.pos true } }
    else .next { s1 with chain := { s1.chain with probeA := setBit s1.chain.probeA t.pos true } }

/-- TILE_WAKE: activity on a receiver of a sleeping tile (R133); `fresh` is the factory data of a tile newly placed there, `stack` the
stack in 10 mV, which holds the tile in reset below 30 V (R132). The woken tile wakes the next ones in turn. -/
def execTileWake (k : Nat) (fresh : Option TileTrim) (stack : Nat) (s : State) : Host.Outcome State Fault Refusal :=
  let place (t : Tile) : Tile :=
    let t0 := if t.present then t else match fresh with
      | some f => Tile.asleep f
      | none => t
    { t0 with held := decide (stack < 3000), supplyLow := t0.supplyLow || decide (stack < 3600) }
  if (tileAt s k).st ≠ .sleep ∨ (!(tileAt s k).present ∧ fresh.isNone) then .next s
  else
    let s1 := tileMod s k place
    let s2 := tileMod s1 k (wakeTile s1 k)
    .next (if (tileAt s2 k).up then wakeWalk (wakeWalk s2 (waysUp (k + 1))) (waysDown k) else s2)

/-- The hop at a port of this unit (R125): port A adjoins H0, or Hnn on the far-end unit; port B of a pair member adjoins H(nn + 1). -/
def portHop (s : State) (portB : Bool) : Nat :=
  if portB then ringN s + b2n (setPair s) else if setFarEnd s then ringN s else 0

/-- A data hop is cut: frames in passage across it end in K30.7 (R143). On a closed ring that is the frame from port A; on an open one a
frame crosses the hop where its port reaches a tile beside it. -/
def hopCut (s : State) (h : Nat) : State :=
  if h ∈ s.chain.cuts then s
  else
    let meets (portB : Bool) : Bool := flag s R.CHAIN_STATUS_RING_CLOSED || portReach s portB h || portReach s portB (h - 1)
    { s with chain := { s.chain with cuts := s.chain.cuts ++ [h], readA := if meets false then 0 else s.chain.readA,
                                     readB := if meets true then 0 else s.chain.readB } }

/-- A tile loses sync on a side (R140, R143): loop mode for it, the clock unlocked where that receiver faced the commanding unit, and
LINK_DOWN sent on the other side if that is in sync. -/
def tileLoses (s : State) (k : Nat) (x3 : Bool) (codes : Nat) : State :=
  let t := tileAt s k
  if !t.up then s
  else
    let s1 := tileMod s k (fun t =>
      let t1 := { t.codeErr x3 codes with locked := t.locked && (t.lockX3 != x3) }
      if x3 then { t1 with loopX3 := true, syncX3 := false } else { t1 with loopX2 := true, syncX2 := false })
    if (if x3 then t.syncX2 else t.syncX3) then
      emit s1 .chainFrame [3, k] (frameHdr 0x0F x3 0 0 0 (t.pos + 256 * b2n x3))
    else s1

/-- SYNC_LOSS: a receiver loses sync, with the code errors it met (R128, R143). Nodes 0 to 23 are the tiles; any other is the unit's own
port, B where `x3`. -/
def execSyncLoss (node : Nat) (x3 : Bool) (codes : Nat) (s : State) : Host.Outcome State Fault Refusal :=
  if node < 24 then .next (hopCut (tileLoses s node x3 codes) (if x3 then node + 1 else node))
  else
    let s1 := hopCut (portCode s x3 codes) (portHop s x3)
    .next (ringOpen (errRise s1 (if x3 then R.CHAIN_ERR_SYNC_B else R.CHAIN_ERR_SYNC_A) 0 0))

/-- LOOP_MODE_EXIT: a lost side has been in sync for 10 ms (R147): of a tile, or of the unit's own port, B where `x3`, for any other
node. -/
def execLoopModeExit (k : Nat) (x3 : Bool) (s : State) : Host.Outcome State Fault Refusal :=
  let h := if k < 24 then (if x3 then k + 1 else k) else portHop s x3
  let s1 := if k < 24 then tileMod s k (fun t =>
      if !t.up then t else if x3 then { t with loopX3 := false, syncX3 := true } else { t with loopX2 := false, syncX2 := true })
    else s
  .next { s1 with chain := { s1.chain with cuts := s1.chain.cuts.filter (fun x => decide (x ≠ h)) } }

/-- LINK_DOWN: a tile reports a lost side (R143, R144): the read frame being launched on that port is aborted, the missing tiles that the
port still reaches are read again, and PROBE locates the break. -/
def execLinkDown (portB : Bool) (pos : Nat) (lostX3 : Bool) (s : State) : Host.Outcome State Fault Refusal :=
  let k := (tileByPos s pos).getD pos
  if !flag s R.CHAIN_STATUS_RUN then .next s
  else
    let s1 := ringOpen (hopCut s (if lostX3 then k + 1 else k))
    let reach := maskOf (fun p => decide (p < setNn s) && (if lostX3 then decide (p ≤ pos) else decide (pos ≤ p))) (List.range 24)
    let s2 := if portB then { s1 with chain := { s1.chain with reachB := reach, readB := 0 } }
      else { s1 with chain := { s1.chain with reachA := reach, readA := 0 } }
    .next (launchProbe (holdLaunch s2 portB reach))

/-- READ_INCOMPLETE: a read frame ends in K30.7 or fails to return, sinceNs after the instant: HOLD_RD for the missing tiles that each port
reaches, provided the read can finish in time (R144). -/
def execReadIncomplete (sinceNs : Nat) (s : State) : Host.Outcome State Fault Refusal :=
  let s1 := { s with chain := { s.chain with asm := s.chain.asm.map (fun w => { w with twoDir := w.twoDir || !ringWhole s }), readA := 0, readB := 0 } }
  let from1 (s : State) (portB : Bool) (mask : Nat) : State := if holdFits s sinceNs mask then holdLaunch s portB mask else s
  .next (if flag s1 R.CHAIN_STATUS_RING_CLOSED then from1 s1 false (2 ^ 24 - 1)
    else from1 (from1 s1 false s1.chain.reachA) true (s1.chain.reachB - (s1.chain.reachB &&& s1.chain.reachA)))

/-- PROBE_RETURN: the PROBE frames are back (R145, R152). -/
def execProbeReturn (s : State) : Host.Outcome State Fault Refusal :=
  if !flag s R.CHAIN_STATUS_RUN then .next s
  else
    let s1 := locate s
    .next (finishEntry s1 12 (Entry.runs 0x41) 0 (regGet s1 R.CHAIN_BREAK).toNat 0)

/-- Whether the PROBE from port A has come back at port B with every tile set (R147). -/
def probeWhole (s : State) : Bool := ringWhole s && decide (s.chain.probeA % 2 ^ 24 = 2 ^ min 24 (setNn s) - 1)

/-- RING_CLOSE: the first sweep boundary after such a PROBE (R147). -/
def execRingClose (tAB tBA : Nat) (marks : List (Option Nat)) (s : State) : Host.Outcome State Fault Refusal :=
  if !flag s R.CHAIN_STATUS_RUN || flag s R.CHAIN_STATUS_RING_CLOSED || !probeWhole s then .next s
  else
    let s1 := put (put (put s R.CHAIN_STATUS_RING_CLOSED true) R.CHAIN_BREAK_A_VALID false) R.CHAIN_BREAK_B_VALID false
    let s2 := put s1 R.CHAIN_STATUS_NN_MATCH (nnMatch s1)
    .next (dlyMeasured (chainReport s2 2 0xFF 0 0) tAB tBA marks)

/-- DELAY_REMEASURE (R139). -/
def execDelayRemeasure (tAB tBA : Nat) (marks : List (Option Nat)) (s : State) : Host.Outcome State Fault Refusal :=
  .next (if flag s R.CHAIN_STATUS_RUN && commands s && dlyWanted s then dlyRun s tAB tBA marks else s)

/-- TILE_RD on QP12. -/
def execTileRd (s : State) : Host.Outcome State Fault Refusal := .next (runEntry s 12 0x40 chainTileRd)

/-- PROBE on QP12. -/
def execProbe (s : State) : Host.Outcome State Fault Refusal := .next (runEntry s 12 0x41 chainProbe)

/-- DLY_MEASURE on QP12. -/
def execDlyMeasure (tAB tBA : Nat) (marks : List (Option Nat)) (s : State) : Host.Outcome State Fault Refusal :=
  .next (runEntry s 12 0x42 (chainDlyMeasure tAB tBA marks))

/-- TILE_SNAP on QP12. -/
def execTileSnap (s : State) : Host.Outcome State Fault Refusal := .next (runEntry s 12 0x43 chainTileSnap)

end Sys2Proof.Machine
end

