-- ==== Sys2Proof/Machine/Meas.lean ====
section
/-! DEFINITION. MEAS: where sample instants come from (R153 to R157), the sampling table and its queue pairs (R155, R156,
R175, R176), and the carrier (R157). -/

namespace Sys2Proof.Machine

open Sys2Proof

/-! ### The carrier (R157, R278) -/

/-- Whether the PWM carrier runs: PWM is enabled (R280, R302). -/
def carrierOn (s : State) : Bool := flag s R.PWM_STATUS_ARMED

/-- The carrier period in ns: ticks of 5 ns (R278). -/
def carrierNow (s : State) : Nat := 5 * rd s R.PWM_PERIOD_TICKS

/-! ### The table (R155, R156) -/

/-- EST_DIV as it will be at the next sweep boundary: a pending item 1, else the one in force (R156). -/
def estDivNext (s : State) : Nat :=
  match s.cfgPend.find? (fun e => decide (e.1 = itemKey 7 1)) with
  | some e => fieldAt e.2 0 2
  | none => cfgU s 7 1 0 2

/-- The table that will be in force at the next sweep boundary, none for the start-up schedule (R177). -/
def tableNext (s : State) : Option MeasTable :=
  match s.meas.pend with
  | .none => s.meas.table
  | .table t => some t
  | .revert => none

/-- Whether count instants in `cycle` ns, divided by EST_DIV, come to 10 to 100 per second (R156). -/
def estRateOk (count cycle div : Nat) : Bool :=
  decide (10 * cycle * div ≤ count * 1000000000) && decide (count * 1000000000 ≤ 100 * cycle * div)

/-- How long a table's cycle lasts, in ns, at a carrier period. -/
def tableCycle (t : MeasTable) (carrier : Nat) : Nat :=
  if t.base = 2 then t.cycleNs else (t.entries.map Prod.fst).sum * carrier

/-- A table's instant i after its predecessor, in ns (R155, R156). -/
def tableGap (t : MeasTable) (carrier i : Nat) : Int :=
  let n := t.entries.length
  let e := t.entries.getD i (0, 0)
  let p := t.entries.getD ((i + n - 1) % n) (0, 0)
  if t.base = 2 then (e.2 : Int) - p.2 + (if i = 0 then t.cycleNs else 0)
  else (e.1 * carrier : Nat) + (e.2 : Int) - p.2

/-- Whether entry i of a table, whose 8 staged bytes are given, satisfies R156. -/
def entryFits (t : MeasTable) (carrier i : Nat) (raw : List Byte) : Bool :=
  let e := t.entries.getD i (0, 0)
  let g := tableGap t carrier i
  decide (fieldAt raw 2 2 = 0)
  && (if t.base = 2 then decide (e.1 = 0) && decide (e.2 < t.cycleNs) && (decide (i = 0) || decide ((t.entries.getD (i - 1) (0, 0)).2 < e.2))
      else decide (1 ≤ e.1) && decide (e.2 < carrier))
  && decide (250000 ≤ g) && decide (g ≤ 100000000)

/-- A table checked under R156: the table, or the index of the first offending entry, 0xFFFF for the header. -/
def tableCheck (hdr : List Byte) (staged : List (List Byte)) (carrier div : Nat) : Except Nat MeasTable :=
  let base := fieldAt hdr 0 1
  let count := fieldAt hdr 2 2
  let cycle := fieldAt hdr 4 4
  let anchor := fieldAt hdr 8 8
  let raws := staged.take count
  let t : MeasTable := { base := base, cycleNs := cycle, anchor := anchor, entries := raws.map (fun r => (fieldAt r 0 2, fieldAt r 4 4)) }
  let hdrOk := (decide (base = 1) || decide (base = 2)) && decide (fieldAt hdr 1 1 = 0) && decide (1 ≤ count) && decide (count ≤ 256)
    && (if base = 2 then decide (250000 ≤ cycle) && decide (cycle ≤ 1000000000) else decide (cycle = 0) && decide (anchor = 0))
    && decide (fieldAt hdr 16 16 = 0)
  if !hdrOk then .error 0xFFFF
  else match (List.range count).find? (fun i => !entryFits t carrier i (raws.getD i [])) with
    | some i => .error i
    | none => if estRateOk count (tableCycle t carrier) div then .ok t else .error 0xFFFF

/-! ### Sweep boundaries (R175) -/

/-- A waiting TABLE_COMMIT or REVERT is replaced: it completes with SUPERSEDED. -/
def measSupersede (s : State) : State :=
  if s.meas.pend = .none then s
  else finishEntry s 7 (fun e => e.runs 0x40 || e.runs 0x41) 0x41 0 0

/-- A change made pending for the next sweep boundary. -/
def measPend (s : State) (p : MeasPend) : State × EntrySt :=
  let s1 := measSupersede s
  (put { s1 with meas := { s1.meas with pend := p } } R.MEAS_STATUS_PENDING true, .running 0)

/-- TABLE_COMMIT (R175): with the staged quarters as they stood when the entry was fetched. -/
def measCommit (e : Entry) (s : State) : State × EntrySt :=
  withBuf e s (fun hdr =>
    if fieldAt hdr 0 1 = 1 ∧ !carrierOn s then failR s 0x06
    else match tableCheck hdr e.snap (carrierNow s) (estDivNext s) with
      | .error i => failX (errRise s R.MEAS_ERR_TABLE_REJ 0 0) 0x40 i
      | .ok t => measPend s (.table t))

/-- REVERT (R175). -/
def measRevert (_ : Entry) (s : State) : State × EntrySt := measPend s .revert

/-- Under base CARRIER, whether the holdover runs (R157). -/
def onCarrier (s : State) : Bool :=
  match s.meas.table with
  | some t => decide (t.base = 1)
  | none => false

/-- Holdover entered or left as the carrier stands (R157). -/
def carrierFollow (s : State) : State :=
  if !onCarrier s then put s R.MEAS_STATUS_CARRIER_ABSENT false
  else if carrierOn s then
    put { s with meas := { s.meas with carrierNs := carrierNow s } } R.MEAS_STATUS_CARRIER_ABSENT false
  else if flag s R.MEAS_STATUS_CARRIER_ABSENT then s
  else errRise (put s R.MEAS_STATUS_CARRIER_ABSENT true) R.MEAS_ERR_CARRIER_LOST 0 0

/-- The configuration items whose boundary is a sweep boundary: MEAS 1 and BAL 1 (R177, R200). MEAS and BAL of the unit
that commands write theirs into every tile. -/
def sweepItems (s : State) : State :=
  if s.cfgPend.any (fun e => decide (e.1 = itemKey 7 1) || decide (e.1 = itemKey 14 1)) then
    let s1 := cfgBoundary (cfgBoundary s (itemKey 7 1)) (itemKey 14 1)
    let s2 := { s1 with tiles := (s1.tiles.zipIdx).map (fun tk =>
      if !tk.1.numbered || !reached s1 tk.2 || !commands s1 then tk.1
      else { tk.1 with comp := decide (cfgU s1 14 1 0 1 = 1), bto := clampNat 20 150 (cfgU s1 14 1 2 2 / 10),
                       owEn := decide (cfgU s1 7 1 3 1 = 1), owInt := cfgU s1 7 1 4 1 }) }
    put s2 R.BAL_STATUS_MODE (decide (cfgU s2 14 1 0 1 = 1))
  else s

/-- A sweep boundary: the pending commit or REVERT takes effect and completes, and so do the waiting items (R119, R175). -/
def measBoundary (s : State) : State :=
  let s1 := sweepItems s
  match s1.meas.pend with
  | .none => s1
  | .table t =>
    let s2 := { s1 with meas := { s1.meas with table := some t, nextIdx := 0, pend := .none, first := true, acc := 0, carrierNs := carrierNow s1 } }
    let s3 := put (put (put s2 R.MEAS_STATUS_PENDING false) R.MEAS_STATUS_TABLE true) R.MEAS_STATUS_BASE (decide (t.base = 2))
    finishEntry (carrierFollow s3) 7 (Entry.runs 0x40) 0 s3.meas.next 0
  | .revert =>
    let s2 := { s1 with meas := { s1.meas with table := none, nextIdx := 0, pend := .none, first := false, acc := 0 } }
    let s3 := put (put (put s2 R.MEAS_STATUS_PENDING false) R.MEAS_STATUS_TABLE false) R.MEAS_STATUS_BASE false
    finishEntry (carrierFollow s3) 7 (Entry.runs 0x41) 0 s3.meas.next 0

/-! ### Instants not taken (R153, R157) -/

/-- EST_DIV as it acts: 1 under the start-up schedule (R168). -/
def estDivNow (s : State) : Nat := if s.meas.table.isSome then cfgU s 7 1 0 2 else 1

/-- The next scheduled instant is not taken: its number is spent, and it is counted (R153, R157). -/
def measSkip (s : State) (gap : Int) : State :=
  let n := match s.meas.table with
    | some t => t.entries.length
    | none => 1
  bump { s with meas := { s.meas with next := (s.meas.next + 1) % 2 ^ 32, nextIdx := (s.meas.nextIdx + 1) % n, acc := s.meas.acc + gap } }
    R.MEAS_SKIP_CNT_COUNT

/-- Under base CARRIER, the scheduled instants that fall less than 250 µs after the latest one taken are dropped (R157); at
most `fuel` of them, which is the table's length. -/
def measDrop (s : State) : Nat → State
  | 0 => s
  | fuel + 1 =>
    match s.meas.table with
    | none => s
    | some t =>
      if t.base ≠ 1 then s
      else
        let g := tableGap t s.meas.carrierNs s.meas.nextIdx
        if s.meas.acc + g < 250000 then measDrop (measSkip s g) fuel else s

/-- A carrier period that changes from the next period start (R157): the periods before it since the latest instant keep
their length, and an instant that is then too close is dropped. -/
def carrierChange (s : State) : State :=
  if !onCarrier s || !carrierOn s then s
  else
    let old := s.meas.carrierNs
    let new := carrierNow s
    let t := match s.meas.table with
      | some t => t
      | none => { base := 1, cycleNs := 0, anchor := 0, entries := [(1, 0)] }
    let n := t.entries.length
    let ofs := (t.entries.getD ((s.meas.nextIdx + n - 1) % n) (0, 0)).2
    let k := (ptNow s + ofs - s.meas.tInst) / max 1 old
    let kk := min (k + 1) (t.entries.getD s.meas.nextIdx (0, 0)).1
    measDrop { s with meas := { s.meas with carrierNs := new, acc := s.meas.acc + (kk : Int) * ((old : Int) - new) } } n

/-! ### Quarters (R176) -/

/-- QUARTER_LOAD: the staged table only. -/
def measQuarter (qp : Nat) (e : Entry) (s : State) : State × EntrySt :=
  withBuf e s (fun bs =>
    let at0 := 64 * (qp - 8) + e.arg0 % 64
    let new := (List.range (bs.length / 8)).map (fun i => (bs.drop (8 * i)).take 8)
    okR { s with meas := { s.meas with staged := (s.meas.staged.take at0 ++ new ++ s.meas.staged.drop (at0 + new.length)).take 256 } } 0)

/-- The 512 bytes of a quarter in force (R176). -/
def quarterBytes (s : State) (q : Nat) : List Byte :=
  ((List.range 64).map (fun i => match s.meas.table with
    | none => zeros 8
    | some t => match t.entries[64 * q + i]? with
      | some e => leBytes 2 e.1 ++ zeros 2 ++ leBytes 4 e.2
      | none => zeros 8)).flatten

/-! ### The rows of MEAS -/

/-- TABLE_COMMIT on QP7. -/
def execTableCommit (s : State) : Host.Outcome State Fault Refusal := .next (runEntry s 7 0x40 measCommit)

/-- REVERT on QP7. -/
def execRevert (s : State) : Host.Outcome State Fault Refusal := .next (runEntry s 7 0x41 measRevert)

/-- QUARTER_LOAD on QP8 to QP11. -/
def execQuarterLoad (qp : Nat) (s : State) : Host.Outcome State Fault Refusal :=
  .next (if 8 ≤ qp ∧ qp ≤ 11 then runEntry s qp 0x40 (measQuarter qp) else s)

end Sys2Proof.Machine
end

