-- ==== Sys2Proof/Machine/Hvm.lean ====
section
/-! DEFINITION. HVM: string current and voltages (R167, R170), the insulation cycle (R171 to R173), records and registers
(R179 to R181). -/

namespace Sys2Proof.Machine

open Sys2Proof

/-! ### Values (R170) -/

/-- The shunt current of an input in nV, mA: it saturates at the converter's range of ±62.5 mV (R54). -/
def shuntMa (s : State) (nv : Int) : Int :=
  let v := clampInt (-62500000) 62500000 nv
  let ma := roundDiv (1000 * v) (cfgU s 13 1 0 4)
  satMilli (if cfgU s 13 1 4 1 = 1 then -ma else ma)

/-- Whether a shunt input lies beyond the converter's range. -/
def shuntOver (hv : HvmIn) : Bool := hv.overRange || decide (62500000 < hv.shuntNv.natAbs)

/-- The Hall current, mA. -/
def hallMa (s : State) (sig ref : Int) : Int :=
  satMilli (roundDiv ((sig - ref) * cfgS s 13 1 8 4 + cfgS s 13 1 12 4 * 1000000) 1000000)

/-- Whether the Hall path is faulty (R170): HALL_SIG outside 0.25 to 4.75 V, or HALL_REF outside 2.3 to 2.7 V. -/
def hallBad (sig ref : Int) : Bool :=
  decide (sig < 250000) || decide (4750000 < sig) || decide (ref < 2300000) || decide (2700000 < ref)

/-- A voltage in its range (R170). -/
def voltU (v : Int) : Int := clampInt 0 2400000 v
def voltS (v : Int) : Int := clampInt (-2400000) 2400000 v

/-- The code of a value that may be missing (R15). -/
def milliCode (v : Option Int) : Nat := match v with
  | some x => sCode 32 x
  | none => 0x80000000

/-- HVM's registers as they follow its values (R181). -/
def hvmShow (s : State) : State :=
  let h := s.hvm
  let s1 := wrS (wrS (wrS (wrS s R.HVM_V_STR_MV h.vStr) R.HVM_V_LINK_MV h.vLink) R.HVM_V_PRE_MV h.vPre) R.HVM_V_LINK_NEG_MV h.vLinkNeg
  let s2 := wr (wr s1 R.HVM_I_SHUNT_MA (milliCode h.iShunt)) R.HVM_I_HALL_MA (milliCode h.iHall)
  put s2 R.HVM_STATUS_SHUNT_FAULT (h.shOver || h.shCm)

/-- The Hall path's fault as its pins stand: HALL_FAULT while they lie outside, ERR.HALL when it arises (R170). -/
def hallFollow (s : State) (sig ref : Int) : State :=
  if hallBad sig ref then
    (if flag s R.HVM_STATUS_HALL_FAULT then s else errRise (put s R.HVM_STATUS_HALL_FAULT true) R.HVM_ERR_HALL 0 0)
  else put s R.HVM_STATUS_HALL_FAULT false

/-- The shunt path becomes faulty (R170). A fault by the common mode lasts until HVM starts again (DESIGN CHOICE, log 14: the spec does not say
when it ends). -/
def shuntFault (s : State) (cm : Bool) : State :=
  let was := s.hvm.shOver || s.hvm.shCm
  let s1 := { s with hvm := { s.hvm with shOver := s.hvm.shOver || !cm, shCm := s.hvm.shCm || cm, iShunt := none } }
  let s2 := hvmShow s1
  if was then s2 else errRise s2 R.HVM_ERR_SHUNT 0 0

/-- Over-range shunt samples counted (R170, R181): those since HVM last took values, the one at hand among them. -/
def overCount (s : State) (n : Nat) (now : Bool) : State := bumpBy s R.HVM_OVR_CNT_COUNT (max n (b2n now))

/-- HVM takes its values (R167, R170). An over-range fault ends with the first value in range (DEDUCED, log 14). The values come filtered and
interpolated: the spec gives the filter's corner, not its coefficients (DESIGN CHOICE, log 14). -/
def hvmTake (s : State) (hv : HvmIn) : State :=
  let ovr := shuntOver hv
  let s0 := overCount s hv.overN ovr
  let s1 := if ovr then s0 else { s0 with hvm := { s0.hvm with shOver := false } }
  let s2 := hallFollow s1 hv.hallSig hv.hallRef
  let sh := if s2.hvm.shOver || s2.hvm.shCm then none else some (shuntMa s2 hv.shuntNv)
  let ha := if hallBad hv.hallSig hv.hallRef then none else some (hallMa s2 hv.hallSig hv.hallRef)
  hvmShow { s2 with hvm := { s2.hvm with vStr := voltU hv.vStr, vLink := voltS (hv.vLinkPos - hv.vLinkNeg), vPre := voltU hv.vPre,
                                          vLinkNeg := voltS hv.vLinkNeg, iShunt := sh, iHall := ha } }

/-! ### Records (R179, R180) -/

/-- IFLAGS as a record carries them: of the latest cycle, and NO_SLOT as it stands. -/
def isoFlagsNow (s : State) : Nat := setBit s.hvm.isoFlags 5 (flag s R.HVM_STATUS_NO_SLOT)

/-- The 64 bytes of an HVM record. -/
def hvmRecord (s : State) (kind : Nat) (v : HvmSt) (iMin iMax : Option Int) : List Byte :=
  leBytes 8 (ptNow s) ++ leBytes 1 kind ++ leBytes 1 (isoFlagsNow s) ++ zeros 2 ++ sBytes 4 v.vStr ++ sBytes 4 v.vLink ++ sBytes 4 v.vPre
    ++ sBytes 4 v.vLinkNeg ++ leBytes 4 (milliCode v.iShunt) ++ leBytes 4 (milliCode v.iHall) ++ leBytes 4 (milliCode iMin)
    ++ leBytes 4 (milliCode iMax) ++ leBytes 4 (rd s R.HVM_ISO_TOTAL_OHM) ++ leBytes 4 (rd s R.HVM_ISO_POS_OHM)
    ++ leBytes 4 (rd s R.HVM_ISO_NEG_OHM) ++ sBytes 4 s.hvm.vc0 ++ zeros 4

/-- A record into QP13; one without a buffer is lost (R98). -/
def hvmWrite (s : State) (bs : List Byte) : State :=
  streamOr { s with hvm := { s.hvm with recV := sInt 32 (fieldAt bs 12 4) } } 13 bs (fun s => errRise s R.HVM_ERR_LOST 0 0)

/-! ### Insulation (R171 to R173) -/

/-- Whether this unit injects: commanding, enabled by item 2. -/
def isoMay (s : State) : Bool := flag s R.HVM_STATUS_RUN && commands s && decide (cfgU s 13 2 0 1 = 1)

/-- A cycle begins with phase 0; item 2 takes effect here (R179). -/
def isoBegin (s : State) : State :=
  let s1 := cfgBoundary s (itemKey 13 2)
  if !isoMay s1 then { s1 with hvm := { s1.hvm with iso := .idle } }
  else { s1 with hvm := { s1.hvm with iso := .p0, vc := [], isoLow := false } }

/-- The next cycle with SLOTS = 1, without a break; with more slots HVM waits for its own (R173). -/
def isoNext (s : State) : State :=
  let s1 := cfgBoundary { s with hvm := { s.hvm with iso := .idle, vc := [] } } (itemKey 13 2)
  let s2 := put s1 R.HVM_STATUS_ISO_ACTIVE false
  let waits := decide (1 < cfgU s2 13 2 1 1)
  let s3 := put s2 R.HVM_STATUS_NO_SLOT (isoMay s2 && waits && !flag s2 R.PTP_STATUS_ACQ)
  if waits then s3 else isoBegin s3

/-- The unit stops injecting, its cycle without a result: it has given up the chain (R173, R182). -/
def isoQuiet (s : State) : State := put { s with hvm := { s.hvm with iso := .idle, vc := [] } } R.HVM_STATUS_ISO_ACTIVE false

/-- A cycle ends with no result: a step in plant time (R173, R182). -/
def isoAbort (s : State) : State := if s.hvm.iso = .idle then s else isoNext s

/-- A resistance from a conductance in S, held to 10 kΩ to 50 MΩ, with BELOW or ABOVE (R172). -/
def ohmOf (g : Rat) : Nat × Nat :=
  if g * 50000000 < 1 then (50000000, 2)
  else
    let r := roundRat (1 / g)
    if r < 10000 then (10000, 1) else (r.toNat, 0)

/-- A cycle judged (R171, R172): its flags and, where it is valid, R_TOTAL, Rp and Rn in Ω. `p` is 1 for a pair member. Rp and Rn are given
after the idle conductance is removed, as R_TOTAL is, and a cycle with Vc1 not above Vc2 or with no conductance at all is flagged
DISTURBED (DESIGN CHOICE, log 14: the spec says neither). -/
def isoJudge (v0 v1 v2 : Int × Bool × Int) (lowV : Bool) (idleCnt p : Nat) : Nat × Option (Nat × Nat × Nat) :=
  if lowV then (0x10, none)
  else if !(v0.2.1 && v1.2.1 && v2.2.1) then (0x08, none)
  else if v1.1 ≤ v2.1 then (0x04, none)
  else
    let d : Rat := ((v1.1 - v2.1 : Int) : Rat)
    let gp : Rat := max 0 ((v2.1 : Int) / (1000000 * d))
    let gn : Rat := max 0 (((v1.2.2 - v1.1 : Int) : Rat) / (1000000 * d))
    let u : Rat := (v0.2.2 : Int)
    if gp + gn = 0 ∨ u * 2 / 100 < |((v0.1 : Int) : Rat) - u * gp / (gp + gn)| then (0x04, none)
    else
      let c : Rat := ((idleCnt + p : Nat) : Rat) / 208000000
      let gp1 := max 0 (gp - c)
      let gn1 := max 0 (gn - c)
      let t := ohmOf (gp1 + gn1)
      (0x40 + t.2, some (t.1, (ohmOf gp1).1, (ohmOf gn1).1))

/-- A phase ends: its value is taken and the injection path changes; a U below 50 V ends the cycle (R171, R182). -/
def isoPhase (s : State) (vc u100 moved uMin : Int) : State :=
  let settled := decide (200 * (moved.natAbs : Int) < s.hvm.vStr)
  let add (h : HvmSt) : HvmSt := { h with vc := h.vc ++ [(vc, settled, u100)], isoLow := h.isoLow || decide (uMin < 50000) }
  match s.hvm.iso with
  | .idle => s
  | .p0 => put { s with hvm := { add s.hvm with iso := .p1 } } R.HVM_STATUS_ISO_ACTIVE true
  | .p1 => if 3 ≤ s.hvm.vc.length then s else { s with hvm := { add s.hvm with iso := .p2 } }
  | .p2 => if 3 ≤ s.hvm.vc.length then s else put { s with hvm := add s.hvm } R.HVM_STATUS_ISO_ACTIVE false

/-- The end of a cycle: its result, its record, and the next cycle (R172, R173, R179). The value fields of the record hold the latest
instant's values, and I_MIN and I_MAX its current (DESIGN CHOICE, log 14: the spec gives them for a report period). -/
def isoEnd (s : State) : State :=
  let h := s.hvm
  if h.iso = .idle ∨ (h.vc.length < 3 ∧ !h.isoLow) then s
  else
    let z : Int × Bool × Int := (0, false, 0)
    let j := isoJudge (h.vc.getD 0 z) (h.vc.getD 1 z) (h.vc.getD 2 z) h.isoLow (cfgU s 13 2 3 1) (b2n (setPair s))
    let now := ptNow s
    let s1 := { s with hvm := { h with isoFlags := j.1, vc0 := (h.vc.getD 0 z).1 } }
    let s2 := wr (wr s1 R.HVM_ISO_T_LO_TIME now) R.HVM_ISO_T_HI_TIME (now >>> 32)
    let r := j.2.getD (0xFFFFFFFF, 0xFFFFFFFF, 0xFFFFFFFF)
    let s3 := wr (wr (wr s2 R.HVM_ISO_TOTAL_OHM r.1) R.HVM_ISO_POS_OHM r.2.1) R.HVM_ISO_NEG_OHM r.2.2
    let s4 := put s3 R.HVM_STATUS_ISO_VALID j.2.isSome
    let s5 := match j.2 with
      | some v => { s4 with hvm := { s4.hvm with isoValid := some (v.1, now, otNow s4) } }
      | none => errRise s4 R.HVM_ERR_ISO_INVALID 0 0
    isoNext (hvmWrite s5 (hvmRecord s5 2 s5.hvm s5.hvm.iShunt s5.hvm.iShunt))

/-- HVM starts (step 8 of R71): the first cycle runs at once whatever the slots. -/
def hvmStart (s : State) : State :=
  let s1 := put { s with hvm := HvmSt.init } R.HVM_STATUS_RUN true
  isoBegin s1

/-! ### The rows of HVM -/

/-- HVM_REPORT: the means over the period and the extremes of the shunt samples (R179, R180). -/
def execHvmReport (means : HvmIn) (iMinNv iMaxNv : Int) (s : State) : Host.Outcome State Fault Refusal :=
  if !flag s R.HVM_STATUS_RUN then .next s
  else
    let s1 := hallFollow (overCount s means.overN false) means.hallSig means.hallRef
    let bad := s1.hvm.shOver || s1.hvm.shCm
    let sh (nv : Int) : Option Int := if bad then none else some (shuntMa s1 nv)
    let a := sh iMinNv
    let b := sh iMaxNv
    let lo := match a, b with
      | some x, some y => some (min x y)
      | _, _ => none
    let hi := match a, b with
      | some x, some y => some (max x y)
      | _, _ => none
    let v := { s1.hvm with vStr := voltU means.vStr, vLink := voltS (means.vLinkPos - means.vLinkNeg), vPre := voltU means.vPre,
                           vLinkNeg := voltS means.vLinkNeg, iShunt := sh means.shuntNv,
                           iHall := if hallBad means.hallSig means.hallRef then none else some (hallMa s1 means.hallSig means.hallRef) }
    .next (hvmWrite s1 (hvmRecord s1 1 v lo hi))

/-- INSULATION_PHASE_END. -/
def execInsulationPhaseEnd (vc u100 moved uMin : Int) (s : State) : Host.Outcome State Fault Refusal :=
  .next (isoPhase s vc u100 moved uMin)

/-- INSULATION_CYCLE_END. -/
def execInsulationCycleEnd (s : State) : Host.Outcome State Fault Refusal := .next (isoEnd s)

/-- Whether plant time stands in the module's slot of its frame (R173). -/
def inSlot (s : State) : Bool :=
  let ms := cfgU s 13 2 4 2 * 1000000
  let at' := ptNow s % (max 1 (cfgU s 13 2 1 1) * max 1 ms)
  decide (cfgU s 13 2 2 1 * ms ≤ at') && decide (at' < (cfgU s 13 2 2 1 + 1) * ms)

/-- INSULATION_SLOT_START: the module's slot begins (R173); with one slot a cycle begins where none runs. -/
def execInsulationSlotStart (s : State) : Host.Outcome State Fault Refusal :=
  if s.hvm.iso ≠ .idle ∨ !flag s R.HVM_STATUS_RUN then .next s
  else
    let s1 := cfgBoundary s (itemKey 13 2)
    if cfgU s1 13 2 1 1 ≤ 1 then .next (isoBegin (put s1 R.HVM_STATUS_NO_SLOT false))
    else if !flag s1 R.PTP_STATUS_ACQ then .next (put s1 R.HVM_STATUS_NO_SLOT (isoMay s1))
    else if !inSlot s1 then .next s1
    else .next (isoBegin (put s1 R.HVM_STATUS_NO_SLOT false))

/-- SHUNT_OVER_RANGE: over-range for 1 ms (R170). -/
def execShuntOverRange (overN : Nat) (s : State) : Host.Outcome State Fault Refusal :=
  .next (if flag s R.HVM_STATUS_RUN then shuntFault (overCount s overN true) false else s)

/-- SHUNT_COMMON_MODE_FAULT (R170). -/
def execShuntCommonModeFault (s : State) : Host.Outcome State Fault Refusal :=
  .next (if flag s R.HVM_STATUS_RUN then shuntFault s true else s)

/-- HALL_FAULT: the Hall pins leave their ranges, or return (R170). -/
def execHallFault (hallSig hallRef : Int) (s : State) : Host.Outcome State Fault Refusal :=
  if !flag s R.HVM_STATUS_RUN then .next s
  else
    let s1 := hallFollow s hallSig hallRef
    let ha := if hallBad hallSig hallRef then none else some (hallMa s1 hallSig hallRef)
    .next (hvmShow { s1 with hvm := { s1.hvm with iHall := ha } })

end Sys2Proof.Machine
end

