-- ==== Sys2Proof/Machine/Bal.lean ====
section
/-! DEFINITION. BAL: bleed timers, the 1 s supervision round, tap-wire calibration and its queue pair (R192 to R201). -/

namespace Sys2Proof.Machine

open Sys2Proof

/-- Non-zero timers of a list. -/
def nonZero (l : List Nat) : Nat := (l.filter (fun x => decide (x ≠ 0))).length

/-- A tile's timers as a SET_TIMERS would leave them: 0xFFFF leaves a timer as it is (R198). -/
def timersWanted (old new : List Nat) : List Nat := (old.zip new).map (fun x => if x.2 = 0xFFFF then x.1 else x.2)

/-- A tile after BAL wrote its timers through TMR_PTR and TMR_DATA, the zeros first, so that no write exceeds the limit of R184
on the way (DEDUCED, log 15). -/
def tileWriteTimers (t : Tile) (new : List Nat) : Tile :=
  let sel := (new.zipIdx).filter (fun x => decide (x.1 ≠ 0xFFFF))
  let ws := (sel.filter (fun x => decide (x.1 = 0))) ++ (sel.filter (fun x => decide (x.1 ≠ 0)))
  ws.foldl (fun t x => tileRegWr (tileRegWr t (0x26, x.2)) (0x27, x.1)) t

/-- BAL writes a tile's timers and takes what it reads back into its shadow (R194, R198). -/
def balWrite (s : State) (p : Nat) (new : List Nat) : State :=
  match tileByPos s p with
  | none => s
  | some k =>
    let s1 := tileMod s k (fun t => tileWriteTimers t new)
    { s1 with bal := { s1.bal with shadow := s1.bal.shadow.set p (tileAt s1 k).timers } }

/-- The positions of a mask that the chain reaches. -/
def reachedMask (s : State) (mask : Nat) : List Nat := (List.range 24).filter (fun p => bitOf mask p && (tileByPos s p).isSome)

/-- The positions of a mask, rising. -/
def maskList (mask : Nat) : List Nat := (List.range 24).filter (bitOf mask)

/-- The mask of a list of positions. -/
def listMask (ps : List Nat) : Nat := ps.foldl (fun m p => setBit m p true) 0

/-- The tile at a position, or a tile asleep. -/
def posTile (s : State) (p : Nat) : Tile := match tileByPos s p with
  | some k => tileAt s k
  | none => Tile.asleep TileTrim.nominal

/-- The tile at a position changed, where one is reached. -/
def tileAtPos (s : State) (p : Nat) (f : Tile → Tile) : State := match tileByPos s p with
  | some k => tileMod s k f
  | none => s

/-- SET_TIMERS (R198): every masked tile is checked before any is written. -/
def balSetTimers (e : Entry) (s : State) : State × EntrySt :=
  if !flag s R.BAL_STATUS_RUN || flag s R.BAL_STATUS_CAL_RUN then failR s 0x06
  else withBuf e s (fun bs =>
    let ps := maskList e.arg0
    let wants (i : Nat) : List Nat := (List.range 24).map (fun j => fieldAt bs (48 * i + 2 * j) 2)
    let now (p : Nat) : List Nat := (posTile s p).timers
    match (ps.zipIdx).find? (fun x => decide (12 < nonZero (timersWanted (now x.1) (wants x.2)))) with
    | some x => failX s 0x40 x.1
    | none =>
      match (ps.zipIdx).find? (fun x => decide (cfgU s 14 1 0 1 = 1) && (tileByPos s x.1).isSome && !(posTile s x.1).tapValid
          && (wants x.2).any (fun v => decide (v ≠ 0) && decide (v ≠ 0xFFFF))) with
      | some x => failX s 0x41 x.1
      | none => okR ((ps.zipIdx).foldl (fun s x => balWrite s x.1 (wants x.2)) s) (listMask (reachedMask s e.arg0)))

/-- STOP (R198). -/
def balStop (e : Entry) (s : State) : State × EntrySt :=
  if !flag s R.BAL_STATUS_RUN || flag s R.BAL_STATUS_CAL_RUN then failR s 0x06
  else okR ((maskList e.arg0).foldl (fun s p => balWrite s p (List.replicate 24 0)) s) (listMask (reachedMask s e.arg0))

/-- BAL_SNAP (R199): as the latest 1 s round found the tiles. -/
def balSnapOp (e : Entry) (s : State) : State × EntrySt :=
  if !flag s R.BAL_STATUS_RUN then failR s 0x06
  else okR (memWrite s e.addr (padTo 1536 s.bal.snap.flatten)) 1536

/-! ### Tap-wire calibration (R192, R193) -/

/-- Whether MEAS schedules 100 instants per second or more. -/
def measFast (s : State) : Bool :=
  match s.meas.table with
  | none => true
  | some t => decide (100 * tableCycle t s.meas.carrierNs ≤ t.entries.length * 1000000000)

/-- Whether a tile's cells read between 2.5 and 4.5 V. -/
def cellsInCal (t : Tile) : Bool :=
  match t.hold.head? with
  | some h => h.cells.all (fun c => decide (250000 ≤ c % 2 ^ 20) && decide (c % 2 ^ 20 ≤ 450000))
  | none => false

/-- TAP_CAL starts (R192): `iMa` is the shunt current. -/
def balTapCal (iMa : Int) (e : Entry) (s : State) : State × EntrySt :=
  let ps := reachedMask s e.arg0
  if !flag s R.BAL_STATUS_RUN || flag s R.BAL_STATUS_CAL_RUN then failR s 0x06
  else if cfgU s 14 1 4 2 < iMa.natAbs ∨ !measFast s ∨ ps.any (fun p => !cellsInCal (posTile s p) || decide ((posTile s p).active ≠ 0)) then
    failR s 0x42
  else
    let s1 := ps.foldl (fun s p => tileAtPos s p (fun t => { t with cal := true })) s
    (put { s1 with bal := { s1.bal with calMask := some (listMask ps) } } R.BAL_STATUS_CAL_RUN true, .running e.arg0)

/-- How far a cell's mean moved as FET j went on, in 10 µV. -/
def calStep (a b : Nat) : Rat := (b : Rat) - (a : Rat)

/-- I_j × 10 µΩ in 10 µV of a calibration step: the cell's mean with FET j on ÷ R_BLEED_j (R189, R192). -/
def calAmp (t : Tile) (steps : List CalStep) (j : Nat) : Rat :=
  let c := steps.getD j { offLo := 0, off := 0, offHi := 0, onLo := 0, on := 0, onHi := 0 }
  ((c.on : Nat) : Rat) / (100 * (max 1 (t.trim.rBleed.getD j 16800) : Nat))

/-- The two estimates of an inner tap k in 10 µΩ (R192): cell k raises cell k − 1 by R_k × I_k, and cell k − 1 raises cell k. -/
def calInner (t : Tile) (steps : List CalStep) (k : Nat) : Rat × Rat :=
  let c (j : Nat) : CalStep := steps.getD j { offLo := 0, off := 0, offHi := 0, onLo := 0, on := 0, onHi := 0 }
  (calStep (c k).offLo (c k).onLo / calAmp t steps k, calStep (c (k - 1)).offHi (c (k - 1)).onHi / calAmp t steps (k - 1))

/-- The results of a tile in 10 µΩ, R_0 to R_24, and whether two estimates differ by more than 5 mΩ (R192). -/
def calResult (t : Tile) (steps : List CalStep) : List Int × Bool :=
  let c (j : Nat) : CalStep := steps.getD j { offLo := 0, off := 0, offHi := 0, onLo := 0, on := 0, onHi := 0 }
  let mean (k : Nat) : Rat := let e := calInner t steps k; (e.1 + e.2) / 2
  let own (j : Nat) : Rat := -(calStep (c j).off (c j).on / calAmp t steps j)
  let r (k : Nat) : Rat := if k = 0 then own 0 - mean 1 else if k = 24 then own 23 - mean 23 else mean k
  let apart (k : Nat) : Bool := let e := calInner t steps k; decide (500 < |e.1 - e.2|)
  ((List.range 25).map (fun k => roundRat (r k)), (List.range 24).any (fun k => decide (k ≠ 0) && apart k))

/-- Whether a tile's results pass (R193): each between −5 and 300 mΩ, and consistent. -/
def tapPass (r : List Int) (incons : Bool) : Bool :=
  !incons && decide (r.length = 25) && r.all (fun x => decide (-500 ≤ x) && decide (x ≤ 30000))

/-- The 64 bytes of a tile in a TAP_CAL buffer (R199): the values in force, with FLAGS for a named tile. -/
def tapBytes (v : Option TapVals) (flags : Nat) : List Byte :=
  match v with
  | some v => (v.r.map (leBytes 2)).flatten ++ leBytes 2 v.tcal ++ leBytes 2 flags ++ zeros 10
  | none => zeros 52 ++ leBytes 2 flags ++ zeros 10

/-- The TAP_CAL that runs finishes: its buffer, STATUS and RESULT. -/
def calFinish (s : State) (status result : Nat) (buf : List Byte) : State :=
  match (qpAt s 14).entries.find? (Entry.runs 0x43) with
  | some e => finishEntry (memWrite s e.addr buf) 14 (Entry.runs 0x43) status result 0
  | none => s

/-- Whether the conditions of R192 have held throughout: the largest |I_SHUNT| and the extremes of the cells of the named tiles in the run,
the rate of instants, and the timers. -/
def calHeld (s : State) (mask iMax vMin vMax : Nat) : Bool :=
  decide (iMax ≤ cfgU s 14 1 4 2) && decide (250000 ≤ vMin) && decide (vMax ≤ 450000) && measFast s
  && (maskList mask).all (fun p => decide ((posTile s p).active = 0))

/-- Calibration ends (R192, R193). `steps` and `tcals` are by position: the means of each cell's step, and the mean diode reading. -/
def balCalDone (s : State) (iMax vMin vMax : Nat) (steps : List (List CalStep)) (tcals : List Nat) : State :=
  match s.bal.calMask with
  | none => s
  | some mask =>
    let condOk := calHeld s mask iMax vMin vMax
    let res := (List.range 24).map (fun p => calResult (posTile s p) (steps.getD p []))
    let rs := res.map Prod.fst
    let incons := listMask ((maskList mask).filter (fun p => (res.getD p ([], false)).2))
    let s0 := put { s with bal := { s.bal with calMask := none }, tiles := s.tiles.map (fun t => { t with cal := false }) }
      R.BAL_STATUS_CAL_RUN false
    if !condOk then finishEntry s0 14 (Entry.runs 0x43) 0x42 0 0
    else
      let pass (p : Nat) : Bool := bitOf mask p && tapPass (rs.getD p []) (bitOf incons p)
      let vals (p : Nat) : TapVals := { r := (rs.getD p []).map Int.toNat, tcal := tcals.getD p 0 }
      let ok := (List.range 24).filter pass
      let bad := (maskList mask).filter (fun p => !pass p)
      let taps := (s0.bal.taps.zipIdx).map (fun x => if pass x.2 then some (vals x.2) else x.1)
      let s1 := { s0 with bal := { s0.bal with taps := taps } }
      let s2 := if !ok.isEmpty && storTakes s1 then cfgStore s1 (fun c => { c with taps := taps }) else s1
      let s3 := ok.foldl (fun s p => tileAtPos s p (fun t => { t with rtap := (vals p).r, tcal := (vals p).tcal, tapValid := true })) s2
      let s4 := wr s3 R.BAL_CAL_VALID_MASK (calValidMask s3)
      let s5 := bad.foldl (fun s p => errRise s R.BAL_ERR_CAL_FAIL p 0) s4
      let fl (p : Nat) : Nat :=
        if !bitOf mask p then 0
        else 1 + 2 * b2n (pass p && (vals p).r.any (fun x => decide (15000 ≤ x))) + 4 * b2n (!pass p) + 8 * b2n (bitOf incons p)
      let buf := ((List.range 24).map (fun p => if (tileByPos s5 p).isSome then tapBytes (taps.getD p none) (fl p) else zeros 64)).flatten
      calFinish s5 (if bad.isEmpty then 0 else 0x43) (listMask ok) buf

/-! ### The 1 s round (R194) -/

/-- Whether a tile's timers disagree with the shadow after so many seconds. -/
def balMismatch (shadow now : List Nat) (elapsed : Nat) : Bool :=
  (shadow.zip now).any (fun x => decide (x.1 < x.2) || decide (x.2 + elapsed + 1 < x.1))

/-- The 64 bytes of a tile in a BAL_SNAP (R199). -/
def balSnapBytes (t : Tile) : List Byte :=
  (t.timers.map (leBytes 2)).flatten ++ leBytes 2 (tileReg t 0x21) ++ leBytes 2 (tileReg t 0x24) ++ leBytes 2 (tileReg t 0x25)
    ++ leBytes 2 (tileReg t 0x2B) ++ leBytes 2 t.diode ++ leBytes 2 (tileReg t 0x2C) ++ zeros 4

/-- One tile in the round: mismatch, then REJ_CNT. -/
def balRoundTile (elapsed : Nat) (s : State) (p : Nat) : State :=
  match tileByPos s p with
  | none => s
  | some k =>
    let t := tileAt s k
    let s1 :=
      if balMismatch (s.bal.shadow.getD p []) t.timers elapsed then
        errRise (bump (balWrite s p (List.replicate 24 0)) R.BAL_MISMATCH_CNT_COUNT) R.BAL_ERR_MISMATCH p 0
      else { s with bal := { s.bal with shadow := s.bal.shadow.set p t.timers } }
    if s1.bal.rejSeen.getD p 0 = t.rejCnt % 65536 then s1
    else errRise { s1 with bal := { s1.bal with rejSeen := s1.bal.rejSeen.set p (t.rejCnt % 65536) } } R.BAL_ERR_REJECTED p 0

/-- BAL.STATUS.N_BLEED and BAL.HELD (R201): over the tiles that the unit reaches, as they stand at the read (DESIGN CHOICE, log 15). -/
def bleedCount (s : State) : Nat := ((List.range 24).map (fun p => nonZero (posTile s p).timers)).sum
def heldNow (s : State) : Nat := maskOf (fun p => (tileByPos s p).isSome && (posTile s p).balStop) (List.range 24)

/-- The round: supervision, the masks, the delivered powers for THERM, and the snapshot. A BAL that does not supervise delivers no power
(R250; DEDUCED, log 18). -/
def balRound (s : State) (elapsed : Nat) : State :=
  if !flag s R.BAL_STATUS_RUN || !commands s || !fullUp s then { s with therm := { s.therm with pBal := List.replicate 24 0 } }
  else
    let s1 := (List.range 24).foldl (balRoundTile elapsed) s
    let at0 (p : Nat) : Tile := posTile s1 p
    let s2 := wr s1 R.BAL_DERATED_MASK (maskOf (fun p => (at0 p).derated) (List.range 24))
    let s4 := wr s2 R.BAL_CAL_VALID_MASK (calValidMask s2)
    { s4 with therm := { s4.therm with pBal := (List.range 24).map (fun p => (at0 p).pReq * (at0 p).share) }
              bal := { s4.bal with snap := (List.range 24).map (fun p => if (tileByPos s4 p).isSome then balSnapBytes (at0 p) else zeros 64) } }

/-! ### The rows of BAL -/

/-- SET_TIMERS on QP14. -/
def execSetTimers (s : State) : Host.Outcome State Fault Refusal := .next (runEntry s 14 0x40 balSetTimers)

/-- STOP on QP14. -/
def execBleedStop (s : State) : Host.Outcome State Fault Refusal := .next (runEntry s 14 0x41 balStop)

/-- BAL_SNAP on QP14. -/
def execBalSnap (s : State) : Host.Outcome State Fault Refusal := .next (runEntry s 14 0x42 balSnapOp)

/-- TAP_CAL on QP14. -/
def execTapCal (iMa : Int) (s : State) : Host.Outcome State Fault Refusal := .next (runEntry s 14 0x43 (balTapCal iMa))

/-- TAP_CAL_DONE: the calibration has run, or a condition failed. -/
def execTapCalDone (iMax vMin vMax : Nat) (steps : List (List CalStep)) (tcals : List Nat) (s : State) : Host.Outcome State Fault Refusal :=
  .next (balCalDone s iMax vMin vMax steps tcals)

/-- BAL_ROUND (R194). -/
def execBalRound (elapsedS : Nat) (s : State) : Host.Outcome State Fault Refusal := .next (balRound s elapsedS)

end Sys2Proof.Machine
end

