-- ==== Sys2Proof/Machine/F32.lean ====
section
/-! DEFINITION. IEEE 754 binary32 with round-to-nearest-even, as EST, EIS and CTRL compute in it (R204, R236, R276): each
operation forms the exact result and rounds it once. -/

namespace Sys2Proof.Machine

/-- A binary32 value: not a number, an infinity, or sign, mantissa and exponent of a finite value m × 2^e. -/
inductive Fp where
  | nan | inf (neg : Bool) | fin (neg : Bool) (m : Nat) (e : Int)
  deriving DecidableEq, Repr

/-- The value of a code. -/
def fpOf (w : Word) : Fp :=
  let x := w.toNat
  let neg := x.testBit 31
  let ex := (x >>> 23) % 256
  let fr := x % 2 ^ 23
  if ex = 255 then (if fr = 0 then .inf neg else .nan)
  else if ex = 0 then .fin neg fr (-149)
  else .fin neg (fr + 2 ^ 23) ((ex : Int) - 150)

/-- The code of the quiet NaN that an invalid operation gives. -/
def fNaN : Word := 0x7FC00000

/-- The code of an infinity. -/
def fInf (neg : Bool) : Word := if neg then 0xFF800000 else 0x7F800000

/-- The code nearest to m × 2^e, ties to even; `sticky` says that the exact value lies a little above m × 2^e. -/
def fRound (neg : Bool) (m : Nat) (e : Int) (sticky : Bool) : Word :=
  let sgn : Nat := if neg then 2 ^ 31 else 0
  if m = 0 then BitVec.ofNat 32 sgn
  else
    let top : Int := (Nat.log2 m : Int) + e
    let lsb : Int := if top < -126 then -149 else top - 23
    let sh : Int := lsb - e
    let q : Nat :=
      if sh ≤ 0 then m <<< (-sh).toNat
      else
        let s := sh.toNat
        let q0 := m >>> s
        let r := m % 2 ^ s
        let half := 2 ^ (s - 1)
        if half < r ∨ (r = half ∧ (sticky ∨ q0 % 2 = 1)) then q0 + 1 else q0
    let code : Nat := if top < -126 then q else (top + 126).toNat * 2 ^ 23 + q
    if 0x7F800000 ≤ code then fInf neg else BitVec.ofNat 32 (sgn + code)

/-- The code nearest to an integer times 2^e. -/
def fOfScaled (x : Int) (e : Int) : Word := fRound (decide (x < 0)) x.natAbs e false

/-- An integer as binary32. -/
def fOfInt (x : Int) : Word := fOfScaled x 0

/-- The code nearest to n ÷ d (d above 0). -/
def fOfRatio (n : Int) (d : Nat) : Word :=
  if d = 0 then fNaN
  else
    let sc := n.natAbs <<< 96
    fRound (decide (n < 0)) (sc / d) (-96) (decide (sc % d ≠ 0))

/-- Negation. -/
def fNeg (a : Word) : Word := a ^^^ 0x80000000

/-- Magnitude. -/
def fAbs (a : Word) : Word := a &&& 0x7FFFFFFF

/-- Sum. -/
def fAdd (a b : Word) : Word :=
  match fpOf a, fpOf b with
  | .nan, _ => fNaN
  | _, .nan => fNaN
  | .inf s, .inf t => if s = t then fInf s else fNaN
  | .inf s, _ => fInf s
  | _, .inf t => fInf t
  | .fin s m e, .fin t n f =>
    let lo := min e f
    let x : Int := (if s then -1 else 1) * ((m <<< (e - lo).toNat : Nat) : Int)
    let y : Int := (if t then -1 else 1) * ((n <<< (f - lo).toNat : Nat) : Int)
    let z := x + y
    if z = 0 then (if s && t then 0x80000000 else 0) else fOfScaled z lo

/-- Difference. -/
def fSub (a b : Word) : Word := fAdd a (fNeg b)

/-- Product. -/
def fMul (a b : Word) : Word :=
  match fpOf a, fpOf b with
  | .nan, _ => fNaN
  | _, .nan => fNaN
  | .inf s, .inf t => fInf (s != t)
  | .inf s, .fin t n _ => if n = 0 then fNaN else fInf (s != t)
  | .fin s m _, .inf t => if m = 0 then fNaN else fInf (s != t)
  | .fin s m e, .fin t n f => fRound (s != t) (m * n) (e + f) false

/-- Quotient. -/
def fDiv (a b : Word) : Word :=
  match fpOf a, fpOf b with
  | .nan, _ => fNaN
  | _, .nan => fNaN
  | .inf _, .inf _ => fNaN
  | .inf s, .fin t _ _ => fInf (s != t)
  | .fin s _ _, .inf t => if s != t then 0x80000000 else 0
  | .fin s m e, .fin t n f =>
    if n = 0 then (if m = 0 then fNaN else fInf (s != t))
    else
      let sc := m <<< 64
      fRound (s != t) (sc / n) (e - f - 64) (decide (sc % n ≠ 0))

/-- Square root. -/
def fSqrt (a : Word) : Word :=
  match fpOf a with
  | .nan => fNaN
  | .inf s => if s then fNaN else fInf false
  | .fin s m e =>
    if m = 0 then a
    else if s then fNaN
    else
      let odd := e % 2 ≠ 0
      let m2 := (if odd then 2 * m else m) <<< 64
      let e2 := (if odd then e - 1 else e) - 64
      let r := Nat.sqrt m2
      fRound false r (e2 / 2) (decide (r * r ≠ m2))

/-- Strictly below; false where either is not a number. -/
def fLt (a b : Word) : Bool :=
  match fpOf a, fpOf b with
  | .nan, _ => false
  | _, .nan => false
  | .inf s, .inf t => s && !t
  | .inf s, _ => s
  | _, .inf t => !t
  | .fin s m e, .fin t n f =>
    let lo := min e f
    let x : Int := (if s then -1 else 1) * ((m <<< (e - lo).toNat : Nat) : Int)
    let y : Int := (if t then -1 else 1) * ((n <<< (f - lo).toNat : Nat) : Int)
    decide (x < y)

/-- At or below. -/
def fLe (a b : Word) : Bool :=
  match fpOf a, fpOf b with
  | .nan, _ => false
  | _, .nan => false
  | _, _ => !fLt b a

/-- The smaller and the larger of two values. -/
def fMin (a b : Word) : Word := if fLt b a then b else a
def fMax (a b : Word) : Word := if fLt a b then b else a

/-- A value held between two bounds. -/
def fClamp (lo hi a : Word) : Word := if fLt a lo then lo else if fLt hi a then hi else a

/-- The nearest integer to a value times 2^sc, ties away from zero (R14); 0 for what is not a number, and an end that any
saturation takes for an infinity. -/
def fToScaled (a : Word) (sc : Nat) : Int :=
  match fpOf a with
  | .nan => 0
  | .inf s => if s then -(2 ^ 200) else 2 ^ 200
  | .fin s m e =>
    let e2 := e + sc
    let mag : Nat :=
      if 0 ≤ e2 then m <<< e2.toNat
      else
        let d := 2 ^ (-e2).toNat
        (2 * m + d) / (2 * d)
    if s then -(mag : Int) else mag

/-- The nearest integer (R14). -/
def fToInt (a : Word) : Int := fToScaled a 0

/-- Sum of a list, from its first element on. -/
def fSum (l : List Word) : Word := l.foldl fAdd 0

/-- Constants. -/
def f0 : Word := 0
def f1 : Word := 0x3F800000
def f2 : Word := 0x40000000

/-- A rational number as binary32. -/
def fOfRat (q : Rat) : Word := fOfRatio q.num q.den

/-- Whether a code is a finite number. -/
def fFinite (a : Word) : Bool := match fpOf a with
  | .fin _ _ _ => true
  | _ => false

/-! ### Transcendental functions

Each is computed in units of 2^-96 and rounded once to the nearest code (R204, R236, R238; DEDUCED, log 9). -/

/-- 1, π and ln 2 in units of 2^-96. -/
def fixOne : Int := 2 ^ 96
def fixPi : Int := 248902613312231085230521944622
def fixLn2 : Int := 54916777467707473351141471128

/-- A product in units of 2^-96. -/
def fixMul (a b : Int) : Int := a * b / fixOne

/-- The series whose term k is its predecessor times `x` ÷ `d k`, from `term` on. -/
def fixSeries (x : Int) (d : Nat → Nat) : Nat → Nat → Int → Int
  | 0, _, _ => 0
  | fuel + 1, k, term => term + fixSeries x d fuel (k + 1) (fixMul term x / (d k : Nat))

/-- cos and sin of an angle of at most π ÷ 4, and e^x for x of at most ln 2. -/
def fixCos (t : Int) : Int := fixSeries (-(fixMul t t)) (fun k => (2 * k + 1) * (2 * k + 2)) 20 0 fixOne
def fixSin (t : Int) : Int := fixSeries (-(fixMul t t)) (fun k => (2 * k + 2) * (2 * k + 3)) 20 0 t
def fixExp (x : Int) : Int := fixSeries x (fun k => k + 1) 40 0 fixOne

/-- The odd powers of z over their exponents, with the sign of z² given: atan (−1) and artanh (+1). -/
def fixOdd (sg z : Int) : Int := ((List.range 50).foldl (fun (a : Int × Int) k => (a.1 + a.2 / (2 * k + 1 : Nat), sg * fixMul a.2 (fixMul z z))) (0, z)).1

/-- cos(2π × num ÷ den), by its octant. -/
def cosTurn (num den : Nat) : Int :=
  let y := 4 * (num % den)
  let y1 := if 2 * den < y then 4 * den - y else y
  let y2 := if den < y1 then 2 * den - y1 else y1
  let c := if 2 * y2 ≤ den then fixCos (fixPi * y2 / (2 * den)) else fixSin (fixPi * (den - y2) / (2 * den))
  if den < y1 then -c else c

/-- sin(2π × num ÷ den). -/
def sinTurn (num den : Nat) : Int := cosTurn (4 * num + 3 * den) (4 * den)

/-- atan(a ÷ b) for 0 ≤ a ≤ b, b above 0. -/
def fixAtan (a b : Int) : Int :=
  let t := a * fixOne / b
  if 5 * a ≤ 2 * b then fixOdd (-1) t else fixPi / 4 - fixOdd (-1) ((fixOne - t) * fixOne / (fixOne + t))

/-- A finite value as m × 2^k, for two values of one k. -/
def fpAlign (s t : Bool) (m n : Nat) (e f : Int) : Int × Int :=
  let lo := min e f
  ((if s then -1 else 1) * ((m <<< (e - lo).toNat : Nat) : Int), (if t then -1 else 1) * ((n <<< (f - lo).toNat : Nat) : Int))

/-- atan2(y, x) in degrees. -/
def fAtan2Deg (y x : Word) : Word :=
  match fpOf y, fpOf x with
  | .fin s m e, .fin t n f =>
    let a := fpAlign s t m n e f
    let yy : Int := a.1.natAbs
    let xx : Int := a.2.natAbs
    let q := if yy = 0 ∧ xx = 0 then 0 else if yy ≤ xx then fixAtan yy xx else fixPi / 2 - fixAtan xx yy
    let h := if a.2 < 0 then fixPi - q else q
    let d := 180 * h * fixOne / fixPi
    fRound (decide (a.1 < 0)) d.toNat (-96) false
  | _, _ => fNaN

/-- e^x. -/
def fExp (x : Word) : Word :=
  match fpOf x with
  | .nan => fNaN
  | .inf s => if s then 0 else fInf false
  | .fin s m e =>
    if (Nat.log2 m : Int) + e ≥ 8 then (if s then 0 else fInf false)
    else
      let mag : Int := if 0 ≤ e + 96 then ((m <<< (e + 96).toNat : Nat) : Int) else ((m >>> (-(e + 96)).toNat : Nat) : Int)
      let v := if s then -mag else mag
      let k := v / fixLn2
      fRound false (fixExp (v - k * fixLn2)).toNat (k - 96) false

/-- ln n, n above 0. -/
def fixLn (n : Nat) : Int :=
  let l := Nat.log2 n
  let a : Int := (if l ≤ 96 then n <<< (96 - l) else n >>> (l - 96) : Nat)
  2 * fixOdd 1 ((a - fixOne) * fixOne / (a + fixOne)) + l * fixLn2

/-- ln x. -/
def fLn (x : Word) : Word :=
  match fpOf x with
  | .nan => fNaN
  | .inf s => if s then fNaN else fInf false
  | .fin s m e =>
    if m = 0 then fInf true
    else if s then fNaN
    else fOfScaled (fixLn m + e * fixLn2) (-96)

/-! ### Square matrices, row by row, and the Kalman update (R204, R208) -/

/-- Element (i, j) of a matrix of n columns. -/
def mAt (n : Nat) (m : List Word) (i j : Nat) : Word := m.getD (n * i + j) 0

/-- The n × n matrix of a function. -/
def mMk (n : Nat) (f : Nat → Nat → Word) : List Word :=
  (List.range n).flatMap (fun i => (List.range n).map (fun j => f i j))

/-- Product of two n × n matrices. -/
def mMul (n : Nat) (a b : List Word) : List Word :=
  mMk n (fun i j => fSum ((List.range n).map (fun k => fMul (mAt n a i k) (mAt n b k j))))

/-- Transpose. -/
def mT (n : Nat) (a : List Word) : List Word := mMk n (fun i j => mAt n a j i)

/-- Diagonal matrix. -/
def mDiag (d : List Word) : List Word := mMk d.length (fun i j => if i = j then d.getD i 0 else 0)

/-- Sum of two n × n matrices. -/
def mAdd (n : Nat) (a b : List Word) : List Word := mMk n (fun i j => fAdd (mAt n a i j) (mAt n b i j))

/-- After an update (R204): each off-diagonal pair at its mean, each diagonal at or above 10^-12. -/
def mTidy (n : Nat) (a : List Word) : List Word :=
  mMk n (fun i j => if i = j then fMax (mAt n a i i) 0x2B8CBCCC
    else fMul 0x3F000000 (fAdd (mAt n a i j) (mAt n a j i)))

/-- What a scalar update answers: the gains, the covariance after, and the innovation variance. -/
structure KfUp where
  k : List Word
  p : List Word
  s : Word

/-- A scalar Kalman update of a covariance for an observation with Jacobian h and variance r, in Joseph form (R204); the
gain of an element for which `on` is false is 0. -/
def kfUpdate (n : Nat) (p h : List Word) (r : Word) (on : Nat → Bool) : KfUp :=
  let ph := (List.range n).map (fun i => fSum ((List.range n).map (fun j => fMul (mAt n p i j) (h.getD j 0))))
  let s := fAdd (fSum ((List.range n).map (fun i => fMul (h.getD i 0) (ph.getD i 0)))) r
  let k := (List.range n).map (fun i => if on i then fDiv (ph.getD i 0) s else 0)
  let a := mMk n (fun i j => fSub (if i = j then f1 else 0) (fMul (k.getD i 0) (h.getD j 0)))
  let p1 := mMul n (mMul n a p) (mT n a)
  let p2 := mAdd n p1 (mMk n (fun i j => fMul (fMul (k.getD i 0) r) (k.getD j 0)))
  { k := k, p := mTidy n p2, s := s }

end Sys2Proof.Machine
end

