-- ==== Sys2Proof/Machine/EstMath.lean ====
section
/-! DEFINITION. EST's arithmetic: the chemistry tables (R212, R213), the cell model (R202, R203), the two filters (R208,
R209) and the state of power of one cell (R221). Where the spec leaves the order of binary32 operations open, the order
here is the model's (log 16). -/

namespace Sys2Proof.Machine

open Sys2Proof

/-! ### The chemistry (R212, R213) -/

/-- Rows in use, and the breakpoints in °C. -/
def chemNt (h : List Byte) : Nat := fieldAt h 0x28 1
def chemTbp (h : List Byte) (t : Nat) : Rat := (sInt 16 (fieldAt h (0x18 + 2 * t) 2) : Rat) / 100

/-- Header values: Q_NOM in mA·s, ETA_CHG, T_MAX in °C, V_MAX and V_MIN in V, SOC_MAX and SOC_MIN, C_TH in J/K, R_TH in K/W. -/
def chemQ (c : Chem) : Nat := fieldAt c.hdr 0 4 * 3600
def chemEta (c : Chem) : Rat := (fieldAt c.hdr 4 2 : Rat) / 10000
def chemTMax (c : Chem) : Rat := (sInt 16 (fieldAt c.hdr 6 2) : Rat) / 100
def chemVMax (c : Chem) : Rat := (fieldAt c.hdr 8 4 : Rat) / 1000000
def chemVMin (c : Chem) : Rat := (fieldAt c.hdr 12 4 : Rat) / 1000000
def chemSocMax (c : Chem) : Rat := (fieldAt c.hdr 16 2 : Rat) / 50000
def chemSocMin (c : Chem) : Rat := (fieldAt c.hdr 18 2 : Rat) / 50000
def chemCth (c : Chem) : Rat := (fieldAt c.hdr 20 2 : Rat)
def chemRth (c : Chem) : Rat := (fieldAt c.hdr 22 2 : Rat) / 1000

/-- OCV entry (t, s) in V, and parameter entry (t, s, p) in Ω or s. -/
def chemOcv (c : Chem) (t s : Nat) : Rat := (fieldAt c.ocv (4 * (41 * t + s)) 4 : Rat) / 1000000
def chemPar (c : Chem) (t s p : Nat) : Rat :=
  (fieldAt c.par (4 * (55 * t + 5 * s + p)) 4 : Rat) / (if p = 2 ∨ p = 4 then 1000 else 1000000000)

/-- The row segment that holds a temperature (at a breakpoint the one above, at the top the one below), and the place
within it, clamped to 0 to 1. -/
def chemRow (c : Chem) (tc : Rat) : Nat × Rat :=
  let n := chemNt c.hdr
  let i := ((List.range (n - 1)).filter (fun i => decide (chemTbp c.hdr i ≤ tc))).getLastD 0
  let a := chemTbp c.hdr i
  let b := chemTbp c.hdr (i + 1)
  (i, max 0 (min 1 ((tc - a) / (b - a))))

/-- The column segment of a table with n segments over SoC 0 to 1, and the place within it, clamped. -/
def socCol (n : Nat) (soc : Rat) : Nat × Rat :=
  let x := soc * n
  let i := min (n - 1) x.floor.toNat
  (i, max 0 (min 1 (x - i)))

/-- Bilinear interpolation (R213). -/
def bilin (f : Nat → Nat → Rat) (r c : Nat × Rat) : Rat :=
  let lo := f r.1 c.1 + c.2 * (f r.1 (c.1 + 1) - f r.1 c.1)
  let hi := f (r.1 + 1) c.1 + c.2 * (f (r.1 + 1) (c.1 + 1) - f (r.1 + 1) c.1)
  lo + r.2 * (hi - lo)

/-- OCV(SoC, T), its slope along SoC, and its slope along T (R213). -/
def ocvAt (c : Chem) (soc tc : Rat) : Rat := bilin (chemOcv c) (chemRow c tc) (socCol 40 soc)
def ocvSoc (c : Chem) (soc tc : Rat) : Rat :=
  let r := chemRow c tc
  let s := (socCol 40 soc).1
  let at0 (j : Nat) : Rat := chemOcv c r.1 j + r.2 * (chemOcv c (r.1 + 1) j - chemOcv c r.1 j)
  (at0 (s + 1) - at0 s) * 40
def ocvTemp (c : Chem) (soc tc : Rat) : Rat :=
  let r := chemRow c tc
  let s := socCol 40 soc
  let at0 (t : Nat) : Rat := chemOcv c t s.1 + s.2 * (chemOcv c t (s.1 + 1) - chemOcv c t s.1)
  (at0 (r.1 + 1) - at0 r.1) / (chemTbp c.hdr (r.1 + 1) - chemTbp c.hdr r.1)

/-- A parameter at SoC and temperature. -/
def parAt (c : Chem) (p : Nat) (soc tc : Rat) : Rat := bilin (fun t s => chemPar c t s p) (chemRow c tc) (socCol 10 soc)

/-- SoC_ocv(V, T) (R213): 0 below the curve, 1 above it, the midpoint of a flat span at V. -/
def socOcv (c : Chem) (v tc : Rat) : Rat :=
  let r := chemRow c tc
  let at0 (j : Nat) : Rat := chemOcv c r.1 j + r.2 * (chemOcv c (r.1 + 1) j - chemOcv c r.1 j)
  let below := ((List.range 41).filter (fun j => decide (at0 j < v))).length
  let upto := ((List.range 41).filter (fun j => decide (at0 j ≤ v))).length
  if below = 41 then 1
  else if upto = 0 then 0
  else if below + 1 < upto then ((below : Rat) + (upto - 1 : Nat)) / 80
  else if below + 1 = upto then (below : Rat) / 40
  else
    let a := at0 (below - 1)
    let b := at0 below
    (((below - 1 : Nat) : Rat) + (v - a) / (b - a)) / 40

/-- The variance of SoC_ocv: NV_V ÷ s², 1 where the slope is 0 (R213). -/
def socOcvVar (c : Chem) (nv : Word) (v tc : Rat) : Word :=
  let s := ocvSoc c (socOcv c v tc) tc
  if s = 0 then f1 else fDiv nv (fMul (fOfRat s) (fOfRat s))

/-- Whether staged items 2, 3 and 4 form a chemistry (R213): the number of the first item that does not, none if all do. -/
def chemBad (hdr ocv par : List Byte) : Option Nat :=
  let n := chemNt hdr
  let vmax := fieldAt hdr 8 4
  let vmin := fieldAt hdr 12 4
  let smax := fieldAt hdr 16 2
  let smin := fieldAt hdr 18 2
  let rising := (List.range (n - 1)).all (fun i => decide (chemTbp hdr i < chemTbp hdr (i + 1)))
  let o (t s : Nat) : Nat := fieldAt ocv (4 * (41 * t + s)) 4
  let pr (t s p : Nat) : Nat := fieldAt par (4 * (55 * t + 5 * s + p)) 4
  let ocvOk := (List.range n).all (fun t =>
    (List.range 40).all (fun s => decide (o t s ≤ o t (s + 1))) && decide (o t 0 + 1000 ≤ o t 40))
  let parOk := (List.range n).all (fun t => (List.range 11).all (fun s =>
    (List.range 5).all (fun p => decide (0 < pr t s p)) && decide (pr t s 2 < pr t s 4)))
  if !(decide (vmin < vmax) && decide (smin < smax) && rising) then some 2
  else if !ocvOk then some 3
  else if !parOk then some 4
  else none

/-! ### Fixed formats (R203) -/

/-- The elements of a cell's state as rational numbers. -/
def EstCell.socQ (c : EstCell) : Rat := (c.soc : Rat) / 2 ^ 62
def EstCell.vaQ (c : EstCell) : Rat := (c.va : Rat) / 2 ^ 31
def EstCell.vbQ (c : EstCell) : Rat := (c.vb : Rat) / 2 ^ 31
def EstCell.tcQ (c : EstCell) : Rat := (c.tc : Rat) / 2 ^ 22

/-- A multiplier. -/
def EstCell.gQ (c : EstCell) (i : Nat) : Rat := ((c.g.getD i 268435456 : Nat) : Rat) / 2 ^ 28
def EstCell.gF (c : EstCell) (i : Nat) : Word := fOfScaled (c.g.getD i 268435456) (-28)

/-- SoC held within −0.1 to 1.1, the others to their fields (R203, R14). -/
def socHold (x : Int) : Int := clampInt (-461168601842738790) 5072854620270126694 x
def s32Hold (x : Int) : Int := satS 32 (-2147483648) x

/-- A rational number in a fixed format of f fraction bits. -/
def toFix (f : Nat) (q : Rat) : Int := roundRat (q * 2 ^ f)

/-- The string's settings of items 1 and 5, as binary32 codes (R226). -/
def estF (s : State) (ofs : Nat) : Word := BitVec.ofNat 32 (cfgU s 15 5 ofs 4)

/-! ### The cell at its operating point (R202, R203) -/

/-- What a cell's model gives for a step: Rs, Ra, Rb, e^(−dt/τa), e^(−dt/τb), τa and τb in s, and the current in A. -/
structure EstPoint where
  rs : Word
  ra : Word
  rb : Word
  ea : Word
  eb : Word
  ta : Word
  tb : Word

/-- Rs, Ra, τa, Rb or τb (p = 0 to 4) of a cell at its present SoC and Tc. -/
def cellPar (ch : Chem) (c : EstCell) (p : Nat) : Word := fMul (c.gF p) (fOfRat (parAt ch p c.socQ c.tcQ))

/-- e^(−x). -/
def fExpNeg (x : Word) : Word := fExp (fNeg x)

/-- The operating point for a step of dt seconds. -/
def estPoint (ch : Chem) (c : EstCell) (dt : Word) : EstPoint :=
  let ta := cellPar ch c 2
  let tb := cellPar ch c 4
  { rs := cellPar ch c 0, ra := cellPar ch c 1, rb := cellPar ch c 3, ea := fExpNeg (fDiv dt ta), eb := fExpNeg (fDiv dt tb), ta := ta, tb := tb }

/-- The coulomb term in Q2.62 (R202, R204): η × I × dt ÷ Q from mA, ns and mA·s, without intermediate rounding. -/
def coulomb (ch : Chem) (c : EstCell) (iMa : Int) (dtNs : Nat) : Int :=
  let eta : Rat := if 0 < iMa then chemEta ch else 1
  let q : Rat := c.gQ 5 * (chemQ ch : Rat)
  toFix 62 (eta * iMa * dtNs / (q * 1000000000))

/-- Prediction over dtNs with a current (R202, R208): the state, its covariance and the sensitivities. `tb` is the boundary
temperature in °C. -/
def estPredict (ch : Chem) (qs qv qt : Word) (tb : Rat) (iMa : Int) (dtNs : Nat) (c : EstCell) : EstCell :=
  let dt := fOfRatio dtNs 1000000000
  let i := fOfRatio iMa 1000
  let o := estPoint ch c dt
  let va := fOfScaled c.va (-31)
  let vb := fOfScaled c.vb (-31)
  let eth := fExpNeg (fDiv dt (fOfRat (chemRth ch * chemCth ch)))
  let cth := fOfRat (chemCth ch)
  let dSoc := coulomb ch c iMa dtNs
  let dva := fMul (fSub f1 o.ea) (fSub (fMul i o.ra) va)
  let dvb := fMul (fSub f1 o.eb) (fSub (fMul i o.rb) vb)
  let heat := fAdd (fMul (fMul i i) o.rs) (fMul i (fAdd va vb))
  let dtc := fSub (fDiv (fMul dt heat) cth) (fMul (fSub f1 eth) (fSub (fOfScaled c.tc (-22)) (fOfRat tb)))
  let g := fDiv (fMul dt i) cth
  let f := [f1, 0, 0, 0, 0, o.ea, 0, 0, 0, 0, o.eb, 0, 0, g, g, eth]
  let p1 := mMul 4 (mMul 4 f c.p) (mT 4 f)
  let p2 := mAdd 4 p1 (mDiag [fMul qs dt, fMul qv dt, fMul qv dt, fMul qt dt])
  let dea := fDiv (fMul o.ea (fDiv dt o.ta)) (c.gF 2)
  let deb := fDiv (fMul o.eb (fDiv dt o.tb)) (c.gF 4)
  let sn (j : Nat) : Word := c.sens.getD j 0
  let sens := [fSub (sn 0) (fDiv (fOfScaled dSoc (-62)) (c.gF 5)),
    fAdd (fMul o.ea (sn 1)) (fMul (fMul i (fDiv o.ra (c.gF 1))) (fSub f1 o.ea)),
    fAdd (fMul o.ea (sn 2)) (fMul (fSub va (fMul i o.ra)) dea),
    fAdd (fMul o.eb (sn 3)) (fMul (fMul i (fDiv o.rb (c.gF 3))) (fSub f1 o.eb)),
    fAdd (fMul o.eb (sn 4)) (fMul (fSub vb (fMul i o.rb)) deb)]
  { c with soc := socHold (c.soc + dSoc), va := s32Hold (c.va + fToScaled dva 31), vb := s32Hold (c.vb + fToScaled dvb 31),
           tc := s32Hold (c.tc + fToScaled dtc 22), p := p2, sens := sens, qAbs := c.qAbs + iMa.natAbs * dtNs }

/-- The predicted terminal voltage, and its Jacobian (R202, R208). -/
def estVolt (ch : Chem) (iMa : Int) (c : EstCell) : Word :=
  fAdd (fAdd (fAdd (fOfRat (ocvAt ch c.socQ c.tcQ)) (fMul (fOfRatio iMa 1000) (cellPar ch c 0))) (fOfScaled c.va (-31))) (fOfScaled c.vb (-31))
def estJac (ch : Chem) (c : EstCell) : List Word := [fOfRat (ocvSoc ch c.socQ c.tcQ), f1, f1, fOfRat (ocvTemp ch c.socQ c.tcQ)]

/-- Corrections K × y added to the state in its fixed formats (R204). -/
def estCorrect (c : EstCell) (k : List Word) (y : Word) : EstCell :=
  let d (i sc : Nat) : Int := fToScaled (fMul (k.getD i 0) y) sc
  { c with soc := socHold (c.soc + d 0 62), va := s32Hold (c.va + d 1 31), vb := s32Hold (c.vb + d 2 31), tc := s32Hold (c.tc + d 3 22) }

/-- The measurement update (R208), with the count of residuals beyond 8 times the square root of the innovation variance
(R211). -/
def estUpdate (ch : Chem) (nv : Word) (iMa : Int) (v : Word) (c : EstCell) : EstCell :=
  let y := fSub v (estVolt ch iMa c)
  let u := kfUpdate 4 c.p (estJac ch c) nv (fun _ => true)
  let c1 := estCorrect c u.k y
  let far := fLt (fMul 0x41000000 (fSqrt u.s)) (fAbs y)
  { c1 with p := u.p, resid := y, divRun := if far then c.divRun + 1 else 0, predict := false, stale := false, sinceNs := 0 }

/-- The core-temperature observation of EIS (R210). -/
def estObs (c : EstCell) : EstCell :=
  match c.obs with
  | none => c
  | some (t, v) =>
    let u := kfUpdate 4 c.p [0, 0, 0, f1] v (fun i => decide (i = 3))
    { estCorrect c u.k (fSub t (fOfScaled c.tc (-22))) with p := u.p, obs := none, noEis := false }

/-- The parameter filter (R209): predicted over `hours`, and updated where the gates are open. The answer says how many
multipliers were held at a bound (R203). -/
def estParams (ch : Chem) (qp nv hours : Word) (iMa : Int) (gate : Bool) (usable : Bool) (c : EstCell) : EstCell × Nat :=
  let pp1 := mAdd 6 c.pp (mDiag (List.replicate 6 (fMul qp hours)))
  if !usable then ({ c with pp := pp1 }, 0)
  else
    let gateQ := decide (chemQ ch * 1000000000 ≤ 10 * c.qAbs)
    let i := fOfRatio iMa 1000
    let sn (j : Nat) : Word := c.sens.getD j 0
    let h := [fMul i (fDiv (cellPar ch c 0) (c.gF 0)), sn 1, sn 2, sn 3, sn 4, fMul (fOfRat (ocvSoc ch c.socQ c.tcQ)) (sn 0)]
    let u := kfUpdate 6 pp1 h nv (fun j => if j = 5 then gateQ else gate)
    let want := (List.range 6).map (fun j => (c.g.getD j 268435456 : Int) + fToScaled (fMul (u.k.getD j 0) c.resid) 28)
    let held := want.map (fun x => clampInt 67108864 1073741824 x)
    let n := ((want.zip held).filter (fun x => decide (x.1 ≠ x.2))).length
    ({ c with g := held.map Int.toNat, pp := u.p, clamp := decide (0 < n), qAbs := if gateQ then 0 else c.qAbs }, n)

/-- Whether every element of a cell's covariances is finite, and its residual too (R211; the fixed formats always are). -/
def estFinite (c : EstCell) : Bool := c.p.all fFinite && c.pp.all fFinite && fFinite c.resid

/-- σ of the state's element i, and of multiplier i. -/
def sigP (c : EstCell) (i : Nat) : Word := fSqrt (mAt 4 c.p i i)
def sigG (c : EstCell) (i : Nat) : Word := fSqrt (mAt 6 c.pp i i)

/-- SoC and its σ in the SoC format, 0 to 50,000 (R14, R15). -/
def socCode (c : EstCell) : Nat := (clampInt 0 50000 (roundRat (c.socQ * 50000))).toNat
def sigSoc (c : EstCell) : Nat := (clampInt 0 50000 (fToInt (fMul (sigP c 0) 0x47435000))).toNat

/-- The confidence class (R215). -/
def estClass (c : EstCell) : Nat :=
  let s := sigP c 0
  if !c.cold && !c.stale && fLe s 0x3C23D70A && fLe (sigP c 3) f2 then 3
  else if !c.cold && !c.stale && fLe s 0x3CF5C28F then 2
  else if !c.stale && (fLe s 0x3DCCCCCD || c.cold) then 1
  else 0

/-! ### State of power (R221) -/

/-- One cell's limit in A for a horizon and a direction, its reason code, and a and b. -/
structure SopCell where
  lim : Word
  why : Nat
  a : Word
  b : Word

/-- The smallest of bounds with their codes; a negative bound counts as 0 (R221). -/
def sopMin (l : List (Word × Nat)) : Word × Nat :=
  l.foldl (fun m x => let y := fMax 0 x.1; if fLt y m.1 then (y, x.2) else m) (0x7F800000, 0)

/-- A cell's limit over h seconds, charging or discharging (R221). Codes 1 and 2 name the voltage bound at the horizon and
at once (DEDUCED, log 17). -/
def sopCell (ch : Chem) (k10 : Nat) (h : Nat) (charge : Bool) (c : EstCell) : SopCell :=
  let k := fOfRatio k10 10
  let hf := fOfInt h
  let sig := sigP c 0
  let sgn (x : Word) : Word := if charge then x else fNeg x
  let socM := fAdd (fOfScaled c.soc (-62)) (sgn (fMul k sig))
  let socR : Rat := (fToScaled socM 62 : Rat) / 2 ^ 62
  let tcM := fAdd (fOfScaled c.tc (-22)) (fMul k (sigP c 3))
  let w := fAdd f1 (fMul k (sigG c 0))
  let rs := fMul (cellPar ch c 0) w
  let ra := fMul (cellPar ch c 1) w
  let rb := fMul (cellPar ch c 3) w
  let ea := fExpNeg (fDiv hf (cellPar ch c 2))
  let eb := fExpNeg (fDiv hf (cellPar ch c 4))
  let va := fOfScaled c.va (-31)
  let vb := fOfScaled c.vb (-31)
  let ocv := fOfRat (ocvAt ch socR c.tcQ)
  let slope := fOfRat (ocvSoc ch socR c.tcQ)
  let q := fOfRat (c.gQ 5 * (chemQ ch : Rat) / 1000)
  let eta := if charge then fOfRat (chemEta ch) else f1
  let a := fAdd (fAdd ocv (fMul va ea)) (fMul vb eb)
  let b := fAdd (fAdd (fAdd rs (fMul ra (fSub f1 ea))) (fMul rb (fSub f1 eb))) (fDiv (fMul (fMul slope eta) hf) q)
  let a0 := fAdd (fAdd ocv va) vb
  let vm := fOfRat (if charge then chemVMax ch else chemVMin ch)
  let sm := fOfRat (if charge then chemSocMax ch else chemSocMin ch)
  let v1 := fDiv (if charge then fSub vm a else fSub a vm) b
  let v2 := fDiv (if charge then fSub vm a0 else fSub a0 vm) rs
  let v3 := fDiv (fMul (if charge then fSub sm socM else fSub socM sm) q) (if charge then fMul eta hf else hf)
  let num := fMul (fSub (fOfRat (chemTMax ch)) tcM) (fOfRat (chemCth ch))
  let v4 := if fLt num 0 then 0 else fSqrt (fDiv num (fMul (fAdd (fAdd rs ra) rb) hf))
  let m := sopMin [(v1, 1), (v2, 2), (v3, 3), (v4, 4)]
  { lim := m.1, why := m.2, a := a, b := b }

end Sys2Proof.Machine
end

