-- ==== Sys2Proof/Machine/Est.lean ====
section
/-! DEFINITION. EST: cycles and inputs (R205 to R207), cold start (R216 to R219), results (R221 to R224), snapshots and the
queue pairs QP15 to QP17 (R225). -/

namespace Sys2Proof.Machine

open Sys2Proof

/-! ### The set, the inputs -/

/-- How many cells the set has. -/
def setCells (s : State) : Nat := 24 * min 24 (setNn s)

/-- The boundary temperature of a cell's tile in °C as THERM delivers it (R206); before its first round it is a free value
(log 3). -/
def tbOf (s : State) (free : Nat) (c : Nat) : Rat :=
  let x := rd s (R.THERM_TB_TB (c / 24))
  if x = 0x8000 then (sInt 16 free : Rat) / 100 else (sInt 16 x : Rat) / 100

/-- A cell's value of the window in V: the mean of the usable codes (R168). -/
def winVal (w : EstWin) (c : Nat) : Option Rat :=
  match w.vals[c]? with
  | some (sum, n) => if n = 0 then none else some ((sum : Rat) / (n * 100000 : Nat))
  | none => none

/-- The mean of currents, mA. -/
def meanMa (x : Int × Nat) : Option Int := if x.2 = 0 then none else some (roundDiv x.1 x.2)

/-- The window's current (R207): I_SHUNT, else I_HALL where HALL_EN is 1, else none; and whether I_HALL stands in. -/
def estCurrent (s : State) (w : EstWin) : Option (Int × Bool) :=
  match meanMa w.iShunt with
  | some i => some (i, false)
  | none =>
    if cfgU s 13 1 5 1 = 1 then (meanMa w.iHall).map (fun i => (i, true)) else none

/-! ### Cells at their start (R217, R218) -/

/-- Multipliers at 1.0. -/
def gOnes : List Nat := List.replicate 6 268435456

/-- The parameter covariance Q_PAR × 8,760 on each diagonal (R214, R217). -/
def ppReset (s : State) : List Word := mDiag (List.replicate 6 (fMul (estF s 16) 0x4608E000))

/-- A cell before its first cycle. -/
def EstCell.blank (pp : List Word) : EstCell :=
  { soc := 0, va := 0, vb := 0, tc := 0, g := gOnes, p := mDiag [0, 0, 0, 0], pp := pp, sens := List.replicate 5 0, resid := 0, qAbs := 0,
    start := 0, cold := true, predict := false, noEis := false, clamp := false, diverged := false, stale := false, sinceNs := 0,
    obs := none, divRun := 0, convNs := none }

/-- A cell before its first cycle, whose multipliers are 1.0 (R203) and whose state is a free value (log 3). -/
def freeCell (s : State) (free : Nat) : EstCell :=
  { EstCell.blank (ppReset s) with soc := socHold free, va := sInt 32 free, vb := sInt 32 free, tc := sInt 32 free,
                                   p := mDiag (List.replicate 4 (BitVec.ofNat 32 free)) }

/-- The larger of COLD_SIG_SOC² and a variance (R218). -/
def coldVar (s : State) (p : Word) : Word := fMax (fMul (estF s 24) (estF s 24)) p

/-- Row 4 of R218: SoC_ocv of the value at TB, or the SoC given where there is no value, with the widened variances. -/
def estColdState (s : State) (ch : Chem) (tb : Rat) (v : Option Rat) (soc0 : Int) (c : EstCell) : EstCell :=
  let soc := match v with
    | some v => toFix 62 (socOcv ch v tb)
    | none => soc0
  let pv := match v with
    | some v => socOcvVar ch (estF s 12) v tb
    | none => f1
  { c with soc := socHold soc, va := 0, vb := 0, tc := s32Hold (toFix 22 tb),
           p := mDiag [coldVar s pv, 0x3C23D70A, 0x3C23D70A, fMul (estF s 28) (estF s 28)], sens := List.replicate 5 0,
           cold := true, convNs := none, divRun := 0 }

/-- The newest history record of a cell that passes R217. -/
def estRecOf (s : State) (id : Nat) (c : Nat) : Option (List Byte) :=
  s.nv.hist.findSome? (fun h =>
    if 4 ≤ h.kind then none
    else
      let r := (h.data.drop (64 * c)).take 64
      if decide (r.length = 64) && decide (fieldAt r 0x3C 4 = crc32c (r.take 60)) && decide (fieldAt r 0x12 2 = c) && decide (fieldAt r 0x14 4 = id)
          && decide (some (fieldAt r 0x18 4) = s.chain.trims.getD (c / 24) none) then some r
      else none)

/-- KIND of a record, whether it is a state record (R217), and whether plant time was acquired. -/
def recKind (r : List Byte) : Nat := fieldAt r 0x0E 1 / 2 % 4
def recIsState (s : State) (r : List Byte) : Bool :=
  match recKind r with
  | 0 => decide (fieldAt r 0x0F 3 + 1 = pcNow s)
  | 2 => false
  | _ => decide (fieldAt r 0x0F 3 = pcNow s)
def recAcq (r : List Byte) : Bool := bitOf (fieldAt r 0x0E 1) 0

/-- Whether a record's age can still become known (R217): KIND 0 with ACQ, before acquisition and within AGE_WAIT_S. -/
def ageWaits (s : State) (r : List Byte) : Bool :=
  decide (recKind r = 0) && recAcq r && !flag s R.PTP_STATUS_ACQ && !s.est.waitOver && decide (cfgU s 15 1 8 2 ≠ 0)

/-- A state record's age in s: none where it is unknown (R217). -/
def recAge (s : State) (r : List Byte) : Option Rat :=
  if recKind r = 0 then
    (if recAcq r && flag s R.PTP_STATUS_ACQ then some (((ptNow s - fieldAt r 0 8 : Nat) : Rat) / 1000000000) else none)
  else some (((otNow s - fieldAt r 8 6 : Nat) : Rat) / 1000)

/-- A cell's state record, if it has one. -/
def stateRec (s : State) (c : Nat) : Option (List Byte) :=
  match s.est.recs.getD c none with
  | some r => if recIsState s r then some r else none
  | none => none

/-- The newest state record of any cell of the set (R218). -/
def newestRec (s : State) : Option (List Byte) :=
  ((List.range (setCells s)).filterMap (stateRec s)).foldl (fun m r =>
    match m with
    | none => some r
    | some q => if fieldAt q 0x0F 3 * 2 ^ 48 + fieldAt q 8 6 < fieldAt r 0x0F 3 * 2 ^ 48 + fieldAt r 8 6 then some r else m) none

/-- Whether this cycle is D (R218): every age is known or unknowable. -/
def estDecides (s : State) : Bool := !((List.range (setCells s)).filterMap (stateRec s)).any (ageWaits s)

/-- A cell at the first cycle: multipliers of its record, and the cold state (R217, R218). -/
def estFirst (s : State) (ch : Chem) (free : Nat) (w : EstWin) (c : Nat) : EstCell :=
  let pp := ppReset s
  let b := EstCell.blank pp
  let b1 := match s.est.recs.getD c none with
    | some r =>
      let sg := fOfScaled (fieldAt r 0x38 2) (-12)
      { b with g := (List.range 6).map (fun j => clampNat 67108864 1073741824 (fieldAt r (0x2A + 2 * j) 2 * 65536)),
               pp := mMk 6 (fun i j => if i = 5 ∧ j = 5 then fMul sg sg else mAt 6 pp i j) }
    | none => b
  let v := winVal w c
  { estColdState s ch (tbOf s free c) v (free % 2 ^ 62) b1 with predict := v.isNone }

/-- What D decides for a cell (R218), once the cycle's filters have run on it as a COLD cell: the row takes the place of what they left
(DEDUCED from R220's worked case, log 35). A cell without a usable value falls under row 4 and keeps its SoC, with the variance of a flat
curve (DESIGN CHOICE, log 35). The COLD flag of rows 2 and 3 in the table's order, OCV and STORED, follows CONV_SIG. -/
def estDecide (s : State) (ch : Chem) (free : Nat) (w : EstWin) (iMa : Int) (strAge : Option Rat) (ci : Nat × EstCell) : EstCell :=
  let c := ci.2
  let tb := tbOf s free ci.1
  let nv := estF s 12
  let relax : Rat := (cfgU s 15 1 6 2 : Nat)
  let conv := fOfRatio (cfgU s 15 1 12 2) 50000
  let small : Word := 0x322BCC77
  let r := stateRec s ci.1
  let age := r.bind (recAge s)
  let fld (o n : Nat) : Nat := match r with
    | some r => fieldAt r o n
    | none => 0
  let tcSig : Word := if r.isSome && age.isSome then fOfRatio (fld 0x3A 2) 100 else estF s 28
  let tc0 : Rat := match age with
    | some a => tb + ((sInt 16 (fld 0x28 2) : Rat) / 100 - tb)
        * ((fToScaled (fExpNeg (fOfRat (a / (chemRth ch * chemCth ch)))) 40 : Rat) / 2 ^ 40)
    | none => tb
  let c0 := { c with tc := s32Hold (toFix 22 tc0), sens := List.replicate 5 0, convNs := none, divRun := 0 }
  let put4 (c : EstCell) (v0 vr : Word) : EstCell := { c with p := mDiag [v0, vr, vr, fMul tcSig tcSig] }
  let pst (a : Rat) : Word :=
    let sg := fOfRatio (fld 0x36 2) 50000
    let d := fMul (estF s 20) (fOfRat (a / 3600))
    fAdd (fMul sg sg) (fMul d d)
  match winVal w ci.1 with
  | none => put4 { c0 with start := 4, va := 0, vb := 0, cold := true } (coldVar s f1) 0x3C23D70A
  | some v =>
    let so := socOcv ch v tb
    let po := socOcvVar ch nv v tb
    let ocvRow : EstCell := put4 { c0 with start := 3, soc := socHold (toFix 62 so), va := 0, vb := 0, cold := fLt conv (fSqrt po) } po small
    let coldRow : EstCell :=
      put4 { c0 with start := 4, soc := socHold (toFix 62 so), va := 0, vb := 0, cold := true } (coldVar s po) 0x3C23D70A
    match age with
    | some a =>
      let off := if recKind (r.getD []) = 3 then s.est.offQ else 0
      let q0 : Rat := c.gQ 5 * (chemQ ch : Rat)
      let adv (x : Int) : Rat := (if 0 < x then chemEta ch else 1) * x / (q0 * 1000000000)
      let soc0 : Rat := (fld 0x1C 4 : Rat) / 2 ^ 31 + adv off
      if relax ≤ a then
        if !s.est.rested then coldRow
        else if fLe (fAbs (fOfRat (soc0 - so))) (fMul 0x40400000 (fSqrt (fAdd (pst a) po))) then
          let p := pst a
          let k := fDiv p (fAdd p po)
          let soc1 := toFix 62 soc0 + fToScaled (fMul k (fOfRat (so - soc0))) 62
          let v1 := fDiv f1 (fAdd (fDiv f1 p) (fDiv f1 po))
          put4 { c0 with start := 2, soc := socHold soc1, va := 0, vb := 0, cold := false } v1 small
        else ocvRow
      else
        let cs : EstCell := { c0 with soc := socHold (toFix 62 soc0), va := sInt 32 (fld 0x20 4), vb := sInt 32 (fld 0x24 4) }
        let o := estPoint ch cs (fOfRat a)
        let dec (x : Int) (e : Word) : Int := s32Hold (fToScaled (fMul (fOfScaled x (-31)) e) 31)
        let c1 : EstCell := { cs with va := dec cs.va o.ea, vb := dec cs.vb o.eb, soc := socHold (cs.soc + toFix 62 (adv s.est.qFirst)) }
        if fLe (fAbs (fSub (fOfRat v) (estVolt ch iMa c1))) (fOfRatio (cfgU s 15 1 10 2) 1000) then
          put4 { c1 with start := 1, cold := fLt conv (fSqrt (pst a)) } (pst a) small
        else coldRow
    | none =>
      if s.est.rested && r.isNone && (match strAge with
        | some a => decide (relax ≤ a)
        | none => false) then ocvRow
      else coldRow

/-! ### Snapshots (R216, R243) -/

/-- A 64-byte record of a cell (R216). -/
def estRecBytes (s : State) (kind c : Nat) (x : EstCell) : List Byte :=
  let id := match s.est.chem with
    | some ch => ch.id
    | none => 0
  let b := leBytes 8 (ptNow s) ++ leBytes 6 (otNow s) ++ leBytes 1 (b2n (flag s R.PTP_STATUS_ACQ) + 2 * kind) ++ leBytes 3 (pcNow s) ++ leBytes 2 c
    ++ leBytes 4 id ++ leBytes 4 ((s.chain.trims.getD (c / 24) none).getD 0)
    ++ leBytes 4 (clampInt 0 (2 ^ 31) (roundDiv x.soc (2 ^ 31))).toNat ++ sBytes 4 x.va ++ sBytes 4 x.vb
    ++ sBytes 2 (satTemp (roundRat (x.tcQ * 100))) ++ (x.g.map (fun g => leBytes 2 (satU 16 (roundDiv g 65536)))).flatten
    ++ leBytes 2 (sigSoc x) ++ leBytes 2 (satU 16 (fToScaled (sigG x 5) 12)) ++ leBytes 2 (satU 16 (fToInt (fMul (sigP x 3) 0x42C80000)))
  b ++ leBytes 4 (crc32c b)

/-- The phase offset of a cell in 0.001° (R243). -/
def ofsMilli (s : State) (c : Nat) : Int := roundDiv (s.eis.ofs.getD c 0) 65536

/-- EIS's 80-byte record of a position's phase offsets (R243). -/
def eisOfsBytes (s : State) (p : Nat) : List Byte :=
  let b := leBytes 8 (ptNow s) ++ leBytes 3 (pcNow s) ++ leBytes 1 p ++ leBytes 4 ((s.chain.trims.getD p none).getD 0)
    ++ ((List.range 24).map (fun j => sBytes 2 (ofsMilli s (24 * p + j)))).flatten
    ++ leBytes 4 (match s.eis.table with
      | some t => fieldAt t 0 4
      | none => 0) ++ zeros 8
  b ++ leBytes 4 (crc32c b)

/-- EIS stores its phase offsets (R243). -/
def eisSaveOfs (s : State) : State :=
  if s.eis.ofs.isEmpty then s
  else (List.range (min 24 (setNn s))).foldl (fun s p => histAdd s 17 (eisOfsBytes s p)) s

/-- A snapshot of a KIND (R216); the answer says whether STOR took it. KIND 1, 2 and 3 store the phase offsets too. The state in the
record of a cell beyond the set, or of any cell before EST's first cycle, is a free value; a snapshot other than KIND 2 waits for a first
cycle (DESIGN CHOICE, log 35). -/
def estSnapshot (s0 : State) (kind : Nat) : Bool × State :=
  if s0.est.cells.isEmpty && decide (kind ≠ 2) then (true, s0)
  else if !storTakes s0 then (false, errRise s0 R.EST_ERR_SNAP_FAIL 0 kind)
  else
    let f := fresh s0
    let s := f.2
    let bs := ((List.range 576).map (fun c => estRecBytes s kind c (s.est.cells.getD c (freeCell s f.1)))).flatten
    let s1 := histAdd s kind bs
    (true, if kind = 0 then s1 else eisSaveOfs s1)

/-! ### Starting, stopping, committing -/

/-- The history records that EST took, and the cells, under a chemistry committed before D (R228): a record of another CHEM_ID gives
neither state nor multipliers, so that what it gave a cell is taken back. After D the multipliers carry over (R214; DEDUCED, log 35). -/
def recsUnder (s : State) (ch : Chem) : State :=
  let old (r : Option (List Byte)) : Bool := match r with
    | some b => decide (fieldAt b 0x14 4 ≠ ch.id)
    | none => false
  if flag s R.EST_STATUS_DECIDED then s
  else { s with est := { s.est with
          cells := (s.est.cells.zipIdx).map (fun c => if old (s.est.recs.getD c.2 none) then { c.1 with g := gOnes, pp := ppReset s } else c.1)
          recs := s.est.recs.map (fun r => if old r then none else r) } }

/-- A waiting chemistry comes into force and is stored (R212, R214); the entries that committed it complete. -/
def estCommitNow (s0 : State) : State :=
  match s0.est.pend with
  | none => s0
  | some (ch, rst) =>
    let s := recsUnder s0 ch
    let cells := if rst then s.est.cells.map (fun c => { c with g := gOnes, pp := ppReset s }) else s.est.cells
    let s1 := { s with est := { s.est with chem := some ch, pend := none, cells := cells } }
    let s2 := put (wr s1 R.EST_CHEM_ID_ID ch.id) R.EST_STATUS_CHEM_OK true
    let s3 := if storTakes s2 then
        cfgStore s2 (fun c => { c with chem := some ch, items :=
          [(2, ch.hdr), (3, ch.ocv), (4, ch.par)].foldl (fun m x => mapSet itemDflt m (itemKey 15 x.1) x.2) c.items })
      else s2
    let n := ((qpAt s3 15).entries.filter (Entry.runs 0x40)).length
    (List.range n).foldl (fun s _ => finishEntry s 15 (Entry.runs 0x40) 0 ((rd s R.EST_CYCLE_CNT_COUNT + 1) % 2 ^ 32) 0) s3

/-- EST starts (R214): at start-up and at ENABLE. The history records are taken at its first cycle (R217), whose dt runs from the latest
window closed before (R205). -/
def estStart (s : State) : State :=
  let s1 := estCommitNow s
  match s1.est.chem with
  | none => s1
  | some _ =>
    let s2 := { s1 with est := { s1.est with starting := true, cells := [], lastTicks := s1.est.offTicks, waitOver := false, recs := [], rested := true,
                                              qFirst := 0, input := none, gap := false, gapSum := 0, gapN := 0, restNs := 0, span := [],
                                              parCnt := 0, parNs := 0, resets := [] } }
    put (put (cfgBoundary (cfgBoundary s2 (itemKey 15 1)) (itemKey 15 5)) R.EST_STATUS_RUN true) R.EST_STATUS_DECIDED false

/-- VALID of the state of power cleared (R222). -/
def sopInvalid (s : State) : State :=
  if flag s R.EST_STATUS_SOP_VALID then errRise (put s R.EST_STATUS_SOP_VALID false) R.EST_ERR_SOP_INVALID 0 0 else s

/-- ENABLE on QP15 to QP17 (R225). -/
def estEnable (_ : Entry) (s : State) : State × EntrySt :=
  if flag s R.EST_STATUS_RUN then okR s 0
  else if s.est.chem.isNone && s.est.pend.isNone then failR s 0x06
  else okR (estStart s) 0

/-- DISABLE (R216): a snapshot of KIND 3, then EST stops. -/
def estDisable (_ : Entry) (s : State) : State × EntrySt :=
  if !flag s R.EST_STATUS_RUN then okR s 0
  else
    let s1 := sopInvalid (put (estSnapshot s 3).2 R.EST_STATUS_RUN false)
    okR { s1 with est := { s1.est with offQ := 0, offTicks := s1.est.lastTicks, input := none } } 0

/-- CHEM_COMMIT (R212 to R214): a write that STOR refuses is STATE (R104; DEDUCED, log 35). While EST is disabled the commit takes effect at
once (R119). -/
def estCommit (e : Entry) (s : State) : State × EntrySt :=
  let hdr := cfgItem s 15 2
  let ocv := cfgItem s 15 3
  let par := cfgItem s 15 4
  if !storTakes s then failR s 0x06
  else if hdr.isEmpty || ocv.isEmpty || par.isEmpty then failR s 0x42
  else match chemBad hdr ocv par with
    | some n => failX (errRise s R.EST_ERR_CHEM_REJ 0 0) 0x41 n
    | none =>
      let s1 := { s with est := { s.est with pend := some ({ id := e.arg0, hdr := hdr, ocv := ocv, par := par }, bitOf e.arg1 0) } }
      if flag s R.EST_STATUS_RUN then (s1, .running 0) else okR (estCommitNow s1) ((rd s R.EST_CYCLE_CNT_COUNT + 1) % 2 ^ 32)

/-- CELL_RESET (R219, R225): it acts at the next cycle. -/
def estCellReset (e : Entry) (s : State) : State × EntrySt :=
  if !flag s R.EST_STATUS_RUN then failR s 0x06
  else okR { s with est := { s.est with resets := s.est.resets ++ [(e.arg0, e.arg1 % 1024, bitOf e.arg1 16)] } } (e.arg1 % 1024)

/-- SNAPSHOT (R225). -/
def estSnapshotOp (_ : Entry) (s : State) : State × EntrySt :=
  if !flag s R.EST_STATUS_RUN then failR s 0x06
  else
    let r := estSnapshot s 2
    if r.1 then okR r.2 36864 else failR r.2 0x43

/-! ### The cycle (R205, R208 to R211, R219) -/

/-- What one cycle uses for every cell. -/
structure EstRun where
  ch : Chem
  free : Nat
  w : EstWin
  iMa : Int
  dtNs : Nat
  rest : Bool
  restNew : Bool
  par : Bool
  parH : Word
  gate : Bool

/-- A rest begins (R219): the RC voltages are 0 with variance 10^-8. -/
def estRest (c : EstCell) : EstCell :=
  { c with va := 0, vb := 0, p := mMk 4 (fun i j =>
      if i = j then (if i = 1 ∨ i = 2 then 0x322BCC77 else mAt 4 c.p i i)
      else if i = 1 ∨ i = 2 ∨ j = 1 ∨ j = 2 then 0 else mAt 4 c.p i j) }

/-- COLD clears once σ_SoC has stayed at or below CONV_SIG for 60 s, or in the cycle in which a rest begins (R219; the latter DEDUCED,
log 35). -/
def estConv (s : State) (r : EstRun) (c : EstCell) : EstCell :=
  let ok := fLe (sigP c 0) (fOfRatio (cfgU s 15 1 12 2) 50000)
  let ns := if ok then (match c.convNs with
      | some n => some (n + r.dtNs)
      | none => some 0) else none
  if c.cold && ok && (decide (60000000000 ≤ ns.getD 0) || r.restNew) && flag s R.EST_STATUS_DECIDED then
    { c with cold := false, diverged := false, convNs := ns }
  else { c with convNs := ns }

/-- One cell's cycle: the cell, whether it diverged, and how many multipliers were clamped. -/
def estCell (s : State) (r : EstRun) (i : Nat) (c : EstCell) : EstCell × Bool × Nat :=
  let tb := tbOf s r.free i
  let c1 := estPredict r.ch (estF s 0) (estF s 4) (estF s 8) tb r.iMa r.dtNs c
  let c2 := if r.restNew then estRest c1 else c1
  let c3 := match winVal r.w i with
    | some v => estUpdate r.ch (estF s 12) r.iMa (fOfRat v) c2
    | none =>
      let n := c2.sinceNs + r.dtNs
      { c2 with predict := true, sinceNs := n, stale := c2.stale || decide (1000000000 ≤ n) }
  let c4 := estObs c3
  let p := if r.par then estParams r.ch (estF s 16) (estF s 12) r.parH r.iMa r.gate (!(c4.predict || c4.cold || c4.stale)) c4 else (c4, 0)
  let c5 := estConv s r p.1
  if 50 ≤ c5.divRun ∨ !estFinite c5 then
    let k := estColdState s r.ch tb (winVal r.w i) (r.free % 2 ^ 62) { c5 with obs := none, resid := 0 }
    ({ k with start := 4, diverged := true, pp := if c5.pp.all fFinite then c5.pp else ppReset s }, true, p.2)
  else (c5, false, p.2)

/-- The resets that waited for this cycle (R219). -/
def estResets (s : State) (r : EstRun) (cells : List EstCell) : List EstCell :=
  (cells.zipIdx).map (fun ci =>
    match s.est.resets.find? (fun x => decide (x.1 ≤ ci.2) && decide (ci.2 < x.1 + x.2.1)) with
    | none => ci.1
    | some _ =>
      let c := estColdState s r.ch (tbOf s r.free ci.2) (winVal r.w ci.2) ci.1.soc ci.1
      let c1 := { c with start := 4 }
      if s.est.resets.any (fun x => x.2.2 && decide (x.1 ≤ ci.2) && decide (ci.2 < x.1 + x.2.1)) then
        { c1 with g := gOnes, pp := ppReset s } else c1)

/-- One 32-byte cell of a result record (R223). -/
def estCellBytes (ch : Chem) (rest : Bool) (c : EstCell) : List Byte :=
  let u (sc : Rat) (w : Word) : List Byte := leBytes 2 (satU 16 (fToInt (fMul w (fOfRat sc))))
  let fl := c.start + 8 * b2n c.cold + 16 * b2n c.predict + 32 * b2n c.noEis + 64 * b2n c.clamp + 128 * b2n c.diverged + 256 * b2n c.stale
    + 512 * estClass c + 2048 * b2n rest
  leBytes 2 (socCode c) ++ leBytes 2 (sigSoc c) ++ sBytes 2 (satTemp (roundRat (c.tcQ * 100))) ++ u 100 (sigP c 3)
    ++ leBytes 4 (satU 32 (roundRat (c.gQ 5 * chemQ ch / 3600))) ++ u 1000000 (cellPar ch c 0) ++ u 1000000 (cellPar ch c 1)
    ++ u 1000 (cellPar ch c 2) ++ u 1000000 (cellPar ch c 3) ++ u 10 (cellPar ch c 4)
    ++ sBytes 2 (satS 16 (-32768) (roundRat (c.vaQ * 100000))) ++ sBytes 2 (satS 16 (-32768) (roundRat (c.vbQ * 100000)))
    ++ sBytes 2 (satS 16 (-32768) (fToInt (fMul c.resid 0x47C35000))) ++ u 1000 (fDiv (sigG c 5) (c.gF 5)) ++ leBytes 2 fl

/-- The 20,480 bytes of a result record (R223). -/
def estRecord (s : State) (r : EstRun) (rest : Bool) : List Byte :=
  let hf := b2n (!commands s) + 2 * b2n (flag s R.EST_STATUS_I_ALT) + 4 * b2n (flag s R.EST_STATUS_DECIDED) + 8 * b2n r.w.startup
  let b := leBytes 8 r.w.t ++ leBytes 4 r.w.snum ++ leBytes 4 (rd s R.EST_CYCLE_CNT_COUNT) ++ leBytes 4 hf ++ leBytes 4 r.ch.id ++ sBytes 4 r.iMa
    ++ leBytes 4 (satU 32 (roundDiv r.dtNs 1000)) ++ zeros 32
    ++ ((List.range 576).map (fun i => if i < setCells s then
        (match s.est.cells[i]? with
        | some c => estCellBytes r.ch rest c
        | none => zeros 32) else zeros 32)).flatten
    ++ zeros 1980
  b ++ leBytes 4 (crc32c b)

/-- A cell's cycle D (R218): the filters run, the decision follows, and a waiting observation of Tc is applied last (R210). -/
def estCellD (s : State) (r : EstRun) (age : Option Rat) (i : Nat) (c : EstCell) : EstCell × Bool × Nat :=
  let o := estCell s r i { c with obs := none }
  let d := estDecide s r.ch r.free r.w r.iMa age (i, o.1)
  (estObs { d with diverged := d.diverged && d.cold, obs := c.obs }, o.2)

/-- The cells as a cycle leaves them, with the cells that diverged and the count of clamped multipliers. The first cycle gives every cell
its start, and the filters run from it on (R218). -/
def estCellsRun (s : State) (r : EstRun) (decides : Bool) : List EstCell × List Nat × Nat :=
  let cells := if s.est.starting then (List.range (setCells s)).map (estFirst s r.ch r.free r.w) else s.est.cells
  let age := (newestRec s).bind (recAge s)
  let out := (cells.zipIdx).map (fun ci => if decides then estCellD s r age ci.2 ci.1 else estCell s r ci.2 ci.1)
  (out.map Prod.fst, ((out.zipIdx).filter (fun x => x.1.2.1)).map Prod.snd, (out.map (fun x => x.2.2)).sum)

/-- The counts of cells decided and of cells COLD and STALE (R227). -/
def estCounts (s : State) (decided : Bool) : State :=
  let n (f : EstCell → Bool) : Nat := (s.est.cells.filter f).length
  let s1 := wr (wr s R.EST_N_NOW_COLD (n (fun c => c.cold))) R.EST_N_NOW_STALE (n (fun c => c.stale))
  if !decided then s1
  else
    let st (k : Nat) : Nat := n (fun c => decide (c.start = k))
    wr (wr (wr (wr s1 R.EST_N_START_A_STORED (st 1)) R.EST_N_START_A_FUSED (st 2)) R.EST_N_START_B_OCV (st 3)) R.EST_N_START_B_COLD (st 4)

/-- A cycle under a committed chemistry. -/
def estCycleWith (s0 : State) (ch : Chem) (w : EstWin) (iWin : Int) (alt : Bool) : State :=
  let f := fresh s0
  let s1 := f.2
  let e := s1.est
  let iMa := if e.gap then (if e.gapN = 0 then 0 else roundDiv e.gapSum e.gapN) else iWin
  let dtNs := match e.lastTicks with
    | some t => 4 * (w.ticks - t)
    | none => 0
  let quiet := decide (iMa.natAbs ≤ cfgU s1 15 1 0 4)
  let restNs := if quiet then e.restNs + dtNs else 0
  let need := cfgU s1 15 1 4 2 * 1000000000
  let restNew := decide (need ≤ restNs) && decide (e.restNs < need)
  let div := cfgU s1 15 1 16 1
  let span := (iMa :: e.span).take div
  let hi := span.foldl max iMa
  let lo := span.foldl min iMa
  let par := decide (div ≤ e.parCnt + 1)
  let parNs := e.parNs + dtNs
  let r : EstRun := { ch := ch, free := f.1, w := w, iMa := iMa, dtNs := dtNs, rest := decide (need ≤ restNs), restNew := restNew, par := par,
                      parH := fOfRatio parNs 3600000000000, gate := decide (hi - lo ≥ cfgU s1 15 1 20 4) }
  let s2 := { s1 with est := { e with rested := e.rested && quiet, qFirst := if e.starting then 0 else e.qFirst + iMa * dtNs,
                                      recs := if e.starting then (List.range 576).map (estRecOf s1 ch.id) else e.recs } }
  let decides := !flag s2 R.EST_STATUS_DECIDED && estDecides s2
  let o := estCellsRun s2 r decides
  let cells := estResets s2 r o.1
  let s3 := { s2 with est := { s2.est with cells := cells, starting := false, lastTicks := some w.ticks, gap := false, gapSum := 0, gapN := 0,
                                            restNs := restNs, span := span, parCnt := if par then 0 else e.parCnt + 1,
                                            parNs := if par then 0 else parNs, resets := [], input := none },
                        eis := { s2.eis with restAll := s2.eis.restAll && r.rest } }
  let s4 := bump (put (put (put s3 R.EST_STATUS_I_ALT alt) R.EST_STATUS_NO_CURRENT false) R.EST_STATUS_DECIDED
    (flag s3 R.EST_STATUS_DECIDED || decides)) R.EST_CYCLE_CNT_COUNT
  let s5 := wr (wr s4 R.EST_LAST_T_LO_TIME w.t) R.EST_LAST_T_HI_TIME (w.t >>> 32)
  let s6 := o.2.1.foldl (fun s c => errRise (bump s R.EST_DIVERGE_CNT_COUNT) R.EST_ERR_DIVERGED 0 c) s5
  let s7 := estCounts (bumpBy s6 R.EST_CLAMP_CNT_COUNT o.2.2) decides
  let n := s7.est.resDiv + 1
  if max 1 (rd s7 R.EST_CFG_RESULT_DIV) ≤ n then
    streamOr { s7 with est := { s7.est with resDiv := 0 } } 16 (estRecord s7 r r.rest)
      (fun s => errRise (bump s R.EST_RESULT_LOST_CNT_COUNT) R.EST_ERR_LOST 0 0)
  else { s7 with est := { s7.est with resDiv := n } }

/-- A cycle with a valid current. -/
def estCycleRun (s : State) (w : EstWin) (iWin : Int) (alt : Bool) : State :=
  let s0 := estCommitNow (cfgBoundary (cfgBoundary s (itemKey 15 1)) (itemKey 15 5))
  match s0.est.chem with
  | none => s0
  | some ch => estCycleWith s0 ch w iWin alt

/-- One cycle of EST for the window that waits (R205, R207). -/
def estCycle (s : State) : State :=
  if !flag s R.EST_STATUS_RUN || !fullUp s then s
  else match s.est.input with
    | none => s
    | some w =>
      match estCurrent s w with
      | some (i, alt) => estCycleRun s w i alt
      | none =>
        let s1 := { s with est := { s.est with input := none, gap := true } }
        if flag s1 R.EST_STATUS_NO_CURRENT then s1 else errRise (put s1 R.EST_STATUS_NO_CURRENT true) R.EST_ERR_NO_CURRENT 0 0

/-! ### State of power (R221, R222, R224) -/

/-- The string's limit over h seconds in a direction: mA, W, cell and code (signed magnitudes as reported). -/
def sopString (s : State) (ch : Chem) (h : Nat) (charge : Bool) : Int × Int × Nat × Nat :=
  let xs := s.est.cells.map (sopCell ch (cfgU s 15 1 17 1) h charge)
  let best := (xs.zipIdx).foldl (fun (m : Option (SopCell × Nat)) x => match m with
    | none => some x
    | some y => if fLt x.1.lim y.1.lim then some x else m) none
  match best with
  | none => (0, 0, 0, 0)
  | some b =>
    let i := if charge then b.1.lim else fNeg b.1.lim
    let v := fSum (xs.map (fun x => fAdd x.a (fMul x.b i)))
    (satMilli (fToInt (fMul i 0x447A0000)), satS 32 (-2147483648) (fToInt (fMul i v)), b.2, b.1.why)

/-- Whether the state of power is valid (R222). -/
def sopOk (s : State) : Bool :=
  flag s R.EST_STATUS_RUN && s.est.chem.isSome && !s.est.cells.isEmpty
    && s.est.cells.all (fun c => estFinite c && fLe (sigP c 0) (fOfRatio (cfgU s 15 1 14 2) 50000))

/-- The extreme cell of a list of values: value and cell, ties to the lower cell. -/
def extreme (less : Int → Int → Bool) (xs : List Int) : Int × Nat :=
  match xs with
  | [] => (0, 0)
  | x :: _ => (xs.zipIdx).foldl (fun m y => if less y.1 m.1 then y else m) (x, 0)

/-- SOC_MEAN (R224), SoC format. -/
def sopMeanOf (s : State) : Nat :=
  let cells := s.est.cells
  let socs : List Int := cells.map (fun c => (socCode c : Int))
  if cells.isEmpty then 0 else (roundDiv socs.sum cells.length).toNat

/-- The 128 bytes of a record (R224). -/
def sopRecord (s : State) (ok : Bool) (hs : List (((Int × Int × Nat × Nat)) × (Int × Int × Nat × Nat))) : List Byte :=
  let cells := s.est.cells
  let socs : List Int := cells.map (fun c => (socCode c : Int))
  let tcs : List Int := cells.map (fun c => satTemp (roundRat (c.tcQ * 100)))
  let nCold := (cells.filter (fun c => c.cold)).length
  let fl := b2n ok + 2 * b2n (decide (0 < nCold)) + 4 * b2n (cells.any (fun c => c.stale)) + 8 * b2n (!commands s)
  let lo := extreme (fun a b => decide (a < b)) socs
  let hi := extreme (fun a b => decide (b < a)) socs
  let th := extreme (fun a b => decide (b < a)) tcs
  let b := leBytes 8 (ptNow s) ++ leBytes 4 s.est.sopSeq ++ leBytes 2 fl ++ leBytes 2 nCold
    ++ (hs.map (fun h => sBytes 4 h.1.1 ++ sBytes 4 h.2.1 ++ sBytes 4 h.1.2.1 ++ sBytes 4 h.2.2.1 ++ leBytes 2 h.1.2.2.1 ++ leBytes 2 h.2.2.2.1
        ++ leBytes 1 h.1.2.2.2 ++ leBytes 1 h.2.2.2.2 ++ zeros 2)).flatten
    ++ sBytes 2 lo.1 ++ sBytes 2 hi.1 ++ leBytes 2 (sopMeanOf s) ++ leBytes 2 lo.2
    ++ sBytes 2 th.1 ++ leBytes 2 th.2 ++ zeros 24
  b ++ leBytes 4 (crc32c b)

/-- An evaluation of the state of power (R221 to R224); its limits cross to CTRL (target 8 of R503). -/
def sopEval (s : State) : State :=
  if !flag s R.EST_STATUS_RUN || !fullUp s then sopInvalid s
  else match s.est.chem with
    | none => sopInvalid s
    | some ch =>
      let hs := [2, 10, 30].map (fun h => (sopString s ch h true, sopString s ch h false))
      let h0 := hs.headD ((0, 0, 0, 0), (0, 0, 0, 0))
      let ok := sopOk s
      let by4 := hs.map (fun h => (h.1.1.natAbs, h.2.1.natAbs, h.1.2.1.natAbs, h.2.2.1.natAbs))
      let s1 := { s with est := { s.est with sopSeq := (s.est.sopSeq + 1) % 2 ^ 32, sopChg := h0.1.1.natAbs, sopDis := h0.2.1.natAbs, sopH := by4, sopMean := sopMeanOf s } }
      let s2 := pepperWait (if ok then put s1 R.EST_STATUS_SOP_VALID true else sopInvalid s1) 8 0
      streamOr s2 17 (sopRecord s2 ok hs) (fun s => errRise (bump s R.EST_SOP_LOST_CNT_COUNT) R.EST_ERR_LOST 0 0)

/-- A cell's flag set. -/
def estFlag (s : State) (c : Nat) (f : EstCell → EstCell) : State :=
  if flag s R.EST_STATUS_RUN then
    let s1 := { s with est := { s.est with cells := modAt s.est.cells c f } }
    estCounts s1 false
  else s

/-! ### The rows of EST -/

/-- EST_CYCLE. -/
def execEstCycle (s : State) : Host.Outcome State Fault Refusal := .next (estCycle s)

/-- AGE_WAIT_EXPIRY (R217). -/
def execAgeWaitExpiry (s : State) : Host.Outcome State Fault Refusal := .next { s with est := { s.est with waitOver := true } }

/-- NO_EIS_TIMEOUT: no observation of a cell for EIS_STALE_S (R210). -/
def execNoEisTimeout (c : Nat) (s : State) : Host.Outcome State Fault Refusal := .next (estFlag s c (fun c => { c with noEis := true }))

/-- STALE_TIMEOUT: no measurement update of a cell for 1 s (R215). -/
def execStaleTimeout (c : Nat) (s : State) : Host.Outcome State Fault Refusal := .next (estFlag s c (fun c => { c with stale := true }))

/-- SNAPSHOT_TIMER: SNAP_MIN minutes have passed (R216). -/
def execSnapshotTimer (s : State) : Host.Outcome State Fault Refusal :=
  .next (if flag s R.EST_STATUS_RUN && decide (cfgU s 15 1 24 2 ≠ 0) then (estSnapshot s 2).2 else s)

/-- CHEM_COMMIT on QP15. -/
def execChemCommit (s : State) : Host.Outcome State Fault Refusal := .next (runEntry s 15 0x40 estCommit)

/-- CELL_RESET on QP15. -/
def execCellReset (s : State) : Host.Outcome State Fault Refusal := .next (runEntry s 15 0x41 estCellReset)

/-- SNAPSHOT on QP15. -/
def execSnapshot (s : State) : Host.Outcome State Fault Refusal := .next (runEntry s 15 0x42 estSnapshotOp)

end Sys2Proof.Machine
end

