-- ==== Sys2Proof/Machine/Eis.lean ====
section
/-! DEFINITION. EIS: plans and schedules (R230 to R233), accumulation and interruptions (R234 to R237), evaluation (R238),
core temperature and phase offsets (R240 to R243), records and the queue pairs QP18 and QP19 (R244 to R246). -/

namespace Sys2Proof.Machine

open Sys2Proof

/-! ### Settings in force (R246) -/

def eisMode (s : State) : Nat := cfgU s 18 1 0 1
def eisRef (s : State) : Nat := cfgU s 18 1 1 1
def eisNseg (s : State) : Nat := cfgU s 18 1 2 1

/-- A plan's N, NPT, bins and weights (R230). -/
def planN (p : List Byte) : Nat := fieldAt p 4 4
def planNpt (p : List Byte) : Nat := fieldAt p 8 1
def planM (p : List Byte) (k : Nat) : Nat := fieldAt p (0x10 + 4 * k) 2
def planW (p : List Byte) (k : Nat) : Nat := fieldAt p (0x12 + 4 * k) 1

/-- 1 ÷ fs of the schedule in force in ns, in which every rate of R232 is exact: none where the schedule is not uniform. -/
def eisPer (s : State) : Option Nat :=
  match s.meas.table with
  | none => some 10000000
  | some t =>
    match t.entries with
    | [e] =>
      let per := if t.base = 2 then t.cycleNs else e.1 * s.meas.carrierNs
      if per = 0 then none else some per
    | _ => none

/-- fs of an interval, 0.001 S/s (R244, R247). -/
def fsMilli (per : Nat) : Nat := roundNat 1000000000000 per

/-- Whether point k of a plan offends R230: its bin, and, where the schedule has a rate, f_k = M_k × 10^9 ÷ (per × N) outside 0.05 to
1,000 Hz. -/
def planPointBad (p : List Byte) (per : Option Nat) (k : Nat) : Bool :=
  let m := planM p k
  let n := planN p
  decide (m < 2) || decide (n < 4 * m) || (decide (0 < k) && decide (m < planM p (k - 1) + 2))
  || (List.range (planNpt p)).any (fun j => decide (m = 2 * planM p j) || decide (m = 3 * planM p j))
  || (match per with
      | some per => decide (20 * m * 1000000000 < n * per) || decide (n * per < m * 1000000)
      | none => false)

/-- The first offending point, 0xFFFF for the plan as a whole, none where it fits (R230, R245). Without a uniform schedule only what needs
no fs is judged. -/
def planBad (p : List Byte) (per : Option Nat) (nseg : Nat) : Option Nat :=
  match (List.range (planNpt p)).find? (planPointBad p per) with
  | some k => some k
  | none => if 3600000000000 < nseg * planN p * per.getD 0 then some 0xFFFF else none

/-- Whether EIS can accumulate now: the interval, where a plan is in force, the schedule uniform and the plan fitting (R232). -/
def eisFit (s : State) : Option Nat :=
  match s.eis.plan, eisPer s with
  | some p, some per => if (planBad p (some per) (eisNseg s)).isNone then some per else none
  | _, _ => none

/-- Whether an integration can begin once an instant comes: EIS runs, is not OFF, and the plan fits (R232, R233). -/
def eisMay (s : State) : Bool := flag s R.EIS_STATUS_RUN && decide (eisMode s ≠ 0) && (eisFit s).isSome

/-- Whether the excitation is valid for accumulation (R229, R234): by CTRL on a unit that commands, by the Beacon on one that
does not. -/
def excValid (s : State) : Bool :=
  match eisMode s with
  | 1 => if commands s then flag s R.CTRL_STATUS_EXC else s.eis.peerExc
  | 2 => true
  | _ => false

/-- Whether REF_IDX names a point within ±1 % of the table's F_REF (R240). -/
def eisRefOk (s : State) (per : Nat) : Bool :=
  match s.eis.plan, s.eis.table with
  | some p, some t =>
    let f := planM p (eisRef s) * 1000000000000
    let g := fieldAt t 0 4 * planN p * per
    decide (eisRef s < planNpt p) && decide (99 * g ≤ 100 * f) && decide (100 * f ≤ 101 * g)
  | _, _ => false

/-- Whether a phase table satisfies R240. -/
def phaseOk (t : List Byte) : Bool :=
  let nt := fieldAt t 4 1
  let tb (i : Nat) : Int := sInt 16 (fieldAt t (8 + 2 * i) 2)
  let ph (i s : Nat) : Int := sInt 32 (fieldAt t (0x28 + 4 * (5 * i + s)) 4)
  let dir : Int := if ph 0 0 < ph 1 0 then 1 else -1
  decide (2 ≤ nt) && (List.range (nt - 1)).all (fun i => decide (tb i < tb (i + 1))
    && (List.range 5).all (fun s => decide (tb (i + 1) - tb i ≤ 10 * (dir * (ph (i + 1) s - ph i s)))))

/-! ### Status -/

/-- A_PK = AMP_PERMIL ÷ 1,000 × I_RATED, mA (R231). -/
def eisApk (s : State) : Nat := (roundDiv (cfgU s 18 1 8 2 * cfgU s 18 1 4 4 : Nat) 1000).toNat

/-- REF_OK (R240). -/
def eisRefNow (s : State) : Bool := match eisPer s with
  | some per => eisRefOk s per
  | none => false

/-- EIS's registers as they follow its state (R247). -/
def eisShow (s : State) : State :=
  let e := s.eis
  let run := flag s R.EIS_STATUS_RUN
  let fs := match eisPer s with
    | some per => fsMilli per
    | none => 0
  let s1 := wr (wr (wr s R.EIS_STATUS_MODE (eisMode s)) R.EIS_FS_RATE fs) R.EIS_AMP_PK_MA e.apk
  let s2 := put (put s1 R.EIS_STATUS_PLAN_OK (run && (eisFit s).isSome)) R.EIS_STATUS_PENDING e.pend.isSome
  let s4 := put s2 R.EIS_STATUS_REF_OK (eisRefNow s)
  let s5 := wr (wr (wr s4 R.EIS_SEG_DONE e.iKept) R.EIS_SEG_NSEG (eisNseg s)) R.EIS_S_FIRST_SNUM e.sFirst
  wr s5 R.EIS_PLAN_ID_ID (match e.plan with
    | some p => fieldAt p 0 4
    | none => 0)

/-- What the latest sweep found: whether it was accumulated, and whether the excitation was valid (R247). -/
def eisSeen (s : State) (accum exc : Bool) : State := put (put s R.EIS_STATUS_ACCUM accum) R.EIS_STATUS_EXC exc

/-! ### Coefficients and sums (R236) -/

/-- The index into the table of 65,536 angles for a fraction of the turn: the nearest (R14). -/
def angIdx (num den : Nat) : Nat := roundNat (65536 * num) den % 65536

/-- 2 × w_n in units of 2^-96: the window takes its angle exactly, not from the table (R236). -/
def winTwo (n total : Nat) : Int := fixOne - cosTurn n total

/-- ck_n and sk_n (R236). -/
def eisCoef (n total m : Nat) : Int × Int :=
  let w := winTwo n total
  let a := angIdx (m * n % total) total
  let q (c : Int) : Int := roundRat ((32767 * w * c : Int) / (2 * fixOne * fixOne : Int) : Rat)
  (q (cosTurn a 65536), q (-(sinTurn a 65536)))

/-! ### The excitation's gain (R231) -/

/-- Σ W_k cos(2π M_k i ÷ 2^20 + φ_k), φ_k = −π k (k + 1) ÷ NPT, at point i of 1,048,576 over a segment, in units of 2^-96. -/
def excPoint (p : List Byte) (i : Nat) : Int :=
  let npt := planNpt p
  ((List.range npt).map (fun k =>
    (planW p k : Int) * cosTurn (2 * npt * (planM p k * i % 2 ^ 20) + 2 ^ 20 * (2 * npt - k * (k + 1) % (2 * npt))) (2 * npt * 2 ^ 20))).sum

/-- The largest magnitude over the first points of a segment. -/
def excPeak (p : List Byte) : Nat → Int → Int
  | 0, m => m
  | i + 1, m => excPeak p i (max m (excPoint p i).natAbs)

/-- G in mA: the largest |e| at the 1,048,576 points is A_PK (R231). -/
def excGain (p : List Byte) (apk : Nat) : Word := fOfRat ((apk * fixOne : Int) / (max 1 (excPeak p (2 ^ 20) 0) : Int) : Rat)

/-- The sums with one more sample. -/
def accAdd (co : List (Int × Int)) (x : Int) (acc : List (Int × Int)) : List (Int × Int) :=
  (acc.zip co).map (fun a => (a.1.1 + x * a.2.1, a.1.2 + x * a.2.2))

/-- A phasor: 4 × X × lsb ÷ (32,767 × N), lsb in units of 1 ÷ den (R236). -/
def phasor (x : Int × Int) (n den : Nat) : Word × Word :=
  (fOfRatio (4 * x.1) (32767 * n * den), fOfRatio (4 * x.2) (32767 * n * den))

/-- |z|². -/
def cAbs2 (z : Word × Word) : Word := fAdd (fMul z.1 z.1) (fMul z.2 z.2)

/-! ### Integrations (R233, R235) -/

/-- A cell at the start of an integration. -/
def EisCell.init (npt : Nat) : EisCell :=
  { x0 := none, last := 0, subs := 0, acc := List.replicate npt (0, 0), tbits := none, bad := false, svi := List.replicate npt (0, 0),
    svv := List.replicate npt 0, sii := List.replicate npt 0, kept := 0, bled := false, subst := false }

/-- The entry of a commit that took effect completes, with S_FIRST of the first integration under the plan; where none began, RESULT is a
free value (R245; DESIGN CHOICE, log 36). -/
def eisComDone (s : State) (first : Option Nat) : State :=
  if !s.eis.comDue then s
  else
    let f := fresh { s with eis := { s.eis with comDue := false } }
    finishEntry f.2 18 (Entry.runs 0x40) 0 (first.getD (f.1 % 2 ^ 32)) 0

/-- An integration begins at a sample number (R233). -/
def eisBegin (s0 : State) (per snum : Nat) : State :=
  let s := eisComDone s0 (some snum)
  match s.eis.plan with
  | none => s
  | some p =>
    let npt := planNpt p
    let e := { s.eis with on := true, waitExc := false, sFirst := snum, sLast := (snum + 2 ^ 32 - 1) % 2 ^ 32, tFirst := 0, segOn := false, i0 := none,
                          iSubs := 0, iBad := false, iAcc := List.replicate npt (0, 0), iKept := 0, iSii := List.replicate npt 0, absent := 0,
                          interrupted := false, cells := List.replicate (setCells s) (EisCell.init npt), restAll := flag s R.EST_STATUS_RUN,
                          tb0 := (List.range 24).map (fun k => rd s (R.THERM_TB_TB k)), perNs := per, segDue := false, intDue := false,
                          startup := s.meas.table.isNone }
    eisShow (put { s with eis := e } R.EIS_STATUS_HELD false)

/-- A committed plan and phase table in force, with A_PK and G of item 1 as it then stands (R231; item 1 alone changes neither: DEDUCED,
log 36), and every δ_c reset where asked (R243, R245). The next integration begins with an instant taken after (R233). -/
def eisPlan (s : State) (p : Option (List Byte)) (t : Option (List Byte)) (rst : Bool) : State :=
  let apk := match p with
    | some _ => eisApk s
    | none => 0
  { s with eis := { s.eis with plan := p, table := t, pend := none, ofs := if rst then List.replicate 576 0 else s.eis.ofs, apk := apk,
                               gain := (match p with
                                 | some p => excGain p apk
                                 | none => 0), startAt := s.meas.next } }

/-- A committed plan and phase table come into force and are stored (R245). -/
def eisTake (s : State) (p : List Byte) (t : Option (List Byte)) (rst : Bool) : State :=
  let s1 := eisPlan s (some p) t rst
  eisShow (if storTakes s1 then cfgStore s1 (fun c => { c with plan := some p, phase := t }) else s1)

/-- A waiting commit, and item 1, come into force (R245); the commit's entry then waits for the integration, or completes where none can
begin. -/
def eisCommitNow (s : State) : State :=
  let s0 := cfgBoundary s (itemKey 18 1)
  match s0.eis.pend with
  | none => eisShow s0
  | some (p, t, rst) =>
    let s1 := eisTake s0 p t rst
    let s2 := { s1 with eis := { s1.eis with comDue := true } }
    if eisMay s2 then s2 else eisComDone s2 none

/-! ### Evaluation (R238, R241 to R243) -/

/-- What EIS finds for a cell at a point (R238). -/
structure EisPoint where
  valid : Bool
  zr : Word
  zi : Word
  coh : Word

/-- One point of a cell. -/
def eisPoint (s : State) (c : EisCell) (k : Nat) : EisPoint :=
  let svi := c.svi.getD k (0, 0)
  let sii := c.sii.getD k 0
  let coh := fDiv (cAbs2 svi) (fMul (c.svv.getD k 0) sii)
  let ai := fSqrt (fDiv sii (fOfInt c.kept))
  { valid := decide (2 ≤ c.kept) && fLe (fOfRatio (cfgU s 18 1 10 2) 1000) ai && fLe (fOfRatio (cfgU s 18 1 12 2) 65535) coh,
    zr := fDiv svi.1 sii, zi := fDiv svi.2 sii, coh := coh }

/-- The phase of a point in degrees. -/
def eisPhase (x : EisPoint) : Word := fAtan2Deg x.zi x.zr

/-- A binary32 value as a rational number, to 2^-40. -/
def ratOf (w : Word) : Rat := (fToScaled w 40 : Rat) / 2 ^ 40

/-- The phase table at breakpoint i and a SoC, in degrees (R241). -/
def phAt (t : List Byte) (soc : Rat) (i : Nat) : Rat :=
  let c := socCol 4 soc
  let ph (s : Nat) : Rat := (sInt 32 (fieldAt t (0x28 + 4 * (5 * i + s)) 4) : Rat) / 1000
  ph c.1 + c.2 * (ph (c.1 + 1) - ph c.1)

/-- The table's slope along SoC at breakpoint i. -/
def phSlopeS (t : List Byte) (soc : Rat) (i : Nat) : Rat :=
  let c := socCol 4 soc
  let ph (s : Nat) : Rat := (sInt 32 (fieldAt t (0x28 + 4 * (5 * i + s)) 4) : Rat) / 1000
  (ph (c.1 + 1) - ph c.1) * 4

/-- A breakpoint in °C. -/
def phTbp (t : List Byte) (i : Nat) : Rat := (sInt 16 (fieldAt t (8 + 2 * i) 2) : Rat) / 100

/-- The temperature at which the table shows a phase: T_obs, s_T and s_S; none outside the column's range (R241). -/
def phInvert (t : List Byte) (soc ph : Rat) : Option (Rat × Rat × Rat) :=
  let nt := fieldAt t 4 1
  (List.range (nt - 1)).findSome? (fun i =>
    let a := phAt t soc i
    let b := phAt t soc (i + 1)
    if (a ≤ ph ∧ ph ≤ b) ∨ (b ≤ ph ∧ ph ≤ a) then
      let w := phTbp t (i + 1) - phTbp t i
      let x := (ph - a) / (b - a)
      some (phTbp t i + x * w, (b - a) / w, phSlopeS t soc i + x * (phSlopeS t soc (i + 1) - phSlopeS t soc i))
    else none)

/-- The table's phase at a temperature, clamped to its ends (R243). -/
def phTab (t : List Byte) (soc tc : Rat) : Rat :=
  let nt := fieldAt t 4 1
  let i := ((List.range (nt - 1)).filter (fun i => decide (phTbp t i ≤ tc))).getLastD 0
  let x := max 0 (min 1 ((tc - phTbp t i) / (phTbp t (i + 1) - phTbp t i)))
  phAt t soc i + x * (phAt t soc (i + 1) - phAt t soc i)

/-- COH_REF: γ² × 65,535 at the reference point, 0 where there is none (R244). -/
def cohRef (npt ref : Nat) (x : EisPoint) : Nat := if ref < npt && fFinite x.coh then satU 16 (fToInt (fMul x.coh 0x477FFF00)) else 0

/-- The 16 bytes of a cell (R244): TC_OBS with SIG_OBS, PHASE_REF, δ_c in 0.001°, COH_REF, NVALID and CFLAGS. -/
def eisEntry (obs phase : List Byte) (ofs : Int) (coh nv fl : Nat) (c : EisCell) : List Byte :=
  obs ++ phase ++ sBytes 2 ofs ++ leBytes 2 coh ++ leBytes 1 (min 255 c.kept) ++ leBytes 1 nv ++ leBytes 2 (fl + 8 * b2n c.bled + 64 * b2n c.subst)
def noObs : List Byte := leBytes 2 0x8000 ++ leBytes 2 0xFFFF
def noPhase : List Byte := leBytes 4 0x80000000

/-- What the evaluation of a cell leaves: its 16-byte entry, its impedances, the new offset and the observation. -/
structure EisOut where
  entry : List Byte
  zs : List Byte
  ofs : Int
  obs : Option (Word × Word)
  clamped : Bool

/-- One cell evaluated (R238 to R243). -/
def eisEval (s : State) (refOk : Bool) (ci : Nat × EisCell) : EisOut :=
  let c := ci.2
  let npt := c.svi.length
  let pts := (List.range npt).map (eisPoint s c)
  let nv := (pts.filter (fun p => p.valid)).length
  let z1 (w : Word) : List Byte := sBytes 4 (satS 32 (-2147483647) (fToInt (fMul w 0x49742400)))
  let none8 := leBytes 4 0x80000000 ++ leBytes 4 0x80000000
  let zs := ((List.range 16).map (fun k => match pts[k]? with
    | some p => if p.valid then z1 p.zr ++ z1 p.zi else none8
    | none => none8)).flatten
  let blank : EisPoint := { valid := false, zr := 0, zi := 0, coh := 0 }
  let rp := pts.getD (eisRef s) blank
  let valid := decide (eisRef s < npt) && rp.valid
  let ph := ratOf (eisPhase rp)
  let ofs0 := s.eis.ofs.getD ci.1 0
  let ec := s.est.cells[ci.1]?
  let soc : Rat := match ec with
    | some x => x.socQ
    | none => 0
  let tb := rd s (R.THERM_TB_TB (ci.1 / 24))
  let tbQ : Rat := (sInt 16 tb : Rat) / 100
  let tb0 := s.eis.tb0.getD (ci.1 / 24) 0x8000
  let still := decide (tb ≠ 0x8000) && decide (tb0 ≠ 0x8000) && decide ((sInt 16 tb - sInt 16 tb0).natAbs ≤ 20)
  let upd := decide (cfgU s 18 1 20 1 = 1) && valid && s.eis.restAll && still && ec.isSome && s.eis.table.isSome
  let tab := s.eis.table.getD []
  let want : Int := if upd then ofs0 + roundRat ((1000 * (ph - phTab tab soc tbQ) * 65536 - ofs0) / 16) else ofs0
  let ofs := clampInt (-327680000) 327680000 want
  let phc := ph - (ofs : Rat) / 65536000
  let est := flag s R.EST_STATUS_RUN && (match ec with
    | some x => fFinite (sigP x 0)
    | none => false)
  let inv := if refOk && valid && est then phInvert tab soc phc else none
  let out := refOk && valid && est && inv.isNone
  let sg : Option (Rat × Word) := inv.map (fun v =>
    let s2 := fDiv (fSub f1 rp.coh) (fMul (fMul f2 (fOfInt c.kept)) rp.coh)
    let deg := fMul s2 0x454D2CE7
    let ss := fMul (fOfRat v.2.2) (match ec with
      | some x => sigP x 0
      | none => 0)
    let sT := fOfRat v.2.1
    let tsig := fOfRatio (fieldAt tab 6 2) 100
    (v.1, fAdd (fDiv (fAdd deg (fMul ss ss)) (fMul sT sT)) (fMul tsig tsig)))
  let good := match sg with
    | some v => fLe (fSqrt v.2) (fOfRatio (cfgU s 18 1 14 2) 100)
    | none => false
  let fl := b2n good + 2 * b2n out + 4 * b2n (sg.isSome && !good) + 16 * b2n upd + 32 * b2n (upd && decide (want ≠ ofs))
  let obs := match sg with
    | some v => sBytes 2 (satTemp (roundRat (v.1 * 100))) ++ leBytes 2 (min 0xFFFE (satU 16 (fToInt (fMul (fSqrt v.2) 0x42C80000))))
    | none => noObs
  let entry := eisEntry obs (if valid then sBytes 4 (roundRat (ph * 1000)) else noPhase) (roundDiv ofs 65536) (cohRef npt (eisRef s) rp) nv fl c
  { entry := entry, zs := zs, ofs := ofs, clamped := upd && decide (want ≠ ofs),
    obs := match sg with
      | some v => if good then some (fOfRat v.1, v.2) else none
      | none => none }

/-! ### Records (R244) -/

/-- The 83,968 bytes of a record; `outs` is empty for an abandoned integration. -/
def eisRecord (s : State) (p : List Byte) (abandoned : Bool) (outs : List EisOut) : List Byte :=
  let e := s.eis
  let refOk := eisRefOk s e.perNs
  let hf := eisMode s + 4 * b2n e.interrupted + 8 * b2n abandoned + 16 * b2n (!commands s) + 32 * b2n refOk + 64 * b2n e.startup
  let apk := if eisMode s = 1 then e.apk else 0
  let pts := ((List.range 16).map (fun k =>
    if planNpt p ≤ k then zeros 16
    else
      let ai := fSqrt (fDiv (e.iSii.getD k 0) (fOfInt e.iKept))
      let ok := decide (0 < e.iKept) && fLe (fOfRatio (cfgU s 18 1 10 2) 1000) ai
      leBytes 4 (roundNat (planM p k * 1000000000000) (planN p * e.perNs)) ++ leBytes 2 (planM p k) ++ leBytes 1 (b2n ok + 2 * b2n (decide (k = eisRef s)))
        ++ zeros 1 ++ leBytes 4 (if e.iKept = 0 then 0 else satU 32 (fToInt (fMul ai 0x447A0000)))
        ++ leBytes 4 (if apk = 0 then 0 else satU 32 (fToInt (fMul e.gain (fOfInt (planW p k))))))).flatten
  let cells := ((List.range 576).map (fun i => match outs[i]? with
    | some o => o.entry
    | none => match e.cells[i]? with
      | some c => if abandoned then
          eisEntry noObs noPhase (ofsMilli s i) (cohRef c.svi.length (eisRef s) (eisPoint s c (eisRef s))) 0 0 c else zeros 16
      | none => zeros 16)).flatten
  let zs := ((List.range 576).map (fun i => match outs[i]? with
    | some o => o.zs
    | none => (List.replicate 32 (leBytes 4 0x80000000)).flatten)).flatten
  let b := leBytes 8 e.tFirst ++ leBytes 8 e.tLast ++ leBytes 4 e.sFirst ++ leBytes 4 e.sLast ++ leBytes 4 (fieldAt p 0 4)
    ++ leBytes 4 (rd s R.EIS_INT_CNT_COUNT) ++ leBytes 4 (planN p) ++ leBytes 4 (fsMilli e.perNs) ++ leBytes 4 hf ++ leBytes 1 e.iKept ++ leBytes 1 (planNpt p)
    ++ leBytes 1 (eisRef s) ++ zeros 1 ++ leBytes 2 (min 65535 e.absent) ++ zeros 2 ++ leBytes 4 apk ++ zeros 8 ++ pts ++ cells ++ zs ++ zeros 700
  b ++ leBytes 4 (crc32c b)

/-- A record into QP19 (R98). -/
def eisWrite (s : State) (bs : List Byte) : State :=
  streamOr s 19 bs (fun s => errRise (bump s R.EIS_RESULT_LOST_CNT_COUNT) R.EIS_ERR_LOST 0 0)

/-- An integration is over; what waited for its end takes effect. -/
def eisOver (s : State) : State :=
  eisCommitNow (put { s with eis := { s.eis with on := false, segOn := false, segDue := false, intDue := false } } R.EIS_STATUS_HELD false)

/-- An integration abandoned (R235). -/
def eisAbandon (s : State) : State :=
  match s.eis.plan with
  | none => s
  | some p =>
    if !s.eis.on then s
    else
      let s1 := errRise (bump (bump s R.EIS_INT_CNT_COUNT) R.EIS_ABANDON_CNT_COUNT) R.EIS_ERR_ABANDONED 0 0
      let s2 := eisOver (eisWrite s1 (eisRecord s1 p true []))
      { s2 with eis := { s2.eis with waitExc := true } }

/-- The end of an integration: NSEG segments kept (R233, R238 to R244). -/
def eisIntEnd (s : State) : State :=
  match s.eis.plan with
  | none => s
  | some p =>
    if !s.eis.intDue then s
    else
      let refOk := eisRefOk s s.eis.perNs
      let outs := (s.eis.cells.zipIdx).map (fun ci => eisEval s refOk (ci.2, ci.1))
      let ofs := ((List.range 576).map (fun i => match outs[i]? with
        | some o => o.ofs
        | none => s.eis.ofs.getD i 0))
      let est := { s.est with cells := (s.est.cells.zipIdx).map (fun ci => match outs[ci.2]? with
        | some o => (match o.obs with
          | some v => { ci.1 with obs := some v }
          | none => ci.1)
        | none => ci.1) }
      let s1 := bump { s with est := est, eis := { s.eis with ofs := ofs } } R.EIS_INT_CNT_COUNT
      let s2 := if outs.any (fun o => o.clamped) then errRise s1 R.EIS_ERR_OFS_CLAMP 0 0 else s1
      let rec0 := eisRecord s2 p false outs
      let s3 := eisWrite { s2 with eis := { s2.eis with latest := rec0 } } rec0
      let nxt := (s3.eis.sLast + 1) % 2 ^ 32
      let s4 := eisOver s3
      match eisFit s4 with
      | some per => if eisMay s4 then eisBegin s4 per nxt else s4
      | none => s4

/-! ### Segments (R236, R237) -/

/-- A cell at the end of a segment: discarded, or added to its sums; the answer says whether it was discarded. -/
def eisCellEnd (n lim iSubs : Nat) (iHat : List (Word × Word)) (c : EisCell) : EisCell × Bool :=
  let c0 := { c with x0 := none, subs := 0, tbits := none, bad := false, acc := c.acc.map (fun _ => (0, 0)) }
  if c.bad || c.x0.isNone || decide (lim * n < 1000 * (c.subs + iSubs)) then (c0, true)
  else
    let v := c.acc.map (fun x => phasor x n 100000)
    let z := v.zip iHat
    ({ c0 with
        svi := (c.svi.zip z).map (fun a => (fAdd a.1.1 (fAdd (fMul a.2.1.1 a.2.2.1) (fMul a.2.1.2 a.2.2.2)),
          fAdd a.1.2 (fSub (fMul a.2.1.2 a.2.2.1) (fMul a.2.1.1 a.2.2.2))))
        svv := (c.svv.zip v).map (fun a => fAdd a.1 (cAbs2 a.2))
        sii := (c.sii.zip iHat).map (fun a => fAdd a.1 (cAbs2 a.2))
        kept := c.kept + 1 }, false)

/-- The end of a segment (R236, R237). -/
def eisSegEnd (s : State) : State :=
  match s.eis.plan with
  | none => s
  | some p =>
    if !s.eis.segDue then s
    else
      let e := s.eis
      let n := planN p
      let lim := cfgU s 18 1 3 1
      let npt := planNpt p
      let clear (e : EisSt) : EisSt := { e with segDue := false, segOn := false, i0 := none, iSubs := 0, iBad := false, iAcc := List.replicate npt (0, 0) }
      if e.i0.isNone || decide (lim * n < 1000 * e.iSubs) then
        let cells := e.cells.map (fun c => { c with x0 := none, subs := 0, tbits := none, bad := false, acc := c.acc.map (fun _ => (0, 0)) })
        eisShow (bumpBy { s with eis := clear { e with cells := cells, absent := e.absent + 1 } } R.EIS_SEG_DROP_CNT_COUNT cells.length)
      else
        let iHat := e.iAcc.map (fun x => phasor x n 1000)
        let out := e.cells.map (eisCellEnd n lim e.iSubs iHat)
        let kept := e.iKept + 1
        let e1 := clear { e with cells := out.map Prod.fst, iKept := kept, iSii := (e.iSii.zip iHat).map (fun a => fAdd a.1 (cAbs2 a.2)),
                                 intDue := decide (eisNseg s ≤ kept) }
        eisShow (bumpBy { s with eis := e1 } R.EIS_SEG_DROP_CNT_COUNT ((out.filter (fun x => x.2)).length))

/-- A sample as EIS takes it: per cell the code (none where not usable, R237) and the BLEEDING and DERATED bits of its tile's
slot (none without a good slot), the current, and the instant. -/
structure EisSample where
  codes : List (Option Nat)
  bits : List (Option Nat)
  cur : Option Int
  t : Nat

/-- One cell takes one sample at n. -/
def eisCellStep (n : Nat) (co : List (Int × Int)) (code bits : Option Nat) (c : EisCell) : EisCell :=
  let flip := match c.tbits, bits with
    | some a, some b => decide (a ≠ b)
    | _, _ => false
  let c1 := { c with bad := c.bad || flip, tbits := if c.tbits.isSome then c.tbits else bits,
                     bled := c.bled || (match bits with
                       | some b => bitOf b 0
                       | none => false) }
  if n = 0 then
    match code with
    | some x => { c1 with x0 := some x, last := x, acc := accAdd co 0 c1.acc }
    | none => { c1 with bad := true, subst := true }
  else
    match c1.x0 with
    | none => c1
    | some x0 =>
      let x := code.getD c1.last
      { c1 with last := x, subs := c1.subs + b2n code.isNone, subst := c1.subst || code.isNone, acc := accAdd co ((x : Int) - x0) c1.acc }

/-- One sample number: the sample taken there, or none where it is absent from the stream. -/
def eisStep (s : State) (q : Nat) (sm : Option EisSample) : State :=
  match s.eis.plan with
  | none => s
  | some p =>
    let e := s.eis
    let total := planN p
    let n := (q + 2 ^ 32 - e.sFirst) % 2 ^ 32 % total
    let t := match sm with
      | some x => x.t
      | none => e.tLast
    let e0 := { e with sLast := q, tLast := t, tFirst := if e.tFirst = 0 then t else e.tFirst, segOn := e.segOn || decide (n = 0) }
    if !e0.segOn then { s with eis := e0 }
    else
      let co := (List.range (planNpt p)).map (fun k => eisCoef n total (planM p k))
      let cur := sm.bind (fun x => x.cur)
      let cells := (e0.cells.zipIdx).map (fun ci =>
        eisCellStep n co (sm.bind (fun x => x.codes.getD ci.2 none)) (sm.bind (fun x => x.bits.getD (ci.2 / 24) none)) ci.1)
      let e1 :=
        if n = 0 then
          (match cur with
          | some i => { e0 with i0 := some i, iLast := i, iAcc := accAdd co 0 e0.iAcc }
          | none => { e0 with iBad := true, i0 := none })
        else match e0.i0 with
          | none => e0
          | some i0 =>
            let i := cur.getD e0.iLast
            { e0 with iLast := i, iSubs := e0.iSubs + b2n cur.isNone, iAcc := accAdd co (clampInt (-8388608) 8388607 (i - i0)) e0.iAcc }
      { s with eis := { e1 with cells := cells, segDue := decide (n + 1 = total) } }

/-- The segment in progress discarded for every cell (R235). -/
def eisDrop (s : State) : State :=
  let e := s.eis
  { s with eis := { e with segOn := false, segDue := false, i0 := none, iSubs := 0, iBad := false, iAcc := e.iAcc.map (fun _ => (0, 0)), interrupted := true,
                           cells := e.cells.map (fun c => { c with x0 := none, subs := 0, tbits := none, bad := false, acc := c.acc.map (fun _ => (0, 0)) }) } }

/-- As many numbers absent from the stream (R237). -/
def eisAbsent (s : State) : Nat → State
  | 0 => s
  | k + 1 => if !s.eis.on then s else eisAbsent (eisIntEnd (eisSegEnd (eisStep s ((s.eis.sLast + 1) % 2 ^ 32) none))) k

/-- Whole segments absent from the stream: each is discarded for every cell (R237). -/
def eisAbsentSegs (s : State) (k : Nat) : State :=
  match s.eis.plan with
  | none => s
  | some p =>
    if !s.eis.on then s
    else bumpBy { s with eis := { s.eis with sLast := (s.eis.sLast + k * planN p) % 2 ^ 32, absent := s.eis.absent + k } } R.EIS_SEG_DROP_CNT_COUNT
      (k * s.eis.cells.length)

/-- An interruption begins or goes on (R235): the segment in progress is discarded. -/
def eisHalt (s : State) : State :=
  let d := eisDrop s
  if flag d R.EIS_STATUS_HELD then d else bump (put d R.EIS_STATUS_HELD true) R.EIS_INTERRUPT_CNT_COUNT

/-- The switch-over gap interrupts the integration (R235, R248). -/
def eisSwitch (s : State) : State := if flag s R.EIS_STATUS_RUN && s.eis.on then eisShow (eisHalt s) else s

/-- The schedule may have changed: where fs has, the integration is abandoned at once (R235), and a reference point that leaves its band is
a mismatch (R240). -/
def eisFollow (s : State) : State :=
  let s1 := if flag s R.EIS_STATUS_REF_OK && !eisRefNow s then errRise s R.EIS_ERR_REF_MISMATCH 0 0 else s
  if s1.eis.on && decide (eisPer s1 ≠ some s1.eis.perNs) then
    let a := eisAbandon (errRise s1 R.EIS_ERR_RATE_CHANGE 0 0)
    eisShow { a with eis := { a.eis with waitExc := false, startAt := a.meas.next } }
  else eisShow s1

/-- The instants that did not come before sample q (R237): to the end of the segment one by one, then by whole segments, then one by one. An
integration that is held passes them over, since it resumes at a sample (R235). -/
def eisGap (s : State) (q : Nat) : State :=
  let nxt := (s.eis.sLast + 1) % 2 ^ 32
  let gap := (q + 2 ^ 32 - nxt) % 2 ^ 32
  let total := match s.eis.plan with
    | some p => max 1 (planN p)
    | none => 1
  if flag s R.EIS_STATUS_HELD then { s with eis := { s.eis with sLast := (q + 2 ^ 32 - 1) % 2 ^ 32 } }
  else
    let head := min gap ((total - (nxt + 2 ^ 32 - s.eis.sFirst) % 2 ^ 32 % total) % total)
    eisAbsent (eisAbsentSegs (eisAbsent s head) ((gap - head) / total)) ((gap - head) % total)

/-- A sample that comes while the excitation is not valid: the integration is held (R234, R235). -/
def eisHold (s4 : State) (q : Nat) (sm : EisSample) : State :=
  let d1 := eisHalt s4
  eisSeen (eisShow { d1 with eis := { d1.eis with sLast := q, tLast := sm.t, tFirst := if d1.eis.tFirst = 0 then sm.t else d1.eis.tFirst } }) false false

/-- A sample under valid excitation. -/
def eisLive (s4 : State) (q : Nat) (sm : EisSample) : State :=
  let s5 := eisStep s4 q (some sm)
  eisSeen (eisShow (if s5.eis.segOn then put s5 R.EIS_STATUS_HELD false else s5)) s5.eis.segOn true

/-- Whether an integration may begin with sample q: its instant came after ENABLE, the commit or the change of schedule (R233), and after an
abandoned integration the excitation is valid (R235). -/
def eisOpens (s : State) (q : Nat) (ok : Bool) : Bool :=
  decide ((q + 2 ^ 32 - s.eis.startAt) % 2 ^ 32 < 2 ^ 31) && (ok || !s.eis.waitExc)

/-- A sample taken where an integration runs or begins with it (R233). -/
def eisTaken (s2 : State) (per q : Nat) (sm : EisSample) : State :=
  let ok := excValid s2
  let s3 := if s2.eis.on || !eisOpens s2 q ok then s2 else eisBegin s2 per q
  if !s3.eis.on then eisSeen (eisShow s3) false ok
  else if !ok then eisHold (eisGap s3 q) q sm
  else
    let s4 := eisGap s3 q
    if s4.eis.on then eisLive s4 q sm else eisSeen (eisShow s4) false ok

/-- A sweep reaches EIS (R232 to R237). -/
def eisSweep (s : State) (q : Nat) (sm : EisSample) : State :=
  if !flag s R.EIS_STATUS_RUN || decide (eisMode s = 0) then eisSeen s false false
  else
    let s2 := eisIntEnd (eisSegEnd s)
    match eisFit s2 with
    | none => eisSeen (eisShow s2) false (excValid s2)
    | some per => eisTaken s2 per q sm

/-! ### Queue pair 18 (R245) -/

/-- The phase offsets that EIS takes when it is enabled (R243): of each position the newest record that fits. -/
def eisLoadOfs (s : State) : List Int :=
  ((List.range 24).map (fun p =>
    let fref := match s.eis.table with
      | some t => fieldAt t 0 4
      | none => 0
    match s.nv.hist.find? (fun h => decide (h.kind = 17) && decide (fieldAt h.data 11 1 = p) && decide (fieldAt h.data 0x4C 4 = crc32c (h.data.take 0x4C))
        && decide (some (fieldAt h.data 12 4) = s.chain.trims.getD p none) && decide (fieldAt h.data 0x40 4 = fref)) with
    | some h => (List.range 24).map (fun j => sInt 16 (fieldAt h.data (0x10 + 2 * j) 2) * 65536)
    | none => List.replicate 24 (0 : Int))).flatten

/-- ENABLE on QP18 and QP19 (R243, R245). -/
def eisEnable (_ : Entry) (s : State) : State × EntrySt :=
  if flag s R.EIS_STATUS_RUN then okR s 0
  else
    let s1 := eisCommitNow s
    okR (eisShow (put { s1 with eis := { s1.eis with on := false, waitExc := false, startAt := s1.meas.next, ofs := eisLoadOfs s1 } }
      R.EIS_STATUS_RUN true)) 0

/-- DISABLE: the integration in progress ends without a record (R245). -/
def eisDisable (_ : Entry) (s : State) : State × EntrySt :=
  if !flag s R.EIS_STATUS_RUN then okR s 0
  else okR (eisShow (eisSeen (eisComDone (eisOver (put s R.EIS_STATUS_RUN false)) none) false false)) 0

/-- What PLAN_COMMIT refuses a plan for (R245): the index of the first offending point, or 0xFFFF. -/
def planRefused (s : State) (p : List Byte) : Option Nat :=
  let ref := match s.cfgPend.find? (fun x => decide (x.1 = itemKey 18 1)) with
    | some x => fieldAt x.2 1 1
    | none => eisRef s
  match planBad p (eisPer s) (eisNseg s) with
  | some i => some i
  | none => if ref ≠ 0xFF ∧ planNpt p ≤ ref then some 0xFFFF else none

/-- A commit accepted (R245): it waits for the end of the integration, or takes effect at once; then its entry completes with the first
integration under the plan, or at once with a free RESULT where none can begin (DESIGN CHOICE, log 36). An earlier one that still waits
for its boundary completes with SUPERSEDED. -/
def planTake (s : State) (p : List Byte) (t : Option (List Byte)) (rst : Bool) : State × EntrySt :=
  let s1 := eisComDone (if s.eis.pend.isSome then finishEntry s 18 (Entry.runs 0x40) 0x44 0 0 else s) none
  if flag s1 R.EIS_STATUS_RUN && s1.eis.on then (eisShow { s1 with eis := { s1.eis with pend := some (p, t, rst) } }, .running 0)
  else
    let s2 := eisTake { s1 with eis := { s1.eis with pend := none } } p t rst
    if eisMay s2 then ({ s2 with eis := { s2.eis with comDue := true } }, .running 0)
    else
      let f := fresh s2
      okR f.2 (f.1 % 2 ^ 32)

/-- PLAN_COMMIT (R245); a write that STOR refuses is STATE (R104; DEDUCED, log 35). -/
def eisPlanCommit (e : Entry) (s : State) : State × EntrySt :=
  let p := cfgItem s 18 2
  let t := cfgItem s 18 3
  if !storTakes s then failR s 0x06
  else if p.isEmpty then failR s 0x43
  else match planRefused s p with
    | some i => failX (errRise s R.EIS_ERR_PLAN_REJ 0 0) 0x41 i
    | none =>
      if !t.isEmpty && !phaseOk t then failR (errRise s R.EIS_ERR_TABLE_REJ 0 0) 0x42
      else planTake s p (if t.isEmpty then none else some t) (bitOf e.arg1 0)

/-! ### The rows of EIS -/

/-- SEGMENT_END (R236). -/
def execSegmentEnd (s : State) : Host.Outcome State Fault Refusal := .next (eisSegEnd s)

/-- INTEGRATION_END (R238). -/
def execIntegrationEnd (s : State) : Host.Outcome State Fault Refusal := .next (eisIntEnd (eisSegEnd s))

/-- HOLD_TIMEOUT: an interruption has lasted longer than HOLD_S (R235). -/
def execHoldTimeout (s : State) : Host.Outcome State Fault Refusal :=
  .next (if flag s R.EIS_STATUS_HELD then eisAbandon s else s)

/-- PLAN_COMMIT on QP18. -/
def execPlanCommit (s : State) : Host.Outcome State Fault Refusal := .next (runEntry s 18 0x40 eisPlanCommit)

/-- EIS_HISTORY_TIMER: HIST_MIN minutes have passed (R244). -/
def execEisHistoryTimer (s : State) : Host.Outcome State Fault Refusal :=
  .next (if flag s R.EIS_STATUS_RUN && decide (cfgU s 18 1 18 2 ≠ 0) && !s.eis.latest.isEmpty && storTakes s then histAdd s 16 s.eis.latest else s)

/-! ### The rows of MEAS that change the schedule -/

/-- SCHEDULE_BOUNDARY: the interval after one instant is taken and before the next is fixed (R175). -/
def execScheduleBoundary (s : State) : Host.Outcome State Fault Refusal :=
  .next (if flag s R.MEAS_STATUS_RUN then eisFollow (measBoundary s) else s)

/-- CARRIER_STOP: under base CARRIER, MEAS enters holdover once PWM is not enabled. -/
def execCarrierStop (s : State) : Host.Outcome State Fault Refusal := .next (if carrierOn s then s else eisFollow (carrierFollow s))

/-- CARRIER_RESTART: MEAS locks to the carrier at the next instant. -/
def execCarrierRestart (s : State) : Host.Outcome State Fault Refusal := .next (if carrierOn s then eisFollow (carrierFollow s) else s)

/-- CARRIER_PERIOD_CHANGE. -/
def execCarrierPeriodChange (s : State) : Host.Outcome State Fault Refusal := .next (eisFollow (carrierChange s))

end Sys2Proof.Machine
end

