-- ==== Sys2Proof/Machine/Therm.lean ====
section
/-! DEFINITION. THERM: sensors and their judgement (R249 to R254), bounds, limits and windows (R255 to R260), actuators (R261
to R264), records and the queue pair QP20 (R265 to R269). -/

namespace Sys2Proof.Machine

open Sys2Proof

/-! ### Settings (R266, R268) -/

def thU (s : State) (ofs n : Nat) : Nat := cfgU s 20 1 ofs n
def thS (s : State) (ofs : Nat) : Int := cfgS s 20 1 ofs 2

/-- An actuator's field of item 3. -/
def actU (s : State) (a ofs n : Nat) : Nat := cfgU s 20 3 (16 * a + ofs) n

/-- The tile positions of the set. -/
def setTiles (s : State) : List Nat := List.range (min 24 (setNn s))

/-! ### Sensors (R249 to R251) -/

/-- A tile's good reading reaches THERM (R249): a STALE tile recovers. -/
def thermReading (ticks diode : Nat) (t : ThermTile) : ThermTile := { t with diode := some diode, goodAt := ticks, got := true, stale := false }

/-- TB of a tile as measured, rounded once (R14, R250). -/
def thermTb (s : State) (t : ThermTile) : Int :=
  match t.diode with
  | some d => if d = 0x8000 then -32768 else satTemp (roundRat (sInt 16 d - (thU s 2 2 : Nat) * ratOf t.pf))
  | none => -32768

/-- P_f one round of `dtMs` further: a first-order filter with SELF_TAU_S, in one step a round (DESIGN CHOICE, log 18). -/
def thermPf (s : State) (dtMs p10 : Nat) (t : ThermTile) : ThermTile :=
  let p := fOfRatio p10 655360
  let a := fSub f1 (fExpNeg (fOfRatio dtMs (1000 * thU s 4 2)))
  { t with pf := fAdd t.pf (fMul a (fSub p t.pf)) }

/-- PS_TEMP of a pin voltage in mV (R251). -/
def psTempOf (s : State) (mv : Nat) : Nat :=
  if 3250 < mv ∨ mv < 50 then 0x8000
  else
    let ln : Rat := (fixLn (10000 * mv) - fixLn ((3300 - mv) * max 1 (thU s 42 2)) : Int) / 2 ^ 96
    sCode 16 (satTemp (roundRat (100 / (100 / 29815 + ln / (max 1 (thU s 40 2) : Nat)) - 27315)))

/-! ### Judgement (R253, R254) -/

/-- Whether a tile's TB can stand beside its neighbours'. -/
def thermUsable (t : ThermTile) : Bool := !t.broken && !t.stale && t.diode.isSome

/-- The usable neighbours of position k (R253). -/
def neighbours (s : State) (k : Nat) : List ThermTile :=
  ((if 0 < k then [k - 1] else []) ++ (if k + 1 < min 24 (setNn s) then [k + 1] else [])).filterMap (fun j =>
    match s.therm.tiles[j]? with
    | some t => if thermUsable t then some t else none
    | none => none)

/-- Whether a tile has had no good slot for 1 s (R253). -/
def thermStale (s : State) (t : ThermTile) : Bool := t.stale || decide (250000000 ≤ s.power.ticks - t.goodAt)

/-- What the tests of R253 find of a reading: outside its range, a jump since the housekeeping round before, and a deviation from the mean
of the usable neighbours while neither tile bleeds. -/
structure ThermTest where
  outside : Bool
  jump : Bool
  dev : Bool

/-- The tests of a tile's reading. -/
def thermTest (s : State) (k d : Nat) (t : ThermTile) : ThermTest :=
  let x := sInt 16 d
  let nb := neighbours s k
  let quiet := decide (s.therm.pBal.getD k 0 = 0) && decide (k = 0 ∨ s.therm.pBal.getD (k - 1) 0 = 0) && decide (s.therm.pBal.getD (k + 1) 0 = 0)
  let away := ((nb.length : Int) * t.tb - (nb.map ThermTile.tb).sum).natAbs
  { outside := decide (d = 0x8000) || decide (x < -5500) || decide (15000 < x)
    jump := (match t.prev with
      | some p => decide (500 < (x - sInt 16 p).natAbs)
      | none => false)
    dev := quiet && decide (nb.length * thU s 10 2 < away) }

/-- One tile judged in a round (R253): the tile, and whether it became BROKEN and STALE. A fast round that finds no new reading flags nothing
(R252); the jumps are counted in housekeeping rounds; only the time of readings that pass leads out of BROKEN. -/
def thermJudge (s : State) (house : Bool) (dtMs k : Nat) (t : ThermTile) : ThermTile × Bool × Bool :=
  if !house && !t.got then (t, false, false)
  else
    let stale := thermStale s t
    let was := stale && !t.stale
    match t.diode with
    | none => ({ t with stale := stale, got := false }, false, was)
    | some d =>
      let x := thermTest s k d t
      let jumps := if !house then t.jumps else if x.jump then t.jumps + 1 else 0
      let devMs := if x.dev then t.devMs + dtMs else 0
      let bad := x.outside || decide (3 ≤ jumps) || decide (60000 ≤ devMs)
      let okMs := if x.outside || (house && x.jump) || x.dev || stale then 0 else if t.got then t.okMs + dtMs else t.okMs
      let broken := if t.broken then !decide (60000 ≤ okMs) || bad else bad
      ({ t with stale := stale, got := false, prev := if house then some d else t.prev, jumps := jumps, devMs := devMs,
                okMs := if broken && !t.broken then 0 else okMs, broken := broken }, broken && !t.broken, was)

/-- TB of a tile as it goes on (R254): substituted for a STALE or BROKEN one, and for one that has never given a reading. The
second part says whether HOT was used. -/
def thermTbOut (s : State) (k : Nat) (t : ThermTile) : Int × Bool :=
  if thermUsable t then (t.tb, false)
  else
    let nb := neighbours s k
    if thU s 0 1 = 1 ∧ !nb.isEmpty then
      (satTemp ((nb.map ThermTile.tb).foldl max (-32767) + thU s 8 2), false)
    else (thS s 6, true)

/-! ### Bounds and limits (R255 to R259) -/

/-- Whether EST's value of a cell is usable, and its Tc ± K_T × σ_Tc in 0.01 °C (R255). -/
def estBound (s : State) (c : Nat) : Option (Int × Int) :=
  if !flag s R.EST_STATUS_RUN then none
  else match s.est.cells[c]? with
    | none => none
    | some x =>
      let sg := sigP x 3
      if x.stale || !fFinite sg || fLt (fOfRatio (thU s 22 2) 100) sg then none
      else
        let tc := fOfScaled x.tc (-22)
        let m := fMul (fOfRatio (thU s 1 1) 10) sg
        some (satTemp (fToScaledC (fAdd tc m)), satTemp (fToScaledC (fSub tc m)))
where
  /-- °C in units of 0.01 °C. -/
  fToScaledC (w : Word) : Int := fToInt (fMul w 0x42C80000)

/-- T_HI and T_LO with their cells (R255); `tbs` are the TB by tile. -/
def thermBounds (s : State) (tbs : List Int) : (Int × Nat) × (Int × Nat) :=
  let cs := List.range (setCells s)
  let hi := cs.map (fun c =>
    let tb := tbs.getD (c / 24) 0
    match estBound s c with
    | some b => max b.1 tb
    | none => satTemp (tb + thU s 12 2))
  let lo := cs.map (fun c => match estBound s c with
    | some b => b.2
    | none => tbs.getD (c / 24) 0)
  (extreme (fun a b => decide (b < a)) hi, extreme (fun a b => decide (a < b)) lo)

/-- The derating table (R267): breakpoints with charge and discharge magnitudes. -/
def derating (s : State) : List (Int × Nat × Nat) :=
  let t := cfgItem s 20 2
  (List.range (fieldAt t 0 1)).map (fun i =>
    (sInt 16 (fieldAt t (8 + 12 * i) 2), fieldAt t (12 + 12 * i) 4, fieldAt t (16 + 12 * i) 4))

/-- The table's value at a temperature in 0.01 °C (R256). -/
def derateAt (tab : List (Int × Nat)) (t : Rat) : Rat :=
  match tab with
  | [] => 0
  | [x] => (x.2 : Nat)
  | x :: y :: rest =>
    if t ≤ x.1 then (x.2 : Nat)
    else if t ≤ y.1 then (x.2 : Nat) + (((y.2 : Int) - x.2 : Int) : Rat) * (t - x.1) / (y.1 - x.1 : Int)
    else derateAt (y :: rest) t

/-- The smallest value over a closed interval (R256). -/
def derateMin (tab : List (Int × Nat)) (a b : Int) : Rat :=
  let inside := (tab.filter (fun x => decide (a ≤ x.1) && decide (x.1 ≤ b))).map (fun x => ((x.2 : Nat) : Rat))
  inside.foldl min (min (derateAt tab a) (derateAt tab b))

/-- One limit of R257, mA: the raw limit rounded (R256), after the factor, the hold at zero and a rise of at most `rise`. -/
def thermLimit (s : State) (tab : List (Int × Nat)) (tHi tLo : Int) (fault : Bool) (old rise : Nat) : Nat :=
  let raw := roundRat (derateMin tab tLo tHi)
  let f := if fault then roundDiv (raw * thU s 36 2) 1000 else raw
  let h : Int := thU s 14 2
  let held :=
    if s.therm.started && decide (old = 0) then
      (if tLo + h ≤ tHi - h then decide (derateMin tab (tLo + h) (tHi - h) ≤ 0) else decide (derateAt tab ((tLo + tHi : Int) / 2 : Rat) ≤ 0))
    else false
  min (if held then 0 else f.toNat) (old + rise)

/-! ### Actuators (R261 to R264) -/

/-- Whether this unit drives J10: after a switch-over from its first round on (R264, R271). -/
def j10Drives (s : State) : Bool := flag s R.THERM_STATUS_ACT_RUN && commands s && fullUp s && s.therm.j10On

/-- An actuator's duty, 0.01 % (R261), and what of it is in force. -/
def actDuty (s : State) (a : Nat) : Nat :=
  match actU s a 0 1 with
  | 1 => actU s a 2 2
  | 2 => s.therm.loopDuty.getD (actU s a 1 1) 0
  | _ => 0
def dutyNow (s : State) (a : Nat) : Nat := if j10Drives s then actDuty s a else 0

/-- Whether an actuator is driven, and a J10 line's share of sinking with its frequency: INVERT makes the duty the released share (R261). -/
def actDriven (s : State) (a : Nat) : Bool := j10Drives s && decide (actU s a 0 1 ≠ 0)
def lineOf (s : State) (a : Nat) : Nat × Nat :=
  if !actDriven s a then (0, 0) else (if actU s a 6 1 = 1 then 10000 - actDuty s a else actDuty s a, actU s a 4 2)

/-- The heater relay as its duty demands (R262): a dwell that runs keeps the state. A release opens it at once, and the off state then lasts
its 10 s. -/
def heaterFollow (s : State) : State :=
  let d := actDuty s 3
  if !actDriven s 3 then { s with therm := { s.therm with heater := false, dwell := s.therm.dwell || s.therm.heater } }
  else if s.therm.dwell then s
  else if !s.therm.heater && decide (5000 ≤ d) then { s with therm := { s.therm with heater := true, dwell := true } }
  else if s.therm.heater && decide (d ≤ 2500) then { s with therm := { s.therm with heater := false, dwell := true } }
  else s

/-- Tach speed of an actuator in rpm (R263). -/
def tachOf (s : State) (a : Nat) : Nat := if a = 0 then rd s R.THERM_TACH01_TACH0 else if a = 1 then rd s R.THERM_TACH01_TACH1 else rd s R.THERM_TACH2_TACH2

/-- Whether an actuator is driven hard and turns too slowly (R263). -/
def actSlow (s : State) (a : Nat) : Bool :=
  decide (a < 3) && decide (actU s a 10 2 ≠ 0) && decide (actU s a 12 2 ≤ dutyNow s a) && decide (tachOf s a < actU s a 10 2)

/-- The J10 lines, THERM.ACT.DRIVEN and COOL_FAULT as they follow (R261, R263, R270). -/
def actShow (s : State) : State :=
  let s0 := { s with therm := { s.therm with lines := (List.range 3).map (lineOf s) } }
  let s1 := wr s0 R.THERM_ACT_DRIVEN (maskOf (actDriven s0) (List.range 4))
  put s1 R.THERM_STATUS_COOL_FAULT ((List.range 4).any (fun a => bitIn s1 R.THERM_ACT_FAULT a && decide (actU s1 a 7 1 = 1)))

/-! ### Rounds (R252) -/

/-- The storage-write window (R260). -/
def writeWindow (s : State) (code : Nat) : State :=
  let t := sInt 16 code
  let was := flag s R.THERM_STATUS_WR_FORBID
  let forbid := if code = 0x8000 ∨ 10500 < t ∨ t < -4500 then true else if t ≤ 10000 ∧ -4000 ≤ t then false else was
  let s1 := put (put s R.THERM_STATUS_WR_FORBID forbid) R.STOR_STATUS_WR_INHIBIT forbid
  if forbid && !was then errRise s1 R.THERM_ERR_WR_FORBID 0 0 else s1

/-- The module sensors and tachs (R251, R263). -/
def thermModule (s : State) (x : ThermIn) : State :=
  let s1 := wr (wr s R.THERM_MOD_MOD_TEMP x.modTemp) R.THERM_MOD_PS_TEMP (psTempOf s x.psMv)
  let rpm (a : Nat) : Nat := (roundDiv (60 * x.pulses.getD a 0 : Nat) (max 1 (actU s a 8 1))).toNat
  let s2 := wr (wr (wr s1 R.THERM_TACH01_TACH0 (min 65535 (rpm 0))) R.THERM_TACH01_TACH1 (min 65535 (rpm 1))) R.THERM_TACH2_TACH2 (min 65535 (rpm 2))
  writeWindow s2 x.modTemp

/-- The tiles' TB formed and judged in a round (R250, R252, R253). -/
def thermTiles (s : State) (house : Bool) (dtMs : Nat) : State :=
  let s0 := { s with therm := { s.therm with tiles := (s.therm.tiles.zipIdx).map (fun x =>
    let t := thermPf s dtMs (s.therm.pBal.getD x.2 0) x.1
    { t with tb := thermTb s t }) } }
  let js := (setTiles s0).map (fun k => (k, thermJudge s0 house dtMs k (s0.therm.tiles.getD k ThermTile.init)))
  let s1 := { s0 with therm := { s0.therm with tiles := js.foldl (fun l j => l.set j.1 j.2.1) s0.therm.tiles } }
  let s2 := js.foldl (fun s j => if j.2.2.1 then errRise s R.THERM_ERR_BROKEN j.1 0 else s) s1
  js.foldl (fun s j => if j.2.2.2 then errRise s R.THERM_ERR_STALE j.1 0 else s) s2

/-- The masks of BROKEN and STALE tiles (R253). -/
def thermMasks (s : State) : State :=
  let ts := setTiles s
  let at0 (k : Nat) : ThermTile := s.therm.tiles.getD k ThermTile.init
  wr (wr s R.THERM_BROKEN_MASK (maskOf (fun k => (at0 k).broken) ts)) R.THERM_STALE_MASK (maskOf (fun k => (at0 k).stale) ts)

/-- The 256 bytes of a record (R269). -/
def thermRecord (s : State) : List Byte :=
  let st := regGet s R.THERM_STATUS
  let fl := b2n (flag s R.THERM_STATUS_VALID) + 2 * b2n (flag s R.THERM_STATUS_FAST) + (bits st.toNat 9 4) * 4 + 256 * b2n (!commands s)
  let b := leBytes 8 (ptNow s) ++ leBytes 4 (rd s R.THERM_ROUND_CNT_COUNT) ++ leBytes 4 fl ++ leBytes 4 (rd s R.THERM_LIM_CHG_MA)
    ++ leBytes 4 (rd s R.THERM_LIM_DIS_MA) ++ leBytes 2 (rd s R.THERM_T_HI_TEMP) ++ leBytes 2 (rd s R.THERM_T_HI_CELL)
    ++ leBytes 2 (rd s R.THERM_T_LO_TEMP) ++ leBytes 2 (rd s R.THERM_T_LO_CELL) ++ leBytes 2 (rd s R.THERM_MOD_MOD_TEMP)
    ++ leBytes 2 (rd s R.PWR_DIE_TEMP_TEMP) ++ leBytes 2 (rd s R.THERM_MOD_PS_TEMP) ++ zeros 2
    ++ leBytes 2 (tachOf s 0) ++ leBytes 2 (tachOf s 1) ++ leBytes 2 (tachOf s 2) ++ leBytes 1 (rd s R.THERM_ACT_FAULT) ++ zeros 1
    ++ ((List.range 4).map (fun a => leBytes 2 (dutyNow s a))).flatten
    ++ ((List.range 24).map (fun k =>
      if min 24 (setNn s) ≤ k then zeros 8
      else
        let t := s.therm.tiles.getD k ThermTile.init
        leBytes 2 (t.diode.getD 0x8000) ++ leBytes 2 (rd s (R.THERM_TB_TB k)) ++ leBytes 2 (satU 16 (fToInt (fMul t.pf 0x42C80000)))
          ++ leBytes 1 (b2n t.broken + 2 * b2n t.stale + 4 * b2n t.subst) ++ zeros 1)).flatten ++ zeros 4
  b ++ leBytes 4 (crc32c b)

/-- Whether a temperature lies within NEAR of EXC_HI or EXC_LO (R252). -/
def excNear (s : State) (t : Int) : Bool :=
  decide ((t - thS s 16).natAbs ≤ thU s 20 2) || decide ((t - thS s 18).natAbs ≤ thU s 20 2)

/-- T_HI and T_LO with their cells, and PS_HOT with its hysteresis (R255, R258). A PS_TEMP without a value leaves PS_HOT as it is (DEDUCED,
log 18). -/
def thermHotShow (s : State) (b : (Int × Nat) × (Int × Nat)) : State :=
  let s1 := wr (wr (wr (wr s R.THERM_T_HI_TEMP (sCode 16 b.1.1)) R.THERM_T_HI_CELL b.1.2) R.THERM_T_LO_TEMP (sCode 16 b.2.1)) R.THERM_T_LO_CELL b.2.2
  let ps := rd s1 R.THERM_MOD_PS_TEMP
  put s1 R.THERM_STATUS_PS_HOT
    (if ps = 0x8000 then flag s1 R.THERM_STATUS_PS_HOT
     else if thS s1 38 ≤ sInt 16 ps then true
     else if sInt 16 ps < thS s1 38 - thU s1 14 2 then false else flag s1 R.THERM_STATUS_PS_HOT)

/-- The charge and discharge limits that a round finds, from the table in force (R256, R257): none without one. -/
def thermCaps (s : State) (tab : List (Int × Nat × Nat)) (tHi tLo : Int) (rise : Nat) : Nat × Nat :=
  let fault := flag s R.THERM_STATUS_PS_HOT || flag s R.THERM_STATUS_COOL_FAULT
  let lim (t : List (Int × Nat)) (f : Fld) : Nat := thermLimit s t tHi tLo fault (rdS s f).natAbs rise
  if tab.isEmpty then (0, 0)
  else (lim (tab.map (fun x => (x.1, x.2.1))) R.THERM_LIM_CHG_MA, lim (tab.map (fun x => (x.1, x.2.2))) R.THERM_LIM_DIS_MA)

/-- What a round forbids (R259): charge and discharge at a limit of 0, excitation at its bounds with their hysteresis. -/
def thermForbids (s3 : State) (tHi tLo : Int) (hot valid : Bool) (lim : Nat × Nat) : State :=
  let excHi := thS s3 16
  let excLo := thS s3 18
  let hy : Int := thU s3 14 2
  let clear := decide (tHi < excHi - hy) && decide (excLo + hy < tLo)
  let exc := hot || decide (excHi ≤ tHi) || decide (tLo ≤ excLo) || (flag s3 R.THERM_STATUS_EXC_FORBID && !clear)
  let cf := valid && decide (lim.1 = 0)
  let df := valid && decide (lim.2 = 0)
  let rose := (cf && !flag s3 R.THERM_STATUS_CHG_FORBID) || (df && !flag s3 R.THERM_STATUS_DIS_FORBID) || (exc && !flag s3 R.THERM_STATUS_EXC_FORBID)
  let s4 := put (put (put s3 R.THERM_STATUS_CHG_FORBID cf) R.THERM_STATUS_DIS_FORBID df) R.THERM_STATUS_EXC_FORBID exc
  if rose then errRise s4 R.THERM_ERR_FORBID 0 0 else s4

/-- The limit round (R255 to R259) over the TB of the tiles; its limits cross to CTRL (target 8 of R503). -/
def thermLimits (s : State) (tbs : List Int) (hot : Bool) (dtMs : Nat) : State :=
  let b := thermBounds s tbs
  let s2 := thermHotShow s b
  let tab := derating s2
  let valid := !tab.isEmpty
  let rise := s2.therm.riseRem + thU s2 32 4 * dtMs
  let lim := thermCaps s2 tab b.1.1 b.2.1 (rise / 1000)
  let s3 := pepperWait (put (wrS (wrS s2 R.THERM_LIM_CHG_MA lim.1) R.THERM_LIM_DIS_MA (-(lim.2 : Int))) R.THERM_STATUS_VALID valid) 8 0
  let s5 := thermForbids s3 b.1.1 b.2.1 hot valid lim
  let most (f : Int × Nat × Nat → Nat) : Nat := (tab.map f).foldl max 0
  let near := (valid && (decide (lim.1 < most (fun x => x.2.1)) || decide (lim.2 < most (fun x => x.2.2)))) || excNear s5 b.1.1 || excNear s5 b.2.1
  let far := if near then 0 else s5.therm.farMs + dtMs
  put { s5 with therm := { s5.therm with farMs := far, started := true, riseRem := rise % 1000 } } R.THERM_STATUS_FAST
    (near || (flag s5 R.THERM_STATUS_FAST && decide (far < 10000)))

/-- A round's report (R269). -/
def thermReport (s : State) : State :=
  let s1 := bump s R.THERM_ROUND_CNT_COUNT
  let n := s1.therm.rptN + 1
  if thU s1 44 1 ≤ n then
    streamOr { s1 with therm := { s1.therm with rptN := 0 } } 20 (thermRecord s1)
      (fun s => errRise (bump s R.THERM_RESULT_LOST_CNT_COUNT) R.THERM_ERR_LOST 0 0)
  else { s1 with therm := { s1.therm with rptN := n } }

/-- TB and the raw readings as a housekeeping round delivers them (R252). -/
def thermDeliver (s : State) (outs : List (Int × Bool)) : State :=
  (setTiles s).foldl (fun s k =>
    wr (wr s (R.THERM_TB_TB k) (sCode 16 (outs.getD k (0, false)).1)) (R.THERM_TB_DIODE k) ((s.therm.tiles.getD k ThermTile.init).diode.getD 0x8000)) s

/-- What the actuators and the heater relay do in a round: from its first one on the unit that commands drives J10 (R264). -/
def thermDrive (s : State) : State := heaterFollow (actShow { s with therm := { s.therm with j10On := commands s } })

/-- A round of THERM (R252): every round forms TB, judges the sensors and sets the limits, and a housekeeping one delivers TB to EST. The
module's own sensors, the storage window and the actuators do not wait for sensing to be enabled (R260, R265). -/
def thermRound (s : State) (x : ThermIn) (house : Bool) : State :=
  if !fullUp s then s
  else if !flag s R.THERM_STATUS_RUN then (if house then thermDrive (thermModule s x) else s)
  else if !house && !flag s R.THERM_STATUS_FAST then s
  else
    let dtMs := if flag s R.THERM_STATUS_FAST then 10 else 100
    let s0 := thermModule (cfgBoundary (cfgBoundary s (itemKey 20 1)) (itemKey 20 2)) x
    let s1 := thermMasks (thermTiles s0 house dtMs)
    let outs := (List.range 24).map (fun k => thermTbOut s1 k (s1.therm.tiles.getD k ThermTile.init))
    let s2 := { s1 with therm := { s1.therm with tiles := s1.therm.tiles.map (fun t => { t with subst := !thermUsable t }) } }
    let s3 := if house then thermDeliver s2 outs else s2
    let hot := (setTiles s3).any (fun k => (outs.getD k (0, false)).2)
    thermDrive (thermReport (thermLimits s3 (outs.map Prod.fst) hot dtMs))

/-! ### Queue pair 20 (R265) -/

/-- ENABLE on QP20: 0 sensing and limits, 1 the actuators. -/
def thermEnable (e : Entry) (s : State) : State × EntrySt :=
  if e.arg0 = 1 then okR (thermDrive (put s R.THERM_STATUS_ACT_RUN true)) 0
  else if flag s R.THERM_STATUS_RUN then okR s 0
  else okR { put s R.THERM_STATUS_RUN true with therm := { s.therm with
      started := false, farMs := 0, rptN := 0, riseRem := 0
      tiles := s.therm.tiles.map (fun t => if t.diode.isNone then { t with goodAt := s.power.ticks } else t) } } 0

/-- DISABLE on QP20. -/
def thermDisable (e : Entry) (s : State) : State × EntrySt :=
  if e.arg0 = 1 then okR (heaterFollow (actShow (put s R.THERM_STATUS_ACT_RUN false))) 0
  else
    okR (put (put (put s R.THERM_STATUS_RUN false) R.THERM_STATUS_VALID false) R.THERM_STATUS_FAST false) 0

/-! ### The rows of THERM -/

/-- HEATER_DWELL_END: the heater relay's 10 s have passed, and a waiting demand acts. -/
def execHeaterDwellEnd (s : State) : Host.Outcome State Fault Refusal :=
  .next (heaterFollow { s with therm := { s.therm with dwell := false } })

/-- ACT_FAULT: an actuator has been slow for 5 s, or well for 5 s (R263). -/
def execActFault (a : Nat) (s : State) : Host.Outcome State Fault Refusal :=
  if 3 ≤ a then .next s
  else if actSlow s a && !bitIn s R.THERM_ACT_FAULT a then .next (actShow (errRise (putBit s R.THERM_ACT_FAULT a true) R.THERM_ERR_ACT_FAULT a 0))
  else if !actSlow s a then .next (actShow (putBit s R.THERM_ACT_FAULT a false))
  else .next s

end Sys2Proof.Machine
end

