-- ==== Sys2Proof/Machine/Ctrl.lean ====
section
/-! DEFINITION. CTRL and PWM: channels and their states (R272 to R275), loop arithmetic and feed-forward (R276 to R278), the
reference path and its limits (R279, R280), LC0 and the power stage (R281 to R284), supervision (R285 to R287), closing
(R288), the pair (R290, R291), dispatch (R292 to R296), and the queue pairs QP21 to QP29 (R297, R302). -/

namespace Sys2Proof.Machine

open Sys2Proof

/-! ### Channels and their settings (R273, R298, R300) -/

/-- What CTRL holds for a channel, and the state with it changed. -/
def lcAt (s : State) (n : Nat) : LcSt := s.ctrl.lcs.getD n LcSt.init
def lcMod (s : State) (n : Nat) (f : LcSt → LcSt) : State := { s with ctrl := { s.ctrl with lcs := modAt s.ctrl.lcs n f } }

/-- The states of R274 as LCn_STATE codes them. -/
def lcOpenC : Nat := 0
def lcClosedC : Nat := 1
def lcStopC : Nat := 2
def lcTrackC : Nat := 3

/-- A channel's state. -/
def lcSt (s : State) (n : Nat) : Nat := rd s (R.LC_STATE_STATE n)

/-- Whether a channel regulates. -/
def lcRuns (s : State) (n : Nat) : Bool := decide (lcSt s n = lcClosedC) || decide (lcSt s n = lcStopC)

/-- The state of a channel replaced, CTRL.STATUS with it. -/
def lcPut (s : State) (n st : Nat) : State :=
  let s1 := wr s (R.LC_STATE_STATE n) st
  putBit (putBit s1 R.CTRL_STATUS_CLOSED n (decide (st = lcClosedC))) R.CTRL_STATUS_STOPPING n (decide (st = lcStopC))

/-- Its source, feedback code and rate (LC0's are fixed at 19 and FAST). -/
def lcSrc (s : State) (n : Nat) : Nat := rd s (R.LC_CFG_REF_SRC n)
def lcFb (s : State) (n : Nat) : Nat := if n = 0 then 19 else rd s (R.LC_CFG_FB n)
def lcSlow (s : State) (n : Nat) : Bool := decide (n ≠ 0) && flag s (R.LC_CFG_RATE n)

/-- Its stop value (R275). -/
def lcStopVal (s : State) (n : Nat) : Int := if n = 0 then 0 else rdS s (R.LC_OPEN_OUT_OUT n)

/-- Its output (R274): OPEN_OUT while OPEN, unless DISABLE left the last value; 0 in TRACK, where it delivers nothing. -/
def lcOut (s : State) (n : Nat) : Int :=
  if lcSt s n = lcOpenC ∧ !(lcAt s n).held then lcStopVal s n
  else if lcSt s n = lcTrackC then 0 else rdS s (R.LC_OUT_U n)

/-- A channel's items (R298). -/
def lcU (s : State) (n item ofs w : Nat) : Nat := cfgU s (21 + n) item ofs w
def lcS (s : State) (n item ofs w : Nat) : Int := cfgS s (21 + n) item ofs w

/-- A coefficient register's code. -/
def lcCoef (s : State) (f : Fld) : Word := BitVec.ofNat 32 (rd s f)

/-- The REF_SRC chain of a channel: the channels it takes its set-point from, directly or through others. -/
def lcChain (s : State) : Nat → Nat → List Nat
  | 0, _ => []
  | fuel + 1, n => let r := lcSrc s n; if 1 ≤ r ∧ r ≤ 7 then r :: lcChain s fuel r else []

/-! ### Opening (R275, R282) -/

/-- PWM as it follows its state (R301): lines driven, PS_EN; driven lines end class S perturbation (R506). -/
def pwmShow (s : State) : State :=
  let dr := s.ctrl.legOn.any id
  let s1 := put s R.PWM_STATUS_DRIVEN dr
  pepperFollow (put s1 R.PWM_STATUS_PS_EN
    (flag s R.PWM_STATUS_ARMED && commands s && !flag s R.PWM_STATUS_PS_FAULT && (dr || !flag s R.PWM_CFG_OFF_EN)))

/-- Every line at the off level at once (R282, R283). -/
def pwmOff (s : State) : State := pwmShow { s with ctrl := { s.ctrl with legOn := List.replicate 4 false, cNow := List.replicate 4 0 } }

/-- A channel goes OPEN (R275): WHY, and whether its output holds. Driven legs go off at their next valleys (R282). -/
def lcOpen (s : State) (n why : Nat) (held : Bool) : State :=
  let s1 := wr (put (put (lcPut s n lcOpenC) (R.LC_STATE_DWELL n) false) (R.LC_STATE_LIMITED n) false) (R.LC_STATE_WHY n) why
  let s2 := lcMod s1 n (fun c => { c with dwell := false, preload := false, mir := none, held := held, failing := false })
  let s3 := if held then s2 else wrS s2 (R.LC_OUT_U n) (lcStopVal s2 n)
  if n = 0 then put s3 R.CTRL_STATUS_EXC false else s3

/-- LC0 and every channel of its chain that regulates go OPEN (R275): whether any did, and the state. -/
def lcOpenChain (s : State) (why : Nat) (zero : Bool) : Bool × State :=
  ((0 :: lcChain s 8 0).eraseDups).foldl (fun (r : Bool × State) n =>
    if lcRuns r.2 n then
      let s1 := lcOpen r.2 n why false
      (true, if zero then wr (lcMod s1 n (fun c => { c with integ := 0 })) (R.LC_INTEG_I n) 0 else s1)
    else r) (false, s)

/-- The PWM inhibit asserts (R33, R275, R282). -/
def pwmInhibit (s : State) : State :=
  let r := lcOpenChain s 4 true
  let s1 := put (pwmOff r.2) R.CTRL_STATUS_EXC false
  if r.1 then errRise s1 R.CTRL_ERR_INHIBIT 0 0 else s1

/-- PS_FAULT_N's fault and leg over-current (R283). -/
def psTrip (s : State) (why : Nat) (fc fp : Fld) (leg : Nat) : State :=
  errRise (errRise (pwmOff (lcOpenChain s why false).2) fc leg 0) fp leg 0

/-! ### Limits (R29, R280) -/

/-- The terms of a direction in R280's order, with their codes: hard, THERM, EST, dispatch. -/
def limTerms (s : State) (chg : Bool) : List (Nat × Nat) :=
  let th := if flag s R.THERM_STATUS_VALID then (rdS s (if chg then R.THERM_LIM_CHG_MA else R.THERM_LIM_DIS_MA)).natAbs
    else cfgU s 20 1 (if chg then 24 else 28) 4
  let es := if flag s R.EST_STATUS_SOP_VALID then (if chg then s.est.sopChg else s.est.sopDis)
    else rd s (if chg then R.CTRL_EST_FB_CHG_MA_MA else R.CTRL_EST_FB_DIS_MA_MA)
  let base := [(rd s (if chg then R.CTRL_HARD_CHG_MA_MA else R.CTRL_HARD_DIS_MA_MA), 0), (th, 1), (es, 2)]
  match s.ctrl.grant with
  | some g => base ++ [(if chg then g.chg else g.dis, 3)]
  | none => base

/-- The smallest term; a tie goes to the lower code. -/
def limMin (l : List (Nat × Nat)) : Nat × Nat :=
  match l with
  | [] => (0, 0)
  | x :: t => t.foldl (fun m y => if y.1 < m.1 then y else m) x

def limChg (s : State) : Nat × Nat := limMin (limTerms s true)
def limDis (s : State) : Nat × Nat := limMin (limTerms s false)

/-- CTRL.LIM_CHG, LIM_DIS, LIM_SRC and the fallback bits as the cycle finds them. -/
def limShow (s : State) : State :=
  let c := limChg s
  let d := limDis s
  let s1 := wrS (wrS s R.CTRL_LIM_CHG_MA (satMilli c.1)) R.CTRL_LIM_DIS_MA (satMilli (-(d.1 : Int)))
  let s2 := wr (wr s1 R.CTRL_LIM_SRC_CHG c.2) R.CTRL_LIM_SRC_DIS d.2
  put (put s2 R.CTRL_STATUS_THERM_FB (!flag s R.THERM_STATUS_VALID)) R.CTRL_STATUS_EST_FB (!flag s R.EST_STATUS_SOP_VALID)

/-! ### Tables (R277, R278) -/

/-- Linear interpolation over breakpoints (x, y), held beyond the ends. -/
def tabLin (pts : List (Int × Int)) (x : Word) : Word :=
  match pts with
  | [] => 0
  | [p] => fOfInt p.2
  | p :: q :: rest =>
    if fLe x (fOfInt p.1) then fOfInt p.2
    else if fLe x (fOfInt q.1) then
      fAdd (fOfInt p.2) (fMul (fDiv (fSub x (fOfInt p.1)) (fOfInt (q.1 - p.1))) (fOfInt (q.2 - p.2)))
    else tabLin (q :: rest) x

/-- The breakpoints of a table item. -/
def tabPts (bs : List Byte) : List (Int × Int) :=
  (List.range (fieldAt bs 0 1)).map (fun i => (sInt 32 (fieldAt bs (4 + 8 * i) 4), sInt 32 (fieldAt bs (8 + 8 * i) 4)))

/-- ocv_tab of QP21's item 2 in µV, at a SoC and a temperature in 0.01 °C, bilinear and clamped at its edges. -/
def ocvTab (bs : List Byte) (soc : Rat) (t : Rat) : Rat :=
  let n := fieldAt bs 0 1
  let tb (i : Nat) : Rat := (sInt 16 (fieldAt bs (8 + 2 * i) 2) : Rat)
  let i := ((List.range (n - 1)).filter (fun i => decide (tb i ≤ t))).getLastD 0
  let f := max 0 (min 1 ((t - tb i) / (tb (i + 1) - tb i)))
  bilin (fun a b => (fieldAt bs (0x10 + 44 * a + 4 * b) 4 : Rat)) (i, f) (socCol 10 soc)

/-- Mean TB of the usable tiles, 0.01 °C; of every tile's TB as THERM delivers it where none is usable (DEDUCED, log 19). -/
def tMean (s : State) : Rat :=
  let us := (setTiles s).filter (fun k => thermUsable (s.therm.tiles.getD k ThermTile.init))
  let ks := if us.isEmpty then setTiles s else us
  ((ks.map (fun k => sInt 16 (rd s (R.THERM_TB_TB k)))).sum : Rat) / max 1 (ks.length : Rat)

/-! ### The reference path (R279, R280) -/

/-- Sign of a binary32 value: −1, 0 or 1. -/
def fSign (x : Word) : Int := if fLt x 0 then -1 else if fLt 0 x then 1 else 0

/-- x moved toward t by at most d; at once where d is none. -/
def fToward (x t : Word) (d : Option Word) : Word :=
  match d with
  | none => t
  | some d => if fLe (fAbs (fSub t x)) d then t else if fLt x t then fAdd x d else fSub x d

/-- A ramp rate over dt: none where the rate is 0. -/
def rampStep (rate : Nat) (dt : Word) : Option Word := if rate = 0 then none else some (fMul (fOfInt rate) dt)

/-- The limiter's three cases (R279): the ramp state, whether a dwell runs, and its side. -/
def ramp (rs t : Word) (up dn : Option Word) (dwellMs : Nat) (c : LcSt) : LcSt :=
  if fSign rs * fSign t < 0 then
    let x := fToward rs 0 dn
    { c with rs := x, dwell := decide (fSign x = 0) && decide (dwellMs ≠ 0), fromPos := decide (0 < fSign rs) }
  else
    let ends := decide (fSign t = 0) || decide ((0 < fSign t) = c.fromPos)
    if c.dwell && !ends then { c with rs := 0 }
    else { c with rs := fToward rs t (if fLt (fAbs rs) (fAbs t) then up else dn), dwell := false }

/-- The target of a channel (R273): HOST, another channel's output, or the grant's set-point. -/
def lcTarget (s : State) (n : Nat) : Int :=
  let r := lcSrc s n
  if r = 0 then (lcAt s n).host
  else if r ≤ 7 then lcOut s r
  else match s.ctrl.grant with
    | some g => g.setPoint
    | none => 0

/-- The ramp state one cycle further, before its clamp (R279, R287). -/
def lcRamp (s : State) (n : Nat) (dt : Word) (c : LcSt) : LcSt :=
  let stop := fOfInt (lcStopVal s n)
  if c.failing then { c with rs := fToward c.rs stop (rampStep (lcU s n 1 0x20 4) dt), dwell := false }
  else
    let t := if lcSt s n = lcStopC then stop else fOfInt (lcTarget s n)
    ramp c.rs t (rampStep (rd s (R.LC_RAMP_UP_RATE n)) dt) (rampStep (rd s (R.LC_RAMP_DN_RATE n)) dt) (rd s (R.LC_DWELL_MS n)) c

/-! ### Excitation (R231, R234) -/

/-- Whether CTRL adds the excitation in this cycle: ACTIVE mode with a plan, and none of R234's conditions. -/
def excOn (s : State) (rs : Word) : Bool :=
  let a := fOfInt s.eis.apk
  decide (eisMode s = 1) && flag s R.EIS_STATUS_RUN && s.eis.plan.isSome && decide (lcSt s 0 = lcClosedC) && !flag s R.SAFE_STATUS_INHIBIT
    && !flag s R.THERM_STATUS_EXC_FORBID && commands s && fLe (fAdd rs a) (fOfInt (limChg s).1)
    && fLe (fNeg (fOfInt (limDis s).1)) (fSub rs a)

/-- e(n) in mA (R231): n counts sample instants since the segment's start, and advances between them at the nominal rate. -/
def excValue (s : State) : Word :=
  match s.eis.plan with
  | none => 0
  | some p =>
    let nN := planN p
    let inst := (s.meas.next + 2 ^ 32 - 1 - s.eis.sFirst) % 2 ^ 32 % nN
    let den := max 1 ((eisPer s).getD 1)
    let num := inst * den + (match eisPer s with
      | some _ => 4 * (s.power.ticks - s.meas.tickLast)
      | none => 0)
    let npt := planNpt p
    let tone (k : Nat) : Word :=
      let turn := 2 * npt * (planM p k * num % (nN * den)) + (2 * npt - k * (k + 1) % (2 * npt)) * (nN * den)
      fMul (fOfInt (planW p k)) (fOfScaled (cosTurn turn (2 * npt * (nN * den))) (-96))
    fMul s.eis.gain (fSum ((List.range npt).map tone))

/-! ### The grant in force (R292 to R296) -/

/-- The grant's registers (R296, R299). -/
def dispShow (s : State) : State :=
  let e := match s.ctrl.grant with
    | some g => g.expiry
    | none => 0
  put (setPairReg s e) R.CTRL_STATUS_DISP s.ctrl.grant.isSome
where
  /-- DISP_EXP_LO and _HI. -/
  setPairReg (s : State) (e : Nat) : State := wr (wr s R.CTRL_DISP_EXP_LO_EXPIRY (e % 2 ^ 32)) R.CTRL_DISP_EXP_HI_EXPIRY (e / 2 ^ 32)

/-- The 32 bytes of an answer (R295). -/
def dispAnswer (s : State) (reqId verdict cause horizon : Nat) (p i : Int) (valid : Nat) : List Byte :=
  leBytes 4 reqId ++ leBytes 1 verdict ++ leBytes 1 cause ++ leBytes 1 horizon ++ zeros 1 ++ sBytes 4 (satS 32 (-2147483648) p)
    ++ sBytes 4 (satMilli i) ++ leBytes 8 valid ++ leBytes 8 (ptNow s)

/-- Whether the dispatch service runs: the clusters run (R294). -/
def dispRuns (s : State) : Bool := decide (s.power.st = .run) && s.upd.svc.any id

/-- REVOKED to the requester of the grant in force (R294). -/
def dispRevoke (s : State) : State :=
  match s.ctrl.grant with
  | some g => match g.asker with
    | some a => if dispRuns s then emit s .dispatch [a.1] (dispAnswer s a.2 5 0 g.horizon 0 0 0) else s
    | none => s
  | none => s

/-- A grant comes into force in place of the one before; it crosses to CTRL (target 8 of R503). -/
def grantPut (s : State) (g : Grant) : State :=
  let s1 := dispRevoke s
  dispShow (pepperWait { s1 with ctrl := { s1.ctrl with grant := some g } } 8 0)

/-- Grants whose AT has come start, in the order of QP21 (R292, R296; DEDUCED, log 19): one already expired, or on a unit that does not
command, changes nothing. -/
def grantDue (s : State) : List (Nat × Grant) → State
  | [] => { s with ctrl := { s.ctrl with later := [] } }
  | x :: t =>
    if ptNow s < x.1 then { s with ctrl := { s.ctrl with later := x :: t } }
    else grantDue (if x.2.expiry < ptNow s ∨ !commands s then s else grantPut s x.2) t

/-- Grants whose AT has come start before anything that uses the grant. -/
def dispStart (s : State) : State := grantDue s s.ctrl.later

/-! ### Loop arithmetic (R276) -/

/-- What a cycle gives a channel: bounds, feed-forward, reference and feedback. -/
structure LoopIn where
  lo : Word
  hi : Word
  ff : Word
  r : Word
  y : Word
  dt : Word

/-- One cycle of R276, in the order written. -/
def loopStep (s : State) (n : Nat) (x : LoopIn) (c : LcSt) : LcSt × Word :=
  let kp := lcCoef s (R.LC_KP_Coefficient n)
  let ki := lcCoef s (R.LC_KI_Coefficient n)
  let kd := lcCoef s (R.LC_KD_Coefficient n)
  let kb := lcCoef s (R.LC_KB_Coefficient n)
  let tf := lcCoef s (R.LC_TF_Coefficient n)
  let e := fSub x.r x.y
  let p := fMul kp e
  let df := fAdd c.df (fMul (fDiv x.dt (fAdd x.dt tf)) (fSub (fDiv (fMul kd (fSub c.yPrev x.y)) x.dt) c.df))
  let v := fAdd (fAdd (fAdd x.ff p) c.integ) df
  let u := fClamp x.lo x.hi v
  let i1 := fAdd (fAdd c.integ (fMul (fMul ki x.dt) e)) (fMul (fMul kb x.dt) (fSub u v))
  ({ c with df := df, integ := fClamp x.lo x.hi i1, yPrev := x.y, u := satS 32 (-2147483648) (fToInt u) }, u)

/-- The integrator preloaded so that the output stays at u_now (R288). -/
def preloadInteg (x : LoopIn) (uNow : Word) (c : LcSt) : LcSt := { c with integ := fClamp x.lo x.hi (fSub uNow x.ff) }

/-- A channel's registers after a cycle (R300). -/
def lcShow (s : State) (n : Nat) (c : LcSt) (t y : Int) (x : LoopIn) (u : Word) (limited : Bool) : State :=
  let s1 := wrS (wrS (wrS (lcMod s n (fun _ => c)) (R.LC_TARGET_T n) t) (R.LC_RAMP_RS n) (satS 32 (-2147483648) (fToInt c.rs))) (R.LC_FB_Y n) y
  let s2 := wr (wrS s1 (R.LC_OUT_U n) c.u) (R.LC_INTEG_I n) c.integ.toNat
  let s3 := put (put s2 (R.LC_STATE_SAT_HI n) (fLe x.hi u)) (R.LC_STATE_SAT_LO n) (fLe u x.lo)
  put (put s3 (R.LC_STATE_LIMITED n) limited) (R.LC_STATE_DWELL n) c.dwell

/-- A stopping channel whose ramp state has reached the stop value goes OPEN (R275). -/
def lcArrive (s : State) (n : Nat) : State :=
  if lcSt s n = lcStopC ∧ fSign (fSub (lcAt s n).rs (fOfInt (lcStopVal s n))) = 0 then
    lcOpen s n (if (lcAt s n).failing then 3 else 2) false
  else s

/-! ### Supervision (R285 to R287) -/

/-- A channel fails a check: 1 MODEL, 2 HALL, 3 TRACK. -/
def lcFail (s : State) (n check : Nat) : State :=
  if lcRuns s n && !(lcAt s n).failing then
    let s1 := put (lcPut (lcMod s n (fun c => { c with failing := true })) n lcStopC) (R.LC_STATE_SUP_FAIL n) true
    errRise (bump s1 R.CTRL_SUP_CNT_COUNT) R.CTRL_ERR_SUPERVISION n check
  else s

/-- One check's count a sample further: a difference within the band, a suspended check and an N of 0 restart it; the count
that reaches N fails. -/
def supCount (cnt n : Nat) (beyond : Bool) : Nat × Bool :=
  if beyond && decide (n ≠ 0) then (cnt + 1, decide (n ≤ cnt + 1)) else (0, false)

/-- LC1 to LC7 against their first-order model (R286). -/
def lcModel (s : State) (n : Nat) (dt y : Word) : State :=
  let c := lcAt s n
  let tau := BitVec.ofNat 32 (lcU s n 1 0x18 4)
  let gain := BitVec.ofNat 32 (lcU s n 1 0x14 4)
  let goal := fAdd (fMul gain (fOfInt c.u)) (fOfInt (lcS s n 1 0x1C 4))
  let ym := fAdd c.ym (fMul (fDiv dt (fAdd tau dt)) (fSub goal c.ym))
  let r := supCount (c.cnt.getD 0 0) (lcU s n 1 4 2) (fLt (fOfInt (lcS s n 1 0 4)) (fAbs (fSub y ym)))
  let s1 := lcMod s n (fun c => { c with ym := ym, cnt := c.cnt.set 0 r.1 })
  if r.2 then lcFail s1 n 1 else s1

/-- I_pred of the MODEL check (R285), mA: none where the check is suspended. -/
def iPred (s : State) (vStr : Int) : Option Word :=
  match s.est.chem with
  | none => none
  | some ch =>
    if !flag s R.EST_STATUS_RUN || !flag s R.EST_STATUS_SOP_VALID then none
    else
      let a := fSum (s.est.cells.map (fun c => fAdd (fAdd (fOfRat (ocvAt ch c.socQ c.tcQ)) (fOfScaled c.va (-31))) (fOfScaled c.vb (-31))))
      let b := fSum (s.est.cells.map (fun c => cellPar ch c 0))
      if fLt 0 b then some (fMul 0x447A0000 (fDiv (fSub (fOfRatio vStr 1000) a) b)) else none

/-- A check of 5 kHz over the last 200 µs (R285). -/
def supCheck (s : State) (x : CtrlIn) (iHall : Int) : State :=
  let rMean : Int := if s.ctrl.rN = 0 then s.ctrl.rLast else roundDiv s.ctrl.rSum s.ctrl.rN
  let s0 := { s with ctrl := { s.ctrl with rSum := 0, rN := 0 } }
  if !lcRuns s0 0 || !blocksUp s0 then s0
  else
    let c := lcAt s0 0
    let iF := fOfInt x.iShunt
    let m := match iPred s0 x.vStr with
      | some p => fLt (fOfInt (lcS s0 0 1 0 4)) (fAbs (fSub iF p))
      | none => false
    let hOk := decide (cfgU s0 13 1 5 1 = 1) && !flag s0 R.HVM_STATUS_HALL_FAULT && !flag s0 R.HVM_STATUS_SHUNT_FAULT
    let h := hOk && decide (lcS s0 0 1 8 4 < (x.iShunt - iHall).natAbs)
    let t := decide (lcS s0 0 1 12 4 < (rMean - x.iShunt).natAbs)
    let cm := supCount (c.cnt.getD 0 0) (lcU s0 0 1 4 2) m
    let chh := supCount (c.cnt.getD 1 0) (lcU s0 0 1 6 2) h
    let ct := supCount (c.cnt.getD 2 0) (lcU s0 0 1 16 2) t
    let s1 := lcMod s0 0 (fun c => { c with cnt := [cm.1, chh.1, ct.1] })
    let s2 := if cm.2 then lcFail s1 0 1 else s1
    let s3 := if chh.2 then lcFail s2 0 2 else s2
    if ct.2 then lcFail s3 0 3 else s3

/-! ### LC1 to LC7 (R272, R276, R278) -/

/-- A feedback code's value (R273): THERM's quantities, or HVM's means. -/
def lcY (s : State) (x : CtrlIn) (code : Nat) : Int :=
  match code with
  | 1 => sInt 16 (rd s R.THERM_T_HI_TEMP) | 2 => sInt 16 (rd s R.THERM_T_LO_TEMP) | 3 => sInt 16 (rd s R.THERM_MOD_MOD_TEMP)
  | 4 => sInt 16 (rd s R.THERM_MOD_PS_TEMP) | 5 => tachOf s 0 | 6 => tachOf s 1 | 7 => tachOf s 2
  | 16 => x.vStr | 17 => x.vLink | 18 => x.pStr | _ => x.iShunt

/-- The bounds of LC1 to LC7 (R276): OUT_MIN to OUT_MAX, intersected with the limits where the channel feeds LC0; an empty
intersection leaves the limit's end nearer to 0. -/
def lcBounds (s : State) (n : Nat) : Int × Int :=
  let lo := rdS s (R.LC_OUT_MIN_MIN n)
  let hi := rdS s (R.LC_OUT_MAX_MAX n)
  if lcSrc s 0 = n then
    let c : Int := (limChg s).1
    let d : Int := -((limDis s).1 : Int)
    let a := max lo d
    let b := min hi c
    if b < a then (let e := if d.natAbs < c.natAbs then d else c; (e, e)) else (a, b)
  else (lo, hi)

/-- What a channel's consumer holds already (R288): LC0's ramp state, a channel's target, an actuator's duty. -/
def uNow (s : State) (n : Nat) : Int :=
  if n = 0 then s.hvm.vStr
  else if lcSrc s 0 = n then fToInt (lcAt s 0).rs
  else match (List.range 8).find? (fun m => decide (m ≠ 0) && decide (lcSrc s m = n)) with
    | some m => rdS s (R.LC_TARGET_T m)
    | none =>
      match (List.range 4).find? (fun a => decide (actU s a 0 1 = 2) && decide (actU s a 1 1 = n)) with
      | some a => actDuty s a
      | none => rdS s (R.LC_OUT_U n)

/-- The first cycle's preload of the ramp state, the filter and the model (R286, R288, R291). -/
def lcFirst (y : Word) (c : LcSt) : LcSt :=
  let rs := match c.mir with
    | some m => fOfInt m.1
    | none => y
  { c with rs := rs, df := 0, yPrev := y, ym := y }

/-- One cycle of an outer channel. -/
def lcCycle (s : State) (n : Nat) (x : CtrlIn) (dt : Word) : State :=
  let yI := lcY s x (lcFb s n)
  let y := fOfInt yI
  let b := lcBounds s n
  let lo := fOfInt b.1
  let hi := fOfInt b.2
  let c0 := lcAt s n
  let c1 := if c0.preload then lcFirst y c0 else c0
  let tab := tabPts (cfgItem s (21 + n) 2)
  let ffAt (r : Word) : Word := tabLin tab r
  let u0 := match c0.mir with
    | some m => m.2
    | none => uNow s n
  let c2 := if c0.preload then preloadInteg { lo := lo, hi := hi, ff := ffAt c1.rs, r := c1.rs, y := y, dt := dt } (fOfInt u0) c1 else c1
  let c3 := lcRamp s n dt { c2 with preload := false, mir := none }
  let rs := fClamp lo hi c3.rs
  let xin : LoopIn := { lo := lo, hi := hi, ff := ffAt rs, r := rs, y := y, dt := dt }
  let r := loopStep s n xin { c3 with rs := rs }
  let s1 := lcShow s n r.1 (lcTarget s n) yI xin r.2 (decide (rs ≠ c3.rs))
  lcArrive (lcModel s1 n dt y) n

/-- The outer channels of a rate, in order. -/
def lcCycles (s : State) (x : CtrlIn) (slow : Bool) (dt : Word) : State :=
  if !blocksUp s then s
  else ((List.range 8).filter (fun n => decide (n ≠ 0) && decide (lcSlow s n = slow) && lcRuns s n)).foldl (fun s n => lcCycle s n x dt) (dispStart s)

/-- THERM takes the loop channels' outputs (R261, R273): as duties, 0 to 10,000. -/
def loopTake (s : State) : State :=
  { s with therm := { s.therm with loopDuty := (List.range 8).map (fun n => (clampInt 0 10000 (lcOut s n)).toNat) } }

/-! ### LC0 (R277, R281 to R284) -/

/-- dt of LC0 in s. -/
def lc0Dt (s : State) : Word := fOfRatio (rd s R.PWM_PERIOD_TICKS * max 1 (rd s R.PWM_CFG_LC0_DIV)) 200000000

/-- How many legs are used. -/
def legsUsed (s : State) : Nat := rd s R.PWM_CFG_LEGS_M1 + 1

/-- A leg's current from its sense voltage in µV (R283), mA. -/
def legMa (s : State) (uv : Int) : Int := roundDiv ((uv - 1000 * (lcU s 0 4 4 4 : Int)) * lcS s 0 4 0 4) 1000

/-- The leg currents shown, and the legs above ILEG_MAX at two triggers in a row (R283). -/
def legCurrents (s : State) (uvs : List Int) : State × List Nat :=
  let is := (List.range 4).map (fun k => legMa s (uvs.getD k 0))
  let mx := lcU s 0 4 8 4
  let high := (List.range 4).map (fun k => decide (k < legsUsed s) && !(cfgItem s 21 4).isEmpty && decide (mx < (is.getD k 0).natAbs))
  let cnts := (List.range 4).map (fun k => if high.getD k false then s.ctrl.legOc.getD k 0 + 1 else 0)
  let code (k : Nat) : Nat := sCode 16 (satS 16 (-32768) (roundDiv (is.getD k 0) 100))
  let s1 := wr (wr (wr (wr s R.PWM_ILEG01_I0 (code 0)) R.PWM_ILEG01_I1 (code 1)) R.PWM_ILEG23_I0 (code 2)) R.PWM_ILEG23_I1 (code 3)
  let bad := (List.range 4).filter (fun k => decide (2 ≤ cnts.getD k 0))
  (wr { s1 with ctrl := { s1.ctrl with legOc := cnts } } R.PWM_STATUS_LEG_OC (maskOf (fun k => decide (k ∈ bad)) (List.range 4)), bad)

/-- C_k of a duty (R281): rounded, with pulses too short removed. -/
def compareOf (s : State) (d : Word) : Nat :=
  let per := rd s R.PWM_PERIOD_TICKS
  let c := clampNat 0 (per / 2) (fToInt (fMul d (fOfRatio per 2))).toNat
  let short := rd s R.PWM_MINP_MIN_PULSE_NS + rd s R.PWM_DEAD_DT_NS
  if c * 10 < short then 0 else if (per - 2 * c) * 5 < short then per / 2 else c

/-- The duties of the legs (R284). -/
def legDuties (s : State) (d dMin dMax : Word) (uvs : List Int) : List Word :=
  let n := legsUsed s
  if lcU s 0 4 16 1 = 1 ∧ 1 < n then
    let amps := (List.range n).map (fun k => fOfRatio (legMa s (uvs.getD k 0)) 1000)
    let mean := fDiv (fSum amps) (fOfInt n)
    let kb := BitVec.ofNat 32 (lcU s 0 4 12 4)
    (List.range 4).map (fun k =>
      if k < n then fClamp dMin dMax (fAdd d (fClamp 0xBCA3D70A 0x3CA3D70A (fMul kb (fSub mean (amps.getD k 0))))) else 0)
  else (List.range 4).map (fun k => if k < n then d else 0)

/-- A duty's code, U16 in 1/65,536. -/
def dutyCode (d : Word) : Nat := satU 16 (fToScaled d 16)

/-- The duties set: shown, and waiting for the legs' valleys. -/
def dutySet (s : State) (ds : List Word) : State :=
  let c (k : Nat) : Nat := dutyCode (ds.getD k 0)
  let s1 := wr (wr (wr (wr s R.PWM_DUTY01_D0 (c 0)) R.PWM_DUTY01_D1 (c 1)) R.PWM_DUTY23_D0 (c 2)) R.PWM_DUTY23_D1 (c 3)
  { s1 with ctrl := { s1.ctrl with duty := ds, cNew := ds.map (compareOf s) } }

/-- LC0's OCV term in mV (R277), and the state past the free value that stands for an OCV table never set (log 3). -/
def ocvTerm (s : State) (y : Int) : Word × State :=
  let rff := fOfRatio (lcU s 0 2 4 4) 1000000
  if !flag s R.EST_STATUS_SOP_VALID then (fSub (fOfInt s.meas.sumCells) (fMul rff (fOfInt y)), s)
  else if (cfgItem s 21 2).isEmpty then
    let f := fresh s
    (BitVec.ofNat 32 f.1, f.2)
  else
    (fMul (fOfInt (setNn s * 24)) (fOfRat (ocvTab (cfgItem s 21 2) ((s.est.sopMean : Rat) / 50000) (tMean s) / 1000)), s)

/-- LC0 regulates for one cycle. -/
def lc0Loop (s0 : State) (x : Lc0In) (vLink : Int) : State :=
  let o := ocvTerm s0 x.y
  let s := o.2
  let dt := lc0Dt s
  let y := fOfInt x.y
  let vl := fOfInt vLink
  let vdt := tabLin (tabPts (cfgItem s 21 3)) y
  let dMin := fOfRatio (rd s (R.LC_OUT_MIN_MIN 0) % 65536) 65536
  let dMax := fOfRatio (rd s (R.LC_OUT_MAX_MAX 0) % 65536) 65536
  let lo := fSub (fMul dMin vl) vdt
  let hi := fSub (fMul dMax vl) vdt
  let rff := fOfRatio (lcU s 0 2 4 4) 1000000
  let ffAt (r : Word) : Word := fAdd o.1 (fMul rff r)
  let lc := fOfInt (limChg s).1
  let ld := fNeg (fOfInt (limDis s).1)
  let c0 := lcAt s 0
  let c1 := if c0.preload then lcFirst y c0 else c0
  let u0 : Word := match c0.mir with
    | some m => fSub (fMul (fOfRatio m.2 65536) vl) vdt
    | none => fOfInt (uNow s 0)
  let c2 := if c0.preload then preloadInteg { lo := lo, hi := hi, ff := ffAt c1.rs, r := c1.rs, y := y, dt := dt } u0 c1 else c1
  let c3 := lcRamp s 0 dt { c2 with preload := false, mir := none }
  let rs := fClamp ld lc c3.rs
  let exc := excOn s rs
  let r := if exc then fClamp ld lc (fAdd rs (excValue s)) else rs
  let xin : LoopIn := { lo := lo, hi := hi, ff := ffAt r, r := r, y := y, dt := dt }
  let q := loopStep s 0 xin { c3 with rs := rs }
  let s1 := put (lcShow s 0 q.1 (lcTarget s 0) x.y xin q.2 (decide (rs ≠ c3.rs))) R.CTRL_STATUS_EXC exc
  let s2 := { s1 with ctrl := { s1.ctrl with rSum := s1.ctrl.rSum + fToInt r, rN := s1.ctrl.rN + 1, rLast := fToInt r } }
  lcArrive (dutySet s2 (legDuties s2 (fDiv (fAdd q.2 vdt) vl) dMin dMax x.isense)) 0

/-- The LC0 trigger (R276, R281, R283). -/
def lc0Cycle (s : State) (x : Lc0In) : State :=
  if !flag s R.PWM_STATUS_ARMED || !blocksUp s then s
  else
    let lg := legCurrents (dispStart s) x.isense
    let s1 := limShow (wrS lg.1 (R.LC_FB_Y 0) x.y)
    if !lg.2.isEmpty && lcRuns s1 0 then psTrip s1 6 R.CTRL_ERR_LEG_OC R.PWM_ERR_LEG_OC (lg.2.headD 0)
    else if !lcRuns s1 0 then s1
    else match x.vLink with
      | none => errRise (lcOpenChain s1 7 false).2 R.CTRL_ERR_LINK 0 0
      | some v => lc0Loop s1 x v

/-- A leg's carrier valley (R281, R282): a waiting compare value loads once it is 3 µs old; a leg that may not be driven goes
off. The valley of leg 0 begins a carrier period. -/
def carrierValley (s : State) (leg : Nat) (ready : Bool) : State :=
  if !flag s R.PWM_STATUS_ARMED || !blocksUp s || decide (4 ≤ leg) then s
  else
    let s1 := if leg = 0 then bump s R.PWM_PERIOD_CNT_COUNT else s
    let may := lcRuns s1 0 && commands s1 && !flag s1 R.SAFE_STATUS_INHIBIT && !flag s1 R.PWM_STATUS_PS_FAULT && decide (leg < legsUsed s1)
    if !may then pwmShow { s1 with ctrl := { s1.ctrl with legOn := s1.ctrl.legOn.set leg false, cNow := s1.ctrl.cNow.set leg 0 } }
    else if ready && !(lcAt s1 0).preload then
      pwmShow { s1 with ctrl := { s1.ctrl with legOn := s1.ctrl.legOn.set leg true, cNow := s1.ctrl.cNow.set leg (s1.ctrl.cNew.getD leg 0) } }
    else s1

/-- The end of the gap of R365: the first PWM drive, or the first strobe where LC0 is not CLOSED. -/
def gapEnd (s : State) (strobe : Bool) : State :=
  match s.red.gapFrom with
  | none => s
  | some t =>
    if (if strobe then lcSt s 0 ≠ lcClosedC else flag s R.PWM_STATUS_DRIVEN) then
      wr { s with red := { s.red with gapFrom := none } } R.RED_LAST_GAP_US (min (roundNat (s.power.ticks - t) 250) (2 ^ 32 - 1))
    else s

/-! ### Closing (R288) -/

/-- Whether REF_SRC and the feedback code are allowed (R273). -/
def lcAllowed (s : State) (n : Nat) : Bool :=
  let r := lcSrc s n
  let fb := lcFb s n
  decide (r ≤ 8) && !decide (n ∈ lcChain s 9 n)
  && (if n = 0 then !(decide (1 ≤ r) && decide (r ≤ 7) && lcSlow s r)
      else decide (16 ≤ fb ∧ fb ≤ 19) || (decide (1 ≤ fb ∧ fb ≤ 7) && lcSlow s n))

/-- Whether the coefficients are finite, KB and TF not negative (R288). -/
def lcCoefOk (s : State) (n : Nat) : Bool :=
  let fs := [R.LC_KP_Coefficient n, R.LC_KI_Coefficient n, R.LC_KD_Coefficient n, R.LC_KB_Coefficient n, R.LC_TF_Coefficient n]
  fs.all (fun f => fFinite (lcCoef s f)) && fLe 0 (lcCoef s (R.LC_KB_Coefficient n)) && fLe 0 (lcCoef s (R.LC_TF_Coefficient n))

/-- The conditions of R288 by bit. -/
def closeConds (s : State) (n : Nat) : List Bool :=
  let z := decide (n ≠ 0)
  [commands s, z || flag s R.PWM_STATUS_ARMED, z || !flag s R.SAFE_STATUS_INHIBIT, z || !flag s R.PWM_STATUS_PS_FAULT,
    z || (flag s R.HVM_STATUS_RUN && decide (s.hvm.vStr * 65536 ≤ s.hvm.vLink * (rd s (R.LC_OUT_MAX_MAX 0) % 65536 : Nat))),
    lcAllowed s n, lcCoefOk s n, (lcChain s 9 n).all (fun m => decide (lcSt s m = lcClosedC))]

/-- A channel closes (R275): its first cycle preloads it. -/
def lcClose (s : State) (n : Nat) : State :=
  let s1 := put (lcPut s n lcClosedC) (R.LC_STATE_SUP_FAIL n) false
  lcMod s1 n (fun c => { c with preload := true, mir := none, dwell := false, failing := false, held := false, cnt := [0, 0, 0] })

/-- ENABLE on QP21 to QP28. -/
def lcEnable (n : Nat) (s : State) : State × EntrySt :=
  if lcSt s n ≠ lcOpenC then failR s 0x06
  else match (closeConds s n).findIdx? (fun b => !b) with
    | some i => failX s 0x41 i
    | none => okR (lcClose s n) 0

/-- DISABLE on QP21 to QP28. -/
def lcDisable (n : Nat) (s : State) : State × EntrySt :=
  if lcRuns s n then okR (lcOpen s n 1 true) 0 else okR s 0

/-! ### The opcodes of QP21 to QP28 (R297) -/

/-- STOP: it does not lift a stop by supervision; on a channel that does not regulate it completes with STATE (DEDUCED, log 19). -/
def lcStop (n : Nat) (_ : Entry) (s : State) : State × EntrySt :=
  if lcSt s n = lcClosedC then okR (put (lcPut s n lcStopC) (R.LC_STATE_SUP_FAIL n) false) 0
  else if lcSt s n = lcStopC then okR s 0
  else failR s 0x06

/-- SET_REF. -/
def lcSetRef (n : Nat) (e : Entry) (s : State) : State × EntrySt :=
  if lcSrc s n ≠ 0 then failR s 0x42
  else okR (wrS (lcMod s n (fun c => { c with host := sInt 32 e.arg0 })) (R.LC_TARGET_T n) (sInt 32 e.arg0)) 0

/-! ### Dispatch (R292 to R296) -/

/-- SET_DISPATCH (R296). -/
def lcSetDispatch (n : Nat) (e : Entry) (s : State) : State × EntrySt :=
  if n ≠ 0 then failR s 0x42
  else withBuf e s (fun bs =>
    if fieldAt bs 20 4 ≠ 0 then failX s 0x40 20
    else if fieldAt bs 8 8 < ptNow s then failR s 0x08
    else
      let g : Grant :=
        { chg := fieldAt bs 0 4, dis := fieldAt bs 4 4, expiry := fieldAt bs 8 8, setPoint := sInt 32 (fieldAt bs 16 4), asker := none,
          iGrant := 0, announced := 0, horizon := 0, revisedAt := none }
      okR (grantPut s g) 0)

/-- The grant expires (R294). -/
def dispExpire (s0 : State) : State :=
  let s := dispStart s0
  match s.ctrl.grant with
  | some g =>
    if g.expiry ≤ ptNow s then errRise (dispShow { s with ctrl := { s.ctrl with grant := none } }) R.CTRL_ERR_DISP_EXPIRED 0 0 else s
  | none => s

/-- A power from a current and a voltage, W. -/
def wattOf (i v : Int) : Int := roundDiv (i * v) 1000000

/-- Whether LC0's set-point comes from DISPATCH: 1 directly, 2 through a POWER channel, 0 not (R292). -/
def dispPath (s : State) : Nat :=
  let r := lcSrc s 0
  if r = 8 then 1 else if 1 ≤ r ∧ r ≤ 7 ∧ lcFb s r = 18 ∧ lcSrc s r = 8 then 2 else 0

/-- A request judged (R292, steps 2 to 4): verdict, cause, and current; `i` is I_req and `pTerm` the power term. -/
def dispJudge (s : State) (h : Nat) (i : Int) (pTerm : Nat) (v : Int) : Nat × Nat × Int :=
  let chg := decide (0 ≤ i)
  let q := s.est.sopH.getD h (0, 0, 0, 0)
  let th := limTerms s chg
  let terms := [(if chg then q.1 else q.2.1, 1), (pTerm, 1), ((th.getD 1 (0, 0)).1, 2), ((th.getD 0 (0, 0)).1, 3)]
  let av := limMin terms
  if i.natAbs ≤ av.1 then (1, 0, i)
  else if (lcU s 0 5 0 4 : Int) * 1000000 ≤ av.1 * v then (2, av.2, if chg then (av.1 : Int) else -(av.1 : Int))
  else (3, av.2, 0)

/-- A power request (R292). -/
def powerRequest (s : State) (sender : Nat) (req : List Byte) : State :=
  if !dispRuns s then s
  else
    let now := ptNow s
    let id := fieldAt req 0 4
    let d := fieldAt req 6 2
    let pSet := sInt 32 (fieldAt req 8 4)
    let dead := fieldAt req 16 8
    let h := if d ≤ 2000 then 0 else if d ≤ 10000 then 1 else 2
    let no (cause : Nat) : State := emit s .dispatch [sender] (dispAnswer s id 3 cause h 0 0 0)
    if dead < now then { s with ctrl := { s.ctrl with lateReqs := s.ctrl.lateReqs + 1 } }
    else if dead < now + 2000000 then no 7
    else if !commands s then no 6
    else if lcSt s 0 ≠ lcClosedC then no 5
    else if !flag s R.EST_STATUS_SOP_VALID then no 4
    else if dispPath s = 0 then no 5
    else
      let v := s.hvm.recV
      let f := if v = 0 then fresh s else (0, s)
      let s0 := f.2
      let q := s0.est.sopH.getD h (0, 0, 0, 0)
      let i := if v = 0 then sInt 32 f.1 else roundDiv (pSet * 1000000) v
      let pTerm : Nat := if v = 0 then f.1 / 2 ^ 32 else (roundDiv ((if 0 ≤ pSet then q.2.2.1 else q.2.2.2 : Nat) * 1000000) v).toNat
      let j := dispJudge s0 h i pTerm v
      let cause := if j.1 = 3 then j.2.1 else if 30000 < d then 8 else j.2.1
      let start := if bitOf (fieldAt req 4 2) 0 then fieldAt req 24 8 else now
      let expiry := start + min d 30000 * 1000000
      let p := if j.1 = 1 then pSet else wattOf j.2.2 v
      let s1 :=
        if j.1 = 3 then s0
        else grantDue s0 (s0.ctrl.later ++ [(start,
          { chg := if 0 < j.2.2 then j.2.2.natAbs else 0, dis := if j.2.2 < 0 then j.2.2.natAbs else 0, expiry := expiry,
            setPoint := if dispPath s0 = 1 then satMilli j.2.2 else satS 32 (-2147483648) p, asker := some (sender, id), iGrant := j.2.2,
            announced := j.2.2.natAbs, horizon := h, revisedAt := none })])
      emit s1 .dispatch [sender] (dispAnswer s1 id j.1 cause h (if j.1 = 3 then 0 else p) j.2.2 (if j.1 = 3 then 0 else expiry))

/-- REVISE, at every SoP record and THERM round (R293): at most one per 100 ms. -/
def dispRevise (s0 : State) : State :=
  let s := dispStart s0
  match s.ctrl.grant with
  | none => s
  | some g =>
    match g.asker with
    | none => s
    | some a =>
      let lim := if 0 ≤ g.iGrant then limChg s else limDis s
      let closed := decide (lcSt s 0 = lcClosedC)
      let ib := if closed then min g.iGrant.natAbs lim.1 else 0
      let cause := if !closed then 5 else match lim.2 with
        | 0 => 3 | 1 => 2 | 2 => 1 | _ => 0
      let moved := decide (cfgU s 21 5 4 2 * g.iGrant.natAbs < 1000 * ((ib : Int) - g.announced).natAbs)
      let quiet := match g.revisedAt with
        | some t => decide (s.power.ticks < t + 25000000)
        | none => false
      if !dispRuns s || !moved || quiet then s
      else
        let i : Int := if 0 ≤ g.iGrant then ib else -(ib : Int)
        let s1 := { s with ctrl := { s.ctrl with grant := some { g with announced := ib, revisedAt := some s.power.ticks } } }
        emit s1 .dispatch [a.1] (dispAnswer s1 a.2 4 cause g.horizon (wattOf i s.hvm.recV) i g.expiry)

/-! ### The pair (R290, R291) -/

/-- The unit takes the standby role: every channel goes to TRACK. -/
def ctrlStandby (s : State) : State :=
  let s1 := (List.range 8).foldl (fun s n => lcMod (lcPut s n lcTrackC) n (fun c => { c with preload := false, failing := false, dwell := false })) s
  put s1 R.CTRL_STATUS_EXC false

/-- What a channel that tracked becomes when its unit takes over: as the mirror says, or OPEN (R290, R291, R366). An OPEN one keeps the
mirrored output, held or OPEN_OUT (R274). -/
def lcResume (mirs : Option (List LcMirror)) (duty0 : Nat) (s : State) (n : Nat) : State :=
  if lcSt s n ≠ lcTrackC then s
  else match (match mirs with | some ms => ms[n]? | none => none) with
    | none => lcOpen s n 8 false
    | some m =>
      if m.st = lcClosedC ∨ m.st = lcStopC then
        let out : Int := if n = 0 then (duty0 : Int) else m.u
        let back (c : LcSt) : LcSt :=
          { c with host := m.target, rs := fOfInt m.rs, u := m.u, preload := true, mir := some (m.rs, out), held := false, failing := false,
                   cnt := [0, 0, 0] }
        let s1 := lcMod (lcPut s n m.st) n back
        wrS (wrS (wrS s1 (R.LC_TARGET_T n) m.target) (R.LC_RAMP_RS n) m.rs) (R.LC_OUT_U n) m.u
      else
        let s1 := lcOpen s n 8 (decide (n ≠ 0))
        if n = 0 then s1 else wrS s1 (R.LC_OUT_U n) m.u

/-- The unit takes the active role from TRACK: the mirrored states, or OPEN where no Beacon has come. LC0's mirrored output is
its duty, in 1/65,536. Under the PWM inhibit, every channel that drives PWM is OPEN (R33). -/
def ctrlActive (s : State) (mirs : Option (List LcMirror)) (duty0 : Nat) (grant : Option Grant) : State :=
  let s0 := (List.range 8).foldl (lcResume mirs duty0) s
  let s1 := if flag s0 R.SAFE_STATUS_INHIBIT then pwmInhibit s0 else s0
  dispShow (if mirs.isSome then { s1 with ctrl := { s1.ctrl with grant := grant } } else s1)

/-! ### PWM's queue pair QP29 (R302) -/

/-- The register whose setting ENABLE finds out of range. -/
def pwmBad (s : State) : Option Nat :=
  let per := rd s R.PWM_PERIOD_TICKS
  if per % 2 = 1 ∨ per < 1000 ∨ 10000 < per then some 4
  else if per * max 1 (rd s R.PWM_CFG_LC0_DIV) < 4000 then some 4
  else if 5 * per ≤ 4 * rd s R.PWM_DEAD_DT_NS then some 8
  else if per < rd s R.PWM_TRIG_TRIG_TICKS + rd s R.PWM_TRIG_AVG_TICKS then some 0x10
  else none

/-- ENABLE on QP29: the carrier runs. -/
def pwmEnable (s : State) : State × EntrySt :=
  if flag s R.PWM_STATUS_ARMED then okR s 0
  else match pwmBad s with
    | some o => failX (errRise s R.PWM_ERR_CFG 0 0) 0x40 o
    | none => okR (eisFollow (carrierFollow (pwmShow (put s R.PWM_STATUS_ARMED true)))) 0

/-- DISABLE on QP29. -/
def pwmDisable (s : State) : State × EntrySt :=
  if lcSt s 0 ≠ lcOpenC then failR s 0x06
  else okR (eisFollow (carrierFollow (pwmOff (put s R.PWM_STATUS_ARMED false)))) 0

/-! ### The rows of CTRL and PWM, and of the rounds that dispatch follows -/

/-- Whether a queue pair is one of QP21 to QP28, and its channel. -/
def lcOf (qp : Nat) : Nat := qp - 21

/-- LC0_CYCLE. -/
def execLc0Cycle (x : Lc0In) (s : State) : Host.Outcome State Fault Refusal := .next (lc0Cycle s x)

/-- FAST_CYCLE. -/
def execFastCycle (x : CtrlIn) (s : State) : Host.Outcome State Fault Refusal := .next (lcCycles s x false (fOfRatio 1 5000))

/-- SLOW_CYCLE: dtNs since the round before. -/
def execSlowCycle (x : CtrlIn) (dtNs : Nat) (s : State) : Host.Outcome State Fault Refusal :=
  .next (heaterFollow (actShow (loopTake (lcCycles s x true (fOfRatio dtNs 1000000000)))))

/-- DWELL_END: DWELL_MS have passed at zero. -/
def execDwellEnd (n : Nat) (s : State) : Host.Outcome State Fault Refusal :=
  .next (if n < 8 ∧ (lcAt s n).dwell then put (lcMod s n (fun c => { c with dwell := false })) (R.LC_STATE_DWELL n) false else s)

/-- SUPERVISION_CHECK. -/
def execSupervisionCheck (x : CtrlIn) (iHall : Int) (s : State) : Host.Outcome State Fault Refusal := .next (supCheck s x iHall)

/-- STOPPING_TIMEOUT: 2 s after a supervision failure. -/
def execStoppingTimeout (n : Nat) (s : State) : Host.Outcome State Fault Refusal :=
  .next (if n < 8 ∧ lcSt s n = lcStopC ∧ (lcAt s n).failing then lcOpen s n 3 false else s)

/-- PS_FAULT: J9-14 falls, or rises again. -/
def execPsFault (low : Bool) (s : State) : Host.Outcome State Fault Refusal :=
  .next (if low && !flag s R.PWM_STATUS_PS_FAULT then psTrip (put s R.PWM_STATUS_PS_FAULT true) 5 R.CTRL_ERR_PS_FAULT R.PWM_ERR_PS_FAULT 0
    else pwmShow (put s R.PWM_STATUS_PS_FAULT low))

/-- STOP. -/
def execStop (qp : Nat) (s : State) : Host.Outcome State Fault Refusal :=
  .next (if 21 ≤ qp ∧ qp ≤ 28 then runEntry s qp 0x40 (lcStop (lcOf qp)) else s)

/-- SET_REF. -/
def execSetRef (qp : Nat) (s : State) : Host.Outcome State Fault Refusal :=
  .next (if 21 ≤ qp ∧ qp ≤ 28 then runEntry s qp 0x41 (lcSetRef (lcOf qp)) else s)

/-- SET_DISPATCH. -/
def execSetDispatch (qp : Nat) (s : State) : Host.Outcome State Fault Refusal :=
  .next (if 21 ≤ qp ∧ qp ≤ 28 then runEntry s qp 0x42 (lcSetDispatch (lcOf qp)) else s)

/-- DISPATCH_EXPIRY. -/
def execDispatchExpiry (s : State) : Host.Outcome State Fault Refusal := .next (dispExpire s)

/-- POWER_REQUEST. -/
def execPowerRequest (sender : Nat) (req : List Byte) (s : State) : Host.Outcome State Fault Refusal := .next (powerRequest s sender req)

/-- CARRIER_VALLEY. -/
def execCarrierValley (leg : Nat) (ready : Bool) (s : State) : Host.Outcome State Fault Refusal := .next (gapEnd (carrierValley s leg ready) false)

/-- SOP_EVALUATION (R221), and dispatch's look at it (R293). -/
def execSopEvaluation (s : State) : Host.Outcome State Fault Refusal := .next (dispRevise (sopEval s))

/-- HOUSEKEEPING_ROUND: every 100 ms; THERM takes the FAST channels' outputs (R273). -/
def execHousekeepingRound (tin : ThermIn) (s : State) : Host.Outcome State Fault Refusal := .next (dispRevise (thermRound (loopTake s) tin true))

/-- FAST_ROUND: every 10 ms while NEAR holds. -/
def execFastRound (tin : ThermIn) (s : State) : Host.Outcome State Fault Refusal := .next (dispRevise (thermRound (loopTake s) tin false))

end Sys2Proof.Machine
end

