-- ==== Sys2Proof/Machine/Can.lean ====
section
/-! DEFINITION. CAN0 to CAN2: message objects (R408, R409), the mailbox image (R410), transmission (R412, R413), errors, a
lone node and bus-off (R414 to R416), objects held by STL (R417), records and the queue pairs QP38 to QP40 (R418, R419). -/

namespace Sys2Proof.Machine

open Sys2Proof

/-! ### Controllers and objects -/

/-- What a controller holds, and the state with it changed. -/
def canAt (s : State) (n : Nat) : CanCtl := s.can.getD n CanCtl.init
def canMod (s : State) (n : Nat) (f : CanCtl → CanCtl) : State := { s with can := modAt s.can n f }

/-- An object, and the state with it changed. -/
def objAt (s : State) (n k : Nat) : CanObj := (canAt s n).objs.getD k { data := [], attempts := 0, next := none, ucnt := 0 }
def objMod (s : State) (n k : Nat) (f : CanObj → CanObj) : State := canMod s n (fun c => { c with objs := modAt c.objs k f })

/-- A field of the controller's item, and of an object's item (R408, R420). -/
def canU (s : State) (n ofs w : Nat) : Nat := cfgU s (38 + n) 1 ofs w
def objU (s : State) (n k ofs w : Nat) : Nat := cfgU s (38 + n) (0x100 + k) ofs w

/-- DIR and the bits of OFLAGS. -/
def objDir (s : State) (n k : Nat) : Nat := objU s n k 0 1
def objFlag (s : State) (n k b : Nat) : Bool := bitOf (objU s n k 1 1) b

/-- Whether an object is pending, and whether STL holds it. -/
def objPend (s : State) (n k : Nat) : Bool := bitIn s (R.CAN_TXPEND_PEND n (k / 32)) (k % 32)
def objStl (s : State) (n k : Nat) : Bool := bitIn s (R.CAN_STL_OWN_OWN n (k / 32)) (k % 32)
def setPend (s : State) (n k : Nat) (b : Bool) : State := putBit s (R.CAN_TXPEND_PEND n (k / 32)) (k % 32) b

/-- CANn.STATUS.STATE, and its codes. -/
def canSt (s : State) (n : Nat) : Nat := rd s (R.CAN_STATUS_STATE n)
def canOff : Nat := 0
def canInteg : Nat := 1
def canActive : Nat := 2
def canPassive : Nat := 3
def canBusOff : Nat := 4
def canRecov : Nat := 5

/-- Whether a controller takes part on the bus now: enabled, powered (R67), its clock not gated. -/
def canUp (s : State) (n : Nat) : Bool :=
  decide (n < 3) && decide (canSt s n ≠ canOff) && (if n = 0 then blocksUp s else fullUp s && !qpGated s (38 + n))

/-- Whether it sends and receives: error active or passive. -/
def canLive (s : State) (n : Nat) : Bool := canUp s n && (decide (canSt s n = canActive) || decide (canSt s n = canPassive))

/-! ### Records (R419) -/

/-- FFLAGS of R410. -/
def fflags (ide fdf brs esi rtr : Bool) : Nat := b2n ide + 2 * b2n fdf + 4 * b2n brs + 8 * b2n esi + 16 * b2n rtr

/-- A 96-byte record into the controller's queue pair; one without a buffer is lost. -/
def canRecord (s : State) (n time kind obj ff dlc id info : Nat) (data : List Byte) : State :=
  let b := leBytes 8 time ++ leBytes 1 kind ++ leBytes 1 obj ++ leBytes 1 ff ++ leBytes 1 dlc ++ leBytes 4 id ++ leBytes 4 info
    ++ leBytes 2 data.length ++ zeros 2 ++ padTo 64 data ++ zeros 4
  streamOr s (38 + n) (b ++ leBytes 4 (crc32c b)) (fun s => errRise (bump s (R.CAN_RPT_LOST_CNT_COUNT n)) (R.CAN_ERR_LOST n) 0 0)

/-- A record about one of the controller's own transmit objects. -/
def objRecord (s : State) (n k kind time : Nat) (data : List Byte) (attempts : Nat) : State :=
  if objStl s n k then s
  else
    let ff := fflags (objFlag s n k 0) (objFlag s n k 1) (objFlag s n k 2) (decide (canSt s n = canPassive)) (objFlag s n k 3)
    canRecord s n time kind k ff (objU s n k 2 1) (objU s n k 4 4) attempts data

/-- A record of KIND 5. -/
def canState (s : State) (n : Nat) : State :=
  let info := canSt s n + 8 * b2n (flag s (R.CAN_STATUS_ALONE n)) + 65536 * rd s (R.CAN_ECNT_TEC n)
  canRecord s n (ptNow s) 5 0xFF 0 0 0 info []

/-! ### Error counters (R403, R406, R414) -/

/-- The error state that the counters give: passive above 127. -/
def canErrSt (s : State) (n : Nat) : Nat :=
  if 127 < rd s (R.CAN_ECNT_TEC n) ∨ 127 < rd s (R.CAN_ECNT_RXEC n) then canPassive else canActive

/-- The error state follows the counters; entering error passive is noted in CANn.ERR. -/
def canFollow (s : State) (n : Nat) : State :=
  if canSt s n = canActive ∨ canSt s n = canPassive then
    let e := canErrSt s n
    let s1 := wr s (R.CAN_STATUS_STATE n) e
    if e = canPassive ∧ canSt s n = canActive then errRise s1 (R.CAN_ERR_PASSIVE n) 0 0 else s1
  else s

/-- ALONE ends (R415). -/
def canNotAlone (s : State) (n : Nat) : State := put (canMod s n (fun c => { c with aloneRun := 0 })) (R.CAN_STATUS_ALONE n) false

/-- RXEC after a frame received well: one less, and from above 127 a value of 119 to 127 that the standard leaves open
(log 3); held at 0 in LISTEN (R406). -/
def rxGood (s : State) (n : Nat) : State :=
  let x := rd s (R.CAN_ECNT_RXEC n)
  if canU s n 0 1 = 1 then s
  else if 127 < x then
    let f := fresh s
    wr f.2 (R.CAN_ECNT_RXEC n) (119 + f.1 % 9)
  else wr s (R.CAN_ECNT_RXEC n) (x - 1)

/-- LEC and ERRFRM_CNT of an error frame (R414). -/
def canErrFrame (s : State) (n code : Nat) (dataPhase tx : Bool) : State :=
  put (put (wr (bump s (R.CAN_ERRFRM_CNT_COUNT n)) (R.CAN_LEC_CODE n) code) (R.CAN_LEC_DATA_PHASE n) dataPhase) (R.CAN_LEC_TX n) tx

/-- A protocol exception event with PXE 1 (R403): bus integration, no error flag. -/
def canPxe (s : State) (n : Nat) : State :=
  errRise (wr (bump s (R.CAN_BO_CNT_PXE_CNT n)) (R.CAN_STATUS_STATE n) canInteg) (R.CAN_ERR_PXE n) 0 0

/-- An error that a receiver meets (R414). -/
def canRxError (s : State) (n code : Nat) (dataPhase : Bool) (add : Nat) : State :=
  let s1 := canErrFrame s n code dataPhase false
  if canU s n 0 1 = 1 then s1 else canFollow (wr s1 (R.CAN_ECNT_RXEC n) (min 511 (rd s1 (R.CAN_ECNT_RXEC n) + add))) n

/-- What would be a protocol exception event: one with PXE 1, a form error with PXE 0 (R403). -/
def canExcept (s : State) (n : Nat) : State := if canU s n 2 1 = 1 then canPxe s n else canRxError s n 2 false 1

/-! ### Receiving (R409, R410) -/

/-- Whether an object matches a frame (R409); the base format uses bits [10:0] (R408). -/
def objMatches (s : State) (n : Nat) (fr : CanFrame) (k : Nat) : Bool :=
  (decide (objDir s n k = 2) || decide (objDir s n k = 3))
  && decide ((fr.id ^^^ objU s n k 4 4) &&& objU s n k 8 4 &&& (if fr.ide then 0x1FFFFFFF else 0x7FF) = 0) && (objFlag s n k 0 == fr.ide) && (objFlag s n k 3 == fr.rtr)
  && (objFlag s n k 5 || (objFlag s n k 1 == fr.fdf))

/-- IMG_BASE. -/
def imgBase (s : State) (n : Nat) : Nat := rd s (R.CAN_IMG_BASE_LO_BASE n) + rd s (R.CAN_IMG_BASE_HI_BASE n) * 2 ^ 32

/-- Data bytes of a frame. -/
def frBytes (fr : CanFrame) : List Byte := if fr.rtr then [] else padTo (dlcBytes fr.fdf fr.dlc) fr.data

/-- A mailbox entry written (R410): the three steps leave CTL with NEWDAT and the next UCNT, and bytes 0x04 to 0x57. -/
def imgWrite (s : State) (n k : Nat) (fr : CanFrame) : State :=
  let u := ((objAt s n k).ucnt + 1) % 65536
  let d := frBytes fr
  let b := leBytes 4 (1 + 65536 * u) ++ leBytes 4 fr.id ++ leBytes 1 (fflags fr.ide fr.fdf fr.brs fr.esi fr.rtr) ++ leBytes 1 fr.dlc
    ++ leBytes 2 d.length ++ zeros 4 ++ leBytes 8 (ptNow s - fr.sofNs) ++ padTo 64 d
  let s1 := objMod s n k (fun o => { o with ucnt := u })
  if hostReach s1 then memWrite s1 (imgBase s1 n + 96 * k) b else s1

/-- A frame offered to the objects (R409), unless the CAN domain's crossings are on the two-flop path (R485); `stl` takes one for an object
that STL holds. -/
def canOffer (s : State) (n : Nat) (fr : CanFrame) (stl : Nat → List Byte → State → State) : State :=
  if !crossOk s 8 then s else match (List.range 128).find? (objMatches s n fr) with
  | none => bump s (R.CAN_NOMATCH_CNT_COUNT n)
  | some k =>
    if objStl s n k then stl k (frBytes fr) s
    else if objDir s n k = 2 then imgWrite s n k fr
    else canRecord s n (ptNow s - fr.sofNs) 1 k (fflags fr.ide fr.fdf fr.brs fr.esi fr.rtr) fr.dlc fr.id 0 (frBytes fr)

/-- A valid frame is received (R403, R407, R409): an FD frame with FD_EN 0 is a protocol exception or a form error. -/
def canReceive (s : State) (n : Nat) (fr : CanFrame) (stl : Nat → List Byte → State → State) : State :=
  if !canLive s n then s
  else if fr.fdf && decide (canU s n 1 1 = 0) then canExcept s n
  else canOffer (canFollow (rxGood (canNotAlone (bump s (R.CAN_RX_CNT_COUNT n)) n) n) n) n fr stl

/-! ### Transmission (R412, R413) -/

/-- The arbitration field as the bus compares it: identifier, RTR or SRR, IDE, and the rest of an extended one. -/
def arbField (s : State) (n k : Nat) : Nat :=
  let id := objU s n k 4 4
  let r := b2n (objFlag s n k 3)
  if objFlag s n k 0 then id / 2 ^ 18 % 2048 * 2 ^ 21 + 2 ^ 20 + 2 ^ 19 + id % 2 ^ 18 * 2 + r
  else id % 2048 * 2 ^ 21 + r * 2 ^ 20

/-- The pending object of highest priority: the lowest field, then the lowest number. -/
def canPick (s : State) (n : Nat) : Option Nat :=
  ((List.range 128).filter (objPend s n)).foldl (fun m k => match m with
    | none => some k
    | some j => if arbField s n k < arbField s n j then some k else some j) none

/-- A start of frame (R412); target 5 of R503 holds the object back from it. -/
def canAttempt (s : State) (n : Nat) : State :=
  if !canLive s n || (canAt s n).attempt.isSome || decide (canU s n 0 1 = 1) then s
  else match canPick s n with
    | none => s
    | some k =>
      let s1 := objMod (canMod (pepperWait s 5 n) n (fun c => { c with attempt := some (k, false) })) n k (fun o => { o with attempts := o.attempts + 1 })
      put s1 (R.CAN_STATUS_TX_BUSY n) true

/-- An object's request ends with a record; data that waited makes it pending anew (R412). -/
def objDone (s : State) (n k kind time : Nat) : State :=
  let o := objAt s n k
  let s1 := objRecord s n k kind time o.data o.attempts
  match o.next with
  | some d => objMod s1 n k (fun o => { o with data := d, attempts := 0, next := none })
  | none => setPend (objMod s1 n k (fun o => { o with attempts := 0 })) n k false

/-- The frame an object sends, as a receiver of it sees it (LOOPBACK, R406). -/
def objFrame (s : State) (n k sofNs : Nat) : CanFrame :=
  { id := objU s n k 4 4, ide := objFlag s n k 0, fdf := objFlag s n k 1, brs := objFlag s n k 2, esi := decide (canSt s n = canPassive),
    rtr := objFlag s n k 3, dlc := objU s n k 2 1, data := (objAt s n k).data, sofNs := sofNs }

/-- A frame on the bus; LOOPBACK drives none (R406). -/
def canDrive (s : State) (n : Nat) (fr : CanFrame) : State :=
  if canU s n 0 1 = 2 then s else emit s .canFrame [n, fr.id, fflags fr.ide fr.fdf fr.brs fr.esi fr.rtr, fr.dlc] (frBytes fr)

/-- TDCV measured in an attempt (R405). -/
def canTdc (s : State) (n k : Nat) (tdcv : Option Nat) : State :=
  match tdcv with
  | none => s
  | some v =>
    if canU s n 14 1 = 0 ∨ !objFlag s n k 2 then s
    else
      let s1 := if canU s n 16 1 ≤ v then wr s (R.CAN_TDC_TDCV n) (min v 127) else s
      if 127 < rd s1 (R.CAN_TDC_TDCV n) + canU s n 15 1 then errRise s1 (R.CAN_ERR_TDC_RANGE n) 0 0 else s1

/-- An attempt that did not send its frame (R413, R414, R416). -/
def objFailed (s : State) (n k : Nat) (cancelled : Bool) : State :=
  if cancelled then objDone s n k 3 (ptNow s)
  else if objFlag s n k 4 then objDone s n k 4 (ptNow s)
  else if (objAt s n k).next.isSome then objDone s n k 3 (ptNow s)
  else s

/-- ALONE_N attempts in a row ended in an ACK error (R415). -/
def canAlone (s : State) (n : Nat) (ack : Bool) : State :=
  let run := if ack then (canAt s n).aloneRun + 1 else 0
  let s1 := canMod s n (fun c => { c with aloneRun := run })
  if ack && decide (canU s n 0x11 1 ≤ run) && !flag s (R.CAN_STATUS_ALONE n) then
    canState (errRise (put s1 (R.CAN_STATUS_ALONE n) true) (R.CAN_ERR_ALONE n) 0 0) n
  else s1

/-- TEC exceeds 255 (R416). -/
def canGoOff (s : State) (n : Nat) : State :=
  canState (errRise (bump (wr s (R.CAN_STATUS_STATE n) canBusOff) (R.CAN_BO_CNT_BUSOFF n)) (R.CAN_ERR_BUS_OFF n) 0 0) n

/-- The items of objects that wait for the frame's end take effect; each cancels its object's transmission (R408). -/
def canItems (s : State) (n : Nat) : State :=
  (List.range 128).foldl (fun s k =>
    let key := itemKey (38 + n) (0x100 + k)
    if s.cfgPend.any (fun e => decide (e.1 = key)) then
      let s1 := if objPend s n k then objDone (objMod s n k (fun o => { o with next := none })) n k 3 (ptNow s) else s
      cfgBoundary s1 key
    else s) s

/-- The controller goes off the bus (R418): every pending object completes with KIND 3. -/
def canLeave (s : State) (n : Nat) : State :=
  let s1 := ((List.range 128).filter (objPend s n)).foldl (fun s k => objDone (objMod s n k (fun o => { o with next := none })) n k 3 (ptNow s)) s
  let s2 := canMod s1 n (fun c => { c with attempt := none, stopping := false, aloneRun := 0 })
  put (put (wr s2 (R.CAN_STATUS_STATE n) canOff) (R.CAN_STATUS_ALONE n) false) (R.CAN_STATUS_TX_BUSY n) false

/-- What follows an attempt's end: waiting items, a waiting DISABLE. -/
def canAfter (s : State) (n : Nat) : State :=
  let s1 := canItems s n
  if (canAt s1 n).stopping then finishEntry (canLeave s1 n) (38 + n) (Entry.runs opDisable) 0 0 0 else s1

/-- An attempt ends (R413 to R416). -/
def canAttemptEnd (s : State) (n : Nat) (r : CanEnd) (tdcv : Option Nat) (stl : Nat → List Byte → State → State) : State :=
  if !canUp s n then s
  else match (canAt s n).attempt with
    | none => s
    | some (k, cancelled) =>
      let s0 := put (canTdc (canMod s n (fun c => { c with attempt := none })) n k tdcv) (R.CAN_STATUS_TX_BUSY n) false
      match r with
      | .sent sofNs =>
        let fr := objFrame s0 n k sofNs
        let s1 := canDrive (canNotAlone (bump s0 (R.CAN_TX_CNT_COUNT n)) n) n fr
        let s2 := canFollow (wr s1 (R.CAN_ECNT_TEC n) (rd s1 (R.CAN_ECNT_TEC n) - 1)) n
        let s3 := objDone s2 n k 2 (ptNow s2 - sofNs)
        canAfter (if canU s n 0 1 = 2 then canOffer (canFollow (rxGood (bump s3 (R.CAN_RX_CNT_COUNT n)) n) n) n fr stl else s3) n
      | .lost => canAfter (objFailed (canAlone s0 n false) n k cancelled) n
      | .error code dp dom =>
        let ack := decide (code = 3)
        let hold := ack && decide (canSt s0 n = canPassive) && !dom
        let s1 := canErrFrame s0 n code dp true
        let tec := rd s1 (R.CAN_ECNT_TEC n) + (if hold then 0 else 8)
        let s2 := wr s1 (R.CAN_ECNT_TEC n) (min tec 511)
        let s3 := canAlone (canFollow s2 n) n ack
        let s4 := if 255 < tec then canGoOff s3 n else s3
        canAfter (objFailed s4 n k cancelled) n

/-- Data given to a transmit object (R412): the object is pending; a request that has not begun is replaced, one that has
begun is followed, and data that waited for its end is replaced. -/
def objLoad (s : State) (n k : Nat) (d : List Byte) : State :=
  match (canAt s n).attempt with
  | some (j, _) =>
    if j = k then
      let s1 := match (objAt s n k).next with
        | some old => objRecord s n k 3 (ptNow s) old 0
        | none => s
      objMod s1 n k (fun o => { o with next := some d })
    else load s
  | none => load s
where
  /-- Outside an attempt of the object. -/
  load (s : State) : State :=
    let s1 := if objPend s n k then objDone (objMod s n k (fun o => { o with next := none })) n k 3 (ptNow s) else s
    setPend (objMod s1 n k (fun o => { o with data := d, attempts := 0, next := none })) n k true

/-- A cancel (R413): RESULT and the state. -/
def objCancel (s : State) (n k : Nat) : Nat × State :=
  match (canAt s n).attempt with
  | some (j, c) =>
    if j = k then (1, objMod (canMod s n (fun x => { x with attempt := some (j, true || c) })) n k (fun o => { o with next := none }))
    else idle s
  | none => idle s
where
  /-- Outside an attempt of the object. -/
  idle (s : State) : Nat × State := if objPend s n k then (0, objDone s n k 3 (ptNow s)) else (2, s)

/-! ### QP38 to QP40 (R418) -/

/-- ENABLE. -/
def canEnable (n : Nat) (s : State) : State × EntrySt :=
  if canSt s n ≠ canOff then okR s 0
  else
    let b := imgBase s n
    if (List.range 128).any (fun k => decide (objDir s n k = 2) && !objStl s n k) && !(decide (b % 4096 = 0) && inHost b 12288) then failR s 0x41
    else
      let s1 := canMod s n (fun _ => CanCtl.init)
      let s2 := wr (wr (wr (wr s1 (R.CAN_STATUS_MODE n) (canU s n 0 1)) (R.CAN_ECNT_TEC n) 0) (R.CAN_ECNT_RXEC n) 0) (R.CAN_STATUS_STATE n) canInteg
      okR s2 0

/-- DISABLE: the frame in progress is finished first. -/
def canDisable (n : Nat) (s : State) : State × EntrySt :=
  if canSt s n = canOff then okR s 0
  else if (canAt s n).attempt.isSome then (canMod s n (fun c => { c with stopping := true }), .running 0)
  else okR (canLeave s n) 0

/-- TX_SET; on a controller that is not enabled it completes with STATE (DEDUCED, log 20). -/
def canTxSet (n : Nat) (e : Entry) (s : State) : State × EntrySt :=
  let k := e.arg0 % 128
  if objStl s n k then failR s 0x42
  else if objDir s n k ≠ 1 then failR s 0x43
  else if canSt s n = canOff then failR s 0x06
  else if canU s n 0 1 = 1 then failR s 0x44
  else withBuf e s (fun d => okR (objLoad s n k d) 0)

/-- TX_CANCEL. -/
def canTxCancel (n : Nat) (e : Entry) (s : State) : State × EntrySt :=
  let k := e.arg0 % 128
  if objStl s n k then failR s 0x42
  else if objDir s n k ≠ 1 then failR s 0x43
  else
    let r := objCancel s n k
    okR r.2 r.1

/-- RECOVER. -/
def canRecover (n : Nat) (_ : Entry) (s : State) : State × EntrySt :=
  if canSt s n = canBusOff then okR (wr s (R.CAN_STATUS_STATE n) canRecov) 0 else failR s 0x06

/-! ### Rows (CAN_FRAME_RECEIVE and ATTEMPT_END stand with STL, which takes frames of its own) -/

/-- TRANSMIT_ATTEMPT. -/
def execTransmitAttempt (n : Nat) (s : State) : Host.Outcome State Fault Refusal := .next (canAttempt s n)

/-- TX_SET. -/
def execTxSet (qp : Nat) (s : State) : Host.Outcome State Fault Refusal :=
  .next (if 38 ≤ qp ∧ qp ≤ 40 then runEntry s qp 0x40 (canTxSet (qp - 38)) else s)

/-- TX_CANCEL. -/
def execTxCancel (qp : Nat) (s : State) : Host.Outcome State Fault Refusal :=
  .next (if 38 ≤ qp ∧ qp ≤ 40 then runEntry s qp 0x41 (canTxCancel (qp - 38)) else s)

/-- RECOVER. -/
def execRecover (qp : Nat) (s : State) : Host.Outcome State Fault Refusal :=
  .next (if 38 ≤ qp ∧ qp ≤ 40 then runEntry s qp 0x42 (canRecover (qp - 38)) else s)

/-- BUS_OFF_HOLD_EXPIRY. -/
def execBusOffHoldExpiry (n : Nat) (s : State) : Host.Outcome State Fault Refusal :=
  .next (if canUp s n && decide (canSt s n = canBusOff) && decide (canU s n 3 1 = 1) then wr s (R.CAN_STATUS_STATE n) canRecov else s)

/-- BUS_OFF_RECOVERY_END. -/
def execBusOffRecoveryEnd (n : Nat) (s : State) : Host.Outcome State Fault Refusal :=
  .next (if canUp s n && decide (canSt s n = canRecov) then
    canState (wr (wr (wr s (R.CAN_ECNT_TEC n) 0) (R.CAN_ECNT_RXEC n) 0) (R.CAN_STATUS_STATE n) canActive) n else s)

/-- CAN_RECEIVE_ERROR. -/
def execCanReceiveError (n : Nat) (r : CanRxErr) (s : State) : Host.Outcome State Fault Refusal :=
  .next (if !canLive s n then s else match r with
    | .error code dp add => canRxError s n code dp add
    | .pxe => canExcept s n)

/-- BUS_INTEGRATION_END. -/
def execBusIntegrationEnd (n : Nat) (s : State) : Host.Outcome State Fault Refusal :=
  .next (if canUp s n && decide (canSt s n = canInteg) then wr s (R.CAN_STATUS_STATE n) (canErrSt s n) else s)

end Sys2Proof.Machine
end

