-- ==== Sys2Proof/Machine/EthCore.lean ====
section
/-! DEFINITION. ETH: ports (R376, R397), frames that the module originates (R378, R382), routes round known breaks (R382, R387), and the
configurable check-value units on a stream (R472 to R476). -/

namespace Sys2Proof.Machine

open Sys2Proof

/-! ### Addresses and ports -/

/-- ADDR, N_RING, ZONE_POS and VID of item 1 (R397); ring and position of an address (R377). -/
def ethAddr (s : State) : Nat := cfgU s 36 1 0 2
def nRing (s : State) : Nat := cfgU s 36 1 2 1
def zonePos (s : State) : Nat := cfgU s 36 1 3 1
def ethVid (s : State) : Nat := cfgU s 36 1 4 2
def ringOf (a : Nat) : Nat := a / 64
def posOf (a : Nat) : Nat := a % 64

/-- Whether a port's link is up (R400). -/
def linkUp (s : State) (b : Bool) : Bool := flag s (if b then R.ETH_STATUS_LINK_B else R.ETH_STATUS_LINK_A)

/-- Whether a port carries frames: enabled, its link up, and not stopped by the power state (R67) or its clock gate (R122). -/
def portUp (s : State) (b : Bool) : Bool :=
  s.eth.on.getD (b2n b) false && linkUp s b && (fullUp s || (decide (s.power.st = .ride) && !b)) && !(b && flag s R.CLK_GATE_ETHB_OFF)

/-- Whether ETH forwards (R376). -/
def ethForwards (s : State) : Bool := decide (s.power.st = .run) || decide (s.power.st = .ride)

/-! ### Routes (R382, R387) -/

/-- The positions whose ETH-B links a path from p to q crosses, out of ETH-B or out of ETH-A. -/
def pathLinks (n p q : Nat) (b : Bool) : List Nat :=
  if b then (List.range ((q + n - p) % n)).map (fun i => (p + i) % n) else (List.range ((p + n - q) % n)).map (fun i => (p + n - 1 - i) % n)

/-- Whether a path crosses a link known to be down, the port's own among them. -/
def pathCut (s : State) (q : Nat) (b : Bool) : Bool :=
  !portUp s b || (pathLinks (nRing s) (posOf (ethAddr s)) q b).any (fun l => decide (l ∈ s.eth.down))

/-- The port a frame for a destination leaves by: the shorter way, ETH-B where both are equal, and the other port where that way is
known to be cut; none where neither port has a link or the ring has no zone switch for another ring. -/
def routeOf (s : State) (dst : Nat) : Option Bool :=
  let n := nRing s
  let p := posOf (ethAddr s)
  if !portUp s false && !portUp s true then none
  else if ringOf dst ≠ ringOf (ethAddr s) ∧ zonePos s = 0xFF then none
  else
    let q := (if ringOf dst = ringOf (ethAddr s) then posOf dst else zonePos s) % n
    let b := decide ((q + n - p) % n ≤ (p + n - q) % n)
    let c := if pathCut s q b then !b else b
    if portUp s c then some c else some (!c)

/-! ### Originated frames (R378, R382) -/

/-- A number's n bytes, most significant first. -/
def beBytes (n v : Nat) : List Byte := (leBytes n v).reverse
/-- The number that bytes hold, most significant first. -/
def beNat (bs : List Byte) : Nat := bs.foldl (fun n b => 256 * n + b.toNat) 0
/-- A big-endian field. -/
def beAt (bs : List Byte) (ofs n : Nat) : Nat := beNat ((bs.drop ofs).take n)

/-- A Rinpacon frame without its FCS (R378): Ethernet fields most significant byte first, PCP 7, 5, 3 or 1 by class. -/
def ringBytes (s : State) (cls dst svc rflags hops rseq : Nat) (portB : Bool) (payload : List Byte) : List Byte :=
  let f := [0x03, 0x4B, 0x53, 0x43, 0x00, 0x00] ++ beBytes 6 (Config.mac.toNat + b2n portB) ++ beBytes 2 0x8100
    ++ beBytes 2 ((7 - 2 * cls) * 2 ^ 13 + ethVid s) ++ beBytes 2 0x88B6 ++ leBytes 1 (1 + 16 * cls) ++ leBytes 1 hops ++ leBytes 2 dst
    ++ leBytes 2 (ethAddr s) ++ leBytes 1 svc ++ leBytes 1 rflags ++ leBytes 4 rseq ++ leBytes 2 payload.length ++ zeros 2 ++ payload
  f ++ zeros (60 - f.length)

/-- A frame leaves by a port (R400): the second number is 1 for a frame whose FCS is inverted (R381). -/
def ethOut (s : State) (portB : Bool) (cls stomped : Nat) (bs : List Byte) : State :=
  let s1 := bump (emit s .ringFrame [b2n portB, stomped] bs) (R.ETH_P_TX_COUNT (b2n portB))
  if cls = 0 then bump s1 (R.ETH_P_CL0_COUNT (b2n portB)) else s1

/-- One copy of an originated frame. -/
def ethCopy (s : State) (portB : Bool) (cls dst svc hops rseq : Nat) (dual : Bool) (payload : List Byte) : State :=
  ethOut s portB cls 0 (ringBytes s cls dst svc (b2n dual + 2 * b2n portB) hops rseq portB payload)

/-- The state with one more Rinpacon frame originated (R378). -/
def ethCount (s : State) : State := { s with eth := { s.eth with rseq := (s.eth.rseq + 1) % 2 ^ 32 } }

/-- Copies by every port that has a link, with DUAL set (R382). -/
def ethBoth (s : State) (cls dst svc hops rseq : Nat) (payload : List Byte) : State :=
  [false, true].foldl (fun s b => if portUp s b then ethCopy s b cls dst svc hops rseq true payload else s) s

/-- A frame that the module originates (R382): STL frames and broadcasts on the own ring in both directions, every other by its route;
none where neither port has a link. `dst` carries RING_BCAST in bit 14. -/
def ethSend (s : State) (cls svc dst : Nat) (payload : List Byte) : Option State :=
  if !portUp s false && !portUp s true then none
  else
    let s1 := ethCount s
    let n := s1.eth.rseq
    if svc = 1 then some (ethBoth s1 cls dst svc 64 n payload)
    else if bitOf dst 14 ∧ ringOf (dst % 2 ^ 14) = ringOf (ethAddr s1) then some (ethBoth s1 cls dst svc (nRing s1 - 1) n payload)
    else (routeOf s1 (dst % 2 ^ 14)).map (fun b => ethCopy s1 b cls dst svc 64 n false payload)

/-- A frame that hardware originates: dropped and counted where neither port has a link (R382). -/
def ethHardware (s : State) (cls svc dst : Nat) (payload : List Byte) : State :=
  match ethSend s cls svc dst payload with
  | some s1 => s1
  | none => bump s R.ETH_NO_ROUTE_CNT_COUNT

/-! ### Check-value units (R472 to R476) -/

/-- A unit's check value over bytes (R472). -/
def crcOver (s : State) (n : Nat) (bs : List Byte) : Nat :=
  let w := rd s (R.CRC_U_CFG_WIDTH n)
  crcOf w (rd s (R.CRC_U_POLY_POLY n) % 2 ^ w) (rd s (R.CRC_U_INIT_INIT n)) (flag s (R.CRC_U_CFG_REFIN n)) (flag s (R.CRC_U_CFG_REFOUT n))
    (rd s (R.CRC_U_XOROUT_XOROUT n)) bs

/-- The check bytes in the order of ORDER (R475). -/
def crcBytes (s : State) (n v : Nat) : List Byte :=
  let bs := leBytes (crcLen s n) v
  if flag s (R.CRC_U_CFG_ORDER n) then bs.reverse else bs

/-- Egress (R475): the payload with the check value of the unit bound to its stream. -/
def crcEgress (s : State) (svc dst : Nat) (payload : List Byte) : List Byte × State :=
  match crcUnit s svc dst 0 with
  | some n => (payload ++ crcBytes s n (crcOver s n payload), bump s (R.CRC_U_GOOD_CNT_COUNT n))
  | none => (payload, s)

/-- Ingress (R476): the payload as delivered, or none where the check fails. -/
def crcIngress (s : State) (svc src : Nat) (payload : List Byte) : Option (List Byte) × State :=
  match crcUnit s svc src 1 with
  | none => (some payload, s)
  | some n =>
    let c := crcLen s n
    let body := payload.take (payload.length - c)
    if payload.length < c + 4 ∨ payload.drop (payload.length - c) ≠ crcBytes s n (crcOver s n body) then
      (none, errRise (bump s (R.CRC_U_BAD_CNT_COUNT n)) ⟨R.CRC_ERR, n, 1⟩ n 0)
    else (some (if flag s (R.CRC_U_CFG_STRIP n) then body else payload), bump s (R.CRC_U_GOOD_CNT_COUNT n))

/-- Whether a service may be bound (R474). -/
def svcBindable (svc : Nat) : Bool :=
  (decide (0x11 ≤ svc) && decide (svc ≤ 0x1E)) || (decide (0x20 ≤ svc) && decide (svc ≤ 0x2F)) || (decide (0x31 ≤ svc) && decide (svc ≤ 0x3F))

/-- Whether another enabled unit serves a frame of the same stream in a direction that this unit serves (R474, R477). -/
def crcDup (s : State) (n : Nat) : Bool :=
  (List.range 16).any (fun m =>
    decide (m ≠ n) && bitIn s R.CRC_STATUS_EN m && decide (rd s (R.CRC_U_BIND_SVC m) = rd s (R.CRC_U_BIND_SVC n))
    && (decide (rd s (R.CRC_U_BIND_PEER m) = rd s (R.CRC_U_BIND_PEER n)) || decide (rd s (R.CRC_U_BIND_PEER m) = 0xFFFF)
        || decide (rd s (R.CRC_U_BIND_PEER n) = 0xFFFF))
    && decide (rd s (R.CRC_U_CFG_MODE m) &&& rd s (R.CRC_U_CFG_MODE n) ≠ 0))

/-- The 9 bytes "123456789" (R473). -/
def crcProbe : List Byte := [0x31, 0x32, 0x33, 0x34, 0x35, 0x36, 0x37, 0x38, 0x39]

/-- ENABLE and DISABLE on QP41 (R473, R477). -/
def crcEnable (e : Entry) (s : State) : State × EntrySt :=
  let n := e.arg0
  let w := rd s (R.CRC_U_CFG_WIDTH n)
  if bitIn s R.CRC_STATUS_EN n then okR s 0
  else if crcDup s n then failR s 0x40
  else if decide (w < 8) || decide (32 < w) || !svcBindable (rd s (R.CRC_U_BIND_SVC n)) || decide (rd s (R.CRC_U_CFG_MODE n) = 0) then failR s 0x41
  else okR (wr (putBit s R.CRC_STATUS_EN n true) (R.CRC_U_CHECK_CHECK n) (crcOver s n crcProbe)) 0
def crcDisable (e : Entry) (s : State) : State × EntrySt :=
  okR (wr (putBit s R.CRC_STATUS_EN e.arg0 false) (R.CRC_U_CHECK_CHECK e.arg0) 0) 0

/-! ### SEND (R396) -/

/-- The services of a class's queue pair (R379). -/
def svcOfQp (qp svc : Nat) : Bool :=
  match qp with
  | 33 => decide (0x10 ≤ svc) && decide (svc ≤ 0x1E)
  | 34 => decide (0x20 ≤ svc) && decide (svc ≤ 0x2F)
  | _ => decide (0x31 ≤ svc) && decide (svc ≤ 0x3F)

/-- SEND: RESULT is the frame's RSEQ. -/
def ethSendOp (qp : Nat) (e : Entry) (s : State) : State × EntrySt :=
  withBuf e s (fun bs =>
    let svc := bits e.arg0 23 16
    let dst := e.arg0 % 2 ^ 15
    if !svcOfQp qp svc then failR s 0x40
    else
      let c := crcEgress s svc (dst % 2 ^ 14) bs
      match ethSend (pepperWait c.2 4 (b2n ((routeOf c.2 (dst % 2 ^ 14)).getD false))) (qp - 32) svc dst c.1 with
      | some s1 => okR s1 s1.eth.rseq
      | none => failR s 0x41)

end Sys2Proof.Machine
end

