-- ==== Sys2Proof/Machine/StlCore.lean ====
section
/-! DEFINITION. What SAFE and STL share: the fields of the safety set (R324), the sessions and their parameters (R330, R345,
R347), the named sessions (R341, R342), and the building and sending of a safety PDU (R332 to R334, R343, R344). -/

namespace Sys2Proof.Machine

open Sys2Proof

/-! ### The safety set in SP's memory (R324) -/

/-- A field of the set: offset and bytes. -/
def setU (s : State) (ofs n : Nat) : Nat := fieldAt s.safe.set ofs n

/-- REQ, STL_SES and STL_BIT of an output; MODE of an input; a source's mask byte. -/
def soReq (s : State) (n : Nat) : Nat := setU s (0x50 + 8 * n) 1
def soSes (s : State) (n : Nat) : Nat := setU s (0x51 + 8 * n) 1
def soBit (s : State) (n : Nat) : Nat := setU s (0x52 + 8 * n) 1
def siMode (s : State) (i : Nat) : Nat := setU s (0x70 + 8 * i) 1

/-- The sessions that a set names, in rising order (R341): request sources, TRIP_NOTICE, RST_STL and STL_WATCH0 to 3. -/
def setNames (bs : List Byte) : List Nat :=
  let req := ((List.range 4).filter (fun n => decide (fieldAt bs (0x50 + 8 * n) 1 = 6))).map (fun n => fieldAt bs (0x51 + 8 * n) 1)
  let all := req ++ [fieldAt bs 0x3C 2, fieldAt bs 0x3E 2, fieldAt bs 0x9C 2, fieldAt bs 0x9E 2, fieldAt bs 0xA0 2, fieldAt bs 0xA2 2]
  if bs.isEmpty then [] else (List.range 256).filter (fun n => decide (n ∈ all))

/-- The sessions that the set in SP's memory names. -/
def namedSess (s : State) : List Nat := setNames s.safe.set

/-- Whether any safety output is on. -/
def anySoOn (s : State) : Bool := decide (rd s R.SAFE_STATUS_SO_ON ≠ 0)

/-! ### Sessions (R330, R331, R345, R347) -/

/-- What a session holds, and the state with it changed. -/
def stlAt (s : State) (n : Nat) : StlSess := s.stl.getD n StlSess.init
def stlMod (s : State) (n : Nat) (f : StlSess → StlSess) : State := { s with stl := modAt s.stl n f }

/-- A field of a session's entry in force. -/
def stlU (s : State) (n ofs w : Nat) : Nat := cfgU s 31 (n * 256 + 1) ofs w

/-- MEDIUM and its codes. -/
def stlMedium (s : State) (n : Nat) : Nat := stlU s n 0 1
def medRing : Nat := 1
def medRelay : Nat := 5
def isCanMed (m : Nat) : Bool := decide (2 ≤ m) && decide (m ≤ 4)

/-- The states of R331. -/
def stlClosed : Nat := 0
def stlOpening : Nat := 1
def stlRun : Nat := 2
def stlLost : Nat := 3
def stlSt (s : State) (n : Nat) : Nat := rd s (R.STL_S_STAT_STATE n)

/-- The state of a session with what STL.STATUS, LOST0 to 7 and RUN0 to 7 show of it (R349). -/
def stlSetSt (s : State) (n st : Nat) : State :=
  let was := b2n (decide (stlSt s n = stlRun))
  let s1 := wr s (R.STL_S_STAT_STATE n) st
  let s2 := putBit (putBit s1 (R.STL_LOST_LOST (n / 32)) (n % 32) (decide (st = stlLost))) (R.STL_RUN_RUN (n / 32)) (n % 32) (decide (st = stlRun))
  wr s2 R.STL_STATUS_N_RUN (rd s2 R.STL_STATUS_N_RUN + b2n (decide (st = stlRun)) - was)

/-- LOCAL_ID and PEER_ID: of the entry, and on the host relay from SYS.SERIAL (R345). -/
def stlLocal (s : State) (n : Nat) : Nat :=
  if stlMedium s n = medRelay then crc32c (leBytes 8 Config.serial.toNat) else stlU s n 4 4
def stlPeer (s : State) (n : Nat) : Nat :=
  if stlMedium s n = medRelay then crc32c (leBytes 8 Config.serial.toNat) ^^^ 0xFFFFFFFF else stlU s n 8 4

/-- TMODE PTP, and CYCLE_US (R345). -/
def stlPtp (s : State) (n : Nat) : Bool := decide (stlMedium s n ≠ medRelay) && decide (stlU s n 2 1 = 1)
def stlCycle (s : State) (n : Nat) : Nat := if stlMedium s n = medRelay then 100000 else stlU s n 0x10 4

/-- ECHO_MAX (R336). -/
def stlEchoMax (s : State) (n : Nat) : Nat := max 1 (stlU s n 0x18 4 / stlCycle s n)

/-- Plant time in µs, modulo 2^32 (R332). -/
def nowUs (s : State) : Nat := roundNat (ptNow s) 1000 % 2 ^ 32

/-- STL.NAMED_CHECK over the entries of the named sessions, with the NAMED bits (R342). -/
def namedCheck (s : State) : Nat := crc32c ((namedSess s).flatMap (fun n => cfgItem s 31 (n * 256 + 1)))

/-- The named sessions as the registers show them. -/
def namedShow (s : State) : State :=
  let ns := namedSess s
  let s1 := (List.range 256).foldl (fun s n => put s (R.STL_S_STAT_NAMED n) (decide (n ∈ ns))) s
  wr s1 R.STL_NAMED_CHECK_CHECK (namedCheck s)

/-- The same after a change of the set or of an entry: REC records a change of NAMED_CHECK (R342, R446). -/
def namedFollow (s : State) : State :=
  let old := rd s R.STL_NAMED_CHECK_CHECK
  let s1 := namedShow s
  let new := rd s1 R.STL_NAMED_CHECK_CHECK
  if new = old then s1 else record s1 27 0x5003 3 0 new old

/-! ### The safety PDU (R332, R333) -/

/-- Word 0 and word 1 of a CYCLIC frame from SAFE (R333). -/
def safeWords (s : State) : List Byte :=
  let w0 := rd s R.SAFE_STATUS_SO_ON + rd s R.SAFE_STATUS_SI_ON * 16 + b2n (flag s R.SAFE_STATUS_READY) * 256
    + b2n (flag s R.SAFE_STATUS_SAFE_STATE) * 512 + b2n (flag s R.SAFE_STATUS_INHIBIT) * 1024 + b2n (flag s R.SAFE_STATUS_FOG) * 2048
  let w1 := rd s R.SAFE_TRIP_LATCH_SRC + rd s R.SAFE_FIRST_SRC * 65536 + b2n (flag s R.SAFE_FIRST_VALID) * 1048576
  leBytes 4 w0 ++ leBytes 4 w1

/-- n free bytes: data that the host has never given (log 3). -/
def freshBytes : Nat → State → List Byte × State
  | 0, s => ([], s)
  | n + 1, s =>
    let f := fresh s
    let r := freshBytes n f.2
    (BitVec.ofNat 8 f.1 :: r.1, r.2)

/-- The DATA of a cyclic frame, and whether it is the host's (R333). -/
def cyclicData (s : State) (n : Nat) : List Byte × Bool × State :=
  let len := stlU s n 0x0E 2
  if stlU s n 3 1 = 1 ∧ stlMedium s n ≠ medRelay then
    let d := (stlAt s n).data
    if d.isEmpty then
      let r := freshBytes len s
      (r.1, true, r.2)
    else (padTo len d, true, s)
  else (padTo len (safeWords s), false, s)

/-- A safety PDU (R332). -/
def stlPdu (s : State) (n kind : Nat) (host : Bool) (d : List Byte) : List Byte :=
  let fl := b2n (flag s R.PTP_STATUS_ACQ) + 2 * b2n (decide (stlSt s n = stlOpening)) + 4 * b2n host
  let b := leBytes 4 (stlLocal s n) ++ leBytes 4 (stlAt s n).seq ++ leBytes 4 (nowUs s) ++ leBytes 4 (stlAt s n).ack ++ leBytes 1 kind
    ++ leBytes 1 fl ++ leBytes 2 d.length ++ d
  b ++ leBytes 4 (crc32c b)

/-! ### Sending (R334, R343, R344, R345) -/

/-- The DLC whose byte count first holds n bytes (R344). -/
def dlcFor (n : Nat) : Nat := ((List.range 16).find? (fun d => decide (n ≤ dlcBytes true d))).getD 15

/-- The item of a message object as STL sets it (R417). -/
def stlObjItem (dir flags dlc id : Nat) : List Byte :=
  leBytes 1 dir ++ leBytes 1 flags ++ leBytes 1 dlc ++ zeros 1 ++ leBytes 4 (id % 2 ^ 29) ++ leBytes 4 0x1FFFFFFF ++ zeros 4

/-- The transmit object of a session: FDF and BRS, the identifier's format from bit 31 of CAN_TX_ID. -/
def stlTxItem (s : State) (n dlc : Nat) : List Byte := stlObjItem 1 (6 + stlU s n 0x1C 4 / 2 ^ 31) dlc (stlU s n 0x1C 4)
/-- The receive object of a session: a full mask on CAN_RX_ID. -/
def stlRxItem (s : State) (n : Nat) : List Byte := stlObjItem 3 (6 + stlU s n 0x20 4 / 2 ^ 31) 8 (stlU s n 0x20 4)

/-- A PDU goes onto its session's medium: one Class 0 frame, one CAN FD frame padded with zeros, or the host relay. -/
def stlLaunch (s : State) (n : Nat) (pdu : List Byte) : State :=
  let m := stlMedium s n
  if m = medRing then ethHardware s 0 1 (stlU s n 0x0C 2) pdu
  else if isCanMed m then
    let c := m - 2
    let k := stlU s n 0x24 1
    let dlc := dlcFor pdu.length
    if canSt s c = canOff ∨ canU s c 0 1 = 1 then s
    else objLoad (cfgForce s (itemKey (38 + c) (0x100 + k)) (stlTxItem s n dlc)) c k (padTo (dlcBytes true dlc) pdu)
  else if m = medRelay then stlMod s n (fun x => { x with relay := x.relay ++ [pdu] })
  else s

/-- A frame of a session leaves: its SEQ and the state. Nothing leaves in CLOSED or LOST (R331). -/
def stlSend (s : State) (n kind : Nat) (host : Bool) (d : List Byte) : State :=
  if stlSt s n = stlClosed ∨ stlSt s n = stlLost then s
  else
    let pdu := stlPdu s n kind host d
    let s1 := stlMod s n (fun x => { x with seq := (x.seq + 1) % 2 ^ 32, sent := x.sent + 1 })
    stlLaunch s1 n pdu

/-- An event frame: only in RUN (R331). -/
def stlEvent (s : State) (n kind : Nat) (host : Bool) (d : List Byte) : State :=
  if stlSt s n = stlRun then stlSend s n kind host d else s

/-- A cyclic frame (R334). -/
def stlCyclic (s : State) (n : Nat) : State :=
  if stlSt s n = stlClosed ∨ stlSt s n = stlLost then s
  else
    let d := cyclicData s n
    stlSend d.2.2 n 1 d.2.1 d.1

end Sys2Proof.Machine
end

