-- ==== Sys2Proof/Machine/Safe.lean ====
section
/-! DEFINITION. SAFE and SP: the safety set and its commissioning (R324 to R326), trips (R307, R308), SP's evaluation (R309,
R310), the Fog line (R311), outputs, their checks and test pulses (R312 to R319), inputs (R320, R321), reset edges (R322,
R323), precharge (R315) and reports (R329). -/

namespace Sys2Proof.Machine

open Sys2Proof

/-! ### Reports (R329) -/

/-- The 32 bytes of a report. -/
def safeReportBytes (s : State) (kind src soMask info cell tile : Nat) (value : Option Int) (snum : Nat) : List Byte :=
  let b := leBytes 8 (ptNow s) ++ leBytes 1 kind ++ leBytes 1 src ++ leBytes 1 (soMask % 16) ++ leBytes 1 info ++ leBytes 2 cell
    ++ leBytes 1 tile ++ zeros 1 ++ sBytes 4 (value.getD (-2147483648)) ++ leBytes 4 snum ++ leBytes 4 (rd s R.SAFE_TRIP_CNT_COUNT)
  b ++ leBytes 4 (crc32c b)

/-- A report goes to QP30, or is counted lost, and to REC (R98, R446). -/
def safeReport (s : State) (kind src soMask info cell tile : Nat) (value : Option Int) (snum : Nat) : State :=
  let bs := safeReportBytes s kind src soMask info cell tile value snum
  let s1 := record s 26 (0x3000 + kind) 3 src (fieldAt bs 0x10 4) snum
  streamOr s1 30 bs (fun s => bump s R.SAFE_RPT_LOST_CNT_COUNT)

/-- A report that names no tile, cell or value. -/
def safeNote (s : State) (kind src soMask info : Nat) : State := safeReport s kind src soMask info 0xFFFF 0xFF none 0

/-! ### The set: range check, copies, validity (R324, R325) -/

/-- MEDIUM of a session in the stored session table. -/
def storedMedium (s : State) (n : Nat) : Nat :=
  fieldAt (mapGet itemDflt (cfgNewest s).items (itemKey 31 (n * 256 + 1))) 0 1

/-- The fields of a set that lie outside their ranges, by rising offset (R324). -/
def setBads (s : State) (bs : List Byte) : List Nat :=
  let u (o n : Nat) : Nat := fieldAt bs o n
  let si (o : Nat) : Int := sInt 16 (u o 2)
  let inn (x lo hi : Nat) : Bool := decide (lo ≤ x) && decide (x ≤ hi)
  let ses (x : Nat) : Bool := decide (x < 256) || decide (x = 0xFFFF)
  let req (n : Nat) : Nat := u (0x50 + 8 * n) 1
  let count (v : Nat) : Nat := ((List.range 4).filter (fun n => decide (req n = v))).length
  let used (i : Nat) : Bool := (List.range 4).any (fun n => decide (req n = 2 + i)) || decide (u 0x9A 1 = i + 1)
  let head : List (Nat × Bool) := [(0, decide (u 0 4 = 0x72205AFE)), (4, decide (u 4 2 = 1)),
    (6, inn (u 6 2) 256 4096 && decide (u 6 2 % 4 = 0) && decide (u 6 2 = bs.length)), (8, decide (u 8 1 = setNn s)),
    (9, decide (u 9 1 = b2n (setPair s))), (0xA, decide (u 0xA 2 = 0)), (0x10, inn (u 0x10 2) 25000 50000),
    (0x12, decide (5000 ≤ u 0x12 2) && decide (u 0x12 2 + 5000 ≤ u 0x10 2)), (0x14, inn (u 0x14 1) 10 100), (0x15, inn (u 0x15 1) 1 10),
    (0x16, inn (u 0x16 2) 2500 5000), (0x18, decide (500 ≤ u 0x18 2) && decide (u 0x18 2 + 500 ≤ u 0x16 2)),
    (0x1A, inn (u 0x1A 2) 10 65535), (0x1C, inn (u 0x1C 1) 1 100), (0x1D, decide (u 0x1D 1 = 0)), (0x1E, inn (u 0x1E 2) 10 1000)]
  let mid : List (Nat × Bool) := [(0x20, inn (u 0x20 4) 1000 2500000), (0x24, inn (u 0x24 4) 1000 2500000), (0x28, inn (u 0x28 2) 1 10000),
    (0x2A, inn (u 0x2A 2) 0 10000), (0x2C, inn (u 0x2C 4) 1000 500000), (0x30, decide (-5500 ≤ si 0x30) && decide (si 0x30 ≤ 15000)),
    (0x32, decide (-5500 ≤ si 0x32) && decide (si 0x32 ≤ 15000) && decide (si 0x30 < si 0x32)), (0x34, inn (u 0x34 1) 1 100),
    (0x35, decide (u 0x35 1 = 0)), (0x36, inn (u 0x36 2) 10 600), (0x38, decide (u 0x38 4 = 0) || inn (u 0x38 4) 10000 50000000),
    (0x3C, ses (u 0x3C 2)), (0x3E, ses (u 0x3E 2))]
  let masks : List (Nat × Bool) := (List.range 16).map (fun k => (0x40 + k, inn (u (0x40 + k) 1) 0 31
    && (!(decide (k = 8) || decide (k = 9) || decide (k = 15)) || decide (u (0x40 + k) 1 = 0x1F))
    && (decide (k ≠ 0) || decide (u 0x40 1 % 16 ≠ 0) || (List.range 4).all (fun n => decide (req n = 0)))))
  let outs : List (Nat × Bool) := (List.range 4).flatMap (fun n =>
    let o := 0x50 + 8 * n
    [(o, inn (req n) 0 8 && (decide (req n < 7) || decide (count 7 = 0) || (decide (count 7 = 1) && decide (count 8 = 1)))),
     (o + 1, if req n = 6 then decide (storedMedium s (u (o + 1) 1) ≠ 0) else decide (u (o + 1) 1 = 0)),
     (o + 2, if req n = 6 then inn (u (o + 2) 1) 0 31 else decide (u (o + 2) 1 = 0)), (o + 3, decide (u (o + 3) 1 = 0)),
     (o + 4, inn (u (o + 4) 2) 20 2500), (o + 6, inn (u (o + 6) 2) 0 10000)])
  let ins : List (Nat × Bool) := (List.range 4).flatMap (fun i =>
    let o := 0x70 + 8 * i
    [(o, inn (u o 1) 0 2 && (!used i || decide (u o 1 ≠ 0))), (o + 1, inn (u (o + 1) 1) 0 (1 - b2n (setPair s))),
     (o + 2, inn (u (o + 2) 2) 500 20000), (o + 4, inn (u (o + 4) 2) 10 2000), (o + 6, decide (u (o + 6) 2 = 0))])
  let tail : List (Nat × Bool) := [(0x90, inn (u 0x90 4) 1000 100000), (0x94, inn (u 0x94 2) 100 30000), (0x96, inn (u 0x96 2) 10 1000),
    (0x98, inn (u 0x98 2) 0 1000), (0x9A, inn (u 0x9A 1) 0 4), (0x9B, decide (u 0x9B 1 = 0)), (0x9C, ses (u 0x9C 2)), (0x9E, ses (u 0x9E 2)),
    (0xA0, ses (u 0xA0 2)), (0xA2, ses (u 0xA2 2)), (0xA4, ((bs.drop 0xA4).take 76).all (fun b => decide (b = 0)))]
  ((head ++ mid ++ masks ++ outs ++ ins ++ tail).filter (fun p => !p.2)).map Prod.fst

/-- The offset of the first failing field. -/
def setRange (s : State) (bs : List Byte) : Option Nat := (setBads s bs).head?

/-- CHECK of a set, and whether it is right. -/
def setCheckOf (bs : List Byte) : Nat := fieldAt bs (bs.length - 4) 4
def setCheckOk (bs : List Byte) : Bool := decide (4 ≤ bs.length) && decide (setCheckOf bs = crc32c (bs.take (bs.length - 4)))

/-- The confirmation record (R325). -/
def confBytes (s : State) (seq check oper : Nat) : List Byte :=
  let b := leBytes 4 seq ++ leBytes 4 check ++ leBytes 6 (otNow s) ++ zeros 2 ++ leBytes 8 (ptNow s) ++ leBytes 4 oper
  b ++ leBytes 4 (crc32c b)

/-- Whether a copy's set passes, and whether its record does and carries that CHECK. -/
def copySetOk (s : State) (c : CfgCopy) : Bool := c.ok && !c.safe.set.isEmpty && (setRange s c.safe.set).isNone && setCheckOk c.safe.set
def copyConfOk (c : CfgCopy) : Bool :=
  decide (c.safe.conf.length = 32) && decide (fieldAt c.safe.conf 0x1C 4 = crc32c (c.safe.conf.take 0x1C))
    && decide (fieldAt c.safe.conf 4 4 = setCheckOf c.safe.set)
def copyOk (s : State) (c : CfgCopy) : Bool := copySetOk s c && copyConfOk c && !c.safe.pend

/-- Whether the set is valid and confirmed (R325). -/
def setOk (s : State) : Bool := flag s R.SAFE_STATUS_SET_VALID && flag s R.SAFE_STATUS_SET_CONF

/-- SP reads both copies (R325): the set goes into SP's memory (the newer copy's if it is sound, else the other's), and SAFE shows
the outcome. -/
def safeReadSet (s : State) : State :=
  let a := s.nv.cfgA
  let b := s.nv.cfgB
  let n := cfgNewest s
  let o := if s.nv.useA then b else a
  let aOk := copyOk s a
  let bOk := copyOk s b
  let agree := aOk && bOk && decide (setCheckOf a.safe.set = setCheckOf b.safe.set) && decide (fieldAt a.safe.conf 0 4 = fieldAt b.safe.conf 0 4)
  let held := if copySetOk s n then n.safe else if copySetOk s o then o.safe else { set := [], pend := false, conf := [] }
  let bad := if n.ok && !n.safe.set.isEmpty then setRange s n.safe.set else none
  let pend := (n.ok && n.safe.pend) || (o.ok && o.safe.pend)
  let seq := if aOk then fieldAt a.safe.conf 0 4 else if bOk then fieldAt b.safe.conf 0 4 else 0
  let s1 := { s with safe := { s.safe with set := held.set } }
  let s2 := put (put (put (put (put s1 R.SAFE_SET_STAT_A_OK aOk) R.SAFE_SET_STAT_B_OK bOk) R.SAFE_SET_STAT_AGREE agree) R.SAFE_SET_STAT_SET_PENDING pend)
    R.SAFE_SET_STAT_RANGE_ERR bad.isSome
  let s3 := wr (wr (wr s2 R.SAFE_SET_STAT_ERR_OFS (bad.getD 0)) R.SAFE_SET_CHECK_CHECK (setCheckOf held.set)) R.SAFE_SET_SEQ_SEQ seq
  put (put s3 R.SAFE_STATUS_SET_VALID (agree && !pend)) R.SAFE_STATUS_SET_CONF (agree && !pend)

/-! ### Trip sources (R307) -/

/-- A source's mask: of the set, fixed for 8, 9 and 15 and while there is no set; FOG always has INH (R307, R308). -/
def tripMask (s : State) (c : Nat) : Nat :=
  if c = 8 ∨ c = 9 ∨ c = 15 ∨ s.safe.set.isEmpty then 0x1F
  else if c = 0 then setU s 0x40 1 ||| 16
  else setU s (0x40 + c) 1

/-- Whether a source is latched. -/
def latched (s : State) (c : Nat) : Bool := bitIn s R.SAFE_TRIP_LATCH_SRC c

/-- Whether any latched source acts on output n (n = 4: the PWM inhibit). -/
def latchActs (s : State) (n : Nat) : Bool := (List.range 16).any (fun c => latched s c && bitOf (tripMask s c) n)

/-- Codes that must repeat in a row: the first cell at N_CELL above or below, the first tile at N_DIODE. -/
def firstAt (l : List Nat) (n : Nat) : Option Nat := l.findIdx? (fun x => decide (n ≤ x) && decide (0 < n))

/-- The insulation condition of source 7 (R307, R310). -/
def isoBad (s : State) : Bool :=
  decide (setU s 0x38 4 ≠ 0) && commands s
    && ((s.safe.isoOwn && (match s.safe.isoAt with
          | some r => decide (r.1 < setU s 0x38 4)
          | none => false))
        || decide (setU s 0x36 2 * 1000 ≤ s.safe.isoMs))

/-- The insulation condition of R72 and R310. -/
def isoReady (s : State) : Bool :=
  if setU s 0x38 4 = 0 then true
  else if !commands s then s.safe.mirReady
  else if s.safe.isoOwn then !isoBad s && (match s.safe.isoAt with
    | some r => decide (setU s 0x38 4 < r.1)
    | none => false)
  else setPair s && s.safe.mirReady && !isoBad s

/-- The watched sessions (R341). -/
def stlWatched (s : State) : List Nat :=
  if s.safe.set.isEmpty then [] else ([0x9C, 0x9E, 0xA0, 0xA2].map (fun o => setU s o 2)).filter (fun n => decide (n < 256))

/-- An input's STAT byte, and the state with it replaced (R328). -/
def siStat (s : State) (i : Nat) : Nat := rd s (R.SAFE_SI_STAT_STAT i)
def siBit (s : State) (i b : Nat) : Bool := bitOf (siStat s i) b

/-- Whether both channels of an input are filtered off: logically, B inverted under ANTIV (R320, R321). -/
def siLogic (s : State) (i : Nat) : Bool × Bool := (siBit s i 0, siBit s i 1 != decide (siMode s i = 2))
def siBothOff (s : State) (i : Nat) : Bool := !(siLogic s i).1 && !(siLogic s i).2

/-- Whether the condition of a source is present now (R307, R328). The condition of SIn is an input fault that the next reset
could not clear (DEDUCED, log 21). -/
def tripPresent (s : State) (c : Nat) : Bool :=
  match c with
  | 0 => flag s R.SAFE_STATUS_FOG
  | 1 => (firstAt s.safe.ovN (setU s 0x15 1)).isSome
  | 2 => (firstAt s.safe.uvN (setU s 0x15 1)).isSome
  | 3 => decide (setU s 0x1C 1 ≤ s.safe.sumN) && decide (0 < s.safe.sumN)
  | 4 => decide (setU s 0x2A 2 ≠ 0) && decide (setU s 0x2A 2 < s.safe.hallMs)
  | 5 => decide (setU s 0x28 2 < s.safe.curMs)
  | 6 => (firstAt s.safe.diodeN (setU s 0x34 1)).isSome
  | 7 => isoBad s
  | 8 => (firstAt s.safe.unMs (setU s 0x1E 2 + 1)).isSome || decide (setU s 0x1E 2 < s.safe.noMs)
  | 9 => s.safe.readBad.isSome || decide (s.safe.cmpBad ≠ 0)
  | 14 => (stlWatched s).any (fun n => decide (stlSt s n = stlLost))
  | 15 => s.safe.coilLow || (flag s R.SAFE_SET_STAT_RAM_ERR && s.safe.set.isEmpty)
  | n => decide (10 ≤ n) && decide (n ≤ 13) && (siBit s (n - 10) 4 || siBit s (n - 10) 5) && !siBothOff s (n - 10)

/-- TRIP_ACTIVE; SP's conditions need a set. -/
def tripActive (s : State) : Nat :=
  maskOf (fun c => tripPresent s c && (!s.safe.set.isEmpty || decide (c = 0) || decide (10 ≤ c))) (List.range 16)

/-! ### Ready, safe state, permit and request (R72, R305, R312) -/

/-- The conditions of R72 but the Fog line. -/
def readyButFog (s : State) : Bool :=
  setOk s && flag s R.CHAIN_STATUS_NN_MATCH && s.safe.readOk && decide (25 ≤ s.safe.passed) && isoReady s && s.safe.fw
def readyNow (s : State) : Bool := readyButFog s && !flag s R.SAFE_STATUS_FOG

/-- The safe state (R305); in every power state in which the outputs are off (R63, R511). -/
def safeStateNow (s : State) : Bool :=
  !outputsMay s || latched s 8 || latched s 9 || latched s 15 || !setOk s || !s.safe.edge || s.safe.forced || !s.safe.fw

/-- The PWM inhibit (R305, R308). -/
def inhibitNow (s : State) : Bool := safeStateNow s || latchActs s 4

/-- Whether the unit follows its partner's Beacon (R319). -/
def follows (s : State) : Bool := decide (role s = roleStandby) || decide (role s = roleClaiming)

/-- PERMIT of an output (R312, R319, R363). A standby whose partner's Beacon shows the output on permits it: R319 and R352 say so, and R74's
'never drives its outputs from the standby role' is read as being of the outputs it would switch by itself (DESIGN CHOICE, log 32). -/
def permitNow (s : State) (n : Nat) : Bool :=
  setOk s && !safeStateNow s && !latchActs s n && s.safe.edge && !bitOf s.safe.withheld n
    && (commands s || decide (role s = roleFenced) || (follows s && bitOf s.safe.mirSo n))

/-- REQUEST of an output (R312); in a unit that follows, PRE and MAIN follow the Beacon (DEDUCED, log 21). -/
def requestNow (s : State) (n : Nat) : Bool :=
  match soReq s n with
  | 0 => false
  | 1 => true
  | 6 => decide (stlSt s (soSes s n) = stlRun) && bitOf (stlAt s (soSes s n)).word (soBit s n)
  | 7 => if follows s then bitOf s.safe.mirSo n else decide (s.safe.seq = 1) || decide (s.safe.seq = 2)
  | 8 => if follows s then bitOf s.safe.mirSo n else decide (s.safe.seq = 2) || decide (s.safe.seq = 3)
  | r => decide (r ≤ 5) && bitOf (rd s R.SAFE_STATUS_SI_ON) (r - 2)

/-- Whether output n is on, and its switches. -/
def soOn (s : State) (n : Nat) : Bool := bitIn s R.SAFE_STATUS_SO_ON n
def soHs (s : State) (n : Nat) : Bool := flag s (R.SAFE_SO_STAT_HS n)
def soLs (s : State) (n : Nat) : Bool := flag s (R.SAFE_SO_STAT_LS n)
def soDiag (s : State) (n : Nat) : Nat := rd s (R.SAFE_SO_DIAG_DIAG n)

/-- SO_STAT.STATE (R328): TEST is on with one switch off, FAULT is off with a finding. -/
def soState (s : State) (n : Nat) : Nat :=
  if soOn s n then (if soHs s n && soLs s n then 1 else 2) else if soDiag s n ≠ 0 then 3 else 0

/-- Both switches of an output go off; a test of it is abandoned (R313, R318). -/
def soOff (s : State) (n : Nat) : State :=
  let testing := match s.safe.test with
    | some (m, _) => decide (m = n)
    | none => false
  let s1 := put (put (putBit s R.SAFE_STATUS_SO_ON n false) (R.SAFE_SO_STAT_HS n) false) (R.SAFE_SO_STAT_LS n) false
  let s2 := { s1 with safe := { s1.safe with offOk := s1.safe.offOk.set n false, lowN := s1.safe.lowN.set n 0 } }
  if testing then safeNote (bump { s2 with safe := { s2.safe with test := none } } R.SAFE_TEST_ABORT_CNT_COUNT) 6 0xFF (1 <<< n) 0 else s2

/-- An output with what SO_STAT shows of it; one that conducts without PERMIT and REQUEST goes off (R313). -/
def soFollow (s : State) (n : Nat) : State :=
  let p := permitNow s n
  let q := requestNow s n
  let s1 := put (put s (R.SAFE_SO_STAT_PERMIT n) p) (R.SAFE_SO_STAT_REQ n) q
  let s2 := if (soHs s1 n || soLs s1 n || soOn s1 n) && !(p && q) then soOff s1 n else s1
  wr s2 (R.SAFE_SO_STAT_STATE n) (soState s2 n)

/-- The output with a REQ. -/
def soWith (s : State) (r : Nat) : Option Nat := (List.range 4).find? (fun n => decide (soReq s n = r))

/-- PERMIT of PRE and of MAIN, and the start request (R315). -/
def preMain (s : State) : Bool × Bool :=
  match soWith s 7, soWith s 8 with
  | some p, some m => (permitNow s p, permitNow s m)
  | _, _ => (false, false)
def startReq (s : State) : Bool :=
  let q := setU s 0x9A 1
  if q = 0 then s.safe.edgeReq else bitOf (rd s R.SAFE_STATUS_SI_ON) (q - 1)

/-- The precharge sequence ends when its start request or a PERMIT it needs is lost (R315). -/
def seqFollow (s : State) : State :=
  let pm := preMain s
  let lost := !pm.2 || (!pm.1 && decide (s.safe.seq < 3))
  let s1 := if lost && s.safe.seq ≠ 0 && !follows s then { s with safe := { s.safe with edgeReq := false } } else s
  if s.safe.seq ≠ 0 ∧ !follows s ∧ (lost || !startReq s) then { s1 with safe := { s1.safe with seq := 0 } } else s

/-- SAFE as it follows its conditions: the safe state with class S perturbation (R506), the inhibit (R33), PERMIT and REQUEST with the outputs, READY with its
reports. -/
def safeRefresh (s : State) : State :=
  let inh := inhibitNow s
  let rise := inh && !flag s R.SAFE_STATUS_INHIBIT
  let s1 := pepperFollow (put (put s R.SAFE_STATUS_SAFE_STATE (safeStateNow s)) R.SAFE_STATUS_INHIBIT inh)
  let s2 := put (put s1 R.SAFE_STATUS_RST_NEEDED (!s.safe.edge || decide (s.safe.withheld ≠ 0) || (List.range 4).any (latchActs s)))
    R.SAFE_STATUS_STANDBY (follows s)
  let s3 := if rise then pwmInhibit s2 else s2
  let s4 := seqFollow s3
  let s5 := (List.range 4).foldl soFollow s4
  let s6 := put (wr s5 R.SAFE_TRIP_ACTIVE_SRC (tripActive s5)) R.SAFE_STATUS_SEQ_RUN (decide (s5.safe.seq = 1) || decide (s5.safe.seq = 2))
  let was := flag s6 R.SAFE_STATUS_READY
  let now := readyNow s6
  let s7 := put s6 R.SAFE_STATUS_READY now
  if now && !was then safeNote s7 10 0xFF 0 0 else if was && !now then safeNote s7 11 0xFF 0 0 else s7

/-! ### Reset edges (R322, R323) -/

/-- An edge is refused. -/
def edgeRefuse (s : State) (src res high : Nat) : State :=
  let s1 := wr (wr (wr s R.SAFE_RST_LAST_SRC src) R.SAFE_RST_LAST_RES res) R.SAFE_RST_HIGH_MS (min 65535 high)
  safeNote (bump s1 R.SAFE_RST_CNT_REFUSED) 3 0xFF 0 res

/-- Steps 3 and 4 of R323: the latch, FIRST and SO_DIAG clear, with the faults of inputs whose channels are both off. -/
def edgeAccept (s : State) (src : Nat) : State :=
  let s1 := wr (wr (wr s R.SAFE_TRIP_LATCH_SRC 0) R.SAFE_FIRST_SRC 0) R.SAFE_FIRST_VALID 0
  let s2 := wr (wr s1 R.SAFE_FIRST_TILE 0xFF) R.SAFE_FIRST_CELL 0x3FF
  let s3 := (List.range 4).foldl (fun s n => wr s (R.SAFE_SO_DIAG_DIAG n) 0) s2
  let s4 := (List.range 4).foldl (fun s i =>
    if siBothOff s i then
      let keep := bits (s.safe.tpFail) 7 0 &&& (255 - (3 <<< (2 * i)))
      { wr s (R.SAFE_SI_STAT_STAT i) (setBit (setBit (siStat s i) 4 false) 5 false) with safe := { s.safe with tpFail := keep } }
    else s) s3
  let s5 := { s4 with safe := { s4.safe with edge := true, withheld := 0, edgeReq := true, rearm := none } }
  let s6 := bump (wr (wr s5 R.SAFE_RST_LAST_SRC src) R.SAFE_RST_LAST_RES 1) R.SAFE_RST_CNT_ACCEPTED
  safeRefresh (safeNote s6 2 0xFF 0 1)

/-- REARM to every tile that the chain reaches, from the unit that commands it (R130, R323). -/
def rearmAll (s : State) : State :=
  if commands s && flag s R.CHAIN_STATUS_RUN then
    { s with tiles := (s.tiles.zipIdx).map (fun t => if t.1.up && reached s t.2 then tileRearm t.1 else t.1) }
  else s

/-- Whether a latched source other than FOG still has its condition (R323). -/
def causePresent (s : State) : Bool := (List.range 16).any (fun c => decide (c ≠ 0) && latched s c && bitOf (tripActive s) c)

/-- A fall under R323: the conditions, then re-arming; with the Fog line de-asserted the edge is accepted at once. -/
def edgeJudge (s : State) (src high : Nat) : State :=
  let s0 := wr s R.SAFE_RST_HIGH_MS (min 65535 high)
  if causePresent s then edgeRefuse s0 src 5 high
  else if !readyButFog s then edgeRefuse s0 src 4 high
  else
    let s1 := rearmAll s0
    if flag s1 R.SAFE_STATUS_FOG then { s1 with safe := { s1.safe with rearm := some src } } else edgeAccept s1 src

/-- A fall with the high time measured in ticks of 10 µs (R322); one that is evaluated discards the other source's edge in progress
(R323). -/
def edgeFall (s : State) (src ticks : Nat) : State :=
  let ms := roundNat ticks 100
  if ticks < 10000 then edgeRefuse s src 2 ms
  else if 200000 < ticks then edgeRefuse s src 3 2000
  else
    let s1 := if src = 1 then { s with safe := { s.safe with stlHigh := none } } else put s R.SAFE_RST_HIGH_RUN false
    edgeJudge s1 src ms

/-! ### Trips (R308) -/

/-- The TRIP frame on the session TRIP_NOTICE (R308, R341). -/
def tripNotice (s : State) (bs : List Byte) : State :=
  let n := setU s 0x3C 2
  if s.safe.set.isEmpty ∨ 256 ≤ n then s else stlEvent s n 4 false bs

/-- A trip ends the hold window (R38, R327, R435): SP's old firmware resumes, and the handover is bound for rollback. -/
def windowTrip (s : State) : State :=
  let s1 := put s R.SAFE_STATUS_HOLD_WIN false
  match s1.upd.winFrom with
  | none => s1
  | some t =>
    let s2 := wr (put s1 R.UPD_STATUS_HOLD_WIN false) R.UPD_HOLD_LAST_US_US (roundNat (s1.power.ticks - t) 250)
    { s2 with upd := { s2.upd with winFrom := none, winTrip := true } }

/-- A source trips (R308): it latches, FIRST and FIRST_T take the first since the last accepted reset, a re-arming edge is
refused, a hold window ends, and the trip is recorded, reported and noticed. A source that is latched does not trip anew. -/
def safeTrip (s : State) (c tile cell : Nat) (value : Option Int) (snum : Nat) : State :=
  if latched s c || !blocksUp s then s
  else
    let s1 := bump (putBit s R.SAFE_TRIP_LATCH_SRC c true) R.SAFE_TRIP_CNT_COUNT
    let s2 :=
      if flag s R.SAFE_FIRST_VALID then s1
      else
        let t := ptNow s
        let f := wr (wr (wr (put s1 R.SAFE_FIRST_VALID true) R.SAFE_FIRST_SRC c) R.SAFE_FIRST_TILE tile) R.SAFE_FIRST_CELL cell
        wr (wr f R.SAFE_FIRST_T_LO_TIME t) R.SAFE_FIRST_T_HI_TIME (t / 2 ^ 32)
    let s3 := windowTrip s2
    let s4 := match s3.safe.rearm with
      | some src => edgeRefuse { s3 with safe := { s3.safe with rearm := none } } src 7 (rd s3 R.SAFE_RST_HIGH_MS)
      | none => s3
    let m := tripMask s4 c
    let cl := if cell = 0x3FF then 0xFFFF else cell
    let bs := safeReportBytes s4 1 c m 0 cl tile value snum
    let s5 := safeReport s4 1 c m 0 cl tile value snum
    safeRefresh (tripNotice s5 bs)

/-- A trip that names no tile, cell or value. -/
def safeTripPlain (s : State) (c : Nat) : State := safeTrip s c 0xFF 0x3FF none 0

/-- A finding on an output (R316, R317): its SO_DIAG bits and the report. -/
def soFind (s : State) (n bitsFound : Nat) : State :=
  let d := soDiag s n ||| bitsFound
  safeNote (wr s (R.SAFE_SO_DIAG_DIAG n) d) 4 15 (1 <<< n) d

/-- A finding on an output trips DIAG. -/
def soFault (s : State) (n bitsFound : Nat) : State := safeRefresh (safeTripPlain (soFind s n bitsFound) 15)

/-! ### SP's evaluation (R309, R310) -/

/-- What SP makes of a cell: a usable value in 10 µV, skipped, or unusable (R159, R309). -/
inductive CellUse where
  | value (v : Nat) | skip | unusable
  deriving DecidableEq, Repr

/-- A cell of a sweep. -/
def cellUse (w : Sweep) (c : Nat) : CellUse :=
  match w.slots.getD (c / 24) none with
  | none => .unusable
  | some bs =>
    let ts := fieldAt bs 74 2
    let f := fieldAt bs (3 * (c % 24)) 3
    if bitOf ts 0 || bitOf ts 8 || bitOf f 20 || bitOf f 23 then .unusable
    else if bitOf f 22 then .skip
    else .value (f % 2 ^ 20)

/-- A run of values in a row: one more where the value lies beyond, none where it does not; unchanged where there is none. -/
def runNext (n : Nat) (u : CellUse) (beyond : Nat → Bool) : Nat := match u with
  | .value v => if beyond v then n + 1 else 0
  | _ => n

/-- SUM_CELLS in mV and the number of cells in it: every cell whose field carries no NOVAL (R165). -/
def sumOf (nn : Nat) (w : Sweep) : Int × Nat :=
  let fs := (List.range (24 * nn)).filterMap (fun c => match w.slots.getD (c / 24) none with
    | none => none
    | some bs => let f := fieldAt bs (3 * (c % 24)) 3
                 if bitOf (fieldAt bs 74 2) 0 || bitOf f 20 then none else some (f % 2 ^ 20))
  (roundDiv (fs.foldl (· + ·) 0 : Nat) 100, fs.length)

/-- A current or voltage of a sweep: none where it carries the no-value code. -/
def sweepVal (code : Nat) : Option Int := if code = 0x80000000 then none else some (sInt 32 code)

/-- Whether the diode of a good slot lies outside T_DIODE_MIN to T_DIODE_MAX; 0x8000 does. -/
def diodeOut (s : State) (bs : List Byte) : Bool :=
  let d := sInt 16 (fieldAt bs 72 2)
  decide (d = -32768) || decide (d < sInt 16 (setU s 0x30 2)) || decide (sInt 16 (setU s 0x32 2) < d)

/-- One sweep evaluated (R307, R309). -/
def evalSweep (s : State) (w : Sweep) : State :=
  let nn := setU s 8 1
  let f := s.safe
  let uses := (List.range (24 * nn)).map (cellUse w)
  let use (c : Nat) : CellUse := uses.getD c .skip
  let tileBits (b : Nat) : Nat := maskOf (fun k => match w.slots.getD k none with
    | some bs => bitOf (fieldAt bs 74 2) b
    | none => false) (List.range nn)
  let sum := sumOf nn w
  let sumN := match sweepVal w.vStr with
    | some v => if sum.2 ≠ 24 * nn then f.sumN else if 10 * setU s 0x1A 2 < (sum.1 - v).natAbs then f.sumN + 1 else 0
    | none => f.sumN
  let ov (v : Nat) : Bool := decide (100 * setU s 0x16 2 < v)
  let uv (v : Nat) : Bool := decide (v < 100 * setU s 0x18 2)
  let unMs := (f.unMs.zipIdx).map (fun x => match use x.2 with
    | .unusable => max 1 x.1
    | .value _ => 0
    | .skip => x.1)
  let diodeN := (f.diodeN.zipIdx).map (fun x => match w.slots.getD x.2 none with
    | some bs => if x.2 < nn then (if diodeOut s bs then x.1 + 1 else 0) else 0
    | none => x.1)
  let s1 := { s with safe := { f with
    ovN := (f.ovN.zipIdx).map (fun x => runNext x.1 (use x.2) ov), uvN := (f.uvN.zipIdx).map (fun x => runNext x.1 (use x.2) uv),
    diodeN := diodeN, sumN := sumN, unMs := unMs, cmpBad := tileBits 10, lastSweep := some w } }
  let unTiles := maskOf (fun k => decide (k < nn) && ((unMs.drop (24 * k)).take 24).any (fun x => decide (0 < x))) (List.range 24)
  let s2 := wr s1 R.SAFE_UNVER_MASK unTiles
  let clean := unTiles = 0 ∧ [1, 2, 3, 4, 5, 6, 8, 9].all (fun c => !tripPresent s2 c)
  { s2 with safe := { s2.safe with passed := if clean then min 25 (s2.safe.passed + 1) else 0 } }

/-- For how many ms and one a condition has stood, ms further. -/
def stoodFor (present : Bool) (x ms : Nat) : Nat := if !present then 0 else if x = 0 then 1 else x + ms

/-- The conditions that SP times, ms further (R307, R309, R310). -/
def evalTimers (s : State) (ms : Nat) : State :=
  let f := s.safe
  let sh := f.lastSweep.bind (fun w => sweepVal w.iShunt)
  let ha := f.lastSweep.bind (fun w => sweepVal w.iHall)
  let vs := f.lastSweep.bind (fun w => sweepVal w.vStr)
  let hall := match sh, ha with
    | some a, some b => decide (setU s 0x2C 4 < (a - b).natAbs)
    | _, _ => false
  let cur := match sh with
    | some a => decide ((setU s 0x20 4 : Int) < a) || decide (a < -(setU s 0x24 4 : Int))
    | none => false
  let no := f.lastSweep.isSome && (sh.isNone || vs.isNone)
  let new := commands s && s.hvm.isoValid.isSome && decide (s.hvm.isoValid ≠ f.isoAt)
  { s with safe := { f with
    hallMs := stoodFor hall f.hallMs ms, curMs := stoodFor cur f.curMs ms, noMs := stoodFor no f.noMs ms,
    unMs := f.unMs.map (fun x => stoodFor (decide (0 < x)) x ms),
    isoMs := if !commands s || new then 0 else f.isoMs + ms,
    isoAt := if new then s.hvm.isoValid else f.isoAt,
    isoOwn := commands s && (new || f.isoOwn) } }

/-- The lowest position of a mask. -/
def lowestBit (m : Nat) : Option Nat := (List.range 24).find? (bitOf m)

/-- The trip of a source whose condition stands, with what it names (R307, R311, R329). -/
def judgeTrip (s : State) (c : Nat) : State :=
  if latched s c || !tripPresent s c then s
  else
    let f := s.safe
    let snum := (f.lastSweep.map Sweep.snum).getD 0
    let at1 (i : Option Nat) (v : Nat → Option Int) : State := match i with
      | some k => safeTrip s c (k / 24) k (v k) snum
      | none => safeTrip s c 0xFF 0x3FF none snum
    let cellMv (k : Nat) : Option Int := match f.lastSweep with
      | some w => match cellUse w k with
        | .value v => some (roundDiv v 100)
        | _ => none
      | none => none
    let val (g : Sweep → Nat) : Option Int := f.lastSweep.bind (fun w => sweepVal (g w))
    match c with
    | 1 => at1 (firstAt f.ovN (setU s 0x15 1)) cellMv
    | 2 => at1 (firstAt f.uvN (setU s 0x15 1)) cellMv
    | 3 => safeTrip s c 0xFF 0x3FF (f.lastSweep.map (fun w => (sumOf (setU s 8 1) w).1 - sInt 32 w.vStr)) snum
    | 4 => safeTrip s c 0xFF 0x3FF (f.lastSweep.map (fun w => sInt 32 w.iShunt - sInt 32 w.iHall)) snum
    | 5 => safeTrip s c 0xFF 0x3FF (val Sweep.iShunt) snum
    | 6 => match firstAt f.diodeN (setU s 0x34 1) with
      | some k => safeTrip s c k 0x3FF (f.lastSweep.bind (fun w => (w.slots.getD k none).map (fun bs => sInt 16 (fieldAt bs 72 2)))) snum
      | none => s
    | 7 => safeTrip s c 0xFF 0x3FF (if f.isoOwn then f.isoAt.map (fun r => (r.1 : Int)) else none) 0
    | 8 => at1 (firstAt f.unMs (setU s 0x1E 2 + 1)) (fun _ => none)
    | 9 => match f.readBad, lowestBit f.cmpBad with
      | some p, some q => if p ≤ q then safeTrip s c p 0x3FF none 0 else safeTrip s c q 0x3FF none snum
      | some p, none => safeTrip s c p 0x3FF none 0
      | none, q => safeTrip s c (q.getD 0xFF) 0x3FF none snum
    | _ => s

/-- Every source that SP judges, by rising code (R308). -/
def judgeAll (s : State) : State :=
  if s.safe.set.isEmpty ∨ !s.safe.fw then s else [1, 2, 3, 4, 5, 6, 7, 8, 9].foldl judgeTrip s

/-- SP_EVALUATION: HVM item 1 comes into force where it waits (R179), the sweeps delivered, in order, then what is timed, ms
further (R309). Suspended during the hold window, which keeps the sweeps (R327). -/
def spEvaluate (s0 : State) (ms : Nat) : State :=
  if flag s0 R.SAFE_STATUS_HOLD_WIN || !s0.safe.fw || !blocksUp s0 then s0
  else
    let s := cfgBoundary s0 (itemKey 13 1)
    if s.safe.set.isEmpty then safeRefresh { s with safe := { s.safe with queue := [] } }
    else
      let s1 := (s.safe.queue).foldl evalSweep { s with safe := { s.safe with queue := [] } }
      safeRefresh (judgeAll (evalTimers s1 ms))

/-! ### Tile thresholds (R22) -/

/-- The thresholds and filter of the set. -/
def setThr (s : State) : Nat × Nat × Nat := (setU s 0x10 2, setU s 0x12 2, setU s 0x14 1)

/-- SP writes the set's thresholds and filter into every tile that has a position. -/
def thrWrite (s : State) : State :=
  if s.safe.set.isEmpty || !commands s then s
  else
    let p := setThr s
    { s with tiles := (s.tiles.zipIdx).map (fun t => if t.1.numbered && reached s t.2 then tileSafeWr p.1 p.2.1 p.2.2 t.1 else t.1) }

/-- The read-back (R22): tiles that match are armed by the unit that commands the chain; the lowest position that differs is
named. -/
def thrCheck (s : State) : State :=
  if s.safe.set.isEmpty || !s.safe.fw then { s with safe := { s.safe with readOk := false, readBad := none } }
  else
    let p := setThr s
    let back (k : Nat) : Nat × Nat × Nat := let t := tileAt s k; (t.ovThr, t.uvThr, t.filt)
    let match1 (q : Nat) : Option Bool := (tileByPos s q).map (fun k => decide (back k = p))
    let nn := setU s 8 1
    let bad := (List.range nn).find? (fun q => decide (match1 q = some false))
    let all := (List.range nn).all (fun q => decide (match1 q = some true))
    let rb := (List.range 24).map (fun k => if (tileAt s k).numbered && reached s k then some (back k) else s.chain.readBack.getD k none)
    let tiles := (s.tiles.zipIdx).map (fun t =>
      if t.1.numbered && reached s t.2 && decide (back t.2 = p) && commands s then tileArmSafe t.1 else t.1)
    { s with tiles := tiles, chain := { s.chain with readBack := rb }, safe := { s.safe with readOk := all, readBad := bad } }

/-! ### The Fog line (R32, R48, R311) -/

/-- The tile that a Fog trip names: the lowest position of a tile in TRIPPED, with its cell (R311). -/
def fogTile (s : State) : Nat × Nat :=
  match (List.range 24).find? (fun p => match tileByPos s p with
      | some k => decide ((tileAt s k).st = .tripped)
      | none => false) with
  | some p => match tileByPos s p with
    | some k => (p, 24 * p + (tileAt s k).tripCell)
    | none => (0xFF, 0x3FF)
  | none => (0xFF, 0x3FF)

/-- Whether the Fog loop is closed (R48): every tile on the ring has closed its switch, and nothing is open outside the tiles. -/
def fogClosed (s : State) : Bool := !s.safe.loopOpen && s.tiles.all (fun t => !t.present || t.fog)

/-- The loop current is gone; `open'` where the loop is open outside the tiles: J7's external segment, a cut cable or an unmated
connector (R48). -/
def fogAssert (s0 : State) (open' : Bool) : State :=
  let s := { s0 with safe := { s0.safe with loopOpen := s0.safe.loopOpen || open' } }
  if !blocksUp s || flag s R.SAFE_STATUS_FOG then s
  else
    let w := fogTile s
    let s1 := put s R.SAFE_STATUS_FOG true
    if latched s 0 then safeRefresh s1 else safeTrip s1 0 w.1 w.2 none 0

/-- The loop current is back once the whole loop is closed. -/
def fogDeassert (s : State) : State :=
  if blocksUp s && flag s R.SAFE_STATUS_FOG && fogClosed s then safeRefresh (put s R.SAFE_STATUS_FOG false) else s

/-! ### Safety inputs (R320, R321) -/

/-- An input's STAT byte with SI_ON following its ON bit. -/
def siPut (s : State) (i v : Nat) : State :=
  let s1 := wr s (R.SAFE_SI_STAT_STAT i) v
  putBit s1 R.SAFE_STATUS_SI_ON i (bitOf v 2)

/-- An input fault: it latches SIn, the input is off (R321). -/
def siFault (s : State) (i bit : Nat) : State :=
  let v := setBit (setBit (setBit (setBit (siStat s i) bit true) 2 false) 3 false) 6 false
  let s1 := safeNote (siPut s i v) 5 (10 + i) (tripMask s (10 + i)) v
  safeRefresh (safeTripPlain s1 (10 + i))

/-- A channel's filtered state changes (R320, R321). -/
def siChange (s : State) (i : Nat) (chB on : Bool) : State :=
  let v0 := setBit (siStat s i) (b2n chB) on
  let s0 := wr s (R.SAFE_SI_STAT_STAT i) v0
  if siMode s i = 0 then s0
  else if bitOf v0 4 || bitOf v0 5 then safeRefresh s0
  else
    let l := siLogic s0 i
    if bitOf v0 2 then
      if l.1 && l.2 then s0
      else safeRefresh (safeTripPlain (siPut s0 i (setBit (setBit (setBit v0 2 false) 6 true) 3 true)) (10 + i))
    else if bitOf v0 6 then
      (if !l.1 && !l.2 then siPut s0 i (setBit (setBit v0 6 false) 3 false) else s0)
    else if l.1 && l.2 then safeRefresh (siPut s0 i (setBit (setBit v0 2 true) 3 false))
    else siPut s0 i (setBit v0 3 (l.1 || l.2))

/-- T_DISC_MS has passed without the other channel (R321). -/
def siTimeout (s : State) (i : Nat) : State := if siBit s i 3 then siFault s i 4 else s

/-- The reads 250 µs into a pulse of TPA or TPB, one bit per channel (2i for a, 2i + 1 for b) (R320). -/
def siPulse (s : State) (tpb : Bool) (reads : Nat) : State :=
  (List.range 4).foldl (fun s i =>
    let b := 2 * i + b2n tpb
    if siMode s i = 0 || decide (setU s (0x71 + 8 * i) 1 = 0) then s
    else if !siBit s i (b2n tpb) then { s with safe := { s.safe with tpFail := setBit s.safe.tpFail b false } }
    else
      let again := bitOf s.safe.tpFail b && bitOf reads b
      let s1 := { s with safe := { s.safe with tpFail := setBit s.safe.tpFail b (bitOf reads b) } }
      if again && !siBit s i 5 then siFault s1 i 5 else s1) s

/-! ### Outputs (R313, R316, R317) -/

/-- The low-side switch goes on (R313). -/
def soLowOn (s : State) (n : Nat) : State :=
  if decide (n < 4) && permitNow s n && requestNow s n && s.safe.offOk.getD n false && !soHs s n && !soLs s n && blocksUp s then
    safeRefresh (put s (R.SAFE_SO_STAT_LS n) true)
  else s

/-- The high-side switch goes on, 1 ms later. -/
def soHighOn (s : State) (n : Nat) : State :=
  if decide (n < 4) && permitNow s n && requestNow s n && soLs s n && !soHs s n && !soOn s n && blocksUp s then
    safeRefresh (putBit (put s (R.SAFE_SO_STAT_HS n) true) R.SAFE_STATUS_SO_ON n true)
  else s

/-- SAFE.SO_I: an output's current (R328). -/
def soCurrent (s : State) (n ma : Nat) : State :=
  let v := min 65535 ma
  match n with
  | 0 => wr s R.SAFE_SO_I01_MA0 v
  | 1 => wr s R.SAFE_SO_I01_MA1 v
  | 2 => wr s R.SAFE_SO_I23_MA0 v
  | _ => wr s R.SAFE_SO_I23_MA1 v

/-- The check of an output every 10 ms (R316): pins in mV, current in mA. -/
def soCheck (coilMv : Int) (s : State) (p : SoPins × Nat) : State :=
  let n := p.2
  let s1 := soCurrent s n p.1.ma
  if soReq s n = 0 then s1
  else if soOn s n then
    let low := if p.1.ma < setU s (0x54 + 8 * n) 2 then s.safe.lowN.getD n 0 + 1 else 0
    let s2 := { s1 with safe := { s1.safe with lowN := s1.safe.lowN.set n low } }
    if 10 < low ∧ !bitOf (soDiag s2 n) 4 then soFault s2 n 16 else s2
  else if soHs s n || soLs s n || (setPair s && bitOf s.safe.mirSo n) then s1
  else
    let hi := decide (coilMv - 2000 ≤ p.1.hiMv) || decide (coilMv - 2000 ≤ p.1.loMv)
    let lo := decide (p.1.hiMv ≤ 2000) || decide (p.1.loMv ≤ 2000)
    let s2 := { s1 with safe := { s1.safe with offOk := s1.safe.offOk.set n (!hi && !lo) } }
    let f := 32 * b2n hi + 64 * b2n lo
    if f = 0 ∨ soDiag s n &&& f = f then s2 else soFault s2 n f

/-- The checks of every output. -/
def soChecks (s : State) (pins : List SoPins) (coilMv : Int) : State := ((pins.take 4).zipIdx).foldl (soCheck coilMv) s

/-- A test pulse begins at slot j (R317), unless the slot is skipped; `young` when the output has been on for less than 100 ms. -/
def testSlot (s : State) (j : Nat) (young : Bool) : State :=
  let n := j % 4
  if !blocksUp s || decide (8 ≤ j) || !soOn s n || !soHs s n || !soLs s n then s
  else if young || flag s R.SAFE_STATUS_HOLD_WIN || s.safe.test.isSome
      || ((decide (soReq s n = 7) || decide (soReq s n = 8)) && flag s R.SAFE_STATUS_SEQ_RUN) then put s R.SAFE_STATUS_TEST_SUSP true
  else
    let s1 := put { s with safe := { s.safe with test := some (n, decide (4 ≤ j)) } } R.SAFE_STATUS_TEST_SUSP false
    let s2 := put s1 (if 4 ≤ j then R.SAFE_SO_STAT_LS n else R.SAFE_SO_STAT_HS n) false
    wr s2 (R.SAFE_SO_STAT_STATE n) (soState s2 n)

/-- The judgement 150 µs into a pulse (R317): the switch's own current, and on a single module its pin. -/
def testEval (s : State) (ma : Nat) (pinMv coilMv : Int) : State :=
  match s.safe.test with
  | none => s
  | some (n, low) =>
    let pin := setPair s || (if low then decide (coilMv - 2000 ≤ pinMv) else decide (pinMv ≤ 2000))
    if ma ≤ 5 ∧ pin then bump s R.SAFE_TEST_CNT_COUNT
    else soFault { s with safe := { s.safe with test := none } } n (if low then 2 else 1)

/-- The pulse ends (R317): the switch conducts again within 50 µs or not; `late` when the pulse reached 300 µs. -/
def testEnd (s : State) (conducts late : Bool) : State :=
  match s.safe.test with
  | none => s
  | some (n, low) =>
    let s1 := { s with safe := { s.safe with test := none } }
    if late then soFault s1 n (if low then 2 else 1)
    else if !conducts then soFault s1 n 4
    else safeRefresh (put s1 (if low then R.SAFE_SO_STAT_LS n else R.SAFE_SO_STAT_HS n) true)

/-- A switch has conducted for 60 s without a passing pulse (R317). -/
def testOverdue (s : State) (n : Nat) : State := if n < 4 ∧ soOn s n ∧ !bitOf (soDiag s n) 7 then soFault s n 128 else s

/-! ### Precharge (R315) -/

/-- The sequence starts. -/
def preStart (s : State) : State :=
  let pm := preMain s
  if s.safe.seq = 0 ∧ pm.1 ∧ pm.2 ∧ startReq s ∧ !follows s ∧ s.safe.fw then safeRefresh { s with safe := { s.safe with seq := 1 } } else s

/-- Whether the output with a REQ is on. -/
def soReqOn (s : State) (r : Nat) : Bool := (soWith s r).any (soOn s)

/-- |V_STR − V_LINK| has stayed at or below PRE_DV_MV for PRE_SETTLE_MS, with PRE on. -/
def preSettled (s : State) : State :=
  if s.safe.seq = 1 ∧ soReqOn s 7 ∧ (s.hvm.vStr - s.hvm.vLink).natAbs ≤ setU s 0x90 4 then safeRefresh { s with safe := { s.safe with seq := 2 } } else s

/-- It has not within PRE_TMAX_MS of PRE switching on. -/
def preTimeout (s : State) : State :=
  if s.safe.seq = 1 ∧ soReqOn s 7 then safeRefresh (safeTripPlain { s with safe := { s.safe with seq := 0, edgeReq := false } } 15) else s

/-- PRE_OVL_MS after MAIN. -/
def preOverlap (s : State) : State := if s.safe.seq = 2 ∧ soReqOn s 8 then safeRefresh { s with safe := { s.safe with seq := 3 } } else s

/-! ### The set in SP's memory (R306) -/

/-- The bytes of SP's memory as `flips` disturb them. -/
def flipBytes (bs : List Byte) (flips : List (Nat × Nat)) : List Byte :=
  flips.foldl (fun b f => b.modify f.1 (fun x => x ^^^ BitVec.ofNat 8 f.2)) bs

/-- The check every 10 s: a CRC failure trips DIAG, and SP reads both copies again (R306, R325). SP's checks pause in the hold window
(R327). -/
def setCrc (s : State) (flips : List (Nat × Nat)) : State :=
  if s.safe.set.isEmpty || !s.safe.fw || !blocksUp s || flag s R.SAFE_STATUS_HOLD_WIN then s
  else
    let bs := flipBytes s.safe.set flips
    if setCheckOk bs then s
    else
      let s1 := safeTripPlain (put s R.SAFE_SET_STAT_RAM_ERR true) 15
      let s2 := namedFollow (safeReadSet s1)
      safeRefresh (if setOk s2 then s2 else safeNote s2 9 0xFF 0 0)

/-! ### Commissioning (R326, R345) -/

/-- A COMMISSION frame from SP: OP, OFFSET 0, and words. -/
def commReply (s : State) (n op : Nat) (ws : List Nat) : State :=
  stlEvent s n 5 false (leBytes 4 op ++ (ws.map (leBytes 4)).flatten)

/-- RESULT, and CHECK. -/
def commResult (s : State) (n r : Nat) : State := commReply s n 6 [r]
def commCheck (s : State) (n : Nat) : State :=
  commReply s n 3 [rd s R.SAFE_SET_CHECK_CHECK, rd s R.STL_NAMED_CHECK_CHECK, (regGet s R.SAFE_SET_STAT).toNat]

/-- Whether a session is the host relay in RUN, through which commissioning runs. -/
def commOpen (s : State) (n : Nat) : Bool := decide (n < 256) && decide (stlMedium s n = medRelay) && decide (stlSt s n = stlRun) && s.safe.fw

/-- The loaded bytes discarded. -/
def commDrop (s : State) : State := { s with safe := { s.safe with load := [], loadNext := 0 } }

/-- LOAD: chunks in rising OFFSET order, from 0. -/
def commLoad (s : State) (n ofs : Nat) (data : List Byte) : State :=
  if !commOpen s n then s
  else if !flag s R.SAFE_STATUS_SAFE_STATE then commResult s n 1
  else if (ofs ≠ 0 ∧ ofs ≠ s.safe.loadNext) ∨ 4096 < ofs + data.length then commResult (commDrop s) n 4
  else
    let b := if ofs = 0 then data else s.safe.load ++ data
    commResult { s with safe := { s.safe with load := b, loadNext := b.length } } n 0

/-- A change of the set or its record in both copies, one after the other (R325). -/
def safeStore (s : State) (f : SafeCopy → SafeCopy) : State :=
  let g (c : CfgCopy) : CfgCopy := { c with safe := f c.safe }
  cfgStore (cfgStore s g) g

/-- LOAD_END: step 1 of R326; the outputs wait for a new reset edge (step 4). -/
def commLoadEnd (s : State) (n : Nat) : State :=
  if !commOpen s n then s
  else if !flag s R.SAFE_STATUS_SAFE_STATE || !storTakes s then commResult s n 1
  else if s.safe.load.isEmpty then commResult s n 4
  else match setRange s s.safe.load with
    | some o => commResult (commDrop (wr (put s R.SAFE_SET_STAT_RANGE_ERR true) R.SAFE_SET_STAT_ERR_OFS o)) n 2
    | none =>
      if !setCheckOk s.safe.load then commResult (commDrop s) n 3
      else
        let b := s.safe.load
        let s1 := safeReadSet (safeStore s (fun c => { c with set := b, pend := true }))
        let s2 := namedFollow (commDrop { s1 with safe := { s1.safe with repair := false, edge := false } })
        let s3 := safeRefresh (thrCheck (thrWrite s2))
        commCheck (safeNote s3 7 0xFF 0 0) n

/-- The largest SET_SEQ of a sound record in either copy (R325). -/
def setSeqMax (s : State) : Nat :=
  let q (c : CfgCopy) : Nat := if c.ok ∧ c.safe.conf.length = 32 ∧ fieldAt c.safe.conf 0x1C 4 = crc32c (c.safe.conf.take 0x1C) then fieldAt c.safe.conf 0 4 else 0
  max (q s.nv.cfgA) (q s.nv.cfgB)

/-- CONFIRM: step 3 of R326, of a pending set or of a repair; the outputs wait for a new reset edge (step 4). -/
def commConfirm (s : State) (n value oper : Nat) : State :=
  if !commOpen s n then s
  else if !(flag s R.SAFE_SET_STAT_SET_PENDING || s.safe.repair) || s.safe.set.isEmpty then commResult s n 4
  else if !flag s R.SAFE_STATUS_SAFE_STATE || !storTakes s then commResult s n 1
  else if value ≠ rd s R.SAFE_SET_CHECK_CHECK then commResult s n 3
  else
    let conf := confBytes s ((setSeqMax s + 1) % 2 ^ 32) (rd s R.SAFE_SET_CHECK_CHECK) oper
    let b := s.safe.set
    let s1 := safeReadSet (safeStore s (fun _ => { set := b, pend := false, conf := conf }))
    let s2 := safeRefresh (namedFollow { s1 with safe := { s1.safe with repair := false, edge := false } })
    commResult (safeNote s2 8 0xFF 0 0) n 0

/-- REPAIR: steps 2 to 4 of R326 with the set of the one good copy; its confirmation follows at once where it is given. -/
def commRepair (s : State) (n : Nat) (confirmed : Option Nat) (oper : Nat) : State :=
  if !commOpen s n then s
  else
    let aOk := copyOk s s.nv.cfgA
    let bOk := copyOk s s.nv.cfgB
    if aOk == bOk then commResult s n 4
    else
      let b := if aOk then s.nv.cfgA.safe.set else s.nv.cfgB.safe.set
      let s1 := wr { s with safe := { s.safe with set := b, repair := true } } R.SAFE_SET_CHECK_CHECK (setCheckOf b)
      let s2 := commCheck (safeRefresh (namedFollow s1)) n
      match confirmed with
      | some v => commConfirm s2 n v oper
      | none => s2

/-! ### Start and the pair's part -/

/-- Step 2 of R71: the safety firmware runs (or does not, R73); the Fog loop source is on. -/
def safeBoot (s : State) (fw : Bool) : State :=
  safeRefresh { s with safe := { SafeSt.init with fw := fw, coilLow := s.safe.coilLow, mirSo := s.safe.mirSo, mirReady := s.safe.mirReady,
                                                  mirAcc := s.safe.mirAcc } }

/-- Step 4 of R71: the set is read and checked. -/
def safeSetRead (s : State) : State :=
  if !s.safe.fw then s
  else
    let s1 := namedShow (safeReadSet s)
    safeRefresh (if setOk s1 then s1 else safeNote s1 9 0xFF 0 0)

/-- Step 7 of R71: thresholds written, read back, comparators armed; the Fog line is de-asserted where every switch is closed. -/
def safeArm (s : State) : State := safeRefresh (fogDeassert (thrCheck (thrWrite s)))

/-- The unit takes the role that commands (R310, R315): the age of its insulation result begins, and the sequence stands where the
mirrored outputs show it. -/
def safeActive (s : State) : State :=
  let on (r : Nat) : Bool := match soWith s r with
    | some n => bitOf s.safe.mirSo n
    | none => false
  let q := if on 7 && on 8 then 2 else if on 7 then 1 else if on 8 then 3 else 0
  safeRefresh { s with safe := { s.safe with isoMs := 0, isoOwn := false, isoAt := s.hvm.isoValid, seq := q, edgeReq := decide (q ≠ 0) } }

/-- An accepted Beacon of the partner for SAFE (R310, R319, R323): its outputs and READY; a standby accepts the active unit's
accepted edge by steps 1, 3 and 4 on its own state. Step 2 is not its own; where its Fog line is asserted all the same, it refuses
the edge as step 2 does (DESIGN CHOICE, log 21). -/
def safeBeacon (s : State) (so acc : Nat) (ready active : Bool) : State :=
  let newEdge := follows s && active && (match s.safe.mirAcc with
    | some a => decide (a ≠ acc)
    | none => false)
  let s1 := { s with safe := { s.safe with mirSo := so, mirReady := ready, mirAcc := if active then some acc else s.safe.mirAcc } }
  if !newEdge then safeRefresh s1
  else if causePresent s1 then safeRefresh (edgeRefuse s1 0 5 0)
  else if !readyButFog s1 then safeRefresh (edgeRefuse s1 0 4 0)
  else if flag s1 R.SAFE_STATUS_FOG then safeRefresh (edgeRefuse s1 0 6 0)
  else edgeAccept s1 0

/-! ### Rows -/

/-- SAFE_READY: SAFE reports ready once every condition holds (R72). -/
def execSafeReady (s : State) : Host.Outcome State Fault Refusal := .next (if blocksUp s then safeRefresh s else s)
/-- FOG_ASSERT. -/
def execFogAssert (loopOpen : Bool) (s : State) : Host.Outcome State Fault Refusal := .next (fogAssert s loopOpen)
/-- FOG_DEASSERT: the loop is whole outside the tiles, and de-asserts where every switch is closed. -/
def execFogDeassert (s : State) : Host.Outcome State Fault Refusal :=
  .next (fogDeassert { s with safe := { s.safe with loopOpen := false } })
/-- SP_EVALUATION. -/
def execSpEvaluation (s : State) : Host.Outcome State Fault Refusal := .next (spEvaluate s 1)
/-- SET_CRC_CHECK. -/
def execSetCrcCheck (flips : List (Nat × Nat)) (s : State) : Host.Outcome State Fault Refusal := .next (setCrc s flips)
/-- SI_CHANNEL_CHANGE. -/
def execSiChannelChange (n : Nat) (chB on : Bool) (s : State) : Host.Outcome State Fault Refusal :=
  .next (if n < 4 ∧ blocksUp s then siChange s n chB on else s)
/-- DISCREPANCY_TIMEOUT. -/
def execDiscrepancyTimeout (n : Nat) (s : State) : Host.Outcome State Fault Refusal :=
  .next (if n < 4 ∧ blocksUp s then siTimeout s n else s)
/-- INPUT_TEST_PULSE. -/
def execInputTestPulse (tpb : Bool) (reads : Nat) (s : State) : Host.Outcome State Fault Refusal :=
  .next (if blocksUp s then siPulse s tpb reads else s)
/-- OUTPUT_SWITCH_ON. -/
def execOutputSwitchOn (n : Nat) (s : State) : Host.Outcome State Fault Refusal := .next (soLowOn s n)
/-- HIGH_SIDE_ON. -/
def execHighSideOn (n : Nat) (s : State) : Host.Outcome State Fault Refusal := .next (soHighOn s n)
/-- OUTPUT_SWITCH_OFF. -/
def execOutputSwitchOff (n : Nat) (s : State) : Host.Outcome State Fault Refusal :=
  .next (if n < 4 ∧ !(permitNow s n && requestNow s n) then safeRefresh (soFollow s n) else s)
/-- OFF_STATE_CHECK. -/
def execOffStateCheck (pins : List SoPins) (coilMv : Int) (s : State) : Host.Outcome State Fault Refusal :=
  .next (if blocksUp s then soChecks s pins coilMv else s)
/-- OVERCURR. -/
def execOvercurr (n : Nat) (s : State) : Host.Outcome State Fault Refusal :=
  .next (if n < 4 ∧ (soHs s n || soLs s n) then soFault s n 8 else s)
/-- TEST_PULSE_SLOT. -/
def execTestPulseSlot (j : Nat) (young : Bool) (s : State) : Host.Outcome State Fault Refusal := .next (testSlot s j young)
/-- TEST_PULSE_EVALUATE. -/
def execTestPulseEvaluate (ma : Nat) (pinMv coilMv : Int) (s : State) : Host.Outcome State Fault Refusal := .next (testEval s ma pinMv coilMv)
/-- TEST_PULSE_END. -/
def execTestPulseEnd (conducts late : Bool) (s : State) : Host.Outcome State Fault Refusal := .next (testEnd s conducts late)
/-- TEST_OVERDUE. -/
def execTestOverdue (n : Nat) (s : State) : Host.Outcome State Fault Refusal := .next (testOverdue s n)

/-- RST_IN_RISE: RST_IN rises after it has been low (R322); a RST_IN that is high from start-up makes no rise. -/
def execRstInRise (s : State) : Host.Outcome State Fault Refusal :=
  .next (if !blocksUp s || flag s R.SAFE_RST_LEVEL then s
    else put (put s R.SAFE_RST_LEVEL true) R.SAFE_RST_HIGH_RUN true)

/-- RST_IN_FALL, with the high time measured in ticks of 10 µs. -/
def execRstInFall (ticks : Nat) (s : State) : Host.Outcome State Fault Refusal :=
  .next (if !blocksUp s then s
    else
      let s1 := put (put s R.SAFE_RST_LEVEL false) R.SAFE_RST_HIGH_RUN false
      if flag s R.SAFE_RST_HIGH_RUN then edgeFall s1 1 ticks else s1)

/-- RESET_HIGH_DISCARD: a high of RST_IN or of the STL command has lasted 2 s. -/
def execResetHighDiscard (stl : Bool) (s : State) : Host.Outcome State Fault Refusal :=
  .next (if stl then (if s.safe.stlHigh.isSome then edgeRefuse { s with safe := { s.safe with stlHigh := none } } 2 3 2000 else s)
    else (if flag s R.SAFE_RST_HIGH_RUN then edgeRefuse (put s R.SAFE_RST_HIGH_RUN false) 1 3 2000 else s))

/-- REARM_COMPLETE. -/
def execRearmComplete (s : State) : Host.Outcome State Fault Refusal :=
  let s1 := fogDeassert s
  .next (match s1.safe.rearm with
    | some src => if flag s1 R.SAFE_STATUS_FOG then s1 else edgeAccept s1 src
    | none => s1)

/-- REARM_TIMEOUT. -/
def execRearmTimeout (s : State) : Host.Outcome State Fault Refusal :=
  .next (match s.safe.rearm with
    | some src => edgeRefuse { s with safe := { s.safe with rearm := none } } src 6 (rd s R.SAFE_RST_HIGH_MS)
    | none => s)

/-- PRECHARGE_START. -/
def execPrechargeStart (s : State) : Host.Outcome State Fault Refusal := .next (preStart s)
/-- PRECHARGE_SETTLED. -/
def execPrechargeSettled (s : State) : Host.Outcome State Fault Refusal := .next (preSettled s)
/-- PRECHARGE_TIMEOUT. -/
def execPrechargeTimeout (s : State) : Host.Outcome State Fault Refusal := .next (preTimeout s)
/-- PRECHARGE_OVERLAP_END. -/
def execPrechargeOverlapEnd (s : State) : Host.Outcome State Fault Refusal := .next (preOverlap s)
/-- START_REQUEST_OFF. -/
def execStartRequestOff (s : State) : Host.Outcome State Fault Refusal :=
  .next (if s.safe.seq ≠ 0 ∧ !startReq s then safeRefresh s else s)

/-- LOAD. -/
def execLoad (sess ofs : Nat) (data : List Byte) (s : State) : Host.Outcome State Fault Refusal := .next (commLoad s sess ofs data)
/-- LOAD_END. -/
def execLoadEnd (sess : Nat) (s : State) : Host.Outcome State Fault Refusal := .next (commLoadEnd s sess)
/-- CONFIRM, with the operator identity of the management session. -/
def execConfirm (sess value oper : Nat) (s : State) : Host.Outcome State Fault Refusal := .next (commConfirm s sess value oper)
/-- REPAIR. -/
def execRepair (sess : Nat) (confirmed : Option Nat) (oper : Nat) (s : State) : Host.Outcome State Fault Refusal :=
  .next (commRepair s sess confirmed oper)

end Sys2Proof.Machine
end

