-- ==== Sys2Proof/Machine/Stl.lean ====
section
/-! DEFINITION. STL: receiving (R335 to R338), the loss verdict (R339, R340), opening and closing (R331, R342, R417), the host relay
(R345), QP31 (R346); and the CAN rows whose frames STL may take (R417). -/

namespace Sys2Proof.Machine

open Sys2Proof

/-! ### Loss (R339, R340) -/

/-- What a loss means for SAFE: the request of the session is gone, and a watched session trips STL; bytes being loaded through it
are discarded. -/
def stlLossActs (s : State) (n : Nat) (trip : Bool) : State :=
  let s1 := stlMod s n (fun x => { x with word := 0, errs := [] })
  let s2 := if stlMedium s n = medRelay then commDrop s1 else s1
  let s3 := if trip && decide (n ∈ stlWatched s2) && s2.safe.fw then safeTripPlain s2 14 else s2
  safeRefresh s3

/-- The loss verdict. -/
def stlVerdict (s : State) (n : Nat) : State :=
  if stlSt s n = stlRun ∨ stlSt s n = stlOpening then
    let s1 := bump (stlSetSt s n stlLost) (R.STL_S_STAT_LOST n)
    stlLossActs (record s1 27 0x5002 3 n (rd s1 (R.STL_S_STAT_LOST n)) 0) n true
  else s

/-- A frame has failed step 3 or 5 (R339): with more than ERR_MAX such frames within 1 s (250,000,000 ticks of the PTP clock) a
session in RUN reaches its verdict. -/
def stlErr (s : State) (n : Nat) : State :=
  let now := s.power.ticks
  let errs := ((stlAt s n).errs ++ [now]).filter (fun t => decide (now < t + 250000000))
  let s1 := stlMod s n (fun x => { x with errs := errs })
  if stlSt s n = stlRun ∧ stlU s n 0x27 1 < errs.length then stlVerdict s1 n else s1

/-! ### Receiving (R335 to R338) -/

/-- The session that takes a PDU (steps 1 and 2): of those with its CONN_ID that are not CLOSED, one on the right medium and from the
right address, else the first. -/
def stlFind (s : State) (medium src : Nat) (pdu : List Byte) : Option (Nat × Bool) :=
  let id := fieldAt pdu 0 4
  let ok (n : Nat) : Bool := decide (stlMedium s n = medium) && (decide (medium ≠ medRing) || decide (stlU s n 0x0C 2 = src))
  let cands := (List.range 256).filter (fun n => decide (stlSt s n ≠ stlClosed) && decide (stlPeer s n = id))
  match cands.find? ok with
  | some n => some (n, true)
  | none => cands.head?.map (fun n => (n, false))

/-- Step 3: CHECK, found from LEN, and LEN within its limit. -/
def stlCheck (medium : Nat) (pdu : List Byte) : Bool :=
  let len := fieldAt pdu 0x12 2
  decide (len % 4 = 0) && decide (len ≤ (if isCanMed medium then 32 else 256)) && decide (24 + len ≤ pdu.length)
    && decide (fieldAt pdu (0x14 + len) 4 = crc32c (pdu.take (0x14 + len)))

/-- The fields of a PDU. -/
def pduSeq (pdu : List Byte) : Nat := fieldAt pdu 4 4
def pduAck (pdu : List Byte) : Nat := fieldAt pdu 0x0C 4
def pduKind (pdu : List Byte) : Nat := fieldAt pdu 0x10 1
def pduFlag (pdu : List Byte) (b : Nat) : Bool := bitOf (fieldAt pdu 0x11 1) b
def pduData (pdu : List Byte) : List Byte := (pdu.drop 0x14).take (fieldAt pdu 0x12 2)

/-- Whether the PTP mode applies (R336), and whether the age passes. -/
def stlPtpMode (s : State) (n : Nat) (pdu : List Byte) : Bool := stlPtp s n && flag s R.PTP_STATUS_ACQ && pduFlag pdu 0
def stlAgeOk (s : State) (n : Nat) (pdu : List Byte) : Bool :=
  let age := sInt 32 ((nowUs s + 2 ^ 32 - fieldAt pdu 8 4) % 2 ^ 32)
  decide (-100 ≤ age) && decide (age ≤ stlU s n 0x18 4)

/-- Step 4 in RUN (R336). -/
def stlTimeOk (s : State) (n : Nat) (pdu : List Byte) : Bool :=
  if stlPtpMode s n pdu then stlAgeOk s n pdu
  else decide (((stlAt s n).seq + 2 ^ 32 - 1 + 2 ^ 32 - pduAck pdu) % 2 ^ 32 ≤ stlEchoMax s n)

/-- A session enters OPENING (R331): the SEQs from its next one on count as sent since. -/
def stlOpenState (s : State) (n : Nat) : State :=
  let s1 := stlMod s n (fun x => { x with openSeq := x.seq, sent := 0, word := 0, errs := [] })
  stlSetSt s1 n stlOpening

/-- A frame's SEQ becomes the session's ACK_SEQ. -/
def stlSeen (s : State) (n : Nat) (pdu : List Byte) : State := stlMod s n (fun x => { x with ack := pduSeq pdu })

/-- A frame accepted: the last accepted SEQ, ACK_SEQ, and what SESS_READ returns. -/
def stlTake (s : State) (n : Nat) (pdu : List Byte) : State :=
  let whole := pdu.take (24 + fieldAt pdu 0x12 2)
  wr (stlMod s n (fun x => { x with ack := pduSeq pdu, lastPdu := whole, lastUs := nowUs s })) (R.STL_S_RXSEQ_SEQ n) (pduSeq pdu)

/-- A RESTART frame in OPENING (R338). -/
def stlOpening1 (s : State) (n : Nat) (pdu : List Byte) : State :=
  if !pduFlag pdu 1 then stlErr (bump s (R.STL_S_ERR_SEQ_ERR n)) n
  else if stlPtpMode s n pdu && !stlAgeOk s n pdu then bump s (R.STL_S_CNT_DELAY n)
  else
    let x := stlAt s n
    let s1 := stlSeen s n pdu
    if (pduAck pdu + 2 ^ 32 - x.openSeq) % 2 ^ 32 < x.sent then safeRefresh (stlSetSt (stlTake s1 n pdu) n stlRun) else s1

/-- The operator identity of the management session that holds the COMMISSION right (R345, R462). -/
def commOper (s : State) : Option Nat :=
  s.idk.sess.findSome? (fun m => m.bind (fun m => if bitOf m.rights 4 then some m.oper else none))

/-- A COMMISSION frame to SP (R345). -/
def commFrame (s : State) (n : Nat) (d : List Byte) : State :=
  let oper := (commOper s).getD 0
  match fieldAt d 0 1 with
  | 1 => commLoad s n (fieldAt d 2 2) (d.drop 4)
  | 2 => commLoadEnd s n
  | 4 => commConfirm s n (fieldAt d 4 4) oper
  | 5 => commRepair s n none oper
  | _ => s

/-- RESET_RISE and RESET_FALL accepted on RST_STL are the edges of R322; on any other session they are dropped (R341). -/
def stlReset (s : State) (n : Nat) (rise : Bool) : State :=
  if s.safe.set.isEmpty ∨ setU s 0x3E 2 ≠ n then s
  else if rise then { s with safe := { s.safe with stlHigh := some (s.safe.stlHigh.getD s.power.ticks) } }
  else match s.safe.stlHigh with
    | some t => edgeFall { s with safe := { s.safe with stlHigh := none } } 2 ((s.power.ticks - t) / 2500)
    | none => s

/-- What an accepted frame of a KIND does in RUN. -/
def stlAct (s : State) (n : Nat) (pdu : List Byte) : State :=
  match pduKind pdu with
  | 1 => safeRefresh (stlMod s n (fun x => { x with word := if pduFlag pdu 2 then 0 else fieldAt (pduData pdu) 0 4 }))
  | 2 => stlReset s n true
  | 3 => stlReset s n false
  | 5 => if stlMedium s n = medRelay then commFrame s n (pduData pdu) else s
  | _ => s

/-- A frame in RUN past step 3 (R336, R337). On Rinpacon a second copy with δ = 0 counts in DUP and raises no error; elsewhere it is a
frame that failed step 5. A RESTART frame that passes every check is accepted, and the session re-enters OPENING. -/
def stlRunning (s : State) (n : Nat) (pdu : List Byte) : State :=
  let s0 := put s (R.STL_S_STAT_FALLBACK n) (stlPtp s n && !stlPtpMode s n pdu)
  let d := (pduSeq pdu + 2 ^ 32 - rd s0 (R.STL_S_RXSEQ_SEQ n)) % 2 ^ 32
  if !stlTimeOk s0 n pdu then bump s0 (R.STL_S_CNT_DELAY n)
  else if d = 0 ∧ stlMedium s0 n = medRing then bump s0 (R.STL_S_CNT_DUP n)
  else if d = 0 ∨ 2 ^ 31 < d then stlErr (bump s0 (R.STL_S_CNT_DUP n)) n
  else if stlU s0 n 0x26 1 < d then stlErr (bump s0 (R.STL_S_ERR_SEQ_ERR n)) n
  else
    let s1 := stlTake (bumpBy s0 (R.STL_S_CNT_GAP n) (d - 1)) n pdu
    if pduFlag pdu 1 then stlLossActs (stlOpenState s1 n) n true else stlAct s1 n pdu

/-- A received PDU (R335): medium, the sender's address on Rinpacon, and the bytes; none reaches STL while SAFE's crossings are on the
two-flop path (R485). -/
def stlReceive (s : State) (medium src : Nat) (pdu : List Byte) : State :=
  if !blocksUp s || !flag s R.STL_STATUS_RUN || !crossOk s 10 then s
  else match stlFind s medium src pdu with
    | none => bump s R.STL_MASQ_CNT_COUNT
    | some (n, false) => bump s (R.STL_S_STAT_MASQ n)
    | some (n, true) =>
      if !stlCheck medium pdu then
        stlErr (bump s (R.STL_S_ERR_CRC_ERR n)) n
      else if stlSt s n = stlRun then stlRunning s n pdu
      else if stlSt s n = stlOpening then stlOpening1 s n pdu
      else if pduFlag pdu 1 && decide (stlU s n 0x28 1 = 1) then safeRefresh (stlSeen (stlOpenState s n) n pdu)
      else s

/-! ### Opening and closing (R331, R342, R417) -/

/-- Whether another open session holds a CAN object of this one. -/
def stlObjBusy (s : State) (n : Nat) : Bool :=
  let m := stlMedium s n
  isCanMed m && (objStl s (m - 2) (stlU s n 0x24 1) || objStl s (m - 2) (stlU s n 0x25 1) || decide (stlU s n 0x24 1 = stlU s n 0x25 1))

/-- A session's two objects pass to STL, which configures them, or return to DIR 0 (R417). -/
def stlObjs (s : State) (n : Nat) (take : Bool) : State :=
  let m := stlMedium s n
  if !isCanMed m then s
  else
    let c := m - 2
    let one (s : State) (k : Nat) (item : List Byte) : State :=
      let s1 := if objPend s c k then (objCancel s c k).2 else s
      let s2 := putBit s1 (R.CAN_STL_OWN_OWN c (k / 32)) (k % 32) take
      objMod (cfgForce s2 (itemKey (38 + c) (0x100 + k)) (if take then item else itemDflt (itemKey (38 + c) 0x100))) c k
        (fun o => { o with data := [], attempts := 0, next := none })
    one (one s (stlU s n 0x24 1) (stlTxItem s n 8)) (stlU s n 0x25 1) (stlRxItem s n)

/-- A CLOSED session opens: SEQ starts from a random value (R334). -/
def stlOpen (s : State) (n : Nat) : State :=
  let d := drawRandom s
  let s1 := stlMod d.2 n (fun _ => { StlSess.init with seq := d.1 % 2 ^ 32, data := (stlAt s n).data })
  stlOpenState (stlObjs s1 n true) n

/-- A session closes. -/
def stlClose (s : State) (n : Nat) : State :=
  let s1 := stlObjs (stlSetSt s n stlClosed) n false
  let s2 := put s1 (R.STL_S_STAT_FALLBACK n) false
  let s3 := finishEntry (stlMod s2 n (fun x => { x with word := 0, relay := [] })) 31 (fun e => Entry.awaits 0x43 e && decide (e.arg0 = n)) 9 0 0
  safeRefresh (if stlMedium s n = medRelay then commDrop s3 else s3)

/-- Start-up, and the start after a SAFETY-scope reset (R331): STL runs and every session marked OPEN opens. -/
def stlStart (s : State) : State :=
  let s1 := put { s with stl := List.replicate 256 StlSess.init } R.STL_STATUS_RUN true
  (List.range 256).foldl (fun s n =>
    if stlU s n 1 1 = 1 ∧ stlMedium s n ≠ 0 ∧ stlSt s n = stlClosed ∧ !flag s R.IDK_STATUS_RNG_FAIL ∧ !stlObjBusy s n then stlOpen s n else s) s1

/-! ### QP31 (R346) -/

/-- ENABLE: ARG0 is the session. -/
def stlEnable (e : Entry) (s : State) : State × EntrySt :=
  let n := e.arg0
  if stlSt s n ≠ stlClosed then (if anySoOn s && decide (n ∈ namedSess s) then failR s 0x41 else okR s 0)
  else if flag s R.IDK_STATUS_RNG_FAIL || !flag s R.STL_STATUS_RUN then failR s 0x06
  else if anySoOn s && decide (n ∈ namedSess s) then failR s 0x41
  else if stlMedium s n = 0 then failR s 0x42
  else if stlObjBusy s n then failR s 0x43
  else okR (stlOpen s n) 0

/-- DISABLE. -/
def stlDisable (e : Entry) (s : State) : State × EntrySt :=
  let n := e.arg0
  if anySoOn s && decide (n ∈ namedSess s) then failR s 0x41
  else if stlSt s n = stlClosed then okR s 0
  else okR (stlClose s n) 0

/-- SET_DATA. -/
def stlSetData (e : Entry) (s : State) : State × EntrySt :=
  let n := e.arg0
  withBuf e s (fun d =>
    if stlU s n 3 1 ≠ 1 ∨ stlMedium s n = 0 ∨ stlMedium s n = medRelay then failR s 0x42
    else okR (stlMod s n (fun x => { x with data := d })) 0)

/-- RESET_CMD: a reset frame with HOST_SRC; event frames leave only in RUN (R331). -/
def stlResetCmd (e : Entry) (s : State) : State × EntrySt :=
  let n := e.arg0
  if stlSt s n ≠ stlRun then failR s 0x06
  else if stlMedium s n = 0 ∨ stlMedium s n = medRelay then failR s 0x42
  else okR (stlSend s n (2 + e.arg1) true []) (stlAt s n).seq

/-- Whether host relay is possible on a session: not CLOSED, and a management session with the COMMISSION right is open (R345). -/
def relayUp (s : State) (n : Nat) : Bool := decide (stlSt s n ≠ stlClosed) && (commOper s).isSome

/-- Every RELAY_TX that waits takes the next frame SP has sent on its session. -/
def relayServe : Nat → State → State
  | 0, s => s
  | k + 1, s =>
    let ready (e : Entry) : Bool := Entry.awaits 0x43 e && !(stlAt s e.arg0).relay.isEmpty
    match (qpAt s 31).entries.find? ready with
    | none => s
    | some e =>
      let pdu := (stlAt s e.arg0).relay.headD []
      let s1 := stlMod (memWrite s e.addr pdu) e.arg0 (fun x => { x with relay := x.relay.drop 1 })
      relayServe k (finishEntry s1 31 ready 0 pdu.length 0)

/-- RELAY_RX. -/
def stlRelayRx (e : Entry) (s : State) : State × EntrySt :=
  let n := e.arg0
  if stlMedium s n ≠ medRelay then failR s 0x42
  else if !relayUp s n then failR s 0x06
  else withBuf e s (fun d => okR (stlReceive s medRelay 0 d) 0)

/-- RELAY_TX: it completes when SP sends. -/
def stlRelayTx (e : Entry) (s : State) : State × EntrySt :=
  let n := e.arg0
  if stlMedium s n ≠ medRelay then failR s 0x42
  else if !relayUp s n then failR s 0x06
  else match (stlAt s n).relay with
    | pdu :: rest => okR (stlMod (memWrite s e.addr pdu) n (fun x => { x with relay := rest })) pdu.length
    | [] => (s, .await 0)

/-- SESS_READ; STATE while no frame has been accepted. -/
def stlSessRead (e : Entry) (s : State) : State × EntrySt :=
  let x := stlAt s e.arg0
  if x.lastPdu.isEmpty then failR s 0x06
  else okR (memWrite s e.addr (x.lastPdu ++ leBytes 4 x.lastUs)) (x.lastPdu.length + 4)

/-! ### Rows -/

/-- CYCLIC_SEND. -/
def execCyclicSend (n : Nat) (s : State) : Host.Outcome State Fault Refusal :=
  .next (if n < 256 ∧ blocksUp s then relayServe 16 (stlCyclic s n) else s)
/-- A received PDU takes the path that its own bytes decide; CYCLIC. -/
def execCyclic (medium src : Nat) (pdu : List Byte) (s : State) : Host.Outcome State Fault Refusal :=
  .next (relayServe 16 (stlReceive s medium src pdu))
/-- RESET_RISE. -/
def execResetRise (medium src : Nat) (pdu : List Byte) (s : State) : Host.Outcome State Fault Refusal :=
  .next (relayServe 16 (stlReceive s medium src pdu))
/-- RESET_FALL. -/
def execResetFall (medium src : Nat) (pdu : List Byte) (s : State) : Host.Outcome State Fault Refusal :=
  .next (relayServe 16 (stlReceive s medium src pdu))
/-- SESSION_OPEN. -/
def execSessionOpen (medium src : Nat) (pdu : List Byte) (s : State) : Host.Outcome State Fault Refusal :=
  .next (relayServe 16 (stlReceive s medium src pdu))
/-- LOSS_VERDICT: WDOG_US has passed. -/
def execLossVerdict (n : Nat) (s : State) : Host.Outcome State Fault Refusal :=
  .next (if n < 256 ∧ blocksUp s then stlVerdict s n else s)
/-- SET_DATA. -/
def execSetData (s : State) : Host.Outcome State Fault Refusal := .next (runEntry s 31 0x40 stlSetData)
/-- RESET_CMD. -/
def execResetCmd (s : State) : Host.Outcome State Fault Refusal := .next (runEntry s 31 0x41 stlResetCmd)
/-- RELAY_RX. -/
def execRelayRx (s : State) : Host.Outcome State Fault Refusal := .next (relayServe 16 (runEntry s 31 0x42 stlRelayRx))
/-- RELAY_TX. -/
def execRelayTx (s : State) : Host.Outcome State Fault Refusal := .next (runEntry s 31 0x43 stlRelayTx)
/-- SESS_READ. -/
def execSessRead (s : State) : Host.Outcome State Fault Refusal := .next (runEntry s 31 0x44 stlSessRead)

/-- A frame that a controller's STL object takes (R344, R417). -/
def canStl (n : Nat) (_ : Nat) (d : List Byte) (s : State) : State := stlReceive s (n + 2) 0 d

/-- CAN_FRAME_RECEIVE. -/
def execCanFrameReceive (n : Nat) (fr : CanFrame) (s : State) : Host.Outcome State Fault Refusal :=
  .next (canReceive s n fr (canStl n))
/-- ATTEMPT_END. -/
def execAttemptEnd (n : Nat) (r : CanEnd) (tdcv : Option Nat) (s : State) : Host.Outcome State Fault Refusal :=
  .next (canAttemptEnd s n r tdcv (canStl n))

end Sys2Proof.Machine
end

