-- ==== Sys2Proof/Machine/Idk.lean ====
section
/-! DEFINITION. IDK: the random source (R460), release and operator keys (R461, R462), key records (R463 to R466), management sessions
(R467, R468) and QP3 (R469). Cryptographic functions are opaque (log 8). -/

namespace Sys2Proof.Machine

open Sys2Proof

/-! ### Keys (R461, R462) -/

/-- Whether a release key has been revoked. -/
def relRevoked (s : State) (id : Nat) : Bool := s.idk.burned.testBit (id - 1)
/-- The release keys not yet revoked. -/
def relLive (s : State) : List Nat := [1, 2, 3, 4].filter (fun i => !relRevoked s i)
/-- The public key of a release key. -/
def relPub (id : Nat) : List Byte := leBytes 64 (Config.releaseKey id).toNat

/-- The rights by bit (R462). -/
def rightImage : Nat := 0
def rightSession : Nat := 2
def rightEnrol : Nat := 3

/-- The public key of a signer that check 3 of R465 allows: a release key not revoked where `rel`, an operator key that holds ENROL
where `op`. -/
def signerPub (s : State) (id : Nat) (rel op : Bool) : Option (List Byte) :=
  if rel && decide (id ∈ relLive s) then some (relPub id)
  else if op then (operKey s id rightEnrol).map OpKey.pub
  else none

/-- Whether the KEY_ID of a REVOKE names a release key. -/
def isRelKey (id : Nat) : Bool := decide (1 ≤ id) && decide (id ≤ 4)

/-- Check 3 of R465: who may sign (R464). -/
def recordSigner (s : State) (r : List Byte) : Option (List Byte) :=
  let signer := fieldAt r 0x18 4
  let id := fieldAt r 0x1C 4
  if fieldAt r 4 1 = 1 then
    (if s.idk.tab.keys.isEmpty then (if bitOf (fieldAt r 5 1) rightEnrol then signerPub s signer true false else none)
     else signerPub s signer false true)
  else if isRelKey id then (if signer = id then none else signerPub s signer true false)
  else signerPub s signer true true

/-- Whether the key signed the image of an APPLICATION slot that is RUNNING, TRIAL or FALLBACK (check 7 of R465). -/
def signedApp (s : State) (id : Nat) : Bool :=
  [2, 3].any (fun k => decide ((cfgNewest s).boot.st.getD k 0 ∈ [3, 4, 5]) && decide (fieldAt ((s.nv.imgs.getD k ⟨[], [], false⟩).hdr) 0x1C 4 = id))

/-- The cause for which a record is refused (R465): the first check that fails. -/
def recordCause (s : State) (r : List Byte) : Option Nat :=
  let enrol := decide (fieldAt r 4 1 = 1)
  let id := fieldAt r 0x1C 4
  let keys := s.idk.tab.keys
  if s.idk.nonce ≠ some (fieldAt r 0x10 8) then some 1
  else if fieldAt r 0 4 ≠ 0x454B4449 ∨ fieldAt r 8 8 ≠ Config.serial.toNat ∨ fieldAt r 6 2 ≠ 0 ∨ fieldAt r 0x24 4 ≠ 0
      ∨ fieldAt r 4 1 = 0 ∨ 2 < fieldAt r 4 1 ∨ 32 ≤ fieldAt r 5 1 ∨ (!enrol ∧ (fieldAt r 5 1 ≠ 0 ∨ fieldAt r 0x20 4 ≠ 0 ∨ fieldAt r 0x28 64 ≠ 0)) then some 2
  else match recordSigner s r with
    | none => some 3
    | some pub =>
      if !Config.ecdsaOk pub (r.take 0x68) ((r.drop 0x68).take 64) then some 4
      else if enrol then
        (if 0x100 ≤ id ∧ id ≤ 0xFFFFFFFE ∧ !keys.any (fun k => decide (k.id = id) || decide (k.oper = fieldAt r 0x20 4))
            ∧ !s.idk.tab.revoked.any (fun k => decide (k.id = id)) ∧ Config.pointOk ((r.drop 0x28).take 64) ∧ keys.length < 32 then none
         else some 5)
      else if isRelKey id then (if relRevoked s id then some 6 else none)
      else if !keys.any (fun k => decide (k.id = id)) then some 6
      else if signedApp s id then some 7
      else if !keys.any (fun k => decide (k.id ≠ id) && bitOf k.rights rightEnrol) then some 8
      else none

/-- The operator table changed: written to both copies, one after the other (R466, R76). -/
def tabStore (s : State) (t : KeyTab) : State :=
  let s1 := { s with idk := { s.idk with tab := t } }
  let s2 := cfgStore (cfgStore s1 (fun c => { c with keyTab := t })) (fun c => { c with keyTab := t })
  put (put (wr s2 R.IDK_STATUS_N_OPER t.keys.length) R.IDK_STATUS_A_OK true) R.IDK_STATUS_B_OK true

/-! ### Sessions (R467, R468) -/

/-- STATUS.N_SESS. -/
def sessShow (s : State) : State := wr s R.IDK_STATUS_N_SESS (s.idk.sess.filter Option.isSome).length

/-- Whether a waiting SESS_OUT is one of a session. -/
def outOf (n : Nat) (e : Entry) : Bool := e.awaits 0x46 && decide (e.note = n)

/-- Every SESS_OUT that waits on a session completes with NO_SESSION. -/
def sessOuts : Nat → Nat → State → State
  | 0, _, s => s
  | k + 1, n, s => if hasEntry s 3 (outOf n) then sessOuts k n (finishEntry s 3 (outOf n) 0x42 0 0) else s

/-- A session closes; `other` where not by CLOSE (R468, R470). -/
def sessClose (s : State) (n : Nat) (other : Bool) : State :=
  match s.idk.sess.getD n none with
  | none => s
  | some _ =>
    let s1 := sessShow { s with idk := { s.idk with sess := s.idk.sess.set n none, inbox := s.idk.inbox.set n [] } }
    sessOuts (qpAt s1 3).entries.length n (if other then errRise s1 R.IDK_ERR_SESS_CLOSED n 0 else s1)

/-- Every session opened with a key closes (R465). -/
def sessCloseKey (s : State) (id : Nat) : State :=
  (List.range 4).foldl (fun s n => match s.idk.sess.getD n none with
    | some x => if x.keyId = id then sessClose s n true else s
    | none => s) s

/-- The outstanding nonce is no more (R465). -/
def idkDropNonce (s : State) : State := put { s with idk := { s.idk with nonce := none } } R.IDK_STATUS_NONCE false

/-- A refused record (R465). -/
def recRefuse (s : State) (cause : Nat) : State × EntrySt :=
  failX (errRise (if cause = 4 then bump s R.IDK_SIG_FAIL_CNT_COUNT else s) R.IDK_ERR_REC_REJ 0 cause) 0x40 cause

/-! ### QP3 (R469) -/

/-- GET_CERT. -/
def idkGetCert (e : Entry) (s : State) : State × EntrySt :=
  let n := min 1024 (if e.arg0 = 0 then Config.unitCertLen else Config.caCertLen)
  let bs := (leBytes 1024 (if e.arg0 = 0 then Config.unitCert.toNat else Config.caCert.toNat)).take n
  okR (memWrite s e.addr bs) n

/-- ATTEST: the fields in the order of R469, the signature at 96 (DESIGN CHOICE, log 24). -/
def idkAttest (e : Entry) (s : State) : State × EntrySt :=
  withBuf { e with len := 32 } s (fun ch =>
    let c := (cfgNewest s).boot
    let body := padTo 96 (ch ++ leBytes 8 Config.serial.toNat ++ leBytes 8 (otNow s) ++ leBytes 4 (pcNow s) ++ leBytes 4 (regGet s R.SYS_FW_VER_SP).toNat
      ++ leBytes 4 (rd s R.SYS_FW_VER_A_VER) ++ leBytes 4 (rd s R.SYS_FW_VER_B_VER)
      ++ leBytes 4 (Config.bootCrc (c.st ++ [c.floorSys, c.floorApp, c.trials])).toNat)
    okR (memWrite s e.addr (body ++ leBytes 64 (Config.unitSign body).toNat)) 160)

/-- NONCE. -/
def idkNonce (e : Entry) (s : State) : State × EntrySt :=
  if flag s R.IDK_STATUS_RNG_FAIL then failR s 0x43
  else
    let d := drawRandom s
    let s1 := put { d.2 with idk := { d.2.idk with nonce := some d.1 } } R.IDK_STATUS_NONCE true
    okR (memWrite s1 e.addr (leBytes 8 d.1)) 8

/-- KEY_RECORD (R461, R463 to R466). A change of the operator table needs STOR, so its refusal comes before the checks of the record
(R521); a release key's revocation is a fuse. -/
def idkKeyRecord (e : Entry) (s : State) : State × EntrySt :=
  withBuf e s (fun r =>
    let id := fieldAt r 0x1C 4
    let early := (recordCause s r).getD 9
    let fuse := decide (fieldAt r 4 1 = 2) && isRelKey id
    if !fuse && !storTakes s then failR s 0x06
    else if 2 < early ∧ fuse ∧ relLive s = [id] then failR s 0x41
    else match recordCause s r with
      | some c => recRefuse s c
      | none =>
        let s1 := idkDropNonce s
        let t := s1.idk.tab
        if fuse then
          okR { s1 with idk := { s1.idk with burned := setBit s1.idk.burned (id - 1) true } } id
        else if fieldAt r 4 1 = 1 then
          let k : OpKey := { id := id, oper := fieldAt r 0x20 4, rights := fieldAt r 5 1, pub := (r.drop 0x28).take 64 }
          okR (tabStore s1 { t with keys := t.keys ++ [k], seq := t.seq + 1, tagOk := true }) id
        else
          let gone := t.keys.filter (fun k => decide (k.id = id))
          let t1 := { t with keys := t.keys.filter (fun k => decide (k.id ≠ id)), revoked := t.revoked ++ gone, seq := t.seq + 1, tagOk := true }
          okR (sessCloseKey (tabStore s1 t1) id) id)

/-- KEY_LIST: 80 bytes per key, as many as the buffer holds. -/
def idkKeyList (e : Entry) (s : State) : State × EntrySt :=
  let one (st : Nat) (k : OpKey) : List Byte :=
    leBytes 4 k.id ++ leBytes 4 k.oper ++ leBytes 1 k.rights ++ leBytes 1 st ++ zeros 6 ++ padTo 64 k.pub
  let bs := ((s.idk.tab.keys.map (one 1) ++ s.idk.tab.revoked.map (one 2)).take (e.len / 80)).flatten
  okR (memWrite s e.addr bs) bs.length

/-- SESS_OPEN (R467). OPEN holds KEY_ID, E_T, N_T, N_M and the signature in this order, the answer E_M and the signature (DESIGN
CHOICE, log 24). The refusals stand in the order of the STATUS table (R521). -/
def idkSessOpen (e : Entry) (s : State) : State × EntrySt :=
  withBuf e s (fun m =>
    if s.idk.nonce ≠ some (fieldAt m 84 8) then recRefuse s 1
    else match operKey s (fieldAt m 0 4) rightSession with
      | none => recRefuse s 3
      | some k =>
        if !Config.ecdsaOk k.pub (m.take 92) ((m.drop 92).take 64) then recRefuse s 4
        else match s.idk.sess.findIdx? Option.isNone with
        | none => failR s 0x42
        | some n =>
          if flag s R.IDK_STATUS_RNG_FAIL then failR s 0x43
          else
            let em := leBytes 64 (Config.ephemeralKey s.idk.draws).toNat
            let x := m.take 92 ++ em
            let keys := Config.sessionKeys x
            let ses : MgmtSess := { keyId := k.id, oper := k.oper, rights := k.rights, keyIn := keys.extractLsb' 0 128, keyOut := keys.extractLsb' 128 128,
                                    cntIn := 0, cntOut := 0, bad := 0 }
            let s1 := idkDropNonce { s with idk := { s.idk with draws := s.idk.draws + 1, sess := s.idk.sess.set n (some ses) } }
            let sig := leBytes 64 (Config.unitSign (leBytes 32 (Config.sha256 x).toNat)).toNat
            okR (memWrite (sessShow s1) e.addr (em ++ sig)) n)

/-- The IV of a message: session number, then its counter (R468). -/
def sessIv (n cnt : Nat) : BitVec 96 := BitVec.ofNat 96 (n + cnt * 2 ^ 32)

/-- SESS_IN (R468): a message is its counter (U64), then ciphertext and tag (DESIGN CHOICE, log 24). -/
def idkSessIn (e : Entry) (s : State) : State × EntrySt :=
  withBuf e s (fun m =>
    let n := e.arg0 % 4
    match s.idk.sess.getD n none with
    | none => failR s 0x42
    | some x =>
      let cnt := fieldAt m 0 8
      let open' := Config.gcmOpen x.keyIn (sessIv n cnt) (m.drop 8)
      match (if x.cntIn < cnt then open' else none) with
      | some p =>
        okR { s with idk := { s.idk with sess := s.idk.sess.set n (some { x with cntIn := cnt }), inbox := s.idk.inbox.set n p } } e.len
      | none =>
        let s1 := bump { s with idk := { s.idk with sess := s.idk.sess.set n (some { x with bad := x.bad + 1 }) } } R.IDK_SESS_BAD_CNT_COUNT
        okR (if 2 ≤ x.bad then sessClose s1 n true else s1) 0)

/-- SESS_OUT (R469): it waits until a message is due; the spec gives IDK none of its own to send (log 24). -/
def idkSessOut (e : Entry) (s : State) : State × EntrySt :=
  if (s.idk.sess.getD (e.arg0 % 4) none).isNone then failR s 0x42 else (s, .await (e.arg0 % 4))

/-- CLOSE. -/
def idkClose (e : Entry) (s : State) : State × EntrySt :=
  if (s.idk.sess.getD e.arg0 none).isNone then failR s 0x42 else okR (sessClose s e.arg0 false) 0

/-- The direction of the next entry of QP3: ARG0 bit 8 (R469). -/
def nextSessOut (s : State) : Option Bool := match frontIdx (qpAt s 3).entries with
  | none => none
  | some i => (qpAt s 3).entries[i]?.map (fun e => bitOf e.arg0 8)

/-! ### Start (R466) -/

/-- IDK at start-up: the copy whose tag checks and whose sequence number is higher; the table is empty where neither checks. -/
def idkStart (s : State) : State :=
  let a := s.nv.cfgA
  let b := s.nv.cfgB
  let okA := a.ok && a.keyTab.tagOk
  let okB := b.ok && b.keyTab.tagOk
  let t : KeyTab :=
    if okA && (!okB || decide (b.keyTab.seq ≤ a.keyTab.seq)) then a.keyTab
    else if okB then b.keyTab
    else { keys := [], revoked := [], seq := 0, tagOk := false }
  let s1 := { s with idk := { s.idk with tab := t, nonce := none, sess := List.replicate 4 none, inbox := List.replicate 4 [] } }
  let s2 := wr (put (put (put s1 R.IDK_STATUS_READY true) R.IDK_STATUS_A_OK okA) R.IDK_STATUS_B_OK okB) R.IDK_STATUS_N_OPER t.keys.length
  if okA || okB then s2 else errRise s2 R.IDK_ERR_TABLE_LOST 0 0

/-! ### Rows -/

/-- GET_CERT. -/
def execGetCert (s : State) : Host.Outcome State Fault Refusal := .next (runEntry s 3 0x40 idkGetCert)
/-- ATTEST. -/
def execAttest (s : State) : Host.Outcome State Fault Refusal := .next (runEntry s 3 0x41 idkAttest)
/-- NONCE. -/
def execNonce (s : State) : Host.Outcome State Fault Refusal := .next (runEntry s 3 0x42 idkNonce)
/-- KEY_RECORD. -/
def execKeyRecord (s : State) : Host.Outcome State Fault Refusal := .next (runEntry s 3 0x43 idkKeyRecord)
/-- KEY_LIST. -/
def execKeyList (s : State) : Host.Outcome State Fault Refusal := .next (runEntry s 3 0x44 idkKeyList)
/-- SESS_OPEN. -/
def execSessOpen (s : State) : Host.Outcome State Fault Refusal := .next (runEntry s 3 0x45 idkSessOpen)
/-- SESS_IN. -/
def execSessIn (s : State) : Host.Outcome State Fault Refusal := .next (if nextSessOut s = some false then runEntry s 3 0x46 idkSessIn else s)
/-- SESS_OUT. -/
def execSessOut (s : State) : Host.Outcome State Fault Refusal := .next (if nextSessOut s = some true then runEntry s 3 0x46 idkSessOut else s)
/-- CLOSE. -/
def execClose (s : State) : Host.Outcome State Fault Refusal := .next (runEntry s 3 0x47 idkClose)
/-- KEY_NONCE_LAPSE: 300 s have passed since NONCE (R465). -/
def execKeyNonceLapse (s : State) : Host.Outcome State Fault Refusal := .next (idkDropNonce s)
/-- SESSION_IDLE_TIMEOUT: 600 s without a valid message (R468). -/
def execSessionIdleTimeout (n : Nat) (s : State) : Host.Outcome State Fault Refusal := .next (if n < 4 then sessClose s n true else s)
/-- RNG_FAIL (R460). -/
def execRngFail (s : State) : Host.Outcome State Fault Refusal :=
  .next (if blocksUp s then errRise (put s R.IDK_STATUS_RNG_FAIL true) R.IDK_ERR_RNG 0 0 else s)

end Sys2Proof.Machine
end

