-- ==== Sys2Proof/Machine/Start.lean ====
section
/-! DEFINITION. Steps 4 to 7 of the start-up on the unit that commands the chain (R71): the tiles wake, take their positions and
delays, and SP writes their thresholds. -/

namespace Sys2Proof.Machine

open Sys2Proof

/-- Step 5 of R71: the ring wakes from both ports, as far as the activity of each reaches, and every woken tile but those that fail locks
to the receiver that faces the unit (R132, R133, R140). -/
def chainWake (s : State) (noLock : List Nat) : State :=
  let s1 := if lowDoor s then wakeWalk s (waysUp 0) else s
  let s2 := if highDoor s1 then wakeWalk s1 (waysDown (ringN s1)) else s1
  { s2 with tiles := (s2.tiles.zipIdx).map (fun tk =>
      if tk.1.up && reached s2 tk.2 then { tk.1 with locked := decide (tk.2 ∉ noLock), lockX3 := facingX3 s2 tk.2 } else tk.1) }

/-- Steps 4 to 6 of R71: CHAIN wakes the tiles from both ports, enumerates them, reads their trim signatures and sets their delays,
measured where the ring is closed and a measurement is given (R134, R135, R137). -/
def chainUp (s : State) (noLock : List Nat) (m : Option (Nat × Nat × List (Option Nat))) : State :=
  let s1 := chainWake s noLock
  let s2 := put (put s1 R.CHAIN_STATUS_RUN true) R.CHAIN_STATUS_RING_CLOSED (ringWhole s1)
  let s3 := (enumPass (enumPass s2 false).1 true).1
  let s4 := (List.range 24).foldl trimCheck (afterEnum s3)
  match m with
  | some x => dlyRun s4 x.1 x.2.1 x.2.2
  | none => if s4.chain.measured then dlyWrite s4 else dlyNominal s4

/-- Whether some tile holds a position. -/
def anyNumbered (s : State) : Bool := s.tiles.any Tile.numbered

end Sys2Proof.Machine
end

