-- ==== Sys2Proof/Machine/Red.lean ====
section
/-! DEFINITION. RED: roles (R352 to R354), Beacons and the mirror (R355 to R359), the Keeper's frames (R360 to R362), failure, claim
and fence (R363 to R366), planned handover (R367 to R370), QP32 and the Keeper service (R371, R372). -/

namespace Sys2Proof.Machine

open Sys2Proof

/-! ### What the unit shows its partner (R355 to R357) -/

/-- Whether the unit takes part as a member of a pair (R352). -/
def pairOn (s : State) : Bool := setPair s && blocksUp s && decide (role s ≠ roleSingle)

/-- The unit's UNIT index, its PAIR_ID, HOME and HEALTH_REQ (R351, R372). -/
def redUnit (s : State) : Nat := b2n (setFarEnd s)
def redPair (s : State) : Nat := cfgU s 32 1 2 2
def redHome (s : State) : Bool := decide (cfgU s 32 1 1 1 = 1)
def healthReq (s : State) : Nat := cfgU s 32 3 6 2
/-- The unit's EPOCH (R353). -/
def epochNow (s : State) : Nat := rd s R.RED_EPOCH_EPOCH

/-- CRC-32C of the committed MEAS table, header and entries; 0 if none (R356). -/
def measTbl (s : State) : Nat := match s.meas.table with
  | none => 0
  | some t => crc32c (leBytes 1 t.base ++ zeros 1 ++ leBytes 2 t.entries.length ++ leBytes 4 t.cycleNs ++ leBytes 8 t.anchor ++ zeros 16
      ++ t.entries.flatMap (fun e => leBytes 2 e.1 ++ zeros 2 ++ leBytes 4 e.2))

/-- MEAS_TBL, PLAN_ID, CHEM_ID and SET_CHECK (R356). -/
def cfgWords (s : State) : List Byte :=
  leBytes 4 (measTbl s) ++ leBytes 4 (rd s R.EIS_PLAN_ID_ID) ++ leBytes 4 (rd s R.EST_CHEM_ID_ID) ++ leBytes 4 (rd s R.SAFE_SET_CHECK_CHECK)

/-- CFG_AGREE (R357). -/
def cfgAgree (s : State) : Bool := !s.red.latest.isEmpty && decide ((s.red.latest.drop 0xB0).take 16 = cfgWords s)

/-- CHAIN_OK: every tile of the set delivered a good slot in the latest sweep (R357). -/
def chainOk (s : State) : Bool := match s.meas.last with
  | none => false
  | some w => (List.range (setNn s)).all (fun p => (w.slots.getD p none).isSome)

/-- HEALTH (R357). -/
def healthNow (s : State) : Nat :=
  maskOf id [s.safe.fw, setOk s, chainOk s, flag s R.CHAIN_STATUS_RING_CLOSED,
    !flag s R.HVM_STATUS_SHUNT_FAULT && decide (rd s R.HVM_V_STR_MV ≠ 0x80000000) && decide (rd s R.HVM_V_LINK_MV ≠ 0x80000000),
    flag s R.EST_STATUS_RUN && flag s R.EST_STATUS_CHEM_OK, flag s R.PWM_STATUS_ARMED && !flag s R.PWM_STATUS_PS_FAULT, s.upd.svc.any id,
    flag s R.RED_STATUS_KEEPER_OK, flag s R.RED_STATUS_PEER_J5, decide (4500 < rd s R.PWR_RAIL_LOGIC_MV) && !s.safe.coilLow, cfgAgree s,
    decide (rd s R.PWR_DIE_TEMP_TEMP ≠ 0x8000) && decide (rdS s R.PWR_DIE_TEMP_TEMP < 11000)]

/-- The first bit of HEALTH_REQ that is clear. -/
def missingBit (s : State) (health : Nat) : Option Nat := (List.range 13).find? (fun b => bitOf (healthReq s) b && !bitOf health b)

/-- Whether the unit is healthy (R357). -/
def healthy (s : State) : Bool := (missingBit s (healthNow s)).isNone

/-- A frame with its CHECK (R355). -/
def withCheck (bs : List Byte) : List Byte := bs ++ leBytes 4 (crc32c bs)

/-- The 16-byte header (R355). -/
def redHead (s : State) (ty : Nat) : List Byte :=
  leBytes 1 ty ++ leBytes 1 (b2n (flag s R.RED_STATUS_TB_REQ) + 2 * b2n (s.red.hoReady && healthy s) + 4 * b2n (flag s R.RED_STATUS_LONE))
    ++ leBytes 2 (redPair s) ++ leBytes 1 (redUnit s) ++ zeros 3 ++ leBytes 4 (s.red.seq + 1) ++ leBytes 4 (epochNow s)

/-- One more frame sent on the pair (R355). -/
def redCount (s : State) : State := { s with red := { s.red with seq := (s.red.seq + 1) % 2 ^ 32 } }

/-- The mirrored part of a channel as it stands (R356). -/
def lcMirrorOf (s : State) (n : Nat) : LcMirror :=
  { st := lcSt s n, target := rdS s (R.LC_TARGET_T n), rs := rdS s (R.LC_RAMP_RS n), u := lcOut s n }

/-- The body of a BEACON from 0x24 to 0xAF: CTRL, PWM, dispatch and J10 (R356). -/
def ctrlWords (s : State) : List Byte :=
  let st := (List.range 8).foldl (fun w n => w + lcSt s n * 4 ^ n) 0
  let bitsWord := st + b2n (excValid s) * 2 ^ 16 + b2n s.ctrl.grant.isSome * 2 ^ 17 + b2n (flag s R.PWM_STATUS_DRIVEN) * 2 ^ 18
  let g := s.ctrl.grant.getD { chg := 0, dis := 0, expiry := 0, setPoint := 0, asker := none, iGrant := 0, announced := 0, horizon := 0, revisedAt := none }
  leBytes 4 bitsWord
    ++ leBytes 2 (rd s R.PWM_DUTY01_D0) ++ leBytes 2 (rd s R.PWM_DUTY01_D1) ++ leBytes 2 (rd s R.PWM_DUTY23_D0) ++ leBytes 2 (rd s R.PWM_DUTY23_D1)
    ++ leBytes 4 g.chg ++ leBytes 4 g.dis ++ leBytes 8 g.expiry ++ sBytes 4 g.setPoint ++ leBytes 4 ((g.asker.map Prod.snd).getD 0)
    ++ (List.range 8).flatMap (fun n => let m := lcMirrorOf s n; sBytes 4 m.target ++ sBytes 4 m.rs ++ sBytes 4 m.u)
    ++ (List.range 4).flatMap (fun a => leBytes 2 (if j10Drives s then actDuty s a else 0))

/-- The SAFE word (R356). -/
def safeWord (s : State) : Nat :=
  rd s R.SAFE_STATUS_SO_ON + (maskOf (permitNow s) (List.range 4)) * 2 ^ 4 + rd s R.SAFE_STATUS_INHIBIT * 2 ^ 8
    + rd s R.SAFE_STATUS_SAFE_STATE * 2 ^ 9 + rd s R.SAFE_STATUS_READY * 2 ^ 10 + rd s R.SAFE_STATUS_FOG * 2 ^ 11
    + rd s R.SAFE_RST_CNT_ACCEPTED * 2 ^ 16

/-- A BEACON of 196 bytes with its ROLE, HO_STEP and CTRL part (R356). -/
def beaconBytes (s : State) (r hoStep : Nat) (ctrlPart : List Byte) : List Byte :=
  withCheck (redHead s 1 ++ leBytes 8 (ptNow s) ++ leBytes 1 r ++ leBytes 1 hoStep ++ leBytes 2 (healthNow s) ++ leBytes 4 (safeWord s)
    ++ leBytes 4 (s.meas.next + 2 ^ 32 - 1) ++ ctrlPart ++ cfgWords s)

/-- An Ethernet II frame of a direct link without its FCS (R362): broadcast, the sender's MAC address (the base one: DEDUCED, log 23),
EtherType 0x88B5, padded with zeros to the minimum. -/
def linkFrame (bs : List Byte) : List Byte :=
  let f := beBytes 6 (2 ^ 48 - 1) ++ beBytes 6 Config.mac.toNat ++ beBytes 2 0x88B5 ++ bs
  f ++ zeros (60 - f.length)

/-- Whether J5-3 and J5-4 are up: HOLDUP and KEEP_OFF stop them (R67, R122). -/
def keepPort (s : State) : Bool := fullUp s && !flag s R.CLK_GATE_KEEP_OFF

/-- A frame to a unit or to the Keeper on J5-3 and J5-4. -/
def keepEmit (s : State) (pid u : Nat) (bs : List Byte) : State :=
  if keepPort s then emit s .keeperFrame [pid, u] (linkFrame bs) else s

/-- A frame to the Keeper on KEEP_PATH: on the ring to KEEPER_ADDR, or directly (R362). -/
def toKeeper (s : State) (bs : List Byte) : State :=
  if cfgU s 32 1 8 1 = 0 then ethHardware s 0 2 (cfgU s 32 1 6 2) bs else keepEmit s (redPair s) (redUnit s) bs

/-- A Beacon on its three paths (R355): the pair link, the ring and the Keeper. -/
def beaconPaths (s : State) (bs : List Byte) : State :=
  toKeeper (ethHardware (emit (redCount s) .beacon [redPair s, redUnit s] (linkFrame bs)) 0 2 (cfgU s 32 1 4 2) bs) bs

/-- The Beacon now due. -/
def beaconOut (s : State) : State :=
  let part := if role s = roleActive then ctrlWords s else zeros 0x8C
  beaconPaths s (beaconBytes s (role s) (rd s R.RED_STATUS_HO_STEP) part)

/-- A CLAIM or RELEASE to the Keeper (R361). -/
def keeperSend (s : State) (ty arg : Nat) : State :=
  toKeeper (redCount s) (withCheck (redHead s ty ++ leBytes 8 (ptNow s) ++ leBytes 4 arg))

/-! ### Roles (R353) -/

/-- The epoch stored at every change (R353, R76). -/
def epochTake (s : State) (e : Nat) : State :=
  if e = epochNow s then s
  else
    let s1 := wr s R.RED_EPOCH_EPOCH e
    let s2 := { s1 with red := { s1.red with tbFrom := none } }
    if storTakes s2 then cfgStore s2 (fun c => { c with epoch := e }) else s2

/-- What the unit drives follows its role (R57, R58, R264): PS_EN at once, and the outputs of J10 from the next round of THERM on. -/
def driveFollow (s : State) : State := heaterFollow (actShow (pwmShow { s with therm := { s.therm with j10On := false } }))

/-- A change of role: recorded with the epoch (R373, R446). -/
def roleTake (s : State) (r : Nat) : State :=
  if r = role s then s
  else
    let old := role s
    safeRefresh <| driveFollow (record (wr s R.RED_STATUS_ROLE r) (srcAt R.RED_STATUS) 0x5001 2 r (epochNow s) old)

/-- CFG_AGREE followed: clearing sets CFG_MISMATCH (R373). -/
def agreeFollow (s : State) : State :=
  let now := cfgAgree s
  let s1 := { s with red := { s.red with agreed := now } }
  if s.red.agreed && !now then errRise s1 R.RED_ERR_CFG_MISMATCH 0 0 else s1

/-- The role the partner's latest Beacon shows. -/
def peerRole (s : State) : Option Nat := if s.red.latest.isEmpty then none else some (fieldAt s.red.latest 0x18 1)

/-- Whether the take-back hold-off may run (R369). -/
def holdoffRuns (s : State) : Bool :=
  redHome s && decide (role s = roleStandby) && decide (cfgU s 32 3 0 1 = 1) && decide (peerRole s = some roleActive) && healthy s
  && flag s R.CHAIN_STATUS_RING_CLOSED

/-- The hold-off started or restarted as its conditions stand (R369). -/
def holdoffFollow (s : State) : State :=
  if holdoffRuns s then
    (if s.red.tbFrom.isSome then s else put { s with red := { s.red with tbFrom := some s.power.ticks } } R.RED_STATUS_TB_REQ false)
  else put { s with red := { s.red with tbFrom := none } } R.RED_STATUS_TB_REQ false

/-- RED.TB.REMAIN_S: seconds of hold-off left (R369, R373). -/
def holdoffLeft (s : State) : Nat := match s.red.tbFrom with
  | none => 0
  | some t => roundNat (cfgU s 32 3 2 2 * 250000000 - (s.power.ticks - t)) 250000000

/-- Whether TAKEBACK_S seconds have passed without a restart. -/
def holdoffDone (s : State) : Bool := s.red.tbFrom.any (fun t => decide (t + cfgU s 32 3 2 2 * 250000000 ≤ s.power.ticks))

/-! ### Planned handover, the active unit's part (R367 to R369) -/

/-- UPD's pair handover is given up: ACTIVATE completes with HO_ABORT (R442). -/
def pairUpdAbort (s : State) (step : Nat) : State :=
  let s1 := wr (wr (put s R.UPD_STATUS_HO_RUN false) R.UPD_STATUS_HO_KIND 0) R.UPD_STATUS_HO_STEP 0
  let s2 := { s1 with upd := { s1.upd with ho := none, await := none } }
  errRise (finishEntry s2 5 (Entry.runs 0x40) 0x45 0 step) R.UPD_ERR_HO_ABORT 0 0

/-- Step 1 of R367. -/
def hoStart (s : State) (why : Nat) : State :=
  wr (put { s with red := { s.red with hoWhy := why, hoPeer := false, hoCount := 0 } } R.RED_STATUS_HO_RUN true) R.RED_STATUS_HO_STEP 1

/-- The handover is over: nothing of it remains. -/
def hoClear (s : State) : State :=
  wr (put { s with red := { s.red with hoWhy := 0, hoPeer := false, hoCount := 0 } } R.RED_STATUS_HO_RUN false) R.RED_STATUS_HO_STEP 0

/-- A planned handover aborts: the request completes with a STATUS, or UPD's with HO_ABORT (R367, R442). -/
def hoAbort (s : State) (status ext : Nat) : State :=
  if s.red.hoWhy = 0 then s
  else
    let why := s.red.hoWhy
    let step := rd s R.RED_STATUS_HO_STEP
    let s1 := errRise (hoClear s) R.RED_ERR_HO_ABORT 0 0
    if why = 2 then pairUpdAbort s1 step else finishEntry s1 32 (Entry.runs 0x40) status 0 ext

/-- Whether the active unit may start a take-back's handover now (R369). -/
def takeBackOk (s : State) : Bool :=
  decide (role s = roleActive) && decide (s.red.hoWhy = 0) && decide (cfgU s 32 3 0 1 = 1) && decide (rd s R.SAFE_TRIP_LATCH_SRC = 0)
  && decide (s.safe.seq = 0 ∨ s.safe.seq = 3) && !flag s R.UPD_STATUS_HO_RUN && cfgAgree s

/-- The partner's HEALTH (R373). -/
def peerHealth (s : State) : Nat := rd s R.RED_HEALTH_PEER

/-- Whether the partner is healthy (R368). -/
def peerHealthy (s : State) : Bool := peerHeard s && (missingBit s (peerHealth s)).isNone

/-- The unit stops commanding: PWM off, J10 released, its channels in TRACK with what they held kept (R364, R367); the
gap interrupts EIS (R248). -/
def driveStop (s : State) : State :=
  let k := ((List.range 8).map (lcMirrorOf s), rd s R.PWM_DUTY01_D0)
  let s1 := eisSwitch (isoQuiet (ctrlStandby (pwmOff s)))
  { s1 with red := { s1.red with kept := some k } }

/-- Step 5 of R367: the old active unit stops, and its Beacon shows STANDBY, HO_STEP 3 and its final values. -/
def hoRelease (s : State) (epoch : Nat) : State :=
  let final := ctrlWords s
  let s1 := roleTake (epochTake (driveStop s) epoch) roleStandby
  let s2 := wr s1 R.RED_STATUS_HO_STEP 3
  let s3 := beaconPaths s2 (beaconBytes s2 roleStandby 3 final)
  wr { s3 with red := { s3.red with kept := none, lastTick := s3.power.ticks } } R.RED_STATUS_HO_STEP 0

/-! ### Taking the role (R365) -/

/-- The delay set that the unit derives from its partner's, which the tiles hold (R149); `bypass` while the partner is in bypass. -/
def dlyDerived (s : State) (bypass : Bool) : List (Nat × Nat × Nat) :=
  (takenPos s).filterMap (fun p => (tileByPos s p).map (fun k =>
    let t := tileAt s k
    let ab := if setFarEnd s then (t.dlyX2, t.dlyX3) else (t.dlyX3, t.dlyX2)
    (p, ab.2 - 85, ab.1 + (if bypass then 15 else 85))))

/-- The channels of a mirror (R356, R359). -/
def mirrorLcs (m : List Byte) : List LcMirror :=
  (List.range 8).map (fun n =>
    { st := bits (fieldAt m 0x24 4) (2 * n + 1) (2 * n), target := sInt 32 (fieldAt m (0x48 + 12 * n) 4), rs := sInt 32 (fieldAt m (0x4C + 12 * n) 4),
      u := sInt 32 (fieldAt m (0x50 + 12 * n) 4) })

/-- The grant of a mirror, unless its EXPIRY has passed (R359); its asker's address and its horizon are not in the Beacon and are free
(log 3). This unit has announced no current yet, so `announced` lies beyond every current and its first check announces one. -/
def mirrorGrant (s : State) (m : List Byte) : Option Grant × State :=
  if !bitOf (fieldAt m 0x24 4) 17 || decide (fieldAt m 0x38 8 < ptNow s) then (none, s)
  else
    let f := fresh s
    let chg := fieldAt m 0x30 4
    let id := fieldAt m 0x44 4
    (some { chg := chg, dis := fieldAt m 0x34 4, expiry := fieldAt m 0x38 8, setPoint := sInt 32 (fieldAt m 0x40 4),
            asker := if id = 0 then none else some (f.1 % 2 ^ 14, id), iGrant := if chg = 0 then -(fieldAt m 0x34 4 : Int) else chg,
            announced := 2 ^ 32, horizon := f.1 / 2 ^ 14 % 3, revisedAt := none }, f.2)

/-- The derived delay set put in force (R149): it counts as measured where the ring has been closed since start-up, as the unit has seen;
DLY_VALID stays as it stood until the unit has measured (DESIGN CHOICE, log 34: the spec does not say whether a derived set is a measured
one). A tile whose facing receiver is now the other one has to lock again (R140). -/
def dlyTake (s : State) (bypass : Bool) : State :=
  let s1 := dlyForce s (dlyDerived s bypass)
  { s1 with chain := { s1.chain with bypass := bypass, dlyDue := true, measured := s1.chain.measured || flag s1 R.CHAIN_STATUS_RING_CLOSED }
            tiles := (s1.tiles.zipIdx).map (fun tk =>
              if tk.1.up && decide (tk.1.lockX3 ≠ facingX3 s1 tk.2) then { tk.1 with locked := false } else tk.1) }

/-- R365, steps 2 to 5: the delay set, the channels from the mirror, and the start of the gap; where no unit has commanded the chain
before, the chain is brought up (R354). The gap interrupts EIS (R248). -/
def takeOver (s : State) : State :=
  let m := s.red.mirror
  let s1 :=
    if !anyNumbered s then safeArm (chainUp s [] none)
    else dlyTake s (!peerHeard s || (s.red.verdict && decide (peerRole s ≠ some roleFenced)))
  let g := if m.isEmpty then (none, s1) else mirrorGrant s1 m
  let s2 := ctrlActive g.2 (if m.isEmpty then none else some (mirrorLcs m)) (fieldAt m 0x28 2) g.1
  let s3 := { s2 with meas := { s2.meas with takeover := true } }
  let s4 := { s3 with red := { s3.red with awaitFinal := false, verdict := false, answered := true, kept := none,
                                           gapFrom := if m.isEmpty then none else some s3.red.lastTick } }
  isoNext (eisSwitch (safeActive s4))

/-- The unit enters ACTIVE: epoch, counters and time (R365, R373). -/
def activeEnter (s : State) (epoch : Nat) : State :=
  let planned := decide (role s = roleStandby) && !s.red.verdict
  let s1 := if s.red.verdict then bump s R.RED_SW_CNT_FAIL else if planned then bump s R.RED_SW_CNT_PLANNED else s
  let s2 := wr (wr s1 R.RED_LAST_SW_T_LO_TIME (ptNow s1 % 2 ^ 32)) R.RED_LAST_SW_T_HI_TIME (ptNow s1 / 2 ^ 32)
  put (roleTake (epochTake s2 epoch) roleActive) R.RED_STATUS_TB_REQ false

/-- A GRANT naming the unit (R353, R365, R367): after a failure, or with the final Beacon already here, the unit takes over at once;
else it waits for that Beacon. -/
def grantTake (s : State) (epoch arg : Nat) : State :=
  if arg ≠ redUnit s ∨ epoch ≤ epochNow s ∨ (role s ≠ roleStandby ∧ role s ≠ roleClaiming) then s
  else
    let wait := decide (role s = roleStandby) && decide (fieldAt s.red.latest 0x19 1 ≠ 3)
    let s1 := activeEnter s epoch
    let s2 := { s1 with red := { s1.red with hoReady := false, answered := true } }
    if wait then { s2 with red := { s2.red with awaitFinal := true } } else takeOver s2

/-! ### Failure, claim and fence (R363 to R366) -/

/-- The unit enters CLAIMING and sends its CLAIM at once. -/
def claimStart (s : State) : State :=
  let s1 := roleTake { s with red := { s.red with answered := false, hoReady := false } } roleClaiming
  keeperSend s1 2 0

/-- The failure verdict (R363). -/
def verdictTake (s : State) : State :=
  if role s ≠ roleStandby then s
  else
    let s1 := errRise s R.RED_ERR_BEACON_LOST 0 0
    claimStart { s1 with red := { s1.red with verdict := true } }

/-- The unit enters FENCED (R364, R366). -/
def fenceTake (s : State) : State :=
  if role s ≠ roleActive then s
  else
    let s1 := hoAbort s 0x42 0
    let s2 := roleTake (driveStop { s1 with red := { s1.red with awaitFinal := false } }) roleFenced
    errRise (bump s2 R.RED_FENCE_CNT_COUNT) R.RED_ERR_FENCED 0 0

/-- A FENCED unit returns to ACTIVE: its channels from their kept states, and its delay set before its first strobe (R364). -/
def fenceReturn (s : State) : State :=
  let s1 := activeEnter s (epochNow s)
  let k := s1.red.kept
  let s2 := ctrlActive (dlyWrite s1) (k.map Prod.fst) ((k.map Prod.snd).getD 0) s1.ctrl.grant
  isoNext (safeRefresh { s2 with red := { s2.red with kept := none }, meas := { s2.meas with takeover := true } })

/-- Outputs without a Beacon for 2 ms and no GRANT (R363). -/
def holdExpired (s : State) : State :=
  if !follows s then s
  else
    let on := rd s R.SAFE_STATUS_SO_ON
    let s1 := { s with safe := { s.safe with withheld := s.safe.withheld ||| on, mirSo := 0 } }
    safeRefresh (errRise s1 R.RED_ERR_HOLD_EXPIRED 0 0)

/-! ### Receiving (R358, R359) -/

/-- Whether a frame's CHECK is right and its length is that of its TYPE (R355, R356, R361). -/
def redCheckOk (fr : List Byte) : Bool :=
  decide (fr.length = if fieldAt fr 0 1 = 1 then 196 else 32) && decide (fieldAt fr (fr.length - 4) 4 = crc32c (fr.take (fr.length - 4)))

/-- Whether a frame comes from the partner, or from the unit's Keeper, by its path (0 pair link, 1 ring, 2 J5-3 and J5-4) and ring
address (R358, R362). -/
def fromPeer (s : State) (path src : Nat) (fr : List Byte) : Bool :=
  decide (fieldAt fr 4 1 = 1 - redUnit s) && (decide (path = 0) || (decide (path = 1) && decide (src = cfgU s 32 1 4 2)))
def fromKeeper (s : State) (path src : Nat) (fr : List Byte) : Bool :=
  decide (fieldAt fr 4 1 = 0xFF)
  && (if cfgU s 32 1 8 1 = 1 then decide (path = 2) else decide (path = 1) && decide (src = cfgU s 32 1 6 2))

/-- The sequence test of R358: none for a first frame, else δ from 1 to 2^31; the answer is δ. -/
def redDelta (last : Option Nat) (seq : Nat) : Nat := match last with
  | none => 1
  | some l => (seq + 2 ^ 32 - l) % 2 ^ 32

/-- The bit of the path on which a Beacon came (R373). -/
def pathShow (s : State) (path : Nat) : State :=
  put (put s (if path = 0 then R.RED_STATUS_PEER_J5 else R.RED_STATUS_PEER_RING) true) R.RED_STATUS_LONE false

/-- What an accepted Beacon does to the role (R353, R363, R366). -/
def beaconRole (s : State) (r ep : Nat) : State :=
  let own := role s
  if own = roleInit then (if r = roleActive then roleTake (epochTake s (max ep (epochNow s))) roleStandby else s)
  else if own = roleClaiming then
    (if r = roleActive then
      let s1 := { s with red := { s.red with verdict := false, answered := true } }
      roleTake (epochTake s1 (max ep (epochNow s1))) roleStandby
     else s)
  else if own = roleStandby then
    (if r = roleActive then epochTake s (max ep (epochNow s)) else if r = roleFenced then verdictTake s else s)
  else if own = roleActive then
    (if r = roleActive then
      (if epochNow s < ep then errRise (fenceTake s) R.RED_ERR_EPOCH_CONFLICT 0 0
       else if ep < epochNow s ∧ !s.red.awaitFinal then errRise s R.RED_ERR_EPOCH_CONFLICT 0 0 else s)
     else s)
  else if own = roleFenced then
    (if epochNow s < ep then roleTake (epochTake { s with red := { s.red with kept := none } } ep) roleStandby else s)
  else s

/-- What an accepted Beacon does to a planned handover: the standby shows HO_READY, the active unit sees it, takes a TB_REQ, and its
request completes when the partner is active; the new active unit takes over on the final Beacon (R367, R369). -/
def beaconHandover (s : State) (fr : List Byte) : State :=
  let r := fieldAt fr 0x18 1
  let fl := fieldAt fr 1 1
  let step := fieldAt fr 0x19 1
  if role s = roleStandby then
    let s1 := { s with red := { s.red with hoReady := decide (r = roleActive) && decide (step ≠ 0) && healthy s } }
    if r = roleActive ∧ s1.red.hoWhy ≠ 0 then finishEntry (hoClear s1) 32 (Entry.runs 0x40) 0 (fieldAt fr 0x0C 4) 0 else s1
  else if role s = roleActive then
    let s1 := if s.red.hoWhy ≠ 0 ∧ r = roleStandby ∧ bitOf fl 1 then { s with red := { s.red with hoPeer := true } } else s
    let s2 := if bitOf fl 0 && takeBackOk s1 then hoStart s1 3 else s1
    if s2.red.awaitFinal && decide (step = 3) then takeOver s2 else s2
  else s

/-- An accepted BEACON (R359). -/
def beaconTake (s : State) (path : Nat) (fr : List Byte) : State :=
  let r := fieldAt fr 0x18 1
  let s1 := dlyPartner (wr (wr (pathShow s path) R.RED_PEER_SEQ_SEQ (fieldAt fr 8 4)) R.RED_HEALTH_PEER (fieldAt fr 0x1A 2))
  let keep := (follows s1 || s1.red.awaitFinal) && (decide (r = roleActive) || decide (fieldAt fr 0x19 1 = 3))
  let s2 := { s1 with red := { s1.red with peerIn := some (fieldAt fr 8 4), latest := fr, lastTick := s1.power.ticks,
                                           mirror := if keep then fr else s1.red.mirror } }
  let s3 := if keep then { s2 with eis := { s2.eis with peerExc := bitOf (fieldAt fr 0x24 4) 16 } } else s2
  let w := fieldAt fr 0x1C 4
  let s4 := safeBeacon s3 (w % 16) (w / 2 ^ 16) (bitOf w 10) (decide (r = roleActive))
  holdoffFollow (agreeFollow (beaconHandover (beaconRole s4 r (fieldAt fr 0x0C 4)) fr))

/-- A Keeper's ACK (R353, R357, R367). -/
def ackTake (s : State) (fr : List Byte) : State :=
  let ep := fieldAt fr 0x0C 4
  let holder := fieldAt fr 0x18 4
  let s1 := put s R.RED_STATUS_KEEPER_OK true
  let own := role s1
  if own = roleActive ∧ holder = 1 - redUnit s1 ∧ epochNow s1 < ep then hoRelease s1 ep
  else if own = roleFenced ∧ holder = redUnit s1 ∧ ep = epochNow s1 then fenceReturn s1
  else if own = roleFenced ∧ epochNow s1 < ep then roleTake (epochTake { s1 with red := { s1.red with kept := none } } ep) roleStandby
  else s1

/-- A Keeper's DENY (R353, R367). -/
def denyTake (s : State) (cause : Nat) : State :=
  let s1 := errRise (bump s R.RED_DENY_CNT_COUNT) R.RED_ERR_DENIED 0 cause
  if role s1 = roleClaiming then roleTake { s1 with red := { s1.red with answered := true, verdict := false } } roleStandby
  else if role s1 = roleActive ∧ rd s1 R.RED_STATUS_HO_STEP = 2 then hoAbort s1 0x42 cause
  else s1

/-- A dropped frame (R358). -/
def redBad (s : State) : State := bump s R.RED_BEACON_BAD_CNT_COUNT

/-- A RED frame that reaches a member of a pair (R358). -/
def redReceive (s : State) (path src : Nat) (fr : List Byte) : State :=
  if !pairOn s || (decide (path = 2) && !keepPort s) then s
  else
    let ty := fieldAt fr 0 1
    let seq := fieldAt fr 8 4
    if !redCheckOk fr || decide (fieldAt fr 2 2 ≠ redPair s) then redBad s
    else if fromPeer s path src fr then
      let d := redDelta s.red.peerIn seq
      let init := decide (ty = 1) && decide (fieldAt fr 0x18 1 = roleInit)
      if init || (decide (1 ≤ d) && decide (d ≤ 2 ^ 31)) then
        (if ty = 1 then beaconTake s path fr else { s with red := { s.red with peerIn := some seq } })
      else if d = 0 then (if ty = 1 then pathShow s path else s)
      else redBad s
    else if fromKeeper s path src fr then
      let d := redDelta s.red.keepIn seq
      if decide (1 ≤ d) && decide (d ≤ 2 ^ 31) then
        let s1 := { s with red := { s.red with keepIn := some seq } }
        (if ty = 3 then grantTake s1 (fieldAt fr 0x0C 4) (fieldAt fr 0x18 4)
         else if ty = 4 then denyTake s1 (fieldAt fr 0x18 4)
         else if ty = 6 then ackTake s1 fr
         else s1)
      else if d = 0 then s
      else redBad s
    else redBad s

/-! ### Sending and waiting -/

/-- The Beacon of every 1 ms (R355), with the supply and die readings of the instant (R357); the third Beacon of step 1 without
HO_READY ends a planned handover elsewhere (HANDOVER_ABORT). -/
def beaconSend (s : State) (now : SupplyIn) : State :=
  if !pairOn s then s
  else
    let s1 := supplyTake s now
    let s2 := { s1 with red := { s1.red with hoCount := s1.red.hoCount + b2n (decide (rd s1 R.RED_STATUS_HO_STEP = 1)) } }
    holdoffFollow (agreeFollow (beaconOut s2))

/-- HANDOVER on QP32 (R367, R371). -/
def redHandover (_ : Entry) (s : State) : State × EntrySt :=
  if role s ≠ roleActive then failR s 0x0B
  else if !peerHeard s then failR s 0x43
  else if s.red.hoWhy ≠ 0 then failR s 0x06
  else (hoStart s 1, .running 0)

/-- Step 3 of R367: RELEASE at a quiet sweep boundary; after a SAFETY-scope reset at once (R368). -/
def hoReleaseSend (s : State) : State :=
  if role s ≠ roleActive ∨ rd s R.RED_STATUS_HO_STEP ≠ 1 ∨ !s.red.hoPeer then s
  else if s.red.hoWhy ≠ 5 ∧ (s.safe.seq = 1 ∨ s.safe.seq = 2) then s
  else keeperSend (wr s R.RED_STATUS_HO_STEP 2) 5 (1 - redUnit s)

/-- Step 2 of R367 has not come within 3 Beacons of step 1, or step 4 within 1 ms. -/
def hoTimeout (s : State) : State :=
  if role s ≠ roleActive then s
  else match rd s R.RED_STATUS_HO_STEP with
    | 1 => if s.red.hoPeer ∨ s.red.hoCount < 3 then s else hoAbort s 0x41 ((missingBit s (peerHealth s)).getD 0xFFFF)
    | 2 => hoAbort s 0x42 0
    | _ => s

/-- R368: a bit of HEALTH_REQ clear in the own HEALTH and set in the partner's for DEGRADE_MS. -/
def degradeTake (s : State) : State :=
  let own := healthNow s
  if role s = roleActive ∧ s.red.hoWhy = 0 ∧ peerHealthy s ∧ (missingBit s own).isSome then hoStart s 4 else s

/-- R368: SP has been reset at SAFETY scope. -/
def safetyHandover (s : State) : State := if role s = roleActive ∧ s.red.hoWhy = 0 ∧ peerHealthy s then hoStart s 5 else s

/-! ### The Keeper service (R360, R371, R372) -/

/-- The entries of item 2. -/
def ksCount (s : State) : Nat := cfgU s 32 2 0 1
def ksPairId (s : State) (p : Nat) : Nat := cfgU s 32 2 (4 + 8 * p) 2
def ksAddr (s : State) (p u : Nat) : Nat := cfgU s 32 2 (6 + 8 * p + 2 * u) 2
def ksAt (s : State) (p : Nat) : KsPair := s.red.ks.getD p KsPair.init
def ksMod (s : State) (p : Nat) (f : KsPair → KsPair) : State := { s with red := { s.red with ks := modAt s.red.ks p f } }

/-- A frame from the Keeper to a unit of a pair (R361, R362), by the way its units use. -/
def ksSend (s : State) (p pid u ty arg epoch : Nat) : State :=
  let n := (ksAt s p).seq + 1
  let bs := leBytes 1 ty ++ zeros 1 ++ leBytes 2 pid ++ leBytes 1 0xFF ++ zeros 3 ++ leBytes 4 n ++ leBytes 4 epoch ++ leBytes 8 (ptNow s) ++ leBytes 4 arg
  let s1 := ksMod s p (fun k => { k with seq := n % 2 ^ 32 })
  if (ksAt s p).direct then keepEmit s1 pid u (withCheck bs)
  else if p < ksCount s1 then ethHardware s1 0 2 (ksAddr s1 p u) (withCheck bs)
  else s1

/-- A DENY from the service (R360, R361). -/
def ksDeny (s : State) (p pid u cause : Nat) : State :=
  ksSend (bump s R.RED_KSVC_DENY_SENT) p pid u 4 cause (if p < s.red.ks.length then rd s (R.RED_KS_EPOCH_EPOCH p) else 0)

/-- HOLDER as a frame carries it: 0xFF for unknown (R360). -/
def ksHolder (s : State) (p : Nat) : Nat := if rd s (R.RED_KS_STATE_HOLDER p) = 3 then 0xFF else rd s (R.RED_KS_STATE_HOLDER p)

/-- The Keeper's epoch and holder of a pair. -/
def ksTake (s : State) (p epoch holder : Nat) : State := wr (wr s (R.RED_KS_EPOCH_EPOCH p) epoch) (R.RED_KS_STATE_HOLDER p) holder

/-- The pending claim of a pair is no more. -/
def ksDrop (s : State) (p : Nat) : State := put (ksMod s p (fun k => { k with claim := none })) (R.RED_KS_STATE_PENDING p) false

/-- A new holder by GRANT: its silence counts from the GRANT on (DEDUCED from R370, log 23: a second claim right after it is denied). -/
def ksHold (s : State) (p epoch u : Nat) : State :=
  ksMod (ksTake s p epoch u) p (fun k => { k with active := some s.power.ticks })

/-- A GRANT to the claimant (R360). -/
def ksGrant (s : State) (p u claimed : Nat) : State :=
  let e := (max (rd s (R.RED_KS_EPOCH_EPOCH p)) claimed + 1) % 2 ^ 32
  ksSend (ksHold (ksDrop s p) p e u) p (ksPairId s p) u 3 u e

/-- Whether the holder has been silent for 1.2 ms, or is unknown to a warm Keeper (R360). -/
def ksFree (s : State) (p : Nat) : Bool :=
  if rd s (R.RED_KS_STATE_HOLDER p) = 3 then flag s (R.RED_KS_STATE_WARM p)
  else match (ksAt s p).active with
    | none => true
    | some t => decide (t + 300000 ≤ s.power.ticks)

/-- A pending claim is denied when the holder is heard with ROLE ACTIVE (R360). -/
def ksRefuse (s : State) (p : Nat) (holds : Bool) : State :=
  match (ksAt s p).claim with
  | some c => if holds then ksDeny (ksDrop s p) p (ksPairId s p) c.1 1 else s
  | none => s

/-- A Beacon of unit u noted: when and with which epoch, and an ACTIVE one with a higher epoch adopted (R360). -/
def ksHear (s : State) (p u : Nat) (fr : List Byte) : State :=
  let ep := fieldAt fr 0x0C 4
  let act := decide (fieldAt fr 0x18 1 = roleActive)
  let heard (k : KsPair) : KsPair :=
    { k with last := k.last.set u (some s.power.ticks), heardEp := max k.heardEp ep, heardBy := if act then some u else k.heardBy }
  let s1 := ksMod s p heard
  if act && decide (rd s1 (R.RED_KS_EPOCH_EPOCH p) < ep) then ksTake s1 p ep u else s1

/-- A BEACON at the Keeper (R360). -/
def ksBeacon (s : State) (p u : Nat) (fr : List Byte) : State :=
  let s2 := ksHear s p u fr
  let holds := decide (fieldAt fr 0x18 1 = roleActive) && decide (rd s2 (R.RED_KS_STATE_HOLDER p) = u)
  let s3 := if holds then ksMod s2 p (fun k => { k with active := some s2.power.ticks }) else s2
  let s4 := ksRefuse s3 p holds
  ksSend s4 p (ksPairId s4 p) u 6 (ksHolder s4 p) (rd s4 (R.RED_KS_EPOCH_EPOCH p))

/-- A CLAIM at the Keeper (R360). -/
def ksClaim (s : State) (p u ep : Nat) : State :=
  let pid := ksPairId s p
  if !flag s (R.RED_KS_STATE_WARM p) then ksDeny s p pid u 5
  else match (ksAt s p).claim with
    | some c =>
      if c.1 ≠ u then ksDeny s p pid u 2
      else ksMod s p (fun k => { k with claim := some (u, ep) })
    | none =>
      if ksFree s p then ksGrant s p u ep
      else put (ksMod s p (fun k => { k with claim := some (u, ep) })) (R.RED_KS_STATE_PENDING p) true

/-- A RELEASE at the Keeper (R360). -/
def ksRelease (s : State) (p u dst : Nat) : State :=
  let pid := ksPairId s p
  if rd s (R.RED_KS_STATE_HOLDER p) ≠ u ∨ dst ≠ 1 - u then ksDeny s p pid u 3
  else
    let e := (rd s (R.RED_KS_EPOCH_EPOCH p) + 1) % 2 ^ 32
    let s1 := ksHold s p e dst
    ksSend (ksSend s1 p pid dst 3 dst e) p pid u 6 dst e

/-- A CLAIM or RELEASE of a pair that the service does not serve: a DENY with cause 4, by the way it came (R361). -/
def ksUnserved (s : State) (path src pid u : Nat) : State :=
  let bs := withCheck (leBytes 1 4 ++ zeros 1 ++ leBytes 2 pid ++ leBytes 1 0xFF ++ zeros 3 ++ leBytes 4 1 ++ leBytes 4 0 ++ leBytes 8 (ptNow s)
    ++ leBytes 4 4)
  let s1 := bump s R.RED_KSVC_DENY_SENT
  if path = 2 then keepEmit s1 pid u bs else ethHardware s1 0 2 src bs

/-- A frame that reaches the Keeper service, by the path (1 ring with its source address, 2 J5-3 and J5-4). -/
def ksReceive (s : State) (path src : Nat) (fr : List Byte) : State :=
  let u := fieldAt fr 4 1
  let pid := fieldAt fr 2 2
  let ty := fieldAt fr 0 1
  if !flag s R.RED_CFG_KSVC || !blocksUp s || !redCheckOk fr || decide (1 < u) || (decide (path = 2) && !keepPort s) then s
  else match (List.range (ksCount s)).find? (fun p => decide (ksPairId s p = pid)) with
    | none => if ty = 2 ∨ ty = 5 then ksUnserved s path src pid u else s
    | some p =>
      if path = 1 ∧ src ≠ ksAddr s p u then s
      else
        let s1 := ksMod s p (fun k => { k with direct := decide (path = 2) })
        if ty = 1 then ksBeacon s1 p u fr
        else if ty = 2 then ksClaim s1 p u (fieldAt fr 0x0C 4)
        else if ty = 5 then ksRelease s1 p u (fieldAt fr 0x18 4)
        else s1

/-- The first pair whose pending claim may be granted. -/
def ksGrantable (s : State) (p : Nat) : Bool := (ksAt s p).claim.isSome && ksFree s p

/-- A claim that the holder's silence, or a warm Keeper that knows no holder, lets through (R360). -/
def ksServe (s : State) (p : Nat) : State := match (ksAt s p).claim with
  | some c => if ksFree s p then ksGrant s p c.1 c.2 else s
  | none => s

/-- A pending claim has waited 500 µs (R360). -/
def ksExpire (s : State) (p : Nat) : State := match (ksAt s p).claim with
  | some c => ksDeny (ksDrop s p) p (ksPairId s p) c.1 1
  | none => s

/-- The Keeper is warm: for each pair the largest epoch heard, and the holder from a BEACON with ROLE ACTIVE (R360). -/
def ksWarm (s : State) : State :=
  if !flag s R.RED_CFG_KSVC then s
  else (List.range s.red.ks.length).foldl (fun s p =>
    let k := ksAt s p
    if flag s (R.RED_KS_STATE_WARM p) then s
    else put (ksTake s p (max (rd s (R.RED_KS_EPOCH_EPOCH p)) k.heardEp) (k.heardBy.getD (rd s (R.RED_KS_STATE_HOLDER p)))) (R.RED_KS_STATE_WARM p) true) s

/-- The registers of the served pairs at their reset values. -/
def ksBlank (s : State) : State :=
  (List.range 16).foldl (fun s p => regSet (regSet s (R.RED_KS_EPOCH p) 0) (R.RED_KS_STATE p) 3) s

/-- ENABLE and DISABLE of the Keeper service (R371). -/
def ksEnable (_ : Entry) (s : State) : State × EntrySt :=
  if flag s R.RED_CFG_KSVC then okR s 0
  else
    let s1 := ksBlank { s with red := { s.red with ks := List.replicate (ksCount s) KsPair.init } }
    okR (wr (put s1 R.RED_CFG_KSVC true) R.RED_KSVC_N (ksCount s)) 0
def ksDisable (_ : Entry) (s : State) : State × EntrySt :=
  let s1 := ksBlank { s with red := { s.red with ks := [] } }
  okR (wr (put s1 R.RED_CFG_KSVC false) R.RED_KSVC_N 0) 0

/-- KEEPER_SNAP (R371). -/
def ksSnap (e : Entry) (s : State) : State × EntrySt :=
  let us (t : Option Nat) : Nat := match t with
    | none => 2 ^ 32 - 1
    | some x => min (roundNat (s.power.ticks - x) 250) (2 ^ 32 - 1)
  let one (p : Nat) : List Byte :=
    let k := ksAt s p
    leBytes 2 (ksPairId s p) ++ leBytes 1 (ksHolder s p) ++ leBytes 1 (rd s (R.RED_KS_STATE_WARM p) + 2 * rd s (R.RED_KS_STATE_PENDING p))
      ++ leBytes 4 (rd s (R.RED_KS_EPOCH_EPOCH p)) ++ leBytes 4 (us (k.last.getD 0 none)) ++ leBytes 4 (us (k.last.getD 1 none))
  okR (memWrite s e.addr (padTo 256 ((List.range s.red.ks.length).flatMap one))) 256

/-! ### Rows -/

/-- BEACON_SEND: the readings of the rail, VCOIL and the die are those of the instant. -/
def execBeaconSend (now : SupplyIn) (s : State) : Host.Outcome State Fault Refusal := .next (beaconSend s now)
/-- INIT_TIMEOUT (R354). -/
def execInitTimeout (s : State) : Host.Outcome State Fault Refusal :=
  .next (if pairOn s && decide (role s = roleInit) then claimStart s else s)
/-- FAILURE_VERDICT: no BEACON for 1.2 ms (R363). -/
def execFailureVerdict (s : State) : Host.Outcome State Fault Refusal := .next (if pairOn s then verdictTake s else s)
/-- CLAIM_RESEND (R361). -/
def execClaimResend (s : State) : Host.Outcome State Fault Refusal :=
  .next (if pairOn s && decide (role s = roleClaiming) && !s.red.answered then keeperSend s 2 0 else s)
/-- HOLD_EXPIRED (R363). -/
def execHoldExpired (s : State) : Host.Outcome State Fault Refusal := .next (if pairOn s then holdExpired s else s)
/-- FENCE: neither a Beacon nor an ACK for 0.9 ms (R364). -/
def execFence (s : State) : Host.Outcome State Fault Refusal := .next (if pairOn s then fenceTake s else s)
/-- HANDOVER. -/
def execHandover (s : State) : Host.Outcome State Fault Refusal := .next (runEntry s 32 0x40 redHandover)
/-- HANDOVER_RELEASE. -/
def execHandoverRelease (s : State) : Host.Outcome State Fault Refusal := .next (if pairOn s then hoReleaseSend s else s)
/-- HANDOVER_ABORT. -/
def execHandoverAbort (s : State) : Host.Outcome State Fault Refusal := .next (if pairOn s then hoTimeout s else s)
/-- FINAL_BEACON_TIMEOUT (R367). -/
def execFinalBeaconTimeout (s : State) : Host.Outcome State Fault Refusal :=
  .next (if pairOn s && s.red.awaitFinal && decide (role s = roleActive) then takeOver s else s)
/-- DEGRADATION (R368). -/
def execDegradation (s : State) : Host.Outcome State Fault Refusal := .next (if pairOn s then degradeTake s else s)
/-- TAKEBACK_HOLDOFF_END (R369). -/
def execTakebackHoldoffEnd (s : State) : Host.Outcome State Fault Refusal :=
  .next (if pairOn s && holdoffDone s && holdoffRuns s then put s R.RED_STATUS_TB_REQ true else s)
/-- KEEPER_SNAP. -/
def execKeeperSnap (s : State) : Host.Outcome State Fault Refusal := .next (runEntry s 32 0x41 ksSnap)
/-- KEEPER_BEACON: a frame that reaches the Keeper service. -/
def execKeeperBeacon (path src : Nat) (frame : List Byte) (s : State) : Host.Outcome State Fault Refusal := .next (ksReceive s path src frame)
/-- CLAIM. -/
def execClaim (path src : Nat) (frame : List Byte) (s : State) : Host.Outcome State Fault Refusal := .next (ksReceive s path src frame)
/-- RELEASE. -/
def execRelease (path src : Nat) (frame : List Byte) (s : State) : Host.Outcome State Fault Refusal := .next (ksReceive s path src frame)
/-- KEEPER_CLAIM_GRANT. -/
def execKeeperClaimGrant (p : Nat) (s : State) : Host.Outcome State Fault Refusal := .next (ksServe s p)
/-- KEEPER_CLAIM_TIMEOUT. -/
def execKeeperClaimTimeout (p : Nat) (s : State) : Host.Outcome State Fault Refusal := .next (ksExpire s p)
/-- KEEPER_WARM_UP. -/
def execKeeperWarmUp (s : State) : Host.Outcome State Fault Refusal := .next (ksWarm s)
/-- PARTNER_BEACON_TIMEOUT: on the pair link, on the ring, or on both (R149, R357, R373). -/
def execPartnerBeaconTimeout (j5 ring : Bool) (s : State) : Host.Outcome State Fault Refusal :=
  .next (if !pairOn s then s
    else
      let s1 := if j5 then put s R.RED_STATUS_PEER_J5 false else s
      let s2 := if ring then put s1 R.RED_STATUS_PEER_RING false else s1
      holdoffFollow (if peerHeard s2 then s2 else put (dlyPartner s2) R.RED_STATUS_LONE true))
/-- KEEPER_ACK_TIMEOUT. -/
def execKeeperAckTimeout (s : State) : Host.Outcome State Fault Refusal :=
  .next (if pairOn s && flag s R.RED_STATUS_KEEPER_OK then holdoffFollow (errRise (put s R.RED_STATUS_KEEPER_OK false) R.RED_ERR_KEEPER_LOST 0 0) else s)

end Sys2Proof.Machine
end

