-- ==== Sys2Proof/Machine/Ptp.lean ====
section
/-! DEFINITION. PTP: the passing of time (R16, R388, R389), stamps and residence (R391, R392), acquisition, steps and the choice of
domain (R393 to R395), QP37 (R398), and the anchors (R484). The places of the fields of a PTP message are those of IEEE
1588 (PRESUMED, log 22). -/

namespace Sys2Proof.Machine

open Sys2Proof

/-! ### The passing of time -/

/-- Operating time n PTP ticks further: AON counts milliseconds (R16). -/
def otPass (s : State) (n : Nat) : State :=
  let t := s.power.otTicks + n
  { s with power := { s.power with ot := min (s.power.ot + t / 250000) (2 ^ 48 - 1), otTicks := t % 250000 } }

/-- The increment of a domain's counter, in units of 2^-28 ns per tick (R388). -/
def ptpInc (s : State) (d : Nat) : Nat := if d = 0 then rd s R.PTP_INC0_INC else rd s R.PTP_INC1_INC
/-- The selected domain. -/
def ptpSel (s : State) : Nat := rd s R.PTP_STATUS_SEL

/-- How far S moves toward 0 in n ticks (R389), in units of 2^-28 ns: SLEW_PPM of the elapsed time. -/
def slewMove (s : State) (n : Nat) : Nat := n * ptpInc s (ptpSel s) * cfgU s 37 3 2 2 / 1000000

/-- A signed number moved toward 0. -/
def towardZero (x : Int) (m : Nat) : Int := if 0 ≤ x then max 0 (x - m) else min 0 (x + m)

/-- Whether the counters run (R388): from the start-up on, and not in WATCH or OFF. -/
def ptpRuns (s : State) : Bool := flag s R.PTP_STATUS_RUN && blocksUp s

/-- n ticks of the PTP clock: both counters advance, plant time with them, and S moves toward 0 (R388, R389). -/
def ptpPass (s : State) (n : Nat) : State :=
  let w := 2 ^ 92
  let d0 := (s.ptp.d0 + n * ptpInc s 0) % w
  let d1 := (s.ptp.d1 + n * ptpInc s 1) % w
  { s with ptp := { s.ptp with d0 := d0, d1 := d1, pre := s.ptp.pre + n * ptpInc s (ptpSel s), s := towardZero s.ptp.s (slewMove s n) }
           power := { s.power with ticks := s.power.ticks + n } }

/-- SLEWING shows whether S differs from 0 (R401). -/
def slewShow (s : State) : State := put s R.PTP_STATUS_SLEWING (decide (s.ptp.s ≠ 0))

/-- n ticks pass (log 2): nothing in OFF; operating time in every other state; the counters while they run. -/
def timePass (s : State) (n : Nat) : State :=
  if s.power.st = .off then s
  else
    let s1 := otPass s n
    if ptpRuns s1 then slewShow (ptpPass s1 n) else s1

/-! ### Anchors (R484) -/

/-- An anchor: PT, the tick count G, and the rate of PT per tick in 2^-28 ns. -/
def anchorOut (s : State) : State :=
  let r := ptpInc s (ptpSel s)
  let m := slewMove s 1
  let rate := if s.ptp.s = 0 then r else if 0 < s.ptp.s then r + m else r - m
  emit s .anchor [ptNow s, s.power.ticks % 2 ^ 32, rate] []

/-! ### Domains (R393 to R395) -/

/-- A flag of a domain: enabled, LOCKED, Sync received within LOSS_MS. -/
def domEn (s : State) (d : Nat) : Bool := flag s (if d = 0 then R.PTP_STATUS_D0_EN else R.PTP_STATUS_D1_EN)
def domLock (s : State) (d : Nat) : Bool := flag s (if d = 0 then R.PTP_STATUS_D0_LOCK else R.PTP_STATUS_D1_LOCK)
def domSync (s : State) (d : Nat) : Bool := flag s (if d = 0 then R.PTP_STATUS_D0_SYNC else R.PTP_STATUS_D1_SYNC)
def domSyncPut (s : State) (d : Nat) (b : Bool) : State := put s (if d = 0 then R.PTP_STATUS_D0_SYNC else R.PTP_STATUS_D1_SYNC) b

/-- The counter of a domain, in units of 2^-28 ns. -/
def domCnt (s : State) (d : Nat) : Nat := if d = 0 then s.ptp.d0 else s.ptp.d1

/-- PT has stepped (R393, R394): counted, ERR.STEP, a TIME_MARK, an insulation cycle ended (R182), and an anchor at once; `why` 0 acquisition, 1 step. -/
def ptStepped (s : State) (why : Nat) : State :=
  anchorOut (isoAbort (timeMarkRec (errRise (bump s R.PTP_STEP_CNT_STEPS) R.PTP_ERR_STEP 0 0) why))

/-- Acquisition: PT steps to T_sel and S becomes 0 (R393). -/
def acquire (s : State) : State :=
  let s1 := put { s with ptp := { s.ptp with s := 0 } } R.PTP_STATUS_ACQ true
  ptStepped (slewShow s1) 0

/-- The selected domain changes (R395): once acquired, S becomes T_new − PT, so that PT does not step; HOLDOVER shows whether the new
domain has had no Sync within its LOSS_MS (R393). Before acquisition only the selection changes, and the new domain's next LOCKED
declaration acquires plant time (DEDUCED, log 22). -/
def domSwitch (s : State) (d : Nat) (auto : Bool) : State :=
  let newS : Int := if flag s R.PTP_STATUS_ACQ then (domCnt s d : Int) - ptFine s else 0
  let s1 := wr { s with ptp := { s.ptp with s := newS } } R.PTP_STATUS_SEL d
  let s2 := put (slewShow (bump s1 R.PTP_STEP_CNT_SWITCHES)) R.PTP_STATUS_HOLDOVER (!domSync s d)
  let ns := clampInt (-2147483648) 2147483647 (roundDiv newS (2 ^ 28))
  let s3 := record s2 (srcAt R.PTP_STATUS) 0x5004 1 d (sCode 32 ns) (b2n auto)
  anchorOut (timeMarkRec (if auto then errRise s3 R.PTP_ERR_SWITCH 0 0 else s3) 2)

/-- The automatic change of domain, as soon as all its conditions hold (R395). -/
def autoFollow (s : State) : State :=
  let o := 1 - ptpSel s
  if flag s R.PTP_STATUS_HOLDOVER && decide (cfgU s 37 3 0 1 = 1) && domEn s o && domLock s o && domSync s o then domSwitch s o true else s

/-- LOSS_MS has passed without a Sync of a domain (R393, R395). -/
def syncLost (s : State) (d : Nat) : State :=
  if !ptpRuns s || decide (1 < d) || !domEn s d then s
  else
    let s1 := errRise (domSyncPut s d false) (if d = 0 then R.PTP_ERR_LOSS_D0 else R.PTP_ERR_LOSS_D1) 0 0
    if ptpSel s1 ≠ d then s1 else autoFollow (put s1 R.PTP_STATUS_HOLDOVER true)

/-! ### QP37 (R398) -/

/-- SELECT: RESULT is S at the change in ns. -/
def ptpSelect (e : Entry) (s : State) : State × EntrySt :=
  let s1 := if e.arg0 = ptpSel s then s else domSwitch s e.arg0 false
  okR s1 (sCode 32 (clampInt (-2147483648) 2147483647 (roundDiv s1.ptp.s (2 ^ 28))))

/-- DOM_STATE: the first LOCKED of the selected domain acquires plant time. -/
def ptpDomState (e : Entry) (s : State) : State × EntrySt :=
  let d := e.arg0 % 2
  let lock := bitOf e.arg0 1
  let s1 := put { s with ptp := { s.ptp with servo := s.ptp.servo.set d e.arg1 } } (if d = 0 then R.PTP_STATUS_D0_LOCK else R.PTP_STATUS_D1_LOCK) lock
  if lock && decide (d = ptpSel s1) && !flag s1 R.PTP_STATUS_ACQ then okR (acquire s1) 1 else okR (autoFollow s1) 0

/-- STEP (R394). -/
def ptpStepOp (e : Entry) (s : State) : State × EntrySt :=
  withBuf e s (fun bs =>
    let d := e.arg0 % 2
    let ofs : Int := sInt 64 (fieldAt bs 0 8) * 2 ^ 28
    let cnt := (((domCnt s d : Int) + ofs) % (2 ^ 92)).toNat
    let s1 := { s with ptp := if d = 0 then { s.ptp with d0 := cnt } else { s.ptp with d1 := cnt } }
    if d ≠ ptpSel s1 ∨ !flag s1 R.PTP_STATUS_ACQ then okR s1 0
    else if bitOf e.arg0 1 then okR (anchorOut (slewShow { s1 with ptp := { s1.ptp with s := s1.ptp.s + ofs } })) 0
    else okR (ptStepped s1 1) 0)

/-- ENABLE and DISABLE of a domain. -/
def ptpEnable (e : Entry) (s : State) : State × EntrySt :=
  okR (autoFollow (put s (if e.arg0 = 0 then R.PTP_STATUS_D0_EN else R.PTP_STATUS_D1_EN) true)) 0
def ptpDisable (e : Entry) (s : State) : State × EntrySt :=
  if e.arg0 = ptpSel s then failR s 0x06
  else okR (domSyncPut (put s (if e.arg0 = 0 then R.PTP_STATUS_D0_EN else R.PTP_STATUS_D1_EN) false) e.arg0 false) 0

/-! ### Messages (R391, R392) -/

/-- The enabled domain that holds a message's domainNumber (R391, R399). -/
def msgDomain (s : State) (m : List Byte) : Option Nat :=
  [0, 1].find? (fun d => domEn s d && decide (cfgU s 37 (d + 1) 1 1 = beAt m 4 1))

/-- sourcePortIdentity and sequenceId. -/
def msgKey (m : List Byte) : List Byte := (m.drop 20).take 12

/-- The correctionField with an amount added (ns × 2^16, modulo 2^64). -/
def addCorr (m : List Byte) (x : Nat) : List Byte := patch m 8 (beBytes 8 ((beAt m 8 8 + x) % 2 ^ 64))

/-- A message leaves by a port. -/
def ptpOut (s : State) (b : Bool) (m : List Byte) : State :=
  if portUp s b then bump (emit s .ptpFrame [b2n b] m) (R.ETH_P_TX_COUNT (b2n b)) else s

/-- The 128 bytes of a record on QP37 (R398): the stamp in the domain's counter and the plant time at it. -/
def ptpRecord (ts pt : Nat) (d1 portB egress : Bool) (m : List Byte) : List Byte :=
  leBytes 8 ts ++ leBytes 1 (b2n d1 + 2 * b2n portB + 4 * b2n egress + 8 * b2n (decide (96 < m.length))) ++ leBytes 1 (beAt m 0 1 % 16)
    ++ leBytes 2 (beAt m 30 2) ++ leBytes 2 m.length ++ zeros 2 ++ leBytes 8 pt ++ zeros 8 ++ padTo 96 m

/-- A record on QP37, counted where it finds no buffer. -/
def ptpDeliver (s : State) (bs : List Byte) : State :=
  streamOr s 37 bs (fun s => errRise (bump s R.PTP_TS_LOST_CNT_COUNT) R.PTP_ERR_LOST 0 0)

/-- A Sync of an enabled domain (R393). -/
def syncSeen (s : State) (d : Nat) : State :=
  let s1 := domSyncPut s d true
  if ptpSel s1 = d then put s1 R.PTP_STATUS_HOLDOVER false else autoFollow s1

/-- What is added to the correctionField of a message that passes on (R392): nothing with TC_EN 0, the residence, and under profile 1
the ingress port's link delay. -/
def corrOf (s : State) (dom : Option Nat) (portB : Bool) (resNs : Nat) : Nat :=
  match dom with
  | none => resNs * 65536
  | some d =>
    if cfgU s 37 (d + 1) 2 1 = 0 then 0
    else (resNs + (if cfgU s 37 (d + 1) 0 1 = 1 then rd s (if portB then R.PTP_LINK_DLY_B_NS else R.PTP_LINK_DLY_A_NS) else 0)) * 65536

/-- Whether a message is passed on from port to port: under profile 1 no Pdelay message is (R392). -/
def passesOn (s : State) (dom : Option Nat) (ty : Nat) : Bool := match dom with
  | some d => !(decide (cfgU s 37 (d + 1) 0 1 = 1) && decide (ty ∈ [2, 3, 10]))
  | none => true

/-- A received PTP event message (R391, R392): the MAC stamped it agoNs before, and it stays resNs in the module. -/
def ptpEvent (s : State) (portB : Bool) (m : List Byte) (agoNs resNs : Nat) : State :=
  if !portUp s portB || !crossOk s (6 + b2n portB) || !crossOk s 9 then s
  else
    let ty := beAt m 0 1 % 16
    let dom := msgDomain s m
    let d := dom.getD (ptpSel s)
    let s1 := bump s (R.ETH_P_RX_COUNT (b2n portB))
    let add := corrOf s1 dom portB resNs
    let twoStep := decide (ty = 0) && bitOf (beAt m 6 1) 1
    let s2 :=
      if !passesOn s1 dom ty || !ethForwards s1 then s1
      else if twoStep then
        let s3 := ptpOut s1 (!portB) m
        match s3.ptp.held.find? (fun h => decide (h.1 = portB) && decide (msgKey h.2 = msgKey m)) with
        | some h => ptpOut { s3 with ptp := { s3.ptp with held := s3.ptp.held.filter (fun x => decide (x ≠ h)) } } (!portB) (addCorr h.2 add)
        | none => { s3 with ptp := { s3.ptp with syncs := (portB, msgKey m, add, s3.power.ticks) :: s3.ptp.syncs } }
      else ptpOut s1 (!portB) (addCorr m add)
    match dom with
    | none => s2
    | some dd =>
      let s3 := if ty = 0 then syncSeen s2 dd else s2
      ptpDeliver s3 (ptpRecord (fineNs (domCnt s3 d) - agoNs - 232) (ptNow s3 - agoNs - 232) (decide (dd = 1)) portB false m)

/-- A Follow_Up passed on (R392): with the residence of its Sync within 10 ms of it; unchanged and counted where it comes later; held
where no Sync has been seen. -/
def followUp (s : State) (portB : Bool) (m : List Byte) : State :=
  match s.ptp.syncs.find? (fun y => decide (y.1 = portB) && decide (y.2.1 = msgKey m)) with
  | some y =>
    let s1 := { s with ptp := { s.ptp with syncs := s.ptp.syncs.filter (fun x => decide (x ≠ y)) } }
    if s1.power.ticks ≤ y.2.2.2 + 2500000 then ptpOut s1 (!portB) (addCorr m y.2.2.1) else ptpOut (bump s1 R.PTP_TC_MISS_COUNT) (!portB) m
  | none => { s with ptp := { s.ptp with held := s.ptp.held ++ [(portB, m)] } }

/-- A received PTP general message (R390, R392). It carries no stamp of the MAC, so its record's stamps are free (log 3). -/
def ptpGeneral (s : State) (portB : Bool) (m : List Byte) : State :=
  if !portUp s portB || !crossOk s (6 + b2n portB) || !crossOk s 9 then s
  else
    let ty := beAt m 0 1 % 16
    let dom := msgDomain s m
    let s1 := bump s (R.ETH_P_RX_COUNT (b2n portB))
    let tc := match dom with
      | some d => decide (cfgU s1 37 (d + 1) 2 1 = 1)
      | none => true
    let s2 := if !passesOn s1 dom ty || !ethForwards s1 then s1 else if decide (ty = 8) && tc then followUp s1 portB m else ptpOut s1 (!portB) m
    match dom with
    | none => s2
    | some d =>
      let f := fresh s2
      let g := fresh f.2
      ptpDeliver g.2 (ptpRecord f.1 g.1 (decide (d = 1)) portB false m)

/-- The oldest held Follow_Up has waited 10 ms for its Sync: it passes unchanged (R392). -/
def followUpLate (s : State) : State := match s.ptp.held with
  | [] => s
  | h :: t => ptpOut (bump { s with ptp := { s.ptp with held := t } } R.PTP_TC_MISS_COUNT) (!h.1) h.2

/-- PTP_TX (R398): each port that carries it gives an egress record. -/
def ptpTx (e : Entry) (s : State) : State × EntrySt :=
  withBuf e s (fun m =>
    let d := (msgDomain s m).getD (ptpSel s)
    let one (s : State) (b : Bool) : State :=
      if bitOf e.arg0 (b2n b) && portUp s b then
        ptpDeliver (ptpOut s b m) (ptpRecord (fineNs (domCnt s d) + 184) (ptNow s + 184) (decide (d = 1)) b true m)
      else s
    okR (one (one s false) true) 0)

/-! ### Rows -/

/-- PTP_EVENT_MESSAGE. -/
def execPtpEventMessage (portB : Bool) (msg : List Byte) (agoNs resNs : Nat) (s : State) : Host.Outcome State Fault Refusal :=
  .next (ptpEvent s portB msg agoNs resNs)
/-- PTP_GENERAL_MESSAGE. -/
def execPtpGeneralMessage (portB : Bool) (msg : List Byte) (s : State) : Host.Outcome State Fault Refusal := .next (ptpGeneral s portB msg)
/-- FOLLOW_UP_TIMEOUT. -/
def execFollowUpTimeout (s : State) : Host.Outcome State Fault Refusal := .next (followUpLate s)
/-- SELECT. -/
def execSelect (s : State) : Host.Outcome State Fault Refusal := .next (runEntry s 37 0x40 ptpSelect)
/-- DOM_STATE. -/
def execDomState (s : State) : Host.Outcome State Fault Refusal := .next (runEntry s 37 0x41 ptpDomState)
/-- STEP. -/
def execStep (s : State) : Host.Outcome State Fault Refusal := .next (runEntry s 37 0x42 ptpStepOp)
/-- PTP_TX. -/
def execPtpTx (s : State) : Host.Outcome State Fault Refusal := .next (runEntry s 37 0x43 ptpTx)
/-- SYNC_LOSS_TIMEOUT of a domain. -/
def execSyncLossTimeout (d : Nat) (s : State) : Host.Outcome State Fault Refusal := .next (syncLost s d)
/-- SLEW_END: the ticks have passed that bring S to 0 (R389; log 2). -/
def execSlewEnd (s : State) : Host.Outcome State Fault Refusal :=
  let per := ptpInc s (ptpSel s) * cfgU s 37 3 2 2
  .next (if s.ptp.s = 0 ∨ !ptpRuns s ∨ per = 0 then slewShow s else timePass s ((s.ptp.s.natAbs * 1000000 + per - 1) / per))
/-- ANCHOR_PUBLISH: every 256 ticks (R484). -/
def execAnchorPublish (s : State) : Host.Outcome State Fault Refusal := .next (if ptpRuns s then anchorOut s else s)

end Sys2Proof.Machine
end

