-- ==== Sys2Proof/Machine/Boot.lean ====
section
/-! DEFINITION. Image headers and the boot record (R423 to R427, R433, R437), the start-up (R71 to R74) and the reset scopes (R69, R70). -/

namespace Sys2Proof.Machine

open Sys2Proof

/-! ### Headers (R425, R426) -/

/-- An image slot of STOR. -/
def imgAt (s : State) (k : Nat) : ImgSlot := s.nv.imgs.getD k ⟨[], [], false⟩

/-- The TARGET of the kind that a slot holds (R423). -/
def slotTarget (k : Nat) : Nat := if k < 2 then 3 else 4
/-- The other slot of a slot's kind. -/
def otherSlot (k : Nat) : Nat := if k % 2 = 0 then k + 1 else k - 1

/-- Fields of a header: TARGET, SEC_LEVEL, VERSION, LENGTH, KEY_ID, PAIR_MIN. -/
def hdrTarget (h : List Byte) : Nat := fieldAt h 0x08 4
def hdrSec (h : List Byte) : Nat := fieldAt h 0x12 2
def hdrVersion (h : List Byte) : Nat := fieldAt h 0x14 4
def hdrLength (h : List Byte) : Nat := fieldAt h 0x18 4
def hdrKey (h : List Byte) : Nat := fieldAt h 0x1C 4
def hdrPairMin (h : List Byte) : Nat := fieldAt h 0x20 4
/-- A section's TYPE, VERSION, OFFSET, SLEN and SHA-256. -/
def secType (h : List Byte) (i : Nat) : Nat := fieldAt h (0x30 + 48 * i) 1
def secVersion (h : List Byte) (i : Nat) : Nat := fieldAt h (0x34 + 48 * i) 4
def secOfs (h : List Byte) (i : Nat) : Nat := fieldAt h (0x38 + 48 * i) 4
def secLen (h : List Byte) (i : Nat) : Nat := fieldAt h (0x3C + 48 * i) 4
def secSha (h : List Byte) (i : Nat) : List Byte := (h.drop (0x40 + 48 * i)).take 32
/-- How many sections an image of a TARGET has. -/
def nSect (h : List Byte) : Nat := if hdrTarget h = 3 then 2 else 1
/-- The section of a TYPE. -/
def secOf (h : List Byte) (ty : Nat) : Option Nat := (List.range (nSect h)).find? (fun i => decide (secType h i = ty))
/-- VERSION of the section of a TYPE, 0 where there is none. -/
def secVer (h : List Byte) (ty : Nat) : Nat := match secOf h ty with
  | some i => secVersion h i
  | none => 0

/-- The bytes of a hash. -/
def shaBytes (bs : List Byte) : List Byte := leBytes 32 (Config.sha256 bs).toNat

/-- Check 2: every byte marked 0 is 0. -/
def hdrZeros (h : List Byte) : Bool :=
  decide (fieldAt h 0x2D 3 = 0) && (List.range 3).all (fun i => decide (fieldAt h (0x31 + 48 * i) 3 = 0)) && ((h.drop 0xE0).take 224).all (fun b => decide (b = 0))

/-- Check 6: LENGTH and the section table. -/
def hdrSections (h : List Byte) : Bool :=
  let n := nSect h
  let span (i : Nat) : Nat × Nat := (secOfs h i, secLen h i)
  decide (1 ≤ hdrLength h) && decide (hdrLength h ≤ 67108352) && decide (fieldAt h 0x2C 1 = n)
  && (if hdrTarget h = 3 then (secOf h 1).isSome && (secOf h 2).isSome else (secOf h 3).isSome)
  && (List.range n).all (fun i => decide (secOfs h i + secLen h i ≤ hdrLength h))
  && (List.range n).all (fun i => (List.range n).all (fun j => decide (i = j) || !spansMeet (span i).1 (span i).2 (span j).1 (span j).2))
  && (List.range 3).all (fun i => decide (i < n) || ((h.drop (0x30 + 48 * i)).take 48).all (fun b => decide (b = 0)))

/-- The public key of a header's KEY_ID, where the key is known and allowed for the kind (R423, R461, R462). -/
def hdrPub (s : State) (h : List Byte) : Option (List Byte) :=
  if hdrTarget h = 3 then (if hdrKey h ∈ relLive s then some (relPub (hdrKey h)) else none)
  else (operKey s (hdrKey h) rightImage).map OpKey.pub

/-- The boot record in use (R424). -/
def bootRec (s : State) : BootRec := (cfgNewest s).boot
/-- A slot's state (R424). -/
def slotSt (s : State) (k : Nat) : Nat := (bootRec s).st.getD k 0
def slotEmpty : Nat := 0
def slotReceiving : Nat := 1
def slotValid : Nat := 2
def slotRunning : Nat := 3
def slotFallback : Nat := 4
def slotTrial : Nat := 5
def slotBad : Nat := 6
def slotRetired : Nat := 7

/-- The floor of a kind (R426). -/
def floorOf (s : State) (target : Nat) : Nat := if target = 3 then (bootRec s).floorSys else (bootRec s).floorApp

/-- The cause for which a header is refused (R426): the first check that fails. `sig` says whether a public key verifies its
signature. -/
def hdrCause (s : State) (h : List Byte) (sig : List Byte → Bool) : Option Nat :=
  let hw := Config.hwRev.toNat
  if fieldAt h 0 4 ≠ 0x4B56554F ∨ fieldAt h 4 2 ≠ 1 ∨ fieldAt h 6 2 ≠ 512 then some 1
  else if !hdrZeros h then some 2
  else if hdrTarget h ≠ 3 ∧ hdrTarget h ≠ 4 then some 3
  else if fieldAt h 0x0C 2 ≠ 0x7220 then some 4
  else if hw < fieldAt h 0x0E 2 ∨ fieldAt h 0x10 2 < hw then some 5
  else if !hdrSections h then some 6
  else match hdrPub s h with
    | none => some 7
    | some pub =>
      if !sig pub then some 8
      else if hdrSec h < floorOf s (hdrTarget h) then some 9
      else none

/-- The signature of a header as received (R425). -/
def hdrSigned (h : List Byte) (pub : List Byte) : Bool := Config.ecdsaOk pub (h.take 0x1C0) ((h.drop 0x1C0).take 64)

/-- Whether every hash of an image matches (R427). -/
def imgHashes (h data : List Byte) : Bool :=
  decide (shaBytes data = (h.drop 0xC0).take 32)
  && (List.range (nSect h)).all (fun i => decide (shaBytes ((data.drop (secOfs h i)).take (secLen h i)) = secSha h i))

/-! ### The boot record (R424, R437) -/

/-- UPD's view of the boot record and of the images held (R441). -/
def updShow (s : State) : State :=
  let b := bootRec s
  let st (k : Nat) : Nat := b.st.getD k 0
  let s1 := put (put (put (put s R.UPD_BOOT_SYS_RUN (decide (st 1 = slotRunning))) R.UPD_BOOT_APP_RUN (decide (st 3 = slotRunning)))
    R.UPD_BOOT_SYS_TRIAL (decide (st 0 = slotTrial) || decide (st 1 = slotTrial))) R.UPD_BOOT_APP_TRIAL (decide (st 2 = slotTrial) || decide (st 3 = slotTrial))
  let s2 := wr (wr (wr s1 R.UPD_BOOT_TRIAL_CNT b.trials) R.UPD_FLOOR_SYS b.floorSys) R.UPD_FLOOR_APP b.floorApp
  (List.range 4).foldl (fun s k =>
    let h := if st k = slotEmpty then [] else (imgAt s k).hdr
    wr (wr (wr s (R.UPD_SLOT_STATE k) (st k)) (R.UPD_SLOT_SEC_LEVEL k) (hdrSec h)) (R.UPD_VER_VERSION k) (hdrVersion h)) s2

/-- The boot record changed in both copies, one after the other (R424, R437); a refused write changes nothing (R441). -/
def bootStore (s : State) (f : BootRec → BootRec) : State :=
  if !storTakes s then errRise s R.UPD_ERR_STOR 0 0
  else
    let g (c : CfgCopy) : CfgCopy := { c with boot := f c.boot }
    updShow (cfgStore (cfgStore s g) (fun c => c))

/-- A slot's state replaced. -/
def slotPut (s : State) (k st : Nat) : State := bootStore s (fun b => { b with st := b.st.set k st })

/-- Whether a slot's image passes at boot (R433): its header under R426, its kind, and its hashes as they were found when the image was
verified. -/
def slotBoots (s : State) (k : Nat) : Bool :=
  (hdrCause s (imgAt s k).hdr (fun _ => (imgAt s k).ok)).isNone && decide (hdrTarget (imgAt s k).hdr = slotTarget k)

/-- The slot of a kind (its lower slot a) that boots (R433): TRIAL, or RUNNING where none is; one that fails becomes BAD, and the kind's
other image in use or kept takes its place. -/
def bootPick (s : State) (a : Nat) : State × Option Nat :=
  let first := match [a, a + 1].find? (fun k => decide (slotSt s k = slotTrial)) with
    | some k => some k
    | none => [a, a + 1].find? (fun k => decide (slotSt s k = slotRunning))
  match first with
  | none => (s, none)
  | some k =>
    if slotBoots s k then (s, some k)
    else
      let s1 := slotPut s k slotBad
      let o := otherSlot k
      if (slotSt s1 o = slotFallback ∨ slotSt s1 o = slotRunning) ∧ slotBoots s1 o then
        (if slotSt s1 o = slotRunning then s1 else slotPut s1 o slotRunning, some o)
      else (s1, none)

/-- A restart while a slot is TRIAL is counted; after the second the slot is BAD and the kind's kept image runs again (R437). -/
def bootCount (s : State) : State :=
  let b := bootRec s
  if !b.st.any (fun x => decide (x = slotTrial)) then s
  else if b.trials < 1 then bootStore s (fun b => { b with trials := b.trials + 1 })
  else bootStore s (fun b =>
    let back (k : Nat) : Nat := if b.st.getD k 0 = slotFallback ∧ b.st.getD (otherSlot k) 0 = slotTrial then slotRunning
      else if b.st.getD k 0 = slotTrial then slotBad else b.st.getD k 0
    { b with st := (List.range 4).map back, trials := 0 })

/-- A slot still RECEIVING at start-up becomes EMPTY (R424). -/
def bootClean (s : State) : State :=
  if (bootRec s).st.any (fun x => decide (x = slotReceiving)) then
    bootStore s (fun b => { b with st := b.st.map (fun x => if x = slotReceiving then slotEmpty else x) })
  else s

/-- SP's boot ROM (R433, R121): the SYSTEM slot whose SAFETY section runs, and its VERSION. -/
def spBoot (s : State) : State :=
  let p := bootPick s 0
  let s1 := { p.1 with upd := { p.1.upd with spSlot := p.2, spOther := none } }
  let s2 := regSet s1 R.SYS_FW_VER_SP (match p.2 with
    | some k => BitVec.ofNat 32 (secVer (imgAt s1 k).hdr 1)
    | none => 0)
  safeBoot s2 p.2.isSome

/-! ### Reset scopes (R69) -/

/-- Whether a register is held in AON (R121, R123). -/
def aonReg (a : Nat) : Bool := decide (a = R.SYS_RESET_CAUSE) || (decide (blockBase .pwr ≤ a) && decide (a ≤ blockLast .pwr))

/-- A reset of POR or SYSTEM scope: every block at its reset values, but for STOR's contents, the tiles, and with SYSTEM scope AON; the
cables stay as they are. REC's records outlive it (R445). -/
def unitReset (s : State) (por : Bool) : State :=
  let kept := if por then [] else s.regs.filter (fun e => aonReg e.1)
  let aonIsl := !por && flag s R.CLK_ISL_ERR_AON
  let z := State.reset
  let s1 : State := { z with
    pending := s.pending, bus := s.bus, regs := kept, nv := s.nv, tiles := s.tiles, out := s.out, free := s.free
    power :=
      let ot := if por then 0 else s.power.ot
      { z.power with st := .start, ot := ot, otTicks := if por then 0 else s.power.otTicks, pc := s.power.pc,
                     wakeCfg := s.power.wakeCfg, drawFrom := ot }
    recd := { s.recd with writing := 0, buckets := [], nonce := none, sealedN := 0 }
    idk := { z.idk with burned := s.idk.burned, draws := s.idk.draws }
    chain := { ChainSt.init with cuts := s.chain.cuts }
    safe := { SafeSt.init with coilLow := s.safe.coilLow, loopOpen := s.safe.loopOpen } }
  wr (put s1 R.CLK_ISL_ERR_AON aonIsl) R.PWR_STATE_STATE 1

/-! ### The steps of the start-up (R71) -/

/-- Step 1: the oscillators and the domains run; every crossing has returned to its own mechanism but those of ports without a link
(R122, R485, R486). The supplies and the die are as they are found (R45, R123). -/
def startClocks (s : State) (env : Option StartEnv) : State :=
  let s1 := put (put (put (wr s R.CLK_STATUS_DOM_OK 0xF3F) R.CLK_STATUS_MAIN_OK true) R.CLK_STATUS_SP_OSC_OK true) R.CLK_STATUS_AON_OK true
  let s2 := wr (wr s1 R.CLK_XSTAT_TWO_FLOP 0x0C0) R.CLK_XRECOV_CNT_COUNT Config.crossingsAll.toNat
  match env with
  | none => s2
  | some e =>
    let s4 := supplyTake s2 e.sup
    { s4 with safe := { s4.safe with coilLow := decide (e.sup.coilMv < 8000), loopOpen := e.loopOpen }
              tiles := (s4.tiles.zipIdx).map (fun tk =>
                if tk.2 ∈ e.lowStack then { tk.1.toSleep with present := decide (tk.2 < e.tiles), supplyLow := true, held := true }
                else { tk.1 with present := decide (tk.2 < e.tiles), held := false }) }

/-- What STOR cannot read at a start-up (R76, R77): a configuration copy with an uncorrectable read fails its check, and a record of
the cell history with one is lost. -/
def startUe (s : State) (env : Option StartEnv) : State :=
  match env with
  | none => s
  | some e => { s with nv := { s.nv with
      cfgA := { s.nv.cfgA with ok := s.nv.cfgA.ok && !bitOf e.cfgUe 0 }
      cfgB := { s.nv.cfgB with ok := s.nv.cfgB.ok && !bitOf e.cfgUe 1 }
      hist := pickIdx s.nv.hist (fun i => decide (i ∉ e.histUe)) } }

/-- STOR at start-up (R76, R77): the newer copy whose check passes; what it holds comes into force. -/
def startStor (s : State) : State :=
  let none' := !s.nv.cfgA.ok && !s.nv.cfgB.ok
  let s1 := put (put (put s R.STOR_STATUS_READY true) R.STOR_STATUS_CFG_COPY (!s.nv.useA && s.nv.cfgB.ok)) R.STOR_STATUS_CFG_NONE none'
  let s2 := put s1 R.STOR_STATUS_LAST_FLUSH_OK s.nv.flushOk
  if none' then s2
  else
    let c := cfgNewest s2
    let s3 := { s2 with cfg := c.items
                        bal := { s2.bal with taps := c.taps }
                        chain := { s2.chain with trims := c.trims }
                        est := { s2.est with chem := c.chem } }
    let s4 := wr (eisPlan s3 c.plan c.phase false) R.RED_EPOCH_EPOCH c.epoch
    let s5 := match c.chem with
      | some ch => put (wr s4 R.EST_CHEM_ID_ID ch.id) R.EST_STATUS_CHEM_OK true
      | none => s4
    eisShow (put s5 R.BAL_STATUS_MODE (decide (cfgU s5 14 1 0 1 = 1)))

/-- OT48 and PC24 committed: a change to the configuration area (R67, R75, R76). -/
def timesCommit (s : State) : State := cfgStore s (fun c => { c with ot48 := otNow s, pc24 := pcNow s })

/-- Operating time and power-cycle count at a POR (R16, R71): both as committed, and PC24 rises and is committed. -/
def startTimes (s : State) (por : Bool) : State :=
  if por then
    let c := cfgNewest s
    timesCommit { s with power := { s.power with ot := c.ot48, drawFrom := c.ot48, pc := min (c.pc24 + 1) (2 ^ 24 - 1) } }
  else s

/-- The items that stay in force where no service firmware is valid (R73): what the set and the pair are. The engines stay unconfigured
(DEDUCED, log 32). -/
def startUnconfigured (s : State) : State :=
  if s.upd.spSlot.isSome then s
  else
    let s1 := { s with cfg := s.cfg.filter (fun e => decide (e.1 = itemKey 12 1) || decide (e.1 = itemKey 32 1) || decide (e.1 = itemKey 36 1))
                       bal := { s.bal with taps := List.replicate 24 none }
                       est := { s.est with chem := none } }
    eisShow (put (put (wr (eisPlan s1 none none false) R.EST_CHEM_ID_ID 0) R.EST_STATUS_CHEM_OK false) R.BAL_STATUS_MODE (decide (cfgU s1 14 1 0 1 = 1)))

/-- REC from step 3 on (R445 to R449): after an unclean power-down SEQ resumes 4,097 past the last durable one with a LOST record; then
START, then the RESET record of a SYSTEM-scope start-up, then what STOR found. `down` where the unit was off or in WATCH before. -/
def startRec (s : State) (por down : Bool) (row : Nat) (env : Option StartEnv) : State :=
  let lost := down && !s.nv.flushOk
  let burst (l : Nat) : Nat := if l < 2 then 8 else if l = 2 then 16 else 64
  let shared := [0, 1, 2, 3].map (fun l => { src := 0, code := 0, level := l, tokens := burst l * 100000, at48 := otNow s, suppr := 0 : Bucket })
  let next := if lost then (s.recd.stored + 4096) % 2 ^ 32 else if down then s.recd.stored else s.recd.nextSeq
  let s1 := { s with recd := { s.recd with nextSeq := next, buf := if down then [] else s.recd.buf, lost := if down then [] else s.recd.lost,
                                           shared := shared } }
  let s2 := put s1 R.REC_STATUS_RUN true
  let s3 := if lost then recAlways s2 17 0x0004 2 2 s.recd.stored 4096 else s2
  let s4 := recAlways s3 17 0x0001 0 (b2n (!por)) (regGet s3 R.SYS_RESET_CAUSE).toNat (rd s3 R.PWR_WAKE_SRC_SRC)
  let s5 := if lost then errRise s4 R.REC_ERR_UNCLEAN 0 0 else s4
  let s6 := if por then s5 else record s5 25 0x2001 2 0 row 0
  let ue (p : StartEnv → Bool) : Bool := (env.map p).getD false
  let s7 := if ue (fun e => !e.histUe.isEmpty) then errRise s6 R.STOR_ERR_HIST_UE 0 0 else s6
  let s8 := if ue (fun e => decide (e.cfgUe % 4 ≠ 0)) then errRise s7 R.STOR_ERR_CFG_UE 0 0 else s7
  if flag s8 R.STOR_STATUS_CFG_NONE then errRise s8 R.STOR_ERR_CFG_NONE 0 0 else s8

/-- Steps 4 to 8 on the unit that commands the chain, or on a member of a pair that listens (R71, R74). -/
def startEngines (s : State) (env : Option StartEnv) : State :=
  let single := !setPair s
  let s1 := if single then wr s R.RED_STATUS_ROLE roleSingle else s
  let s2 := stlStart (safeSetRead s1)
  let m := env.map (fun e => (e.tAB, e.tBA, e.marks))
  let s3 := if single then chainUp s2 ((env.map StartEnv.noLock).getD []) m else put s2 R.CHAIN_STATUS_RUN true
  let s4 := safeArm s3
  let s5 := put (put (put s4 R.MEAS_STATUS_RUN true) R.BAL_STATUS_RUN true) R.PTP_STATUS_RUN true
  let s6 := put s5 R.PTP_STATUS_SEL (decide (cfgU s5 37 3 1 1 = 1))
  estStart (hvmStart s6)

/-- The start-up (R71): `row` of R70 and CAUSE of R121; `fresh` where the reset itself made a slot TRIAL (R439), which is no attempt
counted under R437. -/
def startUp (s : State) (por : Bool) (cause row : Nat) (down fresh : Bool) (env : Option StartEnv) : State :=
  let s1 := startTimes (startStor (startUe (startClocks (unitReset s por) env) env)) por
  let s2 := put (wr s1 R.SYS_RESET_CAUSE_CAUSE cause) R.SYS_RESET_CAUSE_UNCLEAN (!s1.nv.flushOk)
  let s3 := idkStart (put s2 R.QMGR_GSTATUS_READY true)
  let s4 := startRec s3 por down row env
  let s5 := updShow (spBoot (bootClean (if fresh then s4 else bootCount s4)))
  startEngines (startUnconfigured s5) env

end Sys2Proof.Machine
end

