-- ==== Sys2Proof/Machine/Pepper.lean ====
section
/-! DEFINITION. PEPPER: arming and disarming its slots (R502 to R507). What an armed slot does to an act is in Ops. -/

namespace Sys2Proof.Machine

open Sys2Proof

/-- Whether TARGET, KIND and INST form a row of R503 and AMOUNT keeps its bound (R503, R504). -/
def pepperRowOk (target kind inst ns : Nat) : Bool :=
  let cap (m : Nat) := decide (ns ≤ m)
  match target with
  | 1 => decide (inst < 46) && decide (kind ∈ [1, 2, 3]) && cap 10000000
  | 2 => decide (inst < 46) && decide (kind ∈ [1, 2]) && cap 10000000
  | 3 => isStream inst && decide (kind = 3) && cap 10000000
  | 4 => decide (inst < 2) && decide (kind ∈ [1, 2, 3]) && cap 10000000
  | 5 => decide (inst < 3) && decide (kind = 3) && cap 10000000
  | 6 => decide (inst = 0) && decide (kind ∈ [1, 2]) && cap 10000000
  | 7 => decide (inst < 26) && decide (kind = 1) && cap 10000
  | 8 => decide (inst = 0) && decide (kind ∈ [1, 2]) && cap 10000000
  | 9 => decide (inst < 24) && decide (kind = 4) && cap 10000000
  | 10 => decide (inst = 0) && decide (kind ∈ [1, 2]) && cap 10000000
  | 11 => decide (inst = 0) && decide (kind = 1) && cap 200000
  | _ => false

/-- Whether every slot must be disarmed: HOLDUP or WATCH, a WATCH entry accepted, a UPD handover, or PEPPER locked (R506). -/
def pepperAllOff (s : State) : Bool :=
  decide (s.power.st ≠ .start) && decide (s.power.st ≠ .run) || decide (s.power.watchEntry ≠ 0) || flag s R.UPD_STATUS_HO_RUN
  || blockLocked s .pepper

/-- The forced disarms that are due (R506). -/
def pepperForce (s : State) : State :=
  (List.range 8).foldl (fun s k =>
    if pepperAllOff s || (pepperClassS s k && !pepperSOk s) then pepperDisarm s k true else s) s

/-- ENABLE on QP43: arm a slot (R505, R507). -/
def pepperEnable (e : Entry) (s : State) : State × EntrySt :=
  let k := e.arg0
  if blockLocked s .pepper then failR s 0x07
  else if pepperAllOff s || (pepperClassS s k && !pepperSOk s) then failR s 0x06
  else if !pepperRowOk (rd s (R.PEPPER_S_CFG_TARGET k)) (rd s (R.PEPPER_S_CFG_KIND k)) (rd s (R.PEPPER_S_CFG_INST k))
      (rd s (R.PEPPER_S_AMOUNT_NS k)) then failR (errRise s R.PEPPER_ERR_CFG k 0) 0x40
  else if flag s (R.PEPPER_S_STAT_ARMED k) then okR s 0
  else
    let seed := rd s R.PEPPER_SEED_SEED
    let s1 := { s with pepper := { lfsr := s.pepper.lfsr.set k (if seed = 0 then 1 else seed), armT := s.pepper.armT.set k s.power.ticks } }
    let s2 := put (put s1 (R.PEPPER_S_STAT_ARMED k) true) (R.PEPPER_S_STAT_FORCED_OFF k) false
    okR (errRise (putBit s2 R.PEPPER_STATUS_ARMED k true) R.PEPPER_ERR_ARMED k 0) 0

/-- DISABLE on QP43: disarm a slot (R505). -/
def pepperDisable (e : Entry) (s : State) : State × EntrySt := okR (pepperDisarm s e.arg0 false) 0

/-- PEPPER_FORCED_DISARM: the disarms that are due take place; a condition of class S that ceases disarms by itself (pepperFollow). -/
def execPepperForcedDisarm (s : State) : Host.Outcome State Fault Refusal := .next (pepperForce s)

/-- PEPPER_DUR_EXPIRY: a slot's DUR_S have passed since it was armed (R506). -/
def execPepperDurExpiry (k : Nat) (s : State) : Host.Outcome State Fault Refusal := .next (pepperDisarm s k false)

end Sys2Proof.Machine
end

