-- ==== Sys2Proof/Machine/Upd.lean ====
section
/-! DEFINITION. UPD: reception and forwarding of images (R427 to R432), cluster handover, hold window, commit and rollback (R434 to
R437), the pair update (R438, R439), and QP4 and QP5 (R428, R440). -/

namespace Sys2Proof.Machine

open Sys2Proof

/-! ### Reports and refusals (R426, R432) -/

/-- A report to QP4, or its loss (R432). -/
def updReport (s : State) (kind slot cause src : Nat) (h : List Byte) : State :=
  streamOr s 4 (leBytes 8 (ptNow s) ++ leBytes 1 kind ++ leBytes 1 slot ++ leBytes 1 cause ++ zeros 1 ++ leBytes 2 src ++ zeros 2
      ++ leBytes 4 (hdrVersion h) ++ padTo 8 ((h.drop 0xC0).take 8) ++ zeros 4)
    (fun s => errRise s R.UPD_ERR_LOST 0 0)

/-- The source address that stands for the host (R432). -/
def updHost : Nat := 0xFFFF

/-- A header is refused: LAST_REFUSE, REFUSE_CNT, its record and its report (R426, R432). -/
def hdrRefuse (s : State) (cause src : Nat) (h : List Byte) : State :=
  updReport (errRise (bump (wr s R.UPD_LAST_REFUSE_CAUSE cause) R.UPD_REFUSE_CNT_COUNT) R.UPD_ERR_HDR 0 cause) 3 0 cause src h

/-! ### Reception (R424, R427, R428) -/

/-- The slot that takes a reception of a kind: neither RUNNING nor TRIAL, and not FALLBACK beside a TRIAL (R424). -/
def rxSlot (s : State) (target : Nat) : Option Nat :=
  let a := if target = 3 then 0 else 2
  match [a, a + 1].find? (fun k => decide (slotSt s k ≠ slotRunning) && decide (slotSt s k ≠ slotTrial)) with
  | some k => if slotSt s k = slotFallback ∧ slotSt s (otherSlot k) = slotTrial then none else some k
  | none => none

/-- How many chunks an image of a LENGTH has, and how long chunk j is (R428). -/
def chunkCount (len : Nat) : Nat := (len + 65535) / 65536
def chunkLen (len j : Nat) : Nat := if j + 1 = chunkCount len then len - 65536 * j else 65536

/-- A reception begins (R426, R428). -/
def rxBegin (s : State) (slot src xfer : Nat) (h : List Byte) : State :=
  let s1 := slotPut { s with nv := { s.nv with imgs := s.nv.imgs.set slot ⟨h, [], false⟩ } } slot slotReceiving
  let s2 := { s1 with upd := { s1.upd with rx := some { slot := slot, src := src, xfer := xfer, next := 0, frags := [], verifying := false } } }
  let s3 := wr (wr (put s2 R.UPD_STATUS_RX true) R.UPD_RX_PROG_DONE 0) R.UPD_RX_PROG_TOTAL (chunkCount (hdrLength h))
  wr (put (wr s3 R.UPD_RX_SRC_ADDR (if src = updHost then 0 else src)) R.UPD_RX_SRC_HOST (decide (src = updHost))) R.UPD_RX_SRC_SLOT slot

/-- A reception is over. -/
def rxEnd (s : State) : State := put { s with upd := { s.upd with rx := none } } R.UPD_STATUS_RX false

/-- Chunk `next` is written to the slot. -/
def rxWrite (s : State) (r : UpdRx) (bs : List Byte) : State :=
  let im := imgAt s r.slot
  let s1 := storCount (pepperWait s 6 0) bs.length
  let s2 := { s1 with nv := { s1.nv with imgs := s1.nv.imgs.set r.slot { im with data := im.data ++ bs } }
                      upd := { s1.upd with rx := some { r with next := r.next + 1, frags := r.frags.filter (fun f => decide (f.1 ≠ r.next)) } } }
  wr s2 R.UPD_RX_PROG_DONE (r.next + 1)

/-! ### Forwarding (R429 to R431) -/

/-- The opcodes of a frame (R429). -/
def opOffer : Nat := 1
def opAccept : Nat := 2
def opRefuse : Nat := 3
def opData : Nat := 4
def opChunkAck : Nat := 5
def opChunkNak : Nat := 6
def opDone : Nat := 7
def opCancel : Nat := 8
def opQuery : Nat := 9
def opInfo : Nat := 10

/-- A UPD frame on the ring (R429). -/
def updSend (s : State) (dst op xfer chunk frag cause ver : Nat) (sha data : List Byte) : State :=
  ethHardware s 3 0x30 dst (leBytes 1 op ++ zeros 1 ++ leBytes 2 xfer ++ leBytes 2 chunk ++ leBytes 1 frag ++ leBytes 1 cause
    ++ leBytes 2 data.length ++ zeros 2 ++ leBytes 4 ver ++ padTo 16 (sha.take 16) ++ data)

/-- A frame about the image of a header. -/
def updAbout (s : State) (dst op xfer chunk frag cause : Nat) (h data : List Byte) : State :=
  updSend s dst op xfer chunk frag cause (hdrVersion h) ((h.drop 0xC0).take 16) data

/-- The fragments of a chunk are sent. -/
def fwdChunk (s : State) (f : UpdFwd) (j : Nat) : State :=
  let im := imgAt s f.slot
  let bs := (im.data.drop (65536 * j)).take (chunkLen (hdrLength im.hdr) j)
  (List.range ((bs.length + 1023) / 1024)).foldl (fun s i =>
    updAbout s f.dst opData f.xfer j i 0 im.hdr ((bs.drop (1024 * i)).take 1024)) s

/-- How many chunks of a slot may be sent on: those whose own write has been acknowledged (R431). -/
def fwdReady (s : State) (f : UpdFwd) : Nat := match s.upd.rx with
  | some r => if r.slot = f.slot then r.next else chunkCount (hdrLength (imgAt s f.slot).hdr)
  | none => chunkCount (hdrLength (imgAt s f.slot).hdr)

/-- Chunks go out while the window has room; after the last acknowledgment DONE follows (R430). At most `n` chunks. -/
def fwdPump : Nat → State → State
  | 0, s => s
  | n + 1, s =>
    match s.upd.fwd with
    | none => s
    | some f =>
      let total := chunkCount (hdrLength (imgAt s f.slot).hdr)
      if !f.accepted || f.done then s
      else if f.next < fwdReady s f ∧ f.unacked.length < cfgU s 4 1 1 1 then
        let s1 := { s with upd := { s.upd with fwd := some { f with next := f.next + 1, unacked := f.unacked ++ [(f.next, 1)] } } }
        fwdPump n (fwdChunk s1 f f.next)
      else if f.next = total ∧ f.unacked.isEmpty then
        let s1 := { s with upd := { s.upd with fwd := some { f with done := true, unacked := [(0xFFFF, 1)] } } }
        updAbout s1 f.dst opDone f.xfer 0 0 0 (imgAt s f.slot).hdr []
      else s

/-- The window has changed. -/
def fwdGo (s : State) : State := fwdPump 6 s

/-- A forwarding begins with its OFFER (R430, R431). -/
def fwdStart (s : State) (slot dst : Nat) : State :=
  let x := s.upd.xfer
  let s1 := { s with upd := { s.upd with xfer := (x + 1) % 65536, fwd := some { slot := slot, dst := dst, xfer := x, accepted := false, done := false,
                                                                                  unacked := [(0xFFFF, 1)], next := 0, acked := 0 } } }
  updAbout (put s1 R.UPD_STATUS_FWD true) dst opOffer x 0 0 0 (imgAt s1 slot).hdr (imgAt s1 slot).hdr

/-- The STATUS and RESULT_EXT with which FORWARD completes for a CAUSE of R429 (R440; DESIGN CHOICE, log 26). -/
def causeStatus (c : Nat) : Nat × Nat :=
  if c = 0 then (0, 0) else if c ≤ 9 then (0x40, c) else if c = 10 then (0x43, c) else if c = 11 then (0x44, c) else if c = 12 then (0x41, c) else (6, c)

/-- A forwarding ends: done (CAUSE 0), or ended by the neighbour or by time (R431, R432). -/
def fwdEnd (s : State) (f : UpdFwd) (cause : Nat) : State :=
  let h := (imgAt s f.slot).hdr
  let s1 := put { s with upd := { s.upd with fwd := none } } R.UPD_STATUS_FWD false
  let s2 := if cause = 0 then updReport s1 4 f.slot 0 f.dst h else updReport (errRise s1 R.UPD_ERR_FWD_END f.slot cause) 5 f.slot cause f.dst h
  finishEntry s2 4 (Entry.runs 0x44) (causeStatus cause).1 f.acked (causeStatus cause).2

/-- What waits for an answer is sent again, or after 5 attempts the transfer is cancelled (R430). -/
def fwdRetry (s : State) (c : Nat) : State :=
  match s.upd.fwd with
  | none => s
  | some f =>
    match f.unacked.find? (fun u => decide (u.1 = c)) with
    | none => s
    | some u =>
      let h := (imgAt s f.slot).hdr
      if 5 ≤ u.2 then fwdEnd (updAbout s f.dst opCancel f.xfer 0 0 13 h []) f 13
      else
        let f1 := { f with unacked := f.unacked.map (fun v => if v.1 = c then (v.1, v.2 + 1) else v) }
        let s1 := bump { s with upd := { s.upd with fwd := some f1 } } R.UPD_RETRY_CNT_COUNT
        if c ≠ 0xFFFF then fwdChunk s1 f1 c
        else if f.done then updAbout s1 f.dst opDone f.xfer 0 0 0 h []
        else updAbout s1 f.dst opOffer f.xfer 0 0 0 h h

/-- The reception ends with an empty slot; a forwarding of it is cancelled (R430, R431). -/
def rxDrop (s : State) (r : UpdRx) (cause : Nat) : State :=
  let s1 := slotPut (rxEnd s) r.slot slotEmpty
  match s1.upd.fwd with
  | some f => if f.slot = r.slot then fwdEnd (updAbout s1 f.dst opCancel f.xfer 0 0 cause (imgAt s1 f.slot).hdr []) f cause else s1
  | none => s1

/-! ### QP4 (R428) -/

/-- IMG_BEGIN. -/
def imgBegin (e : Entry) (s : State) : State × EntrySt :=
  withBuf e s (fun h =>
    match hdrCause s h (hdrSigned h) with
      | some c => failX (hdrRefuse s c updHost h) 0x40 c
      | none =>
        match rxSlot s (hdrTarget h) with
        | none => failR s 0x42
        | some k =>
          if s.upd.rx.isSome then failR s 0x43
          else if !storTakes s then failR (errRise s R.UPD_ERR_STOR 0 0) 0x44 else okR (rxBegin s k updHost 0 h) k)

/-- IMG_CHUNK. -/
def imgChunk (e : Entry) (s : State) : State × EntrySt :=
  match s.upd.rx with
  | none => failR s 0x06
  | some r =>
    let len := hdrLength (imgAt s r.slot).hdr
    if r.src ≠ updHost ∨ r.verifying then failR s 0x06
    else if chunkCount len ≤ e.arg0 ∨ r.next < e.arg0 ∨ e.len ≠ chunkLen len e.arg0 then failR s 0x05
    else withBuf e s (fun bs =>
      if e.arg0 < r.next then okR s r.next
      else if !storTakes s then failR (errRise s R.UPD_ERR_STOR 0 0) 0x44
      else okR (fwdGo (rxWrite s r bs)) (r.next + 1))

/-- IMG_END: the payload is read back (R427). -/
def imgEnd (_ : Entry) (s : State) : State × EntrySt :=
  match s.upd.rx with
  | none => failR s 0x06
  | some r =>
    if r.src ≠ updHost ∨ r.verifying ∨ r.next ≠ chunkCount (hdrLength (imgAt s r.slot).hdr) then failR s 0x06
    else ({ s with upd := { s.upd with rx := some { r with verifying := true } } }, .running r.slot)

/-- IMG_ABORT. -/
def imgAbort (_ : Entry) (s : State) : State × EntrySt :=
  match s.upd.rx with
  | none => failR s 0x06
  | some r => if r.src ≠ updHost ∨ r.verifying then failR s 0x06 else okR (rxDrop s r 13) r.slot

/-- The read-back has ended (R427); `readErr` on an uncorrectable read in the slot. -/
def imgVerified (s : State) (readErr : Bool) : State :=
  match s.upd.rx with
  | none => s
  | some r =>
    if !r.verifying then s
    else
      let im := imgAt s r.slot
      let s0 := if readErr then errRise s R.STOR_ERR_IMG_UE r.slot 0 else s
      let good := !readErr && imgHashes im.hdr im.data
      let s1 := rxEnd s0
      if !storTakes s1 then
        let s2 := errRise s1 R.UPD_ERR_STOR 0 0
        if r.src = updHost then finishEntry s2 4 (Entry.runs 0x42) 0x44 0 0 else updAbout s2 r.src opCancel r.xfer 0 0 11 im.hdr []
      else if good then
        let s2 := slotPut { s1 with nv := { s1.nv with imgs := s1.nv.imgs.set r.slot { im with ok := true } } } r.slot slotValid
        let s3 := updReport s2 2 r.slot 0 r.src im.hdr
        if r.src = updHost then finishEntry s3 4 (Entry.runs 0x42) 0 r.slot 0 else updAbout s3 r.src opChunkAck r.xfer 0xFFFF 0 0 im.hdr []
      else
        let s2 := errRise (slotPut s1 r.slot slotBad) R.UPD_ERR_HASH r.slot 0
        if r.src = updHost then finishEntry s2 4 (Entry.runs 0x42) 0x41 0 0 else updAbout s2 r.src opCancel r.xfer 0 0 12 im.hdr []

/-- FORWARD. -/
def imgForward (e : Entry) (s : State) : State × EntrySt :=
  let st := slotSt s e.arg0
  if st ≠ slotValid ∧ st ≠ slotRunning then failR s 0x06
  else if s.upd.fwd.isSome then failR s 0x43
  else (fwdStart s e.arg0 e.arg1, .running e.arg0)

/-! ### Frames from the ring (R430, R431, R438) -/

/-- Fields of a UPD frame's header. -/
def updXfer (p : List Byte) : Nat := fieldAt p 2 2
def updChunk (p : List Byte) : Nat := fieldAt p 4 2

/-- A frame dropped (R430). -/
def updDropped (s : State) : State := bump s R.UPD_RETRY_CNT_COUNT

/-- OFFER. -/
def takeOffer (s : State) (src : Nat) (p : List Byte) : State :=
  let h := (p.drop 32).take 512
  let refuse (s : State) (c : Nat) : State := updAbout s src opRefuse (updXfer p) 0 0 c h []
  if cfgU s 4 1 4 1 ≠ 1 ∨ h.length ≠ 512 then s
  else match s.upd.rx with
    | some r =>
      if r.src = src ∧ r.xfer = updXfer p ∧ r.next = 0 then updAbout s src opAccept (updXfer p) 0 0 0 h [] else refuse s 10
    | none =>
      match hdrCause s h (hdrSigned h) with
      | some c => refuse (hdrRefuse s c src h) c
      | none =>
        match rxSlot s (hdrTarget h) with
        | none => refuse s 10
        | some k =>
          if !storTakes s then refuse (errRise s R.UPD_ERR_STOR 0 0) 11
          else
            let s1 := updReport (rxBegin s k src (updXfer p) h) 1 k 0 src h
            let s2 := updAbout s1 src opAccept (updXfer p) 0 0 0 h []
            if cfgU s2 4 1 0 1 = 1 ∧ cfgU s2 4 1 2 2 ≠ 0xFFFF ∧ s2.upd.fwd.isNone then fwdStart s2 k (cfgU s2 4 1 2 2) else s2

/-- The forwarding that a frame answers. -/
def fwdFor (s : State) (src : Nat) (p : List Byte) : Option UpdFwd := match s.upd.fwd with
  | some f => if f.dst = src ∧ f.xfer = updXfer p then some f else none
  | none => none

/-- ACCEPT. -/
def takeAccept (s : State) (src : Nat) (p : List Byte) : State := match fwdFor s src p with
  | some f => if f.accepted then s else fwdGo { s with upd := { s.upd with fwd := some { f with accepted := true, unacked := [] } } }
  | none => s

/-- REFUSE. -/
def takeRefuse (s : State) (src : Nat) (p : List Byte) : State := match fwdFor s src p with
  | some f => fwdEnd s f (fieldAt p 7 1)
  | none => s

/-- The bytes of a chunk, where every fragment of it is here. -/
def chunkHeld (r : UpdRx) (len j : Nat) : Option (List Byte) :=
  let n := (chunkLen len j + 1023) / 1024
  let part (i : Nat) : Option (List Byte) := (r.frags.find? (fun f => decide (f.1 = j) && decide (f.2.1 = i))).map (fun f => f.2.2)
  if (List.range n).all (fun i => (part i).isSome) then some ((List.range n).flatMap (fun i => (part i).getD [])) else none

/-- Chunks that are whole are written in rising order, each with its answer (R430); at most `n` of them. -/
def rxDrain : Nat → State → State
  | 0, s => s
  | n + 1, s =>
    match s.upd.rx with
    | none => s
    | some r =>
      let h := (imgAt s r.slot).hdr
      if chunkCount (hdrLength h) ≤ r.next then s
      else match chunkHeld r (hdrLength h) r.next with
        | none => s
        | some bs =>
          if !storTakes s then
            let r1 := { r with frags := r.frags.filter (fun f => decide (f.1 ≠ r.next)) }
            updAbout (errRise { s with upd := { s.upd with rx := some r1 } } R.UPD_ERR_STOR 0 0) r.src opChunkNak r.xfer r.next 0 11 h []
          else rxDrain n (fwdGo (updAbout (rxWrite s r bs) r.src opChunkAck r.xfer r.next 0 0 h []))

/-- DATA. -/
def takeData (s : State) (src : Nat) (p : List Byte) : State := match s.upd.rx with
  | none => updDropped s
  | some r =>
    let h := (imgAt s r.slot).hdr
    let j := updChunk p
    let i := fieldAt p 6 1
    let want := min 1024 (chunkLen (hdrLength h) j - 1024 * i)
    let bs := (p.drop 32).take (fieldAt p 8 2)
    if r.src ≠ src ∨ r.xfer ≠ updXfer p ∨ r.verifying ∨ chunkCount (hdrLength h) ≤ j ∨ bs.length ≠ want ∨ want = 0 then updDropped s
    else if j < r.next then updAbout s src opChunkAck r.xfer j 0 0 h []
    else if r.frags.any (fun f => decide (f.1 = j) && decide (f.2.1 = i)) then s
    else rxDrain 8 { s with upd := { s.upd with rx := some { r with frags := r.frags ++ [(j, i, bs)] } } }

/-- CHUNK_ACK. -/
def takeAck (s : State) (src : Nat) (p : List Byte) : State := match fwdFor s src p with
  | none => s
  | some f =>
    if f.done then (if updChunk p = 0xFFFF then fwdEnd s f 0 else s)
    else if f.accepted && f.unacked.any (fun u => decide (u.1 = updChunk p)) then
      fwdGo { s with upd := { s.upd with fwd := some { f with unacked := f.unacked.filter (fun u => decide (u.1 ≠ updChunk p)), acked := f.acked + 1 } } }
    else s

/-- CHUNK_NAK. -/
def takeNak (s : State) (src : Nat) (p : List Byte) : State := match fwdFor s src p with
  | some f => if f.accepted && !f.done then fwdRetry s (updChunk p) else s
  | none => s

/-- DONE. -/
def takeDone (s : State) (src : Nat) (p : List Byte) : State := match s.upd.rx with
  | none => updDropped s
  | some r =>
    if r.src = src ∧ r.xfer = updXfer p ∧ r.next = chunkCount (hdrLength (imgAt s r.slot).hdr) then
      { s with upd := { s.upd with rx := some { r with verifying := true } } }
    else updDropped s

/-- CANCEL: of the reception by its sender, or of the forwarding by its receiver. -/
def takeCancel (s : State) (src : Nat) (p : List Byte) : State := match fwdFor s src p with
  | some f => fwdEnd s f (fieldAt p 7 1)
  | none =>
    match s.upd.rx with
    | some r => if r.src = src ∧ r.xfer = updXfer p then rxDrop s r (fieldAt p 7 1) else s
    | none => s

/-- The running SYSTEM version (R429, R438): that of the image whose SAFETY section runs. -/
def sysVersion (s : State) : Nat := match s.upd.spSlot with
  | some k => hdrVersion (imgAt s k).hdr
  | none => 0

/-- QUERY. -/
def takeQuery (s : State) (src : Nat) (p : List Byte) : State := updSend s src opInfo (updXfer p) 0 0 0 (sysVersion s) [] []

/-! ### Clusters (R69, R434) -/

/-- The register of a cluster's service firmware. -/
def fwVerOf (c : Nat) : Fld := if c = 0 then R.SYS_FW_VER_A_VER else R.SYS_FW_VER_B_VER

/-- A cluster is reset under APP scope (R69): its firmware no longer runs; everything else goes on. -/
def clusterReset (s : State) (c : Nat) : State :=
  let s1 := bumpSat s (if c = 0 then R.SYS_RST_CNT_APP_A else R.SYS_RST_CNT_APP_B)
  wr { s1 with upd := { s1.upd with svc := s1.upd.svc.set c false } } (fwVerOf c) 0

/-- The cluster that owns the engines (R24). -/
def engineOwner (s : State) : Nat := ownerOf s 2

/-- A cluster's service firmware runs: its version (R121). -/
def clusterRuns (s : State) (c ver : Nat) : State :=
  wr { s with upd := { s.upd with svc := s.upd.svc.set c true } } (fwVerOf c) ver

/-- Every owner bit of an engine's queue pair passes to a cluster; QP44 and QP45 stay (R24, R434). Pending interrupts go to it (R108). -/
def ownAll (s : State) (c : Nat) : State :=
  let s1 := wr (wr s R.QMGR_OWNER0_OWNER (if c = 0 then 0 else 0xFFFFFFFF)) R.QMGR_OWNER1_OWNER ((if c = 0 then 0 else 0xFFF) + 0x2000)
  ((List.range 44).filter (fun qp => bitIn s1 (irqPendFld qp) (qp % 32))).foldl (fun s qp => emit s .irq [c, qp] []) s1

/-- The handover's step (R441). -/
def hoStep (s : State) (n : Nat) : State := wr s R.UPD_STATUS_HO_STEP n

/-- The handover is over. -/
def updHoEnd (s : State) : State :=
  let s1 := put (wr (wr (put s R.UPD_STATUS_HO_RUN false) R.UPD_STATUS_HO_KIND 0) R.UPD_STATUS_HO_STEP 0) R.UPD_STATUS_SP_STAGED false
  { s1 with upd := { s1.upd with ho := none, await := none, query := none, spOther := none, winTrip := false } }

/-- Step 1 of R434: the slot is TRIAL, the new cluster boots, and SP stages the SAFETY section of a SYSTEM slot. -/
def updHoStart (s : State) (slot : Nat) : State × EntrySt :=
  let old := engineOwner s
  let s1 := bootStore s (fun b => { b with st := b.st.set slot slotTrial, trials := 0 })
  let ho : UpdHo := { slot := slot, pair := false, old := old, ready := false, swapped := false, windowDone := false, back := false }
  let s2 := clusterReset { s1 with upd := { s1.upd with ho := some ho, query := none } } (1 - old)
  let staged := decide (slotTarget slot = 3) && slotBoots s2 slot
  let s3 := put { s2 with upd := { s2.upd with spOther := if staged then some slot else none } } R.UPD_STATUS_SP_STAGED staged
  (pepperForce (hoStep (wr (put s3 R.UPD_STATUS_HO_RUN true) R.UPD_STATUS_HO_KIND 1) 1), .running slot)

/-- A handover that fails before step 4 (R434): the new cluster is held in reset, the slot is VALID again, ACTIVATE completes. -/
def updHoAbort (s : State) (h : UpdHo) : State :=
  let step := rd s R.UPD_STATUS_HO_STEP
  let s1 := slotPut (updHoEnd (clusterReset s (1 - h.old))) h.slot slotValid
  finishEntry (errRise s1 R.UPD_ERR_HO_ABORT h.slot 0) 5 (Entry.runs 0x40) 0x45 0 step

/-- Whether the new image brings new safety firmware (step 5 of R434): the SAFETY section differs in SHA-256 from the running one. -/
def newSafety (s : State) (slot : Nat) : Bool :=
  decide (slotTarget slot = 3) &&
    (let sha (k : Nat) : List Byte := match secOf (imgAt s k).hdr 1 with
      | some i => secSha (imgAt s k).hdr i
      | none => []
     match s.upd.spSlot with
     | some k => decide (sha slot ≠ sha k)
     | none => true)

/-! ### QP5 (R440) -/

/-- A pair member goes on with ACTIVATE once the partner's version is known to suit (R438, R439). The answer tells a SYSTEM-scope reset
into the slot, which the caller makes. -/
def updPairGo (s : State) (slot : Nat) (cluster : Bool) : State × EntrySt × Bool :=
  if role s = roleStandby then
    (bootStore { s with upd := { s.upd with query := none } } (fun b => { b with st := b.st.set slot slotTrial, trials := 0 }), .done 0 slot 0, true)
  else if role s ≠ roleActive then (updHoEnd s, .done 6 0 0, false)
  else if cluster then
    let r := updHoStart s slot
    (r.1, r.2, false)
  else if s.red.hoWhy ≠ 0 then (updHoEnd s, .done 0x43 0 0, false)
  else
    let ho : UpdHo := { slot := slot, pair := true, old := engineOwner s, ready := false, swapped := false, windowDone := false, back := false }
    let s1 := wr (put { s with upd := { s.upd with ho := some ho, await := some slot, query := none } } R.UPD_STATUS_HO_RUN true) R.UPD_STATUS_HO_KIND 2
    (pepperForce (hoStart s1 2), .running slot, false)

/-- ACTIVATE (R434, R438, R439). A running entry's note is its slot, and 8 more for ARG1 [0]. -/
def updActivate (e : Entry) (s : State) : State × EntrySt :=
  let k := e.arg0
  if setPair s && decide (role s ≠ roleStandby) && decide (role s ≠ roleActive) then failR s 0x06
  else if s.upd.ho.isSome || s.upd.query.isSome then failR s 0x43
  else if slotSt s k ≠ slotValid then failR s 0x49
  else if !storTakes s then failR (errRise s R.UPD_ERR_STOR 0 0) 0x44
  else if !setPair s || decide (slotTarget k = 4) then updHoStart s k
  else
    let x := s.upd.xfer
    let s1 := { s with upd := { s.upd with xfer := (x + 1) % 65536, query := some k } }
    (updSend s1 (cfgU s 32 1 4 2) opQuery x 0 0 0 (sysVersion s) [] [], .running (k + 8 * (e.arg1 % 2)))

/-- READY is taken: the new cluster's service firmware runs, and step 3 of R434 begins. -/
def readyTake (s : State) (h : UpdHo) : State :=
  let sys := match [0, 1].find? (fun k => decide (slotSt s k = slotTrial)) with
    | some k => some k
    | none => [0, 1].find? (fun k => decide (slotSt s k = slotRunning))
  let s1 := clusterRuns { s with upd := { s.upd with ho := some { h with ready := true } } } (1 - h.old)
    (match sys with
    | some k => secVer (imgAt s k).hdr 2
    | none => 0)
  hoStep s1 3

/-- READY on QP5: only from the new cluster, once, before SWAP. -/
def updReady (e : Entry) (s : State) : State × EntrySt :=
  match s.upd.ho with
  | none => failR s 0x06
  | some h =>
    if h.pair || h.ready || decide (clusterOf e.level ≠ some (1 - h.old)) then failR s 0x06
    else okR (readyTake s h) 0

/-- The new cluster's report where no READY entry stands at the front of QP5: it owns no queue pair and R91 takes no doorbell from it, so
its report reaches UPD without an entry (DEDUCED, log 26). -/
def readyReport (s : State) : State := match s.upd.ho with
  | none => s
  | some h => if h.pair || h.ready || !fullUp s then s else readyTake s h

/-- Whether the next entry to start on QP5 is READY. -/
def readyWaits (s : State) : Bool := match frontIdx (qpAt s 5).entries with
  | none => false
  | some i => ((qpAt s 5).entries[i]?).any (fun e => decide (e.opc = 0x41))

/-- SWAP: only from the old cluster, after READY. -/
def updSwap (e : Entry) (s : State) : State × EntrySt :=
  match s.upd.ho with
  | none => failR s 0x06
  | some h =>
    if h.pair || !h.ready || h.swapped || decide (clusterOf e.level ≠ some h.old) then failR s 0x06
    else
      let window := newSafety s h.slot
      let s1 := ownAll { s with upd := { s.upd with ho := some { h with swapped := true, windowDone := !window } } } (1 - h.old)
      okR (finishEntry (hoStep s1 (if window then 5 else 6)) 5 (Entry.runs 0x40) 0 h.slot 0) (1 - h.old)

/-- A commit (R437, R426): TRIAL becomes RUNNING, the previous RUNNING slot FALLBACK, and the floor of the kind rises. -/
def updCommitSlot (s : State) (k : Nat) : State :=
  let sec := hdrSec (imgAt s k).hdr
  let o := otherSlot k
  let oSec := hdrSec (imgAt s o).hdr
  bootStore s (fun b =>
    let was := b.st.getD o 0
    let now := if was = slotRunning then slotFallback else was
    let now1 := if now = slotFallback ∧ oSec < sec then slotRetired else now
    { b with st := (b.st.set k slotRunning).set o now1, floorSys := if slotTarget k = 3 then sec else b.floorSys,
             floorApp := if slotTarget k = 4 then sec else b.floorApp, trials := 0 })

/-- COMMIT of a cluster handover: the old cluster is held in reset (R434). -/
def updCommitHo (s : State) (h : UpdHo) : State := updHoEnd (clusterReset (updCommitSlot s h.slot) h.old)

/-- COMMIT: from the new cluster; it waits for the hold window of step 5 (log 26). After a restart into a TRIAL slot, from the owner. -/
def updCommit (e : Entry) (s : State) : State × EntrySt :=
  match s.upd.ho with
  | some h =>
    if h.pair || !h.swapped || h.back || decide (clusterOf e.level ≠ some (1 - h.old)) then failR s 0x06
    else if !h.windowDone then (s, .running h.slot)
    else if !storTakes s then failR (errRise s R.UPD_ERR_STOR 0 0) 0x44
    else okR (updCommitHo s h) h.slot
  | none =>
    match (List.range 4).find? (fun k => decide (slotSt s k = slotTrial)) with
    | none => failR s 0x06
    | some k =>
      if clusterOf e.level ≠ some (engineOwner s) then failR s 0x06
      else if !storTakes s then failR (errRise s R.UPD_ERR_STOR 0 0) 0x44
      else okR (updCommitSlot s k) k

/-- R436: ownership goes back, the new cluster is held in reset, the slot is BAD; where new safety firmware runs, a further hold window
restores the old. A COMMIT that waits completes with a STATUS. -/
def updRollback (s : State) (h : UpdHo) (status : Nat) : State :=
  let s1 := clusterReset (ownAll s h.old) (1 - h.old)
  let s2 := errRise (bump (slotPut s1 h.slot slotBad) R.UPD_ROLLBACK_CNT_ROLLBACK) R.UPD_ERR_ROLLBACK h.slot 0
  let s3 := finishEntry s2 5 (Entry.runs 0x43) status 0 0
  if s3.upd.spSlot = some h.slot then
    hoStep { s3 with upd := { s3.upd with ho := some { h with swapped := false, ready := false, back := true } } } 5
  else updHoEnd s3

/-- ROLLBACK: after step 4 (R436). -/
def updRollbackOp (_ : Entry) (s : State) : State × EntrySt :=
  match s.upd.ho with
  | none => failR s 0x06
  | some h =>
    if h.pair || !h.swapped || flag s R.UPD_STATUS_HOLD_WIN then failR s 0x06
    else okR (updRollback s h 6) h.slot

/-! ### The hold window (R435) -/

/-- Whether the window may open. -/
def windowMay (s : State) : Bool :=
  setOk s && decide (s.safe.seq ≠ 1) && decide (s.safe.seq ≠ 2) && !flag s R.SAFE_RST_HIGH_RUN && s.safe.stlHigh.isNone && storTakes s
  && s.upd.spOther.isSome && !flag s R.UPD_STATUS_HOLD_WIN && !s.upd.winTrip && fullUp s

/-- Whether the handover waits for a window: step 5, or the return of R436. -/
def windowDue (s : State) : Bool := match s.upd.ho with
  | some h => !h.pair && ((h.swapped && !h.windowDone) || h.back)
  | none => false

/-- HOLD_WINDOW_OPEN. -/
def windowOpen (s : State) : State :=
  if !windowDue s || !windowMay s then s
  else
    put (put { s with upd := { s.upd with winFrom := some s.power.ticks } } R.UPD_STATUS_HOLD_WIN true) R.SAFE_STATUS_HOLD_WIN true

/-- How long the window has been open, in µs. -/
def windowUs (s : State) : Nat := roundNat (s.power.ticks - s.upd.winFrom.getD s.power.ticks) 250

/-- The window is over: its length, and every held sweep evaluated in order (R327). -/
def windowShut (s : State) : State :=
  let us := windowUs s
  let s1 := wr (put (put s R.UPD_STATUS_HOLD_WIN false) R.SAFE_STATUS_HOLD_WIN false) R.UPD_HOLD_LAST_US_US us
  spEvaluate { s1 with upd := { s1.upd with winFrom := none } } (max 1 ((us + 999) / 1000))

/-- SP resumes the old firmware, or has resumed it at a trip (R435): the handover goes to rollback with SP_REVERT. -/
def windowRevert (s : State) : State :=
  if !flag s R.UPD_STATUS_HOLD_WIN && !s.upd.winTrip then s
  else
    let s0 := if flag s R.UPD_STATUS_HOLD_WIN then windowShut s else s
    let s1 := errRise (bump { s0 with upd := { s0.upd with winTrip := false } } R.UPD_ROLLBACK_CNT_REVERT) R.UPD_ERR_SP_REVERT 0 0
    match s1.upd.ho with
    | some h => if h.back then s1 else updRollback s1 h 0x46
    | none => s1

/-- The new firmware's check of the set (step 3 of R435). -/
def windowCheck (s : State) : Bool :=
  setCheckOk s.safe.set && decide (setCheckOf s.safe.set = rd s R.SAFE_SET_CHECK_CHECK) && (setRange s s.safe.set).isNone

/-- HOLD_WINDOW_END: the firmware of the other bank runs on (R435); the bank it left is kept. After a trip there is no window left, and
the old firmware stays (R38). -/
def windowEnd (s : State) : State :=
  if !flag s R.UPD_STATUS_HOLD_WIN then windowRevert s
  else if !windowCheck s || decide (38000 ≤ windowUs s) then windowRevert s
  else
    let new := s.upd.spOther
    let s1 := windowShut { s with upd := { s.upd with spSlot := new, spOther := s.upd.spSlot } }
    let s2 := regSet s1 R.SYS_FW_VER_SP (match new with
      | some k => BitVec.ofNat 32 (secVer (imgAt s1 k).hdr 1)
      | none => 0)
    match s2.upd.ho with
    | none => s2
    | some h =>
      if h.back then updHoEnd s2
      else
        let s3 := hoStep { s2 with upd := { s2.upd with ho := some { h with windowDone := true } } } 6
        if !hasEntry s3 5 (Entry.runs 0x43) then s3
        else if !storTakes s3 then finishEntry (errRise s3 R.UPD_ERR_STOR 0 0) 5 (Entry.runs 0x43) 0x44 0 0
        else finishEntry (updCommitHo s3 h) 5 (Entry.runs 0x43) 0 h.slot 0

/-- BOOT_S, XFER_S, HOLD_WAIT_S or CONFIRM_S has run out (R434, R435). -/
def updTimeout (s : State) : State := match s.upd.ho with
  | none => s
  | some h =>
    if s.upd.winTrip then windowRevert s
    else if h.pair || h.back || flag s R.UPD_STATUS_HOLD_WIN then s
    else if !h.swapped then updHoAbort s h
    else updRollback s h 6

/-- A cluster is reset under APP scope while a handover runs (R434, R436, R442). -/
def updClusterLost (s : State) (c : Nat) : State := match s.upd.ho with
  | none => s
  | some h =>
    if h.pair || h.back || decide (c ≠ 1 - h.old) then s
    else if h.swapped then (if flag s R.UPD_STATUS_HOLD_WIN || s.upd.winTrip then windowRevert s else updRollback s h 6)
    else updHoAbort s h

/-- An APP-scope reset of a cluster by a source of R70: counted and recorded. -/
def appReset (s : State) (c row : Nat) : State :=
  updClusterLost (record (clusterReset s c) 25 0x2001 2 (2 + c) row 0) c

/-! ### The partner's version (R438) -/

/-- INFO. A unit that must restart into the slot is told to, with its slot. -/
def takeInfo (s : State) (src : Nat) (p : List Byte) : State × Option Nat := match s.upd.query with
  | none => (s, none)
  | some k =>
    if src ≠ cfgU s 32 1 4 2 then (s, none)
    else
      let cluster := hasEntry s 5 (fun e => Entry.runs 0x40 e && decide (8 ≤ e.note))
      if fieldAt p 0x0C 4 < hdrPairMin (imgAt s k).hdr then (finishEntry (updHoEnd s) 5 (Entry.runs 0x40) 0x47 0 0, none)
      else
        let r := updPairGo s k cluster
        match r.2.1 with
        | .done st res ext => (finishEntry r.1 5 (Entry.runs 0x40) st res ext, if r.2.2 then some k else none)
        | _ => (r.1, none)

/-- The SYSTEM-scope reset of a pair update into its slot (R439): row 5 of R70, by the host. -/
def updRestart (s : State) : State := startUp s false 5 5 false true none

/-- The planned handover of a pair update has made the unit STANDBY: ACTIVATE completes and the unit restarts into the slot (R439). -/
def updStandby (s : State) : State := match s.upd.await with
  | none => s
  | some k =>
    if role s ≠ roleStandby ∨ s.red.hoWhy ≠ 2 then s
    else
      let s1 := bootStore s (fun b => { b with st := b.st.set k slotTrial, trials := 0 })
      updRestart (finishEntry s1 5 (Entry.runs 0x40) 0 k 0)

/-- A UPD frame that reaches the module (R429). -/
def updReceive (s : State) (src : Nat) (p : List Byte) : State :=
  let op := fieldAt p 0 1
  if !fullUp s || decide (p.length < 32) then s
  else if op = opOffer then takeOffer s src p
  else if op = opAccept then takeAccept s src p
  else if op = opRefuse then takeRefuse s src p
  else if op = opData then takeData s src p
  else if op = opChunkAck then takeAck s src p
  else if op = opChunkNak then takeNak s src p
  else if op = opDone then takeDone s src p
  else if op = opCancel then takeCancel s src p
  else if op = opQuery then takeQuery s src p
  else if op = opInfo then
    (let r := takeInfo s src p
     if r.2.isSome then updRestart r.1 else r.1)
  else s

/-- UPD at the entry to HOLDUP (R67, R442): receptions and forwardings end where they stand, a hold window reverts, and a cluster handover
is given up, its slot left as the boot record has it. -/
def updHoldup (s : State) : State :=
  let s1 := windowRevert s
  let s2 := put (put { s1 with upd := { s1.upd with rx := none, fwd := none, query := none } } R.UPD_STATUS_RX false) R.UPD_STATUS_FWD false
  let s3 := finishEntry (finishEntry s2 4 (Entry.runs 0x42) 6 0 0) 4 (Entry.runs 0x44) 6 0 0
  match s3.upd.ho with
  | none => s3
  | some h =>
    if h.pair then s3
    else
      let step := rd s3 R.UPD_STATUS_HO_STEP
      let s4 := errRise (updHoEnd s3) R.UPD_ERR_HO_ABORT h.slot 0
      finishEntry (finishEntry s4 5 (Entry.runs 0x40) 0x45 0 step) 5 (Entry.runs 0x43) 6 0 0

/-! ### Rows -/

/-- IMG_BEGIN. -/
def execImgBegin (s : State) : Host.Outcome State Fault Refusal := .next (runEntry s 4 0x40 imgBegin)
/-- IMG_CHUNK. -/
def execImgChunk (s : State) : Host.Outcome State Fault Refusal := .next (runEntry s 4 0x41 imgChunk)
/-- IMG_END. -/
def execImgEnd (s : State) : Host.Outcome State Fault Refusal := .next (runEntry s 4 0x42 imgEnd)
/-- IMAGE_VERIFIED; `readErr` where the read-back met an uncorrectable error. -/
def execImageVerified (readErr : Bool) (s : State) : Host.Outcome State Fault Refusal := .next (if fullUp s then imgVerified s readErr else s)
/-- IMG_ABORT. -/
def execImgAbort (s : State) : Host.Outcome State Fault Refusal := .next (runEntry s 4 0x43 imgAbort)
/-- FORWARD. -/
def execForward (s : State) : Host.Outcome State Fault Refusal := .next (runEntry s 4 0x44 imgForward)
/-- A row of a received frame: the frame as it came, where it is of the row's kind. -/
def updRow (s : State) (op src : Nat) (p : List Byte) : Host.Outcome State Fault Refusal :=
  .next (if fieldAt p 0 1 = op then updReceive s src p else s)
/-- OFFER. -/
def execOffer (src : Nat) (frame : List Byte) (s : State) : Host.Outcome State Fault Refusal := updRow s opOffer src frame
/-- ACCEPT. -/
def execAccept (src : Nat) (frame : List Byte) (s : State) : Host.Outcome State Fault Refusal := updRow s opAccept src frame
/-- REFUSE. -/
def execRefuse (src : Nat) (frame : List Byte) (s : State) : Host.Outcome State Fault Refusal := updRow s opRefuse src frame
/-- DATA. -/
def execData (src : Nat) (frame : List Byte) (s : State) : Host.Outcome State Fault Refusal := updRow s opData src frame
/-- CHUNK_ACK. -/
def execChunkAck (src : Nat) (frame : List Byte) (s : State) : Host.Outcome State Fault Refusal := updRow s opChunkAck src frame
/-- CHUNK_NAK. -/
def execChunkNak (src : Nat) (frame : List Byte) (s : State) : Host.Outcome State Fault Refusal := updRow s opChunkNak src frame
/-- CHUNK_RETRY_TIMEOUT: of a chunk, or (0xFFFF) of an OFFER or DONE. -/
def execChunkRetryTimeout (chunk : Nat) (s : State) : Host.Outcome State Fault Refusal := .next (if fullUp s then fwdRetry s chunk else s)
/-- DONE. -/
def execDone (src : Nat) (frame : List Byte) (s : State) : Host.Outcome State Fault Refusal := updRow s opDone src frame
/-- CANCEL. -/
def execCancel (src : Nat) (frame : List Byte) (s : State) : Host.Outcome State Fault Refusal := updRow s opCancel src frame
/-- QUERY. -/
def execQuery (src : Nat) (frame : List Byte) (s : State) : Host.Outcome State Fault Refusal := updRow s opQuery src frame
/-- INFO. -/
def execInfo (src : Nat) (frame : List Byte) (s : State) : Host.Outcome State Fault Refusal := updRow s opInfo src frame
/-- ACTIVATE. -/
def execActivate (s : State) : Host.Outcome State Fault Refusal := .next (runEntry s 5 0x40 updActivate)
/-- READY: the entry that waits, or the new cluster's report itself. -/
def execReady (s : State) : Host.Outcome State Fault Refusal :=
  .next (if readyWaits s then runEntry s 5 0x41 updReady else readyReport s)
/-- SWAP. -/
def execSwap (s : State) : Host.Outcome State Fault Refusal := .next (runEntry s 5 0x42 updSwap)
/-- COMMIT. -/
def execCommit (s : State) : Host.Outcome State Fault Refusal := .next (runEntry s 5 0x43 updCommit)
/-- ROLLBACK. -/
def execRollback (s : State) : Host.Outcome State Fault Refusal := .next (runEntry s 5 0x44 updRollbackOp)
/-- HOLD_WINDOW_OPEN. -/
def execHoldWindowOpen (s : State) : Host.Outcome State Fault Refusal := .next (windowOpen s)
/-- HOLD_WINDOW_END. -/
def execHoldWindowEnd (s : State) : Host.Outcome State Fault Refusal := .next (windowEnd s)
/-- HOLD_WINDOW_REVERT. -/
def execHoldWindowRevert (s : State) : Host.Outcome State Fault Refusal := .next (windowRevert s)
/-- HANDOVER_TIMEOUT. -/
def execHandoverTimeout (s : State) : Host.Outcome State Fault Refusal := .next (updTimeout s)
/-- PEER_QUERY_TIMEOUT (R438). -/
def execPeerQueryTimeout (s : State) : Host.Outcome State Fault Refusal :=
  .next (if s.upd.query.isSome then finishEntry (updHoEnd s) 5 (Entry.runs 0x40) 0x48 0 0 else s)

/-- BEACON_RECEIVE: a frame by its path (0 pair link, 1 ring, 2 J5-3 and J5-4) and ring address. -/
def execBeaconReceive (path src : Nat) (frame : List Byte) (s : State) : Host.Outcome State Fault Refusal := .next (redReceive s path src frame)
/-- GRANT. -/
def execGrant (path src : Nat) (frame : List Byte) (s : State) : Host.Outcome State Fault Refusal := .next (redReceive s path src frame)
/-- DENY. -/
def execDeny (path src : Nat) (frame : List Byte) (s : State) : Host.Outcome State Fault Refusal := .next (redReceive s path src frame)
/-- ACK: it may end the planned handover of a pair update. -/
def execAck (path src : Nat) (frame : List Byte) (s : State) : Host.Outcome State Fault Refusal := .next (updStandby (redReceive s path src frame))

end Sys2Proof.Machine
end

