-- ==== Sys2Proof/Machine/Eth.lean ====
section
/-! DEFINITION. ETH as frames reach it: delivery, removal and forwarding (R379 to R381), links and ring-state notices (R384, R387), QP33
to QP36 (R396, R397), and QP41 (R477). -/

namespace Sys2Proof.Machine

open Sys2Proof

/-! ### Breaks (R387, R400) -/

/-- BREAK and RING_OK as they follow the links and the records. -/
def ringShow (s : State) : State :=
  let d := s.eth.down
  let s1 := put (wr s R.ETH_BREAK_POS ((List.range 64).find? (fun p => decide (p ∈ d)) |>.getD 0)) R.ETH_BREAK_VALID (!d.isEmpty)
  put s1 R.ETH_STATUS_RING_OK (linkUp s false && linkUp s true && d.isEmpty)

/-- A ring-state notice: a down link is recorded under the position whose ETH-B it concerns, an UP notice clears it. -/
def noticeTake (s : State) (p : List Byte) : State :=
  let n := nRing s
  let pos := fieldAt p 0 1
  let l := if fieldAt p 1 1 = 1 then pos else (pos + n - 1) % n
  let rest := s.eth.down.filter (fun x => decide (x ≠ l))
  ringShow { s with eth := { s.eth with down := if fieldAt p 2 1 = 1 then rest else l :: rest } }

/-- The notice of a port's link, from a port that has one (R387). -/
def noticeSend (s : State) (portB up : Bool) : State :=
  let other := !portB
  let go (s : State) (b : Bool) : State :=
    let s1 := ethCount s
    let pay := leBytes 1 (posOf (ethAddr s)) ++ leBytes 1 (b2n portB) ++ leBytes 1 (b2n up) ++ zeros 1 ++ leBytes 4 s1.eth.rseq
    ethCopy s1 b 1 (ringOf (ethAddr s) * 64 + 2 ^ 14) 0x0F (nRing s - 1) s1.eth.rseq false pay
  if portUp s other then go s other else if portUp s portB then go s portB else s

/-! ### Links (R384, R397, R400, R485) -/

/-- A port's link goes up or down: its status, its domain, its error bits, and the notice. `verified` is the outcome of the verify
procedure. -/
def linkChange (s0 : State) (portB up verified : Bool) : State :=
  let p := b2n portB
  if linkUp s0 portB = up ∨ (up ∧ s0.eth.on.getD p false = false) then s0
  else
    let s := perfSync s0
    let pre := up && verified && decide (cfgU s 36 (2 + p) 1 1 = 1)
    let s1 := put (put s (if portB then R.ETH_STATUS_LINK_B else R.ETH_STATUS_LINK_A) up)
      (if portB then R.ETH_STATUS_PREEMPT_B else R.ETH_STATUS_PREEMPT_A) pre
    let s2 := putBit s1 R.CLK_STATUS_DOM_OK (6 + p) up
    let s3 := if up then s2 else putBit s2 R.CLK_XSTAT_TWO_FLOP (6 + p) true
    let s4 := if up then (if pre then s3 else errRise s3 R.ETH_ERR_NO_PREEMPT p 0)
      else errRise s3 (if portB then R.ETH_ERR_LINK_B else R.ETH_ERR_LINK_A) p 0
    ringShow (noticeSend s4 portB up)

/-- ENABLE and DISABLE on QP36 (R397, R122). -/
def ethEnable (e : Entry) (s : State) : State × EntrySt :=
  if e.arg0 = 1 ∧ flag s R.CLK_GATE_ETHB_OFF then failR s 0x06
  else
    let s1 := { s with eth := { s.eth with on := s.eth.on.set e.arg0 true } }
    okR (put s1 (if e.arg0 = 1 then R.ETH_STATUS_MASTER_B else R.ETH_STATUS_MASTER_A) (decide (cfgU s 36 (2 + e.arg0) 0 1 = 1))) 0
def ethDisable (e : Entry) (s : State) : State × EntrySt :=
  let s1 := linkChange s (decide (e.arg0 = 1)) false false
  let s2 := { s1 with eth := { s1.eth with on := s1.eth.on.set e.arg0 false } }
  okR (put s2 (if e.arg0 = 1 then R.ETH_STATUS_MASTER_B else R.ETH_STATUS_MASTER_A) false) 0

/-! ### A received frame (R379 to R381) -/

/-- The class of a service (R379); none for a value that is not assigned. -/
def svcClass (svc : Nat) : Option Nat :=
  if svc = 1 ∨ svc = 2 then some 0
  else if svc = 0x0F ∨ (0x10 ≤ svc ∧ svc ≤ 0x1E) then some 1
  else if 0x20 ≤ svc ∧ svc ≤ 0x2F then some 2
  else if 0x30 ≤ svc ∧ svc ≤ 0x3F then some 3
  else none

/-- Whether a frame's header is a Rinpacon header whose class is its service's (R378, R379). -/
def ringHdrOk (fr : List Byte) : Bool :=
  let cls := bits (fieldAt fr 18 1) 5 4
  decide (34 ≤ fr.length) && decide (fr.take 6 = [0x03, 0x4B, 0x53, 0x43, 0x00, 0x00]) && decide (beAt fr 12 2 = 0x8100) && decide (beAt fr 16 2 = 0x88B6) && decide (fieldAt fr 18 1 % 16 = 1)
  && decide (fieldAt fr 18 1 / 64 = 0) && decide (svcClass (fieldAt fr 24 1) = some cls) && decide (4 ≤ fieldAt fr 30 2)
  && decide (fieldAt fr 30 2 ≤ 1484) && decide (34 + fieldAt fr 30 2 ≤ fr.length)

/-- A frame for a queue pair: its check value, then its record with the corrected ingress stamp (R391, R396, R476). -/
def ethDeliverQp (s : State) (portB : Bool) (agoNs : Nat) (fr : List Byte) : State :=
  let svc := fieldAt fr 24 1
  let src := fieldAt fr 22 2 % 2 ^ 14
  let cls := (svcClass svc).getD 1
  let c := crcIngress s svc src ((fr.drop 34).take (fieldAt fr 30 2))
  match c.1 with
  | none => c.2
  | some pay =>
    let bs := leBytes 8 (ptNow c.2 - agoNs - 232) ++ leBytes 2 src ++ leBytes 1 svc ++ leBytes 1 (b2n portB) ++ leBytes 2 pay.length
      ++ leBytes 1 (fieldAt fr 19 1) ++ zeros 1 ++ pay
    streamOr c.2 (32 + cls) (padTo 2048 bs) (fun s =>
      errRise (bump s (if cls = 1 then R.ETH_C1_LOST_COUNT else if cls = 2 then R.ETH_C2_LOST_COUNT else R.ETH_C3_LOST_COUNT))
        R.ETH_ERR_LOST (b2n portB) 0)

/-- A delivered frame goes to its service (R379). -/
def ethDeliver (s : State) (portB : Bool) (agoNs : Nat) (fr : List Byte) : State :=
  let svc := fieldAt fr 24 1
  let src := fieldAt fr 22 2 % 2 ^ 14
  let pay := (fr.drop 34).take (fieldAt fr 30 2)
  if svc = 1 then stlReceive s medRing src pay
  else if svc = 2 then updStandby (redReceive (ksReceive s 1 src pay) 1 src pay)
  else if svc = 0x0F then ethDeliverQp (noticeTake s pay) portB agoNs fr
  else if svc = 0x30 then updReceive s src pay
  else ethDeliverQp s portB agoNs fr

/-- A frame that failed its FCS at a port (R380, R381). -/
def fcsBad (s : State) (p : Nat) (counted : Bool) : State :=
  let s1 := errRise s R.ETH_ERR_FCS p 0
  if counted then bump s1 (R.ETH_P_FCS_ERR_COUNT p) else s1

/-- A frame on a port (R380, R381, R383). PAUSE and PFC frames (EtherType 0x8808 of IEEE 802.3) are dropped (R374), as is every frame
while the port's crossings are on the two-flop path (R485). -/
def ringFrame (s : State) (portB : Bool) (fr : List Byte) (r : RingIn) : State :=
  if !portUp s portB || !crossOk s (6 + b2n portB) then s
  else
    let p := b2n portB
    let s1 := bump s (R.ETH_P_RX_COUNT p)
    if beAt fr 12 2 = 0x8808 then s1
    else if !ringHdrOk fr then
      let s2 := errRise s1 R.ETH_ERR_HDR p 0
      if r.fcsOk then s2 else fcsBad s2 p true
    else
      let own := ethAddr s
      let dst := fieldAt fr 20 2
      let src := fieldAt fr 22 2 % 2 ^ 14
      let bcast := bitOf dst 14
      let hops := fieldAt fr 19 1
      let cls := bits (fieldAt fr 18 1) 5 4
      let mine := if bcast then decide (ringOf (dst % 2 ^ 14) = ringOf own) else decide (dst % 2 ^ 14 = own)
      let s2 := if r.fcsOk then (if mine then ethDeliver s1 portB r.agoNs fr else s1)
        else fcsBad s1 p (mine || decide (cls ≠ 0))
      let ends := (mine && !bcast) || decide (src = own)
      if ends then s2
      else if hops = 0 then bump s2 (R.ETH_P_HOP_DROP_COUNT p)
      else if (!r.fcsOk && decide (cls ≠ 0)) || !ethForwards s2 || !portUp s2 (!portB) then s2
      else
        let q := b2n (!portB)
        if r.full && decide (cls ≠ 0) then bump s2 (R.ETH_P_HOP_DROP_Q_DROP q)
        else
          let s3 := ethOut (pepperWait s2 4 q) (!portB) cls (b2n (!r.fcsOk)) (patch fr 19 (leBytes 1 (hops - 1)))
          let s4 := if r.fcsOk then s3 else bump s3 (R.ETH_P_STOMPED_COUNT q)
          let s5 := bumpBy s4 (R.ETH_P_PREEMPT_COUNT q) r.preempts
          if cls ≠ 0 then s5
          else wr (wr s5 (R.ETH_P_CL0_WAIT_CL0_WAIT_MAX q) (max (rd s5 (R.ETH_P_CL0_WAIT_CL0_WAIT_MAX q)) (min r.waitNs 65535)))
            (R.ETH_P_CL0_WAIT_RES_MAX q) (max (rd s5 (R.ETH_P_CL0_WAIT_RES_MAX q)) (min r.resNs 65535))

/-! ### Rows -/

/-- RINPACON_FRAME, with the frame as it came, without its FCS. -/
def execRinpaconFrame (portB : Bool) (frame : List Byte) (r : RingIn) (s : State) : Host.Outcome State Fault Refusal :=
  .next (ringFrame s portB frame r)
/-- LINK_CHANGE. -/
def execLinkChange (portB up verified : Bool) (s : State) : Host.Outcome State Fault Refusal :=
  .next (if blocksUp s then linkChange s portB up verified else s)
/-- RING_STATE_NOTICE. -/
def execRingStateNotice (payload : List Byte) (s : State) : Host.Outcome State Fault Refusal :=
  .next (if blocksUp s then noticeTake s payload else s)
/-- BREAK_RECORD_EXPIRY. -/
def execBreakRecordExpiry (s : State) : Host.Outcome State Fault Refusal := .next (ringShow { s with eth := { s.eth with down := [] } })
/-- SEND on QP33 to QP35. -/
def execSend (qp : Nat) (s : State) : Host.Outcome State Fault Refusal :=
  .next (if 33 ≤ qp ∧ qp ≤ 35 then runEntry s qp 0x40 (ethSendOp qp) else s)

end Sys2Proof.Machine
end

