-- ==== Sys2Proof/Machine/Power.lean ====
section
/-! DEFINITION. Power states, HOLDUP and WATCH (R61 to R68), resets (R69, R70, R487), the draw (R79), QP0 (R520), and the clock domains'
crossings (R485, R486). -/

namespace Sys2Proof.Machine

open Sys2Proof

/-! ### States -/

/-- The power state with PWR.STATE (R63, R123). -/
def powerTo (s : State) (st : PState) (code : Nat) : State := wr { s with power := { s.power with st := st } } R.PWR_STATE_STATE code

/-- A rail event with what the monitors show, while the unit is supplied (R61, R446): in WATCH, where REC is off, PWR.EVT alone. -/
def railEvent (s : State) (f : Fld) (now : SupplyIn) : State :=
  if blocksUp s ∨ s.power.st = .watch then errRise (supplyTake s now) f 0 0 else s

/-- The unit is off (R63): what AON does not keep starts anew at the next start-up. -/
def unitOff (s : State) : State :=
  let s1 := unitReset s true
  { s1 with power := { s1.power with st := .off } }

/-! ### HOLDUP (R67, R68) -/

/-- A controller of CAN1 or CAN2 stops at the next bit, and finds the bus anew on return (R67); a DISABLE that waits for the frame's end
takes place (R418). -/
def canStop (s : State) (n : Nat) : State :=
  if canSt s n = canOff ∨ canSt s n = canBusOff ∨ canSt s n = canRecov then s
  else if (canAt s n).stopping then finishEntry (canLeave s n) (38 + n) (Entry.runs opDisable) 0 0 0
  else put (wr (canMod s n (fun c => { c with attempt := none, aloneRun := 0 })) (R.CAN_STATUS_STATE n) canInteg) (R.CAN_STATUS_TX_BUSY n) false

/-- Both clusters stop (R67). -/
def clustersStop (s : State) : State :=
  let s1 := { s with upd := { s.upd with svc := [false, false] } }
  wr (wr s1 R.SYS_FW_VER_A_VER 0) R.SYS_FW_VER_B_VER 0

/-- HOLDUP is entered from START or RUN; `ov` on over-voltage. -/
def holdupEnter (s : State) (ov : Bool) : State :=
  let s1 := clustersStop (updHoldup s)
  let s2 := powerTo { s1 with power := { s1.power with ov := ov, fromStart := decide (s1.power.st = .start) } } .ride 3
  let s3 := eisAbandon { s2 with est := { s2.est with gap := true } }
  let s4 := driveFollow s3
  pepperForce (canStop (canStop s4 1) 2)

/-- A power-fail or an over-voltage (R61, R64): in WATCH only the OT48 commit is left to do, as it is in a unit that a hot die holds in
reset (DEDUCED, log 32). -/
def powerFail (s : State) (ov : Bool) (now : SupplyIn) : State :=
  if (if ov then now.rail ≤ 36000 else 4000 ≤ now.rail) then s
  else if fullUp s then holdupEnter (supplyTake s now) ov
  else if s.power.st = .watch ∨ (s.power.st = .start ∧ s.power.dieHot) then
    powerTo { supplyTake s now with power := { s.power with fromWatch := true } } .flush 4
  else s

/-- The rail is back within the range that the entry demands (R61): RUN resumes, both clusters restart under APP scope (R68), and the
mean draw begins anew (R79). -/
def railReturn (s : State) (now : SupplyIn) : State :=
  if s.power.st ≠ .ride ∨ now.rail ≤ 4500 ∨ (s.power.ov ∧ 36000 ≤ now.rail) then s
  else
    let s1 := powerTo { s with power := { s.power with ov := false, fromStart := false, drawFrom := s.power.ot } } .run 2
    let s2 := errRise (supplyTake s1 now) R.PWR_EVT_RIDE 0 0
    bootCount (driveFollow (clusterReset (clusterReset s2 0) 1))

/-- A SUPPR_SUM record for each code that has a suppressed count pending, in the order of the buckets (R446, R448). -/
def recSums (s : State) : State :=
  s.recd.buckets.foldl (fun s b => if b.suppr = 0 then s else recEnter s b.src 0x0005 b.level 0 0 b.code (min b.suppr (2 ^ 32 - 1))) s

/-- Every waiting record becomes durable, the summaries among them (R447, R448). -/
def recFlushAll (s : State) : State :=
  let s1 := recSums s
  recWriteDone (put { s1 with recd := { s1.recd with writing := s1.recd.buf.length } } R.REC_STATUS_FLUSHING true)

/-- The flush phase begins (R67, R77, R448): the safe state, and REC seals its buffer. -/
def flushBegin (s : State) : State :=
  if s.power.st ≠ .ride then s
  else
    let s1 := { s with safe := { s.safe with forced := true }, nv := { s.nv with flushOk := false } }
    let s2 := pwmOff (safeRefresh s1)
    let s3 := powerTo s2 .flush 4
    let s4 := put { s3 with recd := { s3.recd with sealedN := s3.recd.buf.length } } R.REC_STATUS_SEALED true
    recAfter s4 (recWriteStart s4)

/-- What the flush writes (R67): REC's buffer, the snapshot of KIND 0, OT48 and PC24; nothing where STOR refuses writes (R68). -/
def flushWrite (s : State) : State :=
  if !storTakes s then s
  else
    let s1 := timesCommit (estSnapshot (recFlushAll s) 0).2
    put { s1 with nv := { s1.nv with flushOk := true } } R.STOR_STATUS_WR_INHIBIT true

/-- The flush phase has ended: the unit is off, and starts again where the rail has returned (R67, R68). -/
def flushEnd (s : State) (env : StartEnv) : State :=
  if s.power.st ≠ .flush then s
  else
    let s1 := if s.power.fromWatch then timesCommit s else flushWrite s
    let back := s.power.railBack
    let s2 := unitOff s1
    if back then startUp s2 true 1 1 true false (some env) else s2

/-! ### WATCH (R65, R66, R124) -/

/-- PWR.WAKE_CFG as a WATCH request found it when it was fetched (R124), and its fields. -/
def wakeFound (e : Entry) : Word := BitVec.ofNat 32 (leNat (e.snap.headD []))
def wakeTimerMin (w : Word) : Nat := fldGet w R.PWR_WAKE_CFG_TIMER_MIN.lo R.PWR_WAKE_CFG_TIMER_MIN.width
def wakeEn (w : Word) : Bool := w.getLsbD R.PWR_WAKE_CFG_WAKE_EN.lo
def wakeCan0 (w : Word) : Bool := w.getLsbD R.PWR_WAKE_CFG_CAN0_EN.lo

/-- The cause for which a WATCH request that found the wake sources `w` is refused (R65, R124). -/
def watchCause (s : State) (w : Word) : Option Nat :=
  if rd s R.SAFE_STATUS_SO_ON ≠ 0 ∨ !flag s R.SAFE_STATUS_INHIBIT then some 1
  else if wakeTimerMin w = 0 ∧ !wakeEn w ∧ !wakeCan0 w then some 2
  else if role s = roleClaiming ∨ role s = roleFenced then some 3
  else none

/-- A cluster handover ends with an accepted WATCH request as with HOLDUP (R511), once a hold window is over. -/
def watchHandover (s : State) : State := if flag s R.UPD_STATUS_HOLD_WIN then s else updHoldup s

/-- WATCH (R65, R520). -/
def watchOp (e : Entry) (s : State) : State × EntrySt :=
  if s.power.st ≠ .run then failR s 0x06
  else match watchCause s (wakeFound e) with
    | some c => failX (record s 1 0x2002 1 0 c 0) 0x40 c
    | none =>
      let s1 := { s with power := { s.power with watchEntry := 1, heldWake := 0, wakeCfg := wakeFound e }, nv := { s.nv with flushOk := false } }
      okR (pepperForce (recAfter s1 (recWriteStart (watchHandover s1)))) 0

/-- Every tile that the unit commands and reaches is told to sleep (R65). -/
def tilesSleep (s : State) : State :=
  if !commands s then s
  else { s with tiles := (s.tiles.zipIdx).map (fun tk => if tk.1.present && reached s tk.2 then tk.1.toSleep else tk.1) }

/-- A wake from WATCH (R66, R70): source 1 WAKE, 2 CAN0, 3 timer. During the entry it is held. -/
def wake (s : State) (src : Nat) (enabled : Bool) (env : StartEnv) : State :=
  if !enabled then s
  else if s.power.st = .watch then startUp (wr s R.PWR_WAKE_SRC_SRC src) false 2 2 true false (some env)
  else if s.power.watchEntry ≠ 0 ∧ s.power.heldWake = 0 ∧ src ≠ 3 then { s with power := { s.power with heldWake := src } }
  else s

/-- WATCH is reached (R65): REC and the snapshot of KIND 1 are flushed (R216), the tiles sleep, and every block but AON is off; a held wake source acts. -/
def watchReached (s : State) (env : StartEnv) : State :=
  if s.power.st ≠ .run ∨ s.power.watchEntry = 0 ∨ flag s R.UPD_STATUS_HOLD_WIN then s
  else
    let s1 := updHoldup s
    let s2 := if !storTakes s1 then s1 else
      let t := (estSnapshot (recFlushAll s1) 1).2
      put { t with nv := { t.nv with flushOk := true } } R.STOR_STATUS_WR_INHIBIT true
    let s3 := unitReset (tilesSleep s2) false
    let s4 := { s3 with power := { s3.power with st := .watch } }
    if s.power.heldWake = 0 then s4 else wake s4 s.power.heldWake true env

/-! ### Resets (R69, R70, R487) -/

/-- A SYSTEM-scope reset of a running unit, with the cause of R121 and the row of R70. -/
def systemReset (s : State) (cause row : Nat) (env : StartEnv) : State :=
  if blocksUp s then startUp s false cause row false false (some env) else s

/-- A SAFETY-scope reset (R69): SP, SAFE and STL start anew, outputs off and the inhibit asserted; SP repeats steps 2, 4, 7 and 8. A
hold window in progress ends with it. `row` is that of R70. -/
def safetyReset (s : State) (row : Nat) : State :=
  if !blocksUp s then s
  else
    let s0 := windowRevert s
    let s1 := if flag s0 R.SAFE_STATUS_INHIBIT then s0 else pwmInhibit s0
    let fog := flag s1 R.SAFE_STATUS_FOG
    let s2 := put (resetBlock (resetBlock s1 .safe) .stl) R.SAFE_STATUS_FOG fog
    let s3 := bumpBy (bumpSat s2 R.SYS_RST_CNT_SAFETY) R.CLK_XRECOV_CNT_COUNT Config.crossingsSafe.toNat
    let s4 := record s3 25 0x2001 3 1 row 0
    let s5 := if s4.upd.ho.isSome && s4.upd.spSlot.isSome then safeBoot s4 true else spBoot s4
    safetyHandover (safeArm (stlStart (safeSetRead s5)))

/-- The entry of an opcode that would start now on a queue pair (R95, R96). -/
def entryGoes (s : State) (qp opc : Nat) : Option Entry := match frontIdx (qpAt s qp).entries with
  | none => none
  | some i => match (qpAt s qp).entries[i]? with
    | none => none
    | some e => if hostReach s && decide (e.opc = opc) && decide (e.st = .ready) && decide (whenOf s e = .now) then some e else none

/-! ### Rows -/

/-- RAIL_RISE: what the unit finds is `env` (R61, R71). -/
def execRailRise (env : StartEnv) (s : State) : Host.Outcome State Fault Refusal :=
  .next (if s.power.st = .off ∧ 4700 < env.sup.rail then startUp s true 0 0 true false (some env) else s)

/-- SERVICE_FW_RUNNING: the boot ROM of the cluster that owns the engines has found a SERVICE section that passes, and then the APPLICATION
slot (R64, R73, R433). -/
def execServiceFwRunning (s : State) : Host.Outcome State Fault Refusal :=
  .next (if !fullUp s then s
    else
      let p := bootPick s 0
      match p.2 with
      | none => updShow { p.1 with upd := { p.1.upd with recovery := true } }
      | some k =>
        let s1 := (bootPick p.1 2).1
        let s2 := clusterRuns s1 (engineOwner s1) (secVer (imgAt s1 k).hdr 2)
        updShow (if s2.power.st = .start then powerTo s2 .run 2 else s2))

/-- LOW_WARNING: the rail below 4.5 V (R61). -/
def execLowWarning (now : SupplyIn) (s : State) : Host.Outcome State Fault Refusal :=
  .next (if now.rail < 4500 then railEvent s R.PWR_EVT_LOW_WARN now else s)
/-- RAIL_HIGH: the rail above 36 V (R61). -/
def execRailHigh (now : SupplyIn) (s : State) : Host.Outcome State Fault Refusal :=
  .next (if 36000 < now.rail then railEvent s R.PWR_EVT_HIGH now else s)
/-- OVER_VOLTAGE: the rail above 36 V for 400 ms (R61). -/
def execOverVoltage (now : SupplyIn) (s : State) : Host.Outcome State Fault Refusal := .next (powerFail s true now)
/-- POWER_FAIL: the rail below 4.0 V (R61). -/
def execPowerFail (now : SupplyIn) (s : State) : Host.Outcome State Fault Refusal := .next (powerFail s false now)
/-- RAIL_RETURN. -/
def execRailReturn (now : SupplyIn) (s : State) : Host.Outcome State Fault Refusal := .next (railReturn s now)
/-- RIDE_THROUGH_END. -/
def execRideThroughEnd (s : State) : Host.Outcome State Fault Refusal := .next (flushBegin s)
/-- FLUSH_END; `env` is what a start-up finds where the rail has returned. -/
def execFlushEnd (env : StartEnv) (s : State) : Host.Outcome State Fault Refusal := .next (flushEnd s env)
/-- HOLDUP_ENERGY_EXHAUSTED. -/
def execHoldupEnergyExhausted (s : State) : Host.Outcome State Fault Refusal :=
  .next (if inHoldup s then unitOff { s with nv := { s.nv with flushOk := if s.power.fromWatch then s.nv.flushOk else false } } else s)
/-- RAIL_RETURN_IN_FLUSH. -/
def execRailReturnInFlush (s : State) : Host.Outcome State Fault Refusal :=
  .next (if s.power.st = .flush then { s with power := { s.power with railBack := true } } else s)

/-- COIL_UV: VCOIL below 8.0 V; DIAG trips (R45, R307). -/
def execCoilUv (now : SupplyIn) (s : State) : Host.Outcome State Fault Refusal :=
  .next (if !blocksUp s ∨ 8000 ≤ now.coilMv then s
    else
      let s1 := supplyTake { s with safe := { s.safe with coilLow := true } } now
      safeTripPlain (errRise s1 R.PWR_EVT_COIL_UV 0 0) 15)
/-- VCOIL_RETURN: VCOIL at 8.0 V or above. -/
def execVcoilReturn (now : SupplyIn) (s : State) : Host.Outcome State Fault Refusal :=
  .next (if !blocksUp s ∨ now.coilMv < 8000 then s else safeRefresh (supplyTake { s with safe := { s.safe with coilLow := false } } now))

/-- WATCH on QP0. -/
def execWatch (s : State) : Host.Outcome State Fault Refusal := .next (runEntry s 0 0x40 watchOp)
/-- WATCH_REACHED. -/
def execWatchReached (env : StartEnv) (s : State) : Host.Outcome State Fault Refusal := .next (watchReached s env)
/-- WAKE_INPUT. -/
def execWakeInput (env : StartEnv) (s : State) : Host.Outcome State Fault Refusal := .next (wake s 1 (wakeEn s.power.wakeCfg) env)
/-- CAN0_WAKE_PATTERN. -/
def execCan0WakePattern (env : StartEnv) (s : State) : Host.Outcome State Fault Refusal := .next (wake s 2 (wakeCan0 s.power.wakeCfg) env)
/-- WAKE_TIMER_EXPIRY: the timer runs with the value that the request found (R66). -/
def execWakeTimerExpiry (env : StartEnv) (s : State) : Host.Outcome State Fault Refusal :=
  .next (wake s 3 (decide (wakeTimerMin s.power.wakeCfg ≠ 0)) env)

/-- UNIT_RESET on QP0: the completion is written first (R520). -/
def execUnitReset (env : StartEnv) (s : State) : Host.Outcome State Fault Refusal :=
  .next (match entryGoes s 0 0x41 with
    | some _ => systemReset (runEntry s 0 0x41 (fun _ s => okR s 0)) 5 5 env
    | none => runEntry s 0 0x41 (fun _ s => okR s 0))
/-- CLUSTER_RESET on QP0: the cluster whose doorbell made the entry ready. -/
def execClusterReset (s : State) : Host.Outcome State Fault Refusal :=
  .next (match entryGoes s 0 0x42 with
    | some e =>
      let s1 := runEntry s 0 0x42 (fun _ s => okR s 0)
      (match clusterOf e.level with
      | some c => appReset s1 c 9
      | none => s1)
    | none => runEntry s 0 0x42 (fun _ s => okR s 0))

/-- MAIN_OSCILLATOR_LOSS: a deviation beyond ±2 % of the SP oscillator (R70, R487). -/
def execMainOscillatorLoss (now : SupplyIn) (env : StartEnv) (s : State) : Host.Outcome State Fault Refusal :=
  .next (if now.mainDev.natAbs ≤ 200000 then s else systemReset s 3 3 env)
/-- DIE_OVER_TEMPERATURE: above 125 °C the reset is held (R70). -/
def execDieOverTemperature (now : SupplyIn) (s : State) : Host.Outcome State Fault Refusal :=
  .next (if !blocksUp s ∨ now.dieTemp ≤ 12500 then s
    else
      let s1 := wrS (wr (unitReset s false) R.SYS_RESET_CAUSE_CAUSE 4) R.PWR_DIE_TEMP_TEMP (satTemp now.dieTemp)
      { s1 with power := { s1.power with dieHot := true } })
/-- DIE_TEMPERATURE_RELEASE: below 110 °C. -/
def execDieTemperatureRelease (env : StartEnv) (s : State) : Host.Outcome State Fault Refusal :=
  .next (if s.power.dieHot ∧ s.power.st = .start ∧ env.sup.dieTemp < 11000 then startUp s false 4 4 false false (some env) else s)
/-- LOCKSTEP_MISMATCH. -/
def execLockstepMismatch (s : State) : Host.Outcome State Fault Refusal := .next (safetyReset s 6)
/-- SP_WATCHDOG_EXPIRY. -/
def execSpWatchdogExpiry (s : State) : Host.Outcome State Fault Refusal := .next (safetyReset s 7)
/-- SAFETY_RESET, with the row of R70 of its source. -/
def execSafetyReset (row : Nat) (s : State) : Host.Outcome State Fault Refusal :=
  .next (if row = 6 ∨ row = 7 ∨ row = 10 then safetyReset s row else s)
/-- CLUSTER_WATCHDOG_EXPIRY, or an uncorrectable error in the cluster's private region. -/
def execClusterWatchdogExpiry (c : Nat) (s : State) : Host.Outcome State Fault Refusal :=
  .next (if c < 2 ∧ fullUp s then appReset s c 8 else s)
/-- SAFE_ISLAND_LIMIT: the SAFE island more than 60 mV from CORE (R487). -/
def execSafeIslandLimit (now : SupplyIn) (s : State) : Host.Outcome State Fault Refusal :=
  .next (if blocksUp s ∧ 60 < now.safeMv.natAbs then safetyReset (put (supplyTake s now) R.CLK_ISL_ERR_SAFE true) 10 else s)
/-- AON_ISLAND_LIMIT: the AON island more than 100 mV from CORE (R487). -/
def execAonIslandLimit (now : SupplyIn) (env : StartEnv) (s : State) : Host.Outcome State Fault Refusal :=
  .next (if blocksUp s ∧ 100 < now.aonMv.natAbs then systemReset (put s R.CLK_ISL_ERR_AON true) 6 11 env else s)

/-- The throttle of cluster B and the pacing of STOR (R79, R122, R123). -/
def throttle (s : State) (on : Bool) : State :=
  put (put (put s R.PWR_THROTTLE_APPB_SLOW on) R.PWR_THROTTLE_STOR_PACED on) R.CLK_APP_RATE_SLOW_B on

/-- Over how many ms the mean of R79 is taken: the last 60 s, or the time since the latest start-up or return from a ride-through. -/
def drawSpan (s : State) : Nat := min 60000 (s.power.ot - s.power.drawFrom)

/-- PEAK_DRAW_LIMIT: the draw has stayed above 7.5 W for 30 s (R79). -/
def execPeakDrawLimit (now : SupplyIn) (s : State) : Host.Outcome State Fault Refusal :=
  .next (if !fullUp s ∨ now.aboveS < 30 ∨ now.drawMw ≤ 7500 then s else errRise (throttle (supplyTake s now) true) R.PWR_EVT_PEAK 0 0)
/-- PEAK_DRAW_RELEASE: `mwMs` is the draw in mW over every ms of the mean's span, summed; the mean is at or below 7.5 W (R79). -/
def execPeakDrawRelease (now : SupplyIn) (spanMs mwMs : Nat) (s : State) : Host.Outcome State Fault Refusal :=
  .next (if !fullUp s ∨ spanMs ≠ drawSpan s ∨ 7500 * spanMs < mwMs then s else throttle (supplyTake s now) false)

/-- A domain's crossings take the two-flop path or leave it; PERF counts its cycles up to the change (R485, R491). -/
def domainTo (s : State) (dom : Nat) (ok : Bool) : State :=
  putBit (putBit (perfSync s) R.CLK_STATUS_DOM_OK dom ok) R.CLK_XSTAT_TWO_FLOP dom (!ok)

/-- DOMAIN_NOT_OK: a domain's crossings take the two-flop path (R485). -/
def execDomainNotOk (dom : Nat) (s : State) : Host.Outcome State Fault Refusal :=
  .next (if dom < 12 ∧ blocksUp s then domainTo s dom false else s)
/-- CROSSING_RECOVERY: a domain is ready again and n of its crossings return (R486); an Ethernet port's domain only with a link. With
CTRL back, an inhibit that stood meanwhile opens the channels (R33, R489). -/
def execCrossingRecovery (dom n : Nat) (s : State) : Host.Outcome State Fault Refusal :=
  .next (if dom < 12 ∧ blocksUp s ∧ (dom ≠ 6 ∨ linkUp s false) ∧ (dom ≠ 7 ∨ linkUp s true) then
    (let s1 := bumpBy (domainTo s dom true) R.CLK_XRECOV_CNT_COUNT n
     if dom = 3 ∧ flag s1 R.SAFE_STATUS_INHIBIT then pwmInhibit s1 else s1)
    else s)

end Sys2Proof.Machine
end

