-- ==== Sys2Proof/Machine/Sweep.lean ====
section
/-! DEFINITION. Sweeps from their instant to their consumers: the sample instant (R131, R136, R153 to R157), delivery (R23, R25, R27, R144,
R148), the record (R165 to R169), EST's windows (R168), and CHAIN's round of 1 s (R22, R135, R146). -/

namespace Sys2Proof.Machine

open Sys2Proof

/-! ### The record (R165, R166) -/

/-- The good slot of a position: none where there is none; and whether it came back NOT_HELD. -/
def slotOf (w : Sweep) (p : Nat) : Option (List Byte) := w.slots.getD p none
def slotHeld (bs : List Byte) : Bool := !bitOf (fieldAt bs 74 2) 0

/-- MISSING: the tiles of the set without values (R165). -/
def sweepMissing (nn : Nat) (w : Sweep) : Nat :=
  maskOf (fun p => decide (p < nn) && (match slotOf w p with
    | some bs => !slotHeld bs
    | none => true)) (List.range 24)

/-- The slots of the tiles of the set (R165): those beyond nn count for nothing. -/
def Sweep.within (w : Sweep) (nn : Nat) : Sweep :=
  { w with slots := (w.slots.zipIdx).map (fun x => if x.2 < nn then x.1 else Option.none) }

/-- The 72 bytes of a position's cell fields: NOVAL where the tile has no values (R159). -/
def sweepCells (w : Sweep) (p : Nat) : List Byte :=
  let noval : List Byte := (List.replicate 24 (leBytes 3 (2 ^ 20))).flatten
  match slotOf w p with
  | some bs => if slotHeld bs then bs.take 72 else noval
  | none => noval

/-- Whether some cell of the tiles up to nn carries NOVAL (R178). -/
def sweepNoval (nn : Nat) (w : Sweep) : Bool :=
  (List.range nn).any (fun p => (List.range 24).any (fun j => bitOf (fieldAt (sweepCells w p) (3 * j) 3) 20))

/-- FLAGS as delivered: those of the instant with TWO_DIR, FLAGGED, EST and HVM_FAULT (R166). -/
def sweepFlags (nn : Nat) (w : Sweep) (est : Bool) : Nat :=
  let hvm := decide (w.iShunt = 0x80000000) || decide (w.iHall = 0x80000000) || decide (w.vStr = 0x80000000) || decide (w.vLink = 0x80000000)
  w.flags + b2n w.twoDir + b2n (decide (sweepMissing nn w ≠ 0)) <<< 1 + b2n est <<< 5 + b2n hvm <<< 7

/-- The 2,048 bytes of a sweep record (R165). -/
def sweepRecord (nn : Nat) (w : Sweep) (flags : Nat) : List Byte :=
  let sum := sumOf nn w
  let b := leBytes 4 w.snum ++ leBytes 4 flags ++ leBytes 8 w.tInst ++ leBytes 4 (sweepMissing nn w) ++ leBytes 4 w.fromHold ++ leBytes 4 w.iShunt
    ++ leBytes 4 w.iHall ++ leBytes 4 w.vStr ++ leBytes 4 w.vLink ++ sBytes 4 sum.1 ++ leBytes 2 sum.2 ++ leBytes 1 w.owTap ++ leBytes 1 nn
    ++ leBytes 2 w.idx ++ zeros 14
    ++ ((List.range 24).map (fun p => match slotOf w p with
        | some bs => (bs.drop 72).take 6 ++ zeros 2
        | none => zeros 8)).flatten
    ++ ((List.range 24).map (sweepCells w)).flatten ++ zeros 60
  b ++ leBytes 4 (crc32c b)

/-! ### EST's windows (R168) -/

/-- The code of a cell that EST, EIS and the mean of R168 may use (R159). -/
def usableCode (w : Sweep) (c : Nat) : Option Nat :=
  let f := fieldAt (sweepCells w (c / 24)) (3 * (c % 24)) 3
  if bitOf f 20 || bitOf f 22 || bitOf f 23 then none else some (f % 2 ^ 20)

/-- The sum and the count of the values that a code of each sweep stands for. -/
def sumCodes (ws : List Sweep) (g : Sweep → Nat) : Int × Nat :=
  let vs := ws.filterMap (fun w => sweepVal (g w))
  (vs.foldl (· + ·) 0, vs.length)

/-- What EST takes of a window whose sweeps, the closing one first, are given: under PICK the closing one alone (R168). -/
def estWindow (s : State) (ws : List Sweep) : Option EstWin :=
  match ws with
  | [] => none
  | w :: t =>
    let use := if cfgU s 7 1 2 1 = 1 then w :: t else [w]
    let vals := (List.range (setCells s)).map (fun c => use.foldl (fun (a : Nat × Nat) x => match usableCode x c with
      | some v => (a.1 + v, a.2 + 1)
      | none => a) (0, 0))
    some { snum := w.snum, t := w.tInst, ticks := w.ticks, vals := vals, iShunt := sumCodes use Sweep.iShunt, iHall := sumCodes use Sweep.iHall,
           vStr := sumCodes use Sweep.vStr, startup := bitOf w.flags 2 }

/-- The current of a window in mA as EST counts charge while it is disabled (R207, R217). -/
def winMa (s : State) (w : EstWin) : Int := match estCurrent s w with
  | some x => x.1
  | none => 0

/-- A window closes with the sweeps of it that were taken (R168): EST's input, or, while EST is disabled, the charge since (R217). -/
def windowClose (s : State) : State :=
  let win := estWindow s s.meas.window
  let s1 := { s with meas := { s.meas with window := [] } }
  match win with
  | none => s1
  | some w =>
    if flag s1 R.EST_STATUS_RUN then { s1 with est := { s1.est with input := some w } }
    else match s1.est.offTicks with
      | some t => { s1 with est := { s1.est with offQ := s1.est.offQ + winMa s1 w * (4 * (w.ticks - t) : Nat), offTicks := some w.ticks } }
      | none => { s1 with est := { s1.est with offTicks := some w.ticks } }

/-- Whether some number from a to b − 1 closes a window (R168); the numbers wrap. -/
def closesIn (div a b : Nat) : Bool :=
  let e := a + (b + 2 ^ 32 - a) % 2 ^ 32
  decide (a ≠ e) && (decide ((a + (div - 1)) / div * div < e) || decide (2 ^ 32 < e))

/-- A sweep joins its window; the answer says whether it closes it: its own number does, or every number from its own to the closing one
is known not to be taken (R168). -/
def windowTake (s : State) (w : Sweep) : Bool × State :=
  let div := max 1 (estDivNow s)
  let ws := w :: s.meas.window.filter (fun x => decide ((w.snum + 2 ^ 32 - x.snum) % 2 ^ 32 < div))
  let s1 := { s with meas := { s.meas with window := ws } }
  let e := decide (w.snum % div = 0) || closesIn div ((w.snum + 1) % 2 ^ 32) s1.meas.next
  (e, if e then windowClose s1 else s1)

/-! ### Delivery (R23, R25, R27) -/

/-- The currents of a sweep while EST has no cycle: the mean over them is that of R207. -/
def gapAdd (s : State) (w : Sweep) : State :=
  let i := match sweepVal w.iShunt with
    | some x => some x
    | none => if cfgU s 13 1 5 1 = 1 then sweepVal w.iHall else none
  match i with
  | some x => { s with est := { s.est with gapSum := s.est.gapSum + x, gapN := s.est.gapN + 1 } }
  | none => s

/-- The code of a cell that EIS may use: OVR too bars it (R237). -/
def eisCode (w : Sweep) (c : Nat) : Option Nat :=
  if bitOf (fieldAt (sweepCells w (c / 24)) (3 * (c % 24)) 3) 21 then none else usableCode w c

/-- A sweep as EIS takes it: BLEEDING and DERATED of each tile's slot (R237). -/
def eisSampleOf (w : Sweep) : EisSample :=
  { codes := (List.range 576).map (eisCode w)
    bits := (List.range 24).map (fun p => (slotOf w p).map (fun bs => b2n (bitOf (fieldAt bs 74 2) 11) + b2n (bitOf (fieldAt bs 74 2) 13) <<< 1))
    cur := sweepVal w.iShunt
    t := w.tInst }

/-- The slot of a position where it is good: neither missing nor NOVAL for the whole tile, as one that came back NOT_HELD is (R159, R249). -/
def goodSlot (w : Sweep) (p : Nat) : Option (List Byte) :=
  if (List.range 24).all (fun j => bitOf (fieldAt (sweepCells w p) (3 * j) 3) 20) then none else slotOf w p

/-- THERM takes the diodes of the good slots (R249, R253). -/
def thermTake (s : State) (w : Sweep) : State :=
  let good := maskOf (fun p => (goodSlot w p).isSome) (List.range 24)
  let s1 := { s with therm := { s.therm with tiles := (s.therm.tiles.zipIdx).map (fun x => match goodSlot w x.2 with
    | some bs => thermReading s.power.ticks (fieldAt bs 72 2) x.1
    | none => x.1) } }
  wr s1 R.THERM_STALE_MASK (rd s1 R.THERM_STALE_MASK &&& (2 ^ 24 - 1 - good))

/-- What CHAIN and MEAS show of a sweep as it is delivered: missing tiles, directions, number and instant (R144, R178). -/
def sweepShow (s : State) (w : Sweep) (nn : Nat) : State :=
  let missing := sweepMissing nn w
  let s1 := { s with chain := { s.chain with asm := none }, meas := { s.meas with last := some w, sumCells := (sumOf nn w).1 } }
  let s2 := put (wr s1 R.CHAIN_MISSING_MASK missing) R.CHAIN_STATUS_TWO_DIR w.twoDir
  let s3 := if missing = 0 then s2 else errRise (bump s2 R.CHAIN_FLAGGED_CNT_COUNT) R.CHAIN_ERR_FLAGGED 0 0
  let s4 := if sweepNoval nn w then errRise s3 R.MEAS_ERR_NOVAL 0 0 else s3
  wr (wr (wr s4 R.MEAS_SNUM_SNUM w.snum) R.MEAS_LAST_T_LO_T_INST (w.tInst % 2 ^ 32)) R.MEAS_LAST_T_HI_T_INST (w.tInst / 2 ^ 32)

/-- The sweep bus's consumers take a sweep: THERM and EIS while they run (target 10 of R503 delays it), SAFE while its firmware does
(R25); none whose crossing is on the two-flop path (R485). -/
def sweepTake (s6 : State) (w : Sweep) : State :=
  let s7 := if fullUp s6 && crossOk s6 1 then eisSweep (thermTake (pepperWait s6 10 0) w) w.snum (eisSampleOf w) else s6
  if s7.safe.fw && crossOk s7 10 then { s7 with safe := { s7.safe with queue := s7.safe.queue ++ [w] } } else s7

/-- A sweep on its way to FAB (R165, R168): EST's window and the record; with FAB on the two-flop path it is counted as lost (R485). -/
def sweepFab (s : State) (w : Sweep) (nn : Nat) : State :=
  if crossOk s 1 then
    let e := windowTake (gapAdd s w) w
    streamOr e.2 6 (sweepRecord nn w (sweepFlags nn w e.1)) (fun s => bump s R.MEAS_SWEEP_LOST_CNT_COUNT)
  else bump s R.MEAS_SWEEP_LOST_CNT_COUNT

/-- A sweep goes out on the sweep bus and into host memory (R23, R25, R144, R148, R165, R178). -/
def sweepDeliver (s : State) : State :=
  match s.chain.asm with
  | none => s
  | some w0 =>
    let nn := min 24 (setNn s)
    let w := w0.within nn
    sweepTake (sweepFab (sweepShow s w nn) w nn) w

/-- Whether every tile that the chain reaches has come back with a good slot. -/
def sweepWhole (s : State) : Bool := match s.chain.asm with
  | none => false
  | some w => (List.range 24).all (fun p => (tileByPos s p).isNone || (slotOf w p).isSome)

/-! ### The sample instant (R136, R153 to R157) -/

/-- How many instants a table schedules in `ns` after its instant before entry i, itself at least one; half of the least spacing is allowed
for (R157). -/
def gapCount (t : MeasTable) (carrier : Nat) : Nat → Int → Nat → Nat
  | 0, _, _ => 0
  | fuel + 1, ns, i =>
    let g := tableGap t carrier i
    if ns + 125000 < g then 0 else 1 + gapCount t carrier fuel (ns - g) ((i + 1) % max 1 t.entries.length)

/-- The number of the first instant after the commanding role was taken: the last one received and the instants that the table scheduled
since, 10 ms apart under the start-up schedule (R157). -/
def takeoverNext (s : State) : State :=
  if !s.meas.takeover then s
  else
    let ns := 4 * (s.power.ticks - s.meas.tickLast)
    let k := max 1 (match s.meas.table with
      | some t => gapCount t s.meas.carrierNs (ns / 250000 + 1) ns s.meas.nextIdx
      | none => (ns + 5000000) / 10000000)
    let n := match s.meas.table with
      | some t => max 1 t.entries.length
      | none => 1
    bumpBy { s with meas := { s.meas with takeover := false, next := (s.meas.next + k - 1) % 2 ^ 32, nextIdx := (s.meas.nextIdx + k - 1) % n } }
      R.MEAS_SKIP_CNT_COUNT (k - 1)

/-- The unit that does not command follows the number that it receives, and its table entry with it (R157). -/
def shadowNext (s : State) (rx : Option Nat) : State :=
  match rx with
  | none => s
  | some r =>
    let q := snumExtend s.meas.next (r % 2 ^ 16)
    let n := match s.meas.table with
      | some t => max 1 t.entries.length
      | none => 1
    { s with meas := { s.meas with next := q, nextIdx := (s.meas.nextIdx + (q + 2 ^ 32 - s.meas.next) % 2 ^ 32) % n } }

/-- The entry of an instant: under base PTP the one whose grid point lies nearest to plant time (R155). -/
def instIdx (s : State) : Nat :=
  match s.meas.table with
  | none => 0xFFFF
  | some t =>
    if t.base ≠ 2 then s.meas.nextIdx
    else
      let c := max 1 t.cycleNs
      let x := ((ptNow s : Int) - t.anchor) % c
      let dist (o : Nat) : Nat := let d := ((x - o) % c).toNat; min d (c - d)
      ((t.entries.zipIdx).foldl (fun (m : Nat × Nat) e => if dist e.1.2 < m.1 then (dist e.1.2, e.2) else m) (c, 0)).2

/-- The tap under test at an instant (R162, R165). -/
def owTapNow (s : State) : Nat := ((s.tiles.filter Tile.numbered).findSome? (fun t => t.owRun)).getD 0xFF

/-- FLAGS of an instant (R166). -/
def instFlags (s : State) : Nat :=
  b2n s.meas.table.isNone <<< 2 + b2n (flag s R.MEAS_STATUS_CARRIER_ABSENT) <<< 3 + b2n (!flag s R.PTP_STATUS_ACQ) <<< 4 + b2n (!commands s) <<< 6
    + b2n (decide (cfgU s 14 1 0 1 = 0)) <<< 8 + b2n (s.meas.first && s.meas.table.isSome) <<< 9

/-- MEAS.RATE: the instants of the second before, at every second of the grid (R178). -/
def rateTake (s : State) : State :=
  let sec := (s.power.ticks - s.meas.t0) / 250000000
  if sec = s.meas.secIdx then { s with meas := { s.meas with secCount := s.meas.secCount + 1 } }
  else
    let s1 := wr s R.MEAS_RATE_SPS (if sec = s.meas.secIdx + 1 then s.meas.secCount else 0)
    { s1 with meas := { s1.meas with secIdx := sec, secCount := 1 } }

/-- A sample instant: its number, its sweep under assembly, and the string's values (R136, R153, R157, R167). A sweep still under assembly
has passed its deadline (R144); a window whose closing number was not taken closes with what it has (R168). `transit` is the time the
strobe took from port A round a closed ring to port B (R139). -/
def sampleInstant (s : State) (rx : Option Nat) (hv : HvmIn) (transit : Option Nat) : State :=
  if !flag s R.MEAS_STATUS_RUN || !blocksUp s then s
  else
    let s0 := sweepDeliver s
    let s1 := if commands s0 then measDrop (takeoverNext s0) 256 else shadowNext s0 rx
    let q := s1.meas.next
    let s2 := match s1.meas.window with
      | [] => s1
      | w :: _ => if closesIn (max 1 (estDivNow s1)) ((w.snum + 1) % 2 ^ 32) q then windowClose s1 else s1
    let s3 := hvmTake s2 hv
    let n := match s3.meas.table with
      | some t => max 1 t.entries.length
      | none => 1
    let i := instIdx s3
    let h := s3.hvm
    let w : Sweep := { Sweep.none with
      snum := q, tInst := ptNow s3, ticks := s3.power.ticks, idx := i, flags := instFlags s3, twoDir := commands s3 && !flag s3 R.CHAIN_STATUS_RING_CLOSED,
      iShunt := milliCode h.iShunt, iHall := milliCode h.iHall, vStr := sCode 32 h.vStr, vLink := sCode 32 h.vLink, owTap := owTapNow s3 }
    let seen := commands s3 && flag s3 R.CHAIN_STATUS_RING_CLOSED
    let s4 := { s3 with chain := { s3.chain with asm := some w, transit := if seen then transit else s3.chain.transit }
                        meas := { s3.meas with next := (q + 1) % 2 ^ 32, nextIdx := if i = 0xFFFF then 0 else (i + 1) % n, first := false, acc := 0,
                                               tickLast := s3.power.ticks, tInst := w.tInst } }
    gapEnd (instLaunch (rateTake s4) q) true

/-! ### CHAIN's round (R22, R135, R139, R146) -/

/-- A tile that has taken a position in this round: SP writes its thresholds, and CHAIN reports it (R135, R152). -/
def tileJoin (s : State) (k : Nat) : State :=
  let p := setThr s
  let s1 := if s.safe.set.isEmpty || !s.safe.fw then s else tileMod s k (tileSafeWr p.1 p.2.1 p.2.2)
  let t := tileAt s1 k
  chainReport s1 4 t.pos 0 t.trim.sig

/-- SP's part of a round: the read-back of every tile, and what follows from it; suspended during the hold window (R22, R327). -/
def roundSafe (s : State) : State :=
  if flag s R.SAFE_STATUS_HOLD_WIN then s else safeRefresh (judgeAll (thrCheck s))

/-- The delay set in force written into the tiles, the nominal one where none has been measured (R135, R137). -/
def dlyKeep (s : State) : State := if flag s R.CHAIN_STATUS_RING_CLOSED || s.chain.measured then dlyWrite s else dlyNominal s

/-- The round of 1 s (R135). -/
def chainRound (s : State) : State :=
  if !flag s R.CHAIN_STATUS_RUN || !blocksUp s then s
  else
    let a := enumPass s false
    let b := enumPass a.1 true
    let s1 := (List.range 24).foldl trimCheck (afterEnum b.1)
    if !commands s1 then roundSafe s1
    else
      let s3 := (a.2 ++ b.2).foldl tileJoin (dlyKeep s1)
      roundSafe (if flag s3 R.CHAIN_STATUS_RING_CLOSED then s3 else launchProbe s3)

/-! ### The rows -/

/-- SAMPLE_INSTANT: `rx` is the SNUM that a unit which does not command receives. -/
def execSampleInstant (rx : Option Nat) (hv : HvmIn) (transit : Option Nat) (s : State) : Host.Outcome State Fault Refusal :=
  .next (sampleInstant s rx hv transit)

/-- SWEEP_COMPLETE. -/
def execSweepComplete (s : State) : Host.Outcome State Fault Refusal := .next (if sweepWhole s then sweepDeliver s else s)

/-- SWEEP_DEADLINE: 240 µs after the instant (R27, R144). -/
def execSweepDeadline (s : State) : Host.Outcome State Fault Refusal := .next (sweepDeliver s)

/-- ENUM: one pass from a port (R134). CHAIN writes its delays into a tile that has taken a position, SP its thresholds; the pass from
port B completes the enumeration, and SP checks every tile (R22, R135). -/
def execEnum (portB : Bool) (s : State) : Host.Outcome State Fault Refusal :=
  if !flag s R.CHAIN_STATUS_RUN || !blocksUp s then .next s
  else
    let a := enumPass s portB
    let s1 := if commands a.1 then a.2.foldl tileJoin (dlyKeep a.1) else a.1
    .next (if portB then roundSafe (afterEnum s1) else s1)

/-- CHAIN_ROUND. -/
def execChainRound (s : State) : Host.Outcome State Fault Refusal := .next (chainRound s)

end Sys2Proof.Machine
end

