-- ==== Sys2Proof/Machine/Regs.lean ====
section
/-! DEFINITION. The set-up window: who may read and write what (R110 to R118, R122, R485), what a read shows (R9, R12, R121, R500), and
what a write does (R9, R12, R117 to R120, R122, R123, R388, R494). -/

namespace Sys2Proof.Machine

open Sys2Proof

/-! ### What a register shows -/

/-- The word of CTRL.STATUS with the role and the inhibit (R299). -/
def ctrlStatusView (s : State) : Word :=
  let w := regGet s R.CTRL_STATUS
  fldSet (fldSet w 16 1 (b2n (commands s))) 17 1 (b2n (flag s R.SAFE_STATUS_INHIBIT))

/-- SHADOW at bit i of a status word whose bit 0 is RUN (R227, R247, R270). -/
def shadowView (s : State) (w : Word) (i : Nat) : Word := fldSet w i 1 (b2n (decide (fldGet w 0 1 = 1) && !commands s))

/-- MEAS.RATE as it stands: the latest second that is complete (R178). -/
def rateView (s : State) : Word :=
  if !flag s R.MEAS_STATUS_RUN then regGet s R.MEAS_RATE
  else
    let sec := (s.power.ticks - s.meas.t0) / 250000000
    if sec = s.meas.secIdx then regGet s R.MEAS_RATE else if sec = s.meas.secIdx + 1 then loW s.meas.secCount else 0

/-- A loop channel's register: RATE and FB of LC0 are fixed, OPEN_OUT of LC0 reads 0, and OUT follows the state (R274, R300). -/
def lcView (s : State) (n a : Nat) : Word :=
  let w := regGet s a
  if a = R.LC_CFG 0 then fldSet (fldSet w 0 1 0) 8 8 19
  else if a = R.LC_OPEN_OUT 0 then 0
  else if a = R.LC_OUT n ∧ lcSt s n = lcOpenC then BitVec.ofInt 32 (lcOut s n)
  else w

/-- The word that a mapped register shows to a level at the instant of the read (R9). -/
def regShow (s : State) (lvl : Level) (a : Nat) : Word :=
  if a = R.EST_STATUS then shadowView s (regGet s a) 4
  else if a = R.EIS_STATUS then shadowView s (regGet s a) 6
  else if a = R.THERM_STATUS then shadowView s (regGet s a) 10
  else if a = R.CTRL_STATUS then ctrlStatusView s
  else if a = R.PWM_STATUS then fldSet (regGet s a) 2 1 (b2n (flag s R.SAFE_STATUS_INHIBIT))
  else if a = R.MEAS_RATE then rateView s
  else if a = R.BAL_STATUS then fldSet (regView s lvl a) 16 9 (bleedCount s)
  else if a = R.BAL_HELD then BitVec.ofNat 32 (heldNow s)
  else if a = R.SAFE_RST then fldSet (regGet s a) 1 1 (b2n (flag s R.SAFE_RST_HIGH_RUN || s.safe.stlHigh.isSome))
  else if a = R.RED_HEALTH then fldSet (regGet s a) 0 16 (healthNow s)
  else if a = R.RED_TB then loW (min 65535 (holdoffLeft s) + (cfgU s 32 3 0 1 % 2) <<< 16)
  else if R.LC_CFG 0 ≤ a ∧ a < R.LC_CFG 8 then lcView s ((a - R.LC_CFG 0) / 0x80) a
  else regView s lvl a

/-! ### Who reaches what (R111 to R114, R122, R485) -/

/-- The queue pairs of a block (R105, R113); SYS, CLK and PWR are not bound by ownership. -/
def blockQps : Block → List Nat
  | .stor => [1] | .recd => [2] | .idk => [3] | .upd => [4, 5] | .meas => [6, 7, 8, 9, 10, 11] | .chain => [12] | .hvm => [13] | .bal => [14]
  | .est => [15, 16, 17] | .eis => [18, 19] | .therm => [20] | .ctrl => [21, 22, 23, 24, 25, 26, 27, 28] | .pwm => [29] | .safe => [30]
  | .stl => [31] | .red => [32] | .eth => [33, 34, 35, 36] | .ptp => [37] | .can n => [38 + n] | .crc => [41] | .perf => [42] | .pepper => [43]
  | .qmgr => [] | .sys => [] | .clk => [] | .pwr => []

/-- The clock domains of a block (R19); none for SYS, CLK and PWR, and for ETH, whose registers its links do not stop (DEDUCED, log 27). -/
def blockDoms : Block → List Nat
  | .chain => [4, 5] | .meas => [2] | .hvm => [2] | .ctrl => [3] | .pwm => [3] | .safe => [10] | .stl => [10] | .ptp => [9] | .can _ => [8]
  | .sys => [] | .clk => [] | .pwr => [] | .eth => []
  | _ => [1]

/-- Whether a block answers at all: its clock is not gated off, and its domains' crossings are not on the two-flop path (R114, R122, R485). -/
def blockReached (s : State) (b : Block) : Bool :=
  !(decide (b = .can 1) && flag s R.CLK_GATE_CAN1_OFF) && !(decide (b = .can 2) && flag s R.CLK_GATE_CAN2_OFF)
  && (decide (blockDoms b = []) || (blockDoms b).any (fun d => !bitIn s R.CLK_XSTAT_TWO_FLOP d))

/-- Whether a level runs: a cluster while blocks of the host are up, SP while any are (R63, R67). -/
def levelUp (s : State) (lvl : Level) : Bool := if lvl = .sp then blocksUp s else fullUp s

/-- Whether an address lies on the user page of PERF (R500). -/
def userPage (a : Nat) : Bool := decide (0x10131000 ≤ a) && decide (a < 0x10131080)

/-- The block of an address and its register's row, where a level reaches it (R109, R112, R114): U only the user page. -/
def regReach (s : State) (lvl : Level) (a : Nat) : Option (Block × R.Row) :=
  match blockOf a, findRow a with
  | some b, some r =>
    if levelUp s lvl && blockReached s b && (decide (lvl ≠ .u) || userPage a)
        && !(r.lockable && blockLocked s b && decide (lvl ≠ .sp)) then some (b, r) else none
  | _, _ => none

/-- Whether a level may write a block's registers (R112). -/
def levelWrites (lvl : Level) (b : Block) : Bool :=
  match lvl with
  | .sp => decide (b = .safe) || decide (b = .stl)
  | .u => false
  | .aM => decide (b ≠ .safe) && decide (b ≠ .stl)
  | .bM => decide (b ≠ .safe) && decide (b ≠ .stl)
  | _ => decide (b ≠ .safe) && decide (b ≠ .stl) && decide (b ≠ .idk) && decide (b ≠ .upd) && decide (b ≠ .pepper)

/-- Whether ownership allows a cluster's write (R106, R113): of QMGR's registers, each queue pair's to its owner, and the pending bits to an
owner of any queue pair in them. -/
def ownWrites (s : State) (lvl : Level) (b : Block) (a : Nat) : Bool :=
  if b = .qmgr then
    (if 0x10010100 ≤ a ∧ a < 0x10018000 then decide (clusterOf lvl = some (ownerOf s ((a - 0x10010100) / 0x40)))
     else if a = R.QMGR_ERRPEND0 ∨ a = R.QMGR_IRQPEND0 then ownsSome s lvl false
     else ownsSome s lvl true)
  else (blockQps b).all (fun q => decide (clusterOf lvl = some (ownerOf s q)))

/-- Whether a write of a register is no violation (R114): reach, level, ownership, and the fields marked M only (R123). -/
def writeAllowed (s : State) (lvl : Level) (a : Nat) : Option R.Row :=
  match regReach s lvl a with
  | some (b, r) =>
    if levelWrites lvl b && (decide (lvl = .sp) || ownWrites s lvl b a) && (decide (a ≠ R.PWR_WAKE_CFG) || isMachine lvl)
        && (decide (b ≠ .qmgr) || hostReach s) && !userPage a then some r else none
  | none => none

/-! ### Reading (R9, R12) -/

/-- A read: a violation returns 0 (R115). Target 7 of R503 delays it. A _LO read of a pair copies _HI into the level's shadow; a _HI read returns that shadow, or, with
none, the live half (R12). -/
def regRead (s0 : State) (lvl : Level) (a : Nat) : State :=
  match regReach s0 lvl a with
  | none => { s0 with bus := 0 }
  | some (b, _) =>
    let s1 := pepperWait s0 7 (srcOf b)
    let s := if b = .perf then perfSync s1 else s1
    let show64 (x : Nat) : BitVec 64 := (regShow s lvl x).setWidth 64
    if isPairLo a then
      { s with bus := show64 a
               shadows := s.shadows.filter (fun e => decide (e.1 ≠ (lvl, a + 4))) ++ [((lvl, a + 4), regShow s lvl (a + 4))] }
    else if isPairHi a then
      match s.shadows.find? (fun e => decide (e.1 = (lvl, a))) with
      | some e => { s with bus := e.2.setWidth 64 }
      | none => { s with bus := show64 a }
    else { s with bus := show64 a }

/-- A read of any width in bytes (R110, R115): 64 bits act as two reads, the lower address first; any other width or alignment is a
violation, which returns 0. -/
def busRead (s : State) (lvl : Level) (a width : Nat) : State :=
  if width = 4 ∧ a % 4 = 0 then regRead s lvl a
  else if width = 8 ∧ a % 8 = 0 then
    let s1 := regRead s lvl a
    let s2 := regRead s1 lvl (a + 4)
    { s2 with bus := (s2.bus <<< 32) ||| s1.bus }
  else { s with bus := 0 }

/-! ### Writing -/

/-- Whether a STATIC register's unit is enabled, so that a write is ignored (R102, R119, R120, R227, R289, R301, R421, R477, R494, R505). A
SEED belongs to every slot (DEDUCED, log 29). -/
def regFrozen (s : State) (a : Nat) : Bool :=
  if a = R.EST_CFG then flag s R.EST_STATUS_RUN
  else if R.LC_CFG 0 ≤ a ∧ a < R.LC_CFG 8 then
    (decide ((a - R.LC_CFG 0) % 0x80 < 0x18) || decide ((a - R.LC_CFG 0) % 0x80 = 0x2C)) && decide (lcSt s ((a - R.LC_CFG 0) / 0x80) ≠ lcOpenC)
  else if R.PWM_CFG ≤ a ∧ a ≤ R.PWM_TRIG then flag s R.PWM_STATUS_DRIVEN
  else if (List.range 3).any (fun n => decide (a = R.CAN_IMG_BASE_LO n) || decide (a = R.CAN_IMG_BASE_HI n)) then
    decide (canSt s ((a - 0x100E0000) / 0x1000) ≠ canOff)
  else if R.CRC_U_CFG 0 ≤ a ∧ a < R.CRC_U_CFG 16 then bitIn s R.CRC_STATUS_EN ((a - R.CRC_U_CFG 0) / 0x20)
  else if R.PERF_C_CFG 0 ≤ a ∧ a < R.PERF_C_CFG 16 then decide ((a - R.PERF_C_CFG 0) % 0x20 = 0) && bitIn s R.PERF_STATUS_EN ((a - R.PERF_C_CFG 0) / 0x20)
  else if a = R.PEPPER_SEED then decide (rd s R.PEPPER_STATUS_ARMED ≠ 0)
  else if R.PEPPER_S_CFG 0 ≤ a ∧ a < R.PEPPER_S_CFG 8 then bitIn s R.PEPPER_STATUS_ARMED ((a - R.PEPPER_S_CFG 0) / 0x20)
  else if R.QP_SQ_BASE_LO 0 ≤ a ∧ a < R.QP_SQ_BASE_LO 46 then
    decide ((a - R.QP_SQ_BASE_LO 0) % 0x40 < 0x14) && qpOn s ((a - R.QP_SQ_BASE_LO 0) / 0x40)
  else false

/-- 1s to SYS.LOCK_SET lock their blocks; PEPPER's lock disarms its slots (R117, R506). -/
def lockSet (s : State) (v : Nat) : State :=
  let s1 := wr s R.SYS_LOCK_LOCKED (rd s R.SYS_LOCK_LOCKED ||| v % 2 ^ 25)
  if bitOf v 21 then pepperForce s1 else s1

/-- Whether the function that a CLK.GATE bit gates is enabled or in use (R122). -/
def gateInUse (s : State) (i : Nat) : Bool :=
  match i with
  | 0 => decide (canSt s 1 ≠ canOff)
  | 1 => decide (canSt s 2 ≠ canOff)
  | 2 => s.eth.on.getD 1 false
  | _ => decide (cfgU s 32 1 0 1 = 1) && decide (cfgU s 32 1 8 1 = 1)

/-- A write of CLK.GATE: each bit on its own (R122). -/
def gateWrite (s : State) (v : Nat) : State :=
  (List.range 4).foldl (fun s i => if gateInUse s i then s else putBit s ⟨R.CLK_GATE, 0, 4⟩ i (bitOf v i)) s

/-- PWR.WAKE_CFG: TIMER_MIN holds at 64,800 (R123). A write during an accepted WATCH entry cannot occur (R124): it changes nothing
(DEDUCED, log 32). -/
def wakeCfgWrite (s : State) (w : Word) : State :=
  if s.power.watchEntry ≠ 0 then s else regSet s R.PWR_WAKE_CFG (fldSet w 0 16 (min 64800 (fldGet w 0 16)))

/-- A write of PTP.INC0 or INC1: outside ±500 ppm, the nearer end, and INC_SAT (R388). -/
def incWrite (s : State) (dom v : Nat) : State :=
  let lo := 0x3FF7CED9
  let hi := 0x40083127
  let s1 := wr s (if dom = 0 then R.PTP_INC0_INC else R.PTP_INC1_INC) (clampNat lo hi v)
  if v < lo ∨ hi < v then errRise s1 R.PTP_ERR_INC_SAT 0 0 else s1

/-- A plain register word as a write leaves it (R9), with the fields that are stored clamped (R300, R507). -/
def plainWrite (s : State) (r : R.Row) (a : Nat) (v : Word) : State :=
  let w := writeWord r (regGet s a) v
  let w1 :=
    if R.LC_CFG 0 ≤ a ∧ a < R.LC_CFG 8 ∧ (a - R.LC_CFG 0) % 0x80 = 0x28 then fldSet w 0 16 (min 1000 (fldGet w 0 16))
    else if R.PEPPER_S_CFG 0 ≤ a ∧ a < R.PEPPER_S_CFG 8 ∧ (a - R.PEPPER_S_CFG 0) % 0x20 = 8 then fldSet w 0 10 (min 600 (fldGet w 0 10))
    else w
  regSet s a w1

/-- The low half of a pair staged for a level (R12). -/
def pairStage (s : State) (lvl : Level) (a : Nat) (v : Word) : State :=
  { s with stages := s.stages.filter (fun e => decide (e.1 ≠ (lvl, a))) ++ [((lvl, a), v)] }

/-- The upper half of a pair written: it commits with the staged low half, or alone (R12). -/
def pairCommit (s : State) (lvl : Level) (a : Nat) (r : R.Row) (v : Word) : State :=
  let s1 := match s.stages.find? (fun e => decide (e.1 = (lvl, a - 4))) with
    | some e => (match findRow (a - 4) with
      | some rl => plainWrite s rl (a - 4) e.2
      | none => s)
    | none => s
  plainWrite { s1 with stages := s1.stages.filter (fun e => decide (e.1 ≠ (lvl, a - 4))) } r a v

/-- A write that is no violation and whose register is not frozen. -/
def regTake (s : State) (lvl : Level) (a : Nat) (r : R.Row) (v : Word) : State :=
  let n := v.toNat
  if a = R.SYS_LOCK_SET then lockSet s n
  else if a = R.CLK_GATE then gateWrite s n
  else if a = R.PWR_WAKE_CFG then wakeCfgWrite s (writeWord r (regGet s a) v)
  else if a = R.QMGR_IRQPEND0 then irqPendClear s false n
  else if a = R.QMGR_IRQPEND1 then irqPendClear s true n
  else if R.QP_CTRL 0 ≤ a ∧ a < R.QP_CTRL 46 ∧ (a - R.QP_CTRL 0) % 0x40 = 0 then
    (if n % 2 = 1 then qpEnable s ((a - R.QP_CTRL 0) / 0x40) else qpDisable s ((a - R.QP_CTRL 0) / 0x40))
  else if a = R.PTP_INC0 then incWrite s 0 n
  else if a = R.PTP_INC1 then incWrite s 1 n
  else if R.PERF_C_PRESET 0 ≤ a ∧ a < R.PERF_C_PRESET 16 ∧ (a - R.PERF_C_PRESET 0) % 0x20 = 0 then perfPreset s ((a - R.PERF_C_PRESET 0) / 0x20) n
  else if isPairLo a ∧ r.rw ≠ 0 then pairStage s lvl a v
  else if isPairHi a ∧ r.rw ≠ 0 then pairCommit s lvl a r v
  else plainWrite (if blockOf a = some .perf then perfSync s else s) r a v

/-- A 32-bit aligned write (R110, R114, R115): a doorbell (R90), a violation, a frozen register, or its effect. -/
def regWrite (s : State) (lvl : Level) (a : Nat) (v : Word) : State :=
  if 0x10018000 ≤ a ∧ a < 0x10018170 ∧ a % 4 = 0 then
    (if !levelUp s lvl then s
     else if a % 8 = 0 then sqTailWrite s lvl ((a - 0x10018000) / 8) v.toNat else cqHeadWrite s lvl ((a - 0x10018000) / 8) v.toNat)
  else match writeAllowed s lvl a with
    | some r => if regFrozen s a then s else regTake s lvl a r v
    | none => s

/-- A write of any width in bytes (R92, R110, R115): 64 bits act as two writes, the lower address first, in the doorbell page the upper
first; any other width or alignment is a violation. -/
def busWrite (s : State) (lvl : Level) (a width v : Nat) : State :=
  if width = 4 ∧ a % 4 = 0 then regWrite s lvl a (loW v)
  else if width = 8 ∧ a % 8 = 0 then
    (if 0x10018000 ≤ a ∧ a < 0x10018170 then regWrite (regWrite s lvl (a + 4) (hiW v)) lvl a (loW v)
     else regWrite (regWrite s lvl a (loW v)) lvl (a + 4) (hiW v))
  else s

/-! ### The rows -/

/-- REGISTER_WRITE: `width` in bytes. -/
def execRegisterWrite (lvl : Level) (addr width value : Nat) (s : State) : Host.Outcome State Fault Refusal :=
  .next (busWrite s lvl addr width value)

/-- LOCK_SET. -/
def execLockSet (lvl : Level) (value : Nat) (s : State) : Host.Outcome State Fault Refusal := .next (regWrite s lvl R.SYS_LOCK_SET (loW value))

/-- What the monitors show at the instant of a read of CLK or PWR (R9, R122, R123, R488). -/
def readTake (s : State) (a : Nat) (now : SupplyIn) : State :=
  if blockOf a = some .clk ∨ blockOf a = some .pwr then supplyTake s now else s

/-- LO_READ: a read of a register, `width` in bytes; what it returns stands in `bus`. -/
def execLoRead (lvl : Level) (addr width : Nat) (now : SupplyIn) (s : State) : Host.Outcome State Fault Refusal :=
  .next (busRead (readTake s addr now) lvl addr width)

/-- LO_WRITE. -/
def execLoWrite (lvl : Level) (addr value : Nat) (s : State) : Host.Outcome State Fault Refusal :=
  .next (if isPairLo addr then regWrite s lvl addr (loW value) else s)

/-- HI_WRITE. -/
def execHiWrite (lvl : Level) (addr value : Nat) (s : State) : Host.Outcome State Fault Refusal :=
  .next (if isPairHi addr then regWrite s lvl addr (loW value) else s)

/-- INC_WRITE. -/
def execIncWrite (lvl : Level) (dom value : Nat) (s : State) : Host.Outcome State Fault Refusal :=
  .next (if dom < 2 then regWrite s lvl (if dom = 0 then R.PTP_INC0 else R.PTP_INC1) (loW value) else s)

/-- PRESET. -/
def execPreset (lvl : Level) (ctr value : Nat) (s : State) : Host.Outcome State Fault Refusal :=
  .next (if ctr < 16 then regWrite s lvl (R.PERF_C_PRESET ctr) (loW value) else s)

end Sys2Proof.Machine
end

