-- ==== Sys2Proof/Machine/ItemCheck.lean ====
section
/-! DEFINITION. What SET_CONFIG checks of an item beyond the ranges of its fields, and when an item comes into force: the change classes
of R119 and the item tables of the chapters. -/

namespace Sys2Proof.Machine

open Sys2Proof

/-! ### The STATUS of a field outside its range -/

/-- ITEM_RANGE as each queue pair numbers it (R152, R176, R179, R198, R225, R245, R265, R297, R346, R371, R396, R418, R452, R499);
BAD_ARG where the chapter's table has none (UPD and PTP; DEDUCED, log 30). -/
def rangeStatus (qp : Nat) : Nat :=
  match qp with
  | 2 => 0x43 | 7 => 0x42 | 12 => 0x41 | 13 => 0x40 | 14 => 0x44 | 15 => 0x40 | 18 => 0x40 | 20 => 0x40 | 31 => 0x40 | 32 => 0x40
  | 36 => 0x42 | 42 => 0x41 | q => if (21 ≤ q ∧ q ≤ 28) ∨ (38 ≤ q ∧ q ≤ 40) then 0x40 else 0x05

/-! ### Checks across fields -/

/-- The offset o where a condition fails. -/
def badAt (ok : Bool) (o : Nat) : List Nat := if ok then [] else [o]

/-- The first of n values, k bytes apart from an offset, that does not rise over its predecessor: its offset. -/
def notRising (bs : List Byte) (ofs step n w : Nat) : List Nat :=
  ((List.range (n - 1)).filter (fun i =>
    decide (sInt (8 * w) (fieldAt bs (ofs + step * (i + 1)) w) ≤ sInt (8 * w) (fieldAt bs (ofs + step * i) w)))).map
    (fun i => ofs + step * (i + 1))

/-- REC item 2's entries (R455). -/
def recEntryBad (bs : List Byte) (i : Nat) : List Nat :=
  let o := 4 + 8 * i
  badAt (decide (fieldAt bs (o + 1) 1 = 0)) (o + 1) ++ badAt (decide (1 ≤ fieldAt bs (o + 4) 2 ∧ fieldAt bs (o + 4) 2 ≤ 1024)) (o + 4)
    ++ badAt (decide (1 ≤ fieldAt bs (o + 6) 2)) (o + 6)

/-- The bit timing of a CAN item 1 (R404, R405). -/
def canTimingBad (bs : List Byte) : List Nat :=
  let n := fieldAt bs 4 2 * (1 + fieldAt bs 6 2 + fieldAt bs 8 1)
  let d := fieldAt bs 0x0A 1 * (1 + fieldAt bs 0x0B 1 + fieldAt bs 0x0C 1)
  let fd := decide (fieldAt bs 1 1 = 1)
  badAt (decide (80 ≤ n)) 4 ++ badAt (!fd || (decide (10 ≤ d) && decide (d ≤ n))) 0x0A
    ++ badAt (decide (fieldAt bs 9 1 ≤ fieldAt bs 8 1)) 9 ++ badAt (decide (fieldAt bs 0x0D 1 ≤ fieldAt bs 0x0C 1)) 0x0D
    ++ badAt (decide (fieldAt bs 0x0E 1 = 0) || decide (fieldAt bs 0x0A 1 ≤ 2)) 0x0A

/-- An STL session entry (R343, R344, R347, and R324's rule on MEDIUM 0). -/
def stlItemBad (s : State) (n : Nat) (bs : List Byte) : List Nat :=
  let med := fieldAt bs 0 1
  let can := isCanMed med
  let ring := decide (med = medRing)
  let cyc := fieldAt bs 0x10 4
  let len := fieldAt bs 0x0E 2
  let asked := !s.safe.set.isEmpty && (List.range 4).any (fun o => decide (soReq s o = 6) && decide (soSes s o = n))
  badAt (!(asked && decide (med = 0))) 0 ++ badAt (decide (fieldAt bs 4 4 ≠ 0) || !(ring || can)) 4
    ++ badAt ((decide (fieldAt bs 8 4 ≠ 0) && decide (fieldAt bs 8 4 ≠ fieldAt bs 4 4)) || !(ring || can)) 8
    ++ badAt (decide (len % 4 = 0) && (!can || decide (len ≤ 32))) 0x0E
    ++ badAt ((!ring || (decide (500 ≤ cyc) && decide (cyc ≤ 1000000))) && (!can || (decide (2000 ≤ cyc) && decide (cyc ≤ 1000000)))) 0x10
    ++ badAt (decide (2 * cyc ≤ fieldAt bs 0x14 4)) 0x14

/-- The offsets of the fields of an item that break a rule beyond their own range. -/
def crossBad (s : State) (qp a : Nat) (bs : List Byte) : List Nat :=
  match qp, a with
  | 2, 2 => (List.range (min 64 (fieldAt bs 0 1))).flatMap (recEntryBad bs)
  | 4, 1 => badAt (decide (fieldAt bs 2 2 ≤ 16383) || decide (fieldAt bs 2 2 = 0xFFFF)) 2
  | 7, 1 => (match tableNext s with
    | some t => badAt (estRateOk t.entries.length (tableCycle t (carrierNow s)) (fieldAt bs 0 2)) 0
    | none => [])
  | 12, 1 => let nn := fieldAt bs 0 4 % 32; badAt (decide (nn % 2 = 0) && decide (4 ≤ nn) && decide (nn ≤ 24)) 0
  | 13, 1 => badAt (decide (fieldAt bs 5 1 = 0) || decide (fieldAt bs 8 4 ≠ 0)) 8
  | 13, 2 => badAt (decide (fieldAt bs 2 1 < fieldAt bs 1 1)) 2 ++ badAt (decide (fieldAt bs 4 2 % 500 = 0)) 4
  | 14, 1 => badAt (decide (fieldAt bs 2 2 % 10 = 0)) 2
  | 15, 2 => badAt (decide (fieldAt bs 12 4 < fieldAt bs 8 4)) 12 ++ badAt (decide (fieldAt bs 18 2 < fieldAt bs 16 2)) 18
      ++ notRising bs 0x18 2 (fieldAt bs 40 1) 2
  | 18, 1 => badAt (decide (fieldAt bs 1 1 ≤ 15) || decide (fieldAt bs 1 1 = 0xFF)) 1
  | 18, 2 => (List.range (min 16 (fieldAt bs 8 1))).flatMap (fun k =>
      badAt (decide (1 ≤ fieldAt bs (0x12 + 4 * k) 1)) (0x12 + 4 * k) ++ badAt (decide (fieldAt bs (0x13 + 4 * k) 1 = 0)) (0x13 + 4 * k))
  | 18, 3 => notRising bs 8 2 (fieldAt bs 4 1) 2
  | 20, 1 => badAt (decide (sInt 16 (fieldAt bs 0x12 2) < sInt 16 (fieldAt bs 0x10 2))) 0x12
  | 20, 2 => (List.range (min 8 (fieldAt bs 0 1))).flatMap (fun i =>
      badAt (decide (fieldAt bs (0x0A + 12 * i) 2 = 0)) (0x0A + 12 * i) ++ badAt (decide (fieldAt bs (0x0C + 12 * i) 4 ≤ 2000000)) (0x0C + 12 * i)
        ++ badAt (decide (fieldAt bs (0x10 + 12 * i) 4 ≤ 2000000)) (0x10 + 12 * i))
  | 31, _ => stlItemBad s (a / 256) bs
  | 32, 1 => badAt (decide (fieldAt bs 0 1 = b2n (setPair s))) 0
  | 32, 2 => (List.range (min 16 (fieldAt bs 0 1))).flatMap (fun i => badAt (decide (fieldAt bs (10 + 8 * i) 2 = 0)) (10 + 8 * i))
  | 36, 1 => badAt (decide (fieldAt bs 3 1 ≤ 63) || decide (fieldAt bs 3 1 = 0xFF)) 3
  | q, _ =>
    if 38 ≤ q ∧ q ≤ 40 then
      (if a = 1 then canTimingBad bs
       else
         let fl := fieldAt bs 1 1
         badAt (!(decide (canU s (q - 38) 1 1 = 0) && (bitOf fl 1 || bitOf fl 2)) && !(bitOf fl 3 && bitOf fl 1)) 1)
    else []

/-- The offset of the lowest field of an item that is out of range, if any. -/
def itemBad (s : State) (qp a : Nat) (d : ItemDesc) (bs : List Byte) : Option Nat :=
  match (firstBad d.flds bs).toList ++ crossBad s qp a bs with
  | [] => none
  | x :: t => some (t.foldl min x)

/-- Whether some tile reached in the set lacks TAP_VALID, so that MODE 1 is refused (R200). -/
def tapMissing (s : State) : Bool := (List.range (setNn s)).any (fun p => (tileByPos s p).isSome && !(posTile s p).tapValid)

/-- Whether the breakpoints of a table item do not rise, or the OCV of QP21's item 2 falls (R265, R297). -/
def tableBad (qp a : Nat) (bs : List Byte) : Bool :=
  if qp = 20 ∧ a = 2 then !(notRising bs 8 12 (fieldAt bs 0 1) 2).isEmpty
  else if qp = 21 ∧ a = 2 then
    !(notRising bs 8 2 (fieldAt bs 0 1) 2).isEmpty
    || (List.range (fieldAt bs 0 1)).any (fun t => (List.range 10).any (fun i =>
        decide (fieldAt bs (0x10 + 44 * t + 4 * (i + 1)) 4 < fieldAt bs (0x10 + 44 * t + 4 * i) 4)))
  else if 21 ≤ qp ∧ qp ≤ 28 ∧ (a = 2 ∨ a = 3) then !(notRising bs 4 8 (fieldAt bs 0 1) 4).isEmpty
  else false

/-- The engine's own checks of an item's contents, in the order of the chapter's STATUS table (step 13 of R521): STATUS and RESULT_EXT. -/
def itemCheck (s : State) (qp a : Nat) (d : ItemDesc) (bs : List Byte) : Option (Nat × Nat) :=
  if qp = 14 ∧ fieldAt bs 0 1 = 1 ∧ tapMissing s then some (0x41, 0)
  else match itemBad s qp a d bs with
    | some o => some (rangeStatus qp, if rangeStatus qp = 5 then 0 else o)
    | none =>
      if tableBad qp a bs then some (if qp = 20 then 0x41 else 0x43, 0)
      else if qp = 31 ∧ anySoOn s ∧ a / 256 ∈ namedSess s then some (0x41, 0)
      else if qp = 32 ∧ a = 2 ∧ (List.range (fieldAt bs 0 1)).any (fun i => decide (fieldAt bs (4 + 8 * i) 2 = redPair s)) then some (0x44, 0)
      else if 38 ≤ qp ∧ qp ≤ 40 ∧ 0x100 ≤ a ∧ objStl s (qp - 38) (a - 0x100) then some (0x42, 0)
      else none

/-! ### Change classes (R119) -/

/-- Whether the unit of a STATIC item is enabled, so that SET_CONFIG completes with STATE (R119, R265, R298, R346, R372, R397, R399, R420). -/
def itemFrozen (s : State) (qp a : Nat) : Bool :=
  match qp, a with
  | 20, 3 => flag s R.THERM_STATUS_ACT_RUN
  | 31, _ => decide (stlSt s (a / 256) ≠ stlClosed)
  | 32, 2 => flag s R.RED_CFG_KSVC
  | 36, 1 => s.eth.on.any id
  | 36, 2 => s.eth.on.getD 0 false
  | 36, 3 => s.eth.on.getD 1 false
  | 37, 1 => flag s R.PTP_STATUS_D0_EN
  | 37, 2 => flag s R.PTP_STATUS_D1_EN
  | q, _ =>
    if 21 ≤ q ∧ q ≤ 28 then decide (a ≤ 4) && decide (lcSt s (q - 21) ≠ lcOpenC)
    else if 38 ≤ q ∧ q ≤ 40 then decide (a = 1) && decide (canSt s (q - 38) ≠ canOff)
    else false

/-- Whether a BOUNDARY item's boundary lies ahead, because the function it belongs to runs (R119); otherwise the item takes effect at
once. -/
def boundaryAhead (s : State) (qp a : Nat) : Bool :=
  match qp with
  | 7 => flag s R.MEAS_STATUS_RUN
  | 14 => flag s R.MEAS_STATUS_RUN
  | 13 => if a = 1 then flag s R.HVM_STATUS_RUN && s.safe.fw else isoMay s || decide (s.hvm.iso ≠ .idle)
  | 15 => flag s R.EST_STATUS_RUN
  | 18 => flag s R.EIS_STATUS_RUN && s.eis.on
  | 20 => flag s R.THERM_STATUS_RUN
  | q => decide (38 ≤ q) && (canAt s (q - 38)).attempt.isSome

/-- What follows at once when an item comes into force outside its boundary. -/
def itemFollow (s : State) (qp : Nat) : State :=
  if qp = 14 then put s R.BAL_STATUS_MODE (decide (cfgU s 14 1 0 1 = 1))
  else if qp = 18 then eisShow s
  else if qp = 31 then namedFollow s
  else if qp = 37 then autoFollow s
  else s

/-- A checked item stored and brought into force, or left waiting, by its class (R104): a STAGED one waits for its commit (R212, R245),
and CHAIN's and RED's item 1 take effect at the next start-up (R152, R372). -/
def itemApply (s : State) (qp a : Nat) (d : ItemDesc) (bs : List Byte) : State × EntrySt :=
  let key := itemKey qp a
  if !storTakes s then failR s 0x06
  else
    let s1 := cfgStoreItem s key bs
    if qp = 12 ∨ (qp = 32 ∧ a = 1) then okR s1 0
    else if d.cls = .staged then okR (cfgForce s1 key bs) 0
    else if d.cls = .boundary && boundaryAhead s1 qp a then okR (cfgWait s1 key bs) 0
    else if 38 ≤ qp ∧ qp ≤ 40 ∧ d.cls = .boundary then okR (canItems (cfgWait s1 key bs) (qp - 38)) 0
    else okR (itemFollow (cfgForce s1 key bs) qp) 0

/-! ### SET_CONFIG and GET_CONFIG (R104) -/

/-- SET_CONFIG: the lock (R117), the class (R119), the buffer (R101), the contents, and then the item is stored. -/
def setConfig (qp : Nat) (e : Entry) (s : State) : State × EntrySt :=
  match itemDesc qp e.arg0 with
  | none => failR s 0x05
  | some d =>
    if d.lockable && blockLocked s (qpBlock qp) then failR s 0x07
    else if itemFrozen s qp e.arg0 then failR s 0x06
    else withBuf e s (fun bs =>
      match itemCheck s qp e.arg0 d bs with
      | some (st, ext) => failX s st ext
      | none => itemApply s qp e.arg0 d bs)

/-- The contents that GET_CONFIG returns: the safety set in SP's memory on QP30 (R329), a quarter of the table in force on QP8 to QP11
(R176), the stored item where the next start-up brings it into force, and else the item last set (DEDUCED, log 30). -/
def itemShown (s : State) (qp a : Nat) : List Byte :=
  if qp = 30 then s.safe.set
  else if 8 ≤ qp ∧ qp ≤ 11 then quarterBytes s (qp - 8)
  else if qp = 12 ∨ (qp = 32 ∧ a = 1) then mapGet itemDflt (cfgNewest s).items (itemKey qp a)
  else match s.cfgPend.find? (fun x => decide (x.1 = itemKey qp a)) with
    | some x => x.2
    | none => cfgItem s qp a

/-- GET_CONFIG. -/
def getConfig (qp : Nat) (e : Entry) (s : State) : State × EntrySt :=
  let bs := itemShown s qp e.arg0
  if bs.isEmpty then failR s 0x06 else okR (memWrite s e.addr bs) bs.length

end Sys2Proof.Machine
end

