-- ==== Sys2Proof/Machine/Common.lean ====
section
/-! DEFINITION. The common opcodes (R104) on every queue pair: NOP, GET_STATUS, SET_CONFIG, GET_CONFIG, ENABLE, DISABLE, POST_BUFFER, MARK and
FLUSH. -/

namespace Sys2Proof.Machine

open Sys2Proof

/-! ### GET_STATUS -/

/-- The word that GET_STATUS writes for an address: 0 where nothing is mapped or where the register is locked to APP levels (R104, R117). -/
def statusWord (s : State) (lvl : Level) (a : Nat) : Word :=
  match findRow a, blockOf a with
  | some r, some b => if r.lockable && blockLocked s b then 0 else regShow s lvl a
  | _, _ => 0

/-- The status block of a queue pair as its entry's level reads it. -/
def statusBytes (s : State) (qp : Nat) (lvl : Level) : List Byte := (statusAddrs qp).flatMap (fun a => leBytes 4 (statusWord s lvl a).toNat)

/-- GET_STATUS. -/
def getStatus (qp : Nat) (e : Entry) (s0 : State) : State × EntrySt :=
  let s := if qp = 42 then perfSync s0 else s0
  let bs := statusBytes s qp e.level
  okR (memWrite s e.addr bs) bs.length

/-! ### ENABLE and DISABLE -/

/-- ENABLE: the engine, channel, session or function that the queue pair serves. Where the chapter names none, nothing follows (DEDUCED,
log 30). -/
def engineEnable (qp : Nat) (e : Entry) (s : State) : State × EntrySt :=
  match qp with
  | 14 => okR (put s R.BAL_STATUS_RUN true) 0
  | 15 => estEnable e s | 16 => estEnable e s | 17 => estEnable e s
  | 18 => eisEnable e s | 19 => eisEnable e s
  | 20 => thermEnable e s
  | 29 => pwmEnable s
  | 31 => stlEnable e s
  | 32 => ksEnable e s
  | 36 => ethEnable e s
  | 37 => ptpEnable e s
  | 41 => crcEnable e s
  | 42 => perfEnable e s
  | 43 => pepperEnable e s
  | q =>
    if 21 ≤ q ∧ q ≤ 28 then lcEnable (q - 21) s
    else if 38 ≤ q ∧ q ≤ 40 then canEnable (q - 38) s
    else okR s 0

/-- DISABLE. -/
def engineDisable (qp : Nat) (e : Entry) (s : State) : State × EntrySt :=
  match qp with
  | 14 => okR (put s R.BAL_STATUS_RUN false) 0
  | 15 => estDisable e s | 16 => estDisable e s | 17 => estDisable e s
  | 18 => eisDisable e s | 19 => eisDisable e s
  | 20 => thermDisable e s
  | 29 => pwmDisable s
  | 31 => stlDisable e s
  | 32 => ksDisable e s
  | 36 => ethDisable e s
  | 37 => ptpDisable e s
  | 41 => crcDisable e s
  | 42 => perfDisable e s
  | 43 => pepperDisable e s
  | q =>
    if 21 ≤ q ∧ q ≤ 28 then lcDisable (q - 21) s
    else if 38 ≤ q ∧ q ≤ 40 then canDisable (q - 38) s
    else okR s 0

/-! ### POST_BUFFER, MARK, FLUSH -/

/-- MARK: PT64 at completion. -/
def markPt (_ : Entry) (s : State) : State × EntrySt := okX s (ptNow s % 2 ^ 32) (ptNow s / 2 ^ 32 % 2 ^ 16)

/-- FLUSH: every posted buffer returns; RESULT counts those that were empty. -/
def flushQp (qp : Nat) (_ : Entry) (s : State) : State × EntrySt := okR (flushPosted s qp) (emptyPosted (qpAt s qp).entries)

/-! ### The rows -/

/-- NOP. -/
def execNop (qp : Nat) (s : State) : Host.Outcome State Fault Refusal := .next (runEntry s qp opNop (fun _ s => okR s 0))

/-- GET_STATUS. -/
def execGetStatus (qp : Nat) (s : State) : Host.Outcome State Fault Refusal := .next (runEntry s qp opGetStatus (getStatus qp))

/-- SET_CONFIG. -/
def execSetConfig (qp : Nat) (s : State) : Host.Outcome State Fault Refusal := .next (runEntry s qp opSetConfig (setConfig qp))

/-- GET_CONFIG. -/
def execGetConfig (qp : Nat) (s : State) : Host.Outcome State Fault Refusal := .next (runEntry s qp opGetConfig (getConfig qp))

/-- ENABLE. -/
def execEnable (qp : Nat) (s : State) : Host.Outcome State Fault Refusal := .next (runEntry s qp opEnable (engineEnable qp))

/-- DISABLE. -/
def execDisable (qp : Nat) (s : State) : Host.Outcome State Fault Refusal := .next (runEntry s qp opDisable (engineDisable qp))

/-- POST_BUFFER. -/
def execPostBuffer (qp : Nat) (s : State) : Host.Outcome State Fault Refusal := .next (runEntry s qp opPost (fun _ s => (s, .posted 0)))

/-- MARK. -/
def execMark (qp : Nat) (s : State) : Host.Outcome State Fault Refusal := .next (runEntry s qp opMark markPt)

/-- FLUSH. -/
def execFlush (qp : Nat) (s : State) : Host.Outcome State Fault Refusal := .next (runEntry s qp opFlush (flushQp qp))

end Sys2Proof.Machine
end

