-- ==== Sys2Proof/Machine/Dispatch.lean ====
section
/-! DEFINITION. One arm per command: a direct call of its meaning. -/

namespace Sys2Proof.Machine

open Sys2Proof

/-- What a command does to everything but the queue. -/
def exec (i : Instr) (s : State) : Host.Outcome State Fault Refusal :=
  match i with
  | .railRise env => Sys2Proof.Machine.execRailRise env s
  | .serviceFwRunning => Sys2Proof.Machine.execServiceFwRunning s
  | .safeReady => Sys2Proof.Machine.execSafeReady s
  | .lowWarning now => Sys2Proof.Machine.execLowWarning now s
  | .railHigh now => Sys2Proof.Machine.execRailHigh now s
  | .overVoltage now => Sys2Proof.Machine.execOverVoltage now s
  | .powerFail now => Sys2Proof.Machine.execPowerFail now s
  | .railReturn now => Sys2Proof.Machine.execRailReturn now s
  | .rideThroughEnd => Sys2Proof.Machine.execRideThroughEnd s
  | .flushEnd env => Sys2Proof.Machine.execFlushEnd env s
  | .holdupEnergyExhausted => Sys2Proof.Machine.execHoldupEnergyExhausted s
  | .railReturnInFlush => Sys2Proof.Machine.execRailReturnInFlush s
  | .coilUv now => Sys2Proof.Machine.execCoilUv now s
  | .watch => Sys2Proof.Machine.execWatch s
  | .watchReached env => Sys2Proof.Machine.execWatchReached env s
  | .wakeInput env => Sys2Proof.Machine.execWakeInput env s
  | .can0WakePattern env => Sys2Proof.Machine.execCan0WakePattern env s
  | .wakeTimerExpiry env => Sys2Proof.Machine.execWakeTimerExpiry env s
  | .unitReset env => Sys2Proof.Machine.execUnitReset env s
  | .clusterReset => Sys2Proof.Machine.execClusterReset s
  | .mainOscillatorLoss now env => Sys2Proof.Machine.execMainOscillatorLoss now env s
  | .dieOverTemperature now => Sys2Proof.Machine.execDieOverTemperature now s
  | .lockstepMismatch => Sys2Proof.Machine.execLockstepMismatch s
  | .spWatchdogExpiry => Sys2Proof.Machine.execSpWatchdogExpiry s
  | .safetyReset row => Sys2Proof.Machine.execSafetyReset row s
  | .clusterWatchdogExpiry c => Sys2Proof.Machine.execClusterWatchdogExpiry c s
  | .safeIslandLimit now => Sys2Proof.Machine.execSafeIslandLimit now s
  | .aonIslandLimit now env => Sys2Proof.Machine.execAonIslandLimit now env s
  | .peakDrawLimit now => Sys2Proof.Machine.execPeakDrawLimit now s
  | .peakDrawRelease now spanMs mwMs => Sys2Proof.Machine.execPeakDrawRelease now spanMs mwMs s
  | .sqTail lvl qp value writes => Sys2Proof.Machine.execSqTail lvl qp value writes s
  | .cqHead lvl qp value => Sys2Proof.Machine.execCqHead lvl qp value s
  | .sqFetch qp ue => Sys2Proof.Machine.execSqFetch qp ue s
  | .timedStart qp => Sys2Proof.Machine.execTimedStart qp s
  | .coalTimeout qp => Sys2Proof.Machine.execCoalTimeout qp s
  | .irqpendClear lvl hi value => Sys2Proof.Machine.execIrqpendClear lvl hi value s
  | .qpEnable lvl qp => Sys2Proof.Machine.execQpEnable lvl qp s
  | .qpDisable lvl qp => Sys2Proof.Machine.execQpDisable lvl qp s
  | .qpIdle qp => Sys2Proof.Machine.execQpIdle qp s
  | .nop qp => Sys2Proof.Machine.execNop qp s
  | .getStatus qp => Sys2Proof.Machine.execGetStatus qp s
  | .setConfig qp => Sys2Proof.Machine.execSetConfig qp s
  | .getConfig qp => Sys2Proof.Machine.execGetConfig qp s
  | .enable qp => Sys2Proof.Machine.execEnable qp s
  | .disable qp => Sys2Proof.Machine.execDisable qp s
  | .postBuffer qp => Sys2Proof.Machine.execPostBuffer qp s
  | .mark qp => Sys2Proof.Machine.execMark qp s
  | .flush qp => Sys2Proof.Machine.execFlush qp s
  | .lockSet lvl value => Sys2Proof.Machine.execLockSet lvl value s
  | .registerWrite lvl addr width value => Sys2Proof.Machine.execRegisterWrite lvl addr width value s
  | .loRead lvl addr width now => Sys2Proof.Machine.execLoRead lvl addr width now s
  | .loWrite lvl addr value => Sys2Proof.Machine.execLoWrite lvl addr value s
  | .hiWrite lvl addr value => Sys2Proof.Machine.execHiWrite lvl addr value s
  | .incWrite lvl dom value => Sys2Proof.Machine.execIncWrite lvl dom value s
  | .preset lvl ctr value => Sys2Proof.Machine.execPreset lvl ctr value s
  | .sampleInstant rx hv transit => Sys2Proof.Machine.execSampleInstant rx hv transit s
  | .arm k snum lead fromX3 chk => Sys2Proof.Machine.execArm k snum lead fromX3 chk s
  | .strobe k si => Sys2Proof.Machine.execStrobe k si s
  | .sweepRd k sinceNs fate => Sys2Proof.Machine.execSweepRd k sinceNs fate s
  | .holdRd k sinceNs fate => Sys2Proof.Machine.execHoldRd k sinceNs fate s
  | .tregRd k reg chk => Sys2Proof.Machine.execTregRd k reg chk s
  | .tregWr k ws chk => Sys2Proof.Machine.execTregWr k ws chk s
  | .enum portB => Sys2Proof.Machine.execEnum portB s
  | .dlyMark k m chk => Sys2Proof.Machine.execDlyMark k m chk s
  | .dlySet k x2 x3 align chk => Sys2Proof.Machine.execDlySet k x2 x3 align chk s
  | .probeFrame k portB chk => Sys2Proof.Machine.execProbeFrame k portB chk s
  | .safeWr k ov uv filt srcSp chk => Sys2Proof.Machine.execSafeWr k ov uv filt srcSp chk s
  | .safeRd k chk => Sys2Proof.Machine.execSafeRd k chk s
  | .rearm k srcSp chk => Sys2Proof.Machine.execRearm k srcSp chk s
  | .armSafe k srcSp chk => Sys2Proof.Machine.execArmSafe k srcSp chk s
  | .sleep k chk => Sys2Proof.Machine.execSleep k chk s
  | .tileSilenceTimeout k => Sys2Proof.Machine.execTileSilenceTimeout k s
  | .tileWake k fresh stack => Sys2Proof.Machine.execTileWake k fresh stack s
  | .tileClockLock k onX3 ok => Sys2Proof.Machine.execTileClockLock k onX3 ok s
  | .stackLow k => Sys2Proof.Machine.execStackLow k s
  | .stackRestored k => Sys2Proof.Machine.execStackRestored k s
  | .comparatorTrip k cell ov v => Sys2Proof.Machine.execComparatorTrip k cell ov v s
  | .comparatorSelfTest k tripUs standInUs => Sys2Proof.Machine.execComparatorSelfTest k tripUs standInUs s
  | .openWireTest => Sys2Proof.Machine.execOpenWireTest s
  | .syncLoss node x3 codes => Sys2Proof.Machine.execSyncLoss node x3 codes s
  | .loopModeExit k x3 => Sys2Proof.Machine.execLoopModeExit k x3 s
  | .linkDown portB pos lostX3 => Sys2Proof.Machine.execLinkDown portB pos lostX3 s
  | .readIncomplete sinceNs => Sys2Proof.Machine.execReadIncomplete sinceNs s
  | .sweepDeadline => Sys2Proof.Machine.execSweepDeadline s
  | .sweepComplete => Sys2Proof.Machine.execSweepComplete s
  | .probeReturn => Sys2Proof.Machine.execProbeReturn s
  | .ringClose tAB tBA marks => Sys2Proof.Machine.execRingClose tAB tBA marks s
  | .chainRound => Sys2Proof.Machine.execChainRound s
  | .delayRemeasure tAB tBA marks => Sys2Proof.Machine.execDelayRemeasure tAB tBA marks s
  | .tileRd => Sys2Proof.Machine.execTileRd s
  | .probe => Sys2Proof.Machine.execProbe s
  | .dlyMeasure tAB tBA marks => Sys2Proof.Machine.execDlyMeasure tAB tBA marks s
  | .tileSnap => Sys2Proof.Machine.execTileSnap s
  | .tableCommit => Sys2Proof.Machine.execTableCommit s
  | .revert => Sys2Proof.Machine.execRevert s
  | .scheduleBoundary => Sys2Proof.Machine.execScheduleBoundary s
  | .quarterLoad qp => Sys2Proof.Machine.execQuarterLoad qp s
  | .carrierStop => Sys2Proof.Machine.execCarrierStop s
  | .carrierRestart => Sys2Proof.Machine.execCarrierRestart s
  | .carrierPeriodChange => Sys2Proof.Machine.execCarrierPeriodChange s
  | .hvmReport means iMinNv iMaxNv => Sys2Proof.Machine.execHvmReport means iMinNv iMaxNv s
  | .insulationPhaseEnd vc u100 moved uMin => Sys2Proof.Machine.execInsulationPhaseEnd vc u100 moved uMin s
  | .insulationCycleEnd => Sys2Proof.Machine.execInsulationCycleEnd s
  | .shuntOverRange overN => Sys2Proof.Machine.execShuntOverRange overN s
  | .setTimers => Sys2Proof.Machine.execSetTimers s
  | .bleedStop => Sys2Proof.Machine.execBleedStop s
  | .balSnap => Sys2Proof.Machine.execBalSnap s
  | .tapCal iMa => Sys2Proof.Machine.execTapCal iMa s
  | .tapCalDone iMax vMin vMax steps tcals => Sys2Proof.Machine.execTapCalDone iMax vMin vMax steps tcals s
  | .bleedTimerExpiry k cell => Sys2Proof.Machine.execBleedTimerExpiry k cell s
  | .bleedPowerTick k => Sys2Proof.Machine.execBleedPowerTick k s
  | .bleedSilence k => Sys2Proof.Machine.execBleedSilence k s
  | .pauseFetsOff k => Sys2Proof.Machine.execPauseFetsOff k s
  | .pauseFetsOn k => Sys2Proof.Machine.execPauseFetsOn k s
  | .balRound elapsedS => Sys2Proof.Machine.execBalRound elapsedS s
  | .estCycle => Sys2Proof.Machine.execEstCycle s
  | .ageWaitExpiry => Sys2Proof.Machine.execAgeWaitExpiry s
  | .noEisTimeout c => Sys2Proof.Machine.execNoEisTimeout c s
  | .staleTimeout c => Sys2Proof.Machine.execStaleTimeout c s
  | .sopEvaluation => Sys2Proof.Machine.execSopEvaluation s
  | .snapshotTimer => Sys2Proof.Machine.execSnapshotTimer s
  | .chemCommit => Sys2Proof.Machine.execChemCommit s
  | .cellReset => Sys2Proof.Machine.execCellReset s
  | .snapshot => Sys2Proof.Machine.execSnapshot s
  | .segmentEnd => Sys2Proof.Machine.execSegmentEnd s
  | .integrationEnd => Sys2Proof.Machine.execIntegrationEnd s
  | .holdTimeout => Sys2Proof.Machine.execHoldTimeout s
  | .planCommit => Sys2Proof.Machine.execPlanCommit s
  | .eisHistoryTimer => Sys2Proof.Machine.execEisHistoryTimer s
  | .housekeepingRound tin => Sys2Proof.Machine.execHousekeepingRound tin s
  | .fastRound tin => Sys2Proof.Machine.execFastRound tin s
  | .heaterDwellEnd => Sys2Proof.Machine.execHeaterDwellEnd s
  | .actFault a => Sys2Proof.Machine.execActFault a s
  | .lc0Cycle x => Sys2Proof.Machine.execLc0Cycle x s
  | .fastCycle x => Sys2Proof.Machine.execFastCycle x s
  | .slowCycle x dtNs => Sys2Proof.Machine.execSlowCycle x dtNs s
  | .dwellEnd n => Sys2Proof.Machine.execDwellEnd n s
  | .supervisionCheck x iHall => Sys2Proof.Machine.execSupervisionCheck x iHall s
  | .stoppingTimeout n => Sys2Proof.Machine.execStoppingTimeout n s
  | .psFault low => Sys2Proof.Machine.execPsFault low s
  | .stop qp => Sys2Proof.Machine.execStop qp s
  | .setRef qp => Sys2Proof.Machine.execSetRef qp s
  | .setDispatch qp => Sys2Proof.Machine.execSetDispatch qp s
  | .dispatchExpiry => Sys2Proof.Machine.execDispatchExpiry s
  | .powerRequest sender req => Sys2Proof.Machine.execPowerRequest sender req s
  | .fogAssert loopOpen => Sys2Proof.Machine.execFogAssert loopOpen s
  | .fogDeassert => Sys2Proof.Machine.execFogDeassert s
  | .spEvaluation => Sys2Proof.Machine.execSpEvaluation s
  | .setCrcCheck flips => Sys2Proof.Machine.execSetCrcCheck flips s
  | .siChannelChange n chB on => Sys2Proof.Machine.execSiChannelChange n chB on s
  | .discrepancyTimeout n => Sys2Proof.Machine.execDiscrepancyTimeout n s
  | .inputTestPulse tpb reads => Sys2Proof.Machine.execInputTestPulse tpb reads s
  | .outputSwitchOn n => Sys2Proof.Machine.execOutputSwitchOn n s
  | .highSideOn n => Sys2Proof.Machine.execHighSideOn n s
  | .outputSwitchOff n => Sys2Proof.Machine.execOutputSwitchOff n s
  | .offStateCheck pins coilMv => Sys2Proof.Machine.execOffStateCheck pins coilMv s
  | .overcurr n => Sys2Proof.Machine.execOvercurr n s
  | .testPulseSlot j young => Sys2Proof.Machine.execTestPulseSlot j young s
  | .testPulseEvaluate ma pinMv coilMv => Sys2Proof.Machine.execTestPulseEvaluate ma pinMv coilMv s
  | .testPulseEnd conducts late => Sys2Proof.Machine.execTestPulseEnd conducts late s
  | .testOverdue n => Sys2Proof.Machine.execTestOverdue n s
  | .rstInRise => Sys2Proof.Machine.execRstInRise s
  | .rstInFall ticks => Sys2Proof.Machine.execRstInFall ticks s
  | .resetHighDiscard stl => Sys2Proof.Machine.execResetHighDiscard stl s
  | .rearmComplete => Sys2Proof.Machine.execRearmComplete s
  | .rearmTimeout => Sys2Proof.Machine.execRearmTimeout s
  | .prechargeStart => Sys2Proof.Machine.execPrechargeStart s
  | .prechargeSettled => Sys2Proof.Machine.execPrechargeSettled s
  | .prechargeTimeout => Sys2Proof.Machine.execPrechargeTimeout s
  | .prechargeOverlapEnd => Sys2Proof.Machine.execPrechargeOverlapEnd s
  | .startRequestOff => Sys2Proof.Machine.execStartRequestOff s
  | .load sess ofs data => Sys2Proof.Machine.execLoad sess ofs data s
  | .loadEnd sess => Sys2Proof.Machine.execLoadEnd sess s
  | .confirm sess value oper => Sys2Proof.Machine.execConfirm sess value oper s
  | .repair sess confirmed oper => Sys2Proof.Machine.execRepair sess confirmed oper s
  | .cyclicSend n => Sys2Proof.Machine.execCyclicSend n s
  | .cyclic medium src pdu => Sys2Proof.Machine.execCyclic medium src pdu s
  | .resetRise medium src pdu => Sys2Proof.Machine.execResetRise medium src pdu s
  | .resetFall medium src pdu => Sys2Proof.Machine.execResetFall medium src pdu s
  | .sessionOpen medium src pdu => Sys2Proof.Machine.execSessionOpen medium src pdu s
  | .lossVerdict n => Sys2Proof.Machine.execLossVerdict n s
  | .setData => Sys2Proof.Machine.execSetData s
  | .resetCmd => Sys2Proof.Machine.execResetCmd s
  | .relayRx => Sys2Proof.Machine.execRelayRx s
  | .relayTx => Sys2Proof.Machine.execRelayTx s
  | .sessRead => Sys2Proof.Machine.execSessRead s
  | .beaconSend now => Sys2Proof.Machine.execBeaconSend now s
  | .beaconReceive path src frame => Sys2Proof.Machine.execBeaconReceive path src frame s
  | .initTimeout => Sys2Proof.Machine.execInitTimeout s
  | .failureVerdict => Sys2Proof.Machine.execFailureVerdict s
  | .claimResend => Sys2Proof.Machine.execClaimResend s
  | .holdExpired => Sys2Proof.Machine.execHoldExpired s
  | .grant path src frame => Sys2Proof.Machine.execGrant path src frame s
  | .deny path src frame => Sys2Proof.Machine.execDeny path src frame s
  | .ack path src frame => Sys2Proof.Machine.execAck path src frame s
  | .fence => Sys2Proof.Machine.execFence s
  | .handover => Sys2Proof.Machine.execHandover s
  | .handoverRelease => Sys2Proof.Machine.execHandoverRelease s
  | .handoverAbort => Sys2Proof.Machine.execHandoverAbort s
  | .finalBeaconTimeout => Sys2Proof.Machine.execFinalBeaconTimeout s
  | .degradation => Sys2Proof.Machine.execDegradation s
  | .takebackHoldoffEnd => Sys2Proof.Machine.execTakebackHoldoffEnd s
  | .keeperSnap => Sys2Proof.Machine.execKeeperSnap s
  | .keeperBeacon path src frame => Sys2Proof.Machine.execKeeperBeacon path src frame s
  | .claim path src frame => Sys2Proof.Machine.execClaim path src frame s
  | .keeperClaimGrant p => Sys2Proof.Machine.execKeeperClaimGrant p s
  | .keeperClaimTimeout p => Sys2Proof.Machine.execKeeperClaimTimeout p s
  | .release path src frame => Sys2Proof.Machine.execRelease path src frame s
  | .keeperWarmUp => Sys2Proof.Machine.execKeeperWarmUp s
  | .rinpaconFrame portB frame r => Sys2Proof.Machine.execRinpaconFrame portB frame r s
  | .linkChange portB up verified => Sys2Proof.Machine.execLinkChange portB up verified s
  | .ringStateNotice payload => Sys2Proof.Machine.execRingStateNotice payload s
  | .breakRecordExpiry => Sys2Proof.Machine.execBreakRecordExpiry s
  | .send qp => Sys2Proof.Machine.execSend qp s
  | .ptpEventMessage portB msg agoNs resNs => Sys2Proof.Machine.execPtpEventMessage portB msg agoNs resNs s
  | .followUpTimeout => Sys2Proof.Machine.execFollowUpTimeout s
  | .select => Sys2Proof.Machine.execSelect s
  | .domState => Sys2Proof.Machine.execDomState s
  | .step => Sys2Proof.Machine.execStep s
  | .ptpTx => Sys2Proof.Machine.execPtpTx s
  | .syncLossTimeout d => Sys2Proof.Machine.execSyncLossTimeout d s
  | .slewEnd => Sys2Proof.Machine.execSlewEnd s
  | .anchorPublish => Sys2Proof.Machine.execAnchorPublish s
  | .canFrameReceive n fr => Sys2Proof.Machine.execCanFrameReceive n fr s
  | .transmitAttempt n => Sys2Proof.Machine.execTransmitAttempt n s
  | .attemptEnd n r tdcv => Sys2Proof.Machine.execAttemptEnd n r tdcv s
  | .txSet qp => Sys2Proof.Machine.execTxSet qp s
  | .txCancel qp => Sys2Proof.Machine.execTxCancel qp s
  | .recover qp => Sys2Proof.Machine.execRecover qp s
  | .busOffHoldExpiry n => Sys2Proof.Machine.execBusOffHoldExpiry n s
  | .busOffRecoveryEnd n => Sys2Proof.Machine.execBusOffRecoveryEnd n s
  | .imgBegin => Sys2Proof.Machine.execImgBegin s
  | .imgChunk => Sys2Proof.Machine.execImgChunk s
  | .imgEnd => Sys2Proof.Machine.execImgEnd s
  | .imageVerified readErr => Sys2Proof.Machine.execImageVerified readErr s
  | .imgAbort => Sys2Proof.Machine.execImgAbort s
  | .forward => Sys2Proof.Machine.execForward s
  | .offer src frame => Sys2Proof.Machine.execOffer src frame s
  | .accept src frame => Sys2Proof.Machine.execAccept src frame s
  | .refuse src frame => Sys2Proof.Machine.execRefuse src frame s
  | .data src frame => Sys2Proof.Machine.execData src frame s
  | .chunkAck src frame => Sys2Proof.Machine.execChunkAck src frame s
  | .chunkNak src frame => Sys2Proof.Machine.execChunkNak src frame s
  | .chunkRetryTimeout chunk => Sys2Proof.Machine.execChunkRetryTimeout chunk s
  | .done src frame => Sys2Proof.Machine.execDone src frame s
  | .cancel src frame => Sys2Proof.Machine.execCancel src frame s
  | .query src frame => Sys2Proof.Machine.execQuery src frame s
  | .info src frame => Sys2Proof.Machine.execInfo src frame s
  | .activate => Sys2Proof.Machine.execActivate s
  | .ready => Sys2Proof.Machine.execReady s
  | .swap => Sys2Proof.Machine.execSwap s
  | .commit => Sys2Proof.Machine.execCommit s
  | .rollback => Sys2Proof.Machine.execRollback s
  | .holdWindowOpen => Sys2Proof.Machine.execHoldWindowOpen s
  | .holdWindowEnd => Sys2Proof.Machine.execHoldWindowEnd s
  | .holdWindowRevert => Sys2Proof.Machine.execHoldWindowRevert s
  | .handoverTimeout => Sys2Proof.Machine.execHandoverTimeout s
  | .peerQueryTimeout => Sys2Proof.Machine.execPeerQueryTimeout s
  | .recordEntry src code level inst arg0 arg1 => Sys2Proof.Machine.execRecordEntry src code level inst arg0 arg1 s
  | .recFlushTimer => Sys2Proof.Machine.execRecFlushTimer s
  | .recWriteDone => Sys2Proof.Machine.execRecWriteDone s
  | .timeMark => Sys2Proof.Machine.execTimeMark s
  | .read bad => Sys2Proof.Machine.execRead bad s
  | .log => Sys2Proof.Machine.execLog s
  | .sync => Sys2Proof.Machine.execSync s
  | .clearNonce => Sys2Proof.Machine.execClearNonce s
  | .clear => Sys2Proof.Machine.execClear s
  | .clearNonceLapse => Sys2Proof.Machine.execClearNonceLapse s
  | .getCert => Sys2Proof.Machine.execGetCert s
  | .attest => Sys2Proof.Machine.execAttest s
  | .nonce => Sys2Proof.Machine.execNonce s
  | .keyRecord => Sys2Proof.Machine.execKeyRecord s
  | .keyList => Sys2Proof.Machine.execKeyList s
  | .sessOpen => Sys2Proof.Machine.execSessOpen s
  | .sessIn => Sys2Proof.Machine.execSessIn s
  | .sessOut => Sys2Proof.Machine.execSessOut s
  | .close => Sys2Proof.Machine.execClose s
  | .keyNonceLapse => Sys2Proof.Machine.execKeyNonceLapse s
  | .sessionIdleTimeout n => Sys2Proof.Machine.execSessionIdleTimeout n s
  | .rngFail => Sys2Proof.Machine.execRngFail s
  | .thresholdEvent => Sys2Proof.Machine.execThresholdEvent s
  | .counterWrap => Sys2Proof.Machine.execCounterWrap s
  | .periodicSnapshot => Sys2Proof.Machine.execPeriodicSnapshot s
  | .snap => Sys2Proof.Machine.execSnap s
  | .pepperForcedDisarm => Sys2Proof.Machine.execPepperForcedDisarm s
  | .pepperDurExpiry k => Sys2Proof.Machine.execPepperDurExpiry k s
  | .domainNotOk dom => Sys2Proof.Machine.execDomainNotOk dom s
  | .crossingRecovery dom n => Sys2Proof.Machine.execCrossingRecovery dom n s
  | .partnerBeaconTimeout j5 ring => Sys2Proof.Machine.execPartnerBeaconTimeout j5 ring s
  | .keeperAckTimeout => Sys2Proof.Machine.execKeeperAckTimeout s
  | .ptpGeneralMessage portB msg => Sys2Proof.Machine.execPtpGeneralMessage portB msg s
  | .canReceiveError n r => Sys2Proof.Machine.execCanReceiveError n r s
  | .busIntegrationEnd n => Sys2Proof.Machine.execBusIntegrationEnd n s
  | .hallFault hallSig hallRef => Sys2Proof.Machine.execHallFault hallSig hallRef s
  | .shuntCommonModeFault => Sys2Proof.Machine.execShuntCommonModeFault s
  | .vcoilReturn now => Sys2Proof.Machine.execVcoilReturn now s
  | .dieTemperatureRelease env => Sys2Proof.Machine.execDieTemperatureRelease env s
  | .tileStackReset k => Sys2Proof.Machine.execTileStackReset k s
  | .insulationSlotStart => Sys2Proof.Machine.execInsulationSlotStart s
  | .carrierValley leg ready => Sys2Proof.Machine.execCarrierValley leg ready s

end Sys2Proof.Machine
end

