-- ==== Sys2Proof/WellFormed.lean ====
section
/-! DEFINITION. Well-formed commands: the operands that the outside world can give (queue pairs of R105, tiles of R128, cells, message lengths,
widths of accesses), checked once here. -/

namespace Sys2Proof

/-! ### The checks -/

/-- A number below a bound: one of a fixed number of things. -/
def wfBelow (n x : Nat) : Bool := decide (x < n)

/-- A number from a to below b. -/
def wfFrom (a b x : Nat) : Bool := decide (a ≤ x) && decide (x < b)

/-- A number that a field of w bits holds. -/
def wfBits (w x : Nat) : Bool := decide (x < 2 ^ w)

/-- The width of an access in bytes (R110). -/
def wfWidth (x : Nat) : Bool := decide (x ∈ [1, 2, 4, 8])

/-- A list no longer than n: a message, or one value per tile. -/
def wfLen {α : Type} (n : Nat) (l : List α) : Bool := decide (l.length ≤ n)

/-- What is outside the unit at a start-up: at most 24 tiles, and for each a measured delay and a place. -/
def wfEnv (e : StartEnv) : Bool :=
  wfBelow 25 e.tiles && wfLen 24 e.marks && e.lowStack.all (wfBelow 24) && e.noLock.all (wfBelow 24) && wfBelow 4 e.cfgUe

/-- A CAN frame: an identifier of 29 bits, 11 in the base format, and a DLC of 4 bits with no more than 64 bytes (R403). -/
def wfCanFrame (f : CanFrame) : Bool := wfBits (if f.ide then 29 else 11) f.id && wfBelow 16 f.dlc && wfLen 64 f.data

/-- The cores' stores: addresses of 32 bits. -/
def wfStores (ws : List (Nat × List Byte)) : Bool := ws.all (fun w => wfBits 32 w.1)

/-- Addresses in host memory (R80). -/
def wfHostAddrs (l : List Nat) : Bool := l.all (fun a => wfFrom 0x80000000 0x100000000 a)

/-- Bits of the safety set's bytes in SP's memory, at most 4,096 (R324, R345). -/
def wfFlips (l : List (Nat × Nat)) : Bool := l.all (fun f => wfBelow 4096 f.1 && wfBelow 256 f.2)

/-- Tile registers written: addresses of 8 bits, values of 16. -/
def wfTileWrites (l : List (Nat × Nat)) : Bool := l.all (fun w => wfBelow 256 w.1 && wfBits 16 w.2)

/-! ### The commands -/

/-- Whether the outside world can give a command. -/
def Instr.wf (i : Instr) : Bool :=
  match i with
  | .railRise env => wfEnv env
  | .serviceFwRunning => true
  | .safeReady => true
  | .lowWarning _ => true
  | .railHigh _ => true
  | .overVoltage _ => true
  | .powerFail _ => true
  | .railReturn _ => true
  | .rideThroughEnd => true
  | .flushEnd env => wfEnv env
  | .holdupEnergyExhausted => true
  | .railReturnInFlush => true
  | .coilUv _ => true
  | .watch => true
  | .watchReached env => wfEnv env
  | .wakeInput env => wfEnv env
  | .can0WakePattern env => wfEnv env
  | .wakeTimerExpiry env => wfEnv env
  | .unitReset env => wfEnv env
  | .clusterReset => true
  | .mainOscillatorLoss _ env => wfEnv env
  | .dieOverTemperature _ => true
  | .lockstepMismatch => true
  | .spWatchdogExpiry => true
  | .safetyReset row => wfBelow 11 row
  | .clusterWatchdogExpiry c => wfBelow 2 c
  | .safeIslandLimit _ => true
  | .aonIslandLimit _ env => wfEnv env
  | .peakDrawLimit _ => true
  | .peakDrawRelease _ _ _ => true
  | .sqTail _ qp value writes => wfBelow 46 qp && wfBits 64 value && wfStores writes
  | .cqHead _ qp value => wfBelow 46 qp && wfBits 64 value
  | .sqFetch qp ue => wfBelow 46 qp && wfHostAddrs ue
  | .timedStart qp => wfBelow 46 qp
  | .coalTimeout qp => wfBelow 46 qp
  | .irqpendClear _ _ value => wfBits 64 value
  | .qpEnable _ qp => wfBelow 46 qp
  | .qpDisable _ qp => wfBelow 46 qp
  | .qpIdle qp => wfBelow 46 qp
  | .nop qp => wfBelow 46 qp
  | .getStatus qp => wfBelow 46 qp
  | .setConfig qp => wfBelow 46 qp
  | .getConfig qp => wfBelow 46 qp
  | .enable qp => wfBelow 46 qp
  | .disable qp => wfBelow 46 qp
  | .postBuffer qp => wfBelow 46 qp
  | .mark qp => wfBelow 46 qp
  | .flush qp => wfBelow 46 qp
  | .lockSet _ value => wfBits 64 value
  | .registerWrite _ addr width value => wfBits 32 addr && wfWidth width && wfBits 64 value
  | .loRead _ addr width _ => wfBits 32 addr && wfWidth width
  | .loWrite _ addr value => wfBits 32 addr && wfBits 64 value
  | .hiWrite _ addr value => wfBits 32 addr && wfBits 64 value
  | .incWrite _ dom value => wfBelow 2 dom && wfBits 64 value
  | .preset _ ctr value => wfBelow 16 ctr && wfBits 64 value
  | .sampleInstant rx _ _ => rx.all (wfBits 16)
  | .arm k snum lead _ _ => wfBelow 24 k && wfBits 16 snum && wfBits 16 lead
  | .strobe k _ => wfBelow 24 k
  | .sweepRd k _ _ => wfBelow 24 k
  | .holdRd k _ _ => wfBelow 24 k
  | .tregRd k reg _ => wfBelow 24 k && wfBelow 256 reg
  | .tregWr k ws _ => wfBelow 24 k && wfTileWrites ws
  | .enum _ => true
  | .dlyMark k m _ => wfBelow 24 k && wfBits 16 m
  | .dlySet k x2 x3 align _ => wfBelow 24 k && wfBits 16 x2 && wfBits 16 x3 && wfBits 16 align
  | .probeFrame k _ _ => wfBelow 24 k
  | .safeWr k ov uv filt _ _ => wfBelow 24 k && wfBits 16 ov && wfBits 16 uv && wfBits 16 filt
  | .safeRd k _ => wfBelow 24 k
  | .rearm k _ _ => wfBelow 24 k
  | .armSafe k _ _ => wfBelow 24 k
  | .sleep k _ => wfBelow 24 k
  | .tileSilenceTimeout k => wfBelow 24 k
  | .tileWake k _ _ => wfBelow 24 k
  | .tileClockLock k _ _ => wfBelow 24 k
  | .stackLow k => wfBelow 24 k
  | .stackRestored k => wfBelow 24 k
  | .comparatorTrip k cell _ _ => wfBelow 24 k && wfBelow 24 cell
  | .comparatorSelfTest k _ _ => wfBelow 24 k
  | .openWireTest => true
  | .syncLoss node _ _ => wfBelow 26 node
  | .loopModeExit k _ => wfBelow 24 k
  | .linkDown _ pos _ => wfBelow 32 pos
  | .readIncomplete _ => true
  | .sweepDeadline => true
  | .sweepComplete => true
  | .probeReturn => true
  | .ringClose _ _ marks => wfLen 24 marks
  | .chainRound => true
  | .delayRemeasure _ _ marks => wfLen 24 marks
  | .tileRd => true
  | .probe => true
  | .dlyMeasure _ _ marks => wfLen 24 marks
  | .tileSnap => true
  | .tableCommit => true
  | .revert => true
  | .scheduleBoundary => true
  | .quarterLoad qp => wfFrom 8 12 qp
  | .carrierStop => true
  | .carrierRestart => true
  | .carrierPeriodChange => true
  | .hvmReport _ _ _ => true
  | .insulationPhaseEnd _ _ _ _ => true
  | .insulationCycleEnd => true
  | .shuntOverRange _ => true
  | .setTimers => true
  | .bleedStop => true
  | .balSnap => true
  | .tapCal _ => true
  | .tapCalDone _ _ _ steps tcals => wfLen 24 steps && wfLen 24 tcals && steps.all (wfLen 24)
  | .bleedTimerExpiry k cell => wfBelow 24 k && wfBelow 24 cell
  | .bleedPowerTick k => wfBelow 24 k
  | .bleedSilence k => wfBelow 24 k
  | .pauseFetsOff k => wfBelow 24 k
  | .pauseFetsOn k => wfBelow 24 k
  | .balRound _ => true
  | .estCycle => true
  | .ageWaitExpiry => true
  | .noEisTimeout c => wfBelow 576 c
  | .staleTimeout c => wfBelow 576 c
  | .sopEvaluation => true
  | .snapshotTimer => true
  | .chemCommit => true
  | .cellReset => true
  | .snapshot => true
  | .segmentEnd => true
  | .integrationEnd => true
  | .holdTimeout => true
  | .planCommit => true
  | .eisHistoryTimer => true
  | .housekeepingRound _ => true
  | .fastRound _ => true
  | .heaterDwellEnd => true
  | .actFault a => wfBelow 3 a
  | .lc0Cycle _ => true
  | .fastCycle _ => true
  | .slowCycle _ _ => true
  | .dwellEnd n => wfBelow 8 n
  | .supervisionCheck _ _ => true
  | .stoppingTimeout n => wfBelow 8 n
  | .psFault _ => true
  | .stop qp => wfFrom 21 29 qp
  | .setRef qp => wfFrom 21 29 qp
  | .setDispatch qp => wfFrom 21 29 qp
  | .dispatchExpiry => true
  | .powerRequest sender req => wfBits 16 sender && wfLen 1500 req
  | .fogAssert _ => true
  | .fogDeassert => true
  | .spEvaluation => true
  | .setCrcCheck flips => wfFlips flips
  | .siChannelChange i _ _ => wfBelow 4 i
  | .discrepancyTimeout i => wfBelow 4 i
  | .inputTestPulse _ _ => true
  | .outputSwitchOn n => wfBelow 4 n
  | .highSideOn n => wfBelow 4 n
  | .outputSwitchOff n => wfBelow 4 n
  | .offStateCheck pins _ => wfLen 4 pins
  | .overcurr n => wfBelow 4 n
  | .testPulseSlot j _ => wfBelow 8 j
  | .testPulseEvaluate _ _ _ => true
  | .testPulseEnd _ _ => true
  | .testOverdue n => wfBelow 4 n
  | .rstInRise => true
  | .rstInFall _ => true
  | .resetHighDiscard _ => true
  | .rearmComplete => true
  | .rearmTimeout => true
  | .prechargeStart => true
  | .prechargeSettled => true
  | .prechargeTimeout => true
  | .prechargeOverlapEnd => true
  | .startRequestOff => true
  | .load sess ofs bytes => wfBelow 256 sess && wfBits 32 ofs && wfLen 256 bytes
  | .loadEnd sess => wfBelow 256 sess
  | .confirm sess value oper => wfBelow 256 sess && wfBits 64 value && wfBits 32 oper
  | .repair sess _ oper => wfBelow 256 sess && wfBits 32 oper
  | .cyclicSend n => wfBelow 256 n
  | .cyclic medium src pdu => wfBelow 6 medium && wfBits 16 src && wfLen 280 pdu
  | .resetRise medium src pdu => wfBelow 6 medium && wfBits 16 src && wfLen 280 pdu
  | .resetFall medium src pdu => wfBelow 6 medium && wfBits 16 src && wfLen 280 pdu
  | .sessionOpen medium src pdu => wfBelow 6 medium && wfBits 16 src && wfLen 280 pdu
  | .lossVerdict n => wfBelow 256 n
  | .setData => true
  | .resetCmd => true
  | .relayRx => true
  | .relayTx => true
  | .sessRead => true
  | .beaconSend _ => true
  | .beaconReceive path src frame => wfBelow 3 path && wfBits 16 src && wfLen 1500 frame
  | .initTimeout => true
  | .failureVerdict => true
  | .claimResend => true
  | .holdExpired => true
  | .grant path src frame => wfBelow 3 path && wfBits 16 src && wfLen 1500 frame
  | .deny path src frame => wfBelow 3 path && wfBits 16 src && wfLen 1500 frame
  | .ack path src frame => wfBelow 3 path && wfBits 16 src && wfLen 1500 frame
  | .fence => true
  | .handover => true
  | .handoverRelease => true
  | .handoverAbort => true
  | .finalBeaconTimeout => true
  | .degradation => true
  | .takebackHoldoffEnd => true
  | .keeperSnap => true
  | .keeperBeacon path src frame => wfBelow 3 path && wfBits 16 src && wfLen 1500 frame
  | .claim path src frame => wfBelow 3 path && wfBits 16 src && wfLen 1500 frame
  | .keeperClaimGrant p => wfBelow 16 p
  | .keeperClaimTimeout p => wfBelow 16 p
  | .release path src frame => wfBelow 3 path && wfBits 16 src && wfLen 1500 frame
  | .keeperWarmUp => true
  | .rinpaconFrame _ frame _ => wfLen 1500 frame
  | .linkChange _ _ _ => true
  | .ringStateNotice payload => wfLen 1500 payload
  | .breakRecordExpiry => true
  | .send qp => wfFrom 33 36 qp
  | .ptpEventMessage _ msg _ _ => wfLen 1500 msg
  | .followUpTimeout => true
  | .select => true
  | .domState => true
  | .step => true
  | .ptpTx => true
  | .syncLossTimeout d => wfBelow 2 d
  | .slewEnd => true
  | .anchorPublish => true
  | .canFrameReceive n fr => wfBelow 3 n && wfCanFrame fr
  | .transmitAttempt n => wfBelow 3 n
  | .attemptEnd n _ _ => wfBelow 3 n
  | .txSet qp => wfFrom 38 41 qp
  | .txCancel qp => wfFrom 38 41 qp
  | .recover qp => wfFrom 38 41 qp
  | .busOffHoldExpiry n => wfBelow 3 n
  | .busOffRecoveryEnd n => wfBelow 3 n
  | .imgBegin => true
  | .imgChunk => true
  | .imgEnd => true
  | .imageVerified _ => true
  | .imgAbort => true
  | .forward => true
  | .offer src frame => wfBits 16 src && wfLen 1500 frame
  | .accept src frame => wfBits 16 src && wfLen 1500 frame
  | .refuse src frame => wfBits 16 src && wfLen 1500 frame
  | .data src frame => wfBits 16 src && wfLen 1500 frame
  | .chunkAck src frame => wfBits 16 src && wfLen 1500 frame
  | .chunkNak src frame => wfBits 16 src && wfLen 1500 frame
  | .chunkRetryTimeout chunk => wfBits 16 chunk
  | .done src frame => wfBits 16 src && wfLen 1500 frame
  | .cancel src frame => wfBits 16 src && wfLen 1500 frame
  | .query src frame => wfBits 16 src && wfLen 1500 frame
  | .info src frame => wfBits 16 src && wfLen 1500 frame
  | .activate => true
  | .ready => true
  | .swap => true
  | .commit => true
  | .rollback => true
  | .holdWindowOpen => true
  | .holdWindowEnd => true
  | .holdWindowRevert => true
  | .handoverTimeout => true
  | .peerQueryTimeout => true
  | .recordEntry src code level inst arg0 arg1 => wfBelow 256 src && wfBits 16 code && wfBelow 4 level && wfBelow 256 inst && wfBits 32 arg0 && wfBits 32 arg1
  | .recFlushTimer => true
  | .recWriteDone => true
  | .timeMark => true
  | .read bad => bad.all (wfBits 32)
  | .log => true
  | .sync => true
  | .clearNonce => true
  | .clear => true
  | .clearNonceLapse => true
  | .getCert => true
  | .attest => true
  | .nonce => true
  | .keyRecord => true
  | .keyList => true
  | .sessOpen => true
  | .sessIn => true
  | .sessOut => true
  | .close => true
  | .keyNonceLapse => true
  | .sessionIdleTimeout n => wfBelow 4 n
  | .rngFail => true
  | .thresholdEvent => true
  | .counterWrap => true
  | .periodicSnapshot => true
  | .snap => true
  | .pepperForcedDisarm => true
  | .pepperDurExpiry k => wfBelow 8 k
  | .domainNotOk dom => wfBelow 12 dom
  | .crossingRecovery dom n => wfBelow 12 dom && wfBits 32 n
  | .partnerBeaconTimeout _ _ => true
  | .keeperAckTimeout => true
  | .ptpGeneralMessage _ msg => wfLen 1500 msg
  | .canReceiveError n _ => wfBelow 3 n
  | .busIntegrationEnd n => wfBelow 3 n
  | .hallFault _ _ => true
  | .shuntCommonModeFault => true
  | .vcoilReturn _ => true
  | .dieTemperatureRelease env => wfEnv env
  | .tileStackReset k => wfBelow 24 k
  | .insulationSlotStart => true
  | .carrierValley leg _ => wfBelow 4 leg

end Sys2Proof
end

