-- ==== Sys2Proof/Safety.lean ====
section
/-! DEFINITION. The terms in which claims about the machine are stated: what a command answers, when a queue pair's entry starts and how it
is left, and the invariants of a state. -/

namespace Sys2Proof.Machine

open Sys2Proof

/-- The command answers a next state, and P holds of it. -/
def Gives (i : Instr) (s : State) (P : State → Prop) : Prop := ∃ t, exec i s = .next t ∧ P t

/-- An entry with this opcode is the next of its queue pair to start and starts now (R95, R96): the role it needs is held (R103) and no
clock gate holds its queue pair (R122). -/
abbrev Goes (s : State) (qp opc : Nat) (e : Entry) : Prop :=
  entryGoes s qp opc = some e ∧ (opCommands qp opc = true → commands s = true) ∧ qpGated s qp = false

/-- The command answers a next state in which the entry that started stands as given (finished, running, waiting or posted) and leaves as
soon as everything before it has (R95); P holds of the state as the entry's action leaves it, before any completion is written. -/
def Leaves (i : Instr) (s : State) (qp : Nat) (st : EntrySt) (P : State → Prop) : Prop :=
  ∃ s1, exec i s = .next (setFront s1 qp st) ∧ P s1

/-- A register whose write has a rule of its own beside its row's RW and W1C bits (R9): a lock, gate, doorbell, control, preset or
increment, a clamped field, or one of PERF's. -/
def ownRule (a : Nat) : Bool :=
  decide (a ∈ [R.SYS_LOCK_SET, R.CLK_GATE, R.PWR_WAKE_CFG, R.QMGR_IRQPEND0, R.QMGR_IRQPEND1, R.PTP_INC0, R.PTP_INC1])
  || (decide (R.QP_CTRL 0 ≤ a) && decide (a < R.QP_CTRL 46) && decide ((a - R.QP_CTRL 0) % 0x40 = 0))
  || (decide (R.LC_CFG 0 ≤ a) && decide (a < R.LC_CFG 8) && decide ((a - R.LC_CFG 0) % 0x80 = 0x28))
  || (decide (R.PEPPER_S_CFG 0 ≤ a) && decide (a < R.PEPPER_S_CFG 8) && decide ((a - R.PEPPER_S_CFG 0) % 0x20 = 8))
  || decide (blockOf a = some .perf) || (decide (0x10018000 ≤ a) && decide (a < 0x10018170))

/-- A register without such a rule that is no half of a pair (R12). -/
def plainReg (a : Nat) : Bool := !ownRule a && !isPairLo a && !isPairHi a

/-- The rows that may change the power state, the operating time or the ticks (R61 to R72): the supply, the wake inputs, the resets and the
oscillator, the rows by which a pair update restarts the unit (R439), and the end of a slew, which lets the ticks of its length pass (log 2). -/
def powerRow (c : Instr) : Bool :=
  match c with
  | .railRise _ | .serviceFwRunning | .overVoltage _ | .powerFail _ | .railReturn _ | .rideThroughEnd | .flushEnd _ | .holdupEnergyExhausted
  | .railReturnInFlush | .watch | .watchReached _ | .wakeInput _ | .can0WakePattern _ | .wakeTimerExpiry _ | .unitReset _ | .mainOscillatorLoss _ _
  | .dieOverTemperature _ | .aonIslandLimit _ _ | .ack _ _ _ | .rinpaconFrame _ _ _ | .slewEnd | .info _ _ | .dieTemperatureRelease _ => true
  | _ => false

/-- Rows that post no completion, append to no stream and store nothing: frames and timers of the tiles and the chain, the control cycles, the
RED and Keeper frames that are sent, time rows, timers of the recorder and of the identity unit. -/
def quietRow (c : Instr) : Bool :=
  match c with
  | .serviceFwRunning | .lowWarning _ | .railHigh _ | .railReturn _ | .railReturnInFlush | .peakDrawLimit _ | .peakDrawRelease _ _ _
  | .cqHead _ _ _ | .coalTimeout _ | .irqpendClear _ _ _ | .qpEnable _ _ | .qpIdle _ | .arm _ _ _ _ _ | .strobe _ _ | .sweepRd _ _ _ | .holdRd _ _ _
  | .tregRd _ _ _ | .tregWr _ _ _ | .dlyMark _ _ _ | .dlySet _ _ _ _ _ | .probeFrame _ _ _ | .safeWr _ _ _ _ _ _ | .safeRd _ _ | .rearm _ _ _
  | .armSafe _ _ _ | .sleep _ _ | .tileSilenceTimeout _ | .tileWake _ _ _ | .tileClockLock _ _ _ | .stackLow _ | .stackRestored _
  | .comparatorTrip _ _ _ _ | .comparatorSelfTest _ _ _ | .openWireTest | .syncLoss _ _ _ | .loopModeExit _ _ | .readIncomplete _
  | .insulationPhaseEnd _ _ _ _ | .shuntOverRange _ | .bleedTimerExpiry _ _ | .bleedPowerTick _
  | .bleedSilence _ | .pauseFetsOff _ | .pauseFetsOn _ | .balRound _ | .ageWaitExpiry | .noEisTimeout _ | .staleTimeout _ | .snapshotTimer
  | .segmentEnd | .eisHistoryTimer | .heaterDwellEnd | .actFault _ | .lc0Cycle _ | .fastCycle _ | .slowCycle _ _ | .dwellEnd _
  | .supervisionCheck _ _ | .stoppingTimeout _ | .psFault _ | .dispatchExpiry | .powerRequest _ _ | .testPulseSlot _ _ | .rstInRise
  | .beaconSend _ | .claimResend | .handoverRelease | .degradation | .takebackHoldoffEnd | .keeperBeacon _ _ _ | .claim _ _ _
  | .keeperClaimGrant _ | .keeperClaimTimeout _ | .release _ _ _ | .keeperWarmUp | .ringStateNotice _ | .breakRecordExpiry
  | .followUpTimeout | .syncLossTimeout _ | .slewEnd | .anchorPublish | .transmitAttempt _ | .busOffHoldExpiry _ | .holdWindowOpen
  | .recordEntry _ _ _ _ _ _ | .recFlushTimer | .timeMark | .clearNonceLapse | .keyNonceLapse | .rngFail | .pepperDurExpiry _
  | .partnerBeaconTimeout _ _ | .keeperAckTimeout | .busIntegrationEnd _ | .hallFault _ _ | .shuntCommonModeFault
  | .tileStackReset _ | .carrierValley _ _ => true
  | _ => false

/-- Host memory is in its canonical form: addresses strictly rising, no listed byte equal to what an unlisted address reads as. -/
abbrev MemoryCanonical (s : State) : Prop := Memory.wf s.mem = true

/-- Every command that waits is well formed. -/
abbrev QueueWellFormed (s : State) : Prop := ∀ c ∈ s.pending, c.wf = true

/-- A step, or a run of steps, is safe that ends in a next state: it neither faults nor is refused. -/
def Safe (o : Host.Outcome State Fault Refusal) : Prop := ∃ t, o = .next t

end Sys2Proof.Machine
end

