-- ==== Sys2Proof/Certificates/Slice0/Obligations.lean ====
section
/-! DEFINITION. The statements for the provers, family by family. A statement about a row says what the row answers, and in which next state, under
conditions on the state and the operands alone: where it gives the next state by the model's operations, that equation says also what stays. -/

open Sys2Proof Sys2Proof.Machine

/-! ### The queue and the step -/

/-- A step takes the command at the front of the queue and answers what that command answers with the queue's rest. On an empty queue it answers the
state after one tick of the PTP clock, 4 ns later (the model's choice, log 2): in OFF nothing changes, and nothing is queued. -/
def Obligations.StepRunsTheFrontCommand : Prop :=
  (∀ (s : State) (c : Instr) (rest : List Instr), s.pending = c :: rest → step s = exec c (s.withPending rest))
  ∧ (∀ s : State, s.pending = [] →
      step s = .next (timePass s 1) ∧ (timePass s 1).pending = [] ∧ (s.power.st = .off → timePass s 1 = s))

/-- Every step that goes on has taken exactly the command at the front: nothing else leaves or enters the queue, so that commands act first
in, first out, and a queue of well-formed commands stays one. -/
def Obligations.StepsKeepTheQueueInOrder : Prop :=
  ∀ s t : State, step s = .next t → t.pending = s.pending.tail ∧ (QueueWellFormed s → QueueWellFormed t)

/-- Every step that goes on keeps host memory in its canonical form. -/
def Obligations.StepsKeepMemoryCanonical : Prop :=
  ∀ s t : State, MemoryCanonical s → step s = .next t → MemoryCanonical t

/-- No command is refused, and the only fault is that of SQ_TAIL whose stores before the doorbell leave host memory. -/
def Obligations.OnlyStoresOutsideHostMemoryStop : Prop :=
  ∀ s : State, Safe (step s) ∨
    ∃ lvl qp value writes rest a, s.pending = .sqTail lvl qp value writes :: rest
      ∧ coreStores (s.withPending rest) writes = .error a ∧ step s = .fault (.noHostMemory a)

/-- The state after reset: no supply, nothing queued, no tile awake, every register at the value of its row, all host memory one value; and it
meets the two invariants. The value 0 of host memory is the model's choice (log 5). -/
def Obligations.ResetLeavesEveryRegisterAtItsResetValue : Prop :=
  State.reset.power.st = .off ∧ State.reset.pending = []
  ∧ (∀ a, regGet State.reset a = resetVal a)
  ∧ (∀ b r n, r ∈ blockRows b → b ≠ .can 0 → b ≠ .can 1 → b ≠ .can 2 → n < r.count →
      findRow (r.addr + n * r.stride) = some r → regGet State.reset (r.addr + n * r.stride) = BitVec.ofNat 32 r.reset)
  ∧ (∀ a, memRd State.reset a = 0)
  ∧ QueueWellFormed State.reset ∧ MemoryCanonical State.reset

/-! ### Doorbells, fetching and enabling (QMGR) -/

/-- An accepted write to SQ_TAIL: the owner of an enabled queue pair moves the tail forward within the ring; every entry it passes is ready
at the level of the writer, and nothing else changes beside the stores that came before it. -/
def Obligations.SqTailMakesEntriesReady : Prop :=
  ∀ (s s1 : State) (lvl : Level) (qp v : Nat) (writes : List (Nat × List Byte)),
    coreStores s writes = .ok s1 → dbReaches s1 lvl qp = true → dbOwned s1 lvl qp = true → qpOn s1 qp = true →
    v < 2 ^ (qpAt s1 qp).sqLog →
    (rd s1 (R.QP_DB_STATE_SQ_TAIL qp) + 2 ^ (qpAt s1 qp).sqLog - rd s1 (R.QP_STATUS_SQ_HEAD qp)) % 2 ^ (qpAt s1 qp).sqLog
      ≤ (v + 2 ^ (qpAt s1 qp).sqLog - rd s1 (R.QP_STATUS_SQ_HEAD qp)) % 2 ^ (qpAt s1 qp).sqLog →
    let n := (v + 2 ^ (qpAt s1 qp).sqLog - rd s1 (R.QP_DB_STATE_SQ_TAIL qp)) % 2 ^ (qpAt s1 qp).sqLog
    exec (.sqTail lvl qp v writes) s =
      .next (qpMod (wr s1 (R.QP_DB_STATE_SQ_TAIL qp) v) qp (fun q => { q with levels := q.levels ++ List.replicate n lvl }))
    ∧ rd (wr s1 (R.QP_DB_STATE_SQ_TAIL qp) v) (R.QP_DB_STATE_SQ_TAIL qp) = v % 2 ^ 12

/-- A rejected doorbell changes no tail and no head: one from a level that does not own the queue pair counts in DB_FOREIGN_CNT, any other in
the queue pair's DB_REJ_CNT; the latter of a queue pair that is not enabled, or of an index beyond the ring. -/
def Obligations.RejectedDoorbellsAreCounted : Prop :=
  ∀ (s : State) (lvl : Level) (qp v : Nat), dbReaches s lvl qp = true →
    (dbOwned s lvl qp = false → Gives (.sqTail lvl qp v []) s (fun t =>
      rd t R.QMGR_DB_FOREIGN_CNT_COUNT = (rd s R.QMGR_DB_FOREIGN_CNT_COUNT + 1) % 2 ^ 32
      ∧ rd t (R.QP_DB_STATE_SQ_TAIL qp) = rd s (R.QP_DB_STATE_SQ_TAIL qp) ∧ t.qps = s.qps))
    ∧ (dbOwned s lvl qp = true → (qpOn s qp = false ∨ 2 ^ (qpAt s qp).sqLog ≤ v) → Gives (.sqTail lvl qp v []) s (fun t =>
      rd t (R.QP_DB_REJ_CNT_COUNT qp) = (rd s (R.QP_DB_REJ_CNT_COUNT qp) + 1) % 2 ^ 32
      ∧ rd t (R.QP_DB_STATE_SQ_TAIL qp) = rd s (R.QP_DB_STATE_SQ_TAIL qp) ∧ t.qps = s.qps))

/-- The rows of QMGR act: a head within the ring is taken over; a fetched entry that passes every check joins its queue pair ready to
start, one that fails takes the STATUS of the check, one with an unreadable word MEM_ERR; a full completion ring stalls; a waiting entry whose time has come is ready, one that is more than 1 ms late ends TOO_LATE; the
coalescing time signals; bits of IRQPEND clear; a queue pair with good rings comes up empty, one with bad rings shows CFG_ERR; a disabled
one drains; and IDLE follows its last completion. -/
def Obligations.QueueManagerRowsAct : Prop :=
  (∀ s lvl qp v, dbReaches s lvl qp = true → clusterOf lvl = some (ownerOf s qp) → qpOn s qp = true → v < 2 ^ (qpAt s qp).cqLog →
    (v + 2 ^ (qpAt s qp).cqLog - rd s (R.QP_DB_STATE_CQ_HEAD qp)) % 2 ^ (qpAt s qp).cqLog
      ≤ (rd s (R.QP_STATUS_CQ_TAIL qp) + 2 ^ (qpAt s qp).cqLog - rd s (R.QP_DB_STATE_CQ_HEAD qp)) % 2 ^ (qpAt s qp).cqLog →
    Gives (.cqHead lvl qp v) s (fun t => t = wr s (R.QP_DB_STATE_CQ_HEAD qp) v ∧ rd t (R.QP_DB_STATE_CQ_HEAD qp) = v % 2 ^ 12))
  ∧ (∀ s qp, hostReach s = true → qpOn s qp = true → rd s (R.QP_STATUS_SQ_HEAD qp) ≠ rd s (R.QP_DB_STATE_SQ_TAIL qp) →
    slotFree s qp = true → memBad s ((qpAt s qp).sqBase + 32 * rd s (R.QP_STATUS_SQ_HEAD qp)) 32 = false →
    Gives (.sqFetch qp []) s (fun t =>
      let e := entryOf (memBytes s ((qpAt s qp).sqBase + 32 * rd s (R.QP_STATUS_SQ_HEAD qp)) 32) ((qpAt s qp).levels.headD .u)
      let e1 := match judge s qp e with
        | some st => { e with st := .done st 0 0 }
        | none => if qp = 7 ∧ e.opc = 0x40 then { e with snap := s.meas.staged }
          else if qp = 0 ∧ e.opc = 0x40 then { e with snap := [leBytes 4 (regGet s R.PWR_WAKE_CFG).toNat] } else e
      let s1 := wr (put (put (pepperWait s 1 qp) (R.QP_STATUS_STALLED qp) false) (R.QP_STATUS_IDLE qp) false) (R.QP_STATUS_SQ_HEAD qp)
        ((rd s (R.QP_STATUS_SQ_HEAD qp) + 1) % 2 ^ (qpAt s qp).sqLog)
      t = drain (qpMod s1 qp (fun q => { q with levels := q.levels.drop 1, entries := q.entries ++ [e1] })) qp))
  ∧ (∀ s qp, hostReach s = true → qpOn s qp = true → rd s (R.QP_STATUS_SQ_HEAD qp) ≠ rd s (R.QP_DB_STATE_SQ_TAIL qp) →
    slotFree s qp = true → memBad s ((qpAt s qp).sqBase + 32 * rd s (R.QP_STATUS_SQ_HEAD qp)) 32 = true →
    Gives (.sqFetch qp []) s (fun t =>
      let e := entryOf (memBytes s ((qpAt s qp).sqBase + 32 * rd s (R.QP_STATUS_SQ_HEAD qp)) 32) ((qpAt s qp).levels.headD .u)
      let s1 := wr (put (put (pepperWait s 1 qp) (R.QP_STATUS_STALLED qp) false) (R.QP_STATUS_IDLE qp) false) (R.QP_STATUS_SQ_HEAD qp)
        ((rd s (R.QP_STATUS_SQ_HEAD qp) + 1) % 2 ^ (qpAt s qp).sqLog)
      t = drain (qpMod s1 qp (fun q =>
        { q with levels := q.levels.drop 1, entries := q.entries ++ [{ e with tag := 0xFFFF, opc := 0xFF, flags := 0, st := .done 0x0A 0 0 }] })) qp))
  ∧ (∀ s qp ue, exec (.sqFetch qp ue) s =
      exec (.sqFetch qp []) { s with memErr := s.memErr ++ (ue.map (fun a => a / 8 * 8)).filter (fun a => decide (a ∉ s.memErr)) })
  ∧ (∀ s qp, hostReach s = true → qpOn s qp = true → rd s (R.QP_STATUS_SQ_HEAD qp) ≠ rd s (R.QP_DB_STATE_SQ_TAIL qp) →
    slotFree s qp = false → Gives (.sqFetch qp []) s (fun t =>
      flag t (R.QP_STATUS_STALLED qp) = true ∧ rd t (R.QP_STATUS_SQ_HEAD qp) = rd s (R.QP_STATUS_SQ_HEAD qp) ∧ t.qps = s.qps))
  ∧ (∀ s qp i e, frontIdx (qpAt s qp).entries = some i → (qpAt s qp).entries[i]? = some e → e.st = .waiting → whenOf s e = .now →
    Gives (.timedStart qp) s (fun t =>
      t = qpMod s qp (fun q => { q with entries := modAt q.entries i (fun e => { e with st := .ready, flags := e.flags % 4 }) })))
  ∧ (∀ s qp i e, frontIdx (qpAt s qp).entries = some i → (qpAt s qp).entries[i]? = some e → e.st = .waiting → whenOf s e = .late →
    Gives (.timedStart qp) s (fun t => t = setEntry s qp i (.done 8 0 0)))
  ∧ (∀ s qp, 0 < (qpAt s qp).unann → rd s (R.QP_CFG_COAL_US qp) ≠ 0 →
    Gives (.coalTimeout qp) s (fun t => t = irqCheck (qpMod s qp (fun q => { q with coalNote := true })) qp))
  ∧ (∀ s lvl hi v, hostReach s = true → ownsSome s lvl hi = true → Gives (.irqpendClear lvl hi v) s (fun t => t = irqPendClear s hi v))
  ∧ (∀ s lvl qp, qpWritable s lvl qp = true → qpOn s qp = false → flag s (R.QP_STATUS_IDLE qp) = true → ringsOk s qp = true →
    qp < s.qps.length →
    Gives (.qpEnable lvl qp) s (fun t => qpOn t qp = true ∧ rd t (R.QP_SEQ_SEQ qp) = 0 ∧ rd t (R.QP_STATUS_SQ_HEAD qp) = 0
      ∧ rd t (R.QP_STATUS_CQ_TAIL qp) = 0 ∧ rd t (R.QP_DB_STATE_SQ_TAIL qp) = 0 ∧ rd t (R.QP_DB_STATE_CQ_HEAD qp) = 0
      ∧ qpAt t qp = ringsOf s qp))
  ∧ (∀ s lvl qp, qpWritable s lvl qp = true → qpOn s qp = false → flag s (R.QP_STATUS_IDLE qp) = true → ringsOk s qp = false →
    Gives (.qpEnable lvl qp) s (fun t => flag t (R.QP_STATUS_CFG_ERR qp) = true ∧ qpOn t qp = false))
  ∧ (∀ s lvl qp, qpWritable s lvl qp = true → qpOn s qp = true →
    Gives (.qpDisable lvl qp) s (fun t => t = drain (qpMod (put (put s (R.QP_CTRL_ENABLE qp) false) (R.QP_STATUS_STALLED qp) false) qp
      (fun q => { q with levels := [], entries := q.entries.map (fun e => { e with st := disabledSt e.st }) })) qp))
  ∧ (∀ s qp, (qpAt s qp).entries = [] → Gives (.qpIdle qp) s (fun t => flag t (R.QP_STATUS_IDLE qp) = true ∧ t.qps = s.qps))

/-- Where a finished entry's completion goes (R87): SEQ is 0 once the queue pair is enabled; each completion goes into the slot of SEQ modulo the ring's size, with PHASE the inverse of bit k of SEQ on a ring of
2^k entries; SEQ rises by one and CQ_TAIL points behind the slot. Every byte of host memory outside the 16 of the slot reads as before. An
entry with NOCOMP that ends with OK leaves nothing (R84). -/
def Obligations.CompletionsFillTheirSlot : Prop :=
  (∀ s lvl qp, qpWritable s lvl qp = true → qpOn s qp = false → flag s (R.QP_STATUS_IDLE qp) = true → ringsOk s qp = true → qp < s.qps.length →
    Gives (.qpEnable lvl qp) s (fun t => rd t (R.QP_SEQ_SEQ qp) = 0))
  ∧ ∀ (s : State) (qp : Nat) (e : Entry) (status result ext : Nat), e.st = .done status result ext → qp < 46 → (qpAt s qp).cqLog ≤ 12 →
    ((status = 0 ∧ bitOf e.flags 0 = true) → complete qp s e = s)
    ∧ (¬ (status = 0 ∧ bitOf e.flags 0 = true) →
        let k := (qpAt s qp).cqLog
        let seq := rd s (R.QP_SEQ_SEQ qp)
        let a := (qpAt s qp).cqBase + 16 * (seq % 2 ^ k)
        let t := complete qp s e
        memBytes t a 16 = cqeBytes seq e.tag e.opc status (b2n (!seq.testBit k)) (cqResult status result) (rd s (R.QP_STATUS_SQ_HEAD qp)) ext
        ∧ (∀ b, b < a ∨ a + 16 ≤ b → memRd t b = memRd s b)
        ∧ rd t (R.QP_SEQ_SEQ qp) = (seq + 1) % 2 ^ 32
        ∧ rd t (R.QP_STATUS_CQ_TAIL qp) = (seq % 2 ^ k + 1) % 2 ^ k)

/-! ### The common opcodes (R104) -/

/-- Each common opcode on an entry that goes: NOP ends with RESULT 0; GET_STATUS writes the engine's status block into the buffer, its length
the RESULT, and nothing else of host memory; SET_CONFIG and GET_CONFIG do what the item's rules answer; ENABLE and DISABLE do what
the engine answers, which for balancing is its RUN bit; POST_BUFFER leaves an empty posted buffer; MARK, at the front, ends with plant
time in RESULT and RESULT_EXT; FLUSH returns the posted buffers and counts the empty ones. -/
def Obligations.CommonOpcodesAct : Prop :=
  (∀ s qp e, Goes s qp opNop e → Leaves (.nop qp) s qp (.done 0 0 0) (fun t => t = s))
  ∧ (∀ s qp e, Goes s qp opGetStatus e → qp ≠ 42 →
      Leaves (.getStatus qp) s qp (.done 0 (4 * (statusAddrs qp).length) 0) (fun t =>
        memBytes t e.addr (4 * (statusAddrs qp).length) = (statusAddrs qp).flatMap (fun a => leBytes 4 (statusWord s e.level a).toNat)
        ∧ (∀ b, b < e.addr ∨ e.addr + 4 * (statusAddrs qp).length ≤ b → memRd t b = memRd s b) ∧ t.regs = s.regs ∧ t.qps = s.qps))
  ∧ (∀ s qp e, Goes s qp opSetConfig e → Leaves (.setConfig qp) s qp (setConfig qp e s).2 (fun t => t = (setConfig qp e s).1))
  ∧ (∀ s qp e, Goes s qp opGetConfig e → Leaves (.getConfig qp) s qp (getConfig qp e s).2 (fun t => t = (getConfig qp e s).1))
  ∧ (∀ s qp e, Goes s qp opEnable e → Leaves (.enable qp) s qp (engineEnable qp e s).2 (fun t => t = (engineEnable qp e s).1))
  ∧ (∀ s e, Goes s 14 opEnable e → Leaves (.enable 14) s 14 (.done 0 0 0) (fun t => flag t R.BAL_STATUS_RUN = true ∧ t.tiles = s.tiles))
  ∧ (∀ s qp e, Goes s qp opDisable e → Leaves (.disable qp) s qp (engineDisable qp e s).2 (fun t => t = (engineDisable qp e s).1))
  ∧ (∀ s e, Goes s 14 opDisable e → Leaves (.disable 14) s 14 (.done 0 0 0) (fun t => flag t R.BAL_STATUS_RUN = false ∧ t.tiles = s.tiles))
  ∧ (∀ s qp e, Goes s qp opPost e → Leaves (.postBuffer qp) s qp (.posted 0) (fun t => t = s))
  ∧ (∀ s qp e, Goes s qp opMark e → frontIdx (qpAt s qp).entries = some 0 →
      Leaves (.mark qp) s qp (.done 0 (ptNow s % 2 ^ 32) (ptNow s / 2 ^ 32 % 2 ^ 16)) (fun t => t = s))
  ∧ (∀ s qp e, Goes s qp opFlush e →
      Leaves (.flush qp) s qp (.done 0 (emptyPosted (qpAt s qp).entries) 0) (fun t => t = flushPosted s qp))

/-! ### The set-up window -/

/-- Writing through the set-up window: LOCK_SET adds its bits to the locked ones and clears none, and PEPPER's lock disarms its slots; a write to a register without a rule of
its own leaves the word that its row's RW and W1C bits say and every other register as it was; a write that is a violation, or of
another width than 32 or 64 bits, changes nothing; a low half is staged for its level and the high half commits with it; a PTP increment is
held within ±500 ppm, which sets INC_SAT when it had to be; a PERF preset loads VALUE and clears HI. -/
def Obligations.RegisterWritesAct : Prop :=
  (∀ s lvl v r, writeAllowed s lvl R.SYS_LOCK_SET = some r → bitOf (v % 2 ^ 32) 21 = false →
    Gives (.lockSet lvl v) s (fun t => rd t R.SYS_LOCK_LOCKED = rd s R.SYS_LOCK_LOCKED ||| v % 2 ^ 25
      ∧ ∀ a, a ≠ R.SYS_LOCK → regGet t a = regGet s a))
  ∧ (∀ s lvl v r, writeAllowed s lvl R.SYS_LOCK_SET = some r → bitOf (v % 2 ^ 32) 21 = true →
    Gives (.lockSet lvl v) s (fun t => t = pepperForce (wr s R.SYS_LOCK_LOCKED (rd s R.SYS_LOCK_LOCKED ||| v % 2 ^ 32 % 2 ^ 25))))
  ∧ (∀ s lvl a v r, a % 4 = 0 → plainReg a = true → writeAllowed s lvl a = some r → regFrozen s a = false →
    Gives (.registerWrite lvl a 4 v) s (fun t => regGet t a = writeWord r (regGet s a) (loW v) ∧ ∀ b, b ≠ a → regGet t b = regGet s b))
  ∧ (∀ s lvl a v, ¬ (0x10018000 ≤ a ∧ a < 0x10018170) → writeAllowed s lvl a = none → Gives (.registerWrite lvl a 4 v) s (fun t => t = s))
  ∧ (∀ s lvl a w v, w ≠ 4 → w ≠ 8 → Gives (.registerWrite lvl a w v) s (fun t => t = s))
  ∧ (∀ s lvl a v r, isPairLo a = true → r.rw ≠ 0 → ownRule a = false → writeAllowed s lvl a = some r → regFrozen s a = false →
    Gives (.loWrite lvl a v) s (fun t => t.regs = s.regs ∧ t.stages.find? (fun e => decide (e.1 = (lvl, a))) = some ((lvl, a), loW v)))
  ∧ (∀ s lvl a v r rl lo, isPairHi a = true → isPairLo a = false → r.rw ≠ 0 → ownRule a = false → ownRule (a - 4) = false → writeAllowed s lvl a = some r → regFrozen s a = false →
    findRow (a - 4) = some rl → s.stages.find? (fun e => decide (e.1 = (lvl, a - 4))) = some ((lvl, a - 4), lo) →
    Gives (.hiWrite lvl a v) s (fun t => regGet t a = writeWord r (regGet s a) (loW v)
      ∧ regGet t (a - 4) = writeWord rl (regGet s (a - 4)) lo ∧ t.stages.find? (fun e => decide (e.1 = (lvl, a - 4))) = none))
  ∧ (∀ s lvl v r, writeAllowed s lvl R.PTP_INC0 = some r →
    Gives (.incWrite lvl 0 v) s (fun t => rd t R.PTP_INC0_INC = clampNat 0x3FF7CED9 0x40083127 (v % 2 ^ 32) % 2 ^ 32
      ∧ ((v % 2 ^ 32 < 0x3FF7CED9 ∨ 0x40083127 < v % 2 ^ 32) → flag t R.PTP_ERR_INC_SAT = true)))
  ∧ (∀ s lvl v r, writeAllowed s lvl R.PTP_INC1 = some r →
    Gives (.incWrite lvl 1 v) s (fun t => rd t R.PTP_INC1_INC = clampNat 0x3FF7CED9 0x40083127 (v % 2 ^ 32) % 2 ^ 32
      ∧ ((v % 2 ^ 32 < 0x3FF7CED9 ∨ 0x40083127 < v % 2 ^ 32) → flag t R.PTP_ERR_INC_SAT = true)))
  ∧ (∀ s lvl n v r, n < 16 → writeAllowed s lvl (R.PERF_C_PRESET n) = some r →
    Gives (.preset lvl n v) s (fun t => rd t (R.PERF_C_VAL_LO_VALUE n) = v % 2 ^ 32 ∧ rd t (R.PERF_C_VAL_HI_HI n) = 0))

/-- Reading a pair (R12): the read of _LO shows its half and keeps _HI as it stood at that instant for the reading level, whatever is written
to the register between; the level's next read of _HI returns it. A read of 64 bits is the two reads. A read that is a violation, for its level or
its width, returns 0 and a plain read changes no register beside those of the measurement that it shows. -/
def Obligations.PairReadsAreOneInstant : Prop :=
  (∀ s lvl a now b r, a % 4 = 0 → isPairLo a = true → regReach (readTake s a now) lvl a = some (b, r) → b ≠ .perf →
    let s1 := pepperWait (readTake s a now) 7 (srcOf b)
    Gives (.loRead lvl a 4 now) s (fun t => t.bus = (regShow s1 lvl a).setWidth 64
      ∧ ∀ u now2 b2 r2, u.shadows = t.shadows → regReach (readTake u (a + 4) now2) lvl (a + 4) = some (b2, r2) → b2 ≠ .perf → isPairLo (a + 4) = false →
        Gives (.loRead lvl (a + 4) 4 now2) u (fun w => w.bus = (regShow s1 lvl (a + 4)).setWidth 64)))
  ∧ (∀ s lvl a now b r, a % 4 = 0 → isPairLo a = true → regReach (readTake s a now) lvl a = some (b, r) →
    let s1 := if b = .perf then perfSync (pepperWait (readTake s a now) 7 (srcOf b)) else pepperWait (readTake s a now) 7 (srcOf b)
    Gives (.loRead lvl a 4 now) s (fun t => t.bus = (regShow s1 lvl a).setWidth 64 ∧ t.regs = s1.regs
      ∧ t.shadows.find? (fun e => decide (e.1 = (lvl, a + 4))) = some ((lvl, a + 4), regShow s1 lvl (a + 4))))
  ∧ (∀ s lvl a now b r v, a % 4 = 0 → isPairLo a = false → isPairHi a = true → regReach (readTake s a now) lvl a = some (b, r) →
    let s1 := if b = .perf then perfSync (pepperWait (readTake s a now) 7 (srcOf b)) else pepperWait (readTake s a now) 7 (srcOf b)
    s1.shadows.find? (fun e => decide (e.1 = (lvl, a))) = some ((lvl, a), v) →
    Gives (.loRead lvl a 4 now) s (fun t => t = { s1 with bus := v.setWidth 64 }))
  ∧ (∀ s lvl a now, a % 8 = 0 → Gives (.loRead lvl a 8 now) s (fun t =>
      let s1 := regRead (readTake s a now) lvl a
      let s2 := regRead s1 lvl (a + 4)
      t = { s2 with bus := (s2.bus <<< 32) ||| s1.bus }))
  ∧ (∀ s lvl a now, a % 4 = 0 → regReach (readTake s a now) lvl a = none → Gives (.loRead lvl a 4 now) s (fun t => t = { readTake s a now with bus := 0 }))
  ∧ (∀ s lvl a w now, ¬ (w = 4 ∧ a % 4 = 0) → ¬ (w = 8 ∧ a % 8 = 0) → Gives (.loRead lvl a w now) s (fun t => t = { readTake s a now with bus := 0 }))
  ∧ (∀ s lvl a now b r, a % 4 = 0 → isPairLo a = false → isPairHi a = false → regReach (readTake s a now) lvl a = some (b, r) → b ≠ .perf →
    Gives (.loRead lvl a 4 now) s (fun t => t = { pepperWait (readTake s a now) 7 (srcOf b) with bus := (regShow (pepperWait (readTake s a now) 7 (srcOf b)) lvl a).setWidth 64 }))

/-- A write changes no bit that its row does not mark RW or W1C; RW bits take the value written, and W1C bits written as 1 clear (R9). -/
def Obligations.WritesKeepReservedAndReadOnlyBits : Prop :=
  ∀ (r : R.Row) (old v : Word) (i : Nat), i < 32 →
    (writeWord r old v).getLsbD i =
      (if (BitVec.ofNat 32 r.w1c).getLsbD i && v.getLsbD i then false
       else if (BitVec.ofNat 32 r.rw).getLsbD i then v.getLsbD i else old.getLsbD i)

/-! ### Power states, resets and the draw -/

/-- The supply's rows on a unit that they concern, each at its threshold: from OFF a rail above 4.7 V starts the unit up with the power-cycle count
one higher; the engines' service firmware, once one passes, takes START to RUN, and where none passes the unit shows recovery; the
warnings note their event and what the monitors show and change nothing of the power state; a rail below 4.0 V and an over-voltage enter the ride-through phase of HOLDUP, from
WATCH the flush phase; a rail back within its range resumes RUN; the ride-through's end begins the flush phase; its end switches the unit off, or starts it
where the rail came back meanwhile; exhausted energy switches it off with the flush noted as failed. A rail on the other side of a threshold changes nothing. -/
def Obligations.SupplyRowsAct : Prop :=
  (∀ s env, s.power.st = .off → 4700 < max env.sup.vsupMv env.sup.vauxMv → Gives (.railRise env) s (fun t =>
    t = startUp s true 0 0 true false (some env) ∧ t.power.st = .start ∧ t.power.pc = min ((cfgNewest (startUe s (some env))).pc24 + 1) (2 ^ 24 - 1)
    ∧ t.power.ot = (cfgNewest (startUe s (some env))).ot48))
  ∧ (∀ s k, s.power.st = .start → s.power.dieHot = false → (bootPick s 0).2 = some k → Gives .serviceFwRunning s (fun t => t.power.st = .run))
  ∧ (∀ s, s.power.st = .start → s.power.dieHot = false → (bootPick s 0).2 = none → Gives .serviceFwRunning s (fun t =>
      t.power.st = .start ∧ t = updShow { (bootPick s 0).1 with upd := { (bootPick s 0).1.upd with recovery := true } }))
  ∧ (∀ s now, blocksUp s = true → now.rail < 4500 → Gives (.lowWarning now) s (fun t =>
      flag t R.PWR_EVT_LOW_WARN = true ∧ t = errRise (supplyTake s now) R.PWR_EVT_LOW_WARN 0 0 ∧ t.power = s.power))
  ∧ (∀ s now, blocksUp s = true → 36000 < now.rail → Gives (.railHigh now) s (fun t =>
      flag t R.PWR_EVT_HIGH = true ∧ t = errRise (supplyTake s now) R.PWR_EVT_HIGH 0 0 ∧ t.power = s.power))
  ∧ (∀ s now, 4500 ≤ now.rail → exec (.lowWarning now) s = .next s)
  ∧ (∀ s now, now.rail ≤ 36000 → exec (.railHigh now) s = .next s ∧ exec (.overVoltage now) s = .next s)
  ∧ (∀ s now, fullUp s = true → 36000 < now.rail → Gives (.overVoltage now) s (fun t => t.power.st = .ride ∧ t.power.ov = true))
  ∧ (∀ s now, fullUp s = true → now.rail < 4000 → Gives (.powerFail now) s (fun t => t.power.st = .ride ∧ t.power.ov = false))
  ∧ (∀ s now, 4000 ≤ now.rail → exec (.powerFail now) s = .next s)
  ∧ (∀ s now, s.power.st = .watch → now.rail < 4000 → Gives (.powerFail now) s (fun t => t.power.st = .flush ∧ t.power.fromWatch = true ∧ t.nv = s.nv))
  ∧ (∀ s now, s.power.st = .ride → 4500 < now.rail → (s.power.ov = true → now.rail < 36000) →
      Gives (.railReturn now) s (fun t => t.power.st = .run ∧ t.power.ov = false ∧ t.power.drawFrom = s.power.ot))
  ∧ (∀ s, s.power.st = .ride → Gives .rideThroughEnd s (fun t => t.power.st = .flush))
  ∧ (∀ s env, s.power.st = .flush → s.power.railBack = false → Gives (.flushEnd env) s (fun t => t.power.st = .off))
  ∧ (∀ s env, s.power.st = .flush → s.power.railBack = true → Gives (.flushEnd env) s (fun t => t.power.st = .start))
  ∧ (∀ s, inHoldup s = true → Gives .holdupEnergyExhausted s (fun t =>
      t.power.st = .off ∧ (s.power.fromWatch = false → t.nv.flushOk = false) ∧ t.nv.cfgA = s.nv.cfgA ∧ t.nv.cfgB = s.nv.cfgB ∧ t.nv.hist = s.nv.hist))
  ∧ (∀ s, s.power.st = .flush → Gives .railReturnInFlush s (fun t => t = { s with power := { s.power with railBack := true } }))

/-- VCOIL, WATCH and its wake sources: a coil supply below 8.0 V is noted and trips DIAG, from 8.0 V up that is no condition any more; an accepted WATCH request
begins the entry with the wake sources that it found, one for which a condition of R65 or R124 fails is refused with its cause, and outside RUN with STATE; the entry
reached leaves only AON; each wake source that the request found enabled starts the unit up under SYSTEM scope. -/
def Obligations.CoilAndWatchRowsAct : Prop :=
  (∀ s now, blocksUp s = true → now.coilMv < 8000 → Gives (.coilUv now) s (fun t =>
    t = safeTripPlain (errRise (supplyTake { s with safe := { s.safe with coilLow := true } } now) R.PWR_EVT_COIL_UV 0 0) 15
    ∧ t.power = s.power))
  ∧ (∀ s now, blocksUp s = true → 8000 ≤ now.coilMv → Gives (.vcoilReturn now) s (fun t =>
    t = safeRefresh (supplyTake { s with safe := { s.safe with coilLow := false } } now) ∧ t.power = s.power))
  ∧ (∀ s e, Goes s 0 0x40 e → s.power.st = .run → watchCause s (wakeFound e) = none →
    Leaves .watch s 0 (.done 0 0 0) (fun t => t.power.watchEntry = 1 ∧ t.power.heldWake = 0 ∧ t.power.wakeCfg = wakeFound e ∧ t.power.st = .run))
  ∧ (∀ s e c, Goes s 0 0x40 e → s.power.st = .run → watchCause s (wakeFound e) = some c →
    Leaves .watch s 0 (.done 0x40 0 c) (fun t => t.power = s.power ∧ t = record s 1 0x2002 1 0 c 0))
  ∧ (∀ s e, Goes s 0 0x40 e → s.power.st ≠ .run → Leaves .watch s 0 (.done 6 0 0) (fun t => t = s))
  ∧ (∀ s env, s.power.st = .run → s.power.watchEntry ≠ 0 → flag s R.UPD_STATUS_HOLD_WIN = false → s.power.heldWake = 0 →
    Gives (.watchReached env) s (fun t => t.power.st = .watch))
  ∧ (∀ s env, s.power.st = .run → s.power.watchEntry ≠ 0 → flag s R.UPD_STATUS_HOLD_WIN = false → s.power.heldWake ≠ 0 →
    Gives (.watchReached env) s (fun t => t.power.st = .start))
  ∧ (∀ s env, s.power.st = .watch → wakeEn s.power.wakeCfg = true → Gives (.wakeInput env) s (fun t =>
    t = startUp (wr s R.PWR_WAKE_SRC_SRC 1) false 2 2 true false (some env) ∧ t.power.st = .start))
  ∧ (∀ s env, s.power.st = .watch → wakeCan0 s.power.wakeCfg = true → Gives (.can0WakePattern env) s (fun t =>
    t = startUp (wr s R.PWR_WAKE_SRC_SRC 2) false 2 2 true false (some env) ∧ t.power.st = .start))
  ∧ (∀ s env, s.power.st = .watch → wakeTimerMin s.power.wakeCfg ≠ 0 → Gives (.wakeTimerExpiry env) s (fun t =>
    t = startUp (wr s R.PWR_WAKE_SRC_SRC 3) false 2 2 true false (some env) ∧ t.power.st = .start))

/-- The resets, each at its threshold: each cause starts the unit up under its scope with its CAUSE and its row of R70, after QP0's completion where it is a request;
a die above 125 °C holds the unit until it is below 110 °C; the SAFETY scope leaves the power state, and the APP scope restarts one cluster. -/
def Obligations.ResetRowsAct : Prop :=
  (∀ s e env, Goes s 0 0x41 e → Gives (.unitReset env) s (fun t =>
    t = startUp (setFront s 0 (.done 0 0 0)) false 5 5 false false (some env) ∧ t.power.st = .start))
  ∧ (∀ s e c, Goes s 0 0x42 e → clusterOf e.level = some c → Gives .clusterReset s (fun t =>
    t = appReset (setFront s 0 (.done 0 0 0)) c 9 ∧ t.power = s.power))
  ∧ (∀ s now env, blocksUp s = true → 200000 < now.mainDev.natAbs → Gives (.mainOscillatorLoss now env) s (fun t =>
    t = startUp s false 3 3 false false (some env) ∧ t.power.st = .start))
  ∧ (∀ s now env, now.mainDev.natAbs ≤ 200000 → exec (.mainOscillatorLoss now env) s = .next s)
  ∧ (∀ s now, blocksUp s = true → 12500 < now.dieTemp → Gives (.dieOverTemperature now) s (fun t =>
    t.power.st = .start ∧ t.power.dieHot = true ∧ rd t R.SYS_RESET_CAUSE_CAUSE = 4 ∧ fullUp t = false ∧ t.nv = s.nv))
  ∧ (∀ s now, now.dieTemp ≤ 12500 → exec (.dieOverTemperature now) s = .next s)
  ∧ (∀ s env, s.power.dieHot = true → s.power.st = .start → env.sup.dieTemp < 11000 → Gives (.dieTemperatureRelease env) s (fun t =>
    t = startUp s false 4 4 false false (some env) ∧ t.power.st = .start ∧ t.power.dieHot = false))
  ∧ (∀ s env, 11000 ≤ env.sup.dieTemp → exec (.dieTemperatureRelease env) s = .next s)
  ∧ (∀ s, blocksUp s = true → Gives .lockstepMismatch s (fun t => t = safetyReset s 6 ∧ t.power = s.power))
  ∧ (∀ s, blocksUp s = true → Gives .spWatchdogExpiry s (fun t => t = safetyReset s 7 ∧ t.power = s.power))
  ∧ (∀ s row, row = 6 ∨ row = 7 ∨ row = 10 → blocksUp s = true → Gives (.safetyReset row) s (fun t => t = safetyReset s row ∧ t.power = s.power))
  ∧ (∀ s c, c < 2 → fullUp s = true → Gives (.clusterWatchdogExpiry c) s (fun t => t = appReset s c 8 ∧ t.power = s.power))
  ∧ (∀ s now, blocksUp s = true → 60 < now.safeMv.natAbs → Gives (.safeIslandLimit now) s (fun t =>
    t = safetyReset (put (supplyTake s now) R.CLK_ISL_ERR_SAFE true) 10 ∧ t.power = s.power))
  ∧ (∀ s now, now.safeMv.natAbs ≤ 60 → exec (.safeIslandLimit now) s = .next s)
  ∧ (∀ s now env, blocksUp s = true → 100 < now.aonMv.natAbs → Gives (.aonIslandLimit now env) s (fun t =>
    t = startUp (put s R.CLK_ISL_ERR_AON true) false 6 11 false false (some env) ∧ t.power.st = .start))
  ∧ (∀ s now env, now.aonMv.natAbs ≤ 100 → exec (.aonIslandLimit now env) s = .next s)

/-- The draw and the clock domains: a draw that has stayed above 7.5 W for 30 s slows cluster B, paces STOR and sets PEAK, a mean at or below 7.5 W undoes the first
two; a domain that is not ready takes its crossings to the two-flop path, and comes back from it, an Ethernet port's only with a link. -/
def Obligations.DrawAndDomainRowsAct : Prop :=
  (∀ s now, fullUp s = true → 30 ≤ now.aboveS → 7500 < now.drawMw → Gives (.peakDrawLimit now) s (fun t =>
    flag t R.PWR_THROTTLE_APPB_SLOW = true ∧ flag t R.PWR_THROTTLE_STOR_PACED = true ∧ flag t R.CLK_APP_RATE_SLOW_B = true
    ∧ flag t R.PWR_EVT_PEAK = true ∧ t = errRise (throttle (supplyTake s now) true) R.PWR_EVT_PEAK 0 0 ∧ t.power = s.power))
  ∧ (∀ s now, now.aboveS < 30 ∨ now.drawMw ≤ 7500 → exec (.peakDrawLimit now) s = .next s)
  ∧ (∀ s now sum, fullUp s = true → sum ≤ 7500 * drawSpan s → Gives (.peakDrawRelease now (drawSpan s) sum) s (fun t =>
    flag t R.PWR_THROTTLE_APPB_SLOW = false ∧ flag t R.PWR_THROTTLE_STOR_PACED = false ∧ flag t R.CLK_APP_RATE_SLOW_B = false
    ∧ t = throttle (supplyTake s now) false ∧ t.power = s.power))
  ∧ (∀ s now span sum, 7500 * span < sum → exec (.peakDrawRelease now span sum) s = .next s)
  ∧ (∀ s d, d < 12 → blocksUp s = true → Gives (.domainNotOk d) s (fun t =>
    bitIn t R.CLK_STATUS_DOM_OK d = false ∧ bitIn t R.CLK_XSTAT_TWO_FLOP d = true ∧ crossOk t d = false))
  ∧ (∀ s d n, d < 12 → d ≠ 3 → (d = 6 → linkUp s false = true) → (d = 7 → linkUp s true = true) → blocksUp s = true → Gives (.crossingRecovery d n) s (fun t =>
    bitIn t R.CLK_STATUS_DOM_OK d = true ∧ crossOk t d = true ∧ t = bumpBy (domainTo s d true) R.CLK_XRECOV_CNT_COUNT n
    ∧ rd t R.CLK_XRECOV_CNT_COUNT = (rd (perfSync s) R.CLK_XRECOV_CNT_COUNT + n) % 2 ^ 32))
  ∧ (∀ s n, blocksUp s = true → Gives (.crossingRecovery 3 n) s (fun t =>
    let u := bumpBy (domainTo s 3 true) R.CLK_XRECOV_CNT_COUNT n
    t = if flag u R.SAFE_STATUS_INHIBIT then pwmInhibit u else u))

/-! ### The event recorder (REC) -/

/-- The recorder's own rows: a happening takes the recorder's path (R449) and touches no register outside REC and PEPPER; the flush timer writes
what waits; a completed write makes the written records durable, in order and oldest first, and none of them waits any more; with plant time
acquired an hourly TIME_MARK is made; an unused clearing nonce lapses and no record goes with it. -/
def Obligations.RecorderRowsAct : Prop :=
  (∀ s src code level inst a0 a1, Gives (.recordEntry src code level inst a0 a1) s (fun t =>
    t = (recOffer s src code level inst a0 a1).2 ∧ t.recd.durable = s.recd.durable
    ∧ ∀ a, ¬ (0x10100000 ≤ a ∧ a ≤ 0x1010FFFF) → ¬ (0x10140000 ≤ a ∧ a ≤ 0x1014FFFF) → regGet t a = regGet s a))
  ∧ (∀ s, s.recd.buf ≠ [] → flag s R.REC_STATUS_FLUSHING = false → storTakes s = true →
    Gives .recFlushTimer s (fun t => t = recAfter s (recWriteStart s) ∧ (recWriteStart s).recd.writing = s.recd.buf.length
      ∧ flag (recWriteStart s) R.REC_STATUS_FLUSHING = true))
  ∧ (∀ s, flag s R.REC_STATUS_FLUSHING = true → s.recd.durable.length + s.recd.buf.length ≤ recAreaMax →
    Gives .recWriteDone s (fun t => t.recd.durable = s.recd.durable ++ s.recd.buf.take s.recd.writing))
  ∧ (∀ s, flag s R.PTP_STATUS_ACQ = true → Gives .timeMark s (fun t =>
    t = (recOffer s 17 0x0002 0 3 (ptNow s % 2 ^ 32) (ptNow s / 2 ^ 32)).2))
  ∧ (∀ s, Gives .clearNonceLapse s (fun t => t.recd.nonce = none ∧ flag t R.REC_STATUS_NONCE = false ∧ t.recd.durable = s.recd.durable))

/-- QP2: READ copies the good records from the first SEQ on, in order, and stores nothing else, where the copy finds the records `bad` damaged; a first SEQ that the area no longer holds is refused; LOG offers a record of the submitting cluster
and answers its SEQ, or 0 with RESULT_EXT 1 where it was suppressed; SYNC answers at once when nothing waits and else runs until the
buffer is durable, and is refused where STOR takes no write; CLEAR_NONCE stores the 8 bytes of a fresh nonce and holds it; CLEAR discards the durable records below UPTO where the
token passes every check of R453, and is refused with the cause of the first that fails. -/
def Obligations.RecorderCommandsAct : Prop :=
  (∀ s e bad, Goes s 2 0x40 e → seqBefore e.arg0 s.recd.oldest = false →
    let u := recDamage s (bad.filter (fun q => !seqBefore q e.arg0))
    let sel := recSelect (min (e.len / 32) e.arg1) ((recAll u).filter (fun r => !seqBefore r.seq e.arg0))
    Leaves (.read bad) s 2 (.done 0 sel.1.length (b2n (sel.1.any (fun r => !seqBefore r.seq u.recd.stored)) + 2 * b2n sel.2.2 + 4 * b2n sel.2.1))
      (fun t => t.recd = u.recd ∧ memBytes t e.addr ((sel.1.map recBytes).flatten).length = (sel.1.map recBytes).flatten
        ∧ ∀ b, b < e.addr ∨ e.addr + ((sel.1.map recBytes).flatten).length ≤ b → memRd t b = memRd s b))
  ∧ (∀ s, recDamage s [] = s)
  ∧ (∀ s e bad, Goes s 2 0x40 e → seqBefore e.arg0 s.recd.oldest = true → Leaves (.read bad) s 2 (.done 0x40 0 0) (fun t => t = s))
  ∧ (∀ s e, Goes s 2 0x41 e → memBad s e.addr e.len = false →
    let o := recOffer s (clusterSrc e.level) (e.arg0 % 65536) (bits e.arg0 25 24) (bits e.arg0 23 16)
      (fieldAt (memBytes s e.addr e.len) 0 4) (fieldAt (memBytes s e.addr e.len) 4 4)
    Leaves .log s 2 (if o.1 then .done 0 s.recd.nextSeq 0 else .done 0 0 1) (fun t => t = o.2))
  ∧ (∀ s e, Goes s 2 0x42 e → storTakes s = true → s.recd.buf = [] → Leaves .sync s 2 (.done 0 s.recd.stored 0) (fun t => t = s))
  ∧ (∀ s e, Goes s 2 0x42 e → storTakes s = true → s.recd.buf ≠ [] →
    Leaves .sync s 2 (.running s.recd.nextSeq) (fun t => t = recWriteStart s))
  ∧ (∀ s e, Goes s 2 0x42 e → storTakes s = false → Leaves .sync s 2 (.done 0x42 0 0) (fun t => t = s))
  ∧ (∀ s e, Goes s 2 0x43 e → flag s R.IDK_STATUS_RNG_FAIL = false →
    Leaves .clearNonce s 2 (.done 0 8 0) (fun t => t.recd.nonce = some (Config.drbg s.idk.draws).toNat ∧ flag t R.REC_STATUS_NONCE = true
      ∧ memBytes t e.addr 8 = leBytes 8 (Config.drbg s.idk.draws).toNat ∧ (∀ b, b < e.addr ∨ e.addr + 8 ≤ b → memRd t b = memRd s b)))
  ∧ (∀ s e, Goes s 2 0x44 e → memBad s e.addr e.len = false →
    let t := memBytes s e.addr e.len
    match clearCause s t with
    | none =>
      (storTakes s = true → Leaves .clear s 2 (.done 0 (s.recd.durable.length - (s.recd.durable.filter (fun r => !seqBefore r.seq (fieldAt t 4 4))).length) 0)
        (fun u => u.recd.durable = s.recd.durable.filter (fun r => !seqBefore r.seq (fieldAt t 4 4)) ∧ u.recd.nonce = none))
      ∧ (storTakes s = false → Leaves .clear s 2 (.done 0x42 0 0) (fun u => u = s))
    | some c => Leaves .clear s 2 (.done 0x41 0 c) (fun u => u.recd.durable = s.recd.durable ∧ u.recd.nonce = none))

/-! ### Performance counters (PERF) -/

/-- PERF's rows bring every enabled counter up to date, with what its threshold event does; the periodic instant, while the periodic snapshots are enabled, and SNAP take a Clove
snapshot besides, each with a SEQ one above the last; SNAP answers that SEQ. A unit with no counter enabled changes nothing by an event. -/
def Obligations.PerfRowsAct : Prop :=
  (∀ s, Gives .thresholdEvent s (fun t => t = perfSyncWith s 0))
  ∧ (∀ s, Gives .counterWrap s (fun t => t = perfSyncWith s 0))
  ∧ (∀ s, rd s R.PERF_STATUS_EN = 0 → exec .thresholdEvent s = .next s ∧ exec .counterWrap s = .next s)
  ∧ (∀ s, flag s R.PERF_STATUS_PERIODIC = true → Gives .periodicSnapshot s (fun t => t = perfSyncWith s 1
      ∧ rd t R.PERF_SNAP_SEQ_SEQ = (rd s R.PERF_SNAP_SEQ_SEQ + 1) % 2 ^ 32))
  ∧ (∀ s, flag s R.PERF_STATUS_PERIODIC = false → exec .periodicSnapshot s = .next s)
  ∧ (∀ s e, Goes s 42 0x40 e → Leaves .snap s 42 (.done 0 ((rd s R.PERF_SNAP_SEQ_SEQ + 1) % 2 ^ 32) 0) (fun t => t = perfSyncWith s 2))

/-- A counter that counts k further (R491, R492, R495): VALUE wraps modulo 2^32, every pass through 0 raises HI and sets the counter's WRAP bit, no other
counter's VALUE changes, and its threshold event fires exactly where THR is one of the k values that VALUE takes on the way. -/
def Obligations.CountersWrapIntoHi : Prop :=
  ∀ (s : State) (n k : Nat), n < 16 →
    let v := rd s (R.PERF_C_VAL_LO_VALUE n)
    let t := (perfCount s n k).2
    rd t (R.PERF_C_VAL_LO_VALUE n) = (v + k) % 2 ^ 32
    ∧ (v + k < 2 ^ 32 → rd t (R.PERF_C_VAL_HI_HI n) = rd s (R.PERF_C_VAL_HI_HI n) ∧ rd t R.PERF_WRAP_WRAP = rd s R.PERF_WRAP_WRAP)
    ∧ (2 ^ 32 ≤ v + k → rd t (R.PERF_C_VAL_HI_HI n) = (rd s (R.PERF_C_VAL_HI_HI n) + (v + k) / 2 ^ 32) % 2 ^ (R.PERF_C_VAL_HI_HI n).width
        ∧ bitIn t R.PERF_WRAP_WRAP n = true)
    ∧ (∀ m, m < 16 → m ≠ n → rd t (R.PERF_C_VAL_LO_VALUE m) = rd s (R.PERF_C_VAL_LO_VALUE m))
    ∧ ((perfCount s n k).1 = true ↔ ∃ j, 1 ≤ j ∧ j ≤ k ∧ (v + j) % 2 ^ 32 = rd s (R.PERF_C_THR_THR n))

/-! ### Perturbation (PEPPER) -/

/-- PEPPER's rows: where the block must be off, a forced disarm leaves no slot armed; a slot whose time has passed is disarmed, without FORCED_OFF and
with nothing left, and every other slot keeps its arming. -/
def Obligations.PerturbationRowsAct : Prop :=
  (∀ s, pepperAllOff s = true → Gives .pepperForcedDisarm s (fun t => ∀ k, k < 8 → flag t (R.PEPPER_S_STAT_ARMED k) = false))
  ∧ (∀ s k, k < 8 → flag s (R.PEPPER_S_STAT_ARMED k) = true → Gives (.pepperDurExpiry k) s (fun t =>
      flag t (R.PEPPER_S_STAT_ARMED k) = false ∧ flag t (R.PEPPER_S_STAT_FORCED_OFF k) = false ∧ pepperLeft t k = 0
      ∧ bitIn t R.PEPPER_STATUS_ARMED k = false
      ∧ ∀ j, j < 8 → j ≠ k → flag t (R.PEPPER_S_STAT_ARMED j) = flag s (R.PEPPER_S_STAT_ARMED j)))

/-! ### Identity and keys (IDK) -/

/-- QP3 and IDK's timed rows: the certificate, the attestation and a nonce are stored at the entry's address and nowhere else; a key record that passes
every check of R465 uses the nonce up and changes the table or burns a release key's fuse, one that does not is refused with its cause; the table is listed;
OPEN opens a session in the first free place where its nonce, key and signature are good, and is refused with its cause where one is not; a message that opens is taken over; SESS_OUT waits
for one; CLOSE, 600 s of silence and 300 s without use end sessions and nonces; a failed health test is noted. -/
def Obligations.IdentityRowsAct : Prop :=
  (∀ s e, Goes s 3 0x40 e →
    let n := min 1024 (if e.arg0 = 0 then Config.unitCertLen else Config.caCertLen)
    Leaves .getCert s 3 (.done 0 n 0) (fun t =>
      t = memWrite s e.addr ((leBytes 1024 (if e.arg0 = 0 then Config.unitCert.toNat else Config.caCert.toNat)).take n)))
  ∧ (∀ s e, Goes s 3 0x41 e → memBad s e.addr 32 = false → Leaves .attest s 3 (.done 0 160 0) (fun t =>
      memBytes t e.addr 32 = memBytes s e.addr 32 ∧ t.regs = s.regs ∧ ∀ b, b < e.addr ∨ e.addr + 160 ≤ b → memRd t b = memRd s b))
  ∧ (∀ s e, Goes s 3 0x42 e → flag s R.IDK_STATUS_RNG_FAIL = false →
    Leaves .nonce s 3 (.done 0 8 0) (fun t => t.idk.nonce = some (Config.drbg s.idk.draws).toNat ∧ flag t R.IDK_STATUS_NONCE = true
      ∧ t.idk.draws = s.idk.draws + 1 ∧ memBytes t e.addr 8 = leBytes 8 (Config.drbg s.idk.draws).toNat))
  ∧ (∀ s e, Goes s 3 0x43 e → memBad s e.addr e.len = false → storTakes s = true →
    let r := memBytes s e.addr e.len
    fieldAt r 4 1 = 1 →
    match recordCause s r with
    | none => Leaves .keyRecord s 3 (.done 0 (fieldAt r 0x1C 4) 0) (fun t => t.idk.nonce = none ∧ t.idk.tab.keys = s.idk.tab.keys ++
        [{ id := fieldAt r 0x1C 4, oper := fieldAt r 0x20 4, rights := fieldAt r 5 1, pub := (r.drop 0x28).take 64 }]
        ∧ t.idk.tab.seq = s.idk.tab.seq + 1)
    | some c => Leaves .keyRecord s 3 (.done 0x40 0 c) (fun t => t.idk = s.idk ∧ flag t R.IDK_ERR_REC_REJ = true))
  ∧ (∀ s e, Goes s 3 0x43 e → memBad s e.addr e.len = false → storTakes s = true →
    let r := memBytes s e.addr e.len
    let id := fieldAt r 0x1C 4
    fieldAt r 4 1 = 2 → isRelKey id = false →
    match recordCause s r with
    | none => Leaves .keyRecord s 3 (.done 0 id 0) (fun t => t = sessCloseKey (tabStore (idkDropNonce s) { s.idk.tab with
        keys := s.idk.tab.keys.filter (fun k => decide (k.id ≠ id))
        revoked := s.idk.tab.revoked ++ s.idk.tab.keys.filter (fun k => decide (k.id = id))
        seq := s.idk.tab.seq + 1
        tagOk := true }) id)
    | some c => Leaves .keyRecord s 3 (.done 0x40 0 c) (fun t => t.idk = s.idk ∧ flag t R.IDK_ERR_REC_REJ = true))
  ∧ (∀ s e, Goes s 3 0x43 e → memBad s e.addr e.len = false →
    let r := memBytes s e.addr e.len
    let id := fieldAt r 0x1C 4
    fieldAt r 4 1 = 2 → isRelKey id = true → relLive s ≠ [id] →
    match recordCause s r with
    | none => Leaves .keyRecord s 3 (.done 0 id 0) (fun t => t.idk.burned = setBit s.idk.burned (id - 1) true ∧ t.idk.nonce = none ∧ t.idk.tab = s.idk.tab)
    | some c => Leaves .keyRecord s 3 (.done 0x40 0 c) (fun t => t.idk = s.idk ∧ flag t R.IDK_ERR_REC_REJ = true))
  ∧ (∀ s e, Goes s 3 0x44 e → Leaves .keyList s 3 (.done 0 (80 * min (e.len / 80) (s.idk.tab.keys.length + s.idk.tab.revoked.length)) 0) (fun t =>
      t.idk = s.idk ∧ t.regs = s.regs))
  ∧ (∀ s e, Goes s 3 0x45 e → memBad s e.addr e.len = false →
    let m := memBytes s e.addr e.len
    (s.idk.nonce ≠ some (fieldAt m 84 8) → Leaves .sessOpen s 3 (.done 0x40 0 1) (fun t => t.idk = s.idk))
    ∧ (s.idk.nonce = some (fieldAt m 84 8) → operKey s (fieldAt m 0 4) rightSession = none → Leaves .sessOpen s 3 (.done 0x40 0 3) (fun t => t.idk = s.idk))
    ∧ (∀ k, s.idk.nonce = some (fieldAt m 84 8) → operKey s (fieldAt m 0 4) rightSession = some k →
      match Config.ecdsaOk k.pub (m.take 92) ((m.drop 92).take 64) with
      | false => Leaves .sessOpen s 3 (.done 0x40 0 4) (fun t => t.idk = s.idk)
      | true => ∀ n, s.idk.sess.findIdx? Option.isNone = some n → flag s R.IDK_STATUS_RNG_FAIL = false →
        Leaves .sessOpen s 3 (.done 0 n 0) (fun t => ((t.idk.sess.getD n none).map MgmtSess.keyId = some k.id) ∧ t.idk.nonce = none)))
  ∧ (∀ s e x, Goes s 3 0x46 e → bitOf e.arg0 8 = false → memBad s e.addr e.len = false → s.idk.sess.getD (e.arg0 % 4) none = some x →
    let m := memBytes s e.addr e.len
    x.cntIn < fieldAt m 0 8 →
    match Config.gcmOpen x.keyIn (sessIv (e.arg0 % 4) (fieldAt m 0 8)) (m.drop 8) with
    | some p => Leaves .sessIn s 3 (.done 0 e.len 0) (fun t => t.idk.inbox = s.idk.inbox.set (e.arg0 % 4) p
        ∧ t.idk.sess = s.idk.sess.set (e.arg0 % 4) (some { x with cntIn := fieldAt m 0 8 }))
    | none => x.bad < 2 → Leaves .sessIn s 3 (.done 0 0 0) (fun t => t.idk.sess = s.idk.sess.set (e.arg0 % 4) (some { x with bad := x.bad + 1 })))
  ∧ (∀ s e x, Goes s 3 0x46 e → bitOf e.arg0 8 = true → s.idk.sess.getD (e.arg0 % 4) none = some x →
    Leaves .sessOut s 3 (.await (e.arg0 % 4)) (fun t => t = s))
  ∧ (∀ s e x, Goes s 3 0x47 e → s.idk.sess.getD e.arg0 none = some x →
    Leaves .close s 3 (.done 0 0 0) (fun t => t = sessClose s e.arg0 false))
  ∧ (∀ s, Gives .keyNonceLapse s (fun t => t.idk.nonce = none ∧ flag t R.IDK_STATUS_NONCE = false ∧ t.idk.tab = s.idk.tab))
  ∧ (∀ s n x, n < 4 → s.idk.sess.getD n none = some x → Gives (.sessionIdleTimeout n) s (fun t => t = sessClose s n true))
  ∧ (∀ s, blocksUp s = true → Gives .rngFail s (fun t => flag t R.IDK_STATUS_RNG_FAIL = true ∧ flag t R.IDK_ERR_RNG = true ∧ t.idk = s.idk))

/-! ### The tiles -/

/-- The timing of a tile: an awake tile records what an intact ARM names for its next sample and when its FETs go off for it, latches a transit mark,
takes its delays from an intact DLY_SET and counts one whose payload or header fails, and follows the clock of a receiver in sync; before a paused instant its FETs
go off, and after it they come back with the 50 µs of the pause counting as no on-time. Nothing else in the module changes, but that a bad header shows in CHAIN.ERR. -/
def Obligations.TileTimingRowsAct : Prop :=
  (∀ s k snum lead x3, (tileAt s k).up = true → Gives (.arm k snum lead x3 .ok) s (fun t =>
    t = tileMod s k (fun x => { x with arm := some (snum % 65536, lead % 65536, x3), offNs := 10 * (lead % 65536 : Nat) + x.fireDelay x3 - 40000 })))
  ∧ (∀ s k m, (tileAt s k).up = true → Gives (.dlyMark k m .ok) s (fun t => t = tileMod s k (fun x => { x with dlyM := min m 65535 })))
  ∧ (∀ s k a b c, (tileAt s k).up = true → Gives (.dlySet k a b c .ok) s (fun t =>
    t = tileMod s k (fun x => { x with dlyX2 := a % 65536, dlyX3 := b % 65536, dAlign := c % 65536 })))
  ∧ (∀ s k a b c x3 n, (tileAt s k).up = true → Gives (.dlySet k a b c (.payload x3 n)) s (fun t => t = tileMod s k (fun x => refuseFrame (x.codeErr x3 n))))
  ∧ (∀ s k a b c lead side x3 n, (tileAt s k).up = true →
    let t := hdrErr (tileMod s k (fun x => refuseFrame (x.codeErr x3 n))) k (.header x3 n)
    exec (.arm k a lead side (.header x3 n)) s = .next t ∧ exec (.dlyMark k a (.header x3 n)) s = .next t ∧ exec (.dlySet k a b c (.header x3 n)) s = .next t
    ∧ flag t R.CHAIN_ERR_HCRC = true)
  ∧ (∀ s k onX3 ok, (tileAt s k).up = true → Gives (.tileClockLock k onX3 ok) s (fun t =>
    t = tileMod s k (fun x => { x with locked := ok && (if onX3 then x.syncX3 else x.syncX2), lockX3 := onX3 })))
  ∧ (∀ s k, (tileAt s k).up = true → (tileAt s k).comp = false → (tileAt s k).arm.isSome = true → Gives (.pauseFetsOff k) s (fun t =>
    t = tileMod s k (fun x => { x with paused := true })))
  ∧ (∀ s k, (tileAt s k).paused = true → Gives (.pauseFetsOn k) s (fun t =>
    t = tileMod s k (fun x => { x with paused := false, pauseUs := x.pauseUs + 50 })))

/-- A tile's protection: only SP's intact frames load thresholds (FILT held within 1.0 to 10.0 ms) and arm; ARM_SAFE arms a NUMBERED tile whose
thresholds are loaded and REARM a TRIPPED one, with FOG on unless the supply is low; a tap voltage beyond the threshold trips only an ARMED tile,
takes FOG off and names the cell, and an under-voltage clears every timer; sleep and 2 s of silence leave only what the factory put in, and a stack below 30 V
holds the tile so; a sleeping tile that is not held wakes AWAKE and wakes the next ones in turn; a low stack takes FOG off and a restored one gives it back to an ARMED tile. -/
def Obligations.TileProtectionRowsAct : Prop :=
  (∀ s k ov uv f, (tileAt s k).up = true → Gives (.safeWr k ov uv f true .ok) s (fun t =>
    t = tileMod s k (fun x => { x with ovThr := ov % 65536, uvThr := uv % 65536, filt := max 10 (min 100 f), thrLoaded := true })))
  ∧ (∀ s k ov uv f, (tileAt s k).up = true → Gives (.safeWr k ov uv f false .ok) s (fun t => t = tileMod s k (fun x => { x with hcrcErr := x.hcrcErr + 1 })))
  ∧ (∀ s k ov uv f sp x3 n, (tileAt s k).up = true → Gives (.safeWr k ov uv f sp (.payload x3 n)) s (fun t => t = tileMod s k (fun x => refuseFrame (x.codeErr x3 n))))
  ∧ (∀ s k, (tileAt s k).up = true → Gives (.safeRd k .ok) s (fun t => t.chain = { s.chain with
      readBack := s.chain.readBack.set k (some ((tileAt s k).ovThr, (tileAt s k).uvThr, (tileAt s k).filt)) } ∧ t.regs = s.regs ∧ t.mem = s.mem))
  ∧ (∀ s k, (tileAt s k).present = true → (tileAt s k).st = .numbered → (tileAt s k).thrLoaded = true → Gives (.armSafe k true .ok) s (fun t =>
    t = tileMod s k (fun x => { x with st := .armed, fog := !x.supplyLow, cmpBad := false })))
  ∧ (∀ s k, (tileAt s k).present = true → (tileAt s k).st = .tripped → Gives (.rearm k true .ok) s (fun t =>
    t = tileMod s k (fun x => { x with st := .armed, fog := !x.supplyLow, cmpBad := false, tripCell := 0, tripOv := false })))
  ∧ (∀ s k, (tileAt s k).up = true → Gives (.armSafe k false .ok) s (fun t => t = tileMod s k (fun x => { x with hcrcErr := x.hcrcErr + 1 })))
  ∧ (∀ s k, (tileAt s k).up = true → Gives (.rearm k false .ok) s (fun t => t = tileMod s k (fun x => { x with hcrcErr := x.hcrcErr + 1 })))
  ∧ (∀ s k ov uv f sp x3 n, (tileAt s k).up = true →
    let t := hdrErr (tileMod s k (fun x => refuseFrame (x.codeErr x3 n))) k (.header x3 n)
    exec (.safeWr k ov uv f sp (.header x3 n)) s = .next t ∧ exec (.safeRd k (.header x3 n)) s = .next t ∧ exec (.armSafe k sp (.header x3 n)) s = .next t
    ∧ exec (.rearm k sp (.header x3 n)) s = .next t ∧ exec (.sleep k (.header x3 n)) s = .next t)
  ∧ (∀ s k cell v, cell < 24 → (tileAt s k).present = true → (tileAt s k).st = .armed → cmpCrosses (tileAt s k) cell true v = true →
    Gives (.comparatorTrip k cell true v) s (fun t =>
      t = tileMod s k (fun x => { x with st := .tripped, fog := false, tripCell := cell, tripOv := true })))
  ∧ (∀ s k cell v, cell < 24 → (tileAt s k).present = true → (tileAt s k).st = .armed → cmpCrosses (tileAt s k) cell false v = true →
    Gives (.comparatorTrip k cell false v) s (fun t =>
      t.tiles = (tileMod s k (fun x =>
        { x with st := .tripped, fog := false, tripCell := cell, tripOv := false, timers := List.replicate 24 0, msOn := List.replicate 24 0, uvStop := true })).tiles
      ∧ flag t R.BAL_ERR_UV_TRIP = true ∧ t.mem = s.mem ∧ t.power = s.power))
  ∧ (∀ s k cell ov v, (tileAt s k).st ≠ .armed → exec (.comparatorTrip k cell ov v) s = .next s)
  ∧ (∀ s k, (tileAt s k).up = true →
      let t := tileMod s k (fun x => { Tile.asleep x.trim with present := x.present, supplyLow := x.supplyLow, held := x.held })
      exec (.sleep k .ok) s = .next t ∧ exec (.tileSilenceTimeout k) s = .next t)
  ∧ (∀ s k, (tileAt s k).present = true → Gives (.tileStackReset k) s (fun t =>
      t = tileMod s k (fun x => { Tile.asleep x.trim with present := x.present, supplyLow := true, held := true })))
  ∧ (∀ s k fresh stack, (tileAt s k).st = .sleep → (tileAt s k).present = true → stack < 3000 → Gives (.tileWake k fresh stack) s (fun t =>
      t = tileMod s k (fun x => { x with held := true, supplyLow := true })))
  ∧ (∀ s k fresh stack, k < s.tiles.length → (tileAt s k).st = .sleep → (tileAt s k).present = true → 3000 ≤ stack → Gives (.tileWake k fresh stack) s (fun t =>
      ∃ u, t = wakeWalk (wakeWalk u (waysUp (k + 1))) (waysDown k) ∧ u = tileMod s k (fun x => { Tile.asleep x.trim with
        st := .awake
        supplyLow := x.supplyLow || decide (stack < 3600)
        syncX2 := decide (k ∉ s.chain.cuts)
        syncX3 := decide (k + 1 ∉ s.chain.cuts) })))
  ∧ (∀ s k f stack, k < s.tiles.length → (tileAt s k).st = .sleep → (tileAt s k).present = false → 3000 ≤ stack → Gives (.tileWake k (some f) stack) s (fun t =>
      ∃ u, t = wakeWalk (wakeWalk u (waysUp (k + 1))) (waysDown k) ∧ u = tileMod s k (fun _ => { Tile.asleep f with
        st := .awake
        supplyLow := decide (stack < 3600)
        syncX2 := decide (k ∉ s.chain.cuts)
        syncX3 := decide (k + 1 ∉ s.chain.cuts) })))
  ∧ (∀ s k, (tileAt s k).present = true → Gives (.stackLow k) s (fun t => t = tileMod s k (fun x => { x with supplyLow := true, fog := false })))
  ∧ (∀ s k, (tileAt s k).present = true → Gives (.stackRestored k) s (fun t =>
      t = tileMod s k (fun x => { x with supplyLow := false, held := false, fog := decide (x.st = .armed) })))

/-- The tile's measurements: a strobe within 5 µs of the last fire, or at a tile with no position, changes nothing; otherwise the tile fires, that is
holds its sample, its number, its count one higher and no ARM any more, and notes a reference channel newly in fault; a comparator test moves on to the next of
the 48 and notes a failure; an open-wire test of the string's next tap starts in every numbered tile that has it enabled. -/
def Obligations.TileMeasurementRowsAct : Prop :=
  (∀ s k si, (tileAt s k).numbered = true → si.within5us = false → Gives (.strobe k si) s (fun t =>
      t.tiles = (tileMod s k (fun x => (tileFire x s.meas.next si).tile)).tiles ∧ t.mem = s.mem ∧ t.power = s.power
      ∧ (tileFire (tileAt s k) s.meas.next si).tile.convCnt = (tileAt s k).convCnt + 1 ∧ (tileFire (tileAt s k) s.meas.next si).tile.arm = none
      ∧ (∀ a, (tileAt s k).arm = some a → (tileFire (tileAt s k) s.meas.next si).tile.snumNew = a.1 % 65536)
      ∧ ((tileAt s k).arm = none → (tileFire (tileAt s k) s.meas.next si).tile.snumNew = ((tileAt s k).snumNew + 1) % 65536)
      ∧ ((tileFire (tileAt s k) s.meas.next si).ref.isSome = true → flag t R.MEAS_ERR_REF_FAIL = true)
      ∧ ((tileFire (tileAt s k) s.meas.next si).tap.isSome = true → flag t R.MEAS_ERR_OW_OPEN = true)))
  ∧ (∀ s k si, ((tileAt s k).numbered = false ∨ si.within5us = true) → Gives (.strobe k si) s (fun t => t = s))
  ∧ (∀ s k us st, (tileAt s k).up = true → Gives (.comparatorSelfTest k us st) s (fun t =>
      t.tiles = (tileMod s k (fun x => (tileCmpTest x us st).1)).tiles
      ∧ (tileCmpTest (tileAt s k) us st).1.cmpIdx = ((tileAt s k).cmpIdx + 1) % 48
      ∧ ((tileCmpTest (tileAt s k) us st).2 = true → flag t R.MEAS_ERR_CMP_FAIL = true)))
  ∧ (∀ s, s.tiles.any (fun t => t.numbered && t.owEn) = true → Gives .openWireTest s (fun t =>
      t = { s with tiles := s.tiles.map (owStart s.meas.owNext), meas := { s.meas with owNext := (s.meas.owNext + 1) % 25 } }))

/-- R158's conversion: an input from 0 to the full scale gives its own code without the overrange mark, one below or above gives the end of the scale
with the mark. R170's string values keep within their ranges, and a shunt reading beyond its full scale gives the full scale's current. -/
def Obligations.ConversionsSaturate : Prop :=
  (∀ v : Int, (0 ≤ v → v ≤ 524287 → convert v = (v.toNat, false)) ∧ (v < 0 → convert v = (0, true)) ∧ (524287 < v → convert v = (524287, true)))
  ∧ (∀ v, 0 ≤ voltU v ∧ voltU v ≤ 2400000 ∧ (0 ≤ v → v ≤ 2400000 → voltU v = v))
  ∧ (∀ v, -2400000 ≤ voltS v ∧ voltS v ≤ 2400000 ∧ (-2400000 ≤ v → v ≤ 2400000 → voltS v = v))
  ∧ (∀ s nv, 62500000 ≤ nv → shuntMa s nv = shuntMa s 62500000)

/-- Bleeding: at the expiry of a timer that has reached 0 nothing of a further second stays counted; 2 s without a valid frame clear every timer and hold bleeding off; a power
tick of an awake tile takes R185's share, and a tile that the diode stops while timers run is noted. -/
def Obligations.BleedingRowsAct : Prop :=
  (∀ s k cell, (tileAt s k).timers.getD cell 0 = 0 → Gives (.bleedTimerExpiry k cell) s (fun t =>
      t = tileMod s k (fun x => { x with msOn := x.msOn.set cell 0 })))
  ∧ (∀ s k, (tileAt s k).up = true → Gives (.bleedSilence k) s (fun t =>
      t.tiles = (tileMod s k (fun x => { x with timers := List.replicate 24 0, msOn := List.replicate 24 0, silence := true })).tiles
      ∧ flag t R.BAL_ERR_SILENCE = true ∧ t.mem = s.mem ∧ t.power = s.power))
  ∧ (∀ s k, (tileAt s k).up = true → Gives (.bleedPowerTick k) s (fun t =>
      t.tiles = (tileMod s k tilePower).tiles ∧ (tilePower (tileAt s k)).hot = tileHot (tileAt s k)
      ∧ (tileHot (tileAt s k) = true → (tilePower (tileAt s k)).derated = true ∨ maskPower (tileAt s k) (tileAt s k).active = 0)
      ∧ (tileHot (tileAt s k) = true → (tileAt s k).hot = false → (tileAt s k).active ≠ 0 → flag t R.BAL_ERR_HOT = true)))

/-- R184, R189: a tile never holds more than 12 running timers by a write of TMR_DATA, a thirteenth is refused and counted, and a refused write
changes no timer; the pointer advances either way. -/
def Obligations.ATileRunsAtMostTwelveTimers : Prop :=
  ∀ (t : Tile) (v : Nat), t.tmrPtr < 24 → t.timers.length = 24 → (t.timers.filter (fun x => decide (x ≠ 0))).length ≤ 12 →
    ((tileTimerWr t v).timers.filter (fun x => decide (x ≠ 0))).length ≤ 12
    ∧ (tileTimerWr t v).tmrPtr = (t.tmrPtr + 1) % 24
    ∧ ((tileTimerWr t v).rejCnt ≠ t.rejCnt → (tileTimerWr t v).timers = t.timers)

/-! ### CHAIN and its sweeps -/

/-- The chain's frames and happenings, on a unit whose CHAIN runs: each does what its row of the chapter says, and nothing where the frame does not
reach. A slot of SWEEP_RD and of HOLD_RD is read, a HOLD_RD of which none is under way being launched first; TREG_RD answers a register of a reached tile, 0 where
its check fails; TREG_WR writes BAL's and MEAS's registers in turn and counts a frame whose check fails; a PROBE frame sets the tile's bit; ENUM's pass gives its
new tiles what they need, the pass from port B completing the enumeration; a lost sync opens the hop, at a port also the ring with the port's error, and a regained
one closes it; a LINK_DOWN opens the ring and launches the missing reads and a PROBE; the ring closes only once its PROBE is whole, which clears the break words
and measures the delays; a new measurement is made where one is due. -/
def Obligations.ChainRowsAct : Prop :=
  (∀ s k ns fate, Gives (.sweepRd k ns fate) s (fun t => t = readSlot s k ns fate false))
  ∧ (∀ s k ns fate, bitOf (s.chain.readA ||| s.chain.readB) (tileAt s k).pos = true → Gives (.holdRd k ns fate) s (fun t => t = readSlot s k ns fate true))
  ∧ (∀ s k ns fate, bitOf (s.chain.readA ||| s.chain.readB) (tileAt s k).pos = false → commands s = true → Gives (.holdRd k ns fate) s (fun t =>
      t = readSlot (holdLaunch s (!portReach s false k) (1 <<< (tileAt s k).pos)) k ns fate true))
  ∧ (∀ s k reg, (tileAt s k).up = true → reached s k = true → Gives (.tregRd k reg .ok) s (fun t =>
      t.bus = BitVec.ofNat 64 (tileReg (tileAt s k) reg + 1 <<< 16) ∧ t.regs = s.regs ∧ t.mem = s.mem ∧ t.chain = s.chain))
  ∧ (∀ s k reg x3 n, (tileAt s k).up = true → Gives (.tregRd k reg (.payload x3 n)) s (fun t =>
      t = { tileMod s k (fun x => refuseFrame (x.codeErr x3 n)) with bus := 0 }))
  ∧ (∀ s k ws, (tileAt s k).up = true → commands s = true → Gives (.tregWr k ws .ok) s (fun t => t = tileMod s k (fun x => ws.foldl tileRegWr x)))
  ∧ (∀ s k ws x3 n, (tileAt s k).up = true → commands s = true → Gives (.tregWr k ws (.payload x3 n)) s (fun t =>
      t = tileMod s k (fun x => refuseFrame (x.codeErr x3 n))))
  ∧ (∀ s k reg ws b x3 n, (tileAt s k).up = true → (tileAt s k).numbered = true → portReach s b k = true → commands s = true →
      let t := hdrErr (tileMod s k (fun x => refuseFrame (x.codeErr x3 n))) k (.header x3 n)
      exec (.tregRd k reg (.header x3 n)) s = .next { t with bus := 0 } ∧ exec (.tregWr k ws (.header x3 n)) s = .next t
      ∧ exec (.probeFrame k b (.header x3 n)) s = .next t ∧ flag t R.CHAIN_ERR_HCRC = true)
  ∧ (∀ s, flag s R.CHAIN_STATUS_RUN = true → blocksUp s = true → commands (enumPass s false).1 = true → Gives (.enum false) s (fun t =>
      t = (enumPass s false).2.foldl tileJoin (dlyKeep (enumPass s false).1)))
  ∧ (∀ s, flag s R.CHAIN_STATUS_RUN = true → blocksUp s = true → commands (enumPass s true).1 = true → Gives (.enum true) s (fun t =>
      t = roundSafe (afterEnum ((enumPass s true).2.foldl tileJoin (dlyKeep (enumPass s true).1)))))
  ∧ (∀ s b, flag s R.CHAIN_STATUS_RUN = true → blocksUp s = true → commands (enumPass s b).1 = false → Gives (.enum b) s (fun t =>
      t = if b then roundSafe (afterEnum (enumPass s b).1) else (enumPass s b).1))
  ∧ (∀ s k b, (tileAt s k).numbered = true → portReach s b k = true → Gives (.probeFrame k b .ok) s (fun t =>
      (if b then t.chain.probeB else t.chain.probeA).testBit (tileAt s k).pos = true
      ∧ (if b then t.chain.probeA else t.chain.probeB) = (if b then s.chain.probeA else s.chain.probeB) ∧ t.regs = s.regs ∧ t.mem = s.mem))
  ∧ (∀ s k b chk, portReach s b k = false → exec (.probeFrame k b chk) s = .next s)
  ∧ (∀ s k x3 n, k < 24 → Gives (.syncLoss k x3 n) s (fun t =>
      (if x3 then k + 1 else k) ∈ t.chain.cuts ∧ t.regs = s.regs ∧ t.mem = s.mem
      ∧ ((tileAt s k).up = true → t.tiles = (tileMod s k (fun x =>
          let y := { x.codeErr x3 n with locked := x.locked && (x.lockX3 != x3) }
          if x3 then { y with loopX3 := true, syncX3 := false } else { y with loopX2 := true, syncX2 := false })).tiles)))
  ∧ (∀ s k x3 n, 24 ≤ k → Gives (.syncLoss k x3 n) s (fun t =>
      portHop s x3 ∈ t.chain.cuts ∧ flag t (if x3 then R.CHAIN_ERR_SYNC_B else R.CHAIN_ERR_SYNC_A) = true
      ∧ flag t R.CHAIN_STATUS_RING_CLOSED = false ∧ flag t R.CHAIN_STATUS_NN_MATCH = false ∧ t.tiles = s.tiles ∧ t.mem = s.mem))
  ∧ (∀ s k x3, k < 24 → (tileAt s k).up = true → Gives (.loopModeExit k x3) s (fun t =>
      (if x3 then k + 1 else k) ∉ t.chain.cuts ∧ t.regs = s.regs
      ∧ t.tiles = (tileMod s k (fun x => if x3 then { x with loopX3 := false, syncX3 := true } else { x with loopX2 := false, syncX2 := true })).tiles))
  ∧ (∀ s k x3, 24 ≤ k → Gives (.loopModeExit k x3) s (fun t =>
      t = { s with chain := { s.chain with cuts := s.chain.cuts.filter (fun h => decide (h ≠ portHop s x3)) } }))
  ∧ (∀ s b pos x3, flag s R.CHAIN_STATUS_RUN = true → Gives (.linkDown b pos x3) s (fun t => ∃ u reach,
      t = launchProbe (holdLaunch u b reach) ∧ flag u R.CHAIN_STATUS_RING_CLOSED = false ∧ flag u R.CHAIN_STATUS_NN_MATCH = false
      ∧ (if b then u.chain.reachB else u.chain.reachA) = reach ∧ (if b then u.chain.readB else u.chain.readA) = 0
      ∧ (if x3 then (tileByPos s pos).getD pos + 1 else (tileByPos s pos).getD pos) ∈ u.chain.cuts))
  ∧ (∀ s ns, flag s R.CHAIN_STATUS_RING_CLOSED = true → Gives (.readIncomplete ns) s (fun t => ∃ u,
      u = { s with chain := { s.chain with asm := s.chain.asm.map (fun w => { w with twoDir := w.twoDir || !ringWhole s }), readA := 0, readB := 0 } }
      ∧ t = if holdFits u ns (2 ^ 24 - 1) then holdLaunch u false (2 ^ 24 - 1) else u))
  ∧ (∀ s ns, flag s R.CHAIN_STATUS_RING_CLOSED = false → Gives (.readIncomplete ns) s (fun t => ∃ u v mB,
      u = { s with chain := { s.chain with asm := s.chain.asm.map (fun w => { w with twoDir := w.twoDir || !ringWhole s }), readA := 0, readB := 0 } }
      ∧ v = (if holdFits u ns u.chain.reachA then holdLaunch u false u.chain.reachA else u)
      ∧ mB = u.chain.reachB - (u.chain.reachB &&& u.chain.reachA)
      ∧ t = if holdFits v ns mB then holdLaunch v true mB else v))
  ∧ (∀ s, flag s R.CHAIN_STATUS_RUN = true → Gives .probeReturn s (fun t =>
      t = finishEntry (locate s) 12 (Entry.runs 0x41) 0 (regGet (locate s) R.CHAIN_BREAK).toNat 0))
  ∧ (∀ s a b ms, flag s R.CHAIN_STATUS_RUN = true → flag s R.CHAIN_STATUS_RING_CLOSED = false → probeWhole s = true →
      Gives (.ringClose a b ms) s (fun t => ∃ u, t = dlyMeasured (chainReport u 2 0xFF 0 0) a b ms ∧ flag u R.CHAIN_STATUS_RING_CLOSED = true
        ∧ flag u R.CHAIN_BREAK_A_VALID = false ∧ flag u R.CHAIN_BREAK_B_VALID = false ∧ (flag u R.CHAIN_STATUS_NN_MATCH = true → popCount 24 (posMask s) = setNn s)))
  ∧ (∀ s a b ms, probeWhole s = false → exec (.ringClose a b ms) s = .next s)
  ∧ (∀ s a b ms, flag s R.CHAIN_STATUS_RUN = true → commands s = true → dlyWanted s = true → Gives (.delayRemeasure a b ms) s (fun t => t = dlyRun s a b ms))
  ∧ (∀ s a b ms, dlyWanted s = false → exec (.delayRemeasure a b ms) s = .next s)
  ∧ (∀ s, flag s R.CHAIN_STATUS_RUN = true → blocksUp s = true → Gives .chainRound s (fun t => t = chainRound s))

/-- A sample instant of a running MEAS takes the next number, opens its sweep with plant time and the string's values, and has the tiles armed, strobed and
read; the sweep is delivered once, when every reached tile has come back with a good slot, or at its deadline; a sweep still incomplete is not, before it. -/
def Obligations.SweepRowsAct : Prop :=
  (∀ s rx hv tr, flag s R.MEAS_STATUS_RUN = true → blocksUp s = true → Gives (.sampleInstant rx hv tr) s (fun t =>
      t = sampleInstant s rx hv tr ∧ ∃ w, t.chain.asm = some w ∧ t.meas.next = (w.snum + 1) % 2 ^ 32 ∧ w.slots = Sweep.none.slots
        ∧ t.meas.first = false ∧ t.power = s.power))
  ∧ (∀ s, sweepWhole s = true → Gives .sweepComplete s (fun t => t = sweepDeliver s))
  ∧ (∀ s, sweepWhole s = false → exec .sweepComplete s = .next s)
  ∧ (∀ s, Gives .sweepDeadline s (fun t => t = sweepDeliver s ∧ (s.chain.asm = none → t = s)))

/-- QP12: TILE_RD answers a tile register by position, or status 0x40 where no such tile is reached; PROBE launches its frames and runs until they are
back; DLY_MEASURE answers D_ALIGN; TILE_SNAP stores 768 bytes at the entry's address and changes nothing else; each fails with 0x06 where CHAIN does not run. -/
def Obligations.ChainCommandsAct : Prop :=
  (∀ s e, Goes s 12 0x40 e → flag s R.CHAIN_STATUS_RUN = true → ∀ k, tileByPos s (e.arg0 % 32) = some k →
    Leaves .tileRd s 12 (.done 0 (tileReg (tileAt s k) (e.arg0 / 256) % 65536) 0) (fun t => t = s))
  ∧ (∀ s e, Goes s 12 0x40 e → flag s R.CHAIN_STATUS_RUN = true → tileByPos s (e.arg0 % 32) = none →
    Leaves .tileRd s 12 (.done 0x40 0 0) (fun t => t = s))
  ∧ (∀ s e, Goes s 12 0x41 e → flag s R.CHAIN_STATUS_RUN = true → Leaves .probe s 12 (.running 0) (fun t => t = launchProbe s))
  ∧ (∀ s e a b ms, Goes s 12 0x42 e → flag s R.CHAIN_STATUS_RUN = true →
    Leaves (.dlyMeasure a b ms) s 12 (.done 0 (rd (dlyRun s a b ms) R.CHAIN_ALIGN_D_ALIGN_NS) 0) (fun t => t = dlyRun s a b ms))
  ∧ (∀ s e, Goes s 12 0x43 e → flag s R.CHAIN_STATUS_RUN = true → Leaves .tileSnap s 12 (.done 0 768 0) (fun t =>
      t.regs = s.regs ∧ t.tiles = s.tiles ∧ t.chain = s.chain ∧ ∀ b, b < e.addr ∨ e.addr + 768 ≤ b → memRd t b = memRd s b))
  ∧ (∀ s e, flag s R.CHAIN_STATUS_RUN = false →
    (Goes s 12 0x40 e → Leaves .tileRd s 12 (.done 6 0 0) (fun t => t = s)) ∧ (Goes s 12 0x41 e → Leaves .probe s 12 (.done 6 0 0) (fun t => t = s))
    ∧ (∀ a b ms, Goes s 12 0x42 e → Leaves (.dlyMeasure a b ms) s 12 (.done 6 0 0) (fun t => t = s))
    ∧ (Goes s 12 0x43 e → Leaves .tileSnap s 12 (.done 6 0 0) (fun t => t = s)))

/-! ### MEAS and HVM -/

/-- MEAS: a table that satisfies R156, and a REVERT, wait for the next sweep boundary, which puts them in force; a table that does not is refused with the first
offending index, one not readable with its status; QUARTER_LOAD stages entries only; the carrier's stop under base CARRIER begins the holdover once, its restart
ends it, and EIS follows the schedule each of them leaves. -/
def Obligations.MeasRowsAct : Prop :=
  (∀ s e, Goes s 7 0x40 e → memBad s e.addr e.len = false →
    let hdr := memBytes s e.addr e.len
    (fieldAt hdr 0 1 = 1 → carrierOn s = true) →
    match tableCheck hdr e.snap (carrierNow s) (estDivNext s) with
    | .ok m => Leaves .tableCommit s 7 (.running 0) (fun t => t.meas.pend = .table m ∧ t.meas.table = s.meas.table ∧ flag t R.MEAS_STATUS_PENDING = true)
    | .error i => Leaves .tableCommit s 7 (.done 0x40 0 i) (fun t => t.meas = s.meas ∧ flag t R.MEAS_ERR_TABLE_REJ = true))
  ∧ (∀ s e, Goes s 7 0x40 e → memBad s e.addr e.len = true → Gives .tableCommit s (fun t => t.meas = s.meas ∧ t.mem = s.mem))
  ∧ (∀ s e, Goes s 7 0x41 e → Leaves .revert s 7 (.running 0) (fun t =>
      t.meas.pend = .revert ∧ t.meas.table = s.meas.table ∧ flag t R.MEAS_STATUS_PENDING = true))
  ∧ (∀ s, flag s R.MEAS_STATUS_RUN = true → Gives .scheduleBoundary s (fun t => t = eisFollow (measBoundary s)
      ∧ (∀ m, s.meas.pend = .table m → t.meas.table = some m ∧ t.meas.nextIdx = 0 ∧ t.meas.pend = .none)
      ∧ (s.meas.pend = .revert → t.meas.table = none ∧ t.meas.nextIdx = 0 ∧ t.meas.pend = .none)))
  ∧ (∀ s qp e, 8 ≤ qp → qp ≤ 11 → Goes s qp 0x40 e → memBad s e.addr e.len = false →
    Leaves (.quarterLoad qp) s qp (.done 0 0 0) (fun t => t.meas.table = s.meas.table ∧ t.meas.pend = s.meas.pend ∧ t.regs = s.regs ∧ t.mem = s.mem))
  ∧ (∀ s, carrierOn s = false → onCarrier s = true → flag s R.MEAS_STATUS_CARRIER_ABSENT = false → Gives .carrierStop s (fun t =>
      flag t R.MEAS_STATUS_CARRIER_ABSENT = true ∧ flag t R.MEAS_ERR_CARRIER_LOST = true ∧ t.meas = s.meas ∧ t = eisFollow (carrierFollow s)))
  ∧ (∀ s, carrierOn s = true → onCarrier s = true → Gives .carrierRestart s (fun t =>
      flag t R.MEAS_STATUS_CARRIER_ABSENT = false ∧ t.meas.carrierNs = carrierNow s ∧ t = eisFollow (carrierFollow s)))
  ∧ (∀ s, onCarrier s = true → carrierOn s = true → Gives .carrierPeriodChange s (fun t =>
      t.meas.carrierNs = carrierNow s ∧ t = eisFollow (carrierChange s)))

/-- HVM: a report counts its over-range samples, follows the Hall pins and writes one record; a phase's end adds its value and, after phase 0, injects; a cycle's
end judges it and writes its record; a slot's start begins a cycle where HVM runs and none is under way, with more than one slot in its own slot of acquired plant
time; a fault of the shunt takes its current away and is noted when it arises; the Hall pins outside their ranges set HALL_FAULT and take the Hall current away. -/
def Obligations.HvmRowsAct : Prop :=
  (∀ s m a b, flag s R.HVM_STATUS_RUN = true → Gives (.hvmReport m a b) s (fun t => ∃ u v lo hi,
      u = hallFollow (overCount s m.overN false) m.hallSig m.hallRef ∧ t = hvmWrite u (hvmRecord u 1 v lo hi)
      ∧ v.vStr = voltU m.vStr ∧ v.vLink = voltS (m.vLinkPos - m.vLinkNeg) ∧ v.vPre = voltU m.vPre ∧ v.vLinkNeg = voltS m.vLinkNeg
      ∧ ((u.hvm.shOver || u.hvm.shCm) = false → v.iShunt = some (shuntMa u m.shuntNv) ∧ lo = some (min (shuntMa u a) (shuntMa u b))
          ∧ hi = some (max (shuntMa u a) (shuntMa u b)))
      ∧ ((u.hvm.shOver || u.hvm.shCm) = true → v.iShunt = none ∧ lo = none ∧ hi = none)
      ∧ v.iHall = if hallBad m.hallSig m.hallRef then none else some (hallMa u m.hallSig m.hallRef)))
  ∧ (∀ s vc u m um, s.hvm.iso = .p0 → Gives (.insulationPhaseEnd vc u m um) s (fun t =>
      t.hvm.iso = .p1 ∧ flag t R.HVM_STATUS_ISO_ACTIVE = true ∧ t.hvm.vc = s.hvm.vc ++ [(vc, decide (200 * (m.natAbs : Int) < s.hvm.vStr), u)]
      ∧ t.hvm.isoLow = (s.hvm.isoLow || decide (um < 50000))))
  ∧ (∀ s vc u m um, s.hvm.iso = .p1 → s.hvm.vc.length < 3 → Gives (.insulationPhaseEnd vc u m um) s (fun t =>
      t.hvm.iso = .p2 ∧ t.regs = s.regs ∧ t.hvm.vc = s.hvm.vc ++ [(vc, decide (200 * (m.natAbs : Int) < s.hvm.vStr), u)]
      ∧ t.hvm.isoLow = (s.hvm.isoLow || decide (um < 50000))))
  ∧ (∀ s vc u m um, s.hvm.iso = .p2 → s.hvm.vc.length < 3 → Gives (.insulationPhaseEnd vc u m um) s (fun t =>
      flag t R.HVM_STATUS_ISO_ACTIVE = false ∧ t.hvm.vc = s.hvm.vc ++ [(vc, decide (200 * (m.natAbs : Int) < s.hvm.vStr), u)]
      ∧ t.hvm.isoLow = (s.hvm.isoLow || decide (um < 50000))))
  ∧ (∀ s, s.hvm.iso ≠ .idle → (3 ≤ s.hvm.vc.length ∨ s.hvm.isoLow = true) → Gives .insulationCycleEnd s (fun t => t = isoEnd s ∧ t.hvm.vc = []))
  ∧ (∀ s, s.hvm.iso = .idle → flag s R.HVM_STATUS_RUN = true → s.cfgPend = [] → 1 < cfgU s 13 2 1 1 → flag s R.PTP_STATUS_ACQ = true → inSlot s = true →
      commands s = true → cfgU s 13 2 0 1 = 1 →
      Gives .insulationSlotStart s (fun t => t.hvm.iso = .p0 ∧ t.hvm.vc = [] ∧ flag t R.HVM_STATUS_NO_SLOT = false))
  ∧ (∀ s, s.hvm.iso = .idle → flag s R.HVM_STATUS_RUN = true → s.cfgPend = [] → cfgU s 13 2 1 1 ≤ 1 → commands s = true → cfgU s 13 2 0 1 = 1 →
      Gives .insulationSlotStart s (fun t => t.hvm.iso = .p0 ∧ t.hvm.vc = [] ∧ flag t R.HVM_STATUS_NO_SLOT = false))
  ∧ (∀ s n, flag s R.HVM_STATUS_RUN = true → Gives (.shuntOverRange n) s (fun t => t.hvm.iShunt = none ∧ t.hvm.shOver = true
      ∧ rd t R.HVM_I_SHUNT_MA = 0x80000000 ∧ flag t R.HVM_STATUS_SHUNT_FAULT = true
      ∧ ((s.hvm.shOver || s.hvm.shCm) = false → flag t R.HVM_ERR_SHUNT = true)))
  ∧ (∀ s, flag s R.HVM_STATUS_RUN = true → Gives .shuntCommonModeFault s (fun t => t.hvm.iShunt = none ∧ t.hvm.shCm = true
      ∧ rd t R.HVM_I_SHUNT_MA = 0x80000000 ∧ flag t R.HVM_STATUS_SHUNT_FAULT = true
      ∧ ((s.hvm.shOver || s.hvm.shCm) = false → flag t R.HVM_ERR_SHUNT = true)))
  ∧ (∀ s a b, flag s R.HVM_STATUS_RUN = true → Gives (.hallFault a b) s (fun t => flag t R.HVM_STATUS_HALL_FAULT = hallBad a b
      ∧ (hallBad a b = true → t.hvm.iHall = none ∧ rd t R.HVM_I_HALL_MA = 0x80000000
          ∧ (flag s R.HVM_STATUS_HALL_FAULT = false → flag t R.HVM_ERR_HALL = true))
      ∧ (hallBad a b = false → t.hvm.iHall = some (hallMa s a b))))

/-! ### Balancing (BAL) -/

/-- BAL's rows: SET_TIMERS whose every masked tile keeps within 12 timers writes them and answers the mask of the reached tiles; one that does not is refused
with the first offending position, and under COMPENSATE a non-zero timer of a tile without tap values with 0x41, and neither writes anything; STOP clears; BAL_SNAP
stores 1,536 bytes; TAP_CAL runs while its conditions hold and is refused with 0x42 where one does not; its end takes the values its steps give where the conditions
held, and none where they did not; where BAL does not run the opcodes fail with 0x06; a round supervises every tile of the unit that commands. -/
def Obligations.BalRowsAct : Prop :=
  (∀ s e, Goes s 14 0x40 e → flag s R.BAL_STATUS_RUN = true → flag s R.BAL_STATUS_CAL_RUN = false → memBad s e.addr e.len = false →
    let wants (i : Nat) : List Nat := (List.range 24).map (fun j => fieldAt (memBytes s e.addr e.len) (48 * i + 2 * j) 2)
    (∀ x ∈ (maskList e.arg0).zipIdx, nonZero (timersWanted (posTile s x.1).timers (wants x.2)) ≤ 12) →
    (cfgU s 14 1 0 1 = 1 → ∀ x ∈ (maskList e.arg0).zipIdx, (tileByPos s x.1).isSome = true → (posTile s x.1).tapValid = true) →
    Leaves .setTimers s 14 (.done 0 (listMask (reachedMask s e.arg0)) 0) (fun t =>
      t = ((maskList e.arg0).zipIdx).foldl (fun s x => balWrite s x.1 (wants x.2)) s))
  ∧ (∀ s e p, Goes s 14 0x40 e → flag s R.BAL_STATUS_RUN = true → flag s R.BAL_STATUS_CAL_RUN = false → memBad s e.addr e.len = false →
    maskList e.arg0 = [p] →
    let want := (List.range 24).map (fun j => fieldAt (memBytes s e.addr e.len) (2 * j) 2)
    (12 < nonZero (timersWanted (posTile s p).timers want) → Leaves .setTimers s 14 (.done 0x40 0 p) (fun t => t = s))
    ∧ (nonZero (timersWanted (posTile s p).timers want) ≤ 12 → cfgU s 14 1 0 1 = 1 → (tileByPos s p).isSome = true → (posTile s p).tapValid = false →
        (∃ v ∈ want, v ≠ 0 ∧ v ≠ 0xFFFF) → Leaves .setTimers s 14 (.done 0x41 0 p) (fun t => t = s)))
  ∧ (∀ s e, Goes s 14 0x41 e → flag s R.BAL_STATUS_RUN = true → flag s R.BAL_STATUS_CAL_RUN = false →
    Leaves .bleedStop s 14 (.done 0 (listMask (reachedMask s e.arg0)) 0) (fun t =>
      t = (maskList e.arg0).foldl (fun s p => balWrite s p (List.replicate 24 0)) s))
  ∧ (∀ s e, Goes s 14 0x42 e → flag s R.BAL_STATUS_RUN = true → Leaves .balSnap s 14 (.done 0 1536 0) (fun t =>
      t.regs = s.regs ∧ t.tiles = s.tiles ∧ memBytes t e.addr 1536 = padTo 1536 s.bal.snap.flatten
      ∧ ∀ b, b < e.addr ∨ e.addr + 1536 ≤ b → memRd t b = memRd s b))
  ∧ (∀ s e i, Goes s 14 0x43 e → flag s R.BAL_STATUS_RUN = true → flag s R.BAL_STATUS_CAL_RUN = false → i.natAbs ≤ cfgU s 14 1 4 2 → measFast s = true →
    (∀ p ∈ reachedMask s e.arg0, cellsInCal (posTile s p) = true ∧ (posTile s p).active = 0) →
    Leaves (.tapCal i) s 14 (.running e.arg0) (fun t => flag t R.BAL_STATUS_CAL_RUN = true ∧ t.bal.calMask = some (listMask (reachedMask s e.arg0))))
  ∧ (∀ s e i, Goes s 14 0x43 e → flag s R.BAL_STATUS_RUN = true → flag s R.BAL_STATUS_CAL_RUN = false →
    (cfgU s 14 1 4 2 < i.natAbs ∨ measFast s = false ∨ ∃ p ∈ reachedMask s e.arg0, cellsInCal (posTile s p) = false ∨ (posTile s p).active ≠ 0) →
    Leaves (.tapCal i) s 14 (.done 0x42 0 0) (fun t => t = s))
  ∧ (∀ s e i, flag s R.BAL_STATUS_RUN = false →
    (Goes s 14 0x40 e → Leaves .setTimers s 14 (.done 6 0 0) (fun t => t = s)) ∧ (Goes s 14 0x41 e → Leaves .bleedStop s 14 (.done 6 0 0) (fun t => t = s))
    ∧ (Goes s 14 0x42 e → Leaves .balSnap s 14 (.done 6 0 0) (fun t => t = s)) ∧ (Goes s 14 0x43 e → Leaves (.tapCal i) s 14 (.done 6 0 0) (fun t => t = s)))
  ∧ (∀ s im lo hi st tc m, s.bal.calMask = some m → calHeld s m im lo hi = false → Gives (.tapCalDone im lo hi st tc) s (fun t =>
      t.bal.calMask = none ∧ flag t R.BAL_STATUS_CAL_RUN = false ∧ t.bal.taps = s.bal.taps ∧ t.nv = s.nv ∧ t.mem = s.mem))
  ∧ (∀ s im lo hi st tc m, s.bal.calMask = some m → calHeld s m im lo hi = true → Gives (.tapCalDone im lo hi st tc) s (fun t =>
      t = balCalDone s im lo hi st tc ∧ t.bal.calMask = none
      ∧ t.bal.taps = (s.bal.taps.zipIdx).map (fun x =>
          let r := if x.2 < 24 then calResult (posTile s x.2) (st.getD x.2 []) else ([], false)
          if x.2 < 24 ∧ bitOf m x.2 = true ∧ tapPass r.1 r.2 = true then some { r := r.1.map Int.toNat, tcal := tc.getD x.2 0 } else x.1)))
  ∧ (∀ s im lo hi st tc, s.bal.calMask = none → exec (.tapCalDone im lo hi st tc) s = .next s)
  ∧ (∀ s el, flag s R.BAL_STATUS_RUN = true → commands s = true → fullUp s = true → Gives (.balRound el) s (fun t => t = balRound s el ∧ t.bal.snap.length = 24
      ∧ t.therm.pBal.length = 24))

/-! ### The estimator (EST) and the impedance engine (EIS) -/

/-- EST's timed rows: a cycle runs with a valid current, and without one notes it and leaves the cells; the waits and timeouts set their marks; a snapshot is
stored when due, and where STOR takes none that is noted; the state of power is evaluated and CTRL takes it. -/
def Obligations.EstTimedRowsAct : Prop :=
  (∀ s w i alt, flag s R.EST_STATUS_RUN = true → fullUp s = true → s.est.input = some w → estCurrent s w = some (i, alt) →
    Gives .estCycle s (fun t => t = estCycleRun s w i alt))
  ∧ (∀ s w, flag s R.EST_STATUS_RUN = true → fullUp s = true → s.est.input = some w → estCurrent s w = none → Gives .estCycle s (fun t =>
      flag t R.EST_STATUS_NO_CURRENT = true ∧ t.est.cells = s.est.cells ∧ t.est.gap = true ∧ t.est.input = none
      ∧ (flag s R.EST_STATUS_NO_CURRENT = false → flag t R.EST_ERR_NO_CURRENT = true)))
  ∧ (∀ s, Gives .ageWaitExpiry s (fun t => t = { s with est := { s.est with waitOver := true } }))
  ∧ (∀ s c, flag s R.EST_STATUS_RUN = true → Gives (.noEisTimeout c) s (fun t =>
      t.est.cells = modAt s.est.cells c (fun x => { x with noEis := true }) ∧ t.mem = s.mem ∧ t.power = s.power))
  ∧ (∀ s c, flag s R.EST_STATUS_RUN = true → Gives (.staleTimeout c) s (fun t =>
      t.est.cells = modAt s.est.cells c (fun x => { x with stale := true })
      ∧ rd t R.EST_N_NOW_STALE = (t.est.cells.filter (fun x => x.stale)).length % 2 ^ R.EST_N_NOW_STALE.width))
  ∧ (∀ s c, flag s R.EST_STATUS_RUN = false → exec (.noEisTimeout c) s = .next s ∧ exec (.staleTimeout c) s = .next s)
  ∧ (∀ s, flag s R.EST_STATUS_RUN = true → cfgU s 15 1 24 2 ≠ 0 → storTakes s = true → Gives .snapshotTimer s (fun t => t = (estSnapshot s 2).2))
  ∧ (∀ s, flag s R.EST_STATUS_RUN = true → cfgU s 15 1 24 2 ≠ 0 → storTakes s = false → Gives .snapshotTimer s (fun t =>
      flag t R.EST_ERR_SNAP_FAIL = true ∧ t.nv = s.nv ∧ t.est = s.est))
  ∧ (∀ s, flag s R.EST_STATUS_RUN = true → fullUp s = true → ∀ ch, s.est.chem = some ch →
      Gives .sopEvaluation s (fun t => t = dispRevise (sopEval s)))

/-- QP15: CHEM_COMMIT, while STOR takes writes, takes a complete chemistry that passes its checks, to the next cycle where EST runs and at once where it does not, refuses
one that does not pass with the offending entry and one not staged with 0x42; CELL_RESET queues its cells for the next cycle; SNAPSHOT answers 36,864 bytes where STOR takes
it, else 0x43; what the state of the unit forbids fails with 0x06. -/
def Obligations.EstCommandsAct : Prop :=
  (∀ s e, Goes s 15 0x40 e → storTakes s = true → cfgItem s 15 2 ≠ [] → cfgItem s 15 3 ≠ [] → cfgItem s 15 4 ≠ [] →
    let ch : Chem := { id := e.arg0, hdr := cfgItem s 15 2, ocv := cfgItem s 15 3, par := cfgItem s 15 4 }
    let u := { s with est := { s.est with pend := some (ch, bitOf e.arg1 0) } }
    match chemBad (cfgItem s 15 2) (cfgItem s 15 3) (cfgItem s 15 4) with
    | none => (flag s R.EST_STATUS_RUN = true → Leaves .chemCommit s 15 (.running 0) (fun t => t = u))
        ∧ (flag s R.EST_STATUS_RUN = false →
            Leaves .chemCommit s 15 (.done 0 ((rd s R.EST_CYCLE_CNT_COUNT + 1) % 2 ^ 32) 0) (fun t => t = estCommitNow u))
    | some n => Leaves .chemCommit s 15 (.done 0x41 0 n) (fun t => t.est = s.est ∧ flag t R.EST_ERR_CHEM_REJ = true))
  ∧ (∀ s e, Goes s 15 0x40 e → storTakes s = true → (cfgItem s 15 2 = [] ∨ cfgItem s 15 3 = [] ∨ cfgItem s 15 4 = []) →
    Leaves .chemCommit s 15 (.done 0x42 0 0) (fun t => t = s))
  ∧ (∀ s e, Goes s 15 0x40 e → storTakes s = false → Leaves .chemCommit s 15 (.done 6 0 0) (fun t => t = s))
  ∧ (∀ s e, Goes s 15 0x41 e → flag s R.EST_STATUS_RUN = true → Leaves .cellReset s 15 (.done 0 (e.arg1 % 1024) 0) (fun t =>
      t = { s with est := { s.est with resets := s.est.resets ++ [(e.arg0, e.arg1 % 1024, bitOf e.arg1 16)] } }))
  ∧ (∀ s e, Goes s 15 0x42 e → flag s R.EST_STATUS_RUN = true → storTakes s = true →
    Leaves .snapshot s 15 (.done 0 36864 0) (fun t => t = (estSnapshot s 2).2))
  ∧ (∀ s e, Goes s 15 0x42 e → flag s R.EST_STATUS_RUN = true → storTakes s = false →
    Leaves .snapshot s 15 (.done 0x43 0 0) (fun t => t.nv = s.nv ∧ flag t R.EST_ERR_SNAP_FAIL = true))
  ∧ (∀ s e, flag s R.EST_STATUS_RUN = false → (Goes s 15 0x41 e → Leaves .cellReset s 15 (.done 6 0 0) (fun t => t = s))
    ∧ (Goes s 15 0x42 e → Leaves .snapshot s 15 (.done 6 0 0) (fun t => t = s)))

/-- EIS's rows: the end of a due segment keeps it, or drops and counts it where its substitutes are too many or no sample came, and starts the sums anew; an integration's
end evaluates what it kept, counts it and puts what waits in force; a hold that lasts too long abandons the integration, which waits for valid excitation; PLAN_COMMIT
refuses a plan not staged, a plan against R230 with the point, or a table against R240, and takes one that passes: at once where no integration runs, else to the end
of the one that runs; it completes when the first integration under the plan begins, at once where none can. The latest record is stored when due. -/
def Obligations.EisRowsAct : Prop :=
  (∀ s p, s.eis.plan = some p → s.eis.segDue = true → Gives .segmentEnd s (fun t => t = eisSegEnd s
      ∧ t.eis.segDue = false ∧ t.eis.segOn = false ∧ t.eis.i0 = none ∧ t.eis.iSubs = 0 ∧ t.eis.iAcc = List.replicate (planNpt p) (0, 0) ∧ t.est = s.est
      ∧ ((s.eis.i0 = none ∨ cfgU s 18 1 3 1 * planN p < 1000 * s.eis.iSubs) → t.eis.iKept = s.eis.iKept ∧ t.eis.absent = s.eis.absent + 1)
      ∧ (s.eis.i0 ≠ none → 1000 * s.eis.iSubs ≤ cfgU s 18 1 3 1 * planN p →
          t.eis.iKept = s.eis.iKept + 1 ∧ t.eis.absent = s.eis.absent ∧ t.eis.intDue = decide (eisNseg s ≤ s.eis.iKept + 1))))
  ∧ (∀ s, s.eis.segDue = false → exec .segmentEnd s = .next s)
  ∧ (∀ s, (eisSegEnd s).eis.intDue = true → s.eis.plan.isSome = true → Gives .integrationEnd s (fun t => t = eisIntEnd (eisSegEnd s)))
  ∧ (∀ s, (eisSegEnd s).eis.intDue = false → exec .integrationEnd s = .next (eisSegEnd s))
  ∧ (∀ s, flag s R.EIS_STATUS_HELD = true → s.eis.on = true → s.eis.plan.isSome = true → Gives .holdTimeout s (fun t =>
      t = eisAbandon s ∧ t.eis.waitExc = true ∧ flag t R.EIS_STATUS_HELD = false ∧ flag t R.EIS_ERR_ABANDONED = true))
  ∧ (∀ s, flag s R.EIS_STATUS_HELD = false → exec .holdTimeout s = .next s)
  ∧ (∀ s e, Goes s 18 0x40 e → storTakes s = true → cfgItem s 18 2 ≠ [] → planRefused s (cfgItem s 18 2) = none →
    (cfgItem s 18 3 = [] ∨ phaseOk (cfgItem s 18 3) = true) →
    let tbl := if cfgItem s 18 3 = [] then none else some (cfgItem s 18 3)
    let u := eisComDone (if s.eis.pend.isSome then finishEntry s 18 (Entry.runs 0x40) 0x44 0 0 else s) none
    (flag u R.EIS_STATUS_RUN = true → s.eis.on = true → Leaves .planCommit s 18 (.running 0) (fun t =>
        t.eis.pend = some (cfgItem s 18 2, tbl, bitOf e.arg1 0) ∧ t.eis.plan = s.eis.plan))
    ∧ ((flag u R.EIS_STATUS_RUN = false ∨ s.eis.on = false) →
        let v := eisTake { u with eis := { u.eis with pend := none } } (cfgItem s 18 2) tbl (bitOf e.arg1 0)
        (eisMay v = true → Leaves .planCommit s 18 (.running 0) (fun t =>
          t = { v with eis := { v.eis with comDue := true } } ∧ t.eis.plan = some (cfgItem s 18 2) ∧ t.eis.pend = none))
        ∧ (eisMay v = false → Leaves .planCommit s 18 (.done 0 ((Config.freeValue v.free).toNat % 2 ^ 32) 0) (fun t =>
          t = (fresh v).2 ∧ t.eis.plan = some (cfgItem s 18 2) ∧ t.eis.pend = none))))
  ∧ (∀ s e i, Goes s 18 0x40 e → storTakes s = true → cfgItem s 18 2 ≠ [] → planRefused s (cfgItem s 18 2) = some i →
    Leaves .planCommit s 18 (.done 0x41 0 i) (fun t => t.eis = s.eis ∧ flag t R.EIS_ERR_PLAN_REJ = true))
  ∧ (∀ s e, Goes s 18 0x40 e → storTakes s = true → cfgItem s 18 2 ≠ [] → planRefused s (cfgItem s 18 2) = none →
    cfgItem s 18 3 ≠ [] → phaseOk (cfgItem s 18 3) = false →
    Leaves .planCommit s 18 (.done 0x42 0 0) (fun t => t.eis = s.eis ∧ flag t R.EIS_ERR_TABLE_REJ = true))
  ∧ (∀ s e, Goes s 18 0x40 e → storTakes s = true → cfgItem s 18 2 = [] → Leaves .planCommit s 18 (.done 0x43 0 0) (fun t => t = s))
  ∧ (∀ s e, Goes s 18 0x40 e → storTakes s = false → Leaves .planCommit s 18 (.done 6 0 0) (fun t => t = s))
  ∧ (∀ s, flag s R.EIS_STATUS_RUN = true → cfgU s 18 1 18 2 ≠ 0 → s.eis.latest ≠ [] → storTakes s = true → Gives .eisHistoryTimer s (fun t =>
      t = histAdd s 16 s.eis.latest ∧ (s.eis.latest.length ≤ histMax → t.nv.hist.head? = some { kind := 16, data := s.eis.latest })))
  ∧ (∀ s, (flag s R.EIS_STATUS_RUN = false ∨ cfgU s 18 1 18 2 = 0 ∨ s.eis.latest = [] ∨ storTakes s = false) → exec .eisHistoryTimer s = .next s)

/-! ### THERM -/

/-- THERM's rows: a housekeeping round and, while FAST holds, a fast one judge the sensors and set the limits, which CTRL then takes; the relay's dwell ends and the waiting
demand acts; an actuator found slow is noted, and one that turns again is cleared, and the lines follow. -/
def Obligations.ThermRowsAct : Prop :=
  (∀ s x, Gives (.housekeepingRound x) s (fun t => t = dispRevise (thermRound (loopTake s) x true)))
  ∧ (∀ s x, Gives (.fastRound x) s (fun t => t = dispRevise (thermRound (loopTake s) x false)))
  ∧ (∀ s x, flag s R.THERM_STATUS_FAST = false → Gives (.fastRound x) s (fun t => t = dispRevise (loopTake s)))
  ∧ (∀ s, Gives .heaterDwellEnd s (fun t => t = heaterFollow { s with therm := { s.therm with dwell := false } }))
  ∧ (∀ s a, a < 3 → actSlow s a = true → bitIn s R.THERM_ACT_FAULT a = false → Gives (.actFault a) s (fun t =>
      t = actShow (errRise (putBit s R.THERM_ACT_FAULT a true) R.THERM_ERR_ACT_FAULT a 0)
      ∧ bitIn t R.THERM_ACT_FAULT a = true ∧ flag t R.THERM_ERR_ACT_FAULT = true))
  ∧ (∀ s a, a < 3 → actSlow s a = false → Gives (.actFault a) s (fun t => t = actShow (putBit s R.THERM_ACT_FAULT a false)
      ∧ bitIn t R.THERM_ACT_FAULT a = false ∧ flag t R.THERM_ERR_ACT_FAULT = flag s R.THERM_ERR_ACT_FAULT))

/-- R260: THERM forbids storage writes while MOD_TEMP lies above 105.00 °C or below −45.00 °C or reads 0x8000, allows them again from 100.00 °C down and from
−40.00 °C up, and keeps what it did between; while it forbids them, WR_INHIBIT is 1 and STOR takes no write. -/
def Obligations.StorageWriteWindow : Prop :=
  ∀ (s : State) (code : Nat),
    let t := writeWindow s code
    ((code = 0x8000 ∨ 10500 < sInt 16 code ∨ sInt 16 code < -4500) → flag t R.THERM_STATUS_WR_FORBID = true)
    ∧ (code ≠ 0x8000 → sInt 16 code ≤ 10000 → -4000 ≤ sInt 16 code → flag t R.THERM_STATUS_WR_FORBID = false)
    ∧ (code ≠ 0x8000 → (10000 < sInt 16 code ∨ sInt 16 code < -4000) → sInt 16 code ≤ 10500 → -4500 ≤ sInt 16 code →
        flag t R.THERM_STATUS_WR_FORBID = flag s R.THERM_STATUS_WR_FORBID)
    ∧ flag t R.STOR_STATUS_WR_INHIBIT = flag t R.THERM_STATUS_WR_FORBID
    ∧ (flag t R.THERM_STATUS_WR_FORBID = true → storTakes t = false)

/-- R262: while the relay is driven, outside its dwell it switches on at a duty of 5,000 or more and off at 2,500 or less, each beginning a dwell; between them, and during a
dwell, it keeps its state. Where it is no longer driven it is off, and a relay that was on begins its dwell. -/
def Obligations.HeaterRelayDwells : Prop :=
  (∀ (s : State), actDriven s 3 = true →
    let t := heaterFollow s
    (s.therm.dwell = true → t = s)
    ∧ (s.therm.dwell = false → s.therm.heater = false → 5000 ≤ actDuty s 3 → t.therm.heater = true ∧ t.therm.dwell = true)
    ∧ (s.therm.dwell = false → s.therm.heater = true → actDuty s 3 ≤ 2500 → t.therm.heater = false ∧ t.therm.dwell = true)
    ∧ (s.therm.dwell = false → s.therm.heater = false → actDuty s 3 < 5000 → t = s)
    ∧ (s.therm.dwell = false → s.therm.heater = true → 2500 < actDuty s 3 → t = s))
  ∧ (∀ (s : State), actDriven s 3 = false → (heaterFollow s).therm.heater = false ∧ (heaterFollow s).therm.dwell = (s.therm.dwell || s.therm.heater))

/-! ### Control (CTRL) and the power stage (PWM) -/

/-- The control loops' rows: LC0's trigger takes the leg currents and shows the limits and, while LC0 regulates, runs its loop, opens it for want of V_LINK, or trips the
power stage where a leg stays over its current; the outer channels run at their rates, and the actuators follow the slow ones; a dwell and a stop that lasts too long
end; LC0's supervision runs while it regulates; a fault of the power stage takes every line off and is noted; a leg that may not be driven goes off at its valley. -/
def Obligations.ControlRowsAct : Prop :=
  (∀ s x, flag s R.PWM_STATUS_ARMED = true → blocksUp s = true →
    let lg := legCurrents (dispStart s) x.isense
    let u := limShow (wrS lg.1 (R.LC_FB_Y 0) x.y)
    (lcRuns u 0 = false → Gives (.lc0Cycle x) s (fun t => t = u))
    ∧ (∀ v, lg.2 = [] → lcRuns u 0 = true → x.vLink = some v → Gives (.lc0Cycle x) s (fun t => t = lc0Loop u x v))
    ∧ (lg.2 = [] → lcRuns u 0 = true → x.vLink = none → Gives (.lc0Cycle x) s (fun t => flag t R.CTRL_ERR_LINK = true
        ∧ t = errRise (lcOpenChain u 7 false).2 R.CTRL_ERR_LINK 0 0))
    ∧ (lg.2 ≠ [] → lcRuns u 0 = true → Gives (.lc0Cycle x) s (fun t => t = psTrip u 6 R.CTRL_ERR_LEG_OC R.PWM_ERR_LEG_OC (lg.2.headD 0)
        ∧ flag t R.PWM_ERR_LEG_OC = true)))
  ∧ (∀ s x, (flag s R.PWM_STATUS_ARMED = false ∨ blocksUp s = false) → exec (.lc0Cycle x) s = .next s)
  ∧ (∀ s x, blocksUp s = true → Gives (.fastCycle x) s (fun t => t = ((List.range 8).filter (fun n => decide (n ≠ 0) && decide (lcSlow s n = false)
      && lcRuns s n)).foldl (fun s n => lcCycle s n x (fOfRatio 1 5000)) (dispStart s)))
  ∧ (∀ s x dt, blocksUp s = true → Gives (.slowCycle x dt) s (fun t => t = heaterFollow (actShow (loopTake (((List.range 8).filter (fun n =>
      decide (n ≠ 0) && decide (lcSlow s n = true) && lcRuns s n)).foldl (fun s n => lcCycle s n x (fOfRatio dt 1000000000)) (dispStart s))))))
  ∧ (∀ s n, n < 8 → (lcAt s n).dwell = true → Gives (.dwellEnd n) s (fun t => (lcAt t n).dwell = false ∧ flag t (R.LC_STATE_DWELL n) = false))
  ∧ (∀ s x h, lcRuns s 0 = true → blocksUp s = true → Gives (.supervisionCheck x h) s (fun t => t = supCheck s x h))
  ∧ (∀ s x h, lcRuns s 0 = false → Gives (.supervisionCheck x h) s (fun t => t = { s with ctrl := { s.ctrl with rSum := 0, rN := 0 } }))
  ∧ (∀ s n, n < 8 → lcSt s n = lcStopC → (lcAt s n).failing = true → Gives (.stoppingTimeout n) s (fun t =>
      t = lcOpen s n 3 false ∧ lcSt t n = lcOpenC ∧ rd t (R.LC_STATE_WHY n) = 3 ∧ rdS t (R.LC_OUT_U n) = rdS (wrS t (R.LC_OUT_U n) (lcStopVal s n)) (R.LC_OUT_U n)))
  ∧ (∀ s, flag s R.PWM_STATUS_PS_FAULT = false → Gives (.psFault true) s (fun t => flag t R.PWM_STATUS_PS_FAULT = true ∧ flag t R.PWM_STATUS_DRIVEN = false
      ∧ flag t R.PWM_STATUS_PS_EN = false ∧ t.ctrl.legOn = List.replicate 4 false ∧ flag t R.CTRL_ERR_PS_FAULT = true ∧ flag t R.PWM_ERR_PS_FAULT = true))
  ∧ (∀ s, Gives (.psFault false) s (fun t => flag t R.PWM_STATUS_PS_FAULT = false ∧ t.ctrl = s.ctrl))
  ∧ (∀ s leg rdy, flag s R.PWM_STATUS_ARMED = true → blocksUp s = true → leg < 4 → Gives (.carrierValley leg rdy) s (fun t =>
      t = gapEnd (carrierValley s leg rdy) false
      ∧ ((commands s = false ∨ flag s R.SAFE_STATUS_INHIBIT = true ∨ flag s R.PWM_STATUS_PS_FAULT = true ∨ lcRuns s 0 = false ∨ legsUsed s ≤ leg) →
          t.ctrl.legOn.getD leg false = false)))

/-- QP21 to QP28 and dispatch: STOP of a regulating channel begins its stop, one already stopping completes, one that is open fails; SET_REF sets the host's target;
SET_DISPATCH of QP21 puts a grant in force and refuses one past its expiry or with reserved bytes set, and another queue pair's is refused; a grant expires; a power
request that comes too late is only counted, every other one is answered, and none is where dispatch does not run. -/
def Obligations.ControlCommandsAct : Prop :=
  (∀ s e qp, 21 ≤ qp → qp ≤ 28 → Goes s qp 0x40 e → lcSt s (qp - 21) = lcClosedC → Leaves (.stop qp) s qp (.done 0 0 0) (fun t =>
      lcSt t (qp - 21) = lcStopC ∧ flag t (R.LC_STATE_SUP_FAIL (qp - 21)) = false ∧ t.ctrl = s.ctrl))
  ∧ (∀ s e qp, 21 ≤ qp → qp ≤ 28 → Goes s qp 0x40 e → lcSt s (qp - 21) = lcStopC → Leaves (.stop qp) s qp (.done 0 0 0) (fun t => t = s))
  ∧ (∀ s e qp, 21 ≤ qp → qp ≤ 28 → Goes s qp 0x40 e → lcSt s (qp - 21) = lcOpenC → Leaves (.stop qp) s qp (.done 6 0 0) (fun t => t = s))
  ∧ (∀ s e qp, 21 ≤ qp → qp ≤ 28 → Goes s qp 0x41 e → lcSrc s (qp - 21) = 0 → Leaves (.setRef qp) s qp (.done 0 0 0) (fun t =>
      rdS t (R.LC_TARGET_T (qp - 21)) = sInt 32 e.arg0 ∧ t.mem = s.mem ∧ t.ctrl = (lcMod s (qp - 21) (fun c => { c with host := sInt 32 e.arg0 })).ctrl))
  ∧ (∀ s e qp, 21 ≤ qp → qp ≤ 28 → Goes s qp 0x41 e → lcSrc s (qp - 21) ≠ 0 → Leaves (.setRef qp) s qp (.done 0x42 0 0) (fun t => t = s))
  ∧ (∀ s e, Goes s 21 0x42 e → memBad s e.addr e.len = false →
    let bs := memBytes s e.addr e.len
    (fieldAt bs 20 4 = 0 → ptNow s ≤ fieldAt bs 8 8 →
      Leaves (.setDispatch 21) s 21 (.done 0 0 0) (fun t => flag t R.CTRL_STATUS_DISP = true ∧ ∃ g, t.ctrl.grant = some g ∧ g.chg = fieldAt bs 0 4 ∧ g.dis = fieldAt bs 4 4
        ∧ g.expiry = fieldAt bs 8 8 ∧ g.setPoint = sInt 32 (fieldAt bs 16 4)))
    ∧ (fieldAt bs 20 4 = 0 → fieldAt bs 8 8 < ptNow s → Leaves (.setDispatch 21) s 21 (.done 8 0 0) (fun t => t = s))
    ∧ (fieldAt bs 20 4 ≠ 0 → Leaves (.setDispatch 21) s 21 (.done 0x40 0 20) (fun t => t = s)))
  ∧ (∀ s e qp, 22 ≤ qp → qp ≤ 28 → Goes s qp 0x42 e → Leaves (.setDispatch qp) s qp (.done 0x42 0 0) (fun t => t = s))
  ∧ (∀ s g, (dispStart s).ctrl.grant = some g → g.expiry ≤ ptNow s → Gives .dispatchExpiry s (fun t =>
      t.ctrl.grant = none ∧ flag t R.CTRL_STATUS_DISP = false ∧ flag t R.CTRL_ERR_DISP_EXPIRED = true))
  ∧ (∀ s, (dispStart s).ctrl.grant = none → exec .dispatchExpiry s = .next (dispStart s))
  ∧ (∀ s a req, dispRuns s = true → fieldAt req 16 8 < ptNow s → Gives (.powerRequest a req) s (fun t =>
      t = { s with ctrl := { s.ctrl with lateReqs := s.ctrl.lateReqs + 1 } }))
  ∧ (∀ s a req, dispRuns s = true → ptNow s ≤ fieldAt req 16 8 → Gives (.powerRequest a req) s (fun t =>
      ∃ m, t.out.head? = some m ∧ m.kind = .dispatch ∧ m.args = [a] ∧ m.data.take 4 = leBytes 4 (fieldAt req 0 4)))
  ∧ (∀ s a req, dispRuns s = false → exec (.powerRequest a req) s = .next s)

/-- R280's limits: the limit of a direction is the smallest of its terms, and a tie goes to the term of the lower code. -/
def Obligations.TheLimitIsTheSmallestTerm : Prop :=
  ∀ (s : State) (chg : Bool),
    let m := limMin (limTerms s chg)
    m ∈ limTerms s chg ∧ ∀ x ∈ limTerms s chg, m.1 ≤ x.1 ∧ (x.1 = m.1 → m.2 ≤ x.2)

/-! ### The safety function (SAFE) -/

/-- What trips and what is judged: the Fog line, SP's evaluation, the set's check, the inputs, the outputs' checks and their test pulses, and a precharge that takes too
long; each takes the path of its rule, a finding on an output marks its bit before it trips DIAG, and in SP's hold window evaluation and the set's check pause. -/
def Obligations.SafetyRowsAct : Prop :=
  (∀ s, blocksUp s = true → Gives .safeReady s (fun t => t = safeRefresh s))
  ∧ (∀ s lo, blocksUp s = true → flag s R.SAFE_STATUS_FOG = false →
      let u := { s with safe := { s.safe with loopOpen := s.safe.loopOpen || lo } }
      (latched s 0 = false → Gives (.fogAssert lo) s (fun t => t = safeTrip (put u R.SAFE_STATUS_FOG true) 0 (fogTile u).1 (fogTile u).2 none 0))
      ∧ (latched s 0 = true → Gives (.fogAssert lo) s (fun t => t = safeRefresh (put u R.SAFE_STATUS_FOG true))))
  ∧ (∀ s lo, flag s R.SAFE_STATUS_FOG = true → exec (.fogAssert lo) s = .next { s with safe := { s.safe with loopOpen := s.safe.loopOpen || lo } })
  ∧ (∀ s, blocksUp s = true → flag s R.SAFE_STATUS_FOG = true → s.tiles.all (fun t => !t.present || t.fog) = true → Gives .fogDeassert s (fun t =>
      t = safeRefresh (put { s with safe := { s.safe with loopOpen := false } } R.SAFE_STATUS_FOG false)))
  ∧ (∀ s, s.tiles.all (fun t => !t.present || t.fog) = false → exec .fogDeassert s = .next { s with safe := { s.safe with loopOpen := false } })
  ∧ (∀ s, flag s R.SAFE_STATUS_HOLD_WIN = false → s.safe.fw = true → blocksUp s = true → s.cfgPend = [] → s.safe.set ≠ [] → Gives .spEvaluation s (fun t =>
      t = safeRefresh (judgeAll (evalTimers (s.safe.queue.foldl evalSweep { s with safe := { s.safe with queue := [] } }) 1))))
  ∧ (∀ s fl, flag s R.SAFE_STATUS_HOLD_WIN = true → exec .spEvaluation s = .next s ∧ exec (.setCrcCheck fl) s = .next s)
  ∧ (∀ s fl, setCheckOk (flipBytes s.safe.set fl) = true → Gives (.setCrcCheck fl) s (fun t => t = s))
  ∧ (∀ s fl, s.safe.set ≠ [] → s.safe.fw = true → blocksUp s = true → flag s R.SAFE_STATUS_HOLD_WIN = false → setCheckOk (flipBytes s.safe.set fl) = false →
      Gives (.setCrcCheck fl) s (fun t => ∃ u v, u = namedFollow (safeReadSet (safeTripPlain (put s R.SAFE_SET_STAT_RAM_ERR true) 15))
        ∧ t = safeRefresh v ∧ (setOk u = true → v = u) ∧ (setOk u = false → v = safeNote u 9 0xFF 0 0)))
  ∧ (∀ s i b on, i < 4 → blocksUp s = true → Gives (.siChannelChange i b on) s (fun t => t = siChange s i b on
      ∧ (siMode s i = 0 → t = wr s (R.SAFE_SI_STAT_STAT i) (setBit (siStat s i) (b2n b) on))))
  ∧ (∀ s i, i < 4 → blocksUp s = true → siBit s i 3 = true → Gives (.discrepancyTimeout i) s (fun t => t = siFault s i 4))
  ∧ (∀ s i, siBit s i 3 = false → exec (.discrepancyTimeout i) s = .next s)
  ∧ (∀ s b r, blocksUp s = true → Gives (.inputTestPulse b r) s (fun t => t = siPulse s b r))
  ∧ (∀ s ps mv, blocksUp s = true → Gives (.offStateCheck ps mv) s (fun t => t = soChecks s ps mv ∧ (ps = [] → t = s)))
  ∧ (∀ s n, n < 4 → soHs s n = true ∨ soLs s n = true → Gives (.overcurr n) s (fun t => t = safeRefresh (safeTripPlain (soFind s n 8) 15)))
  ∧ (∀ s n, soHs s n = false → soLs s n = false → exec (.overcurr n) s = .next s)
  ∧ (∀ s n, n < 4 → soOn s n = true → bitOf (soDiag s n) 7 = false → Gives (.testOverdue n) s (fun t => t = safeRefresh (safeTripPlain (soFind s n 128) 15)))
  ∧ (∀ s, s.safe.seq = 1 → soReqOn s 7 = true → Gives .prechargeTimeout s (fun t =>
      t = safeRefresh (safeTripPlain { s with safe := { s.safe with seq := 0, edgeReq := false } } 15)))

/-- The outputs' own rows: a switch goes on only with PERMIT and REQUEST, the low side first, and off without them; a test pulse opens one switch of an output that is on
and closes it again, a slot that cannot is suspended, and a pulse that fails its check, closes late or does not conduct is a finding; the precharge sequence goes from PRE
to both to MAIN, and ends when its start request goes. -/
def Obligations.OutputRowsAct : Prop :=
  (∀ s n, n < 4 → permitNow s n = true → requestNow s n = true → s.safe.offOk.getD n false = true → soHs s n = false → soLs s n = false → blocksUp s = true →
    Gives (.outputSwitchOn n) s (fun t => t = safeRefresh (put s (R.SAFE_SO_STAT_LS n) true)))
  ∧ (∀ s n, permitNow s n = false ∨ requestNow s n = false → exec (.outputSwitchOn n) s = .next s ∧ exec (.highSideOn n) s = .next s)
  ∧ (∀ s n, n < 4 → permitNow s n = true → requestNow s n = true → soLs s n = true → soHs s n = false → soOn s n = false → blocksUp s = true →
    Gives (.highSideOn n) s (fun t => t = safeRefresh (putBit (put s (R.SAFE_SO_STAT_HS n) true) R.SAFE_STATUS_SO_ON n true)))
  ∧ (∀ s n, n < 4 → permitNow s n = false ∨ requestNow s n = false → Gives (.outputSwitchOff n) s (fun t => t = safeRefresh (soFollow s n)
      ∧ (s.safe.test = none → soHs (soFollow s n) n = false ∧ soLs (soFollow s n) n = false ∧ soOn (soFollow s n) n = false)))
  ∧ (∀ s n, permitNow s n = true → requestNow s n = true → exec (.outputSwitchOff n) s = .next s)
  ∧ (∀ s j, j < 8 → blocksUp s = true → soOn s (j % 4) = true → soHs s (j % 4) = true → soLs s (j % 4) = true → flag s R.SAFE_STATUS_HOLD_WIN = false →
    s.safe.test = none → flag s R.SAFE_STATUS_SEQ_RUN = false → Gives (.testPulseSlot j false) s (fun t => t.safe.test = some (j % 4, decide (4 ≤ j))
      ∧ flag t R.SAFE_STATUS_TEST_SUSP = false ∧ soHs t (j % 4) = decide (4 ≤ j) ∧ soLs t (j % 4) = decide (j < 4)))
  ∧ (∀ s j y, j < 8 → blocksUp s = true → soOn s (j % 4) = true → soHs s (j % 4) = true → soLs s (j % 4) = true →
    (y = true ∨ flag s R.SAFE_STATUS_HOLD_WIN = true ∨ s.safe.test.isSome = true) →
    Gives (.testPulseSlot j y) s (fun t => t = put s R.SAFE_STATUS_TEST_SUSP true))
  ∧ (∀ s n low ma pin mv, s.safe.test = some (n, low) → ma ≤ 5 → (setPair s = true ∨ (low = true ∧ mv - 2000 ≤ pin) ∨ (low = false ∧ pin ≤ 2000)) →
    Gives (.testPulseEvaluate ma pin mv) s (fun t => t = bump s R.SAFE_TEST_CNT_COUNT))
  ∧ (∀ s n low ma pin mv, s.safe.test = some (n, low) →
    (5 < ma ∨ (setPair s = false ∧ low = true ∧ pin < mv - 2000) ∨ (setPair s = false ∧ low = false ∧ 2000 < pin)) → Gives (.testPulseEvaluate ma pin mv) s (fun t =>
      t = soFault { s with safe := { s.safe with test := none } } n (if low then 2 else 1)))
  ∧ (∀ s n low, s.safe.test = some (n, low) → Gives (.testPulseEnd true false) s (fun t =>
      t = safeRefresh (put { s with safe := { s.safe with test := none } } (if low then R.SAFE_SO_STAT_LS n else R.SAFE_SO_STAT_HS n) true)))
  ∧ (∀ s n low, s.safe.test = some (n, low) → Gives (.testPulseEnd false false) s (fun t => t = soFault { s with safe := { s.safe with test := none } } n 4))
  ∧ (∀ s n low c, s.safe.test = some (n, low) → Gives (.testPulseEnd c true) s (fun t =>
      t = soFault { s with safe := { s.safe with test := none } } n (if low then 2 else 1)))
  ∧ (∀ s, s.safe.seq = 0 → preMain s = (true, true) → startReq s = true → follows s = false → s.safe.fw = true → Gives .prechargeStart s (fun t =>
      t = safeRefresh { s with safe := { s.safe with seq := 1 } }))
  ∧ (∀ s, s.safe.seq = 1 → soReqOn s 7 = true → (s.hvm.vStr - s.hvm.vLink).natAbs ≤ setU s 0x90 4 → Gives .prechargeSettled s (fun t =>
      t = safeRefresh { s with safe := { s.safe with seq := 2 } }))
  ∧ (∀ s, setU s 0x90 4 < (s.hvm.vStr - s.hvm.vLink).natAbs → exec .prechargeSettled s = .next s)
  ∧ (∀ s, s.safe.seq = 2 → soReqOn s 8 = true → Gives .prechargeOverlapEnd s (fun t => t = safeRefresh { s with safe := { s.safe with seq := 3 } }))
  ∧ (∀ s, s.safe.seq ≠ 0 → startReq s = false → Gives .startRequestOff s (fun t => t = safeRefresh s))
  ∧ (∀ s, startReq s = true → exec .startRequestOff s = .next s ∧ (s.safe.seq ≠ 0 → exec .prechargeStart s = .next s))

/-- Resets and commissioning: a rise of RST_IN is timed; its fall is refused below 100 ms and above 2 s and judged between; one that stays high 2 s is refused;
re-arming that completes accepts the edge once FOG is off, and one that does not in time refuses it; LOAD, LOAD_END, CONFIRM and REPAIR act only through an open
host relay in RUN and with SP's firmware, LOAD, LOAD_END and CONFIRM in the SAFE state only, and answer the result of their rule. -/
def Obligations.SafetyResetRowsAct : Prop :=
  (∀ s, blocksUp s = true → flag s R.SAFE_RST_LEVEL = false → Gives .rstInRise s (fun t =>
      flag t R.SAFE_RST_LEVEL = true ∧ flag t R.SAFE_RST_HIGH_RUN = true ∧ t.safe = s.safe ∧ t.mem = s.mem))
  ∧ (∀ s, flag s R.SAFE_RST_LEVEL = true → exec .rstInRise s = .next s)
  ∧ (∀ s k, blocksUp s = true → flag s R.SAFE_RST_HIGH_RUN = true →
      let u := put (put s R.SAFE_RST_LEVEL false) R.SAFE_RST_HIGH_RUN false
      (k < 10000 → Gives (.rstInFall k) s (fun t => t = edgeRefuse u 1 2 (roundNat k 100)))
      ∧ (200000 < k → Gives (.rstInFall k) s (fun t => t = edgeRefuse u 1 3 2000))
      ∧ (10000 ≤ k → k ≤ 200000 → Gives (.rstInFall k) s (fun t => t = edgeJudge { u with safe := { u.safe with stlHigh := none } } 1 (roundNat k 100))))
  ∧ (∀ s k, blocksUp s = true → flag s R.SAFE_RST_HIGH_RUN = false → Gives (.rstInFall k) s (fun t => flag t R.SAFE_RST_LEVEL = false ∧ t.safe = s.safe))
  ∧ (∀ s, flag s R.SAFE_RST_HIGH_RUN = true → Gives (.resetHighDiscard false) s (fun t => t = edgeRefuse (put s R.SAFE_RST_HIGH_RUN false) 1 3 2000))
  ∧ (∀ s, s.safe.stlHigh.isSome = true → Gives (.resetHighDiscard true) s (fun t =>
      t = edgeRefuse { s with safe := { s.safe with stlHigh := none } } 2 3 2000))
  ∧ (∀ s, (flag s R.SAFE_RST_HIGH_RUN = false → exec (.resetHighDiscard false) s = .next s) ∧ (s.safe.stlHigh = none → exec (.resetHighDiscard true) s = .next s))
  ∧ (∀ s src, (fogDeassert s).safe.rearm = some src → flag (fogDeassert s) R.SAFE_STATUS_FOG = false → Gives .rearmComplete s (fun t =>
      t = edgeAccept (fogDeassert s) src ∧ t.safe.edge = true ∧ t.safe.rearm = none ∧ rd t R.SAFE_TRIP_LATCH_SRC = 0))
  ∧ (∀ s, (flag (fogDeassert s) R.SAFE_STATUS_FOG = true ∨ (fogDeassert s).safe.rearm = none) → exec .rearmComplete s = .next (fogDeassert s))
  ∧ (∀ s src, s.safe.rearm = some src → Gives .rearmTimeout s (fun t =>
      t = edgeRefuse { s with safe := { s.safe with rearm := none } } src 6 (rd s R.SAFE_RST_HIGH_MS)))
  ∧ (∀ s, s.safe.rearm = none → exec .rearmTimeout s = .next s)
  ∧ (∀ s n ofs d v c op, commOpen s n = false → exec (.load n ofs d) s = .next s ∧ exec (.loadEnd n) s = .next s ∧ exec (.confirm n v op) s = .next s
      ∧ exec (.repair n c op) s = .next s)
  ∧ (∀ s n ofs d, commOpen s n = true → flag s R.SAFE_STATUS_SAFE_STATE = true →
      ((ofs = 0 ∨ ofs = s.safe.loadNext) → ofs + d.length ≤ 4096 → Gives (.load n ofs d) s (fun t => ∃ b, b = (if ofs = 0 then d else s.safe.load ++ d)
        ∧ t = commResult { s with safe := { s.safe with load := b, loadNext := b.length } } n 0))
      ∧ ((ofs ≠ 0 ∧ ofs ≠ s.safe.loadNext) ∨ 4096 < ofs + d.length → Gives (.load n ofs d) s (fun t => t = commResult (commDrop s) n 4)))
  ∧ (∀ s n ofs d, commOpen s n = true → flag s R.SAFE_STATUS_SAFE_STATE = false → exec (.load n ofs d) s = .next (commResult s n 1)
      ∧ exec (.loadEnd n) s = .next (commResult s n 1))
  ∧ (∀ s n, commOpen s n = true → flag s R.SAFE_STATUS_SAFE_STATE = true → storTakes s = true →
      (s.safe.load = [] → Gives (.loadEnd n) s (fun t => t = commResult s n 4))
      ∧ (∀ o, s.safe.load ≠ [] → setRange s s.safe.load = some o → Gives (.loadEnd n) s (fun t =>
          t = commResult (commDrop (wr (put s R.SAFE_SET_STAT_RANGE_ERR true) R.SAFE_SET_STAT_ERR_OFS o)) n 2))
      ∧ (s.safe.load ≠ [] → setRange s s.safe.load = none → setCheckOk s.safe.load = false → Gives (.loadEnd n) s (fun t => t = commResult (commDrop s) n 3))
      ∧ (s.safe.load ≠ [] → setRange s s.safe.load = none → setCheckOk s.safe.load = true → Gives (.loadEnd n) s (fun t => t.safe.load = []
          ∧ ∃ u, t = commCheck (safeNote (safeRefresh (thrCheck (thrWrite u))) 7 0xFF 0 0) n ∧ u.safe.repair = false)))
  ∧ (∀ s n v op, commOpen s n = true → s.safe.set ≠ [] → (flag s R.SAFE_SET_STAT_SET_PENDING = true ∨ s.safe.repair = true) →
      (flag s R.SAFE_STATUS_SAFE_STATE = true → storTakes s = true → v = rd s R.SAFE_SET_CHECK_CHECK → Gives (.confirm n v op) s (fun t =>
        ∃ u, t = commResult (safeNote (safeRefresh u) 8 0xFF 0 0) n 0 ∧ u.safe.repair = false))
      ∧ (flag s R.SAFE_STATUS_SAFE_STATE = true → storTakes s = true → v ≠ rd s R.SAFE_SET_CHECK_CHECK → Gives (.confirm n v op) s (fun t => t = commResult s n 3))
      ∧ ((flag s R.SAFE_STATUS_SAFE_STATE = false ∨ storTakes s = false) → Gives (.confirm n v op) s (fun t => t = commResult s n 1)))
  ∧ (∀ s n v op, commOpen s n = true → (s.safe.set = [] ∨ (flag s R.SAFE_SET_STAT_SET_PENDING = false ∧ s.safe.repair = false)) →
      Gives (.confirm n v op) s (fun t => t = commResult s n 4))
  ∧ (∀ s n op, commOpen s n = true → copyOk s s.nv.cfgA ≠ copyOk s s.nv.cfgB →
      let b := if copyOk s s.nv.cfgA then s.nv.cfgA.safe.set else s.nv.cfgB.safe.set
      let u := commCheck (safeRefresh (namedFollow (wr { s with safe := { s.safe with set := b, repair := true } } R.SAFE_SET_CHECK_CHECK (setCheckOf b)))) n
      exec (.repair n none op) s = .next u ∧ ∀ v, exec (.repair n (some v) op) s = exec (.confirm n v op) u)
  ∧ (∀ s n c op, commOpen s n = true → copyOk s s.nv.cfgA = copyOk s s.nv.cfgB → exec (.repair n c op) s = .next (commResult s n 4))

/-- A trip latches its source and no other source with it, is counted, and is FIRST where nothing has tripped since the last accepted reset; it cuts no power state and leaves
the safety set as it was. -/
def Obligations.ATripLatchesItsSource : Prop :=
  ∀ (s : State) (c tile cell : Nat) (v : Option Int) (n : Nat), c < 16 → latched s c = false → blocksUp s = true →
    let t := safeTrip s c tile cell v n
    latched t c = true ∧ (∀ d, d < 16 → d ≠ c → latched t d = latched s d)
    ∧ rd t R.SAFE_TRIP_CNT_COUNT = (rd s R.SAFE_TRIP_CNT_COUNT + 1) % 2 ^ 32
    ∧ (flag s R.SAFE_FIRST_VALID = false → rd t R.SAFE_FIRST_SRC = c ∧ flag t R.SAFE_FIRST_VALID = true)
    ∧ (flag s R.SAFE_FIRST_VALID = true → rd t R.SAFE_FIRST_SRC = rd s R.SAFE_FIRST_SRC)
    ∧ t.safe.set = s.safe.set ∧ t.power = s.power

/-- Once SAFE has followed its conditions, no switch of an output conducts without that output's PERMIT and REQUEST. -/
def Obligations.NoOutputConductsUnpermitted : Prop :=
  ∀ (s : State) (n : Nat), n < 4 → (soHs (safeRefresh s) n = true ∨ soLs (safeRefresh s) n = true ∨ soOn (safeRefresh s) n = true) →
    permitNow (safeRefresh s) n = true ∧ requestNow (safeRefresh s) n = true

/-! ### Safety transport (STL) -/

/-- STL's rows: a running unit sends a session's cyclic frame, takes a received PDU down the path that its bytes decide, and gives the loss verdict; QP31 sets the host's data,
sends a reset frame of a session in RUN, feeds and serves the host relay, and reads the latest accepted frame back; what the session's set-up forbids fails with 0x42, what
its state forbids with 0x06. -/
def Obligations.StlRowsAct : Prop :=
  (∀ s n, n < 256 → blocksUp s = true → Gives (.cyclicSend n) s (fun t => t = relayServe 16 (stlCyclic s n)
      ∧ (stlSt s n = stlClosed ∨ stlSt s n = stlLost → stlCyclic s n = s)))
  ∧ (∀ s m src pdu,
      let t := relayServe 16 (stlReceive s m src pdu)
      exec (.cyclic m src pdu) s = .next t ∧ exec (.resetRise m src pdu) s = .next t ∧ exec (.resetFall m src pdu) s = .next t
      ∧ exec (.sessionOpen m src pdu) s = .next t)
  ∧ (∀ s n, n < 256 → blocksUp s = true → (stlSt s n = stlRun ∨ stlSt s n = stlOpening) → Gives (.lossVerdict n) s (fun t => t = stlVerdict s n))
  ∧ (∀ s n, stlSt s n ≠ stlRun → stlSt s n ≠ stlOpening → exec (.lossVerdict n) s = .next s)
  ∧ (∀ s e, Goes s 31 0x40 e → memBad s e.addr e.len = false →
    (stlU s e.arg0 3 1 = 1 → stlMedium s e.arg0 ≠ 0 → stlMedium s e.arg0 ≠ medRelay →
      Leaves .setData s 31 (.done 0 0 0) (fun t => t = stlMod s e.arg0 (fun x => { x with data := memBytes s e.addr e.len })))
    ∧ ((stlU s e.arg0 3 1 ≠ 1 ∨ stlMedium s e.arg0 = 0 ∨ stlMedium s e.arg0 = medRelay) → Leaves .setData s 31 (.done 0x42 0 0) (fun t => t = s)))
  ∧ (∀ s e, Goes s 31 0x41 e → stlSt s e.arg0 = stlRun → stlMedium s e.arg0 ≠ 0 → stlMedium s e.arg0 ≠ medRelay →
    Leaves .resetCmd s 31 (.done 0 (stlAt s e.arg0).seq 0) (fun t => t = stlSend s e.arg0 (2 + e.arg1) true []))
  ∧ (∀ s e, Goes s 31 0x41 e → stlSt s e.arg0 ≠ stlRun → Leaves .resetCmd s 31 (.done 6 0 0) (fun t => t = s))
  ∧ (∀ s e, Goes s 31 0x42 e → memBad s e.addr e.len = false → stlMedium s e.arg0 = medRelay → relayUp s e.arg0 = true → Gives .relayRx s (fun t =>
      t = relayServe 16 (setFront (stlReceive s medRelay 0 (memBytes s e.addr e.len)) 31 (.done 0 0 0))))
  ∧ (∀ s e p ps, Goes s 31 0x43 e → stlMedium s e.arg0 = medRelay → relayUp s e.arg0 = true → (stlAt s e.arg0).relay = p :: ps →
    Leaves .relayTx s 31 (.done 0 p.length 0) (fun t => memBytes t e.addr p.length = p ∧ t.regs = s.regs
      ∧ t.stl = (stlMod s e.arg0 (fun x => { x with relay := ps })).stl))
  ∧ (∀ s e, Goes s 31 0x43 e → stlMedium s e.arg0 = medRelay → relayUp s e.arg0 = true → (stlAt s e.arg0).relay = [] →
    Leaves .relayTx s 31 (.await 0) (fun t => t = s))
  ∧ (∀ s e, Goes s 31 0x43 e → stlMedium s e.arg0 ≠ medRelay → Leaves .relayTx s 31 (.done 0x42 0 0) (fun t => t = s))
  ∧ (∀ s e, Goes s 31 0x43 e → stlMedium s e.arg0 = medRelay → relayUp s e.arg0 = false → Leaves .relayTx s 31 (.done 6 0 0) (fun t => t = s))
  ∧ (∀ s e, Goes s 31 0x44 e → (stlAt s e.arg0).lastPdu ≠ [] → Leaves .sessRead s 31 (.done 0 ((stlAt s e.arg0).lastPdu.length + 4) 0) (fun t =>
      t = memWrite s e.addr ((stlAt s e.arg0).lastPdu ++ leBytes 4 (stlAt s e.arg0).lastUs)))
  ∧ (∀ s e, Goes s 31 0x44 e → (stlAt s e.arg0).lastPdu = [] → Leaves .sessRead s 31 (.done 6 0 0) (fun t => t = s))

/-- R331 and R335: a PDU that no open session expects is counted and changes no session; one from the wrong place is counted at the session it names; one whose check fails
is never accepted: the last accepted sequence number and the frame that SESS_READ returns stay. The crossing into SAFE's domain (22_clock_domains.md) passes it on; where that
crossing is stopped nothing is received. -/
def Obligations.BadFramesAreNotTaken : Prop :=
  (∀ (s : State) (m src : Nat) (pdu : List Byte), blocksUp s = true → flag s R.STL_STATUS_RUN = true → crossOk s 10 = true →
    (stlFind s m src pdu = none → stlReceive s m src pdu = bump s R.STL_MASQ_CNT_COUNT)
    ∧ (∀ n, stlFind s m src pdu = some (n, false) → stlReceive s m src pdu = bump s (R.STL_S_STAT_MASQ n))
    ∧ (∀ n, stlFind s m src pdu = some (n, true) → stlCheck m pdu = false →
        (stlAt (stlReceive s m src pdu) n).lastPdu = (stlAt s n).lastPdu ∧ (stlAt (stlReceive s m src pdu) n).ack = (stlAt s n).ack))
  ∧ (∀ (s : State) (m src : Nat) (pdu : List Byte), crossOk s 10 = false → stlReceive s m src pdu = s)

/-! ### Redundancy (RED) -/

/-- What a member of a pair does on its own: it sends its Beacon with the readings of the instant, claims where no partner shows, takes the failure verdict as
a standby, repeats an unanswered CLAIM, withholds the outputs that only the mirror permitted, and goes FENCED; a planned handover starts on QP32, goes to RELEASE once
the partner is ready and no precharge runs, and ends with its request where a step does not come; and the partner's and the Keeper's silence show in STATUS. -/
def Obligations.PairRowsAct : Prop :=
  (∀ s now, pairOn s = true → Gives (.beaconSend now) s (fun t =>
      let s1 := supplyTake s now
      t = holdoffFollow (agreeFollow (beaconOut { s1 with red := { s1.red with hoCount := s1.red.hoCount + b2n (decide (rd s1 R.RED_STATUS_HO_STEP = 1)) } }))))
  ∧ (∀ s, pairOn s = true → role s = roleInit → Gives .initTimeout s (fun t =>
      t = keeperSend (roleTake { s with red := { s.red with answered := false, hoReady := false } } roleClaiming) 2 0
      ∧ t.red.answered = false ∧ t.red.seq = (s.red.seq + 1) % 2 ^ 32))
  ∧ (∀ s, pairOn s = true → role s = roleStandby → Gives .failureVerdict s (fun t =>
      (∃ u, t = claimStart { u with red := { u.red with verdict := true } } ∧ u = errRise s R.RED_ERR_BEACON_LOST 0 0)
      ∧ t.red.verdict = true))
  ∧ (∀ s, pairOn s = true → role s = roleClaiming → s.red.answered = false → Gives .claimResend s (fun t => t = keeperSend s 2 0))
  ∧ (∀ s, pairOn s = true → follows s = true → Gives .holdExpired s (fun t => ∃ u,
      t = safeRefresh (errRise u R.RED_ERR_HOLD_EXPIRED 0 0)
      ∧ u = { s with safe := { s.safe with withheld := s.safe.withheld ||| rd s R.SAFE_STATUS_SO_ON, mirSo := 0 } }))
  ∧ (∀ s, pairOn s = true → role s = roleActive → Gives .fence s (fun t => ∃ u v, v = hoAbort s 0x42 0
      ∧ t = errRise (bump u R.RED_FENCE_CNT_COUNT) R.RED_ERR_FENCED 0 0
      ∧ u = roleTake (driveStop { v with red := { v.red with awaitFinal := false } }) roleFenced ∧ flag t R.RED_ERR_FENCED = true))
  ∧ (∀ s, role s ≠ roleActive → exec .fence s = .next s ∧ exec .handoverRelease s = .next s ∧ exec .handoverAbort s = .next s ∧ exec .degradation s = .next s)
  ∧ (∀ s e, Goes s 32 0x40 e → role s = roleActive → peerHeard s = true → s.red.hoWhy = 0 → Leaves .handover s 32 (.running 0) (fun t =>
      rd t R.RED_STATUS_HO_STEP = 1 ∧ flag t R.RED_STATUS_HO_RUN = true ∧ t.red.hoWhy = 1 ∧ t.red.hoPeer = false ∧ t.red.hoCount = 0))
  ∧ (∀ s e, Goes s 32 0x40 e → role s = roleActive → peerHeard s = false → Leaves .handover s 32 (.done 0x43 0 0) (fun t => t = s))
  ∧ (∀ s e, Goes s 32 0x40 e → role s = roleActive → peerHeard s = true → s.red.hoWhy ≠ 0 → Leaves .handover s 32 (.done 6 0 0) (fun t => t = s))
  ∧ (∀ s, pairOn s = true → role s = roleActive → rd s R.RED_STATUS_HO_STEP = 1 → s.red.hoPeer = true →
      (s.red.hoWhy = 5 ∨ (s.safe.seq ≠ 1 ∧ s.safe.seq ≠ 2)) → Gives .handoverRelease s (fun t => t = keeperSend (wr s R.RED_STATUS_HO_STEP 2) 5 (1 - redUnit s)))
  ∧ (∀ s, s.red.hoWhy ≠ 5 → (s.safe.seq = 1 ∨ s.safe.seq = 2) → exec .handoverRelease s = .next s)
  ∧ (∀ s, pairOn s = true → role s = roleActive → rd s R.RED_STATUS_HO_STEP = 1 → s.red.hoPeer = false → 3 ≤ s.red.hoCount → s.red.hoWhy = 1 →
      Gives .handoverAbort s (fun t =>
        t = finishEntry (errRise (hoClear s) R.RED_ERR_HO_ABORT 0 0) 32 (Entry.runs 0x40) 0x41 0 ((missingBit s (peerHealth s)).getD 0xFFFF)))
  ∧ (∀ s, rd s R.RED_STATUS_HO_STEP = 1 → s.red.hoCount < 3 → exec .handoverAbort s = .next s)
  ∧ (∀ s, pairOn s = true → role s = roleActive → rd s R.RED_STATUS_HO_STEP = 2 → s.red.hoWhy = 1 → Gives .handoverAbort s (fun t =>
      t = finishEntry (errRise (hoClear s) R.RED_ERR_HO_ABORT 0 0) 32 (Entry.runs 0x40) 0x42 0 0))
  ∧ (∀ s, pairOn s = true → role s = roleActive → s.red.awaitFinal = true → Gives .finalBeaconTimeout s (fun t => t = takeOver s))
  ∧ (∀ s, pairOn s = true → role s = roleActive → s.red.hoWhy = 0 → peerHealthy s = true → healthy s = false → Gives .degradation s (fun t =>
      t.red.hoWhy = 4 ∧ rd t R.RED_STATUS_HO_STEP = 1 ∧ flag t R.RED_STATUS_HO_RUN = true))
  ∧ (∀ s x, pairOn s = true → s.red.tbFrom = some x → x + cfgU s 32 3 2 2 * 250000000 ≤ s.power.ticks → holdoffRuns s = true → Gives .takebackHoldoffEnd s (fun t =>
      flag t R.RED_STATUS_TB_REQ = true ∧ t.red = s.red))
  ∧ (∀ s x, s.red.tbFrom = some x → s.power.ticks < x + cfgU s 32 3 2 2 * 250000000 → exec .takebackHoldoffEnd s = .next s)
  ∧ (∀ s ring, pairOn s = true → flag s R.RED_STATUS_PEER_RING = false → Gives (.partnerBeaconTimeout true ring) s (fun t =>
      ∃ u, t = holdoffFollow u ∧ flag u R.RED_STATUS_PEER_J5 = false ∧ flag u R.RED_STATUS_LONE = true))
  ∧ (∀ s, pairOn s = true → flag s R.RED_STATUS_PEER_J5 = true → Gives (.partnerBeaconTimeout false true) s (fun t =>
      t = holdoffFollow (put s R.RED_STATUS_PEER_RING false)))
  ∧ (∀ s, pairOn s = true → flag s R.RED_STATUS_KEEPER_OK = true → Gives .keeperAckTimeout s (fun t =>
      t = holdoffFollow (errRise (put s R.RED_STATUS_KEEPER_OK false) R.RED_ERR_KEEPER_LOST 0 0)))

/-- A frame that reaches a member of a pair, by whichever row: one with a wrong CHECK or another pair's number is dropped and counted, so is one of neither the partner nor the
Keeper and one that is older than the latest; a partner's Beacon that is newer is taken, one that is a copy only refreshes its path. A Keeper's GRANT of another unit, or of no higher
epoch, changes nothing but the sequence; one with a higher epoch makes a claiming unit take over, and a standby wait for the final Beacon; a DENY ends a claim, and a handover that
waits for its grant; an ACK shows the Keeper. -/
def Obligations.PairFramesAreTaken : Prop :=
  (∀ s path src fr, s.upd.await = none → let t := redReceive s path src fr
    exec (.beaconReceive path src fr) s = .next t ∧ exec (.grant path src fr) s = .next t ∧ exec (.deny path src fr) s = .next t
    ∧ (t.upd.await = none → exec (.ack path src fr) s = .next t))
  ∧ (∀ s path src fr, pairOn s = true → (path = 2 → keepPort s = true) →
    (redCheckOk fr = false ∨ fieldAt fr 2 2 ≠ redPair s ∨ (fromPeer s path src fr = false ∧ fromKeeper s path src fr = false)
      ∨ (fromPeer s path src fr = true ∧ fieldAt fr 0x18 1 ≠ roleInit ∧ 2 ^ 31 < redDelta s.red.peerIn (fieldAt fr 8 4))
      ∨ (fromPeer s path src fr = false ∧ 2 ^ 31 < redDelta s.red.keepIn (fieldAt fr 8 4))) →
    Gives (.beaconReceive path src fr) s (fun t => t = bump s R.RED_BEACON_BAD_CNT_COUNT))
  ∧ (∀ s path src fr, pairOn s = true → redCheckOk fr = true → fieldAt fr 2 2 = redPair s → fromPeer s path src fr = true → fieldAt fr 0 1 = 1 →
    1 ≤ redDelta s.red.peerIn (fieldAt fr 8 4) → redDelta s.red.peerIn (fieldAt fr 8 4) ≤ 2 ^ 31 → Gives (.beaconReceive path src fr) s (fun t => t = beaconTake s path fr))
  ∧ (∀ s path src fr, pairOn s = true → redCheckOk fr = true → fieldAt fr 2 2 = redPair s → fromPeer s path src fr = true → fieldAt fr 0 1 = 1 →
    fieldAt fr 0x18 1 ≠ roleInit → redDelta s.red.peerIn (fieldAt fr 8 4) = 0 → Gives (.beaconReceive path src fr) s (fun t =>
      t.red = s.red ∧ flag t (if path = 0 then R.RED_STATUS_PEER_J5 else R.RED_STATUS_PEER_RING) = true ∧ flag t R.RED_STATUS_LONE = false))
  ∧ (∀ s path src fr, pairOn s = true → (path = 2 → keepPort s = true) → redCheckOk fr = true → fieldAt fr 2 2 = redPair s → fromPeer s path src fr = false →
    fromKeeper s path src fr = true → 1 ≤ redDelta s.red.keepIn (fieldAt fr 8 4) → redDelta s.red.keepIn (fieldAt fr 8 4) ≤ 2 ^ 31 →
    let u := { s with red := { s.red with keepIn := some (fieldAt fr 8 4) } }
    let ep := fieldAt fr 0x0C 4
    let arg := fieldAt fr 0x18 4
    let v := activeEnter u ep
    let w := { v with red := { v.red with hoReady := false, answered := true } }
    let d := errRise (bump u R.RED_DENY_CNT_COUNT) R.RED_ERR_DENIED 0 arg
    (fieldAt fr 0 1 = 3 → (arg ≠ redUnit s ∨ ep ≤ epochNow s) → Gives (.grant path src fr) s (fun t => t = u))
    ∧ (fieldAt fr 0 1 = 3 → arg = redUnit s → epochNow s < ep → role s = roleClaiming → Gives (.grant path src fr) s (fun t => t = takeOver w))
    ∧ (fieldAt fr 0 1 = 3 → arg = redUnit s → epochNow s < ep → role s = roleStandby → fieldAt s.red.latest 0x19 1 ≠ 3 → Gives (.grant path src fr) s (fun t =>
        t = { w with red := { w.red with awaitFinal := true } }))
    ∧ (fieldAt fr 0 1 = 3 → arg = redUnit s → epochNow s < ep → role s = roleStandby → fieldAt s.red.latest 0x19 1 = 3 → Gives (.grant path src fr) s (fun t => t = takeOver w))
    ∧ (fieldAt fr 0 1 = 4 → role s = roleClaiming → Gives (.deny path src fr) s (fun t =>
        t = roleTake { d with red := { d.red with answered := true, verdict := false } } roleStandby))
    ∧ (fieldAt fr 0 1 = 4 → role s = roleActive → rd s R.RED_STATUS_HO_STEP = 2 → Gives (.deny path src fr) s (fun t => t = hoAbort d 0x42 arg))
    ∧ (fieldAt fr 0 1 = 4 → role s ≠ roleClaiming → rd s R.RED_STATUS_HO_STEP ≠ 2 → Gives (.deny path src fr) s (fun t => t = d))
    ∧ (fieldAt fr 0 1 = 6 → (role s = roleStandby ∨ role s = roleClaiming) → s.upd.await = none → Gives (.ack path src fr) s (fun t =>
        t = put u R.RED_STATUS_KEEPER_OK true)))
  ∧ (∀ s path src fr, pairOn s = true → (path = 2 → keepPort s = true) → redCheckOk fr = true → fieldAt fr 2 2 = redPair s → fromPeer s path src fr = false →
    fromKeeper s path src fr = true → redDelta s.red.keepIn (fieldAt fr 8 4) = 0 →
    exec (.grant path src fr) s = .next s ∧ exec (.deny path src fr) s = .next s ∧ (s.upd.await = none → exec (.ack path src fr) s = .next s))

/-- The Keeper service: a Beacon is heard and answered with an ACK; a CLAIM of a warm Keeper with a free holder gets its GRANT with an epoch above both, one of a Keeper that is not warm
a DENY with cause 5, one beside the partner's claim a DENY with cause 2, and one that must wait is pending; a RELEASE by the holder gives the role to its partner, any other one gets a DENY
with cause 3; a pending claim is granted once the holder is silent and denied after its time; after warm-up every pair is warm; KEEPER_SNAP writes its 256 bytes. -/
def Obligations.KeeperRowsAct : Prop :=
  (∀ s path src fr p, flag s R.RED_CFG_KSVC = true → blocksUp s = true → redCheckOk fr = true → fieldAt fr 4 1 ≤ 1 → (path = 2 → keepPort s = true) →
    (List.range (ksCount s)).find? (fun p => decide (ksPairId s p = fieldAt fr 2 2)) = some p → (path = 1 → src = ksAddr s p (fieldAt fr 4 1)) →
    let u := fieldAt fr 4 1
    let s1 := ksMod s p (fun k => { k with direct := decide (path = 2) })
    (fieldAt fr 0 1 = 1 → exec (.keeperBeacon path src fr) s = .next (ksBeacon s1 p u fr))
    ∧ (fieldAt fr 0 1 = 2 → flag s (R.RED_KS_STATE_WARM p) = false → exec (.claim path src fr) s = .next (ksDeny s1 p (ksPairId s p) u 5))
    ∧ (fieldAt fr 0 1 = 2 → flag s (R.RED_KS_STATE_WARM p) = true → (ksAt s p).claim = none → ksFree s p = true → ∃ v e,
        e = (max (rd s (R.RED_KS_EPOCH_EPOCH p)) (fieldAt fr 0x0C 4) + 1) % 2 ^ 32 ∧ v = ksHold (ksDrop s1 p) p e u
        ∧ exec (.claim path src fr) s = .next (ksSend v p (ksPairId s p) u 3 u e))
    ∧ (fieldAt fr 0 1 = 2 → flag s (R.RED_KS_STATE_WARM p) = true → (ksAt s p).claim = none → ksFree s p = false →
        exec (.claim path src fr) s = .next (put (ksMod s1 p (fun k => { k with claim := some (u, fieldAt fr 0x0C 4) })) (R.RED_KS_STATE_PENDING p) true))
    ∧ (∀ c, fieldAt fr 0 1 = 2 → flag s (R.RED_KS_STATE_WARM p) = true → (ksAt s p).claim = some c →
        exec (.claim path src fr) s = .next (if c.1 = u then ksMod s1 p (fun k => { k with claim := some (u, fieldAt fr 0x0C 4) })
          else ksDeny s1 p (ksPairId s p) u 2))
    ∧ (fieldAt fr 0 1 = 5 → rd s (R.RED_KS_STATE_HOLDER p) = u → fieldAt fr 0x18 4 = 1 - u → ∃ v e, e = (rd s (R.RED_KS_EPOCH_EPOCH p) + 1) % 2 ^ 32
        ∧ v = ksHold s1 p e (1 - u)
        ∧ exec (.release path src fr) s = .next (ksSend (ksSend v p (ksPairId s p) (1 - u) 3 (1 - u) e) p (ksPairId s p) u 6 (1 - u) e))
    ∧ (fieldAt fr 0 1 = 5 → (rd s (R.RED_KS_STATE_HOLDER p) ≠ u ∨ fieldAt fr 0x18 4 ≠ 1 - u) → exec (.release path src fr) s = .next (ksDeny s1 p (ksPairId s p) u 3)))
  ∧ (∀ s path src fr, (flag s R.RED_CFG_KSVC = false ∨ blocksUp s = false ∨ redCheckOk fr = false ∨ 1 < fieldAt fr 4 1) →
    exec (.keeperBeacon path src fr) s = .next s ∧ exec (.claim path src fr) s = .next s ∧ exec (.release path src fr) s = .next s)
  ∧ (∀ s p u ep, (ksAt s p).claim = some (u, ep) → ksFree s p = true → Gives (.keeperClaimGrant p) s (fun t => t = ksGrant s p u ep))
  ∧ (∀ s p, ksFree s p = false → exec (.keeperClaimGrant p) s = .next s)
  ∧ (∀ s p u ep, (ksAt s p).claim = some (u, ep) → Gives (.keeperClaimTimeout p) s (fun t => t = ksDeny (ksDrop s p) p (ksPairId s p) u 1))
  ∧ (∀ s p, (ksAt s p).claim = none → exec (.keeperClaimTimeout p) s = .next s)
  ∧ (∀ s, flag s R.RED_CFG_KSVC = true → s.red.ks.length ≤ 16 → Gives .keeperWarmUp s (fun t =>
      t.red = s.red ∧ ∀ p, p < s.red.ks.length → flag t (R.RED_KS_STATE_WARM p) = true))
  ∧ (∀ s e, Goes s 32 0x41 e → Leaves .keeperSnap s 32 (.done 0 256 0) (fun t => t.regs = s.regs ∧ t.red = s.red
      ∧ ∀ a, a < e.addr ∨ e.addr + 256 ≤ a → memRd t a = memRd s a))

/-! ### Rings (ETH) -/

/-- A frame on a port whose link is up and whose crossing is whole is counted; one with a bad header goes nowhere; one for the unit is delivered to its service and, not being a
broadcast, goes no further; one for another unit leaves by the other port with its HOPS one lower, and none without HOPS does. A link's change shows in STATUS and is told by a notice;
notices and their expiry keep BREAK; SEND sends with the next RSEQ, with the check value of a bound unit appended, refuses a service that is not its queue pair's, and fails where no way
leads to its unit. -/
def Obligations.EthRowsAct : Prop :=
  (∀ s b fr r, portUp s b = true → crossOk s (6 + b2n b) = true → beAt fr 12 2 ≠ 0x8808 → ringHdrOk fr = false → r.fcsOk = true → Gives (.rinpaconFrame b fr r) s (fun t =>
      t = errRise (bump s (R.ETH_P_RX_COUNT (b2n b))) R.ETH_ERR_HDR (b2n b) 0))
  ∧ (∀ s b fr r, portUp s b = true → crossOk s (6 + b2n b) = true → beAt fr 12 2 = 0x8808 → Gives (.rinpaconFrame b fr r) s (fun t =>
      t = bump s (R.ETH_P_RX_COUNT (b2n b))))
  ∧ (∀ s b fr r, (portUp s b = false ∨ crossOk s (6 + b2n b) = false) → exec (.rinpaconFrame b fr r) s = .next s)
  ∧ (∀ s b fr r, portUp s b = true → crossOk s (6 + b2n b) = true → beAt fr 12 2 ≠ 0x8808 → ringHdrOk fr = true → r.fcsOk = true → bitOf (fieldAt fr 20 2) 14 = false → fieldAt fr 20 2 % 2 ^ 14 = ethAddr s →
    Gives (.rinpaconFrame b fr r) s (fun t => t = ethDeliver (bump s (R.ETH_P_RX_COUNT (b2n b))) b r.agoNs fr))
  ∧ (∀ s b fr r, portUp s b = true → crossOk s (6 + b2n b) = true → beAt fr 12 2 ≠ 0x8808 → ringHdrOk fr = true → r.fcsOk = true → bitOf (fieldAt fr 20 2) 14 = false → fieldAt fr 20 2 % 2 ^ 14 ≠ ethAddr s →
    fieldAt fr 22 2 % 2 ^ 14 ≠ ethAddr s → fieldAt fr 19 1 = 0 → Gives (.rinpaconFrame b fr r) s (fun t =>
      t = bump (bump s (R.ETH_P_RX_COUNT (b2n b))) (R.ETH_P_HOP_DROP_COUNT (b2n b))))
  ∧ (∀ s b fr r, portUp s b = true → crossOk s (6 + b2n b) = true → beAt fr 12 2 ≠ 0x8808 → portUp s (!b) = true → ethForwards s = true → ringHdrOk fr = true → r.fcsOk = true → bitOf (fieldAt fr 20 2) 14 = false →
    fieldAt fr 20 2 % 2 ^ 14 ≠ ethAddr s → fieldAt fr 22 2 % 2 ^ 14 ≠ ethAddr s → fieldAt fr 19 1 ≠ 0 → bits (fieldAt fr 18 1) 5 4 ≠ 0 → r.full = false →
    Gives (.rinpaconFrame b fr r) s (fun t => t = bumpBy (ethOut (pepperWait (bump s (R.ETH_P_RX_COUNT (b2n b))) 4 (b2n (!b))) (!b) (bits (fieldAt fr 18 1) 5 4) 0
      (patch fr 19 (leBytes 1 (fieldAt fr 19 1 - 1)))) (R.ETH_P_PREEMPT_COUNT (b2n (!b))) r.preempts))
  ∧ (∀ s b up v, blocksUp s = true → linkUp s b ≠ up → s.eth.on.getD (b2n b) false = true → Gives (.linkChange b up v) s (fun t =>
      linkUp t b = up ∧ bitIn t R.CLK_STATUS_DOM_OK (6 + b2n b) = up ∧ (up = false → crossOk t (6 + b2n b) = false) ∧ t.eth.on = s.eth.on ∧ t.eth.down = s.eth.down))
  ∧ (∀ s p, blocksUp s = true → fieldAt p 2 1 ≠ 1 → fieldAt p 1 1 = 1 → Gives (.ringStateNotice p) s (fun t =>
      t.eth.down.contains (fieldAt p 0 1) = true ∧ flag t R.ETH_BREAK_VALID = true ∧ flag t R.ETH_STATUS_RING_OK = false))
  ∧ (∀ s p, blocksUp s = true → fieldAt p 2 1 = 1 → fieldAt p 1 1 = 1 → Gives (.ringStateNotice p) s (fun t =>
      t.eth.down = s.eth.down.filter (fun x => decide (x ≠ fieldAt p 0 1))))
  ∧ (∀ s, Gives .breakRecordExpiry s (fun t => t.eth.down = [] ∧ flag t R.ETH_BREAK_VALID = false
      ∧ flag t R.ETH_STATUS_RING_OK = (linkUp s false && linkUp s true)))
  ∧ (∀ s qp e, 33 ≤ qp → qp ≤ 35 → Goes s qp 0x40 e → memBad s e.addr e.len = false → svcOfQp qp (bits e.arg0 23 16) = true →
    let dst := e.arg0 % 2 ^ 15
    let c := crcEgress s (bits e.arg0 23 16) (dst % 2 ^ 14) (memBytes s e.addr e.len)
    let u := pepperWait c.2 4 (b2n ((routeOf c.2 (dst % 2 ^ 14)).getD false))
    (∀ s1, ethSend u (qp - 32) (bits e.arg0 23 16) dst c.1 = some s1 → Leaves (.send qp) s qp (.done 0 s1.eth.rseq 0) (fun t => t = s1))
    ∧ (ethSend u (qp - 32) (bits e.arg0 23 16) dst c.1 = none → Leaves (.send qp) s qp (.done 0x41 0 0) (fun t => t.eth = s.eth)))
  ∧ (∀ s qp e, 33 ≤ qp → qp ≤ 35 → Goes s qp 0x40 e → memBad s e.addr e.len = false → svcOfQp qp (bits e.arg0 23 16) = false →
    Leaves (.send qp) s qp (.done 0x40 0 0) (fun t => t = s))

/-! ### Plant time (PTP) -/

/-- An event message passes on with its residence in the correction field and, where a domain of the unit takes it, is recorded with its stamp; a Sync of two steps passes unchanged and
waits for its Follow_Up, which carries the correction; one that waited too long, or came without its Sync in time, passes unchanged and is counted. SELECT keeps plant time whole across the
change; the first LOCKED acquires it, at S = 0; STEP with SLEW puts the step into S, without it plant time steps; PTP_TX sends by each port named; LOSS_MS without a Sync of the selected domain
begins the holdover, or the change to the other; SLEW_END finds S at 0; an anchor carries plant time and the tick count. -/
def Obligations.PtpRowsAct : Prop :=
  (∀ s b m ago res, portUp s b = true → crossOk s (6 + b2n b) = true → crossOk s 9 = true →
    let s1 := bump s (R.ETH_P_RX_COUNT (b2n b))
    let rec1 (u : State) (d : Nat) : List Byte := ptpRecord (fineNs (domCnt u d) - ago - 232) (ptNow u - ago - 232) (decide (d = 1)) b false m
    (msgDomain s m = none → beAt m 0 1 % 16 ≠ 0 → ethForwards s = true → Gives (.ptpEventMessage b m ago res) s (fun t =>
      t = ptpOut s1 (!b) (addCorr m (res * 65536))))
    ∧ (msgDomain s m = none → beAt m 0 1 % 16 = 0 → bitOf (beAt m 6 1) 1 = true → ethForwards s = true →
        s.ptp.held.find? (fun h => decide (h.1 = b) && decide (msgKey h.2 = msgKey m)) = none → Gives (.ptpEventMessage b m ago res) s (fun t => ∃ u, u = ptpOut s1 (!b) m
          ∧ t = { u with ptp := { u.ptp with syncs := (b, msgKey m, res * 65536, u.power.ticks) :: u.ptp.syncs } }))
    ∧ (∀ d, msgDomain s m = some d → beAt m 0 1 % 16 = 0 → ethForwards s = false → Gives (.ptpEventMessage b m ago res) s (fun t =>
        t = ptpDeliver (syncSeen s1 d) (rec1 (syncSeen s1 d) d)))
    ∧ (∀ d, msgDomain s m = some d → beAt m 0 1 % 16 ≠ 0 → ethForwards s = true → passesOn s (some d) (beAt m 0 1 % 16) = true →
        Gives (.ptpEventMessage b m ago res) s (fun t => ∃ u, u = ptpOut s1 (!b) (addCorr m (corrOf s (some d) b res)) ∧ t = ptpDeliver u (rec1 u d))))
  ∧ (∀ s b m ago res, (portUp s b = false ∨ crossOk s (6 + b2n b) = false ∨ crossOk s 9 = false) →
    exec (.ptpEventMessage b m ago res) s = .next s ∧ exec (.ptpGeneralMessage b m) s = .next s)
  ∧ (∀ s b m, portUp s b = true → crossOk s (6 + b2n b) = true → crossOk s 9 = true → msgDomain s m = none → ethForwards s = true →
    let s1 := bump s (R.ETH_P_RX_COUNT (b2n b))
    (beAt m 0 1 % 16 ≠ 8 → Gives (.ptpGeneralMessage b m) s (fun t => t = ptpOut s1 (!b) m))
    ∧ (∀ y, beAt m 0 1 % 16 = 8 → s.ptp.syncs.find? (fun y => decide (y.1 = b) && decide (y.2.1 = msgKey m)) = some y → Gives (.ptpGeneralMessage b m) s (fun t =>
        ∃ u, u = { s1 with ptp := { s1.ptp with syncs := s1.ptp.syncs.filter (fun x => decide (x ≠ y)) } }
        ∧ t = if s.power.ticks ≤ y.2.2.2 + 2500000 then ptpOut u (!b) (addCorr m y.2.2.1) else ptpOut (bump u R.PTP_TC_MISS_COUNT) (!b) m))
    ∧ (beAt m 0 1 % 16 = 8 → s.ptp.syncs.find? (fun y => decide (y.1 = b) && decide (y.2.1 = msgKey m)) = none → Gives (.ptpGeneralMessage b m) s (fun t =>
        t = { s1 with ptp := { s1.ptp with held := s1.ptp.held ++ [(b, m)] } })))
  ∧ (∀ s h l, s.ptp.held = h :: l → Gives .followUpTimeout s (fun t => t.ptp.held = l
      ∧ t = ptpOut (bump { s with ptp := { s.ptp with held := l } } R.PTP_TC_MISS_COUNT) (!h.1) h.2))
  ∧ (∀ s e, Goes s 37 0x40 e → e.arg0 ≤ 1 → e.arg0 ≠ ptpSel s → flag s R.PTP_STATUS_ACQ = true → ∃ r, Leaves .select s 37 (.done 0 r 0) (fun t =>
      ptpSel t = e.arg0 ∧ ptFine t = ptFine s ∧ t.ptp.s = (domCnt s e.arg0 : Int) - ptFine s
      ∧ r = sCode 32 (clampInt (-2147483648) 2147483647 (roundDiv t.ptp.s (2 ^ 28)))
      ∧ rd t R.PTP_STEP_CNT_SWITCHES = (rd s R.PTP_STEP_CNT_SWITCHES + 1) % 2 ^ R.PTP_STEP_CNT_SWITCHES.width))
  ∧ (∀ s e, Goes s 37 0x40 e → e.arg0 = ptpSel s →
      Leaves .select s 37 (.done 0 (sCode 32 (clampInt (-2147483648) 2147483647 (roundDiv s.ptp.s (2 ^ 28)))) 0) (fun t => t = s))
  ∧ (∀ s e, Goes s 37 0x41 e →
    let d := e.arg0 % 2
    let u := put { s with ptp := { s.ptp with servo := s.ptp.servo.set d e.arg1 } } (if d = 0 then R.PTP_STATUS_D0_LOCK else R.PTP_STATUS_D1_LOCK) (bitOf e.arg0 1)
    (d = ptpSel s → bitOf e.arg0 1 = true → flag s R.PTP_STATUS_ACQ = false → Leaves .domState s 37 (.done 0 1 0) (fun t =>
      flag t R.PTP_STATUS_ACQ = true ∧ t.ptp.s = 0 ∧ t.ptp.d0 = s.ptp.d0 ∧ t.ptp.d1 = s.ptp.d1
      ∧ rd t R.PTP_STEP_CNT_STEPS = (rd s R.PTP_STEP_CNT_STEPS + 1) % 2 ^ R.PTP_STEP_CNT_STEPS.width))
    ∧ ((d ≠ ptpSel s ∨ bitOf e.arg0 1 = false ∨ flag s R.PTP_STATUS_ACQ = true) → Leaves .domState s 37 (.done 0 0 0) (fun t => t = autoFollow u
      ∧ domLock t d = bitOf e.arg0 1 ∧ t.ptp.servo = s.ptp.servo.set d e.arg1 ∧ (flag s R.PTP_STATUS_HOLDOVER = false → t.ptp.s = s.ptp.s))))
  ∧ (∀ s e, Goes s 37 0x42 e → memBad s e.addr e.len = false → e.arg0 % 2 = ptpSel s → flag s R.PTP_STATUS_ACQ = true → bitOf e.arg0 1 = true →
    Leaves .step s 37 (.done 0 0 0) (fun t => t.ptp.s = s.ptp.s + sInt 64 (fieldAt (memBytes s e.addr e.len) 0 8) * 2 ^ 28
      ∧ t.regs = (slewShow { s with ptp := t.ptp }).regs))
  ∧ (∀ s e, Goes s 37 0x42 e → memBad s e.addr e.len = false → ∃ u, u.regs = s.regs ∧ u.ptp.s = s.ptp.s
      ∧ domCnt u (e.arg0 % 2) = (((domCnt s (e.arg0 % 2) : Int) + sInt 64 (fieldAt (memBytes s e.addr e.len) 0 8) * 2 ^ 28) % (2 ^ 92)).toNat
      ∧ ((e.arg0 % 2 ≠ ptpSel s ∨ flag s R.PTP_STATUS_ACQ = false) → Leaves .step s 37 (.done 0 0 0) (fun t => t = u))
      ∧ (e.arg0 % 2 = ptpSel s → flag s R.PTP_STATUS_ACQ = true → bitOf e.arg0 1 = false → Leaves .step s 37 (.done 0 0 0) (fun t => t = ptStepped u 1)))
  ∧ (∀ s e, Goes s 37 0x43 e → memBad s e.addr e.len = false → bitOf e.arg0 0 = false → bitOf e.arg0 1 = false → Leaves .ptpTx s 37 (.done 0 0 0) (fun t => t = s))
  ∧ (∀ s e, Goes s 37 0x43 e → memBad s e.addr e.len = false → bitOf e.arg0 0 = true → portUp s false = true → bitOf e.arg0 1 = false →
    Leaves .ptpTx s 37 (.done 0 0 0) (fun t => ∃ m d, m = memBytes s e.addr e.len ∧ d = (msgDomain s m).getD (ptpSel s)
      ∧ t = ptpDeliver (ptpOut s false m) (ptpRecord (fineNs (domCnt s d) + 184) (ptNow s + 184) (decide (d = 1)) false true m)))
  ∧ (∀ s d, ptpRuns s = true → d ≤ 1 → domEn s d = true → ptpSel s = d → cfgU s 37 3 0 1 ≠ 1 → Gives (.syncLossTimeout d) s (fun t =>
      flag t R.PTP_STATUS_HOLDOVER = true ∧ domSync t d = false ∧ t.ptp = s.ptp))
  ∧ (∀ s, s.ptp.s = 0 → Gives .slewEnd s (fun t => t.ptp = s.ptp ∧ flag t R.PTP_STATUS_SLEWING = false))
  ∧ (∀ s, s.ptp.s ≠ 0 → ptpRuns s = true → ptpInc s (ptpSel s) * cfgU s 37 3 2 2 ≠ 0 → Gives .slewEnd s (fun t => t.ptp.s = 0 ∧ flag t R.PTP_STATUS_SLEWING = false))
  ∧ (∀ s, ptpRuns s = true → Gives .anchorPublish s (fun t => t.regs = s.regs ∧ t.ptp = s.ptp
      ∧ ∃ m, t.out.head? = some m ∧ m.kind = .anchor ∧ m.args.take 2 = [ptNow s, s.power.ticks % 2 ^ 32]))

/-! ### CAN -/

/-- A controller's rows: a received frame goes to the first object that matches, or is counted, and is lost where the crossing to the blocks is not whole; an FD frame where FD is off, and a protocol
exception where item 1 turns those off, is an error; an attempt begins with the pending object of highest priority; a frame sent is counted and its
request ends with a record, a lost arbitration keeps it; an error counts; TX_SET makes the object pending, TX_CANCEL ends a request that has not begun; RECOVER and the hold's end begin
the recovery, whose end and the integration's end bring the controller back. -/
def Obligations.CanRowsAct : Prop :=
  (∀ s n fr, canLive s n = true → crossOk s 8 = true → fr.fdf = false → (List.range 128).find? (objMatches (canFollow (rxGood (canNotAlone (bump s (R.CAN_RX_CNT_COUNT n)) n) n) n) n fr) = none →
    Gives (.canFrameReceive n fr) s (fun t => t = bump (canFollow (rxGood (canNotAlone (bump s (R.CAN_RX_CNT_COUNT n)) n) n) n) (R.CAN_NOMATCH_CNT_COUNT n)))
  ∧ (∀ s n fr k, canLive s n = true → crossOk s 8 = true → fr.fdf = false → (List.range 128).find? (objMatches (canFollow (rxGood (canNotAlone (bump s (R.CAN_RX_CNT_COUNT n)) n) n) n) n fr) = some k →
    objStl s n k = false → objDir s n k = 2 →
    Gives (.canFrameReceive n fr) s (fun t => t = imgWrite (canFollow (rxGood (canNotAlone (bump s (R.CAN_RX_CNT_COUNT n)) n) n) n) n k fr))
  ∧ (∀ s n fr, canLive s n = true → crossOk s 8 = false → fr.fdf = false →
    Gives (.canFrameReceive n fr) s (fun t => t = canFollow (rxGood (canNotAlone (bump s (R.CAN_RX_CNT_COUNT n)) n) n) n))
  ∧ (∀ s n fr, canLive s n = true → fr.fdf = true → canU s n 1 1 = 0 → exec (.canFrameReceive n fr) s = exec (.canReceiveError n .pxe) s)
  ∧ (∀ s n k, canLive s n = true → n < s.can.length → (canAt s n).attempt = none → canU s n 0 1 ≠ 1 → canPick s n = some k → Gives (.transmitAttempt n) s (fun t =>
      (canAt t n).attempt = some (k, false) ∧ flag t (R.CAN_STATUS_TX_BUSY n) = true ∧ ∀ j, j < 128 → objPend t n j = objPend s n j))
  ∧ (∀ s n k sof tv, canUp s n = true → (canAt s n).attempt = some (k, false) → canU s n 0 1 = 0 → (canAt s n).stopping = false → canU s n 14 1 = 0 →
    Gives (.attemptEnd n (.sent sof) tv) s (fun t => ∃ u v,
      u = put (canMod s n (fun c => { c with attempt := none })) (R.CAN_STATUS_TX_BUSY n) false
      ∧ v = emit (canNotAlone (bump u (R.CAN_TX_CNT_COUNT n)) n) .canFrame
          [n, (objFrame u n k sof).id, fflags (objFrame u n k sof).ide (objFrame u n k sof).fdf (objFrame u n k sof).brs (objFrame u n k sof).esi (objFrame u n k sof).rtr,
            (objFrame u n k sof).dlc] (frBytes (objFrame u n k sof))
      ∧ t = canAfter (objDone (canFollow (wr v (R.CAN_ECNT_TEC n) (rd v (R.CAN_ECNT_TEC n) - 1)) n) n k 2
          (ptNow (canFollow (wr v (R.CAN_ECNT_TEC n) (rd v (R.CAN_ECNT_TEC n) - 1)) n) - sof)) n))
  ∧ (∀ s n k tv, canUp s n = true → (canAt s n).attempt = some (k, false) → objFlag s n k 4 = false → (objAt s n k).next = none → canU s n 14 1 = 0 →
    Gives (.attemptEnd n .lost tv) s (fun t => t = canAfter (canAlone (put (canMod s n (fun c => { c with attempt := none })) (R.CAN_STATUS_TX_BUSY n) false) n false) n))
  ∧ (∀ s n k c code dp dom tv, canUp s n = true → (canAt s n).attempt = some (k, c) → Gives (.attemptEnd n (.error code dp dom) tv) s (fun t => (canAt t n).attempt = none))
  ∧ (∀ s n code dp add, n < 3 → canLive s n = true → canU s n 0 1 ≠ 1 → Gives (.canReceiveError n (.error code dp add)) s (fun t =>
      rd t (R.CAN_ECNT_RXEC n) = min 511 (rd s (R.CAN_ECNT_RXEC n) + add) % 2 ^ (R.CAN_ECNT_RXEC n).width
      ∧ rd t (R.CAN_LEC_CODE n) = code % 2 ^ (R.CAN_LEC_CODE n).width ∧ flag t (R.CAN_LEC_TX n) = false))
  ∧ (∀ s n, n < 3 → canLive s n = true → canU s n 2 1 = 1 → Gives (.canReceiveError n .pxe) s (fun t => canSt t n = 1 ∧ flag t (R.CAN_ERR_PXE n) = true))
  ∧ (∀ s n, canU s n 2 1 ≠ 1 → exec (.canReceiveError n .pxe) s = exec (.canReceiveError n (.error 2 false 1)) s)
  ∧ (∀ s n e, n < 3 → Goes s (38 + n) 0x40 e → n < s.can.length → objStl s n (e.arg0 % 128) = false → objDir s n (e.arg0 % 128) = 1 → canSt s n ≠ 0 → canU s n 0 1 ≠ 1 →
    memBad s e.addr e.len = false → (canAt s n).attempt = none → objPend s n (e.arg0 % 128) = false → Leaves (.txSet (38 + n)) s (38 + n) (.done 0 0 0) (fun t =>
      objPend t n (e.arg0 % 128) = true ∧ (e.arg0 % 128 < (canAt s n).objs.length → (objAt t n (e.arg0 % 128)).data = memBytes s e.addr e.len)))
  ∧ (∀ s n e, n < 3 → Goes s (38 + n) 0x41 e → objStl s n (e.arg0 % 128) = false → objDir s n (e.arg0 % 128) = 1 → (canAt s n).attempt = none →
    (objPend s n (e.arg0 % 128) = false → Leaves (.txCancel (38 + n)) s (38 + n) (.done 0 2 0) (fun t => t = s))
    ∧ (objPend s n (e.arg0 % 128) = true → Leaves (.txCancel (38 + n)) s (38 + n) (.done 0 0 0) (fun t => t = objDone s n (e.arg0 % 128) 3 (ptNow s))))
  ∧ (∀ s n e, n < 3 → Goes s (38 + n) 0x42 e → canSt s n = 4 → Leaves (.recover (38 + n)) s (38 + n) (.done 0 0 0) (fun t => canSt t n = 5))
  ∧ (∀ s n e, n < 3 → Goes s (38 + n) 0x42 e → canSt s n ≠ 4 → Leaves (.recover (38 + n)) s (38 + n) (.done 6 0 0) (fun t => t = s))
  ∧ (∀ s n, canUp s n = true → canSt s n = 4 → canU s n 3 1 = 1 → Gives (.busOffHoldExpiry n) s (fun t => canSt t n = 5))
  ∧ (∀ s n, canUp s n = true → canSt s n = 5 → Gives (.busOffRecoveryEnd n) s (fun t =>
      canSt t n = 2 ∧ rd t (R.CAN_ECNT_TEC n) = 0 ∧ rd t (R.CAN_ECNT_RXEC n) = 0))
  ∧ (∀ s n, canUp s n = true → canSt s n = 1 → Gives (.busIntegrationEnd n) s (fun t => canSt t n = canErrSt s n))

/-! ### Updates (UPD) -/

/-- Reception and forwarding: IMG_BEGIN answers the header's check, the slot, a reception under way and the storage, in that order, IMG_CHUNK writes the chunk due, IMG_END reads back, which ends in
VALID or BAD, and IMG_ABORT leaves the slot empty; without a reception they fail with 0x06; FORWARD and a frame of the ring act on the one transfer that they name, and what waits for an answer is sent again at most 5 times. -/
def Obligations.ImageRowsAct : Prop :=
  (∀ s e, Goes s 4 0x40 e → memBad s e.addr e.len = false →
    let h := memBytes s e.addr e.len
    (∀ c, hdrCause s h (hdrSigned h) = some c → Leaves .imgBegin s 4 (.done 0x40 0 c) (fun t => t = hdrRefuse s c updHost h))
    ∧ (hdrCause s h (hdrSigned h) = none → rxSlot s (hdrTarget h) = none → Leaves .imgBegin s 4 (.done 0x42 0 0) (fun t => t = s))
    ∧ (∀ k, hdrCause s h (hdrSigned h) = none → rxSlot s (hdrTarget h) = some k →
        (s.upd.rx.isSome = true → Leaves .imgBegin s 4 (.done 0x43 0 0) (fun t => t = s))
        ∧ (s.upd.rx = none → storTakes s = false → Leaves .imgBegin s 4 (.done 0x44 0 0) (fun t => t = errRise s R.UPD_ERR_STOR 0 0))
        ∧ (s.upd.rx = none → storTakes s = true → Leaves .imgBegin s 4 (.done 0 k 0) (fun t => t = rxBegin s k updHost 0 h))))
  ∧ (∀ s e r, Goes s 4 0x41 e → s.upd.rx = some r → r.src = updHost → r.verifying = false → e.arg0 = r.next → r.next < chunkCount (hdrLength (imgAt s r.slot).hdr) →
    e.len = chunkLen (hdrLength (imgAt s r.slot).hdr) r.next → memBad s e.addr e.len = false → storTakes s = true →
    Leaves .imgChunk s 4 (.done 0 (r.next + 1) 0) (fun t => t = fwdGo (rxWrite s r (memBytes s e.addr e.len))))
  ∧ (∀ s e r, Goes s 4 0x41 e → s.upd.rx = some r → r.src = updHost → r.verifying = false →
    (chunkCount (hdrLength (imgAt s r.slot).hdr) ≤ e.arg0 ∨ r.next < e.arg0 ∨ e.len ≠ chunkLen (hdrLength (imgAt s r.slot).hdr) e.arg0) →
    Leaves .imgChunk s 4 (.done 5 0 0) (fun t => t = s))
  ∧ (∀ s e r, Goes s 4 0x42 e → s.upd.rx = some r → r.src = updHost → r.verifying = false → r.next = chunkCount (hdrLength (imgAt s r.slot).hdr) →
    Leaves .imgEnd s 4 (.running r.slot) (fun t => t = { s with upd := { s.upd with rx := some { r with verifying := true } } }))
  ∧ (∀ s r, fullUp s = true → s.upd.rx = some r → r.verifying = true → r.src = updHost → storTakes (rxEnd s) = true → Gives (.imageVerified false) s (fun t =>
      t = if imgHashes (imgAt s r.slot).hdr (imgAt s r.slot).data then
        finishEntry (updReport (slotPut { rxEnd s with nv := { (rxEnd s).nv with imgs := (rxEnd s).nv.imgs.set r.slot { imgAt s r.slot with ok := true } } } r.slot slotValid)
          2 r.slot 0 r.src (imgAt s r.slot).hdr) 4 (Entry.runs 0x42) 0 r.slot 0
      else finishEntry (errRise (slotPut (rxEnd s) r.slot slotBad) R.UPD_ERR_HASH r.slot 0) 4 (Entry.runs 0x42) 0x41 0 0))
  ∧ (∀ s r, fullUp s = true → s.upd.rx = some r → r.verifying = true → r.src = updHost → storTakes (rxEnd (errRise s R.STOR_ERR_IMG_UE r.slot 0)) = true →
    Gives (.imageVerified true) s (fun t => t = finishEntry (errRise (slotPut (rxEnd (errRise s R.STOR_ERR_IMG_UE r.slot 0)) r.slot slotBad) R.UPD_ERR_HASH r.slot 0) 4
      (Entry.runs 0x42) 0x41 0 0))
  ∧ (∀ s e, s.upd.rx = none → (Goes s 4 0x41 e → Leaves .imgChunk s 4 (.done 6 0 0) (fun t => t = s)) ∧ (Goes s 4 0x42 e → Leaves .imgEnd s 4 (.done 6 0 0) (fun t => t = s))
      ∧ (Goes s 4 0x43 e → Leaves .imgAbort s 4 (.done 6 0 0) (fun t => t = s)))
  ∧ (∀ s e, Goes s 4 0x44 e → slotSt s e.arg0 ≠ slotValid → slotSt s e.arg0 ≠ slotRunning → Leaves .forward s 4 (.done 6 0 0) (fun t => t = s))
  ∧ (∀ s e r, Goes s 4 0x43 e → s.upd.rx = some r → r.src = updHost → r.verifying = false → Leaves .imgAbort s 4 (.done 0 r.slot 0) (fun t => t = rxDrop s r 13))
  ∧ (∀ s e, Goes s 4 0x44 e → s.upd.fwd = none → (slotSt s e.arg0 = slotValid ∨ slotSt s e.arg0 = slotRunning) →
    Leaves .forward s 4 (.running e.arg0) (fun t => t = fwdStart s e.arg0 e.arg1))
  ∧ (∀ s src p, fullUp s = true → 32 ≤ p.length →
      (∀ k, fieldAt p 0 1 = 1 → s.upd.rx = none → cfgU s 4 1 4 1 = 1 → cfgU s 4 1 0 1 ≠ 1 → ((p.drop 32).take 512).length = 512 →
        rxSlot s (hdrTarget ((p.drop 32).take 512)) = some k → storTakes s = true → ∃ h, h = (p.drop 32).take 512
          ∧ exec (.offer src p) s = .next (match hdrCause s h (hdrSigned h) with
            | some c => updAbout (hdrRefuse s c src h) src 3 (updXfer p) 0 0 c h []
            | none => updAbout (updReport (rxBegin s k src (updXfer p) h) 1 k 0 src h) src 2 (updXfer p) 0 0 0 h []))
      ∧ (∀ f, fieldAt p 0 1 = 2 → fwdFor s src p = some f → f.accepted = false →
          exec (.accept src p) s = .next (fwdGo { s with upd := { s.upd with fwd := some { f with accepted := true, unacked := [] } } }))
      ∧ (∀ f, fieldAt p 0 1 = 3 → fwdFor s src p = some f → exec (.refuse src p) s = .next (fwdEnd s f (fieldAt p 7 1)))
      ∧ (∀ r, fieldAt p 0 1 = 4 → s.upd.rx = some r → r.src = src → r.xfer = updXfer p → r.verifying = false → updChunk p < chunkCount (hdrLength (imgAt s r.slot).hdr) →
          (let want := min 1024 (chunkLen (hdrLength (imgAt s r.slot).hdr) (updChunk p) - 1024 * fieldAt p 6 1)
           want ≠ 0 ∧ ((p.drop 32).take (fieldAt p 8 2)).length = want) → r.next ≤ updChunk p →
          r.frags.any (fun f => decide (f.1 = updChunk p) && decide (f.2.1 = fieldAt p 6 1)) = false →
          exec (.data src p) s = .next (rxDrain 8 { s with upd := { s.upd with rx := some { r with
            frags := r.frags ++ [(updChunk p, fieldAt p 6 1, (p.drop 32).take (fieldAt p 8 2))] } } }))
      ∧ (fieldAt p 0 1 = 4 → s.upd.rx = none → exec (.data src p) s = .next (bump s R.UPD_RETRY_CNT_COUNT))
      ∧ (∀ f, fieldAt p 0 1 = 5 → fwdFor s src p = some f → f.done = true → updChunk p = 0xFFFF → exec (.chunkAck src p) s = .next (fwdEnd s f 0))
      ∧ (∀ f, fieldAt p 0 1 = 5 → fwdFor s src p = some f → f.done = false → f.accepted = true → f.unacked.any (fun u => decide (u.1 = updChunk p)) = true →
          exec (.chunkAck src p) s = .next (fwdGo { s with upd := { s.upd with fwd := some { f with
            unacked := f.unacked.filter (fun u => decide (u.1 ≠ updChunk p)), acked := f.acked + 1 } } }))
      ∧ (∀ f, fieldAt p 0 1 = 6 → fwdFor s src p = some f → f.done = false → f.accepted = true → exec (.chunkNak src p) s = .next (fwdRetry s (updChunk p)))
      ∧ (∀ r, fieldAt p 0 1 = 7 → s.upd.rx = some r → r.src = src → r.xfer = updXfer p → r.next = chunkCount (hdrLength (imgAt s r.slot).hdr) →
          exec (.done src p) s = .next { s with upd := { s.upd with rx := some { r with verifying := true } } })
      ∧ (∀ r, fieldAt p 0 1 = 8 → s.upd.fwd = none → s.upd.rx = some r → r.src = src → r.xfer = updXfer p → exec (.cancel src p) s = .next (rxDrop s r (fieldAt p 7 1)))
      ∧ (fieldAt p 0 1 = 9 → exec (.query src p) s = .next (updSend s src 10 (updXfer p) 0 0 0 (sysVersion s) [] [])))
  ∧ (∀ s f c n, fullUp s = true → s.upd.fwd = some f → f.unacked.find? (fun u => decide (u.1 = c)) = some (c, n) → 5 ≤ n → Gives (.chunkRetryTimeout c) s (fun t =>
      t = fwdEnd (updAbout s f.dst 8 f.xfer 0 0 13 (imgAt s f.slot).hdr []) f 13))
  ∧ (∀ s f c n, fullUp s = true → s.upd.fwd = some f → f.unacked.find? (fun u => decide (u.1 = c)) = some (c, n) → n < 5 → c ≠ 0xFFFF → Gives (.chunkRetryTimeout c) s (fun t => ∃ g,
      g = { f with unacked := f.unacked.map (fun v => if v.1 = c then (v.1, v.2 + 1) else v) }
      ∧ t = fwdChunk (bump { s with upd := { s.upd with fwd := some g } } R.UPD_RETRY_CNT_COUNT) g c))

/-- Activation of an image: ACTIVATE of a unit outside a pair begins the handover to the other cluster, and of a SYSTEM slot in a pair asks the partner's version; READY and SWAP take it on, COMMIT makes the
image RUNNING, ROLLBACK and a time that runs out undo it; the hold window opens, ends on the new firmware, and reverts, also after a trip inside it; a partner that does not answer, or whose version does
not suit, ends ACTIVATE, one that suits lets the active unit hand over and the standby restart into the slot. -/
def Obligations.ActivationRowsAct : Prop :=
  (∀ s e, Goes s 5 0x40 e → s.upd.ho = none → s.upd.query = none → slotSt s e.arg0 = slotValid → setPair s = false → storTakes s = true →
    Leaves .activate s 5 (.running e.arg0) (fun t => rd t R.UPD_STATUS_HO_STEP = 1 ∧ flag t R.UPD_STATUS_HO_RUN = true ∧ rd t R.UPD_STATUS_HO_KIND = 1
      ∧ t.upd.ho = some { slot := e.arg0, pair := false, old := engineOwner s, ready := false, swapped := false, windowDone := false, back := false }))
  ∧ (∀ s e, Goes s 5 0x40 e → setPair s = false → (s.upd.ho.isSome = true ∨ s.upd.query.isSome = true) → Leaves .activate s 5 (.done 0x43 0 0) (fun t => t = s))
  ∧ (∀ s e, Goes s 5 0x40 e → s.upd.ho = none → s.upd.query = none → slotSt s e.arg0 = slotValid → setPair s = true → slotTarget e.arg0 ≠ 4 → storTakes s = true →
    (role s = roleActive ∨ role s = roleStandby) → Leaves .activate s 5 (.running (e.arg0 + 8 * (e.arg1 % 2))) (fun t => t.upd.query = some e.arg0))
  ∧ (∀ s e, Goes s 5 0x40 e → setPair s = true → role s ≠ roleStandby → role s ≠ roleActive → Leaves .activate s 5 (.done 6 0 0) (fun t => t = s))
  ∧ (∀ s e, Goes s 5 0x40 e → setPair s = false → s.upd.ho = none → s.upd.query = none → slotSt s e.arg0 ≠ slotValid → Leaves .activate s 5 (.done 0x49 0 0) (fun t => t = s))
  ∧ (∀ s e h, Goes s 5 0x41 e → readyWaits s = true → s.upd.ho = some h → h.pair = false → h.ready = false → clusterOf e.level = some (1 - h.old) →
    Leaves .ready s 5 (.done 0 0 0) (fun t => t = readyTake s h ∧ t.upd.ho = some { h with ready := true } ∧ rd t R.UPD_STATUS_HO_STEP = 3))
  ∧ (∀ s e h, Goes s 5 0x41 e → readyWaits s = true → s.upd.ho = some h → (h.pair = true ∨ h.ready = true ∨ clusterOf e.level ≠ some (1 - h.old)) →
    Leaves .ready s 5 (.done 6 0 0) (fun t => t = s))
  ∧ (∀ s h, readyWaits s = false → s.upd.ho = some h → h.pair = false → h.ready = false → fullUp s = true → Gives .ready s (fun t =>
      t.upd.ho = some { h with ready := true } ∧ rd t R.UPD_STATUS_HO_STEP = 3 ∧ t.qps = s.qps))
  ∧ (∀ s e h, Goes s 5 0x42 e → s.upd.ho = some h → h.pair = false → h.ready = true → h.swapped = false → clusterOf e.level = some h.old → Leaves .swap s 5 (.done 0 (1 - h.old) 0) (fun t =>
      t.upd.ho = some { h with swapped := true, windowDone := !newSafety s h.slot } ∧ rd t R.UPD_STATUS_HO_STEP = (if newSafety s h.slot then 5 else 6)
      ∧ rd t R.QMGR_OWNER0_OWNER = (if h.old = 1 then 0 else 0xFFFFFFFF)))
  ∧ (∀ s e h, Goes s 5 0x43 e → s.upd.ho = some h → h.pair = false → h.swapped = true → h.back = false → h.windowDone = true → clusterOf e.level = some (1 - h.old) → storTakes s = true →
    Leaves .commit s 5 (.done 0 h.slot 0) (fun t => t = updHoEnd (clusterReset (updCommitSlot s h.slot) h.old) ∧ t.upd.ho = none))
  ∧ (∀ s e h, Goes s 5 0x43 e → s.upd.ho = some h → h.pair = false → h.swapped = true → h.back = false → h.windowDone = false → clusterOf e.level = some (1 - h.old) →
    Leaves .commit s 5 (.running h.slot) (fun t => t = s))
  ∧ (∀ s e h, Goes s 5 0x44 e → s.upd.ho = some h → h.pair = false → h.swapped = true → flag s R.UPD_STATUS_HOLD_WIN = false → Leaves .rollback s 5 (.done 0 h.slot 0) (fun t =>
      t = updRollback s h 6))
  ∧ (∀ s, windowDue s = true → windowMay s = true → Gives .holdWindowOpen s (fun t =>
      flag t R.UPD_STATUS_HOLD_WIN = true ∧ flag t R.SAFE_STATUS_HOLD_WIN = true ∧ t.upd.winFrom = some s.power.ticks))
  ∧ (∀ s, (windowMay s = false ∨ windowDue s = false) → exec .holdWindowOpen s = .next s)
  ∧ (∀ s, flag s R.UPD_STATUS_HOLD_WIN = true → windowCheck s = true → windowUs s < 38000 → Gives .holdWindowEnd s (fun t =>
      t.upd.spSlot = s.upd.spOther ∧ t.upd.winFrom = none))
  ∧ (∀ s, flag s R.UPD_STATUS_HOLD_WIN = true → (windowCheck s = false ∨ 38000 ≤ windowUs s) → exec .holdWindowEnd s = exec .holdWindowRevert s)
  ∧ (∀ s h, flag s R.UPD_STATUS_HOLD_WIN = true → s.upd.ho = some h → h.back = false → Gives .holdWindowRevert s (fun t => ∃ u v, u = windowShut s
      ∧ v = errRise (bump { u with upd := { u.upd with winTrip := false } } R.UPD_ROLLBACK_CNT_REVERT) R.UPD_ERR_SP_REVERT 0 0 ∧ t = updRollback v h 0x46))
  ∧ (∀ s h, flag s R.UPD_STATUS_HOLD_WIN = false → s.upd.winTrip = true → s.upd.ho = some h → h.back = false →
    let v := errRise (bump { s with upd := { s.upd with winTrip := false } } R.UPD_ROLLBACK_CNT_REVERT) R.UPD_ERR_SP_REVERT 0 0
    exec .holdWindowRevert s = .next (updRollback v h 0x46) ∧ exec .holdWindowEnd s = .next (updRollback v h 0x46) ∧ exec .handoverTimeout s = .next (updRollback v h 0x46))
  ∧ (∀ s, flag s R.UPD_STATUS_HOLD_WIN = false → s.upd.winTrip = false → exec .holdWindowRevert s = .next s ∧ exec .holdWindowEnd s = .next s)
  ∧ (∀ s h, s.upd.ho = some h → h.pair = false → h.back = false → s.upd.winTrip = false → flag s R.UPD_STATUS_HOLD_WIN = false → Gives .handoverTimeout s (fun t =>
      t = if h.swapped then updRollback s h 6 else updHoAbort s h))
  ∧ (∀ s, s.upd.query.isSome = true → Gives .peerQueryTimeout s (fun t => t = finishEntry (updHoEnd s) 5 (Entry.runs 0x40) 0x48 0 0 ∧ t.upd.query = none))
  ∧ (∀ s src p k, fullUp s = true → 32 ≤ p.length → fieldAt p 0 1 = 10 → s.upd.query = some k → src = cfgU s 32 1 4 2 → fieldAt p 0x0C 4 < hdrPairMin (imgAt s k).hdr →
    Gives (.info src p) s (fun t => t = finishEntry (updHoEnd s) 5 (Entry.runs 0x40) 0x47 0 0 ∧ t.upd.query = none))
  ∧ (∀ s src p k, fullUp s = true → 32 ≤ p.length → fieldAt p 0 1 = 10 → s.upd.query = some k → src = cfgU s 32 1 4 2 → hdrPairMin (imgAt s k).hdr ≤ fieldAt p 0x0C 4 →
    hasEntry s 5 (fun e => Entry.runs 0x40 e && decide (8 ≤ e.note)) = false → role s = roleActive → s.red.hoWhy = 0 →
    Gives (.info src p) s (fun t => t.red.hoWhy = 2 ∧ rd t R.RED_STATUS_HO_STEP = 1 ∧ t.upd.await = some k ∧ t.upd.query = none))
  ∧ (∀ s src p k, fullUp s = true → 32 ≤ p.length → fieldAt p 0 1 = 10 → s.upd.query = some k → src = cfgU s 32 1 4 2 → hdrPairMin (imgAt s k).hdr ≤ fieldAt p 0x0C 4 →
    role s = roleStandby → Gives (.info src p) s (fun t => ∃ u, u = bootStore { s with upd := { s.upd with query := none } } (fun b => { b with st := b.st.set k slotTrial, trials := 0 })
      ∧ t = updRestart (finishEntry u 5 (Entry.runs 0x40) 0 k 0)))

/-- Two frames over every row. A row outside powerRow leaves the power state, the supply's marks, the operating time and the ticks as they were; a row
of quietRow leaves every byte of host memory as it was. -/
def Obligations.OtherRowsKeepPowerAndHostMemory : Prop :=
  (∀ (c : Instr) (s t : State), powerRow c = false → exec c s = .next t → t.power = s.power)
  ∧ (∀ (c : Instr) (s t : State), quietRow c = true → exec c s = .next t → t.mem = s.mem)
end

