-- ==== Sys2Proof/Laws/Entries.lean ====
section
/-! SUPPORT. An entry that starts now: the command runs its action and leaves the entry as the action answers. -/

namespace Sys2Proof.Laws

open Sys2Proof.Machine

/-- What makes an entry start now, taken apart. -/
theorem entryGoes_cases {s : State} {qp opc : Nat} {e : Entry} (h : entryGoes s qp opc = some e) :
    ∃ i, frontIdx (qpAt s qp).entries = some i ∧ (qpAt s qp).entries[i]? = some e ∧ hostReach s = true ∧ e.opc = opc ∧ e.st = .ready
      ∧ whenOf s e = .now := by
  unfold entryGoes at h
  split at h
  · cases h
  · rename_i i hi
    split at h
    · cases h
    · rename_i e' he'
      split at h
      · rename_i hc
        cases h
        simp only [Bool.and_eq_true, decide_eq_true_eq] at hc
        exact ⟨i, hi, he', hc.1.1.1, hc.1.1.2, hc.1.2, hc.2⟩
      · cases h

/-- An entry that goes runs its action; MARK besides starts only at the front. -/
theorem runEntry_goes {s : State} {qp opc : Nat} {e : Entry} (h : Goes s qp opc e) (act : Entry → State → State × EntrySt)
    (hm : opc = opMark → frontIdx (qpAt s qp).entries = some 0) :
    runEntry s qp opc act = setFront (act e s).1 qp (act e s).2 := by
  obtain ⟨hg, hc, hq⟩ := h
  obtain ⟨i, hi, he, hr, ho, hs, hw⟩ := entryGoes_cases hg
  have hmark : (decide (opc = opMark) && decide (i ≠ 0)) = false := by
    by_cases hx : opc = opMark
    · have := hm hx
      rw [hi] at this
      simp at this
      simp [this]
    · simp [hx]
  have hcm : (opCommands qp opc && !commands s) = false := by
    cases hx : opCommands qp opc
    · rfl
    · simp [hc hx]
  unfold runEntry
  simp only [hi, he, hr, ho, hs, hw, hmark, hcm, hq]
  simp

/-- The same for every opcode but MARK. -/
theorem runEntry_goes' {s : State} {qp opc : Nat} {e : Entry} (h : Goes s qp opc e) (act : Entry → State → State × EntrySt)
    (hm : opc ≠ opMark := by decide) : runEntry s qp opc act = setFront (act e s).1 qp (act e s).2 :=
  runEntry_goes h act (fun hx => absurd hx hm)

end Sys2Proof.Laws
end

