-- ==== Sys2Proof/Laws/Fields.lean ====
section
/-! SUPPORT. Reading back what was written: sparse maps, register words, and fields of one register or of two. -/

namespace Sys2Proof.Laws

open Sys2Proof.Machine

/-! ### Sparse maps -/

theorem mapGet_mapPut {α : Type} (d : Nat → α) (m : List (Nat × α)) (a : Nat) (v : α) (b : Nat) :
    mapGet d (mapPut m a v) b = if a = b then v else mapGet d m b := by
  induction m with
  | nil => rfl
  | cons e t ih =>
    obtain ⟨k, x⟩ := e
    unfold mapPut
    split
    · simp [mapGet]
    · split
      · rename_i h
        subst h
        simp only [mapGet]
        split <;> simp_all
      · rename_i h1 h2
        simp only [mapGet, ih]
        by_cases hk : k = b
        · subst hk; simp [Ne.symm h2]
        · simp [hk]

theorem mapGet_filter_ne {α : Type} (d : Nat → α) (m : List (Nat × α)) (a b : Nat) :
    mapGet d (m.filter (fun e => decide (e.1 ≠ a))) b = if a = b then d b else mapGet d m b := by
  induction m with
  | nil => simp [mapGet]
  | cons e t ih =>
    obtain ⟨k, x⟩ := e
    rw [List.filter_cons]
    by_cases hk : k = a
    · subst hk
      simp only [ne_eq, not_true_eq_false, decide_false, Bool.false_eq_true, if_false, ih, mapGet]
      split <;> simp_all
    · simp only [ne_eq, hk, not_false_eq_true, decide_true, if_true, mapGet]
      by_cases hb : k = b
      · subst hb; simp [Ne.symm hk]
      · simpa [hb] using ih

/-- A key reads as what was last written to it; every other key reads as before. -/
theorem mapGet_mapSet {α : Type} [DecidableEq α] (d : Nat → α) (m : List (Nat × α)) (a : Nat) (v : α) (b : Nat) :
    mapGet d (mapSet d m a v) b = if a = b then v else mapGet d m b := by
  unfold mapSet
  split
  · rename_i h
    rw [mapGet_filter_ne]
    split <;> simp_all
  · exact mapGet_mapPut d m a v b

/-! ### Register words -/

theorem regGet_regSet (s : State) (a b : Nat) (w : Word) : regGet (regSet s a w) b = if a = b then w else regGet s b := mapGet_mapSet ..
@[simp] theorem regGet_regSet_self (s : State) (a : Nat) (w : Word) : regGet (regSet s a w) a = w := by simp [regGet_regSet]
theorem regGet_regSet_ne (s : State) (a b : Nat) (w : Word) (h : a ≠ b) : regGet (regSet s a w) b = regGet s b := by simp [regGet_regSet, h]

/-! ### Fields -/

theorem fldSet_toNat_testBit (w : Word) (lo width v i : Nat) (hi : i < 32) :
    (fldSet w lo width v).toNat.testBit i = if lo ≤ i ∧ i < lo + width then v.testBit (i - lo) else w.toNat.testBit i := by
  have key : ∀ x : Word, x.toNat.testBit i = x.getLsbD i := fun x => rfl
  rw [key, key]
  unfold fldSet
  simp only [BitVec.getLsbD_or, BitVec.getLsbD_and, BitVec.getLsbD_not, BitVec.getLsbD_ofNat, Nat.testBit_shiftLeft, Nat.testBit_mod_two_pow,
    Nat.testBit_two_pow_sub_one, hi, decide_true, Bool.true_and]
  by_cases h1 : lo ≤ i
  · by_cases h2 : i < lo + width
    · have : i - lo < width := by omega
      simp [h1, h2, this]
    · have : ¬ (i - lo < width) := by omega
      simp [h1, h2, this]
  · simp [h1]

/-- A field reads as what was last written to it, as far as it is wide. -/
theorem fldGet_fldSet_self (w : Word) (lo width v : Nat) (hw : lo + width ≤ 32) : fldGet (fldSet w lo width v) lo width = v % 2 ^ width := by
  apply Nat.eq_of_testBit_eq
  intro i
  unfold fldGet
  rw [Nat.testBit_mod_two_pow, Nat.testBit_mod_two_pow, Nat.testBit_shiftRight]
  by_cases h : i < width
  · rw [fldSet_toNat_testBit _ _ _ _ _ (by omega)]
    simp [h]
  · simp [h]

/-- A field of the same register that shares no bit with the written one reads as before. -/
theorem fldGet_fldSet_ne (w : Word) (lo width v l2 w2 : Nat) (h2 : l2 + w2 ≤ 32) (h : lo + width ≤ l2 ∨ l2 + w2 ≤ lo) :
    fldGet (fldSet w lo width v) l2 w2 = fldGet w l2 w2 := by
  apply Nat.eq_of_testBit_eq
  intro i
  unfold fldGet
  rw [Nat.testBit_mod_two_pow, Nat.testBit_mod_two_pow, Nat.testBit_shiftRight, Nat.testBit_shiftRight]
  by_cases hi : i < w2
  · rw [fldSet_toNat_testBit _ _ _ _ _ (by omega)]
    have : ¬ (lo ≤ l2 + i ∧ l2 + i < lo + width) := by omega
    simp [this]
  · simp [hi]

/-- A field lies within its register. -/
abbrev Fits (f : Fld) : Prop := f.lo + f.width ≤ 32

/-- Two fields share no bit: they lie in different registers or in different bits of one. -/
abbrev Apart (f g : Fld) : Prop := f.addr ≠ g.addr ∨ (Fits f ∧ Fits g ∧ (f.lo + f.width ≤ g.lo ∨ g.lo + g.width ≤ f.lo))

theorem rd_wr_self (s : State) (f : Fld) (v : Nat) (h : Fits f) : rd (wr s f v) f = v % 2 ^ f.width := by
  unfold rd wr
  rw [regGet_regSet_self]
  exact fldGet_fldSet_self _ _ _ _ h
theorem rd_wr_ne (s : State) (f g : Fld) (v : Nat) (h : Apart f g) : rd (wr s f v) g = rd s g := by
  unfold rd wr
  rw [regGet_regSet]
  split
  · rename_i he
    rcases h with h | ⟨_, h2, h3⟩
    · exact absurd he h
    · rw [fldGet_fldSet_ne _ _ _ _ _ _ h2 h3, he]
  · rfl

theorem regGet_wr_ne (s : State) (f : Fld) (v : Nat) (a : Nat) (h : f.addr ≠ a) : regGet (wr s f v) a = regGet s a := by
  unfold wr
  exact regGet_regSet_ne _ _ _ _ h

theorem rd_regSet_ne (s : State) (a : Nat) (w : Word) (g : Fld) (h : a ≠ g.addr) : rd (regSet s a w) g = rd s g := by
  unfold rd
  rw [regGet_regSet_ne _ _ _ _ h]
theorem flag_regSet_ne (s : State) (a : Nat) (w : Word) (g : Fld) (h : a ≠ g.addr) : flag (regSet s a w) g = flag s g := by
  unfold flag
  rw [rd_regSet_ne _ _ _ _ h]

theorem rd_put_ne (s : State) (f g : Fld) (b : Bool) (h : Apart f g) : rd (put s f b) g = rd s g := rd_wr_ne s f g _ h
theorem rd_bump_ne (s : State) (f g : Fld) (h : Apart f g) : rd (bump s f) g = rd s g := rd_wr_ne s f g _ h
theorem rd_bumpBy_ne (s : State) (f g : Fld) (n : Nat) (h : Apart f g) : rd (bumpBy s f n) g = rd s g := rd_wr_ne s f g _ h
theorem rd_wrS_ne (s : State) (f g : Fld) (v : Int) (h : Apart f g) : rd (wrS s f v) g = rd s g := rd_wr_ne s f g _ h
theorem rd_putBit_ne (s : State) (f g : Fld) (i : Nat) (b : Bool) (h : Apart f g) : rd (putBit s f i b) g = rd s g := rd_wr_ne s f g _ h
theorem rd_bumpSat_ne (s : State) (f g : Fld) (h : Apart f g) : rd (bumpSat s f) g = rd s g := by
  unfold bumpSat
  split
  · exact rd_wr_ne s f g _ h
  · rfl

theorem rd_put_self (s : State) (f : Fld) (b : Bool) (h : Fits f) (hw : 0 < f.width) : rd (put s f b) f = b2n b := by
  unfold put
  rw [rd_wr_self _ _ _ h]
  refine Nat.mod_eq_of_lt ?_
  have : 1 < 2 ^ f.width := Nat.one_lt_two_pow (by omega)
  cases b <;> simp [b2n, this]
theorem rd_bump_self (s : State) (f : Fld) (h : Fits f) : rd (bump s f) f = (rd s f + 1) % 2 ^ f.width := rd_wr_self s f _ h
theorem rd_lt (s : State) (f : Fld) : rd s f < 2 ^ f.width := Nat.mod_lt _ (by positivity)

theorem flag_put_self (s : State) (f : Fld) (b : Bool) (h : Fits f) (hw : 0 < f.width) : flag (put s f b) f = b := by
  unfold flag
  rw [rd_put_self s f b h hw]
  cases b <;> rfl
theorem flag_wr_ne (s : State) (f g : Fld) (v : Nat) (h : Apart f g) : flag (wr s f v) g = flag s g := by
  unfold flag
  rw [rd_wr_ne _ _ _ _ h]
theorem flag_put_ne (s : State) (f g : Fld) (b : Bool) (h : Apart f g) : flag (put s f b) g = flag s g := flag_wr_ne s f g _ h
theorem flag_bump_ne (s : State) (f g : Fld) (h : Apart f g) : flag (bump s f) g = flag s g := flag_wr_ne s f g _ h

/-! ### Bits of a field -/

theorem testBit_clear (x i : Nat) (h : x.testBit i = true) (j : Nat) : (x - 2 ^ i).testBit j = if j = i then false else x.testBit j := by
  obtain ⟨q, r, hr, rfl⟩ : ∃ q r, r < 2 ^ i ∧ x = 2 ^ i * (2 * q + 1) + r := by
    refine ⟨x / 2 ^ i / 2, x % 2 ^ i, Nat.mod_lt _ (by positivity), ?_⟩
    have h1 : x / 2 ^ i % 2 = 1 := by
      rw [Nat.testBit_eq_decide_div_mod_eq] at h
      simpa using h
    have h2 : 2 * (x / 2 ^ i / 2) + 1 = x / 2 ^ i := by omega
    rw [h2]
    exact (Nat.div_add_mod x (2 ^ i)).symm
  have e : 2 ^ i * (2 * q + 1) + r - 2 ^ i = 2 ^ i * (2 * q) + r := by
    rw [Nat.mul_add]
    omega
  rw [e, Nat.testBit_two_pow_mul_add _ hr, Nat.testBit_two_pow_mul_add _ hr]
  by_cases h1 : j < i
  · simp [h1, Nat.ne_of_lt h1]
  · by_cases h2 : j = i
    · subst h2
      simp
    · simp only [h1, h2, if_false]
      obtain ⟨m, hm⟩ : ∃ m, j - i = m + 1 := ⟨j - i - 1, by omega⟩
      rw [hm, Nat.testBit_succ, Nat.testBit_succ]
      congr 1
      omega

theorem testBit_setBit (x i : Nat) (b : Bool) (j : Nat) : (setBit x i b).testBit j = if j = i then b else x.testBit j := by
  unfold setBit
  cases b
  · simp only [Bool.false_eq_true, if_false]
    split
    · rename_i h
      rw [Nat.one_shiftLeft, testBit_clear x i h]
    · rename_i h
      split
      · rename_i hj; subst hj; simpa using h
      · rfl
  · simp only [if_true, Nat.testBit_or, Nat.one_shiftLeft, Nat.testBit_two_pow]
    by_cases h : j = i
    · subst h; simp
    · simp [h, Ne.symm h]

theorem bitIn_wr_ne (s : State) (f g : Fld) (v i : Nat) (h : Apart f g) : bitIn (wr s f v) g i = bitIn s g i := by
  unfold bitIn
  rw [rd_wr_ne _ _ _ _ h]
theorem bitIn_putBit_ne (s : State) (f g : Fld) (i j : Nat) (b : Bool) (h : Apart f g) : bitIn (putBit s f i b) g j = bitIn s g j :=
  bitIn_wr_ne _ _ _ _ _ h
theorem bitIn_putBit (s : State) (f : Fld) (i j : Nat) (b : Bool) (h : Fits f) (hj : j < f.width) :
    bitIn (putBit s f i b) f j = if j = i then b else bitIn s f j := by
  unfold bitIn putBit
  rw [rd_wr_self _ _ _ h, Nat.testBit_mod_two_pow, testBit_setBit]
  simp [hj]
theorem bitIn_putBit_self (s : State) (f : Fld) (i : Nat) (b : Bool) (h : Fits f) (hi : i < f.width) : bitIn (putBit s f i b) f i = b := by
  rw [bitIn_putBit _ _ _ _ _ h hi, if_pos rfl]

end Sys2Proof.Laws
end

