-- ==== Sys2Proof/Laws/KeepOps.lean ====
section
/-! SUPPORT. What every operation of `Machine/Ops.lean` leaves alone: the queue of waiting commands, and the canonical form of host memory. -/

namespace Sys2Proof.Laws

open Sys2Proof.Machine

/-! ### Conditionals and folds -/

@[simp ↓] theorem ite_pending {c : Prop} [Decidable c] (a b : State) : (if c then a else b).pending = if c then a.pending else b.pending := by
  split <;> rfl
@[simp ↓] theorem ite_mem {c : Prop} [Decidable c] (a b : State) : (if c then a else b).mem = if c then a.mem else b.mem := by
  split <;> rfl
@[simp ↓] theorem ite_fst {α β : Type} {c : Prop} [Decidable c] (a b : α × β) : (if c then a else b).1 = if c then a.1 else b.1 := by
  split <;> rfl
@[simp ↓] theorem ite_snd {α β : Type} {c : Prop} [Decidable c] (a b : α × β) : (if c then a else b).2 = if c then a.2 else b.2 := by
  split <;> rfl
@[simp ↓] theorem wf_ite {c : Prop} [Decidable c] (a b : List (Nat × Byte)) :
    (Memory.wf (if c then a else b) = true) ↔ ((c → Memory.wf a = true) ∧ (¬c → Memory.wf b = true)) := by
  split <;> simp [*]

@[simp ↓] theorem foldl_pending {α : Type} (f : State → α → State) (hf : ∀ s x, (f s x).pending = s.pending) (l : List α) (s : State) :
    (l.foldl f s).pending = s.pending := by
  induction l generalizing s with
  | nil => rfl
  | cons x t ih => simp [ih, hf]
@[simp ↓] theorem foldl_mem {α : Type} (f : State → α → State) (hf : ∀ s x, Memory.wf s.mem = true → Memory.wf (f s x).mem = true) (l : List α) (s : State)
    (h : Memory.wf s.mem = true) : Memory.wf (l.foldl f s).mem = true := by
  induction l generalizing s with
  | nil => exact h
  | cons x t ih => exact ih _ (hf _ _ h)
theorem foldl_snd_pending {α β : Type} (f : β × State → α → β × State) (hf : ∀ r x, (f r x).2.pending = r.2.pending) (l : List α) (r : β × State) :
    (l.foldl f r).2.pending = r.2.pending := by
  induction l generalizing r with
  | nil => rfl
  | cons x t ih => simp [ih, hf]
theorem foldl_snd_mem {α β : Type} (f : β × State → α → β × State) (hf : ∀ r x, Memory.wf r.2.mem = true → Memory.wf (f r x).2.mem = true)
    (l : List α) (r : β × State) (h : Memory.wf r.2.mem = true) : Memory.wf (l.foldl f r).2.mem = true := by
  induction l generalizing r with
  | nil => exact h
  | cons x t ih => exact ih _ (hf _ _ h)

/-! ### The canonical form -/

theorem mapWf_weaken {α : Type} [DecidableEq α] (d : Nat → α) (m : List (Nat × α)) (k : Nat) (h : mapWf d (some k) m = true) :
    mapWf d none m = true := by
  cases m with
  | nil => rfl
  | cons e t => simp [mapWf] at h ⊢; exact ⟨h.1.2, h.2⟩
theorem mapWf_lower {α : Type} [DecidableEq α] (d : Nat → α) (m : List (Nat × α)) (j k : Nat) (hjk : j ≤ k) (h : mapWf d (some k) m = true) :
    mapWf d (some j) m = true := by
  cases m with
  | nil => rfl
  | cons e t => simp [mapWf] at h ⊢; exact ⟨⟨by omega, h.1.2⟩, h.2⟩
theorem mapPut_wf {α : Type} [DecidableEq α] (d : Nat → α) (m : List (Nat × α)) (a : Nat) (v : α) (hv : v ≠ d a) (lo : Option Nat)
    (hlo : ∀ l, lo = some l → l < a) (h : mapWf d lo m = true) : mapWf d lo (mapPut m a v) = true := by
  induction m generalizing lo with
  | nil =>
    cases lo <;> simp_all [mapPut, mapWf]
  | cons e t ih =>
    obtain ⟨k, x⟩ := e
    simp only [mapWf, Bool.and_eq_true] at h
    unfold mapPut
    split
    · rename_i hak
      simp only [mapWf, Bool.and_eq_true, decide_eq_true_eq]
      refine ⟨⟨?_, hv⟩, ⟨hak, ?_⟩, h.2⟩
      · cases lo <;> simp_all
      · simpa using h.1.2
    · split
      · rename_i hak hk
        subst hk
        simp only [mapWf, Bool.and_eq_true, decide_eq_true_eq]
        exact ⟨⟨h.1.1, hv⟩, h.2⟩
      · simp only [mapWf, Bool.and_eq_true]
        refine ⟨h.1, ih _ ?_ h.2⟩
        intro l hl
        simp at hl
        omega
theorem mapWf_filter {α : Type} [DecidableEq α] (d : Nat → α) (p : Nat × α → Bool) (m : List (Nat × α)) (lo : Option Nat)
    (h : mapWf d lo m = true) : mapWf d lo (m.filter p) = true := by
  induction m generalizing lo with
  | nil => exact h
  | cons e t ih =>
    obtain ⟨k, x⟩ := e
    simp only [mapWf, Bool.and_eq_true] at h
    rw [List.filter_cons]
    split
    · simp only [mapWf, Bool.and_eq_true]
      exact ⟨h.1, ih _ h.2⟩
    · refine ih _ ?_
      cases lo with
      | none => exact mapWf_weaken _ _ _ h.2
      | some l => exact mapWf_lower _ _ _ _ (by have := h.1.1; simp at this; omega) h.2
theorem mapSet_wf {α : Type} [DecidableEq α] (d : Nat → α) (m : List (Nat × α)) (a : Nat) (v : α) (lo : Option Nat)
    (hlo : ∀ l, lo = some l → l < a) (h : mapWf d lo m = true) : mapWf d lo (mapSet d m a v) = true := by
  unfold mapSet
  split
  · exact mapWf_filter _ _ _ _ h
  · rename_i hv; exact mapPut_wf _ _ _ _ hv _ hlo h

/-- Storing bytes keeps the canonical form. -/
theorem cellsSet_wf (m : List (Nat × Byte)) (a : Nat) (bs : List Byte) (h : Memory.wf m = true) : Memory.wf (cellsSet m a bs) = true := by
  induction bs generalizing m a with
  | nil => exact h
  | cons b t ih => exact ih _ _ (mapSet_wf _ _ _ _ _ (by simp) h)


@[simp ↓] theorem regSet_pending (s : State) (a : Nat) (w : Word) : (regSet s a w).pending = s.pending := by
  simp (maxDischargeDepth := 40) [regSet]
@[simp ↓] theorem regSet_mem (s : State) (a : Nat) (w : Word) (h : Memory.wf s.mem = true) : Memory.wf (regSet s a w).mem = true := by
  simp (maxDischargeDepth := 40) [regSet, *]
@[simp ↓] theorem wr_pending (s : State) (f : Fld) (v : Nat) : (wr s f v).pending = s.pending := by
  simp (maxDischargeDepth := 40) [wr]
@[simp ↓] theorem wr_mem (s : State) (f : Fld) (v : Nat) (h : Memory.wf s.mem = true) : Memory.wf (wr s f v).mem = true := by
  simp (maxDischargeDepth := 40) [wr, *]
@[simp ↓] theorem put_pending (s : State) (f : Fld) (b : Bool) : (put s f b).pending = s.pending := by
  simp (maxDischargeDepth := 40) [put]
@[simp ↓] theorem put_mem (s : State) (f : Fld) (b : Bool) (h : Memory.wf s.mem = true) : Memory.wf (put s f b).mem = true := by
  simp (maxDischargeDepth := 40) [put, *]
@[simp ↓] theorem wrS_pending (s : State) (f : Fld) (v : Int) : (wrS s f v).pending = s.pending := by
  simp (maxDischargeDepth := 40) [wrS]
@[simp ↓] theorem wrS_mem (s : State) (f : Fld) (v : Int) (h : Memory.wf s.mem = true) : Memory.wf (wrS s f v).mem = true := by
  simp (maxDischargeDepth := 40) [wrS, *]
@[simp ↓] theorem bump_pending (s : State) (f : Fld) : (bump s f).pending = s.pending := by
  simp (maxDischargeDepth := 40) [bump]
@[simp ↓] theorem bump_mem (s : State) (f : Fld) (h : Memory.wf s.mem = true) : Memory.wf (bump s f).mem = true := by
  simp (maxDischargeDepth := 40) [bump, *]
@[simp ↓] theorem bumpBy_pending (s : State) (f : Fld) (n : Nat) : (bumpBy s f n).pending = s.pending := by
  simp (maxDischargeDepth := 40) [bumpBy]
@[simp ↓] theorem bumpBy_mem (s : State) (f : Fld) (n : Nat) (h : Memory.wf s.mem = true) : Memory.wf (bumpBy s f n).mem = true := by
  simp (maxDischargeDepth := 40) [bumpBy, *]
@[simp ↓] theorem bumpSat_pending (s : State) (f : Fld) : (bumpSat s f).pending = s.pending := by
  simp (maxDischargeDepth := 40) [bumpSat]
@[simp ↓] theorem bumpSat_mem (s : State) (f : Fld) (h : Memory.wf s.mem = true) : Memory.wf (bumpSat s f).mem = true := by
  simp (maxDischargeDepth := 40) [bumpSat, *]
@[simp ↓] theorem putBit_pending (s : State) (f : Fld) (i : Nat) (b : Bool) : (putBit s f i b).pending = s.pending := by
  simp (maxDischargeDepth := 40) [putBit]
@[simp ↓] theorem putBit_mem (s : State) (f : Fld) (i : Nat) (b : Bool) (h : Memory.wf s.mem = true) : Memory.wf (putBit s f i b).mem = true := by
  simp (maxDischargeDepth := 40) [putBit, *]
@[simp ↓] theorem resetSpan_pending (s : State) (a : Nat) (b : Nat) : (resetSpan s a b).pending = s.pending := by
  simp (maxDischargeDepth := 40) [resetSpan]
@[simp ↓] theorem resetSpan_mem (s : State) (a : Nat) (b : Nat) (h : Memory.wf s.mem = true) : Memory.wf (resetSpan s a b).mem = true := by
  simp (maxDischargeDepth := 40) [resetSpan, *]
@[simp ↓] theorem resetBlock_pending (s : State) (b : Block) : (resetBlock s b).pending = s.pending := by
  simp (maxDischargeDepth := 40) [resetBlock]
@[simp ↓] theorem resetBlock_mem (s : State) (b : Block) (h : Memory.wf s.mem = true) : Memory.wf (resetBlock s b).mem = true := by
  simp (maxDischargeDepth := 40) [resetBlock, *]
@[simp ↓] theorem fresh_pending (s : State) : (fresh s).2.pending = s.pending := by
  simp (maxDischargeDepth := 40) [fresh]
@[simp ↓] theorem fresh_mem (s : State) (h : Memory.wf s.mem = true) : Memory.wf (fresh s).2.mem = true := by
  simp (maxDischargeDepth := 40) [fresh, *]
@[simp ↓] theorem emit_pending (s : State) (k : OutKind) (args : List Nat) (data : List Byte) : (emit s k args data).pending = s.pending := by
  simp (maxDischargeDepth := 40) [emit]
@[simp ↓] theorem emit_mem (s : State) (k : OutKind) (args : List Nat) (data : List Byte) (h : Memory.wf s.mem = true) : Memory.wf (emit s k args data).mem = true := by
  simp (maxDischargeDepth := 40) [emit, *]
@[simp ↓] theorem memWrite_pending (s : State) (a : Nat) (bs : List Byte) : (memWrite s a bs).pending = s.pending := rfl
/-- A write into host memory keeps the canonical form. -/
@[simp ↓] theorem memWrite_mem (s : State) (a : Nat) (bs : List Byte) (h : Memory.wf s.mem = true) : Memory.wf (memWrite s a bs).mem = true :=
  cellsSet_wf _ _ _ h
@[simp ↓] theorem supplyTake_pending (s : State) (e : SupplyIn) : (supplyTake s e).pending = s.pending := by
  simp (maxDischargeDepth := 40) [supplyTake]
@[simp ↓] theorem supplyTake_mem (s : State) (e : SupplyIn) (h : Memory.wf s.mem = true) : Memory.wf (supplyTake s e).mem = true := by
  simp (maxDischargeDepth := 40) [supplyTake, *]
@[simp ↓] theorem pepperSlot_pending (target inst k : Nat) (r : Bool × State) : (pepperSlot target inst k r).2.pending = r.2.pending := by
  simp [pepperSlot]
@[simp ↓] theorem pepperSlot_mem (target inst k : Nat) (r : Bool × State) (h : Memory.wf r.2.mem = true) :
    Memory.wf (pepperSlot target inst k r).2.mem = true := by
  simp [pepperSlot, h]
@[simp ↓] theorem pepperAct_pending (s : State) (target inst : Nat) : (pepperAct s target inst).2.pending = s.pending := by
  unfold pepperAct; rw [foldl_snd_pending]; intro r x; simp
@[simp ↓] theorem pepperAct_mem (s : State) (target inst : Nat) (h : Memory.wf s.mem = true) : Memory.wf (pepperAct s target inst).2.mem = true := by
  unfold pepperAct; refine foldl_snd_mem _ ?_ _ _ h; intro r x hr; simp [hr]
@[simp ↓] theorem pepperWait_pending (s : State) (target : Nat) (inst : Nat) : (pepperWait s target inst).pending = s.pending := by
  simp (maxDischargeDepth := 40) [pepperWait]
@[simp ↓] theorem pepperWait_mem (s : State) (target : Nat) (inst : Nat) (h : Memory.wf s.mem = true) : Memory.wf (pepperWait s target inst).mem = true := by
  simp (maxDischargeDepth := 40) [pepperWait, *]
@[simp ↓] theorem recShow_pending (s : State) : (recShow s).pending = s.pending := by
  simp (maxDischargeDepth := 40) [recShow]
@[simp ↓] theorem recShow_mem (s : State) (h : Memory.wf s.mem = true) : Memory.wf (recShow s).mem = true := by
  simp (maxDischargeDepth := 40) [recShow, *]
@[simp ↓] theorem recWriteStart_pending (s : State) : (recWriteStart s).pending = s.pending := by
  simp (maxDischargeDepth := 40) [recWriteStart]
@[simp ↓] theorem recWriteStart_mem (s : State) (h : Memory.wf s.mem = true) : Memory.wf (recWriteStart s).mem = true := by
  simp (maxDischargeDepth := 40) [recWriteStart, *]
@[simp ↓] theorem recEnter_pending (s : State) (src : Nat) (code : Nat) (level : Nat) (inst : Nat) (suppr : Nat) (arg0 : Nat) (arg1 : Nat) : (recEnter s src code level inst suppr arg0 arg1).pending = s.pending := by
  unfold recEnter; dsimp only; (repeat' split) <;> simp (maxDischargeDepth := 40) [*]
@[simp ↓] theorem recEnter_mem (s : State) (src : Nat) (code : Nat) (level : Nat) (inst : Nat) (suppr : Nat) (arg0 : Nat) (arg1 : Nat) (h : Memory.wf s.mem = true) : Memory.wf (recEnter s src code level inst suppr arg0 arg1).mem = true := by
  unfold recEnter; dsimp only; (repeat' split) <;> simp (maxDischargeDepth := 40) [*]
@[simp ↓] theorem recOffer1_pending (s : State) (src : Nat) (code : Nat) (level : Nat) (inst : Nat) (arg0 : Nat) (arg1 : Nat) : (recOffer1 s src code level inst arg0 arg1).2.pending = s.pending := by
  unfold recOffer1; (repeat' split) <;> simp (maxDischargeDepth := 40) [*]
@[simp ↓] theorem recOffer1_mem (s : State) (src : Nat) (code : Nat) (level : Nat) (inst : Nat) (arg0 : Nat) (arg1 : Nat) (h : Memory.wf s.mem = true) : Memory.wf (recOffer1 s src code level inst arg0 arg1).2.mem = true := by
  unfold recOffer1; (repeat' split) <;> simp (maxDischargeDepth := 40) [*]
@[simp ↓] theorem recOwnErr_pending (s : State) (f : Fld) : (recOwnErr s f).pending = s.pending := by
  simp (maxDischargeDepth := 40) [recOwnErr]
@[simp ↓] theorem recOwnErr_mem (s : State) (f : Fld) (h : Memory.wf s.mem = true) : Memory.wf (recOwnErr s f).mem = true := by
  simp (maxDischargeDepth := 40) [recOwnErr, *]
@[simp ↓] theorem recAfter_pending (s0 : State) (s : State) : (recAfter s0 s).pending = s.pending := by
  simp (maxDischargeDepth := 40) [recAfter]
@[simp ↓] theorem recAfter_mem (s0 : State) (s : State) (h : Memory.wf s.mem = true) : Memory.wf (recAfter s0 s).mem = true := by
  simp (maxDischargeDepth := 40) [recAfter, *]
@[simp ↓] theorem recOffer_pending (s : State) (src : Nat) (code : Nat) (level : Nat) (inst : Nat) (arg0 : Nat) (arg1 : Nat) : (recOffer s src code level inst arg0 arg1).2.pending = s.pending := by
  simp (maxDischargeDepth := 40) [recOffer]
@[simp ↓] theorem recOffer_mem (s : State) (src : Nat) (code : Nat) (level : Nat) (inst : Nat) (arg0 : Nat) (arg1 : Nat) (h : Memory.wf s.mem = true) : Memory.wf (recOffer s src code level inst arg0 arg1).2.mem = true := by
  simp (maxDischargeDepth := 40) [recOffer, *]
@[simp ↓] theorem recAlways_pending (s : State) (src : Nat) (code : Nat) (level : Nat) (inst : Nat) (arg0 : Nat) (arg1 : Nat) : (recAlways s src code level inst arg0 arg1).pending = s.pending := by
  simp (maxDischargeDepth := 40) [recAlways]
@[simp ↓] theorem recAlways_mem (s : State) (src : Nat) (code : Nat) (level : Nat) (inst : Nat) (arg0 : Nat) (arg1 : Nat) (h : Memory.wf s.mem = true) : Memory.wf (recAlways s src code level inst arg0 arg1).mem = true := by
  simp (maxDischargeDepth := 40) [recAlways, *]
@[simp ↓] theorem record_pending (s : State) (src : Nat) (code : Nat) (level : Nat) (inst : Nat) (arg0 : Nat) (arg1 : Nat) : (record s src code level inst arg0 arg1).pending = s.pending := by
  simp (maxDischargeDepth := 40) [record]
@[simp ↓] theorem record_mem (s : State) (src : Nat) (code : Nat) (level : Nat) (inst : Nat) (arg0 : Nat) (arg1 : Nat) (h : Memory.wf s.mem = true) : Memory.wf (record s src code level inst arg0 arg1).mem = true := by
  simp (maxDischargeDepth := 40) [record, *]
@[simp ↓] theorem errRise_pending (s : State) (f : Fld) (inst : Nat) (arg1 : Nat) : (errRise s f inst arg1).pending = s.pending := by
  simp (maxDischargeDepth := 40) [errRise]
@[simp ↓] theorem errRise_mem (s : State) (f : Fld) (inst : Nat) (arg1 : Nat) (h : Memory.wf s.mem = true) : Memory.wf (errRise s f inst arg1).mem = true := by
  simp (maxDischargeDepth := 40) [errRise, *]
@[simp ↓] theorem timeMarkRec_pending (s : State) (why : Nat) : (timeMarkRec s why).pending = s.pending := by
  simp (maxDischargeDepth := 40) [timeMarkRec]
@[simp ↓] theorem timeMarkRec_mem (s : State) (why : Nat) (h : Memory.wf s.mem = true) : Memory.wf (timeMarkRec s why).mem = true := by
  simp (maxDischargeDepth := 40) [timeMarkRec, *]
@[simp ↓] theorem storCount_pending (s : State) (n : Nat) : (storCount s n).pending = s.pending := by
  simp (maxDischargeDepth := 40) [storCount]
@[simp ↓] theorem storCount_mem (s : State) (n : Nat) (h : Memory.wf s.mem = true) : Memory.wf (storCount s n).mem = true := by
  simp (maxDischargeDepth := 40) [storCount, *]
@[simp ↓] theorem cfgStore_pending (s : State) (f : CfgCopy → CfgCopy) : (cfgStore s f).pending = s.pending := by
  simp (maxDischargeDepth := 40) [cfgStore]
@[simp ↓] theorem cfgStore_mem (s : State) (f : CfgCopy → CfgCopy) (h : Memory.wf s.mem = true) : Memory.wf (cfgStore s f).mem = true := by
  simp (maxDischargeDepth := 40) [cfgStore, *]
@[simp ↓] theorem cfgStoreItem_pending (s : State) (key : Nat) (bs : List Byte) : (cfgStoreItem s key bs).pending = s.pending := by
  simp (maxDischargeDepth := 40) [cfgStoreItem]
@[simp ↓] theorem cfgStoreItem_mem (s : State) (key : Nat) (bs : List Byte) (h : Memory.wf s.mem = true) : Memory.wf (cfgStoreItem s key bs).mem = true := by
  simp (maxDischargeDepth := 40) [cfgStoreItem, *]
@[simp ↓] theorem cfgForce_pending (s : State) (key : Nat) (bs : List Byte) : (cfgForce s key bs).pending = s.pending := by
  simp (maxDischargeDepth := 40) [cfgForce]
@[simp ↓] theorem cfgForce_mem (s : State) (key : Nat) (bs : List Byte) (h : Memory.wf s.mem = true) : Memory.wf (cfgForce s key bs).mem = true := by
  simp (maxDischargeDepth := 40) [cfgForce, *]
@[simp ↓] theorem cfgWait_pending (s : State) (key : Nat) (bs : List Byte) : (cfgWait s key bs).pending = s.pending := by
  simp (maxDischargeDepth := 40) [cfgWait]
@[simp ↓] theorem cfgWait_mem (s : State) (key : Nat) (bs : List Byte) (h : Memory.wf s.mem = true) : Memory.wf (cfgWait s key bs).mem = true := by
  simp (maxDischargeDepth := 40) [cfgWait, *]
@[simp ↓] theorem cfgBoundary_pending (s : State) (key : Nat) : (cfgBoundary s key).pending = s.pending := by
  unfold cfgBoundary; split <;> simp (maxDischargeDepth := 40) [*]
@[simp ↓] theorem cfgBoundary_mem (s : State) (key : Nat) (h : Memory.wf s.mem = true) : Memory.wf (cfgBoundary s key).mem = true := by
  unfold cfgBoundary; split <;> simp (maxDischargeDepth := 40) [*]
@[simp ↓] theorem histAdd_pending (s : State) (kind : Nat) (bs : List Byte) : (histAdd s kind bs).pending = s.pending := by
  simp (maxDischargeDepth := 40) [histAdd]
@[simp ↓] theorem histAdd_mem (s : State) (kind : Nat) (bs : List Byte) (h : Memory.wf s.mem = true) : Memory.wf (histAdd s kind bs).mem = true := by
  simp (maxDischargeDepth := 40) [histAdd, *]

end Sys2Proof.Laws
end

