-- ==== Sys2Proof/Laws/KeepQueue.lean ====
section
/-! SUPPORT. What every operation of `Machine/Queue.lean` leaves alone: the queue of waiting commands, and the canonical form of host memory. -/

namespace Sys2Proof.Laws

open Sys2Proof.Machine

@[simp ↓] theorem qpMod_pending (s : State) (qp : Nat) (f : QpState → QpState) : (qpMod s qp f).pending = s.pending := by
  simp (maxDischargeDepth := 40) [qpMod]
@[simp ↓] theorem qpMod_mem (s : State) (qp : Nat) (f : QpState → QpState) (h : Memory.wf s.mem = true) : Memory.wf (qpMod s qp f).mem = true := by
  simp (maxDischargeDepth := 40) [qpMod, *]
@[simp ↓] theorem irqCheck_pending (s : State) (qp : Nat) : (irqCheck s qp).pending = s.pending := by
  simp (maxDischargeDepth := 40) [irqCheck]
@[simp ↓] theorem irqCheck_mem (s : State) (qp : Nat) (h : Memory.wf s.mem = true) : Memory.wf (irqCheck s qp).mem = true := by
  simp (maxDischargeDepth := 40) [irqCheck, *]
@[simp ↓] theorem errNote_pending (s : State) (qp : Nat) (tag : Nat) (opc : Nat) (status : Nat) : (errNote s qp tag opc status).pending = s.pending := by
  simp (maxDischargeDepth := 40) [errNote]
@[simp ↓] theorem errNote_mem (s : State) (qp : Nat) (tag : Nat) (opc : Nat) (status : Nat) (h : Memory.wf s.mem = true) : Memory.wf (errNote s qp tag opc status).mem = true := by
  simp (maxDischargeDepth := 40) [errNote, *]
@[simp ↓] theorem complete_pending (qp : Nat) (s : State) (e : Entry) : (complete qp s e).pending = s.pending := by
  unfold complete; split <;> simp (maxDischargeDepth := 40) [*]
@[simp ↓] theorem complete_mem (qp : Nat) (s : State) (e : Entry) (h : Memory.wf s.mem = true) : Memory.wf (complete qp s e).mem = true := by
  unfold complete; split <;> simp (maxDischargeDepth := 40) [*]
@[simp ↓] theorem drain_pending (s : State) (qp : Nat) : (drain s qp).pending = s.pending := by
  simp (maxDischargeDepth := 40) [drain]
@[simp ↓] theorem drain_mem (s : State) (qp : Nat) (h : Memory.wf s.mem = true) : Memory.wf (drain s qp).mem = true := by
  simp +contextual (maxDischargeDepth := 40) [drain, *]
@[simp ↓] theorem dbReject_pending (s : State) (qp : Nat) (value : Nat) (head : Bool) (foreign : Bool) : (dbReject s qp value head foreign).pending = s.pending := by
  simp (maxDischargeDepth := 40) [dbReject]
@[simp ↓] theorem dbReject_mem (s : State) (qp : Nat) (value : Nat) (head : Bool) (foreign : Bool) (h : Memory.wf s.mem = true) : Memory.wf (dbReject s qp value head foreign).mem = true := by
  simp (maxDischargeDepth := 40) [dbReject, *]
@[simp ↓] theorem sqTailWrite_pending (s : State) (lvl : Level) (qp : Nat) (v : Nat) : (sqTailWrite s lvl qp v).pending = s.pending := by
  simp (maxDischargeDepth := 40) [sqTailWrite]
@[simp ↓] theorem sqTailWrite_mem (s : State) (lvl : Level) (qp : Nat) (v : Nat) (h : Memory.wf s.mem = true) : Memory.wf (sqTailWrite s lvl qp v).mem = true := by
  simp (maxDischargeDepth := 40) [sqTailWrite, *]
@[simp ↓] theorem cqHeadWrite_pending (s : State) (lvl : Level) (qp : Nat) (v : Nat) : (cqHeadWrite s lvl qp v).pending = s.pending := by
  simp (maxDischargeDepth := 40) [cqHeadWrite]
@[simp ↓] theorem cqHeadWrite_mem (s : State) (lvl : Level) (qp : Nat) (v : Nat) (h : Memory.wf s.mem = true) : Memory.wf (cqHeadWrite s lvl qp v).mem = true := by
  simp (maxDischargeDepth := 40) [cqHeadWrite, *]
theorem coreStores_pending (ws : List (Nat × List Byte)) (s t : State) (ht : coreStores s ws = .ok t) : t.pending = s.pending := by
  induction ws generalizing s with
  | nil => simp [coreStores] at ht; simp [ht]
  | cons w ws ih =>
    unfold coreStores at ht
    split at ht
    · rw [ih _ ht]; simp
    · cases ht
theorem coreStores_mem (ws : List (Nat × List Byte)) (s t : State) (ht : coreStores s ws = .ok t) (h : Memory.wf s.mem = true) :
    Memory.wf t.mem = true := by
  induction ws generalizing s with
  | nil => simp [coreStores] at ht; simpa [← ht] using h
  | cons w ws ih =>
    unfold coreStores at ht
    split at ht
    · exact ih _ ht (by simp [h])
    · cases ht
@[simp ↓] theorem fetchNext_pending (s0 : State) (qp : Nat) (ue : List Nat) : (fetchNext s0 qp ue).pending = s0.pending := by
  simp (maxDischargeDepth := 40) [fetchNext]
@[simp ↓] theorem fetchNext_mem (s0 : State) (qp : Nat) (ue : List Nat) (h : Memory.wf s0.mem = true) : Memory.wf (fetchNext s0 qp ue).mem = true := by
  simp (maxDischargeDepth := 40) [fetchNext, *]
@[simp ↓] theorem setEntry_pending (s : State) (qp : Nat) (i : Nat) (st : EntrySt) : (setEntry s qp i st).pending = s.pending := by
  simp (maxDischargeDepth := 40) [setEntry]
@[simp ↓] theorem setEntry_mem (s : State) (qp : Nat) (i : Nat) (st : EntrySt) (h : Memory.wf s.mem = true) : Memory.wf (setEntry s qp i st).mem = true := by
  simp (maxDischargeDepth := 40) [setEntry, *]
@[simp ↓] theorem setFront_pending (s : State) (qp : Nat) (st : EntrySt) : (setFront s qp st).pending = s.pending := by
  unfold setFront; split <;> simp (maxDischargeDepth := 40) [*]
@[simp ↓] theorem setFront_mem (s : State) (qp : Nat) (st : EntrySt) (h : Memory.wf s.mem = true) : Memory.wf (setFront s qp st).mem = true := by
  unfold setFront; split <;> simp (maxDischargeDepth := 40) [*]
theorem runEntry_pending (s : State) (qp opc : Nat) (act : Entry → State → State × EntrySt)
    (ha : ∀ e s, (act e s).1.pending = s.pending) : (runEntry s qp opc act).pending = s.pending := by
  unfold runEntry; (repeat' split) <;> simp [ha]
theorem runEntry_mem (s : State) (qp opc : Nat) (act : Entry → State → State × EntrySt)
    (ha : ∀ e s, Memory.wf s.mem = true → Memory.wf (act e s).1.mem = true) (h : Memory.wf s.mem = true) :
    Memory.wf (runEntry s qp opc act).mem = true := by
  unfold runEntry; (repeat' split) <;> simp (maxDischargeDepth := 40) [ha, h]
@[simp ↓] theorem okR_pending (s : State) (result : Nat) : (okR s result).1.pending = s.pending := by
  simp (maxDischargeDepth := 40) [okR]
@[simp ↓] theorem okR_mem (s : State) (result : Nat) (h : Memory.wf s.mem = true) : Memory.wf (okR s result).1.mem = true := by
  simp (maxDischargeDepth := 40) [okR, *]
@[simp ↓] theorem okX_pending (s : State) (result : Nat) (ext : Nat) : (okX s result ext).1.pending = s.pending := by
  simp (maxDischargeDepth := 40) [okX]
@[simp ↓] theorem okX_mem (s : State) (result : Nat) (ext : Nat) (h : Memory.wf s.mem = true) : Memory.wf (okX s result ext).1.mem = true := by
  simp (maxDischargeDepth := 40) [okX, *]
@[simp ↓] theorem failR_pending (s : State) (status : Nat) : (failR s status).1.pending = s.pending := by
  simp (maxDischargeDepth := 40) [failR]
@[simp ↓] theorem failR_mem (s : State) (status : Nat) (h : Memory.wf s.mem = true) : Memory.wf (failR s status).1.mem = true := by
  simp (maxDischargeDepth := 40) [failR, *]
@[simp ↓] theorem failX_pending (s : State) (status : Nat) (ext : Nat) : (failX s status ext).1.pending = s.pending := by
  simp (maxDischargeDepth := 40) [failX]
@[simp ↓] theorem failX_mem (s : State) (status : Nat) (ext : Nat) (h : Memory.wf s.mem = true) : Memory.wf (failX s status ext).1.mem = true := by
  simp (maxDischargeDepth := 40) [failX, *]
@[simp ↓] theorem withBuf_pending (e : Entry) (s : State) (k : List Byte → State × EntrySt)
    (hk : ∀ bs, (k bs).1.pending = s.pending) : (withBuf e s k).1.pending = s.pending := by
  simp [withBuf, hk]
@[simp ↓] theorem withBuf_mem (e : Entry) (s : State) (k : List Byte → State × EntrySt)
    (hk : ∀ bs, Memory.wf s.mem = true → Memory.wf (k bs).1.mem = true) (h : Memory.wf s.mem = true) : Memory.wf (withBuf e s k).1.mem = true := by
  simp [withBuf, hk, h]
@[simp ↓] theorem finishEntry_pending (s : State) (qp : Nat) (p : Entry → Bool) (status : Nat) (result : Nat) (ext : Nat) : (finishEntry s qp p status result ext).pending = s.pending := by
  unfold finishEntry; split <;> simp (maxDischargeDepth := 40) [*]
@[simp ↓] theorem finishEntry_mem (s : State) (qp : Nat) (p : Entry → Bool) (status : Nat) (result : Nat) (ext : Nat) (h : Memory.wf s.mem = true) : Memory.wf (finishEntry s qp p status result ext).mem = true := by
  unfold finishEntry; split <;> simp (maxDischargeDepth := 40) [*]
@[simp ↓] theorem timedStart_pending (s : State) (qp : Nat) : (timedStart s qp).pending = s.pending := by
  unfold timedStart; (repeat' split) <;> simp (maxDischargeDepth := 40) [*]
@[simp ↓] theorem timedStart_mem (s : State) (qp : Nat) (h : Memory.wf s.mem = true) : Memory.wf (timedStart s qp).mem = true := by
  unfold timedStart; (repeat' split) <;> simp (maxDischargeDepth := 40) [*]
@[simp ↓] theorem streamWrite_pending (s : State) (qp : Nat) (data : List Byte) : (streamWrite s qp data).2.pending = s.pending := by
  unfold streamWrite; dsimp only; (repeat' split) <;> simp (maxDischargeDepth := 40) [*]
@[simp ↓] theorem streamWrite_mem (s : State) (qp : Nat) (data : List Byte) (h : Memory.wf s.mem = true) : Memory.wf (streamWrite s qp data).2.mem = true := by
  unfold streamWrite; dsimp only; (repeat' split) <;> simp (maxDischargeDepth := 40) [*]
@[simp ↓] theorem streamOr_pending (s : State) (qp : Nat) (data : List Byte) (lost : State → State)
    (hl : ∀ s, (lost s).pending = s.pending) : (streamOr s qp data lost).pending = s.pending := by
  simp [streamOr, hl]
@[simp ↓] theorem streamOr_mem (s : State) (qp : Nat) (data : List Byte) (lost : State → State)
    (hl : ∀ s, Memory.wf s.mem = true → Memory.wf (lost s).mem = true) (h : Memory.wf s.mem = true) : Memory.wf (streamOr s qp data lost).mem = true := by
  simp (maxDischargeDepth := 40) [streamOr, hl, h]
@[simp ↓] theorem flushPosted_pending (s : State) (qp : Nat) : (flushPosted s qp).pending = s.pending := by
  simp (maxDischargeDepth := 40) [flushPosted]
@[simp ↓] theorem flushPosted_mem (s : State) (qp : Nat) (h : Memory.wf s.mem = true) : Memory.wf (flushPosted s qp).mem = true := by
  simp (maxDischargeDepth := 40) [flushPosted, *]
@[simp ↓] theorem qpEnable_pending (s : State) (qp : Nat) : (qpEnable s qp).pending = s.pending := by
  simp (maxDischargeDepth := 40) [qpEnable]
@[simp ↓] theorem qpEnable_mem (s : State) (qp : Nat) (h : Memory.wf s.mem = true) : Memory.wf (qpEnable s qp).mem = true := by
  simp (maxDischargeDepth := 40) [qpEnable, *]
@[simp ↓] theorem qpDisable_pending (s : State) (qp : Nat) : (qpDisable s qp).pending = s.pending := by
  simp (maxDischargeDepth := 40) [qpDisable]
@[simp ↓] theorem qpDisable_mem (s : State) (qp : Nat) (h : Memory.wf s.mem = true) : Memory.wf (qpDisable s qp).mem = true := by
  simp (maxDischargeDepth := 40) [qpDisable, *]
@[simp ↓] theorem qpIdleCheck_pending (s : State) (qp : Nat) : (qpIdleCheck s qp).pending = s.pending := by
  simp (maxDischargeDepth := 40) [qpIdleCheck]
@[simp ↓] theorem qpIdleCheck_mem (s : State) (qp : Nat) (h : Memory.wf s.mem = true) : Memory.wf (qpIdleCheck s qp).mem = true := by
  simp (maxDischargeDepth := 40) [qpIdleCheck, *]
@[simp ↓] theorem irqPendClear_pending (s : State) (hi : Bool) (v : Nat) : (irqPendClear s hi v).pending = s.pending := by
  simp (maxDischargeDepth := 40) [irqPendClear]
@[simp ↓] theorem irqPendClear_mem (s : State) (hi : Bool) (v : Nat) (h : Memory.wf s.mem = true) : Memory.wf (irqPendClear s hi v).mem = true := by
  simp +contextual (maxDischargeDepth := 40) [irqPendClear, *]

end Sys2Proof.Laws
end

