-- ==== Sys2Proof/Laws/KeepFlags.lean ====
section
/-! SUPPORT. What every operation of `Machine/Flags.lean` leaves alone: the queue of waiting commands, and the canonical form of host memory. -/

namespace Sys2Proof.Laws

open Sys2Proof.Machine

@[simp ↓] theorem pepperDisarm_pending (s : State) (k : Nat) (forced : Bool) : (pepperDisarm s k forced).pending = s.pending := by
  simp (maxDischargeDepth := 40) [pepperDisarm]
@[simp ↓] theorem pepperDisarm_mem (s : State) (k : Nat) (forced : Bool) (h : Memory.wf s.mem = true) : Memory.wf (pepperDisarm s k forced).mem = true := by
  simp (maxDischargeDepth := 40) [pepperDisarm, *]
@[simp ↓] theorem pepperFollow_pending (s : State) : (pepperFollow s).pending = s.pending := by
  simp (maxDischargeDepth := 40) [pepperFollow]
@[simp ↓] theorem pepperFollow_mem (s : State) (h : Memory.wf s.mem = true) : Memory.wf (pepperFollow s).mem = true := by
  simp +contextual (maxDischargeDepth := 40) [pepperFollow, *]

end Sys2Proof.Laws
end

