-- ==== Sys2Proof/Laws/KeepRec.lean ====
section
/-! SUPPORT. What every operation of `Machine/Rec.lean` leaves alone: the queue of waiting commands, and the canonical form of host memory. -/

namespace Sys2Proof.Laws

open Sys2Proof.Machine

@[simp ↓] theorem recLostRuns_pending (l : List (Nat × Nat)) (s : State) : (recLostRuns l s).pending = s.pending := by
  induction l generalizing s with
  | nil => rfl
  | cons e t ih => simp [recLostRuns, ih]
@[simp ↓] theorem recLostRuns_mem (l : List (Nat × Nat)) (s : State) (h : Memory.wf s.mem = true) : Memory.wf (recLostRuns l s).mem = true := by
  induction l generalizing s with
  | nil => exact h
  | cons e t ih => simp [recLostRuns, ih, h]
@[simp ↓] theorem recSyncs_pending (n : Nat) (s : State) : (recSyncs n s).pending = s.pending := by
  induction n generalizing s with
  | zero => rfl
  | succ n ih => simp [recSyncs, ih]
@[simp ↓] theorem recSyncs_mem (n : Nat) (s : State) (h : Memory.wf s.mem = true) : Memory.wf (recSyncs n s).mem = true := by
  induction n generalizing s with
  | zero => exact h
  | succ n ih => simp [recSyncs, ih, h]
@[simp ↓] theorem recWriteDone_pending (s : State) : (recWriteDone s).pending = s.pending := by
  simp (maxDischargeDepth := 40) [recWriteDone]
@[simp ↓] theorem recWriteDone_mem (s : State) (h : Memory.wf s.mem = true) : Memory.wf (recWriteDone s).mem = true := by
  simp (maxDischargeDepth := 40) [recWriteDone, *]
@[simp ↓] theorem recDamage_pending (s : State) (bad : List Nat) : (recDamage s bad).pending = s.pending := by
  simp (maxDischargeDepth := 40) [recDamage]
@[simp ↓] theorem recDamage_mem (s : State) (bad : List Nat) (h : Memory.wf s.mem = true) : Memory.wf (recDamage s bad).mem = true := by
  simp (maxDischargeDepth := 40) [recDamage, *]
@[simp ↓] theorem recRead_pending (bad : List Nat) (e : Entry) (s0 : State) : (recRead bad e s0).1.pending = s0.pending := by
  simp (maxDischargeDepth := 40) [recRead]
@[simp ↓] theorem recRead_mem (bad : List Nat) (e : Entry) (s0 : State) (h : Memory.wf s0.mem = true) : Memory.wf (recRead bad e s0).1.mem = true := by
  simp (maxDischargeDepth := 40) [recRead, *]
@[simp ↓] theorem recLog_pending (e : Entry) (s : State) : (recLog e s).1.pending = s.pending := by
  simp (maxDischargeDepth := 40) [recLog]
@[simp ↓] theorem recLog_mem (e : Entry) (s : State) (h : Memory.wf s.mem = true) : Memory.wf (recLog e s).1.mem = true := by
  simp (maxDischargeDepth := 40) [recLog, *]
@[simp ↓] theorem recSync_pending (x0 : Entry) (s : State) : (recSync x0 s).1.pending = s.pending := by
  simp (maxDischargeDepth := 40) [recSync]
@[simp ↓] theorem recSync_mem (x0 : Entry) (s : State) (h : Memory.wf s.mem = true) : Memory.wf (recSync x0 s).1.mem = true := by
  simp (maxDischargeDepth := 40) [recSync, *]
@[simp ↓] theorem drawRandom_pending (s : State) : (drawRandom s).2.pending = s.pending := by
  simp (maxDischargeDepth := 40) [drawRandom]
@[simp ↓] theorem drawRandom_mem (s : State) (h : Memory.wf s.mem = true) : Memory.wf (drawRandom s).2.mem = true := by
  simp (maxDischargeDepth := 40) [drawRandom, *]
@[simp ↓] theorem recClearNonce_pending (e : Entry) (s : State) : (recClearNonce e s).1.pending = s.pending := by
  simp (maxDischargeDepth := 40) [recClearNonce]
@[simp ↓] theorem recClearNonce_mem (e : Entry) (s : State) (h : Memory.wf s.mem = true) : Memory.wf (recClearNonce e s).1.mem = true := by
  simp (maxDischargeDepth := 40) [recClearNonce, *]
@[simp ↓] theorem recDropNonce_pending (s : State) : (recDropNonce s).pending = s.pending := by
  simp (maxDischargeDepth := 40) [recDropNonce]
@[simp ↓] theorem recDropNonce_mem (s : State) (h : Memory.wf s.mem = true) : Memory.wf (recDropNonce s).mem = true := by
  simp (maxDischargeDepth := 40) [recDropNonce, *]
@[simp ↓] theorem recClear_pending (e : Entry) (s : State) : (recClear e s).1.pending = s.pending := by
  unfold recClear withBuf; dsimp only; (repeat' split) <;> simp (maxDischargeDepth := 40) [*]
@[simp ↓] theorem recClear_mem (e : Entry) (s : State) (h : Memory.wf s.mem = true) : Memory.wf (recClear e s).1.mem = true := by
  unfold recClear withBuf; dsimp only; (repeat' split) <;> simp (maxDischargeDepth := 40) [*]

end Sys2Proof.Laws
end

