-- ==== Sys2Proof/Laws/KeepPerf.lean ====
section
/-! SUPPORT. What every operation of `Machine/Perf.lean` leaves alone: the queue of waiting commands, and the canonical form of host memory. -/

namespace Sys2Proof.Laws

open Sys2Proof.Machine

@[simp ↓] theorem perfCount_pending (s : State) (n : Nat) (k : Nat) : (perfCount s n k).2.pending = s.pending := by
  simp (maxDischargeDepth := 40) [perfCount]
@[simp ↓] theorem perfCount_mem (s : State) (n : Nat) (k : Nat) (h : Memory.wf s.mem = true) : Memory.wf (perfCount s n k).2.mem = true := by
  simp (maxDischargeDepth := 40) [perfCount, *]
@[simp ↓] theorem perfSync1_pending (r : List Nat × State) (n : Nat) : (perfSync1 r n).2.pending = r.2.pending := by
  unfold perfSync1; dsimp only; (repeat' split) <;> simp
@[simp ↓] theorem perfSync1_mem (r : List Nat × State) (n : Nat) (h : Memory.wf r.2.mem = true) : Memory.wf (perfSync1 r n).2.mem = true := by
  unfold perfSync1; dsimp only; (repeat' split) <;> simp [h]
@[simp ↓] theorem perfSnap_pending (s : State) (cause : Nat) (hits : Nat) : (perfSnap s cause hits).pending = s.pending := by
  simp (maxDischargeDepth := 40) [perfSnap]
@[simp ↓] theorem perfSnap_mem (s : State) (cause : Nat) (hits : Nat) (h : Memory.wf s.mem = true) : Memory.wf (perfSnap s cause hits).mem = true := by
  simp +contextual (maxDischargeDepth := 40) [perfSnap, *]
@[simp ↓] theorem perfFire_pending (s : State) (n : Nat) : (perfFire s n).pending = s.pending := by
  simp (maxDischargeDepth := 40) [perfFire]
@[simp ↓] theorem perfFire_mem (s : State) (n : Nat) (h : Memory.wf s.mem = true) : Memory.wf (perfFire s n).mem = true := by
  simp (maxDischargeDepth := 40) [perfFire, *]
@[simp ↓] theorem perfReload_pending (s : State) (n : Nat) : (perfReload s n).pending = s.pending := by
  simp (maxDischargeDepth := 40) [perfReload]
@[simp ↓] theorem perfReload_mem (s : State) (n : Nat) (h : Memory.wf s.mem = true) : Memory.wf (perfReload s n).mem = true := by
  simp (maxDischargeDepth := 40) [perfReload, *]
@[simp ↓] theorem perfSyncWith_pending (s : State) (cause : Nat) : (perfSyncWith s cause).pending = s.pending := by
  simp [perfSyncWith, foldl_snd_pending]
@[simp ↓] theorem perfSyncWith_mem (s : State) (cause : Nat) (h : Memory.wf s.mem = true) : Memory.wf (perfSyncWith s cause).mem = true := by
  unfold perfSyncWith
  extract_lets r s1 hits c s2
  have h1 : Memory.wf s1.mem = true := foldl_mem _ (fun s p hs => by simp [hs]) _ _ (foldl_snd_mem perfSync1 (fun r x hr => perfSync1_mem r x hr) _ _ h)
  have h2 : Memory.wf s2.mem = true := by simp only [s2]; split <;> simp [h1]
  exact foldl_mem _ (fun s p hs => by simp [hs]) _ _ h2
@[simp ↓] theorem perfSync_pending (s : State) : (perfSync s).pending = s.pending := by
  simp (maxDischargeDepth := 40) [perfSync]
@[simp ↓] theorem perfSync_mem (s : State) (h : Memory.wf s.mem = true) : Memory.wf (perfSync s).mem = true := by
  simp (maxDischargeDepth := 40) [perfSync, *]
@[simp ↓] theorem perfPreset_pending (s : State) (n : Nat) (v : Nat) : (perfPreset s n v).pending = s.pending := by
  simp (maxDischargeDepth := 40) [perfPreset]
@[simp ↓] theorem perfPreset_mem (s : State) (n : Nat) (v : Nat) (h : Memory.wf s.mem = true) : Memory.wf (perfPreset s n v).mem = true := by
  simp (maxDischargeDepth := 40) [perfPreset, *]
@[simp ↓] theorem perfSnapOp_pending (x0 : Entry) (s : State) : (perfSnapOp x0 s).1.pending = s.pending := by
  simp (maxDischargeDepth := 40) [perfSnapOp]
@[simp ↓] theorem perfSnapOp_mem (x0 : Entry) (s : State) (h : Memory.wf s.mem = true) : Memory.wf (perfSnapOp x0 s).1.mem = true := by
  simp (maxDischargeDepth := 40) [perfSnapOp, *]
@[simp ↓] theorem perfEnable_pending (e : Entry) (s : State) : (perfEnable e s).1.pending = s.pending := by
  simp (maxDischargeDepth := 40) [perfEnable]
@[simp ↓] theorem perfEnable_mem (e : Entry) (s : State) (h : Memory.wf s.mem = true) : Memory.wf (perfEnable e s).1.mem = true := by
  simp (maxDischargeDepth := 40) [perfEnable, *]
@[simp ↓] theorem perfDisable_pending (e : Entry) (s : State) : (perfDisable e s).1.pending = s.pending := by
  simp (maxDischargeDepth := 40) [perfDisable]
@[simp ↓] theorem perfDisable_mem (e : Entry) (s : State) (h : Memory.wf s.mem = true) : Memory.wf (perfDisable e s).1.mem = true := by
  simp (maxDischargeDepth := 40) [perfDisable, *]

end Sys2Proof.Laws
end

