-- ==== Sys2Proof/Laws/KeepPepper.lean ====
section
/-! SUPPORT. What every operation of `Machine/Pepper.lean` leaves alone: the queue of waiting commands, and the canonical form of host memory. -/

namespace Sys2Proof.Laws

open Sys2Proof.Machine

@[simp ↓] theorem pepperForce_pending (s : State) : (pepperForce s).pending = s.pending := by simp [pepperForce]
@[simp ↓] theorem pepperForce_mem (s : State) (h : Memory.wf s.mem = true) : Memory.wf (pepperForce s).mem = true := by
  unfold pepperForce; refine foldl_mem _ ?_ _ _ h; intro s x hs; split <;> simp [hs]
@[simp ↓] theorem pepperEnable_pending (e : Entry) (s : State) : (pepperEnable e s).1.pending = s.pending := by
  simp (maxDischargeDepth := 40) [pepperEnable]
@[simp ↓] theorem pepperEnable_mem (e : Entry) (s : State) (h : Memory.wf s.mem = true) : Memory.wf (pepperEnable e s).1.mem = true := by
  simp (maxDischargeDepth := 40) [pepperEnable, *]
@[simp ↓] theorem pepperDisable_pending (e : Entry) (s : State) : (pepperDisable e s).1.pending = s.pending := by
  simp (maxDischargeDepth := 40) [pepperDisable]
@[simp ↓] theorem pepperDisable_mem (e : Entry) (s : State) (h : Memory.wf s.mem = true) : Memory.wf (pepperDisable e s).1.mem = true := by
  simp (maxDischargeDepth := 40) [pepperDisable, *]

end Sys2Proof.Laws
end

