-- ==== Sys2Proof/Laws/KeepTile.lean ====
section
/-! SUPPORT. What every operation of `Machine/Tile.lean` leaves alone: the queue of waiting commands, and the canonical form of host memory. -/

namespace Sys2Proof.Laws

open Sys2Proof.Machine

@[simp ↓] theorem tileMod_pending (s : State) (k : Nat) (f : Tile → Tile) : (tileMod s k f).pending = s.pending := by
  simp (maxDischargeDepth := 40) [tileMod]
@[simp ↓] theorem tileMod_mem (s : State) (k : Nat) (f : Tile → Tile) (h : Memory.wf s.mem = true) : Memory.wf (tileMod s k f).mem = true := by
  simp (maxDischargeDepth := 40) [tileMod, *]
@[simp ↓] theorem tileStrobe_pending (s : State) (k : Nat) (si : StrobeIn) : (tileStrobe s k si).pending = s.pending := by
  unfold tileStrobe; dsimp only; (repeat' split) <;> simp (maxDischargeDepth := 40) [*]
@[simp ↓] theorem tileStrobe_mem (s : State) (k : Nat) (si : StrobeIn) (h : Memory.wf s.mem = true) : Memory.wf (tileStrobe s k si).mem = true := by
  unfold tileStrobe; dsimp only; (repeat' split) <;> simp (maxDischargeDepth := 40) [*]
@[simp ↓] theorem hdrErr_pending (s : State) (k : Nat) (chk : FrameChk) : (hdrErr s k chk).pending = s.pending := by
  unfold hdrErr; split <;> simp (maxDischargeDepth := 40) [*]
@[simp ↓] theorem hdrErr_mem (s : State) (k : Nat) (chk : FrameChk) (h : Memory.wf s.mem = true) : Memory.wf (hdrErr s k chk).mem = true := by
  unfold hdrErr; split <;> simp (maxDischargeDepth := 40) [*]
@[simp ↓] theorem tileFrame_pending (s : State) (k : Nat) (chk : FrameChk) (payload : Bool) (act : Tile → Tile) : (tileFrame s k chk payload act).pending = s.pending := by
  simp (maxDischargeDepth := 40) [tileFrame]
@[simp ↓] theorem tileFrame_mem (s : State) (k : Nat) (chk : FrameChk) (payload : Bool) (act : Tile → Tile) (h : Memory.wf s.mem = true) : Memory.wf (tileFrame s k chk payload act).mem = true := by
  simp (maxDischargeDepth := 40) [tileFrame, *]

end Sys2Proof.Laws
end

