-- ==== Sys2Proof/Laws/KeepChain.lean ====
section
/-! SUPPORT. What every operation of `Machine/Chain.lean` leaves alone: the queue of waiting commands, and the canonical form of host memory. -/

namespace Sys2Proof.Laws

open Sys2Proof.Machine

@[simp ↓] theorem launch_pending (s : State) (portB : Bool) (ty : Nat) (count : Nat) (snum : Nat) (arg : Nat) (payload : List Byte) : (launch s portB ty count snum arg payload).pending = s.pending := by
  simp (maxDischargeDepth := 40) [launch]
@[simp ↓] theorem launch_mem (s : State) (portB : Bool) (ty : Nat) (count : Nat) (snum : Nat) (arg : Nat) (payload : List Byte) (h : Memory.wf s.mem = true) : Memory.wf (launch s portB ty count snum arg payload).mem = true := by
  simp (maxDischargeDepth := 40) [launch, *]
@[simp ↓] theorem launchRead_pending (s : State) (portB : Bool) (ty : Nat) (snum : Nat) (mask : Nat) : (launchRead s portB ty snum mask).pending = s.pending := by
  simp (maxDischargeDepth := 40) [launchRead]
@[simp ↓] theorem launchRead_mem (s : State) (portB : Bool) (ty : Nat) (snum : Nat) (mask : Nat) (h : Memory.wf s.mem = true) : Memory.wf (launchRead s portB ty snum mask).mem = true := by
  simp (maxDischargeDepth := 40) [launchRead, *]
@[simp ↓] theorem launchProbe_pending (s : State) : (launchProbe s).pending = s.pending := by
  simp (maxDischargeDepth := 40) [launchProbe]
@[simp ↓] theorem launchProbe_mem (s : State) (h : Memory.wf s.mem = true) : Memory.wf (launchProbe s).mem = true := by
  simp (maxDischargeDepth := 40) [launchProbe, *]
@[simp ↓] theorem launchSample_pending (s : State) (portB : Bool) (snum : Nat) (mask : Nat) : (launchSample s portB snum mask).pending = s.pending := by
  simp (maxDischargeDepth := 40) [launchSample]
@[simp ↓] theorem launchSample_mem (s : State) (portB : Bool) (snum : Nat) (mask : Nat) (h : Memory.wf s.mem = true) : Memory.wf (launchSample s portB snum mask).mem = true := by
  simp (maxDischargeDepth := 40) [launchSample, *]
@[simp ↓] theorem instLaunch_pending (s : State) (snum : Nat) : (instLaunch s snum).pending = s.pending := by
  simp (maxDischargeDepth := 40) [instLaunch]
@[simp ↓] theorem instLaunch_mem (s : State) (snum : Nat) (h : Memory.wf s.mem = true) : Memory.wf (instLaunch s snum).mem = true := by
  simp (maxDischargeDepth := 40) [instLaunch, *]
@[simp ↓] theorem wakeWalk_pending (s : State) (ks : List (Nat × Nat)) : (wakeWalk s ks).pending = s.pending := by
  induction ks generalizing s with
  | nil => rfl
  | cons k t ih => unfold wakeWalk; split <;> simp [ih]
@[simp ↓] theorem wakeWalk_mem (s : State) (ks : List (Nat × Nat)) (h : Memory.wf s.mem = true) : Memory.wf (wakeWalk s ks).mem = true := by
  induction ks generalizing s with
  | nil => exact h
  | cons k t ih => unfold wakeWalk; split <;> simp [ih, h]
@[simp ↓] theorem chainReport_pending (s : State) (kind : Nat) (tile : Nat) (missing : Nat) (sig : Nat) : (chainReport s kind tile missing sig).pending = s.pending := by
  simp (maxDischargeDepth := 40) [chainReport]
@[simp ↓] theorem chainReport_mem (s : State) (kind : Nat) (tile : Nat) (missing : Nat) (sig : Nat) (h : Memory.wf s.mem = true) : Memory.wf (chainReport s kind tile missing sig).mem = true := by
  simp +contextual (maxDischargeDepth := 40) [chainReport, *]
@[simp ↓] theorem enumWalk_pending (s : State) (up : Bool) (ks : List Nat) (i : Nat) (j : List Nat) :
    (enumWalk s up ks i j).1.pending = s.pending := by
  induction ks generalizing s i j with
  | nil => rfl
  | cons k t ih => simp [enumWalk, ih]
@[simp ↓] theorem enumWalk_mem (s : State) (up : Bool) (ks : List Nat) (i : Nat) (j : List Nat) (h : Memory.wf s.mem = true) :
    Memory.wf (enumWalk s up ks i j).1.mem = true := by
  induction ks generalizing s i j with
  | nil => exact h
  | cons k t ih => unfold enumWalk; dsimp only; apply ih; split <;> simp (maxDischargeDepth := 40) [h]
@[simp ↓] theorem enumPass_pending (s : State) (portB : Bool) : (enumPass s portB).1.pending = s.pending := by
  unfold enumPass; dsimp only; simp
@[simp ↓] theorem enumPass_mem (s : State) (portB : Bool) (h : Memory.wf s.mem = true) : Memory.wf (enumPass s portB).1.mem = true := by
  unfold enumPass; dsimp only; split <;> simp (maxDischargeDepth := 40) [h]
@[simp ↓] theorem afterEnum_pending (s : State) : (afterEnum s).pending = s.pending := by
  simp (maxDischargeDepth := 40) [afterEnum]
@[simp ↓] theorem afterEnum_mem (s : State) (h : Memory.wf s.mem = true) : Memory.wf (afterEnum s).mem = true := by
  simp (maxDischargeDepth := 40) [afterEnum, *]
@[simp ↓] theorem trimCheck_pending (s : State) (p : Nat) : (trimCheck s p).pending = s.pending := by
  unfold trimCheck; (repeat' split) <;> simp (maxDischargeDepth := 40) [*]
@[simp ↓] theorem trimCheck_mem (s : State) (p : Nat) (h : Memory.wf s.mem = true) : Memory.wf (trimCheck s p).mem = true := by
  unfold trimCheck; (repeat' split) <;> simp (maxDischargeDepth := 40) [*]
@[simp ↓] theorem dlyWrite_pending (s : State) : (dlyWrite s).pending = s.pending := by
  simp (maxDischargeDepth := 40) [dlyWrite]
@[simp ↓] theorem dlyWrite_mem (s : State) (h : Memory.wf s.mem = true) : Memory.wf (dlyWrite s).mem = true := by
  simp (maxDischargeDepth := 40) [dlyWrite, *]
@[simp ↓] theorem dlyForce_pending (s : State) (ds : List (Nat × Nat × Nat)) : (dlyForce s ds).pending = s.pending := by
  simp (maxDischargeDepth := 40) [dlyForce]
@[simp ↓] theorem dlyForce_mem (s : State) (ds : List (Nat × Nat × Nat)) (h : Memory.wf s.mem = true) : Memory.wf (dlyForce s ds).mem = true := by
  simp +contextual (maxDischargeDepth := 40) [dlyForce, *]
@[simp ↓] theorem dlyNominal_pending (s : State) : (dlyNominal s).pending = s.pending := by
  simp (maxDischargeDepth := 40) [dlyNominal]
@[simp ↓] theorem dlyNominal_mem (s : State) (h : Memory.wf s.mem = true) : Memory.wf (dlyNominal s).mem = true := by
  simp (maxDischargeDepth := 40) [dlyNominal, *]
@[simp ↓] theorem dlyMarks_pending (s : State) (marks : List (Option Nat)) : (dlyMarks s marks).pending = s.pending := by
  simp (maxDischargeDepth := 40) [dlyMarks]
@[simp ↓] theorem dlyMarks_mem (s : State) (marks : List (Option Nat)) (h : Memory.wf s.mem = true) : Memory.wf (dlyMarks s marks).mem = true := by
  simp (maxDischargeDepth := 40) [dlyMarks, *]
@[simp ↓] theorem dlyMeasured_pending (s0 : State) (tAB : Nat) (tBA : Nat) (marks : List (Option Nat)) : (dlyMeasured s0 tAB tBA marks).pending = s0.pending := by
  simp (maxDischargeDepth := 40) [dlyMeasured]
@[simp ↓] theorem dlyMeasured_mem (s0 : State) (tAB : Nat) (tBA : Nat) (marks : List (Option Nat)) (h : Memory.wf s0.mem = true) : Memory.wf (dlyMeasured s0 tAB tBA marks).mem = true := by
  simp (maxDischargeDepth := 40) [dlyMeasured, *]
@[simp ↓] theorem dlyRun_pending (s : State) (tAB : Nat) (tBA : Nat) (marks : List (Option Nat)) : (dlyRun s tAB tBA marks).pending = s.pending := by
  simp (maxDischargeDepth := 40) [dlyRun]
@[simp ↓] theorem dlyRun_mem (s : State) (tAB : Nat) (tBA : Nat) (marks : List (Option Nat)) (h : Memory.wf s.mem = true) : Memory.wf (dlyRun s tAB tBA marks).mem = true := by
  simp (maxDischargeDepth := 40) [dlyRun, *]
@[simp ↓] theorem dlyPartner_pending (s : State) : (dlyPartner s).pending = s.pending := by
  simp (maxDischargeDepth := 40) [dlyPartner]
@[simp ↓] theorem dlyPartner_mem (s : State) (h : Memory.wf s.mem = true) : Memory.wf (dlyPartner s).mem = true := by
  simp (maxDischargeDepth := 40) [dlyPartner, *]
@[simp ↓] theorem ringOpen_pending (s : State) : (ringOpen s).pending = s.pending := by
  simp (maxDischargeDepth := 40) [ringOpen]
@[simp ↓] theorem ringOpen_mem (s : State) (h : Memory.wf s.mem = true) : Memory.wf (ringOpen s).mem = true := by
  simp (maxDischargeDepth := 40) [ringOpen, *]
@[simp ↓] theorem locate_pending (s : State) : (locate s).pending = s.pending := by
  simp (maxDischargeDepth := 40) [locate]
@[simp ↓] theorem locate_mem (s : State) (h : Memory.wf s.mem = true) : Memory.wf (locate s).mem = true := by
  simp (maxDischargeDepth := 40) [locate, *]
@[simp ↓] theorem slotReturn_pending (s : State) (pos : Nat) (bs : List Byte) (hold : Bool) : (slotReturn s pos bs hold).pending = s.pending := by
  simp (maxDischargeDepth := 40) [slotReturn]
@[simp ↓] theorem slotReturn_mem (s : State) (pos : Nat) (bs : List Byte) (hold : Bool) (h : Memory.wf s.mem = true) : Memory.wf (slotReturn s pos bs hold).mem = true := by
  simp (maxDischargeDepth := 40) [slotReturn, *]
@[simp ↓] theorem readOff_pending (s : State) (p : Nat) : (readOff s p).pending = s.pending := by
  simp (maxDischargeDepth := 40) [readOff]
@[simp ↓] theorem readOff_mem (s : State) (p : Nat) (h : Memory.wf s.mem = true) : Memory.wf (readOff s p).mem = true := by
  simp (maxDischargeDepth := 40) [readOff, *]
@[simp ↓] theorem portCode_pending (s : State) (portB : Bool) (n : Nat) : (portCode s portB n).pending = s.pending := by
  simp (maxDischargeDepth := 40) [portCode]
@[simp ↓] theorem portCode_mem (s : State) (portB : Bool) (n : Nat) (h : Memory.wf s.mem = true) : Memory.wf (portCode s portB n).mem = true := by
  simp (maxDischargeDepth := 40) [portCode, *]
@[simp ↓] theorem readSlot_pending (s : State) (k : Nat) (sinceNs : Nat) (fate : SlotFate) (hold : Bool) : (readSlot s k sinceNs fate hold).pending = s.pending := by
  unfold readSlot; (repeat' split) <;> simp (maxDischargeDepth := 40) [*]
@[simp ↓] theorem readSlot_mem (s : State) (k : Nat) (sinceNs : Nat) (fate : SlotFate) (hold : Bool) (h : Memory.wf s.mem = true) : Memory.wf (readSlot s k sinceNs fate hold).mem = true := by
  unfold readSlot; (repeat' split) <;> simp (maxDischargeDepth := 40) [*]
@[simp ↓] theorem holdLaunch_pending (s : State) (portB : Bool) (mask : Nat) : (holdLaunch s portB mask).pending = s.pending := by
  unfold holdLaunch; split <;> simp (maxDischargeDepth := 40) [*]
@[simp ↓] theorem holdLaunch_mem (s : State) (portB : Bool) (mask : Nat) (h : Memory.wf s.mem = true) : Memory.wf (holdLaunch s portB mask).mem = true := by
  unfold holdLaunch; split <;> simp (maxDischargeDepth := 40) [*]
@[simp ↓] theorem chainTileRd_pending (e : Entry) (s : State) : (chainTileRd e s).1.pending = s.pending := by
  unfold chainTileRd; (repeat' split) <;> simp (maxDischargeDepth := 40) [*]
@[simp ↓] theorem chainTileRd_mem (e : Entry) (s : State) (h : Memory.wf s.mem = true) : Memory.wf (chainTileRd e s).1.mem = true := by
  unfold chainTileRd; (repeat' split) <;> simp (maxDischargeDepth := 40) [*]
@[simp ↓] theorem chainProbe_pending (x0 : Entry) (s : State) : (chainProbe x0 s).1.pending = s.pending := by
  simp (maxDischargeDepth := 40) [chainProbe]
@[simp ↓] theorem chainProbe_mem (x0 : Entry) (s : State) (h : Memory.wf s.mem = true) : Memory.wf (chainProbe x0 s).1.mem = true := by
  simp (maxDischargeDepth := 40) [chainProbe, *]
@[simp ↓] theorem chainDlyMeasure_pending (tAB : Nat) (tBA : Nat) (marks : List (Option Nat)) (x0 : Entry) (s : State) : (chainDlyMeasure tAB tBA marks x0 s).1.pending = s.pending := by
  simp (maxDischargeDepth := 40) [chainDlyMeasure]
@[simp ↓] theorem chainDlyMeasure_mem (tAB : Nat) (tBA : Nat) (marks : List (Option Nat)) (x0 : Entry) (s : State) (h : Memory.wf s.mem = true) : Memory.wf (chainDlyMeasure tAB tBA marks x0 s).1.mem = true := by
  simp (maxDischargeDepth := 40) [chainDlyMeasure, *]
@[simp ↓] theorem chainTileSnap_pending (e : Entry) (s : State) : (chainTileSnap e s).1.pending = s.pending := by
  simp (maxDischargeDepth := 40) [chainTileSnap]
@[simp ↓] theorem chainTileSnap_mem (e : Entry) (s : State) (h : Memory.wf s.mem = true) : Memory.wf (chainTileSnap e s).1.mem = true := by
  simp (maxDischargeDepth := 40) [chainTileSnap, *]
@[simp ↓] theorem hopCut_pending (s : State) (h : Nat) : (hopCut s h).pending = s.pending := by
  simp (maxDischargeDepth := 40) [hopCut]
@[simp ↓] theorem hopCut_mem (s : State) (h : Nat) (hm : Memory.wf s.mem = true) : Memory.wf (hopCut s h).mem = true := by
  simp (maxDischargeDepth := 40) [hopCut, *]
@[simp ↓] theorem tileLoses_pending (s : State) (k : Nat) (x3 : Bool) (codes : Nat) : (tileLoses s k x3 codes).pending = s.pending := by
  simp (maxDischargeDepth := 40) [tileLoses]
@[simp ↓] theorem tileLoses_mem (s : State) (k : Nat) (x3 : Bool) (codes : Nat) (h : Memory.wf s.mem = true) : Memory.wf (tileLoses s k x3 codes).mem = true := by
  simp (maxDischargeDepth := 40) [tileLoses, *]

end Sys2Proof.Laws
end

