-- ==== Sys2Proof/Laws/KeepMeas.lean ====
section
/-! SUPPORT. What every operation of `Machine/Meas.lean` leaves alone: the queue of waiting commands, and the canonical form of host memory. -/

namespace Sys2Proof.Laws

open Sys2Proof.Machine

@[simp ↓] theorem measSupersede_pending (s : State) : (measSupersede s).pending = s.pending := by
  simp (maxDischargeDepth := 40) [measSupersede]
@[simp ↓] theorem measSupersede_mem (s : State) (h : Memory.wf s.mem = true) : Memory.wf (measSupersede s).mem = true := by
  simp (maxDischargeDepth := 40) [measSupersede, *]
@[simp ↓] theorem measPend_pending (s : State) (p : MeasPend) : (measPend s p).1.pending = s.pending := by
  simp (maxDischargeDepth := 40) [measPend]
@[simp ↓] theorem measPend_mem (s : State) (p : MeasPend) (h : Memory.wf s.mem = true) : Memory.wf (measPend s p).1.mem = true := by
  simp (maxDischargeDepth := 40) [measPend, *]
@[simp ↓] theorem measCommit_pending (e : Entry) (s : State) : (measCommit e s).1.pending = s.pending := by
  unfold measCommit withBuf; dsimp only; (repeat' split) <;> simp (maxDischargeDepth := 40) [*]
@[simp ↓] theorem measCommit_mem (e : Entry) (s : State) (h : Memory.wf s.mem = true) : Memory.wf (measCommit e s).1.mem = true := by
  unfold measCommit withBuf; dsimp only; (repeat' split) <;> simp (maxDischargeDepth := 40) [*]
@[simp ↓] theorem measRevert_pending (x0 : Entry) (s : State) : (measRevert x0 s).1.pending = s.pending := by
  simp (maxDischargeDepth := 40) [measRevert]
@[simp ↓] theorem measRevert_mem (x0 : Entry) (s : State) (h : Memory.wf s.mem = true) : Memory.wf (measRevert x0 s).1.mem = true := by
  simp (maxDischargeDepth := 40) [measRevert, *]
@[simp ↓] theorem carrierFollow_pending (s : State) : (carrierFollow s).pending = s.pending := by
  simp (maxDischargeDepth := 40) [carrierFollow]
@[simp ↓] theorem carrierFollow_mem (s : State) (h : Memory.wf s.mem = true) : Memory.wf (carrierFollow s).mem = true := by
  simp (maxDischargeDepth := 40) [carrierFollow, *]
@[simp ↓] theorem sweepItems_pending (s : State) : (sweepItems s).pending = s.pending := by
  simp (maxDischargeDepth := 40) [sweepItems]
@[simp ↓] theorem sweepItems_mem (s : State) (h : Memory.wf s.mem = true) : Memory.wf (sweepItems s).mem = true := by
  simp (maxDischargeDepth := 40) [sweepItems, *]
@[simp ↓] theorem measBoundary_pending (s : State) : (measBoundary s).pending = s.pending := by
  unfold measBoundary; dsimp only; (repeat' split) <;> simp (maxDischargeDepth := 40) [*]
@[simp ↓] theorem measBoundary_mem (s : State) (h : Memory.wf s.mem = true) : Memory.wf (measBoundary s).mem = true := by
  unfold measBoundary; dsimp only; (repeat' split) <;> simp (maxDischargeDepth := 40) [*]
@[simp ↓] theorem measSkip_pending (s : State) (gap : Int) : (measSkip s gap).pending = s.pending := by
  simp (maxDischargeDepth := 40) [measSkip]
@[simp ↓] theorem measSkip_mem (s : State) (gap : Int) (h : Memory.wf s.mem = true) : Memory.wf (measSkip s gap).mem = true := by
  simp (maxDischargeDepth := 40) [measSkip, *]
@[simp ↓] theorem measDrop_pending (s : State) (n : Nat) : (measDrop s n).pending = s.pending := by
  induction n generalizing s with
  | zero => rfl
  | succ n ih => unfold measDrop; (repeat' split) <;> simp [ih]
@[simp ↓] theorem measDrop_mem (s : State) (n : Nat) (h : Memory.wf s.mem = true) : Memory.wf (measDrop s n).mem = true := by
  induction n generalizing s with
  | zero => exact h
  | succ n ih => unfold measDrop; (repeat' split) <;> simp [ih, h]
@[simp ↓] theorem carrierChange_pending (s : State) : (carrierChange s).pending = s.pending := by
  unfold carrierChange; split
  · rfl
  · exact measDrop_pending _ _
@[simp ↓] theorem carrierChange_mem (s : State) (h : Memory.wf s.mem = true) : Memory.wf (carrierChange s).mem = true := by
  unfold carrierChange; split
  · exact h
  · exact measDrop_mem _ _ h
@[simp ↓] theorem measQuarter_pending (qp : Nat) (e : Entry) (s : State) : (measQuarter qp e s).1.pending = s.pending := by
  simp (maxDischargeDepth := 40) [measQuarter]
@[simp ↓] theorem measQuarter_mem (qp : Nat) (e : Entry) (s : State) (h : Memory.wf s.mem = true) : Memory.wf (measQuarter qp e s).1.mem = true := by
  simp (maxDischargeDepth := 40) [measQuarter, *]

end Sys2Proof.Laws
end

