-- ==== Sys2Proof/Laws/KeepHvm.lean ====
section
/-! SUPPORT. What every operation of `Machine/Hvm.lean` leaves alone: the queue of waiting commands, and the canonical form of host memory. -/

namespace Sys2Proof.Laws

open Sys2Proof.Machine

@[simp ↓] theorem hvmShow_pending (s : State) : (hvmShow s).pending = s.pending := by
  simp (maxDischargeDepth := 40) [hvmShow]
@[simp ↓] theorem hvmShow_mem (s : State) (h : Memory.wf s.mem = true) : Memory.wf (hvmShow s).mem = true := by
  simp (maxDischargeDepth := 40) [hvmShow, *]
@[simp ↓] theorem hallFollow_pending (s : State) (sig : Int) (ref : Int) : (hallFollow s sig ref).pending = s.pending := by
  simp (maxDischargeDepth := 40) [hallFollow]
@[simp ↓] theorem hallFollow_mem (s : State) (sig : Int) (ref : Int) (h : Memory.wf s.mem = true) : Memory.wf (hallFollow s sig ref).mem = true := by
  simp (maxDischargeDepth := 40) [hallFollow, *]
@[simp ↓] theorem shuntFault_pending (s : State) (cm : Bool) : (shuntFault s cm).pending = s.pending := by
  simp (maxDischargeDepth := 40) [shuntFault]
@[simp ↓] theorem shuntFault_mem (s : State) (cm : Bool) (h : Memory.wf s.mem = true) : Memory.wf (shuntFault s cm).mem = true := by
  simp (maxDischargeDepth := 40) [shuntFault, *]
@[simp ↓] theorem overCount_pending (s : State) (n : Nat) (now : Bool) : (overCount s n now).pending = s.pending := by
  simp (maxDischargeDepth := 40) [overCount]
@[simp ↓] theorem overCount_mem (s : State) (n : Nat) (now : Bool) (h : Memory.wf s.mem = true) : Memory.wf (overCount s n now).mem = true := by
  simp (maxDischargeDepth := 40) [overCount, *]
@[simp ↓] theorem hvmTake_pending (s : State) (hv : HvmIn) : (hvmTake s hv).pending = s.pending := by
  simp (maxDischargeDepth := 40) [hvmTake]
@[simp ↓] theorem hvmTake_mem (s : State) (hv : HvmIn) (h : Memory.wf s.mem = true) : Memory.wf (hvmTake s hv).mem = true := by
  simp (maxDischargeDepth := 40) [hvmTake, *]
@[simp ↓] theorem hvmWrite_pending (s : State) (bs : List Byte) : (hvmWrite s bs).pending = s.pending := by
  simp (maxDischargeDepth := 40) [hvmWrite]
@[simp ↓] theorem hvmWrite_mem (s : State) (bs : List Byte) (h : Memory.wf s.mem = true) : Memory.wf (hvmWrite s bs).mem = true := by
  simp +contextual (maxDischargeDepth := 40) [hvmWrite, *]
@[simp ↓] theorem isoBegin_pending (s : State) : (isoBegin s).pending = s.pending := by
  simp (maxDischargeDepth := 40) [isoBegin]
@[simp ↓] theorem isoBegin_mem (s : State) (h : Memory.wf s.mem = true) : Memory.wf (isoBegin s).mem = true := by
  simp (maxDischargeDepth := 40) [isoBegin, *]
@[simp ↓] theorem isoNext_pending (s : State) : (isoNext s).pending = s.pending := by
  simp (maxDischargeDepth := 40) [isoNext]
@[simp ↓] theorem isoNext_mem (s : State) (h : Memory.wf s.mem = true) : Memory.wf (isoNext s).mem = true := by
  simp (maxDischargeDepth := 40) [isoNext, *]
@[simp ↓] theorem isoQuiet_pending (s : State) : (isoQuiet s).pending = s.pending := by
  simp (maxDischargeDepth := 40) [isoQuiet]
@[simp ↓] theorem isoQuiet_mem (s : State) (h : Memory.wf s.mem = true) : Memory.wf (isoQuiet s).mem = true := by
  simp (maxDischargeDepth := 40) [isoQuiet, *]
@[simp ↓] theorem isoAbort_pending (s : State) : (isoAbort s).pending = s.pending := by
  simp (maxDischargeDepth := 40) [isoAbort]
@[simp ↓] theorem isoAbort_mem (s : State) (h : Memory.wf s.mem = true) : Memory.wf (isoAbort s).mem = true := by
  simp (maxDischargeDepth := 40) [isoAbort, *]
@[simp ↓] theorem isoPhase_pending (s : State) (vc : Int) (u100 : Int) (moved : Int) (uMin : Int) : (isoPhase s vc u100 moved uMin).pending = s.pending := by
  unfold isoPhase; split <;> simp (maxDischargeDepth := 40) [*]
@[simp ↓] theorem isoPhase_mem (s : State) (vc : Int) (u100 : Int) (moved : Int) (uMin : Int) (h : Memory.wf s.mem = true) : Memory.wf (isoPhase s vc u100 moved uMin).mem = true := by
  unfold isoPhase; split <;> simp (maxDischargeDepth := 40) [*]
@[simp ↓] theorem isoEnd_pending (s : State) : (isoEnd s).pending = s.pending := by
  unfold isoEnd; dsimp only; (repeat' split) <;> simp (maxDischargeDepth := 40) [*]
@[simp ↓] theorem isoEnd_mem (s : State) (h : Memory.wf s.mem = true) : Memory.wf (isoEnd s).mem = true := by
  unfold isoEnd; dsimp only; (repeat' split) <;> simp (maxDischargeDepth := 40) [*]
@[simp ↓] theorem hvmStart_pending (s : State) : (hvmStart s).pending = s.pending := by
  simp (maxDischargeDepth := 40) [hvmStart]
@[simp ↓] theorem hvmStart_mem (s : State) (h : Memory.wf s.mem = true) : Memory.wf (hvmStart s).mem = true := by
  simp (maxDischargeDepth := 40) [hvmStart, *]

end Sys2Proof.Laws
end

