-- ==== Sys2Proof/Laws/KeepBal.lean ====
section
/-! SUPPORT. What every operation of `Machine/Bal.lean` leaves alone: the queue of waiting commands, and the canonical form of host memory. -/

namespace Sys2Proof.Laws

open Sys2Proof.Machine

@[simp ↓] theorem balWrite_pending (s : State) (p : Nat) (new : List Nat) : (balWrite s p new).pending = s.pending := by
  unfold balWrite; split <;> simp (maxDischargeDepth := 40) [*]
@[simp ↓] theorem balWrite_mem (s : State) (p : Nat) (new : List Nat) (h : Memory.wf s.mem = true) : Memory.wf (balWrite s p new).mem = true := by
  unfold balWrite; split <;> simp (maxDischargeDepth := 40) [*]
@[simp ↓] theorem tileAtPos_pending (s : State) (p : Nat) (f : Tile → Tile) : (tileAtPos s p f).pending = s.pending := by
  unfold tileAtPos; split <;> simp (maxDischargeDepth := 40) [*]
@[simp ↓] theorem tileAtPos_mem (s : State) (p : Nat) (f : Tile → Tile) (h : Memory.wf s.mem = true) : Memory.wf (tileAtPos s p f).mem = true := by
  unfold tileAtPos; split <;> simp (maxDischargeDepth := 40) [*]
@[simp ↓] theorem balSetTimers_pending (e : Entry) (s : State) : (balSetTimers e s).1.pending = s.pending := by
  unfold balSetTimers withBuf; dsimp only; (repeat' split) <;> simp (maxDischargeDepth := 40) [*]
@[simp ↓] theorem balSetTimers_mem (e : Entry) (s : State) (h : Memory.wf s.mem = true) : Memory.wf (balSetTimers e s).1.mem = true := by
  unfold balSetTimers withBuf; dsimp only; (repeat' split) <;> simp +contextual (maxDischargeDepth := 40) [*]
@[simp ↓] theorem balStop_pending (e : Entry) (s : State) : (balStop e s).1.pending = s.pending := by
  simp (maxDischargeDepth := 40) [balStop]
@[simp ↓] theorem balStop_mem (e : Entry) (s : State) (h : Memory.wf s.mem = true) : Memory.wf (balStop e s).1.mem = true := by
  simp +contextual (maxDischargeDepth := 40) [balStop, *]
@[simp ↓] theorem balSnapOp_pending (e : Entry) (s : State) : (balSnapOp e s).1.pending = s.pending := by
  simp (maxDischargeDepth := 40) [balSnapOp]
@[simp ↓] theorem balSnapOp_mem (e : Entry) (s : State) (h : Memory.wf s.mem = true) : Memory.wf (balSnapOp e s).1.mem = true := by
  simp (maxDischargeDepth := 40) [balSnapOp, *]
@[simp ↓] theorem balTapCal_pending (iMa : Int) (e : Entry) (s : State) : (balTapCal iMa e s).1.pending = s.pending := by
  simp (maxDischargeDepth := 40) [balTapCal]
@[simp ↓] theorem balTapCal_mem (iMa : Int) (e : Entry) (s : State) (h : Memory.wf s.mem = true) : Memory.wf (balTapCal iMa e s).1.mem = true := by
  simp +contextual (maxDischargeDepth := 40) [balTapCal, *]
@[simp ↓] theorem calFinish_pending (s : State) (status : Nat) (result : Nat) (buf : List Byte) : (calFinish s status result buf).pending = s.pending := by
  unfold calFinish; split <;> simp (maxDischargeDepth := 40) [*]
@[simp ↓] theorem calFinish_mem (s : State) (status : Nat) (result : Nat) (buf : List Byte) (h : Memory.wf s.mem = true) : Memory.wf (calFinish s status result buf).mem = true := by
  unfold calFinish; split <;> simp (maxDischargeDepth := 40) [*]
@[simp ↓] theorem balCalDone_pending (s : State) (iMax vMin vMax : Nat) (steps : List (List CalStep)) (tcals : List Nat) :
    (balCalDone s iMax vMin vMax steps tcals).pending = s.pending := by
  unfold balCalDone
  split
  · rfl
  · dsimp only; split
    · simp
    · refine (calFinish_pending _ _ _ _).trans ?_
      simp
@[simp ↓] theorem balCalDone_mem (s : State) (iMax vMin vMax : Nat) (steps : List (List CalStep)) (tcals : List Nat)
    (h : Memory.wf s.mem = true) : Memory.wf (balCalDone s iMax vMin vMax steps tcals).mem = true := by
  unfold balCalDone
  split
  · exact h
  · dsimp only; split
    · simp (maxDischargeDepth := 40) [h]
    · refine calFinish_mem _ _ _ _ ?_
      apply foldl_mem
      · intro s p hs; simp [hs]
      apply wr_mem
      apply foldl_mem
      · intro s p hs; simp [hs]
      split
      · exact cfgStore_mem _ _ (put_mem _ R.BAL_STATUS_CAL_RUN false h)
      · exact put_mem _ R.BAL_STATUS_CAL_RUN false h
@[simp ↓] theorem balRoundTile_pending (elapsed : Nat) (s : State) (p : Nat) : (balRoundTile elapsed s p).pending = s.pending := by
  unfold balRoundTile; split <;> simp (maxDischargeDepth := 40) [*]
@[simp ↓] theorem balRoundTile_mem (elapsed : Nat) (s : State) (p : Nat) (h : Memory.wf s.mem = true) : Memory.wf (balRoundTile elapsed s p).mem = true := by
  unfold balRoundTile; split <;> simp (maxDischargeDepth := 40) [*]
@[simp ↓] theorem balRound_pending (s : State) (elapsed : Nat) : (balRound s elapsed).pending = s.pending := by
  simp (maxDischargeDepth := 40) [balRound]
@[simp ↓] theorem balRound_mem (s : State) (elapsed : Nat) (h : Memory.wf s.mem = true) : Memory.wf (balRound s elapsed).mem = true := by
  simp +contextual (maxDischargeDepth := 40) [balRound, *]

end Sys2Proof.Laws
end

