-- ==== Sys2Proof/Laws/KeepEst.lean ====
section
/-! SUPPORT. What every operation of `Machine/Est.lean` leaves alone: the queue of waiting commands, and the canonical form of host memory. -/

namespace Sys2Proof.Laws

open Sys2Proof.Machine

@[simp ↓] theorem eisSaveOfs_pending (s : State) : (eisSaveOfs s).pending = s.pending := by
  simp (maxDischargeDepth := 40) [eisSaveOfs]
@[simp ↓] theorem eisSaveOfs_mem (s : State) (h : Memory.wf s.mem = true) : Memory.wf (eisSaveOfs s).mem = true := by
  simp +contextual (maxDischargeDepth := 40) [eisSaveOfs, *]
@[simp ↓] theorem estSnapshot_pending (s0 : State) (kind : Nat) : (estSnapshot s0 kind).2.pending = s0.pending := by
  simp (maxDischargeDepth := 40) [estSnapshot]
@[simp ↓] theorem estSnapshot_mem (s0 : State) (kind : Nat) (h : Memory.wf s0.mem = true) : Memory.wf (estSnapshot s0 kind).2.mem = true := by
  simp (maxDischargeDepth := 40) [estSnapshot, *]
@[simp ↓] theorem recsUnder_pending (s : State) (ch : Chem) : (recsUnder s ch).pending = s.pending := by
  simp (maxDischargeDepth := 40) [recsUnder]
@[simp ↓] theorem recsUnder_mem (s : State) (ch : Chem) (h : Memory.wf s.mem = true) : Memory.wf (recsUnder s ch).mem = true := by
  simp (maxDischargeDepth := 40) [recsUnder, *]
@[simp ↓] theorem estCommitNow_pending (s0 : State) : (estCommitNow s0).pending = s0.pending := by
  unfold estCommitNow; split <;> simp (maxDischargeDepth := 40) [*]
@[simp ↓] theorem estCommitNow_mem (s0 : State) (h : Memory.wf s0.mem = true) : Memory.wf (estCommitNow s0).mem = true := by
  unfold estCommitNow; dsimp only; (repeat' split) <;> simp_all (maxDischargeDepth := 40)
@[simp ↓] theorem estStart_pending (s : State) : (estStart s).pending = s.pending := by
  unfold estStart; dsimp only; (repeat' split) <;> simp (maxDischargeDepth := 40) [*]
@[simp ↓] theorem estStart_mem (s : State) (h : Memory.wf s.mem = true) : Memory.wf (estStart s).mem = true := by
  unfold estStart; dsimp only; (repeat' split) <;> simp (maxDischargeDepth := 40) [*]
@[simp ↓] theorem sopInvalid_pending (s : State) : (sopInvalid s).pending = s.pending := by
  simp (maxDischargeDepth := 40) [sopInvalid]
@[simp ↓] theorem sopInvalid_mem (s : State) (h : Memory.wf s.mem = true) : Memory.wf (sopInvalid s).mem = true := by
  simp (maxDischargeDepth := 40) [sopInvalid, *]
@[simp ↓] theorem estEnable_pending (x0 : Entry) (s : State) : (estEnable x0 s).1.pending = s.pending := by
  simp (maxDischargeDepth := 40) [estEnable]
@[simp ↓] theorem estEnable_mem (x0 : Entry) (s : State) (h : Memory.wf s.mem = true) : Memory.wf (estEnable x0 s).1.mem = true := by
  simp (maxDischargeDepth := 40) [estEnable, *]
@[simp ↓] theorem estDisable_pending (x0 : Entry) (s : State) : (estDisable x0 s).1.pending = s.pending := by
  simp (maxDischargeDepth := 40) [estDisable]
@[simp ↓] theorem estDisable_mem (x0 : Entry) (s : State) (h : Memory.wf s.mem = true) : Memory.wf (estDisable x0 s).1.mem = true := by
  simp (maxDischargeDepth := 40) [estDisable, *]
@[simp ↓] theorem estCommit_pending (e : Entry) (s : State) : (estCommit e s).1.pending = s.pending := by
  unfold estCommit; dsimp only; (repeat' split) <;> simp (maxDischargeDepth := 40) [*]
@[simp ↓] theorem estCommit_mem (e : Entry) (s : State) (h : Memory.wf s.mem = true) : Memory.wf (estCommit e s).1.mem = true := by
  unfold estCommit; dsimp only; (repeat' split) <;> simp (maxDischargeDepth := 40) [*]
@[simp ↓] theorem estCellReset_pending (e : Entry) (s : State) : (estCellReset e s).1.pending = s.pending := by
  simp (maxDischargeDepth := 40) [estCellReset]
@[simp ↓] theorem estCellReset_mem (e : Entry) (s : State) (h : Memory.wf s.mem = true) : Memory.wf (estCellReset e s).1.mem = true := by
  simp (maxDischargeDepth := 40) [estCellReset, *]
@[simp ↓] theorem estSnapshotOp_pending (x0 : Entry) (s : State) : (estSnapshotOp x0 s).1.pending = s.pending := by
  simp (maxDischargeDepth := 40) [estSnapshotOp]
@[simp ↓] theorem estSnapshotOp_mem (x0 : Entry) (s : State) (h : Memory.wf s.mem = true) : Memory.wf (estSnapshotOp x0 s).1.mem = true := by
  simp (maxDischargeDepth := 40) [estSnapshotOp, *]
@[simp ↓] theorem estCounts_pending (s : State) (decided : Bool) : (estCounts s decided).pending = s.pending := by
  simp (maxDischargeDepth := 40) [estCounts]
@[simp ↓] theorem estCounts_mem (s : State) (decided : Bool) (h : Memory.wf s.mem = true) : Memory.wf (estCounts s decided).mem = true := by
  simp (maxDischargeDepth := 40) [estCounts, *]
@[simp ↓] theorem estCycleWith_pending (s0 : State) (ch : Chem) (w : EstWin) (iWin : Int) (alt : Bool) : (estCycleWith s0 ch w iWin alt).pending = s0.pending := by
  simp (maxDischargeDepth := 40) [estCycleWith]
@[simp ↓] theorem estCycleWith_mem (s0 : State) (ch : Chem) (w : EstWin) (iWin : Int) (alt : Bool) (h : Memory.wf s0.mem = true) : Memory.wf (estCycleWith s0 ch w iWin alt).mem = true := by
  simp +contextual (maxDischargeDepth := 40) [estCycleWith, *]
@[simp ↓] theorem estCycleRun_pending (s : State) (w : EstWin) (iWin : Int) (alt : Bool) : (estCycleRun s w iWin alt).pending = s.pending := by
  unfold estCycleRun; dsimp only; (repeat' split) <;> simp (maxDischargeDepth := 40) [*]
@[simp ↓] theorem estCycleRun_mem (s : State) (w : EstWin) (iWin : Int) (alt : Bool) (h : Memory.wf s.mem = true) : Memory.wf (estCycleRun s w iWin alt).mem = true := by
  unfold estCycleRun; dsimp only; (repeat' split) <;> simp (maxDischargeDepth := 40) [*]
@[simp ↓] theorem estCycle_pending (s : State) : (estCycle s).pending = s.pending := by
  unfold estCycle; (repeat' split) <;> simp (maxDischargeDepth := 40) [*]
@[simp ↓] theorem estCycle_mem (s : State) (h : Memory.wf s.mem = true) : Memory.wf (estCycle s).mem = true := by
  unfold estCycle; (repeat' split) <;> simp (maxDischargeDepth := 40) [*]
@[simp ↓] theorem sopEval_pending (s : State) : (sopEval s).pending = s.pending := by
  unfold sopEval; (repeat' split) <;> simp (maxDischargeDepth := 40) [*]
@[simp ↓] theorem sopEval_mem (s : State) (h : Memory.wf s.mem = true) : Memory.wf (sopEval s).mem = true := by
  unfold sopEval; dsimp only; (repeat' split) <;> simp_all (maxDischargeDepth := 40)
@[simp ↓] theorem estFlag_pending (s : State) (c : Nat) (f : EstCell → EstCell) : (estFlag s c f).pending = s.pending := by
  simp (maxDischargeDepth := 40) [estFlag]
@[simp ↓] theorem estFlag_mem (s : State) (c : Nat) (f : EstCell → EstCell) (h : Memory.wf s.mem = true) : Memory.wf (estFlag s c f).mem = true := by
  simp (maxDischargeDepth := 40) [estFlag, *]

end Sys2Proof.Laws
end

