-- ==== Sys2Proof/Laws/KeepEis.lean ====
section
/-! SUPPORT. What every operation of `Machine/Eis.lean` leaves alone: the queue of waiting commands, and the canonical form of host memory. -/

namespace Sys2Proof.Laws

open Sys2Proof.Machine

@[simp ↓] theorem eisShow_pending (s : State) : (eisShow s).pending = s.pending := by
  simp (maxDischargeDepth := 40) [eisShow]
@[simp ↓] theorem eisShow_mem (s : State) (h : Memory.wf s.mem = true) : Memory.wf (eisShow s).mem = true := by
  simp (maxDischargeDepth := 40) [eisShow, *]
@[simp ↓] theorem eisSeen_pending (s : State) (accum : Bool) (exc : Bool) : (eisSeen s accum exc).pending = s.pending := by
  simp (maxDischargeDepth := 40) [eisSeen]
@[simp ↓] theorem eisSeen_mem (s : State) (accum : Bool) (exc : Bool) (h : Memory.wf s.mem = true) : Memory.wf (eisSeen s accum exc).mem = true := by
  simp (maxDischargeDepth := 40) [eisSeen, *]
@[simp ↓] theorem eisComDone_pending (s : State) (first : Option Nat) : (eisComDone s first).pending = s.pending := by
  simp (maxDischargeDepth := 40) [eisComDone]
@[simp ↓] theorem eisComDone_mem (s : State) (first : Option Nat) (h : Memory.wf s.mem = true) : Memory.wf (eisComDone s first).mem = true := by
  simp (maxDischargeDepth := 40) [eisComDone, *]
@[simp ↓] theorem eisBegin_pending (s0 : State) (per : Nat) (snum : Nat) : (eisBegin s0 per snum).pending = s0.pending := by
  unfold eisBegin; dsimp only; (repeat' split) <;> simp (maxDischargeDepth := 40) [*]
@[simp ↓] theorem eisBegin_mem (s0 : State) (per : Nat) (snum : Nat) (h : Memory.wf s0.mem = true) : Memory.wf (eisBegin s0 per snum).mem = true := by
  unfold eisBegin; dsimp only; (repeat' split) <;> simp (maxDischargeDepth := 40) [*]
@[simp ↓] theorem eisPlan_pending (s : State) (p : Option (List Byte)) (t : Option (List Byte)) (rst : Bool) : (eisPlan s p t rst).pending = s.pending := rfl
@[simp ↓] theorem eisPlan_mem (s : State) (p : Option (List Byte)) (t : Option (List Byte)) (rst : Bool) (h : Memory.wf s.mem = true) :
    Memory.wf (eisPlan s p t rst).mem = true := h
@[simp ↓] theorem eisTake_pending (s : State) (p : List Byte) (t : Option (List Byte)) (rst : Bool) : (eisTake s p t rst).pending = s.pending := by
  simp (maxDischargeDepth := 40) [eisTake]
@[simp ↓] theorem eisTake_mem (s : State) (p : List Byte) (t : Option (List Byte)) (rst : Bool) (h : Memory.wf s.mem = true) : Memory.wf (eisTake s p t rst).mem = true := by
  simp (maxDischargeDepth := 40) [eisTake, *]
@[simp ↓] theorem eisCommitNow_pending (s : State) : (eisCommitNow s).pending = s.pending := by
  unfold eisCommitNow; dsimp only; (repeat' split) <;> simp (maxDischargeDepth := 40) [*]
@[simp ↓] theorem eisCommitNow_mem (s : State) (h : Memory.wf s.mem = true) : Memory.wf (eisCommitNow s).mem = true := by
  unfold eisCommitNow; dsimp only; (repeat' split) <;> simp (maxDischargeDepth := 40) [*]
@[simp ↓] theorem eisWrite_pending (s : State) (bs : List Byte) : (eisWrite s bs).pending = s.pending := by
  simp (maxDischargeDepth := 40) [eisWrite]
@[simp ↓] theorem eisWrite_mem (s : State) (bs : List Byte) (h : Memory.wf s.mem = true) : Memory.wf (eisWrite s bs).mem = true := by
  simp +contextual (maxDischargeDepth := 40) [eisWrite, *]
@[simp ↓] theorem eisOver_pending (s : State) : (eisOver s).pending = s.pending := by
  simp (maxDischargeDepth := 40) [eisOver]
@[simp ↓] theorem eisOver_mem (s : State) (h : Memory.wf s.mem = true) : Memory.wf (eisOver s).mem = true := by
  simp (maxDischargeDepth := 40) [eisOver, *]
@[simp ↓] theorem eisAbandon_pending (s : State) : (eisAbandon s).pending = s.pending := by
  unfold eisAbandon; split <;> simp (maxDischargeDepth := 40) [*]
@[simp ↓] theorem eisAbandon_mem (s : State) (h : Memory.wf s.mem = true) : Memory.wf (eisAbandon s).mem = true := by
  unfold eisAbandon; split <;> simp (maxDischargeDepth := 40) [*]
@[simp ↓] theorem eisIntEnd_pending (s : State) : (eisIntEnd s).pending = s.pending := by
  unfold eisIntEnd; dsimp only; (repeat' split) <;> simp (maxDischargeDepth := 40) [*]
@[simp ↓] theorem eisIntEnd_mem (s : State) (h : Memory.wf s.mem = true) : Memory.wf (eisIntEnd s).mem = true := by
  unfold eisIntEnd; dsimp only; (repeat' split) <;> simp (maxDischargeDepth := 40) [*]
@[simp ↓] theorem eisSegEnd_pending (s : State) : (eisSegEnd s).pending = s.pending := by
  unfold eisSegEnd; split <;> simp (maxDischargeDepth := 40) [*]
@[simp ↓] theorem eisSegEnd_mem (s : State) (h : Memory.wf s.mem = true) : Memory.wf (eisSegEnd s).mem = true := by
  unfold eisSegEnd; split <;> simp (maxDischargeDepth := 40) [*]
@[simp ↓] theorem eisStep_pending (s : State) (q : Nat) (sm : Option EisSample) : (eisStep s q sm).pending = s.pending := by
  unfold eisStep; split <;> simp (maxDischargeDepth := 40) [*]
@[simp ↓] theorem eisStep_mem (s : State) (q : Nat) (sm : Option EisSample) (h : Memory.wf s.mem = true) : Memory.wf (eisStep s q sm).mem = true := by
  unfold eisStep; split <;> simp (maxDischargeDepth := 40) [*]
@[simp ↓] theorem eisDrop_pending (s : State) : (eisDrop s).pending = s.pending := by
  simp (maxDischargeDepth := 40) [eisDrop]
@[simp ↓] theorem eisDrop_mem (s : State) (h : Memory.wf s.mem = true) : Memory.wf (eisDrop s).mem = true := by
  simp (maxDischargeDepth := 40) [eisDrop, *]
@[simp ↓] theorem eisAbsent_pending (s : State) (n : Nat) : (eisAbsent s n).pending = s.pending := by
  induction n generalizing s with
  | zero => rfl
  | succ n ih => unfold eisAbsent; split <;> simp [ih]
@[simp ↓] theorem eisAbsent_mem (s : State) (n : Nat) (h : Memory.wf s.mem = true) : Memory.wf (eisAbsent s n).mem = true := by
  induction n generalizing s with
  | zero => exact h
  | succ n ih =>
    unfold eisAbsent; split
    · exact h
    · exact ih _ (by simp (maxDischargeDepth := 40) [h])
@[simp ↓] theorem eisAbsentSegs_pending (s : State) (k : Nat) : (eisAbsentSegs s k).pending = s.pending := by
  unfold eisAbsentSegs; split <;> simp (maxDischargeDepth := 40) [*]
@[simp ↓] theorem eisAbsentSegs_mem (s : State) (k : Nat) (h : Memory.wf s.mem = true) : Memory.wf (eisAbsentSegs s k).mem = true := by
  unfold eisAbsentSegs; split <;> simp (maxDischargeDepth := 40) [*]
@[simp ↓] theorem eisHalt_pending (s : State) : (eisHalt s).pending = s.pending := by
  simp (maxDischargeDepth := 40) [eisHalt]
@[simp ↓] theorem eisHalt_mem (s : State) (h : Memory.wf s.mem = true) : Memory.wf (eisHalt s).mem = true := by
  simp (maxDischargeDepth := 40) [eisHalt, *]
@[simp ↓] theorem eisSwitch_pending (s : State) : (eisSwitch s).pending = s.pending := by
  simp (maxDischargeDepth := 40) [eisSwitch]
@[simp ↓] theorem eisSwitch_mem (s : State) (h : Memory.wf s.mem = true) : Memory.wf (eisSwitch s).mem = true := by
  simp (maxDischargeDepth := 40) [eisSwitch, *]
@[simp ↓] theorem eisFollow_pending (s : State) : (eisFollow s).pending = s.pending := by
  simp (maxDischargeDepth := 40) [eisFollow]
@[simp ↓] theorem eisFollow_mem (s : State) (h : Memory.wf s.mem = true) : Memory.wf (eisFollow s).mem = true := by
  simp (maxDischargeDepth := 40) [eisFollow, *]
@[simp ↓] theorem eisGap_pending (s : State) (q : Nat) : (eisGap s q).pending = s.pending := by
  unfold eisGap
  extract_lets nxt gap total head
  generalize (q + 2 ^ 32 - 1) % 2 ^ 32 = x
  split
  · rfl
  · exact (eisAbsent_pending _ _).trans ((eisAbsentSegs_pending _ _).trans (eisAbsent_pending _ _))
@[simp ↓] theorem eisGap_mem (s : State) (q : Nat) (h : Memory.wf s.mem = true) : Memory.wf (eisGap s q).mem = true := by
  unfold eisGap
  extract_lets nxt gap total head
  generalize (q + 2 ^ 32 - 1) % 2 ^ 32 = x
  split
  · exact h
  · exact eisAbsent_mem _ _ (eisAbsentSegs_mem _ _ (eisAbsent_mem _ _ h))
@[simp ↓] theorem eisHold_pending (s4 : State) (q : Nat) (sm : EisSample) : (eisHold s4 q sm).pending = s4.pending := by
  simp (maxDischargeDepth := 40) [eisHold]
@[simp ↓] theorem eisHold_mem (s4 : State) (q : Nat) (sm : EisSample) (h : Memory.wf s4.mem = true) : Memory.wf (eisHold s4 q sm).mem = true := by
  simp (maxDischargeDepth := 40) [eisHold, *]
@[simp ↓] theorem eisLive_pending (s4 : State) (q : Nat) (sm : EisSample) : (eisLive s4 q sm).pending = s4.pending := by
  simp (maxDischargeDepth := 40) [eisLive]
@[simp ↓] theorem eisLive_mem (s4 : State) (q : Nat) (sm : EisSample) (h : Memory.wf s4.mem = true) : Memory.wf (eisLive s4 q sm).mem = true := by
  simp (maxDischargeDepth := 40) [eisLive, *]
@[simp ↓] theorem eisTaken_pending (s2 : State) (per : Nat) (q : Nat) (sm : EisSample) : (eisTaken s2 per q sm).pending = s2.pending := by
  simp (maxDischargeDepth := 40) [eisTaken]
@[simp ↓] theorem eisTaken_mem (s2 : State) (per : Nat) (q : Nat) (sm : EisSample) (h : Memory.wf s2.mem = true) : Memory.wf (eisTaken s2 per q sm).mem = true := by
  simp (maxDischargeDepth := 40) [eisTaken, *]
@[simp ↓] theorem eisSweep_pending (s : State) (q : Nat) (sm : EisSample) : (eisSweep s q sm).pending = s.pending := by
  unfold eisSweep; dsimp only; (repeat' split) <;> simp (maxDischargeDepth := 40) [*]
@[simp ↓] theorem eisSweep_mem (s : State) (q : Nat) (sm : EisSample) (h : Memory.wf s.mem = true) : Memory.wf (eisSweep s q sm).mem = true := by
  unfold eisSweep; dsimp only; (repeat' split) <;> simp (maxDischargeDepth := 40) [*]
@[simp ↓] theorem eisEnable_pending (x0 : Entry) (s : State) : (eisEnable x0 s).1.pending = s.pending := by
  simp (maxDischargeDepth := 40) [eisEnable]
@[simp ↓] theorem eisEnable_mem (x0 : Entry) (s : State) (h : Memory.wf s.mem = true) : Memory.wf (eisEnable x0 s).1.mem = true := by
  simp (maxDischargeDepth := 40) [eisEnable, *]
@[simp ↓] theorem eisDisable_pending (x0 : Entry) (s : State) : (eisDisable x0 s).1.pending = s.pending := by
  simp (maxDischargeDepth := 40) [eisDisable]
@[simp ↓] theorem eisDisable_mem (x0 : Entry) (s : State) (h : Memory.wf s.mem = true) : Memory.wf (eisDisable x0 s).1.mem = true := by
  simp (maxDischargeDepth := 40) [eisDisable, *]
@[simp ↓] theorem planTake_pending (s : State) (p : List Byte) (t : Option (List Byte)) (rst : Bool) : (planTake s p t rst).1.pending = s.pending := by
  simp (maxDischargeDepth := 40) [planTake]
@[simp ↓] theorem planTake_mem (s : State) (p : List Byte) (t : Option (List Byte)) (rst : Bool) (h : Memory.wf s.mem = true) : Memory.wf (planTake s p t rst).1.mem = true := by
  simp (maxDischargeDepth := 40) [planTake, *]
@[simp ↓] theorem eisPlanCommit_pending (e : Entry) (s : State) : (eisPlanCommit e s).1.pending = s.pending := by
  unfold eisPlanCommit; dsimp only; (repeat' split) <;> simp (maxDischargeDepth := 40) [*]
@[simp ↓] theorem eisPlanCommit_mem (e : Entry) (s : State) (h : Memory.wf s.mem = true) : Memory.wf (eisPlanCommit e s).1.mem = true := by
  unfold eisPlanCommit; dsimp only; (repeat' split) <;> simp (maxDischargeDepth := 40) [*]

end Sys2Proof.Laws
end

