-- ==== Sys2Proof/Laws/KeepTherm.lean ====
section
/-! SUPPORT. What every operation of `Machine/Therm.lean` leaves alone: the queue of waiting commands, and the canonical form of host memory. -/

namespace Sys2Proof.Laws

open Sys2Proof.Machine

@[simp ↓] theorem heaterFollow_pending (s : State) : (heaterFollow s).pending = s.pending := by
  simp (maxDischargeDepth := 40) [heaterFollow]
@[simp ↓] theorem heaterFollow_mem (s : State) (h : Memory.wf s.mem = true) : Memory.wf (heaterFollow s).mem = true := by
  simp (maxDischargeDepth := 40) [heaterFollow, *]
@[simp ↓] theorem actShow_pending (s : State) : (actShow s).pending = s.pending := by
  simp (maxDischargeDepth := 40) [actShow]
@[simp ↓] theorem actShow_mem (s : State) (h : Memory.wf s.mem = true) : Memory.wf (actShow s).mem = true := by
  simp (maxDischargeDepth := 40) [actShow, *]
@[simp ↓] theorem writeWindow_pending (s : State) (code : Nat) : (writeWindow s code).pending = s.pending := by
  simp (maxDischargeDepth := 40) [writeWindow]
@[simp ↓] theorem writeWindow_mem (s : State) (code : Nat) (h : Memory.wf s.mem = true) : Memory.wf (writeWindow s code).mem = true := by
  simp (maxDischargeDepth := 40) [writeWindow, *]
@[simp ↓] theorem thermModule_pending (s : State) (x : ThermIn) : (thermModule s x).pending = s.pending := by
  simp (maxDischargeDepth := 40) [thermModule]
@[simp ↓] theorem thermModule_mem (s : State) (x : ThermIn) (h : Memory.wf s.mem = true) : Memory.wf (thermModule s x).mem = true := by
  simp (maxDischargeDepth := 40) [thermModule, *]
@[simp ↓] theorem thermTiles_pending (s : State) (house : Bool) (dtMs : Nat) : (thermTiles s house dtMs).pending = s.pending := by
  simp (maxDischargeDepth := 40) [thermTiles]
@[simp ↓] theorem thermTiles_mem (s : State) (house : Bool) (dtMs : Nat) (h : Memory.wf s.mem = true) : Memory.wf (thermTiles s house dtMs).mem = true := by
  simp +contextual (maxDischargeDepth := 40) [thermTiles, *]
@[simp ↓] theorem thermMasks_pending (s : State) : (thermMasks s).pending = s.pending := by
  simp (maxDischargeDepth := 40) [thermMasks]
@[simp ↓] theorem thermMasks_mem (s : State) (h : Memory.wf s.mem = true) : Memory.wf (thermMasks s).mem = true := by
  simp (maxDischargeDepth := 40) [thermMasks, *]
@[simp ↓] theorem thermHotShow_pending (s : State) (b : (Int × Nat) × (Int × Nat)) : (thermHotShow s b).pending = s.pending := by
  simp (maxDischargeDepth := 40) [thermHotShow]
@[simp ↓] theorem thermHotShow_mem (s : State) (b : (Int × Nat) × (Int × Nat)) (h : Memory.wf s.mem = true) : Memory.wf (thermHotShow s b).mem = true := by
  simp (maxDischargeDepth := 40) [thermHotShow, *]
@[simp ↓] theorem thermForbids_pending (s3 : State) (tHi : Int) (tLo : Int) (hot : Bool) (valid : Bool) (lim : Nat × Nat) : (thermForbids s3 tHi tLo hot valid lim).pending = s3.pending := by
  simp (maxDischargeDepth := 40) [thermForbids]
@[simp ↓] theorem thermForbids_mem (s3 : State) (tHi : Int) (tLo : Int) (hot : Bool) (valid : Bool) (lim : Nat × Nat) (h : Memory.wf s3.mem = true) : Memory.wf (thermForbids s3 tHi tLo hot valid lim).mem = true := by
  simp (maxDischargeDepth := 40) [thermForbids, *]
@[simp ↓] theorem thermLimits_pending (s : State) (tbs : List Int) (hot : Bool) (dtMs : Nat) : (thermLimits s tbs hot dtMs).pending = s.pending := by
  simp (maxDischargeDepth := 40) [thermLimits]
@[simp ↓] theorem thermLimits_mem (s : State) (tbs : List Int) (hot : Bool) (dtMs : Nat) (h : Memory.wf s.mem = true) : Memory.wf (thermLimits s tbs hot dtMs).mem = true := by
  simp (maxDischargeDepth := 40) [thermLimits, *]
@[simp ↓] theorem thermReport_pending (s : State) : (thermReport s).pending = s.pending := by
  simp (maxDischargeDepth := 40) [thermReport]
@[simp ↓] theorem thermReport_mem (s : State) (h : Memory.wf s.mem = true) : Memory.wf (thermReport s).mem = true := by
  simp +contextual (maxDischargeDepth := 40) [thermReport, *]
@[simp ↓] theorem thermDeliver_pending (s : State) (outs : List (Int × Bool)) : (thermDeliver s outs).pending = s.pending := by
  simp (maxDischargeDepth := 40) [thermDeliver]
@[simp ↓] theorem thermDeliver_mem (s : State) (outs : List (Int × Bool)) (h : Memory.wf s.mem = true) : Memory.wf (thermDeliver s outs).mem = true := by
  simp +contextual (maxDischargeDepth := 40) [thermDeliver, *]
@[simp ↓] theorem thermDrive_pending (s : State) : (thermDrive s).pending = s.pending := by
  simp (maxDischargeDepth := 40) [thermDrive]
@[simp ↓] theorem thermDrive_mem (s : State) (h : Memory.wf s.mem = true) : Memory.wf (thermDrive s).mem = true := by
  simp (maxDischargeDepth := 40) [thermDrive, *]
@[simp ↓] theorem thermRound_pending (s : State) (x : ThermIn) (house : Bool) : (thermRound s x house).pending = s.pending := by
  simp (maxDischargeDepth := 40) [thermRound]
@[simp ↓] theorem thermRound_mem (s : State) (x : ThermIn) (house : Bool) (h : Memory.wf s.mem = true) : Memory.wf (thermRound s x house).mem = true := by
  simp (maxDischargeDepth := 40) [thermRound, *]
@[simp ↓] theorem thermEnable_pending (e : Entry) (s : State) : (thermEnable e s).1.pending = s.pending := by
  simp (maxDischargeDepth := 40) [thermEnable]
@[simp ↓] theorem thermEnable_mem (e : Entry) (s : State) (h : Memory.wf s.mem = true) : Memory.wf (thermEnable e s).1.mem = true := by
  simp (maxDischargeDepth := 40) [thermEnable, *]
@[simp ↓] theorem thermDisable_pending (e : Entry) (s : State) : (thermDisable e s).1.pending = s.pending := by
  simp (maxDischargeDepth := 40) [thermDisable]
@[simp ↓] theorem thermDisable_mem (e : Entry) (s : State) (h : Memory.wf s.mem = true) : Memory.wf (thermDisable e s).1.mem = true := by
  simp (maxDischargeDepth := 40) [thermDisable, *]

end Sys2Proof.Laws
end

