-- ==== Sys2Proof/Laws/KeepCtrl.lean ====
section
/-! SUPPORT. What every operation of `Machine/Ctrl.lean` leaves alone: the queue of waiting commands, and the canonical form of host memory. -/

namespace Sys2Proof.Laws

open Sys2Proof.Machine

@[simp ↓] theorem lcMod_pending (s : State) (n : Nat) (f : LcSt → LcSt) : (lcMod s n f).pending = s.pending := by
  simp (maxDischargeDepth := 40) [lcMod]
@[simp ↓] theorem lcMod_mem (s : State) (n : Nat) (f : LcSt → LcSt) (h : Memory.wf s.mem = true) : Memory.wf (lcMod s n f).mem = true := by
  simp (maxDischargeDepth := 40) [lcMod, *]
@[simp ↓] theorem lcPut_pending (s : State) (n : Nat) (st : Nat) : (lcPut s n st).pending = s.pending := by
  simp (maxDischargeDepth := 40) [lcPut]
@[simp ↓] theorem lcPut_mem (s : State) (n : Nat) (st : Nat) (h : Memory.wf s.mem = true) : Memory.wf (lcPut s n st).mem = true := by
  simp (maxDischargeDepth := 40) [lcPut, *]
@[simp ↓] theorem pwmShow_pending (s : State) : (pwmShow s).pending = s.pending := by
  simp (maxDischargeDepth := 40) [pwmShow]
@[simp ↓] theorem pwmShow_mem (s : State) (h : Memory.wf s.mem = true) : Memory.wf (pwmShow s).mem = true := by
  simp (maxDischargeDepth := 40) [pwmShow, *]
@[simp ↓] theorem pwmOff_pending (s : State) : (pwmOff s).pending = s.pending := by
  simp (maxDischargeDepth := 40) [pwmOff]
@[simp ↓] theorem pwmOff_mem (s : State) (h : Memory.wf s.mem = true) : Memory.wf (pwmOff s).mem = true := by
  simp (maxDischargeDepth := 40) [pwmOff, *]
@[simp ↓] theorem lcOpen_pending (s : State) (n : Nat) (why : Nat) (held : Bool) : (lcOpen s n why held).pending = s.pending := by
  simp (maxDischargeDepth := 40) [lcOpen]
@[simp ↓] theorem lcOpen_mem (s : State) (n : Nat) (why : Nat) (held : Bool) (h : Memory.wf s.mem = true) : Memory.wf (lcOpen s n why held).mem = true := by
  simp (maxDischargeDepth := 40) [lcOpen, *]
@[simp ↓] theorem lcOpenChain_pending (s : State) (why : Nat) (zero : Bool) : (lcOpenChain s why zero).2.pending = s.pending := by
  unfold lcOpenChain; rw [foldl_snd_pending]; intro r x; dsimp only; (repeat' split) <;> simp
@[simp ↓] theorem lcOpenChain_mem (s : State) (why : Nat) (zero : Bool) (h : Memory.wf s.mem = true) :
    Memory.wf (lcOpenChain s why zero).2.mem = true := by
  unfold lcOpenChain; refine foldl_snd_mem _ ?_ _ _ h; intro r x hr; dsimp only; (repeat' split) <;> simp (maxDischargeDepth := 40) [hr]
@[simp ↓] theorem pwmInhibit_pending (s : State) : (pwmInhibit s).pending = s.pending := by
  simp (maxDischargeDepth := 40) [pwmInhibit]
@[simp ↓] theorem pwmInhibit_mem (s : State) (h : Memory.wf s.mem = true) : Memory.wf (pwmInhibit s).mem = true := by
  simp (maxDischargeDepth := 40) [pwmInhibit, *]
@[simp ↓] theorem psTrip_pending (s : State) (why : Nat) (fc : Fld) (fp : Fld) (leg : Nat) : (psTrip s why fc fp leg).pending = s.pending := by
  simp (maxDischargeDepth := 40) [psTrip]
@[simp ↓] theorem psTrip_mem (s : State) (why : Nat) (fc : Fld) (fp : Fld) (leg : Nat) (h : Memory.wf s.mem = true) : Memory.wf (psTrip s why fc fp leg).mem = true := by
  simp (maxDischargeDepth := 40) [psTrip, *]
@[simp ↓] theorem limShow_pending (s : State) : (limShow s).pending = s.pending := by
  simp (maxDischargeDepth := 40) [limShow]
@[simp ↓] theorem limShow_mem (s : State) (h : Memory.wf s.mem = true) : Memory.wf (limShow s).mem = true := by
  simp (maxDischargeDepth := 40) [limShow, *]
@[simp ↓] theorem dispShow_pending (s : State) : (dispShow s).pending = s.pending := by
  simp [dispShow, dispShow.setPairReg]
@[simp ↓] theorem dispShow_mem (s : State) (h : Memory.wf s.mem = true) : Memory.wf (dispShow s).mem = true := by
  simp (maxDischargeDepth := 40) [dispShow, dispShow.setPairReg, h]
@[simp ↓] theorem dispRevoke_pending (s : State) : (dispRevoke s).pending = s.pending := by
  unfold dispRevoke; (repeat' split) <;> simp (maxDischargeDepth := 40) [*]
@[simp ↓] theorem dispRevoke_mem (s : State) (h : Memory.wf s.mem = true) : Memory.wf (dispRevoke s).mem = true := by
  unfold dispRevoke; (repeat' split) <;> simp (maxDischargeDepth := 40) [*]
@[simp ↓] theorem grantPut_pending (s : State) (g : Grant) : (grantPut s g).pending = s.pending := by
  simp (maxDischargeDepth := 40) [grantPut]
@[simp ↓] theorem grantPut_mem (s : State) (g : Grant) (h : Memory.wf s.mem = true) : Memory.wf (grantPut s g).mem = true := by
  simp (maxDischargeDepth := 40) [grantPut, *]
@[simp ↓] theorem grantDue_pending (s : State) (l : List (Nat × Grant)) : (grantDue s l).pending = s.pending := by
  induction l generalizing s with
  | nil => rfl
  | cons x t ih => unfold grantDue; (repeat' split) <;> simp [ih]
@[simp ↓] theorem grantDue_mem (s : State) (l : List (Nat × Grant)) (h : Memory.wf s.mem = true) : Memory.wf (grantDue s l).mem = true := by
  induction l generalizing s with
  | nil => exact h
  | cons x t ih => unfold grantDue; (repeat' split) <;> simp (maxDischargeDepth := 40) [ih, h]
@[simp ↓] theorem dispStart_pending (s : State) : (dispStart s).pending = s.pending := by
  simp (maxDischargeDepth := 40) [dispStart]
@[simp ↓] theorem dispStart_mem (s : State) (h : Memory.wf s.mem = true) : Memory.wf (dispStart s).mem = true := by
  simp (maxDischargeDepth := 40) [dispStart, *]
@[simp ↓] theorem lcShow_pending (s : State) (n : Nat) (c : LcSt) (t : Int) (y : Int) (x : LoopIn) (u : Word) (limited : Bool) : (lcShow s n c t y x u limited).pending = s.pending := by
  simp (maxDischargeDepth := 40) [lcShow]
@[simp ↓] theorem lcShow_mem (s : State) (n : Nat) (c : LcSt) (t : Int) (y : Int) (x : LoopIn) (u : Word) (limited : Bool) (h : Memory.wf s.mem = true) : Memory.wf (lcShow s n c t y x u limited).mem = true := by
  simp (maxDischargeDepth := 40) [lcShow, *]
@[simp ↓] theorem lcArrive_pending (s : State) (n : Nat) : (lcArrive s n).pending = s.pending := by
  simp (maxDischargeDepth := 40) [lcArrive]
@[simp ↓] theorem lcArrive_mem (s : State) (n : Nat) (h : Memory.wf s.mem = true) : Memory.wf (lcArrive s n).mem = true := by
  simp (maxDischargeDepth := 40) [lcArrive, *]
@[simp ↓] theorem lcFail_pending (s : State) (n : Nat) (check : Nat) : (lcFail s n check).pending = s.pending := by
  simp (maxDischargeDepth := 40) [lcFail]
@[simp ↓] theorem lcFail_mem (s : State) (n : Nat) (check : Nat) (h : Memory.wf s.mem = true) : Memory.wf (lcFail s n check).mem = true := by
  simp (maxDischargeDepth := 40) [lcFail, *]
@[simp ↓] theorem lcModel_pending (s : State) (n : Nat) (dt : Word) (y : Word) : (lcModel s n dt y).pending = s.pending := by
  simp (maxDischargeDepth := 40) [lcModel]
@[simp ↓] theorem lcModel_mem (s : State) (n : Nat) (dt : Word) (y : Word) (h : Memory.wf s.mem = true) : Memory.wf (lcModel s n dt y).mem = true := by
  simp (maxDischargeDepth := 40) [lcModel, *]
@[simp ↓] theorem supCheck_pending (s : State) (x : CtrlIn) (iHall : Int) : (supCheck s x iHall).pending = s.pending := by
  simp (maxDischargeDepth := 40) [supCheck]
@[simp ↓] theorem supCheck_mem (s : State) (x : CtrlIn) (iHall : Int) (h : Memory.wf s.mem = true) : Memory.wf (supCheck s x iHall).mem = true := by
  simp (maxDischargeDepth := 40) [supCheck, *]
@[simp ↓] theorem lcCycle_pending (s : State) (n : Nat) (x : CtrlIn) (dt : Word) : (lcCycle s n x dt).pending = s.pending := by
  simp (maxDischargeDepth := 40) [lcCycle]
@[simp ↓] theorem lcCycle_mem (s : State) (n : Nat) (x : CtrlIn) (dt : Word) (h : Memory.wf s.mem = true) : Memory.wf (lcCycle s n x dt).mem = true := by
  simp (maxDischargeDepth := 40) [lcCycle, *]
@[simp ↓] theorem lcCycles_pending (s : State) (x : CtrlIn) (slow : Bool) (dt : Word) : (lcCycles s x slow dt).pending = s.pending := by
  simp (maxDischargeDepth := 40) [lcCycles]
@[simp ↓] theorem lcCycles_mem (s : State) (x : CtrlIn) (slow : Bool) (dt : Word) (h : Memory.wf s.mem = true) : Memory.wf (lcCycles s x slow dt).mem = true := by
  simp +contextual (maxDischargeDepth := 40) [lcCycles, *]
@[simp ↓] theorem loopTake_pending (s : State) : (loopTake s).pending = s.pending := by
  simp (maxDischargeDepth := 40) [loopTake]
@[simp ↓] theorem loopTake_mem (s : State) (h : Memory.wf s.mem = true) : Memory.wf (loopTake s).mem = true := by
  simp (maxDischargeDepth := 40) [loopTake, *]
@[simp ↓] theorem legCurrents_pending (s : State) (uvs : List Int) : (legCurrents s uvs).1.pending = s.pending := by
  simp (maxDischargeDepth := 40) [legCurrents]
@[simp ↓] theorem legCurrents_mem (s : State) (uvs : List Int) (h : Memory.wf s.mem = true) : Memory.wf (legCurrents s uvs).1.mem = true := by
  simp (maxDischargeDepth := 40) [legCurrents, *]
@[simp ↓] theorem dutySet_pending (s : State) (ds : List Word) : (dutySet s ds).pending = s.pending := by
  simp (maxDischargeDepth := 40) [dutySet]
@[simp ↓] theorem dutySet_mem (s : State) (ds : List Word) (h : Memory.wf s.mem = true) : Memory.wf (dutySet s ds).mem = true := by
  simp (maxDischargeDepth := 40) [dutySet, *]
@[simp ↓] theorem ocvTerm_pending (s : State) (y : Int) : (ocvTerm s y).2.pending = s.pending := by
  simp (maxDischargeDepth := 40) [ocvTerm]
@[simp ↓] theorem ocvTerm_mem (s : State) (y : Int) (h : Memory.wf s.mem = true) : Memory.wf (ocvTerm s y).2.mem = true := by
  simp (maxDischargeDepth := 40) [ocvTerm, *]
@[simp ↓] theorem lc0Loop_pending (s0 : State) (x : Lc0In) (vLink : Int) : (lc0Loop s0 x vLink).pending = s0.pending := by
  simp (maxDischargeDepth := 40) [lc0Loop]
@[simp ↓] theorem lc0Loop_mem (s0 : State) (x : Lc0In) (vLink : Int) (h : Memory.wf s0.mem = true) : Memory.wf (lc0Loop s0 x vLink).mem = true := by
  simp (maxDischargeDepth := 40) [lc0Loop, *]
@[simp ↓] theorem lc0Cycle_pending (s : State) (x : Lc0In) : (lc0Cycle s x).pending = s.pending := by
  unfold lc0Cycle; (repeat' split) <;> simp (maxDischargeDepth := 40) [*]
@[simp ↓] theorem lc0Cycle_mem (s : State) (x : Lc0In) (h : Memory.wf s.mem = true) : Memory.wf (lc0Cycle s x).mem = true := by
  unfold lc0Cycle; (repeat' split) <;> simp (maxDischargeDepth := 40) [*]
@[simp ↓] theorem carrierValley_pending (s : State) (leg : Nat) (ready : Bool) : (carrierValley s leg ready).pending = s.pending := by
  simp (maxDischargeDepth := 40) [carrierValley]
@[simp ↓] theorem carrierValley_mem (s : State) (leg : Nat) (ready : Bool) (h : Memory.wf s.mem = true) : Memory.wf (carrierValley s leg ready).mem = true := by
  simp (maxDischargeDepth := 40) [carrierValley, *]
@[simp ↓] theorem gapEnd_pending (s : State) (strobe : Bool) : (gapEnd s strobe).pending = s.pending := by
  unfold gapEnd; split <;> simp (maxDischargeDepth := 40) [*]
@[simp ↓] theorem gapEnd_mem (s : State) (strobe : Bool) (h : Memory.wf s.mem = true) : Memory.wf (gapEnd s strobe).mem = true := by
  unfold gapEnd; split <;> simp (maxDischargeDepth := 40) [*]
@[simp ↓] theorem lcClose_pending (s : State) (n : Nat) : (lcClose s n).pending = s.pending := by
  simp (maxDischargeDepth := 40) [lcClose]
@[simp ↓] theorem lcClose_mem (s : State) (n : Nat) (h : Memory.wf s.mem = true) : Memory.wf (lcClose s n).mem = true := by
  simp (maxDischargeDepth := 40) [lcClose, *]
@[simp ↓] theorem lcEnable_pending (n : Nat) (s : State) : (lcEnable n s).1.pending = s.pending := by
  unfold lcEnable; (repeat' split) <;> simp (maxDischargeDepth := 40) [*]
@[simp ↓] theorem lcEnable_mem (n : Nat) (s : State) (h : Memory.wf s.mem = true) : Memory.wf (lcEnable n s).1.mem = true := by
  unfold lcEnable; (repeat' split) <;> simp (maxDischargeDepth := 40) [*]
@[simp ↓] theorem lcDisable_pending (n : Nat) (s : State) : (lcDisable n s).1.pending = s.pending := by
  simp (maxDischargeDepth := 40) [lcDisable]
@[simp ↓] theorem lcDisable_mem (n : Nat) (s : State) (h : Memory.wf s.mem = true) : Memory.wf (lcDisable n s).1.mem = true := by
  simp (maxDischargeDepth := 40) [lcDisable, *]
@[simp ↓] theorem lcStop_pending (n : Nat) (x0 : Entry) (s : State) : (lcStop n x0 s).1.pending = s.pending := by
  simp (maxDischargeDepth := 40) [lcStop]
@[simp ↓] theorem lcStop_mem (n : Nat) (x0 : Entry) (s : State) (h : Memory.wf s.mem = true) : Memory.wf (lcStop n x0 s).1.mem = true := by
  simp (maxDischargeDepth := 40) [lcStop, *]
@[simp ↓] theorem lcSetRef_pending (n : Nat) (e : Entry) (s : State) : (lcSetRef n e s).1.pending = s.pending := by
  simp (maxDischargeDepth := 40) [lcSetRef]
@[simp ↓] theorem lcSetRef_mem (n : Nat) (e : Entry) (s : State) (h : Memory.wf s.mem = true) : Memory.wf (lcSetRef n e s).1.mem = true := by
  simp (maxDischargeDepth := 40) [lcSetRef, *]
@[simp ↓] theorem lcSetDispatch_pending (n : Nat) (e : Entry) (s : State) : (lcSetDispatch n e s).1.pending = s.pending := by
  simp (maxDischargeDepth := 40) [lcSetDispatch]
@[simp ↓] theorem lcSetDispatch_mem (n : Nat) (e : Entry) (s : State) (h : Memory.wf s.mem = true) : Memory.wf (lcSetDispatch n e s).1.mem = true := by
  simp (maxDischargeDepth := 40) [lcSetDispatch, *]
@[simp ↓] theorem dispExpire_pending (s0 : State) : (dispExpire s0).pending = s0.pending := by
  unfold dispExpire; dsimp only; (repeat' split) <;> simp (maxDischargeDepth := 40) [*]
@[simp ↓] theorem dispExpire_mem (s0 : State) (h : Memory.wf s0.mem = true) : Memory.wf (dispExpire s0).mem = true := by
  unfold dispExpire; dsimp only; (repeat' split) <;> simp (maxDischargeDepth := 40) [*]
@[simp ↓] theorem powerRequest_pending (s : State) (sender : Nat) (req : List Byte) : (powerRequest s sender req).pending = s.pending := by
  simp (maxDischargeDepth := 40) [powerRequest]
@[simp ↓] theorem powerRequest_mem (s : State) (sender : Nat) (req : List Byte) (h : Memory.wf s.mem = true) : Memory.wf (powerRequest s sender req).mem = true := by
  simp (maxDischargeDepth := 40) [powerRequest, *]
@[simp ↓] theorem dispRevise_pending (s0 : State) : (dispRevise s0).pending = s0.pending := by
  unfold dispRevise; dsimp only; (repeat' split) <;> simp (maxDischargeDepth := 40) [*]
@[simp ↓] theorem dispRevise_mem (s0 : State) (h : Memory.wf s0.mem = true) : Memory.wf (dispRevise s0).mem = true := by
  unfold dispRevise; dsimp only; (repeat' split) <;> simp (maxDischargeDepth := 40) [*]
@[simp ↓] theorem ctrlStandby_pending (s : State) : (ctrlStandby s).pending = s.pending := by
  simp (maxDischargeDepth := 40) [ctrlStandby]
@[simp ↓] theorem ctrlStandby_mem (s : State) (h : Memory.wf s.mem = true) : Memory.wf (ctrlStandby s).mem = true := by
  simp +contextual (maxDischargeDepth := 40) [ctrlStandby, *]
@[simp ↓] theorem lcResume_pending (mirs : Option (List LcMirror)) (duty0 : Nat) (s : State) (n : Nat) : (lcResume mirs duty0 s n).pending = s.pending := by
  unfold lcResume; (repeat' split) <;> simp (maxDischargeDepth := 40) [*]
@[simp ↓] theorem lcResume_mem (mirs : Option (List LcMirror)) (duty0 : Nat) (s : State) (n : Nat) (h : Memory.wf s.mem = true) : Memory.wf (lcResume mirs duty0 s n).mem = true := by
  unfold lcResume; (repeat' split) <;> simp (maxDischargeDepth := 40) [*]
@[simp ↓] theorem ctrlActive_pending (s : State) (mirs : Option (List LcMirror)) (duty0 : Nat) (grant : Option Grant) : (ctrlActive s mirs duty0 grant).pending = s.pending := by
  simp (maxDischargeDepth := 40) [ctrlActive]
@[simp ↓] theorem ctrlActive_mem (s : State) (mirs : Option (List LcMirror)) (duty0 : Nat) (grant : Option Grant) (h : Memory.wf s.mem = true) : Memory.wf (ctrlActive s mirs duty0 grant).mem = true := by
  simp +contextual (maxDischargeDepth := 40) [ctrlActive, *]
@[simp ↓] theorem pwmEnable_pending (s : State) : (pwmEnable s).1.pending = s.pending := by
  unfold pwmEnable; (repeat' split) <;> simp (maxDischargeDepth := 40) [*]
@[simp ↓] theorem pwmEnable_mem (s : State) (h : Memory.wf s.mem = true) : Memory.wf (pwmEnable s).1.mem = true := by
  unfold pwmEnable; (repeat' split) <;> simp (maxDischargeDepth := 40) [*]
@[simp ↓] theorem pwmDisable_pending (s : State) : (pwmDisable s).1.pending = s.pending := by
  simp (maxDischargeDepth := 40) [pwmDisable]
@[simp ↓] theorem pwmDisable_mem (s : State) (h : Memory.wf s.mem = true) : Memory.wf (pwmDisable s).1.mem = true := by
  simp (maxDischargeDepth := 40) [pwmDisable, *]

end Sys2Proof.Laws
end

