-- ==== Sys2Proof/Laws/KeepCan.lean ====
section
/-! SUPPORT. What every operation of `Machine/Can.lean` leaves alone: the queue of waiting commands, and the canonical form of host memory. -/

namespace Sys2Proof.Laws

open Sys2Proof.Machine

@[simp ↓] theorem canMod_pending (s : State) (n : Nat) (f : CanCtl → CanCtl) : (canMod s n f).pending = s.pending := by
  simp (maxDischargeDepth := 40) [canMod]
@[simp ↓] theorem canMod_mem (s : State) (n : Nat) (f : CanCtl → CanCtl) (h : Memory.wf s.mem = true) : Memory.wf (canMod s n f).mem = true := by
  simp (maxDischargeDepth := 40) [canMod, *]
@[simp ↓] theorem objMod_pending (s : State) (n : Nat) (k : Nat) (f : CanObj → CanObj) : (objMod s n k f).pending = s.pending := by
  simp (maxDischargeDepth := 40) [objMod]
@[simp ↓] theorem objMod_mem (s : State) (n : Nat) (k : Nat) (f : CanObj → CanObj) (h : Memory.wf s.mem = true) : Memory.wf (objMod s n k f).mem = true := by
  simp (maxDischargeDepth := 40) [objMod, *]
@[simp ↓] theorem setPend_pending (s : State) (n : Nat) (k : Nat) (b : Bool) : (setPend s n k b).pending = s.pending := by
  simp (maxDischargeDepth := 40) [setPend]
@[simp ↓] theorem setPend_mem (s : State) (n : Nat) (k : Nat) (b : Bool) (h : Memory.wf s.mem = true) : Memory.wf (setPend s n k b).mem = true := by
  simp (maxDischargeDepth := 40) [setPend, *]
@[simp ↓] theorem canRecord_pending (s : State) (n : Nat) (time : Nat) (kind : Nat) (obj : Nat) (ff : Nat) (dlc : Nat) (id : Nat) (info : Nat) (data : List Byte) : (canRecord s n time kind obj ff dlc id info data).pending = s.pending := by
  simp (maxDischargeDepth := 40) [canRecord]
@[simp ↓] theorem canRecord_mem (s : State) (n : Nat) (time : Nat) (kind : Nat) (obj : Nat) (ff : Nat) (dlc : Nat) (id : Nat) (info : Nat) (data : List Byte) (h : Memory.wf s.mem = true) : Memory.wf (canRecord s n time kind obj ff dlc id info data).mem = true := by
  simp +contextual (maxDischargeDepth := 40) [canRecord, *]
@[simp ↓] theorem objRecord_pending (s : State) (n : Nat) (k : Nat) (kind : Nat) (time : Nat) (data : List Byte) (attempts : Nat) : (objRecord s n k kind time data attempts).pending = s.pending := by
  simp (maxDischargeDepth := 40) [objRecord]
@[simp ↓] theorem objRecord_mem (s : State) (n : Nat) (k : Nat) (kind : Nat) (time : Nat) (data : List Byte) (attempts : Nat) (h : Memory.wf s.mem = true) : Memory.wf (objRecord s n k kind time data attempts).mem = true := by
  simp (maxDischargeDepth := 40) [objRecord, *]
@[simp ↓] theorem canState_pending (s : State) (n : Nat) : (canState s n).pending = s.pending := by
  simp (maxDischargeDepth := 40) [canState]
@[simp ↓] theorem canState_mem (s : State) (n : Nat) (h : Memory.wf s.mem = true) : Memory.wf (canState s n).mem = true := by
  simp (maxDischargeDepth := 40) [canState, *]
@[simp ↓] theorem canFollow_pending (s : State) (n : Nat) : (canFollow s n).pending = s.pending := by
  simp (maxDischargeDepth := 40) [canFollow]
@[simp ↓] theorem canFollow_mem (s : State) (n : Nat) (h : Memory.wf s.mem = true) : Memory.wf (canFollow s n).mem = true := by
  simp (maxDischargeDepth := 40) [canFollow, *]
@[simp ↓] theorem canNotAlone_pending (s : State) (n : Nat) : (canNotAlone s n).pending = s.pending := by
  simp (maxDischargeDepth := 40) [canNotAlone]
@[simp ↓] theorem canNotAlone_mem (s : State) (n : Nat) (h : Memory.wf s.mem = true) : Memory.wf (canNotAlone s n).mem = true := by
  simp (maxDischargeDepth := 40) [canNotAlone, *]
@[simp ↓] theorem rxGood_pending (s : State) (n : Nat) : (rxGood s n).pending = s.pending := by
  simp (maxDischargeDepth := 40) [rxGood]
@[simp ↓] theorem rxGood_mem (s : State) (n : Nat) (h : Memory.wf s.mem = true) : Memory.wf (rxGood s n).mem = true := by
  simp (maxDischargeDepth := 40) [rxGood, *]
@[simp ↓] theorem canErrFrame_pending (s : State) (n : Nat) (code : Nat) (dataPhase : Bool) (tx : Bool) : (canErrFrame s n code dataPhase tx).pending = s.pending := by
  simp (maxDischargeDepth := 40) [canErrFrame]
@[simp ↓] theorem canErrFrame_mem (s : State) (n : Nat) (code : Nat) (dataPhase : Bool) (tx : Bool) (h : Memory.wf s.mem = true) : Memory.wf (canErrFrame s n code dataPhase tx).mem = true := by
  simp (maxDischargeDepth := 40) [canErrFrame, *]
@[simp ↓] theorem canPxe_pending (s : State) (n : Nat) : (canPxe s n).pending = s.pending := by
  simp (maxDischargeDepth := 40) [canPxe]
@[simp ↓] theorem canPxe_mem (s : State) (n : Nat) (h : Memory.wf s.mem = true) : Memory.wf (canPxe s n).mem = true := by
  simp (maxDischargeDepth := 40) [canPxe, *]
@[simp ↓] theorem canRxError_pending (s : State) (n : Nat) (code : Nat) (dataPhase : Bool) (add : Nat) : (canRxError s n code dataPhase add).pending = s.pending := by
  simp (maxDischargeDepth := 40) [canRxError]
@[simp ↓] theorem canRxError_mem (s : State) (n : Nat) (code : Nat) (dataPhase : Bool) (add : Nat) (h : Memory.wf s.mem = true) : Memory.wf (canRxError s n code dataPhase add).mem = true := by
  simp (maxDischargeDepth := 40) [canRxError, *]
@[simp ↓] theorem canExcept_pending (s : State) (n : Nat) : (canExcept s n).pending = s.pending := by
  simp (maxDischargeDepth := 40) [canExcept]
@[simp ↓] theorem canExcept_mem (s : State) (n : Nat) (h : Memory.wf s.mem = true) : Memory.wf (canExcept s n).mem = true := by
  simp (maxDischargeDepth := 40) [canExcept, *]
@[simp ↓] theorem imgWrite_pending (s : State) (n : Nat) (k : Nat) (fr : CanFrame) : (imgWrite s n k fr).pending = s.pending := by
  simp (maxDischargeDepth := 40) [imgWrite]
@[simp ↓] theorem imgWrite_mem (s : State) (n : Nat) (k : Nat) (fr : CanFrame) (h : Memory.wf s.mem = true) : Memory.wf (imgWrite s n k fr).mem = true := by
  simp (maxDischargeDepth := 40) [imgWrite, *]
theorem canOffer_pending (s : State) (n : Nat) (fr : CanFrame) (stl : Nat → List Byte → State → State)
    (hs : ∀ k d s, (stl k d s).pending = s.pending) : (canOffer s n fr stl).pending = s.pending := by
  unfold canOffer; (repeat' split) <;> simp [hs]
theorem canOffer_mem (s : State) (n : Nat) (fr : CanFrame) (stl : Nat → List Byte → State → State)
    (hs : ∀ k d s, Memory.wf s.mem = true → Memory.wf (stl k d s).mem = true) (h : Memory.wf s.mem = true) :
    Memory.wf (canOffer s n fr stl).mem = true := by
  unfold canOffer; (repeat' split) <;> simp [hs, h]
theorem canReceive_pending (s : State) (n : Nat) (fr : CanFrame) (stl : Nat → List Byte → State → State)
    (hs : ∀ k d s, (stl k d s).pending = s.pending) : (canReceive s n fr stl).pending = s.pending := by
  have ho := fun s => canOffer_pending s n fr stl hs
  unfold canReceive; (repeat' split) <;> simp [ho]
theorem canReceive_mem (s : State) (n : Nat) (fr : CanFrame) (stl : Nat → List Byte → State → State)
    (hs : ∀ k d s, Memory.wf s.mem = true → Memory.wf (stl k d s).mem = true) (h : Memory.wf s.mem = true) :
    Memory.wf (canReceive s n fr stl).mem = true := by
  have ho := fun s => canOffer_mem s n fr stl hs
  unfold canReceive; (repeat' split) <;> simp (maxDischargeDepth := 40) [ho, h]
@[simp ↓] theorem canAttempt_pending (s : State) (n : Nat) : (canAttempt s n).pending = s.pending := by
  unfold canAttempt; (repeat' split) <;> simp (maxDischargeDepth := 40) [*]
@[simp ↓] theorem canAttempt_mem (s : State) (n : Nat) (h : Memory.wf s.mem = true) : Memory.wf (canAttempt s n).mem = true := by
  unfold canAttempt; (repeat' split) <;> simp (maxDischargeDepth := 40) [*]
@[simp ↓] theorem objDone_pending (s : State) (n : Nat) (k : Nat) (kind : Nat) (time : Nat) : (objDone s n k kind time).pending = s.pending := by
  unfold objDone; dsimp only; (repeat' split) <;> simp (maxDischargeDepth := 40) [*]
@[simp ↓] theorem objDone_mem (s : State) (n : Nat) (k : Nat) (kind : Nat) (time : Nat) (h : Memory.wf s.mem = true) : Memory.wf (objDone s n k kind time).mem = true := by
  unfold objDone; dsimp only; (repeat' split) <;> simp (maxDischargeDepth := 40) [*]
@[simp ↓] theorem canDrive_pending (s : State) (n : Nat) (fr : CanFrame) : (canDrive s n fr).pending = s.pending := by
  simp (maxDischargeDepth := 40) [canDrive]
@[simp ↓] theorem canDrive_mem (s : State) (n : Nat) (fr : CanFrame) (h : Memory.wf s.mem = true) : Memory.wf (canDrive s n fr).mem = true := by
  simp (maxDischargeDepth := 40) [canDrive, *]
@[simp ↓] theorem canTdc_pending (s : State) (n : Nat) (k : Nat) (tdcv : Option Nat) : (canTdc s n k tdcv).pending = s.pending := by
  unfold canTdc; split <;> simp (maxDischargeDepth := 40) [*]
@[simp ↓] theorem canTdc_mem (s : State) (n : Nat) (k : Nat) (tdcv : Option Nat) (h : Memory.wf s.mem = true) : Memory.wf (canTdc s n k tdcv).mem = true := by
  unfold canTdc; split <;> simp (maxDischargeDepth := 40) [*]
@[simp ↓] theorem objFailed_pending (s : State) (n : Nat) (k : Nat) (cancelled : Bool) : (objFailed s n k cancelled).pending = s.pending := by
  simp (maxDischargeDepth := 40) [objFailed]
@[simp ↓] theorem objFailed_mem (s : State) (n : Nat) (k : Nat) (cancelled : Bool) (h : Memory.wf s.mem = true) : Memory.wf (objFailed s n k cancelled).mem = true := by
  simp (maxDischargeDepth := 40) [objFailed, *]
@[simp ↓] theorem canAlone_pending (s : State) (n : Nat) (ack : Bool) : (canAlone s n ack).pending = s.pending := by
  simp (maxDischargeDepth := 40) [canAlone]
@[simp ↓] theorem canAlone_mem (s : State) (n : Nat) (ack : Bool) (h : Memory.wf s.mem = true) : Memory.wf (canAlone s n ack).mem = true := by
  simp (maxDischargeDepth := 40) [canAlone, *]
@[simp ↓] theorem canGoOff_pending (s : State) (n : Nat) : (canGoOff s n).pending = s.pending := by
  simp (maxDischargeDepth := 40) [canGoOff]
@[simp ↓] theorem canGoOff_mem (s : State) (n : Nat) (h : Memory.wf s.mem = true) : Memory.wf (canGoOff s n).mem = true := by
  simp (maxDischargeDepth := 40) [canGoOff, *]
@[simp ↓] theorem canItems_pending (s : State) (n : Nat) : (canItems s n).pending = s.pending := by
  simp (maxDischargeDepth := 40) [canItems]
@[simp ↓] theorem canItems_mem (s : State) (n : Nat) (h : Memory.wf s.mem = true) : Memory.wf (canItems s n).mem = true := by
  simp +contextual (maxDischargeDepth := 40) [canItems, *]
@[simp ↓] theorem canLeave_pending (s : State) (n : Nat) : (canLeave s n).pending = s.pending := by
  simp (maxDischargeDepth := 40) [canLeave]
@[simp ↓] theorem canLeave_mem (s : State) (n : Nat) (h : Memory.wf s.mem = true) : Memory.wf (canLeave s n).mem = true := by
  simp +contextual (maxDischargeDepth := 40) [canLeave, *]
@[simp ↓] theorem canAfter_pending (s : State) (n : Nat) : (canAfter s n).pending = s.pending := by
  simp (maxDischargeDepth := 40) [canAfter]
@[simp ↓] theorem canAfter_mem (s : State) (n : Nat) (h : Memory.wf s.mem = true) : Memory.wf (canAfter s n).mem = true := by
  simp (maxDischargeDepth := 40) [canAfter, *]
theorem canAttemptEnd_pending (s : State) (n : Nat) (r : CanEnd) (tdcv : Option Nat) (stl : Nat → List Byte → State → State)
    (hs : ∀ k d s, (stl k d s).pending = s.pending) : (canAttemptEnd s n r tdcv stl).pending = s.pending := by
  have ho := fun s fr => canOffer_pending s n fr stl hs
  unfold canAttemptEnd; dsimp only; (repeat' split) <;> simp [ho]
theorem canAttemptEnd_mem (s : State) (n : Nat) (r : CanEnd) (tdcv : Option Nat) (stl : Nat → List Byte → State → State)
    (hs : ∀ k d s, Memory.wf s.mem = true → Memory.wf (stl k d s).mem = true) (h : Memory.wf s.mem = true) :
    Memory.wf (canAttemptEnd s n r tdcv stl).mem = true := by
  have ho := fun s fr => canOffer_mem s n fr stl hs
  unfold canAttemptEnd; dsimp only; (repeat' split) <;> simp (maxDischargeDepth := 40) [ho, h]
@[simp ↓] theorem objLoad_load_pending (n k : Nat) (d : List Byte) (s : State) : (objLoad.load n k d s).pending = s.pending := by
  simp [objLoad.load]
@[simp ↓] theorem objLoad_load_mem (n k : Nat) (d : List Byte) (s : State) (h : Memory.wf s.mem = true) : Memory.wf (objLoad.load n k d s).mem = true := by
  simp (maxDischargeDepth := 40) [objLoad.load, h]
@[simp ↓] theorem objLoad_pending (s : State) (n k : Nat) (d : List Byte) : (objLoad s n k d).pending = s.pending := by
  unfold objLoad; (repeat' split) <;> simp
@[simp ↓] theorem objLoad_mem (s : State) (n k : Nat) (d : List Byte) (h : Memory.wf s.mem = true) : Memory.wf (objLoad s n k d).mem = true := by
  unfold objLoad; (repeat' split) <;> simp [h]
@[simp ↓] theorem objCancel_idle_pending (n k : Nat) (s : State) : (objCancel.idle n k s).2.pending = s.pending := by
  simp [objCancel.idle]
@[simp ↓] theorem objCancel_idle_mem (n k : Nat) (s : State) (h : Memory.wf s.mem = true) : Memory.wf (objCancel.idle n k s).2.mem = true := by
  simp [objCancel.idle, h]
@[simp ↓] theorem objCancel_pending (s : State) (n k : Nat) : (objCancel s n k).2.pending = s.pending := by
  unfold objCancel; (repeat' split) <;> simp
@[simp ↓] theorem objCancel_mem (s : State) (n k : Nat) (h : Memory.wf s.mem = true) : Memory.wf (objCancel s n k).2.mem = true := by
  unfold objCancel; (repeat' split) <;> simp [h]
@[simp ↓] theorem canEnable_pending (n : Nat) (s : State) : (canEnable n s).1.pending = s.pending := by
  simp (maxDischargeDepth := 40) [canEnable]
@[simp ↓] theorem canEnable_mem (n : Nat) (s : State) (h : Memory.wf s.mem = true) : Memory.wf (canEnable n s).1.mem = true := by
  simp (maxDischargeDepth := 40) [canEnable, *]
@[simp ↓] theorem canDisable_pending (n : Nat) (s : State) : (canDisable n s).1.pending = s.pending := by
  simp (maxDischargeDepth := 40) [canDisable]
@[simp ↓] theorem canDisable_mem (n : Nat) (s : State) (h : Memory.wf s.mem = true) : Memory.wf (canDisable n s).1.mem = true := by
  simp (maxDischargeDepth := 40) [canDisable, *]
@[simp ↓] theorem canTxSet_pending (n : Nat) (e : Entry) (s : State) : (canTxSet n e s).1.pending = s.pending := by
  simp (maxDischargeDepth := 40) [canTxSet]
@[simp ↓] theorem canTxSet_mem (n : Nat) (e : Entry) (s : State) (h : Memory.wf s.mem = true) : Memory.wf (canTxSet n e s).1.mem = true := by
  simp (maxDischargeDepth := 40) [canTxSet, *]
@[simp ↓] theorem canTxCancel_pending (n : Nat) (e : Entry) (s : State) : (canTxCancel n e s).1.pending = s.pending := by
  simp (maxDischargeDepth := 40) [canTxCancel]
@[simp ↓] theorem canTxCancel_mem (n : Nat) (e : Entry) (s : State) (h : Memory.wf s.mem = true) : Memory.wf (canTxCancel n e s).1.mem = true := by
  simp (maxDischargeDepth := 40) [canTxCancel, *]
@[simp ↓] theorem canRecover_pending (n : Nat) (x0 : Entry) (s : State) : (canRecover n x0 s).1.pending = s.pending := by
  simp (maxDischargeDepth := 40) [canRecover]
@[simp ↓] theorem canRecover_mem (n : Nat) (x0 : Entry) (s : State) (h : Memory.wf s.mem = true) : Memory.wf (canRecover n x0 s).1.mem = true := by
  simp (maxDischargeDepth := 40) [canRecover, *]

end Sys2Proof.Laws
end

