-- ==== Sys2Proof/Laws/KeepEthCore.lean ====
section
/-! SUPPORT. What every operation of `Machine/EthCore.lean` leaves alone: the queue of waiting commands, and the canonical form of host memory. -/

namespace Sys2Proof.Laws

open Sys2Proof.Machine

@[simp ↓] theorem ethOut_pending (s : State) (portB : Bool) (cls : Nat) (stomped : Nat) (bs : List Byte) : (ethOut s portB cls stomped bs).pending = s.pending := by
  simp (maxDischargeDepth := 40) [ethOut]
@[simp ↓] theorem ethOut_mem (s : State) (portB : Bool) (cls : Nat) (stomped : Nat) (bs : List Byte) (h : Memory.wf s.mem = true) : Memory.wf (ethOut s portB cls stomped bs).mem = true := by
  simp (maxDischargeDepth := 40) [ethOut, *]
@[simp ↓] theorem ethCopy_pending (s : State) (portB : Bool) (cls : Nat) (dst : Nat) (svc : Nat) (hops : Nat) (rseq : Nat) (dual : Bool) (payload : List Byte) : (ethCopy s portB cls dst svc hops rseq dual payload).pending = s.pending := by
  simp (maxDischargeDepth := 40) [ethCopy]
@[simp ↓] theorem ethCopy_mem (s : State) (portB : Bool) (cls : Nat) (dst : Nat) (svc : Nat) (hops : Nat) (rseq : Nat) (dual : Bool) (payload : List Byte) (h : Memory.wf s.mem = true) : Memory.wf (ethCopy s portB cls dst svc hops rseq dual payload).mem = true := by
  simp (maxDischargeDepth := 40) [ethCopy, *]
@[simp ↓] theorem ethCount_pending (s : State) : (ethCount s).pending = s.pending := by
  simp (maxDischargeDepth := 40) [ethCount]
@[simp ↓] theorem ethCount_mem (s : State) (h : Memory.wf s.mem = true) : Memory.wf (ethCount s).mem = true := by
  simp (maxDischargeDepth := 40) [ethCount, *]
@[simp ↓] theorem ethBoth_pending (s : State) (cls : Nat) (dst : Nat) (svc : Nat) (hops : Nat) (rseq : Nat) (payload : List Byte) : (ethBoth s cls dst svc hops rseq payload).pending = s.pending := by
  simp (maxDischargeDepth := 40) [ethBoth]
@[simp ↓] theorem ethBoth_mem (s : State) (cls : Nat) (dst : Nat) (svc : Nat) (hops : Nat) (rseq : Nat) (payload : List Byte) (h : Memory.wf s.mem = true) : Memory.wf (ethBoth s cls dst svc hops rseq payload).mem = true := by
  simp (maxDischargeDepth := 40) [ethBoth, *]
theorem ethSend_pending (s : State) (cls svc dst : Nat) (payload : List Byte) (t : State) (ht : ethSend s cls svc dst payload = some t) :
    t.pending = s.pending := by
  unfold ethSend at ht
  split at ht
  · cases ht
  dsimp only at ht
  split at ht
  · cases ht; simp
  split at ht
  · cases ht; simp
  · simp only [Option.map_eq_some_iff] at ht
    obtain ⟨b, _, rfl⟩ := ht; simp
theorem ethSend_mem (s : State) (cls svc dst : Nat) (payload : List Byte) (t : State) (ht : ethSend s cls svc dst payload = some t)
    (h : Memory.wf s.mem = true) : Memory.wf t.mem = true := by
  unfold ethSend at ht
  split at ht
  · cases ht
  dsimp only at ht
  split at ht
  · cases ht; simp (maxDischargeDepth := 40) [h]
  split at ht
  · cases ht; simp (maxDischargeDepth := 40) [h]
  · simp only [Option.map_eq_some_iff] at ht
    obtain ⟨b, _, rfl⟩ := ht; simp (maxDischargeDepth := 40) [h]
@[simp ↓] theorem ethHardware_pending (s : State) (cls svc dst : Nat) (payload : List Byte) :
    (ethHardware s cls svc dst payload).pending = s.pending := by
  unfold ethHardware; split
  · exact ethSend_pending _ _ _ _ _ _ ‹_›
  · simp
@[simp ↓] theorem ethHardware_mem (s : State) (cls svc dst : Nat) (payload : List Byte) (h : Memory.wf s.mem = true) :
    Memory.wf (ethHardware s cls svc dst payload).mem = true := by
  unfold ethHardware; split
  · exact ethSend_mem _ _ _ _ _ _ ‹_› h
  · simp [h]
@[simp ↓] theorem crcEgress_pending (s : State) (svc : Nat) (dst : Nat) (payload : List Byte) : (crcEgress s svc dst payload).2.pending = s.pending := by
  unfold crcEgress; split <;> simp (maxDischargeDepth := 40) [*]
@[simp ↓] theorem crcEgress_mem (s : State) (svc : Nat) (dst : Nat) (payload : List Byte) (h : Memory.wf s.mem = true) : Memory.wf (crcEgress s svc dst payload).2.mem = true := by
  unfold crcEgress; split <;> simp (maxDischargeDepth := 40) [*]
@[simp ↓] theorem crcIngress_pending (s : State) (svc : Nat) (src : Nat) (payload : List Byte) : (crcIngress s svc src payload).2.pending = s.pending := by
  unfold crcIngress; split <;> simp (maxDischargeDepth := 40) [*]
@[simp ↓] theorem crcIngress_mem (s : State) (svc : Nat) (src : Nat) (payload : List Byte) (h : Memory.wf s.mem = true) : Memory.wf (crcIngress s svc src payload).2.mem = true := by
  unfold crcIngress; split <;> simp (maxDischargeDepth := 40) [*]
@[simp ↓] theorem crcEnable_pending (e : Entry) (s : State) : (crcEnable e s).1.pending = s.pending := by
  simp (maxDischargeDepth := 40) [crcEnable]
@[simp ↓] theorem crcEnable_mem (e : Entry) (s : State) (h : Memory.wf s.mem = true) : Memory.wf (crcEnable e s).1.mem = true := by
  simp (maxDischargeDepth := 40) [crcEnable, *]
@[simp ↓] theorem crcDisable_pending (e : Entry) (s : State) : (crcDisable e s).1.pending = s.pending := by
  simp (maxDischargeDepth := 40) [crcDisable]
@[simp ↓] theorem crcDisable_mem (e : Entry) (s : State) (h : Memory.wf s.mem = true) : Memory.wf (crcDisable e s).1.mem = true := by
  simp (maxDischargeDepth := 40) [crcDisable, *]
@[simp ↓] theorem ethSendOp_pending (qp : Nat) (e : Entry) (s : State) : (ethSendOp qp e s).1.pending = s.pending := by
  unfold ethSendOp; refine withBuf_pending _ _ _ (fun bs => ?_)
  dsimp only
  split
  · simp
  · split
    · rename_i t ht; simp [ethSend_pending _ _ _ _ _ _ ht]
    · simp
@[simp ↓] theorem ethSendOp_mem (qp : Nat) (e : Entry) (s : State) (h : Memory.wf s.mem = true) : Memory.wf (ethSendOp qp e s).1.mem = true := by
  unfold ethSendOp; refine withBuf_mem _ _ _ (fun bs _ => ?_) h
  dsimp only
  split
  · simp [h]
  · split
    · rename_i t ht; exact ethSend_mem _ _ _ _ _ _ ht (by simp (maxDischargeDepth := 40) [h])
    · simp [h]

end Sys2Proof.Laws
end

