-- ==== Sys2Proof/Laws/KeepStlCore.lean ====
section
/-! SUPPORT. What every operation of `Machine/StlCore.lean` leaves alone: the queue of waiting commands, and the canonical form of host memory. -/

namespace Sys2Proof.Laws

open Sys2Proof.Machine

@[simp ↓] theorem stlMod_pending (s : State) (n : Nat) (f : StlSess → StlSess) : (stlMod s n f).pending = s.pending := by
  simp (maxDischargeDepth := 40) [stlMod]
@[simp ↓] theorem stlMod_mem (s : State) (n : Nat) (f : StlSess → StlSess) (h : Memory.wf s.mem = true) : Memory.wf (stlMod s n f).mem = true := by
  simp (maxDischargeDepth := 40) [stlMod, *]
@[simp ↓] theorem stlSetSt_pending (s : State) (n : Nat) (st : Nat) : (stlSetSt s n st).pending = s.pending := by
  simp (maxDischargeDepth := 40) [stlSetSt]
@[simp ↓] theorem stlSetSt_mem (s : State) (n : Nat) (st : Nat) (h : Memory.wf s.mem = true) : Memory.wf (stlSetSt s n st).mem = true := by
  simp (maxDischargeDepth := 40) [stlSetSt, *]
@[simp ↓] theorem namedShow_pending (s : State) : (namedShow s).pending = s.pending := by
  simp (maxDischargeDepth := 40) [namedShow]
@[simp ↓] theorem namedShow_mem (s : State) (h : Memory.wf s.mem = true) : Memory.wf (namedShow s).mem = true := by
  simp +contextual (maxDischargeDepth := 40) [namedShow, *]
@[simp ↓] theorem namedFollow_pending (s : State) : (namedFollow s).pending = s.pending := by
  simp (maxDischargeDepth := 40) [namedFollow]
@[simp ↓] theorem namedFollow_mem (s : State) (h : Memory.wf s.mem = true) : Memory.wf (namedFollow s).mem = true := by
  simp (maxDischargeDepth := 40) [namedFollow, *]
@[simp ↓] theorem freshBytes_pending (n : Nat) (s : State) : (freshBytes n s).2.pending = s.pending := by
  induction n generalizing s with
  | zero => rfl
  | succ n ih => simp [freshBytes, ih]
@[simp ↓] theorem freshBytes_mem (n : Nat) (s : State) (h : Memory.wf s.mem = true) : Memory.wf (freshBytes n s).2.mem = true := by
  induction n generalizing s with
  | zero => exact h
  | succ n ih => simp [freshBytes, ih, h]
@[simp ↓] theorem cyclicData_pending (s : State) (n : Nat) : (cyclicData s n).2.2.pending = s.pending := by
  unfold cyclicData; dsimp only; (repeat' split) <;> simp
@[simp ↓] theorem cyclicData_mem (s : State) (n : Nat) (h : Memory.wf s.mem = true) : Memory.wf (cyclicData s n).2.2.mem = true := by
  unfold cyclicData; dsimp only; (repeat' split) <;> simp [h]
@[simp ↓] theorem stlLaunch_pending (s : State) (n : Nat) (pdu : List Byte) : (stlLaunch s n pdu).pending = s.pending := by
  simp (maxDischargeDepth := 40) [stlLaunch]
@[simp ↓] theorem stlLaunch_mem (s : State) (n : Nat) (pdu : List Byte) (h : Memory.wf s.mem = true) : Memory.wf (stlLaunch s n pdu).mem = true := by
  simp (maxDischargeDepth := 40) [stlLaunch, *]
@[simp ↓] theorem stlSend_pending (s : State) (n : Nat) (kind : Nat) (host : Bool) (d : List Byte) : (stlSend s n kind host d).pending = s.pending := by
  simp (maxDischargeDepth := 40) [stlSend]
@[simp ↓] theorem stlSend_mem (s : State) (n : Nat) (kind : Nat) (host : Bool) (d : List Byte) (h : Memory.wf s.mem = true) : Memory.wf (stlSend s n kind host d).mem = true := by
  simp (maxDischargeDepth := 40) [stlSend, *]
@[simp ↓] theorem stlEvent_pending (s : State) (n : Nat) (kind : Nat) (host : Bool) (d : List Byte) : (stlEvent s n kind host d).pending = s.pending := by
  simp (maxDischargeDepth := 40) [stlEvent]
@[simp ↓] theorem stlEvent_mem (s : State) (n : Nat) (kind : Nat) (host : Bool) (d : List Byte) (h : Memory.wf s.mem = true) : Memory.wf (stlEvent s n kind host d).mem = true := by
  simp (maxDischargeDepth := 40) [stlEvent, *]
@[simp ↓] theorem stlCyclic_pending (s : State) (n : Nat) : (stlCyclic s n).pending = s.pending := by
  simp (maxDischargeDepth := 40) [stlCyclic]
@[simp ↓] theorem stlCyclic_mem (s : State) (n : Nat) (h : Memory.wf s.mem = true) : Memory.wf (stlCyclic s n).mem = true := by
  simp (maxDischargeDepth := 40) [stlCyclic, *]

end Sys2Proof.Laws
end

