-- ==== Sys2Proof/Laws/KeepSafe.lean ====
section
/-! SUPPORT. What every operation of `Machine/Safe.lean` leaves alone: the queue of waiting commands, and the canonical form of host memory. -/

namespace Sys2Proof.Laws

open Sys2Proof.Machine

@[simp ↓] theorem safeReport_pending (s : State) (kind : Nat) (src : Nat) (soMask : Nat) (info : Nat) (cell : Nat) (tile : Nat) (value : Option Int) (snum : Nat) : (safeReport s kind src soMask info cell tile value snum).pending = s.pending := by
  simp (maxDischargeDepth := 40) [safeReport]
@[simp ↓] theorem safeReport_mem (s : State) (kind : Nat) (src : Nat) (soMask : Nat) (info : Nat) (cell : Nat) (tile : Nat) (value : Option Int) (snum : Nat) (h : Memory.wf s.mem = true) : Memory.wf (safeReport s kind src soMask info cell tile value snum).mem = true := by
  simp +contextual (maxDischargeDepth := 40) [safeReport, *]
@[simp ↓] theorem safeNote_pending (s : State) (kind : Nat) (src : Nat) (soMask : Nat) (info : Nat) : (safeNote s kind src soMask info).pending = s.pending := by
  simp (maxDischargeDepth := 40) [safeNote]
@[simp ↓] theorem safeNote_mem (s : State) (kind : Nat) (src : Nat) (soMask : Nat) (info : Nat) (h : Memory.wf s.mem = true) : Memory.wf (safeNote s kind src soMask info).mem = true := by
  simp (maxDischargeDepth := 40) [safeNote, *]
@[simp ↓] theorem safeReadSet_pending (s : State) : (safeReadSet s).pending = s.pending := by
  simp (maxDischargeDepth := 40) [safeReadSet]
@[simp ↓] theorem safeReadSet_mem (s : State) (h : Memory.wf s.mem = true) : Memory.wf (safeReadSet s).mem = true := by
  simp (maxDischargeDepth := 40) [safeReadSet, *]
@[simp ↓] theorem soOff_pending (s : State) (n : Nat) : (soOff s n).pending = s.pending := by
  simp (maxDischargeDepth := 40) [soOff]
@[simp ↓] theorem soOff_mem (s : State) (n : Nat) (h : Memory.wf s.mem = true) : Memory.wf (soOff s n).mem = true := by
  simp (maxDischargeDepth := 40) [soOff, *]
@[simp ↓] theorem soFollow_pending (s : State) (n : Nat) : (soFollow s n).pending = s.pending := by
  simp (maxDischargeDepth := 40) [soFollow]
@[simp ↓] theorem soFollow_mem (s : State) (n : Nat) (h : Memory.wf s.mem = true) : Memory.wf (soFollow s n).mem = true := by
  simp (maxDischargeDepth := 40) [soFollow, *]
@[simp ↓] theorem seqFollow_pending (s : State) : (seqFollow s).pending = s.pending := by
  simp (maxDischargeDepth := 40) [seqFollow]
@[simp ↓] theorem seqFollow_mem (s : State) (h : Memory.wf s.mem = true) : Memory.wf (seqFollow s).mem = true := by
  simp (maxDischargeDepth := 40) [seqFollow, *]
@[simp ↓] theorem safeRefresh_pending (s : State) : (safeRefresh s).pending = s.pending := by
  simp (maxDischargeDepth := 40) [safeRefresh]
@[simp ↓] theorem safeRefresh_mem (s : State) (h : Memory.wf s.mem = true) : Memory.wf (safeRefresh s).mem = true := by
  simp +contextual (maxDischargeDepth := 40) [safeRefresh, *]
@[simp ↓] theorem edgeRefuse_pending (s : State) (src : Nat) (res : Nat) (high : Nat) : (edgeRefuse s src res high).pending = s.pending := by
  simp (maxDischargeDepth := 40) [edgeRefuse]
@[simp ↓] theorem edgeRefuse_mem (s : State) (src : Nat) (res : Nat) (high : Nat) (h : Memory.wf s.mem = true) : Memory.wf (edgeRefuse s src res high).mem = true := by
  simp (maxDischargeDepth := 40) [edgeRefuse, *]
@[simp ↓] theorem edgeAccept_pending (s : State) (src : Nat) : (edgeAccept s src).pending = s.pending := by
  simp (maxDischargeDepth := 40) [edgeAccept]
@[simp ↓] theorem edgeAccept_mem (s : State) (src : Nat) (h : Memory.wf s.mem = true) : Memory.wf (edgeAccept s src).mem = true := by
  simp +contextual (maxDischargeDepth := 40) [edgeAccept, *]
@[simp ↓] theorem rearmAll_pending (s : State) : (rearmAll s).pending = s.pending := by
  simp (maxDischargeDepth := 40) [rearmAll]
@[simp ↓] theorem rearmAll_mem (s : State) (h : Memory.wf s.mem = true) : Memory.wf (rearmAll s).mem = true := by
  simp (maxDischargeDepth := 40) [rearmAll, *]
@[simp ↓] theorem edgeJudge_pending (s : State) (src : Nat) (high : Nat) : (edgeJudge s src high).pending = s.pending := by
  simp (maxDischargeDepth := 40) [edgeJudge]
@[simp ↓] theorem edgeJudge_mem (s : State) (src : Nat) (high : Nat) (h : Memory.wf s.mem = true) : Memory.wf (edgeJudge s src high).mem = true := by
  simp (maxDischargeDepth := 40) [edgeJudge, *]
@[simp ↓] theorem edgeFall_pending (s : State) (src : Nat) (ticks : Nat) : (edgeFall s src ticks).pending = s.pending := by
  simp (maxDischargeDepth := 40) [edgeFall]
@[simp ↓] theorem edgeFall_mem (s : State) (src : Nat) (ticks : Nat) (h : Memory.wf s.mem = true) : Memory.wf (edgeFall s src ticks).mem = true := by
  simp (maxDischargeDepth := 40) [edgeFall, *]
@[simp ↓] theorem tripNotice_pending (s : State) (bs : List Byte) : (tripNotice s bs).pending = s.pending := by
  simp (maxDischargeDepth := 40) [tripNotice]
@[simp ↓] theorem tripNotice_mem (s : State) (bs : List Byte) (h : Memory.wf s.mem = true) : Memory.wf (tripNotice s bs).mem = true := by
  simp (maxDischargeDepth := 40) [tripNotice, *]
@[simp ↓] theorem windowTrip_pending (s : State) : (windowTrip s).pending = s.pending := by
  unfold windowTrip; dsimp only; (repeat' split) <;> simp (maxDischargeDepth := 40) [*]
@[simp ↓] theorem windowTrip_mem (s : State) (h : Memory.wf s.mem = true) : Memory.wf (windowTrip s).mem = true := by
  unfold windowTrip; dsimp only; (repeat' split) <;> simp (maxDischargeDepth := 40) [*]
@[simp ↓] theorem safeTrip_pending (s : State) (c : Nat) (tile : Nat) (cell : Nat) (value : Option Int) (snum : Nat) :
    (safeTrip s c tile cell value snum).pending = s.pending := by
  unfold safeTrip
  split
  · rfl
  · refine (safeRefresh_pending _).trans ((tripNotice_pending _ _).trans ((safeReport_pending _ _ _ _ _ _ _ _ _).trans ?_))
    have h2 : ∀ t : State, t.pending = s.pending →
        (match t.safe.rearm with
          | some src => edgeRefuse { t with safe := { t.safe with rearm := none } } src 7 (rd t R.SAFE_RST_HIGH_MS)
          | none => t).pending = s.pending := by
      intro t ht
      split <;> simp [ht]
    apply h2
    rw [windowTrip_pending]
    split <;> simp
@[simp ↓] theorem safeTrip_mem (s : State) (c : Nat) (tile : Nat) (cell : Nat) (value : Option Int) (snum : Nat) (h : Memory.wf s.mem = true) :
    Memory.wf (safeTrip s c tile cell value snum).mem = true := by
  unfold safeTrip
  split
  · exact h
  · refine safeRefresh_mem _ (tripNotice_mem _ _ (safeReport_mem _ _ _ _ _ _ _ _ _ ?_))
    have h2 : ∀ t : State, Memory.wf t.mem = true →
        Memory.wf (match t.safe.rearm with
          | some src => edgeRefuse { t with safe := { t.safe with rearm := none } } src 7 (rd t R.SAFE_RST_HIGH_MS)
          | none => t).mem = true := by
      intro t ht
      split <;> simp (maxDischargeDepth := 40) [ht]
    apply h2
    refine windowTrip_mem _ ?_
    split <;> simp (maxDischargeDepth := 40) [h]
@[simp ↓] theorem safeTripPlain_pending (s : State) (c : Nat) : (safeTripPlain s c).pending = s.pending := by
  simp (maxDischargeDepth := 40) [safeTripPlain]
@[simp ↓] theorem safeTripPlain_mem (s : State) (c : Nat) (h : Memory.wf s.mem = true) : Memory.wf (safeTripPlain s c).mem = true := by
  simp (maxDischargeDepth := 40) [safeTripPlain, *]
@[simp ↓] theorem soFind_pending (s : State) (n : Nat) (bitsFound : Nat) : (soFind s n bitsFound).pending = s.pending := by
  simp (maxDischargeDepth := 40) [soFind]
@[simp ↓] theorem soFind_mem (s : State) (n : Nat) (bitsFound : Nat) (h : Memory.wf s.mem = true) : Memory.wf (soFind s n bitsFound).mem = true := by
  simp (maxDischargeDepth := 40) [soFind, *]
@[simp ↓] theorem soFault_pending (s : State) (n : Nat) (bitsFound : Nat) : (soFault s n bitsFound).pending = s.pending := by
  simp (maxDischargeDepth := 40) [soFault]
@[simp ↓] theorem soFault_mem (s : State) (n : Nat) (bitsFound : Nat) (h : Memory.wf s.mem = true) : Memory.wf (soFault s n bitsFound).mem = true := by
  simp (maxDischargeDepth := 40) [soFault, *]
@[simp ↓] theorem evalSweep_pending (s : State) (w : Sweep) : (evalSweep s w).pending = s.pending := by
  simp (maxDischargeDepth := 40) [evalSweep]
@[simp ↓] theorem evalSweep_mem (s : State) (w : Sweep) (h : Memory.wf s.mem = true) : Memory.wf (evalSweep s w).mem = true := by
  simp (maxDischargeDepth := 40) [evalSweep, *]
@[simp ↓] theorem evalTimers_pending (s : State) (ms : Nat) : (evalTimers s ms).pending = s.pending := by
  simp (maxDischargeDepth := 40) [evalTimers]
@[simp ↓] theorem evalTimers_mem (s : State) (ms : Nat) (h : Memory.wf s.mem = true) : Memory.wf (evalTimers s ms).mem = true := by
  simp (maxDischargeDepth := 40) [evalTimers, *]
@[simp ↓] theorem judgeTrip_pending (s : State) (c : Nat) : (judgeTrip s c).pending = s.pending := by
  unfold judgeTrip; dsimp only; (repeat' split) <;> simp (maxDischargeDepth := 40) [*]
@[simp ↓] theorem judgeTrip_mem (s : State) (c : Nat) (h : Memory.wf s.mem = true) : Memory.wf (judgeTrip s c).mem = true := by
  unfold judgeTrip; dsimp only; (repeat' split) <;> simp (maxDischargeDepth := 40) [*]
@[simp ↓] theorem judgeAll_pending (s : State) : (judgeAll s).pending = s.pending := by
  simp (maxDischargeDepth := 40) [judgeAll]
@[simp ↓] theorem judgeAll_mem (s : State) (h : Memory.wf s.mem = true) : Memory.wf (judgeAll s).mem = true := by
  simp (maxDischargeDepth := 40) [judgeAll, *]
@[simp ↓] theorem spEvaluate_pending (s0 : State) (ms : Nat) : (spEvaluate s0 ms).pending = s0.pending := by
  simp (maxDischargeDepth := 40) [spEvaluate]
@[simp ↓] theorem spEvaluate_mem (s0 : State) (ms : Nat) (h : Memory.wf s0.mem = true) : Memory.wf (spEvaluate s0 ms).mem = true := by
  simp +contextual (maxDischargeDepth := 40) [spEvaluate, *]
@[simp ↓] theorem thrWrite_pending (s : State) : (thrWrite s).pending = s.pending := by
  simp (maxDischargeDepth := 40) [thrWrite]
@[simp ↓] theorem thrWrite_mem (s : State) (h : Memory.wf s.mem = true) : Memory.wf (thrWrite s).mem = true := by
  simp (maxDischargeDepth := 40) [thrWrite, *]
@[simp ↓] theorem thrCheck_pending (s : State) : (thrCheck s).pending = s.pending := by
  simp (maxDischargeDepth := 40) [thrCheck]
@[simp ↓] theorem thrCheck_mem (s : State) (h : Memory.wf s.mem = true) : Memory.wf (thrCheck s).mem = true := by
  simp (maxDischargeDepth := 40) [thrCheck, *]
@[simp ↓] theorem fogAssert_pending (s0 : State) (open' : Bool) : (fogAssert s0 open').pending = s0.pending := by
  simp (maxDischargeDepth := 40) [fogAssert]
@[simp ↓] theorem fogAssert_mem (s0 : State) (open' : Bool) (h : Memory.wf s0.mem = true) : Memory.wf (fogAssert s0 open').mem = true := by
  simp (maxDischargeDepth := 40) [fogAssert, *]
@[simp ↓] theorem fogDeassert_pending (s : State) : (fogDeassert s).pending = s.pending := by
  simp (maxDischargeDepth := 40) [fogDeassert]
@[simp ↓] theorem fogDeassert_mem (s : State) (h : Memory.wf s.mem = true) : Memory.wf (fogDeassert s).mem = true := by
  simp (maxDischargeDepth := 40) [fogDeassert, *]
@[simp ↓] theorem siPut_pending (s : State) (i : Nat) (v : Nat) : (siPut s i v).pending = s.pending := by
  simp (maxDischargeDepth := 40) [siPut]
@[simp ↓] theorem siPut_mem (s : State) (i : Nat) (v : Nat) (h : Memory.wf s.mem = true) : Memory.wf (siPut s i v).mem = true := by
  simp (maxDischargeDepth := 40) [siPut, *]
@[simp ↓] theorem siFault_pending (s : State) (i : Nat) (bit : Nat) : (siFault s i bit).pending = s.pending := by
  simp (maxDischargeDepth := 40) [siFault]
@[simp ↓] theorem siFault_mem (s : State) (i : Nat) (bit : Nat) (h : Memory.wf s.mem = true) : Memory.wf (siFault s i bit).mem = true := by
  simp (maxDischargeDepth := 40) [siFault, *]
@[simp ↓] theorem siChange_pending (s : State) (i : Nat) (chB : Bool) (on : Bool) : (siChange s i chB on).pending = s.pending := by
  simp (maxDischargeDepth := 40) [siChange]
@[simp ↓] theorem siChange_mem (s : State) (i : Nat) (chB : Bool) (on : Bool) (h : Memory.wf s.mem = true) : Memory.wf (siChange s i chB on).mem = true := by
  simp (maxDischargeDepth := 40) [siChange, *]
@[simp ↓] theorem siTimeout_pending (s : State) (i : Nat) : (siTimeout s i).pending = s.pending := by
  simp (maxDischargeDepth := 40) [siTimeout]
@[simp ↓] theorem siTimeout_mem (s : State) (i : Nat) (h : Memory.wf s.mem = true) : Memory.wf (siTimeout s i).mem = true := by
  simp (maxDischargeDepth := 40) [siTimeout, *]
@[simp ↓] theorem siPulse_pending (s : State) (tpb : Bool) (reads : Nat) : (siPulse s tpb reads).pending = s.pending := by
  simp (maxDischargeDepth := 40) [siPulse]
@[simp ↓] theorem siPulse_mem (s : State) (tpb : Bool) (reads : Nat) (h : Memory.wf s.mem = true) : Memory.wf (siPulse s tpb reads).mem = true := by
  simp +contextual (maxDischargeDepth := 40) [siPulse, *]
@[simp ↓] theorem soLowOn_pending (s : State) (n : Nat) : (soLowOn s n).pending = s.pending := by
  simp (maxDischargeDepth := 40) [soLowOn]
@[simp ↓] theorem soLowOn_mem (s : State) (n : Nat) (h : Memory.wf s.mem = true) : Memory.wf (soLowOn s n).mem = true := by
  simp (maxDischargeDepth := 40) [soLowOn, *]
@[simp ↓] theorem soHighOn_pending (s : State) (n : Nat) : (soHighOn s n).pending = s.pending := by
  simp (maxDischargeDepth := 40) [soHighOn]
@[simp ↓] theorem soHighOn_mem (s : State) (n : Nat) (h : Memory.wf s.mem = true) : Memory.wf (soHighOn s n).mem = true := by
  simp (maxDischargeDepth := 40) [soHighOn, *]
@[simp ↓] theorem soCurrent_pending (s : State) (n : Nat) (ma : Nat) : (soCurrent s n ma).pending = s.pending := by
  unfold soCurrent; split <;> simp (maxDischargeDepth := 40) [*]
@[simp ↓] theorem soCurrent_mem (s : State) (n : Nat) (ma : Nat) (h : Memory.wf s.mem = true) : Memory.wf (soCurrent s n ma).mem = true := by
  unfold soCurrent; split <;> simp (maxDischargeDepth := 40) [*]
@[simp ↓] theorem soCheck_pending (coilMv : Int) (s : State) (p : SoPins × Nat) : (soCheck coilMv s p).pending = s.pending := by
  simp (maxDischargeDepth := 40) [soCheck]
@[simp ↓] theorem soCheck_mem (coilMv : Int) (s : State) (p : SoPins × Nat) (h : Memory.wf s.mem = true) : Memory.wf (soCheck coilMv s p).mem = true := by
  simp (maxDischargeDepth := 40) [soCheck, *]
@[simp ↓] theorem soChecks_pending (s : State) (pins : List SoPins) (coilMv : Int) : (soChecks s pins coilMv).pending = s.pending := by
  simp (maxDischargeDepth := 40) [soChecks]
@[simp ↓] theorem soChecks_mem (s : State) (pins : List SoPins) (coilMv : Int) (h : Memory.wf s.mem = true) : Memory.wf (soChecks s pins coilMv).mem = true := by
  simp +contextual (maxDischargeDepth := 40) [soChecks, *]
@[simp ↓] theorem testSlot_pending (s : State) (j : Nat) (young : Bool) : (testSlot s j young).pending = s.pending := by
  simp (maxDischargeDepth := 40) [testSlot]
@[simp ↓] theorem testSlot_mem (s : State) (j : Nat) (young : Bool) (h : Memory.wf s.mem = true) : Memory.wf (testSlot s j young).mem = true := by
  simp (maxDischargeDepth := 40) [testSlot, *]
@[simp ↓] theorem testEval_pending (s : State) (ma : Nat) (pinMv : Int) (coilMv : Int) : (testEval s ma pinMv coilMv).pending = s.pending := by
  unfold testEval; split <;> simp (maxDischargeDepth := 40) [*]
@[simp ↓] theorem testEval_mem (s : State) (ma : Nat) (pinMv : Int) (coilMv : Int) (h : Memory.wf s.mem = true) : Memory.wf (testEval s ma pinMv coilMv).mem = true := by
  unfold testEval; split <;> simp (maxDischargeDepth := 40) [*]
@[simp ↓] theorem testEnd_pending (s : State) (conducts : Bool) (late : Bool) : (testEnd s conducts late).pending = s.pending := by
  unfold testEnd; split <;> simp (maxDischargeDepth := 40) [*]
@[simp ↓] theorem testEnd_mem (s : State) (conducts : Bool) (late : Bool) (h : Memory.wf s.mem = true) : Memory.wf (testEnd s conducts late).mem = true := by
  unfold testEnd; split <;> simp (maxDischargeDepth := 40) [*]
@[simp ↓] theorem testOverdue_pending (s : State) (n : Nat) : (testOverdue s n).pending = s.pending := by
  simp (maxDischargeDepth := 40) [testOverdue]
@[simp ↓] theorem testOverdue_mem (s : State) (n : Nat) (h : Memory.wf s.mem = true) : Memory.wf (testOverdue s n).mem = true := by
  simp (maxDischargeDepth := 40) [testOverdue, *]
@[simp ↓] theorem preStart_pending (s : State) : (preStart s).pending = s.pending := by
  simp (maxDischargeDepth := 40) [preStart]
@[simp ↓] theorem preStart_mem (s : State) (h : Memory.wf s.mem = true) : Memory.wf (preStart s).mem = true := by
  simp (maxDischargeDepth := 40) [preStart, *]
@[simp ↓] theorem preSettled_pending (s : State) : (preSettled s).pending = s.pending := by
  simp (maxDischargeDepth := 40) [preSettled]
@[simp ↓] theorem preSettled_mem (s : State) (h : Memory.wf s.mem = true) : Memory.wf (preSettled s).mem = true := by
  simp (maxDischargeDepth := 40) [preSettled, *]
@[simp ↓] theorem preTimeout_pending (s : State) : (preTimeout s).pending = s.pending := by
  simp (maxDischargeDepth := 40) [preTimeout]
@[simp ↓] theorem preTimeout_mem (s : State) (h : Memory.wf s.mem = true) : Memory.wf (preTimeout s).mem = true := by
  simp (maxDischargeDepth := 40) [preTimeout, *]
@[simp ↓] theorem preOverlap_pending (s : State) : (preOverlap s).pending = s.pending := by
  simp (maxDischargeDepth := 40) [preOverlap]
@[simp ↓] theorem preOverlap_mem (s : State) (h : Memory.wf s.mem = true) : Memory.wf (preOverlap s).mem = true := by
  simp (maxDischargeDepth := 40) [preOverlap, *]
@[simp ↓] theorem setCrc_pending (s : State) (flips : List (Nat × Nat)) : (setCrc s flips).pending = s.pending := by
  simp (maxDischargeDepth := 40) [setCrc]
@[simp ↓] theorem setCrc_mem (s : State) (flips : List (Nat × Nat)) (h : Memory.wf s.mem = true) : Memory.wf (setCrc s flips).mem = true := by
  simp (maxDischargeDepth := 40) [setCrc, *]
@[simp ↓] theorem commReply_pending (s : State) (n : Nat) (op : Nat) (ws : List Nat) : (commReply s n op ws).pending = s.pending := by
  simp (maxDischargeDepth := 40) [commReply]
@[simp ↓] theorem commReply_mem (s : State) (n : Nat) (op : Nat) (ws : List Nat) (h : Memory.wf s.mem = true) : Memory.wf (commReply s n op ws).mem = true := by
  simp (maxDischargeDepth := 40) [commReply, *]
@[simp ↓] theorem commResult_pending (s : State) (n : Nat) (r : Nat) : (commResult s n r).pending = s.pending := by
  simp (maxDischargeDepth := 40) [commResult]
@[simp ↓] theorem commResult_mem (s : State) (n : Nat) (r : Nat) (h : Memory.wf s.mem = true) : Memory.wf (commResult s n r).mem = true := by
  simp (maxDischargeDepth := 40) [commResult, *]
@[simp ↓] theorem commCheck_pending (s : State) (n : Nat) : (commCheck s n).pending = s.pending := by
  simp (maxDischargeDepth := 40) [commCheck]
@[simp ↓] theorem commCheck_mem (s : State) (n : Nat) (h : Memory.wf s.mem = true) : Memory.wf (commCheck s n).mem = true := by
  simp (maxDischargeDepth := 40) [commCheck, *]
@[simp ↓] theorem commDrop_pending (s : State) : (commDrop s).pending = s.pending := by
  simp (maxDischargeDepth := 40) [commDrop]
@[simp ↓] theorem commDrop_mem (s : State) (h : Memory.wf s.mem = true) : Memory.wf (commDrop s).mem = true := by
  simp (maxDischargeDepth := 40) [commDrop, *]
@[simp ↓] theorem commLoad_pending (s : State) (n : Nat) (ofs : Nat) (data : List Byte) : (commLoad s n ofs data).pending = s.pending := by
  simp (maxDischargeDepth := 40) [commLoad]
@[simp ↓] theorem commLoad_mem (s : State) (n : Nat) (ofs : Nat) (data : List Byte) (h : Memory.wf s.mem = true) : Memory.wf (commLoad s n ofs data).mem = true := by
  simp (maxDischargeDepth := 40) [commLoad, *]
@[simp ↓] theorem safeStore_pending (s : State) (f : SafeCopy → SafeCopy) : (safeStore s f).pending = s.pending := by
  simp (maxDischargeDepth := 40) [safeStore]
@[simp ↓] theorem safeStore_mem (s : State) (f : SafeCopy → SafeCopy) (h : Memory.wf s.mem = true) : Memory.wf (safeStore s f).mem = true := by
  simp (maxDischargeDepth := 40) [safeStore, *]
@[simp ↓] theorem commLoadEnd_pending (s : State) (n : Nat) : (commLoadEnd s n).pending = s.pending := by
  unfold commLoadEnd; (repeat' split) <;> simp (maxDischargeDepth := 40) [*]
@[simp ↓] theorem commLoadEnd_mem (s : State) (n : Nat) (h : Memory.wf s.mem = true) : Memory.wf (commLoadEnd s n).mem = true := by
  unfold commLoadEnd; (repeat' split) <;> simp (maxDischargeDepth := 40) [*]
@[simp ↓] theorem commConfirm_pending (s : State) (n : Nat) (value : Nat) (oper : Nat) : (commConfirm s n value oper).pending = s.pending := by
  simp (maxDischargeDepth := 40) [commConfirm]
@[simp ↓] theorem commConfirm_mem (s : State) (n : Nat) (value : Nat) (oper : Nat) (h : Memory.wf s.mem = true) : Memory.wf (commConfirm s n value oper).mem = true := by
  simp (maxDischargeDepth := 40) [commConfirm, *]
@[simp ↓] theorem commRepair_pending (s : State) (n : Nat) (confirmed : Option Nat) (oper : Nat) : (commRepair s n confirmed oper).pending = s.pending := by
  unfold commRepair; (repeat' split) <;> simp (maxDischargeDepth := 40) [*]
@[simp ↓] theorem commRepair_mem (s : State) (n : Nat) (confirmed : Option Nat) (oper : Nat) (h : Memory.wf s.mem = true) : Memory.wf (commRepair s n confirmed oper).mem = true := by
  unfold commRepair; (repeat' split) <;> simp (maxDischargeDepth := 40) [*]
@[simp ↓] theorem safeBoot_pending (s : State) (fw : Bool) : (safeBoot s fw).pending = s.pending := by
  simp (maxDischargeDepth := 40) [safeBoot]
@[simp ↓] theorem safeBoot_mem (s : State) (fw : Bool) (h : Memory.wf s.mem = true) : Memory.wf (safeBoot s fw).mem = true := by
  simp (maxDischargeDepth := 40) [safeBoot, *]
@[simp ↓] theorem safeSetRead_pending (s : State) : (safeSetRead s).pending = s.pending := by
  simp (maxDischargeDepth := 40) [safeSetRead]
@[simp ↓] theorem safeSetRead_mem (s : State) (h : Memory.wf s.mem = true) : Memory.wf (safeSetRead s).mem = true := by
  simp (maxDischargeDepth := 40) [safeSetRead, *]
@[simp ↓] theorem safeArm_pending (s : State) : (safeArm s).pending = s.pending := by
  simp (maxDischargeDepth := 40) [safeArm]
@[simp ↓] theorem safeArm_mem (s : State) (h : Memory.wf s.mem = true) : Memory.wf (safeArm s).mem = true := by
  simp (maxDischargeDepth := 40) [safeArm, *]
@[simp ↓] theorem safeActive_pending (s : State) : (safeActive s).pending = s.pending := by
  simp (maxDischargeDepth := 40) [safeActive]
@[simp ↓] theorem safeActive_mem (s : State) (h : Memory.wf s.mem = true) : Memory.wf (safeActive s).mem = true := by
  simp (maxDischargeDepth := 40) [safeActive, *]
@[simp ↓] theorem safeBeacon_pending (s : State) (so : Nat) (acc : Nat) (ready : Bool) (active : Bool) : (safeBeacon s so acc ready active).pending = s.pending := by
  simp (maxDischargeDepth := 40) [safeBeacon]
@[simp ↓] theorem safeBeacon_mem (s : State) (so : Nat) (acc : Nat) (ready : Bool) (active : Bool) (h : Memory.wf s.mem = true) : Memory.wf (safeBeacon s so acc ready active).mem = true := by
  simp (maxDischargeDepth := 40) [safeBeacon, *]

end Sys2Proof.Laws
end

