-- ==== Sys2Proof/Laws/KeepStl.lean ====
section
/-! SUPPORT. What every operation of `Machine/Stl.lean` leaves alone: the queue of waiting commands, and the canonical form of host memory. -/

namespace Sys2Proof.Laws

open Sys2Proof.Machine

@[simp ↓] theorem stlLossActs_pending (s : State) (n : Nat) (trip : Bool) : (stlLossActs s n trip).pending = s.pending := by
  simp (maxDischargeDepth := 40) [stlLossActs]
@[simp ↓] theorem stlLossActs_mem (s : State) (n : Nat) (trip : Bool) (h : Memory.wf s.mem = true) : Memory.wf (stlLossActs s n trip).mem = true := by
  simp (maxDischargeDepth := 40) [stlLossActs, *]
@[simp ↓] theorem stlVerdict_pending (s : State) (n : Nat) : (stlVerdict s n).pending = s.pending := by
  simp (maxDischargeDepth := 40) [stlVerdict]
@[simp ↓] theorem stlVerdict_mem (s : State) (n : Nat) (h : Memory.wf s.mem = true) : Memory.wf (stlVerdict s n).mem = true := by
  simp (maxDischargeDepth := 40) [stlVerdict, *]
@[simp ↓] theorem stlErr_pending (s : State) (n : Nat) : (stlErr s n).pending = s.pending := by
  simp (maxDischargeDepth := 40) [stlErr]
@[simp ↓] theorem stlErr_mem (s : State) (n : Nat) (h : Memory.wf s.mem = true) : Memory.wf (stlErr s n).mem = true := by
  simp (maxDischargeDepth := 40) [stlErr, *]
@[simp ↓] theorem stlOpenState_pending (s : State) (n : Nat) : (stlOpenState s n).pending = s.pending := by
  simp (maxDischargeDepth := 40) [stlOpenState]
@[simp ↓] theorem stlOpenState_mem (s : State) (n : Nat) (h : Memory.wf s.mem = true) : Memory.wf (stlOpenState s n).mem = true := by
  simp (maxDischargeDepth := 40) [stlOpenState, *]
@[simp ↓] theorem stlSeen_pending (s : State) (n : Nat) (pdu : List Byte) : (stlSeen s n pdu).pending = s.pending := by
  simp (maxDischargeDepth := 40) [stlSeen]
@[simp ↓] theorem stlSeen_mem (s : State) (n : Nat) (pdu : List Byte) (h : Memory.wf s.mem = true) : Memory.wf (stlSeen s n pdu).mem = true := by
  simp (maxDischargeDepth := 40) [stlSeen, *]
@[simp ↓] theorem stlTake_pending (s : State) (n : Nat) (pdu : List Byte) : (stlTake s n pdu).pending = s.pending := by
  simp (maxDischargeDepth := 40) [stlTake]
@[simp ↓] theorem stlTake_mem (s : State) (n : Nat) (pdu : List Byte) (h : Memory.wf s.mem = true) : Memory.wf (stlTake s n pdu).mem = true := by
  simp (maxDischargeDepth := 40) [stlTake, *]
@[simp ↓] theorem stlOpening1_pending (s : State) (n : Nat) (pdu : List Byte) : (stlOpening1 s n pdu).pending = s.pending := by
  simp (maxDischargeDepth := 40) [stlOpening1]
@[simp ↓] theorem stlOpening1_mem (s : State) (n : Nat) (pdu : List Byte) (h : Memory.wf s.mem = true) : Memory.wf (stlOpening1 s n pdu).mem = true := by
  simp (maxDischargeDepth := 40) [stlOpening1, *]
@[simp ↓] theorem commFrame_pending (s : State) (n : Nat) (d : List Byte) : (commFrame s n d).pending = s.pending := by
  unfold commFrame; split <;> simp (maxDischargeDepth := 40) [*]
@[simp ↓] theorem commFrame_mem (s : State) (n : Nat) (d : List Byte) (h : Memory.wf s.mem = true) : Memory.wf (commFrame s n d).mem = true := by
  unfold commFrame; split <;> simp (maxDischargeDepth := 40) [*]
@[simp ↓] theorem stlReset_pending (s : State) (n : Nat) (rise : Bool) : (stlReset s n rise).pending = s.pending := by
  unfold stlReset; (repeat' split) <;> simp (maxDischargeDepth := 40) [*]
@[simp ↓] theorem stlReset_mem (s : State) (n : Nat) (rise : Bool) (h : Memory.wf s.mem = true) : Memory.wf (stlReset s n rise).mem = true := by
  unfold stlReset; (repeat' split) <;> simp (maxDischargeDepth := 40) [*]
@[simp ↓] theorem stlAct_pending (s : State) (n : Nat) (pdu : List Byte) : (stlAct s n pdu).pending = s.pending := by
  unfold stlAct; split <;> simp (maxDischargeDepth := 40) [*]
@[simp ↓] theorem stlAct_mem (s : State) (n : Nat) (pdu : List Byte) (h : Memory.wf s.mem = true) : Memory.wf (stlAct s n pdu).mem = true := by
  unfold stlAct; split <;> simp (maxDischargeDepth := 40) [*]
@[simp ↓] theorem stlRunning_pending (s : State) (n : Nat) (pdu : List Byte) : (stlRunning s n pdu).pending = s.pending := by
  simp (maxDischargeDepth := 40) [stlRunning]
@[simp ↓] theorem stlRunning_mem (s : State) (n : Nat) (pdu : List Byte) (h : Memory.wf s.mem = true) : Memory.wf (stlRunning s n pdu).mem = true := by
  simp (maxDischargeDepth := 40) [stlRunning, *]
@[simp ↓] theorem stlReceive_pending (s : State) (medium : Nat) (src : Nat) (pdu : List Byte) : (stlReceive s medium src pdu).pending = s.pending := by
  unfold stlReceive; (repeat' split) <;> simp (maxDischargeDepth := 40) [*]
@[simp ↓] theorem stlReceive_mem (s : State) (medium : Nat) (src : Nat) (pdu : List Byte) (h : Memory.wf s.mem = true) : Memory.wf (stlReceive s medium src pdu).mem = true := by
  unfold stlReceive; (repeat' split) <;> simp (maxDischargeDepth := 40) [*]
@[simp ↓] theorem stlObjs_pending (s : State) (n : Nat) (take : Bool) : (stlObjs s n take).pending = s.pending := by
  simp (maxDischargeDepth := 40) [stlObjs]
@[simp ↓] theorem stlObjs_mem (s : State) (n : Nat) (take : Bool) (h : Memory.wf s.mem = true) : Memory.wf (stlObjs s n take).mem = true := by
  simp (maxDischargeDepth := 40) [stlObjs, *]
@[simp ↓] theorem stlOpen_pending (s : State) (n : Nat) : (stlOpen s n).pending = s.pending := by
  simp (maxDischargeDepth := 40) [stlOpen]
@[simp ↓] theorem stlOpen_mem (s : State) (n : Nat) (h : Memory.wf s.mem = true) : Memory.wf (stlOpen s n).mem = true := by
  simp (maxDischargeDepth := 40) [stlOpen, *]
@[simp ↓] theorem stlClose_pending (s : State) (n : Nat) : (stlClose s n).pending = s.pending := by
  simp (maxDischargeDepth := 40) [stlClose]
@[simp ↓] theorem stlClose_mem (s : State) (n : Nat) (h : Memory.wf s.mem = true) : Memory.wf (stlClose s n).mem = true := by
  simp (maxDischargeDepth := 40) [stlClose, *]
@[simp ↓] theorem stlStart_pending (s : State) : (stlStart s).pending = s.pending := by
  unfold stlStart; dsimp only; rw [foldl_pending]
  · simp
  · intro s n; split <;> simp
@[simp ↓] theorem stlStart_mem (s : State) (h : Memory.wf s.mem = true) : Memory.wf (stlStart s).mem = true := by
  unfold stlStart; dsimp only
  refine foldl_mem _ (fun s n hs => ?_) _ _ (by simp [h])
  split <;> simp [hs]
@[simp ↓] theorem stlEnable_pending (e : Entry) (s : State) : (stlEnable e s).1.pending = s.pending := by
  simp (maxDischargeDepth := 40) [stlEnable]
@[simp ↓] theorem stlEnable_mem (e : Entry) (s : State) (h : Memory.wf s.mem = true) : Memory.wf (stlEnable e s).1.mem = true := by
  simp (maxDischargeDepth := 40) [stlEnable, *]
@[simp ↓] theorem stlDisable_pending (e : Entry) (s : State) : (stlDisable e s).1.pending = s.pending := by
  simp (maxDischargeDepth := 40) [stlDisable]
@[simp ↓] theorem stlDisable_mem (e : Entry) (s : State) (h : Memory.wf s.mem = true) : Memory.wf (stlDisable e s).1.mem = true := by
  simp (maxDischargeDepth := 40) [stlDisable, *]
@[simp ↓] theorem stlSetData_pending (e : Entry) (s : State) : (stlSetData e s).1.pending = s.pending := by
  simp (maxDischargeDepth := 40) [stlSetData]
@[simp ↓] theorem stlSetData_mem (e : Entry) (s : State) (h : Memory.wf s.mem = true) : Memory.wf (stlSetData e s).1.mem = true := by
  simp (maxDischargeDepth := 40) [stlSetData, *]
@[simp ↓] theorem stlResetCmd_pending (e : Entry) (s : State) : (stlResetCmd e s).1.pending = s.pending := by
  simp (maxDischargeDepth := 40) [stlResetCmd]
@[simp ↓] theorem stlResetCmd_mem (e : Entry) (s : State) (h : Memory.wf s.mem = true) : Memory.wf (stlResetCmd e s).1.mem = true := by
  simp (maxDischargeDepth := 40) [stlResetCmd, *]
@[simp ↓] theorem relayServe_pending (n : Nat) (s : State) : (relayServe n s).pending = s.pending := by
  induction n generalizing s with
  | zero => rfl
  | succ n ih => unfold relayServe; dsimp only; split <;> simp [ih]
@[simp ↓] theorem relayServe_mem (n : Nat) (s : State) (h : Memory.wf s.mem = true) : Memory.wf (relayServe n s).mem = true := by
  induction n generalizing s with
  | zero => exact h
  | succ n ih => unfold relayServe; dsimp only; split <;> simp (maxDischargeDepth := 40) [ih, h]
@[simp ↓] theorem stlRelayRx_pending (e : Entry) (s : State) : (stlRelayRx e s).1.pending = s.pending := by
  simp (maxDischargeDepth := 40) [stlRelayRx]
@[simp ↓] theorem stlRelayRx_mem (e : Entry) (s : State) (h : Memory.wf s.mem = true) : Memory.wf (stlRelayRx e s).1.mem = true := by
  simp (maxDischargeDepth := 40) [stlRelayRx, *]
@[simp ↓] theorem stlRelayTx_pending (e : Entry) (s : State) : (stlRelayTx e s).1.pending = s.pending := by
  unfold stlRelayTx; dsimp only; (repeat' split) <;> simp (maxDischargeDepth := 40) [*]
@[simp ↓] theorem stlRelayTx_mem (e : Entry) (s : State) (h : Memory.wf s.mem = true) : Memory.wf (stlRelayTx e s).1.mem = true := by
  unfold stlRelayTx; dsimp only; (repeat' split) <;> simp (maxDischargeDepth := 40) [*]
@[simp ↓] theorem stlSessRead_pending (e : Entry) (s : State) : (stlSessRead e s).1.pending = s.pending := by
  simp (maxDischargeDepth := 40) [stlSessRead]
@[simp ↓] theorem stlSessRead_mem (e : Entry) (s : State) (h : Memory.wf s.mem = true) : Memory.wf (stlSessRead e s).1.mem = true := by
  simp (maxDischargeDepth := 40) [stlSessRead, *]
@[simp ↓] theorem canStl_pending (n : Nat) (x0 : Nat) (d : List Byte) (s : State) : (canStl n x0 d s).pending = s.pending := by
  simp (maxDischargeDepth := 40) [canStl]
@[simp ↓] theorem canStl_mem (n : Nat) (x0 : Nat) (d : List Byte) (s : State) (h : Memory.wf s.mem = true) : Memory.wf (canStl n x0 d s).mem = true := by
  simp (maxDischargeDepth := 40) [canStl, *]

end Sys2Proof.Laws
end

