-- ==== Sys2Proof/Laws/KeepStart.lean ====
section
/-! SUPPORT. What every operation of `Machine/Start.lean` leaves alone: the queue of waiting commands, and the canonical form of host memory. -/

namespace Sys2Proof.Laws

open Sys2Proof.Machine

@[simp ↓] theorem chainWake_pending (s : State) (noLock : List Nat) : (chainWake s noLock).pending = s.pending := by
  simp (maxDischargeDepth := 40) [chainWake]
@[simp ↓] theorem chainWake_mem (s : State) (noLock : List Nat) (h : Memory.wf s.mem = true) : Memory.wf (chainWake s noLock).mem = true := by
  simp (maxDischargeDepth := 40) [chainWake, *]
@[simp ↓] theorem chainUp_pending (s : State) (noLock : List Nat) (m : Option (Nat × Nat × List (Option Nat))) : (chainUp s noLock m).pending = s.pending := by
  unfold chainUp; split <;> simp (maxDischargeDepth := 40) [*]
@[simp ↓] theorem chainUp_mem (s : State) (noLock : List Nat) (m : Option (Nat × Nat × List (Option Nat))) (h : Memory.wf s.mem = true) : Memory.wf (chainUp s noLock m).mem = true := by
  unfold chainUp; dsimp only; (repeat' split) <;> simp_all (maxDischargeDepth := 40)

end Sys2Proof.Laws
end

