-- ==== Sys2Proof/Laws/KeepRed.lean ====
section
/-! SUPPORT. What every operation of `Machine/Red.lean` leaves alone: the queue of waiting commands, and the canonical form of host memory. -/

namespace Sys2Proof.Laws

open Sys2Proof.Machine

@[simp ↓] theorem redCount_pending (s : State) : (redCount s).pending = s.pending := by
  simp (maxDischargeDepth := 40) [redCount]
@[simp ↓] theorem redCount_mem (s : State) (h : Memory.wf s.mem = true) : Memory.wf (redCount s).mem = true := by
  simp (maxDischargeDepth := 40) [redCount, *]
@[simp ↓] theorem keepEmit_pending (s : State) (pid : Nat) (u : Nat) (bs : List Byte) : (keepEmit s pid u bs).pending = s.pending := by
  simp (maxDischargeDepth := 40) [keepEmit]
@[simp ↓] theorem keepEmit_mem (s : State) (pid : Nat) (u : Nat) (bs : List Byte) (h : Memory.wf s.mem = true) : Memory.wf (keepEmit s pid u bs).mem = true := by
  simp (maxDischargeDepth := 40) [keepEmit, *]
@[simp ↓] theorem toKeeper_pending (s : State) (bs : List Byte) : (toKeeper s bs).pending = s.pending := by
  simp (maxDischargeDepth := 40) [toKeeper]
@[simp ↓] theorem toKeeper_mem (s : State) (bs : List Byte) (h : Memory.wf s.mem = true) : Memory.wf (toKeeper s bs).mem = true := by
  simp (maxDischargeDepth := 40) [toKeeper, *]
@[simp ↓] theorem beaconPaths_pending (s : State) (bs : List Byte) : (beaconPaths s bs).pending = s.pending := by
  simp (maxDischargeDepth := 40) [beaconPaths]
@[simp ↓] theorem beaconPaths_mem (s : State) (bs : List Byte) (h : Memory.wf s.mem = true) : Memory.wf (beaconPaths s bs).mem = true := by
  simp (maxDischargeDepth := 40) [beaconPaths, *]
@[simp ↓] theorem beaconOut_pending (s : State) : (beaconOut s).pending = s.pending := by
  simp (maxDischargeDepth := 40) [beaconOut]
@[simp ↓] theorem beaconOut_mem (s : State) (h : Memory.wf s.mem = true) : Memory.wf (beaconOut s).mem = true := by
  simp (maxDischargeDepth := 40) [beaconOut, *]
@[simp ↓] theorem keeperSend_pending (s : State) (ty : Nat) (arg : Nat) : (keeperSend s ty arg).pending = s.pending := by
  simp (maxDischargeDepth := 40) [keeperSend]
@[simp ↓] theorem keeperSend_mem (s : State) (ty : Nat) (arg : Nat) (h : Memory.wf s.mem = true) : Memory.wf (keeperSend s ty arg).mem = true := by
  simp (maxDischargeDepth := 40) [keeperSend, *]
@[simp ↓] theorem epochTake_pending (s : State) (e : Nat) : (epochTake s e).pending = s.pending := by
  simp (maxDischargeDepth := 40) [epochTake]
@[simp ↓] theorem epochTake_mem (s : State) (e : Nat) (h : Memory.wf s.mem = true) : Memory.wf (epochTake s e).mem = true := by
  simp (maxDischargeDepth := 40) [epochTake, *]
@[simp ↓] theorem driveFollow_pending (s : State) : (driveFollow s).pending = s.pending := by
  simp (maxDischargeDepth := 40) [driveFollow]
@[simp ↓] theorem driveFollow_mem (s : State) (h : Memory.wf s.mem = true) : Memory.wf (driveFollow s).mem = true := by
  simp (maxDischargeDepth := 40) [driveFollow, *]
@[simp ↓] theorem roleTake_pending (s : State) (r : Nat) : (roleTake s r).pending = s.pending := by
  simp (maxDischargeDepth := 40) [roleTake]
@[simp ↓] theorem roleTake_mem (s : State) (r : Nat) (h : Memory.wf s.mem = true) : Memory.wf (roleTake s r).mem = true := by
  simp (maxDischargeDepth := 40) [roleTake, *]
@[simp ↓] theorem agreeFollow_pending (s : State) : (agreeFollow s).pending = s.pending := by
  simp (maxDischargeDepth := 40) [agreeFollow]
@[simp ↓] theorem agreeFollow_mem (s : State) (h : Memory.wf s.mem = true) : Memory.wf (agreeFollow s).mem = true := by
  simp (maxDischargeDepth := 40) [agreeFollow, *]
@[simp ↓] theorem holdoffFollow_pending (s : State) : (holdoffFollow s).pending = s.pending := by
  simp (maxDischargeDepth := 40) [holdoffFollow]
@[simp ↓] theorem holdoffFollow_mem (s : State) (h : Memory.wf s.mem = true) : Memory.wf (holdoffFollow s).mem = true := by
  simp (maxDischargeDepth := 40) [holdoffFollow, *]
@[simp ↓] theorem pairUpdAbort_pending (s : State) (step : Nat) : (pairUpdAbort s step).pending = s.pending := by
  simp (maxDischargeDepth := 40) [pairUpdAbort]
@[simp ↓] theorem pairUpdAbort_mem (s : State) (step : Nat) (h : Memory.wf s.mem = true) : Memory.wf (pairUpdAbort s step).mem = true := by
  simp (maxDischargeDepth := 40) [pairUpdAbort, *]
@[simp ↓] theorem hoStart_pending (s : State) (why : Nat) : (hoStart s why).pending = s.pending := by
  simp (maxDischargeDepth := 40) [hoStart]
@[simp ↓] theorem hoStart_mem (s : State) (why : Nat) (h : Memory.wf s.mem = true) : Memory.wf (hoStart s why).mem = true := by
  simp (maxDischargeDepth := 40) [hoStart, *]
@[simp ↓] theorem hoClear_pending (s : State) : (hoClear s).pending = s.pending := by
  simp (maxDischargeDepth := 40) [hoClear]
@[simp ↓] theorem hoClear_mem (s : State) (h : Memory.wf s.mem = true) : Memory.wf (hoClear s).mem = true := by
  simp (maxDischargeDepth := 40) [hoClear, *]
@[simp ↓] theorem hoAbort_pending (s : State) (status : Nat) (ext : Nat) : (hoAbort s status ext).pending = s.pending := by
  simp (maxDischargeDepth := 40) [hoAbort]
@[simp ↓] theorem hoAbort_mem (s : State) (status : Nat) (ext : Nat) (h : Memory.wf s.mem = true) : Memory.wf (hoAbort s status ext).mem = true := by
  simp (maxDischargeDepth := 40) [hoAbort, *]
@[simp ↓] theorem driveStop_pending (s : State) : (driveStop s).pending = s.pending := by
  simp (maxDischargeDepth := 40) [driveStop]
@[simp ↓] theorem driveStop_mem (s : State) (h : Memory.wf s.mem = true) : Memory.wf (driveStop s).mem = true := by
  simp (maxDischargeDepth := 40) [driveStop, *]
@[simp ↓] theorem hoRelease_pending (s : State) (epoch : Nat) : (hoRelease s epoch).pending = s.pending := by
  simp (maxDischargeDepth := 40) [hoRelease]
@[simp ↓] theorem hoRelease_mem (s : State) (epoch : Nat) (h : Memory.wf s.mem = true) : Memory.wf (hoRelease s epoch).mem = true := by
  simp (maxDischargeDepth := 40) [hoRelease, *]
@[simp ↓] theorem mirrorGrant_pending (s : State) (m : List Byte) : (mirrorGrant s m).2.pending = s.pending := by
  simp (maxDischargeDepth := 40) [mirrorGrant]
@[simp ↓] theorem mirrorGrant_mem (s : State) (m : List Byte) (h : Memory.wf s.mem = true) : Memory.wf (mirrorGrant s m).2.mem = true := by
  simp (maxDischargeDepth := 40) [mirrorGrant, *]
@[simp ↓] theorem dlyTake_pending (s : State) (bypass : Bool) : (dlyTake s bypass).pending = s.pending := by
  simp (maxDischargeDepth := 40) [dlyTake]
@[simp ↓] theorem dlyTake_mem (s : State) (bypass : Bool) (h : Memory.wf s.mem = true) : Memory.wf (dlyTake s bypass).mem = true := by
  simp (maxDischargeDepth := 40) [dlyTake, *]
@[simp ↓] theorem takeOver_pending (s : State) : (takeOver s).pending = s.pending := by
  simp (maxDischargeDepth := 40) [takeOver]
@[simp ↓] theorem takeOver_mem (s : State) (h : Memory.wf s.mem = true) : Memory.wf (takeOver s).mem = true := by
  simp (maxDischargeDepth := 40) [takeOver, *]
@[simp ↓] theorem activeEnter_pending (s : State) (epoch : Nat) : (activeEnter s epoch).pending = s.pending := by
  simp (maxDischargeDepth := 40) [activeEnter]
@[simp ↓] theorem activeEnter_mem (s : State) (epoch : Nat) (h : Memory.wf s.mem = true) : Memory.wf (activeEnter s epoch).mem = true := by
  simp (maxDischargeDepth := 40) [activeEnter, *]
@[simp ↓] theorem grantTake_pending (s : State) (epoch : Nat) (arg : Nat) : (grantTake s epoch arg).pending = s.pending := by
  simp (maxDischargeDepth := 40) [grantTake]
@[simp ↓] theorem grantTake_mem (s : State) (epoch : Nat) (arg : Nat) (h : Memory.wf s.mem = true) : Memory.wf (grantTake s epoch arg).mem = true := by
  simp (maxDischargeDepth := 40) [grantTake, *]
@[simp ↓] theorem claimStart_pending (s : State) : (claimStart s).pending = s.pending := by
  simp (maxDischargeDepth := 40) [claimStart]
@[simp ↓] theorem claimStart_mem (s : State) (h : Memory.wf s.mem = true) : Memory.wf (claimStart s).mem = true := by
  simp (maxDischargeDepth := 40) [claimStart, *]
@[simp ↓] theorem verdictTake_pending (s : State) : (verdictTake s).pending = s.pending := by
  simp (maxDischargeDepth := 40) [verdictTake]
@[simp ↓] theorem verdictTake_mem (s : State) (h : Memory.wf s.mem = true) : Memory.wf (verdictTake s).mem = true := by
  simp (maxDischargeDepth := 40) [verdictTake, *]
@[simp ↓] theorem fenceTake_pending (s : State) : (fenceTake s).pending = s.pending := by
  simp (maxDischargeDepth := 40) [fenceTake]
@[simp ↓] theorem fenceTake_mem (s : State) (h : Memory.wf s.mem = true) : Memory.wf (fenceTake s).mem = true := by
  simp (maxDischargeDepth := 40) [fenceTake, *]
@[simp ↓] theorem fenceReturn_pending (s : State) : (fenceReturn s).pending = s.pending := by
  simp (maxDischargeDepth := 40) [fenceReturn]
@[simp ↓] theorem fenceReturn_mem (s : State) (h : Memory.wf s.mem = true) : Memory.wf (fenceReturn s).mem = true := by
  simp (maxDischargeDepth := 40) [fenceReturn, *]
@[simp ↓] theorem holdExpired_pending (s : State) : (holdExpired s).pending = s.pending := by
  simp (maxDischargeDepth := 40) [holdExpired]
@[simp ↓] theorem holdExpired_mem (s : State) (h : Memory.wf s.mem = true) : Memory.wf (holdExpired s).mem = true := by
  simp (maxDischargeDepth := 40) [holdExpired, *]
@[simp ↓] theorem pathShow_pending (s : State) (path : Nat) : (pathShow s path).pending = s.pending := by
  simp (maxDischargeDepth := 40) [pathShow]
@[simp ↓] theorem pathShow_mem (s : State) (path : Nat) (h : Memory.wf s.mem = true) : Memory.wf (pathShow s path).mem = true := by
  simp (maxDischargeDepth := 40) [pathShow, *]
@[simp ↓] theorem beaconRole_pending (s : State) (r : Nat) (ep : Nat) : (beaconRole s r ep).pending = s.pending := by
  simp (maxDischargeDepth := 40) [beaconRole]
@[simp ↓] theorem beaconRole_mem (s : State) (r : Nat) (ep : Nat) (h : Memory.wf s.mem = true) : Memory.wf (beaconRole s r ep).mem = true := by
  simp (maxDischargeDepth := 40) [beaconRole, *]
@[simp ↓] theorem beaconHandover_pending (s : State) (fr : List Byte) : (beaconHandover s fr).pending = s.pending := by
  simp (maxDischargeDepth := 40) [beaconHandover]
@[simp ↓] theorem beaconHandover_mem (s : State) (fr : List Byte) (h : Memory.wf s.mem = true) : Memory.wf (beaconHandover s fr).mem = true := by
  simp (maxDischargeDepth := 40) [beaconHandover, *]
@[simp ↓] theorem beaconTake_pending (s : State) (path : Nat) (fr : List Byte) : (beaconTake s path fr).pending = s.pending := by
  simp (maxDischargeDepth := 40) [beaconTake]
@[simp ↓] theorem beaconTake_mem (s : State) (path : Nat) (fr : List Byte) (h : Memory.wf s.mem = true) : Memory.wf (beaconTake s path fr).mem = true := by
  simp (maxDischargeDepth := 40) [beaconTake, *]
@[simp ↓] theorem ackTake_pending (s : State) (fr : List Byte) : (ackTake s fr).pending = s.pending := by
  simp (maxDischargeDepth := 40) [ackTake]
@[simp ↓] theorem ackTake_mem (s : State) (fr : List Byte) (h : Memory.wf s.mem = true) : Memory.wf (ackTake s fr).mem = true := by
  simp (maxDischargeDepth := 40) [ackTake, *]
@[simp ↓] theorem denyTake_pending (s : State) (cause : Nat) : (denyTake s cause).pending = s.pending := by
  simp (maxDischargeDepth := 40) [denyTake]
@[simp ↓] theorem denyTake_mem (s : State) (cause : Nat) (h : Memory.wf s.mem = true) : Memory.wf (denyTake s cause).mem = true := by
  simp (maxDischargeDepth := 40) [denyTake, *]
@[simp ↓] theorem redBad_pending (s : State) : (redBad s).pending = s.pending := by
  simp (maxDischargeDepth := 40) [redBad]
@[simp ↓] theorem redBad_mem (s : State) (h : Memory.wf s.mem = true) : Memory.wf (redBad s).mem = true := by
  simp (maxDischargeDepth := 40) [redBad, *]
@[simp ↓] theorem redReceive_pending (s : State) (path : Nat) (src : Nat) (fr : List Byte) : (redReceive s path src fr).pending = s.pending := by
  simp (maxDischargeDepth := 40) [redReceive]
@[simp ↓] theorem redReceive_mem (s : State) (path : Nat) (src : Nat) (fr : List Byte) (h : Memory.wf s.mem = true) : Memory.wf (redReceive s path src fr).mem = true := by
  simp (maxDischargeDepth := 40) [redReceive, *]
@[simp ↓] theorem beaconSend_pending (s : State) (now : SupplyIn) : (beaconSend s now).pending = s.pending := by
  simp (maxDischargeDepth := 40) [beaconSend]
@[simp ↓] theorem beaconSend_mem (s : State) (now : SupplyIn) (h : Memory.wf s.mem = true) : Memory.wf (beaconSend s now).mem = true := by
  simp (maxDischargeDepth := 40) [beaconSend, *]
@[simp ↓] theorem redHandover_pending (x0 : Entry) (s : State) : (redHandover x0 s).1.pending = s.pending := by
  simp (maxDischargeDepth := 40) [redHandover]
@[simp ↓] theorem redHandover_mem (x0 : Entry) (s : State) (h : Memory.wf s.mem = true) : Memory.wf (redHandover x0 s).1.mem = true := by
  simp (maxDischargeDepth := 40) [redHandover, *]
@[simp ↓] theorem hoReleaseSend_pending (s : State) : (hoReleaseSend s).pending = s.pending := by
  simp (maxDischargeDepth := 40) [hoReleaseSend]
@[simp ↓] theorem hoReleaseSend_mem (s : State) (h : Memory.wf s.mem = true) : Memory.wf (hoReleaseSend s).mem = true := by
  simp (maxDischargeDepth := 40) [hoReleaseSend, *]
@[simp ↓] theorem hoTimeout_pending (s : State) : (hoTimeout s).pending = s.pending := by
  unfold hoTimeout; (repeat' split) <;> simp (maxDischargeDepth := 40) [*]
@[simp ↓] theorem hoTimeout_mem (s : State) (h : Memory.wf s.mem = true) : Memory.wf (hoTimeout s).mem = true := by
  unfold hoTimeout; (repeat' split) <;> simp (maxDischargeDepth := 40) [*]
@[simp ↓] theorem degradeTake_pending (s : State) : (degradeTake s).pending = s.pending := by
  simp (maxDischargeDepth := 40) [degradeTake]
@[simp ↓] theorem degradeTake_mem (s : State) (h : Memory.wf s.mem = true) : Memory.wf (degradeTake s).mem = true := by
  simp (maxDischargeDepth := 40) [degradeTake, *]
@[simp ↓] theorem safetyHandover_pending (s : State) : (safetyHandover s).pending = s.pending := by
  simp (maxDischargeDepth := 40) [safetyHandover]
@[simp ↓] theorem safetyHandover_mem (s : State) (h : Memory.wf s.mem = true) : Memory.wf (safetyHandover s).mem = true := by
  simp (maxDischargeDepth := 40) [safetyHandover, *]
@[simp ↓] theorem ksMod_pending (s : State) (p : Nat) (f : KsPair → KsPair) : (ksMod s p f).pending = s.pending := by
  simp (maxDischargeDepth := 40) [ksMod]
@[simp ↓] theorem ksMod_mem (s : State) (p : Nat) (f : KsPair → KsPair) (h : Memory.wf s.mem = true) : Memory.wf (ksMod s p f).mem = true := by
  simp (maxDischargeDepth := 40) [ksMod, *]
@[simp ↓] theorem ksSend_pending (s : State) (p : Nat) (pid : Nat) (u : Nat) (ty : Nat) (arg : Nat) (epoch : Nat) : (ksSend s p pid u ty arg epoch).pending = s.pending := by
  simp (maxDischargeDepth := 40) [ksSend]
@[simp ↓] theorem ksSend_mem (s : State) (p : Nat) (pid : Nat) (u : Nat) (ty : Nat) (arg : Nat) (epoch : Nat) (h : Memory.wf s.mem = true) : Memory.wf (ksSend s p pid u ty arg epoch).mem = true := by
  simp (maxDischargeDepth := 40) [ksSend, *]
@[simp ↓] theorem ksDeny_pending (s : State) (p : Nat) (pid : Nat) (u : Nat) (cause : Nat) : (ksDeny s p pid u cause).pending = s.pending := by
  simp (maxDischargeDepth := 40) [ksDeny]
@[simp ↓] theorem ksDeny_mem (s : State) (p : Nat) (pid : Nat) (u : Nat) (cause : Nat) (h : Memory.wf s.mem = true) : Memory.wf (ksDeny s p pid u cause).mem = true := by
  simp (maxDischargeDepth := 40) [ksDeny, *]
@[simp ↓] theorem ksTake_pending (s : State) (p : Nat) (epoch : Nat) (holder : Nat) : (ksTake s p epoch holder).pending = s.pending := by
  simp (maxDischargeDepth := 40) [ksTake]
@[simp ↓] theorem ksTake_mem (s : State) (p : Nat) (epoch : Nat) (holder : Nat) (h : Memory.wf s.mem = true) : Memory.wf (ksTake s p epoch holder).mem = true := by
  simp (maxDischargeDepth := 40) [ksTake, *]
@[simp ↓] theorem ksDrop_pending (s : State) (p : Nat) : (ksDrop s p).pending = s.pending := by
  simp (maxDischargeDepth := 40) [ksDrop]
@[simp ↓] theorem ksDrop_mem (s : State) (p : Nat) (h : Memory.wf s.mem = true) : Memory.wf (ksDrop s p).mem = true := by
  simp (maxDischargeDepth := 40) [ksDrop, *]
@[simp ↓] theorem ksHold_pending (s : State) (p : Nat) (epoch : Nat) (u : Nat) : (ksHold s p epoch u).pending = s.pending := by
  simp (maxDischargeDepth := 40) [ksHold]
@[simp ↓] theorem ksHold_mem (s : State) (p : Nat) (epoch : Nat) (u : Nat) (h : Memory.wf s.mem = true) : Memory.wf (ksHold s p epoch u).mem = true := by
  simp (maxDischargeDepth := 40) [ksHold, *]
@[simp ↓] theorem ksGrant_pending (s : State) (p : Nat) (u : Nat) (claimed : Nat) : (ksGrant s p u claimed).pending = s.pending := by
  simp (maxDischargeDepth := 40) [ksGrant]
@[simp ↓] theorem ksGrant_mem (s : State) (p : Nat) (u : Nat) (claimed : Nat) (h : Memory.wf s.mem = true) : Memory.wf (ksGrant s p u claimed).mem = true := by
  simp (maxDischargeDepth := 40) [ksGrant, *]
@[simp ↓] theorem ksRefuse_pending (s : State) (p : Nat) (holds : Bool) : (ksRefuse s p holds).pending = s.pending := by
  unfold ksRefuse; split <;> simp (maxDischargeDepth := 40) [*]
@[simp ↓] theorem ksRefuse_mem (s : State) (p : Nat) (holds : Bool) (h : Memory.wf s.mem = true) : Memory.wf (ksRefuse s p holds).mem = true := by
  unfold ksRefuse; split <;> simp (maxDischargeDepth := 40) [*]
@[simp ↓] theorem ksHear_pending (s : State) (p : Nat) (u : Nat) (fr : List Byte) : (ksHear s p u fr).pending = s.pending := by
  simp (maxDischargeDepth := 40) [ksHear]
@[simp ↓] theorem ksHear_mem (s : State) (p : Nat) (u : Nat) (fr : List Byte) (h : Memory.wf s.mem = true) : Memory.wf (ksHear s p u fr).mem = true := by
  simp (maxDischargeDepth := 40) [ksHear, *]
@[simp ↓] theorem ksBeacon_pending (s : State) (p : Nat) (u : Nat) (fr : List Byte) : (ksBeacon s p u fr).pending = s.pending := by
  simp (maxDischargeDepth := 40) [ksBeacon]
@[simp ↓] theorem ksBeacon_mem (s : State) (p : Nat) (u : Nat) (fr : List Byte) (h : Memory.wf s.mem = true) : Memory.wf (ksBeacon s p u fr).mem = true := by
  simp (maxDischargeDepth := 40) [ksBeacon, *]
@[simp ↓] theorem ksClaim_pending (s : State) (p : Nat) (u : Nat) (ep : Nat) : (ksClaim s p u ep).pending = s.pending := by
  unfold ksClaim; (repeat' split) <;> simp (maxDischargeDepth := 40) [*]
@[simp ↓] theorem ksClaim_mem (s : State) (p : Nat) (u : Nat) (ep : Nat) (h : Memory.wf s.mem = true) : Memory.wf (ksClaim s p u ep).mem = true := by
  unfold ksClaim; (repeat' split) <;> simp (maxDischargeDepth := 40) [*]
@[simp ↓] theorem ksRelease_pending (s : State) (p : Nat) (u : Nat) (dst : Nat) : (ksRelease s p u dst).pending = s.pending := by
  simp (maxDischargeDepth := 40) [ksRelease]
@[simp ↓] theorem ksRelease_mem (s : State) (p : Nat) (u : Nat) (dst : Nat) (h : Memory.wf s.mem = true) : Memory.wf (ksRelease s p u dst).mem = true := by
  simp (maxDischargeDepth := 40) [ksRelease, *]
@[simp ↓] theorem ksUnserved_pending (s : State) (path : Nat) (src : Nat) (pid : Nat) (u : Nat) : (ksUnserved s path src pid u).pending = s.pending := by
  simp (maxDischargeDepth := 40) [ksUnserved]
@[simp ↓] theorem ksUnserved_mem (s : State) (path : Nat) (src : Nat) (pid : Nat) (u : Nat) (h : Memory.wf s.mem = true) : Memory.wf (ksUnserved s path src pid u).mem = true := by
  simp (maxDischargeDepth := 40) [ksUnserved, *]
@[simp ↓] theorem ksReceive_pending (s : State) (path : Nat) (src : Nat) (fr : List Byte) : (ksReceive s path src fr).pending = s.pending := by
  unfold ksReceive; dsimp only; (repeat' split) <;> simp (maxDischargeDepth := 40) [*]
@[simp ↓] theorem ksReceive_mem (s : State) (path : Nat) (src : Nat) (fr : List Byte) (h : Memory.wf s.mem = true) : Memory.wf (ksReceive s path src fr).mem = true := by
  unfold ksReceive; dsimp only; (repeat' split) <;> simp (maxDischargeDepth := 40) [*]
@[simp ↓] theorem ksServe_pending (s : State) (p : Nat) : (ksServe s p).pending = s.pending := by
  unfold ksServe; split <;> simp (maxDischargeDepth := 40) [*]
@[simp ↓] theorem ksServe_mem (s : State) (p : Nat) (h : Memory.wf s.mem = true) : Memory.wf (ksServe s p).mem = true := by
  unfold ksServe; split <;> simp (maxDischargeDepth := 40) [*]
@[simp ↓] theorem ksExpire_pending (s : State) (p : Nat) : (ksExpire s p).pending = s.pending := by
  unfold ksExpire; split <;> simp (maxDischargeDepth := 40) [*]
@[simp ↓] theorem ksExpire_mem (s : State) (p : Nat) (h : Memory.wf s.mem = true) : Memory.wf (ksExpire s p).mem = true := by
  unfold ksExpire; split <;> simp (maxDischargeDepth := 40) [*]
@[simp ↓] theorem ksWarm_pending (s : State) : (ksWarm s).pending = s.pending := by
  simp (maxDischargeDepth := 40) [ksWarm]
@[simp ↓] theorem ksWarm_mem (s : State) (h : Memory.wf s.mem = true) : Memory.wf (ksWarm s).mem = true := by
  simp +contextual (maxDischargeDepth := 40) [ksWarm, *]
@[simp ↓] theorem ksBlank_pending (s : State) : (ksBlank s).pending = s.pending := by
  simp (maxDischargeDepth := 40) [ksBlank]
@[simp ↓] theorem ksBlank_mem (s : State) (h : Memory.wf s.mem = true) : Memory.wf (ksBlank s).mem = true := by
  simp +contextual (maxDischargeDepth := 40) [ksBlank, *]
@[simp ↓] theorem ksEnable_pending (x0 : Entry) (s : State) : (ksEnable x0 s).1.pending = s.pending := by
  simp (maxDischargeDepth := 40) [ksEnable]
@[simp ↓] theorem ksEnable_mem (x0 : Entry) (s : State) (h : Memory.wf s.mem = true) : Memory.wf (ksEnable x0 s).1.mem = true := by
  simp (maxDischargeDepth := 40) [ksEnable, *]
@[simp ↓] theorem ksDisable_pending (x0 : Entry) (s : State) : (ksDisable x0 s).1.pending = s.pending := by
  simp (maxDischargeDepth := 40) [ksDisable]
@[simp ↓] theorem ksDisable_mem (x0 : Entry) (s : State) (h : Memory.wf s.mem = true) : Memory.wf (ksDisable x0 s).1.mem = true := by
  simp (maxDischargeDepth := 40) [ksDisable, *]
@[simp ↓] theorem ksSnap_pending (e : Entry) (s : State) : (ksSnap e s).1.pending = s.pending := by
  simp (maxDischargeDepth := 40) [ksSnap]
@[simp ↓] theorem ksSnap_mem (e : Entry) (s : State) (h : Memory.wf s.mem = true) : Memory.wf (ksSnap e s).1.mem = true := by
  simp (maxDischargeDepth := 40) [ksSnap, *]

end Sys2Proof.Laws
end

