-- ==== Sys2Proof/Laws/KeepPtp.lean ====
section
/-! SUPPORT. What every operation of `Machine/Ptp.lean` leaves alone: the queue of waiting commands, and the canonical form of host memory. -/

namespace Sys2Proof.Laws

open Sys2Proof.Machine

@[simp ↓] theorem otPass_pending (s : State) (n : Nat) : (otPass s n).pending = s.pending := by
  simp (maxDischargeDepth := 40) [otPass]
@[simp ↓] theorem otPass_mem (s : State) (n : Nat) (h : Memory.wf s.mem = true) : Memory.wf (otPass s n).mem = true := by
  simp (maxDischargeDepth := 40) [otPass, *]
@[simp ↓] theorem ptpPass_pending (s : State) (n : Nat) : (ptpPass s n).pending = s.pending := by
  simp (maxDischargeDepth := 40) [ptpPass]
@[simp ↓] theorem ptpPass_mem (s : State) (n : Nat) (h : Memory.wf s.mem = true) : Memory.wf (ptpPass s n).mem = true := by
  simp (maxDischargeDepth := 40) [ptpPass, *]
@[simp ↓] theorem slewShow_pending (s : State) : (slewShow s).pending = s.pending := by
  simp (maxDischargeDepth := 40) [slewShow]
@[simp ↓] theorem slewShow_mem (s : State) (h : Memory.wf s.mem = true) : Memory.wf (slewShow s).mem = true := by
  simp (maxDischargeDepth := 40) [slewShow, *]
@[simp ↓] theorem timePass_pending (s : State) (n : Nat) : (timePass s n).pending = s.pending := by
  simp (maxDischargeDepth := 40) [timePass]
@[simp ↓] theorem timePass_mem (s : State) (n : Nat) (h : Memory.wf s.mem = true) : Memory.wf (timePass s n).mem = true := by
  simp (maxDischargeDepth := 40) [timePass, *]
@[simp ↓] theorem anchorOut_pending (s : State) : (anchorOut s).pending = s.pending := by
  simp (maxDischargeDepth := 40) [anchorOut]
@[simp ↓] theorem anchorOut_mem (s : State) (h : Memory.wf s.mem = true) : Memory.wf (anchorOut s).mem = true := by
  simp (maxDischargeDepth := 40) [anchorOut, *]
@[simp ↓] theorem domSyncPut_pending (s : State) (d : Nat) (b : Bool) : (domSyncPut s d b).pending = s.pending := by
  simp (maxDischargeDepth := 40) [domSyncPut]
@[simp ↓] theorem domSyncPut_mem (s : State) (d : Nat) (b : Bool) (h : Memory.wf s.mem = true) : Memory.wf (domSyncPut s d b).mem = true := by
  simp (maxDischargeDepth := 40) [domSyncPut, *]
@[simp ↓] theorem ptStepped_pending (s : State) (why : Nat) : (ptStepped s why).pending = s.pending := by
  simp (maxDischargeDepth := 40) [ptStepped]
@[simp ↓] theorem ptStepped_mem (s : State) (why : Nat) (h : Memory.wf s.mem = true) : Memory.wf (ptStepped s why).mem = true := by
  simp (maxDischargeDepth := 40) [ptStepped, *]
@[simp ↓] theorem acquire_pending (s : State) : (acquire s).pending = s.pending := by
  simp (maxDischargeDepth := 40) [acquire]
@[simp ↓] theorem acquire_mem (s : State) (h : Memory.wf s.mem = true) : Memory.wf (acquire s).mem = true := by
  simp (maxDischargeDepth := 40) [acquire, *]
@[simp ↓] theorem domSwitch_pending (s : State) (d : Nat) (auto : Bool) : (domSwitch s d auto).pending = s.pending := by
  simp (maxDischargeDepth := 40) [domSwitch]
@[simp ↓] theorem domSwitch_mem (s : State) (d : Nat) (auto : Bool) (h : Memory.wf s.mem = true) : Memory.wf (domSwitch s d auto).mem = true := by
  simp (maxDischargeDepth := 40) [domSwitch, *]
@[simp ↓] theorem autoFollow_pending (s : State) : (autoFollow s).pending = s.pending := by
  simp (maxDischargeDepth := 40) [autoFollow]
@[simp ↓] theorem autoFollow_mem (s : State) (h : Memory.wf s.mem = true) : Memory.wf (autoFollow s).mem = true := by
  simp (maxDischargeDepth := 40) [autoFollow, *]
@[simp ↓] theorem syncLost_pending (s : State) (d : Nat) : (syncLost s d).pending = s.pending := by
  simp (maxDischargeDepth := 40) [syncLost]
@[simp ↓] theorem syncLost_mem (s : State) (d : Nat) (h : Memory.wf s.mem = true) : Memory.wf (syncLost s d).mem = true := by
  simp (maxDischargeDepth := 40) [syncLost, *]
@[simp ↓] theorem ptpSelect_pending (e : Entry) (s : State) : (ptpSelect e s).1.pending = s.pending := by
  simp (maxDischargeDepth := 40) [ptpSelect]
@[simp ↓] theorem ptpSelect_mem (e : Entry) (s : State) (h : Memory.wf s.mem = true) : Memory.wf (ptpSelect e s).1.mem = true := by
  simp (maxDischargeDepth := 40) [ptpSelect, *]
@[simp ↓] theorem ptpDomState_pending (e : Entry) (s : State) : (ptpDomState e s).1.pending = s.pending := by
  simp (maxDischargeDepth := 40) [ptpDomState]
@[simp ↓] theorem ptpDomState_mem (e : Entry) (s : State) (h : Memory.wf s.mem = true) : Memory.wf (ptpDomState e s).1.mem = true := by
  simp (maxDischargeDepth := 40) [ptpDomState, *]
@[simp ↓] theorem ptpStepOp_pending (e : Entry) (s : State) : (ptpStepOp e s).1.pending = s.pending := by
  simp (maxDischargeDepth := 40) [ptpStepOp]
@[simp ↓] theorem ptpStepOp_mem (e : Entry) (s : State) (h : Memory.wf s.mem = true) : Memory.wf (ptpStepOp e s).1.mem = true := by
  simp (maxDischargeDepth := 40) [ptpStepOp, *]
@[simp ↓] theorem ptpEnable_pending (e : Entry) (s : State) : (ptpEnable e s).1.pending = s.pending := by
  simp (maxDischargeDepth := 40) [ptpEnable]
@[simp ↓] theorem ptpEnable_mem (e : Entry) (s : State) (h : Memory.wf s.mem = true) : Memory.wf (ptpEnable e s).1.mem = true := by
  simp (maxDischargeDepth := 40) [ptpEnable, *]
@[simp ↓] theorem ptpDisable_pending (e : Entry) (s : State) : (ptpDisable e s).1.pending = s.pending := by
  simp (maxDischargeDepth := 40) [ptpDisable]
@[simp ↓] theorem ptpDisable_mem (e : Entry) (s : State) (h : Memory.wf s.mem = true) : Memory.wf (ptpDisable e s).1.mem = true := by
  simp (maxDischargeDepth := 40) [ptpDisable, *]
@[simp ↓] theorem ptpOut_pending (s : State) (b : Bool) (m : List Byte) : (ptpOut s b m).pending = s.pending := by
  simp (maxDischargeDepth := 40) [ptpOut]
@[simp ↓] theorem ptpOut_mem (s : State) (b : Bool) (m : List Byte) (h : Memory.wf s.mem = true) : Memory.wf (ptpOut s b m).mem = true := by
  simp (maxDischargeDepth := 40) [ptpOut, *]
@[simp ↓] theorem ptpDeliver_pending (s : State) (bs : List Byte) : (ptpDeliver s bs).pending = s.pending := by
  simp (maxDischargeDepth := 40) [ptpDeliver]
@[simp ↓] theorem ptpDeliver_mem (s : State) (bs : List Byte) (h : Memory.wf s.mem = true) : Memory.wf (ptpDeliver s bs).mem = true := by
  simp +contextual (maxDischargeDepth := 40) [ptpDeliver, *]
@[simp ↓] theorem syncSeen_pending (s : State) (d : Nat) : (syncSeen s d).pending = s.pending := by
  simp (maxDischargeDepth := 40) [syncSeen]
@[simp ↓] theorem syncSeen_mem (s : State) (d : Nat) (h : Memory.wf s.mem = true) : Memory.wf (syncSeen s d).mem = true := by
  simp (maxDischargeDepth := 40) [syncSeen, *]
@[simp ↓] theorem ptpEvent_pending (s : State) (portB : Bool) (m : List Byte) (agoNs : Nat) (resNs : Nat) : (ptpEvent s portB m agoNs resNs).pending = s.pending := by
  unfold ptpEvent; dsimp only; (repeat' split) <;> simp (maxDischargeDepth := 40) [*]
@[simp ↓] theorem ptpEvent_mem (s : State) (portB : Bool) (m : List Byte) (agoNs : Nat) (resNs : Nat) (h : Memory.wf s.mem = true) : Memory.wf (ptpEvent s portB m agoNs resNs).mem = true := by
  unfold ptpEvent; dsimp only; (repeat' split) <;> simp (maxDischargeDepth := 40) [*]
@[simp ↓] theorem followUp_pending (s : State) (portB : Bool) (m : List Byte) : (followUp s portB m).pending = s.pending := by
  unfold followUp; split <;> simp (maxDischargeDepth := 40) [*]
@[simp ↓] theorem followUp_mem (s : State) (portB : Bool) (m : List Byte) (h : Memory.wf s.mem = true) : Memory.wf (followUp s portB m).mem = true := by
  unfold followUp; split <;> simp (maxDischargeDepth := 40) [*]
@[simp ↓] theorem ptpGeneral_pending (s : State) (portB : Bool) (m : List Byte) : (ptpGeneral s portB m).pending = s.pending := by
  unfold ptpGeneral; dsimp only; (repeat' split) <;> simp (maxDischargeDepth := 40) [*]
@[simp ↓] theorem ptpGeneral_mem (s : State) (portB : Bool) (m : List Byte) (h : Memory.wf s.mem = true) : Memory.wf (ptpGeneral s portB m).mem = true := by
  unfold ptpGeneral; dsimp only; (repeat' split) <;> simp (maxDischargeDepth := 40) [*]
@[simp ↓] theorem followUpLate_pending (s : State) : (followUpLate s).pending = s.pending := by
  unfold followUpLate; split <;> simp (maxDischargeDepth := 40) [*]
@[simp ↓] theorem followUpLate_mem (s : State) (h : Memory.wf s.mem = true) : Memory.wf (followUpLate s).mem = true := by
  unfold followUpLate; split <;> simp (maxDischargeDepth := 40) [*]
@[simp ↓] theorem ptpTx_pending (e : Entry) (s : State) : (ptpTx e s).1.pending = s.pending := by
  simp (maxDischargeDepth := 40) [ptpTx]
@[simp ↓] theorem ptpTx_mem (e : Entry) (s : State) (h : Memory.wf s.mem = true) : Memory.wf (ptpTx e s).1.mem = true := by
  simp (maxDischargeDepth := 40) [ptpTx, *]

end Sys2Proof.Laws
end

