-- ==== Sys2Proof/Laws/KeepIdk.lean ====
section
/-! SUPPORT. What every operation of `Machine/Idk.lean` leaves alone: the queue of waiting commands, and the canonical form of host memory. -/

namespace Sys2Proof.Laws

open Sys2Proof.Machine

@[simp ↓] theorem tabStore_pending (s : State) (t : KeyTab) : (tabStore s t).pending = s.pending := by
  simp (maxDischargeDepth := 40) [tabStore]
@[simp ↓] theorem tabStore_mem (s : State) (t : KeyTab) (h : Memory.wf s.mem = true) : Memory.wf (tabStore s t).mem = true := by
  simp (maxDischargeDepth := 40) [tabStore, *]
@[simp ↓] theorem sessShow_pending (s : State) : (sessShow s).pending = s.pending := by
  simp (maxDischargeDepth := 40) [sessShow]
@[simp ↓] theorem sessShow_mem (s : State) (h : Memory.wf s.mem = true) : Memory.wf (sessShow s).mem = true := by
  simp (maxDischargeDepth := 40) [sessShow, *]
@[simp ↓] theorem sessOuts_pending (k n : Nat) (s : State) : (sessOuts k n s).pending = s.pending := by
  induction k generalizing s with
  | zero => rfl
  | succ k ih => simp [sessOuts, ih]
@[simp ↓] theorem sessOuts_mem (k n : Nat) (s : State) (h : Memory.wf s.mem = true) : Memory.wf (sessOuts k n s).mem = true := by
  induction k generalizing s with
  | zero => exact h
  | succ k ih => simp [sessOuts, ih, h]
@[simp ↓] theorem sessClose_pending (s : State) (n : Nat) (other : Bool) : (sessClose s n other).pending = s.pending := by
  unfold sessClose; split <;> simp (maxDischargeDepth := 40) [*]
@[simp ↓] theorem sessClose_mem (s : State) (n : Nat) (other : Bool) (h : Memory.wf s.mem = true) : Memory.wf (sessClose s n other).mem = true := by
  unfold sessClose; split <;> simp (maxDischargeDepth := 40) [*]
@[simp ↓] theorem sessCloseKey_pending (s : State) (id : Nat) : (sessCloseKey s id).pending = s.pending := by
  unfold sessCloseKey; refine foldl_pending _ (fun s n => ?_) _ _; (repeat' split) <;> simp
@[simp ↓] theorem sessCloseKey_mem (s : State) (id : Nat) (h : Memory.wf s.mem = true) : Memory.wf (sessCloseKey s id).mem = true := by
  unfold sessCloseKey; refine foldl_mem _ (fun s n hs => ?_) _ _ h; (repeat' split) <;> simp [hs]
@[simp ↓] theorem idkDropNonce_pending (s : State) : (idkDropNonce s).pending = s.pending := by
  simp (maxDischargeDepth := 40) [idkDropNonce]
@[simp ↓] theorem idkDropNonce_mem (s : State) (h : Memory.wf s.mem = true) : Memory.wf (idkDropNonce s).mem = true := by
  simp (maxDischargeDepth := 40) [idkDropNonce, *]
@[simp ↓] theorem recRefuse_pending (s : State) (cause : Nat) : (recRefuse s cause).1.pending = s.pending := by
  simp (maxDischargeDepth := 40) [recRefuse]
@[simp ↓] theorem recRefuse_mem (s : State) (cause : Nat) (h : Memory.wf s.mem = true) : Memory.wf (recRefuse s cause).1.mem = true := by
  simp (maxDischargeDepth := 40) [recRefuse, *]
@[simp ↓] theorem idkGetCert_pending (e : Entry) (s : State) : (idkGetCert e s).1.pending = s.pending := by
  simp (maxDischargeDepth := 40) [idkGetCert]
@[simp ↓] theorem idkGetCert_mem (e : Entry) (s : State) (h : Memory.wf s.mem = true) : Memory.wf (idkGetCert e s).1.mem = true := by
  simp (maxDischargeDepth := 40) [idkGetCert, *]
@[simp ↓] theorem idkAttest_pending (e : Entry) (s : State) : (idkAttest e s).1.pending = s.pending := by
  simp (maxDischargeDepth := 40) [idkAttest]
@[simp ↓] theorem idkAttest_mem (e : Entry) (s : State) (h : Memory.wf s.mem = true) : Memory.wf (idkAttest e s).1.mem = true := by
  simp (maxDischargeDepth := 40) [idkAttest, *]
@[simp ↓] theorem idkNonce_pending (e : Entry) (s : State) : (idkNonce e s).1.pending = s.pending := by
  simp (maxDischargeDepth := 40) [idkNonce]
@[simp ↓] theorem idkNonce_mem (e : Entry) (s : State) (h : Memory.wf s.mem = true) : Memory.wf (idkNonce e s).1.mem = true := by
  simp (maxDischargeDepth := 40) [idkNonce, *]
@[simp ↓] theorem idkKeyRecord_pending (e : Entry) (s : State) : (idkKeyRecord e s).1.pending = s.pending := by
  unfold idkKeyRecord withBuf; dsimp only; (repeat' split) <;> simp (maxDischargeDepth := 40) [*]
@[simp ↓] theorem idkKeyRecord_mem (e : Entry) (s : State) (h : Memory.wf s.mem = true) : Memory.wf (idkKeyRecord e s).1.mem = true := by
  unfold idkKeyRecord withBuf; dsimp only; (repeat' split) <;> simp (maxDischargeDepth := 40) [*]
@[simp ↓] theorem idkKeyList_pending (e : Entry) (s : State) : (idkKeyList e s).1.pending = s.pending := by
  simp (maxDischargeDepth := 40) [idkKeyList]
@[simp ↓] theorem idkKeyList_mem (e : Entry) (s : State) (h : Memory.wf s.mem = true) : Memory.wf (idkKeyList e s).1.mem = true := by
  simp (maxDischargeDepth := 40) [idkKeyList, *]
@[simp ↓] theorem idkSessOpen_pending (e : Entry) (s : State) : (idkSessOpen e s).1.pending = s.pending := by
  unfold idkSessOpen withBuf; dsimp only; (repeat' split) <;> simp (maxDischargeDepth := 40) [*]
@[simp ↓] theorem idkSessOpen_mem (e : Entry) (s : State) (h : Memory.wf s.mem = true) : Memory.wf (idkSessOpen e s).1.mem = true := by
  unfold idkSessOpen withBuf; dsimp only; (repeat' split) <;> simp (maxDischargeDepth := 40) [*]
@[simp ↓] theorem idkSessIn_pending (e : Entry) (s : State) : (idkSessIn e s).1.pending = s.pending := by
  unfold idkSessIn withBuf; dsimp only; (repeat' split) <;> simp (maxDischargeDepth := 40) [*]
@[simp ↓] theorem idkSessIn_mem (e : Entry) (s : State) (h : Memory.wf s.mem = true) : Memory.wf (idkSessIn e s).1.mem = true := by
  unfold idkSessIn withBuf; dsimp only; (repeat' split) <;> simp (maxDischargeDepth := 40) [*]
@[simp ↓] theorem idkSessOut_pending (e : Entry) (s : State) : (idkSessOut e s).1.pending = s.pending := by
  simp (maxDischargeDepth := 40) [idkSessOut]
@[simp ↓] theorem idkSessOut_mem (e : Entry) (s : State) (h : Memory.wf s.mem = true) : Memory.wf (idkSessOut e s).1.mem = true := by
  simp (maxDischargeDepth := 40) [idkSessOut, *]
@[simp ↓] theorem idkClose_pending (e : Entry) (s : State) : (idkClose e s).1.pending = s.pending := by
  simp (maxDischargeDepth := 40) [idkClose]
@[simp ↓] theorem idkClose_mem (e : Entry) (s : State) (h : Memory.wf s.mem = true) : Memory.wf (idkClose e s).1.mem = true := by
  simp (maxDischargeDepth := 40) [idkClose, *]
@[simp ↓] theorem idkStart_pending (s : State) : (idkStart s).pending = s.pending := by
  simp (maxDischargeDepth := 40) [idkStart]
@[simp ↓] theorem idkStart_mem (s : State) (h : Memory.wf s.mem = true) : Memory.wf (idkStart s).mem = true := by
  simp (maxDischargeDepth := 40) [idkStart, *]

end Sys2Proof.Laws
end

