-- ==== Sys2Proof/Laws/KeepBoot.lean ====
section
/-! SUPPORT. What every operation of `Machine/Boot.lean` leaves alone: the queue of waiting commands, and the canonical form of host memory. -/

namespace Sys2Proof.Laws

open Sys2Proof.Machine

@[simp ↓] theorem updShow_pending (s : State) : (updShow s).pending = s.pending := by
  simp (maxDischargeDepth := 40) [updShow]
@[simp ↓] theorem updShow_mem (s : State) (h : Memory.wf s.mem = true) : Memory.wf (updShow s).mem = true := by
  simp +contextual (maxDischargeDepth := 40) [updShow, *]
@[simp ↓] theorem bootStore_pending (s : State) (f : BootRec → BootRec) : (bootStore s f).pending = s.pending := by
  simp (maxDischargeDepth := 40) [bootStore]
@[simp ↓] theorem bootStore_mem (s : State) (f : BootRec → BootRec) (h : Memory.wf s.mem = true) : Memory.wf (bootStore s f).mem = true := by
  simp (maxDischargeDepth := 40) [bootStore, *]
@[simp ↓] theorem slotPut_pending (s : State) (k : Nat) (st : Nat) : (slotPut s k st).pending = s.pending := by
  simp (maxDischargeDepth := 40) [slotPut]
@[simp ↓] theorem slotPut_mem (s : State) (k : Nat) (st : Nat) (h : Memory.wf s.mem = true) : Memory.wf (slotPut s k st).mem = true := by
  simp (maxDischargeDepth := 40) [slotPut, *]
@[simp ↓] theorem bootPick_pending (s : State) (a : Nat) : (bootPick s a).1.pending = s.pending := by
  unfold bootPick; dsimp only; (repeat' split) <;> simp (maxDischargeDepth := 40) [*]
@[simp ↓] theorem bootPick_mem (s : State) (a : Nat) (h : Memory.wf s.mem = true) : Memory.wf (bootPick s a).1.mem = true := by
  unfold bootPick; dsimp only; (repeat' split) <;> simp (maxDischargeDepth := 40) [*]
@[simp ↓] theorem bootCount_pending (s : State) : (bootCount s).pending = s.pending := by
  simp (maxDischargeDepth := 40) [bootCount]
@[simp ↓] theorem bootCount_mem (s : State) (h : Memory.wf s.mem = true) : Memory.wf (bootCount s).mem = true := by
  simp (maxDischargeDepth := 40) [bootCount, *]
@[simp ↓] theorem bootClean_pending (s : State) : (bootClean s).pending = s.pending := by
  simp (maxDischargeDepth := 40) [bootClean]
@[simp ↓] theorem bootClean_mem (s : State) (h : Memory.wf s.mem = true) : Memory.wf (bootClean s).mem = true := by
  simp (maxDischargeDepth := 40) [bootClean, *]
@[simp ↓] theorem spBoot_pending (s : State) : (spBoot s).pending = s.pending := by
  simp (maxDischargeDepth := 40) [spBoot]
@[simp ↓] theorem spBoot_mem (s : State) (h : Memory.wf s.mem = true) : Memory.wf (spBoot s).mem = true := by
  simp (maxDischargeDepth := 40) [spBoot, *]
@[simp ↓] theorem unitReset_pending (s : State) (por : Bool) : (unitReset s por).pending = s.pending := by simp [unitReset]
theorem unitReset_mem (s : State) (por : Bool) : Memory.wf (unitReset s por).mem = true := by
  unfold unitReset; exact wr_mem _ _ _ (put_mem _ _ _ rfl)
@[simp ↓] theorem unitReset_mem_wf (s : State) (por : Bool) : Memory.wf (unitReset s por).mem = true := unitReset_mem s por
@[simp ↓] theorem startClocks_pending (s : State) (env : Option StartEnv) : (startClocks s env).pending = s.pending := by
  unfold startClocks; split <;> simp (maxDischargeDepth := 40) [*]
@[simp ↓] theorem startClocks_mem (s : State) (env : Option StartEnv) (h : Memory.wf s.mem = true) : Memory.wf (startClocks s env).mem = true := by
  unfold startClocks; split <;> simp (maxDischargeDepth := 40) [*]
@[simp ↓] theorem startUe_pending (s : State) (env : Option StartEnv) : (startUe s env).pending = s.pending := by
  unfold startUe; split <;> simp (maxDischargeDepth := 40) [*]
@[simp ↓] theorem startUe_mem (s : State) (env : Option StartEnv) (h : Memory.wf s.mem = true) : Memory.wf (startUe s env).mem = true := by
  unfold startUe; split <;> simp (maxDischargeDepth := 40) [*]
@[simp ↓] theorem startStor_pending (s : State) : (startStor s).pending = s.pending := by
  unfold startStor; dsimp only; (repeat' split) <;> simp (maxDischargeDepth := 40) [*]
@[simp ↓] theorem startStor_mem (s : State) (h : Memory.wf s.mem = true) : Memory.wf (startStor s).mem = true := by
  unfold startStor; dsimp only; (repeat' split) <;> simp (maxDischargeDepth := 40) [*]
@[simp ↓] theorem timesCommit_pending (s : State) : (timesCommit s).pending = s.pending := by
  simp (maxDischargeDepth := 40) [timesCommit]
@[simp ↓] theorem timesCommit_mem (s : State) (h : Memory.wf s.mem = true) : Memory.wf (timesCommit s).mem = true := by
  simp (maxDischargeDepth := 40) [timesCommit, *]
@[simp ↓] theorem startTimes_pending (s : State) (por : Bool) : (startTimes s por).pending = s.pending := by
  simp (maxDischargeDepth := 40) [startTimes]
@[simp ↓] theorem startTimes_mem (s : State) (por : Bool) (h : Memory.wf s.mem = true) : Memory.wf (startTimes s por).mem = true := by
  simp (maxDischargeDepth := 40) [startTimes, *]
@[simp ↓] theorem startUnconfigured_pending (s : State) : (startUnconfigured s).pending = s.pending := by
  simp (maxDischargeDepth := 40) [startUnconfigured]
@[simp ↓] theorem startUnconfigured_mem (s : State) (h : Memory.wf s.mem = true) : Memory.wf (startUnconfigured s).mem = true := by
  simp (maxDischargeDepth := 40) [startUnconfigured, *]
@[simp ↓] theorem startRec_pending (s : State) (por : Bool) (down : Bool) (row : Nat) (env : Option StartEnv) : (startRec s por down row env).pending = s.pending := by
  simp (maxDischargeDepth := 40) [startRec]
@[simp ↓] theorem startRec_mem (s : State) (por : Bool) (down : Bool) (row : Nat) (env : Option StartEnv) (h : Memory.wf s.mem = true) : Memory.wf (startRec s por down row env).mem = true := by
  simp (maxDischargeDepth := 40) [startRec, *]
@[simp ↓] theorem startEngines_pending (s : State) (env : Option StartEnv) : (startEngines s env).pending = s.pending := by
  simp (maxDischargeDepth := 40) [startEngines]
@[simp ↓] theorem startEngines_mem (s : State) (env : Option StartEnv) (h : Memory.wf s.mem = true) : Memory.wf (startEngines s env).mem = true := by
  simp (maxDischargeDepth := 40) [startEngines, *]
@[simp ↓] theorem startUp_pending (s : State) (por : Bool) (cause : Nat) (row : Nat) (down : Bool) (fresh : Bool) (env : Option StartEnv) : (startUp s por cause row down fresh env).pending = s.pending := by
  simp (maxDischargeDepth := 40) [startUp]
@[simp ↓] theorem startUp_mem (s : State) (por : Bool) (cause : Nat) (row : Nat) (down : Bool) (fresh : Bool) (env : Option StartEnv) (h : Memory.wf s.mem = true) : Memory.wf (startUp s por cause row down fresh env).mem = true := by
  simp (maxDischargeDepth := 40) [startUp]

end Sys2Proof.Laws
end

