-- ==== Sys2Proof/Laws/KeepUpd.lean ====
section
/-! SUPPORT. What every operation of `Machine/Upd.lean` leaves alone: the queue of waiting commands, and the canonical form of host memory. -/

namespace Sys2Proof.Laws

open Sys2Proof.Machine

@[simp ↓] theorem updReport_pending (s : State) (kind : Nat) (slot : Nat) (cause : Nat) (src : Nat) (h : List Byte) : (updReport s kind slot cause src h).pending = s.pending := by
  simp (maxDischargeDepth := 40) [updReport]
@[simp ↓] theorem updReport_mem (s : State) (kind : Nat) (slot : Nat) (cause : Nat) (src : Nat) (h : List Byte) (hm : Memory.wf s.mem = true) : Memory.wf (updReport s kind slot cause src h).mem = true := by
  simp +contextual (maxDischargeDepth := 40) [updReport, *]
@[simp ↓] theorem hdrRefuse_pending (s : State) (cause : Nat) (src : Nat) (h : List Byte) : (hdrRefuse s cause src h).pending = s.pending := by
  simp (maxDischargeDepth := 40) [hdrRefuse]
@[simp ↓] theorem hdrRefuse_mem (s : State) (cause : Nat) (src : Nat) (h : List Byte) (hm : Memory.wf s.mem = true) : Memory.wf (hdrRefuse s cause src h).mem = true := by
  simp (maxDischargeDepth := 40) [hdrRefuse, *]
@[simp ↓] theorem rxBegin_pending (s : State) (slot : Nat) (src : Nat) (xfer : Nat) (h : List Byte) : (rxBegin s slot src xfer h).pending = s.pending := by
  simp (maxDischargeDepth := 40) [rxBegin]
@[simp ↓] theorem rxBegin_mem (s : State) (slot : Nat) (src : Nat) (xfer : Nat) (h : List Byte) (hm : Memory.wf s.mem = true) : Memory.wf (rxBegin s slot src xfer h).mem = true := by
  simp (maxDischargeDepth := 40) [rxBegin, *]
@[simp ↓] theorem rxEnd_pending (s : State) : (rxEnd s).pending = s.pending := by
  simp (maxDischargeDepth := 40) [rxEnd]
@[simp ↓] theorem rxEnd_mem (s : State) (h : Memory.wf s.mem = true) : Memory.wf (rxEnd s).mem = true := by
  simp (maxDischargeDepth := 40) [rxEnd, *]
@[simp ↓] theorem rxWrite_pending (s : State) (r : UpdRx) (bs : List Byte) : (rxWrite s r bs).pending = s.pending := by
  simp (maxDischargeDepth := 40) [rxWrite]
@[simp ↓] theorem rxWrite_mem (s : State) (r : UpdRx) (bs : List Byte) (h : Memory.wf s.mem = true) : Memory.wf (rxWrite s r bs).mem = true := by
  simp (maxDischargeDepth := 40) [rxWrite, *]
@[simp ↓] theorem updSend_pending (s : State) (dst : Nat) (op : Nat) (xfer : Nat) (chunk : Nat) (frag : Nat) (cause : Nat) (ver : Nat) (sha : List Byte) (data : List Byte) : (updSend s dst op xfer chunk frag cause ver sha data).pending = s.pending := by
  simp (maxDischargeDepth := 40) [updSend]
@[simp ↓] theorem updSend_mem (s : State) (dst : Nat) (op : Nat) (xfer : Nat) (chunk : Nat) (frag : Nat) (cause : Nat) (ver : Nat) (sha : List Byte) (data : List Byte) (h : Memory.wf s.mem = true) : Memory.wf (updSend s dst op xfer chunk frag cause ver sha data).mem = true := by
  simp (maxDischargeDepth := 40) [updSend, *]
@[simp ↓] theorem updAbout_pending (s : State) (dst : Nat) (op : Nat) (xfer : Nat) (chunk : Nat) (frag : Nat) (cause : Nat) (h : List Byte) (data : List Byte) : (updAbout s dst op xfer chunk frag cause h data).pending = s.pending := by
  simp (maxDischargeDepth := 40) [updAbout]
@[simp ↓] theorem updAbout_mem (s : State) (dst : Nat) (op : Nat) (xfer : Nat) (chunk : Nat) (frag : Nat) (cause : Nat) (h : List Byte) (data : List Byte) (hm : Memory.wf s.mem = true) : Memory.wf (updAbout s dst op xfer chunk frag cause h data).mem = true := by
  simp (maxDischargeDepth := 40) [updAbout, *]
@[simp ↓] theorem fwdChunk_pending (s : State) (f : UpdFwd) (j : Nat) : (fwdChunk s f j).pending = s.pending := by
  simp (maxDischargeDepth := 40) [fwdChunk]
@[simp ↓] theorem fwdChunk_mem (s : State) (f : UpdFwd) (j : Nat) (h : Memory.wf s.mem = true) : Memory.wf (fwdChunk s f j).mem = true := by
  simp +contextual (maxDischargeDepth := 40) [fwdChunk, *]
@[simp ↓] theorem fwdPump_pending (n : Nat) (s : State) : (fwdPump n s).pending = s.pending := by
  induction n generalizing s with
  | zero => rfl
  | succ n ih => unfold fwdPump; dsimp only; (repeat' split) <;> simp [ih]
@[simp ↓] theorem fwdPump_mem (n : Nat) (s : State) (h : Memory.wf s.mem = true) : Memory.wf (fwdPump n s).mem = true := by
  induction n generalizing s with
  | zero => exact h
  | succ n ih => unfold fwdPump; dsimp only; (repeat' split) <;> simp (maxDischargeDepth := 40) [ih, h]
@[simp ↓] theorem fwdGo_pending (s : State) : (fwdGo s).pending = s.pending := by
  simp (maxDischargeDepth := 40) [fwdGo]
@[simp ↓] theorem fwdGo_mem (s : State) (h : Memory.wf s.mem = true) : Memory.wf (fwdGo s).mem = true := by
  simp (maxDischargeDepth := 40) [fwdGo, *]
@[simp ↓] theorem fwdStart_pending (s : State) (slot : Nat) (dst : Nat) : (fwdStart s slot dst).pending = s.pending := by
  simp (maxDischargeDepth := 40) [fwdStart]
@[simp ↓] theorem fwdStart_mem (s : State) (slot : Nat) (dst : Nat) (h : Memory.wf s.mem = true) : Memory.wf (fwdStart s slot dst).mem = true := by
  simp (maxDischargeDepth := 40) [fwdStart, *]
@[simp ↓] theorem fwdEnd_pending (s : State) (f : UpdFwd) (cause : Nat) : (fwdEnd s f cause).pending = s.pending := by
  simp (maxDischargeDepth := 40) [fwdEnd]
@[simp ↓] theorem fwdEnd_mem (s : State) (f : UpdFwd) (cause : Nat) (h : Memory.wf s.mem = true) : Memory.wf (fwdEnd s f cause).mem = true := by
  simp (maxDischargeDepth := 40) [fwdEnd, *]
@[simp ↓] theorem fwdRetry_pending (s : State) (c : Nat) : (fwdRetry s c).pending = s.pending := by
  unfold fwdRetry; (repeat' split) <;> simp (maxDischargeDepth := 40) [*]
@[simp ↓] theorem fwdRetry_mem (s : State) (c : Nat) (h : Memory.wf s.mem = true) : Memory.wf (fwdRetry s c).mem = true := by
  unfold fwdRetry; (repeat' split) <;> simp (maxDischargeDepth := 40) [*]
@[simp ↓] theorem rxDrop_pending (s : State) (r : UpdRx) (cause : Nat) : (rxDrop s r cause).pending = s.pending := by
  unfold rxDrop; dsimp only; (repeat' split) <;> simp (maxDischargeDepth := 40) [*]
@[simp ↓] theorem rxDrop_mem (s : State) (r : UpdRx) (cause : Nat) (h : Memory.wf s.mem = true) : Memory.wf (rxDrop s r cause).mem = true := by
  unfold rxDrop; dsimp only; (repeat' split) <;> simp (maxDischargeDepth := 40) [*]
@[simp ↓] theorem imgBegin_pending (e : Entry) (s : State) : (imgBegin e s).1.pending = s.pending := by
  unfold imgBegin withBuf; dsimp only; (repeat' split) <;> simp (maxDischargeDepth := 40) [*]
@[simp ↓] theorem imgBegin_mem (e : Entry) (s : State) (h : Memory.wf s.mem = true) : Memory.wf (imgBegin e s).1.mem = true := by
  unfold imgBegin withBuf; dsimp only; (repeat' split) <;> simp (maxDischargeDepth := 40) [*]
@[simp ↓] theorem imgChunk_pending (e : Entry) (s : State) : (imgChunk e s).1.pending = s.pending := by
  unfold imgChunk; split <;> simp (maxDischargeDepth := 40) [*]
@[simp ↓] theorem imgChunk_mem (e : Entry) (s : State) (h : Memory.wf s.mem = true) : Memory.wf (imgChunk e s).1.mem = true := by
  unfold imgChunk; split <;> simp (maxDischargeDepth := 40) [*]
@[simp ↓] theorem imgEnd_pending (x0 : Entry) (s : State) : (imgEnd x0 s).1.pending = s.pending := by
  unfold imgEnd; split <;> simp (maxDischargeDepth := 40) [*]
@[simp ↓] theorem imgEnd_mem (x0 : Entry) (s : State) (h : Memory.wf s.mem = true) : Memory.wf (imgEnd x0 s).1.mem = true := by
  unfold imgEnd; split <;> simp (maxDischargeDepth := 40) [*]
@[simp ↓] theorem imgAbort_pending (x0 : Entry) (s : State) : (imgAbort x0 s).1.pending = s.pending := by
  unfold imgAbort; split <;> simp (maxDischargeDepth := 40) [*]
@[simp ↓] theorem imgAbort_mem (x0 : Entry) (s : State) (h : Memory.wf s.mem = true) : Memory.wf (imgAbort x0 s).1.mem = true := by
  unfold imgAbort; split <;> simp (maxDischargeDepth := 40) [*]
@[simp ↓] theorem imgVerified_pending (s : State) (readErr : Bool) : (imgVerified s readErr).pending = s.pending := by
  unfold imgVerified; split <;> simp (maxDischargeDepth := 40) [*]
@[simp ↓] theorem imgVerified_mem (s : State) (readErr : Bool) (h : Memory.wf s.mem = true) : Memory.wf (imgVerified s readErr).mem = true := by
  unfold imgVerified; split <;> simp (maxDischargeDepth := 40) [*]
@[simp ↓] theorem imgForward_pending (e : Entry) (s : State) : (imgForward e s).1.pending = s.pending := by
  simp (maxDischargeDepth := 40) [imgForward]
@[simp ↓] theorem imgForward_mem (e : Entry) (s : State) (h : Memory.wf s.mem = true) : Memory.wf (imgForward e s).1.mem = true := by
  simp (maxDischargeDepth := 40) [imgForward, *]
@[simp ↓] theorem updDropped_pending (s : State) : (updDropped s).pending = s.pending := by
  simp (maxDischargeDepth := 40) [updDropped]
@[simp ↓] theorem updDropped_mem (s : State) (h : Memory.wf s.mem = true) : Memory.wf (updDropped s).mem = true := by
  simp (maxDischargeDepth := 40) [updDropped, *]
@[simp ↓] theorem takeOffer_pending (s : State) (src : Nat) (p : List Byte) : (takeOffer s src p).pending = s.pending := by
  unfold takeOffer; dsimp only; (repeat' split) <;> simp (maxDischargeDepth := 40) [*]
@[simp ↓] theorem takeOffer_mem (s : State) (src : Nat) (p : List Byte) (h : Memory.wf s.mem = true) : Memory.wf (takeOffer s src p).mem = true := by
  unfold takeOffer; dsimp only; (repeat' split) <;> simp (maxDischargeDepth := 40) [*]
@[simp ↓] theorem takeAccept_pending (s : State) (src : Nat) (p : List Byte) : (takeAccept s src p).pending = s.pending := by
  unfold takeAccept; split <;> simp (maxDischargeDepth := 40) [*]
@[simp ↓] theorem takeAccept_mem (s : State) (src : Nat) (p : List Byte) (h : Memory.wf s.mem = true) : Memory.wf (takeAccept s src p).mem = true := by
  unfold takeAccept; split <;> simp (maxDischargeDepth := 40) [*]
@[simp ↓] theorem takeRefuse_pending (s : State) (src : Nat) (p : List Byte) : (takeRefuse s src p).pending = s.pending := by
  unfold takeRefuse; split <;> simp (maxDischargeDepth := 40) [*]
@[simp ↓] theorem takeRefuse_mem (s : State) (src : Nat) (p : List Byte) (h : Memory.wf s.mem = true) : Memory.wf (takeRefuse s src p).mem = true := by
  unfold takeRefuse; split <;> simp (maxDischargeDepth := 40) [*]
@[simp ↓] theorem rxDrain_pending (n : Nat) (s : State) : (rxDrain n s).pending = s.pending := by
  induction n generalizing s with
  | zero => rfl
  | succ n ih => unfold rxDrain; dsimp only; (repeat' split) <;> simp [ih]
@[simp ↓] theorem rxDrain_mem (n : Nat) (s : State) (h : Memory.wf s.mem = true) : Memory.wf (rxDrain n s).mem = true := by
  induction n generalizing s with
  | zero => exact h
  | succ n ih => unfold rxDrain; dsimp only; (repeat' split) <;> simp (maxDischargeDepth := 40) [ih, h]
@[simp ↓] theorem takeData_pending (s : State) (src : Nat) (p : List Byte) : (takeData s src p).pending = s.pending := by
  unfold takeData; split <;> simp (maxDischargeDepth := 40) [*]
@[simp ↓] theorem takeData_mem (s : State) (src : Nat) (p : List Byte) (h : Memory.wf s.mem = true) : Memory.wf (takeData s src p).mem = true := by
  unfold takeData; split <;> simp (maxDischargeDepth := 40) [*]
@[simp ↓] theorem takeAck_pending (s : State) (src : Nat) (p : List Byte) : (takeAck s src p).pending = s.pending := by
  unfold takeAck; split <;> simp (maxDischargeDepth := 40) [*]
@[simp ↓] theorem takeAck_mem (s : State) (src : Nat) (p : List Byte) (h : Memory.wf s.mem = true) : Memory.wf (takeAck s src p).mem = true := by
  unfold takeAck; split <;> simp (maxDischargeDepth := 40) [*]
@[simp ↓] theorem takeNak_pending (s : State) (src : Nat) (p : List Byte) : (takeNak s src p).pending = s.pending := by
  unfold takeNak; split <;> simp (maxDischargeDepth := 40) [*]
@[simp ↓] theorem takeNak_mem (s : State) (src : Nat) (p : List Byte) (h : Memory.wf s.mem = true) : Memory.wf (takeNak s src p).mem = true := by
  unfold takeNak; split <;> simp (maxDischargeDepth := 40) [*]
@[simp ↓] theorem takeDone_pending (s : State) (src : Nat) (p : List Byte) : (takeDone s src p).pending = s.pending := by
  unfold takeDone; split <;> simp (maxDischargeDepth := 40) [*]
@[simp ↓] theorem takeDone_mem (s : State) (src : Nat) (p : List Byte) (h : Memory.wf s.mem = true) : Memory.wf (takeDone s src p).mem = true := by
  unfold takeDone; split <;> simp (maxDischargeDepth := 40) [*]
@[simp ↓] theorem takeCancel_pending (s : State) (src : Nat) (p : List Byte) : (takeCancel s src p).pending = s.pending := by
  unfold takeCancel; (repeat' split) <;> simp (maxDischargeDepth := 40) [*]
@[simp ↓] theorem takeCancel_mem (s : State) (src : Nat) (p : List Byte) (h : Memory.wf s.mem = true) : Memory.wf (takeCancel s src p).mem = true := by
  unfold takeCancel; (repeat' split) <;> simp (maxDischargeDepth := 40) [*]
@[simp ↓] theorem takeQuery_pending (s : State) (src : Nat) (p : List Byte) : (takeQuery s src p).pending = s.pending := by
  simp (maxDischargeDepth := 40) [takeQuery]
@[simp ↓] theorem takeQuery_mem (s : State) (src : Nat) (p : List Byte) (h : Memory.wf s.mem = true) : Memory.wf (takeQuery s src p).mem = true := by
  simp (maxDischargeDepth := 40) [takeQuery, *]
@[simp ↓] theorem clusterReset_pending (s : State) (c : Nat) : (clusterReset s c).pending = s.pending := by
  simp (maxDischargeDepth := 40) [clusterReset]
@[simp ↓] theorem clusterReset_mem (s : State) (c : Nat) (h : Memory.wf s.mem = true) : Memory.wf (clusterReset s c).mem = true := by
  simp (maxDischargeDepth := 40) [clusterReset, *]
@[simp ↓] theorem clusterRuns_pending (s : State) (c : Nat) (ver : Nat) : (clusterRuns s c ver).pending = s.pending := by
  simp (maxDischargeDepth := 40) [clusterRuns]
@[simp ↓] theorem clusterRuns_mem (s : State) (c : Nat) (ver : Nat) (h : Memory.wf s.mem = true) : Memory.wf (clusterRuns s c ver).mem = true := by
  simp (maxDischargeDepth := 40) [clusterRuns, *]
@[simp ↓] theorem ownAll_pending (s : State) (c : Nat) : (ownAll s c).pending = s.pending := by
  simp (maxDischargeDepth := 40) [ownAll]
@[simp ↓] theorem ownAll_mem (s : State) (c : Nat) (h : Memory.wf s.mem = true) : Memory.wf (ownAll s c).mem = true := by
  simp +contextual (maxDischargeDepth := 40) [ownAll, *]
@[simp ↓] theorem hoStep_pending (s : State) (n : Nat) : (hoStep s n).pending = s.pending := by
  simp (maxDischargeDepth := 40) [hoStep]
@[simp ↓] theorem hoStep_mem (s : State) (n : Nat) (h : Memory.wf s.mem = true) : Memory.wf (hoStep s n).mem = true := by
  simp (maxDischargeDepth := 40) [hoStep, *]
@[simp ↓] theorem updHoEnd_pending (s : State) : (updHoEnd s).pending = s.pending := by
  simp (maxDischargeDepth := 40) [updHoEnd]
@[simp ↓] theorem updHoEnd_mem (s : State) (h : Memory.wf s.mem = true) : Memory.wf (updHoEnd s).mem = true := by
  simp (maxDischargeDepth := 40) [updHoEnd, *]
@[simp ↓] theorem updHoStart_pending (s : State) (slot : Nat) : (updHoStart s slot).1.pending = s.pending := by
  simp (maxDischargeDepth := 40) [updHoStart]
@[simp ↓] theorem updHoStart_mem (s : State) (slot : Nat) (h : Memory.wf s.mem = true) : Memory.wf (updHoStart s slot).1.mem = true := by
  simp (maxDischargeDepth := 40) [updHoStart, *]
@[simp ↓] theorem updHoAbort_pending (s : State) (h : UpdHo) : (updHoAbort s h).pending = s.pending := by
  simp (maxDischargeDepth := 40) [updHoAbort]
@[simp ↓] theorem updHoAbort_mem (s : State) (h : UpdHo) (hm : Memory.wf s.mem = true) : Memory.wf (updHoAbort s h).mem = true := by
  simp (maxDischargeDepth := 40) [updHoAbort, *]
@[simp ↓] theorem updPairGo_pending (s : State) (slot : Nat) (cluster : Bool) : (updPairGo s slot cluster).1.pending = s.pending := by
  simp (maxDischargeDepth := 40) [updPairGo]
@[simp ↓] theorem updPairGo_mem (s : State) (slot : Nat) (cluster : Bool) (h : Memory.wf s.mem = true) : Memory.wf (updPairGo s slot cluster).1.mem = true := by
  simp (maxDischargeDepth := 40) [updPairGo, *]
@[simp ↓] theorem updActivate_pending (e : Entry) (s : State) : (updActivate e s).1.pending = s.pending := by
  simp (maxDischargeDepth := 40) [updActivate]
@[simp ↓] theorem updActivate_mem (e : Entry) (s : State) (h : Memory.wf s.mem = true) : Memory.wf (updActivate e s).1.mem = true := by
  simp (maxDischargeDepth := 40) [updActivate, *]
@[simp ↓] theorem readyTake_pending (s : State) (h : UpdHo) : (readyTake s h).pending = s.pending := by
  simp (maxDischargeDepth := 40) [readyTake]
@[simp ↓] theorem readyTake_mem (s : State) (h : UpdHo) (hm : Memory.wf s.mem = true) : Memory.wf (readyTake s h).mem = true := by
  simp (maxDischargeDepth := 40) [readyTake, *]
@[simp ↓] theorem updReady_pending (e : Entry) (s : State) : (updReady e s).1.pending = s.pending := by
  unfold updReady; split <;> simp (maxDischargeDepth := 40) [*]
@[simp ↓] theorem updReady_mem (e : Entry) (s : State) (h : Memory.wf s.mem = true) : Memory.wf (updReady e s).1.mem = true := by
  unfold updReady; split <;> simp (maxDischargeDepth := 40) [*]
@[simp ↓] theorem readyReport_pending (s : State) : (readyReport s).pending = s.pending := by
  unfold readyReport; split <;> simp (maxDischargeDepth := 40) [*]
@[simp ↓] theorem readyReport_mem (s : State) (h : Memory.wf s.mem = true) : Memory.wf (readyReport s).mem = true := by
  unfold readyReport; split <;> simp (maxDischargeDepth := 40) [*]
@[simp ↓] theorem updSwap_pending (e : Entry) (s : State) : (updSwap e s).1.pending = s.pending := by
  unfold updSwap; split <;> simp (maxDischargeDepth := 40) [*]
@[simp ↓] theorem updSwap_mem (e : Entry) (s : State) (h : Memory.wf s.mem = true) : Memory.wf (updSwap e s).1.mem = true := by
  unfold updSwap; split <;> simp (maxDischargeDepth := 40) [*]
@[simp ↓] theorem updCommitSlot_pending (s : State) (k : Nat) : (updCommitSlot s k).pending = s.pending := by
  simp (maxDischargeDepth := 40) [updCommitSlot]
@[simp ↓] theorem updCommitSlot_mem (s : State) (k : Nat) (h : Memory.wf s.mem = true) : Memory.wf (updCommitSlot s k).mem = true := by
  simp (maxDischargeDepth := 40) [updCommitSlot, *]
@[simp ↓] theorem updCommitHo_pending (s : State) (h : UpdHo) : (updCommitHo s h).pending = s.pending := by
  simp (maxDischargeDepth := 40) [updCommitHo]
@[simp ↓] theorem updCommitHo_mem (s : State) (h : UpdHo) (hm : Memory.wf s.mem = true) : Memory.wf (updCommitHo s h).mem = true := by
  simp (maxDischargeDepth := 40) [updCommitHo, *]
@[simp ↓] theorem updCommit_pending (e : Entry) (s : State) : (updCommit e s).1.pending = s.pending := by
  unfold updCommit; (repeat' split) <;> simp (maxDischargeDepth := 40) [*]
@[simp ↓] theorem updCommit_mem (e : Entry) (s : State) (h : Memory.wf s.mem = true) : Memory.wf (updCommit e s).1.mem = true := by
  unfold updCommit; (repeat' split) <;> simp (maxDischargeDepth := 40) [*]
@[simp ↓] theorem updRollback_pending (s : State) (h : UpdHo) (status : Nat) : (updRollback s h status).pending = s.pending := by
  simp (maxDischargeDepth := 40) [updRollback]
@[simp ↓] theorem updRollback_mem (s : State) (h : UpdHo) (status : Nat) (hm : Memory.wf s.mem = true) : Memory.wf (updRollback s h status).mem = true := by
  simp (maxDischargeDepth := 40) [updRollback, *]
@[simp ↓] theorem updRollbackOp_pending (x0 : Entry) (s : State) : (updRollbackOp x0 s).1.pending = s.pending := by
  unfold updRollbackOp; split <;> simp (maxDischargeDepth := 40) [*]
@[simp ↓] theorem updRollbackOp_mem (x0 : Entry) (s : State) (h : Memory.wf s.mem = true) : Memory.wf (updRollbackOp x0 s).1.mem = true := by
  unfold updRollbackOp; split <;> simp (maxDischargeDepth := 40) [*]
@[simp ↓] theorem windowOpen_pending (s : State) : (windowOpen s).pending = s.pending := by
  simp (maxDischargeDepth := 40) [windowOpen]
@[simp ↓] theorem windowOpen_mem (s : State) (h : Memory.wf s.mem = true) : Memory.wf (windowOpen s).mem = true := by
  simp (maxDischargeDepth := 40) [windowOpen, *]
@[simp ↓] theorem windowShut_pending (s : State) : (windowShut s).pending = s.pending := by
  simp (maxDischargeDepth := 40) [windowShut]
@[simp ↓] theorem windowShut_mem (s : State) (h : Memory.wf s.mem = true) : Memory.wf (windowShut s).mem = true := by
  simp (maxDischargeDepth := 40) [windowShut, *]
@[simp ↓] theorem windowRevert_pending (s : State) : (windowRevert s).pending = s.pending := by
  unfold windowRevert; dsimp only; (repeat' split) <;> simp (maxDischargeDepth := 40) [*]
@[simp ↓] theorem windowRevert_mem (s : State) (h : Memory.wf s.mem = true) : Memory.wf (windowRevert s).mem = true := by
  unfold windowRevert; dsimp only; (repeat' split) <;> simp (maxDischargeDepth := 40) [*]
@[simp ↓] theorem windowEnd_pending (s : State) : (windowEnd s).pending = s.pending := by
  unfold windowEnd; dsimp only; (repeat' split) <;> simp (maxDischargeDepth := 40) [*]
@[simp ↓] theorem windowEnd_mem (s : State) (h : Memory.wf s.mem = true) : Memory.wf (windowEnd s).mem = true := by
  unfold windowEnd; dsimp only; (repeat' split) <;> simp (maxDischargeDepth := 40) [*]
@[simp ↓] theorem updTimeout_pending (s : State) : (updTimeout s).pending = s.pending := by
  unfold updTimeout; split <;> simp (maxDischargeDepth := 40) [*]
@[simp ↓] theorem updTimeout_mem (s : State) (h : Memory.wf s.mem = true) : Memory.wf (updTimeout s).mem = true := by
  unfold updTimeout; split <;> simp (maxDischargeDepth := 40) [*]
@[simp ↓] theorem updClusterLost_pending (s : State) (c : Nat) : (updClusterLost s c).pending = s.pending := by
  unfold updClusterLost; split <;> simp (maxDischargeDepth := 40) [*]
@[simp ↓] theorem updClusterLost_mem (s : State) (c : Nat) (h : Memory.wf s.mem = true) : Memory.wf (updClusterLost s c).mem = true := by
  unfold updClusterLost; split <;> simp (maxDischargeDepth := 40) [*]
@[simp ↓] theorem appReset_pending (s : State) (c : Nat) (row : Nat) : (appReset s c row).pending = s.pending := by
  simp (maxDischargeDepth := 40) [appReset]
@[simp ↓] theorem appReset_mem (s : State) (c : Nat) (row : Nat) (h : Memory.wf s.mem = true) : Memory.wf (appReset s c row).mem = true := by
  simp (maxDischargeDepth := 40) [appReset, *]
@[simp ↓] theorem takeInfo_pending (s : State) (src : Nat) (p : List Byte) : (takeInfo s src p).1.pending = s.pending := by
  unfold takeInfo; dsimp only; (repeat' split) <;> simp (maxDischargeDepth := 40) [*]
@[simp ↓] theorem takeInfo_mem (s : State) (src : Nat) (p : List Byte) (h : Memory.wf s.mem = true) : Memory.wf (takeInfo s src p).1.mem = true := by
  unfold takeInfo; dsimp only; (repeat' split) <;> simp (maxDischargeDepth := 40) [*]
@[simp ↓] theorem updRestart_pending (s : State) : (updRestart s).pending = s.pending := by
  simp (maxDischargeDepth := 40) [updRestart]
@[simp ↓] theorem updRestart_mem (s : State) (h : Memory.wf s.mem = true) : Memory.wf (updRestart s).mem = true := by
  simp (maxDischargeDepth := 40) [updRestart, *]
@[simp ↓] theorem updStandby_pending (s : State) : (updStandby s).pending = s.pending := by
  unfold updStandby; split <;> simp (maxDischargeDepth := 40) [*]
@[simp ↓] theorem updStandby_mem (s : State) (h : Memory.wf s.mem = true) : Memory.wf (updStandby s).mem = true := by
  unfold updStandby; split <;> simp (maxDischargeDepth := 40) [*]
@[simp ↓] theorem updReceive_pending (s : State) (src : Nat) (p : List Byte) : (updReceive s src p).pending = s.pending := by
  simp (maxDischargeDepth := 40) [updReceive]
@[simp ↓] theorem updReceive_mem (s : State) (src : Nat) (p : List Byte) (h : Memory.wf s.mem = true) : Memory.wf (updReceive s src p).mem = true := by
  simp (maxDischargeDepth := 40) [updReceive, *]
@[simp ↓] theorem updHoldup_pending (s : State) : (updHoldup s).pending = s.pending := by
  unfold updHoldup; dsimp only; (repeat' split) <;> simp (maxDischargeDepth := 40) [*]
@[simp ↓] theorem updHoldup_mem (s : State) (h : Memory.wf s.mem = true) : Memory.wf (updHoldup s).mem = true := by
  unfold updHoldup; dsimp only; (repeat' split) <;> simp (maxDischargeDepth := 40) [*]

end Sys2Proof.Laws
end

