-- ==== Sys2Proof/Laws/KeepEth.lean ====
section
/-! SUPPORT. What every operation of `Machine/Eth.lean` leaves alone: the queue of waiting commands, and the canonical form of host memory. -/

namespace Sys2Proof.Laws

open Sys2Proof.Machine

@[simp ↓] theorem ringShow_pending (s : State) : (ringShow s).pending = s.pending := by
  simp (maxDischargeDepth := 40) [ringShow]
@[simp ↓] theorem ringShow_mem (s : State) (h : Memory.wf s.mem = true) : Memory.wf (ringShow s).mem = true := by
  simp (maxDischargeDepth := 40) [ringShow, *]
@[simp ↓] theorem noticeTake_pending (s : State) (p : List Byte) : (noticeTake s p).pending = s.pending := by
  simp (maxDischargeDepth := 40) [noticeTake]
@[simp ↓] theorem noticeTake_mem (s : State) (p : List Byte) (h : Memory.wf s.mem = true) : Memory.wf (noticeTake s p).mem = true := by
  simp (maxDischargeDepth := 40) [noticeTake, *]
@[simp ↓] theorem noticeSend_pending (s : State) (portB : Bool) (up : Bool) : (noticeSend s portB up).pending = s.pending := by
  simp (maxDischargeDepth := 40) [noticeSend]
@[simp ↓] theorem noticeSend_mem (s : State) (portB : Bool) (up : Bool) (h : Memory.wf s.mem = true) : Memory.wf (noticeSend s portB up).mem = true := by
  simp (maxDischargeDepth := 40) [noticeSend, *]
@[simp ↓] theorem linkChange_pending (s0 : State) (portB : Bool) (up : Bool) (verified : Bool) : (linkChange s0 portB up verified).pending = s0.pending := by
  simp (maxDischargeDepth := 40) [linkChange]
@[simp ↓] theorem linkChange_mem (s0 : State) (portB : Bool) (up : Bool) (verified : Bool) (h : Memory.wf s0.mem = true) : Memory.wf (linkChange s0 portB up verified).mem = true := by
  simp (maxDischargeDepth := 40) [linkChange, *]
@[simp ↓] theorem ethEnable_pending (e : Entry) (s : State) : (ethEnable e s).1.pending = s.pending := by
  simp (maxDischargeDepth := 40) [ethEnable]
@[simp ↓] theorem ethEnable_mem (e : Entry) (s : State) (h : Memory.wf s.mem = true) : Memory.wf (ethEnable e s).1.mem = true := by
  simp (maxDischargeDepth := 40) [ethEnable, *]
@[simp ↓] theorem ethDisable_pending (e : Entry) (s : State) : (ethDisable e s).1.pending = s.pending := by
  simp (maxDischargeDepth := 40) [ethDisable]
@[simp ↓] theorem ethDisable_mem (e : Entry) (s : State) (h : Memory.wf s.mem = true) : Memory.wf (ethDisable e s).1.mem = true := by
  simp (maxDischargeDepth := 40) [ethDisable, *]
@[simp ↓] theorem ethDeliverQp_pending (s : State) (portB : Bool) (agoNs : Nat) (fr : List Byte) : (ethDeliverQp s portB agoNs fr).pending = s.pending := by
  unfold ethDeliverQp; dsimp only; (repeat' split) <;> simp (maxDischargeDepth := 40) [*]
@[simp ↓] theorem ethDeliverQp_mem (s : State) (portB : Bool) (agoNs : Nat) (fr : List Byte) (h : Memory.wf s.mem = true) : Memory.wf (ethDeliverQp s portB agoNs fr).mem = true := by
  unfold ethDeliverQp; dsimp only; (repeat' split) <;> simp_all (maxDischargeDepth := 40)
@[simp ↓] theorem ethDeliver_pending (s : State) (portB : Bool) (agoNs : Nat) (fr : List Byte) : (ethDeliver s portB agoNs fr).pending = s.pending := by
  simp (maxDischargeDepth := 40) [ethDeliver]
@[simp ↓] theorem ethDeliver_mem (s : State) (portB : Bool) (agoNs : Nat) (fr : List Byte) (h : Memory.wf s.mem = true) : Memory.wf (ethDeliver s portB agoNs fr).mem = true := by
  simp (maxDischargeDepth := 40) [ethDeliver, *]
@[simp ↓] theorem fcsBad_pending (s : State) (p : Nat) (counted : Bool) : (fcsBad s p counted).pending = s.pending := by
  simp (maxDischargeDepth := 40) [fcsBad]
@[simp ↓] theorem fcsBad_mem (s : State) (p : Nat) (counted : Bool) (h : Memory.wf s.mem = true) : Memory.wf (fcsBad s p counted).mem = true := by
  simp (maxDischargeDepth := 40) [fcsBad, *]
@[simp ↓] theorem ringFrame_pending (s : State) (portB : Bool) (fr : List Byte) (r : RingIn) : (ringFrame s portB fr r).pending = s.pending := by
  simp (maxDischargeDepth := 40) [ringFrame]
@[simp ↓] theorem ringFrame_mem (s : State) (portB : Bool) (fr : List Byte) (r : RingIn) (h : Memory.wf s.mem = true) : Memory.wf (ringFrame s portB fr r).mem = true := by
  simp (maxDischargeDepth := 40) [ringFrame, *]

end Sys2Proof.Laws
end

