-- ==== Sys2Proof/Laws/KeepPower.lean ====
section
/-! SUPPORT. What every operation of `Machine/Power.lean` leaves alone: the queue of waiting commands, and the canonical form of host memory. -/

namespace Sys2Proof.Laws

open Sys2Proof.Machine

@[simp ↓] theorem powerTo_pending (s : State) (st : PState) (code : Nat) : (powerTo s st code).pending = s.pending := by
  simp (maxDischargeDepth := 40) [powerTo]
@[simp ↓] theorem powerTo_mem (s : State) (st : PState) (code : Nat) (h : Memory.wf s.mem = true) : Memory.wf (powerTo s st code).mem = true := by
  simp (maxDischargeDepth := 40) [powerTo, *]
@[simp ↓] theorem railEvent_pending (s : State) (f : Fld) (now : SupplyIn) : (railEvent s f now).pending = s.pending := by
  simp (maxDischargeDepth := 40) [railEvent]
@[simp ↓] theorem railEvent_mem (s : State) (f : Fld) (now : SupplyIn) (h : Memory.wf s.mem = true) : Memory.wf (railEvent s f now).mem = true := by
  simp (maxDischargeDepth := 40) [railEvent, *]
@[simp ↓] theorem unitOff_pending (s : State) : (unitOff s).pending = s.pending := by
  simp (maxDischargeDepth := 40) [unitOff]
@[simp ↓] theorem unitOff_mem (s : State) (h : Memory.wf s.mem = true) : Memory.wf (unitOff s).mem = true := by
  simp (maxDischargeDepth := 40) [unitOff]
@[simp ↓] theorem canStop_pending (s : State) (n : Nat) : (canStop s n).pending = s.pending := by
  simp (maxDischargeDepth := 40) [canStop]
@[simp ↓] theorem canStop_mem (s : State) (n : Nat) (h : Memory.wf s.mem = true) : Memory.wf (canStop s n).mem = true := by
  simp (maxDischargeDepth := 40) [canStop, *]
@[simp ↓] theorem clustersStop_pending (s : State) : (clustersStop s).pending = s.pending := by
  simp (maxDischargeDepth := 40) [clustersStop]
@[simp ↓] theorem clustersStop_mem (s : State) (h : Memory.wf s.mem = true) : Memory.wf (clustersStop s).mem = true := by
  simp (maxDischargeDepth := 40) [clustersStop, *]
@[simp ↓] theorem holdupEnter_pending (s : State) (ov : Bool) : (holdupEnter s ov).pending = s.pending := by
  simp (maxDischargeDepth := 40) [holdupEnter]
@[simp ↓] theorem holdupEnter_mem (s : State) (ov : Bool) (h : Memory.wf s.mem = true) : Memory.wf (holdupEnter s ov).mem = true := by
  simp (maxDischargeDepth := 40) [holdupEnter, *]
@[simp ↓] theorem powerFail_pending (s : State) (ov : Bool) (now : SupplyIn) : (powerFail s ov now).pending = s.pending := by
  simp (maxDischargeDepth := 40) [powerFail]
@[simp ↓] theorem powerFail_mem (s : State) (ov : Bool) (now : SupplyIn) (h : Memory.wf s.mem = true) : Memory.wf (powerFail s ov now).mem = true := by
  simp (maxDischargeDepth := 40) [powerFail, *]
@[simp ↓] theorem railReturn_pending (s : State) (now : SupplyIn) : (railReturn s now).pending = s.pending := by
  simp (maxDischargeDepth := 40) [railReturn]
@[simp ↓] theorem railReturn_mem (s : State) (now : SupplyIn) (h : Memory.wf s.mem = true) : Memory.wf (railReturn s now).mem = true := by
  simp (maxDischargeDepth := 40) [railReturn, *]
@[simp ↓] theorem recSums_pending (s : State) : (recSums s).pending = s.pending := by
  simp (maxDischargeDepth := 40) [recSums]
@[simp ↓] theorem recSums_mem (s : State) (h : Memory.wf s.mem = true) : Memory.wf (recSums s).mem = true := by
  simp +contextual (maxDischargeDepth := 40) [recSums, *]
@[simp ↓] theorem recFlushAll_pending (s : State) : (recFlushAll s).pending = s.pending := by
  simp (maxDischargeDepth := 40) [recFlushAll]
@[simp ↓] theorem recFlushAll_mem (s : State) (h : Memory.wf s.mem = true) : Memory.wf (recFlushAll s).mem = true := by
  simp (maxDischargeDepth := 40) [recFlushAll, *]
@[simp ↓] theorem flushBegin_pending (s : State) : (flushBegin s).pending = s.pending := by
  simp (maxDischargeDepth := 40) [flushBegin]
@[simp ↓] theorem flushBegin_mem (s : State) (h : Memory.wf s.mem = true) : Memory.wf (flushBegin s).mem = true := by
  simp (maxDischargeDepth := 40) [flushBegin, *]
@[simp ↓] theorem flushWrite_pending (s : State) : (flushWrite s).pending = s.pending := by
  simp (maxDischargeDepth := 40) [flushWrite]
@[simp ↓] theorem flushWrite_mem (s : State) (h : Memory.wf s.mem = true) : Memory.wf (flushWrite s).mem = true := by
  simp (maxDischargeDepth := 40) [flushWrite, *]
@[simp ↓] theorem flushEnd_pending (s : State) (env : StartEnv) : (flushEnd s env).pending = s.pending := by
  simp (maxDischargeDepth := 40) [flushEnd]
@[simp ↓] theorem flushEnd_mem (s : State) (env : StartEnv) (h : Memory.wf s.mem = true) : Memory.wf (flushEnd s env).mem = true := by
  simp (maxDischargeDepth := 40) [flushEnd, *]
@[simp ↓] theorem watchHandover_pending (s : State) : (watchHandover s).pending = s.pending := by
  simp (maxDischargeDepth := 40) [watchHandover]
@[simp ↓] theorem watchHandover_mem (s : State) (h : Memory.wf s.mem = true) : Memory.wf (watchHandover s).mem = true := by
  simp (maxDischargeDepth := 40) [watchHandover, *]
@[simp ↓] theorem watchOp_pending (e : Entry) (s : State) : (watchOp e s).1.pending = s.pending := by
  unfold watchOp; (repeat' split) <;> simp (maxDischargeDepth := 40) [*]
@[simp ↓] theorem watchOp_mem (e : Entry) (s : State) (h : Memory.wf s.mem = true) : Memory.wf (watchOp e s).1.mem = true := by
  unfold watchOp; (repeat' split) <;> simp (maxDischargeDepth := 40) [*]
@[simp ↓] theorem tilesSleep_pending (s : State) : (tilesSleep s).pending = s.pending := by
  simp (maxDischargeDepth := 40) [tilesSleep]
@[simp ↓] theorem tilesSleep_mem (s : State) (h : Memory.wf s.mem = true) : Memory.wf (tilesSleep s).mem = true := by
  simp (maxDischargeDepth := 40) [tilesSleep, *]
@[simp ↓] theorem wake_pending (s : State) (src : Nat) (enabled : Bool) (env : StartEnv) : (wake s src enabled env).pending = s.pending := by
  simp (maxDischargeDepth := 40) [wake]
@[simp ↓] theorem wake_mem (s : State) (src : Nat) (enabled : Bool) (env : StartEnv) (h : Memory.wf s.mem = true) : Memory.wf (wake s src enabled env).mem = true := by
  simp (maxDischargeDepth := 40) [wake, *]
@[simp ↓] theorem watchReached_pending (s : State) (env : StartEnv) : (watchReached s env).pending = s.pending := by
  simp (maxDischargeDepth := 40) [watchReached]
@[simp ↓] theorem watchReached_mem (s : State) (env : StartEnv) (h : Memory.wf s.mem = true) : Memory.wf (watchReached s env).mem = true := by
  simp (maxDischargeDepth := 40) [watchReached, *]
@[simp ↓] theorem systemReset_pending (s : State) (cause : Nat) (row : Nat) (env : StartEnv) : (systemReset s cause row env).pending = s.pending := by
  simp (maxDischargeDepth := 40) [systemReset]
@[simp ↓] theorem systemReset_mem (s : State) (cause : Nat) (row : Nat) (env : StartEnv) (h : Memory.wf s.mem = true) : Memory.wf (systemReset s cause row env).mem = true := by
  simp (maxDischargeDepth := 40) [systemReset, *]
@[simp ↓] theorem safetyReset_pending (s : State) (row : Nat) : (safetyReset s row).pending = s.pending := by
  simp (maxDischargeDepth := 40) [safetyReset]
@[simp ↓] theorem safetyReset_mem (s : State) (row : Nat) (h : Memory.wf s.mem = true) : Memory.wf (safetyReset s row).mem = true := by
  simp (maxDischargeDepth := 40) [safetyReset, *]
@[simp ↓] theorem throttle_pending (s : State) (on : Bool) : (throttle s on).pending = s.pending := by
  simp (maxDischargeDepth := 40) [throttle]
@[simp ↓] theorem throttle_mem (s : State) (on : Bool) (h : Memory.wf s.mem = true) : Memory.wf (throttle s on).mem = true := by
  simp (maxDischargeDepth := 40) [throttle, *]
@[simp ↓] theorem domainTo_pending (s : State) (dom : Nat) (ok : Bool) : (domainTo s dom ok).pending = s.pending := by
  simp (maxDischargeDepth := 40) [domainTo]
@[simp ↓] theorem domainTo_mem (s : State) (dom : Nat) (ok : Bool) (h : Memory.wf s.mem = true) : Memory.wf (domainTo s dom ok).mem = true := by
  simp (maxDischargeDepth := 40) [domainTo, *]

end Sys2Proof.Laws
end

