-- ==== Sys2Proof/Laws/KeepSweep.lean ====
section
/-! SUPPORT. What every operation of `Machine/Sweep.lean` leaves alone: the queue of waiting commands, and the canonical form of host memory. -/

namespace Sys2Proof.Laws

open Sys2Proof.Machine

@[simp ↓] theorem windowClose_pending (s : State) : (windowClose s).pending = s.pending := by
  unfold windowClose; dsimp only; (repeat' split) <;> simp (maxDischargeDepth := 40) [*]
@[simp ↓] theorem windowClose_mem (s : State) (h : Memory.wf s.mem = true) : Memory.wf (windowClose s).mem = true := by
  unfold windowClose; dsimp only; (repeat' split) <;> simp (maxDischargeDepth := 40) [*]
@[simp ↓] theorem windowTake_pending (s : State) (w : Sweep) : (windowTake s w).2.pending = s.pending := by
  simp (maxDischargeDepth := 40) [windowTake]
@[simp ↓] theorem windowTake_mem (s : State) (w : Sweep) (h : Memory.wf s.mem = true) : Memory.wf (windowTake s w).2.mem = true := by
  simp (maxDischargeDepth := 40) [windowTake, *]
@[simp ↓] theorem gapAdd_pending (s : State) (w : Sweep) : (gapAdd s w).pending = s.pending := by
  unfold gapAdd; dsimp only; (repeat' split) <;> simp (maxDischargeDepth := 40) [*]
@[simp ↓] theorem gapAdd_mem (s : State) (w : Sweep) (h : Memory.wf s.mem = true) : Memory.wf (gapAdd s w).mem = true := by
  unfold gapAdd; dsimp only; (repeat' split) <;> simp (maxDischargeDepth := 40) [*]
@[simp ↓] theorem thermTake_pending (s : State) (w : Sweep) : (thermTake s w).pending = s.pending := by
  simp (maxDischargeDepth := 40) [thermTake]
@[simp ↓] theorem thermTake_mem (s : State) (w : Sweep) (h : Memory.wf s.mem = true) : Memory.wf (thermTake s w).mem = true := by
  simp (maxDischargeDepth := 40) [thermTake, *]
@[simp ↓] theorem sweepShow_pending (s : State) (w : Sweep) (nn : Nat) : (sweepShow s w nn).pending = s.pending := by
  simp (maxDischargeDepth := 40) [sweepShow]
@[simp ↓] theorem sweepShow_mem (s : State) (w : Sweep) (nn : Nat) (h : Memory.wf s.mem = true) : Memory.wf (sweepShow s w nn).mem = true := by
  simp (maxDischargeDepth := 40) [sweepShow, *]
@[simp ↓] theorem sweepTake_pending (s6 : State) (w : Sweep) : (sweepTake s6 w).pending = s6.pending := by
  simp (maxDischargeDepth := 40) [sweepTake]
@[simp ↓] theorem sweepTake_mem (s6 : State) (w : Sweep) (h : Memory.wf s6.mem = true) : Memory.wf (sweepTake s6 w).mem = true := by
  simp (maxDischargeDepth := 40) [sweepTake, *]
@[simp ↓] theorem sweepFab_pending (s : State) (w : Sweep) (nn : Nat) : (sweepFab s w nn).pending = s.pending := by
  simp (maxDischargeDepth := 40) [sweepFab]
@[simp ↓] theorem sweepFab_mem (s : State) (w : Sweep) (nn : Nat) (h : Memory.wf s.mem = true) : Memory.wf (sweepFab s w nn).mem = true := by
  simp +contextual (maxDischargeDepth := 40) [sweepFab, *]
@[simp ↓] theorem sweepDeliver_pending (s : State) : (sweepDeliver s).pending = s.pending := by
  unfold sweepDeliver; split <;> simp (maxDischargeDepth := 40) [*]
@[simp ↓] theorem sweepDeliver_mem (s : State) (h : Memory.wf s.mem = true) : Memory.wf (sweepDeliver s).mem = true := by
  unfold sweepDeliver; split <;> simp (maxDischargeDepth := 40) [*]
@[simp ↓] theorem takeoverNext_pending (s : State) : (takeoverNext s).pending = s.pending := by
  simp (maxDischargeDepth := 40) [takeoverNext]
@[simp ↓] theorem takeoverNext_mem (s : State) (h : Memory.wf s.mem = true) : Memory.wf (takeoverNext s).mem = true := by
  simp (maxDischargeDepth := 40) [takeoverNext, *]
@[simp ↓] theorem shadowNext_pending (s : State) (rx : Option Nat) : (shadowNext s rx).pending = s.pending := by
  unfold shadowNext; split <;> simp (maxDischargeDepth := 40) [*]
@[simp ↓] theorem shadowNext_mem (s : State) (rx : Option Nat) (h : Memory.wf s.mem = true) : Memory.wf (shadowNext s rx).mem = true := by
  unfold shadowNext; split <;> simp (maxDischargeDepth := 40) [*]
@[simp ↓] theorem rateTake_pending (s : State) : (rateTake s).pending = s.pending := by
  simp (maxDischargeDepth := 40) [rateTake]
@[simp ↓] theorem rateTake_mem (s : State) (h : Memory.wf s.mem = true) : Memory.wf (rateTake s).mem = true := by
  simp (maxDischargeDepth := 40) [rateTake, *]
@[simp ↓] theorem sampleInstant_pending (s : State) (rx : Option Nat) (hv : HvmIn) (transit : Option Nat) : (sampleInstant s rx hv transit).pending = s.pending := by
  unfold sampleInstant; dsimp only; (repeat' split) <;> simp (maxDischargeDepth := 40) [*]
@[simp ↓] theorem sampleInstant_mem (s : State) (rx : Option Nat) (hv : HvmIn) (transit : Option Nat) (h : Memory.wf s.mem = true) : Memory.wf (sampleInstant s rx hv transit).mem = true := by
  unfold sampleInstant; dsimp only; (repeat' split) <;> simp (maxDischargeDepth := 40) [*]
@[simp ↓] theorem tileJoin_pending (s : State) (k : Nat) : (tileJoin s k).pending = s.pending := by
  simp (maxDischargeDepth := 40) [tileJoin]
@[simp ↓] theorem tileJoin_mem (s : State) (k : Nat) (h : Memory.wf s.mem = true) : Memory.wf (tileJoin s k).mem = true := by
  simp (maxDischargeDepth := 40) [tileJoin, *]
@[simp ↓] theorem roundSafe_pending (s : State) : (roundSafe s).pending = s.pending := by
  simp (maxDischargeDepth := 40) [roundSafe]
@[simp ↓] theorem roundSafe_mem (s : State) (h : Memory.wf s.mem = true) : Memory.wf (roundSafe s).mem = true := by
  simp (maxDischargeDepth := 40) [roundSafe, *]
@[simp ↓] theorem dlyKeep_pending (s : State) : (dlyKeep s).pending = s.pending := by
  simp (maxDischargeDepth := 40) [dlyKeep]
@[simp ↓] theorem dlyKeep_mem (s : State) (h : Memory.wf s.mem = true) : Memory.wf (dlyKeep s).mem = true := by
  simp (maxDischargeDepth := 40) [dlyKeep, *]
@[simp ↓] theorem chainRound_pending (s : State) : (chainRound s).pending = s.pending := by
  simp (maxDischargeDepth := 40) [chainRound]
@[simp ↓] theorem chainRound_mem (s : State) (h : Memory.wf s.mem = true) : Memory.wf (chainRound s).mem = true := by
  simp +contextual (maxDischargeDepth := 40) [chainRound, *]

end Sys2Proof.Laws
end

