-- ==== Sys2Proof/Laws/KeepRegs.lean ====
section
/-! SUPPORT. What every operation of `Machine/Regs.lean` leaves alone: the queue of waiting commands, and the canonical form of host memory. -/

namespace Sys2Proof.Laws

open Sys2Proof.Machine

@[simp ↓] theorem regRead_pending (s0 : State) (lvl : Level) (a : Nat) : (regRead s0 lvl a).pending = s0.pending := by
  unfold regRead; dsimp only; (repeat' split) <;> simp (maxDischargeDepth := 40) [*]
@[simp ↓] theorem regRead_mem (s0 : State) (lvl : Level) (a : Nat) (h : Memory.wf s0.mem = true) : Memory.wf (regRead s0 lvl a).mem = true := by
  unfold regRead; dsimp only; (repeat' split) <;> simp (maxDischargeDepth := 40) [*]
@[simp ↓] theorem busRead_pending (s : State) (lvl : Level) (a : Nat) (width : Nat) : (busRead s lvl a width).pending = s.pending := by
  simp (maxDischargeDepth := 40) [busRead]
@[simp ↓] theorem busRead_mem (s : State) (lvl : Level) (a : Nat) (width : Nat) (h : Memory.wf s.mem = true) : Memory.wf (busRead s lvl a width).mem = true := by
  simp (maxDischargeDepth := 40) [busRead, *]
@[simp ↓] theorem lockSet_pending (s : State) (v : Nat) : (lockSet s v).pending = s.pending := by
  simp (maxDischargeDepth := 40) [lockSet]
@[simp ↓] theorem lockSet_mem (s : State) (v : Nat) (h : Memory.wf s.mem = true) : Memory.wf (lockSet s v).mem = true := by
  simp (maxDischargeDepth := 40) [lockSet, *]
@[simp ↓] theorem gateWrite_pending (s : State) (v : Nat) : (gateWrite s v).pending = s.pending := by
  simp (maxDischargeDepth := 40) [gateWrite]
@[simp ↓] theorem gateWrite_mem (s : State) (v : Nat) (h : Memory.wf s.mem = true) : Memory.wf (gateWrite s v).mem = true := by
  simp +contextual (maxDischargeDepth := 40) [gateWrite, *]
@[simp ↓] theorem wakeCfgWrite_pending (s : State) (w : Word) : (wakeCfgWrite s w).pending = s.pending := by
  simp (maxDischargeDepth := 40) [wakeCfgWrite]
@[simp ↓] theorem wakeCfgWrite_mem (s : State) (w : Word) (h : Memory.wf s.mem = true) : Memory.wf (wakeCfgWrite s w).mem = true := by
  simp (maxDischargeDepth := 40) [wakeCfgWrite, *]
@[simp ↓] theorem incWrite_pending (s : State) (dom : Nat) (v : Nat) : (incWrite s dom v).pending = s.pending := by
  simp (maxDischargeDepth := 40) [incWrite]
@[simp ↓] theorem incWrite_mem (s : State) (dom : Nat) (v : Nat) (h : Memory.wf s.mem = true) : Memory.wf (incWrite s dom v).mem = true := by
  simp (maxDischargeDepth := 40) [incWrite, *]
@[simp ↓] theorem plainWrite_pending (s : State) (r : R.Row) (a : Nat) (v : Word) : (plainWrite s r a v).pending = s.pending := by
  simp (maxDischargeDepth := 40) [plainWrite]
@[simp ↓] theorem plainWrite_mem (s : State) (r : R.Row) (a : Nat) (v : Word) (h : Memory.wf s.mem = true) : Memory.wf (plainWrite s r a v).mem = true := by
  simp (maxDischargeDepth := 40) [plainWrite, *]
@[simp ↓] theorem pairStage_pending (s : State) (lvl : Level) (a : Nat) (v : Word) : (pairStage s lvl a v).pending = s.pending := by
  simp (maxDischargeDepth := 40) [pairStage]
@[simp ↓] theorem pairStage_mem (s : State) (lvl : Level) (a : Nat) (v : Word) (h : Memory.wf s.mem = true) : Memory.wf (pairStage s lvl a v).mem = true := by
  simp (maxDischargeDepth := 40) [pairStage, *]
@[simp ↓] theorem pairCommit_pending (s : State) (lvl : Level) (a : Nat) (r : R.Row) (v : Word) : (pairCommit s lvl a r v).pending = s.pending := by
  unfold pairCommit; (repeat' split) <;> simp (maxDischargeDepth := 40) [*]
@[simp ↓] theorem pairCommit_mem (s : State) (lvl : Level) (a : Nat) (r : R.Row) (v : Word) (h : Memory.wf s.mem = true) : Memory.wf (pairCommit s lvl a r v).mem = true := by
  unfold pairCommit; (repeat' split) <;> simp (maxDischargeDepth := 40) [*]
@[simp ↓] theorem regTake_pending (s : State) (lvl : Level) (a : Nat) (r : R.Row) (v : Word) : (regTake s lvl a r v).pending = s.pending := by
  simp (maxDischargeDepth := 40) [regTake]
@[simp ↓] theorem regTake_mem (s : State) (lvl : Level) (a : Nat) (r : R.Row) (v : Word) (h : Memory.wf s.mem = true) : Memory.wf (regTake s lvl a r v).mem = true := by
  simp (maxDischargeDepth := 40) [regTake, *]
@[simp ↓] theorem regWrite_pending (s : State) (lvl : Level) (a : Nat) (v : Word) : (regWrite s lvl a v).pending = s.pending := by
  unfold regWrite; (repeat' split) <;> simp (maxDischargeDepth := 40) [*]
@[simp ↓] theorem regWrite_mem (s : State) (lvl : Level) (a : Nat) (v : Word) (h : Memory.wf s.mem = true) : Memory.wf (regWrite s lvl a v).mem = true := by
  unfold regWrite; (repeat' split) <;> simp (maxDischargeDepth := 40) [*]
@[simp ↓] theorem busWrite_pending (s : State) (lvl : Level) (a : Nat) (width : Nat) (v : Nat) : (busWrite s lvl a width v).pending = s.pending := by
  simp (maxDischargeDepth := 40) [busWrite]
@[simp ↓] theorem busWrite_mem (s : State) (lvl : Level) (a : Nat) (width : Nat) (v : Nat) (h : Memory.wf s.mem = true) : Memory.wf (busWrite s lvl a width v).mem = true := by
  simp (maxDischargeDepth := 40) [busWrite, *]
@[simp ↓] theorem readTake_pending (s : State) (a : Nat) (now : SupplyIn) : (readTake s a now).pending = s.pending := by
  simp (maxDischargeDepth := 40) [readTake]
@[simp ↓] theorem readTake_mem (s : State) (a : Nat) (now : SupplyIn) (h : Memory.wf s.mem = true) : Memory.wf (readTake s a now).mem = true := by
  simp (maxDischargeDepth := 40) [readTake, *]

end Sys2Proof.Laws
end

