-- ==== Sys2Proof/Laws/KeepItemCheck.lean ====
section
/-! SUPPORT. What every operation of `Machine/ItemCheck.lean` leaves alone: the queue of waiting commands, and the canonical form of host memory. -/

namespace Sys2Proof.Laws

open Sys2Proof.Machine

@[simp ↓] theorem itemFollow_pending (s : State) (qp : Nat) : (itemFollow s qp).pending = s.pending := by
  simp (maxDischargeDepth := 40) [itemFollow]
@[simp ↓] theorem itemFollow_mem (s : State) (qp : Nat) (h : Memory.wf s.mem = true) : Memory.wf (itemFollow s qp).mem = true := by
  simp (maxDischargeDepth := 40) [itemFollow, *]
@[simp ↓] theorem itemApply_pending (s : State) (qp : Nat) (a : Nat) (d : ItemDesc) (bs : List Byte) : (itemApply s qp a d bs).1.pending = s.pending := by
  simp (maxDischargeDepth := 40) [itemApply]
@[simp ↓] theorem itemApply_mem (s : State) (qp : Nat) (a : Nat) (d : ItemDesc) (bs : List Byte) (h : Memory.wf s.mem = true) : Memory.wf (itemApply s qp a d bs).1.mem = true := by
  simp (maxDischargeDepth := 40) [itemApply, *]
@[simp ↓] theorem setConfig_pending (qp : Nat) (e : Entry) (s : State) : (setConfig qp e s).1.pending = s.pending := by
  unfold setConfig withBuf; dsimp only; (repeat' split) <;> simp (maxDischargeDepth := 40) [*]
@[simp ↓] theorem setConfig_mem (qp : Nat) (e : Entry) (s : State) (h : Memory.wf s.mem = true) : Memory.wf (setConfig qp e s).1.mem = true := by
  unfold setConfig withBuf; dsimp only; (repeat' split) <;> simp (maxDischargeDepth := 40) [*]
@[simp ↓] theorem getConfig_pending (qp : Nat) (e : Entry) (s : State) : (getConfig qp e s).1.pending = s.pending := by
  simp (maxDischargeDepth := 40) [getConfig]
@[simp ↓] theorem getConfig_mem (qp : Nat) (e : Entry) (s : State) (h : Memory.wf s.mem = true) : Memory.wf (getConfig qp e s).1.mem = true := by
  simp (maxDischargeDepth := 40) [getConfig, *]

end Sys2Proof.Laws
end

