-- ==== Sys2Proof/Laws/KeepCommon.lean ====
section
/-! SUPPORT. What every operation of `Machine/Common.lean` leaves alone: the queue of waiting commands, and the canonical form of host memory. -/

namespace Sys2Proof.Laws

open Sys2Proof.Machine

@[simp ↓] theorem getStatus_pending (qp : Nat) (e : Entry) (s0 : State) : (getStatus qp e s0).1.pending = s0.pending := by
  simp (maxDischargeDepth := 40) [getStatus]
@[simp ↓] theorem getStatus_mem (qp : Nat) (e : Entry) (s0 : State) (h : Memory.wf s0.mem = true) : Memory.wf (getStatus qp e s0).1.mem = true := by
  simp (maxDischargeDepth := 40) [getStatus, *]
@[simp ↓] theorem engineEnable_pending (qp : Nat) (e : Entry) (s : State) : (engineEnable qp e s).1.pending = s.pending := by
  unfold engineEnable; split <;> simp (maxDischargeDepth := 40) [*]
@[simp ↓] theorem engineEnable_mem (qp : Nat) (e : Entry) (s : State) (h : Memory.wf s.mem = true) : Memory.wf (engineEnable qp e s).1.mem = true := by
  unfold engineEnable; split <;> simp (maxDischargeDepth := 40) [*]
@[simp ↓] theorem engineDisable_pending (qp : Nat) (e : Entry) (s : State) : (engineDisable qp e s).1.pending = s.pending := by
  unfold engineDisable; split <;> simp (maxDischargeDepth := 40) [*]
@[simp ↓] theorem engineDisable_mem (qp : Nat) (e : Entry) (s : State) (h : Memory.wf s.mem = true) : Memory.wf (engineDisable qp e s).1.mem = true := by
  unfold engineDisable; split <;> simp (maxDischargeDepth := 40) [*]
@[simp ↓] theorem markPt_pending (x0 : Entry) (s : State) : (markPt x0 s).1.pending = s.pending := by
  simp (maxDischargeDepth := 40) [markPt]
@[simp ↓] theorem markPt_mem (x0 : Entry) (s : State) (h : Memory.wf s.mem = true) : Memory.wf (markPt x0 s).1.mem = true := by
  simp (maxDischargeDepth := 40) [markPt, *]
@[simp ↓] theorem flushQp_pending (qp : Nat) (x0 : Entry) (s : State) : (flushQp qp x0 s).1.pending = s.pending := by
  simp (maxDischargeDepth := 40) [flushQp]
@[simp ↓] theorem flushQp_mem (qp : Nat) (x0 : Entry) (s : State) (h : Memory.wf s.mem = true) : Memory.wf (flushQp qp x0 s).1.mem = true := by
  simp (maxDischargeDepth := 40) [flushQp, *]

end Sys2Proof.Laws
end

