-- ==== Sys2Proof/Laws/KeepExec.lean ====
section
/-! SUPPORT. Every command leaves the queue to the step and host memory in its canonical form: one lemma per meaning, then `exec_keeps`. -/

namespace Sys2Proof.Laws

open Sys2Proof.Machine

/-- An outcome that leaves the queue as it was and host memory in its canonical form. -/
def Keeps (s : State) : Host.Outcome State Fault Refusal → Prop
  | .next t => t.pending = s.pending ∧ (Memory.wf s.mem = true → Memory.wf t.mem = true)
  | _ => True
theorem keeps_next {s t : State} (hp : t.pending = s.pending) (hm : Memory.wf s.mem = true → Memory.wf t.mem = true) : Keeps s (.next t) := ⟨hp, hm⟩
theorem keeps_ite {s : State} {c : Prop} [Decidable c] {a b : Host.Outcome State Fault Refusal} (ha : Keeps s a) (hb : Keeps s b) :
    Keeps s (if c then a else b) := by
  split
  · exact ha
  · exact hb
theorem keeps_run_if {s : State} (c : Prop) [Decidable c] (qp opc : Nat) (act : Entry → State → State × EntrySt)
    (hp : ∀ e s, (act e s).1.pending = s.pending)
    (hm : ∀ e s, Memory.wf s.mem = true → Memory.wf (act e s).1.mem = true) : Keeps s (.next (if c then runEntry s qp opc act else s)) := by
  split
  · exact ⟨runEntry_pending s qp opc act hp, runEntry_mem s qp opc act hm⟩
  · exact ⟨rfl, id⟩
theorem keeps_run {s : State} (qp opc : Nat) (act : Entry → State → State × EntrySt) (hp : ∀ e s, (act e s).1.pending = s.pending)
    (hm : ∀ e s, Memory.wf s.mem = true → Memory.wf (act e s).1.mem = true) : Keeps s (.next (runEntry s qp opc act)) :=
  ⟨runEntry_pending s qp opc act hp, runEntry_mem s qp opc act hm⟩

theorem execSqTail_keeps (lvl : Level) (qp value : Nat) (writes : List (Nat × List Byte)) (s : State) : Keeps s (execSqTail lvl qp value writes s) := by
  unfold execSqTail
  split
  · rename_i s1 h1
    exact ⟨by simp [coreStores_pending _ _ _ h1], fun h => sqTailWrite_mem _ _ _ _ (coreStores_mem _ _ _ h1 h)⟩
  · trivial
theorem execCqHead_keeps (lvl : Level) (qp : Nat) (value : Nat) (s : State) : Keeps s (execCqHead lvl qp value s) := by
  unfold execCqHead
  refine keeps_next ?_ ?_
  · simp
  · intro h; simp (maxDischargeDepth := 40) [h]
theorem execSqFetch_keeps (qp : Nat) (ue : List Nat) (s : State) : Keeps s (execSqFetch qp ue s) := by
  unfold execSqFetch
  refine keeps_next ?_ ?_
  · simp
  · intro h; simp (maxDischargeDepth := 40) [h]
theorem execTimedStart_keeps (qp : Nat) (s : State) : Keeps s (execTimedStart qp s) := by
  unfold execTimedStart
  refine keeps_next ?_ ?_
  · simp
  · intro h; simp (maxDischargeDepth := 40) [h]
theorem execCoalTimeout_keeps (qp : Nat) (s : State) : Keeps s (execCoalTimeout qp s) := by
  unfold execCoalTimeout
  refine keeps_next ?_ ?_
  · simp
  · intro h; simp (maxDischargeDepth := 40) [h]
theorem execIrqpendClear_keeps (lvl : Level) (hi : Bool) (value : Nat) (s : State) : Keeps s (execIrqpendClear lvl hi value s) := by
  unfold execIrqpendClear
  refine keeps_next ?_ ?_
  · simp
  · intro h; simp (maxDischargeDepth := 40) [h]
theorem execQpEnable_keeps (lvl : Level) (qp : Nat) (s : State) : Keeps s (execQpEnable lvl qp s) := by
  unfold execQpEnable
  refine keeps_next ?_ ?_
  · simp
  · intro h; simp (maxDischargeDepth := 40) [h]
theorem execQpDisable_keeps (lvl : Level) (qp : Nat) (s : State) : Keeps s (execQpDisable lvl qp s) := by
  unfold execQpDisable
  refine keeps_next ?_ ?_
  · simp
  · intro h; simp (maxDischargeDepth := 40) [h]
theorem execQpIdle_keeps (qp : Nat) (s : State) : Keeps s (execQpIdle qp s) := by
  unfold execQpIdle
  refine keeps_next ?_ ?_
  · simp
  · intro h; simp (maxDischargeDepth := 40) [h]
theorem execRecordEntry_keeps (src : Nat) (code : Nat) (level : Nat) (inst : Nat) (arg0 : Nat) (arg1 : Nat) (s : State) : Keeps s (execRecordEntry src code level inst arg0 arg1 s) := by
  unfold execRecordEntry
  refine keeps_next ?_ ?_
  · simp
  · intro h; simp (maxDischargeDepth := 40) [h]
theorem execRecFlushTimer_keeps (s : State) : Keeps s (execRecFlushTimer s) := by
  unfold execRecFlushTimer
  refine keeps_next ?_ ?_
  · simp
  · intro h; simp (maxDischargeDepth := 40) [h]
theorem execRecWriteDone_keeps (s : State) : Keeps s (execRecWriteDone s) := by
  unfold execRecWriteDone
  refine keeps_next ?_ ?_
  · simp
  · intro h; simp (maxDischargeDepth := 40) [h]
theorem execTimeMark_keeps (s : State) : Keeps s (execTimeMark s) := by
  unfold execTimeMark
  refine keeps_next ?_ ?_
  · simp
  · intro h; simp (maxDischargeDepth := 40) [h]
theorem execRead_keeps (bad : List Nat) (s : State) : Keeps s (execRead bad s) := by
  unfold execRead
  exact keeps_run _ _ _ (fun e s => by simp (maxDischargeDepth := 40)) (fun e s h => by simp (maxDischargeDepth := 40) [h])
theorem execLog_keeps (s : State) : Keeps s (execLog s) := by
  unfold execLog
  exact keeps_run _ _ _ (fun e s => by simp (maxDischargeDepth := 40)) (fun e s h => by simp (maxDischargeDepth := 40) [h])
theorem execSync_keeps (s : State) : Keeps s (execSync s) := by
  unfold execSync
  exact keeps_run _ _ _ (fun e s => by simp (maxDischargeDepth := 40)) (fun e s h => by simp (maxDischargeDepth := 40) [h])
theorem execClearNonce_keeps (s : State) : Keeps s (execClearNonce s) := by
  unfold execClearNonce
  exact keeps_run _ _ _ (fun e s => by simp (maxDischargeDepth := 40)) (fun e s h => by simp (maxDischargeDepth := 40) [h])
theorem execClear_keeps (s : State) : Keeps s (execClear s) := by
  unfold execClear
  exact keeps_run _ _ _ (fun e s => by simp (maxDischargeDepth := 40)) (fun e s h => by simp (maxDischargeDepth := 40) [h])
theorem execClearNonceLapse_keeps (s : State) : Keeps s (execClearNonceLapse s) := by
  unfold execClearNonceLapse
  refine keeps_next ?_ ?_
  · simp
  · intro h; simp (maxDischargeDepth := 40) [h]
theorem execThresholdEvent_keeps (s : State) : Keeps s (execThresholdEvent s) := by
  unfold execThresholdEvent
  refine keeps_next ?_ ?_
  · simp
  · intro h; simp (maxDischargeDepth := 40) [h]
theorem execCounterWrap_keeps (s : State) : Keeps s (execCounterWrap s) := by
  unfold execCounterWrap
  refine keeps_next ?_ ?_
  · simp
  · intro h; simp (maxDischargeDepth := 40) [h]
theorem execPeriodicSnapshot_keeps (s : State) : Keeps s (execPeriodicSnapshot s) := by
  unfold execPeriodicSnapshot
  refine keeps_next ?_ ?_
  · simp
  · intro h; simp (maxDischargeDepth := 40) [h]
theorem execSnap_keeps (s : State) : Keeps s (execSnap s) := by
  unfold execSnap
  exact keeps_run _ _ _ (fun e s => by simp (maxDischargeDepth := 40)) (fun e s h => by simp (maxDischargeDepth := 40) [h])
theorem execPepperForcedDisarm_keeps (s : State) : Keeps s (execPepperForcedDisarm s) := by
  unfold execPepperForcedDisarm
  refine keeps_next ?_ ?_
  · simp
  · intro h; simp (maxDischargeDepth := 40) [h]
theorem execPepperDurExpiry_keeps (k : Nat) (s : State) : Keeps s (execPepperDurExpiry k s) := by
  unfold execPepperDurExpiry
  refine keeps_next ?_ ?_
  · simp
  · intro h; simp (maxDischargeDepth := 40) [h]
theorem execArm_keeps (k : Nat) (snum : Nat) (lead : Nat) (fromX3 : Bool) (chk : FrameChk) (s : State) : Keeps s (execArm k snum lead fromX3 chk s) := by
  unfold execArm
  refine keeps_next ?_ ?_
  · simp
  · intro h; simp (maxDischargeDepth := 40) [h]
theorem execStrobe_keeps (k : Nat) (si : StrobeIn) (s : State) : Keeps s (execStrobe k si s) := by
  unfold execStrobe
  refine keeps_next ?_ ?_
  · simp
  · intro h; simp (maxDischargeDepth := 40) [h]
theorem execDlyMark_keeps (k : Nat) (m : Nat) (chk : FrameChk) (s : State) : Keeps s (execDlyMark k m chk s) := by
  unfold execDlyMark
  refine keeps_next ?_ ?_
  · simp
  · intro h; simp (maxDischargeDepth := 40) [h]
theorem execDlySet_keeps (k : Nat) (x2 : Nat) (x3 : Nat) (align : Nat) (chk : FrameChk) (s : State) : Keeps s (execDlySet k x2 x3 align chk s) := by
  unfold execDlySet
  refine keeps_next ?_ ?_
  · simp
  · intro h; simp (maxDischargeDepth := 40) [h]
theorem execSafeWr_keeps (k : Nat) (ov : Nat) (uv : Nat) (filt : Nat) (srcSp : Bool) (chk : FrameChk) (s : State) : Keeps s (execSafeWr k ov uv filt srcSp chk s) := by
  unfold execSafeWr
  refine keeps_next ?_ ?_
  · simp
  · intro h; simp (maxDischargeDepth := 40) [h]
theorem execSafeRd_keeps (k : Nat) (chk : FrameChk) (s : State) : Keeps s (execSafeRd k chk s) := by
  unfold execSafeRd
  refine keeps_next ?_ ?_
  · simp
  · intro h; simp (maxDischargeDepth := 40) [h]
theorem execRearm_keeps (k : Nat) (srcSp : Bool) (chk : FrameChk) (s : State) : Keeps s (execRearm k srcSp chk s) := by
  unfold execRearm
  refine keeps_next ?_ ?_
  · simp
  · intro h; simp (maxDischargeDepth := 40) [h]
theorem execArmSafe_keeps (k : Nat) (srcSp : Bool) (chk : FrameChk) (s : State) : Keeps s (execArmSafe k srcSp chk s) := by
  unfold execArmSafe
  refine keeps_next ?_ ?_
  · simp
  · intro h; simp (maxDischargeDepth := 40) [h]
theorem execSleep_keeps (k : Nat) (chk : FrameChk) (s : State) : Keeps s (execSleep k chk s) := by
  unfold execSleep
  refine keeps_next ?_ ?_
  · simp
  · intro h; simp (maxDischargeDepth := 40) [h]
theorem execTileSilenceTimeout_keeps (k : Nat) (s : State) : Keeps s (execTileSilenceTimeout k s) := by
  unfold execTileSilenceTimeout
  refine keeps_next ?_ ?_
  · simp
  · intro h; simp (maxDischargeDepth := 40) [h]
theorem execTileClockLock_keeps (k : Nat) (onX3 : Bool) (ok : Bool) (s : State) : Keeps s (execTileClockLock k onX3 ok s) := by
  unfold execTileClockLock
  refine keeps_next ?_ ?_
  · simp
  · intro h; simp (maxDischargeDepth := 40) [h]
theorem execStackLow_keeps (k : Nat) (s : State) : Keeps s (execStackLow k s) := by
  unfold execStackLow
  refine keeps_next ?_ ?_
  · simp
  · intro h; simp (maxDischargeDepth := 40) [h]
theorem execStackRestored_keeps (k : Nat) (s : State) : Keeps s (execStackRestored k s) := by
  unfold execStackRestored
  refine keeps_next ?_ ?_
  · simp
  · intro h; simp (maxDischargeDepth := 40) [h]
theorem execTileStackReset_keeps (k : Nat) (s : State) : Keeps s (execTileStackReset k s) := by
  unfold execTileStackReset
  refine keeps_next ?_ ?_
  · simp
  · intro h; simp (maxDischargeDepth := 40) [h]
theorem execComparatorTrip_keeps (k : Nat) (cell : Nat) (ov : Bool) (v : Int) (s : State) : Keeps s (execComparatorTrip k cell ov v s) := by
  unfold execComparatorTrip
  dsimp only
  (repeat' split) <;> exact keeps_next (by simp) fun h => by simp (maxDischargeDepth := 40) [h]
theorem execComparatorSelfTest_keeps (k : Nat) (tripUs : Option Nat) (standInUs : Option Nat) (s : State) : Keeps s (execComparatorSelfTest k tripUs standInUs s) := by
  unfold execComparatorSelfTest
  dsimp only
  (repeat' split) <;> exact keeps_next (by simp) fun h => by simp (maxDischargeDepth := 40) [h]
theorem execOpenWireTest_keeps (s : State) : Keeps s (execOpenWireTest s) := by
  unfold execOpenWireTest
  refine keeps_next ?_ ?_
  · simp
  · intro h; simp (maxDischargeDepth := 40) [h]
theorem execBleedTimerExpiry_keeps (k : Nat) (cell : Nat) (s : State) : Keeps s (execBleedTimerExpiry k cell s) := by
  unfold execBleedTimerExpiry
  refine keeps_next ?_ ?_
  · simp
  · intro h; simp (maxDischargeDepth := 40) [h]
theorem execBleedPowerTick_keeps (k : Nat) (s : State) : Keeps s (execBleedPowerTick k s) := by
  unfold execBleedPowerTick
  dsimp only
  (repeat' split) <;> exact keeps_next (by simp) fun h => by simp (maxDischargeDepth := 40) [h]
theorem execBleedSilence_keeps (k : Nat) (s : State) : Keeps s (execBleedSilence k s) := by
  unfold execBleedSilence
  dsimp only
  (repeat' split) <;> exact keeps_next (by simp) fun h => by simp (maxDischargeDepth := 40) [h]
theorem execPauseFetsOff_keeps (k : Nat) (s : State) : Keeps s (execPauseFetsOff k s) := by
  unfold execPauseFetsOff
  refine keeps_next ?_ ?_
  · simp
  · intro h; simp (maxDischargeDepth := 40) [h]
theorem execPauseFetsOn_keeps (k : Nat) (s : State) : Keeps s (execPauseFetsOn k s) := by
  unfold execPauseFetsOn
  refine keeps_next ?_ ?_
  · simp
  · intro h; simp (maxDischargeDepth := 40) [h]
theorem execSweepRd_keeps (k : Nat) (sinceNs : Nat) (fate : SlotFate) (s : State) : Keeps s (execSweepRd k sinceNs fate s) := by
  unfold execSweepRd
  refine keeps_next ?_ ?_
  · simp
  · intro h; simp (maxDischargeDepth := 40) [h]
theorem execHoldRd_keeps (k : Nat) (sinceNs : Nat) (fate : SlotFate) (s : State) : Keeps s (execHoldRd k sinceNs fate s) := by
  unfold execHoldRd
  refine keeps_next ?_ ?_
  · simp
  · intro h; simp (maxDischargeDepth := 40) [h]
theorem execTregRd_keeps (k : Nat) (reg : Nat) (chk : FrameChk) (s : State) : Keeps s (execTregRd k reg chk s) := by
  unfold execTregRd
  refine keeps_next ?_ ?_
  · simp
  · intro h; simp (maxDischargeDepth := 40) [h]
theorem execTregWr_keeps (k : Nat) (ws : List (Nat × Nat)) (chk : FrameChk) (s : State) : Keeps s (execTregWr k ws chk s) := by
  unfold execTregWr
  (repeat' split) <;> exact keeps_next (by simp) fun h => by simp (maxDischargeDepth := 40) [h]
theorem execProbeFrame_keeps (k : Nat) (portB : Bool) (chk : FrameChk) (s : State) : Keeps s (execProbeFrame k portB chk s) := by
  unfold execProbeFrame
  dsimp only
  (repeat' split) <;> exact keeps_next (by simp) fun h => by simp (maxDischargeDepth := 40) [h]
theorem execTileWake_keeps (k : Nat) (fresh : Option TileTrim) (stack : Nat) (s : State) : Keeps s (execTileWake k fresh stack s) := by
  unfold execTileWake
  (repeat' split) <;> exact keeps_next (by simp) fun h => by simp (maxDischargeDepth := 40) [h]
theorem execSyncLoss_keeps (node : Nat) (x3 : Bool) (codes : Nat) (s : State) : Keeps s (execSyncLoss node x3 codes s) := by
  unfold execSyncLoss
  (repeat' split) <;> exact keeps_next (by simp) fun h => by simp (maxDischargeDepth := 40) [h]
theorem execLoopModeExit_keeps (k : Nat) (x3 : Bool) (s : State) : Keeps s (execLoopModeExit k x3 s) := by
  unfold execLoopModeExit
  refine keeps_next ?_ ?_
  · simp
  · intro h; simp (maxDischargeDepth := 40) [h]
theorem execLinkDown_keeps (portB : Bool) (pos : Nat) (lostX3 : Bool) (s : State) : Keeps s (execLinkDown portB pos lostX3 s) := by
  unfold execLinkDown
  (repeat' split) <;> exact keeps_next (by simp) fun h => by simp (maxDischargeDepth := 40) [h]
theorem execReadIncomplete_keeps (sinceNs : Nat) (s : State) : Keeps s (execReadIncomplete sinceNs s) := by
  unfold execReadIncomplete
  refine keeps_next ?_ ?_
  · simp
  · intro h; simp (maxDischargeDepth := 40) [h]
theorem execProbeReturn_keeps (s : State) : Keeps s (execProbeReturn s) := by
  unfold execProbeReturn
  (repeat' split) <;> exact keeps_next (by simp) fun h => by simp (maxDischargeDepth := 40) [h]
theorem execRingClose_keeps (tAB : Nat) (tBA : Nat) (marks : List (Option Nat)) (s : State) : Keeps s (execRingClose tAB tBA marks s) := by
  unfold execRingClose
  (repeat' split) <;> exact keeps_next (by simp) fun h => by simp (maxDischargeDepth := 40) [h]
theorem execDelayRemeasure_keeps (tAB : Nat) (tBA : Nat) (marks : List (Option Nat)) (s : State) : Keeps s (execDelayRemeasure tAB tBA marks s) := by
  unfold execDelayRemeasure
  refine keeps_next ?_ ?_
  · simp
  · intro h; simp (maxDischargeDepth := 40) [h]
theorem execTileRd_keeps (s : State) : Keeps s (execTileRd s) := by
  unfold execTileRd
  exact keeps_run _ _ _ (fun e s => by simp (maxDischargeDepth := 40)) (fun e s h => by simp (maxDischargeDepth := 40) [h])
theorem execProbe_keeps (s : State) : Keeps s (execProbe s) := by
  unfold execProbe
  exact keeps_run _ _ _ (fun e s => by simp (maxDischargeDepth := 40)) (fun e s h => by simp (maxDischargeDepth := 40) [h])
theorem execDlyMeasure_keeps (tAB : Nat) (tBA : Nat) (marks : List (Option Nat)) (s : State) : Keeps s (execDlyMeasure tAB tBA marks s) := by
  unfold execDlyMeasure
  exact keeps_run _ _ _ (fun e s => by simp (maxDischargeDepth := 40)) (fun e s h => by simp (maxDischargeDepth := 40) [h])
theorem execTileSnap_keeps (s : State) : Keeps s (execTileSnap s) := by
  unfold execTileSnap
  exact keeps_run _ _ _ (fun e s => by simp (maxDischargeDepth := 40)) (fun e s h => by simp (maxDischargeDepth := 40) [h])
theorem execTableCommit_keeps (s : State) : Keeps s (execTableCommit s) := by
  unfold execTableCommit
  exact keeps_run _ _ _ (fun e s => by simp (maxDischargeDepth := 40)) (fun e s h => by simp (maxDischargeDepth := 40) [h])
theorem execRevert_keeps (s : State) : Keeps s (execRevert s) := by
  unfold execRevert
  exact keeps_run _ _ _ (fun e s => by simp (maxDischargeDepth := 40)) (fun e s h => by simp (maxDischargeDepth := 40) [h])
theorem execQuarterLoad_keeps (qp : Nat) (s : State) : Keeps s (execQuarterLoad qp s) := by
  unfold execQuarterLoad
  exact keeps_run_if _ _ _ _ (fun e s => by simp (maxDischargeDepth := 40)) (fun e s h => by simp (maxDischargeDepth := 40) [h])
theorem execHvmReport_keeps (means : HvmIn) (iMinNv : Int) (iMaxNv : Int) (s : State) : Keeps s (execHvmReport means iMinNv iMaxNv s) := by
  unfold execHvmReport
  (repeat' split) <;> exact keeps_next (by simp) fun h => by simp (maxDischargeDepth := 40) [h]
theorem execInsulationPhaseEnd_keeps (vc : Int) (u100 : Int) (moved : Int) (uMin : Int) (s : State) : Keeps s (execInsulationPhaseEnd vc u100 moved uMin s) := by
  unfold execInsulationPhaseEnd
  refine keeps_next ?_ ?_
  · simp
  · intro h; simp (maxDischargeDepth := 40) [h]
theorem execInsulationCycleEnd_keeps (s : State) : Keeps s (execInsulationCycleEnd s) := by
  unfold execInsulationCycleEnd
  refine keeps_next ?_ ?_
  · simp
  · intro h; simp (maxDischargeDepth := 40) [h]
theorem execInsulationSlotStart_keeps (s : State) : Keeps s (execInsulationSlotStart s) := by
  unfold execInsulationSlotStart
  dsimp only
  (repeat' split) <;> exact keeps_next (by simp) fun h => by simp (maxDischargeDepth := 40) [h]
theorem execShuntOverRange_keeps (overN : Nat) (s : State) : Keeps s (execShuntOverRange overN s) := by
  unfold execShuntOverRange
  refine keeps_next ?_ ?_
  · simp
  · intro h; simp (maxDischargeDepth := 40) [h]
theorem execShuntCommonModeFault_keeps (s : State) : Keeps s (execShuntCommonModeFault s) := by
  unfold execShuntCommonModeFault
  refine keeps_next ?_ ?_
  · simp
  · intro h; simp (maxDischargeDepth := 40) [h]
theorem execHallFault_keeps (hallSig : Int) (hallRef : Int) (s : State) : Keeps s (execHallFault hallSig hallRef s) := by
  unfold execHallFault
  (repeat' split) <;> exact keeps_next (by simp) fun h => by simp (maxDischargeDepth := 40) [h]
theorem execSetTimers_keeps (s : State) : Keeps s (execSetTimers s) := by
  unfold execSetTimers
  exact keeps_run _ _ _ (fun e s => by simp (maxDischargeDepth := 40)) (fun e s h => by simp (maxDischargeDepth := 40) [h])
theorem execBleedStop_keeps (s : State) : Keeps s (execBleedStop s) := by
  unfold execBleedStop
  exact keeps_run _ _ _ (fun e s => by simp (maxDischargeDepth := 40)) (fun e s h => by simp (maxDischargeDepth := 40) [h])
theorem execBalSnap_keeps (s : State) : Keeps s (execBalSnap s) := by
  unfold execBalSnap
  exact keeps_run _ _ _ (fun e s => by simp (maxDischargeDepth := 40)) (fun e s h => by simp (maxDischargeDepth := 40) [h])
theorem execTapCal_keeps (iMa : Int) (s : State) : Keeps s (execTapCal iMa s) := by
  unfold execTapCal
  exact keeps_run _ _ _ (fun e s => by simp (maxDischargeDepth := 40)) (fun e s h => by simp (maxDischargeDepth := 40) [h])
theorem execTapCalDone_keeps (iMax : Nat) (vMin : Nat) (vMax : Nat) (steps : List (List CalStep)) (tcals : List Nat) (s : State) : Keeps s (execTapCalDone iMax vMin vMax steps tcals s) := by
  unfold execTapCalDone
  refine keeps_next ?_ ?_
  · simp
  · intro h; simp (maxDischargeDepth := 40) [h]
theorem execBalRound_keeps (elapsedS : Nat) (s : State) : Keeps s (execBalRound elapsedS s) := by
  unfold execBalRound
  refine keeps_next ?_ ?_
  · simp
  · intro h; simp (maxDischargeDepth := 40) [h]
theorem execEstCycle_keeps (s : State) : Keeps s (execEstCycle s) := by
  unfold execEstCycle
  refine keeps_next ?_ ?_
  · simp
  · intro h; simp (maxDischargeDepth := 40) [h]
theorem execAgeWaitExpiry_keeps (s : State) : Keeps s (execAgeWaitExpiry s) := by
  unfold execAgeWaitExpiry
  refine keeps_next ?_ ?_
  · simp
  · intro h; simp (maxDischargeDepth := 40) [h]
theorem execNoEisTimeout_keeps (c : Nat) (s : State) : Keeps s (execNoEisTimeout c s) := by
  unfold execNoEisTimeout
  refine keeps_next ?_ ?_
  · simp
  · intro h; simp (maxDischargeDepth := 40) [h]
theorem execStaleTimeout_keeps (c : Nat) (s : State) : Keeps s (execStaleTimeout c s) := by
  unfold execStaleTimeout
  refine keeps_next ?_ ?_
  · simp
  · intro h; simp (maxDischargeDepth := 40) [h]
theorem execSnapshotTimer_keeps (s : State) : Keeps s (execSnapshotTimer s) := by
  unfold execSnapshotTimer
  refine keeps_next ?_ ?_
  · simp
  · intro h; simp (maxDischargeDepth := 40) [h]
theorem execChemCommit_keeps (s : State) : Keeps s (execChemCommit s) := by
  unfold execChemCommit
  exact keeps_run _ _ _ (fun e s => by simp (maxDischargeDepth := 40)) (fun e s h => by simp (maxDischargeDepth := 40) [h])
theorem execCellReset_keeps (s : State) : Keeps s (execCellReset s) := by
  unfold execCellReset
  exact keeps_run _ _ _ (fun e s => by simp (maxDischargeDepth := 40)) (fun e s h => by simp (maxDischargeDepth := 40) [h])
theorem execSnapshot_keeps (s : State) : Keeps s (execSnapshot s) := by
  unfold execSnapshot
  exact keeps_run _ _ _ (fun e s => by simp (maxDischargeDepth := 40)) (fun e s h => by simp (maxDischargeDepth := 40) [h])
theorem execSegmentEnd_keeps (s : State) : Keeps s (execSegmentEnd s) := by
  unfold execSegmentEnd
  refine keeps_next ?_ ?_
  · simp
  · intro h; simp (maxDischargeDepth := 40) [h]
theorem execIntegrationEnd_keeps (s : State) : Keeps s (execIntegrationEnd s) := by
  unfold execIntegrationEnd
  refine keeps_next ?_ ?_
  · simp
  · intro h; simp (maxDischargeDepth := 40) [h]
theorem execHoldTimeout_keeps (s : State) : Keeps s (execHoldTimeout s) := by
  unfold execHoldTimeout
  refine keeps_next ?_ ?_
  · simp
  · intro h; simp (maxDischargeDepth := 40) [h]
theorem execPlanCommit_keeps (s : State) : Keeps s (execPlanCommit s) := by
  unfold execPlanCommit
  exact keeps_run _ _ _ (fun e s => by simp (maxDischargeDepth := 40)) (fun e s h => by simp (maxDischargeDepth := 40) [h])
theorem execEisHistoryTimer_keeps (s : State) : Keeps s (execEisHistoryTimer s) := by
  unfold execEisHistoryTimer
  refine keeps_next ?_ ?_
  · simp
  · intro h; simp (maxDischargeDepth := 40) [h]
theorem execScheduleBoundary_keeps (s : State) : Keeps s (execScheduleBoundary s) := by
  unfold execScheduleBoundary
  refine keeps_next ?_ ?_
  · simp
  · intro h; simp (maxDischargeDepth := 40) [h]
theorem execCarrierStop_keeps (s : State) : Keeps s (execCarrierStop s) := by
  unfold execCarrierStop
  refine keeps_next ?_ ?_
  · simp
  · intro h; simp (maxDischargeDepth := 40) [h]
theorem execCarrierRestart_keeps (s : State) : Keeps s (execCarrierRestart s) := by
  unfold execCarrierRestart
  refine keeps_next ?_ ?_
  · simp
  · intro h; simp (maxDischargeDepth := 40) [h]
theorem execCarrierPeriodChange_keeps (s : State) : Keeps s (execCarrierPeriodChange s) := by
  unfold execCarrierPeriodChange
  refine keeps_next ?_ ?_
  · simp
  · intro h; simp (maxDischargeDepth := 40) [h]
theorem execHeaterDwellEnd_keeps (s : State) : Keeps s (execHeaterDwellEnd s) := by
  unfold execHeaterDwellEnd
  refine keeps_next ?_ ?_
  · simp
  · intro h; simp (maxDischargeDepth := 40) [h]
theorem execActFault_keeps (a : Nat) (s : State) : Keeps s (execActFault a s) := by
  unfold execActFault
  (repeat' split) <;> exact keeps_next (by simp) fun h => by simp (maxDischargeDepth := 40) [h]
theorem execLc0Cycle_keeps (x : Lc0In) (s : State) : Keeps s (execLc0Cycle x s) := by
  unfold execLc0Cycle
  refine keeps_next ?_ ?_
  · simp
  · intro h; simp (maxDischargeDepth := 40) [h]
theorem execFastCycle_keeps (x : CtrlIn) (s : State) : Keeps s (execFastCycle x s) := by
  unfold execFastCycle
  refine keeps_next ?_ ?_
  · simp
  · intro h; simp (maxDischargeDepth := 40) [h]
theorem execSlowCycle_keeps (x : CtrlIn) (dtNs : Nat) (s : State) : Keeps s (execSlowCycle x dtNs s) := by
  unfold execSlowCycle
  refine keeps_next ?_ ?_
  · simp
  · intro h; simp (maxDischargeDepth := 40) [h]
theorem execDwellEnd_keeps (n : Nat) (s : State) : Keeps s (execDwellEnd n s) := by
  unfold execDwellEnd
  refine keeps_next ?_ ?_
  · simp
  · intro h; simp (maxDischargeDepth := 40) [h]
theorem execSupervisionCheck_keeps (x : CtrlIn) (iHall : Int) (s : State) : Keeps s (execSupervisionCheck x iHall s) := by
  unfold execSupervisionCheck
  refine keeps_next ?_ ?_
  · simp
  · intro h; simp (maxDischargeDepth := 40) [h]
theorem execStoppingTimeout_keeps (n : Nat) (s : State) : Keeps s (execStoppingTimeout n s) := by
  unfold execStoppingTimeout
  refine keeps_next ?_ ?_
  · simp
  · intro h; simp (maxDischargeDepth := 40) [h]
theorem execPsFault_keeps (low : Bool) (s : State) : Keeps s (execPsFault low s) := by
  unfold execPsFault
  refine keeps_next ?_ ?_
  · simp
  · intro h; simp (maxDischargeDepth := 40) [h]
theorem execStop_keeps (qp : Nat) (s : State) : Keeps s (execStop qp s) := by
  unfold execStop
  exact keeps_run_if _ _ _ _ (fun e s => by simp (maxDischargeDepth := 40)) (fun e s h => by simp (maxDischargeDepth := 40) [h])
theorem execSetRef_keeps (qp : Nat) (s : State) : Keeps s (execSetRef qp s) := by
  unfold execSetRef
  exact keeps_run_if _ _ _ _ (fun e s => by simp (maxDischargeDepth := 40)) (fun e s h => by simp (maxDischargeDepth := 40) [h])
theorem execSetDispatch_keeps (qp : Nat) (s : State) : Keeps s (execSetDispatch qp s) := by
  unfold execSetDispatch
  exact keeps_run_if _ _ _ _ (fun e s => by simp (maxDischargeDepth := 40)) (fun e s h => by simp (maxDischargeDepth := 40) [h])
theorem execDispatchExpiry_keeps (s : State) : Keeps s (execDispatchExpiry s) := by
  unfold execDispatchExpiry
  refine keeps_next ?_ ?_
  · simp
  · intro h; simp (maxDischargeDepth := 40) [h]
theorem execPowerRequest_keeps (sender : Nat) (req : List Byte) (s : State) : Keeps s (execPowerRequest sender req s) := by
  unfold execPowerRequest
  refine keeps_next ?_ ?_
  · simp
  · intro h; simp (maxDischargeDepth := 40) [h]
theorem execCarrierValley_keeps (leg : Nat) (ready : Bool) (s : State) : Keeps s (execCarrierValley leg ready s) := by
  unfold execCarrierValley
  refine keeps_next ?_ ?_
  · simp
  · intro h; simp (maxDischargeDepth := 40) [h]
theorem execSopEvaluation_keeps (s : State) : Keeps s (execSopEvaluation s) := by
  unfold execSopEvaluation
  refine keeps_next ?_ ?_
  · simp
  · intro h; simp (maxDischargeDepth := 40) [h]
theorem execHousekeepingRound_keeps (tin : ThermIn) (s : State) : Keeps s (execHousekeepingRound tin s) := by
  unfold execHousekeepingRound
  refine keeps_next ?_ ?_
  · simp
  · intro h; simp (maxDischargeDepth := 40) [h]
theorem execFastRound_keeps (tin : ThermIn) (s : State) : Keeps s (execFastRound tin s) := by
  unfold execFastRound
  refine keeps_next ?_ ?_
  · simp
  · intro h; simp (maxDischargeDepth := 40) [h]
theorem execTransmitAttempt_keeps (n : Nat) (s : State) : Keeps s (execTransmitAttempt n s) := by
  unfold execTransmitAttempt
  refine keeps_next ?_ ?_
  · simp
  · intro h; simp (maxDischargeDepth := 40) [h]
theorem execTxSet_keeps (qp : Nat) (s : State) : Keeps s (execTxSet qp s) := by
  unfold execTxSet
  exact keeps_run_if _ _ _ _ (fun e s => by simp (maxDischargeDepth := 40)) (fun e s h => by simp (maxDischargeDepth := 40) [h])
theorem execTxCancel_keeps (qp : Nat) (s : State) : Keeps s (execTxCancel qp s) := by
  unfold execTxCancel
  exact keeps_run_if _ _ _ _ (fun e s => by simp (maxDischargeDepth := 40)) (fun e s h => by simp (maxDischargeDepth := 40) [h])
theorem execRecover_keeps (qp : Nat) (s : State) : Keeps s (execRecover qp s) := by
  unfold execRecover
  exact keeps_run_if _ _ _ _ (fun e s => by simp (maxDischargeDepth := 40)) (fun e s h => by simp (maxDischargeDepth := 40) [h])
theorem execBusOffHoldExpiry_keeps (n : Nat) (s : State) : Keeps s (execBusOffHoldExpiry n s) := by
  unfold execBusOffHoldExpiry
  refine keeps_next ?_ ?_
  · simp
  · intro h; simp (maxDischargeDepth := 40) [h]
theorem execBusOffRecoveryEnd_keeps (n : Nat) (s : State) : Keeps s (execBusOffRecoveryEnd n s) := by
  unfold execBusOffRecoveryEnd
  refine keeps_next ?_ ?_
  · simp
  · intro h; simp (maxDischargeDepth := 40) [h]
theorem execCanReceiveError_keeps (n : Nat) (r : CanRxErr) (s : State) : Keeps s (execCanReceiveError n r s) := by
  unfold execCanReceiveError
  refine keeps_next ?_ ?_
  · (repeat' split) <;> simp [*]
  · intro h; (repeat' split) <;> simp (maxDischargeDepth := 40) [*]
theorem execBusIntegrationEnd_keeps (n : Nat) (s : State) : Keeps s (execBusIntegrationEnd n s) := by
  unfold execBusIntegrationEnd
  refine keeps_next ?_ ?_
  · simp
  · intro h; simp (maxDischargeDepth := 40) [h]
theorem execSafeReady_keeps (s : State) : Keeps s (execSafeReady s) := by
  unfold execSafeReady
  refine keeps_next ?_ ?_
  · simp
  · intro h; simp (maxDischargeDepth := 40) [h]
theorem execFogAssert_keeps (loopOpen : Bool) (s : State) : Keeps s (execFogAssert loopOpen s) := by
  unfold execFogAssert
  refine keeps_next ?_ ?_
  · simp
  · intro h; simp (maxDischargeDepth := 40) [h]
theorem execFogDeassert_keeps (s : State) : Keeps s (execFogDeassert s) := by
  unfold execFogDeassert
  refine keeps_next ?_ ?_
  · simp
  · intro h; simp (maxDischargeDepth := 40) [h]
theorem execSpEvaluation_keeps (s : State) : Keeps s (execSpEvaluation s) := by
  unfold execSpEvaluation
  refine keeps_next ?_ ?_
  · simp
  · intro h; simp (maxDischargeDepth := 40) [h]
theorem execSetCrcCheck_keeps (flips : List (Nat × Nat)) (s : State) : Keeps s (execSetCrcCheck flips s) := by
  unfold execSetCrcCheck
  refine keeps_next ?_ ?_
  · simp
  · intro h; simp (maxDischargeDepth := 40) [h]
theorem execSiChannelChange_keeps (n : Nat) (chB : Bool) (on : Bool) (s : State) : Keeps s (execSiChannelChange n chB on s) := by
  unfold execSiChannelChange
  refine keeps_next ?_ ?_
  · simp
  · intro h; simp (maxDischargeDepth := 40) [h]
theorem execDiscrepancyTimeout_keeps (n : Nat) (s : State) : Keeps s (execDiscrepancyTimeout n s) := by
  unfold execDiscrepancyTimeout
  refine keeps_next ?_ ?_
  · simp
  · intro h; simp (maxDischargeDepth := 40) [h]
theorem execInputTestPulse_keeps (tpb : Bool) (reads : Nat) (s : State) : Keeps s (execInputTestPulse tpb reads s) := by
  unfold execInputTestPulse
  refine keeps_next ?_ ?_
  · simp
  · intro h; simp (maxDischargeDepth := 40) [h]
theorem execOutputSwitchOn_keeps (n : Nat) (s : State) : Keeps s (execOutputSwitchOn n s) := by
  unfold execOutputSwitchOn
  refine keeps_next ?_ ?_
  · simp
  · intro h; simp (maxDischargeDepth := 40) [h]
theorem execHighSideOn_keeps (n : Nat) (s : State) : Keeps s (execHighSideOn n s) := by
  unfold execHighSideOn
  refine keeps_next ?_ ?_
  · simp
  · intro h; simp (maxDischargeDepth := 40) [h]
theorem execOutputSwitchOff_keeps (n : Nat) (s : State) : Keeps s (execOutputSwitchOff n s) := by
  unfold execOutputSwitchOff
  refine keeps_next ?_ ?_
  · simp
  · intro h; simp (maxDischargeDepth := 40) [h]
theorem execOffStateCheck_keeps (pins : List SoPins) (coilMv : Int) (s : State) : Keeps s (execOffStateCheck pins coilMv s) := by
  unfold execOffStateCheck
  refine keeps_next ?_ ?_
  · simp
  · intro h; simp (maxDischargeDepth := 40) [h]
theorem execOvercurr_keeps (n : Nat) (s : State) : Keeps s (execOvercurr n s) := by
  unfold execOvercurr
  refine keeps_next ?_ ?_
  · simp
  · intro h; simp (maxDischargeDepth := 40) [h]
theorem execTestPulseSlot_keeps (j : Nat) (young : Bool) (s : State) : Keeps s (execTestPulseSlot j young s) := by
  unfold execTestPulseSlot
  refine keeps_next ?_ ?_
  · simp
  · intro h; simp (maxDischargeDepth := 40) [h]
theorem execTestPulseEvaluate_keeps (ma : Nat) (pinMv : Int) (coilMv : Int) (s : State) : Keeps s (execTestPulseEvaluate ma pinMv coilMv s) := by
  unfold execTestPulseEvaluate
  refine keeps_next ?_ ?_
  · simp
  · intro h; simp (maxDischargeDepth := 40) [h]
theorem execTestPulseEnd_keeps (conducts : Bool) (late : Bool) (s : State) : Keeps s (execTestPulseEnd conducts late s) := by
  unfold execTestPulseEnd
  refine keeps_next ?_ ?_
  · simp
  · intro h; simp (maxDischargeDepth := 40) [h]
theorem execTestOverdue_keeps (n : Nat) (s : State) : Keeps s (execTestOverdue n s) := by
  unfold execTestOverdue
  refine keeps_next ?_ ?_
  · simp
  · intro h; simp (maxDischargeDepth := 40) [h]
theorem execRstInRise_keeps (s : State) : Keeps s (execRstInRise s) := by
  unfold execRstInRise
  refine keeps_next ?_ ?_
  · simp
  · intro h; simp (maxDischargeDepth := 40) [h]
theorem execRstInFall_keeps (ticks : Nat) (s : State) : Keeps s (execRstInFall ticks s) := by
  unfold execRstInFall
  refine keeps_next ?_ ?_
  · simp
  · intro h; simp (maxDischargeDepth := 40) [h]
theorem execResetHighDiscard_keeps (stl : Bool) (s : State) : Keeps s (execResetHighDiscard stl s) := by
  unfold execResetHighDiscard
  refine keeps_next ?_ ?_
  · simp
  · intro h; simp (maxDischargeDepth := 40) [h]
theorem execRearmComplete_keeps (s : State) : Keeps s (execRearmComplete s) := by
  unfold execRearmComplete
  refine keeps_next ?_ ?_
  · (repeat' split) <;> simp [*]
  · intro h; (repeat' split) <;> simp (maxDischargeDepth := 40) [*]
theorem execRearmTimeout_keeps (s : State) : Keeps s (execRearmTimeout s) := by
  unfold execRearmTimeout
  refine keeps_next ?_ ?_
  · (repeat' split) <;> simp [*]
  · intro h; (repeat' split) <;> simp (maxDischargeDepth := 40) [*]
theorem execPrechargeStart_keeps (s : State) : Keeps s (execPrechargeStart s) := by
  unfold execPrechargeStart
  refine keeps_next ?_ ?_
  · simp
  · intro h; simp (maxDischargeDepth := 40) [h]
theorem execPrechargeSettled_keeps (s : State) : Keeps s (execPrechargeSettled s) := by
  unfold execPrechargeSettled
  refine keeps_next ?_ ?_
  · simp
  · intro h; simp (maxDischargeDepth := 40) [h]
theorem execPrechargeTimeout_keeps (s : State) : Keeps s (execPrechargeTimeout s) := by
  unfold execPrechargeTimeout
  refine keeps_next ?_ ?_
  · simp
  · intro h; simp (maxDischargeDepth := 40) [h]
theorem execPrechargeOverlapEnd_keeps (s : State) : Keeps s (execPrechargeOverlapEnd s) := by
  unfold execPrechargeOverlapEnd
  refine keeps_next ?_ ?_
  · simp
  · intro h; simp (maxDischargeDepth := 40) [h]
theorem execStartRequestOff_keeps (s : State) : Keeps s (execStartRequestOff s) := by
  unfold execStartRequestOff
  refine keeps_next ?_ ?_
  · simp
  · intro h; simp (maxDischargeDepth := 40) [h]
theorem execLoad_keeps (sess : Nat) (ofs : Nat) (data : List Byte) (s : State) : Keeps s (execLoad sess ofs data s) := by
  unfold execLoad
  refine keeps_next ?_ ?_
  · simp
  · intro h; simp (maxDischargeDepth := 40) [h]
theorem execLoadEnd_keeps (sess : Nat) (s : State) : Keeps s (execLoadEnd sess s) := by
  unfold execLoadEnd
  refine keeps_next ?_ ?_
  · simp
  · intro h; simp (maxDischargeDepth := 40) [h]
theorem execConfirm_keeps (sess : Nat) (value : Nat) (oper : Nat) (s : State) : Keeps s (execConfirm sess value oper s) := by
  unfold execConfirm
  refine keeps_next ?_ ?_
  · simp
  · intro h; simp (maxDischargeDepth := 40) [h]
theorem execRepair_keeps (sess : Nat) (confirmed : Option Nat) (oper : Nat) (s : State) : Keeps s (execRepair sess confirmed oper s) := by
  unfold execRepair
  refine keeps_next ?_ ?_
  · simp
  · intro h; simp (maxDischargeDepth := 40) [h]
theorem execCyclicSend_keeps (n : Nat) (s : State) : Keeps s (execCyclicSend n s) := by
  unfold execCyclicSend
  refine keeps_next ?_ ?_
  · simp
  · intro h; simp (maxDischargeDepth := 40) [h]
theorem execCyclic_keeps (medium : Nat) (src : Nat) (pdu : List Byte) (s : State) : Keeps s (execCyclic medium src pdu s) := by
  unfold execCyclic
  refine keeps_next ?_ ?_
  · simp
  · intro h; simp (maxDischargeDepth := 40) [h]
theorem execResetRise_keeps (medium : Nat) (src : Nat) (pdu : List Byte) (s : State) : Keeps s (execResetRise medium src pdu s) := by
  unfold execResetRise
  refine keeps_next ?_ ?_
  · simp
  · intro h; simp (maxDischargeDepth := 40) [h]
theorem execResetFall_keeps (medium : Nat) (src : Nat) (pdu : List Byte) (s : State) : Keeps s (execResetFall medium src pdu s) := by
  unfold execResetFall
  refine keeps_next ?_ ?_
  · simp
  · intro h; simp (maxDischargeDepth := 40) [h]
theorem execSessionOpen_keeps (medium : Nat) (src : Nat) (pdu : List Byte) (s : State) : Keeps s (execSessionOpen medium src pdu s) := by
  unfold execSessionOpen
  refine keeps_next ?_ ?_
  · simp
  · intro h; simp (maxDischargeDepth := 40) [h]
theorem execLossVerdict_keeps (n : Nat) (s : State) : Keeps s (execLossVerdict n s) := by
  unfold execLossVerdict
  refine keeps_next ?_ ?_
  · simp
  · intro h; simp (maxDischargeDepth := 40) [h]
theorem execSetData_keeps (s : State) : Keeps s (execSetData s) := by
  unfold execSetData
  exact keeps_run _ _ _ (fun e s => by simp (maxDischargeDepth := 40)) (fun e s h => by simp (maxDischargeDepth := 40) [h])
theorem execResetCmd_keeps (s : State) : Keeps s (execResetCmd s) := by
  unfold execResetCmd
  exact keeps_run _ _ _ (fun e s => by simp (maxDischargeDepth := 40)) (fun e s h => by simp (maxDischargeDepth := 40) [h])
theorem execRelayRx_keeps (s : State) : Keeps s (execRelayRx s) := by
  unfold execRelayRx
  refine keeps_next ((relayServe_pending _ _).trans (runEntry_pending _ _ _ _ fun e s => by simp (maxDischargeDepth := 40)))
    (fun h => relayServe_mem _ _ (runEntry_mem _ _ _ _ (fun e s h => by simp (maxDischargeDepth := 40) [h]) h))
theorem execRelayTx_keeps (s : State) : Keeps s (execRelayTx s) := by
  unfold execRelayTx
  exact keeps_run _ _ _ (fun e s => by simp (maxDischargeDepth := 40)) (fun e s h => by simp (maxDischargeDepth := 40) [h])
theorem execSessRead_keeps (s : State) : Keeps s (execSessRead s) := by
  unfold execSessRead
  exact keeps_run _ _ _ (fun e s => by simp (maxDischargeDepth := 40)) (fun e s h => by simp (maxDischargeDepth := 40) [h])
theorem execCanFrameReceive_keeps (n : Nat) (fr : CanFrame) (s : State) : Keeps s (execCanFrameReceive n fr s) := by
  unfold execCanFrameReceive
  exact keeps_next (canReceive_pending _ _ _ _ fun k d s => canStl_pending _ _ _ _)
    (canReceive_mem _ _ _ _ fun k d s h => canStl_mem _ _ _ _ h)
theorem execAttemptEnd_keeps (n : Nat) (r : CanEnd) (tdcv : Option Nat) (s : State) : Keeps s (execAttemptEnd n r tdcv s) := by
  unfold execAttemptEnd
  exact keeps_next (canAttemptEnd_pending _ _ _ _ _ fun k d s => canStl_pending _ _ _ _)
    (canAttemptEnd_mem _ _ _ _ _ fun k d s h => canStl_mem _ _ _ _ h)
theorem execBeaconSend_keeps (now : SupplyIn) (s : State) : Keeps s (execBeaconSend now s) := by
  unfold execBeaconSend
  refine keeps_next ?_ ?_
  · simp
  · intro h; simp (maxDischargeDepth := 40) [h]
theorem execInitTimeout_keeps (s : State) : Keeps s (execInitTimeout s) := by
  unfold execInitTimeout
  refine keeps_next ?_ ?_
  · simp
  · intro h; simp (maxDischargeDepth := 40) [h]
theorem execFailureVerdict_keeps (s : State) : Keeps s (execFailureVerdict s) := by
  unfold execFailureVerdict
  refine keeps_next ?_ ?_
  · simp
  · intro h; simp (maxDischargeDepth := 40) [h]
theorem execClaimResend_keeps (s : State) : Keeps s (execClaimResend s) := by
  unfold execClaimResend
  refine keeps_next ?_ ?_
  · simp
  · intro h; simp (maxDischargeDepth := 40) [h]
theorem execHoldExpired_keeps (s : State) : Keeps s (execHoldExpired s) := by
  unfold execHoldExpired
  refine keeps_next ?_ ?_
  · simp
  · intro h; simp (maxDischargeDepth := 40) [h]
theorem execFence_keeps (s : State) : Keeps s (execFence s) := by
  unfold execFence
  refine keeps_next ?_ ?_
  · simp
  · intro h; simp (maxDischargeDepth := 40) [h]
theorem execHandover_keeps (s : State) : Keeps s (execHandover s) := by
  unfold execHandover
  exact keeps_run _ _ _ (fun e s => by simp (maxDischargeDepth := 40)) (fun e s h => by simp (maxDischargeDepth := 40) [h])
theorem execHandoverRelease_keeps (s : State) : Keeps s (execHandoverRelease s) := by
  unfold execHandoverRelease
  refine keeps_next ?_ ?_
  · simp
  · intro h; simp (maxDischargeDepth := 40) [h]
theorem execHandoverAbort_keeps (s : State) : Keeps s (execHandoverAbort s) := by
  unfold execHandoverAbort
  refine keeps_next ?_ ?_
  · simp
  · intro h; simp (maxDischargeDepth := 40) [h]
theorem execFinalBeaconTimeout_keeps (s : State) : Keeps s (execFinalBeaconTimeout s) := by
  unfold execFinalBeaconTimeout
  refine keeps_next ?_ ?_
  · simp
  · intro h; simp (maxDischargeDepth := 40) [h]
theorem execDegradation_keeps (s : State) : Keeps s (execDegradation s) := by
  unfold execDegradation
  refine keeps_next ?_ ?_
  · simp
  · intro h; simp (maxDischargeDepth := 40) [h]
theorem execTakebackHoldoffEnd_keeps (s : State) : Keeps s (execTakebackHoldoffEnd s) := by
  unfold execTakebackHoldoffEnd
  refine keeps_next ?_ ?_
  · simp
  · intro h; simp (maxDischargeDepth := 40) [h]
theorem execKeeperSnap_keeps (s : State) : Keeps s (execKeeperSnap s) := by
  unfold execKeeperSnap
  exact keeps_run _ _ _ (fun e s => by simp (maxDischargeDepth := 40)) (fun e s h => by simp (maxDischargeDepth := 40) [h])
theorem execKeeperBeacon_keeps (path : Nat) (src : Nat) (frame : List Byte) (s : State) : Keeps s (execKeeperBeacon path src frame s) := by
  unfold execKeeperBeacon
  refine keeps_next ?_ ?_
  · simp
  · intro h; simp (maxDischargeDepth := 40) [h]
theorem execClaim_keeps (path : Nat) (src : Nat) (frame : List Byte) (s : State) : Keeps s (execClaim path src frame s) := by
  unfold execClaim
  refine keeps_next ?_ ?_
  · simp
  · intro h; simp (maxDischargeDepth := 40) [h]
theorem execRelease_keeps (path : Nat) (src : Nat) (frame : List Byte) (s : State) : Keeps s (execRelease path src frame s) := by
  unfold execRelease
  refine keeps_next ?_ ?_
  · simp
  · intro h; simp (maxDischargeDepth := 40) [h]
theorem execKeeperClaimGrant_keeps (p : Nat) (s : State) : Keeps s (execKeeperClaimGrant p s) := by
  unfold execKeeperClaimGrant
  refine keeps_next ?_ ?_
  · simp
  · intro h; simp (maxDischargeDepth := 40) [h]
theorem execKeeperClaimTimeout_keeps (p : Nat) (s : State) : Keeps s (execKeeperClaimTimeout p s) := by
  unfold execKeeperClaimTimeout
  refine keeps_next ?_ ?_
  · simp
  · intro h; simp (maxDischargeDepth := 40) [h]
theorem execKeeperWarmUp_keeps (s : State) : Keeps s (execKeeperWarmUp s) := by
  unfold execKeeperWarmUp
  refine keeps_next ?_ ?_
  · simp
  · intro h; simp (maxDischargeDepth := 40) [h]
theorem execPartnerBeaconTimeout_keeps (j5 : Bool) (ring : Bool) (s : State) : Keeps s (execPartnerBeaconTimeout j5 ring s) := by
  unfold execPartnerBeaconTimeout
  refine keeps_next ?_ ?_
  · simp
  · intro h; simp (maxDischargeDepth := 40) [h]
theorem execKeeperAckTimeout_keeps (s : State) : Keeps s (execKeeperAckTimeout s) := by
  unfold execKeeperAckTimeout
  refine keeps_next ?_ ?_
  · simp
  · intro h; simp (maxDischargeDepth := 40) [h]
theorem execPtpEventMessage_keeps (portB : Bool) (msg : List Byte) (agoNs : Nat) (resNs : Nat) (s : State) : Keeps s (execPtpEventMessage portB msg agoNs resNs s) := by
  unfold execPtpEventMessage
  refine keeps_next ?_ ?_
  · simp
  · intro h; simp (maxDischargeDepth := 40) [h]
theorem execPtpGeneralMessage_keeps (portB : Bool) (msg : List Byte) (s : State) : Keeps s (execPtpGeneralMessage portB msg s) := by
  unfold execPtpGeneralMessage
  refine keeps_next ?_ ?_
  · simp
  · intro h; simp (maxDischargeDepth := 40) [h]
theorem execFollowUpTimeout_keeps (s : State) : Keeps s (execFollowUpTimeout s) := by
  unfold execFollowUpTimeout
  refine keeps_next ?_ ?_
  · simp
  · intro h; simp (maxDischargeDepth := 40) [h]
theorem execSelect_keeps (s : State) : Keeps s (execSelect s) := by
  unfold execSelect
  exact keeps_run _ _ _ (fun e s => by simp (maxDischargeDepth := 40)) (fun e s h => by simp (maxDischargeDepth := 40) [h])
theorem execDomState_keeps (s : State) : Keeps s (execDomState s) := by
  unfold execDomState
  exact keeps_run _ _ _ (fun e s => by simp (maxDischargeDepth := 40)) (fun e s h => by simp (maxDischargeDepth := 40) [h])
theorem execStep_keeps (s : State) : Keeps s (execStep s) := by
  unfold execStep
  exact keeps_run _ _ _ (fun e s => by simp (maxDischargeDepth := 40)) (fun e s h => by simp (maxDischargeDepth := 40) [h])
theorem execPtpTx_keeps (s : State) : Keeps s (execPtpTx s) := by
  unfold execPtpTx
  exact keeps_run _ _ _ (fun e s => by simp (maxDischargeDepth := 40)) (fun e s h => by simp (maxDischargeDepth := 40) [h])
theorem execSyncLossTimeout_keeps (d : Nat) (s : State) : Keeps s (execSyncLossTimeout d s) := by
  unfold execSyncLossTimeout
  refine keeps_next ?_ ?_
  · simp
  · intro h; simp (maxDischargeDepth := 40) [h]
theorem execSlewEnd_keeps (s : State) : Keeps s (execSlewEnd s) := by
  unfold execSlewEnd
  refine keeps_next ?_ ?_
  · simp
  · intro h; simp (maxDischargeDepth := 40) [h]
theorem execAnchorPublish_keeps (s : State) : Keeps s (execAnchorPublish s) := by
  unfold execAnchorPublish
  refine keeps_next ?_ ?_
  · simp
  · intro h; simp (maxDischargeDepth := 40) [h]
theorem execGetCert_keeps (s : State) : Keeps s (execGetCert s) := by
  unfold execGetCert
  exact keeps_run _ _ _ (fun e s => by simp (maxDischargeDepth := 40)) (fun e s h => by simp (maxDischargeDepth := 40) [h])
theorem execAttest_keeps (s : State) : Keeps s (execAttest s) := by
  unfold execAttest
  exact keeps_run _ _ _ (fun e s => by simp (maxDischargeDepth := 40)) (fun e s h => by simp (maxDischargeDepth := 40) [h])
theorem execNonce_keeps (s : State) : Keeps s (execNonce s) := by
  unfold execNonce
  exact keeps_run _ _ _ (fun e s => by simp (maxDischargeDepth := 40)) (fun e s h => by simp (maxDischargeDepth := 40) [h])
theorem execKeyRecord_keeps (s : State) : Keeps s (execKeyRecord s) := by
  unfold execKeyRecord
  exact keeps_run _ _ _ (fun e s => by simp (maxDischargeDepth := 40)) (fun e s h => by simp (maxDischargeDepth := 40) [h])
theorem execKeyList_keeps (s : State) : Keeps s (execKeyList s) := by
  unfold execKeyList
  exact keeps_run _ _ _ (fun e s => by simp (maxDischargeDepth := 40)) (fun e s h => by simp (maxDischargeDepth := 40) [h])
theorem execSessOpen_keeps (s : State) : Keeps s (execSessOpen s) := by
  unfold execSessOpen
  exact keeps_run _ _ _ (fun e s => by simp (maxDischargeDepth := 40)) (fun e s h => by simp (maxDischargeDepth := 40) [h])
theorem execSessIn_keeps (s : State) : Keeps s (execSessIn s) := by
  unfold execSessIn
  exact keeps_run_if _ _ _ _ (fun e s => by simp (maxDischargeDepth := 40)) (fun e s h => by simp (maxDischargeDepth := 40) [h])
theorem execSessOut_keeps (s : State) : Keeps s (execSessOut s) := by
  unfold execSessOut
  exact keeps_run_if _ _ _ _ (fun e s => by simp (maxDischargeDepth := 40)) (fun e s h => by simp (maxDischargeDepth := 40) [h])
theorem execClose_keeps (s : State) : Keeps s (execClose s) := by
  unfold execClose
  exact keeps_run _ _ _ (fun e s => by simp (maxDischargeDepth := 40)) (fun e s h => by simp (maxDischargeDepth := 40) [h])
theorem execKeyNonceLapse_keeps (s : State) : Keeps s (execKeyNonceLapse s) := by
  unfold execKeyNonceLapse
  refine keeps_next ?_ ?_
  · simp
  · intro h; simp (maxDischargeDepth := 40) [h]
theorem execSessionIdleTimeout_keeps (n : Nat) (s : State) : Keeps s (execSessionIdleTimeout n s) := by
  unfold execSessionIdleTimeout
  refine keeps_next ?_ ?_
  · simp
  · intro h; simp (maxDischargeDepth := 40) [h]
theorem execRngFail_keeps (s : State) : Keeps s (execRngFail s) := by
  unfold execRngFail
  refine keeps_next ?_ ?_
  · simp
  · intro h; simp (maxDischargeDepth := 40) [h]
theorem execImgBegin_keeps (s : State) : Keeps s (execImgBegin s) := by
  unfold execImgBegin
  exact keeps_run _ _ _ (fun e s => by simp (maxDischargeDepth := 40)) (fun e s h => by simp (maxDischargeDepth := 40) [h])
theorem execImgChunk_keeps (s : State) : Keeps s (execImgChunk s) := by
  unfold execImgChunk
  exact keeps_run _ _ _ (fun e s => by simp (maxDischargeDepth := 40)) (fun e s h => by simp (maxDischargeDepth := 40) [h])
theorem execImgEnd_keeps (s : State) : Keeps s (execImgEnd s) := by
  unfold execImgEnd
  exact keeps_run _ _ _ (fun e s => by simp (maxDischargeDepth := 40)) (fun e s h => by simp (maxDischargeDepth := 40) [h])
theorem execImageVerified_keeps (readErr : Bool) (s : State) : Keeps s (execImageVerified readErr s) := by
  unfold execImageVerified
  refine keeps_next ?_ ?_
  · simp
  · intro h; simp (maxDischargeDepth := 40) [h]
theorem execImgAbort_keeps (s : State) : Keeps s (execImgAbort s) := by
  unfold execImgAbort
  exact keeps_run _ _ _ (fun e s => by simp (maxDischargeDepth := 40)) (fun e s h => by simp (maxDischargeDepth := 40) [h])
theorem execForward_keeps (s : State) : Keeps s (execForward s) := by
  unfold execForward
  exact keeps_run _ _ _ (fun e s => by simp (maxDischargeDepth := 40)) (fun e s h => by simp (maxDischargeDepth := 40) [h])
theorem updRow_keeps (s : State) (op : Nat) (src : Nat) (p : List Byte) : Keeps s (updRow s op src p) := by
  unfold updRow
  refine keeps_next ?_ ?_
  · simp
  · intro h; simp (maxDischargeDepth := 40) [h]
theorem execOffer_keeps (src : Nat) (frame : List Byte) (s : State) : Keeps s (execOffer src frame s) := by
  unfold execOffer
  refine keeps_next ?_ ?_
  · simp
  · intro h; simp (maxDischargeDepth := 40) [h]
theorem execAccept_keeps (src : Nat) (frame : List Byte) (s : State) : Keeps s (execAccept src frame s) := by
  unfold execAccept
  refine keeps_next ?_ ?_
  · simp
  · intro h; simp (maxDischargeDepth := 40) [h]
theorem execRefuse_keeps (src : Nat) (frame : List Byte) (s : State) : Keeps s (execRefuse src frame s) := by
  unfold execRefuse
  refine keeps_next ?_ ?_
  · simp
  · intro h; simp (maxDischargeDepth := 40) [h]
theorem execData_keeps (src : Nat) (frame : List Byte) (s : State) : Keeps s (execData src frame s) := by
  unfold execData
  refine keeps_next ?_ ?_
  · simp
  · intro h; simp (maxDischargeDepth := 40) [h]
theorem execChunkAck_keeps (src : Nat) (frame : List Byte) (s : State) : Keeps s (execChunkAck src frame s) := by
  unfold execChunkAck
  refine keeps_next ?_ ?_
  · simp
  · intro h; simp (maxDischargeDepth := 40) [h]
theorem execChunkNak_keeps (src : Nat) (frame : List Byte) (s : State) : Keeps s (execChunkNak src frame s) := by
  unfold execChunkNak
  refine keeps_next ?_ ?_
  · simp
  · intro h; simp (maxDischargeDepth := 40) [h]
theorem execChunkRetryTimeout_keeps (chunk : Nat) (s : State) : Keeps s (execChunkRetryTimeout chunk s) := by
  unfold execChunkRetryTimeout
  refine keeps_next ?_ ?_
  · simp
  · intro h; simp (maxDischargeDepth := 40) [h]
theorem execDone_keeps (src : Nat) (frame : List Byte) (s : State) : Keeps s (execDone src frame s) := by
  unfold execDone
  refine keeps_next ?_ ?_
  · simp
  · intro h; simp (maxDischargeDepth := 40) [h]
theorem execCancel_keeps (src : Nat) (frame : List Byte) (s : State) : Keeps s (execCancel src frame s) := by
  unfold execCancel
  refine keeps_next ?_ ?_
  · simp
  · intro h; simp (maxDischargeDepth := 40) [h]
theorem execQuery_keeps (src : Nat) (frame : List Byte) (s : State) : Keeps s (execQuery src frame s) := by
  unfold execQuery
  refine keeps_next ?_ ?_
  · simp
  · intro h; simp (maxDischargeDepth := 40) [h]
theorem execInfo_keeps (src : Nat) (frame : List Byte) (s : State) : Keeps s (execInfo src frame s) := by
  unfold execInfo
  refine keeps_next ?_ ?_
  · simp
  · intro h; simp (maxDischargeDepth := 40) [h]
theorem execActivate_keeps (s : State) : Keeps s (execActivate s) := by
  unfold execActivate
  exact keeps_run _ _ _ (fun e s => by simp (maxDischargeDepth := 40)) (fun e s h => by simp (maxDischargeDepth := 40) [h])
theorem execReady_keeps (s : State) : Keeps s (execReady s) := by
  unfold execReady
  split
  · exact keeps_run _ _ _ (fun e s => by simp (maxDischargeDepth := 40)) (fun e s h => by simp (maxDischargeDepth := 40) [h])
  · exact keeps_next (by simp) fun h => by simp (maxDischargeDepth := 40) [h]
theorem execSwap_keeps (s : State) : Keeps s (execSwap s) := by
  unfold execSwap
  exact keeps_run _ _ _ (fun e s => by simp (maxDischargeDepth := 40)) (fun e s h => by simp (maxDischargeDepth := 40) [h])
theorem execCommit_keeps (s : State) : Keeps s (execCommit s) := by
  unfold execCommit
  exact keeps_run _ _ _ (fun e s => by simp (maxDischargeDepth := 40)) (fun e s h => by simp (maxDischargeDepth := 40) [h])
theorem execRollback_keeps (s : State) : Keeps s (execRollback s) := by
  unfold execRollback
  exact keeps_run _ _ _ (fun e s => by simp (maxDischargeDepth := 40)) (fun e s h => by simp (maxDischargeDepth := 40) [h])
theorem execHoldWindowOpen_keeps (s : State) : Keeps s (execHoldWindowOpen s) := by
  unfold execHoldWindowOpen
  refine keeps_next ?_ ?_
  · simp
  · intro h; simp (maxDischargeDepth := 40) [h]
theorem execHoldWindowEnd_keeps (s : State) : Keeps s (execHoldWindowEnd s) := by
  unfold execHoldWindowEnd
  refine keeps_next ?_ ?_
  · simp
  · intro h; simp (maxDischargeDepth := 40) [h]
theorem execHoldWindowRevert_keeps (s : State) : Keeps s (execHoldWindowRevert s) := by
  unfold execHoldWindowRevert
  refine keeps_next ?_ ?_
  · simp
  · intro h; simp (maxDischargeDepth := 40) [h]
theorem execHandoverTimeout_keeps (s : State) : Keeps s (execHandoverTimeout s) := by
  unfold execHandoverTimeout
  refine keeps_next ?_ ?_
  · simp
  · intro h; simp (maxDischargeDepth := 40) [h]
theorem execPeerQueryTimeout_keeps (s : State) : Keeps s (execPeerQueryTimeout s) := by
  unfold execPeerQueryTimeout
  refine keeps_next ?_ ?_
  · simp
  · intro h; simp (maxDischargeDepth := 40) [h]
theorem execBeaconReceive_keeps (path : Nat) (src : Nat) (frame : List Byte) (s : State) : Keeps s (execBeaconReceive path src frame s) := by
  unfold execBeaconReceive
  refine keeps_next ?_ ?_
  · simp
  · intro h; simp (maxDischargeDepth := 40) [h]
theorem execGrant_keeps (path : Nat) (src : Nat) (frame : List Byte) (s : State) : Keeps s (execGrant path src frame s) := by
  unfold execGrant
  refine keeps_next ?_ ?_
  · simp
  · intro h; simp (maxDischargeDepth := 40) [h]
theorem execDeny_keeps (path : Nat) (src : Nat) (frame : List Byte) (s : State) : Keeps s (execDeny path src frame s) := by
  unfold execDeny
  refine keeps_next ?_ ?_
  · simp
  · intro h; simp (maxDischargeDepth := 40) [h]
theorem execAck_keeps (path : Nat) (src : Nat) (frame : List Byte) (s : State) : Keeps s (execAck path src frame s) := by
  unfold execAck
  refine keeps_next ?_ ?_
  · simp
  · intro h; simp (maxDischargeDepth := 40) [h]
theorem execRinpaconFrame_keeps (portB : Bool) (frame : List Byte) (r : RingIn) (s : State) : Keeps s (execRinpaconFrame portB frame r s) := by
  unfold execRinpaconFrame
  refine keeps_next ?_ ?_
  · simp
  · intro h; simp (maxDischargeDepth := 40) [h]
theorem execLinkChange_keeps (portB : Bool) (up : Bool) (verified : Bool) (s : State) : Keeps s (execLinkChange portB up verified s) := by
  unfold execLinkChange
  refine keeps_next ?_ ?_
  · simp
  · intro h; simp (maxDischargeDepth := 40) [h]
theorem execRingStateNotice_keeps (payload : List Byte) (s : State) : Keeps s (execRingStateNotice payload s) := by
  unfold execRingStateNotice
  refine keeps_next ?_ ?_
  · simp
  · intro h; simp (maxDischargeDepth := 40) [h]
theorem execBreakRecordExpiry_keeps (s : State) : Keeps s (execBreakRecordExpiry s) := by
  unfold execBreakRecordExpiry
  refine keeps_next ?_ ?_
  · simp
  · intro h; simp (maxDischargeDepth := 40) [h]
theorem execSend_keeps (qp : Nat) (s : State) : Keeps s (execSend qp s) := by
  unfold execSend
  exact keeps_run_if _ _ _ _ (fun e s => by simp (maxDischargeDepth := 40)) (fun e s h => by simp (maxDischargeDepth := 40) [h])
theorem execRailRise_keeps (env : StartEnv) (s : State) : Keeps s (execRailRise env s) := by
  unfold execRailRise
  refine keeps_next ?_ ?_
  · simp
  · intro h; simp (maxDischargeDepth := 40) [h]
theorem execServiceFwRunning_keeps (s : State) : Keeps s (execServiceFwRunning s) := by
  unfold execServiceFwRunning
  dsimp only
  refine keeps_next ?_ ?_
  · (repeat' split) <;> simp [*]
  · intro h; (repeat' split) <;> simp (maxDischargeDepth := 40) [*]
theorem execLowWarning_keeps (now : SupplyIn) (s : State) : Keeps s (execLowWarning now s) := by
  unfold execLowWarning
  refine keeps_next ?_ ?_
  · simp
  · intro h; simp (maxDischargeDepth := 40) [h]
theorem execRailHigh_keeps (now : SupplyIn) (s : State) : Keeps s (execRailHigh now s) := by
  unfold execRailHigh
  refine keeps_next ?_ ?_
  · simp
  · intro h; simp (maxDischargeDepth := 40) [h]
theorem execOverVoltage_keeps (now : SupplyIn) (s : State) : Keeps s (execOverVoltage now s) := by
  unfold execOverVoltage
  refine keeps_next ?_ ?_
  · simp
  · intro h; simp (maxDischargeDepth := 40) [h]
theorem execPowerFail_keeps (now : SupplyIn) (s : State) : Keeps s (execPowerFail now s) := by
  unfold execPowerFail
  refine keeps_next ?_ ?_
  · simp
  · intro h; simp (maxDischargeDepth := 40) [h]
theorem execRailReturn_keeps (now : SupplyIn) (s : State) : Keeps s (execRailReturn now s) := by
  unfold execRailReturn
  refine keeps_next ?_ ?_
  · simp
  · intro h; simp (maxDischargeDepth := 40) [h]
theorem execRideThroughEnd_keeps (s : State) : Keeps s (execRideThroughEnd s) := by
  unfold execRideThroughEnd
  refine keeps_next ?_ ?_
  · simp
  · intro h; simp (maxDischargeDepth := 40) [h]
theorem execFlushEnd_keeps (env : StartEnv) (s : State) : Keeps s (execFlushEnd env s) := by
  unfold execFlushEnd
  refine keeps_next ?_ ?_
  · simp
  · intro h; simp (maxDischargeDepth := 40) [h]
theorem execHoldupEnergyExhausted_keeps (s : State) : Keeps s (execHoldupEnergyExhausted s) := by
  unfold execHoldupEnergyExhausted
  refine keeps_next ?_ ?_
  · simp
  · intro h; simp (maxDischargeDepth := 40) [h]
theorem execRailReturnInFlush_keeps (s : State) : Keeps s (execRailReturnInFlush s) := by
  unfold execRailReturnInFlush
  refine keeps_next ?_ ?_
  · simp
  · intro h; simp (maxDischargeDepth := 40) [h]
theorem execCoilUv_keeps (now : SupplyIn) (s : State) : Keeps s (execCoilUv now s) := by
  unfold execCoilUv
  refine keeps_next ?_ ?_
  · simp
  · intro h; simp (maxDischargeDepth := 40) [h]
theorem execVcoilReturn_keeps (now : SupplyIn) (s : State) : Keeps s (execVcoilReturn now s) := by
  unfold execVcoilReturn
  refine keeps_next ?_ ?_
  · simp
  · intro h; simp (maxDischargeDepth := 40) [h]
theorem execWatch_keeps (s : State) : Keeps s (execWatch s) := by
  unfold execWatch
  exact keeps_run _ _ _ (fun e s => by simp (maxDischargeDepth := 40)) (fun e s h => by simp (maxDischargeDepth := 40) [h])
theorem execWatchReached_keeps (env : StartEnv) (s : State) : Keeps s (execWatchReached env s) := by
  unfold execWatchReached
  refine keeps_next ?_ ?_
  · simp
  · intro h; simp (maxDischargeDepth := 40) [h]
theorem execWakeInput_keeps (env : StartEnv) (s : State) : Keeps s (execWakeInput env s) := by
  unfold execWakeInput
  refine keeps_next ?_ ?_
  · simp
  · intro h; simp (maxDischargeDepth := 40) [h]
theorem execCan0WakePattern_keeps (env : StartEnv) (s : State) : Keeps s (execCan0WakePattern env s) := by
  unfold execCan0WakePattern
  refine keeps_next ?_ ?_
  · simp
  · intro h; simp (maxDischargeDepth := 40) [h]
theorem execWakeTimerExpiry_keeps (env : StartEnv) (s : State) : Keeps s (execWakeTimerExpiry env s) := by
  unfold execWakeTimerExpiry
  refine keeps_next ?_ ?_
  · simp
  · intro h; simp (maxDischargeDepth := 40) [h]
theorem execUnitReset_keeps (env : StartEnv) (s : State) : Keeps s (execUnitReset env s) := by
  have hp := runEntry_pending s 0 0x41 (fun _ s => okR s 0) (fun e s => by simp)
  have hm := runEntry_mem s 0 0x41 (fun _ s => okR s 0) (fun e s h => by simp [h])
  unfold execUnitReset
  refine keeps_next ?_ fun h => ?_
  · split
    · simp [hp]
    · exact hp
  · have hm := hm h
    split
    · simp (maxDischargeDepth := 40) [hm]
    · exact hm
theorem execClusterReset_keeps (s : State) : Keeps s (execClusterReset s) := by
  have hp := runEntry_pending s 0 0x42 (fun _ s => okR s 0) (fun e s => by simp)
  have hm := runEntry_mem s 0 0x42 (fun _ s => okR s 0) (fun e s h => by simp [h])
  unfold execClusterReset
  refine keeps_next ?_ fun h => ?_
  · split
    · dsimp only; split <;> simp [hp]
    · exact hp
  · have hm := hm h
    split
    · dsimp only; split <;> simp (maxDischargeDepth := 40) [hm]
    · exact hm
theorem execMainOscillatorLoss_keeps (now : SupplyIn) (env : StartEnv) (s : State) : Keeps s (execMainOscillatorLoss now env s) := by
  unfold execMainOscillatorLoss
  refine keeps_next ?_ ?_
  · simp
  · intro h; simp (maxDischargeDepth := 40) [h]
theorem execDieOverTemperature_keeps (now : SupplyIn) (s : State) : Keeps s (execDieOverTemperature now s) := by
  unfold execDieOverTemperature
  refine keeps_next ?_ ?_
  · simp
  · intro h; simp (maxDischargeDepth := 40) [h]
theorem execDieTemperatureRelease_keeps (env : StartEnv) (s : State) : Keeps s (execDieTemperatureRelease env s) := by
  unfold execDieTemperatureRelease
  refine keeps_next ?_ ?_
  · simp
  · intro h; simp (maxDischargeDepth := 40) [h]
theorem execLockstepMismatch_keeps (s : State) : Keeps s (execLockstepMismatch s) := by
  unfold execLockstepMismatch
  refine keeps_next ?_ ?_
  · simp
  · intro h; simp (maxDischargeDepth := 40) [h]
theorem execSpWatchdogExpiry_keeps (s : State) : Keeps s (execSpWatchdogExpiry s) := by
  unfold execSpWatchdogExpiry
  refine keeps_next ?_ ?_
  · simp
  · intro h; simp (maxDischargeDepth := 40) [h]
theorem execSafetyReset_keeps (row : Nat) (s : State) : Keeps s (execSafetyReset row s) := by
  unfold execSafetyReset
  refine keeps_next ?_ ?_
  · simp
  · intro h; simp (maxDischargeDepth := 40) [h]
theorem execClusterWatchdogExpiry_keeps (c : Nat) (s : State) : Keeps s (execClusterWatchdogExpiry c s) := by
  unfold execClusterWatchdogExpiry
  refine keeps_next ?_ ?_
  · simp
  · intro h; simp (maxDischargeDepth := 40) [h]
theorem execSafeIslandLimit_keeps (now : SupplyIn) (s : State) : Keeps s (execSafeIslandLimit now s) := by
  unfold execSafeIslandLimit
  refine keeps_next ?_ ?_
  · simp
  · intro h; simp (maxDischargeDepth := 40) [h]
theorem execAonIslandLimit_keeps (now : SupplyIn) (env : StartEnv) (s : State) : Keeps s (execAonIslandLimit now env s) := by
  unfold execAonIslandLimit
  refine keeps_next ?_ ?_
  · simp
  · intro h; simp (maxDischargeDepth := 40) [h]
theorem execPeakDrawLimit_keeps (now : SupplyIn) (s : State) : Keeps s (execPeakDrawLimit now s) := by
  unfold execPeakDrawLimit
  refine keeps_next ?_ ?_
  · simp
  · intro h; simp (maxDischargeDepth := 40) [h]
theorem execPeakDrawRelease_keeps (now : SupplyIn) (spanMs : Nat) (mwMs : Nat) (s : State) : Keeps s (execPeakDrawRelease now spanMs mwMs s) := by
  unfold execPeakDrawRelease
  refine keeps_next ?_ ?_
  · simp
  · intro h; simp (maxDischargeDepth := 40) [h]
theorem execDomainNotOk_keeps (dom : Nat) (s : State) : Keeps s (execDomainNotOk dom s) := by
  unfold execDomainNotOk
  refine keeps_next ?_ ?_
  · simp
  · intro h; simp (maxDischargeDepth := 40) [h]
theorem execCrossingRecovery_keeps (dom : Nat) (n : Nat) (s : State) : Keeps s (execCrossingRecovery dom n s) := by
  unfold execCrossingRecovery
  refine keeps_next ?_ ?_
  · simp
  · intro h; simp (maxDischargeDepth := 40) [h]
theorem execSampleInstant_keeps (rx : Option Nat) (hv : HvmIn) (transit : Option Nat) (s : State) : Keeps s (execSampleInstant rx hv transit s) := by
  unfold execSampleInstant
  refine keeps_next ?_ ?_
  · simp
  · intro h; simp (maxDischargeDepth := 40) [h]
theorem execSweepComplete_keeps (s : State) : Keeps s (execSweepComplete s) := by
  unfold execSweepComplete
  refine keeps_next ?_ ?_
  · simp
  · intro h; simp (maxDischargeDepth := 40) [h]
theorem execSweepDeadline_keeps (s : State) : Keeps s (execSweepDeadline s) := by
  unfold execSweepDeadline
  refine keeps_next ?_ ?_
  · simp
  · intro h; simp (maxDischargeDepth := 40) [h]
theorem execEnum_keeps (portB : Bool) (s : State) : Keeps s (execEnum portB s) := by
  unfold execEnum
  dsimp only
  (repeat' split) <;> exact keeps_next (by simp_all (maxDischargeDepth := 40)) fun h => by simp_all (maxDischargeDepth := 40)
theorem execChainRound_keeps (s : State) : Keeps s (execChainRound s) := by
  unfold execChainRound
  refine keeps_next ?_ ?_
  · simp
  · intro h; simp (maxDischargeDepth := 40) [h]
theorem execRegisterWrite_keeps (lvl : Level) (addr : Nat) (width : Nat) (value : Nat) (s : State) : Keeps s (execRegisterWrite lvl addr width value s) := by
  unfold execRegisterWrite
  refine keeps_next ?_ ?_
  · simp
  · intro h; simp (maxDischargeDepth := 40) [h]
theorem execLockSet_keeps (lvl : Level) (value : Nat) (s : State) : Keeps s (execLockSet lvl value s) := by
  unfold execLockSet
  refine keeps_next ?_ ?_
  · simp
  · intro h; simp (maxDischargeDepth := 40) [h]
theorem execLoRead_keeps (lvl : Level) (addr : Nat) (width : Nat) (now : SupplyIn) (s : State) : Keeps s (execLoRead lvl addr width now s) := by
  unfold execLoRead
  refine keeps_next ?_ ?_
  · simp
  · intro h; simp (maxDischargeDepth := 40) [h]
theorem execLoWrite_keeps (lvl : Level) (addr : Nat) (value : Nat) (s : State) : Keeps s (execLoWrite lvl addr value s) := by
  unfold execLoWrite
  refine keeps_next ?_ ?_
  · simp
  · intro h; simp (maxDischargeDepth := 40) [h]
theorem execHiWrite_keeps (lvl : Level) (addr : Nat) (value : Nat) (s : State) : Keeps s (execHiWrite lvl addr value s) := by
  unfold execHiWrite
  refine keeps_next ?_ ?_
  · simp
  · intro h; simp (maxDischargeDepth := 40) [h]
theorem execIncWrite_keeps (lvl : Level) (dom : Nat) (value : Nat) (s : State) : Keeps s (execIncWrite lvl dom value s) := by
  unfold execIncWrite
  refine keeps_next ?_ ?_
  · simp
  · intro h; simp (maxDischargeDepth := 40) [h]
theorem execPreset_keeps (lvl : Level) (ctr : Nat) (value : Nat) (s : State) : Keeps s (execPreset lvl ctr value s) := by
  unfold execPreset
  refine keeps_next ?_ ?_
  · simp
  · intro h; simp (maxDischargeDepth := 40) [h]
theorem execNop_keeps (qp : Nat) (s : State) : Keeps s (execNop qp s) := by
  unfold execNop
  exact keeps_run _ _ _ (fun e s => by simp (maxDischargeDepth := 40)) (fun e s h => by simp (maxDischargeDepth := 40) [h])
theorem execGetStatus_keeps (qp : Nat) (s : State) : Keeps s (execGetStatus qp s) := by
  unfold execGetStatus
  exact keeps_run _ _ _ (fun e s => by simp (maxDischargeDepth := 40)) (fun e s h => by simp (maxDischargeDepth := 40) [h])
theorem execSetConfig_keeps (qp : Nat) (s : State) : Keeps s (execSetConfig qp s) := by
  unfold execSetConfig
  exact keeps_run _ _ _ (fun e s => by simp (maxDischargeDepth := 40)) (fun e s h => by simp (maxDischargeDepth := 40) [h])
theorem execGetConfig_keeps (qp : Nat) (s : State) : Keeps s (execGetConfig qp s) := by
  unfold execGetConfig
  exact keeps_run _ _ _ (fun e s => by simp (maxDischargeDepth := 40)) (fun e s h => by simp (maxDischargeDepth := 40) [h])
theorem execEnable_keeps (qp : Nat) (s : State) : Keeps s (execEnable qp s) := by
  unfold execEnable
  exact keeps_run _ _ _ (fun e s => by simp (maxDischargeDepth := 40)) (fun e s h => by simp (maxDischargeDepth := 40) [h])
theorem execDisable_keeps (qp : Nat) (s : State) : Keeps s (execDisable qp s) := by
  unfold execDisable
  exact keeps_run _ _ _ (fun e s => by simp (maxDischargeDepth := 40)) (fun e s h => by simp (maxDischargeDepth := 40) [h])
theorem execPostBuffer_keeps (qp : Nat) (s : State) : Keeps s (execPostBuffer qp s) := by
  unfold execPostBuffer
  exact keeps_run _ _ _ (fun e s => by simp (maxDischargeDepth := 40)) (fun e s h => by simp (maxDischargeDepth := 40) [h])
theorem execMark_keeps (qp : Nat) (s : State) : Keeps s (execMark qp s) := by
  unfold execMark
  exact keeps_run _ _ _ (fun e s => by simp (maxDischargeDepth := 40)) (fun e s h => by simp (maxDischargeDepth := 40) [h])
theorem execFlush_keeps (qp : Nat) (s : State) : Keeps s (execFlush qp s) := by
  unfold execFlush
  exact keeps_run _ _ _ (fun e s => by simp (maxDischargeDepth := 40)) (fun e s h => by simp (maxDischargeDepth := 40) [h])

/-- Whatever the command, an answer with a next state leaves the queue as it was and host memory in its canonical form. -/
theorem exec_keeps (i : Instr) (s : State) : Keeps s (exec i s) := by
  cases i with
  | railRise env => exact execRailRise_keeps env s
  | serviceFwRunning => exact execServiceFwRunning_keeps s
  | safeReady => exact execSafeReady_keeps s
  | lowWarning now => exact execLowWarning_keeps now s
  | railHigh now => exact execRailHigh_keeps now s
  | overVoltage now => exact execOverVoltage_keeps now s
  | powerFail now => exact execPowerFail_keeps now s
  | railReturn now => exact execRailReturn_keeps now s
  | rideThroughEnd => exact execRideThroughEnd_keeps s
  | flushEnd env => exact execFlushEnd_keeps env s
  | holdupEnergyExhausted => exact execHoldupEnergyExhausted_keeps s
  | railReturnInFlush => exact execRailReturnInFlush_keeps s
  | coilUv now => exact execCoilUv_keeps now s
  | watch => exact execWatch_keeps s
  | watchReached env => exact execWatchReached_keeps env s
  | wakeInput env => exact execWakeInput_keeps env s
  | can0WakePattern env => exact execCan0WakePattern_keeps env s
  | wakeTimerExpiry env => exact execWakeTimerExpiry_keeps env s
  | unitReset env => exact execUnitReset_keeps env s
  | clusterReset => exact execClusterReset_keeps s
  | mainOscillatorLoss now env => exact execMainOscillatorLoss_keeps now env s
  | dieOverTemperature now => exact execDieOverTemperature_keeps now s
  | lockstepMismatch => exact execLockstepMismatch_keeps s
  | spWatchdogExpiry => exact execSpWatchdogExpiry_keeps s
  | safetyReset row => exact execSafetyReset_keeps row s
  | clusterWatchdogExpiry c => exact execClusterWatchdogExpiry_keeps c s
  | safeIslandLimit now => exact execSafeIslandLimit_keeps now s
  | aonIslandLimit now env => exact execAonIslandLimit_keeps now env s
  | peakDrawLimit now => exact execPeakDrawLimit_keeps now s
  | peakDrawRelease now spanMs mwMs => exact execPeakDrawRelease_keeps now spanMs mwMs s
  | sqTail lvl qp value writes => exact execSqTail_keeps lvl qp value writes s
  | cqHead lvl qp value => exact execCqHead_keeps lvl qp value s
  | sqFetch qp ue => exact execSqFetch_keeps qp ue s
  | timedStart qp => exact execTimedStart_keeps qp s
  | coalTimeout qp => exact execCoalTimeout_keeps qp s
  | irqpendClear lvl hi value => exact execIrqpendClear_keeps lvl hi value s
  | qpEnable lvl qp => exact execQpEnable_keeps lvl qp s
  | qpDisable lvl qp => exact execQpDisable_keeps lvl qp s
  | qpIdle qp => exact execQpIdle_keeps qp s
  | nop qp => exact execNop_keeps qp s
  | getStatus qp => exact execGetStatus_keeps qp s
  | setConfig qp => exact execSetConfig_keeps qp s
  | getConfig qp => exact execGetConfig_keeps qp s
  | enable qp => exact execEnable_keeps qp s
  | disable qp => exact execDisable_keeps qp s
  | postBuffer qp => exact execPostBuffer_keeps qp s
  | mark qp => exact execMark_keeps qp s
  | flush qp => exact execFlush_keeps qp s
  | lockSet lvl value => exact execLockSet_keeps lvl value s
  | registerWrite lvl addr width value => exact execRegisterWrite_keeps lvl addr width value s
  | loRead lvl addr width now => exact execLoRead_keeps lvl addr width now s
  | loWrite lvl addr value => exact execLoWrite_keeps lvl addr value s
  | hiWrite lvl addr value => exact execHiWrite_keeps lvl addr value s
  | incWrite lvl dom value => exact execIncWrite_keeps lvl dom value s
  | preset lvl ctr value => exact execPreset_keeps lvl ctr value s
  | sampleInstant rx hv transit => exact execSampleInstant_keeps rx hv transit s
  | arm k snum lead fromX3 chk => exact execArm_keeps k snum lead fromX3 chk s
  | strobe k si => exact execStrobe_keeps k si s
  | sweepRd k sinceNs fate => exact execSweepRd_keeps k sinceNs fate s
  | holdRd k sinceNs fate => exact execHoldRd_keeps k sinceNs fate s
  | tregRd k reg chk => exact execTregRd_keeps k reg chk s
  | tregWr k ws chk => exact execTregWr_keeps k ws chk s
  | enum portB => exact execEnum_keeps portB s
  | dlyMark k m chk => exact execDlyMark_keeps k m chk s
  | dlySet k x2 x3 align chk => exact execDlySet_keeps k x2 x3 align chk s
  | probeFrame k portB chk => exact execProbeFrame_keeps k portB chk s
  | safeWr k ov uv filt srcSp chk => exact execSafeWr_keeps k ov uv filt srcSp chk s
  | safeRd k chk => exact execSafeRd_keeps k chk s
  | rearm k srcSp chk => exact execRearm_keeps k srcSp chk s
  | armSafe k srcSp chk => exact execArmSafe_keeps k srcSp chk s
  | sleep k chk => exact execSleep_keeps k chk s
  | tileSilenceTimeout k => exact execTileSilenceTimeout_keeps k s
  | tileWake k fresh stack => exact execTileWake_keeps k fresh stack s
  | tileClockLock k onX3 ok => exact execTileClockLock_keeps k onX3 ok s
  | stackLow k => exact execStackLow_keeps k s
  | stackRestored k => exact execStackRestored_keeps k s
  | comparatorTrip k cell ov v => exact execComparatorTrip_keeps k cell ov v s
  | comparatorSelfTest k tripUs standInUs => exact execComparatorSelfTest_keeps k tripUs standInUs s
  | openWireTest => exact execOpenWireTest_keeps s
  | syncLoss node x3 codes => exact execSyncLoss_keeps node x3 codes s
  | loopModeExit k x3 => exact execLoopModeExit_keeps k x3 s
  | linkDown portB pos lostX3 => exact execLinkDown_keeps portB pos lostX3 s
  | readIncomplete sinceNs => exact execReadIncomplete_keeps sinceNs s
  | sweepDeadline => exact execSweepDeadline_keeps s
  | sweepComplete => exact execSweepComplete_keeps s
  | probeReturn => exact execProbeReturn_keeps s
  | ringClose tAB tBA marks => exact execRingClose_keeps tAB tBA marks s
  | chainRound => exact execChainRound_keeps s
  | delayRemeasure tAB tBA marks => exact execDelayRemeasure_keeps tAB tBA marks s
  | tileRd => exact execTileRd_keeps s
  | probe => exact execProbe_keeps s
  | dlyMeasure tAB tBA marks => exact execDlyMeasure_keeps tAB tBA marks s
  | tileSnap => exact execTileSnap_keeps s
  | tableCommit => exact execTableCommit_keeps s
  | revert => exact execRevert_keeps s
  | scheduleBoundary => exact execScheduleBoundary_keeps s
  | quarterLoad qp => exact execQuarterLoad_keeps qp s
  | carrierStop => exact execCarrierStop_keeps s
  | carrierRestart => exact execCarrierRestart_keeps s
  | carrierPeriodChange => exact execCarrierPeriodChange_keeps s
  | hvmReport means iMinNv iMaxNv => exact execHvmReport_keeps means iMinNv iMaxNv s
  | insulationPhaseEnd vc u100 moved uMin => exact execInsulationPhaseEnd_keeps vc u100 moved uMin s
  | insulationCycleEnd => exact execInsulationCycleEnd_keeps s
  | shuntOverRange overN => exact execShuntOverRange_keeps overN s
  | setTimers => exact execSetTimers_keeps s
  | bleedStop => exact execBleedStop_keeps s
  | balSnap => exact execBalSnap_keeps s
  | tapCal iMa => exact execTapCal_keeps iMa s
  | tapCalDone iMax vMin vMax steps tcals => exact execTapCalDone_keeps iMax vMin vMax steps tcals s
  | bleedTimerExpiry k cell => exact execBleedTimerExpiry_keeps k cell s
  | bleedPowerTick k => exact execBleedPowerTick_keeps k s
  | bleedSilence k => exact execBleedSilence_keeps k s
  | pauseFetsOff k => exact execPauseFetsOff_keeps k s
  | pauseFetsOn k => exact execPauseFetsOn_keeps k s
  | balRound elapsedS => exact execBalRound_keeps elapsedS s
  | estCycle => exact execEstCycle_keeps s
  | ageWaitExpiry => exact execAgeWaitExpiry_keeps s
  | noEisTimeout c => exact execNoEisTimeout_keeps c s
  | staleTimeout c => exact execStaleTimeout_keeps c s
  | sopEvaluation => exact execSopEvaluation_keeps s
  | snapshotTimer => exact execSnapshotTimer_keeps s
  | chemCommit => exact execChemCommit_keeps s
  | cellReset => exact execCellReset_keeps s
  | snapshot => exact execSnapshot_keeps s
  | segmentEnd => exact execSegmentEnd_keeps s
  | integrationEnd => exact execIntegrationEnd_keeps s
  | holdTimeout => exact execHoldTimeout_keeps s
  | planCommit => exact execPlanCommit_keeps s
  | eisHistoryTimer => exact execEisHistoryTimer_keeps s
  | housekeepingRound tin => exact execHousekeepingRound_keeps tin s
  | fastRound tin => exact execFastRound_keeps tin s
  | heaterDwellEnd => exact execHeaterDwellEnd_keeps s
  | actFault a => exact execActFault_keeps a s
  | lc0Cycle x => exact execLc0Cycle_keeps x s
  | fastCycle x => exact execFastCycle_keeps x s
  | slowCycle x dtNs => exact execSlowCycle_keeps x dtNs s
  | dwellEnd n => exact execDwellEnd_keeps n s
  | supervisionCheck x iHall => exact execSupervisionCheck_keeps x iHall s
  | stoppingTimeout n => exact execStoppingTimeout_keeps n s
  | psFault low => exact execPsFault_keeps low s
  | stop qp => exact execStop_keeps qp s
  | setRef qp => exact execSetRef_keeps qp s
  | setDispatch qp => exact execSetDispatch_keeps qp s
  | dispatchExpiry => exact execDispatchExpiry_keeps s
  | powerRequest sender req => exact execPowerRequest_keeps sender req s
  | fogAssert loopOpen => exact execFogAssert_keeps loopOpen s
  | fogDeassert => exact execFogDeassert_keeps s
  | spEvaluation => exact execSpEvaluation_keeps s
  | setCrcCheck flips => exact execSetCrcCheck_keeps flips s
  | siChannelChange n chB on => exact execSiChannelChange_keeps n chB on s
  | discrepancyTimeout n => exact execDiscrepancyTimeout_keeps n s
  | inputTestPulse tpb reads => exact execInputTestPulse_keeps tpb reads s
  | outputSwitchOn n => exact execOutputSwitchOn_keeps n s
  | highSideOn n => exact execHighSideOn_keeps n s
  | outputSwitchOff n => exact execOutputSwitchOff_keeps n s
  | offStateCheck pins coilMv => exact execOffStateCheck_keeps pins coilMv s
  | overcurr n => exact execOvercurr_keeps n s
  | testPulseSlot j young => exact execTestPulseSlot_keeps j young s
  | testPulseEvaluate ma pinMv coilMv => exact execTestPulseEvaluate_keeps ma pinMv coilMv s
  | testPulseEnd conducts late => exact execTestPulseEnd_keeps conducts late s
  | testOverdue n => exact execTestOverdue_keeps n s
  | rstInRise => exact execRstInRise_keeps s
  | rstInFall ticks => exact execRstInFall_keeps ticks s
  | resetHighDiscard stl => exact execResetHighDiscard_keeps stl s
  | rearmComplete => exact execRearmComplete_keeps s
  | rearmTimeout => exact execRearmTimeout_keeps s
  | prechargeStart => exact execPrechargeStart_keeps s
  | prechargeSettled => exact execPrechargeSettled_keeps s
  | prechargeTimeout => exact execPrechargeTimeout_keeps s
  | prechargeOverlapEnd => exact execPrechargeOverlapEnd_keeps s
  | startRequestOff => exact execStartRequestOff_keeps s
  | load sess ofs data => exact execLoad_keeps sess ofs data s
  | loadEnd sess => exact execLoadEnd_keeps sess s
  | confirm sess value oper => exact execConfirm_keeps sess value oper s
  | repair sess confirmed oper => exact execRepair_keeps sess confirmed oper s
  | cyclicSend n => exact execCyclicSend_keeps n s
  | cyclic medium src pdu => exact execCyclic_keeps medium src pdu s
  | resetRise medium src pdu => exact execResetRise_keeps medium src pdu s
  | resetFall medium src pdu => exact execResetFall_keeps medium src pdu s
  | sessionOpen medium src pdu => exact execSessionOpen_keeps medium src pdu s
  | lossVerdict n => exact execLossVerdict_keeps n s
  | setData => exact execSetData_keeps s
  | resetCmd => exact execResetCmd_keeps s
  | relayRx => exact execRelayRx_keeps s
  | relayTx => exact execRelayTx_keeps s
  | sessRead => exact execSessRead_keeps s
  | beaconSend now => exact execBeaconSend_keeps now s
  | beaconReceive path src frame => exact execBeaconReceive_keeps path src frame s
  | initTimeout => exact execInitTimeout_keeps s
  | failureVerdict => exact execFailureVerdict_keeps s
  | claimResend => exact execClaimResend_keeps s
  | holdExpired => exact execHoldExpired_keeps s
  | grant path src frame => exact execGrant_keeps path src frame s
  | deny path src frame => exact execDeny_keeps path src frame s
  | ack path src frame => exact execAck_keeps path src frame s
  | fence => exact execFence_keeps s
  | handover => exact execHandover_keeps s
  | handoverRelease => exact execHandoverRelease_keeps s
  | handoverAbort => exact execHandoverAbort_keeps s
  | finalBeaconTimeout => exact execFinalBeaconTimeout_keeps s
  | degradation => exact execDegradation_keeps s
  | takebackHoldoffEnd => exact execTakebackHoldoffEnd_keeps s
  | keeperSnap => exact execKeeperSnap_keeps s
  | keeperBeacon path src frame => exact execKeeperBeacon_keeps path src frame s
  | claim path src frame => exact execClaim_keeps path src frame s
  | keeperClaimGrant p => exact execKeeperClaimGrant_keeps p s
  | keeperClaimTimeout p => exact execKeeperClaimTimeout_keeps p s
  | release path src frame => exact execRelease_keeps path src frame s
  | keeperWarmUp => exact execKeeperWarmUp_keeps s
  | rinpaconFrame portB frame r => exact execRinpaconFrame_keeps portB frame r s
  | linkChange portB up verified => exact execLinkChange_keeps portB up verified s
  | ringStateNotice payload => exact execRingStateNotice_keeps payload s
  | breakRecordExpiry => exact execBreakRecordExpiry_keeps s
  | send qp => exact execSend_keeps qp s
  | ptpEventMessage portB msg agoNs resNs => exact execPtpEventMessage_keeps portB msg agoNs resNs s
  | followUpTimeout => exact execFollowUpTimeout_keeps s
  | select => exact execSelect_keeps s
  | domState => exact execDomState_keeps s
  | step => exact execStep_keeps s
  | ptpTx => exact execPtpTx_keeps s
  | syncLossTimeout d => exact execSyncLossTimeout_keeps d s
  | slewEnd => exact execSlewEnd_keeps s
  | anchorPublish => exact execAnchorPublish_keeps s
  | canFrameReceive n fr => exact execCanFrameReceive_keeps n fr s
  | transmitAttempt n => exact execTransmitAttempt_keeps n s
  | attemptEnd n r tdcv => exact execAttemptEnd_keeps n r tdcv s
  | txSet qp => exact execTxSet_keeps qp s
  | txCancel qp => exact execTxCancel_keeps qp s
  | recover qp => exact execRecover_keeps qp s
  | busOffHoldExpiry n => exact execBusOffHoldExpiry_keeps n s
  | busOffRecoveryEnd n => exact execBusOffRecoveryEnd_keeps n s
  | imgBegin => exact execImgBegin_keeps s
  | imgChunk => exact execImgChunk_keeps s
  | imgEnd => exact execImgEnd_keeps s
  | imageVerified readErr => exact execImageVerified_keeps readErr s
  | imgAbort => exact execImgAbort_keeps s
  | forward => exact execForward_keeps s
  | offer src frame => exact execOffer_keeps src frame s
  | accept src frame => exact execAccept_keeps src frame s
  | refuse src frame => exact execRefuse_keeps src frame s
  | data src frame => exact execData_keeps src frame s
  | chunkAck src frame => exact execChunkAck_keeps src frame s
  | chunkNak src frame => exact execChunkNak_keeps src frame s
  | chunkRetryTimeout chunk => exact execChunkRetryTimeout_keeps chunk s
  | done src frame => exact execDone_keeps src frame s
  | cancel src frame => exact execCancel_keeps src frame s
  | query src frame => exact execQuery_keeps src frame s
  | info src frame => exact execInfo_keeps src frame s
  | activate => exact execActivate_keeps s
  | ready => exact execReady_keeps s
  | swap => exact execSwap_keeps s
  | commit => exact execCommit_keeps s
  | rollback => exact execRollback_keeps s
  | holdWindowOpen => exact execHoldWindowOpen_keeps s
  | holdWindowEnd => exact execHoldWindowEnd_keeps s
  | holdWindowRevert => exact execHoldWindowRevert_keeps s
  | handoverTimeout => exact execHandoverTimeout_keeps s
  | peerQueryTimeout => exact execPeerQueryTimeout_keeps s
  | recordEntry src code level inst arg0 arg1 => exact execRecordEntry_keeps src code level inst arg0 arg1 s
  | recFlushTimer => exact execRecFlushTimer_keeps s
  | recWriteDone => exact execRecWriteDone_keeps s
  | timeMark => exact execTimeMark_keeps s
  | read bad => exact execRead_keeps bad s
  | log => exact execLog_keeps s
  | sync => exact execSync_keeps s
  | clearNonce => exact execClearNonce_keeps s
  | clear => exact execClear_keeps s
  | clearNonceLapse => exact execClearNonceLapse_keeps s
  | getCert => exact execGetCert_keeps s
  | attest => exact execAttest_keeps s
  | nonce => exact execNonce_keeps s
  | keyRecord => exact execKeyRecord_keeps s
  | keyList => exact execKeyList_keeps s
  | sessOpen => exact execSessOpen_keeps s
  | sessIn => exact execSessIn_keeps s
  | sessOut => exact execSessOut_keeps s
  | close => exact execClose_keeps s
  | keyNonceLapse => exact execKeyNonceLapse_keeps s
  | sessionIdleTimeout n => exact execSessionIdleTimeout_keeps n s
  | rngFail => exact execRngFail_keeps s
  | thresholdEvent => exact execThresholdEvent_keeps s
  | counterWrap => exact execCounterWrap_keeps s
  | periodicSnapshot => exact execPeriodicSnapshot_keeps s
  | snap => exact execSnap_keeps s
  | pepperForcedDisarm => exact execPepperForcedDisarm_keeps s
  | pepperDurExpiry k => exact execPepperDurExpiry_keeps k s
  | domainNotOk dom => exact execDomainNotOk_keeps dom s
  | crossingRecovery dom n => exact execCrossingRecovery_keeps dom n s
  | partnerBeaconTimeout j5 ring => exact execPartnerBeaconTimeout_keeps j5 ring s
  | keeperAckTimeout => exact execKeeperAckTimeout_keeps s
  | ptpGeneralMessage portB msg => exact execPtpGeneralMessage_keeps portB msg s
  | canReceiveError n r => exact execCanReceiveError_keeps n r s
  | busIntegrationEnd n => exact execBusIntegrationEnd_keeps n s
  | hallFault hallSig hallRef => exact execHallFault_keeps hallSig hallRef s
  | shuntCommonModeFault => exact execShuntCommonModeFault_keeps s
  | vcoilReturn now => exact execVcoilReturn_keeps now s
  | dieTemperatureRelease env => exact execDieTemperatureRelease_keeps env s
  | tileStackReset k => exact execTileStackReset_keeps k s
  | insulationSlotStart => exact execInsulationSlotStart_keeps s
  | carrierValley leg ready => exact execCarrierValley_keeps leg ready s

end Sys2Proof.Laws
end

