-- ==== Sys2Proof/Laws/Memory.lean ====
section
/-! SUPPORT. Host memory reads back what was stored, and every other byte as before. -/

namespace Sys2Proof.Laws

open Sys2Proof.Machine

theorem mapGet_cellsSet (m : List (Nat × Byte)) (a : Nat) (bs : List Byte) (b : Nat) :
    mapGet memDflt (cellsSet m a bs) b = if a ≤ b ∧ b < a + bs.length then bs.getD (b - a) 0 else mapGet memDflt m b := by
  induction bs generalizing m a with
  | nil => simp [cellsSet]
  | cons x t ih =>
    rw [cellsSet, ih, mapGet_mapSet]
    by_cases h : a = b
    · subst h; simp
    · by_cases h2 : a + 1 ≤ b ∧ b < a + 1 + t.length
      · have h3 : a ≤ b ∧ b < a + (x :: t).length := ⟨by omega, by simp; omega⟩
        rw [if_pos h2, if_pos h3]
        obtain ⟨k, rfl⟩ : ∃ k, b = a + 1 + k := ⟨b - (a + 1), by omega⟩
        have e1 : a + 1 + k - (a + 1) = k := by omega
        have e2 : a + 1 + k - a = k + 1 := by omega
        rw [e1, e2, List.getD_cons_succ]
      · have h3 : ¬ (a ≤ b ∧ b < a + (x :: t).length) := by simp; omega
        rw [if_neg h2, if_neg h3, if_neg h]

/-- A stored byte reads as stored; every other byte reads as before. -/
theorem memRd_memWrite (s : State) (a : Nat) (bs : List Byte) (b : Nat) :
    memRd (memWrite s a bs) b = if a ≤ b ∧ b < a + bs.length then bs.getD (b - a) 0 else memRd s b := mapGet_cellsSet ..

theorem memRd_memWrite_out (s : State) (a : Nat) (bs : List Byte) (b : Nat) (h : b < a ∨ a + bs.length ≤ b) :
    memRd (memWrite s a bs) b = memRd s b := by
  rw [memRd_memWrite, if_neg (by omega)]

/-- The bytes just stored read back. -/
theorem memBytes_memWrite (s : State) (a : Nat) (bs : List Byte) : memBytes (memWrite s a bs) a bs.length = bs := by
  unfold memBytes
  apply List.ext_getElem
  · simp
  · intro i h1 h2
    simp only [List.getElem_map, List.getElem_range, memRd_memWrite]
    rw [if_pos ⟨by omega, by omega⟩]
    simp [h2]

theorem memBytes_congr {s t : State} (h : t.mem = s.mem) (a n : Nat) : memBytes t a n = memBytes s a n := by
  unfold memBytes memRd
  rw [h]

theorem memRd_congr {s t : State} (h : t.mem = s.mem) (a : Nat) : memRd t a = memRd s a := by
  unfold memRd
  rw [h]

end Sys2Proof.Laws
end

