-- ==== Sys2Proof/Laws/RecFrame.lean ====
section
/-! SUPPORT. What making a record and acting under perturbation leave alone: everything but the recorder, the generators of PEPPER and the
registers of these two blocks. -/

namespace Sys2Proof.Laws

open Sys2Proof.Machine

/-- An address outside the spans of REC and PEPPER. -/
abbrev OffRec (a : Nat) : Prop := ¬ (0x10100000 ≤ a ∧ a ≤ 0x1010FFFF) ∧ ¬ (0x10140000 ≤ a ∧ a ≤ 0x1014FFFF)

/-- Nothing but the recorder, the generators and the registers of REC and PEPPER differs. -/
def RecOnly (s t : State) : Prop :=
  ∃ rg rc pp, t = { s with regs := rg, recd := rc, pepper := pp } ∧ ∀ a, OffRec a → mapGet resetVal rg a = regGet s a

theorem RecOnly.refl (s : State) : RecOnly s s := ⟨s.regs, s.recd, s.pepper, rfl, fun _ _ => rfl⟩
theorem RecOnly.trans {s t u : State} (h : RecOnly s t) (k : RecOnly t u) : RecOnly s u := by
  obtain ⟨rg, rc, pp, rfl, h⟩ := h
  obtain ⟨rg2, rc2, pp2, rfl, k⟩ := k
  exact ⟨rg2, rc2, pp2, rfl, fun a ha => (k a ha).trans (h a ha)⟩
theorem recOnly_wr (s : State) (f : Fld) (v : Nat) (h : ¬ OffRec f.addr) : RecOnly s (wr s f v) :=
  ⟨_, s.recd, s.pepper, rfl, fun a ha => regGet_wr_ne s f v a (fun e => h (e ▸ ha))⟩
theorem recOnly_put (s : State) (f : Fld) (b : Bool) (h : ¬ OffRec f.addr) : RecOnly s (put s f b) := recOnly_wr s f _ h
theorem recOnly_bump (s : State) (f : Fld) (h : ¬ OffRec f.addr) : RecOnly s (bump s f) := recOnly_wr s f _ h
theorem recOnly_recd (s : State) (r : RecSt) : RecOnly s { s with recd := r } := ⟨s.regs, r, s.pepper, rfl, fun _ _ => rfl⟩
theorem recOnly_pepper (s : State) (r : PepperSt) : RecOnly s { s with pepper := r } := ⟨s.regs, s.recd, r, rfl, fun _ _ => rfl⟩

theorem recOnly_pepperSlot (target inst k : Nat) (hk : k < 8) (r : Bool × State) : RecOnly r.2 (pepperSlot target inst k r).2 := by
  have h1 : ¬ OffRec (R.PEPPER_S_ACTS_COUNT k).addr := by simp [OffRec, R.PEPPER_S_ACTS_COUNT, R.PEPPER_S_ACTS]; omega
  unfold pepperSlot
  dsimp only
  split
  · split
    · exact (recOnly_pepper _ _).trans (recOnly_bump _ _ h1)
    · exact recOnly_pepper _ _
  · exact RecOnly.refl _
theorem recOnly_pepperFold (target inst : Nat) (l : List Nat) (hl : ∀ k ∈ l, k < 8) (r : Bool × State) :
    RecOnly r.2 (l.foldl (fun r k => pepperSlot target inst k r) r).2 := by
  induction l generalizing r with
  | nil => exact RecOnly.refl _
  | cons k t ih => exact (recOnly_pepperSlot target inst k (hl k (by simp)) r).trans (ih (fun j hj => hl j (by simp [hj])) _)
theorem recOnly_pepperAct (s : State) (target inst : Nat) : RecOnly s (pepperAct s target inst).2 :=
  recOnly_pepperFold target inst (List.range 8) (fun k hk => by simpa using hk) (false, s)
theorem recOnly_pepperWait (s : State) (target inst : Nat) : RecOnly s (pepperWait s target inst) := recOnly_pepperAct s target inst
theorem recOnly_recShow (s : State) : RecOnly s (recShow s) := (recOnly_wr _ _ _ (by decide)).trans (recOnly_wr _ _ _ (by decide))
theorem recOnly_recWriteStart (s : State) : RecOnly s (recWriteStart s) := by
  unfold recWriteStart
  split
  · exact RecOnly.refl _
  · split
    · exact (recOnly_put _ _ _ (by decide)).trans (recOnly_put _ _ _ (by decide))
    · exact ((((recOnly_pepperWait s 6 0).trans (recOnly_recd _ _)).trans (recOnly_put _ _ _ (by decide))).trans (recOnly_put _ _ _ (by decide)))
theorem recOnly_dropped (s : State) : RecOnly s (put (bump s R.REC_DROP_CNT_COUNT) R.REC_ERR_DROP true) :=
  (recOnly_bump _ _ (by decide)).trans (recOnly_put _ _ _ (by decide))
theorem recOnly_recEnter (s : State) (src code level inst suppr arg0 arg1 : Nat) : RecOnly s (recEnter s src code level inst suppr arg0 arg1) := by
  unfold recEnter
  split
  · exact RecOnly.refl _
  · dsimp only
    refine RecOnly.trans ?_ (recOnly_recShow _)
    have key : ∀ x : State, RecOnly s x → RecOnly s (if recWants x then recWriteStart x else x) := by
      intro x hx
      split
      · exact hx.trans (recOnly_recWriteStart _)
      · exact hx
    apply key
    split
    · exact recOnly_recd s _
    · have hd : RecOnly s (put (bump { s with recd := { s.recd with nextSeq := (s.recd.nextSeq + 1) % 2 ^ 32 } } R.REC_DROP_CNT_COUNT) R.REC_ERR_DROP true) :=
        (recOnly_recd s _).trans (recOnly_dropped _)
      split <;> exact hd.trans (recOnly_recd _ _)
theorem recOnly_finish (s s1 : State) (h : RecOnly s s1) (src code level inst arg0 arg1 : Nat) (t : Bool × Nat × Bucket) :
    RecOnly s (if t.1 then (true, recEnter s1 src code level inst t.2.1 arg0 arg1) else (false, bump s1 R.REC_SUPPR_CNT_COUNT)).2 := by
  split
  · exact h.trans (recOnly_recEnter _ _ _ _ _ _ _ _)
  · exact h.trans (recOnly_bump _ _ (by decide))
theorem recOnly_recOffer1 (s : State) (src code level inst arg0 arg1 : Nat) : RecOnly s (recOffer1 s src code level inst arg0 arg1).2 := by
  unfold recOffer1
  split
  · exact RecOnly.refl _
  · dsimp only
    split
    · exact recOnly_finish _ _ (recOnly_recd _ _) _ _ _ _ _ _ _
    · split
      · exact recOnly_finish _ _ ((recOnly_recd _ _).trans (recOnly_recShow _)) _ _ _ _ _ _ _
      · exact recOnly_finish _ _ ((recOnly_recd _ _).trans (recOnly_put _ _ _ (by decide))) _ _ _ _ _ _ _
theorem recOnly_recOwnErr (s : State) (f : Fld) (h : ¬ OffRec f.addr) : RecOnly s (recOwnErr s f) :=
  (recOnly_put _ _ _ h).trans (recOnly_recOffer1 _ _ _ _ _ _ _)
theorem recOnly_recAfter (s0 s : State) : RecOnly s (recAfter s0 s) := by
  unfold recAfter
  dsimp only
  have k1 : RecOnly s (if rd s R.REC_DROP_CNT_COUNT ≠ rd s0 R.REC_DROP_CNT_COUNT then recOwnErr s R.REC_ERR_DROP else s) := by
    split
    · exact recOnly_recOwnErr _ _ (by decide)
    · exact RecOnly.refl _
  generalize (if rd s R.REC_DROP_CNT_COUNT ≠ rd s0 R.REC_DROP_CNT_COUNT then recOwnErr s R.REC_ERR_DROP else s) = s1 at k1
  have k2 : RecOnly s (if s.recd.shared ≠ s0.recd.shared then recOwnErr s1 R.REC_ERR_SHARED else s1) := by
    split
    · exact k1.trans (recOnly_recOwnErr _ _ (by decide))
    · exact k1
  split
  · exact k2.trans (recOnly_recOwnErr _ _ (by decide))
  · exact k2
theorem recOnly_recOffer (s : State) (src code level inst arg0 arg1 : Nat) : RecOnly s (recOffer s src code level inst arg0 arg1).2 :=
  (recOnly_recOffer1 _ _ _ _ _ _ _).trans (recOnly_recAfter _ _)
theorem recOnly_record (s : State) (src code level inst arg0 arg1 : Nat) : RecOnly s (record s src code level inst arg0 arg1) :=
  recOnly_recOffer _ _ _ _ _ _ _
theorem recOnly_recAlways (s : State) (src code level inst arg0 arg1 : Nat) : RecOnly s (recAlways s src code level inst arg0 arg1) :=
  (recOnly_recEnter _ _ _ _ _ _ _ _).trans (recOnly_recAfter _ _)
theorem recOnly_timeMarkRec (s : State) (why : Nat) : RecOnly s (timeMarkRec s why) := recOnly_record _ _ _ _ _ _ _

theorem RecOnly.regGet {s t : State} (h : RecOnly s t) (a : Nat) (ha : OffRec a) : regGet t a = regGet s a := by
  obtain ⟨rg, rc, pp, rfl, h⟩ := h
  exact h a ha
theorem RecOnly.rd {s t : State} (h : RecOnly s t) (f : Fld) (hf : OffRec f.addr) : rd t f = rd s f := by
  unfold Machine.rd
  rw [h.regGet _ hf]
theorem RecOnly.flag {s t : State} (h : RecOnly s t) (f : Fld) (hf : OffRec f.addr) : flag t f = flag s f := by
  unfold Machine.flag
  rw [h.rd _ hf]

theorem rd_errRise_self (s : State) (f : Fld) (inst arg1 : Nat) (hf : OffRec f.addr) (h : Fits f) (hw : 0 < f.width) : rd (errRise s f inst arg1) f = 1 :=
  ((recOnly_record _ _ _ _ _ _ _).rd f hf).trans (rd_put_self s f true h hw)
theorem flag_errRise_self (s : State) (f : Fld) (inst arg1 : Nat) (hf : OffRec f.addr) (h : Fits f) (hw : 0 < f.width) : flag (errRise s f inst arg1) f = true :=
  ((recOnly_record _ _ _ _ _ _ _).flag f hf).trans (flag_put_self s f true h hw)
theorem rd_errRise_ne (s : State) (f g : Fld) (inst arg1 : Nat) (hg : OffRec g.addr) (h : Apart f g) : rd (errRise s f inst arg1) g = rd s g :=
  ((recOnly_record _ _ _ _ _ _ _).rd g hg).trans (rd_put_ne s f g true h)
theorem flag_errRise_ne (s : State) (f g : Fld) (inst arg1 : Nat) (hg : OffRec g.addr) (h : Apart f g) : flag (errRise s f inst arg1) g = flag s g :=
  ((recOnly_record _ _ _ _ _ _ _).flag g hg).trans (flag_put_ne s f g true h)
theorem regGet_errRise_ne (s : State) (f : Fld) (inst arg1 a : Nat) (hg : OffRec a) (h : f.addr ≠ a) : regGet (errRise s f inst arg1) a = regGet s a :=
  ((recOnly_record _ _ _ _ _ _ _).regGet a hg).trans (regGet_wr_ne _ _ _ _ h)

theorem rd_pepperWait (s : State) (target inst : Nat) (g : Fld) (hg : OffRec g.addr) : rd (pepperWait s target inst) g = rd s g := (recOnly_pepperWait s target inst).rd g hg
theorem flag_pepperWait (s : State) (target inst : Nat) (g : Fld) (hg : OffRec g.addr) : flag (pepperWait s target inst) g = flag s g := (recOnly_pepperWait s target inst).flag g hg
theorem regGet_pepperWait (s : State) (target inst : Nat) (a : Nat) (ha : OffRec a) : regGet (pepperWait s target inst) a = regGet s a := (recOnly_pepperWait s target inst).regGet a ha

theorem rd_recWriteStart (s : State) (g : Fld) (hg : OffRec g.addr) : rd (recWriteStart s) g = rd s g := (recOnly_recWriteStart s).rd g hg
theorem flag_recWriteStart (s : State) (g : Fld) (hg : OffRec g.addr) : flag (recWriteStart s) g = flag s g := (recOnly_recWriteStart s).flag g hg
theorem regGet_recWriteStart (s : State) (a : Nat) (ha : OffRec a) : regGet (recWriteStart s) a = regGet s a := (recOnly_recWriteStart s).regGet a ha

theorem rd_recEnter (s : State) (src code level inst suppr arg0 arg1 : Nat) (g : Fld) (hg : OffRec g.addr) : rd (recEnter s src code level inst suppr arg0 arg1) g = rd s g := (recOnly_recEnter s src code level inst suppr arg0 arg1).rd g hg
theorem flag_recEnter (s : State) (src code level inst suppr arg0 arg1 : Nat) (g : Fld) (hg : OffRec g.addr) : flag (recEnter s src code level inst suppr arg0 arg1) g = flag s g := (recOnly_recEnter s src code level inst suppr arg0 arg1).flag g hg
theorem regGet_recEnter (s : State) (src code level inst suppr arg0 arg1 : Nat) (a : Nat) (ha : OffRec a) : regGet (recEnter s src code level inst suppr arg0 arg1) a = regGet s a := (recOnly_recEnter s src code level inst suppr arg0 arg1).regGet a ha

theorem rd_record (s : State) (src code level inst arg0 arg1 : Nat) (g : Fld) (hg : OffRec g.addr) : rd (record s src code level inst arg0 arg1) g = rd s g := (recOnly_record s src code level inst arg0 arg1).rd g hg
theorem flag_record (s : State) (src code level inst arg0 arg1 : Nat) (g : Fld) (hg : OffRec g.addr) : flag (record s src code level inst arg0 arg1) g = flag s g := (recOnly_record s src code level inst arg0 arg1).flag g hg
theorem regGet_record (s : State) (src code level inst arg0 arg1 : Nat) (a : Nat) (ha : OffRec a) : regGet (record s src code level inst arg0 arg1) a = regGet s a := (recOnly_record s src code level inst arg0 arg1).regGet a ha

theorem rd_recAlways (s : State) (src code level inst arg0 arg1 : Nat) (g : Fld) (hg : OffRec g.addr) : rd (recAlways s src code level inst arg0 arg1) g = rd s g := (recOnly_recAlways s src code level inst arg0 arg1).rd g hg
theorem flag_recAlways (s : State) (src code level inst arg0 arg1 : Nat) (g : Fld) (hg : OffRec g.addr) : flag (recAlways s src code level inst arg0 arg1) g = flag s g := (recOnly_recAlways s src code level inst arg0 arg1).flag g hg
theorem regGet_recAlways (s : State) (src code level inst arg0 arg1 : Nat) (a : Nat) (ha : OffRec a) : regGet (recAlways s src code level inst arg0 arg1) a = regGet s a := (recOnly_recAlways s src code level inst arg0 arg1).regGet a ha

theorem rd_timeMarkRec (s : State) (why : Nat) (g : Fld) (hg : OffRec g.addr) : rd (timeMarkRec s why) g = rd s g := (recOnly_timeMarkRec s why).rd g hg
theorem flag_timeMarkRec (s : State) (why : Nat) (g : Fld) (hg : OffRec g.addr) : flag (timeMarkRec s why) g = flag s g := (recOnly_timeMarkRec s why).flag g hg
theorem regGet_timeMarkRec (s : State) (why : Nat) (a : Nat) (ha : OffRec a) : regGet (timeMarkRec s why) a = regGet s a := (recOnly_timeMarkRec s why).regGet a ha

/-! ### The other parts of the state -/

theorem RecOnly.bus {s t : State} (h : RecOnly s t) : t.bus = s.bus := by
  obtain ⟨_, _, _, rfl, _⟩ := h
  rfl
@[simp] theorem pepperWait_bus_eq (s : State) (target inst : Nat) : (pepperWait s target inst).bus = s.bus := (recOnly_pepperWait s target inst).bus
@[simp] theorem recWriteStart_bus_eq (s : State) : (recWriteStart s).bus = s.bus := (recOnly_recWriteStart s).bus
@[simp] theorem recEnter_bus_eq (s : State) (src code level inst suppr arg0 arg1 : Nat) : (recEnter s src code level inst suppr arg0 arg1).bus = s.bus := (recOnly_recEnter s src code level inst suppr arg0 arg1).bus
@[simp] theorem record_bus_eq (s : State) (src code level inst arg0 arg1 : Nat) : (record s src code level inst arg0 arg1).bus = s.bus := (recOnly_record s src code level inst arg0 arg1).bus
@[simp] theorem recAlways_bus_eq (s : State) (src code level inst arg0 arg1 : Nat) : (recAlways s src code level inst arg0 arg1).bus = s.bus := (recOnly_recAlways s src code level inst arg0 arg1).bus
@[simp] theorem timeMarkRec_bus_eq (s : State) (why : Nat) : (timeMarkRec s why).bus = s.bus := (recOnly_timeMarkRec s why).bus
@[simp] theorem errRise_bus_eq (s : State) (f : Fld) (inst arg1 : Nat) : (errRise s f inst arg1).bus = s.bus := (recOnly_record _ _ _ _ _ _ _).bus

theorem RecOnly.shadows {s t : State} (h : RecOnly s t) : t.shadows = s.shadows := by
  obtain ⟨_, _, _, rfl, _⟩ := h
  rfl
@[simp] theorem pepperWait_shadows_eq (s : State) (target inst : Nat) : (pepperWait s target inst).shadows = s.shadows := (recOnly_pepperWait s target inst).shadows
@[simp] theorem recWriteStart_shadows_eq (s : State) : (recWriteStart s).shadows = s.shadows := (recOnly_recWriteStart s).shadows
@[simp] theorem recEnter_shadows_eq (s : State) (src code level inst suppr arg0 arg1 : Nat) : (recEnter s src code level inst suppr arg0 arg1).shadows = s.shadows := (recOnly_recEnter s src code level inst suppr arg0 arg1).shadows
@[simp] theorem record_shadows_eq (s : State) (src code level inst arg0 arg1 : Nat) : (record s src code level inst arg0 arg1).shadows = s.shadows := (recOnly_record s src code level inst arg0 arg1).shadows
@[simp] theorem recAlways_shadows_eq (s : State) (src code level inst arg0 arg1 : Nat) : (recAlways s src code level inst arg0 arg1).shadows = s.shadows := (recOnly_recAlways s src code level inst arg0 arg1).shadows
@[simp] theorem timeMarkRec_shadows_eq (s : State) (why : Nat) : (timeMarkRec s why).shadows = s.shadows := (recOnly_timeMarkRec s why).shadows
@[simp] theorem errRise_shadows_eq (s : State) (f : Fld) (inst arg1 : Nat) : (errRise s f inst arg1).shadows = s.shadows := (recOnly_record _ _ _ _ _ _ _).shadows

theorem RecOnly.stages {s t : State} (h : RecOnly s t) : t.stages = s.stages := by
  obtain ⟨_, _, _, rfl, _⟩ := h
  rfl
@[simp] theorem pepperWait_stages_eq (s : State) (target inst : Nat) : (pepperWait s target inst).stages = s.stages := (recOnly_pepperWait s target inst).stages
@[simp] theorem recWriteStart_stages_eq (s : State) : (recWriteStart s).stages = s.stages := (recOnly_recWriteStart s).stages
@[simp] theorem recEnter_stages_eq (s : State) (src code level inst suppr arg0 arg1 : Nat) : (recEnter s src code level inst suppr arg0 arg1).stages = s.stages := (recOnly_recEnter s src code level inst suppr arg0 arg1).stages
@[simp] theorem record_stages_eq (s : State) (src code level inst arg0 arg1 : Nat) : (record s src code level inst arg0 arg1).stages = s.stages := (recOnly_record s src code level inst arg0 arg1).stages
@[simp] theorem recAlways_stages_eq (s : State) (src code level inst arg0 arg1 : Nat) : (recAlways s src code level inst arg0 arg1).stages = s.stages := (recOnly_recAlways s src code level inst arg0 arg1).stages
@[simp] theorem timeMarkRec_stages_eq (s : State) (why : Nat) : (timeMarkRec s why).stages = s.stages := (recOnly_timeMarkRec s why).stages
@[simp] theorem errRise_stages_eq (s : State) (f : Fld) (inst arg1 : Nat) : (errRise s f inst arg1).stages = s.stages := (recOnly_record _ _ _ _ _ _ _).stages

theorem RecOnly.mem {s t : State} (h : RecOnly s t) : t.mem = s.mem := by
  obtain ⟨_, _, _, rfl, _⟩ := h
  rfl
@[simp] theorem pepperWait_mem_eq (s : State) (target inst : Nat) : (pepperWait s target inst).mem = s.mem := (recOnly_pepperWait s target inst).mem
@[simp] theorem recWriteStart_mem_eq (s : State) : (recWriteStart s).mem = s.mem := (recOnly_recWriteStart s).mem
@[simp] theorem recEnter_mem_eq (s : State) (src code level inst suppr arg0 arg1 : Nat) : (recEnter s src code level inst suppr arg0 arg1).mem = s.mem := (recOnly_recEnter s src code level inst suppr arg0 arg1).mem
@[simp] theorem record_mem_eq (s : State) (src code level inst arg0 arg1 : Nat) : (record s src code level inst arg0 arg1).mem = s.mem := (recOnly_record s src code level inst arg0 arg1).mem
@[simp] theorem recAlways_mem_eq (s : State) (src code level inst arg0 arg1 : Nat) : (recAlways s src code level inst arg0 arg1).mem = s.mem := (recOnly_recAlways s src code level inst arg0 arg1).mem
@[simp] theorem timeMarkRec_mem_eq (s : State) (why : Nat) : (timeMarkRec s why).mem = s.mem := (recOnly_timeMarkRec s why).mem
@[simp] theorem errRise_mem_eq (s : State) (f : Fld) (inst arg1 : Nat) : (errRise s f inst arg1).mem = s.mem := (recOnly_record _ _ _ _ _ _ _).mem

theorem RecOnly.memErr {s t : State} (h : RecOnly s t) : t.memErr = s.memErr := by
  obtain ⟨_, _, _, rfl, _⟩ := h
  rfl
@[simp] theorem pepperWait_memErr_eq (s : State) (target inst : Nat) : (pepperWait s target inst).memErr = s.memErr := (recOnly_pepperWait s target inst).memErr
@[simp] theorem recWriteStart_memErr_eq (s : State) : (recWriteStart s).memErr = s.memErr := (recOnly_recWriteStart s).memErr
@[simp] theorem recEnter_memErr_eq (s : State) (src code level inst suppr arg0 arg1 : Nat) : (recEnter s src code level inst suppr arg0 arg1).memErr = s.memErr := (recOnly_recEnter s src code level inst suppr arg0 arg1).memErr
@[simp] theorem record_memErr_eq (s : State) (src code level inst arg0 arg1 : Nat) : (record s src code level inst arg0 arg1).memErr = s.memErr := (recOnly_record s src code level inst arg0 arg1).memErr
@[simp] theorem recAlways_memErr_eq (s : State) (src code level inst arg0 arg1 : Nat) : (recAlways s src code level inst arg0 arg1).memErr = s.memErr := (recOnly_recAlways s src code level inst arg0 arg1).memErr
@[simp] theorem timeMarkRec_memErr_eq (s : State) (why : Nat) : (timeMarkRec s why).memErr = s.memErr := (recOnly_timeMarkRec s why).memErr
@[simp] theorem errRise_memErr_eq (s : State) (f : Fld) (inst arg1 : Nat) : (errRise s f inst arg1).memErr = s.memErr := (recOnly_record _ _ _ _ _ _ _).memErr

theorem RecOnly.qps {s t : State} (h : RecOnly s t) : t.qps = s.qps := by
  obtain ⟨_, _, _, rfl, _⟩ := h
  rfl
@[simp] theorem pepperWait_qps_eq (s : State) (target inst : Nat) : (pepperWait s target inst).qps = s.qps := (recOnly_pepperWait s target inst).qps
@[simp] theorem recWriteStart_qps_eq (s : State) : (recWriteStart s).qps = s.qps := (recOnly_recWriteStart s).qps
@[simp] theorem recEnter_qps_eq (s : State) (src code level inst suppr arg0 arg1 : Nat) : (recEnter s src code level inst suppr arg0 arg1).qps = s.qps := (recOnly_recEnter s src code level inst suppr arg0 arg1).qps
@[simp] theorem record_qps_eq (s : State) (src code level inst arg0 arg1 : Nat) : (record s src code level inst arg0 arg1).qps = s.qps := (recOnly_record s src code level inst arg0 arg1).qps
@[simp] theorem recAlways_qps_eq (s : State) (src code level inst arg0 arg1 : Nat) : (recAlways s src code level inst arg0 arg1).qps = s.qps := (recOnly_recAlways s src code level inst arg0 arg1).qps
@[simp] theorem timeMarkRec_qps_eq (s : State) (why : Nat) : (timeMarkRec s why).qps = s.qps := (recOnly_timeMarkRec s why).qps
@[simp] theorem errRise_qps_eq (s : State) (f : Fld) (inst arg1 : Nat) : (errRise s f inst arg1).qps = s.qps := (recOnly_record _ _ _ _ _ _ _).qps

theorem RecOnly.power {s t : State} (h : RecOnly s t) : t.power = s.power := by
  obtain ⟨_, _, _, rfl, _⟩ := h
  rfl
@[simp] theorem pepperWait_power_eq (s : State) (target inst : Nat) : (pepperWait s target inst).power = s.power := (recOnly_pepperWait s target inst).power
@[simp] theorem recWriteStart_power_eq (s : State) : (recWriteStart s).power = s.power := (recOnly_recWriteStart s).power
@[simp] theorem recEnter_power_eq (s : State) (src code level inst suppr arg0 arg1 : Nat) : (recEnter s src code level inst suppr arg0 arg1).power = s.power := (recOnly_recEnter s src code level inst suppr arg0 arg1).power
@[simp] theorem record_power_eq (s : State) (src code level inst arg0 arg1 : Nat) : (record s src code level inst arg0 arg1).power = s.power := (recOnly_record s src code level inst arg0 arg1).power
@[simp] theorem recAlways_power_eq (s : State) (src code level inst arg0 arg1 : Nat) : (recAlways s src code level inst arg0 arg1).power = s.power := (recOnly_recAlways s src code level inst arg0 arg1).power
@[simp] theorem timeMarkRec_power_eq (s : State) (why : Nat) : (timeMarkRec s why).power = s.power := (recOnly_timeMarkRec s why).power
@[simp] theorem errRise_power_eq (s : State) (f : Fld) (inst arg1 : Nat) : (errRise s f inst arg1).power = s.power := (recOnly_record _ _ _ _ _ _ _).power

theorem RecOnly.nv {s t : State} (h : RecOnly s t) : t.nv = s.nv := by
  obtain ⟨_, _, _, rfl, _⟩ := h
  rfl
@[simp] theorem pepperWait_nv_eq (s : State) (target inst : Nat) : (pepperWait s target inst).nv = s.nv := (recOnly_pepperWait s target inst).nv
@[simp] theorem recWriteStart_nv_eq (s : State) : (recWriteStart s).nv = s.nv := (recOnly_recWriteStart s).nv
@[simp] theorem recEnter_nv_eq (s : State) (src code level inst suppr arg0 arg1 : Nat) : (recEnter s src code level inst suppr arg0 arg1).nv = s.nv := (recOnly_recEnter s src code level inst suppr arg0 arg1).nv
@[simp] theorem record_nv_eq (s : State) (src code level inst arg0 arg1 : Nat) : (record s src code level inst arg0 arg1).nv = s.nv := (recOnly_record s src code level inst arg0 arg1).nv
@[simp] theorem recAlways_nv_eq (s : State) (src code level inst arg0 arg1 : Nat) : (recAlways s src code level inst arg0 arg1).nv = s.nv := (recOnly_recAlways s src code level inst arg0 arg1).nv
@[simp] theorem timeMarkRec_nv_eq (s : State) (why : Nat) : (timeMarkRec s why).nv = s.nv := (recOnly_timeMarkRec s why).nv
@[simp] theorem errRise_nv_eq (s : State) (f : Fld) (inst arg1 : Nat) : (errRise s f inst arg1).nv = s.nv := (recOnly_record _ _ _ _ _ _ _).nv

theorem RecOnly.cfg {s t : State} (h : RecOnly s t) : t.cfg = s.cfg := by
  obtain ⟨_, _, _, rfl, _⟩ := h
  rfl
@[simp] theorem pepperWait_cfg_eq (s : State) (target inst : Nat) : (pepperWait s target inst).cfg = s.cfg := (recOnly_pepperWait s target inst).cfg
@[simp] theorem recWriteStart_cfg_eq (s : State) : (recWriteStart s).cfg = s.cfg := (recOnly_recWriteStart s).cfg
@[simp] theorem recEnter_cfg_eq (s : State) (src code level inst suppr arg0 arg1 : Nat) : (recEnter s src code level inst suppr arg0 arg1).cfg = s.cfg := (recOnly_recEnter s src code level inst suppr arg0 arg1).cfg
@[simp] theorem record_cfg_eq (s : State) (src code level inst arg0 arg1 : Nat) : (record s src code level inst arg0 arg1).cfg = s.cfg := (recOnly_record s src code level inst arg0 arg1).cfg
@[simp] theorem recAlways_cfg_eq (s : State) (src code level inst arg0 arg1 : Nat) : (recAlways s src code level inst arg0 arg1).cfg = s.cfg := (recOnly_recAlways s src code level inst arg0 arg1).cfg
@[simp] theorem timeMarkRec_cfg_eq (s : State) (why : Nat) : (timeMarkRec s why).cfg = s.cfg := (recOnly_timeMarkRec s why).cfg
@[simp] theorem errRise_cfg_eq (s : State) (f : Fld) (inst arg1 : Nat) : (errRise s f inst arg1).cfg = s.cfg := (recOnly_record _ _ _ _ _ _ _).cfg

theorem RecOnly.cfgPend {s t : State} (h : RecOnly s t) : t.cfgPend = s.cfgPend := by
  obtain ⟨_, _, _, rfl, _⟩ := h
  rfl
@[simp] theorem pepperWait_cfgPend_eq (s : State) (target inst : Nat) : (pepperWait s target inst).cfgPend = s.cfgPend := (recOnly_pepperWait s target inst).cfgPend
@[simp] theorem recWriteStart_cfgPend_eq (s : State) : (recWriteStart s).cfgPend = s.cfgPend := (recOnly_recWriteStart s).cfgPend
@[simp] theorem recEnter_cfgPend_eq (s : State) (src code level inst suppr arg0 arg1 : Nat) : (recEnter s src code level inst suppr arg0 arg1).cfgPend = s.cfgPend := (recOnly_recEnter s src code level inst suppr arg0 arg1).cfgPend
@[simp] theorem record_cfgPend_eq (s : State) (src code level inst arg0 arg1 : Nat) : (record s src code level inst arg0 arg1).cfgPend = s.cfgPend := (recOnly_record s src code level inst arg0 arg1).cfgPend
@[simp] theorem recAlways_cfgPend_eq (s : State) (src code level inst arg0 arg1 : Nat) : (recAlways s src code level inst arg0 arg1).cfgPend = s.cfgPend := (recOnly_recAlways s src code level inst arg0 arg1).cfgPend
@[simp] theorem timeMarkRec_cfgPend_eq (s : State) (why : Nat) : (timeMarkRec s why).cfgPend = s.cfgPend := (recOnly_timeMarkRec s why).cfgPend
@[simp] theorem errRise_cfgPend_eq (s : State) (f : Fld) (inst arg1 : Nat) : (errRise s f inst arg1).cfgPend = s.cfgPend := (recOnly_record _ _ _ _ _ _ _).cfgPend

theorem RecOnly.idk {s t : State} (h : RecOnly s t) : t.idk = s.idk := by
  obtain ⟨_, _, _, rfl, _⟩ := h
  rfl
@[simp] theorem pepperWait_idk_eq (s : State) (target inst : Nat) : (pepperWait s target inst).idk = s.idk := (recOnly_pepperWait s target inst).idk
@[simp] theorem recWriteStart_idk_eq (s : State) : (recWriteStart s).idk = s.idk := (recOnly_recWriteStart s).idk
@[simp] theorem recEnter_idk_eq (s : State) (src code level inst suppr arg0 arg1 : Nat) : (recEnter s src code level inst suppr arg0 arg1).idk = s.idk := (recOnly_recEnter s src code level inst suppr arg0 arg1).idk
@[simp] theorem record_idk_eq (s : State) (src code level inst arg0 arg1 : Nat) : (record s src code level inst arg0 arg1).idk = s.idk := (recOnly_record s src code level inst arg0 arg1).idk
@[simp] theorem recAlways_idk_eq (s : State) (src code level inst arg0 arg1 : Nat) : (recAlways s src code level inst arg0 arg1).idk = s.idk := (recOnly_recAlways s src code level inst arg0 arg1).idk
@[simp] theorem timeMarkRec_idk_eq (s : State) (why : Nat) : (timeMarkRec s why).idk = s.idk := (recOnly_timeMarkRec s why).idk
@[simp] theorem errRise_idk_eq (s : State) (f : Fld) (inst arg1 : Nat) : (errRise s f inst arg1).idk = s.idk := (recOnly_record _ _ _ _ _ _ _).idk

theorem RecOnly.tiles {s t : State} (h : RecOnly s t) : t.tiles = s.tiles := by
  obtain ⟨_, _, _, rfl, _⟩ := h
  rfl
@[simp] theorem pepperWait_tiles_eq (s : State) (target inst : Nat) : (pepperWait s target inst).tiles = s.tiles := (recOnly_pepperWait s target inst).tiles
@[simp] theorem recWriteStart_tiles_eq (s : State) : (recWriteStart s).tiles = s.tiles := (recOnly_recWriteStart s).tiles
@[simp] theorem recEnter_tiles_eq (s : State) (src code level inst suppr arg0 arg1 : Nat) : (recEnter s src code level inst suppr arg0 arg1).tiles = s.tiles := (recOnly_recEnter s src code level inst suppr arg0 arg1).tiles
@[simp] theorem record_tiles_eq (s : State) (src code level inst arg0 arg1 : Nat) : (record s src code level inst arg0 arg1).tiles = s.tiles := (recOnly_record s src code level inst arg0 arg1).tiles
@[simp] theorem recAlways_tiles_eq (s : State) (src code level inst arg0 arg1 : Nat) : (recAlways s src code level inst arg0 arg1).tiles = s.tiles := (recOnly_recAlways s src code level inst arg0 arg1).tiles
@[simp] theorem timeMarkRec_tiles_eq (s : State) (why : Nat) : (timeMarkRec s why).tiles = s.tiles := (recOnly_timeMarkRec s why).tiles
@[simp] theorem errRise_tiles_eq (s : State) (f : Fld) (inst arg1 : Nat) : (errRise s f inst arg1).tiles = s.tiles := (recOnly_record _ _ _ _ _ _ _).tiles

theorem RecOnly.chain {s t : State} (h : RecOnly s t) : t.chain = s.chain := by
  obtain ⟨_, _, _, rfl, _⟩ := h
  rfl
@[simp] theorem pepperWait_chain_eq (s : State) (target inst : Nat) : (pepperWait s target inst).chain = s.chain := (recOnly_pepperWait s target inst).chain
@[simp] theorem recWriteStart_chain_eq (s : State) : (recWriteStart s).chain = s.chain := (recOnly_recWriteStart s).chain
@[simp] theorem recEnter_chain_eq (s : State) (src code level inst suppr arg0 arg1 : Nat) : (recEnter s src code level inst suppr arg0 arg1).chain = s.chain := (recOnly_recEnter s src code level inst suppr arg0 arg1).chain
@[simp] theorem record_chain_eq (s : State) (src code level inst arg0 arg1 : Nat) : (record s src code level inst arg0 arg1).chain = s.chain := (recOnly_record s src code level inst arg0 arg1).chain
@[simp] theorem recAlways_chain_eq (s : State) (src code level inst arg0 arg1 : Nat) : (recAlways s src code level inst arg0 arg1).chain = s.chain := (recOnly_recAlways s src code level inst arg0 arg1).chain
@[simp] theorem timeMarkRec_chain_eq (s : State) (why : Nat) : (timeMarkRec s why).chain = s.chain := (recOnly_timeMarkRec s why).chain
@[simp] theorem errRise_chain_eq (s : State) (f : Fld) (inst arg1 : Nat) : (errRise s f inst arg1).chain = s.chain := (recOnly_record _ _ _ _ _ _ _).chain

theorem RecOnly.meas {s t : State} (h : RecOnly s t) : t.meas = s.meas := by
  obtain ⟨_, _, _, rfl, _⟩ := h
  rfl
@[simp] theorem pepperWait_meas_eq (s : State) (target inst : Nat) : (pepperWait s target inst).meas = s.meas := (recOnly_pepperWait s target inst).meas
@[simp] theorem recWriteStart_meas_eq (s : State) : (recWriteStart s).meas = s.meas := (recOnly_recWriteStart s).meas
@[simp] theorem recEnter_meas_eq (s : State) (src code level inst suppr arg0 arg1 : Nat) : (recEnter s src code level inst suppr arg0 arg1).meas = s.meas := (recOnly_recEnter s src code level inst suppr arg0 arg1).meas
@[simp] theorem record_meas_eq (s : State) (src code level inst arg0 arg1 : Nat) : (record s src code level inst arg0 arg1).meas = s.meas := (recOnly_record s src code level inst arg0 arg1).meas
@[simp] theorem recAlways_meas_eq (s : State) (src code level inst arg0 arg1 : Nat) : (recAlways s src code level inst arg0 arg1).meas = s.meas := (recOnly_recAlways s src code level inst arg0 arg1).meas
@[simp] theorem timeMarkRec_meas_eq (s : State) (why : Nat) : (timeMarkRec s why).meas = s.meas := (recOnly_timeMarkRec s why).meas
@[simp] theorem errRise_meas_eq (s : State) (f : Fld) (inst arg1 : Nat) : (errRise s f inst arg1).meas = s.meas := (recOnly_record _ _ _ _ _ _ _).meas

theorem RecOnly.hvm {s t : State} (h : RecOnly s t) : t.hvm = s.hvm := by
  obtain ⟨_, _, _, rfl, _⟩ := h
  rfl
@[simp] theorem pepperWait_hvm_eq (s : State) (target inst : Nat) : (pepperWait s target inst).hvm = s.hvm := (recOnly_pepperWait s target inst).hvm
@[simp] theorem recWriteStart_hvm_eq (s : State) : (recWriteStart s).hvm = s.hvm := (recOnly_recWriteStart s).hvm
@[simp] theorem recEnter_hvm_eq (s : State) (src code level inst suppr arg0 arg1 : Nat) : (recEnter s src code level inst suppr arg0 arg1).hvm = s.hvm := (recOnly_recEnter s src code level inst suppr arg0 arg1).hvm
@[simp] theorem record_hvm_eq (s : State) (src code level inst arg0 arg1 : Nat) : (record s src code level inst arg0 arg1).hvm = s.hvm := (recOnly_record s src code level inst arg0 arg1).hvm
@[simp] theorem recAlways_hvm_eq (s : State) (src code level inst arg0 arg1 : Nat) : (recAlways s src code level inst arg0 arg1).hvm = s.hvm := (recOnly_recAlways s src code level inst arg0 arg1).hvm
@[simp] theorem timeMarkRec_hvm_eq (s : State) (why : Nat) : (timeMarkRec s why).hvm = s.hvm := (recOnly_timeMarkRec s why).hvm
@[simp] theorem errRise_hvm_eq (s : State) (f : Fld) (inst arg1 : Nat) : (errRise s f inst arg1).hvm = s.hvm := (recOnly_record _ _ _ _ _ _ _).hvm

theorem RecOnly.bal {s t : State} (h : RecOnly s t) : t.bal = s.bal := by
  obtain ⟨_, _, _, rfl, _⟩ := h
  rfl
@[simp] theorem pepperWait_bal_eq (s : State) (target inst : Nat) : (pepperWait s target inst).bal = s.bal := (recOnly_pepperWait s target inst).bal
@[simp] theorem recWriteStart_bal_eq (s : State) : (recWriteStart s).bal = s.bal := (recOnly_recWriteStart s).bal
@[simp] theorem recEnter_bal_eq (s : State) (src code level inst suppr arg0 arg1 : Nat) : (recEnter s src code level inst suppr arg0 arg1).bal = s.bal := (recOnly_recEnter s src code level inst suppr arg0 arg1).bal
@[simp] theorem record_bal_eq (s : State) (src code level inst arg0 arg1 : Nat) : (record s src code level inst arg0 arg1).bal = s.bal := (recOnly_record s src code level inst arg0 arg1).bal
@[simp] theorem recAlways_bal_eq (s : State) (src code level inst arg0 arg1 : Nat) : (recAlways s src code level inst arg0 arg1).bal = s.bal := (recOnly_recAlways s src code level inst arg0 arg1).bal
@[simp] theorem timeMarkRec_bal_eq (s : State) (why : Nat) : (timeMarkRec s why).bal = s.bal := (recOnly_timeMarkRec s why).bal
@[simp] theorem errRise_bal_eq (s : State) (f : Fld) (inst arg1 : Nat) : (errRise s f inst arg1).bal = s.bal := (recOnly_record _ _ _ _ _ _ _).bal

theorem RecOnly.est {s t : State} (h : RecOnly s t) : t.est = s.est := by
  obtain ⟨_, _, _, rfl, _⟩ := h
  rfl
@[simp] theorem pepperWait_est_eq (s : State) (target inst : Nat) : (pepperWait s target inst).est = s.est := (recOnly_pepperWait s target inst).est
@[simp] theorem recWriteStart_est_eq (s : State) : (recWriteStart s).est = s.est := (recOnly_recWriteStart s).est
@[simp] theorem recEnter_est_eq (s : State) (src code level inst suppr arg0 arg1 : Nat) : (recEnter s src code level inst suppr arg0 arg1).est = s.est := (recOnly_recEnter s src code level inst suppr arg0 arg1).est
@[simp] theorem record_est_eq (s : State) (src code level inst arg0 arg1 : Nat) : (record s src code level inst arg0 arg1).est = s.est := (recOnly_record s src code level inst arg0 arg1).est
@[simp] theorem recAlways_est_eq (s : State) (src code level inst arg0 arg1 : Nat) : (recAlways s src code level inst arg0 arg1).est = s.est := (recOnly_recAlways s src code level inst arg0 arg1).est
@[simp] theorem timeMarkRec_est_eq (s : State) (why : Nat) : (timeMarkRec s why).est = s.est := (recOnly_timeMarkRec s why).est
@[simp] theorem errRise_est_eq (s : State) (f : Fld) (inst arg1 : Nat) : (errRise s f inst arg1).est = s.est := (recOnly_record _ _ _ _ _ _ _).est

theorem RecOnly.eis {s t : State} (h : RecOnly s t) : t.eis = s.eis := by
  obtain ⟨_, _, _, rfl, _⟩ := h
  rfl
@[simp] theorem pepperWait_eis_eq (s : State) (target inst : Nat) : (pepperWait s target inst).eis = s.eis := (recOnly_pepperWait s target inst).eis
@[simp] theorem recWriteStart_eis_eq (s : State) : (recWriteStart s).eis = s.eis := (recOnly_recWriteStart s).eis
@[simp] theorem recEnter_eis_eq (s : State) (src code level inst suppr arg0 arg1 : Nat) : (recEnter s src code level inst suppr arg0 arg1).eis = s.eis := (recOnly_recEnter s src code level inst suppr arg0 arg1).eis
@[simp] theorem record_eis_eq (s : State) (src code level inst arg0 arg1 : Nat) : (record s src code level inst arg0 arg1).eis = s.eis := (recOnly_record s src code level inst arg0 arg1).eis
@[simp] theorem recAlways_eis_eq (s : State) (src code level inst arg0 arg1 : Nat) : (recAlways s src code level inst arg0 arg1).eis = s.eis := (recOnly_recAlways s src code level inst arg0 arg1).eis
@[simp] theorem timeMarkRec_eis_eq (s : State) (why : Nat) : (timeMarkRec s why).eis = s.eis := (recOnly_timeMarkRec s why).eis
@[simp] theorem errRise_eis_eq (s : State) (f : Fld) (inst arg1 : Nat) : (errRise s f inst arg1).eis = s.eis := (recOnly_record _ _ _ _ _ _ _).eis

theorem RecOnly.therm {s t : State} (h : RecOnly s t) : t.therm = s.therm := by
  obtain ⟨_, _, _, rfl, _⟩ := h
  rfl
@[simp] theorem pepperWait_therm_eq (s : State) (target inst : Nat) : (pepperWait s target inst).therm = s.therm := (recOnly_pepperWait s target inst).therm
@[simp] theorem recWriteStart_therm_eq (s : State) : (recWriteStart s).therm = s.therm := (recOnly_recWriteStart s).therm
@[simp] theorem recEnter_therm_eq (s : State) (src code level inst suppr arg0 arg1 : Nat) : (recEnter s src code level inst suppr arg0 arg1).therm = s.therm := (recOnly_recEnter s src code level inst suppr arg0 arg1).therm
@[simp] theorem record_therm_eq (s : State) (src code level inst arg0 arg1 : Nat) : (record s src code level inst arg0 arg1).therm = s.therm := (recOnly_record s src code level inst arg0 arg1).therm
@[simp] theorem recAlways_therm_eq (s : State) (src code level inst arg0 arg1 : Nat) : (recAlways s src code level inst arg0 arg1).therm = s.therm := (recOnly_recAlways s src code level inst arg0 arg1).therm
@[simp] theorem timeMarkRec_therm_eq (s : State) (why : Nat) : (timeMarkRec s why).therm = s.therm := (recOnly_timeMarkRec s why).therm
@[simp] theorem errRise_therm_eq (s : State) (f : Fld) (inst arg1 : Nat) : (errRise s f inst arg1).therm = s.therm := (recOnly_record _ _ _ _ _ _ _).therm

theorem RecOnly.ctrl {s t : State} (h : RecOnly s t) : t.ctrl = s.ctrl := by
  obtain ⟨_, _, _, rfl, _⟩ := h
  rfl
@[simp] theorem pepperWait_ctrl_eq (s : State) (target inst : Nat) : (pepperWait s target inst).ctrl = s.ctrl := (recOnly_pepperWait s target inst).ctrl
@[simp] theorem recWriteStart_ctrl_eq (s : State) : (recWriteStart s).ctrl = s.ctrl := (recOnly_recWriteStart s).ctrl
@[simp] theorem recEnter_ctrl_eq (s : State) (src code level inst suppr arg0 arg1 : Nat) : (recEnter s src code level inst suppr arg0 arg1).ctrl = s.ctrl := (recOnly_recEnter s src code level inst suppr arg0 arg1).ctrl
@[simp] theorem record_ctrl_eq (s : State) (src code level inst arg0 arg1 : Nat) : (record s src code level inst arg0 arg1).ctrl = s.ctrl := (recOnly_record s src code level inst arg0 arg1).ctrl
@[simp] theorem recAlways_ctrl_eq (s : State) (src code level inst arg0 arg1 : Nat) : (recAlways s src code level inst arg0 arg1).ctrl = s.ctrl := (recOnly_recAlways s src code level inst arg0 arg1).ctrl
@[simp] theorem timeMarkRec_ctrl_eq (s : State) (why : Nat) : (timeMarkRec s why).ctrl = s.ctrl := (recOnly_timeMarkRec s why).ctrl
@[simp] theorem errRise_ctrl_eq (s : State) (f : Fld) (inst arg1 : Nat) : (errRise s f inst arg1).ctrl = s.ctrl := (recOnly_record _ _ _ _ _ _ _).ctrl

theorem RecOnly.can {s t : State} (h : RecOnly s t) : t.can = s.can := by
  obtain ⟨_, _, _, rfl, _⟩ := h
  rfl
@[simp] theorem pepperWait_can_eq (s : State) (target inst : Nat) : (pepperWait s target inst).can = s.can := (recOnly_pepperWait s target inst).can
@[simp] theorem recWriteStart_can_eq (s : State) : (recWriteStart s).can = s.can := (recOnly_recWriteStart s).can
@[simp] theorem recEnter_can_eq (s : State) (src code level inst suppr arg0 arg1 : Nat) : (recEnter s src code level inst suppr arg0 arg1).can = s.can := (recOnly_recEnter s src code level inst suppr arg0 arg1).can
@[simp] theorem record_can_eq (s : State) (src code level inst arg0 arg1 : Nat) : (record s src code level inst arg0 arg1).can = s.can := (recOnly_record s src code level inst arg0 arg1).can
@[simp] theorem recAlways_can_eq (s : State) (src code level inst arg0 arg1 : Nat) : (recAlways s src code level inst arg0 arg1).can = s.can := (recOnly_recAlways s src code level inst arg0 arg1).can
@[simp] theorem timeMarkRec_can_eq (s : State) (why : Nat) : (timeMarkRec s why).can = s.can := (recOnly_timeMarkRec s why).can
@[simp] theorem errRise_can_eq (s : State) (f : Fld) (inst arg1 : Nat) : (errRise s f inst arg1).can = s.can := (recOnly_record _ _ _ _ _ _ _).can

theorem RecOnly.safe {s t : State} (h : RecOnly s t) : t.safe = s.safe := by
  obtain ⟨_, _, _, rfl, _⟩ := h
  rfl
@[simp] theorem pepperWait_safe_eq (s : State) (target inst : Nat) : (pepperWait s target inst).safe = s.safe := (recOnly_pepperWait s target inst).safe
@[simp] theorem recWriteStart_safe_eq (s : State) : (recWriteStart s).safe = s.safe := (recOnly_recWriteStart s).safe
@[simp] theorem recEnter_safe_eq (s : State) (src code level inst suppr arg0 arg1 : Nat) : (recEnter s src code level inst suppr arg0 arg1).safe = s.safe := (recOnly_recEnter s src code level inst suppr arg0 arg1).safe
@[simp] theorem record_safe_eq (s : State) (src code level inst arg0 arg1 : Nat) : (record s src code level inst arg0 arg1).safe = s.safe := (recOnly_record s src code level inst arg0 arg1).safe
@[simp] theorem recAlways_safe_eq (s : State) (src code level inst arg0 arg1 : Nat) : (recAlways s src code level inst arg0 arg1).safe = s.safe := (recOnly_recAlways s src code level inst arg0 arg1).safe
@[simp] theorem timeMarkRec_safe_eq (s : State) (why : Nat) : (timeMarkRec s why).safe = s.safe := (recOnly_timeMarkRec s why).safe
@[simp] theorem errRise_safe_eq (s : State) (f : Fld) (inst arg1 : Nat) : (errRise s f inst arg1).safe = s.safe := (recOnly_record _ _ _ _ _ _ _).safe

theorem RecOnly.stl {s t : State} (h : RecOnly s t) : t.stl = s.stl := by
  obtain ⟨_, _, _, rfl, _⟩ := h
  rfl
@[simp] theorem pepperWait_stl_eq (s : State) (target inst : Nat) : (pepperWait s target inst).stl = s.stl := (recOnly_pepperWait s target inst).stl
@[simp] theorem recWriteStart_stl_eq (s : State) : (recWriteStart s).stl = s.stl := (recOnly_recWriteStart s).stl
@[simp] theorem recEnter_stl_eq (s : State) (src code level inst suppr arg0 arg1 : Nat) : (recEnter s src code level inst suppr arg0 arg1).stl = s.stl := (recOnly_recEnter s src code level inst suppr arg0 arg1).stl
@[simp] theorem record_stl_eq (s : State) (src code level inst arg0 arg1 : Nat) : (record s src code level inst arg0 arg1).stl = s.stl := (recOnly_record s src code level inst arg0 arg1).stl
@[simp] theorem recAlways_stl_eq (s : State) (src code level inst arg0 arg1 : Nat) : (recAlways s src code level inst arg0 arg1).stl = s.stl := (recOnly_recAlways s src code level inst arg0 arg1).stl
@[simp] theorem timeMarkRec_stl_eq (s : State) (why : Nat) : (timeMarkRec s why).stl = s.stl := (recOnly_timeMarkRec s why).stl
@[simp] theorem errRise_stl_eq (s : State) (f : Fld) (inst arg1 : Nat) : (errRise s f inst arg1).stl = s.stl := (recOnly_record _ _ _ _ _ _ _).stl

theorem RecOnly.red {s t : State} (h : RecOnly s t) : t.red = s.red := by
  obtain ⟨_, _, _, rfl, _⟩ := h
  rfl
@[simp] theorem pepperWait_red_eq (s : State) (target inst : Nat) : (pepperWait s target inst).red = s.red := (recOnly_pepperWait s target inst).red
@[simp] theorem recWriteStart_red_eq (s : State) : (recWriteStart s).red = s.red := (recOnly_recWriteStart s).red
@[simp] theorem recEnter_red_eq (s : State) (src code level inst suppr arg0 arg1 : Nat) : (recEnter s src code level inst suppr arg0 arg1).red = s.red := (recOnly_recEnter s src code level inst suppr arg0 arg1).red
@[simp] theorem record_red_eq (s : State) (src code level inst arg0 arg1 : Nat) : (record s src code level inst arg0 arg1).red = s.red := (recOnly_record s src code level inst arg0 arg1).red
@[simp] theorem recAlways_red_eq (s : State) (src code level inst arg0 arg1 : Nat) : (recAlways s src code level inst arg0 arg1).red = s.red := (recOnly_recAlways s src code level inst arg0 arg1).red
@[simp] theorem timeMarkRec_red_eq (s : State) (why : Nat) : (timeMarkRec s why).red = s.red := (recOnly_timeMarkRec s why).red
@[simp] theorem errRise_red_eq (s : State) (f : Fld) (inst arg1 : Nat) : (errRise s f inst arg1).red = s.red := (recOnly_record _ _ _ _ _ _ _).red

theorem RecOnly.eth {s t : State} (h : RecOnly s t) : t.eth = s.eth := by
  obtain ⟨_, _, _, rfl, _⟩ := h
  rfl
@[simp] theorem pepperWait_eth_eq (s : State) (target inst : Nat) : (pepperWait s target inst).eth = s.eth := (recOnly_pepperWait s target inst).eth
@[simp] theorem recWriteStart_eth_eq (s : State) : (recWriteStart s).eth = s.eth := (recOnly_recWriteStart s).eth
@[simp] theorem recEnter_eth_eq (s : State) (src code level inst suppr arg0 arg1 : Nat) : (recEnter s src code level inst suppr arg0 arg1).eth = s.eth := (recOnly_recEnter s src code level inst suppr arg0 arg1).eth
@[simp] theorem record_eth_eq (s : State) (src code level inst arg0 arg1 : Nat) : (record s src code level inst arg0 arg1).eth = s.eth := (recOnly_record s src code level inst arg0 arg1).eth
@[simp] theorem recAlways_eth_eq (s : State) (src code level inst arg0 arg1 : Nat) : (recAlways s src code level inst arg0 arg1).eth = s.eth := (recOnly_recAlways s src code level inst arg0 arg1).eth
@[simp] theorem timeMarkRec_eth_eq (s : State) (why : Nat) : (timeMarkRec s why).eth = s.eth := (recOnly_timeMarkRec s why).eth
@[simp] theorem errRise_eth_eq (s : State) (f : Fld) (inst arg1 : Nat) : (errRise s f inst arg1).eth = s.eth := (recOnly_record _ _ _ _ _ _ _).eth

theorem RecOnly.upd {s t : State} (h : RecOnly s t) : t.upd = s.upd := by
  obtain ⟨_, _, _, rfl, _⟩ := h
  rfl
@[simp] theorem pepperWait_upd_eq (s : State) (target inst : Nat) : (pepperWait s target inst).upd = s.upd := (recOnly_pepperWait s target inst).upd
@[simp] theorem recWriteStart_upd_eq (s : State) : (recWriteStart s).upd = s.upd := (recOnly_recWriteStart s).upd
@[simp] theorem recEnter_upd_eq (s : State) (src code level inst suppr arg0 arg1 : Nat) : (recEnter s src code level inst suppr arg0 arg1).upd = s.upd := (recOnly_recEnter s src code level inst suppr arg0 arg1).upd
@[simp] theorem record_upd_eq (s : State) (src code level inst arg0 arg1 : Nat) : (record s src code level inst arg0 arg1).upd = s.upd := (recOnly_record s src code level inst arg0 arg1).upd
@[simp] theorem recAlways_upd_eq (s : State) (src code level inst arg0 arg1 : Nat) : (recAlways s src code level inst arg0 arg1).upd = s.upd := (recOnly_recAlways s src code level inst arg0 arg1).upd
@[simp] theorem timeMarkRec_upd_eq (s : State) (why : Nat) : (timeMarkRec s why).upd = s.upd := (recOnly_timeMarkRec s why).upd
@[simp] theorem errRise_upd_eq (s : State) (f : Fld) (inst arg1 : Nat) : (errRise s f inst arg1).upd = s.upd := (recOnly_record _ _ _ _ _ _ _).upd

theorem RecOnly.ptp {s t : State} (h : RecOnly s t) : t.ptp = s.ptp := by
  obtain ⟨_, _, _, rfl, _⟩ := h
  rfl
@[simp] theorem pepperWait_ptp_eq (s : State) (target inst : Nat) : (pepperWait s target inst).ptp = s.ptp := (recOnly_pepperWait s target inst).ptp
@[simp] theorem recWriteStart_ptp_eq (s : State) : (recWriteStart s).ptp = s.ptp := (recOnly_recWriteStart s).ptp
@[simp] theorem recEnter_ptp_eq (s : State) (src code level inst suppr arg0 arg1 : Nat) : (recEnter s src code level inst suppr arg0 arg1).ptp = s.ptp := (recOnly_recEnter s src code level inst suppr arg0 arg1).ptp
@[simp] theorem record_ptp_eq (s : State) (src code level inst arg0 arg1 : Nat) : (record s src code level inst arg0 arg1).ptp = s.ptp := (recOnly_record s src code level inst arg0 arg1).ptp
@[simp] theorem recAlways_ptp_eq (s : State) (src code level inst arg0 arg1 : Nat) : (recAlways s src code level inst arg0 arg1).ptp = s.ptp := (recOnly_recAlways s src code level inst arg0 arg1).ptp
@[simp] theorem timeMarkRec_ptp_eq (s : State) (why : Nat) : (timeMarkRec s why).ptp = s.ptp := (recOnly_timeMarkRec s why).ptp
@[simp] theorem errRise_ptp_eq (s : State) (f : Fld) (inst arg1 : Nat) : (errRise s f inst arg1).ptp = s.ptp := (recOnly_record _ _ _ _ _ _ _).ptp

theorem RecOnly.perf {s t : State} (h : RecOnly s t) : t.perf = s.perf := by
  obtain ⟨_, _, _, rfl, _⟩ := h
  rfl
@[simp] theorem pepperWait_perf_eq (s : State) (target inst : Nat) : (pepperWait s target inst).perf = s.perf := (recOnly_pepperWait s target inst).perf
@[simp] theorem recWriteStart_perf_eq (s : State) : (recWriteStart s).perf = s.perf := (recOnly_recWriteStart s).perf
@[simp] theorem recEnter_perf_eq (s : State) (src code level inst suppr arg0 arg1 : Nat) : (recEnter s src code level inst suppr arg0 arg1).perf = s.perf := (recOnly_recEnter s src code level inst suppr arg0 arg1).perf
@[simp] theorem record_perf_eq (s : State) (src code level inst arg0 arg1 : Nat) : (record s src code level inst arg0 arg1).perf = s.perf := (recOnly_record s src code level inst arg0 arg1).perf
@[simp] theorem recAlways_perf_eq (s : State) (src code level inst arg0 arg1 : Nat) : (recAlways s src code level inst arg0 arg1).perf = s.perf := (recOnly_recAlways s src code level inst arg0 arg1).perf
@[simp] theorem timeMarkRec_perf_eq (s : State) (why : Nat) : (timeMarkRec s why).perf = s.perf := (recOnly_timeMarkRec s why).perf
@[simp] theorem errRise_perf_eq (s : State) (f : Fld) (inst arg1 : Nat) : (errRise s f inst arg1).perf = s.perf := (recOnly_record _ _ _ _ _ _ _).perf

theorem RecOnly.out {s t : State} (h : RecOnly s t) : t.out = s.out := by
  obtain ⟨_, _, _, rfl, _⟩ := h
  rfl
@[simp] theorem pepperWait_out_eq (s : State) (target inst : Nat) : (pepperWait s target inst).out = s.out := (recOnly_pepperWait s target inst).out
@[simp] theorem recWriteStart_out_eq (s : State) : (recWriteStart s).out = s.out := (recOnly_recWriteStart s).out
@[simp] theorem recEnter_out_eq (s : State) (src code level inst suppr arg0 arg1 : Nat) : (recEnter s src code level inst suppr arg0 arg1).out = s.out := (recOnly_recEnter s src code level inst suppr arg0 arg1).out
@[simp] theorem record_out_eq (s : State) (src code level inst arg0 arg1 : Nat) : (record s src code level inst arg0 arg1).out = s.out := (recOnly_record s src code level inst arg0 arg1).out
@[simp] theorem recAlways_out_eq (s : State) (src code level inst arg0 arg1 : Nat) : (recAlways s src code level inst arg0 arg1).out = s.out := (recOnly_recAlways s src code level inst arg0 arg1).out
@[simp] theorem timeMarkRec_out_eq (s : State) (why : Nat) : (timeMarkRec s why).out = s.out := (recOnly_timeMarkRec s why).out
@[simp] theorem errRise_out_eq (s : State) (f : Fld) (inst arg1 : Nat) : (errRise s f inst arg1).out = s.out := (recOnly_record _ _ _ _ _ _ _).out

theorem RecOnly.free {s t : State} (h : RecOnly s t) : t.free = s.free := by
  obtain ⟨_, _, _, rfl, _⟩ := h
  rfl
@[simp] theorem pepperWait_free_eq (s : State) (target inst : Nat) : (pepperWait s target inst).free = s.free := (recOnly_pepperWait s target inst).free
@[simp] theorem recWriteStart_free_eq (s : State) : (recWriteStart s).free = s.free := (recOnly_recWriteStart s).free
@[simp] theorem recEnter_free_eq (s : State) (src code level inst suppr arg0 arg1 : Nat) : (recEnter s src code level inst suppr arg0 arg1).free = s.free := (recOnly_recEnter s src code level inst suppr arg0 arg1).free
@[simp] theorem record_free_eq (s : State) (src code level inst arg0 arg1 : Nat) : (record s src code level inst arg0 arg1).free = s.free := (recOnly_record s src code level inst arg0 arg1).free
@[simp] theorem recAlways_free_eq (s : State) (src code level inst arg0 arg1 : Nat) : (recAlways s src code level inst arg0 arg1).free = s.free := (recOnly_recAlways s src code level inst arg0 arg1).free
@[simp] theorem timeMarkRec_free_eq (s : State) (why : Nat) : (timeMarkRec s why).free = s.free := (recOnly_timeMarkRec s why).free
@[simp] theorem errRise_free_eq (s : State) (f : Fld) (inst arg1 : Nat) : (errRise s f inst arg1).free = s.free := (recOnly_record _ _ _ _ _ _ _).free

theorem RecOnly.pending {s t : State} (h : RecOnly s t) : t.pending = s.pending := by
  obtain ⟨_, _, _, rfl, _⟩ := h
  rfl

end Sys2Proof.Laws
end

