-- ==== Sys2Proof/Laws/SamePower.lean ====
section
/-! SUPPORT. What leaves the power state alone, and with it the operating time and the ticks: everything but the supply, the resets and the clock. -/

namespace Sys2Proof.Laws

open Sys2Proof.Machine

/-! ### Ops -/

@[simp ↓] theorem ite_power {c : Prop} [Decidable c] (a b : State) : (if c then a else b).power = if c then a.power else b.power := by
  split <;> rfl
@[simp ↓] theorem foldl_power {α : Type} (f : State → α → State) (hf : ∀ s x, (f s x).power = s.power) (l : List α) (s : State) :
    (l.foldl f s).power = s.power := by
  induction l generalizing s with
  | nil => rfl
  | cons x t ih => simp [ih, hf]
theorem foldl_snd_power {α β : Type} (f : β × State → α → β × State) (hf : ∀ r x, (f r x).2.power = r.2.power) (l : List α) (r : β × State) :
    (l.foldl f r).2.power = r.2.power := by
  induction l generalizing r with
  | nil => rfl
  | cons x t ih => simp [ih, hf]
@[simp ↓] theorem regSet_power (s : State) (a : Nat) (w : Word) : (regSet s a w).power = s.power := by
  simp (maxDischargeDepth := 40) [regSet]
@[simp ↓] theorem wr_power (s : State) (f : Fld) (v : Nat) : (wr s f v).power = s.power := by
  simp (maxDischargeDepth := 40) [wr]
@[simp ↓] theorem put_power (s : State) (f : Fld) (b : Bool) : (put s f b).power = s.power := by
  simp (maxDischargeDepth := 40) [put]
@[simp ↓] theorem wrS_power (s : State) (f : Fld) (v : Int) : (wrS s f v).power = s.power := by
  simp (maxDischargeDepth := 40) [wrS]
@[simp ↓] theorem bump_power (s : State) (f : Fld) : (bump s f).power = s.power := by
  simp (maxDischargeDepth := 40) [bump]
@[simp ↓] theorem bumpBy_power (s : State) (f : Fld) (n : Nat) : (bumpBy s f n).power = s.power := by
  simp (maxDischargeDepth := 40) [bumpBy]
@[simp ↓] theorem bumpSat_power (s : State) (f : Fld) : (bumpSat s f).power = s.power := by
  simp (maxDischargeDepth := 40) [bumpSat]
@[simp ↓] theorem putBit_power (s : State) (f : Fld) (i : Nat) (b : Bool) : (putBit s f i b).power = s.power := by
  simp (maxDischargeDepth := 40) [putBit]
@[simp ↓] theorem resetSpan_power (s : State) (a : Nat) (b : Nat) : (resetSpan s a b).power = s.power := by
  simp (maxDischargeDepth := 40) [resetSpan]
@[simp ↓] theorem resetBlock_power (s : State) (b : Block) : (resetBlock s b).power = s.power := by
  simp (maxDischargeDepth := 40) [resetBlock]
@[simp ↓] theorem fresh_power (s : State) : (fresh s).2.power = s.power := by
  simp (maxDischargeDepth := 40) [fresh]
@[simp ↓] theorem emit_power (s : State) (k : OutKind) (args : List Nat) (data : List Byte) : (emit s k args data).power = s.power := by
  simp (maxDischargeDepth := 40) [emit]
@[simp ↓] theorem memWrite_power (s : State) (a : Nat) (bs : List Byte) : (memWrite s a bs).power = s.power := rfl
/-- A write into host memory keeps the canonical form. -/
@[simp ↓] theorem supplyTake_power (s : State) (e : SupplyIn) : (supplyTake s e).power = s.power := by
  simp (maxDischargeDepth := 40) [supplyTake]
@[simp ↓] theorem pepperSlot_power (target inst k : Nat) (r : Bool × State) : (pepperSlot target inst k r).2.power = r.2.power := by
  simp [pepperSlot]
@[simp ↓] theorem pepperAct_power (s : State) (target inst : Nat) : (pepperAct s target inst).2.power = s.power := by
  unfold pepperAct; rw [foldl_snd_power]; intro r x; simp
@[simp ↓] theorem pepperWait_power (s : State) (target : Nat) (inst : Nat) : (pepperWait s target inst).power = s.power := by
  simp (maxDischargeDepth := 40) [pepperWait]
@[simp ↓] theorem recShow_power (s : State) : (recShow s).power = s.power := by
  simp (maxDischargeDepth := 40) [recShow]
@[simp ↓] theorem recWriteStart_power (s : State) : (recWriteStart s).power = s.power := by
  simp (maxDischargeDepth := 40) [recWriteStart]
@[simp ↓] theorem recEnter_power (s : State) (src : Nat) (code : Nat) (level : Nat) (inst : Nat) (suppr : Nat) (arg0 : Nat) (arg1 : Nat) : (recEnter s src code level inst suppr arg0 arg1).power = s.power := by
  unfold recEnter; dsimp only; (repeat' split) <;> simp (maxDischargeDepth := 40) [*]
@[simp ↓] theorem recOffer1_power (s : State) (src : Nat) (code : Nat) (level : Nat) (inst : Nat) (arg0 : Nat) (arg1 : Nat) : (recOffer1 s src code level inst arg0 arg1).2.power = s.power := by
  unfold recOffer1; (repeat' split) <;> simp (maxDischargeDepth := 40) [*]
@[simp ↓] theorem recOwnErr_power (s : State) (f : Fld) : (recOwnErr s f).power = s.power := by
  simp (maxDischargeDepth := 40) [recOwnErr]
@[simp ↓] theorem recAfter_power (s0 : State) (s : State) : (recAfter s0 s).power = s.power := by
  simp (maxDischargeDepth := 40) [recAfter]
@[simp ↓] theorem recOffer_power (s : State) (src : Nat) (code : Nat) (level : Nat) (inst : Nat) (arg0 : Nat) (arg1 : Nat) : (recOffer s src code level inst arg0 arg1).2.power = s.power := by
  simp (maxDischargeDepth := 40) [recOffer]
@[simp ↓] theorem recAlways_power (s : State) (src : Nat) (code : Nat) (level : Nat) (inst : Nat) (arg0 : Nat) (arg1 : Nat) : (recAlways s src code level inst arg0 arg1).power = s.power := by
  simp (maxDischargeDepth := 40) [recAlways]
@[simp ↓] theorem record_power (s : State) (src : Nat) (code : Nat) (level : Nat) (inst : Nat) (arg0 : Nat) (arg1 : Nat) : (record s src code level inst arg0 arg1).power = s.power := by
  simp (maxDischargeDepth := 40) [record]
@[simp ↓] theorem errRise_power (s : State) (f : Fld) (inst : Nat) (arg1 : Nat) : (errRise s f inst arg1).power = s.power := by
  simp (maxDischargeDepth := 40) [errRise]
@[simp ↓] theorem timeMarkRec_power (s : State) (why : Nat) : (timeMarkRec s why).power = s.power := by
  simp (maxDischargeDepth := 40) [timeMarkRec]
@[simp ↓] theorem storCount_power (s : State) (n : Nat) : (storCount s n).power = s.power := by
  simp (maxDischargeDepth := 40) [storCount]
@[simp ↓] theorem cfgStore_power (s : State) (f : CfgCopy → CfgCopy) : (cfgStore s f).power = s.power := by
  simp (maxDischargeDepth := 40) [cfgStore]
@[simp ↓] theorem cfgStoreItem_power (s : State) (key : Nat) (bs : List Byte) : (cfgStoreItem s key bs).power = s.power := by
  simp (maxDischargeDepth := 40) [cfgStoreItem]
@[simp ↓] theorem cfgForce_power (s : State) (key : Nat) (bs : List Byte) : (cfgForce s key bs).power = s.power := by
  simp (maxDischargeDepth := 40) [cfgForce]
@[simp ↓] theorem cfgWait_power (s : State) (key : Nat) (bs : List Byte) : (cfgWait s key bs).power = s.power := by
  simp (maxDischargeDepth := 40) [cfgWait]
@[simp ↓] theorem cfgBoundary_power (s : State) (key : Nat) : (cfgBoundary s key).power = s.power := by
  unfold cfgBoundary; split <;> simp (maxDischargeDepth := 40) [*]
@[simp ↓] theorem histAdd_power (s : State) (kind : Nat) (bs : List Byte) : (histAdd s kind bs).power = s.power := by
  simp (maxDischargeDepth := 40) [histAdd]

/-! ### Queue -/

@[simp ↓] theorem qpMod_power (s : State) (qp : Nat) (f : QpState → QpState) : (qpMod s qp f).power = s.power := by
  simp (maxDischargeDepth := 40) [qpMod]
@[simp ↓] theorem irqCheck_power (s : State) (qp : Nat) : (irqCheck s qp).power = s.power := by
  simp (maxDischargeDepth := 40) [irqCheck]
@[simp ↓] theorem errNote_power (s : State) (qp : Nat) (tag : Nat) (opc : Nat) (status : Nat) : (errNote s qp tag opc status).power = s.power := by
  simp (maxDischargeDepth := 40) [errNote]
@[simp ↓] theorem complete_power (qp : Nat) (s : State) (e : Entry) : (complete qp s e).power = s.power := by
  unfold complete; split <;> simp (maxDischargeDepth := 40) [*]
@[simp ↓] theorem drain_power (s : State) (qp : Nat) : (drain s qp).power = s.power := by
  simp (maxDischargeDepth := 40) [drain]
@[simp ↓] theorem dbReject_power (s : State) (qp : Nat) (value : Nat) (head : Bool) (foreign : Bool) : (dbReject s qp value head foreign).power = s.power := by
  simp (maxDischargeDepth := 40) [dbReject]
@[simp ↓] theorem sqTailWrite_power (s : State) (lvl : Level) (qp : Nat) (v : Nat) : (sqTailWrite s lvl qp v).power = s.power := by
  simp (maxDischargeDepth := 40) [sqTailWrite]
@[simp ↓] theorem cqHeadWrite_power (s : State) (lvl : Level) (qp : Nat) (v : Nat) : (cqHeadWrite s lvl qp v).power = s.power := by
  simp (maxDischargeDepth := 40) [cqHeadWrite]
theorem coreStores_power (ws : List (Nat × List Byte)) (s t : State) (ht : coreStores s ws = .ok t) : t.power = s.power := by
  induction ws generalizing s with
  | nil => simp [coreStores] at ht; simp [ht]
  | cons w ws ih =>
    unfold coreStores at ht
    split at ht
    · rw [ih _ ht]; simp
    · cases ht
@[simp ↓] theorem fetchNext_power (s0 : State) (qp : Nat) (ue : List Nat) : (fetchNext s0 qp ue).power = s0.power := by
  simp (maxDischargeDepth := 40) [fetchNext]
@[simp ↓] theorem setEntry_power (s : State) (qp : Nat) (i : Nat) (st : EntrySt) : (setEntry s qp i st).power = s.power := by
  simp (maxDischargeDepth := 40) [setEntry]
@[simp ↓] theorem setFront_power (s : State) (qp : Nat) (st : EntrySt) : (setFront s qp st).power = s.power := by
  unfold setFront; split <;> simp (maxDischargeDepth := 40) [*]
theorem runEntry_power (s : State) (qp opc : Nat) (act : Entry → State → State × EntrySt)
    (ha : ∀ e s, (act e s).1.power = s.power) : (runEntry s qp opc act).power = s.power := by
  unfold runEntry; (repeat' split) <;> simp [ha]
@[simp ↓] theorem okR_power (s : State) (result : Nat) : (okR s result).1.power = s.power := by
  simp (maxDischargeDepth := 40) [okR]
@[simp ↓] theorem okX_power (s : State) (result : Nat) (ext : Nat) : (okX s result ext).1.power = s.power := by
  simp (maxDischargeDepth := 40) [okX]
@[simp ↓] theorem failR_power (s : State) (status : Nat) : (failR s status).1.power = s.power := by
  simp (maxDischargeDepth := 40) [failR]
@[simp ↓] theorem failX_power (s : State) (status : Nat) (ext : Nat) : (failX s status ext).1.power = s.power := by
  simp (maxDischargeDepth := 40) [failX]
@[simp ↓] theorem withBuf_power (e : Entry) (s : State) (k : List Byte → State × EntrySt)
    (hk : ∀ bs, (k bs).1.power = s.power) : (withBuf e s k).1.power = s.power := by
  simp [withBuf, hk]
@[simp ↓] theorem finishEntry_power (s : State) (qp : Nat) (p : Entry → Bool) (status : Nat) (result : Nat) (ext : Nat) : (finishEntry s qp p status result ext).power = s.power := by
  unfold finishEntry; split <;> simp (maxDischargeDepth := 40) [*]
@[simp ↓] theorem timedStart_power (s : State) (qp : Nat) : (timedStart s qp).power = s.power := by
  unfold timedStart; (repeat' split) <;> simp (maxDischargeDepth := 40) [*]
@[simp ↓] theorem streamWrite_power (s : State) (qp : Nat) (data : List Byte) : (streamWrite s qp data).2.power = s.power := by
  unfold streamWrite; dsimp only; (repeat' split) <;> simp (maxDischargeDepth := 40) [*]
@[simp ↓] theorem streamOr_power (s : State) (qp : Nat) (data : List Byte) (lost : State → State)
    (hl : ∀ s, (lost s).power = s.power) : (streamOr s qp data lost).power = s.power := by
  simp [streamOr, hl]
@[simp ↓] theorem flushPosted_power (s : State) (qp : Nat) : (flushPosted s qp).power = s.power := by
  simp (maxDischargeDepth := 40) [flushPosted]
@[simp ↓] theorem qpEnable_power (s : State) (qp : Nat) : (qpEnable s qp).power = s.power := by
  simp (maxDischargeDepth := 40) [qpEnable]
@[simp ↓] theorem qpDisable_power (s : State) (qp : Nat) : (qpDisable s qp).power = s.power := by
  simp (maxDischargeDepth := 40) [qpDisable]
@[simp ↓] theorem qpIdleCheck_power (s : State) (qp : Nat) : (qpIdleCheck s qp).power = s.power := by
  simp (maxDischargeDepth := 40) [qpIdleCheck]
@[simp ↓] theorem irqPendClear_power (s : State) (hi : Bool) (v : Nat) : (irqPendClear s hi v).power = s.power := by
  simp (maxDischargeDepth := 40) [irqPendClear]

/-! ### Flags -/

@[simp ↓] theorem pepperDisarm_power (s : State) (k : Nat) (forced : Bool) : (pepperDisarm s k forced).power = s.power := by
  simp (maxDischargeDepth := 40) [pepperDisarm]
@[simp ↓] theorem pepperFollow_power (s : State) : (pepperFollow s).power = s.power := by
  simp (maxDischargeDepth := 40) [pepperFollow]

/-! ### Rec -/

@[simp ↓] theorem recLostRuns_power (l : List (Nat × Nat)) (s : State) : (recLostRuns l s).power = s.power := by
  induction l generalizing s with
  | nil => rfl
  | cons e t ih => simp [recLostRuns, ih]
@[simp ↓] theorem recSyncs_power (n : Nat) (s : State) : (recSyncs n s).power = s.power := by
  induction n generalizing s with
  | zero => rfl
  | succ n ih => simp [recSyncs, ih]
@[simp ↓] theorem recWriteDone_power (s : State) : (recWriteDone s).power = s.power := by
  simp (maxDischargeDepth := 40) [recWriteDone]
@[simp ↓] theorem recDamage_power (s : State) (bad : List Nat) : (recDamage s bad).power = s.power := by
  simp (maxDischargeDepth := 40) [recDamage]
@[simp ↓] theorem recRead_power (bad : List Nat) (e : Entry) (s0 : State) : (recRead bad e s0).1.power = s0.power := by
  simp (maxDischargeDepth := 40) [recRead]
@[simp ↓] theorem recLog_power (e : Entry) (s : State) : (recLog e s).1.power = s.power := by
  simp (maxDischargeDepth := 40) [recLog]
@[simp ↓] theorem recSync_power (x0 : Entry) (s : State) : (recSync x0 s).1.power = s.power := by
  simp (maxDischargeDepth := 40) [recSync]
@[simp ↓] theorem drawRandom_power (s : State) : (drawRandom s).2.power = s.power := by
  simp (maxDischargeDepth := 40) [drawRandom]
@[simp ↓] theorem recClearNonce_power (e : Entry) (s : State) : (recClearNonce e s).1.power = s.power := by
  simp (maxDischargeDepth := 40) [recClearNonce]
@[simp ↓] theorem recDropNonce_power (s : State) : (recDropNonce s).power = s.power := by
  simp (maxDischargeDepth := 40) [recDropNonce]
@[simp ↓] theorem recClear_power (e : Entry) (s : State) : (recClear e s).1.power = s.power := by
  unfold recClear withBuf; dsimp only; (repeat' split) <;> simp (maxDischargeDepth := 40) [*]

/-! ### Perf -/

@[simp ↓] theorem perfCount_power (s : State) (n : Nat) (k : Nat) : (perfCount s n k).2.power = s.power := by
  simp (maxDischargeDepth := 40) [perfCount]
@[simp ↓] theorem perfSync1_power (r : List Nat × State) (n : Nat) : (perfSync1 r n).2.power = r.2.power := by
  unfold perfSync1; dsimp only; (repeat' split) <;> simp
@[simp ↓] theorem perfSnap_power (s : State) (cause : Nat) (hits : Nat) : (perfSnap s cause hits).power = s.power := by
  simp (maxDischargeDepth := 40) [perfSnap]
@[simp ↓] theorem perfFire_power (s : State) (n : Nat) : (perfFire s n).power = s.power := by
  simp (maxDischargeDepth := 40) [perfFire]
@[simp ↓] theorem perfReload_power (s : State) (n : Nat) : (perfReload s n).power = s.power := by
  simp (maxDischargeDepth := 40) [perfReload]
@[simp ↓] theorem perfSyncWith_power (s : State) (cause : Nat) : (perfSyncWith s cause).power = s.power := by
  simp [perfSyncWith, foldl_snd_power]
@[simp ↓] theorem perfSync_power (s : State) : (perfSync s).power = s.power := by
  simp (maxDischargeDepth := 40) [perfSync]
@[simp ↓] theorem perfPreset_power (s : State) (n : Nat) (v : Nat) : (perfPreset s n v).power = s.power := by
  simp (maxDischargeDepth := 40) [perfPreset]
@[simp ↓] theorem perfSnapOp_power (x0 : Entry) (s : State) : (perfSnapOp x0 s).1.power = s.power := by
  simp (maxDischargeDepth := 40) [perfSnapOp]
@[simp ↓] theorem perfEnable_power (e : Entry) (s : State) : (perfEnable e s).1.power = s.power := by
  simp (maxDischargeDepth := 40) [perfEnable]
@[simp ↓] theorem perfDisable_power (e : Entry) (s : State) : (perfDisable e s).1.power = s.power := by
  simp (maxDischargeDepth := 40) [perfDisable]

/-! ### Pepper -/

@[simp ↓] theorem pepperForce_power (s : State) : (pepperForce s).power = s.power := by simp [pepperForce]
@[simp ↓] theorem pepperEnable_power (e : Entry) (s : State) : (pepperEnable e s).1.power = s.power := by
  simp (maxDischargeDepth := 40) [pepperEnable]
@[simp ↓] theorem pepperDisable_power (e : Entry) (s : State) : (pepperDisable e s).1.power = s.power := by
  simp (maxDischargeDepth := 40) [pepperDisable]

/-! ### Tile -/

@[simp ↓] theorem tileMod_power (s : State) (k : Nat) (f : Tile → Tile) : (tileMod s k f).power = s.power := by
  simp (maxDischargeDepth := 40) [tileMod]
@[simp ↓] theorem tileStrobe_power (s : State) (k : Nat) (si : StrobeIn) : (tileStrobe s k si).power = s.power := by
  unfold tileStrobe; dsimp only; (repeat' split) <;> simp (maxDischargeDepth := 40) [*]
@[simp ↓] theorem hdrErr_power (s : State) (k : Nat) (chk : FrameChk) : (hdrErr s k chk).power = s.power := by
  unfold hdrErr; split <;> simp (maxDischargeDepth := 40) [*]
@[simp ↓] theorem tileFrame_power (s : State) (k : Nat) (chk : FrameChk) (payload : Bool) (act : Tile → Tile) : (tileFrame s k chk payload act).power = s.power := by
  simp (maxDischargeDepth := 40) [tileFrame]

/-! ### Chain -/

@[simp ↓] theorem launch_power (s : State) (portB : Bool) (ty : Nat) (count : Nat) (snum : Nat) (arg : Nat) (payload : List Byte) : (launch s portB ty count snum arg payload).power = s.power := by
  simp (maxDischargeDepth := 40) [launch]
@[simp ↓] theorem launchRead_power (s : State) (portB : Bool) (ty : Nat) (snum : Nat) (mask : Nat) : (launchRead s portB ty snum mask).power = s.power := by
  simp (maxDischargeDepth := 40) [launchRead]
@[simp ↓] theorem launchProbe_power (s : State) : (launchProbe s).power = s.power := by
  simp (maxDischargeDepth := 40) [launchProbe]
@[simp ↓] theorem launchSample_power (s : State) (portB : Bool) (snum : Nat) (mask : Nat) : (launchSample s portB snum mask).power = s.power := by
  simp (maxDischargeDepth := 40) [launchSample]
@[simp ↓] theorem instLaunch_power (s : State) (snum : Nat) : (instLaunch s snum).power = s.power := by
  simp (maxDischargeDepth := 40) [instLaunch]
@[simp ↓] theorem wakeWalk_power (s : State) (ks : List (Nat × Nat)) : (wakeWalk s ks).power = s.power := by
  induction ks generalizing s with
  | nil => rfl
  | cons k t ih => unfold wakeWalk; split <;> simp [ih]
@[simp ↓] theorem chainReport_power (s : State) (kind : Nat) (tile : Nat) (missing : Nat) (sig : Nat) : (chainReport s kind tile missing sig).power = s.power := by
  simp (maxDischargeDepth := 40) [chainReport]
@[simp ↓] theorem enumWalk_power (s : State) (up : Bool) (ks : List Nat) (i : Nat) (j : List Nat) :
    (enumWalk s up ks i j).1.power = s.power := by
  induction ks generalizing s i j with
  | nil => rfl
  | cons k t ih => simp [enumWalk, ih]
@[simp ↓] theorem enumPass_power (s : State) (portB : Bool) : (enumPass s portB).1.power = s.power := by
  unfold enumPass; dsimp only; simp
@[simp ↓] theorem afterEnum_power (s : State) : (afterEnum s).power = s.power := by
  simp (maxDischargeDepth := 40) [afterEnum]
@[simp ↓] theorem trimCheck_power (s : State) (p : Nat) : (trimCheck s p).power = s.power := by
  unfold trimCheck; (repeat' split) <;> simp (maxDischargeDepth := 40) [*]
@[simp ↓] theorem dlyWrite_power (s : State) : (dlyWrite s).power = s.power := by
  simp (maxDischargeDepth := 40) [dlyWrite]
@[simp ↓] theorem dlyForce_power (s : State) (ds : List (Nat × Nat × Nat)) : (dlyForce s ds).power = s.power := by
  simp (maxDischargeDepth := 40) [dlyForce]
@[simp ↓] theorem dlyNominal_power (s : State) : (dlyNominal s).power = s.power := by
  simp (maxDischargeDepth := 40) [dlyNominal]
@[simp ↓] theorem dlyMarks_power (s : State) (marks : List (Option Nat)) : (dlyMarks s marks).power = s.power := by
  simp (maxDischargeDepth := 40) [dlyMarks]
@[simp ↓] theorem dlyMeasured_power (s0 : State) (tAB : Nat) (tBA : Nat) (marks : List (Option Nat)) : (dlyMeasured s0 tAB tBA marks).power = s0.power := by
  simp (maxDischargeDepth := 40) [dlyMeasured]
@[simp ↓] theorem dlyRun_power (s : State) (tAB : Nat) (tBA : Nat) (marks : List (Option Nat)) : (dlyRun s tAB tBA marks).power = s.power := by
  simp (maxDischargeDepth := 40) [dlyRun]
@[simp ↓] theorem dlyPartner_power (s : State) : (dlyPartner s).power = s.power := by
  simp (maxDischargeDepth := 40) [dlyPartner]
@[simp ↓] theorem ringOpen_power (s : State) : (ringOpen s).power = s.power := by
  simp (maxDischargeDepth := 40) [ringOpen]
@[simp ↓] theorem locate_power (s : State) : (locate s).power = s.power := by
  simp (maxDischargeDepth := 40) [locate]
@[simp ↓] theorem slotReturn_power (s : State) (pos : Nat) (bs : List Byte) (hold : Bool) : (slotReturn s pos bs hold).power = s.power := by
  simp (maxDischargeDepth := 40) [slotReturn]
@[simp ↓] theorem readOff_power (s : State) (p : Nat) : (readOff s p).power = s.power := by
  simp (maxDischargeDepth := 40) [readOff]
@[simp ↓] theorem portCode_power (s : State) (portB : Bool) (n : Nat) : (portCode s portB n).power = s.power := by
  simp (maxDischargeDepth := 40) [portCode]
@[simp ↓] theorem readSlot_power (s : State) (k : Nat) (sinceNs : Nat) (fate : SlotFate) (hold : Bool) : (readSlot s k sinceNs fate hold).power = s.power := by
  unfold readSlot; (repeat' split) <;> simp (maxDischargeDepth := 40) [*]
@[simp ↓] theorem holdLaunch_power (s : State) (portB : Bool) (mask : Nat) : (holdLaunch s portB mask).power = s.power := by
  unfold holdLaunch; split <;> simp (maxDischargeDepth := 40) [*]
@[simp ↓] theorem chainTileRd_power (e : Entry) (s : State) : (chainTileRd e s).1.power = s.power := by
  unfold chainTileRd; (repeat' split) <;> simp (maxDischargeDepth := 40) [*]
@[simp ↓] theorem chainProbe_power (x0 : Entry) (s : State) : (chainProbe x0 s).1.power = s.power := by
  simp (maxDischargeDepth := 40) [chainProbe]
@[simp ↓] theorem chainDlyMeasure_power (tAB : Nat) (tBA : Nat) (marks : List (Option Nat)) (x0 : Entry) (s : State) : (chainDlyMeasure tAB tBA marks x0 s).1.power = s.power := by
  simp (maxDischargeDepth := 40) [chainDlyMeasure]
@[simp ↓] theorem chainTileSnap_power (e : Entry) (s : State) : (chainTileSnap e s).1.power = s.power := by
  simp (maxDischargeDepth := 40) [chainTileSnap]
@[simp ↓] theorem hopCut_power (s : State) (h : Nat) : (hopCut s h).power = s.power := by
  simp (maxDischargeDepth := 40) [hopCut]
@[simp ↓] theorem tileLoses_power (s : State) (k : Nat) (x3 : Bool) (codes : Nat) : (tileLoses s k x3 codes).power = s.power := by
  simp (maxDischargeDepth := 40) [tileLoses]

/-! ### Meas -/

@[simp ↓] theorem measSupersede_power (s : State) : (measSupersede s).power = s.power := by
  simp (maxDischargeDepth := 40) [measSupersede]
@[simp ↓] theorem measPend_power (s : State) (p : MeasPend) : (measPend s p).1.power = s.power := by
  simp (maxDischargeDepth := 40) [measPend]
@[simp ↓] theorem measCommit_power (e : Entry) (s : State) : (measCommit e s).1.power = s.power := by
  unfold measCommit withBuf; dsimp only; (repeat' split) <;> simp (maxDischargeDepth := 40) [*]
@[simp ↓] theorem measRevert_power (x0 : Entry) (s : State) : (measRevert x0 s).1.power = s.power := by
  simp (maxDischargeDepth := 40) [measRevert]
@[simp ↓] theorem carrierFollow_power (s : State) : (carrierFollow s).power = s.power := by
  simp (maxDischargeDepth := 40) [carrierFollow]
@[simp ↓] theorem sweepItems_power (s : State) : (sweepItems s).power = s.power := by
  simp (maxDischargeDepth := 40) [sweepItems]
@[simp ↓] theorem measBoundary_power (s : State) : (measBoundary s).power = s.power := by
  unfold measBoundary; dsimp only; (repeat' split) <;> simp (maxDischargeDepth := 40) [*]
@[simp ↓] theorem measSkip_power (s : State) (gap : Int) : (measSkip s gap).power = s.power := by
  simp (maxDischargeDepth := 40) [measSkip]
@[simp ↓] theorem measDrop_power (s : State) (n : Nat) : (measDrop s n).power = s.power := by
  induction n generalizing s with
  | zero => rfl
  | succ n ih => unfold measDrop; (repeat' split) <;> simp [ih]
@[simp ↓] theorem carrierChange_power (s : State) : (carrierChange s).power = s.power := by
  unfold carrierChange; split
  · rfl
  · exact measDrop_power _ _
@[simp ↓] theorem measQuarter_power (qp : Nat) (e : Entry) (s : State) : (measQuarter qp e s).1.power = s.power := by
  simp (maxDischargeDepth := 40) [measQuarter]

/-! ### Hvm -/

@[simp ↓] theorem hvmShow_power (s : State) : (hvmShow s).power = s.power := by
  simp (maxDischargeDepth := 40) [hvmShow]
@[simp ↓] theorem hallFollow_power (s : State) (sig : Int) (ref : Int) : (hallFollow s sig ref).power = s.power := by
  simp (maxDischargeDepth := 40) [hallFollow]
@[simp ↓] theorem shuntFault_power (s : State) (cm : Bool) : (shuntFault s cm).power = s.power := by
  simp (maxDischargeDepth := 40) [shuntFault]
@[simp ↓] theorem overCount_power (s : State) (n : Nat) (now : Bool) : (overCount s n now).power = s.power := by
  simp (maxDischargeDepth := 40) [overCount]
@[simp ↓] theorem hvmTake_power (s : State) (hv : HvmIn) : (hvmTake s hv).power = s.power := by
  simp (maxDischargeDepth := 40) [hvmTake]
@[simp ↓] theorem hvmWrite_power (s : State) (bs : List Byte) : (hvmWrite s bs).power = s.power := by
  simp (maxDischargeDepth := 40) [hvmWrite]
@[simp ↓] theorem isoBegin_power (s : State) : (isoBegin s).power = s.power := by
  simp (maxDischargeDepth := 40) [isoBegin]
@[simp ↓] theorem isoNext_power (s : State) : (isoNext s).power = s.power := by
  simp (maxDischargeDepth := 40) [isoNext]
@[simp ↓] theorem isoQuiet_power (s : State) : (isoQuiet s).power = s.power := by
  simp (maxDischargeDepth := 40) [isoQuiet]
@[simp ↓] theorem isoAbort_power (s : State) : (isoAbort s).power = s.power := by
  simp (maxDischargeDepth := 40) [isoAbort]
@[simp ↓] theorem isoPhase_power (s : State) (vc : Int) (u100 : Int) (moved : Int) (uMin : Int) : (isoPhase s vc u100 moved uMin).power = s.power := by
  unfold isoPhase; split <;> simp (maxDischargeDepth := 40) [*]
@[simp ↓] theorem isoEnd_power (s : State) : (isoEnd s).power = s.power := by
  unfold isoEnd; dsimp only; (repeat' split) <;> simp (maxDischargeDepth := 40) [*]
@[simp ↓] theorem hvmStart_power (s : State) : (hvmStart s).power = s.power := by
  simp (maxDischargeDepth := 40) [hvmStart]

/-! ### Bal -/

@[simp ↓] theorem balWrite_power (s : State) (p : Nat) (new : List Nat) : (balWrite s p new).power = s.power := by
  unfold balWrite; split <;> simp (maxDischargeDepth := 40) [*]
@[simp ↓] theorem tileAtPos_power (s : State) (p : Nat) (f : Tile → Tile) : (tileAtPos s p f).power = s.power := by
  unfold tileAtPos; split <;> simp (maxDischargeDepth := 40) [*]
@[simp ↓] theorem balSetTimers_power (e : Entry) (s : State) : (balSetTimers e s).1.power = s.power := by
  unfold balSetTimers withBuf; dsimp only; (repeat' split) <;> simp (maxDischargeDepth := 40) [*]
@[simp ↓] theorem balStop_power (e : Entry) (s : State) : (balStop e s).1.power = s.power := by
  simp (maxDischargeDepth := 40) [balStop]
@[simp ↓] theorem balSnapOp_power (e : Entry) (s : State) : (balSnapOp e s).1.power = s.power := by
  simp (maxDischargeDepth := 40) [balSnapOp]
@[simp ↓] theorem balTapCal_power (iMa : Int) (e : Entry) (s : State) : (balTapCal iMa e s).1.power = s.power := by
  simp (maxDischargeDepth := 40) [balTapCal]
@[simp ↓] theorem calFinish_power (s : State) (status : Nat) (result : Nat) (buf : List Byte) : (calFinish s status result buf).power = s.power := by
  unfold calFinish; split <;> simp (maxDischargeDepth := 40) [*]
@[simp ↓] theorem balCalDone_power (s : State) (iMax vMin vMax : Nat) (steps : List (List CalStep)) (tcals : List Nat) :
    (balCalDone s iMax vMin vMax steps tcals).power = s.power := by
  unfold balCalDone
  split
  · rfl
  · dsimp only; split
    · simp
    · refine (calFinish_power _ _ _ _).trans ?_
      simp
@[simp ↓] theorem balRoundTile_power (elapsed : Nat) (s : State) (p : Nat) : (balRoundTile elapsed s p).power = s.power := by
  unfold balRoundTile; split <;> simp (maxDischargeDepth := 40) [*]
@[simp ↓] theorem balRound_power (s : State) (elapsed : Nat) : (balRound s elapsed).power = s.power := by
  simp (maxDischargeDepth := 40) [balRound]

/-! ### Est -/

@[simp ↓] theorem eisSaveOfs_power (s : State) : (eisSaveOfs s).power = s.power := by
  simp (maxDischargeDepth := 40) [eisSaveOfs]
@[simp ↓] theorem estSnapshot_power (s0 : State) (kind : Nat) : (estSnapshot s0 kind).2.power = s0.power := by
  simp (maxDischargeDepth := 40) [estSnapshot]
@[simp ↓] theorem recsUnder_power (s : State) (ch : Chem) : (recsUnder s ch).power = s.power := by
  simp (maxDischargeDepth := 40) [recsUnder]
@[simp ↓] theorem estCommitNow_power (s0 : State) : (estCommitNow s0).power = s0.power := by
  unfold estCommitNow; split <;> simp (maxDischargeDepth := 40) [*]
@[simp ↓] theorem estStart_power (s : State) : (estStart s).power = s.power := by
  unfold estStart; dsimp only; (repeat' split) <;> simp (maxDischargeDepth := 40) [*]
@[simp ↓] theorem sopInvalid_power (s : State) : (sopInvalid s).power = s.power := by
  simp (maxDischargeDepth := 40) [sopInvalid]
@[simp ↓] theorem estEnable_power (x0 : Entry) (s : State) : (estEnable x0 s).1.power = s.power := by
  simp (maxDischargeDepth := 40) [estEnable]
@[simp ↓] theorem estDisable_power (x0 : Entry) (s : State) : (estDisable x0 s).1.power = s.power := by
  simp (maxDischargeDepth := 40) [estDisable]
@[simp ↓] theorem estCommit_power (e : Entry) (s : State) : (estCommit e s).1.power = s.power := by
  unfold estCommit; dsimp only; (repeat' split) <;> simp (maxDischargeDepth := 40) [*]
@[simp ↓] theorem estCellReset_power (e : Entry) (s : State) : (estCellReset e s).1.power = s.power := by
  simp (maxDischargeDepth := 40) [estCellReset]
@[simp ↓] theorem estSnapshotOp_power (x0 : Entry) (s : State) : (estSnapshotOp x0 s).1.power = s.power := by
  simp (maxDischargeDepth := 40) [estSnapshotOp]
@[simp ↓] theorem estCounts_power (s : State) (decided : Bool) : (estCounts s decided).power = s.power := by
  simp (maxDischargeDepth := 40) [estCounts]
@[simp ↓] theorem estCycleWith_power (s0 : State) (ch : Chem) (w : EstWin) (iWin : Int) (alt : Bool) : (estCycleWith s0 ch w iWin alt).power = s0.power := by
  simp (maxDischargeDepth := 40) [estCycleWith]
@[simp ↓] theorem estCycleRun_power (s : State) (w : EstWin) (iWin : Int) (alt : Bool) : (estCycleRun s w iWin alt).power = s.power := by
  unfold estCycleRun; dsimp only; (repeat' split) <;> simp (maxDischargeDepth := 40) [*]
@[simp ↓] theorem estCycle_power (s : State) : (estCycle s).power = s.power := by
  unfold estCycle; (repeat' split) <;> simp (maxDischargeDepth := 40) [*]
@[simp ↓] theorem sopEval_power (s : State) : (sopEval s).power = s.power := by
  unfold sopEval; (repeat' split) <;> simp (maxDischargeDepth := 40) [*]
@[simp ↓] theorem estFlag_power (s : State) (c : Nat) (f : EstCell → EstCell) : (estFlag s c f).power = s.power := by
  simp (maxDischargeDepth := 40) [estFlag]

/-! ### Eis -/

@[simp ↓] theorem eisShow_power (s : State) : (eisShow s).power = s.power := by
  simp (maxDischargeDepth := 40) [eisShow]
@[simp ↓] theorem eisSeen_power (s : State) (accum : Bool) (exc : Bool) : (eisSeen s accum exc).power = s.power := by
  simp (maxDischargeDepth := 40) [eisSeen]
@[simp ↓] theorem eisComDone_power (s : State) (first : Option Nat) : (eisComDone s first).power = s.power := by
  simp (maxDischargeDepth := 40) [eisComDone]
@[simp ↓] theorem eisBegin_power (s0 : State) (per : Nat) (snum : Nat) : (eisBegin s0 per snum).power = s0.power := by
  unfold eisBegin; dsimp only; (repeat' split) <;> simp (maxDischargeDepth := 40) [*]
@[simp ↓] theorem eisPlan_power (s : State) (p : Option (List Byte)) (t : Option (List Byte)) (rst : Bool) : (eisPlan s p t rst).power = s.power := rfl
@[simp ↓] theorem eisTake_power (s : State) (p : List Byte) (t : Option (List Byte)) (rst : Bool) : (eisTake s p t rst).power = s.power := by
  simp (maxDischargeDepth := 40) [eisTake]
@[simp ↓] theorem eisCommitNow_power (s : State) : (eisCommitNow s).power = s.power := by
  unfold eisCommitNow; dsimp only; (repeat' split) <;> simp (maxDischargeDepth := 40) [*]
@[simp ↓] theorem eisWrite_power (s : State) (bs : List Byte) : (eisWrite s bs).power = s.power := by
  simp (maxDischargeDepth := 40) [eisWrite]
@[simp ↓] theorem eisOver_power (s : State) : (eisOver s).power = s.power := by
  simp (maxDischargeDepth := 40) [eisOver]
@[simp ↓] theorem eisAbandon_power (s : State) : (eisAbandon s).power = s.power := by
  unfold eisAbandon; split <;> simp (maxDischargeDepth := 40) [*]
@[simp ↓] theorem eisIntEnd_power (s : State) : (eisIntEnd s).power = s.power := by
  unfold eisIntEnd; dsimp only; (repeat' split) <;> simp (maxDischargeDepth := 40) [*]
@[simp ↓] theorem eisSegEnd_power (s : State) : (eisSegEnd s).power = s.power := by
  unfold eisSegEnd; split <;> simp (maxDischargeDepth := 40) [*]
@[simp ↓] theorem eisStep_power (s : State) (q : Nat) (sm : Option EisSample) : (eisStep s q sm).power = s.power := by
  unfold eisStep; split <;> simp (maxDischargeDepth := 40) [*]
@[simp ↓] theorem eisDrop_power (s : State) : (eisDrop s).power = s.power := by
  simp (maxDischargeDepth := 40) [eisDrop]
@[simp ↓] theorem eisAbsent_power (s : State) (n : Nat) : (eisAbsent s n).power = s.power := by
  induction n generalizing s with
  | zero => rfl
  | succ n ih => unfold eisAbsent; split <;> simp [ih]
@[simp ↓] theorem eisAbsentSegs_power (s : State) (k : Nat) : (eisAbsentSegs s k).power = s.power := by
  unfold eisAbsentSegs; split <;> simp (maxDischargeDepth := 40) [*]
@[simp ↓] theorem eisHalt_power (s : State) : (eisHalt s).power = s.power := by
  simp (maxDischargeDepth := 40) [eisHalt]
@[simp ↓] theorem eisSwitch_power (s : State) : (eisSwitch s).power = s.power := by
  simp (maxDischargeDepth := 40) [eisSwitch]
@[simp ↓] theorem eisFollow_power (s : State) : (eisFollow s).power = s.power := by
  simp (maxDischargeDepth := 40) [eisFollow]
@[simp ↓] theorem eisGap_power (s : State) (q : Nat) : (eisGap s q).power = s.power := by
  unfold eisGap
  extract_lets nxt gap total head
  generalize (q + 2 ^ 32 - 1) % 2 ^ 32 = x
  split
  · rfl
  · exact (eisAbsent_power _ _).trans ((eisAbsentSegs_power _ _).trans (eisAbsent_power _ _))
@[simp ↓] theorem eisHold_power (s4 : State) (q : Nat) (sm : EisSample) : (eisHold s4 q sm).power = s4.power := by
  simp (maxDischargeDepth := 40) [eisHold]
@[simp ↓] theorem eisLive_power (s4 : State) (q : Nat) (sm : EisSample) : (eisLive s4 q sm).power = s4.power := by
  simp (maxDischargeDepth := 40) [eisLive]
@[simp ↓] theorem eisTaken_power (s2 : State) (per : Nat) (q : Nat) (sm : EisSample) : (eisTaken s2 per q sm).power = s2.power := by
  simp (maxDischargeDepth := 40) [eisTaken]
@[simp ↓] theorem eisSweep_power (s : State) (q : Nat) (sm : EisSample) : (eisSweep s q sm).power = s.power := by
  unfold eisSweep; dsimp only; (repeat' split) <;> simp (maxDischargeDepth := 40) [*]
@[simp ↓] theorem eisEnable_power (x0 : Entry) (s : State) : (eisEnable x0 s).1.power = s.power := by
  simp (maxDischargeDepth := 40) [eisEnable]
@[simp ↓] theorem eisDisable_power (x0 : Entry) (s : State) : (eisDisable x0 s).1.power = s.power := by
  simp (maxDischargeDepth := 40) [eisDisable]
@[simp ↓] theorem planTake_power (s : State) (p : List Byte) (t : Option (List Byte)) (rst : Bool) : (planTake s p t rst).1.power = s.power := by
  simp (maxDischargeDepth := 40) [planTake]
@[simp ↓] theorem eisPlanCommit_power (e : Entry) (s : State) : (eisPlanCommit e s).1.power = s.power := by
  unfold eisPlanCommit; dsimp only; (repeat' split) <;> simp (maxDischargeDepth := 40) [*]

/-! ### Therm -/

@[simp ↓] theorem heaterFollow_power (s : State) : (heaterFollow s).power = s.power := by
  simp (maxDischargeDepth := 40) [heaterFollow]
@[simp ↓] theorem actShow_power (s : State) : (actShow s).power = s.power := by
  simp (maxDischargeDepth := 40) [actShow]
@[simp ↓] theorem writeWindow_power (s : State) (code : Nat) : (writeWindow s code).power = s.power := by
  simp (maxDischargeDepth := 40) [writeWindow]
@[simp ↓] theorem thermModule_power (s : State) (x : ThermIn) : (thermModule s x).power = s.power := by
  simp (maxDischargeDepth := 40) [thermModule]
@[simp ↓] theorem thermTiles_power (s : State) (house : Bool) (dtMs : Nat) : (thermTiles s house dtMs).power = s.power := by
  simp (maxDischargeDepth := 40) [thermTiles]
@[simp ↓] theorem thermMasks_power (s : State) : (thermMasks s).power = s.power := by
  simp (maxDischargeDepth := 40) [thermMasks]
@[simp ↓] theorem thermHotShow_power (s : State) (b : (Int × Nat) × (Int × Nat)) : (thermHotShow s b).power = s.power := by
  simp (maxDischargeDepth := 40) [thermHotShow]
@[simp ↓] theorem thermForbids_power (s3 : State) (tHi : Int) (tLo : Int) (hot : Bool) (valid : Bool) (lim : Nat × Nat) : (thermForbids s3 tHi tLo hot valid lim).power = s3.power := by
  simp (maxDischargeDepth := 40) [thermForbids]
@[simp ↓] theorem thermLimits_power (s : State) (tbs : List Int) (hot : Bool) (dtMs : Nat) : (thermLimits s tbs hot dtMs).power = s.power := by
  simp (maxDischargeDepth := 40) [thermLimits]
@[simp ↓] theorem thermReport_power (s : State) : (thermReport s).power = s.power := by
  simp (maxDischargeDepth := 40) [thermReport]
@[simp ↓] theorem thermDeliver_power (s : State) (outs : List (Int × Bool)) : (thermDeliver s outs).power = s.power := by
  simp (maxDischargeDepth := 40) [thermDeliver]
@[simp ↓] theorem thermDrive_power (s : State) : (thermDrive s).power = s.power := by
  simp (maxDischargeDepth := 40) [thermDrive]
@[simp ↓] theorem thermRound_power (s : State) (x : ThermIn) (house : Bool) : (thermRound s x house).power = s.power := by
  simp (maxDischargeDepth := 40) [thermRound]
@[simp ↓] theorem thermEnable_power (e : Entry) (s : State) : (thermEnable e s).1.power = s.power := by
  simp (maxDischargeDepth := 40) [thermEnable]
@[simp ↓] theorem thermDisable_power (e : Entry) (s : State) : (thermDisable e s).1.power = s.power := by
  simp (maxDischargeDepth := 40) [thermDisable]

/-! ### Ctrl -/

@[simp ↓] theorem lcMod_power (s : State) (n : Nat) (f : LcSt → LcSt) : (lcMod s n f).power = s.power := by
  simp (maxDischargeDepth := 40) [lcMod]
@[simp ↓] theorem lcPut_power (s : State) (n : Nat) (st : Nat) : (lcPut s n st).power = s.power := by
  simp (maxDischargeDepth := 40) [lcPut]
@[simp ↓] theorem pwmShow_power (s : State) : (pwmShow s).power = s.power := by
  simp (maxDischargeDepth := 40) [pwmShow]
@[simp ↓] theorem pwmOff_power (s : State) : (pwmOff s).power = s.power := by
  simp (maxDischargeDepth := 40) [pwmOff]
@[simp ↓] theorem lcOpen_power (s : State) (n : Nat) (why : Nat) (held : Bool) : (lcOpen s n why held).power = s.power := by
  simp (maxDischargeDepth := 40) [lcOpen]
@[simp ↓] theorem lcOpenChain_power (s : State) (why : Nat) (zero : Bool) : (lcOpenChain s why zero).2.power = s.power := by
  unfold lcOpenChain; rw [foldl_snd_power]; intro r x; dsimp only; (repeat' split) <;> simp
@[simp ↓] theorem pwmInhibit_power (s : State) : (pwmInhibit s).power = s.power := by
  simp (maxDischargeDepth := 40) [pwmInhibit]
@[simp ↓] theorem psTrip_power (s : State) (why : Nat) (fc : Fld) (fp : Fld) (leg : Nat) : (psTrip s why fc fp leg).power = s.power := by
  simp (maxDischargeDepth := 40) [psTrip]
@[simp ↓] theorem limShow_power (s : State) : (limShow s).power = s.power := by
  simp (maxDischargeDepth := 40) [limShow]
@[simp ↓] theorem dispShow_power (s : State) : (dispShow s).power = s.power := by
  simp [dispShow, dispShow.setPairReg]
@[simp ↓] theorem dispRevoke_power (s : State) : (dispRevoke s).power = s.power := by
  unfold dispRevoke; (repeat' split) <;> simp (maxDischargeDepth := 40) [*]
@[simp ↓] theorem grantPut_power (s : State) (g : Grant) : (grantPut s g).power = s.power := by
  simp (maxDischargeDepth := 40) [grantPut]
@[simp ↓] theorem grantDue_power (s : State) (l : List (Nat × Grant)) : (grantDue s l).power = s.power := by
  induction l generalizing s with
  | nil => rfl
  | cons x t ih => unfold grantDue; (repeat' split) <;> simp [ih]
@[simp ↓] theorem dispStart_power (s : State) : (dispStart s).power = s.power := by
  simp (maxDischargeDepth := 40) [dispStart]
@[simp ↓] theorem lcShow_power (s : State) (n : Nat) (c : LcSt) (t : Int) (y : Int) (x : LoopIn) (u : Word) (limited : Bool) : (lcShow s n c t y x u limited).power = s.power := by
  simp (maxDischargeDepth := 40) [lcShow]
@[simp ↓] theorem lcArrive_power (s : State) (n : Nat) : (lcArrive s n).power = s.power := by
  simp (maxDischargeDepth := 40) [lcArrive]
@[simp ↓] theorem lcFail_power (s : State) (n : Nat) (check : Nat) : (lcFail s n check).power = s.power := by
  simp (maxDischargeDepth := 40) [lcFail]
@[simp ↓] theorem lcModel_power (s : State) (n : Nat) (dt : Word) (y : Word) : (lcModel s n dt y).power = s.power := by
  simp (maxDischargeDepth := 40) [lcModel]
@[simp ↓] theorem supCheck_power (s : State) (x : CtrlIn) (iHall : Int) : (supCheck s x iHall).power = s.power := by
  simp (maxDischargeDepth := 40) [supCheck]
@[simp ↓] theorem lcCycle_power (s : State) (n : Nat) (x : CtrlIn) (dt : Word) : (lcCycle s n x dt).power = s.power := by
  simp (maxDischargeDepth := 40) [lcCycle]
@[simp ↓] theorem lcCycles_power (s : State) (x : CtrlIn) (slow : Bool) (dt : Word) : (lcCycles s x slow dt).power = s.power := by
  simp (maxDischargeDepth := 40) [lcCycles]
@[simp ↓] theorem loopTake_power (s : State) : (loopTake s).power = s.power := by
  simp (maxDischargeDepth := 40) [loopTake]
@[simp ↓] theorem legCurrents_power (s : State) (uvs : List Int) : (legCurrents s uvs).1.power = s.power := by
  simp (maxDischargeDepth := 40) [legCurrents]
@[simp ↓] theorem dutySet_power (s : State) (ds : List Word) : (dutySet s ds).power = s.power := by
  simp (maxDischargeDepth := 40) [dutySet]
@[simp ↓] theorem ocvTerm_power (s : State) (y : Int) : (ocvTerm s y).2.power = s.power := by
  simp (maxDischargeDepth := 40) [ocvTerm]
@[simp ↓] theorem lc0Loop_power (s0 : State) (x : Lc0In) (vLink : Int) : (lc0Loop s0 x vLink).power = s0.power := by
  simp (maxDischargeDepth := 40) [lc0Loop]
@[simp ↓] theorem lc0Cycle_power (s : State) (x : Lc0In) : (lc0Cycle s x).power = s.power := by
  unfold lc0Cycle; (repeat' split) <;> simp (maxDischargeDepth := 40) [*]
@[simp ↓] theorem carrierValley_power (s : State) (leg : Nat) (ready : Bool) : (carrierValley s leg ready).power = s.power := by
  simp (maxDischargeDepth := 40) [carrierValley]
@[simp ↓] theorem gapEnd_power (s : State) (strobe : Bool) : (gapEnd s strobe).power = s.power := by
  unfold gapEnd; split <;> simp (maxDischargeDepth := 40) [*]
@[simp ↓] theorem lcClose_power (s : State) (n : Nat) : (lcClose s n).power = s.power := by
  simp (maxDischargeDepth := 40) [lcClose]
@[simp ↓] theorem lcEnable_power (n : Nat) (s : State) : (lcEnable n s).1.power = s.power := by
  unfold lcEnable; (repeat' split) <;> simp (maxDischargeDepth := 40) [*]
@[simp ↓] theorem lcDisable_power (n : Nat) (s : State) : (lcDisable n s).1.power = s.power := by
  simp (maxDischargeDepth := 40) [lcDisable]
@[simp ↓] theorem lcStop_power (n : Nat) (x0 : Entry) (s : State) : (lcStop n x0 s).1.power = s.power := by
  simp (maxDischargeDepth := 40) [lcStop]
@[simp ↓] theorem lcSetRef_power (n : Nat) (e : Entry) (s : State) : (lcSetRef n e s).1.power = s.power := by
  simp (maxDischargeDepth := 40) [lcSetRef]
@[simp ↓] theorem lcSetDispatch_power (n : Nat) (e : Entry) (s : State) : (lcSetDispatch n e s).1.power = s.power := by
  simp (maxDischargeDepth := 40) [lcSetDispatch]
@[simp ↓] theorem dispExpire_power (s0 : State) : (dispExpire s0).power = s0.power := by
  unfold dispExpire; dsimp only; (repeat' split) <;> simp (maxDischargeDepth := 40) [*]
@[simp ↓] theorem powerRequest_power (s : State) (sender : Nat) (req : List Byte) : (powerRequest s sender req).power = s.power := by
  simp (maxDischargeDepth := 40) [powerRequest]
@[simp ↓] theorem dispRevise_power (s0 : State) : (dispRevise s0).power = s0.power := by
  unfold dispRevise; dsimp only; (repeat' split) <;> simp (maxDischargeDepth := 40) [*]
@[simp ↓] theorem ctrlStandby_power (s : State) : (ctrlStandby s).power = s.power := by
  simp (maxDischargeDepth := 40) [ctrlStandby]
@[simp ↓] theorem lcResume_power (mirs : Option (List LcMirror)) (duty0 : Nat) (s : State) (n : Nat) : (lcResume mirs duty0 s n).power = s.power := by
  unfold lcResume; (repeat' split) <;> simp (maxDischargeDepth := 40) [*]
@[simp ↓] theorem ctrlActive_power (s : State) (mirs : Option (List LcMirror)) (duty0 : Nat) (grant : Option Grant) : (ctrlActive s mirs duty0 grant).power = s.power := by
  simp (maxDischargeDepth := 40) [ctrlActive]
@[simp ↓] theorem pwmEnable_power (s : State) : (pwmEnable s).1.power = s.power := by
  unfold pwmEnable; (repeat' split) <;> simp (maxDischargeDepth := 40) [*]
@[simp ↓] theorem pwmDisable_power (s : State) : (pwmDisable s).1.power = s.power := by
  simp (maxDischargeDepth := 40) [pwmDisable]

/-! ### Can -/

@[simp ↓] theorem canMod_power (s : State) (n : Nat) (f : CanCtl → CanCtl) : (canMod s n f).power = s.power := by
  simp (maxDischargeDepth := 40) [canMod]
@[simp ↓] theorem objMod_power (s : State) (n : Nat) (k : Nat) (f : CanObj → CanObj) : (objMod s n k f).power = s.power := by
  simp (maxDischargeDepth := 40) [objMod]
@[simp ↓] theorem setPend_power (s : State) (n : Nat) (k : Nat) (b : Bool) : (setPend s n k b).power = s.power := by
  simp (maxDischargeDepth := 40) [setPend]
@[simp ↓] theorem canRecord_power (s : State) (n : Nat) (time : Nat) (kind : Nat) (obj : Nat) (ff : Nat) (dlc : Nat) (id : Nat) (info : Nat) (data : List Byte) : (canRecord s n time kind obj ff dlc id info data).power = s.power := by
  simp (maxDischargeDepth := 40) [canRecord]
@[simp ↓] theorem objRecord_power (s : State) (n : Nat) (k : Nat) (kind : Nat) (time : Nat) (data : List Byte) (attempts : Nat) : (objRecord s n k kind time data attempts).power = s.power := by
  simp (maxDischargeDepth := 40) [objRecord]
@[simp ↓] theorem canState_power (s : State) (n : Nat) : (canState s n).power = s.power := by
  simp (maxDischargeDepth := 40) [canState]
@[simp ↓] theorem canFollow_power (s : State) (n : Nat) : (canFollow s n).power = s.power := by
  simp (maxDischargeDepth := 40) [canFollow]
@[simp ↓] theorem canNotAlone_power (s : State) (n : Nat) : (canNotAlone s n).power = s.power := by
  simp (maxDischargeDepth := 40) [canNotAlone]
@[simp ↓] theorem rxGood_power (s : State) (n : Nat) : (rxGood s n).power = s.power := by
  simp (maxDischargeDepth := 40) [rxGood]
@[simp ↓] theorem canErrFrame_power (s : State) (n : Nat) (code : Nat) (dataPhase : Bool) (tx : Bool) : (canErrFrame s n code dataPhase tx).power = s.power := by
  simp (maxDischargeDepth := 40) [canErrFrame]
@[simp ↓] theorem canPxe_power (s : State) (n : Nat) : (canPxe s n).power = s.power := by
  simp (maxDischargeDepth := 40) [canPxe]
@[simp ↓] theorem canRxError_power (s : State) (n : Nat) (code : Nat) (dataPhase : Bool) (add : Nat) : (canRxError s n code dataPhase add).power = s.power := by
  simp (maxDischargeDepth := 40) [canRxError]
@[simp ↓] theorem canExcept_power (s : State) (n : Nat) : (canExcept s n).power = s.power := by
  simp (maxDischargeDepth := 40) [canExcept]
@[simp ↓] theorem imgWrite_power (s : State) (n : Nat) (k : Nat) (fr : CanFrame) : (imgWrite s n k fr).power = s.power := by
  simp (maxDischargeDepth := 40) [imgWrite]
theorem canOffer_power (s : State) (n : Nat) (fr : CanFrame) (stl : Nat → List Byte → State → State)
    (hs : ∀ k d s, (stl k d s).power = s.power) : (canOffer s n fr stl).power = s.power := by
  unfold canOffer; (repeat' split) <;> simp [hs]
theorem canReceive_power (s : State) (n : Nat) (fr : CanFrame) (stl : Nat → List Byte → State → State)
    (hs : ∀ k d s, (stl k d s).power = s.power) : (canReceive s n fr stl).power = s.power := by
  have ho := fun s => canOffer_power s n fr stl hs
  unfold canReceive; (repeat' split) <;> simp [ho]
@[simp ↓] theorem canAttempt_power (s : State) (n : Nat) : (canAttempt s n).power = s.power := by
  unfold canAttempt; (repeat' split) <;> simp (maxDischargeDepth := 40) [*]
@[simp ↓] theorem objDone_power (s : State) (n : Nat) (k : Nat) (kind : Nat) (time : Nat) : (objDone s n k kind time).power = s.power := by
  unfold objDone; dsimp only; (repeat' split) <;> simp (maxDischargeDepth := 40) [*]
@[simp ↓] theorem canDrive_power (s : State) (n : Nat) (fr : CanFrame) : (canDrive s n fr).power = s.power := by
  simp (maxDischargeDepth := 40) [canDrive]
@[simp ↓] theorem canTdc_power (s : State) (n : Nat) (k : Nat) (tdcv : Option Nat) : (canTdc s n k tdcv).power = s.power := by
  unfold canTdc; split <;> simp (maxDischargeDepth := 40) [*]
@[simp ↓] theorem objFailed_power (s : State) (n : Nat) (k : Nat) (cancelled : Bool) : (objFailed s n k cancelled).power = s.power := by
  simp (maxDischargeDepth := 40) [objFailed]
@[simp ↓] theorem canAlone_power (s : State) (n : Nat) (ack : Bool) : (canAlone s n ack).power = s.power := by
  simp (maxDischargeDepth := 40) [canAlone]
@[simp ↓] theorem canGoOff_power (s : State) (n : Nat) : (canGoOff s n).power = s.power := by
  simp (maxDischargeDepth := 40) [canGoOff]
@[simp ↓] theorem canItems_power (s : State) (n : Nat) : (canItems s n).power = s.power := by
  simp (maxDischargeDepth := 40) [canItems]
@[simp ↓] theorem canLeave_power (s : State) (n : Nat) : (canLeave s n).power = s.power := by
  simp (maxDischargeDepth := 40) [canLeave]
@[simp ↓] theorem canAfter_power (s : State) (n : Nat) : (canAfter s n).power = s.power := by
  simp (maxDischargeDepth := 40) [canAfter]
theorem canAttemptEnd_power (s : State) (n : Nat) (r : CanEnd) (tdcv : Option Nat) (stl : Nat → List Byte → State → State)
    (hs : ∀ k d s, (stl k d s).power = s.power) : (canAttemptEnd s n r tdcv stl).power = s.power := by
  have ho := fun s fr => canOffer_power s n fr stl hs
  unfold canAttemptEnd; dsimp only; (repeat' split) <;> simp [ho]
@[simp ↓] theorem objLoad_load_power (n k : Nat) (d : List Byte) (s : State) : (objLoad.load n k d s).power = s.power := by
  simp [objLoad.load]
@[simp ↓] theorem objLoad_power (s : State) (n k : Nat) (d : List Byte) : (objLoad s n k d).power = s.power := by
  unfold objLoad; (repeat' split) <;> simp
@[simp ↓] theorem objCancel_idle_power (n k : Nat) (s : State) : (objCancel.idle n k s).2.power = s.power := by
  simp [objCancel.idle]
@[simp ↓] theorem objCancel_power (s : State) (n k : Nat) : (objCancel s n k).2.power = s.power := by
  unfold objCancel; (repeat' split) <;> simp
@[simp ↓] theorem canEnable_power (n : Nat) (s : State) : (canEnable n s).1.power = s.power := by
  simp (maxDischargeDepth := 40) [canEnable]
@[simp ↓] theorem canDisable_power (n : Nat) (s : State) : (canDisable n s).1.power = s.power := by
  simp (maxDischargeDepth := 40) [canDisable]
@[simp ↓] theorem canTxSet_power (n : Nat) (e : Entry) (s : State) : (canTxSet n e s).1.power = s.power := by
  simp (maxDischargeDepth := 40) [canTxSet]
@[simp ↓] theorem canTxCancel_power (n : Nat) (e : Entry) (s : State) : (canTxCancel n e s).1.power = s.power := by
  simp (maxDischargeDepth := 40) [canTxCancel]
@[simp ↓] theorem canRecover_power (n : Nat) (x0 : Entry) (s : State) : (canRecover n x0 s).1.power = s.power := by
  simp (maxDischargeDepth := 40) [canRecover]

/-! ### EthCore -/

@[simp ↓] theorem ethOut_power (s : State) (portB : Bool) (cls : Nat) (stomped : Nat) (bs : List Byte) : (ethOut s portB cls stomped bs).power = s.power := by
  simp (maxDischargeDepth := 40) [ethOut]
@[simp ↓] theorem ethCopy_power (s : State) (portB : Bool) (cls : Nat) (dst : Nat) (svc : Nat) (hops : Nat) (rseq : Nat) (dual : Bool) (payload : List Byte) : (ethCopy s portB cls dst svc hops rseq dual payload).power = s.power := by
  simp (maxDischargeDepth := 40) [ethCopy]
@[simp ↓] theorem ethCount_power (s : State) : (ethCount s).power = s.power := by
  simp (maxDischargeDepth := 40) [ethCount]
@[simp ↓] theorem ethBoth_power (s : State) (cls : Nat) (dst : Nat) (svc : Nat) (hops : Nat) (rseq : Nat) (payload : List Byte) : (ethBoth s cls dst svc hops rseq payload).power = s.power := by
  simp (maxDischargeDepth := 40) [ethBoth]
theorem ethSend_power (s : State) (cls svc dst : Nat) (payload : List Byte) (t : State) (ht : ethSend s cls svc dst payload = some t) :
    t.power = s.power := by
  unfold ethSend at ht
  split at ht
  · cases ht
  dsimp only at ht
  split at ht
  · cases ht; simp
  split at ht
  · cases ht; simp
  · simp only [Option.map_eq_some_iff] at ht
    obtain ⟨b, _, rfl⟩ := ht; simp
@[simp ↓] theorem ethHardware_power (s : State) (cls svc dst : Nat) (payload : List Byte) :
    (ethHardware s cls svc dst payload).power = s.power := by
  unfold ethHardware; split
  · exact ethSend_power _ _ _ _ _ _ ‹_›
  · simp
@[simp ↓] theorem crcEgress_power (s : State) (svc : Nat) (dst : Nat) (payload : List Byte) : (crcEgress s svc dst payload).2.power = s.power := by
  unfold crcEgress; split <;> simp (maxDischargeDepth := 40) [*]
@[simp ↓] theorem crcIngress_power (s : State) (svc : Nat) (src : Nat) (payload : List Byte) : (crcIngress s svc src payload).2.power = s.power := by
  unfold crcIngress; split <;> simp (maxDischargeDepth := 40) [*]
@[simp ↓] theorem crcEnable_power (e : Entry) (s : State) : (crcEnable e s).1.power = s.power := by
  simp (maxDischargeDepth := 40) [crcEnable]
@[simp ↓] theorem crcDisable_power (e : Entry) (s : State) : (crcDisable e s).1.power = s.power := by
  simp (maxDischargeDepth := 40) [crcDisable]
@[simp ↓] theorem ethSendOp_power (qp : Nat) (e : Entry) (s : State) : (ethSendOp qp e s).1.power = s.power := by
  unfold ethSendOp; refine withBuf_power _ _ _ (fun bs => ?_)
  dsimp only
  split
  · simp
  · split
    · rename_i t ht; simp [ethSend_power _ _ _ _ _ _ ht]
    · simp

/-! ### StlCore -/

@[simp ↓] theorem stlMod_power (s : State) (n : Nat) (f : StlSess → StlSess) : (stlMod s n f).power = s.power := by
  simp (maxDischargeDepth := 40) [stlMod]
@[simp ↓] theorem stlSetSt_power (s : State) (n : Nat) (st : Nat) : (stlSetSt s n st).power = s.power := by
  simp (maxDischargeDepth := 40) [stlSetSt]
@[simp ↓] theorem namedShow_power (s : State) : (namedShow s).power = s.power := by
  simp (maxDischargeDepth := 40) [namedShow]
@[simp ↓] theorem namedFollow_power (s : State) : (namedFollow s).power = s.power := by
  simp (maxDischargeDepth := 40) [namedFollow]
@[simp ↓] theorem freshBytes_power (n : Nat) (s : State) : (freshBytes n s).2.power = s.power := by
  induction n generalizing s with
  | zero => rfl
  | succ n ih => simp [freshBytes, ih]
@[simp ↓] theorem cyclicData_power (s : State) (n : Nat) : (cyclicData s n).2.2.power = s.power := by
  unfold cyclicData; dsimp only; (repeat' split) <;> simp
@[simp ↓] theorem stlLaunch_power (s : State) (n : Nat) (pdu : List Byte) : (stlLaunch s n pdu).power = s.power := by
  simp (maxDischargeDepth := 40) [stlLaunch]
@[simp ↓] theorem stlSend_power (s : State) (n : Nat) (kind : Nat) (host : Bool) (d : List Byte) : (stlSend s n kind host d).power = s.power := by
  simp (maxDischargeDepth := 40) [stlSend]
@[simp ↓] theorem stlEvent_power (s : State) (n : Nat) (kind : Nat) (host : Bool) (d : List Byte) : (stlEvent s n kind host d).power = s.power := by
  simp (maxDischargeDepth := 40) [stlEvent]
@[simp ↓] theorem stlCyclic_power (s : State) (n : Nat) : (stlCyclic s n).power = s.power := by
  simp (maxDischargeDepth := 40) [stlCyclic]

/-! ### Safe -/

@[simp ↓] theorem safeReport_power (s : State) (kind : Nat) (src : Nat) (soMask : Nat) (info : Nat) (cell : Nat) (tile : Nat) (value : Option Int) (snum : Nat) : (safeReport s kind src soMask info cell tile value snum).power = s.power := by
  simp (maxDischargeDepth := 40) [safeReport]
@[simp ↓] theorem safeNote_power (s : State) (kind : Nat) (src : Nat) (soMask : Nat) (info : Nat) : (safeNote s kind src soMask info).power = s.power := by
  simp (maxDischargeDepth := 40) [safeNote]
@[simp ↓] theorem safeReadSet_power (s : State) : (safeReadSet s).power = s.power := by
  simp (maxDischargeDepth := 40) [safeReadSet]
@[simp ↓] theorem soOff_power (s : State) (n : Nat) : (soOff s n).power = s.power := by
  simp (maxDischargeDepth := 40) [soOff]
@[simp ↓] theorem soFollow_power (s : State) (n : Nat) : (soFollow s n).power = s.power := by
  simp (maxDischargeDepth := 40) [soFollow]
@[simp ↓] theorem seqFollow_power (s : State) : (seqFollow s).power = s.power := by
  simp (maxDischargeDepth := 40) [seqFollow]
@[simp ↓] theorem safeRefresh_power (s : State) : (safeRefresh s).power = s.power := by
  simp (maxDischargeDepth := 40) [safeRefresh]
@[simp ↓] theorem edgeRefuse_power (s : State) (src : Nat) (res : Nat) (high : Nat) : (edgeRefuse s src res high).power = s.power := by
  simp (maxDischargeDepth := 40) [edgeRefuse]
@[simp ↓] theorem edgeAccept_power (s : State) (src : Nat) : (edgeAccept s src).power = s.power := by
  simp (maxDischargeDepth := 40) [edgeAccept]
@[simp ↓] theorem rearmAll_power (s : State) : (rearmAll s).power = s.power := by
  simp (maxDischargeDepth := 40) [rearmAll]
@[simp ↓] theorem edgeJudge_power (s : State) (src : Nat) (high : Nat) : (edgeJudge s src high).power = s.power := by
  simp (maxDischargeDepth := 40) [edgeJudge]
@[simp ↓] theorem edgeFall_power (s : State) (src : Nat) (ticks : Nat) : (edgeFall s src ticks).power = s.power := by
  simp (maxDischargeDepth := 40) [edgeFall]
@[simp ↓] theorem tripNotice_power (s : State) (bs : List Byte) : (tripNotice s bs).power = s.power := by
  simp (maxDischargeDepth := 40) [tripNotice]
@[simp ↓] theorem windowTrip_power (s : State) : (windowTrip s).power = s.power := by
  unfold windowTrip; dsimp only; (repeat' split) <;> simp (maxDischargeDepth := 40) [*]
@[simp ↓] theorem safeTrip_power (s : State) (c : Nat) (tile : Nat) (cell : Nat) (value : Option Int) (snum : Nat) :
    (safeTrip s c tile cell value snum).power = s.power := by
  unfold safeTrip
  split
  · rfl
  · refine (safeRefresh_power _).trans ((tripNotice_power _ _).trans ((safeReport_power _ _ _ _ _ _ _ _ _).trans ?_))
    have h2 : ∀ t : State, t.power = s.power →
        (match t.safe.rearm with
          | some src => edgeRefuse { t with safe := { t.safe with rearm := none } } src 7 (rd t R.SAFE_RST_HIGH_MS)
          | none => t).power = s.power := by
      intro t ht
      split <;> simp [ht]
    apply h2
    rw [windowTrip_power]
    split <;> simp
@[simp ↓] theorem safeTripPlain_power (s : State) (c : Nat) : (safeTripPlain s c).power = s.power := by
  simp (maxDischargeDepth := 40) [safeTripPlain]
@[simp ↓] theorem soFind_power (s : State) (n : Nat) (bitsFound : Nat) : (soFind s n bitsFound).power = s.power := by
  simp (maxDischargeDepth := 40) [soFind]
@[simp ↓] theorem soFault_power (s : State) (n : Nat) (bitsFound : Nat) : (soFault s n bitsFound).power = s.power := by
  simp (maxDischargeDepth := 40) [soFault]
@[simp ↓] theorem evalSweep_power (s : State) (w : Sweep) : (evalSweep s w).power = s.power := by
  simp (maxDischargeDepth := 40) [evalSweep]
@[simp ↓] theorem evalTimers_power (s : State) (ms : Nat) : (evalTimers s ms).power = s.power := by
  simp (maxDischargeDepth := 40) [evalTimers]
@[simp ↓] theorem judgeTrip_power (s : State) (c : Nat) : (judgeTrip s c).power = s.power := by
  unfold judgeTrip; dsimp only; (repeat' split) <;> simp (maxDischargeDepth := 40) [*]
@[simp ↓] theorem judgeAll_power (s : State) : (judgeAll s).power = s.power := by
  simp (maxDischargeDepth := 40) [judgeAll]
@[simp ↓] theorem spEvaluate_power (s0 : State) (ms : Nat) : (spEvaluate s0 ms).power = s0.power := by
  simp (maxDischargeDepth := 40) [spEvaluate]
@[simp ↓] theorem thrWrite_power (s : State) : (thrWrite s).power = s.power := by
  simp (maxDischargeDepth := 40) [thrWrite]
@[simp ↓] theorem thrCheck_power (s : State) : (thrCheck s).power = s.power := by
  simp (maxDischargeDepth := 40) [thrCheck]
@[simp ↓] theorem fogAssert_power (s0 : State) (open' : Bool) : (fogAssert s0 open').power = s0.power := by
  simp (maxDischargeDepth := 40) [fogAssert]
@[simp ↓] theorem fogDeassert_power (s : State) : (fogDeassert s).power = s.power := by
  simp (maxDischargeDepth := 40) [fogDeassert]
@[simp ↓] theorem siPut_power (s : State) (i : Nat) (v : Nat) : (siPut s i v).power = s.power := by
  simp (maxDischargeDepth := 40) [siPut]
@[simp ↓] theorem siFault_power (s : State) (i : Nat) (bit : Nat) : (siFault s i bit).power = s.power := by
  simp (maxDischargeDepth := 40) [siFault]
@[simp ↓] theorem siChange_power (s : State) (i : Nat) (chB : Bool) (on : Bool) : (siChange s i chB on).power = s.power := by
  simp (maxDischargeDepth := 40) [siChange]
@[simp ↓] theorem siTimeout_power (s : State) (i : Nat) : (siTimeout s i).power = s.power := by
  simp (maxDischargeDepth := 40) [siTimeout]
@[simp ↓] theorem siPulse_power (s : State) (tpb : Bool) (reads : Nat) : (siPulse s tpb reads).power = s.power := by
  simp (maxDischargeDepth := 40) [siPulse]
@[simp ↓] theorem soLowOn_power (s : State) (n : Nat) : (soLowOn s n).power = s.power := by
  simp (maxDischargeDepth := 40) [soLowOn]
@[simp ↓] theorem soHighOn_power (s : State) (n : Nat) : (soHighOn s n).power = s.power := by
  simp (maxDischargeDepth := 40) [soHighOn]
@[simp ↓] theorem soCurrent_power (s : State) (n : Nat) (ma : Nat) : (soCurrent s n ma).power = s.power := by
  unfold soCurrent; split <;> simp (maxDischargeDepth := 40) [*]
@[simp ↓] theorem soCheck_power (coilMv : Int) (s : State) (p : SoPins × Nat) : (soCheck coilMv s p).power = s.power := by
  simp (maxDischargeDepth := 40) [soCheck]
@[simp ↓] theorem soChecks_power (s : State) (pins : List SoPins) (coilMv : Int) : (soChecks s pins coilMv).power = s.power := by
  simp (maxDischargeDepth := 40) [soChecks]
@[simp ↓] theorem testSlot_power (s : State) (j : Nat) (young : Bool) : (testSlot s j young).power = s.power := by
  simp (maxDischargeDepth := 40) [testSlot]
@[simp ↓] theorem testEval_power (s : State) (ma : Nat) (pinMv : Int) (coilMv : Int) : (testEval s ma pinMv coilMv).power = s.power := by
  unfold testEval; split <;> simp (maxDischargeDepth := 40) [*]
@[simp ↓] theorem testEnd_power (s : State) (conducts : Bool) (late : Bool) : (testEnd s conducts late).power = s.power := by
  unfold testEnd; split <;> simp (maxDischargeDepth := 40) [*]
@[simp ↓] theorem testOverdue_power (s : State) (n : Nat) : (testOverdue s n).power = s.power := by
  simp (maxDischargeDepth := 40) [testOverdue]
@[simp ↓] theorem preStart_power (s : State) : (preStart s).power = s.power := by
  simp (maxDischargeDepth := 40) [preStart]
@[simp ↓] theorem preSettled_power (s : State) : (preSettled s).power = s.power := by
  simp (maxDischargeDepth := 40) [preSettled]
@[simp ↓] theorem preTimeout_power (s : State) : (preTimeout s).power = s.power := by
  simp (maxDischargeDepth := 40) [preTimeout]
@[simp ↓] theorem preOverlap_power (s : State) : (preOverlap s).power = s.power := by
  simp (maxDischargeDepth := 40) [preOverlap]
@[simp ↓] theorem setCrc_power (s : State) (flips : List (Nat × Nat)) : (setCrc s flips).power = s.power := by
  simp (maxDischargeDepth := 40) [setCrc]
@[simp ↓] theorem commReply_power (s : State) (n : Nat) (op : Nat) (ws : List Nat) : (commReply s n op ws).power = s.power := by
  simp (maxDischargeDepth := 40) [commReply]
@[simp ↓] theorem commResult_power (s : State) (n : Nat) (r : Nat) : (commResult s n r).power = s.power := by
  simp (maxDischargeDepth := 40) [commResult]
@[simp ↓] theorem commCheck_power (s : State) (n : Nat) : (commCheck s n).power = s.power := by
  simp (maxDischargeDepth := 40) [commCheck]
@[simp ↓] theorem commDrop_power (s : State) : (commDrop s).power = s.power := by
  simp (maxDischargeDepth := 40) [commDrop]
@[simp ↓] theorem commLoad_power (s : State) (n : Nat) (ofs : Nat) (data : List Byte) : (commLoad s n ofs data).power = s.power := by
  simp (maxDischargeDepth := 40) [commLoad]
@[simp ↓] theorem safeStore_power (s : State) (f : SafeCopy → SafeCopy) : (safeStore s f).power = s.power := by
  simp (maxDischargeDepth := 40) [safeStore]
@[simp ↓] theorem commLoadEnd_power (s : State) (n : Nat) : (commLoadEnd s n).power = s.power := by
  unfold commLoadEnd; (repeat' split) <;> simp (maxDischargeDepth := 40) [*]
@[simp ↓] theorem commConfirm_power (s : State) (n : Nat) (value : Nat) (oper : Nat) : (commConfirm s n value oper).power = s.power := by
  simp (maxDischargeDepth := 40) [commConfirm]
@[simp ↓] theorem commRepair_power (s : State) (n : Nat) (confirmed : Option Nat) (oper : Nat) : (commRepair s n confirmed oper).power = s.power := by
  unfold commRepair; (repeat' split) <;> simp (maxDischargeDepth := 40) [*]
@[simp ↓] theorem safeBoot_power (s : State) (fw : Bool) : (safeBoot s fw).power = s.power := by
  simp (maxDischargeDepth := 40) [safeBoot]
@[simp ↓] theorem safeSetRead_power (s : State) : (safeSetRead s).power = s.power := by
  simp (maxDischargeDepth := 40) [safeSetRead]
@[simp ↓] theorem safeArm_power (s : State) : (safeArm s).power = s.power := by
  simp (maxDischargeDepth := 40) [safeArm]
@[simp ↓] theorem safeActive_power (s : State) : (safeActive s).power = s.power := by
  simp (maxDischargeDepth := 40) [safeActive]
@[simp ↓] theorem safeBeacon_power (s : State) (so : Nat) (acc : Nat) (ready : Bool) (active : Bool) : (safeBeacon s so acc ready active).power = s.power := by
  simp (maxDischargeDepth := 40) [safeBeacon]

/-! ### Stl -/

@[simp ↓] theorem stlLossActs_power (s : State) (n : Nat) (trip : Bool) : (stlLossActs s n trip).power = s.power := by
  simp (maxDischargeDepth := 40) [stlLossActs]
@[simp ↓] theorem stlVerdict_power (s : State) (n : Nat) : (stlVerdict s n).power = s.power := by
  simp (maxDischargeDepth := 40) [stlVerdict]
@[simp ↓] theorem stlErr_power (s : State) (n : Nat) : (stlErr s n).power = s.power := by
  simp (maxDischargeDepth := 40) [stlErr]
@[simp ↓] theorem stlOpenState_power (s : State) (n : Nat) : (stlOpenState s n).power = s.power := by
  simp (maxDischargeDepth := 40) [stlOpenState]
@[simp ↓] theorem stlSeen_power (s : State) (n : Nat) (pdu : List Byte) : (stlSeen s n pdu).power = s.power := by
  simp (maxDischargeDepth := 40) [stlSeen]
@[simp ↓] theorem stlTake_power (s : State) (n : Nat) (pdu : List Byte) : (stlTake s n pdu).power = s.power := by
  simp (maxDischargeDepth := 40) [stlTake]
@[simp ↓] theorem stlOpening1_power (s : State) (n : Nat) (pdu : List Byte) : (stlOpening1 s n pdu).power = s.power := by
  simp (maxDischargeDepth := 40) [stlOpening1]
@[simp ↓] theorem commFrame_power (s : State) (n : Nat) (d : List Byte) : (commFrame s n d).power = s.power := by
  unfold commFrame; split <;> simp (maxDischargeDepth := 40) [*]
@[simp ↓] theorem stlReset_power (s : State) (n : Nat) (rise : Bool) : (stlReset s n rise).power = s.power := by
  unfold stlReset; (repeat' split) <;> simp (maxDischargeDepth := 40) [*]
@[simp ↓] theorem stlAct_power (s : State) (n : Nat) (pdu : List Byte) : (stlAct s n pdu).power = s.power := by
  unfold stlAct; split <;> simp (maxDischargeDepth := 40) [*]
@[simp ↓] theorem stlRunning_power (s : State) (n : Nat) (pdu : List Byte) : (stlRunning s n pdu).power = s.power := by
  simp (maxDischargeDepth := 40) [stlRunning]
@[simp ↓] theorem stlReceive_power (s : State) (medium : Nat) (src : Nat) (pdu : List Byte) : (stlReceive s medium src pdu).power = s.power := by
  unfold stlReceive; (repeat' split) <;> simp (maxDischargeDepth := 40) [*]
@[simp ↓] theorem stlObjs_power (s : State) (n : Nat) (take : Bool) : (stlObjs s n take).power = s.power := by
  simp (maxDischargeDepth := 40) [stlObjs]
@[simp ↓] theorem stlOpen_power (s : State) (n : Nat) : (stlOpen s n).power = s.power := by
  simp (maxDischargeDepth := 40) [stlOpen]
@[simp ↓] theorem stlClose_power (s : State) (n : Nat) : (stlClose s n).power = s.power := by
  simp (maxDischargeDepth := 40) [stlClose]
@[simp ↓] theorem stlStart_power (s : State) : (stlStart s).power = s.power := by
  unfold stlStart; dsimp only; rw [foldl_power]
  · simp
  · intro s n; split <;> simp
@[simp ↓] theorem stlEnable_power (e : Entry) (s : State) : (stlEnable e s).1.power = s.power := by
  simp (maxDischargeDepth := 40) [stlEnable]
@[simp ↓] theorem stlDisable_power (e : Entry) (s : State) : (stlDisable e s).1.power = s.power := by
  simp (maxDischargeDepth := 40) [stlDisable]
@[simp ↓] theorem stlSetData_power (e : Entry) (s : State) : (stlSetData e s).1.power = s.power := by
  simp (maxDischargeDepth := 40) [stlSetData]
@[simp ↓] theorem stlResetCmd_power (e : Entry) (s : State) : (stlResetCmd e s).1.power = s.power := by
  simp (maxDischargeDepth := 40) [stlResetCmd]
@[simp ↓] theorem relayServe_power (n : Nat) (s : State) : (relayServe n s).power = s.power := by
  induction n generalizing s with
  | zero => rfl
  | succ n ih => unfold relayServe; dsimp only; split <;> simp [ih]
@[simp ↓] theorem stlRelayRx_power (e : Entry) (s : State) : (stlRelayRx e s).1.power = s.power := by
  simp (maxDischargeDepth := 40) [stlRelayRx]
@[simp ↓] theorem stlRelayTx_power (e : Entry) (s : State) : (stlRelayTx e s).1.power = s.power := by
  unfold stlRelayTx; dsimp only; (repeat' split) <;> simp (maxDischargeDepth := 40) [*]
@[simp ↓] theorem stlSessRead_power (e : Entry) (s : State) : (stlSessRead e s).1.power = s.power := by
  simp (maxDischargeDepth := 40) [stlSessRead]
@[simp ↓] theorem canStl_power (n : Nat) (x0 : Nat) (d : List Byte) (s : State) : (canStl n x0 d s).power = s.power := by
  simp (maxDischargeDepth := 40) [canStl]

/-! ### Start -/

@[simp ↓] theorem chainWake_power (s : State) (noLock : List Nat) : (chainWake s noLock).power = s.power := by
  simp (maxDischargeDepth := 40) [chainWake]
@[simp ↓] theorem chainUp_power (s : State) (noLock : List Nat) (m : Option (Nat × Nat × List (Option Nat))) : (chainUp s noLock m).power = s.power := by
  unfold chainUp; split <;> simp (maxDischargeDepth := 40) [*]

/-! ### Red -/

@[simp ↓] theorem redCount_power (s : State) : (redCount s).power = s.power := by
  simp (maxDischargeDepth := 40) [redCount]
@[simp ↓] theorem keepEmit_power (s : State) (pid : Nat) (u : Nat) (bs : List Byte) : (keepEmit s pid u bs).power = s.power := by
  simp (maxDischargeDepth := 40) [keepEmit]
@[simp ↓] theorem toKeeper_power (s : State) (bs : List Byte) : (toKeeper s bs).power = s.power := by
  simp (maxDischargeDepth := 40) [toKeeper]
@[simp ↓] theorem beaconPaths_power (s : State) (bs : List Byte) : (beaconPaths s bs).power = s.power := by
  simp (maxDischargeDepth := 40) [beaconPaths]
@[simp ↓] theorem beaconOut_power (s : State) : (beaconOut s).power = s.power := by
  simp (maxDischargeDepth := 40) [beaconOut]
@[simp ↓] theorem keeperSend_power (s : State) (ty : Nat) (arg : Nat) : (keeperSend s ty arg).power = s.power := by
  simp (maxDischargeDepth := 40) [keeperSend]
@[simp ↓] theorem epochTake_power (s : State) (e : Nat) : (epochTake s e).power = s.power := by
  simp (maxDischargeDepth := 40) [epochTake]
@[simp ↓] theorem driveFollow_power (s : State) : (driveFollow s).power = s.power := by
  simp (maxDischargeDepth := 40) [driveFollow]
@[simp ↓] theorem roleTake_power (s : State) (r : Nat) : (roleTake s r).power = s.power := by
  simp (maxDischargeDepth := 40) [roleTake]
@[simp ↓] theorem agreeFollow_power (s : State) : (agreeFollow s).power = s.power := by
  simp (maxDischargeDepth := 40) [agreeFollow]
@[simp ↓] theorem holdoffFollow_power (s : State) : (holdoffFollow s).power = s.power := by
  simp (maxDischargeDepth := 40) [holdoffFollow]
@[simp ↓] theorem pairUpdAbort_power (s : State) (step : Nat) : (pairUpdAbort s step).power = s.power := by
  simp (maxDischargeDepth := 40) [pairUpdAbort]
@[simp ↓] theorem hoStart_power (s : State) (why : Nat) : (hoStart s why).power = s.power := by
  simp (maxDischargeDepth := 40) [hoStart]
@[simp ↓] theorem hoClear_power (s : State) : (hoClear s).power = s.power := by
  simp (maxDischargeDepth := 40) [hoClear]
@[simp ↓] theorem hoAbort_power (s : State) (status : Nat) (ext : Nat) : (hoAbort s status ext).power = s.power := by
  simp (maxDischargeDepth := 40) [hoAbort]
@[simp ↓] theorem driveStop_power (s : State) : (driveStop s).power = s.power := by
  simp (maxDischargeDepth := 40) [driveStop]
@[simp ↓] theorem hoRelease_power (s : State) (epoch : Nat) : (hoRelease s epoch).power = s.power := by
  simp (maxDischargeDepth := 40) [hoRelease]
@[simp ↓] theorem mirrorGrant_power (s : State) (m : List Byte) : (mirrorGrant s m).2.power = s.power := by
  simp (maxDischargeDepth := 40) [mirrorGrant]
@[simp ↓] theorem dlyTake_power (s : State) (bypass : Bool) : (dlyTake s bypass).power = s.power := by
  simp (maxDischargeDepth := 40) [dlyTake]
@[simp ↓] theorem takeOver_power (s : State) : (takeOver s).power = s.power := by
  simp (maxDischargeDepth := 40) [takeOver]
@[simp ↓] theorem activeEnter_power (s : State) (epoch : Nat) : (activeEnter s epoch).power = s.power := by
  simp (maxDischargeDepth := 40) [activeEnter]
@[simp ↓] theorem grantTake_power (s : State) (epoch : Nat) (arg : Nat) : (grantTake s epoch arg).power = s.power := by
  simp (maxDischargeDepth := 40) [grantTake]
@[simp ↓] theorem claimStart_power (s : State) : (claimStart s).power = s.power := by
  simp (maxDischargeDepth := 40) [claimStart]
@[simp ↓] theorem verdictTake_power (s : State) : (verdictTake s).power = s.power := by
  simp (maxDischargeDepth := 40) [verdictTake]
@[simp ↓] theorem fenceTake_power (s : State) : (fenceTake s).power = s.power := by
  simp (maxDischargeDepth := 40) [fenceTake]
@[simp ↓] theorem fenceReturn_power (s : State) : (fenceReturn s).power = s.power := by
  simp (maxDischargeDepth := 40) [fenceReturn]
@[simp ↓] theorem holdExpired_power (s : State) : (holdExpired s).power = s.power := by
  simp (maxDischargeDepth := 40) [holdExpired]
@[simp ↓] theorem pathShow_power (s : State) (path : Nat) : (pathShow s path).power = s.power := by
  simp (maxDischargeDepth := 40) [pathShow]
@[simp ↓] theorem beaconRole_power (s : State) (r : Nat) (ep : Nat) : (beaconRole s r ep).power = s.power := by
  simp (maxDischargeDepth := 40) [beaconRole]
@[simp ↓] theorem beaconHandover_power (s : State) (fr : List Byte) : (beaconHandover s fr).power = s.power := by
  simp (maxDischargeDepth := 40) [beaconHandover]
@[simp ↓] theorem beaconTake_power (s : State) (path : Nat) (fr : List Byte) : (beaconTake s path fr).power = s.power := by
  simp (maxDischargeDepth := 40) [beaconTake]
@[simp ↓] theorem ackTake_power (s : State) (fr : List Byte) : (ackTake s fr).power = s.power := by
  simp (maxDischargeDepth := 40) [ackTake]
@[simp ↓] theorem denyTake_power (s : State) (cause : Nat) : (denyTake s cause).power = s.power := by
  simp (maxDischargeDepth := 40) [denyTake]
@[simp ↓] theorem redBad_power (s : State) : (redBad s).power = s.power := by
  simp (maxDischargeDepth := 40) [redBad]
@[simp ↓] theorem redReceive_power (s : State) (path : Nat) (src : Nat) (fr : List Byte) : (redReceive s path src fr).power = s.power := by
  simp (maxDischargeDepth := 40) [redReceive]
@[simp ↓] theorem beaconSend_power (s : State) (now : SupplyIn) : (beaconSend s now).power = s.power := by
  simp (maxDischargeDepth := 40) [beaconSend]
@[simp ↓] theorem redHandover_power (x0 : Entry) (s : State) : (redHandover x0 s).1.power = s.power := by
  simp (maxDischargeDepth := 40) [redHandover]
@[simp ↓] theorem hoReleaseSend_power (s : State) : (hoReleaseSend s).power = s.power := by
  simp (maxDischargeDepth := 40) [hoReleaseSend]
@[simp ↓] theorem hoTimeout_power (s : State) : (hoTimeout s).power = s.power := by
  unfold hoTimeout; (repeat' split) <;> simp (maxDischargeDepth := 40) [*]
@[simp ↓] theorem degradeTake_power (s : State) : (degradeTake s).power = s.power := by
  simp (maxDischargeDepth := 40) [degradeTake]
@[simp ↓] theorem safetyHandover_power (s : State) : (safetyHandover s).power = s.power := by
  simp (maxDischargeDepth := 40) [safetyHandover]
@[simp ↓] theorem ksMod_power (s : State) (p : Nat) (f : KsPair → KsPair) : (ksMod s p f).power = s.power := by
  simp (maxDischargeDepth := 40) [ksMod]
@[simp ↓] theorem ksSend_power (s : State) (p : Nat) (pid : Nat) (u : Nat) (ty : Nat) (arg : Nat) (epoch : Nat) : (ksSend s p pid u ty arg epoch).power = s.power := by
  simp (maxDischargeDepth := 40) [ksSend]
@[simp ↓] theorem ksDeny_power (s : State) (p : Nat) (pid : Nat) (u : Nat) (cause : Nat) : (ksDeny s p pid u cause).power = s.power := by
  simp (maxDischargeDepth := 40) [ksDeny]
@[simp ↓] theorem ksTake_power (s : State) (p : Nat) (epoch : Nat) (holder : Nat) : (ksTake s p epoch holder).power = s.power := by
  simp (maxDischargeDepth := 40) [ksTake]
@[simp ↓] theorem ksDrop_power (s : State) (p : Nat) : (ksDrop s p).power = s.power := by
  simp (maxDischargeDepth := 40) [ksDrop]
@[simp ↓] theorem ksHold_power (s : State) (p : Nat) (epoch : Nat) (u : Nat) : (ksHold s p epoch u).power = s.power := by
  simp (maxDischargeDepth := 40) [ksHold]
@[simp ↓] theorem ksGrant_power (s : State) (p : Nat) (u : Nat) (claimed : Nat) : (ksGrant s p u claimed).power = s.power := by
  simp (maxDischargeDepth := 40) [ksGrant]
@[simp ↓] theorem ksRefuse_power (s : State) (p : Nat) (holds : Bool) : (ksRefuse s p holds).power = s.power := by
  unfold ksRefuse; split <;> simp (maxDischargeDepth := 40) [*]
@[simp ↓] theorem ksHear_power (s : State) (p : Nat) (u : Nat) (fr : List Byte) : (ksHear s p u fr).power = s.power := by
  simp (maxDischargeDepth := 40) [ksHear]
@[simp ↓] theorem ksBeacon_power (s : State) (p : Nat) (u : Nat) (fr : List Byte) : (ksBeacon s p u fr).power = s.power := by
  simp (maxDischargeDepth := 40) [ksBeacon]
@[simp ↓] theorem ksClaim_power (s : State) (p : Nat) (u : Nat) (ep : Nat) : (ksClaim s p u ep).power = s.power := by
  unfold ksClaim; (repeat' split) <;> simp (maxDischargeDepth := 40) [*]
@[simp ↓] theorem ksRelease_power (s : State) (p : Nat) (u : Nat) (dst : Nat) : (ksRelease s p u dst).power = s.power := by
  simp (maxDischargeDepth := 40) [ksRelease]
@[simp ↓] theorem ksUnserved_power (s : State) (path : Nat) (src : Nat) (pid : Nat) (u : Nat) : (ksUnserved s path src pid u).power = s.power := by
  simp (maxDischargeDepth := 40) [ksUnserved]
@[simp ↓] theorem ksReceive_power (s : State) (path : Nat) (src : Nat) (fr : List Byte) : (ksReceive s path src fr).power = s.power := by
  unfold ksReceive; dsimp only; (repeat' split) <;> simp (maxDischargeDepth := 40) [*]
@[simp ↓] theorem ksServe_power (s : State) (p : Nat) : (ksServe s p).power = s.power := by
  unfold ksServe; split <;> simp (maxDischargeDepth := 40) [*]
@[simp ↓] theorem ksExpire_power (s : State) (p : Nat) : (ksExpire s p).power = s.power := by
  unfold ksExpire; split <;> simp (maxDischargeDepth := 40) [*]
@[simp ↓] theorem ksWarm_power (s : State) : (ksWarm s).power = s.power := by
  simp (maxDischargeDepth := 40) [ksWarm]
@[simp ↓] theorem ksBlank_power (s : State) : (ksBlank s).power = s.power := by
  simp (maxDischargeDepth := 40) [ksBlank]
@[simp ↓] theorem ksEnable_power (x0 : Entry) (s : State) : (ksEnable x0 s).1.power = s.power := by
  simp (maxDischargeDepth := 40) [ksEnable]
@[simp ↓] theorem ksDisable_power (x0 : Entry) (s : State) : (ksDisable x0 s).1.power = s.power := by
  simp (maxDischargeDepth := 40) [ksDisable]
@[simp ↓] theorem ksSnap_power (e : Entry) (s : State) : (ksSnap e s).1.power = s.power := by
  simp (maxDischargeDepth := 40) [ksSnap]

/-! ### Ptp -/

@[simp ↓] theorem slewShow_power (s : State) : (slewShow s).power = s.power := by
  simp (maxDischargeDepth := 40) [slewShow]
@[simp ↓] theorem anchorOut_power (s : State) : (anchorOut s).power = s.power := by
  simp (maxDischargeDepth := 40) [anchorOut]
@[simp ↓] theorem domSyncPut_power (s : State) (d : Nat) (b : Bool) : (domSyncPut s d b).power = s.power := by
  simp (maxDischargeDepth := 40) [domSyncPut]
@[simp ↓] theorem ptStepped_power (s : State) (why : Nat) : (ptStepped s why).power = s.power := by
  simp (maxDischargeDepth := 40) [ptStepped]
@[simp ↓] theorem acquire_power (s : State) : (acquire s).power = s.power := by
  simp (maxDischargeDepth := 40) [acquire]
@[simp ↓] theorem domSwitch_power (s : State) (d : Nat) (auto : Bool) : (domSwitch s d auto).power = s.power := by
  simp (maxDischargeDepth := 40) [domSwitch]
@[simp ↓] theorem autoFollow_power (s : State) : (autoFollow s).power = s.power := by
  simp (maxDischargeDepth := 40) [autoFollow]
@[simp ↓] theorem syncLost_power (s : State) (d : Nat) : (syncLost s d).power = s.power := by
  simp (maxDischargeDepth := 40) [syncLost]
@[simp ↓] theorem ptpSelect_power (e : Entry) (s : State) : (ptpSelect e s).1.power = s.power := by
  simp (maxDischargeDepth := 40) [ptpSelect]
@[simp ↓] theorem ptpDomState_power (e : Entry) (s : State) : (ptpDomState e s).1.power = s.power := by
  simp (maxDischargeDepth := 40) [ptpDomState]
@[simp ↓] theorem ptpStepOp_power (e : Entry) (s : State) : (ptpStepOp e s).1.power = s.power := by
  simp (maxDischargeDepth := 40) [ptpStepOp]
@[simp ↓] theorem ptpEnable_power (e : Entry) (s : State) : (ptpEnable e s).1.power = s.power := by
  simp (maxDischargeDepth := 40) [ptpEnable]
@[simp ↓] theorem ptpDisable_power (e : Entry) (s : State) : (ptpDisable e s).1.power = s.power := by
  simp (maxDischargeDepth := 40) [ptpDisable]
@[simp ↓] theorem ptpOut_power (s : State) (b : Bool) (m : List Byte) : (ptpOut s b m).power = s.power := by
  simp (maxDischargeDepth := 40) [ptpOut]
@[simp ↓] theorem ptpDeliver_power (s : State) (bs : List Byte) : (ptpDeliver s bs).power = s.power := by
  simp (maxDischargeDepth := 40) [ptpDeliver]
@[simp ↓] theorem syncSeen_power (s : State) (d : Nat) : (syncSeen s d).power = s.power := by
  simp (maxDischargeDepth := 40) [syncSeen]
@[simp ↓] theorem ptpEvent_power (s : State) (portB : Bool) (m : List Byte) (agoNs : Nat) (resNs : Nat) : (ptpEvent s portB m agoNs resNs).power = s.power := by
  unfold ptpEvent; dsimp only; (repeat' split) <;> simp (maxDischargeDepth := 40) [*]
@[simp ↓] theorem followUp_power (s : State) (portB : Bool) (m : List Byte) : (followUp s portB m).power = s.power := by
  unfold followUp; split <;> simp (maxDischargeDepth := 40) [*]
@[simp ↓] theorem ptpGeneral_power (s : State) (portB : Bool) (m : List Byte) : (ptpGeneral s portB m).power = s.power := by
  unfold ptpGeneral; dsimp only; (repeat' split) <;> simp (maxDischargeDepth := 40) [*]
@[simp ↓] theorem followUpLate_power (s : State) : (followUpLate s).power = s.power := by
  unfold followUpLate; split <;> simp (maxDischargeDepth := 40) [*]
@[simp ↓] theorem ptpTx_power (e : Entry) (s : State) : (ptpTx e s).1.power = s.power := by
  simp (maxDischargeDepth := 40) [ptpTx]

/-! ### Idk -/

@[simp ↓] theorem tabStore_power (s : State) (t : KeyTab) : (tabStore s t).power = s.power := by
  simp (maxDischargeDepth := 40) [tabStore]
@[simp ↓] theorem sessShow_power (s : State) : (sessShow s).power = s.power := by
  simp (maxDischargeDepth := 40) [sessShow]
@[simp ↓] theorem sessOuts_power (k n : Nat) (s : State) : (sessOuts k n s).power = s.power := by
  induction k generalizing s with
  | zero => rfl
  | succ k ih => simp [sessOuts, ih]
@[simp ↓] theorem sessClose_power (s : State) (n : Nat) (other : Bool) : (sessClose s n other).power = s.power := by
  unfold sessClose; split <;> simp (maxDischargeDepth := 40) [*]
@[simp ↓] theorem sessCloseKey_power (s : State) (id : Nat) : (sessCloseKey s id).power = s.power := by
  unfold sessCloseKey; refine foldl_power _ (fun s n => ?_) _ _; (repeat' split) <;> simp
@[simp ↓] theorem idkDropNonce_power (s : State) : (idkDropNonce s).power = s.power := by
  simp (maxDischargeDepth := 40) [idkDropNonce]
@[simp ↓] theorem recRefuse_power (s : State) (cause : Nat) : (recRefuse s cause).1.power = s.power := by
  simp (maxDischargeDepth := 40) [recRefuse]
@[simp ↓] theorem idkGetCert_power (e : Entry) (s : State) : (idkGetCert e s).1.power = s.power := by
  simp (maxDischargeDepth := 40) [idkGetCert]
@[simp ↓] theorem idkAttest_power (e : Entry) (s : State) : (idkAttest e s).1.power = s.power := by
  simp (maxDischargeDepth := 40) [idkAttest]
@[simp ↓] theorem idkNonce_power (e : Entry) (s : State) : (idkNonce e s).1.power = s.power := by
  simp (maxDischargeDepth := 40) [idkNonce]
@[simp ↓] theorem idkKeyRecord_power (e : Entry) (s : State) : (idkKeyRecord e s).1.power = s.power := by
  unfold idkKeyRecord withBuf; dsimp only; (repeat' split) <;> simp (maxDischargeDepth := 40) [*]
@[simp ↓] theorem idkKeyList_power (e : Entry) (s : State) : (idkKeyList e s).1.power = s.power := by
  simp (maxDischargeDepth := 40) [idkKeyList]
@[simp ↓] theorem idkSessOpen_power (e : Entry) (s : State) : (idkSessOpen e s).1.power = s.power := by
  unfold idkSessOpen withBuf; dsimp only; (repeat' split) <;> simp (maxDischargeDepth := 40) [*]
@[simp ↓] theorem idkSessIn_power (e : Entry) (s : State) : (idkSessIn e s).1.power = s.power := by
  unfold idkSessIn withBuf; dsimp only; (repeat' split) <;> simp (maxDischargeDepth := 40) [*]
@[simp ↓] theorem idkSessOut_power (e : Entry) (s : State) : (idkSessOut e s).1.power = s.power := by
  simp (maxDischargeDepth := 40) [idkSessOut]
@[simp ↓] theorem idkClose_power (e : Entry) (s : State) : (idkClose e s).1.power = s.power := by
  simp (maxDischargeDepth := 40) [idkClose]
@[simp ↓] theorem idkStart_power (s : State) : (idkStart s).power = s.power := by
  simp (maxDischargeDepth := 40) [idkStart]

/-! ### Boot -/

@[simp ↓] theorem updShow_power (s : State) : (updShow s).power = s.power := by
  simp (maxDischargeDepth := 40) [updShow]
@[simp ↓] theorem bootStore_power (s : State) (f : BootRec → BootRec) : (bootStore s f).power = s.power := by
  simp (maxDischargeDepth := 40) [bootStore]
@[simp ↓] theorem slotPut_power (s : State) (k : Nat) (st : Nat) : (slotPut s k st).power = s.power := by
  simp (maxDischargeDepth := 40) [slotPut]
@[simp ↓] theorem bootPick_power (s : State) (a : Nat) : (bootPick s a).1.power = s.power := by
  unfold bootPick; dsimp only; (repeat' split) <;> simp (maxDischargeDepth := 40) [*]
@[simp ↓] theorem bootCount_power (s : State) : (bootCount s).power = s.power := by
  simp (maxDischargeDepth := 40) [bootCount]
@[simp ↓] theorem bootClean_power (s : State) : (bootClean s).power = s.power := by
  simp (maxDischargeDepth := 40) [bootClean]
@[simp ↓] theorem spBoot_power (s : State) : (spBoot s).power = s.power := by
  simp (maxDischargeDepth := 40) [spBoot]
@[simp ↓] theorem startClocks_power (s : State) (env : Option StartEnv) : (startClocks s env).power = s.power := by
  unfold startClocks; split <;> simp (maxDischargeDepth := 40) [*]
@[simp ↓] theorem startUe_power (s : State) (env : Option StartEnv) : (startUe s env).power = s.power := by
  unfold startUe; split <;> simp (maxDischargeDepth := 40) [*]
@[simp ↓] theorem startStor_power (s : State) : (startStor s).power = s.power := by
  unfold startStor; dsimp only; (repeat' split) <;> simp (maxDischargeDepth := 40) [*]
@[simp ↓] theorem timesCommit_power (s : State) : (timesCommit s).power = s.power := by
  simp (maxDischargeDepth := 40) [timesCommit]
@[simp ↓] theorem startUnconfigured_power (s : State) : (startUnconfigured s).power = s.power := by
  simp (maxDischargeDepth := 40) [startUnconfigured]
@[simp ↓] theorem startRec_power (s : State) (por : Bool) (down : Bool) (row : Nat) (env : Option StartEnv) : (startRec s por down row env).power = s.power := by
  simp (maxDischargeDepth := 40) [startRec]
@[simp ↓] theorem startEngines_power (s : State) (env : Option StartEnv) : (startEngines s env).power = s.power := by
  simp (maxDischargeDepth := 40) [startEngines]

/-! ### Upd -/

@[simp ↓] theorem updReport_power (s : State) (kind : Nat) (slot : Nat) (cause : Nat) (src : Nat) (h : List Byte) : (updReport s kind slot cause src h).power = s.power := by
  simp (maxDischargeDepth := 40) [updReport]
@[simp ↓] theorem hdrRefuse_power (s : State) (cause : Nat) (src : Nat) (h : List Byte) : (hdrRefuse s cause src h).power = s.power := by
  simp (maxDischargeDepth := 40) [hdrRefuse]
@[simp ↓] theorem rxBegin_power (s : State) (slot : Nat) (src : Nat) (xfer : Nat) (h : List Byte) : (rxBegin s slot src xfer h).power = s.power := by
  simp (maxDischargeDepth := 40) [rxBegin]
@[simp ↓] theorem rxEnd_power (s : State) : (rxEnd s).power = s.power := by
  simp (maxDischargeDepth := 40) [rxEnd]
@[simp ↓] theorem rxWrite_power (s : State) (r : UpdRx) (bs : List Byte) : (rxWrite s r bs).power = s.power := by
  simp (maxDischargeDepth := 40) [rxWrite]
@[simp ↓] theorem updSend_power (s : State) (dst : Nat) (op : Nat) (xfer : Nat) (chunk : Nat) (frag : Nat) (cause : Nat) (ver : Nat) (sha : List Byte) (data : List Byte) : (updSend s dst op xfer chunk frag cause ver sha data).power = s.power := by
  simp (maxDischargeDepth := 40) [updSend]
@[simp ↓] theorem updAbout_power (s : State) (dst : Nat) (op : Nat) (xfer : Nat) (chunk : Nat) (frag : Nat) (cause : Nat) (h : List Byte) (data : List Byte) : (updAbout s dst op xfer chunk frag cause h data).power = s.power := by
  simp (maxDischargeDepth := 40) [updAbout]
@[simp ↓] theorem fwdChunk_power (s : State) (f : UpdFwd) (j : Nat) : (fwdChunk s f j).power = s.power := by
  simp (maxDischargeDepth := 40) [fwdChunk]
@[simp ↓] theorem fwdPump_power (n : Nat) (s : State) : (fwdPump n s).power = s.power := by
  induction n generalizing s with
  | zero => rfl
  | succ n ih => unfold fwdPump; dsimp only; (repeat' split) <;> simp [ih]
@[simp ↓] theorem fwdGo_power (s : State) : (fwdGo s).power = s.power := by
  simp (maxDischargeDepth := 40) [fwdGo]
@[simp ↓] theorem fwdStart_power (s : State) (slot : Nat) (dst : Nat) : (fwdStart s slot dst).power = s.power := by
  simp (maxDischargeDepth := 40) [fwdStart]
@[simp ↓] theorem fwdEnd_power (s : State) (f : UpdFwd) (cause : Nat) : (fwdEnd s f cause).power = s.power := by
  simp (maxDischargeDepth := 40) [fwdEnd]
@[simp ↓] theorem fwdRetry_power (s : State) (c : Nat) : (fwdRetry s c).power = s.power := by
  unfold fwdRetry; (repeat' split) <;> simp (maxDischargeDepth := 40) [*]
@[simp ↓] theorem rxDrop_power (s : State) (r : UpdRx) (cause : Nat) : (rxDrop s r cause).power = s.power := by
  unfold rxDrop; dsimp only; (repeat' split) <;> simp (maxDischargeDepth := 40) [*]
@[simp ↓] theorem imgBegin_power (e : Entry) (s : State) : (imgBegin e s).1.power = s.power := by
  unfold imgBegin withBuf; dsimp only; (repeat' split) <;> simp (maxDischargeDepth := 40) [*]
@[simp ↓] theorem imgChunk_power (e : Entry) (s : State) : (imgChunk e s).1.power = s.power := by
  unfold imgChunk; split <;> simp (maxDischargeDepth := 40) [*]
@[simp ↓] theorem imgEnd_power (x0 : Entry) (s : State) : (imgEnd x0 s).1.power = s.power := by
  unfold imgEnd; split <;> simp (maxDischargeDepth := 40) [*]
@[simp ↓] theorem imgAbort_power (x0 : Entry) (s : State) : (imgAbort x0 s).1.power = s.power := by
  unfold imgAbort; split <;> simp (maxDischargeDepth := 40) [*]
@[simp ↓] theorem imgVerified_power (s : State) (readErr : Bool) : (imgVerified s readErr).power = s.power := by
  unfold imgVerified; split <;> simp (maxDischargeDepth := 40) [*]
@[simp ↓] theorem imgForward_power (e : Entry) (s : State) : (imgForward e s).1.power = s.power := by
  simp (maxDischargeDepth := 40) [imgForward]
@[simp ↓] theorem updDropped_power (s : State) : (updDropped s).power = s.power := by
  simp (maxDischargeDepth := 40) [updDropped]
@[simp ↓] theorem takeOffer_power (s : State) (src : Nat) (p : List Byte) : (takeOffer s src p).power = s.power := by
  unfold takeOffer; dsimp only; (repeat' split) <;> simp (maxDischargeDepth := 40) [*]
@[simp ↓] theorem takeAccept_power (s : State) (src : Nat) (p : List Byte) : (takeAccept s src p).power = s.power := by
  unfold takeAccept; split <;> simp (maxDischargeDepth := 40) [*]
@[simp ↓] theorem takeRefuse_power (s : State) (src : Nat) (p : List Byte) : (takeRefuse s src p).power = s.power := by
  unfold takeRefuse; split <;> simp (maxDischargeDepth := 40) [*]
@[simp ↓] theorem rxDrain_power (n : Nat) (s : State) : (rxDrain n s).power = s.power := by
  induction n generalizing s with
  | zero => rfl
  | succ n ih => unfold rxDrain; dsimp only; (repeat' split) <;> simp [ih]
@[simp ↓] theorem takeData_power (s : State) (src : Nat) (p : List Byte) : (takeData s src p).power = s.power := by
  unfold takeData; split <;> simp (maxDischargeDepth := 40) [*]
@[simp ↓] theorem takeAck_power (s : State) (src : Nat) (p : List Byte) : (takeAck s src p).power = s.power := by
  unfold takeAck; split <;> simp (maxDischargeDepth := 40) [*]
@[simp ↓] theorem takeNak_power (s : State) (src : Nat) (p : List Byte) : (takeNak s src p).power = s.power := by
  unfold takeNak; split <;> simp (maxDischargeDepth := 40) [*]
@[simp ↓] theorem takeDone_power (s : State) (src : Nat) (p : List Byte) : (takeDone s src p).power = s.power := by
  unfold takeDone; split <;> simp (maxDischargeDepth := 40) [*]
@[simp ↓] theorem takeCancel_power (s : State) (src : Nat) (p : List Byte) : (takeCancel s src p).power = s.power := by
  unfold takeCancel; (repeat' split) <;> simp (maxDischargeDepth := 40) [*]
@[simp ↓] theorem takeQuery_power (s : State) (src : Nat) (p : List Byte) : (takeQuery s src p).power = s.power := by
  simp (maxDischargeDepth := 40) [takeQuery]
@[simp ↓] theorem clusterReset_power (s : State) (c : Nat) : (clusterReset s c).power = s.power := by
  simp (maxDischargeDepth := 40) [clusterReset]
@[simp ↓] theorem clusterRuns_power (s : State) (c : Nat) (ver : Nat) : (clusterRuns s c ver).power = s.power := by
  simp (maxDischargeDepth := 40) [clusterRuns]
@[simp ↓] theorem ownAll_power (s : State) (c : Nat) : (ownAll s c).power = s.power := by
  simp (maxDischargeDepth := 40) [ownAll]
@[simp ↓] theorem hoStep_power (s : State) (n : Nat) : (hoStep s n).power = s.power := by
  simp (maxDischargeDepth := 40) [hoStep]
@[simp ↓] theorem updHoEnd_power (s : State) : (updHoEnd s).power = s.power := by
  simp (maxDischargeDepth := 40) [updHoEnd]
@[simp ↓] theorem updHoStart_power (s : State) (slot : Nat) : (updHoStart s slot).1.power = s.power := by
  simp (maxDischargeDepth := 40) [updHoStart]
@[simp ↓] theorem updHoAbort_power (s : State) (h : UpdHo) : (updHoAbort s h).power = s.power := by
  simp (maxDischargeDepth := 40) [updHoAbort]
@[simp ↓] theorem updPairGo_power (s : State) (slot : Nat) (cluster : Bool) : (updPairGo s slot cluster).1.power = s.power := by
  simp (maxDischargeDepth := 40) [updPairGo]
@[simp ↓] theorem updActivate_power (e : Entry) (s : State) : (updActivate e s).1.power = s.power := by
  simp (maxDischargeDepth := 40) [updActivate]
@[simp ↓] theorem readyTake_power (s : State) (h : UpdHo) : (readyTake s h).power = s.power := by
  simp (maxDischargeDepth := 40) [readyTake]
@[simp ↓] theorem updReady_power (e : Entry) (s : State) : (updReady e s).1.power = s.power := by
  unfold updReady; split <;> simp (maxDischargeDepth := 40) [*]
@[simp ↓] theorem readyReport_power (s : State) : (readyReport s).power = s.power := by
  unfold readyReport; split <;> simp (maxDischargeDepth := 40) [*]
@[simp ↓] theorem updSwap_power (e : Entry) (s : State) : (updSwap e s).1.power = s.power := by
  unfold updSwap; split <;> simp (maxDischargeDepth := 40) [*]
@[simp ↓] theorem updCommitSlot_power (s : State) (k : Nat) : (updCommitSlot s k).power = s.power := by
  simp (maxDischargeDepth := 40) [updCommitSlot]
@[simp ↓] theorem updCommitHo_power (s : State) (h : UpdHo) : (updCommitHo s h).power = s.power := by
  simp (maxDischargeDepth := 40) [updCommitHo]
@[simp ↓] theorem updCommit_power (e : Entry) (s : State) : (updCommit e s).1.power = s.power := by
  unfold updCommit; (repeat' split) <;> simp (maxDischargeDepth := 40) [*]
@[simp ↓] theorem updRollback_power (s : State) (h : UpdHo) (status : Nat) : (updRollback s h status).power = s.power := by
  simp (maxDischargeDepth := 40) [updRollback]
@[simp ↓] theorem updRollbackOp_power (x0 : Entry) (s : State) : (updRollbackOp x0 s).1.power = s.power := by
  unfold updRollbackOp; split <;> simp (maxDischargeDepth := 40) [*]
@[simp ↓] theorem windowOpen_power (s : State) : (windowOpen s).power = s.power := by
  simp (maxDischargeDepth := 40) [windowOpen]
@[simp ↓] theorem windowShut_power (s : State) : (windowShut s).power = s.power := by
  simp (maxDischargeDepth := 40) [windowShut]
@[simp ↓] theorem windowRevert_power (s : State) : (windowRevert s).power = s.power := by
  unfold windowRevert; dsimp only; (repeat' split) <;> simp (maxDischargeDepth := 40) [*]
@[simp ↓] theorem windowEnd_power (s : State) : (windowEnd s).power = s.power := by
  unfold windowEnd; dsimp only; (repeat' split) <;> simp (maxDischargeDepth := 40) [*]
@[simp ↓] theorem updTimeout_power (s : State) : (updTimeout s).power = s.power := by
  unfold updTimeout; split <;> simp (maxDischargeDepth := 40) [*]
@[simp ↓] theorem updClusterLost_power (s : State) (c : Nat) : (updClusterLost s c).power = s.power := by
  unfold updClusterLost; split <;> simp (maxDischargeDepth := 40) [*]
@[simp ↓] theorem appReset_power (s : State) (c : Nat) (row : Nat) : (appReset s c row).power = s.power := by
  simp (maxDischargeDepth := 40) [appReset]
@[simp ↓] theorem takeInfo_power (s : State) (src : Nat) (p : List Byte) : (takeInfo s src p).1.power = s.power := by
  unfold takeInfo; dsimp only; (repeat' split) <;> simp (maxDischargeDepth := 40) [*]
@[simp ↓] theorem updHoldup_power (s : State) : (updHoldup s).power = s.power := by
  unfold updHoldup; dsimp only; (repeat' split) <;> simp (maxDischargeDepth := 40) [*]

/-! ### Eth -/

@[simp ↓] theorem ringShow_power (s : State) : (ringShow s).power = s.power := by
  simp (maxDischargeDepth := 40) [ringShow]
@[simp ↓] theorem noticeTake_power (s : State) (p : List Byte) : (noticeTake s p).power = s.power := by
  simp (maxDischargeDepth := 40) [noticeTake]
@[simp ↓] theorem noticeSend_power (s : State) (portB : Bool) (up : Bool) : (noticeSend s portB up).power = s.power := by
  simp (maxDischargeDepth := 40) [noticeSend]
@[simp ↓] theorem linkChange_power (s0 : State) (portB : Bool) (up : Bool) (verified : Bool) : (linkChange s0 portB up verified).power = s0.power := by
  simp (maxDischargeDepth := 40) [linkChange]
@[simp ↓] theorem ethEnable_power (e : Entry) (s : State) : (ethEnable e s).1.power = s.power := by
  simp (maxDischargeDepth := 40) [ethEnable]
@[simp ↓] theorem ethDisable_power (e : Entry) (s : State) : (ethDisable e s).1.power = s.power := by
  simp (maxDischargeDepth := 40) [ethDisable]
@[simp ↓] theorem ethDeliverQp_power (s : State) (portB : Bool) (agoNs : Nat) (fr : List Byte) : (ethDeliverQp s portB agoNs fr).power = s.power := by
  unfold ethDeliverQp; dsimp only; (repeat' split) <;> simp (maxDischargeDepth := 40) [*]
@[simp ↓] theorem fcsBad_power (s : State) (p : Nat) (counted : Bool) : (fcsBad s p counted).power = s.power := by
  simp (maxDischargeDepth := 40) [fcsBad]

/-! ### Power -/

@[simp ↓] theorem railEvent_power (s : State) (f : Fld) (now : SupplyIn) : (railEvent s f now).power = s.power := by
  simp (maxDischargeDepth := 40) [railEvent]
@[simp ↓] theorem canStop_power (s : State) (n : Nat) : (canStop s n).power = s.power := by
  simp (maxDischargeDepth := 40) [canStop]
@[simp ↓] theorem clustersStop_power (s : State) : (clustersStop s).power = s.power := by
  simp (maxDischargeDepth := 40) [clustersStop]
@[simp ↓] theorem recSums_power (s : State) : (recSums s).power = s.power := by
  simp (maxDischargeDepth := 40) [recSums]
@[simp ↓] theorem recFlushAll_power (s : State) : (recFlushAll s).power = s.power := by
  simp (maxDischargeDepth := 40) [recFlushAll]
@[simp ↓] theorem flushWrite_power (s : State) : (flushWrite s).power = s.power := by
  simp (maxDischargeDepth := 40) [flushWrite]
@[simp ↓] theorem watchHandover_power (s : State) : (watchHandover s).power = s.power := by
  simp (maxDischargeDepth := 40) [watchHandover]
@[simp ↓] theorem tilesSleep_power (s : State) : (tilesSleep s).power = s.power := by
  simp (maxDischargeDepth := 40) [tilesSleep]
@[simp ↓] theorem safetyReset_power (s : State) (row : Nat) : (safetyReset s row).power = s.power := by
  simp (maxDischargeDepth := 40) [safetyReset]
@[simp ↓] theorem throttle_power (s : State) (on : Bool) : (throttle s on).power = s.power := by
  simp (maxDischargeDepth := 40) [throttle]
@[simp ↓] theorem domainTo_power (s : State) (dom : Nat) (ok : Bool) : (domainTo s dom ok).power = s.power := by
  simp (maxDischargeDepth := 40) [domainTo]

/-! ### Sweep -/

@[simp ↓] theorem windowClose_power (s : State) : (windowClose s).power = s.power := by
  unfold windowClose; dsimp only; (repeat' split) <;> simp (maxDischargeDepth := 40) [*]
@[simp ↓] theorem windowTake_power (s : State) (w : Sweep) : (windowTake s w).2.power = s.power := by
  simp (maxDischargeDepth := 40) [windowTake]
@[simp ↓] theorem gapAdd_power (s : State) (w : Sweep) : (gapAdd s w).power = s.power := by
  unfold gapAdd; dsimp only; (repeat' split) <;> simp (maxDischargeDepth := 40) [*]
@[simp ↓] theorem thermTake_power (s : State) (w : Sweep) : (thermTake s w).power = s.power := by
  simp (maxDischargeDepth := 40) [thermTake]
@[simp ↓] theorem sweepShow_power (s : State) (w : Sweep) (nn : Nat) : (sweepShow s w nn).power = s.power := by
  simp (maxDischargeDepth := 40) [sweepShow]
@[simp ↓] theorem sweepTake_power (s6 : State) (w : Sweep) : (sweepTake s6 w).power = s6.power := by
  simp (maxDischargeDepth := 40) [sweepTake]
@[simp ↓] theorem sweepFab_power (s : State) (w : Sweep) (nn : Nat) : (sweepFab s w nn).power = s.power := by
  simp (maxDischargeDepth := 40) [sweepFab]
@[simp ↓] theorem sweepDeliver_power (s : State) : (sweepDeliver s).power = s.power := by
  unfold sweepDeliver; split <;> simp (maxDischargeDepth := 40) [*]
@[simp ↓] theorem takeoverNext_power (s : State) : (takeoverNext s).power = s.power := by
  simp (maxDischargeDepth := 40) [takeoverNext]
@[simp ↓] theorem shadowNext_power (s : State) (rx : Option Nat) : (shadowNext s rx).power = s.power := by
  unfold shadowNext; split <;> simp (maxDischargeDepth := 40) [*]
@[simp ↓] theorem rateTake_power (s : State) : (rateTake s).power = s.power := by
  simp (maxDischargeDepth := 40) [rateTake]
@[simp ↓] theorem sampleInstant_power (s : State) (rx : Option Nat) (hv : HvmIn) (transit : Option Nat) : (sampleInstant s rx hv transit).power = s.power := by
  unfold sampleInstant; dsimp only; (repeat' split) <;> simp (maxDischargeDepth := 40) [*]
@[simp ↓] theorem tileJoin_power (s : State) (k : Nat) : (tileJoin s k).power = s.power := by
  simp (maxDischargeDepth := 40) [tileJoin]
@[simp ↓] theorem roundSafe_power (s : State) : (roundSafe s).power = s.power := by
  simp (maxDischargeDepth := 40) [roundSafe]
@[simp ↓] theorem dlyKeep_power (s : State) : (dlyKeep s).power = s.power := by
  simp (maxDischargeDepth := 40) [dlyKeep]
@[simp ↓] theorem chainRound_power (s : State) : (chainRound s).power = s.power := by
  simp (maxDischargeDepth := 40) [chainRound]

/-! ### Regs -/

@[simp ↓] theorem regRead_power (s0 : State) (lvl : Level) (a : Nat) : (regRead s0 lvl a).power = s0.power := by
  unfold regRead; dsimp only; (repeat' split) <;> simp (maxDischargeDepth := 40) [*]
@[simp ↓] theorem busRead_power (s : State) (lvl : Level) (a : Nat) (width : Nat) : (busRead s lvl a width).power = s.power := by
  simp (maxDischargeDepth := 40) [busRead]
@[simp ↓] theorem lockSet_power (s : State) (v : Nat) : (lockSet s v).power = s.power := by
  simp (maxDischargeDepth := 40) [lockSet]
@[simp ↓] theorem gateWrite_power (s : State) (v : Nat) : (gateWrite s v).power = s.power := by
  simp (maxDischargeDepth := 40) [gateWrite]
@[simp ↓] theorem wakeCfgWrite_power (s : State) (w : Word) : (wakeCfgWrite s w).power = s.power := by
  simp (maxDischargeDepth := 40) [wakeCfgWrite]
@[simp ↓] theorem incWrite_power (s : State) (dom : Nat) (v : Nat) : (incWrite s dom v).power = s.power := by
  simp (maxDischargeDepth := 40) [incWrite]
@[simp ↓] theorem plainWrite_power (s : State) (r : R.Row) (a : Nat) (v : Word) : (plainWrite s r a v).power = s.power := by
  simp (maxDischargeDepth := 40) [plainWrite]
@[simp ↓] theorem pairStage_power (s : State) (lvl : Level) (a : Nat) (v : Word) : (pairStage s lvl a v).power = s.power := by
  simp (maxDischargeDepth := 40) [pairStage]
@[simp ↓] theorem pairCommit_power (s : State) (lvl : Level) (a : Nat) (r : R.Row) (v : Word) : (pairCommit s lvl a r v).power = s.power := by
  unfold pairCommit; (repeat' split) <;> simp (maxDischargeDepth := 40) [*]
@[simp ↓] theorem regTake_power (s : State) (lvl : Level) (a : Nat) (r : R.Row) (v : Word) : (regTake s lvl a r v).power = s.power := by
  simp (maxDischargeDepth := 40) [regTake]
@[simp ↓] theorem regWrite_power (s : State) (lvl : Level) (a : Nat) (v : Word) : (regWrite s lvl a v).power = s.power := by
  unfold regWrite; (repeat' split) <;> simp (maxDischargeDepth := 40) [*]
@[simp ↓] theorem busWrite_power (s : State) (lvl : Level) (a : Nat) (width : Nat) (v : Nat) : (busWrite s lvl a width v).power = s.power := by
  simp (maxDischargeDepth := 40) [busWrite]
@[simp ↓] theorem readTake_power (s : State) (a : Nat) (now : SupplyIn) : (readTake s a now).power = s.power := by
  simp (maxDischargeDepth := 40) [readTake]

/-! ### ItemCheck -/

@[simp ↓] theorem itemFollow_power (s : State) (qp : Nat) : (itemFollow s qp).power = s.power := by
  simp (maxDischargeDepth := 40) [itemFollow]
@[simp ↓] theorem itemApply_power (s : State) (qp : Nat) (a : Nat) (d : ItemDesc) (bs : List Byte) : (itemApply s qp a d bs).1.power = s.power := by
  simp (maxDischargeDepth := 40) [itemApply]
@[simp ↓] theorem setConfig_power (qp : Nat) (e : Entry) (s : State) : (setConfig qp e s).1.power = s.power := by
  unfold setConfig withBuf; dsimp only; (repeat' split) <;> simp (maxDischargeDepth := 40) [*]
@[simp ↓] theorem getConfig_power (qp : Nat) (e : Entry) (s : State) : (getConfig qp e s).1.power = s.power := by
  simp (maxDischargeDepth := 40) [getConfig]

/-! ### Common -/

@[simp ↓] theorem getStatus_power (qp : Nat) (e : Entry) (s0 : State) : (getStatus qp e s0).1.power = s0.power := by
  simp (maxDischargeDepth := 40) [getStatus]
@[simp ↓] theorem engineEnable_power (qp : Nat) (e : Entry) (s : State) : (engineEnable qp e s).1.power = s.power := by
  unfold engineEnable; split <;> simp (maxDischargeDepth := 40) [*]
@[simp ↓] theorem engineDisable_power (qp : Nat) (e : Entry) (s : State) : (engineDisable qp e s).1.power = s.power := by
  unfold engineDisable; split <;> simp (maxDischargeDepth := 40) [*]
@[simp ↓] theorem markPt_power (x0 : Entry) (s : State) : (markPt x0 s).1.power = s.power := by
  simp (maxDischargeDepth := 40) [markPt]
@[simp ↓] theorem flushQp_power (qp : Nat) (x0 : Entry) (s : State) : (flushQp qp x0 s).1.power = s.power := by
  simp (maxDischargeDepth := 40) [flushQp]

end Sys2Proof.Laws
end

