-- ==== Sys2Proof/Laws/State.lean ====
section
/-! SUPPORT. What the operations that update one part of State leave as it was: one lemma per field and update, true by computation. -/

namespace Sys2Proof.Laws

open Sys2Proof.Machine

/-! ### regSet -/

@[simp] theorem regSet_pending_eq (s : State) (a : Nat) (w : Word) : (regSet s a w).pending = s.pending := rfl
@[simp] theorem regSet_bus_eq (s : State) (a : Nat) (w : Word) : (regSet s a w).bus = s.bus := rfl
@[simp] theorem regSet_shadows_eq (s : State) (a : Nat) (w : Word) : (regSet s a w).shadows = s.shadows := rfl
@[simp] theorem regSet_stages_eq (s : State) (a : Nat) (w : Word) : (regSet s a w).stages = s.stages := rfl
@[simp] theorem regSet_mem_eq (s : State) (a : Nat) (w : Word) : (regSet s a w).mem = s.mem := rfl
@[simp] theorem regSet_memErr_eq (s : State) (a : Nat) (w : Word) : (regSet s a w).memErr = s.memErr := rfl
@[simp] theorem regSet_qps_eq (s : State) (a : Nat) (w : Word) : (regSet s a w).qps = s.qps := rfl
@[simp] theorem regSet_power_eq (s : State) (a : Nat) (w : Word) : (regSet s a w).power = s.power := rfl
@[simp] theorem regSet_nv_eq (s : State) (a : Nat) (w : Word) : (regSet s a w).nv = s.nv := rfl
@[simp] theorem regSet_cfg_eq (s : State) (a : Nat) (w : Word) : (regSet s a w).cfg = s.cfg := rfl
@[simp] theorem regSet_cfgPend_eq (s : State) (a : Nat) (w : Word) : (regSet s a w).cfgPend = s.cfgPend := rfl
@[simp] theorem regSet_recd_eq (s : State) (a : Nat) (w : Word) : (regSet s a w).recd = s.recd := rfl
@[simp] theorem regSet_idk_eq (s : State) (a : Nat) (w : Word) : (regSet s a w).idk = s.idk := rfl
@[simp] theorem regSet_tiles_eq (s : State) (a : Nat) (w : Word) : (regSet s a w).tiles = s.tiles := rfl
@[simp] theorem regSet_chain_eq (s : State) (a : Nat) (w : Word) : (regSet s a w).chain = s.chain := rfl
@[simp] theorem regSet_meas_eq (s : State) (a : Nat) (w : Word) : (regSet s a w).meas = s.meas := rfl
@[simp] theorem regSet_hvm_eq (s : State) (a : Nat) (w : Word) : (regSet s a w).hvm = s.hvm := rfl
@[simp] theorem regSet_bal_eq (s : State) (a : Nat) (w : Word) : (regSet s a w).bal = s.bal := rfl
@[simp] theorem regSet_est_eq (s : State) (a : Nat) (w : Word) : (regSet s a w).est = s.est := rfl
@[simp] theorem regSet_eis_eq (s : State) (a : Nat) (w : Word) : (regSet s a w).eis = s.eis := rfl
@[simp] theorem regSet_therm_eq (s : State) (a : Nat) (w : Word) : (regSet s a w).therm = s.therm := rfl
@[simp] theorem regSet_ctrl_eq (s : State) (a : Nat) (w : Word) : (regSet s a w).ctrl = s.ctrl := rfl
@[simp] theorem regSet_can_eq (s : State) (a : Nat) (w : Word) : (regSet s a w).can = s.can := rfl
@[simp] theorem regSet_safe_eq (s : State) (a : Nat) (w : Word) : (regSet s a w).safe = s.safe := rfl
@[simp] theorem regSet_stl_eq (s : State) (a : Nat) (w : Word) : (regSet s a w).stl = s.stl := rfl
@[simp] theorem regSet_red_eq (s : State) (a : Nat) (w : Word) : (regSet s a w).red = s.red := rfl
@[simp] theorem regSet_eth_eq (s : State) (a : Nat) (w : Word) : (regSet s a w).eth = s.eth := rfl
@[simp] theorem regSet_upd_eq (s : State) (a : Nat) (w : Word) : (regSet s a w).upd = s.upd := rfl
@[simp] theorem regSet_ptp_eq (s : State) (a : Nat) (w : Word) : (regSet s a w).ptp = s.ptp := rfl
@[simp] theorem regSet_perf_eq (s : State) (a : Nat) (w : Word) : (regSet s a w).perf = s.perf := rfl
@[simp] theorem regSet_pepper_eq (s : State) (a : Nat) (w : Word) : (regSet s a w).pepper = s.pepper := rfl
@[simp] theorem regSet_out_eq (s : State) (a : Nat) (w : Word) : (regSet s a w).out = s.out := rfl
@[simp] theorem regSet_free_eq (s : State) (a : Nat) (w : Word) : (regSet s a w).free = s.free := rfl

/-! ### wr -/

@[simp] theorem wr_pending_eq (s : State) (f : Fld) (v : Nat) : (wr s f v).pending = s.pending := rfl
@[simp] theorem wr_bus_eq (s : State) (f : Fld) (v : Nat) : (wr s f v).bus = s.bus := rfl
@[simp] theorem wr_shadows_eq (s : State) (f : Fld) (v : Nat) : (wr s f v).shadows = s.shadows := rfl
@[simp] theorem wr_stages_eq (s : State) (f : Fld) (v : Nat) : (wr s f v).stages = s.stages := rfl
@[simp] theorem wr_mem_eq (s : State) (f : Fld) (v : Nat) : (wr s f v).mem = s.mem := rfl
@[simp] theorem wr_memErr_eq (s : State) (f : Fld) (v : Nat) : (wr s f v).memErr = s.memErr := rfl
@[simp] theorem wr_qps_eq (s : State) (f : Fld) (v : Nat) : (wr s f v).qps = s.qps := rfl
@[simp] theorem wr_power_eq (s : State) (f : Fld) (v : Nat) : (wr s f v).power = s.power := rfl
@[simp] theorem wr_nv_eq (s : State) (f : Fld) (v : Nat) : (wr s f v).nv = s.nv := rfl
@[simp] theorem wr_cfg_eq (s : State) (f : Fld) (v : Nat) : (wr s f v).cfg = s.cfg := rfl
@[simp] theorem wr_cfgPend_eq (s : State) (f : Fld) (v : Nat) : (wr s f v).cfgPend = s.cfgPend := rfl
@[simp] theorem wr_recd_eq (s : State) (f : Fld) (v : Nat) : (wr s f v).recd = s.recd := rfl
@[simp] theorem wr_idk_eq (s : State) (f : Fld) (v : Nat) : (wr s f v).idk = s.idk := rfl
@[simp] theorem wr_tiles_eq (s : State) (f : Fld) (v : Nat) : (wr s f v).tiles = s.tiles := rfl
@[simp] theorem wr_chain_eq (s : State) (f : Fld) (v : Nat) : (wr s f v).chain = s.chain := rfl
@[simp] theorem wr_meas_eq (s : State) (f : Fld) (v : Nat) : (wr s f v).meas = s.meas := rfl
@[simp] theorem wr_hvm_eq (s : State) (f : Fld) (v : Nat) : (wr s f v).hvm = s.hvm := rfl
@[simp] theorem wr_bal_eq (s : State) (f : Fld) (v : Nat) : (wr s f v).bal = s.bal := rfl
@[simp] theorem wr_est_eq (s : State) (f : Fld) (v : Nat) : (wr s f v).est = s.est := rfl
@[simp] theorem wr_eis_eq (s : State) (f : Fld) (v : Nat) : (wr s f v).eis = s.eis := rfl
@[simp] theorem wr_therm_eq (s : State) (f : Fld) (v : Nat) : (wr s f v).therm = s.therm := rfl
@[simp] theorem wr_ctrl_eq (s : State) (f : Fld) (v : Nat) : (wr s f v).ctrl = s.ctrl := rfl
@[simp] theorem wr_can_eq (s : State) (f : Fld) (v : Nat) : (wr s f v).can = s.can := rfl
@[simp] theorem wr_safe_eq (s : State) (f : Fld) (v : Nat) : (wr s f v).safe = s.safe := rfl
@[simp] theorem wr_stl_eq (s : State) (f : Fld) (v : Nat) : (wr s f v).stl = s.stl := rfl
@[simp] theorem wr_red_eq (s : State) (f : Fld) (v : Nat) : (wr s f v).red = s.red := rfl
@[simp] theorem wr_eth_eq (s : State) (f : Fld) (v : Nat) : (wr s f v).eth = s.eth := rfl
@[simp] theorem wr_upd_eq (s : State) (f : Fld) (v : Nat) : (wr s f v).upd = s.upd := rfl
@[simp] theorem wr_ptp_eq (s : State) (f : Fld) (v : Nat) : (wr s f v).ptp = s.ptp := rfl
@[simp] theorem wr_perf_eq (s : State) (f : Fld) (v : Nat) : (wr s f v).perf = s.perf := rfl
@[simp] theorem wr_pepper_eq (s : State) (f : Fld) (v : Nat) : (wr s f v).pepper = s.pepper := rfl
@[simp] theorem wr_out_eq (s : State) (f : Fld) (v : Nat) : (wr s f v).out = s.out := rfl
@[simp] theorem wr_free_eq (s : State) (f : Fld) (v : Nat) : (wr s f v).free = s.free := rfl

/-! ### put -/

@[simp] theorem put_pending_eq (s : State) (f : Fld) (b : Bool) : (put s f b).pending = s.pending := rfl
@[simp] theorem put_bus_eq (s : State) (f : Fld) (b : Bool) : (put s f b).bus = s.bus := rfl
@[simp] theorem put_shadows_eq (s : State) (f : Fld) (b : Bool) : (put s f b).shadows = s.shadows := rfl
@[simp] theorem put_stages_eq (s : State) (f : Fld) (b : Bool) : (put s f b).stages = s.stages := rfl
@[simp] theorem put_mem_eq (s : State) (f : Fld) (b : Bool) : (put s f b).mem = s.mem := rfl
@[simp] theorem put_memErr_eq (s : State) (f : Fld) (b : Bool) : (put s f b).memErr = s.memErr := rfl
@[simp] theorem put_qps_eq (s : State) (f : Fld) (b : Bool) : (put s f b).qps = s.qps := rfl
@[simp] theorem put_power_eq (s : State) (f : Fld) (b : Bool) : (put s f b).power = s.power := rfl
@[simp] theorem put_nv_eq (s : State) (f : Fld) (b : Bool) : (put s f b).nv = s.nv := rfl
@[simp] theorem put_cfg_eq (s : State) (f : Fld) (b : Bool) : (put s f b).cfg = s.cfg := rfl
@[simp] theorem put_cfgPend_eq (s : State) (f : Fld) (b : Bool) : (put s f b).cfgPend = s.cfgPend := rfl
@[simp] theorem put_recd_eq (s : State) (f : Fld) (b : Bool) : (put s f b).recd = s.recd := rfl
@[simp] theorem put_idk_eq (s : State) (f : Fld) (b : Bool) : (put s f b).idk = s.idk := rfl
@[simp] theorem put_tiles_eq (s : State) (f : Fld) (b : Bool) : (put s f b).tiles = s.tiles := rfl
@[simp] theorem put_chain_eq (s : State) (f : Fld) (b : Bool) : (put s f b).chain = s.chain := rfl
@[simp] theorem put_meas_eq (s : State) (f : Fld) (b : Bool) : (put s f b).meas = s.meas := rfl
@[simp] theorem put_hvm_eq (s : State) (f : Fld) (b : Bool) : (put s f b).hvm = s.hvm := rfl
@[simp] theorem put_bal_eq (s : State) (f : Fld) (b : Bool) : (put s f b).bal = s.bal := rfl
@[simp] theorem put_est_eq (s : State) (f : Fld) (b : Bool) : (put s f b).est = s.est := rfl
@[simp] theorem put_eis_eq (s : State) (f : Fld) (b : Bool) : (put s f b).eis = s.eis := rfl
@[simp] theorem put_therm_eq (s : State) (f : Fld) (b : Bool) : (put s f b).therm = s.therm := rfl
@[simp] theorem put_ctrl_eq (s : State) (f : Fld) (b : Bool) : (put s f b).ctrl = s.ctrl := rfl
@[simp] theorem put_can_eq (s : State) (f : Fld) (b : Bool) : (put s f b).can = s.can := rfl
@[simp] theorem put_safe_eq (s : State) (f : Fld) (b : Bool) : (put s f b).safe = s.safe := rfl
@[simp] theorem put_stl_eq (s : State) (f : Fld) (b : Bool) : (put s f b).stl = s.stl := rfl
@[simp] theorem put_red_eq (s : State) (f : Fld) (b : Bool) : (put s f b).red = s.red := rfl
@[simp] theorem put_eth_eq (s : State) (f : Fld) (b : Bool) : (put s f b).eth = s.eth := rfl
@[simp] theorem put_upd_eq (s : State) (f : Fld) (b : Bool) : (put s f b).upd = s.upd := rfl
@[simp] theorem put_ptp_eq (s : State) (f : Fld) (b : Bool) : (put s f b).ptp = s.ptp := rfl
@[simp] theorem put_perf_eq (s : State) (f : Fld) (b : Bool) : (put s f b).perf = s.perf := rfl
@[simp] theorem put_pepper_eq (s : State) (f : Fld) (b : Bool) : (put s f b).pepper = s.pepper := rfl
@[simp] theorem put_out_eq (s : State) (f : Fld) (b : Bool) : (put s f b).out = s.out := rfl
@[simp] theorem put_free_eq (s : State) (f : Fld) (b : Bool) : (put s f b).free = s.free := rfl

/-! ### wrS -/

@[simp] theorem wrS_pending_eq (s : State) (f : Fld) (v : Int) : (wrS s f v).pending = s.pending := rfl
@[simp] theorem wrS_bus_eq (s : State) (f : Fld) (v : Int) : (wrS s f v).bus = s.bus := rfl
@[simp] theorem wrS_shadows_eq (s : State) (f : Fld) (v : Int) : (wrS s f v).shadows = s.shadows := rfl
@[simp] theorem wrS_stages_eq (s : State) (f : Fld) (v : Int) : (wrS s f v).stages = s.stages := rfl
@[simp] theorem wrS_mem_eq (s : State) (f : Fld) (v : Int) : (wrS s f v).mem = s.mem := rfl
@[simp] theorem wrS_memErr_eq (s : State) (f : Fld) (v : Int) : (wrS s f v).memErr = s.memErr := rfl
@[simp] theorem wrS_qps_eq (s : State) (f : Fld) (v : Int) : (wrS s f v).qps = s.qps := rfl
@[simp] theorem wrS_power_eq (s : State) (f : Fld) (v : Int) : (wrS s f v).power = s.power := rfl
@[simp] theorem wrS_nv_eq (s : State) (f : Fld) (v : Int) : (wrS s f v).nv = s.nv := rfl
@[simp] theorem wrS_cfg_eq (s : State) (f : Fld) (v : Int) : (wrS s f v).cfg = s.cfg := rfl
@[simp] theorem wrS_cfgPend_eq (s : State) (f : Fld) (v : Int) : (wrS s f v).cfgPend = s.cfgPend := rfl
@[simp] theorem wrS_recd_eq (s : State) (f : Fld) (v : Int) : (wrS s f v).recd = s.recd := rfl
@[simp] theorem wrS_idk_eq (s : State) (f : Fld) (v : Int) : (wrS s f v).idk = s.idk := rfl
@[simp] theorem wrS_tiles_eq (s : State) (f : Fld) (v : Int) : (wrS s f v).tiles = s.tiles := rfl
@[simp] theorem wrS_chain_eq (s : State) (f : Fld) (v : Int) : (wrS s f v).chain = s.chain := rfl
@[simp] theorem wrS_meas_eq (s : State) (f : Fld) (v : Int) : (wrS s f v).meas = s.meas := rfl
@[simp] theorem wrS_hvm_eq (s : State) (f : Fld) (v : Int) : (wrS s f v).hvm = s.hvm := rfl
@[simp] theorem wrS_bal_eq (s : State) (f : Fld) (v : Int) : (wrS s f v).bal = s.bal := rfl
@[simp] theorem wrS_est_eq (s : State) (f : Fld) (v : Int) : (wrS s f v).est = s.est := rfl
@[simp] theorem wrS_eis_eq (s : State) (f : Fld) (v : Int) : (wrS s f v).eis = s.eis := rfl
@[simp] theorem wrS_therm_eq (s : State) (f : Fld) (v : Int) : (wrS s f v).therm = s.therm := rfl
@[simp] theorem wrS_ctrl_eq (s : State) (f : Fld) (v : Int) : (wrS s f v).ctrl = s.ctrl := rfl
@[simp] theorem wrS_can_eq (s : State) (f : Fld) (v : Int) : (wrS s f v).can = s.can := rfl
@[simp] theorem wrS_safe_eq (s : State) (f : Fld) (v : Int) : (wrS s f v).safe = s.safe := rfl
@[simp] theorem wrS_stl_eq (s : State) (f : Fld) (v : Int) : (wrS s f v).stl = s.stl := rfl
@[simp] theorem wrS_red_eq (s : State) (f : Fld) (v : Int) : (wrS s f v).red = s.red := rfl
@[simp] theorem wrS_eth_eq (s : State) (f : Fld) (v : Int) : (wrS s f v).eth = s.eth := rfl
@[simp] theorem wrS_upd_eq (s : State) (f : Fld) (v : Int) : (wrS s f v).upd = s.upd := rfl
@[simp] theorem wrS_ptp_eq (s : State) (f : Fld) (v : Int) : (wrS s f v).ptp = s.ptp := rfl
@[simp] theorem wrS_perf_eq (s : State) (f : Fld) (v : Int) : (wrS s f v).perf = s.perf := rfl
@[simp] theorem wrS_pepper_eq (s : State) (f : Fld) (v : Int) : (wrS s f v).pepper = s.pepper := rfl
@[simp] theorem wrS_out_eq (s : State) (f : Fld) (v : Int) : (wrS s f v).out = s.out := rfl
@[simp] theorem wrS_free_eq (s : State) (f : Fld) (v : Int) : (wrS s f v).free = s.free := rfl

/-! ### bump -/

@[simp] theorem bump_pending_eq (s : State) (f : Fld) : (bump s f).pending = s.pending := rfl
@[simp] theorem bump_bus_eq (s : State) (f : Fld) : (bump s f).bus = s.bus := rfl
@[simp] theorem bump_shadows_eq (s : State) (f : Fld) : (bump s f).shadows = s.shadows := rfl
@[simp] theorem bump_stages_eq (s : State) (f : Fld) : (bump s f).stages = s.stages := rfl
@[simp] theorem bump_mem_eq (s : State) (f : Fld) : (bump s f).mem = s.mem := rfl
@[simp] theorem bump_memErr_eq (s : State) (f : Fld) : (bump s f).memErr = s.memErr := rfl
@[simp] theorem bump_qps_eq (s : State) (f : Fld) : (bump s f).qps = s.qps := rfl
@[simp] theorem bump_power_eq (s : State) (f : Fld) : (bump s f).power = s.power := rfl
@[simp] theorem bump_nv_eq (s : State) (f : Fld) : (bump s f).nv = s.nv := rfl
@[simp] theorem bump_cfg_eq (s : State) (f : Fld) : (bump s f).cfg = s.cfg := rfl
@[simp] theorem bump_cfgPend_eq (s : State) (f : Fld) : (bump s f).cfgPend = s.cfgPend := rfl
@[simp] theorem bump_recd_eq (s : State) (f : Fld) : (bump s f).recd = s.recd := rfl
@[simp] theorem bump_idk_eq (s : State) (f : Fld) : (bump s f).idk = s.idk := rfl
@[simp] theorem bump_tiles_eq (s : State) (f : Fld) : (bump s f).tiles = s.tiles := rfl
@[simp] theorem bump_chain_eq (s : State) (f : Fld) : (bump s f).chain = s.chain := rfl
@[simp] theorem bump_meas_eq (s : State) (f : Fld) : (bump s f).meas = s.meas := rfl
@[simp] theorem bump_hvm_eq (s : State) (f : Fld) : (bump s f).hvm = s.hvm := rfl
@[simp] theorem bump_bal_eq (s : State) (f : Fld) : (bump s f).bal = s.bal := rfl
@[simp] theorem bump_est_eq (s : State) (f : Fld) : (bump s f).est = s.est := rfl
@[simp] theorem bump_eis_eq (s : State) (f : Fld) : (bump s f).eis = s.eis := rfl
@[simp] theorem bump_therm_eq (s : State) (f : Fld) : (bump s f).therm = s.therm := rfl
@[simp] theorem bump_ctrl_eq (s : State) (f : Fld) : (bump s f).ctrl = s.ctrl := rfl
@[simp] theorem bump_can_eq (s : State) (f : Fld) : (bump s f).can = s.can := rfl
@[simp] theorem bump_safe_eq (s : State) (f : Fld) : (bump s f).safe = s.safe := rfl
@[simp] theorem bump_stl_eq (s : State) (f : Fld) : (bump s f).stl = s.stl := rfl
@[simp] theorem bump_red_eq (s : State) (f : Fld) : (bump s f).red = s.red := rfl
@[simp] theorem bump_eth_eq (s : State) (f : Fld) : (bump s f).eth = s.eth := rfl
@[simp] theorem bump_upd_eq (s : State) (f : Fld) : (bump s f).upd = s.upd := rfl
@[simp] theorem bump_ptp_eq (s : State) (f : Fld) : (bump s f).ptp = s.ptp := rfl
@[simp] theorem bump_perf_eq (s : State) (f : Fld) : (bump s f).perf = s.perf := rfl
@[simp] theorem bump_pepper_eq (s : State) (f : Fld) : (bump s f).pepper = s.pepper := rfl
@[simp] theorem bump_out_eq (s : State) (f : Fld) : (bump s f).out = s.out := rfl
@[simp] theorem bump_free_eq (s : State) (f : Fld) : (bump s f).free = s.free := rfl

/-! ### bumpBy -/

@[simp] theorem bumpBy_pending_eq (s : State) (f : Fld) (n : Nat) : (bumpBy s f n).pending = s.pending := rfl
@[simp] theorem bumpBy_bus_eq (s : State) (f : Fld) (n : Nat) : (bumpBy s f n).bus = s.bus := rfl
@[simp] theorem bumpBy_shadows_eq (s : State) (f : Fld) (n : Nat) : (bumpBy s f n).shadows = s.shadows := rfl
@[simp] theorem bumpBy_stages_eq (s : State) (f : Fld) (n : Nat) : (bumpBy s f n).stages = s.stages := rfl
@[simp] theorem bumpBy_mem_eq (s : State) (f : Fld) (n : Nat) : (bumpBy s f n).mem = s.mem := rfl
@[simp] theorem bumpBy_memErr_eq (s : State) (f : Fld) (n : Nat) : (bumpBy s f n).memErr = s.memErr := rfl
@[simp] theorem bumpBy_qps_eq (s : State) (f : Fld) (n : Nat) : (bumpBy s f n).qps = s.qps := rfl
@[simp] theorem bumpBy_power_eq (s : State) (f : Fld) (n : Nat) : (bumpBy s f n).power = s.power := rfl
@[simp] theorem bumpBy_nv_eq (s : State) (f : Fld) (n : Nat) : (bumpBy s f n).nv = s.nv := rfl
@[simp] theorem bumpBy_cfg_eq (s : State) (f : Fld) (n : Nat) : (bumpBy s f n).cfg = s.cfg := rfl
@[simp] theorem bumpBy_cfgPend_eq (s : State) (f : Fld) (n : Nat) : (bumpBy s f n).cfgPend = s.cfgPend := rfl
@[simp] theorem bumpBy_recd_eq (s : State) (f : Fld) (n : Nat) : (bumpBy s f n).recd = s.recd := rfl
@[simp] theorem bumpBy_idk_eq (s : State) (f : Fld) (n : Nat) : (bumpBy s f n).idk = s.idk := rfl
@[simp] theorem bumpBy_tiles_eq (s : State) (f : Fld) (n : Nat) : (bumpBy s f n).tiles = s.tiles := rfl
@[simp] theorem bumpBy_chain_eq (s : State) (f : Fld) (n : Nat) : (bumpBy s f n).chain = s.chain := rfl
@[simp] theorem bumpBy_meas_eq (s : State) (f : Fld) (n : Nat) : (bumpBy s f n).meas = s.meas := rfl
@[simp] theorem bumpBy_hvm_eq (s : State) (f : Fld) (n : Nat) : (bumpBy s f n).hvm = s.hvm := rfl
@[simp] theorem bumpBy_bal_eq (s : State) (f : Fld) (n : Nat) : (bumpBy s f n).bal = s.bal := rfl
@[simp] theorem bumpBy_est_eq (s : State) (f : Fld) (n : Nat) : (bumpBy s f n).est = s.est := rfl
@[simp] theorem bumpBy_eis_eq (s : State) (f : Fld) (n : Nat) : (bumpBy s f n).eis = s.eis := rfl
@[simp] theorem bumpBy_therm_eq (s : State) (f : Fld) (n : Nat) : (bumpBy s f n).therm = s.therm := rfl
@[simp] theorem bumpBy_ctrl_eq (s : State) (f : Fld) (n : Nat) : (bumpBy s f n).ctrl = s.ctrl := rfl
@[simp] theorem bumpBy_can_eq (s : State) (f : Fld) (n : Nat) : (bumpBy s f n).can = s.can := rfl
@[simp] theorem bumpBy_safe_eq (s : State) (f : Fld) (n : Nat) : (bumpBy s f n).safe = s.safe := rfl
@[simp] theorem bumpBy_stl_eq (s : State) (f : Fld) (n : Nat) : (bumpBy s f n).stl = s.stl := rfl
@[simp] theorem bumpBy_red_eq (s : State) (f : Fld) (n : Nat) : (bumpBy s f n).red = s.red := rfl
@[simp] theorem bumpBy_eth_eq (s : State) (f : Fld) (n : Nat) : (bumpBy s f n).eth = s.eth := rfl
@[simp] theorem bumpBy_upd_eq (s : State) (f : Fld) (n : Nat) : (bumpBy s f n).upd = s.upd := rfl
@[simp] theorem bumpBy_ptp_eq (s : State) (f : Fld) (n : Nat) : (bumpBy s f n).ptp = s.ptp := rfl
@[simp] theorem bumpBy_perf_eq (s : State) (f : Fld) (n : Nat) : (bumpBy s f n).perf = s.perf := rfl
@[simp] theorem bumpBy_pepper_eq (s : State) (f : Fld) (n : Nat) : (bumpBy s f n).pepper = s.pepper := rfl
@[simp] theorem bumpBy_out_eq (s : State) (f : Fld) (n : Nat) : (bumpBy s f n).out = s.out := rfl
@[simp] theorem bumpBy_free_eq (s : State) (f : Fld) (n : Nat) : (bumpBy s f n).free = s.free := rfl

/-! ### putBit -/

@[simp] theorem putBit_pending_eq (s : State) (f : Fld) (i : Nat) (b : Bool) : (putBit s f i b).pending = s.pending := rfl
@[simp] theorem putBit_bus_eq (s : State) (f : Fld) (i : Nat) (b : Bool) : (putBit s f i b).bus = s.bus := rfl
@[simp] theorem putBit_shadows_eq (s : State) (f : Fld) (i : Nat) (b : Bool) : (putBit s f i b).shadows = s.shadows := rfl
@[simp] theorem putBit_stages_eq (s : State) (f : Fld) (i : Nat) (b : Bool) : (putBit s f i b).stages = s.stages := rfl
@[simp] theorem putBit_mem_eq (s : State) (f : Fld) (i : Nat) (b : Bool) : (putBit s f i b).mem = s.mem := rfl
@[simp] theorem putBit_memErr_eq (s : State) (f : Fld) (i : Nat) (b : Bool) : (putBit s f i b).memErr = s.memErr := rfl
@[simp] theorem putBit_qps_eq (s : State) (f : Fld) (i : Nat) (b : Bool) : (putBit s f i b).qps = s.qps := rfl
@[simp] theorem putBit_power_eq (s : State) (f : Fld) (i : Nat) (b : Bool) : (putBit s f i b).power = s.power := rfl
@[simp] theorem putBit_nv_eq (s : State) (f : Fld) (i : Nat) (b : Bool) : (putBit s f i b).nv = s.nv := rfl
@[simp] theorem putBit_cfg_eq (s : State) (f : Fld) (i : Nat) (b : Bool) : (putBit s f i b).cfg = s.cfg := rfl
@[simp] theorem putBit_cfgPend_eq (s : State) (f : Fld) (i : Nat) (b : Bool) : (putBit s f i b).cfgPend = s.cfgPend := rfl
@[simp] theorem putBit_recd_eq (s : State) (f : Fld) (i : Nat) (b : Bool) : (putBit s f i b).recd = s.recd := rfl
@[simp] theorem putBit_idk_eq (s : State) (f : Fld) (i : Nat) (b : Bool) : (putBit s f i b).idk = s.idk := rfl
@[simp] theorem putBit_tiles_eq (s : State) (f : Fld) (i : Nat) (b : Bool) : (putBit s f i b).tiles = s.tiles := rfl
@[simp] theorem putBit_chain_eq (s : State) (f : Fld) (i : Nat) (b : Bool) : (putBit s f i b).chain = s.chain := rfl
@[simp] theorem putBit_meas_eq (s : State) (f : Fld) (i : Nat) (b : Bool) : (putBit s f i b).meas = s.meas := rfl
@[simp] theorem putBit_hvm_eq (s : State) (f : Fld) (i : Nat) (b : Bool) : (putBit s f i b).hvm = s.hvm := rfl
@[simp] theorem putBit_bal_eq (s : State) (f : Fld) (i : Nat) (b : Bool) : (putBit s f i b).bal = s.bal := rfl
@[simp] theorem putBit_est_eq (s : State) (f : Fld) (i : Nat) (b : Bool) : (putBit s f i b).est = s.est := rfl
@[simp] theorem putBit_eis_eq (s : State) (f : Fld) (i : Nat) (b : Bool) : (putBit s f i b).eis = s.eis := rfl
@[simp] theorem putBit_therm_eq (s : State) (f : Fld) (i : Nat) (b : Bool) : (putBit s f i b).therm = s.therm := rfl
@[simp] theorem putBit_ctrl_eq (s : State) (f : Fld) (i : Nat) (b : Bool) : (putBit s f i b).ctrl = s.ctrl := rfl
@[simp] theorem putBit_can_eq (s : State) (f : Fld) (i : Nat) (b : Bool) : (putBit s f i b).can = s.can := rfl
@[simp] theorem putBit_safe_eq (s : State) (f : Fld) (i : Nat) (b : Bool) : (putBit s f i b).safe = s.safe := rfl
@[simp] theorem putBit_stl_eq (s : State) (f : Fld) (i : Nat) (b : Bool) : (putBit s f i b).stl = s.stl := rfl
@[simp] theorem putBit_red_eq (s : State) (f : Fld) (i : Nat) (b : Bool) : (putBit s f i b).red = s.red := rfl
@[simp] theorem putBit_eth_eq (s : State) (f : Fld) (i : Nat) (b : Bool) : (putBit s f i b).eth = s.eth := rfl
@[simp] theorem putBit_upd_eq (s : State) (f : Fld) (i : Nat) (b : Bool) : (putBit s f i b).upd = s.upd := rfl
@[simp] theorem putBit_ptp_eq (s : State) (f : Fld) (i : Nat) (b : Bool) : (putBit s f i b).ptp = s.ptp := rfl
@[simp] theorem putBit_perf_eq (s : State) (f : Fld) (i : Nat) (b : Bool) : (putBit s f i b).perf = s.perf := rfl
@[simp] theorem putBit_pepper_eq (s : State) (f : Fld) (i : Nat) (b : Bool) : (putBit s f i b).pepper = s.pepper := rfl
@[simp] theorem putBit_out_eq (s : State) (f : Fld) (i : Nat) (b : Bool) : (putBit s f i b).out = s.out := rfl
@[simp] theorem putBit_free_eq (s : State) (f : Fld) (i : Nat) (b : Bool) : (putBit s f i b).free = s.free := rfl

/-! ### resetSpan -/

@[simp] theorem resetSpan_pending_eq (s : State) (a b : Nat) : (resetSpan s a b).pending = s.pending := rfl
@[simp] theorem resetSpan_bus_eq (s : State) (a b : Nat) : (resetSpan s a b).bus = s.bus := rfl
@[simp] theorem resetSpan_mem_eq (s : State) (a b : Nat) : (resetSpan s a b).mem = s.mem := rfl
@[simp] theorem resetSpan_memErr_eq (s : State) (a b : Nat) : (resetSpan s a b).memErr = s.memErr := rfl
@[simp] theorem resetSpan_qps_eq (s : State) (a b : Nat) : (resetSpan s a b).qps = s.qps := rfl
@[simp] theorem resetSpan_power_eq (s : State) (a b : Nat) : (resetSpan s a b).power = s.power := rfl
@[simp] theorem resetSpan_nv_eq (s : State) (a b : Nat) : (resetSpan s a b).nv = s.nv := rfl
@[simp] theorem resetSpan_cfg_eq (s : State) (a b : Nat) : (resetSpan s a b).cfg = s.cfg := rfl
@[simp] theorem resetSpan_cfgPend_eq (s : State) (a b : Nat) : (resetSpan s a b).cfgPend = s.cfgPend := rfl
@[simp] theorem resetSpan_recd_eq (s : State) (a b : Nat) : (resetSpan s a b).recd = s.recd := rfl
@[simp] theorem resetSpan_idk_eq (s : State) (a b : Nat) : (resetSpan s a b).idk = s.idk := rfl
@[simp] theorem resetSpan_tiles_eq (s : State) (a b : Nat) : (resetSpan s a b).tiles = s.tiles := rfl
@[simp] theorem resetSpan_chain_eq (s : State) (a b : Nat) : (resetSpan s a b).chain = s.chain := rfl
@[simp] theorem resetSpan_meas_eq (s : State) (a b : Nat) : (resetSpan s a b).meas = s.meas := rfl
@[simp] theorem resetSpan_hvm_eq (s : State) (a b : Nat) : (resetSpan s a b).hvm = s.hvm := rfl
@[simp] theorem resetSpan_bal_eq (s : State) (a b : Nat) : (resetSpan s a b).bal = s.bal := rfl
@[simp] theorem resetSpan_est_eq (s : State) (a b : Nat) : (resetSpan s a b).est = s.est := rfl
@[simp] theorem resetSpan_eis_eq (s : State) (a b : Nat) : (resetSpan s a b).eis = s.eis := rfl
@[simp] theorem resetSpan_therm_eq (s : State) (a b : Nat) : (resetSpan s a b).therm = s.therm := rfl
@[simp] theorem resetSpan_ctrl_eq (s : State) (a b : Nat) : (resetSpan s a b).ctrl = s.ctrl := rfl
@[simp] theorem resetSpan_can_eq (s : State) (a b : Nat) : (resetSpan s a b).can = s.can := rfl
@[simp] theorem resetSpan_safe_eq (s : State) (a b : Nat) : (resetSpan s a b).safe = s.safe := rfl
@[simp] theorem resetSpan_stl_eq (s : State) (a b : Nat) : (resetSpan s a b).stl = s.stl := rfl
@[simp] theorem resetSpan_red_eq (s : State) (a b : Nat) : (resetSpan s a b).red = s.red := rfl
@[simp] theorem resetSpan_eth_eq (s : State) (a b : Nat) : (resetSpan s a b).eth = s.eth := rfl
@[simp] theorem resetSpan_upd_eq (s : State) (a b : Nat) : (resetSpan s a b).upd = s.upd := rfl
@[simp] theorem resetSpan_ptp_eq (s : State) (a b : Nat) : (resetSpan s a b).ptp = s.ptp := rfl
@[simp] theorem resetSpan_perf_eq (s : State) (a b : Nat) : (resetSpan s a b).perf = s.perf := rfl
@[simp] theorem resetSpan_pepper_eq (s : State) (a b : Nat) : (resetSpan s a b).pepper = s.pepper := rfl
@[simp] theorem resetSpan_out_eq (s : State) (a b : Nat) : (resetSpan s a b).out = s.out := rfl
@[simp] theorem resetSpan_free_eq (s : State) (a b : Nat) : (resetSpan s a b).free = s.free := rfl

/-! ### emit -/

@[simp] theorem emit_pending_eq (s : State) (k : OutKind) (args : List Nat) (data : List Byte) : (emit s k args data).pending = s.pending := rfl
@[simp] theorem emit_regs_eq (s : State) (k : OutKind) (args : List Nat) (data : List Byte) : (emit s k args data).regs = s.regs := rfl
@[simp] theorem emit_bus_eq (s : State) (k : OutKind) (args : List Nat) (data : List Byte) : (emit s k args data).bus = s.bus := rfl
@[simp] theorem emit_shadows_eq (s : State) (k : OutKind) (args : List Nat) (data : List Byte) : (emit s k args data).shadows = s.shadows := rfl
@[simp] theorem emit_stages_eq (s : State) (k : OutKind) (args : List Nat) (data : List Byte) : (emit s k args data).stages = s.stages := rfl
@[simp] theorem emit_mem_eq (s : State) (k : OutKind) (args : List Nat) (data : List Byte) : (emit s k args data).mem = s.mem := rfl
@[simp] theorem emit_memErr_eq (s : State) (k : OutKind) (args : List Nat) (data : List Byte) : (emit s k args data).memErr = s.memErr := rfl
@[simp] theorem emit_qps_eq (s : State) (k : OutKind) (args : List Nat) (data : List Byte) : (emit s k args data).qps = s.qps := rfl
@[simp] theorem emit_power_eq (s : State) (k : OutKind) (args : List Nat) (data : List Byte) : (emit s k args data).power = s.power := rfl
@[simp] theorem emit_nv_eq (s : State) (k : OutKind) (args : List Nat) (data : List Byte) : (emit s k args data).nv = s.nv := rfl
@[simp] theorem emit_cfg_eq (s : State) (k : OutKind) (args : List Nat) (data : List Byte) : (emit s k args data).cfg = s.cfg := rfl
@[simp] theorem emit_cfgPend_eq (s : State) (k : OutKind) (args : List Nat) (data : List Byte) : (emit s k args data).cfgPend = s.cfgPend := rfl
@[simp] theorem emit_recd_eq (s : State) (k : OutKind) (args : List Nat) (data : List Byte) : (emit s k args data).recd = s.recd := rfl
@[simp] theorem emit_idk_eq (s : State) (k : OutKind) (args : List Nat) (data : List Byte) : (emit s k args data).idk = s.idk := rfl
@[simp] theorem emit_tiles_eq (s : State) (k : OutKind) (args : List Nat) (data : List Byte) : (emit s k args data).tiles = s.tiles := rfl
@[simp] theorem emit_chain_eq (s : State) (k : OutKind) (args : List Nat) (data : List Byte) : (emit s k args data).chain = s.chain := rfl
@[simp] theorem emit_meas_eq (s : State) (k : OutKind) (args : List Nat) (data : List Byte) : (emit s k args data).meas = s.meas := rfl
@[simp] theorem emit_hvm_eq (s : State) (k : OutKind) (args : List Nat) (data : List Byte) : (emit s k args data).hvm = s.hvm := rfl
@[simp] theorem emit_bal_eq (s : State) (k : OutKind) (args : List Nat) (data : List Byte) : (emit s k args data).bal = s.bal := rfl
@[simp] theorem emit_est_eq (s : State) (k : OutKind) (args : List Nat) (data : List Byte) : (emit s k args data).est = s.est := rfl
@[simp] theorem emit_eis_eq (s : State) (k : OutKind) (args : List Nat) (data : List Byte) : (emit s k args data).eis = s.eis := rfl
@[simp] theorem emit_therm_eq (s : State) (k : OutKind) (args : List Nat) (data : List Byte) : (emit s k args data).therm = s.therm := rfl
@[simp] theorem emit_ctrl_eq (s : State) (k : OutKind) (args : List Nat) (data : List Byte) : (emit s k args data).ctrl = s.ctrl := rfl
@[simp] theorem emit_can_eq (s : State) (k : OutKind) (args : List Nat) (data : List Byte) : (emit s k args data).can = s.can := rfl
@[simp] theorem emit_safe_eq (s : State) (k : OutKind) (args : List Nat) (data : List Byte) : (emit s k args data).safe = s.safe := rfl
@[simp] theorem emit_stl_eq (s : State) (k : OutKind) (args : List Nat) (data : List Byte) : (emit s k args data).stl = s.stl := rfl
@[simp] theorem emit_red_eq (s : State) (k : OutKind) (args : List Nat) (data : List Byte) : (emit s k args data).red = s.red := rfl
@[simp] theorem emit_eth_eq (s : State) (k : OutKind) (args : List Nat) (data : List Byte) : (emit s k args data).eth = s.eth := rfl
@[simp] theorem emit_upd_eq (s : State) (k : OutKind) (args : List Nat) (data : List Byte) : (emit s k args data).upd = s.upd := rfl
@[simp] theorem emit_ptp_eq (s : State) (k : OutKind) (args : List Nat) (data : List Byte) : (emit s k args data).ptp = s.ptp := rfl
@[simp] theorem emit_perf_eq (s : State) (k : OutKind) (args : List Nat) (data : List Byte) : (emit s k args data).perf = s.perf := rfl
@[simp] theorem emit_pepper_eq (s : State) (k : OutKind) (args : List Nat) (data : List Byte) : (emit s k args data).pepper = s.pepper := rfl
@[simp] theorem emit_free_eq (s : State) (k : OutKind) (args : List Nat) (data : List Byte) : (emit s k args data).free = s.free := rfl

/-! ### memWrite -/

@[simp] theorem memWrite_pending_eq (s : State) (a : Nat) (bs : List Byte) : (memWrite s a bs).pending = s.pending := rfl
@[simp] theorem memWrite_regs_eq (s : State) (a : Nat) (bs : List Byte) : (memWrite s a bs).regs = s.regs := rfl
@[simp] theorem memWrite_bus_eq (s : State) (a : Nat) (bs : List Byte) : (memWrite s a bs).bus = s.bus := rfl
@[simp] theorem memWrite_shadows_eq (s : State) (a : Nat) (bs : List Byte) : (memWrite s a bs).shadows = s.shadows := rfl
@[simp] theorem memWrite_stages_eq (s : State) (a : Nat) (bs : List Byte) : (memWrite s a bs).stages = s.stages := rfl
@[simp] theorem memWrite_qps_eq (s : State) (a : Nat) (bs : List Byte) : (memWrite s a bs).qps = s.qps := rfl
@[simp] theorem memWrite_power_eq (s : State) (a : Nat) (bs : List Byte) : (memWrite s a bs).power = s.power := rfl
@[simp] theorem memWrite_nv_eq (s : State) (a : Nat) (bs : List Byte) : (memWrite s a bs).nv = s.nv := rfl
@[simp] theorem memWrite_cfg_eq (s : State) (a : Nat) (bs : List Byte) : (memWrite s a bs).cfg = s.cfg := rfl
@[simp] theorem memWrite_cfgPend_eq (s : State) (a : Nat) (bs : List Byte) : (memWrite s a bs).cfgPend = s.cfgPend := rfl
@[simp] theorem memWrite_recd_eq (s : State) (a : Nat) (bs : List Byte) : (memWrite s a bs).recd = s.recd := rfl
@[simp] theorem memWrite_idk_eq (s : State) (a : Nat) (bs : List Byte) : (memWrite s a bs).idk = s.idk := rfl
@[simp] theorem memWrite_tiles_eq (s : State) (a : Nat) (bs : List Byte) : (memWrite s a bs).tiles = s.tiles := rfl
@[simp] theorem memWrite_chain_eq (s : State) (a : Nat) (bs : List Byte) : (memWrite s a bs).chain = s.chain := rfl
@[simp] theorem memWrite_meas_eq (s : State) (a : Nat) (bs : List Byte) : (memWrite s a bs).meas = s.meas := rfl
@[simp] theorem memWrite_hvm_eq (s : State) (a : Nat) (bs : List Byte) : (memWrite s a bs).hvm = s.hvm := rfl
@[simp] theorem memWrite_bal_eq (s : State) (a : Nat) (bs : List Byte) : (memWrite s a bs).bal = s.bal := rfl
@[simp] theorem memWrite_est_eq (s : State) (a : Nat) (bs : List Byte) : (memWrite s a bs).est = s.est := rfl
@[simp] theorem memWrite_eis_eq (s : State) (a : Nat) (bs : List Byte) : (memWrite s a bs).eis = s.eis := rfl
@[simp] theorem memWrite_therm_eq (s : State) (a : Nat) (bs : List Byte) : (memWrite s a bs).therm = s.therm := rfl
@[simp] theorem memWrite_ctrl_eq (s : State) (a : Nat) (bs : List Byte) : (memWrite s a bs).ctrl = s.ctrl := rfl
@[simp] theorem memWrite_can_eq (s : State) (a : Nat) (bs : List Byte) : (memWrite s a bs).can = s.can := rfl
@[simp] theorem memWrite_safe_eq (s : State) (a : Nat) (bs : List Byte) : (memWrite s a bs).safe = s.safe := rfl
@[simp] theorem memWrite_stl_eq (s : State) (a : Nat) (bs : List Byte) : (memWrite s a bs).stl = s.stl := rfl
@[simp] theorem memWrite_red_eq (s : State) (a : Nat) (bs : List Byte) : (memWrite s a bs).red = s.red := rfl
@[simp] theorem memWrite_eth_eq (s : State) (a : Nat) (bs : List Byte) : (memWrite s a bs).eth = s.eth := rfl
@[simp] theorem memWrite_upd_eq (s : State) (a : Nat) (bs : List Byte) : (memWrite s a bs).upd = s.upd := rfl
@[simp] theorem memWrite_ptp_eq (s : State) (a : Nat) (bs : List Byte) : (memWrite s a bs).ptp = s.ptp := rfl
@[simp] theorem memWrite_perf_eq (s : State) (a : Nat) (bs : List Byte) : (memWrite s a bs).perf = s.perf := rfl
@[simp] theorem memWrite_pepper_eq (s : State) (a : Nat) (bs : List Byte) : (memWrite s a bs).pepper = s.pepper := rfl
@[simp] theorem memWrite_out_eq (s : State) (a : Nat) (bs : List Byte) : (memWrite s a bs).out = s.out := rfl
@[simp] theorem memWrite_free_eq (s : State) (a : Nat) (bs : List Byte) : (memWrite s a bs).free = s.free := rfl

/-! ### storCount -/

@[simp] theorem storCount_pending_eq (s : State) (n : Nat) : (storCount s n).pending = s.pending := rfl
@[simp] theorem storCount_regs_eq (s : State) (n : Nat) : (storCount s n).regs = s.regs := rfl
@[simp] theorem storCount_bus_eq (s : State) (n : Nat) : (storCount s n).bus = s.bus := rfl
@[simp] theorem storCount_shadows_eq (s : State) (n : Nat) : (storCount s n).shadows = s.shadows := rfl
@[simp] theorem storCount_stages_eq (s : State) (n : Nat) : (storCount s n).stages = s.stages := rfl
@[simp] theorem storCount_mem_eq (s : State) (n : Nat) : (storCount s n).mem = s.mem := rfl
@[simp] theorem storCount_memErr_eq (s : State) (n : Nat) : (storCount s n).memErr = s.memErr := rfl
@[simp] theorem storCount_qps_eq (s : State) (n : Nat) : (storCount s n).qps = s.qps := rfl
@[simp] theorem storCount_power_eq (s : State) (n : Nat) : (storCount s n).power = s.power := rfl
@[simp] theorem storCount_cfg_eq (s : State) (n : Nat) : (storCount s n).cfg = s.cfg := rfl
@[simp] theorem storCount_cfgPend_eq (s : State) (n : Nat) : (storCount s n).cfgPend = s.cfgPend := rfl
@[simp] theorem storCount_recd_eq (s : State) (n : Nat) : (storCount s n).recd = s.recd := rfl
@[simp] theorem storCount_idk_eq (s : State) (n : Nat) : (storCount s n).idk = s.idk := rfl
@[simp] theorem storCount_tiles_eq (s : State) (n : Nat) : (storCount s n).tiles = s.tiles := rfl
@[simp] theorem storCount_chain_eq (s : State) (n : Nat) : (storCount s n).chain = s.chain := rfl
@[simp] theorem storCount_meas_eq (s : State) (n : Nat) : (storCount s n).meas = s.meas := rfl
@[simp] theorem storCount_hvm_eq (s : State) (n : Nat) : (storCount s n).hvm = s.hvm := rfl
@[simp] theorem storCount_bal_eq (s : State) (n : Nat) : (storCount s n).bal = s.bal := rfl
@[simp] theorem storCount_est_eq (s : State) (n : Nat) : (storCount s n).est = s.est := rfl
@[simp] theorem storCount_eis_eq (s : State) (n : Nat) : (storCount s n).eis = s.eis := rfl
@[simp] theorem storCount_therm_eq (s : State) (n : Nat) : (storCount s n).therm = s.therm := rfl
@[simp] theorem storCount_ctrl_eq (s : State) (n : Nat) : (storCount s n).ctrl = s.ctrl := rfl
@[simp] theorem storCount_can_eq (s : State) (n : Nat) : (storCount s n).can = s.can := rfl
@[simp] theorem storCount_safe_eq (s : State) (n : Nat) : (storCount s n).safe = s.safe := rfl
@[simp] theorem storCount_stl_eq (s : State) (n : Nat) : (storCount s n).stl = s.stl := rfl
@[simp] theorem storCount_red_eq (s : State) (n : Nat) : (storCount s n).red = s.red := rfl
@[simp] theorem storCount_eth_eq (s : State) (n : Nat) : (storCount s n).eth = s.eth := rfl
@[simp] theorem storCount_upd_eq (s : State) (n : Nat) : (storCount s n).upd = s.upd := rfl
@[simp] theorem storCount_ptp_eq (s : State) (n : Nat) : (storCount s n).ptp = s.ptp := rfl
@[simp] theorem storCount_perf_eq (s : State) (n : Nat) : (storCount s n).perf = s.perf := rfl
@[simp] theorem storCount_pepper_eq (s : State) (n : Nat) : (storCount s n).pepper = s.pepper := rfl
@[simp] theorem storCount_out_eq (s : State) (n : Nat) : (storCount s n).out = s.out := rfl
@[simp] theorem storCount_free_eq (s : State) (n : Nat) : (storCount s n).free = s.free := rfl

/-! ### cfgForce -/

@[simp] theorem cfgForce_pending_eq (s : State) (key : Nat) (bs : List Byte) : (cfgForce s key bs).pending = s.pending := rfl
@[simp] theorem cfgForce_regs_eq (s : State) (key : Nat) (bs : List Byte) : (cfgForce s key bs).regs = s.regs := rfl
@[simp] theorem cfgForce_bus_eq (s : State) (key : Nat) (bs : List Byte) : (cfgForce s key bs).bus = s.bus := rfl
@[simp] theorem cfgForce_shadows_eq (s : State) (key : Nat) (bs : List Byte) : (cfgForce s key bs).shadows = s.shadows := rfl
@[simp] theorem cfgForce_stages_eq (s : State) (key : Nat) (bs : List Byte) : (cfgForce s key bs).stages = s.stages := rfl
@[simp] theorem cfgForce_mem_eq (s : State) (key : Nat) (bs : List Byte) : (cfgForce s key bs).mem = s.mem := rfl
@[simp] theorem cfgForce_memErr_eq (s : State) (key : Nat) (bs : List Byte) : (cfgForce s key bs).memErr = s.memErr := rfl
@[simp] theorem cfgForce_qps_eq (s : State) (key : Nat) (bs : List Byte) : (cfgForce s key bs).qps = s.qps := rfl
@[simp] theorem cfgForce_power_eq (s : State) (key : Nat) (bs : List Byte) : (cfgForce s key bs).power = s.power := rfl
@[simp] theorem cfgForce_nv_eq (s : State) (key : Nat) (bs : List Byte) : (cfgForce s key bs).nv = s.nv := rfl
@[simp] theorem cfgForce_recd_eq (s : State) (key : Nat) (bs : List Byte) : (cfgForce s key bs).recd = s.recd := rfl
@[simp] theorem cfgForce_idk_eq (s : State) (key : Nat) (bs : List Byte) : (cfgForce s key bs).idk = s.idk := rfl
@[simp] theorem cfgForce_tiles_eq (s : State) (key : Nat) (bs : List Byte) : (cfgForce s key bs).tiles = s.tiles := rfl
@[simp] theorem cfgForce_chain_eq (s : State) (key : Nat) (bs : List Byte) : (cfgForce s key bs).chain = s.chain := rfl
@[simp] theorem cfgForce_meas_eq (s : State) (key : Nat) (bs : List Byte) : (cfgForce s key bs).meas = s.meas := rfl
@[simp] theorem cfgForce_hvm_eq (s : State) (key : Nat) (bs : List Byte) : (cfgForce s key bs).hvm = s.hvm := rfl
@[simp] theorem cfgForce_bal_eq (s : State) (key : Nat) (bs : List Byte) : (cfgForce s key bs).bal = s.bal := rfl
@[simp] theorem cfgForce_est_eq (s : State) (key : Nat) (bs : List Byte) : (cfgForce s key bs).est = s.est := rfl
@[simp] theorem cfgForce_eis_eq (s : State) (key : Nat) (bs : List Byte) : (cfgForce s key bs).eis = s.eis := rfl
@[simp] theorem cfgForce_therm_eq (s : State) (key : Nat) (bs : List Byte) : (cfgForce s key bs).therm = s.therm := rfl
@[simp] theorem cfgForce_ctrl_eq (s : State) (key : Nat) (bs : List Byte) : (cfgForce s key bs).ctrl = s.ctrl := rfl
@[simp] theorem cfgForce_can_eq (s : State) (key : Nat) (bs : List Byte) : (cfgForce s key bs).can = s.can := rfl
@[simp] theorem cfgForce_safe_eq (s : State) (key : Nat) (bs : List Byte) : (cfgForce s key bs).safe = s.safe := rfl
@[simp] theorem cfgForce_stl_eq (s : State) (key : Nat) (bs : List Byte) : (cfgForce s key bs).stl = s.stl := rfl
@[simp] theorem cfgForce_red_eq (s : State) (key : Nat) (bs : List Byte) : (cfgForce s key bs).red = s.red := rfl
@[simp] theorem cfgForce_eth_eq (s : State) (key : Nat) (bs : List Byte) : (cfgForce s key bs).eth = s.eth := rfl
@[simp] theorem cfgForce_upd_eq (s : State) (key : Nat) (bs : List Byte) : (cfgForce s key bs).upd = s.upd := rfl
@[simp] theorem cfgForce_ptp_eq (s : State) (key : Nat) (bs : List Byte) : (cfgForce s key bs).ptp = s.ptp := rfl
@[simp] theorem cfgForce_perf_eq (s : State) (key : Nat) (bs : List Byte) : (cfgForce s key bs).perf = s.perf := rfl
@[simp] theorem cfgForce_pepper_eq (s : State) (key : Nat) (bs : List Byte) : (cfgForce s key bs).pepper = s.pepper := rfl
@[simp] theorem cfgForce_out_eq (s : State) (key : Nat) (bs : List Byte) : (cfgForce s key bs).out = s.out := rfl
@[simp] theorem cfgForce_free_eq (s : State) (key : Nat) (bs : List Byte) : (cfgForce s key bs).free = s.free := rfl

/-! ### cfgWait -/

@[simp] theorem cfgWait_pending_eq (s : State) (key : Nat) (bs : List Byte) : (cfgWait s key bs).pending = s.pending := rfl
@[simp] theorem cfgWait_regs_eq (s : State) (key : Nat) (bs : List Byte) : (cfgWait s key bs).regs = s.regs := rfl
@[simp] theorem cfgWait_bus_eq (s : State) (key : Nat) (bs : List Byte) : (cfgWait s key bs).bus = s.bus := rfl
@[simp] theorem cfgWait_shadows_eq (s : State) (key : Nat) (bs : List Byte) : (cfgWait s key bs).shadows = s.shadows := rfl
@[simp] theorem cfgWait_stages_eq (s : State) (key : Nat) (bs : List Byte) : (cfgWait s key bs).stages = s.stages := rfl
@[simp] theorem cfgWait_mem_eq (s : State) (key : Nat) (bs : List Byte) : (cfgWait s key bs).mem = s.mem := rfl
@[simp] theorem cfgWait_memErr_eq (s : State) (key : Nat) (bs : List Byte) : (cfgWait s key bs).memErr = s.memErr := rfl
@[simp] theorem cfgWait_qps_eq (s : State) (key : Nat) (bs : List Byte) : (cfgWait s key bs).qps = s.qps := rfl
@[simp] theorem cfgWait_power_eq (s : State) (key : Nat) (bs : List Byte) : (cfgWait s key bs).power = s.power := rfl
@[simp] theorem cfgWait_nv_eq (s : State) (key : Nat) (bs : List Byte) : (cfgWait s key bs).nv = s.nv := rfl
@[simp] theorem cfgWait_cfg_eq (s : State) (key : Nat) (bs : List Byte) : (cfgWait s key bs).cfg = s.cfg := rfl
@[simp] theorem cfgWait_recd_eq (s : State) (key : Nat) (bs : List Byte) : (cfgWait s key bs).recd = s.recd := rfl
@[simp] theorem cfgWait_idk_eq (s : State) (key : Nat) (bs : List Byte) : (cfgWait s key bs).idk = s.idk := rfl
@[simp] theorem cfgWait_tiles_eq (s : State) (key : Nat) (bs : List Byte) : (cfgWait s key bs).tiles = s.tiles := rfl
@[simp] theorem cfgWait_chain_eq (s : State) (key : Nat) (bs : List Byte) : (cfgWait s key bs).chain = s.chain := rfl
@[simp] theorem cfgWait_meas_eq (s : State) (key : Nat) (bs : List Byte) : (cfgWait s key bs).meas = s.meas := rfl
@[simp] theorem cfgWait_hvm_eq (s : State) (key : Nat) (bs : List Byte) : (cfgWait s key bs).hvm = s.hvm := rfl
@[simp] theorem cfgWait_bal_eq (s : State) (key : Nat) (bs : List Byte) : (cfgWait s key bs).bal = s.bal := rfl
@[simp] theorem cfgWait_est_eq (s : State) (key : Nat) (bs : List Byte) : (cfgWait s key bs).est = s.est := rfl
@[simp] theorem cfgWait_eis_eq (s : State) (key : Nat) (bs : List Byte) : (cfgWait s key bs).eis = s.eis := rfl
@[simp] theorem cfgWait_therm_eq (s : State) (key : Nat) (bs : List Byte) : (cfgWait s key bs).therm = s.therm := rfl
@[simp] theorem cfgWait_ctrl_eq (s : State) (key : Nat) (bs : List Byte) : (cfgWait s key bs).ctrl = s.ctrl := rfl
@[simp] theorem cfgWait_can_eq (s : State) (key : Nat) (bs : List Byte) : (cfgWait s key bs).can = s.can := rfl
@[simp] theorem cfgWait_safe_eq (s : State) (key : Nat) (bs : List Byte) : (cfgWait s key bs).safe = s.safe := rfl
@[simp] theorem cfgWait_stl_eq (s : State) (key : Nat) (bs : List Byte) : (cfgWait s key bs).stl = s.stl := rfl
@[simp] theorem cfgWait_red_eq (s : State) (key : Nat) (bs : List Byte) : (cfgWait s key bs).red = s.red := rfl
@[simp] theorem cfgWait_eth_eq (s : State) (key : Nat) (bs : List Byte) : (cfgWait s key bs).eth = s.eth := rfl
@[simp] theorem cfgWait_upd_eq (s : State) (key : Nat) (bs : List Byte) : (cfgWait s key bs).upd = s.upd := rfl
@[simp] theorem cfgWait_ptp_eq (s : State) (key : Nat) (bs : List Byte) : (cfgWait s key bs).ptp = s.ptp := rfl
@[simp] theorem cfgWait_perf_eq (s : State) (key : Nat) (bs : List Byte) : (cfgWait s key bs).perf = s.perf := rfl
@[simp] theorem cfgWait_pepper_eq (s : State) (key : Nat) (bs : List Byte) : (cfgWait s key bs).pepper = s.pepper := rfl
@[simp] theorem cfgWait_out_eq (s : State) (key : Nat) (bs : List Byte) : (cfgWait s key bs).out = s.out := rfl
@[simp] theorem cfgWait_free_eq (s : State) (key : Nat) (bs : List Byte) : (cfgWait s key bs).free = s.free := rfl

/-! ### qpMod -/

@[simp] theorem qpMod_pending_eq (s : State) (qp : Nat) (f : QpState → QpState) : (qpMod s qp f).pending = s.pending := rfl
@[simp] theorem qpMod_regs_eq (s : State) (qp : Nat) (f : QpState → QpState) : (qpMod s qp f).regs = s.regs := rfl
@[simp] theorem qpMod_bus_eq (s : State) (qp : Nat) (f : QpState → QpState) : (qpMod s qp f).bus = s.bus := rfl
@[simp] theorem qpMod_shadows_eq (s : State) (qp : Nat) (f : QpState → QpState) : (qpMod s qp f).shadows = s.shadows := rfl
@[simp] theorem qpMod_stages_eq (s : State) (qp : Nat) (f : QpState → QpState) : (qpMod s qp f).stages = s.stages := rfl
@[simp] theorem qpMod_mem_eq (s : State) (qp : Nat) (f : QpState → QpState) : (qpMod s qp f).mem = s.mem := rfl
@[simp] theorem qpMod_memErr_eq (s : State) (qp : Nat) (f : QpState → QpState) : (qpMod s qp f).memErr = s.memErr := rfl
@[simp] theorem qpMod_power_eq (s : State) (qp : Nat) (f : QpState → QpState) : (qpMod s qp f).power = s.power := rfl
@[simp] theorem qpMod_nv_eq (s : State) (qp : Nat) (f : QpState → QpState) : (qpMod s qp f).nv = s.nv := rfl
@[simp] theorem qpMod_cfg_eq (s : State) (qp : Nat) (f : QpState → QpState) : (qpMod s qp f).cfg = s.cfg := rfl
@[simp] theorem qpMod_cfgPend_eq (s : State) (qp : Nat) (f : QpState → QpState) : (qpMod s qp f).cfgPend = s.cfgPend := rfl
@[simp] theorem qpMod_recd_eq (s : State) (qp : Nat) (f : QpState → QpState) : (qpMod s qp f).recd = s.recd := rfl
@[simp] theorem qpMod_idk_eq (s : State) (qp : Nat) (f : QpState → QpState) : (qpMod s qp f).idk = s.idk := rfl
@[simp] theorem qpMod_tiles_eq (s : State) (qp : Nat) (f : QpState → QpState) : (qpMod s qp f).tiles = s.tiles := rfl
@[simp] theorem qpMod_chain_eq (s : State) (qp : Nat) (f : QpState → QpState) : (qpMod s qp f).chain = s.chain := rfl
@[simp] theorem qpMod_meas_eq (s : State) (qp : Nat) (f : QpState → QpState) : (qpMod s qp f).meas = s.meas := rfl
@[simp] theorem qpMod_hvm_eq (s : State) (qp : Nat) (f : QpState → QpState) : (qpMod s qp f).hvm = s.hvm := rfl
@[simp] theorem qpMod_bal_eq (s : State) (qp : Nat) (f : QpState → QpState) : (qpMod s qp f).bal = s.bal := rfl
@[simp] theorem qpMod_est_eq (s : State) (qp : Nat) (f : QpState → QpState) : (qpMod s qp f).est = s.est := rfl
@[simp] theorem qpMod_eis_eq (s : State) (qp : Nat) (f : QpState → QpState) : (qpMod s qp f).eis = s.eis := rfl
@[simp] theorem qpMod_therm_eq (s : State) (qp : Nat) (f : QpState → QpState) : (qpMod s qp f).therm = s.therm := rfl
@[simp] theorem qpMod_ctrl_eq (s : State) (qp : Nat) (f : QpState → QpState) : (qpMod s qp f).ctrl = s.ctrl := rfl
@[simp] theorem qpMod_can_eq (s : State) (qp : Nat) (f : QpState → QpState) : (qpMod s qp f).can = s.can := rfl
@[simp] theorem qpMod_safe_eq (s : State) (qp : Nat) (f : QpState → QpState) : (qpMod s qp f).safe = s.safe := rfl
@[simp] theorem qpMod_stl_eq (s : State) (qp : Nat) (f : QpState → QpState) : (qpMod s qp f).stl = s.stl := rfl
@[simp] theorem qpMod_red_eq (s : State) (qp : Nat) (f : QpState → QpState) : (qpMod s qp f).red = s.red := rfl
@[simp] theorem qpMod_eth_eq (s : State) (qp : Nat) (f : QpState → QpState) : (qpMod s qp f).eth = s.eth := rfl
@[simp] theorem qpMod_upd_eq (s : State) (qp : Nat) (f : QpState → QpState) : (qpMod s qp f).upd = s.upd := rfl
@[simp] theorem qpMod_ptp_eq (s : State) (qp : Nat) (f : QpState → QpState) : (qpMod s qp f).ptp = s.ptp := rfl
@[simp] theorem qpMod_perf_eq (s : State) (qp : Nat) (f : QpState → QpState) : (qpMod s qp f).perf = s.perf := rfl
@[simp] theorem qpMod_pepper_eq (s : State) (qp : Nat) (f : QpState → QpState) : (qpMod s qp f).pepper = s.pepper := rfl
@[simp] theorem qpMod_out_eq (s : State) (qp : Nat) (f : QpState → QpState) : (qpMod s qp f).out = s.out := rfl
@[simp] theorem qpMod_free_eq (s : State) (qp : Nat) (f : QpState → QpState) : (qpMod s qp f).free = s.free := rfl

/-! ### Registers read alike in states that hold the same ones -/

theorem regGet_congr {s t : State} (h : t.regs = s.regs) (a : Nat) : regGet t a = regGet s a := by
  unfold regGet
  rw [h]
theorem rd_congr {s t : State} (h : t.regs = s.regs) (f : Fld) : rd t f = rd s f := by
  unfold rd
  rw [regGet_congr h]
theorem flag_congr {s t : State} (h : t.regs = s.regs) (f : Fld) : flag t f = flag s f := by
  unfold flag
  rw [rd_congr h]
@[simp] theorem rd_emit (s : State) (k : OutKind) (args : List Nat) (data : List Byte) (g : Fld) : rd (emit s k args data) g = rd s g := rfl
@[simp] theorem flag_emit (s : State) (k : OutKind) (args : List Nat) (data : List Byte) (g : Fld) : flag (emit s k args data) g = flag s g := rfl
@[simp] theorem regGet_emit (s : State) (k : OutKind) (args : List Nat) (data : List Byte) (a0 : Nat) : regGet (emit s k args data) a0 = regGet s a0 := rfl
@[simp] theorem rd_memWrite (s : State) (a : Nat) (bs : List Byte) (g : Fld) : rd (memWrite s a bs) g = rd s g := rfl
@[simp] theorem flag_memWrite (s : State) (a : Nat) (bs : List Byte) (g : Fld) : flag (memWrite s a bs) g = flag s g := rfl
@[simp] theorem regGet_memWrite (s : State) (a : Nat) (bs : List Byte) (a0 : Nat) : regGet (memWrite s a bs) a0 = regGet s a0 := rfl
@[simp] theorem rd_storCount (s : State) (n : Nat) (g : Fld) : rd (storCount s n) g = rd s g := rfl
@[simp] theorem flag_storCount (s : State) (n : Nat) (g : Fld) : flag (storCount s n) g = flag s g := rfl
@[simp] theorem regGet_storCount (s : State) (n : Nat) (a0 : Nat) : regGet (storCount s n) a0 = regGet s a0 := rfl
@[simp] theorem rd_cfgForce (s : State) (key : Nat) (bs : List Byte) (g : Fld) : rd (cfgForce s key bs) g = rd s g := rfl
@[simp] theorem flag_cfgForce (s : State) (key : Nat) (bs : List Byte) (g : Fld) : flag (cfgForce s key bs) g = flag s g := rfl
@[simp] theorem regGet_cfgForce (s : State) (key : Nat) (bs : List Byte) (a0 : Nat) : regGet (cfgForce s key bs) a0 = regGet s a0 := rfl
@[simp] theorem rd_cfgWait (s : State) (key : Nat) (bs : List Byte) (g : Fld) : rd (cfgWait s key bs) g = rd s g := rfl
@[simp] theorem flag_cfgWait (s : State) (key : Nat) (bs : List Byte) (g : Fld) : flag (cfgWait s key bs) g = flag s g := rfl
@[simp] theorem regGet_cfgWait (s : State) (key : Nat) (bs : List Byte) (a0 : Nat) : regGet (cfgWait s key bs) a0 = regGet s a0 := rfl
@[simp] theorem rd_qpMod (s : State) (qp : Nat) (f : QpState → QpState) (g : Fld) : rd (qpMod s qp f) g = rd s g := rfl
@[simp] theorem flag_qpMod (s : State) (qp : Nat) (f : QpState → QpState) (g : Fld) : flag (qpMod s qp f) g = flag s g := rfl
@[simp] theorem regGet_qpMod (s : State) (qp : Nat) (f : QpState → QpState) (a0 : Nat) : regGet (qpMod s qp f) a0 = regGet s a0 := rfl

end Sys2Proof.Laws
end

