-- ==== Sys2Proof/Laws/StorFrame.lean ====
section
/-! SUPPORT. A write to managed storage changes the non-volatile part, STOR's status and, through a perturbed wait, PEPPER's counts; every other
part of State stays. -/

namespace Sys2Proof.Laws

open Sys2Proof.Machine

/-! ### cfgStore -/

@[simp] theorem cfgStore_bus_eq (s : State) (f : CfgCopy → CfgCopy) : (cfgStore s f).bus = s.bus := by
  unfold cfgStore
  dsimp only
  split <;> simp
@[simp] theorem cfgStore_shadows_eq (s : State) (f : CfgCopy → CfgCopy) : (cfgStore s f).shadows = s.shadows := by
  unfold cfgStore
  dsimp only
  split <;> simp
@[simp] theorem cfgStore_stages_eq (s : State) (f : CfgCopy → CfgCopy) : (cfgStore s f).stages = s.stages := by
  unfold cfgStore
  dsimp only
  split <;> simp
@[simp] theorem cfgStore_mem_eq (s : State) (f : CfgCopy → CfgCopy) : (cfgStore s f).mem = s.mem := by
  unfold cfgStore
  dsimp only
  split <;> simp
@[simp] theorem cfgStore_memErr_eq (s : State) (f : CfgCopy → CfgCopy) : (cfgStore s f).memErr = s.memErr := by
  unfold cfgStore
  dsimp only
  split <;> simp
@[simp] theorem cfgStore_qps_eq (s : State) (f : CfgCopy → CfgCopy) : (cfgStore s f).qps = s.qps := by
  unfold cfgStore
  dsimp only
  split <;> simp
@[simp] theorem cfgStore_power_eq (s : State) (f : CfgCopy → CfgCopy) : (cfgStore s f).power = s.power := by
  unfold cfgStore
  dsimp only
  split <;> simp
@[simp] theorem cfgStore_cfg_eq (s : State) (f : CfgCopy → CfgCopy) : (cfgStore s f).cfg = s.cfg := by
  unfold cfgStore
  dsimp only
  split <;> simp
@[simp] theorem cfgStore_cfgPend_eq (s : State) (f : CfgCopy → CfgCopy) : (cfgStore s f).cfgPend = s.cfgPend := by
  unfold cfgStore
  dsimp only
  split <;> simp
@[simp] theorem cfgStore_idk_eq (s : State) (f : CfgCopy → CfgCopy) : (cfgStore s f).idk = s.idk := by
  unfold cfgStore
  dsimp only
  split <;> simp
@[simp] theorem cfgStore_tiles_eq (s : State) (f : CfgCopy → CfgCopy) : (cfgStore s f).tiles = s.tiles := by
  unfold cfgStore
  dsimp only
  split <;> simp
@[simp] theorem cfgStore_chain_eq (s : State) (f : CfgCopy → CfgCopy) : (cfgStore s f).chain = s.chain := by
  unfold cfgStore
  dsimp only
  split <;> simp
@[simp] theorem cfgStore_meas_eq (s : State) (f : CfgCopy → CfgCopy) : (cfgStore s f).meas = s.meas := by
  unfold cfgStore
  dsimp only
  split <;> simp
@[simp] theorem cfgStore_hvm_eq (s : State) (f : CfgCopy → CfgCopy) : (cfgStore s f).hvm = s.hvm := by
  unfold cfgStore
  dsimp only
  split <;> simp
@[simp] theorem cfgStore_bal_eq (s : State) (f : CfgCopy → CfgCopy) : (cfgStore s f).bal = s.bal := by
  unfold cfgStore
  dsimp only
  split <;> simp
@[simp] theorem cfgStore_est_eq (s : State) (f : CfgCopy → CfgCopy) : (cfgStore s f).est = s.est := by
  unfold cfgStore
  dsimp only
  split <;> simp
@[simp] theorem cfgStore_eis_eq (s : State) (f : CfgCopy → CfgCopy) : (cfgStore s f).eis = s.eis := by
  unfold cfgStore
  dsimp only
  split <;> simp
@[simp] theorem cfgStore_therm_eq (s : State) (f : CfgCopy → CfgCopy) : (cfgStore s f).therm = s.therm := by
  unfold cfgStore
  dsimp only
  split <;> simp
@[simp] theorem cfgStore_ctrl_eq (s : State) (f : CfgCopy → CfgCopy) : (cfgStore s f).ctrl = s.ctrl := by
  unfold cfgStore
  dsimp only
  split <;> simp
@[simp] theorem cfgStore_can_eq (s : State) (f : CfgCopy → CfgCopy) : (cfgStore s f).can = s.can := by
  unfold cfgStore
  dsimp only
  split <;> simp
@[simp] theorem cfgStore_safe_eq (s : State) (f : CfgCopy → CfgCopy) : (cfgStore s f).safe = s.safe := by
  unfold cfgStore
  dsimp only
  split <;> simp
@[simp] theorem cfgStore_stl_eq (s : State) (f : CfgCopy → CfgCopy) : (cfgStore s f).stl = s.stl := by
  unfold cfgStore
  dsimp only
  split <;> simp
@[simp] theorem cfgStore_red_eq (s : State) (f : CfgCopy → CfgCopy) : (cfgStore s f).red = s.red := by
  unfold cfgStore
  dsimp only
  split <;> simp
@[simp] theorem cfgStore_eth_eq (s : State) (f : CfgCopy → CfgCopy) : (cfgStore s f).eth = s.eth := by
  unfold cfgStore
  dsimp only
  split <;> simp
@[simp] theorem cfgStore_upd_eq (s : State) (f : CfgCopy → CfgCopy) : (cfgStore s f).upd = s.upd := by
  unfold cfgStore
  dsimp only
  split <;> simp
@[simp] theorem cfgStore_ptp_eq (s : State) (f : CfgCopy → CfgCopy) : (cfgStore s f).ptp = s.ptp := by
  unfold cfgStore
  dsimp only
  split <;> simp
@[simp] theorem cfgStore_perf_eq (s : State) (f : CfgCopy → CfgCopy) : (cfgStore s f).perf = s.perf := by
  unfold cfgStore
  dsimp only
  split <;> simp
@[simp] theorem cfgStore_out_eq (s : State) (f : CfgCopy → CfgCopy) : (cfgStore s f).out = s.out := by
  unfold cfgStore
  dsimp only
  split <;> simp
@[simp] theorem cfgStore_free_eq (s : State) (f : CfgCopy → CfgCopy) : (cfgStore s f).free = s.free := by
  unfold cfgStore
  dsimp only
  split <;> simp

/-! ### cfgStoreItem -/

@[simp] theorem cfgStoreItem_bus_eq (s : State) (key : Nat) (bs : List Byte) : (cfgStoreItem s key bs).bus = s.bus := cfgStore_bus_eq _ _
@[simp] theorem cfgStoreItem_shadows_eq (s : State) (key : Nat) (bs : List Byte) : (cfgStoreItem s key bs).shadows = s.shadows := cfgStore_shadows_eq _ _
@[simp] theorem cfgStoreItem_stages_eq (s : State) (key : Nat) (bs : List Byte) : (cfgStoreItem s key bs).stages = s.stages := cfgStore_stages_eq _ _
@[simp] theorem cfgStoreItem_mem_eq (s : State) (key : Nat) (bs : List Byte) : (cfgStoreItem s key bs).mem = s.mem := cfgStore_mem_eq _ _
@[simp] theorem cfgStoreItem_memErr_eq (s : State) (key : Nat) (bs : List Byte) : (cfgStoreItem s key bs).memErr = s.memErr := cfgStore_memErr_eq _ _
@[simp] theorem cfgStoreItem_qps_eq (s : State) (key : Nat) (bs : List Byte) : (cfgStoreItem s key bs).qps = s.qps := cfgStore_qps_eq _ _
@[simp] theorem cfgStoreItem_power_eq (s : State) (key : Nat) (bs : List Byte) : (cfgStoreItem s key bs).power = s.power := cfgStore_power_eq _ _
@[simp] theorem cfgStoreItem_cfg_eq (s : State) (key : Nat) (bs : List Byte) : (cfgStoreItem s key bs).cfg = s.cfg := cfgStore_cfg_eq _ _
@[simp] theorem cfgStoreItem_cfgPend_eq (s : State) (key : Nat) (bs : List Byte) : (cfgStoreItem s key bs).cfgPend = s.cfgPend := cfgStore_cfgPend_eq _ _
@[simp] theorem cfgStoreItem_idk_eq (s : State) (key : Nat) (bs : List Byte) : (cfgStoreItem s key bs).idk = s.idk := cfgStore_idk_eq _ _
@[simp] theorem cfgStoreItem_tiles_eq (s : State) (key : Nat) (bs : List Byte) : (cfgStoreItem s key bs).tiles = s.tiles := cfgStore_tiles_eq _ _
@[simp] theorem cfgStoreItem_chain_eq (s : State) (key : Nat) (bs : List Byte) : (cfgStoreItem s key bs).chain = s.chain := cfgStore_chain_eq _ _
@[simp] theorem cfgStoreItem_meas_eq (s : State) (key : Nat) (bs : List Byte) : (cfgStoreItem s key bs).meas = s.meas := cfgStore_meas_eq _ _
@[simp] theorem cfgStoreItem_hvm_eq (s : State) (key : Nat) (bs : List Byte) : (cfgStoreItem s key bs).hvm = s.hvm := cfgStore_hvm_eq _ _
@[simp] theorem cfgStoreItem_bal_eq (s : State) (key : Nat) (bs : List Byte) : (cfgStoreItem s key bs).bal = s.bal := cfgStore_bal_eq _ _
@[simp] theorem cfgStoreItem_est_eq (s : State) (key : Nat) (bs : List Byte) : (cfgStoreItem s key bs).est = s.est := cfgStore_est_eq _ _
@[simp] theorem cfgStoreItem_eis_eq (s : State) (key : Nat) (bs : List Byte) : (cfgStoreItem s key bs).eis = s.eis := cfgStore_eis_eq _ _
@[simp] theorem cfgStoreItem_therm_eq (s : State) (key : Nat) (bs : List Byte) : (cfgStoreItem s key bs).therm = s.therm := cfgStore_therm_eq _ _
@[simp] theorem cfgStoreItem_ctrl_eq (s : State) (key : Nat) (bs : List Byte) : (cfgStoreItem s key bs).ctrl = s.ctrl := cfgStore_ctrl_eq _ _
@[simp] theorem cfgStoreItem_can_eq (s : State) (key : Nat) (bs : List Byte) : (cfgStoreItem s key bs).can = s.can := cfgStore_can_eq _ _
@[simp] theorem cfgStoreItem_safe_eq (s : State) (key : Nat) (bs : List Byte) : (cfgStoreItem s key bs).safe = s.safe := cfgStore_safe_eq _ _
@[simp] theorem cfgStoreItem_stl_eq (s : State) (key : Nat) (bs : List Byte) : (cfgStoreItem s key bs).stl = s.stl := cfgStore_stl_eq _ _
@[simp] theorem cfgStoreItem_red_eq (s : State) (key : Nat) (bs : List Byte) : (cfgStoreItem s key bs).red = s.red := cfgStore_red_eq _ _
@[simp] theorem cfgStoreItem_eth_eq (s : State) (key : Nat) (bs : List Byte) : (cfgStoreItem s key bs).eth = s.eth := cfgStore_eth_eq _ _
@[simp] theorem cfgStoreItem_upd_eq (s : State) (key : Nat) (bs : List Byte) : (cfgStoreItem s key bs).upd = s.upd := cfgStore_upd_eq _ _
@[simp] theorem cfgStoreItem_ptp_eq (s : State) (key : Nat) (bs : List Byte) : (cfgStoreItem s key bs).ptp = s.ptp := cfgStore_ptp_eq _ _
@[simp] theorem cfgStoreItem_perf_eq (s : State) (key : Nat) (bs : List Byte) : (cfgStoreItem s key bs).perf = s.perf := cfgStore_perf_eq _ _
@[simp] theorem cfgStoreItem_out_eq (s : State) (key : Nat) (bs : List Byte) : (cfgStoreItem s key bs).out = s.out := cfgStore_out_eq _ _
@[simp] theorem cfgStoreItem_free_eq (s : State) (key : Nat) (bs : List Byte) : (cfgStoreItem s key bs).free = s.free := cfgStore_free_eq _ _

/-! ### histAdd -/

@[simp] theorem histAdd_bus_eq (s : State) (kind : Nat) (bs : List Byte) : (histAdd s kind bs).bus = s.bus := by
  unfold histAdd
  simp
@[simp] theorem histAdd_shadows_eq (s : State) (kind : Nat) (bs : List Byte) : (histAdd s kind bs).shadows = s.shadows := by
  unfold histAdd
  simp
@[simp] theorem histAdd_stages_eq (s : State) (kind : Nat) (bs : List Byte) : (histAdd s kind bs).stages = s.stages := by
  unfold histAdd
  simp
@[simp] theorem histAdd_mem_eq (s : State) (kind : Nat) (bs : List Byte) : (histAdd s kind bs).mem = s.mem := by
  unfold histAdd
  simp
@[simp] theorem histAdd_memErr_eq (s : State) (kind : Nat) (bs : List Byte) : (histAdd s kind bs).memErr = s.memErr := by
  unfold histAdd
  simp
@[simp] theorem histAdd_qps_eq (s : State) (kind : Nat) (bs : List Byte) : (histAdd s kind bs).qps = s.qps := by
  unfold histAdd
  simp
@[simp] theorem histAdd_power_eq (s : State) (kind : Nat) (bs : List Byte) : (histAdd s kind bs).power = s.power := by
  unfold histAdd
  simp
@[simp] theorem histAdd_cfg_eq (s : State) (kind : Nat) (bs : List Byte) : (histAdd s kind bs).cfg = s.cfg := by
  unfold histAdd
  simp
@[simp] theorem histAdd_cfgPend_eq (s : State) (kind : Nat) (bs : List Byte) : (histAdd s kind bs).cfgPend = s.cfgPend := by
  unfold histAdd
  simp
@[simp] theorem histAdd_idk_eq (s : State) (kind : Nat) (bs : List Byte) : (histAdd s kind bs).idk = s.idk := by
  unfold histAdd
  simp
@[simp] theorem histAdd_tiles_eq (s : State) (kind : Nat) (bs : List Byte) : (histAdd s kind bs).tiles = s.tiles := by
  unfold histAdd
  simp
@[simp] theorem histAdd_chain_eq (s : State) (kind : Nat) (bs : List Byte) : (histAdd s kind bs).chain = s.chain := by
  unfold histAdd
  simp
@[simp] theorem histAdd_meas_eq (s : State) (kind : Nat) (bs : List Byte) : (histAdd s kind bs).meas = s.meas := by
  unfold histAdd
  simp
@[simp] theorem histAdd_hvm_eq (s : State) (kind : Nat) (bs : List Byte) : (histAdd s kind bs).hvm = s.hvm := by
  unfold histAdd
  simp
@[simp] theorem histAdd_bal_eq (s : State) (kind : Nat) (bs : List Byte) : (histAdd s kind bs).bal = s.bal := by
  unfold histAdd
  simp
@[simp] theorem histAdd_est_eq (s : State) (kind : Nat) (bs : List Byte) : (histAdd s kind bs).est = s.est := by
  unfold histAdd
  simp
@[simp] theorem histAdd_eis_eq (s : State) (kind : Nat) (bs : List Byte) : (histAdd s kind bs).eis = s.eis := by
  unfold histAdd
  simp
@[simp] theorem histAdd_therm_eq (s : State) (kind : Nat) (bs : List Byte) : (histAdd s kind bs).therm = s.therm := by
  unfold histAdd
  simp
@[simp] theorem histAdd_ctrl_eq (s : State) (kind : Nat) (bs : List Byte) : (histAdd s kind bs).ctrl = s.ctrl := by
  unfold histAdd
  simp
@[simp] theorem histAdd_can_eq (s : State) (kind : Nat) (bs : List Byte) : (histAdd s kind bs).can = s.can := by
  unfold histAdd
  simp
@[simp] theorem histAdd_safe_eq (s : State) (kind : Nat) (bs : List Byte) : (histAdd s kind bs).safe = s.safe := by
  unfold histAdd
  simp
@[simp] theorem histAdd_stl_eq (s : State) (kind : Nat) (bs : List Byte) : (histAdd s kind bs).stl = s.stl := by
  unfold histAdd
  simp
@[simp] theorem histAdd_red_eq (s : State) (kind : Nat) (bs : List Byte) : (histAdd s kind bs).red = s.red := by
  unfold histAdd
  simp
@[simp] theorem histAdd_eth_eq (s : State) (kind : Nat) (bs : List Byte) : (histAdd s kind bs).eth = s.eth := by
  unfold histAdd
  simp
@[simp] theorem histAdd_upd_eq (s : State) (kind : Nat) (bs : List Byte) : (histAdd s kind bs).upd = s.upd := by
  unfold histAdd
  simp
@[simp] theorem histAdd_ptp_eq (s : State) (kind : Nat) (bs : List Byte) : (histAdd s kind bs).ptp = s.ptp := by
  unfold histAdd
  simp
@[simp] theorem histAdd_perf_eq (s : State) (kind : Nat) (bs : List Byte) : (histAdd s kind bs).perf = s.perf := by
  unfold histAdd
  simp
@[simp] theorem histAdd_out_eq (s : State) (kind : Nat) (bs : List Byte) : (histAdd s kind bs).out = s.out := by
  unfold histAdd
  simp
@[simp] theorem histAdd_free_eq (s : State) (kind : Nat) (bs : List Byte) : (histAdd s kind bs).free = s.free := by
  unfold histAdd
  simp

/-! ### Registers outside REC, PEPPER and STOR -/

theorem rd_cfgStore (s : State) (f : CfgCopy → CfgCopy) (g : Fld) (h : OffRec g.addr) (h2 : g.addr ≠ R.STOR_STATUS) : rd (cfgStore s f) g = rd s g := by
  have e : R.STOR_STATUS_CFG_COPY.addr ≠ g.addr := fun he => h2 (he.symm.trans (by decide))
  have nvr : ∀ (x : State) (n : NvSt), rd { x with nv := n } g = rd x g := fun _ _ => rfl
  unfold cfgStore
  dsimp only
  split
  · rw [rd_put_ne _ _ _ _ (.inl e), nvr, rd_storCount, rd_pepperWait _ _ _ _ h]
  · rw [rd_put_ne _ _ _ _ (.inl e), nvr, rd_storCount, rd_pepperWait _ _ _ _ h]
theorem flag_cfgStore (s : State) (f : CfgCopy → CfgCopy) (g : Fld) (h : OffRec g.addr) (h2 : g.addr ≠ R.STOR_STATUS) : flag (cfgStore s f) g = flag s g := by
  unfold flag
  rw [rd_cfgStore s f g h h2]
theorem rd_cfgStoreItem (s : State) (key : Nat) (bs : List Byte) (g : Fld) (h : OffRec g.addr) (h2 : g.addr ≠ R.STOR_STATUS) :
    rd (cfgStoreItem s key bs) g = rd s g := rd_cfgStore s _ g h h2
theorem flag_cfgStoreItem (s : State) (key : Nat) (bs : List Byte) (g : Fld) (h : OffRec g.addr) (h2 : g.addr ≠ R.STOR_STATUS) :
    flag (cfgStoreItem s key bs) g = flag s g := flag_cfgStore s _ g h h2
theorem rd_histAdd (s : State) (kind : Nat) (bs : List Byte) (g : Fld) (h : OffRec g.addr) : rd (histAdd s kind bs) g = rd s g := by
  have nvr : ∀ (x : State) (n : NvSt), rd { x with nv := n } g = rd x g := fun _ _ => rfl
  unfold histAdd
  dsimp only
  rw [nvr, rd_storCount, rd_pepperWait _ _ _ _ h]
theorem flag_histAdd (s : State) (kind : Nat) (bs : List Byte) (g : Fld) (h : OffRec g.addr) : flag (histAdd s kind bs) g = flag s g := by
  unfold flag
  rw [rd_histAdd s kind bs g h]

end Sys2Proof.Laws
end

