-- ==== Sys2Proof/Laws/Run.lean ====
section
/-! SUPPORT. Lemmas about whole commands: an entry's run, the newest configuration copy, start-up and HOLDUP, tiles. -/

namespace Sys2Proof.Laws

open Sys2Proof Sys2Proof.Machine

theorem leBytes_len (n v : Nat) : (leBytes n v).length = n := by simp [leBytes]

theorem cqe_len (a b c d e f g h : Nat) : (cqeBytes a b c d e f g h).length = 16 := by simp [cqeBytes, leBytes_len]

theorem errNote_memeq (s : State) (qp tag opc st : Nat) : (errNote s qp tag opc st).mem = s.mem := by
  unfold errNote
  split
  · rfl
  · dsimp only; split
    · rw [record_mem_eq]; rfl
    · rfl

theorem irqCheck_memeq (s : State) (qp : Nat) : (irqCheck s qp).mem = s.mem := by
  unfold irqCheck
  split <;> rfl

theorem memWrite_rd (s : State) (a : Nat) (b : List Byte) (f : Fld) : rd (memWrite s a b) f = rd s f := rfl

theorem rd_qps (s : State) (q : List QpState) (f : Fld) : rd { s with qps := q } f = rd s f := rfl

theorem flag_qps (s : State) (q : List QpState) (f : Fld) : flag { s with qps := q } f = flag s f := rfl

theorem newest_store (s : State) (f : CfgCopy → CfgCopy) : cfgNewest (cfgStore s f) = { f (cfgNewest s) with ok := true, seq := (cfgNewest s).seq + 1 } := by
  have hp : ∀ (x : State) (g : Fld) (b : Bool), cfgNewest (put x g b) = cfgNewest x := fun _ _ _ => rfl
  have hs : (storCount (pepperWait s 6 0) (32 * 1024 * 1024)).nv.cfgA = s.nv.cfgA ∧ (storCount (pepperWait s 6 0) (32 * 1024 * 1024)).nv.cfgB = s.nv.cfgB := by
    simp [storCount]
  unfold cfgStore
  dsimp only
  split
  · rename_i h
    simp only [Bool.and_eq_true, Bool.not_eq_true'] at h
    have e : cfgNewest s = s.nv.cfgB := by simp [cfgNewest, NvSt.newest, h.1, h.2]
    rw [hp, e]
    simp [cfgNewest, NvSt.newest, NvSt.useA, hs.2]
  · rename_i h
    rw [hp]
    cases hu : s.nv.useA with
    | true =>
      have e : cfgNewest s = s.nv.cfgA := by simp [cfgNewest, NvSt.newest, hu]
      rw [e]
      simp [cfgNewest, NvSt.newest, NvSt.useA, hs.1]
    | false =>
      have hb : s.nv.cfgB.ok = false := by simpa [hu] using h
      have ha : s.nv.cfgA.ok = false := by simpa [NvSt.useA, hb] using hu
      simp [cfgNewest, NvSt.newest, NvSt.useA, hs.1, ha]

theorem plainWrite_own (s : State) (r : R.Row) (a : Nat) (v : Word) (h : ownRule a = false) : plainWrite s r a v = regSet s a (writeWord r (regGet s a) v) := by
  simp [ownRule] at h
  obtain ⟨⟨⟨⟨⟨hl, hq⟩, hlc⟩, hp⟩, hb⟩, _⟩ := h
  have b5 : ¬ (R.LC_CFG 0 ≤ a ∧ a < R.LC_CFG 8 ∧ (a - R.LC_CFG 0) % 0x80 = 0x28) := by rintro ⟨x, y, z⟩; exact hlc x y z
  have b6 : ¬ (R.PEPPER_S_CFG 0 ≤ a ∧ a < R.PEPPER_S_CFG 8 ∧ (a - R.PEPPER_S_CFG 0) % 0x20 = 8) := by rintro ⟨x, y, z⟩; exact hp x y z
  unfold plainWrite
  dsimp only
  rw [if_neg b5, if_neg b6]

theorem blocksUp_of_full {s : State} (h : fullUp s = true) : blocksUp s = true := by
  simp [blocksUp, h]

theorem unitReset_st (s : State) (por : Bool) :
    (unitReset s por).power =
      { State.reset.power with st := .start, ot := if por then 0 else s.power.ot, otTicks := if por then 0 else s.power.otTicks,
                               pc := s.power.pc, wakeCfg := s.power.wakeCfg, drawFrom := if por then 0 else s.power.ot } := rfl

theorem unitReset_nv (s : State) (por : Bool) : (unitReset s por).nv = s.nv := rfl

theorem startClocks_nv (s : State) (env : Option StartEnv) : (startClocks s env).nv = s.nv := by
  unfold startClocks supplyTake; dsimp only; split <;> simp [wrS]

theorem eisShow_nv (s : State) : (eisShow s).nv = s.nv := by
  simp [eisShow, put, wr, regSet]

theorem startStor_nv (s : State) : (startStor s).nv = s.nv := by
  unfold startStor
  dsimp only
  split
  · rfl
  · rw [eisShow_nv, put_nv_eq]
    split <;> simp [eisPlan]

/-- The configuration that a start-up reads depends on what STOR holds and cannot read alone. -/
theorem startUe_newest {s t : State} (h : t.nv = s.nv) (env : Option StartEnv) : cfgNewest (startUe t env) = cfgNewest (startUe s env) := by
  unfold startUe cfgNewest; split <;> simp [h]

/-- A start-up begins in START; operating time and power-cycle count are those committed where its scope is POR, and run on where it is SYSTEM. -/
theorem startUp_power (s : State) (por : Bool) (c r : Nat) (down fresh : Bool) (env : Option StartEnv) :
    (startUp s por c r down fresh env).power =
      { State.reset.power with
        st := .start, wakeCfg := s.power.wakeCfg, otTicks := if por then 0 else s.power.otTicks
        ot := if por then (cfgNewest (startUe s env)).ot48 else s.power.ot
        drawFrom := if por then (cfgNewest (startUe s env)).ot48 else s.power.ot
        pc := if por then min ((cfgNewest (startUe s env)).pc24 + 1) (2 ^ 24 - 1) else s.power.pc } := by
  unfold startUp
  simp only [startEngines_power, startUnconfigured_power, updShow_power, spBoot_power, bootClean_power]
  have : ∀ x : State, (if fresh then x else bootCount x).power = x.power := by intro x; split <;> simp
  rw [this]
  simp only [startRec_power, idkStart_power, put_power, wr_power]
  have e : cfgNewest (startStor (startUe (startClocks (unitReset s por) env) env)) = cfgNewest (startUe s env) := by
    have h1 : cfgNewest (startStor (startUe (startClocks (unitReset s por) env) env)) = cfgNewest (startUe (startClocks (unitReset s por) env) env) := by
      unfold cfgNewest; rw [startStor_nv]
    exact h1.trans (startUe_newest ((startClocks_nv _ _).trans (unitReset_nv _ _)) env)
  unfold startTimes
  split
  · dsimp only
    rw [timesCommit_power, e]
    simp [startStor_power, startUe_power, startClocks_power, unitReset_st, *]
  · simp [startStor_power, startUe_power, startClocks_power, unitReset_st, *]

theorem powerTo_power (s : State) (st : PState) (c : Nat) : (powerTo s st c).power = { s.power with st := st } := rfl

theorem holdupEnter_power (s : State) (ov : Bool) : (holdupEnter s ov).power = { s.power with st := .ride, ov := ov, fromStart := decide (s.power.st = .start) } := by
  unfold holdupEnter canStop
  dsimp only
  have cs : ∀ (s : State) n, (canStop s n).power = s.power := by intro s n; unfold canStop; split <;> simp
  rw [pepperForce_power]
  show (canStop (canStop _ 1) 2).power = _
  rw [cs, cs]
  simp [powerTo_power, clustersStop]

theorem safetyReset_pw (s : State) (r : Nat) : (safetyReset s r).power = s.power := by
  unfold safetyReset
  split
  · rfl
  · dsimp only
    have e : ∀ x : State, (if x.upd.ho.isSome && x.upd.spSlot.isSome then safeBoot x true else spBoot x).power = x.power := by
      intro x; split <;> simp
    have e2 : ∀ x : State, (if flag x R.SAFE_STATUS_INHIBIT then x else pwmInhibit x).power = x.power := by
      intro x; split <;> simp
    simp only [safetyHandover_power, safeArm_power, stlStart_power, safeSetRead_power]
    rw [e]
    simp

/-- A row that runs its queue pair's entry answers what the entry's action leaves, its entry as the action says. -/
theorem exec_run {i : Instr} {s : State} {qp opc e} {act} (h : Goes s qp opc e) (hx : exec i s = .next (runEntry s qp opc act) := by rfl) (hm : opc ≠ opMark := by decide)
   {st} (h2 : (act e s).2 = st) : exec i s = .next (setFront (act e s).1 qp st) := by
  rw [hx, runEntry_goes' h act hm, h2]

theorem modAt_congr {α} (l : List α) (k : Nat) (f g : α → α) (d : α) (h : f (l.getD k d) = g (l.getD k d)) : modAt l k f = modAt l k g := by
  unfold modAt
  apply List.ext_getElem?
  intro i
  simp only [List.getElem?_modify]
  by_cases hi : k = i
  · subst hi
    cases hx : l[k]? with
    | none => rfl
    | some x => simp [hx] at h; simp [h]
  · simp [hi]

theorem tileMod_congr {s : State} {k : Nat} {f g : Tile → Tile} (h : f (tileAt s k) = g (tileAt s k)) : tileMod s k f = tileMod s k g := by
  unfold tileMod
  rw [modAt_congr s.tiles k f g _ h]

theorem clampNat_eq (f : Nat) : clampNat 10 100 f = max 10 (min 100 f) := by unfold clampNat; split <;> (try split) <;> omega

theorem refCheck_conv (t : Tile) (n d) : (refCheck t n d).1.convCnt = t.convCnt := rfl

theorem owEval_conv (t : Tile) (n) : (owEval t n).1.convCnt = t.convCnt := by unfold owEval; split <;> rfl

end Sys2Proof.Laws
end

