-- ==== Sys2Proof/Laws/SameDurable.lean ====
section
/-! SUPPORT. The durable records change with REC_WRITE_DONE, with CLEAR and with a READ that finds one damaged: every other shared operation leaves
them. -/


namespace Sys2Proof.Laws

open Sys2Proof.Machine

/-! ### Ops -/

@[simp ↓] theorem ite_durable {c : Prop} [Decidable c] (a b : State) : (if c then a else b).recd.durable = if c then a.recd.durable else b.recd.durable := by
  split <;> rfl
@[simp ↓] theorem foldl_durable {α : Type} (f : State → α → State) (hf : ∀ s x, (f s x).recd.durable = s.recd.durable) (l : List α) (s : State) :
    (l.foldl f s).recd.durable = s.recd.durable := by
  induction l generalizing s with
  | nil => rfl
  | cons x t ih => simp [ih, hf]
theorem foldl_snd_durable {α β : Type} (f : β × State → α → β × State) (hf : ∀ r x, (f r x).2.recd.durable = r.2.recd.durable) (l : List α) (r : β × State) :
    (l.foldl f r).2.recd.durable = r.2.recd.durable := by
  induction l generalizing r with
  | nil => rfl
  | cons x t ih => simp [ih, hf]
@[simp ↓] theorem regSet_durable (s : State) (a : Nat) (w : Word) : (regSet s a w).recd.durable = s.recd.durable := by
  simp (maxDischargeDepth := 40) [regSet]
@[simp ↓] theorem wr_durable (s : State) (f : Fld) (v : Nat) : (wr s f v).recd.durable = s.recd.durable := by
  simp (maxDischargeDepth := 40) [wr]
@[simp ↓] theorem put_durable (s : State) (f : Fld) (b : Bool) : (put s f b).recd.durable = s.recd.durable := by
  simp (maxDischargeDepth := 40) [put]
@[simp ↓] theorem wrS_durable (s : State) (f : Fld) (v : Int) : (wrS s f v).recd.durable = s.recd.durable := by
  simp (maxDischargeDepth := 40) [wrS]
@[simp ↓] theorem bump_durable (s : State) (f : Fld) : (bump s f).recd.durable = s.recd.durable := by
  simp (maxDischargeDepth := 40) [bump]
@[simp ↓] theorem bumpBy_durable (s : State) (f : Fld) (n : Nat) : (bumpBy s f n).recd.durable = s.recd.durable := by
  simp (maxDischargeDepth := 40) [bumpBy]
@[simp ↓] theorem bumpSat_durable (s : State) (f : Fld) : (bumpSat s f).recd.durable = s.recd.durable := by
  simp (maxDischargeDepth := 40) [bumpSat]
@[simp ↓] theorem putBit_durable (s : State) (f : Fld) (i : Nat) (b : Bool) : (putBit s f i b).recd.durable = s.recd.durable := by
  simp (maxDischargeDepth := 40) [putBit]
@[simp ↓] theorem resetSpan_durable (s : State) (a : Nat) (b : Nat) : (resetSpan s a b).recd.durable = s.recd.durable := by
  simp (maxDischargeDepth := 40) [resetSpan]
@[simp ↓] theorem resetBlock_durable (s : State) (b : Block) : (resetBlock s b).recd.durable = s.recd.durable := by
  simp (maxDischargeDepth := 40) [resetBlock]
@[simp ↓] theorem fresh_durable (s : State) : (fresh s).2.recd.durable = s.recd.durable := by
  simp (maxDischargeDepth := 40) [fresh]
@[simp ↓] theorem emit_durable (s : State) (k : OutKind) (args : List Nat) (data : List Byte) : (emit s k args data).recd.durable = s.recd.durable := by
  simp (maxDischargeDepth := 40) [emit]
@[simp ↓] theorem memWrite_durable (s : State) (a : Nat) (bs : List Byte) : (memWrite s a bs).recd.durable = s.recd.durable := rfl
/-- A write into host memory keeps the canonical form. -/
@[simp ↓] theorem supplyTake_durable (s : State) (e : SupplyIn) : (supplyTake s e).recd.durable = s.recd.durable := by
  simp (maxDischargeDepth := 40) [supplyTake]
@[simp ↓] theorem pepperSlot_durable (target inst k : Nat) (r : Bool × State) : (pepperSlot target inst k r).2.recd.durable = r.2.recd.durable := by
  simp [pepperSlot]
@[simp ↓] theorem pepperAct_durable (s : State) (target inst : Nat) : (pepperAct s target inst).2.recd.durable = s.recd.durable := by
  unfold pepperAct; rw [foldl_snd_durable]; intro r x; simp
@[simp ↓] theorem pepperWait_durable (s : State) (target : Nat) (inst : Nat) : (pepperWait s target inst).recd.durable = s.recd.durable := by
  simp (maxDischargeDepth := 40) [pepperWait]
@[simp ↓] theorem recShow_durable (s : State) : (recShow s).recd.durable = s.recd.durable := by
  simp (maxDischargeDepth := 40) [recShow]
@[simp ↓] theorem recWriteStart_durable (s : State) : (recWriteStart s).recd.durable = s.recd.durable := by
  simp (maxDischargeDepth := 40) [recWriteStart]
@[simp ↓] theorem recEnter_durable (s : State) (src : Nat) (code : Nat) (level : Nat) (inst : Nat) (suppr : Nat) (arg0 : Nat) (arg1 : Nat) : (recEnter s src code level inst suppr arg0 arg1).recd.durable = s.recd.durable := by
  unfold recEnter; dsimp only; (repeat' split) <;> simp (maxDischargeDepth := 40) [*]
@[simp ↓] theorem recOffer1_durable (s : State) (src : Nat) (code : Nat) (level : Nat) (inst : Nat) (arg0 : Nat) (arg1 : Nat) : (recOffer1 s src code level inst arg0 arg1).2.recd.durable = s.recd.durable := by
  unfold recOffer1; (repeat' split) <;> simp (maxDischargeDepth := 40) [*]
@[simp ↓] theorem recOwnErr_durable (s : State) (f : Fld) : (recOwnErr s f).recd.durable = s.recd.durable := by
  simp (maxDischargeDepth := 40) [recOwnErr]
@[simp ↓] theorem recAfter_durable (s0 : State) (s : State) : (recAfter s0 s).recd.durable = s.recd.durable := by
  simp (maxDischargeDepth := 40) [recAfter]
@[simp ↓] theorem recOffer_durable (s : State) (src : Nat) (code : Nat) (level : Nat) (inst : Nat) (arg0 : Nat) (arg1 : Nat) : (recOffer s src code level inst arg0 arg1).2.recd.durable = s.recd.durable := by
  simp (maxDischargeDepth := 40) [recOffer]
@[simp ↓] theorem recAlways_durable (s : State) (src : Nat) (code : Nat) (level : Nat) (inst : Nat) (arg0 : Nat) (arg1 : Nat) : (recAlways s src code level inst arg0 arg1).recd.durable = s.recd.durable := by
  simp (maxDischargeDepth := 40) [recAlways]
@[simp ↓] theorem record_durable (s : State) (src : Nat) (code : Nat) (level : Nat) (inst : Nat) (arg0 : Nat) (arg1 : Nat) : (record s src code level inst arg0 arg1).recd.durable = s.recd.durable := by
  simp (maxDischargeDepth := 40) [record]
@[simp ↓] theorem errRise_durable (s : State) (f : Fld) (inst : Nat) (arg1 : Nat) : (errRise s f inst arg1).recd.durable = s.recd.durable := by
  simp (maxDischargeDepth := 40) [errRise]
@[simp ↓] theorem timeMarkRec_durable (s : State) (why : Nat) : (timeMarkRec s why).recd.durable = s.recd.durable := by
  simp (maxDischargeDepth := 40) [timeMarkRec]
@[simp ↓] theorem storCount_durable (s : State) (n : Nat) : (storCount s n).recd.durable = s.recd.durable := by
  simp (maxDischargeDepth := 40) [storCount]
@[simp ↓] theorem cfgStore_durable (s : State) (f : CfgCopy → CfgCopy) : (cfgStore s f).recd.durable = s.recd.durable := by
  simp (maxDischargeDepth := 40) [cfgStore]
@[simp ↓] theorem cfgStoreItem_durable (s : State) (key : Nat) (bs : List Byte) : (cfgStoreItem s key bs).recd.durable = s.recd.durable := by
  simp (maxDischargeDepth := 40) [cfgStoreItem]
@[simp ↓] theorem cfgForce_durable (s : State) (key : Nat) (bs : List Byte) : (cfgForce s key bs).recd.durable = s.recd.durable := by
  simp (maxDischargeDepth := 40) [cfgForce]
@[simp ↓] theorem cfgWait_durable (s : State) (key : Nat) (bs : List Byte) : (cfgWait s key bs).recd.durable = s.recd.durable := by
  simp (maxDischargeDepth := 40) [cfgWait]
@[simp ↓] theorem cfgBoundary_durable (s : State) (key : Nat) : (cfgBoundary s key).recd.durable = s.recd.durable := by
  unfold cfgBoundary; split <;> simp (maxDischargeDepth := 40) [*]
@[simp ↓] theorem histAdd_durable (s : State) (kind : Nat) (bs : List Byte) : (histAdd s kind bs).recd.durable = s.recd.durable := by
  simp (maxDischargeDepth := 40) [histAdd]

/-! ### Queue -/

@[simp ↓] theorem qpMod_durable (s : State) (qp : Nat) (f : QpState → QpState) : (qpMod s qp f).recd.durable = s.recd.durable := by
  simp (maxDischargeDepth := 40) [qpMod]
@[simp ↓] theorem irqCheck_durable (s : State) (qp : Nat) : (irqCheck s qp).recd.durable = s.recd.durable := by
  simp (maxDischargeDepth := 40) [irqCheck]
@[simp ↓] theorem errNote_durable (s : State) (qp : Nat) (tag : Nat) (opc : Nat) (status : Nat) : (errNote s qp tag opc status).recd.durable = s.recd.durable := by
  simp (maxDischargeDepth := 40) [errNote]
@[simp ↓] theorem complete_durable (qp : Nat) (s : State) (e : Entry) : (complete qp s e).recd.durable = s.recd.durable := by
  unfold complete; split <;> simp (maxDischargeDepth := 40) [*]
@[simp ↓] theorem drain_durable (s : State) (qp : Nat) : (drain s qp).recd.durable = s.recd.durable := by
  simp (maxDischargeDepth := 40) [drain]
@[simp ↓] theorem dbReject_durable (s : State) (qp : Nat) (value : Nat) (head : Bool) (foreign : Bool) : (dbReject s qp value head foreign).recd.durable = s.recd.durable := by
  simp (maxDischargeDepth := 40) [dbReject]
@[simp ↓] theorem sqTailWrite_durable (s : State) (lvl : Level) (qp : Nat) (v : Nat) : (sqTailWrite s lvl qp v).recd.durable = s.recd.durable := by
  simp (maxDischargeDepth := 40) [sqTailWrite]
@[simp ↓] theorem cqHeadWrite_durable (s : State) (lvl : Level) (qp : Nat) (v : Nat) : (cqHeadWrite s lvl qp v).recd.durable = s.recd.durable := by
  simp (maxDischargeDepth := 40) [cqHeadWrite]
theorem coreStores_durable (ws : List (Nat × List Byte)) (s t : State) (ht : coreStores s ws = .ok t) : t.recd.durable = s.recd.durable := by
  induction ws generalizing s with
  | nil => simp [coreStores] at ht; simp [ht]
  | cons w ws ih =>
    unfold coreStores at ht
    split at ht
    · rw [ih _ ht]; simp
    · cases ht
@[simp ↓] theorem fetchNext_durable (s0 : State) (qp : Nat) (ue : List Nat) : (fetchNext s0 qp ue).recd.durable = s0.recd.durable := by
  simp (maxDischargeDepth := 40) [fetchNext]
@[simp ↓] theorem setEntry_durable (s : State) (qp : Nat) (i : Nat) (st : EntrySt) : (setEntry s qp i st).recd.durable = s.recd.durable := by
  simp (maxDischargeDepth := 40) [setEntry]
@[simp ↓] theorem setFront_durable (s : State) (qp : Nat) (st : EntrySt) : (setFront s qp st).recd.durable = s.recd.durable := by
  unfold setFront; split <;> simp (maxDischargeDepth := 40) [*]
theorem runEntry_durable (s : State) (qp opc : Nat) (act : Entry → State → State × EntrySt)
    (ha : ∀ e s, (act e s).1.recd.durable = s.recd.durable) : (runEntry s qp opc act).recd.durable = s.recd.durable := by
  unfold runEntry; (repeat' split) <;> simp [ha]
@[simp ↓] theorem okR_durable (s : State) (result : Nat) : (okR s result).1.recd.durable = s.recd.durable := by
  simp (maxDischargeDepth := 40) [okR]
@[simp ↓] theorem okX_durable (s : State) (result : Nat) (ext : Nat) : (okX s result ext).1.recd.durable = s.recd.durable := by
  simp (maxDischargeDepth := 40) [okX]
@[simp ↓] theorem failR_durable (s : State) (status : Nat) : (failR s status).1.recd.durable = s.recd.durable := by
  simp (maxDischargeDepth := 40) [failR]
@[simp ↓] theorem failX_durable (s : State) (status : Nat) (ext : Nat) : (failX s status ext).1.recd.durable = s.recd.durable := by
  simp (maxDischargeDepth := 40) [failX]
@[simp ↓] theorem withBuf_durable (e : Entry) (s : State) (k : List Byte → State × EntrySt)
    (hk : ∀ bs, (k bs).1.recd.durable = s.recd.durable) : (withBuf e s k).1.recd.durable = s.recd.durable := by
  simp [withBuf, hk]
@[simp ↓] theorem finishEntry_durable (s : State) (qp : Nat) (p : Entry → Bool) (status : Nat) (result : Nat) (ext : Nat) : (finishEntry s qp p status result ext).recd.durable = s.recd.durable := by
  unfold finishEntry; split <;> simp (maxDischargeDepth := 40) [*]
@[simp ↓] theorem timedStart_durable (s : State) (qp : Nat) : (timedStart s qp).recd.durable = s.recd.durable := by
  unfold timedStart; (repeat' split) <;> simp (maxDischargeDepth := 40) [*]
@[simp ↓] theorem streamWrite_durable (s : State) (qp : Nat) (data : List Byte) : (streamWrite s qp data).2.recd.durable = s.recd.durable := by
  unfold streamWrite; dsimp only; (repeat' split) <;> simp (maxDischargeDepth := 40) [*]
@[simp ↓] theorem streamOr_durable (s : State) (qp : Nat) (data : List Byte) (lost : State → State)
    (hl : ∀ s, (lost s).recd.durable = s.recd.durable) : (streamOr s qp data lost).recd.durable = s.recd.durable := by
  simp [streamOr, hl]
@[simp ↓] theorem flushPosted_durable (s : State) (qp : Nat) : (flushPosted s qp).recd.durable = s.recd.durable := by
  simp (maxDischargeDepth := 40) [flushPosted]
@[simp ↓] theorem qpEnable_durable (s : State) (qp : Nat) : (qpEnable s qp).recd.durable = s.recd.durable := by
  simp (maxDischargeDepth := 40) [qpEnable]
@[simp ↓] theorem qpDisable_durable (s : State) (qp : Nat) : (qpDisable s qp).recd.durable = s.recd.durable := by
  simp (maxDischargeDepth := 40) [qpDisable]
@[simp ↓] theorem qpIdleCheck_durable (s : State) (qp : Nat) : (qpIdleCheck s qp).recd.durable = s.recd.durable := by
  simp (maxDischargeDepth := 40) [qpIdleCheck]
@[simp ↓] theorem irqPendClear_durable (s : State) (hi : Bool) (v : Nat) : (irqPendClear s hi v).recd.durable = s.recd.durable := by
  simp (maxDischargeDepth := 40) [irqPendClear]

/-! ### Rec -/

@[simp ↓] theorem recLostRuns_durable (l : List (Nat × Nat)) (s : State) : (recLostRuns l s).recd.durable = s.recd.durable := by
  induction l generalizing s with
  | nil => rfl
  | cons e t ih => simp [recLostRuns, ih]
@[simp ↓] theorem recSyncs_durable (n : Nat) (s : State) : (recSyncs n s).recd.durable = s.recd.durable := by
  induction n generalizing s with
  | zero => rfl
  | succ n ih => simp [recSyncs, ih]
@[simp ↓] theorem recLog_durable (e : Entry) (s : State) : (recLog e s).1.recd.durable = s.recd.durable := by
  simp (maxDischargeDepth := 40) [recLog]
@[simp ↓] theorem recSync_durable (x0 : Entry) (s : State) : (recSync x0 s).1.recd.durable = s.recd.durable := by
  simp (maxDischargeDepth := 40) [recSync]
@[simp ↓] theorem drawRandom_durable (s : State) : (drawRandom s).2.recd.durable = s.recd.durable := by
  simp (maxDischargeDepth := 40) [drawRandom]
@[simp ↓] theorem recClearNonce_durable (e : Entry) (s : State) : (recClearNonce e s).1.recd.durable = s.recd.durable := by
  simp (maxDischargeDepth := 40) [recClearNonce]
@[simp ↓] theorem recDropNonce_durable (s : State) : (recDropNonce s).recd.durable = s.recd.durable := by
  simp (maxDischargeDepth := 40) [recDropNonce]

end Sys2Proof.Laws
end

