-- ==== Sys2Proof/Tests/Slice0.lean ====
section
/-! SUPPORT. Tests: an ill-formed command for each check, figures that the spec works out, and for every statement with hypotheses a state and operands
that meet them. -/

namespace Sys2Proof.Tests

open Sys2Proof Sys2Proof.Machine

set_option Elab.async false

/-! ### Small states -/


/-- A unit alone in RUN, with host memory reachable and STOR taking writes. -/
def up : State :=
  wr (put (put (wr { State.reset with power := { State.reset.power with st := .run } } R.RED_STATUS_ROLE roleSingle) R.QMGR_GSTATUS_READY true) R.STOR_STATUS_READY true) R.CLK_XSTAT_TWO_FLOP 0
/-- A state in another power state. -/
def inSt (s : State) (p : PState) : State := { s with power := { s.power with st := p } }
/-- Flags set. -/
def fl (s : State) (fs : List Fld) : State := fs.foldl (fun s f => put s f true) s
/-- A ready entry. -/
def en (opc : Nat) : Entry :=
  { opc := opc, flags := 0, tag := 1, arg0 := 0, addr := 0x1000, len := 0, arg1 := 0, at64 := 0, level := .aM, st := .ready, snap := [] }
/-- The state with an entry alone in an enabled queue pair. -/
def qe (s : State) (qp : Nat) (e : Entry) : State :=
  qpMod (put s (R.QP_CTRL_ENABLE qp) true) qp (fun q => { q with entries := [e] })
/-- An item in force. -/
def it (s : State) (qp item : Nat) (bs : List Byte) : State := { s with cfg := (itemKey qp item, bs) :: s.cfg }
/-- A tile changed. -/
def ti (s : State) (k : Nat) (f : Tile → Tile) : State := tileMod s k f
/-- Bytes. -/
def by8 (l : List Nat) : List Byte := l.map (BitVec.ofNat 8)
/-- A register's row. -/
def rowAt (a : Nat) : R.Row := (findRow a).getD ⟨0, 0, 0, 0, 0, 0, 0, false⟩
/-- A management session with the COMMISSION right. -/
def sess : MgmtSess := { keyId := 1, oper := 1, rights := 0x1F, keyIn := 0, keyOut := 0, cntIn := 0, cntOut := 0, bad := 0 }
/-- A unit with a management session. -/
def upSess : State := { up with idk := { up.idk with sess := [some sess, none, none, none] } }
/-- Every tile awake and numbered on a closed ring, CHAIN and MEAS running. -/
def upCh : State :=
  fl { up with tiles := up.tiles.zipIdx.map (fun x => { x.1 with present := true, st := .numbered, pos := x.2 }) } [R.CHAIN_STATUS_RUN, R.MEAS_STATUS_RUN, R.CHAIN_STATUS_RING_CLOSED]
/-- A chemistry. -/
def chem0 : Chem := { id := 1, hdr := [], ocv := [], par := [] }
/-- CRC-32C's register after bytes, each step evaluated before the next. -/
def crcFold : List Byte → Nat → Nat
  | [], r => r
  | b :: bs, r => match crcByte 32 0x1EDC6F41 r (revBits 8 b.toNat) with
    | 0 => crcFold bs 0
    | n + 1 => crcFold bs (n + 1)
theorem crcFold_eq (bs : List Byte) : ∀ r, crcFold bs r = bs.foldl (fun r b => crcByte 32 0x1EDC6F41 r (revBits 8 b.toNat)) r := by
  induction bs with
  | nil => intro r; rfl
  | cons b bs ih =>
    intro r
    simp only [crcFold, List.foldl_cons]
    split
    · rename_i h; rw [h, ih]
    · rename_i n h; rw [h, ih]
theorem crc32c_eq (bs : List Byte) : crc32c bs = revBits 32 (crcFold bs 0xFFFFFFFF) ^^^ 0xFFFFFFFF := by
  simp [crc32c, crcOf, crcFold_eq]
/-- Zero bytes with fields (offset, width, value) laid into them. -/
def lay (n : Nat) (fs : List (Nat × Nat × Nat)) : List Byte :=
  fs.foldl (fun b f => b.take f.1 ++ leBytes f.2.1 f.2.2 ++ b.drop (f.1 + f.2.1)) (List.replicate n 0)
/-- A safety set within every range, for the set of tiles configured. -/
def set0 : List Byte :=
  lay 252 ([(0, 4, 0x72205AFE), (4, 2, 1), (6, 2, 256), (8, 1, setNn up), (0x10, 2, 42500), (0x12, 2, 25000), (0x14, 1, 20), (0x15, 1, 3), (0x16, 2, 4500),
    (0x18, 2, 2500), (0x1A, 2, 100), (0x1C, 1, 10), (0x1E, 2, 100), (0x20, 4, 100000), (0x24, 4, 100000), (0x28, 2, 100), (0x2C, 4, 10000), (0x30, 2, 0),
    (0x32, 2, 6000), (0x34, 1, 10), (0x36, 2, 60), (0x3C, 2, 0xFFFF), (0x3E, 2, 0xFFFF), (0x40, 1, 0x1F), (0x48, 1, 0x1F), (0x49, 1, 0x1F), (0x4F, 1, 0x1F),
    (0x90, 4, 5000), (0x94, 2, 1000), (0x96, 2, 100), (0x98, 2, 100), (0x9C, 2, 0xFFFF), (0x9E, 2, 0xFFFF), (0xA0, 2, 0xFFFF), (0xA2, 2, 0xFFFF)]
    ++ (List.range 4).flatMap (fun n => [(0x50 + 8 * n, 1, if n = 0 then 7 else if n = 1 then 8 else 1), (0x54 + 8 * n, 2, 100), (0x72 + 8 * n, 2, 2000), (0x74 + 8 * n, 2, 100)]))
    ++ leBytes 4 44994074
theorem set0_check : setCheckOk set0 = true := by
  simp only [setCheckOk, crc32c_eq]
  decide +kernel
/-- A unit whose safety set holds and whose outputs an accepted edge permits. -/
def upSafe : State :=
  fl { up with safe := { up.safe with set := set0, fw := true, edge := true, offOk := List.replicate 4 true } } [R.SAFE_STATUS_SET_VALID, R.SAFE_STATUS_SET_CONF]
/-- A unit in the safe state with its commissioning session open. -/
def upComm : State :=
  it (fl (wr upSafe (R.STL_S_STAT_STATE 255) stlRun) [R.SAFE_STATUS_SAFE_STATE]) 31 (255 * 256 + 1) (by8 [5])
/-- A configuration copy that holds the set, confirmed. -/
def confA : CfgCopy :=
  { up.nv.cfgA with safe := { set := set0, pend := false, conf := (fun b => b ++ leBytes 4 (crc32c b)) (lay 28 [(4, 4, setCheckOf set0)]) } }
/-- A unit in commissioning one of whose copies holds it. -/
def upCopy : State := { upComm with nv := { upComm.nv with cfgA := confA } }
theorem confA_ok : copyOk upCopy confA = true := by
  have h : copyOk upCopy confA = (confA.ok && !set0.isEmpty && (setRange upCopy set0).isNone && setCheckOk set0 && copyConfOk confA && !confA.safe.pend) := rfl
  rw [h, set0_check]
  decide +kernel
/-- A unit of a pair in a role. -/
def inPair (r : Nat) : State := it (wr up R.RED_STATUS_ROLE r) 12 1 (lay 32 [(0, 4, 0x1FF)])
/-- A 32-byte frame of RED. -/
def frame (ty unit seq ep w : Nat) : List Byte :=
  let b := lay 28 [(0, 1, ty), (4, 1, unit), (8, 4, seq), (0x0C, 4, ep), (0x18, 4, w)]
  b ++ leBytes 4 (crc32c b)
/-- A Beacon of the far-end unit, role ACTIVE. -/
def bcn : List Byte := lay 192 [(0, 1, 1), (4, 1, 1), (8, 4, 5), (0x18, 1, 2)] ++ leBytes 4 1358614653
theorem bcn_check : redCheckOk bcn = true := by
  unfold redCheckOk
  rw [crc32c_eq]
  decide +kernel
/-- The slots' states in both copies, and the same header in every slot. -/
def slots (s : State) (st : List Nat) (h : List Byte) : State :=
  { s with nv := { s.nv with cfgA := { s.nv.cfgA with boot := { s.nv.cfgA.boot with st := st } }, cfgB := { s.nv.cfgB with boot := { s.nv.cfgB.boot with st := st } },
                             imgs := List.replicate 4 ⟨h, [], true⟩ } }
/-- A reception under way. -/
def inRx (s : State) (r : UpdRx) : State := { s with upd := { s.upd with rx := some r } }
/-- A forwarding under way. -/
def inFwd (s : State) (f : UpdFwd) : State := { s with upd := { s.upd with fwd := some f } }
/-- A handover under way. -/
def inHo (s : State) (h : UpdHo) : State := { s with upd := { s.upd with ho := some h } }
/-- A reception, a forwarding, a handover. -/
def rx0 : UpdRx := { slot := 2, src := updHost, xfer := 0, next := 0, frags := [], verifying := false }
def fwd0 : UpdFwd := { slot := 2, dst := 0x41, xfer := 0, accepted := true, done := false, unacked := [(0, 1)], next := 1, acked := 0 }
def ho0 : UpdHo := { slot := 2, pair := false, old := 0, ready := false, swapped := false, windowDone := false, back := false }
/-- The header of an image of one byte. -/
def hdr1 : List Byte := lay 512 [(8, 4, 4), (0x18, 4, 1)]
/-- A frame of the ring of class 3, with HOPS and a destination. -/
def ringFr (hops dst : Nat) : List Byte :=
  lay 38 [(0, 1, 3), (1, 1, 0x4B), (2, 1, 0x53), (3, 1, 0x43), (12, 1, 0x81), (16, 1, 0x88), (17, 1, 0xB6), (18, 1, 0x31), (19, 1, hops), (20, 2, dst), (22, 2, 9), (24, 1, 0x31), (30, 2, 4)]
/-- Both ports up. -/
def ringUp (s : State) : State := fl { s with eth := { s.eth with on := [true, true] } } [R.ETH_STATUS_LINK_A, R.ETH_STATUS_LINK_B]
/-- Controller 2 in a state, its object 127 of a direction. -/
def canIn (st d : Nat) : State := it (wr up (R.CAN_STATUS_STATE 2) st) 40 0x17F (by8 [d])
/-- A frame on the bus. -/
def fr0 : CanFrame := { id := 0, ide := false, fdf := false, brs := false, esi := false, rtr := false, dlc := 0, data := [], sofNs := 0 }
/-- Items that form a chemistry of one temperature. -/
def hdr2 : List Byte := lay 48 [(0x28, 1, 1), (8, 4, 2), (12, 4, 1), (16, 2, 2), (18, 2, 1)]
def ocv0 : List Byte := (List.range 41).flatMap (fun j => leBytes 4 (1000 * j))
def par0 : List Byte := (List.range 55).flatMap (fun j => leBytes 4 (j % 5 + 1))
theorem boots0 : (bootPick (inSt up .start) 0).2 = some 0 := by
  have a : fieldAt (imgAt (inSt up .start) 0).hdr 0x0E 2 = 0 := by decide +kernel
  have b : fieldAt (imgAt (inSt up .start) 0).hdr 0x10 2 = 65535 := by decide +kernel
  have hw : ¬ (Config.hwRev.toNat < fieldAt (imgAt (inSt up .start) 0).hdr 0x0E 2 ∨ fieldAt (imgAt (inSt up .start) 0).hdr 0x10 2 < Config.hwRev.toNat) := by
    have := Config.hwRev.isLt
    omega
  have h : slotBoots (inSt up .start) 0 = true := by
    unfold slotBoots hdrCause
    simp only [hw, if_false]
    decide +kernel
  have f : [0, 0 + 1].find? (fun k => decide (slotSt (inSt up .start) k = slotTrial)) = none := by decide +kernel
  have g : [0, 0 + 1].find? (fun k => decide (slotSt (inSt up .start) k = slotRunning)) = some 0 := by decide +kernel
  simp only [bootPick, f, g, h, if_true]
/-- A unit in the hold window, its set whole. -/
def upWin : State := wr (fl upSafe [R.UPD_STATUS_HOLD_WIN]) R.SAFE_SET_CHECK_CHECK 44994074
theorem upWin_check : windowCheck upWin = true := by
  have e : upWin.safe.set = set0 := by decide +kernel
  unfold windowCheck
  rw [e, set0_check]
  decide +kernel
/-- What the monitors show, nothing out of its limits. -/
def now0 : SupplyIn := { vsupMv := 24000, vauxMv := 0, coilMv := 24000, dieTemp := 2500, drawMw := 5000, aboveS := 0, mainDev := 0, safeMv := 0, aonMv := 0 }
/-- A start on a ring of one tile. -/
def env0 : StartEnv := { tiles := 1, lowStack := [], sup := now0, tAB := 0, tBA := 0, marks := [], noLock := [], loopOpen := false, cfgUe := 0, histUe := [] }
/-- A unit whose service slots hold no image. -/
def upNoFw : State := inSt { up with nv := { up.nv with cfgA := { up.nv.cfgA with boot := { up.nv.cfgA.boot with st := [] } }, cfgB := { up.nv.cfgB with boot := { up.nv.cfgB.boot with st := [] } } } } .start
/-- The header of the service image as delivered. -/
def hg : List Byte := (imgAt up 0).hdr
theorem hg_cause (s : State) (ha : ∀ pub, hdrSigned hg pub = true) (h1 : (hdrPub s hg).isSome = true) (h2 : ¬ hdrSec hg < floorOf s (hdrTarget hg)) :
    hdrCause s hg (hdrSigned hg) = none := by
  have a : fieldAt hg 0x0E 2 = 0 := by decide +kernel
  have b : fieldAt hg 0x10 2 = 65535 := by decide +kernel
  have hw : ¬ (Config.hwRev.toNat < fieldAt hg 0x0E 2 ∨ fieldAt hg 0x10 2 < Config.hwRev.toNat) := by
    have := Config.hwRev.isLt
    omega
  have c1 : ¬ (fieldAt hg 0 4 ≠ 0x4B56554F ∨ fieldAt hg 4 2 ≠ 1 ∨ fieldAt hg 6 2 ≠ 512) := by decide +kernel
  have c2 : hdrZeros hg = true := by decide +kernel
  have c3 : ¬ (hdrTarget hg ≠ 3 ∧ hdrTarget hg ≠ 4) := by decide +kernel
  have c4 : ¬ fieldAt hg 0x0C 2 ≠ 0x7220 := by decide +kernel
  have c6 : hdrSections hg = true := by decide +kernel
  obtain ⟨pub, hp⟩ := Option.isSome_iff_exists.mp h1
  simp only [hdrCause, hw, c1, c2, c3, c4, c6, hp, ha pub, h2, if_false, Bool.not_true, Bool.false_eq_true]

/-! ### Ill-formed commands are refused, one per check -/

theorem test_wf_below : (Instr.qpIdle 46).wf = false ∧ (Instr.qpIdle 45).wf = true := by decide
theorem test_wf_from : (Instr.quarterLoad 12).wf = false ∧ (Instr.quarterLoad 11).wf = true := by decide
theorem test_wf_bits : (Instr.arm 0 65536 0 false .ok).wf = false ∧ (Instr.arm 0 65535 0 false .ok).wf = true := by decide
theorem test_wf_width : (Instr.registerWrite .aM 0 3 0).wf = false ∧ (Instr.registerWrite .aM 0 4 0).wf = true := by decide
theorem test_wf_len : (Instr.ringClose 0 0 (List.replicate 25 none)).wf = false ∧ (Instr.ringClose 0 0 (List.replicate 24 none)).wf = true := by decide
theorem test_wf_env : (Instr.railRise { env0 with tiles := 25 }).wf = false ∧ (Instr.railRise env0).wf = true := by decide
theorem test_wf_can_frame : (Instr.canFrameReceive 0 { fr0 with id := 2048 }).wf = false ∧ (Instr.canFrameReceive 0 { fr0 with id := 2047 }).wf = true := by decide
theorem test_wf_stores : (Instr.sqTail .aM 0 0 [(2 ^ 32, [])]).wf = false ∧ (Instr.sqTail .aM 0 0 [(2 ^ 32 - 1, [])]).wf = true := by decide
theorem test_wf_host_addrs : (Instr.sqFetch 0 [0x7FFFFFFF]).wf = false ∧ (Instr.sqFetch 0 [0x80000000]).wf = true := by decide
theorem test_wf_flips : (Instr.setCrcCheck [(4096, 0)]).wf = false ∧ (Instr.setCrcCheck [(4095, 255)]).wf = true := by decide
theorem test_wf_tile_writes : (Instr.tregWr 0 [(256, 0)] .ok).wf = false ∧ (Instr.tregWr 0 [(255, 0)] .ok).wf = true := by decide

/-! ### No word spells a command -/

theorem test_no_word : decodeTableWord 16 0 = none ∧ State.reset.withFetchWord 16 0 = State.reset := ⟨rfl, rfl⟩

/-! ### The spec's own figures -/

/-- "123456789". -/
def nine : List Byte := by8 [0x31, 0x32, 0x33, 0x34, 0x35, 0x36, 0x37, 0x38, 0x39]
/-- 13_safety_function.md: the CRC-32C of "123456789" is 0xE306_9283. -/
theorem test_crc32c : crc32c nine = 0xE3069283 := by decide +kernel
/-- 21_check_value_units.md, worked case: WIDTH 16, POLY 0x1021, INIT 0xFFFF reads CHECK 0x29B1. -/
theorem test_check_value : crcOf 16 0x1021 0xFFFF false false 0 nine = 0x29B1 := by decide +kernel
/-- 04_queues_doorbells.md, worked case: SEQ 0xFFFF_FFFE on a 64-entry CQ goes to slot 62 with PHASE 0. -/
theorem test_completion_slot : 0xFFFFFFFE % 2 ^ 6 = 62 ∧ cqPhase 0xFFFFFFFE 6 = 0 := by decide +kernel
/-- 07_cell_measurement.md, worked case: entry (10, 6,250) at 40 kHz with EST_DIV 40 is accepted, its instants 250 µs apart. -/
theorem test_carrier_table : (match tableCheck (lay 32 [(0, 1, 1), (2, 2, 1)]) [lay 8 [(0, 2, 10), (4, 4, 6250)]] 25000 40 with
    | .ok m => some (tableCycle m 25000)
    | .error _ => none) = some 250000 := by decide +kernel
/-- 07_cell_measurement.md, worked case: 240 V, 514.29 V and 171.43 V of 1,200 V give 2 MΩ, 500 kΩ and 400.0 kΩ; a pair member gives 401.5 kΩ. -/
theorem test_insulation : isoJudge (240000, true, 1200000) (514286, true, 1200000) (171429, true, 1200000) false 0 0 = (0x40, some (400000, 1999994, 500000))
    ∧ ((isoJudge (240000, true, 1200000) (514286, true, 1200000) (171429, true, 1200000) false 0 1).2.map Prod.fst) = some 401544 := by decide +kernel
/-- 11_thermal.md, worked case: the charge limit over 20.30 to 48.90 °C is 566,000 mA, the discharge limit 805,000 mA. -/
theorem test_derating :
    derateMin [(-2000, 0), (0, 0), (1000, 400000), (2500, 800000), (4500, 800000), (5500, 200000), (6000, 0), (6500, 0)] 2030 4890 = 566000
    ∧ derateMin [(-2000, 300000), (0, 600000), (1000, 800000), (2500, 1000000), (4500, 1000000), (5500, 500000), (6000, 200000), (6500, 0)] 2030 4890 = 805000 := by
  decide +kernel

/-- 10_impedance_engine.md, worked case: Z = 605.0 - 91.0 i has the phase -8.554 degrees. -/
theorem test_phase : roundDiv (fToScaled (fAtan2Deg (fOfInt (-91)) (fOfInt 605)) 40 * 1000) (2 ^ 40) = -8554 := by decide +kernel
/-- R230: bin 3 of 200,000 samples 300,000 ns apart lies at exactly 0.05 Hz and is allowed; 1 ns more is not. -/
theorem test_plan_low_end : planPointBad (lay 144 [(4, 4, 200000), (8, 1, 1), (0x10, 2, 3), (0x12, 1, 1)]) (some 300000) 0 = false
    ∧ planPointBad (lay 144 [(4, 4, 200000), (8, 1, 1), (0x10, 2, 3), (0x12, 1, 1)]) (some 300001) 0 = true := by decide +kernel

/-! ### Every statement's hypotheses are met somewhere

One theorem per statement with hypotheses, one state and operands per clause. -/

theorem test_wit_StepRunsTheFrontCommand :
    (∃ (s : State) (c : Instr) (rest : List Instr), s.pending = c :: rest)
    ∧ (∃ (s : State), s.pending = [])
    ∧ (∃ (s : State), s.pending = [] ∧ s.power.st = PState.off) :=
  ⟨⟨{ State.reset with pending := [.nop 1] }, .nop 1, [], by decide +kernel⟩,
   ⟨State.reset, by decide +kernel⟩,
   ⟨State.reset, by decide +kernel⟩⟩

theorem test_wit_StepsKeepTheQueueInOrder :
    (∃ (s : State) (t : State), step s = Host.Outcome.next t)
    ∧ (∃ (s : State) (t : State), step s = Host.Outcome.next t ∧ QueueWellFormed s) :=
  ⟨⟨State.reset, _, rfl⟩,
   ⟨State.reset, _, rfl, by decide⟩⟩

theorem test_wit_StepsKeepMemoryCanonical :
    (∃ (s : State) (t : State), MemoryCanonical s ∧ step s = Host.Outcome.next t) :=
  ⟨State.reset, State.reset, by decide, rfl⟩

theorem test_wit_ResetLeavesEveryRegisterAtItsResetValue :
    (∃ (b : Block) (r : R.Row) (n : Nat), r ∈ blockRows b ∧ b ≠ Block.can 0 ∧ b ≠ Block.can 1 ∧ b ≠ Block.can 2 ∧ n < r.count
      ∧ findRow (r.addr + n * r.stride) = some r) :=
  ⟨.sys, (blockRows .sys).headD ⟨0, 0, 0, 0, 0, 0, 0, false⟩, 0, by decide +kernel⟩

theorem test_wit_SqTailMakesEntriesReady :
    (∃ (s : State) (s1 : State) (lvl : Level) (qp : Nat) (v : Nat) (writes : List (Nat × List Byte)), coreStores s writes = Except.ok s1
      ∧ dbReaches s1 lvl qp = true ∧ dbOwned s1 lvl qp = true ∧ qpOn s1 qp = true ∧ v < 2 ^ (qpAt s1 qp).sqLog
      ∧ (rd s1 (R.QP_DB_STATE_SQ_TAIL qp) + 2 ^ (qpAt s1 qp).sqLog - rd s1 (R.QP_STATUS_SQ_HEAD qp)) % 2 ^ (qpAt s1 qp).sqLog ≤ (v + 2 ^ (qpAt s1 qp).sqLog - rd s1 (R.QP_STATUS_SQ_HEAD qp)) % 2 ^ (qpAt s1 qp).sqLog) :=
  ⟨put up (R.QP_CTRL_ENABLE 3) true, put up (R.QP_CTRL_ENABLE 3) true, .aM, 3, 1, [], by decide +kernel⟩

theorem test_wit_RejectedDoorbellsAreCounted :
    (∃ (s : State) (lvl : Level) (qp : Nat), dbReaches s lvl qp = true ∧ dbOwned s lvl qp = false)
    ∧ (∃ (s : State) (lvl : Level) (qp : Nat) (v : Nat), dbReaches s lvl qp = true ∧ dbOwned s lvl qp = true ∧ (qpOn s qp = false ∨ 2 ^ (qpAt s qp).sqLog ≤ v)) :=
  ⟨⟨put up (R.QP_CTRL_ENABLE 3) true, .bM, 3, by decide +kernel⟩,
   ⟨put up (R.QP_CTRL_ENABLE 3) true, .aM, 3, 16, by decide +kernel⟩⟩

theorem test_wit_QueueManagerRowsAct :
    (∃ (s : State) (lvl : Level) (qp : Nat) (v : Nat), dbReaches s lvl qp = true ∧ clusterOf lvl = some (ownerOf s qp) ∧ qpOn s qp = true
      ∧ v < 2 ^ (qpAt s qp).cqLog
      ∧ (v + 2 ^ (qpAt s qp).cqLog - rd s (R.QP_DB_STATE_CQ_HEAD qp)) % 2 ^ (qpAt s qp).cqLog ≤ (rd s (R.QP_STATUS_CQ_TAIL qp) + 2 ^ (qpAt s qp).cqLog - rd s (R.QP_DB_STATE_CQ_HEAD qp)) % 2 ^ (qpAt s qp).cqLog)
    ∧ (∃ (s : State) (qp : Nat), hostReach s = true ∧ qpOn s qp = true ∧ rd s (R.QP_STATUS_SQ_HEAD qp) ≠ rd s (R.QP_DB_STATE_SQ_TAIL qp)
      ∧ slotFree s qp = true ∧ memBad s ((qpAt s qp).sqBase + 32 * rd s (R.QP_STATUS_SQ_HEAD qp)) 32 = false)
    ∧ (∃ (s : State) (qp : Nat), hostReach s = true ∧ qpOn s qp = true ∧ rd s (R.QP_STATUS_SQ_HEAD qp) ≠ rd s (R.QP_DB_STATE_SQ_TAIL qp)
      ∧ slotFree s qp = true ∧ memBad s ((qpAt s qp).sqBase + 32 * rd s (R.QP_STATUS_SQ_HEAD qp)) 32 = true)
    ∧ (∃ (s : State) (qp : Nat), hostReach s = true ∧ qpOn s qp = true ∧ rd s (R.QP_STATUS_SQ_HEAD qp) ≠ rd s (R.QP_DB_STATE_SQ_TAIL qp) ∧ slotFree s qp = false)
    ∧ (∃ (s : State) (qp : Nat) (i : Nat) (e : Entry), frontIdx (qpAt s qp).entries = some i ∧ (qpAt s qp).entries[i]? = some e
      ∧ e.st = EntrySt.waiting ∧ whenOf s e = When.now)
    ∧ (∃ (s : State) (qp : Nat) (i : Nat) (e : Entry), frontIdx (qpAt s qp).entries = some i ∧ (qpAt s qp).entries[i]? = some e
      ∧ e.st = EntrySt.waiting ∧ whenOf s e = When.late)
    ∧ (∃ (s : State) (qp : Nat), 0 < (qpAt s qp).unann ∧ rd s (R.QP_CFG_COAL_US qp) ≠ 0)
    ∧ (∃ (s : State) (lvl : Level) (hi : Bool), hostReach s = true ∧ ownsSome s lvl hi = true)
    ∧ (∃ (s : State) (lvl : Level) (qp : Nat), qpWritable s lvl qp = true ∧ qpOn s qp = false ∧ flag s (R.QP_STATUS_IDLE qp) = true
      ∧ ringsOk s qp = true ∧ qp < s.qps.length)
    ∧ (∃ (s : State) (lvl : Level) (qp : Nat), qpWritable s lvl qp = true ∧ qpOn s qp = false ∧ flag s (R.QP_STATUS_IDLE qp) = true ∧ ringsOk s qp = false)
    ∧ (∃ (s : State) (lvl : Level) (qp : Nat), qpWritable s lvl qp = true ∧ qpOn s qp = true)
    ∧ (∃ (s : State) (qp : Nat), (qpAt s qp).entries = []) :=
  ⟨⟨wr (put up (R.QP_CTRL_ENABLE 3) true) (R.QP_STATUS_CQ_TAIL 3) 2, .aM, 3, 1, by decide +kernel⟩,
   ⟨qpMod (wr (put up (R.QP_CTRL_ENABLE 3) true) (R.QP_DB_STATE_SQ_TAIL 3) 1) 3 (fun q => { q with sqBase := 0x80000000 }), 3, by decide +kernel⟩,
   ⟨{ (qpMod (wr (put up (R.QP_CTRL_ENABLE 3) true) (R.QP_DB_STATE_SQ_TAIL 3) 1) 3 (fun q => { q with sqBase := 0x80000000 })) with memErr := [0x80000018] }, 3, by decide +kernel⟩,
   ⟨qpMod (wr (put up (R.QP_CTRL_ENABLE 3) true) (R.QP_DB_STATE_SQ_TAIL 3) 1) 3 (fun q => { q with entries := List.replicate 15 (en 1) }), 3, by decide +kernel⟩,
   ⟨qe up 3 { en 1 with st := .waiting }, 3, 0, { en 1 with st := .waiting }, by decide +kernel⟩,
   ⟨qe { up with ptp := { up.ptp with pre := 2 ^ 60 } } 3 { en 1 with st := .waiting, flags := 4, at64 := 1 }, 3, 0, { en 1 with st := .waiting, flags := 4, at64 := 1 }, by decide +kernel⟩,
   ⟨qpMod (wr up (R.QP_CFG_COAL_US 3) 5) 3 (fun q => { q with unann := 1 }), 3, by decide +kernel⟩,
   ⟨up, .aM, false, by decide +kernel⟩,
   ⟨wr (wr (put up (R.QP_STATUS_IDLE 3) true) (R.QP_SQ_BASE_LO_SQ_BASE 3) 0x80000000) (R.QP_CQ_BASE_LO_CQ_BASE 3) 0x80001000, .aM, 3, by decide +kernel⟩,
   ⟨wr (put up (R.QP_STATUS_IDLE 3) true) (R.QP_CFG_SQ_LOG2 3) 0, .aM, 3, by decide +kernel⟩,
   ⟨put up (R.QP_CTRL_ENABLE 3) true, .aM, 3, by decide +kernel⟩,
   ⟨up, 3, by decide +kernel⟩⟩

theorem test_wit_CompletionsFillTheirSlot :
    (∃ (s : State) (lvl : Level) (qp : Nat), qpWritable s lvl qp = true ∧ qpOn s qp = false ∧ flag s (R.QP_STATUS_IDLE qp) = true
      ∧ ringsOk s qp = true ∧ qp < s.qps.length)
    ∧ (∃ (s : State) (qp : Nat) (e : Entry) (status : Nat) (result : Nat) (ext : Nat), e.st = EntrySt.done status result ext ∧ qp < 46
      ∧ (qpAt s qp).cqLog ≤ 12 ∧ (status = 0 ∧ bitOf e.flags 0 = true))
    ∧ (∃ (s : State) (qp : Nat) (e : Entry) (status : Nat) (result : Nat) (ext : Nat), e.st = EntrySt.done status result ext ∧ qp < 46
      ∧ (qpAt s qp).cqLog ≤ 12 ∧ (¬(status = 0 ∧ bitOf e.flags 0 = true)))
    ∧ (∃ (s : State) (qp : Nat) (e : Entry) (status : Nat) (result : Nat) (ext : Nat) (b : Nat), e.st = EntrySt.done status result ext ∧ qp < 46
      ∧ (qpAt s qp).cqLog ≤ 12 ∧ (¬(status = 0 ∧ bitOf e.flags 0 = true))
      ∧ (let k := (qpAt s qp).cqLog; (let seq := rd s (R.QP_SEQ_SEQ qp); (let a := (qpAt s qp).cqBase + 16 * (seq % 2 ^ k); (b < a ∨ a + 16 ≤ b))))) :=
  ⟨⟨wr (wr (put up (R.QP_STATUS_IDLE 3) true) (R.QP_SQ_BASE_LO_SQ_BASE 3) 0x80000000) (R.QP_CQ_BASE_LO_CQ_BASE 3) 0x80001000, .aM, 3, by decide +kernel⟩,
   ⟨up, 3, { en 1 with st := .done 0 0 0, flags := 1 }, 0, 0, 0, by decide +kernel⟩,
   ⟨up, 3, { en 1 with st := .done 5 0 0 }, 5, 0, 0, by decide +kernel⟩,
   ⟨up, 3, { en 1 with st := .done 5 0 0 }, 5, 0, 0, 16, by decide +kernel⟩⟩

theorem test_wit_CommonOpcodesAct :
    (∃ (s : State) (qp : Nat) (e : Entry), Goes s qp opNop e)
    ∧ (∃ (s : State) (qp : Nat) (e : Entry), Goes s qp opGetStatus e ∧ qp ≠ 42)
    ∧ (∃ (s : State) (qp : Nat) (e : Entry), Goes s qp opSetConfig e)
    ∧ (∃ (s : State) (qp : Nat) (e : Entry), Goes s qp opGetConfig e)
    ∧ (∃ (s : State) (qp : Nat) (e : Entry), Goes s qp opEnable e)
    ∧ (∃ (s : State) (e : Entry), Goes s 14 opEnable e)
    ∧ (∃ (s : State) (qp : Nat) (e : Entry), Goes s qp opDisable e)
    ∧ (∃ (s : State) (e : Entry), Goes s 14 opDisable e)
    ∧ (∃ (s : State) (qp : Nat) (e : Entry), Goes s qp opPost e)
    ∧ (∃ (s : State) (qp : Nat) (e : Entry), Goes s qp opMark e ∧ frontIdx (qpAt s qp).entries = some 0)
    ∧ (∃ (s : State) (qp : Nat) (e : Entry), Goes s qp opFlush e) :=
  ⟨⟨qe (up) 15 (en opNop), 15, en opNop, by decide +kernel⟩,
   ⟨qe (up) 15 (en opGetStatus), 15, en opGetStatus, by decide +kernel⟩,
   ⟨qe (up) 15 (en opSetConfig), 15, en opSetConfig, by decide +kernel⟩,
   ⟨qe (up) 15 (en opGetConfig), 15, en opGetConfig, by decide +kernel⟩,
   ⟨qe (up) 15 (en opEnable), 15, en opEnable, by decide +kernel⟩,
   ⟨qe (up) 14 (en opEnable), en opEnable, by decide +kernel⟩,
   ⟨qe (up) 15 (en opDisable), 15, en opDisable, by decide +kernel⟩,
   ⟨qe (up) 14 (en opDisable), en opDisable, by decide +kernel⟩,
   ⟨qe (up) 15 (en opPost), 15, en opPost, by decide +kernel⟩,
   ⟨qe (up) 15 (en opMark), 15, en opMark, by decide +kernel⟩,
   ⟨qe (up) 15 (en opFlush), 15, en opFlush, by decide +kernel⟩⟩

theorem test_wit_RegisterWritesAct :
    (∃ (s : State) (lvl : Level) (v : Nat) (r : R.Row), writeAllowed s lvl R.SYS_LOCK_SET = some r ∧ bitOf (v % 2 ^ 32) 21 = false)
    ∧ (∃ (s : State) (lvl : Level) (v : Nat) (r : R.Row), writeAllowed s lvl R.SYS_LOCK_SET = some r ∧ bitOf (v % 2 ^ 32) 21 = true)
    ∧ (∃ (s : State) (lvl : Level) (a : Nat) (r : R.Row), a % 4 = 0 ∧ plainReg a = true ∧ writeAllowed s lvl a = some r ∧ regFrozen s a = false)
    ∧ (∃ (s : State) (lvl : Level) (a : Nat), (¬(268533760 ≤ a ∧ a < 268534128)) ∧ writeAllowed s lvl a = none)
    ∧ (∃ (w : Nat), w ≠ 4 ∧ w ≠ 8)
    ∧ (∃ (s : State) (lvl : Level) (a : Nat) (r : R.Row), isPairLo a = true ∧ r.rw ≠ 0 ∧ ownRule a = false ∧ writeAllowed s lvl a = some r ∧ regFrozen s a = false)
    ∧ (∃ (s : State) (lvl : Level) (a : Nat) (r : R.Row) (rl : R.Row) (lo : Word), isPairHi a = true ∧ isPairLo a = false ∧ r.rw ≠ 0
      ∧ ownRule a = false ∧ ownRule (a - 4) = false ∧ writeAllowed s lvl a = some r ∧ regFrozen s a = false ∧ findRow (a - 4) = some rl
      ∧ List.find? (fun e => decide (e.1 = (lvl, a - 4))) s.stages = some ((lvl, a - 4), lo))
    ∧ (∃ (s : State) (lvl : Level) (r : R.Row), writeAllowed s lvl R.PTP_INC0 = some r)
    ∧ (∃ (s : State) (lvl : Level) (r : R.Row), writeAllowed s lvl R.PTP_INC1 = some r)
    ∧ (∃ (s : State) (lvl : Level) (n : Nat) (r : R.Row), n < 16 ∧ writeAllowed s lvl (R.PERF_C_PRESET n) = some r) :=
  ⟨⟨up, .aM, 1, rowAt (R.SYS_LOCK_SET), by decide +kernel⟩,
   ⟨up, .aM, 2 ^ 21, rowAt (R.SYS_LOCK_SET), by decide +kernel⟩,
   ⟨up, .aM, R.QP_CFG 3, rowAt (R.QP_CFG 3), by decide +kernel⟩,
   ⟨up, .u, R.QP_CFG 3, by decide +kernel⟩,
   ⟨2, by decide +kernel⟩,
   ⟨up, .aM, (R.CAN_IMG_BASE_LO 0), rowAt ((R.CAN_IMG_BASE_LO 0)), by decide +kernel⟩,
   ⟨{ up with stages := [((.aM, (R.CAN_IMG_BASE_LO 0 + 4) - 4), 7)] }, .aM, (R.CAN_IMG_BASE_LO 0 + 4), rowAt ((R.CAN_IMG_BASE_LO 0 + 4)), rowAt ((R.CAN_IMG_BASE_LO 0 + 4) - 4), 7, by decide +kernel⟩,
   ⟨up, .aM, rowAt (R.PTP_INC0), by decide +kernel⟩,
   ⟨up, .aM, rowAt (R.PTP_INC1), by decide +kernel⟩,
   ⟨up, .aM, 15, rowAt (R.PERF_C_PRESET 15), by decide +kernel⟩⟩

theorem test_wit_PairReadsAreOneInstant :
    (∃ (s : State) (lvl : Level) (a : Nat) (now : SupplyIn) (b : Block) (r : R.Row), a % 4 = 0 ∧ isPairLo a = true
      ∧ regReach (readTake s a now) lvl a = some (b, r) ∧ b ≠ Block.perf)
    ∧ (∃ (s : State) (lvl : Level) (a : Nat) (now : SupplyIn) (b : Block) (r : R.Row), a % 4 = 0 ∧ isPairLo a = true ∧ regReach (readTake s a now) lvl a = some (b, r))
    ∧ (∃ (s : State) (lvl : Level) (a : Nat) (now : SupplyIn) (b : Block) (r : R.Row) (v : Word), a % 4 = 0 ∧ isPairLo a = false ∧ isPairHi a = true
      ∧ regReach (readTake s a now) lvl a = some (b, r)
      ∧ (let s1 := if b = Block.perf then perfSync (pepperWait (readTake s a now) 7 (srcOf b)) else pepperWait (readTake s a now) 7 (srcOf b); List.find? (fun e => decide (e.1 = (lvl, a))) s1.shadows = some ((lvl, a), v)))
    ∧ (∃ (a : Nat), a % 8 = 0)
    ∧ (∃ (s : State) (lvl : Level) (a : Nat) (now : SupplyIn), a % 4 = 0 ∧ regReach (readTake s a now) lvl a = none)
    ∧ (∃ (a : Nat) (w : Nat), (¬(w = 4 ∧ a % 4 = 0)) ∧ (¬(w = 8 ∧ a % 8 = 0)))
    ∧ (∃ (s : State) (lvl : Level) (a : Nat) (now : SupplyIn) (b : Block) (r : R.Row), a % 4 = 0 ∧ isPairLo a = false ∧ isPairHi a = false
      ∧ regReach (readTake s a now) lvl a = some (b, r) ∧ b ≠ Block.perf) :=
  ⟨⟨up, .aM, (R.CAN_IMG_BASE_LO 0), now0, .can 0, rowAt ((R.CAN_IMG_BASE_LO 0)), by decide +kernel⟩,
   ⟨up, .aM, (R.CAN_IMG_BASE_LO 0), now0, .can 0, rowAt ((R.CAN_IMG_BASE_LO 0)), by decide +kernel⟩,
   ⟨{ up with shadows := [((.aM, (R.CAN_IMG_BASE_LO 0 + 4)), 7)] }, .aM, (R.CAN_IMG_BASE_LO 0 + 4), now0, .can 0, rowAt ((R.CAN_IMG_BASE_LO 0 + 4)), 7, by decide +kernel⟩,
   ⟨8, by decide +kernel⟩,
   ⟨up, .u, R.QP_CFG 3, now0, by decide +kernel⟩,
   ⟨4, 8, by decide +kernel⟩,
   ⟨up, .aM, R.QP_CFG 3, now0, .qmgr, rowAt (R.QP_CFG 3), by decide +kernel⟩⟩

theorem test_wit_SupplyRowsAct :
    (∃ (s : State) (env : StartEnv), s.power.st = PState.off ∧ 4700 < max env.sup.vsupMv env.sup.vauxMv)
    ∧ (∃ (s : State) (k : Nat), s.power.st = PState.start ∧ s.power.dieHot = false ∧ (bootPick s 0).2 = some k)
    ∧ (∃ (s : State), s.power.st = PState.start ∧ s.power.dieHot = false ∧ (bootPick s 0).2 = none)
    ∧ (∃ (s : State) (now : SupplyIn), blocksUp s = true ∧ now.rail < 4500)
    ∧ (∃ (s : State) (now : SupplyIn), blocksUp s = true ∧ 36000 < now.rail)
    ∧ (∃ (now : SupplyIn), 4500 ≤ now.rail)
    ∧ (∃ (now : SupplyIn), now.rail ≤ 36000)
    ∧ (∃ (s : State) (now : SupplyIn), fullUp s = true ∧ 36000 < now.rail)
    ∧ (∃ (s : State) (now : SupplyIn), fullUp s = true ∧ now.rail < 4000)
    ∧ (∃ (now : SupplyIn), 4000 ≤ now.rail)
    ∧ (∃ (s : State) (now : SupplyIn), s.power.st = PState.watch ∧ now.rail < 4000)
    ∧ (∃ (s : State) (now : SupplyIn), s.power.st = PState.ride ∧ 4500 < now.rail ∧ ((s.power.ov = true → now.rail < 36000)))
    ∧ (∃ (s : State), s.power.st = PState.ride)
    ∧ (∃ (s : State), s.power.st = PState.flush ∧ s.power.railBack = false)
    ∧ (∃ (s : State), s.power.st = PState.flush ∧ s.power.railBack = true)
    ∧ (∃ (s : State), inHoldup s = true)
    ∧ (∃ (s : State), s.power.st = PState.flush) :=
  ⟨⟨State.reset, { env0 with sup := { now0 with vsupMv := 4701 } }, by decide +kernel⟩,
   ⟨inSt up .start, 0, rfl, rfl, boots0⟩,
   ⟨upNoFw, rfl, rfl, by decide +kernel⟩,
   ⟨up, { now0 with vsupMv := 4499 }, by decide +kernel⟩,
   ⟨up, { now0 with vsupMv := 36001 }, by decide +kernel⟩,
   ⟨{ now0 with vsupMv := 4500 }, by decide +kernel⟩,
   ⟨{ now0 with vsupMv := 36000 }, by decide +kernel⟩,
   ⟨up, { now0 with vsupMv := 36001 }, by decide +kernel⟩,
   ⟨up, { now0 with vsupMv := 3999 }, by decide +kernel⟩,
   ⟨{ now0 with vsupMv := 4000 }, by decide +kernel⟩,
   ⟨inSt up .watch, { now0 with vsupMv := 3999 }, by decide +kernel⟩,
   ⟨inSt up .ride, { now0 with vsupMv := 4501 }, by decide +kernel⟩,
   ⟨inSt up .ride, by decide +kernel⟩,
   ⟨inSt up .flush, by decide +kernel⟩,
   ⟨{ up with power := { up.power with st := .flush, railBack := true } }, by decide +kernel⟩,
   ⟨inSt up .ride, by decide +kernel⟩,
   ⟨inSt up .flush, by decide +kernel⟩⟩

theorem test_wit_CoilAndWatchRowsAct :
    (∃ (s : State) (now : SupplyIn), blocksUp s = true ∧ now.coilMv < 8000)
    ∧ (∃ (s : State) (now : SupplyIn), blocksUp s = true ∧ 8000 ≤ now.coilMv)
    ∧ (∃ (s : State) (e : Entry), Goes s 0 64 e ∧ s.power.st = PState.run ∧ watchCause s (wakeFound e) = none)
    ∧ (∃ (s : State) (e : Entry) (c : Nat), Goes s 0 64 e ∧ s.power.st = PState.run ∧ watchCause s (wakeFound e) = some c)
    ∧ (∃ (s : State) (e : Entry), Goes s 0 64 e ∧ s.power.st ≠ PState.run)
    ∧ (∃ (s : State), s.power.st = PState.run ∧ s.power.watchEntry ≠ 0 ∧ flag s R.UPD_STATUS_HOLD_WIN = false ∧ s.power.heldWake = 0)
    ∧ (∃ (s : State), s.power.st = PState.run ∧ s.power.watchEntry ≠ 0 ∧ flag s R.UPD_STATUS_HOLD_WIN = false ∧ s.power.heldWake ≠ 0)
    ∧ (∃ (s : State), s.power.st = PState.watch ∧ wakeEn s.power.wakeCfg = true)
    ∧ (∃ (s : State), s.power.st = PState.watch ∧ wakeCan0 s.power.wakeCfg = true)
    ∧ (∃ (s : State), s.power.st = PState.watch ∧ wakeTimerMin s.power.wakeCfg ≠ 0) :=
  ⟨⟨up, { now0 with coilMv := 7999 }, by decide +kernel⟩,
   ⟨up, { now0 with coilMv := 8000 }, by decide +kernel⟩,
   ⟨qe (fl (up) [R.SAFE_STATUS_INHIBIT]) 0 ({ en 0x40 with snap := [by8 [255, 255, 255, 255]] }), { en 0x40 with snap := [by8 [255, 255, 255, 255]] }, by decide +kernel⟩,
   ⟨qe (up) 0 (en 64), en 64, 2, by decide +kernel⟩,
   ⟨qe (inSt up .start) 0 (en 64), en 64, by decide +kernel⟩,
   ⟨{ (up) with power := { (up).power with watchEntry := 1 } }, by decide +kernel⟩,
   ⟨{ (up) with power := { (up).power with watchEntry := 1, heldWake := 1 } }, by decide +kernel⟩,
   ⟨{ (up) with power := { (up).power with st := .watch, wakeCfg := 0xFFFFFFFF } }, by decide +kernel⟩,
   ⟨{ (up) with power := { (up).power with st := .watch, wakeCfg := 0xFFFFFFFF } }, by decide +kernel⟩,
   ⟨{ (up) with power := { (up).power with st := .watch, wakeCfg := 0xFFFFFFFF } }, by decide +kernel⟩⟩

theorem test_wit_ResetRowsAct :
    (∃ (s : State) (e : Entry), Goes s 0 65 e)
    ∧ (∃ (s : State) (e : Entry) (c : Nat), Goes s 0 66 e ∧ clusterOf e.level = some c)
    ∧ (∃ (s : State) (now : SupplyIn), blocksUp s = true ∧ 200000 < now.mainDev.natAbs)
    ∧ (∃ (now : SupplyIn), now.mainDev.natAbs ≤ 200000)
    ∧ (∃ (s : State) (now : SupplyIn), blocksUp s = true ∧ 12500 < now.dieTemp)
    ∧ (∃ (now : SupplyIn), now.dieTemp ≤ 12500)
    ∧ (∃ (s : State) (env : StartEnv), s.power.dieHot = true ∧ s.power.st = PState.start ∧ env.sup.dieTemp < 11000)
    ∧ (∃ (env : StartEnv), 11000 ≤ env.sup.dieTemp)
    ∧ (∃ (s : State), blocksUp s = true)
    ∧ (∃ (s : State) (row : Nat), (row = 6 ∨ row = 7 ∨ row = 10) ∧ blocksUp s = true)
    ∧ (∃ (s : State) (c : Nat), c < 2 ∧ fullUp s = true)
    ∧ (∃ (s : State) (now : SupplyIn), blocksUp s = true ∧ 60 < now.safeMv.natAbs)
    ∧ (∃ (now : SupplyIn), now.safeMv.natAbs ≤ 60)
    ∧ (∃ (s : State) (now : SupplyIn), blocksUp s = true ∧ 100 < now.aonMv.natAbs)
    ∧ (∃ (now : SupplyIn), now.aonMv.natAbs ≤ 100) :=
  ⟨⟨qe (up) 0 (en 65), en 65, by decide +kernel⟩,
   ⟨qe (up) 0 (en 66), en 66, 0, by decide +kernel⟩,
   ⟨up, { now0 with mainDev := -200001 }, by decide +kernel⟩,
   ⟨{ now0 with mainDev := -200000 }, by decide +kernel⟩,
   ⟨up, { now0 with dieTemp := 12501 }, by decide +kernel⟩,
   ⟨{ now0 with dieTemp := 12500 }, by decide +kernel⟩,
   ⟨{ (up) with power := { (up).power with st := .start, dieHot := true } }, { env0 with sup := { now0 with dieTemp := 10999 } }, by decide +kernel⟩,
   ⟨{ env0 with sup := { now0 with dieTemp := 11000 } }, by decide +kernel⟩,
   ⟨up, by decide +kernel⟩,
   ⟨up, 10, by decide +kernel⟩,
   ⟨up, 1, by decide +kernel⟩,
   ⟨up, { now0 with safeMv := -61 }, by decide +kernel⟩,
   ⟨{ now0 with safeMv := 60 }, by decide +kernel⟩,
   ⟨up, { now0 with aonMv := 101 }, by decide +kernel⟩,
   ⟨{ now0 with aonMv := -100 }, by decide +kernel⟩⟩

theorem test_wit_DrawAndDomainRowsAct :
    (∃ (s : State) (now : SupplyIn), fullUp s = true ∧ 30 ≤ now.aboveS ∧ 7500 < now.drawMw)
    ∧ (∃ (now : SupplyIn), (now.aboveS < 30 ∨ now.drawMw ≤ 7500))
    ∧ (∃ (s : State) (sum : Nat), fullUp s = true ∧ sum ≤ 7500 * drawSpan s)
    ∧ (∃ (span : Nat) (sum : Nat), 7500 * span < sum)
    ∧ (∃ (s : State) (d : Nat), d < 12 ∧ blocksUp s = true)
    ∧ (∃ (s : State) (d : Nat), d < 12 ∧ d ≠ 3 ∧ ((d = 6 → linkUp s false = true)) ∧ ((d = 7 → linkUp s true = true)) ∧ blocksUp s = true)
    ∧ (∃ (s : State), blocksUp s = true) :=
  ⟨⟨up, { now0 with aboveS := 30, drawMw := 7501 }, by decide +kernel⟩,
   ⟨{ now0 with aboveS := 29, drawMw := 7500 }, by decide +kernel⟩,
   ⟨up, 7500 * drawSpan up, by decide +kernel⟩,
   ⟨1, 7501, by decide +kernel⟩,
   ⟨up, 11, by decide +kernel⟩,
   ⟨up, 11, by decide +kernel⟩,
   ⟨up, by decide +kernel⟩⟩

theorem test_wit_RecorderRowsAct :
    (∃ (s : State), s.recd.buf ≠ [] ∧ flag s R.REC_STATUS_FLUSHING = false ∧ storTakes s = true)
    ∧ (∃ (s : State), flag s R.REC_STATUS_FLUSHING = true ∧ s.recd.durable.length + s.recd.buf.length ≤ recAreaMax)
    ∧ (∃ (s : State), flag s R.PTP_STATUS_ACQ = true) :=
  ⟨⟨{ up with recd := { up.recd with buf := [{ seq := 0, ot := 0, pc := 0, src := 0, code := 0, rflags := 0, inst := 0, suppr := 0, arg0 := 0, arg1 := 0, bad := false }] } }, by decide +kernel⟩,
   ⟨fl (up) [R.REC_STATUS_FLUSHING], by decide +kernel⟩,
   ⟨fl (up) [R.PTP_STATUS_ACQ], by decide +kernel⟩⟩

theorem test_wit_RecorderCommandsAct :
    (∃ (s : State) (e : Entry), Goes s 2 64 e ∧ seqBefore e.arg0 s.recd.oldest = false)
    ∧ (∃ (s : State) (e : Entry), Goes s 2 64 e ∧ seqBefore e.arg0 s.recd.oldest = true)
    ∧ (∃ (s : State) (e : Entry), Goes s 2 65 e ∧ memBad s e.addr e.len = false)
    ∧ (∃ (s : State) (e : Entry), Goes s 2 66 e ∧ storTakes s = true ∧ s.recd.buf = [])
    ∧ (∃ (s : State) (e : Entry), Goes s 2 66 e ∧ storTakes s = true ∧ s.recd.buf ≠ [])
    ∧ (∃ (s : State) (e : Entry), Goes s 2 66 e ∧ storTakes s = false)
    ∧ (∃ (s : State) (e : Entry), Goes s 2 67 e ∧ flag s R.IDK_STATUS_RNG_FAIL = false)
    ∧ (∃ (s : State) (e : Entry), Goes s 2 68 e ∧ memBad s e.addr e.len = false) :=
  ⟨⟨qe (up) 2 (en 64), en 64, by decide +kernel⟩,
   ⟨qe ({ up with recd := { up.recd with oldest := 1 } }) 2 (en 64), en 64, by decide +kernel⟩,
   ⟨qe (up) 2 (en 65), en 65, by decide +kernel⟩,
   ⟨qe (up) 2 (en 66), en 66, by decide +kernel⟩,
   ⟨qe ({ up with recd := { up.recd with buf := [{ seq := 0, ot := 0, pc := 0, src := 0, code := 0, rflags := 0, inst := 0, suppr := 0, arg0 := 0, arg1 := 0, bad := false }] } }) 2 (en 66), en 66, by decide +kernel⟩,
   ⟨qe (put up R.STOR_STATUS_READY false) 2 (en 66), en 66, by decide +kernel⟩,
   ⟨qe (up) 2 (en 67), en 67, by decide +kernel⟩,
   ⟨qe (up) 2 (en 68), en 68, by decide +kernel⟩⟩

theorem test_wit_PerfRowsAct :
    (∃ (s : State), rd s R.PERF_STATUS_EN = 0)
    ∧ (∃ (s : State), flag s R.PERF_STATUS_PERIODIC = true)
    ∧ (∃ (s : State), flag s R.PERF_STATUS_PERIODIC = false)
    ∧ (∃ (s : State) (e : Entry), Goes s 42 64 e) :=
  ⟨⟨up, by decide +kernel⟩,
   ⟨fl (up) [R.PERF_STATUS_PERIODIC], by decide +kernel⟩,
   ⟨up, by decide +kernel⟩,
   ⟨qe (up) 42 (en 64), en 64, by decide +kernel⟩⟩

theorem test_wit_CountersWrapIntoHi :
    (∃ (n : Nat), n < 16)
    ∧ (∃ (s : State) (n : Nat) (k : Nat), n < 16 ∧ (let v := rd s (R.PERF_C_VAL_LO_VALUE n); v + k < 2 ^ 32))
    ∧ (∃ (s : State) (n : Nat) (k : Nat), n < 16 ∧ (let v := rd s (R.PERF_C_VAL_LO_VALUE n); 2 ^ 32 ≤ v + k))
    ∧ (∃ (n : Nat) (m : Nat), n < 16 ∧ m < 16 ∧ m ≠ n) :=
  ⟨⟨15, by decide +kernel⟩,
   ⟨up, 15, 2 ^ 32 - 1, by decide +kernel⟩,
   ⟨up, 15, 2 ^ 32, by decide +kernel⟩,
   ⟨15, 14, by decide +kernel⟩⟩

theorem test_wit_PerturbationRowsAct :
    (∃ (s : State), pepperAllOff s = true)
    ∧ (∃ (s : State) (k : Nat), k < 8 ∧ flag s (R.PEPPER_S_STAT_ARMED k) = true) :=
  ⟨⟨inSt up .off, by decide +kernel⟩,
   ⟨fl (up) [R.PEPPER_S_STAT_ARMED 7], 7, by decide +kernel⟩⟩

theorem test_wit_IdentityRowsAct :
    (∃ (s : State) (e : Entry), Goes s 3 64 e)
    ∧ (∃ (s : State) (e : Entry), Goes s 3 65 e ∧ memBad s e.addr 32 = false)
    ∧ (∃ (s : State) (e : Entry), Goes s 3 66 e ∧ flag s R.IDK_STATUS_RNG_FAIL = false)
    ∧ (∃ (s : State) (e : Entry), Goes s 3 67 e ∧ memBad s e.addr e.len = false ∧ storTakes s = true ∧ (let r := memBytes s e.addr e.len; fieldAt r 4 1 = 1))
    ∧ (∃ (s : State) (e : Entry), Goes s 3 67 e ∧ memBad s e.addr e.len = false ∧ storTakes s = true
      ∧ (let r := memBytes s e.addr e.len; (let id := fieldAt r 28 4; fieldAt r 4 1 = 2 ∧ isRelKey id = false)))
    ∧ (∃ (s : State) (e : Entry), Goes s 3 67 e ∧ memBad s e.addr e.len = false
      ∧ (let r := memBytes s e.addr e.len; (let id := fieldAt r 28 4; fieldAt r 4 1 = 2 ∧ isRelKey id = true ∧ relLive s ≠ [id])))
    ∧ (∃ (s : State) (e : Entry), Goes s 3 68 e)
    ∧ (∃ (s : State) (e : Entry), Goes s 3 69 e ∧ memBad s e.addr e.len = false ∧ (let m := memBytes s e.addr e.len; s.idk.nonce ≠ some (fieldAt m 84 8)))
    ∧ (∃ (s : State) (e : Entry), Goes s 3 69 e ∧ memBad s e.addr e.len = false
      ∧ (let m := memBytes s e.addr e.len; s.idk.nonce = some (fieldAt m 84 8) ∧ operKey s (fieldAt m 0 4) rightSession = none))
    ∧ (∃ (s : State) (e : Entry) (k : OpKey), Goes s 3 69 e ∧ memBad s e.addr e.len = false
      ∧ (let m := memBytes s e.addr e.len; s.idk.nonce = some (fieldAt m 84 8) ∧ operKey s (fieldAt m 0 4) rightSession = some k))
    ∧ (∃ (s : State) (e : Entry) (x : MgmtSess), Goes s 3 70 e ∧ bitOf e.arg0 8 = false ∧ memBad s e.addr e.len = false
      ∧ s.idk.sess.getD (e.arg0 % 4) none = some x ∧ (let m := memBytes s e.addr e.len; x.cntIn < fieldAt m 0 8))
    ∧ (∃ (s : State) (e : Entry) (x : MgmtSess), Goes s 3 70 e ∧ bitOf e.arg0 8 = true ∧ s.idk.sess.getD (e.arg0 % 4) none = some x)
    ∧ (∃ (s : State) (e : Entry) (x : MgmtSess), Goes s 3 71 e ∧ s.idk.sess.getD e.arg0 none = some x)
    ∧ (∃ (s : State) (n : Nat) (x : MgmtSess), n < 4 ∧ s.idk.sess.getD n none = some x)
    ∧ (∃ (s : State), blocksUp s = true)
    ∧ (∃ (s : State) (e : Entry) (k : OpKey) (n : Nat), Goes s 3 0x45 e ∧ memBad s e.addr e.len = false
      ∧ s.idk.nonce = some (fieldAt (memBytes s e.addr e.len) 84 8) ∧ operKey s (fieldAt (memBytes s e.addr e.len) 0 4) rightSession = some k
      ∧ s.idk.sess.findIdx? Option.isNone = some n ∧ flag s R.IDK_STATUS_RNG_FAIL = false) :=
  ⟨⟨qe (up) 3 (en 64), en 64, by decide +kernel⟩,
   ⟨qe (up) 3 (en 65), en 65, by decide +kernel⟩,
   ⟨qe (up) 3 (en 66), en 66, by decide +kernel⟩,
   ⟨qe (memWrite (up) 0x1000 (by8 [0, 0, 0, 0, 1])) 3 ({ en 0x43 with len := 64 }), { en 0x43 with len := 64 }, by decide +kernel⟩,
   ⟨qe (memWrite (up) 0x1000 (by8 [0, 0, 0, 0, 2])) 3 ({ en 0x43 with len := 64 }), { en 0x43 with len := 64 }, by decide +kernel⟩,
   ⟨qe (memWrite (up) 0x1000 (lay 64 [(4, 1, 2), (28, 1, 4)])) 3 ({ en 0x43 with len := 64 }), { en 0x43 with len := 64 }, by decide +kernel⟩,
   ⟨qe (up) 3 (en 68), en 68, by decide +kernel⟩,
   ⟨qe ({ (up) with idk := { (up).idk with nonce := some 7 } }) 3 ({ en 0x45 with len := 156 }), { en 0x45 with len := 156 }, by decide +kernel⟩,
   ⟨qe ({ (up) with idk := { (up).idk with nonce := some 0 } }) 3 ({ en 0x45 with len := 156 }), { en 0x45 with len := 156 }, by decide +kernel⟩,
   ⟨qe ({ (up) with idk := { (up).idk with nonce := some 0, tab := { up.idk.tab with keys := [{ id := 0, oper := 1, rights := 0xFF, pub := [] }] } } }) 3 ({ en 0x45 with len := 156 }), { en 0x45 with len := 156 }, { id := 0, oper := 1, rights := 0xFF, pub := [] }, by decide +kernel⟩,
   ⟨qe (memWrite upSess 0x1000 (by8 [1])) 3 ({ en 0x46 with len := 64 }), { en 0x46 with len := 64 }, sess, by decide +kernel⟩,
   ⟨qe (upSess) 3 ({ en 0x46 with arg0 := 0x100 }), { en 0x46 with arg0 := 0x100 }, sess, by decide +kernel⟩,
   ⟨qe (upSess) 3 (en 71), en 71, sess, by decide +kernel⟩,
   ⟨upSess, 0, sess, by decide +kernel⟩,
   ⟨up, by decide +kernel⟩,
   ⟨qe ({ (up) with idk := { (up).idk with nonce := some 0, tab := { up.idk.tab with keys := [{ id := 0, oper := 1, rights := 0xFF, pub := [] }] } } }) 3 ({ en 0x45 with len := 156 }), { en 0x45 with len := 156 }, { id := 0, oper := 1, rights := 0xFF, pub := [] }, 0, by decide +kernel⟩⟩

theorem test_wit_TileTimingRowsAct :
    (∃ (s : State) (k : Nat), (tileAt s k).up = true)
    ∧ (∃ (s : State) (k : Nat), (tileAt s k).up = true ∧ (tileAt s k).comp = false ∧ (tileAt s k).arm.isSome = true)
    ∧ (∃ (s : State) (k : Nat), (tileAt s k).paused = true) :=
  ⟨⟨upCh, 3, by decide +kernel⟩,
   ⟨ti upCh 3 (fun t => { t with comp := false, arm := some (0, 0, false) }), 3, by decide +kernel⟩,
   ⟨ti upCh 3 (fun t => { t with paused := true }), 3, by decide +kernel⟩⟩

theorem test_wit_TileProtectionRowsAct :
    (∃ (s : State) (k : Nat), (tileAt s k).up = true)
    ∧ (∃ (s : State) (k : Nat), (tileAt s k).present = true ∧ (tileAt s k).st = TileSt.numbered ∧ (tileAt s k).thrLoaded = true)
    ∧ (∃ (s : State) (k : Nat), (tileAt s k).present = true ∧ (tileAt s k).st = TileSt.tripped)
    ∧ (∃ (s : State) (k : Nat) (cell : Nat) (v : Int), cell < 24 ∧ (tileAt s k).present = true ∧ (tileAt s k).st = TileSt.armed
      ∧ cmpCrosses (tileAt s k) cell true v = true)
    ∧ (∃ (s : State) (k : Nat) (cell : Nat) (v : Int), cell < 24 ∧ (tileAt s k).present = true ∧ (tileAt s k).st = TileSt.armed
      ∧ cmpCrosses (tileAt s k) cell false v = true)
    ∧ (∃ (s : State) (k : Nat), (tileAt s k).st ≠ TileSt.armed)
    ∧ (∃ (s : State) (k : Nat), (tileAt s k).present = true)
    ∧ (∃ (s : State) (k : Nat) (stack : Nat), (tileAt s k).st = TileSt.sleep ∧ (tileAt s k).present = true ∧ stack < 3000)
    ∧ (∃ (s : State) (k : Nat) (stack : Nat), k < s.tiles.length ∧ (tileAt s k).st = TileSt.sleep ∧ (tileAt s k).present = true ∧ 3000 ≤ stack)
    ∧ (∃ (s : State) (k : Nat) (stack : Nat), k < s.tiles.length ∧ (tileAt s k).st = TileSt.sleep ∧ (tileAt s k).present = false ∧ 3000 ≤ stack) :=
  ⟨⟨upCh, 3, by decide +kernel⟩,
   ⟨ti upCh 3 (fun t => { t with thrLoaded := true }), 3, by decide +kernel⟩,
   ⟨ti upCh 3 (fun t => { t with st := .tripped }), 3, by decide +kernel⟩,
   ⟨ti upCh 3 (fun t => { t with st := .armed, ovThr := 42500, uvThr := 25000, tapValid := false }), 3, 23, 425100, by decide +kernel⟩,
   ⟨ti upCh 3 (fun t => { t with st := .armed, ovThr := 42500, uvThr := 25000 }), 3, 23, 200000, by decide +kernel⟩,
   ⟨upCh, 3, by decide +kernel⟩,
   ⟨upCh, 3, by decide +kernel⟩,
   ⟨ti upCh 3 (fun t => { t with st := .sleep }), 3, 2999, by decide +kernel⟩,
   ⟨ti upCh 3 (fun t => { t with st := .sleep }), 3, 3000, by decide +kernel⟩,
   ⟨ti upCh 3 (fun t => { t with st := .sleep, present := false }), 3, 3000, by decide +kernel⟩⟩

theorem test_wit_TileMeasurementRowsAct :
    (∃ (s : State) (k : Nat) (si : StrobeIn), (tileAt s k).numbered = true ∧ si.within5us = false)
    ∧ (∃ (s : State) (k : Nat) (si : StrobeIn), ((tileAt s k).numbered = false ∨ si.within5us = true))
    ∧ (∃ (s : State) (k : Nat), (tileAt s k).up = true)
    ∧ (∃ (s : State), (s.tiles.any fun t => t.numbered && t.owEn) = true) :=
  ⟨⟨upCh, 3, { fromX3 := false, arriveNs := 0, within5us := false, volts := [], diode := 0, stack := 0, refDev := 0 }, by decide +kernel⟩,
   ⟨upCh, 3, { fromX3 := false, arriveNs := 0, within5us := true, volts := [], diode := 0, stack := 0, refDev := 0 }, by decide +kernel⟩,
   ⟨upCh, 3, by decide +kernel⟩,
   ⟨ti upCh 3 (fun t => { t with owEn := true }), by decide +kernel⟩⟩

theorem test_wit_ConversionsSaturate :
    (∃ (v : Int), 0 ≤ v ∧ v ≤ 524287)
    ∧ (∃ (v : Int), v < 0)
    ∧ (∃ (v : Int), 524287 < v)
    ∧ (∃ (v : Int), 0 ≤ v ∧ v ≤ 2400000)
    ∧ (∃ (v : Int), -2400000 ≤ v ∧ v ≤ 2400000)
    ∧ (∃ (nv : Int), 62500000 ≤ nv) :=
  ⟨⟨524287, by decide +kernel⟩,
   ⟨-1, by decide +kernel⟩,
   ⟨524288, by decide +kernel⟩,
   ⟨2400000, by decide +kernel⟩,
   ⟨-2400000, by decide +kernel⟩,
   ⟨62500000, by decide +kernel⟩⟩

theorem test_wit_BleedingRowsAct :
    (∃ (s : State) (k : Nat) (cell : Nat), (tileAt s k).timers.getD cell 0 = 0)
    ∧ (∃ (s : State) (k : Nat), (tileAt s k).up = true) :=
  ⟨⟨upCh, 3, 23, by decide +kernel⟩,
   ⟨upCh, 3, by decide +kernel⟩⟩

theorem test_wit_ATileRunsAtMostTwelveTimers :
    (∃ (t : Tile), t.tmrPtr < 24 ∧ t.timers.length = 24 ∧ (List.filter (fun x => decide (x ≠ 0)) t.timers).length ≤ 12)
    ∧ (∃ (t : Tile) (v : Nat), t.tmrPtr < 24 ∧ t.timers.length = 24 ∧ (List.filter (fun x => decide (x ≠ 0)) t.timers).length ≤ 12
      ∧ (tileTimerWr t v).rejCnt ≠ t.rejCnt) :=
  ⟨⟨tileAt upCh 3, by decide +kernel⟩,
   ⟨{ tileAt upCh 3 with timers := List.replicate 12 1 ++ List.replicate 12 0, tmrPtr := 23 }, 5, by decide +kernel⟩⟩

theorem test_wit_ChainRowsAct :
    (∃ (s : State) (k : Nat), bitOf (s.chain.readA ||| s.chain.readB) (tileAt s k).pos = true)
    ∧ (∃ (s : State) (k : Nat), bitOf (s.chain.readA ||| s.chain.readB) (tileAt s k).pos = false ∧ commands s = true)
    ∧ (∃ (s : State) (k : Nat), (tileAt s k).up = true ∧ reached s k = true)
    ∧ (∃ (s : State) (k : Nat), (tileAt s k).up = true)
    ∧ (∃ (s : State) (k : Nat), (tileAt s k).up = true ∧ commands s = true)
    ∧ (∃ (s : State) (k : Nat) (b : Bool), (tileAt s k).up = true ∧ (tileAt s k).numbered = true ∧ portReach s b k = true ∧ commands s = true)
    ∧ (∃ (s : State), flag s R.CHAIN_STATUS_RUN = true ∧ blocksUp s = true ∧ commands (enumPass s false).1 = true)
    ∧ (∃ (s : State), flag s R.CHAIN_STATUS_RUN = true ∧ blocksUp s = true ∧ commands (enumPass s true).1 = true)
    ∧ (∃ (s : State) (b : Bool), flag s R.CHAIN_STATUS_RUN = true ∧ blocksUp s = true ∧ commands (enumPass s b).1 = false)
    ∧ (∃ (s : State) (k : Nat) (b : Bool), (tileAt s k).numbered = true ∧ portReach s b k = true)
    ∧ (∃ (s : State) (k : Nat) (b : Bool), portReach s b k = false)
    ∧ (∃ (k : Nat), k < 24)
    ∧ (∃ (k : Nat), 24 ≤ k)
    ∧ (∃ (s : State) (k : Nat), k < 24 ∧ (tileAt s k).up = true)
    ∧ (∃ (s : State), flag s R.CHAIN_STATUS_RUN = true)
    ∧ (∃ (s : State), flag s R.CHAIN_STATUS_RING_CLOSED = true)
    ∧ (∃ (s : State), flag s R.CHAIN_STATUS_RING_CLOSED = false)
    ∧ (∃ (s : State), flag s R.CHAIN_STATUS_RUN = true ∧ flag s R.CHAIN_STATUS_RING_CLOSED = false ∧ probeWhole s = true)
    ∧ (∃ (s : State), probeWhole s = false)
    ∧ (∃ (s : State), flag s R.CHAIN_STATUS_RUN = true ∧ commands s = true ∧ dlyWanted s = true)
    ∧ (∃ (s : State), dlyWanted s = false)
    ∧ (∃ (s : State), flag s R.CHAIN_STATUS_RUN = true ∧ blocksUp s = true) :=
  ⟨⟨{ (upCh) with chain := { up.chain with readA := 8 } }, 3, by decide +kernel⟩,
   ⟨upCh, 3, by decide +kernel⟩,
   ⟨upCh, 3, by decide +kernel⟩,
   ⟨upCh, 3, by decide +kernel⟩,
   ⟨upCh, 3, by decide +kernel⟩,
   ⟨upCh, 3, false, by decide +kernel⟩,
   ⟨upCh, by decide +kernel⟩,
   ⟨upCh, by decide +kernel⟩,
   ⟨wr upCh R.RED_STATUS_ROLE roleFenced, false, by decide +kernel⟩,
   ⟨upCh, 3, false, by decide +kernel⟩,
   ⟨ti (ti upCh 2 (fun t => { t with st := .sleep })) 4 (fun t => { t with st := .sleep }), 3, false, by decide +kernel⟩,
   ⟨23, by decide +kernel⟩,
   ⟨24, by decide +kernel⟩,
   ⟨upCh, 23, by decide +kernel⟩,
   ⟨upCh, by decide +kernel⟩,
   ⟨upCh, by decide +kernel⟩,
   ⟨up, by decide +kernel⟩,
   ⟨{ (it (put upCh R.CHAIN_STATUS_RING_CLOSED false) 12 1 (by8 [24])) with chain := { up.chain with probeA := 2 ^ 24 - 1 } }, by decide +kernel⟩,
   ⟨upCh, by decide +kernel⟩,
   ⟨{ (upCh) with chain := { up.chain with dlyDue := true } }, by decide +kernel⟩,
   ⟨{ (upCh) with chain := { up.chain with dlyDue := false, dlyAt := 0 } }, by decide +kernel⟩,
   ⟨upCh, by decide +kernel⟩⟩

theorem test_wit_SweepRowsAct :
    (∃ (s : State), flag s R.MEAS_STATUS_RUN = true ∧ blocksUp s = true)
    ∧ (∃ (s : State), sweepWhole s = true)
    ∧ (∃ (s : State), sweepWhole s = false) :=
  ⟨⟨upCh, by decide +kernel⟩,
   ⟨{ (upCh) with chain := { up.chain with asm := some { Sweep.none with slots := List.replicate 24 (some []) } } }, by decide +kernel⟩,
   ⟨upCh, by decide +kernel⟩⟩

theorem test_wit_ChainCommandsAct :
    (∃ (s : State) (e : Entry) (k : Nat), Goes s 12 64 e ∧ flag s R.CHAIN_STATUS_RUN = true ∧ tileByPos s (e.arg0 % 32) = some k)
    ∧ (∃ (s : State) (e : Entry), Goes s 12 64 e ∧ flag s R.CHAIN_STATUS_RUN = true ∧ tileByPos s (e.arg0 % 32) = none)
    ∧ (∃ (s : State) (e : Entry), Goes s 12 65 e ∧ flag s R.CHAIN_STATUS_RUN = true)
    ∧ (∃ (s : State) (e : Entry), Goes s 12 66 e ∧ flag s R.CHAIN_STATUS_RUN = true)
    ∧ (∃ (s : State) (e : Entry), Goes s 12 67 e ∧ flag s R.CHAIN_STATUS_RUN = true)
    ∧ (∃ (s : State) (e : Entry), flag s R.CHAIN_STATUS_RUN = false ∧ Goes s 12 64 e)
    ∧ (∃ (s : State) (e : Entry), flag s R.CHAIN_STATUS_RUN = false ∧ Goes s 12 65 e)
    ∧ (∃ (s : State) (e : Entry), flag s R.CHAIN_STATUS_RUN = false ∧ Goes s 12 66 e)
    ∧ (∃ (s : State) (e : Entry), flag s R.CHAIN_STATUS_RUN = false ∧ Goes s 12 67 e) :=
  ⟨⟨qe (upCh) 12 (en 64), en 64, 0, by decide +kernel⟩,
   ⟨qe (fl (up) [R.CHAIN_STATUS_RUN]) 12 (en 64), en 64, by decide +kernel⟩,
   ⟨qe (upCh) 12 (en 65), en 65, by decide +kernel⟩,
   ⟨qe (upCh) 12 (en 66), en 66, by decide +kernel⟩,
   ⟨qe (upCh) 12 (en 67), en 67, by decide +kernel⟩,
   ⟨qe (up) 12 (en 64), en 64, by decide +kernel⟩,
   ⟨qe (up) 12 (en 65), en 65, by decide +kernel⟩,
   ⟨qe (up) 12 (en 66), en 66, by decide +kernel⟩,
   ⟨qe (up) 12 (en 67), en 67, by decide +kernel⟩⟩

theorem test_wit_MeasRowsAct :
    (∃ (s : State) (e : Entry), Goes s 7 64 e ∧ memBad s e.addr e.len = false ∧ (let hdr := memBytes s e.addr e.len; ((fieldAt hdr 0 1 = 1 → carrierOn s = true))))
    ∧ (∃ (s : State) (e : Entry), Goes s 7 64 e ∧ memBad s e.addr e.len = true)
    ∧ (∃ (s : State) (e : Entry), Goes s 7 65 e)
    ∧ (∃ (s : State), flag s R.MEAS_STATUS_RUN = true)
    ∧ (∃ (s : State) (qp : Nat) (e : Entry), 8 ≤ qp ∧ qp ≤ 11 ∧ Goes s qp 64 e ∧ memBad s e.addr e.len = false)
    ∧ (∃ (s : State), carrierOn s = false ∧ onCarrier s = true ∧ flag s R.MEAS_STATUS_CARRIER_ABSENT = false)
    ∧ (∃ (s : State), carrierOn s = true ∧ onCarrier s = true)
    ∧ (∃ (s : State), onCarrier s = true ∧ carrierOn s = true) :=
  ⟨⟨qe (memWrite (it up 7 1 (by8 [1])) 0x1000 (lay 32 [(0, 1, 2), (2, 2, 1), (4, 4, 100000000)])) 7 ({ en 0x40 with len := 32, snap := [lay 8 []] }), { en 0x40 with len := 32, snap := [lay 8 []] }, by decide +kernel⟩,
   ⟨qe ({ up with memErr := [0x1000] }) 7 ({ en 0x40 with len := 32 }), { en 0x40 with len := 32 }, by decide +kernel⟩,
   ⟨qe (upCh) 7 (en 65), en 65, by decide +kernel⟩,
   ⟨upCh, by decide +kernel⟩,
   ⟨qe (upCh) 11 (en 64), 11, en 64, by decide +kernel⟩,
   ⟨{ (upCh) with meas := { up.meas with table := some { base := 1, cycleNs := 0, anchor := 0, entries := [(1, 0)] } } }, by decide +kernel⟩,
   ⟨{ (fl (upCh) [R.PWM_STATUS_ARMED]) with meas := { up.meas with table := some { base := 1, cycleNs := 0, anchor := 0, entries := [(1, 0)] } } }, by decide +kernel⟩,
   ⟨{ (fl (upCh) [R.PWM_STATUS_ARMED]) with meas := { up.meas with table := some { base := 1, cycleNs := 0, anchor := 0, entries := [(1, 0)] } } }, by decide +kernel⟩⟩

theorem test_wit_HvmRowsAct :
    (∃ (s : State), flag s R.HVM_STATUS_RUN = true)
    ∧ (∃ (s : State), s.hvm.iso = IsoPhase.p0)
    ∧ (∃ (s : State), s.hvm.iso = IsoPhase.p1 ∧ s.hvm.vc.length < 3)
    ∧ (∃ (s : State), s.hvm.iso = IsoPhase.p2 ∧ s.hvm.vc.length < 3)
    ∧ (∃ (s : State), s.hvm.iso ≠ IsoPhase.idle ∧ (3 ≤ s.hvm.vc.length ∨ s.hvm.isoLow = true))
    ∧ (∃ (s : State), s.hvm.iso = IsoPhase.idle ∧ flag s R.HVM_STATUS_RUN = true ∧ s.cfgPend = [] ∧ 1 < cfgU s 13 2 1 1
      ∧ flag s R.PTP_STATUS_ACQ = true ∧ inSlot s = true ∧ commands s = true ∧ cfgU s 13 2 0 1 = 1)
    ∧ (∃ (s : State), s.hvm.iso = IsoPhase.idle ∧ flag s R.HVM_STATUS_RUN = true ∧ s.cfgPend = [] ∧ cfgU s 13 2 1 1 ≤ 1 ∧ commands s = true ∧ cfgU s 13 2 0 1 = 1) :=
  ⟨⟨fl (up) [R.HVM_STATUS_RUN], by decide +kernel⟩,
   ⟨{ up with hvm := { up.hvm with iso := .p0, vc := List.replicate 0 (0, false, 0) } }, by decide +kernel⟩,
   ⟨{ up with hvm := { up.hvm with iso := .p1, vc := List.replicate 2 (0, false, 0) } }, by decide +kernel⟩,
   ⟨{ up with hvm := { up.hvm with iso := .p2, vc := List.replicate 2 (0, false, 0) } }, by decide +kernel⟩,
   ⟨{ up with hvm := { up.hvm with iso := .p2, vc := List.replicate 3 (0, false, 0) } }, by decide +kernel⟩,
   ⟨it (fl (up) [R.HVM_STATUS_RUN, R.PTP_STATUS_ACQ]) 13 2 (by8 [1, 2, 0, 0, 100, 0]), by decide +kernel⟩,
   ⟨it (fl (up) [R.HVM_STATUS_RUN, R.PTP_STATUS_ACQ]) 13 2 (by8 [1, 1, 0, 0, 100, 0]), by decide +kernel⟩⟩

theorem test_wit_BalRowsAct :
    (∃ (s : State) (e : Entry), Goes s 14 64 e ∧ flag s R.BAL_STATUS_RUN = true ∧ flag s R.BAL_STATUS_CAL_RUN = false ∧ memBad s e.addr e.len = false
      ∧ (let wants := fun i => List.map (fun j => fieldAt (memBytes s e.addr e.len) (48 * i + 2 * j) 2) (List.range 24); (∀ x ∈ (maskList e.arg0).zipIdx, nonZero (timersWanted (posTile s x.1).timers (wants x.2)) ≤ 12)
      ∧ ((cfgU s 14 1 0 1 = 1 → ∀ x ∈ (maskList e.arg0).zipIdx, (tileByPos s x.1).isSome = true → (posTile s x.1).tapValid = true))))
    ∧ (∃ (s : State) (e : Entry) (p : Nat), Goes s 14 64 e ∧ flag s R.BAL_STATUS_RUN = true ∧ flag s R.BAL_STATUS_CAL_RUN = false
      ∧ memBad s e.addr e.len = false ∧ maskList e.arg0 = [p]
      ∧ (let want := List.map (fun j => fieldAt (memBytes s e.addr e.len) (2 * j) 2) (List.range 24); 12 < nonZero (timersWanted (posTile s p).timers want)))
    ∧ (∃ (s : State) (e : Entry) (p : Nat), Goes s 14 64 e ∧ flag s R.BAL_STATUS_RUN = true ∧ flag s R.BAL_STATUS_CAL_RUN = false
      ∧ memBad s e.addr e.len = false ∧ maskList e.arg0 = [p]
      ∧ (let want := List.map (fun j => fieldAt (memBytes s e.addr e.len) (2 * j) 2) (List.range 24); nonZero (timersWanted (posTile s p).timers want) ≤ 12
      ∧ cfgU s 14 1 0 1 = 1 ∧ (tileByPos s p).isSome = true ∧ (posTile s p).tapValid = false ∧ ((∃ v ∈ want, v ≠ 0 ∧ v ≠ 65535))))
    ∧ (∃ (s : State) (e : Entry), Goes s 14 65 e ∧ flag s R.BAL_STATUS_RUN = true ∧ flag s R.BAL_STATUS_CAL_RUN = false)
    ∧ (∃ (s : State) (e : Entry), Goes s 14 66 e ∧ flag s R.BAL_STATUS_RUN = true)
    ∧ (∃ (s : State) (e : Entry) (i : Int), Goes s 14 67 e ∧ flag s R.BAL_STATUS_RUN = true ∧ flag s R.BAL_STATUS_CAL_RUN = false
      ∧ i.natAbs ≤ cfgU s 14 1 4 2 ∧ measFast s = true ∧ ((∀ p ∈ reachedMask s e.arg0, cellsInCal (posTile s p) = true ∧ (posTile s p).active = 0)))
    ∧ (∃ (s : State) (e : Entry) (i : Int), Goes s 14 67 e ∧ flag s R.BAL_STATUS_RUN = true ∧ flag s R.BAL_STATUS_CAL_RUN = false
      ∧ ((cfgU s 14 1 4 2 < i.natAbs ∨ measFast s = false ∨ ∃ p ∈ reachedMask s e.arg0, cellsInCal (posTile s p) = false ∨ (posTile s p).active ≠ 0)))
    ∧ (∃ (s : State) (e : Entry), flag s R.BAL_STATUS_RUN = false ∧ Goes s 14 64 e)
    ∧ (∃ (s : State) (e : Entry), flag s R.BAL_STATUS_RUN = false ∧ Goes s 14 65 e)
    ∧ (∃ (s : State) (e : Entry), flag s R.BAL_STATUS_RUN = false ∧ Goes s 14 66 e)
    ∧ (∃ (s : State) (e : Entry), flag s R.BAL_STATUS_RUN = false ∧ Goes s 14 67 e)
    ∧ (∃ (s : State) (im : Nat) (lo : Nat) (hi : Nat) (m : Nat), s.bal.calMask = some m ∧ calHeld s m im lo hi = false)
    ∧ (∃ (s : State) (im : Nat) (lo : Nat) (hi : Nat) (m : Nat), s.bal.calMask = some m ∧ calHeld s m im lo hi = true)
    ∧ (∃ (s : State), s.bal.calMask = none)
    ∧ (∃ (s : State), flag s R.BAL_STATUS_RUN = true ∧ commands s = true ∧ fullUp s = true) :=
  ⟨⟨qe (fl (upCh) [R.BAL_STATUS_RUN]) 14 (en 64), en 64, by decide +kernel⟩,
   ⟨qe (memWrite (fl (upCh) [R.BAL_STATUS_RUN]) 0x1000 (by8 (List.replicate 26 1))) 14 ({ en 0x40 with arg0 := 8, len := 48 }), { en 0x40 with arg0 := 8, len := 48 }, 3, by decide +kernel⟩,
   ⟨qe (memWrite (it (fl (upCh) [R.BAL_STATUS_RUN]) 14 1 (by8 [1])) 0x1000 (by8 [1])) 14 ({ en 0x40 with arg0 := 8, len := 48 }), { en 0x40 with arg0 := 8, len := 48 }, 3, by decide +kernel⟩,
   ⟨qe (fl (upCh) [R.BAL_STATUS_RUN]) 14 (en 65), en 65, by decide +kernel⟩,
   ⟨qe (fl (upCh) [R.BAL_STATUS_RUN]) 14 (en 66), en 66, by decide +kernel⟩,
   ⟨qe (fl (upCh) [R.BAL_STATUS_RUN]) 14 (en 67), en 67, 0, by decide +kernel⟩,
   ⟨qe (fl (upCh) [R.BAL_STATUS_RUN]) 14 (en 67), en 67, 100000, by decide +kernel⟩,
   ⟨qe (upCh) 14 (en 64), en 64, by decide +kernel⟩,
   ⟨qe (upCh) 14 (en 65), en 65, by decide +kernel⟩,
   ⟨qe (upCh) 14 (en 66), en 66, by decide +kernel⟩,
   ⟨qe (upCh) 14 (en 67), en 67, by decide +kernel⟩,
   ⟨{ upCh with bal := { up.bal with calMask := some 1 } }, 0, 249999, 450000, 1, by decide +kernel⟩,
   ⟨{ upCh with bal := { up.bal with calMask := some 1 } }, 0, 250000, 450000, 1, by decide +kernel⟩,
   ⟨upCh, by decide +kernel⟩,
   ⟨fl (upCh) [R.BAL_STATUS_RUN], by decide +kernel⟩⟩

theorem test_wit_EstTimedRowsAct :
    (∃ (s : State) (w : EstWin) (i : Int) (alt : Bool), flag s R.EST_STATUS_RUN = true ∧ fullUp s = true ∧ s.est.input = some w ∧ estCurrent s w = some (i, alt))
    ∧ (∃ (s : State) (w : EstWin), flag s R.EST_STATUS_RUN = true ∧ fullUp s = true ∧ s.est.input = some w ∧ estCurrent s w = none)
    ∧ (∃ (s : State), flag s R.EST_STATUS_RUN = true)
    ∧ (∃ (s : State), flag s R.EST_STATUS_RUN = false)
    ∧ (∃ (s : State), flag s R.EST_STATUS_RUN = true ∧ cfgU s 15 1 24 2 ≠ 0 ∧ storTakes s = true)
    ∧ (∃ (s : State), flag s R.EST_STATUS_RUN = true ∧ cfgU s 15 1 24 2 ≠ 0 ∧ storTakes s = false)
    ∧ (∃ (s : State) (ch : Chem), flag s R.EST_STATUS_RUN = true ∧ fullUp s = true ∧ s.est.chem = some ch) :=
  ⟨⟨{ (fl (up) [R.EST_STATUS_RUN]) with est := { up.est with input := some { snum := 1, t := 0, ticks := 0, vals := [], iShunt := (5, 1), iHall := (0, 0), vStr := (0, 0), startup := false } } }, { snum := 1, t := 0, ticks := 0, vals := [], iShunt := (5, 1), iHall := (0, 0), vStr := (0, 0), startup := false }, 5, false, by decide +kernel⟩,
   ⟨{ (fl (up) [R.EST_STATUS_RUN]) with est := { up.est with input := some { snum := 1, t := 0, ticks := 0, vals := [], iShunt := (0, 0), iHall := (0, 0), vStr := (0, 0), startup := false } } }, { snum := 1, t := 0, ticks := 0, vals := [], iShunt := (0, 0), iHall := (0, 0), vStr := (0, 0), startup := false }, by decide +kernel⟩,
   ⟨fl (up) [R.EST_STATUS_RUN], by decide +kernel⟩,
   ⟨up, by decide +kernel⟩,
   ⟨it (fl (up) [R.EST_STATUS_RUN]) 15 1 (List.replicate 24 0 ++ [1]), by decide +kernel⟩,
   ⟨put (it (fl (up) [R.EST_STATUS_RUN]) 15 1 (List.replicate 24 0 ++ [1])) R.STOR_STATUS_READY false, by decide +kernel⟩,
   ⟨{ (fl (up) [R.EST_STATUS_RUN]) with est := { up.est with chem := some chem0 } }, chem0, by decide +kernel⟩⟩

theorem test_wit_EstCommandsAct :
    (∃ (s : State) (e : Entry), Goes s 15 64 e ∧ storTakes s = true ∧ cfgItem s 15 2 ≠ [] ∧ cfgItem s 15 3 ≠ [] ∧ cfgItem s 15 4 ≠ [])
    ∧ (∃ (s : State) (e : Entry), Goes s 15 64 e ∧ storTakes s = true ∧ (cfgItem s 15 2 = [] ∨ cfgItem s 15 3 = [] ∨ cfgItem s 15 4 = []))
    ∧ (∃ (s : State) (e : Entry), Goes s 15 64 e ∧ storTakes s = false)
    ∧ (∃ (s : State) (e : Entry), Goes s 15 65 e ∧ flag s R.EST_STATUS_RUN = true)
    ∧ (∃ (s : State) (e : Entry), Goes s 15 66 e ∧ flag s R.EST_STATUS_RUN = true ∧ storTakes s = true)
    ∧ (∃ (s : State) (e : Entry), Goes s 15 66 e ∧ flag s R.EST_STATUS_RUN = true ∧ storTakes s = false)
    ∧ (∃ (s : State) (e : Entry), flag s R.EST_STATUS_RUN = false ∧ Goes s 15 65 e)
    ∧ (∃ (s : State) (e : Entry), flag s R.EST_STATUS_RUN = false ∧ Goes s 15 66 e) :=
  ⟨⟨qe (it (it (it up 15 2 hdr2) 15 3 ocv0) 15 4 par0) 15 (en 64), en 64, by decide +kernel⟩,
   ⟨qe (fl (up) [R.EST_STATUS_RUN]) 15 (en 64), en 64, by decide +kernel⟩,
   ⟨qe (put up R.STOR_STATUS_READY false) 15 (en 64), en 64, by decide +kernel⟩,
   ⟨qe (fl (up) [R.EST_STATUS_RUN]) 15 (en 65), en 65, by decide +kernel⟩,
   ⟨qe (fl (up) [R.EST_STATUS_RUN]) 15 (en 66), en 66, by decide +kernel⟩,
   ⟨qe (put (fl (up) [R.EST_STATUS_RUN]) R.STOR_STATUS_READY false) 15 (en 66), en 66, by decide +kernel⟩,
   ⟨qe (up) 15 (en 65), en 65, by decide +kernel⟩,
   ⟨qe (up) 15 (en 66), en 66, by decide +kernel⟩⟩

theorem test_wit_EisRowsAct :
    (∃ (s : State) (p : List Byte), s.eis.plan = some p ∧ s.eis.segDue = true)
    ∧ (∃ (s : State), s.eis.segDue = false)
    ∧ (∃ (s : State), (eisSegEnd s).eis.intDue = true ∧ s.eis.plan.isSome = true)
    ∧ (∃ (s : State), (eisSegEnd s).eis.intDue = false)
    ∧ (∃ (s : State), flag s R.EIS_STATUS_HELD = true ∧ s.eis.on = true ∧ s.eis.plan.isSome = true)
    ∧ (∃ (s : State), flag s R.EIS_STATUS_HELD = false)
    ∧ (∃ (s : State) (e : Entry), Goes s 18 64 e ∧ storTakes s = true ∧ cfgItem s 18 2 ≠ [] ∧ planRefused s (cfgItem s 18 2) = none
      ∧ (cfgItem s 18 3 = [] ∨ phaseOk (cfgItem s 18 3) = true)
      ∧ (let u := eisComDone (if s.eis.pend.isSome = true then finishEntry s 18 (Entry.runs 64) 68 0 0 else s) none; flag u R.EIS_STATUS_RUN = true
      ∧ s.eis.on = true))
    ∧ (∃ (s : State) (e : Entry), Goes s 18 64 e ∧ storTakes s = true ∧ cfgItem s 18 2 ≠ [] ∧ planRefused s (cfgItem s 18 2) = none
      ∧ (cfgItem s 18 3 = [] ∨ phaseOk (cfgItem s 18 3) = true)
      ∧ (let tbl := if cfgItem s 18 3 = [] then none else some (cfgItem s 18 3); (let u := eisComDone (if s.eis.pend.isSome = true then finishEntry s 18 (Entry.runs 64) 68 0 0 else s) none; (flag u R.EIS_STATUS_RUN = false ∨ s.eis.on = false)
      ∧ (let v := eisTake { pending := u.pending, regs := u.regs, bus := u.bus, shadows := u.shadows, stages := u.stages, mem := u.mem, memErr := u.memErr, qps := u.qps, power := u.power, nv := u.nv, cfg := u.cfg, cfgPend := u.cfgPend, recd := u.recd, idk := u.idk, tiles := u.tiles, chain := u.chain, meas := u.meas, hvm := u.hvm, bal := u.bal, est := u.est, eis := have __src := u.eis; { plan := __src.plan, table := __src.table, pend := none, on := __src.on, waitExc := __src.waitExc, sFirst := __src.sFirst, tFirst := __src.tFirst, tLast := __src.tLast, sLast := __src.sLast, segOn := __src.segOn, i0 := __src.i0, iLast := __src.iLast, iSubs := __src.iSubs, iBad := __src.iBad, iAcc := __src.iAcc, iKept := __src.iKept, iSii := __src.iSii, absent := __src.absent, interrupted := __src.interrupted, cells := __src.cells, ofs := __src.ofs, restAll := __src.restAll, tb0 := __src.tb0, perNs := __src.perNs, latest := __src.latest, segDue := __src.segDue, intDue := __src.intDue, peerExc := __src.peerExc, startAt := __src.startAt, comDue := __src.comDue, gain := __src.gain, apk := __src.apk, startup := __src.startup }, therm := u.therm, ctrl := u.ctrl, can := u.can, safe := u.safe, stl := u.stl, red := u.red, eth := u.eth, upd := u.upd, ptp := u.ptp, perf := u.perf, pepper := u.pepper, out := u.out, free := u.free } (cfgItem s 18 2) tbl (bitOf e.arg1 0); eisMay v = true))))
    ∧ (∃ (s : State) (e : Entry), Goes s 18 64 e ∧ storTakes s = true ∧ cfgItem s 18 2 ≠ [] ∧ planRefused s (cfgItem s 18 2) = none
      ∧ (cfgItem s 18 3 = [] ∨ phaseOk (cfgItem s 18 3) = true)
      ∧ (let tbl := if cfgItem s 18 3 = [] then none else some (cfgItem s 18 3); (let u := eisComDone (if s.eis.pend.isSome = true then finishEntry s 18 (Entry.runs 64) 68 0 0 else s) none; (flag u R.EIS_STATUS_RUN = false ∨ s.eis.on = false)
      ∧ (let v := eisTake { pending := u.pending, regs := u.regs, bus := u.bus, shadows := u.shadows, stages := u.stages, mem := u.mem, memErr := u.memErr, qps := u.qps, power := u.power, nv := u.nv, cfg := u.cfg, cfgPend := u.cfgPend, recd := u.recd, idk := u.idk, tiles := u.tiles, chain := u.chain, meas := u.meas, hvm := u.hvm, bal := u.bal, est := u.est, eis := have __src := u.eis; { plan := __src.plan, table := __src.table, pend := none, on := __src.on, waitExc := __src.waitExc, sFirst := __src.sFirst, tFirst := __src.tFirst, tLast := __src.tLast, sLast := __src.sLast, segOn := __src.segOn, i0 := __src.i0, iLast := __src.iLast, iSubs := __src.iSubs, iBad := __src.iBad, iAcc := __src.iAcc, iKept := __src.iKept, iSii := __src.iSii, absent := __src.absent, interrupted := __src.interrupted, cells := __src.cells, ofs := __src.ofs, restAll := __src.restAll, tb0 := __src.tb0, perNs := __src.perNs, latest := __src.latest, segDue := __src.segDue, intDue := __src.intDue, peerExc := __src.peerExc, startAt := __src.startAt, comDue := __src.comDue, gain := __src.gain, apk := __src.apk, startup := __src.startup }, therm := u.therm, ctrl := u.ctrl, can := u.can, safe := u.safe, stl := u.stl, red := u.red, eth := u.eth, upd := u.upd, ptp := u.ptp, perf := u.perf, pepper := u.pepper, out := u.out, free := u.free } (cfgItem s 18 2) tbl (bitOf e.arg1 0); eisMay v = false))))
    ∧ (∃ (s : State) (e : Entry) (i : Nat), Goes s 18 64 e ∧ storTakes s = true ∧ cfgItem s 18 2 ≠ [] ∧ planRefused s (cfgItem s 18 2) = some i)
    ∧ (∃ (s : State) (e : Entry), Goes s 18 64 e ∧ storTakes s = true ∧ cfgItem s 18 2 ≠ [] ∧ planRefused s (cfgItem s 18 2) = none
      ∧ cfgItem s 18 3 ≠ [] ∧ phaseOk (cfgItem s 18 3) = false)
    ∧ (∃ (s : State) (e : Entry), Goes s 18 64 e ∧ storTakes s = true ∧ cfgItem s 18 2 = [])
    ∧ (∃ (s : State) (e : Entry), Goes s 18 64 e ∧ storTakes s = false)
    ∧ (∃ (s : State), flag s R.EIS_STATUS_RUN = true ∧ cfgU s 18 1 18 2 ≠ 0 ∧ s.eis.latest ≠ [] ∧ storTakes s = true)
    ∧ (∃ (s : State), (flag s R.EIS_STATUS_RUN = false ∨ cfgU s 18 1 18 2 = 0 ∨ s.eis.latest = [] ∨ storTakes s = false)) :=
  ⟨⟨{ (up) with eis := { up.eis with plan := some [], segDue := true } }, [], by decide +kernel⟩,
   ⟨up, by decide +kernel⟩,
   ⟨{ (up) with eis := { up.eis with plan := some [], intDue := true } }, by decide +kernel⟩,
   ⟨up, by decide +kernel⟩,
   ⟨{ (fl (up) [R.EIS_STATUS_HELD]) with eis := { up.eis with on := true, plan := some [] } }, by decide +kernel⟩,
   ⟨up, by decide +kernel⟩,
   ⟨qe (it ({ (it (fl (up) [R.EIS_STATUS_RUN]) 18 2 (lay 144 [(4, 4, 1000), (8, 1, 1), (0x10, 2, 10), (0x12, 1, 1)])) with eis := { up.eis with on := true } }) 18 1 [1, 0xFF]) 18 (en 64), en 64, by decide +kernel⟩,
   ⟨qe (it (it (fl (up) [R.EIS_STATUS_RUN]) 18 2 (lay 144 [(4, 4, 1000), (8, 1, 1), (0x10, 2, 10), (0x12, 1, 1)])) 18 1 [1, 0xFF]) 18 (en 64), en 64, by decide +kernel⟩,
   ⟨qe (it (it (up) 18 2 (lay 144 [(4, 4, 1000), (8, 1, 1), (0x10, 2, 10), (0x12, 1, 1)])) 18 1 [0, 0xFF]) 18 (en 64), en 64, by decide +kernel⟩,
   ⟨qe (it (it up 18 1 [0, 0xFF]) 18 2 (lay 144 [(4, 4, 1000), (8, 1, 1), (0x10, 2, 1), (0x12, 1, 1)])) 18 (en 64), en 64, 0, by decide +kernel⟩,
   ⟨qe (it (it (it (up) 18 2 (lay 144 [(4, 4, 1000), (8, 1, 1), (0x10, 2, 10), (0x12, 1, 1)])) 18 1 [0, 0xFF]) 18 3 [1]) 18 (en 64), en 64, by decide +kernel⟩,
   ⟨qe (up) 18 (en 64), en 64, by decide +kernel⟩,
   ⟨qe (put up R.STOR_STATUS_READY false) 18 (en 64), en 64, by decide +kernel⟩,
   ⟨{ (it (fl (up) [R.EIS_STATUS_RUN]) 18 1 (List.replicate 18 0 ++ [1])) with eis := { up.eis with latest := [0] } }, by decide +kernel⟩,
   ⟨up, by decide +kernel⟩⟩

theorem test_wit_ThermRowsAct :
    (∃ (s : State), flag s R.THERM_STATUS_FAST = false)
    ∧ (∃ (s : State) (a : Nat), a < 3 ∧ actSlow s a = true ∧ bitIn s R.THERM_ACT_FAULT a = false)
    ∧ (∃ (s : State) (a : Nat), a < 3 ∧ actSlow s a = false) :=
  ⟨⟨up, by decide +kernel⟩,
   ⟨{ (it (fl up [R.THERM_STATUS_ACT_RUN]) 20 3 (lay 48 [(42, 2, 1)])) with therm := { up.therm with j10On := true } }, 2, by decide +kernel⟩,
   ⟨up, 2, by decide +kernel⟩⟩

theorem test_wit_StorageWriteWindow :
    (∃ (code : Nat), (code = 32768 ∨ 10500 < sInt 16 code ∨ sInt 16 code < -4500))
    ∧ (∃ (code : Nat), code ≠ 32768 ∧ sInt 16 code ≤ 10000 ∧ -4000 ≤ sInt 16 code)
    ∧ (∃ (code : Nat), code ≠ 32768 ∧ (10000 < sInt 16 code ∨ sInt 16 code < -4000) ∧ sInt 16 code ≤ 10500 ∧ -4500 ≤ sInt 16 code)
    ∧ (∃ (s : State) (code : Nat), (let t := writeWindow s code; flag t R.THERM_STATUS_WR_FORBID = true)) :=
  ⟨⟨10501, by decide +kernel⟩,
   ⟨10000, by decide +kernel⟩,
   ⟨10001, by decide +kernel⟩,
   ⟨up, 32768, by decide +kernel⟩⟩

theorem test_wit_HeaterRelayDwells :
    (∃ (s : State), actDriven s 3 = true ∧ s.therm.dwell = true)
    ∧ (∃ (s : State), actDriven s 3 = true ∧ s.therm.dwell = false ∧ s.therm.heater = false ∧ 5000 ≤ actDuty s 3)
    ∧ (∃ (s : State), actDriven s 3 = true ∧ s.therm.dwell = false ∧ s.therm.heater = true ∧ actDuty s 3 ≤ 2500)
    ∧ (∃ (s : State), actDriven s 3 = true ∧ s.therm.dwell = false ∧ s.therm.heater = false ∧ actDuty s 3 < 5000)
    ∧ (∃ (s : State), actDriven s 3 = true ∧ s.therm.dwell = false ∧ s.therm.heater = true ∧ 2500 < actDuty s 3)
    ∧ (∃ (s : State), actDriven s 3 = false) :=
  ⟨⟨{ (it (fl up [R.THERM_STATUS_ACT_RUN]) 20 3 (List.replicate 48 0 ++ by8 [1, 0, 0, 0])) with therm := { up.therm with j10On := true, heater := false, dwell := true } }, by decide +kernel⟩,
   ⟨{ (it (fl up [R.THERM_STATUS_ACT_RUN]) 20 3 (List.replicate 48 0 ++ by8 [1, 0, 136, 19])) with therm := { up.therm with j10On := true, heater := false } }, by decide +kernel⟩,
   ⟨{ (it (fl up [R.THERM_STATUS_ACT_RUN]) 20 3 (List.replicate 48 0 ++ by8 [1, 0, 196, 9])) with therm := { up.therm with j10On := true, heater := true } }, by decide +kernel⟩,
   ⟨{ (it (fl up [R.THERM_STATUS_ACT_RUN]) 20 3 (List.replicate 48 0 ++ by8 [1, 0, 135, 19])) with therm := { up.therm with j10On := true, heater := false } }, by decide +kernel⟩,
   ⟨{ (it (fl up [R.THERM_STATUS_ACT_RUN]) 20 3 (List.replicate 48 0 ++ by8 [1, 0, 197, 9])) with therm := { up.therm with j10On := true, heater := true } }, by decide +kernel⟩,
   ⟨up, by decide +kernel⟩⟩

theorem test_wit_ControlRowsAct :
    (∃ (s : State) (x : Lc0In), flag s R.PWM_STATUS_ARMED = true ∧ blocksUp s = true
      ∧ (let lg := legCurrents (dispStart s) x.isense; (let u := limShow (wrS lg.1 (R.LC_FB_Y 0) x.y); lcRuns u 0 = false)))
    ∧ (∃ (s : State) (x : Lc0In) (v : Int), flag s R.PWM_STATUS_ARMED = true ∧ blocksUp s = true
      ∧ (let lg := legCurrents (dispStart s) x.isense; (let u := limShow (wrS lg.1 (R.LC_FB_Y 0) x.y); lg.2 = [] ∧ lcRuns u 0 = true
      ∧ x.vLink = some v)))
    ∧ (∃ (s : State) (x : Lc0In), flag s R.PWM_STATUS_ARMED = true ∧ blocksUp s = true
      ∧ (let lg := legCurrents (dispStart s) x.isense; (let u := limShow (wrS lg.1 (R.LC_FB_Y 0) x.y); lg.2 = [] ∧ lcRuns u 0 = true
      ∧ x.vLink = none)))
    ∧ (∃ (s : State) (x : Lc0In), flag s R.PWM_STATUS_ARMED = true ∧ blocksUp s = true
      ∧ (let lg := legCurrents (dispStart s) x.isense; (let u := limShow (wrS lg.1 (R.LC_FB_Y 0) x.y); lg.2 ≠ [] ∧ lcRuns u 0 = true)))
    ∧ (∃ (s : State), (flag s R.PWM_STATUS_ARMED = false ∨ blocksUp s = false))
    ∧ (∃ (s : State), blocksUp s = true)
    ∧ (∃ (s : State) (n : Nat), n < 8 ∧ (lcAt s n).dwell = true)
    ∧ (∃ (s : State), lcRuns s 0 = true ∧ blocksUp s = true)
    ∧ (∃ (s : State), lcRuns s 0 = false)
    ∧ (∃ (s : State) (n : Nat), n < 8 ∧ lcSt s n = lcStopC ∧ (lcAt s n).failing = true)
    ∧ (∃ (s : State), flag s R.PWM_STATUS_PS_FAULT = false)
    ∧ (∃ (s : State) (leg : Nat), flag s R.PWM_STATUS_ARMED = true ∧ blocksUp s = true ∧ leg < 4) :=
  ⟨⟨fl up [R.PWM_STATUS_ARMED], { y := 0, vLink := none, isense := [] }, by decide +kernel⟩,
   ⟨wr (fl up [R.PWM_STATUS_ARMED]) (R.LC_STATE_STATE 0) 1, { y := 0, vLink := some 400000, isense := [] }, 400000, by decide +kernel⟩,
   ⟨wr (fl up [R.PWM_STATUS_ARMED]) (R.LC_STATE_STATE 0) 1, { y := 0, vLink := none, isense := [] }, by decide +kernel⟩,
   ⟨{ (it (wr (fl up [R.PWM_STATUS_ARMED]) (R.LC_STATE_STATE 0) 1) 21 4 (lay 16 [(0, 1, 4)])) with ctrl := { up.ctrl with legOc := [1, 1, 1, 1] } }, { y := 0, vLink := none, isense := [1000000, 1000000, 1000000, 1000000] }, by decide +kernel⟩,
   ⟨up, by decide +kernel⟩,
   ⟨up, by decide +kernel⟩,
   ⟨lcMod (up) 7 (fun c => { c with dwell := true }), 7, by decide +kernel⟩,
   ⟨wr (up) (R.LC_STATE_STATE 0) 2, by decide +kernel⟩,
   ⟨up, by decide +kernel⟩,
   ⟨lcMod (wr (up) (R.LC_STATE_STATE 7) 2) 7 (fun c => { c with failing := true }), 7, by decide +kernel⟩,
   ⟨up, by decide +kernel⟩,
   ⟨fl up [R.PWM_STATUS_ARMED], 3, by decide +kernel⟩⟩

theorem test_wit_ControlCommandsAct :
    (∃ (s : State) (e : Entry) (qp : Nat), 21 ≤ qp ∧ qp ≤ 28 ∧ Goes s qp 64 e ∧ lcSt s (qp - 21) = lcClosedC)
    ∧ (∃ (s : State) (e : Entry) (qp : Nat), 21 ≤ qp ∧ qp ≤ 28 ∧ Goes s qp 64 e ∧ lcSt s (qp - 21) = lcStopC)
    ∧ (∃ (s : State) (e : Entry) (qp : Nat), 21 ≤ qp ∧ qp ≤ 28 ∧ Goes s qp 64 e ∧ lcSt s (qp - 21) = lcOpenC)
    ∧ (∃ (s : State) (e : Entry) (qp : Nat), 21 ≤ qp ∧ qp ≤ 28 ∧ Goes s qp 65 e ∧ lcSrc s (qp - 21) = 0)
    ∧ (∃ (s : State) (e : Entry) (qp : Nat), 21 ≤ qp ∧ qp ≤ 28 ∧ Goes s qp 65 e ∧ lcSrc s (qp - 21) ≠ 0)
    ∧ (∃ (s : State) (e : Entry), Goes s 21 66 e ∧ memBad s e.addr e.len = false ∧ (let bs := memBytes s e.addr e.len; fieldAt bs 20 4 = 0 ∧ ptNow s ≤ fieldAt bs 8 8))
    ∧ (∃ (s : State) (e : Entry), Goes s 21 66 e ∧ memBad s e.addr e.len = false ∧ (let bs := memBytes s e.addr e.len; fieldAt bs 20 4 = 0 ∧ fieldAt bs 8 8 < ptNow s))
    ∧ (∃ (s : State) (e : Entry), Goes s 21 66 e ∧ memBad s e.addr e.len = false ∧ (let bs := memBytes s e.addr e.len; fieldAt bs 20 4 ≠ 0))
    ∧ (∃ (s : State) (e : Entry) (qp : Nat), 22 ≤ qp ∧ qp ≤ 28 ∧ Goes s qp 66 e)
    ∧ (∃ (s : State) (g : Grant), (dispStart s).ctrl.grant = some g ∧ g.expiry ≤ ptNow s)
    ∧ (∃ (s : State), (dispStart s).ctrl.grant = none)
    ∧ (∃ (s : State) (req : List Byte), dispRuns s = true ∧ fieldAt req 16 8 < ptNow s)
    ∧ (∃ (s : State) (req : List Byte), dispRuns s = true ∧ ptNow s ≤ fieldAt req 16 8)
    ∧ (∃ (s : State), dispRuns s = false) :=
  ⟨⟨qe (wr (up) (R.LC_STATE_STATE 7) 1) 28 (en 64), en 64, 28, by decide +kernel⟩,
   ⟨qe (wr (up) (R.LC_STATE_STATE 7) 2) 28 (en 64), en 64, 28, by decide +kernel⟩,
   ⟨qe (up) 28 (en 64), en 64, 28, by decide +kernel⟩,
   ⟨qe (up) 28 (en 65), en 65, 28, by decide +kernel⟩,
   ⟨qe (wr up (R.LC_CFG_REF_SRC 7) 1) 28 (en 65), en 65, 28, by decide +kernel⟩,
   ⟨qe (up) 21 (en 66), en 66, by decide +kernel⟩,
   ⟨qe ({ up with ptp := { up.ptp with pre := 2 ^ 60 } }) 21 (en 66), en 66, by decide +kernel⟩,
   ⟨qe (memWrite (up) 0x1000 (lay 24 [(20, 4, 1)])) 21 ({ en 0x42 with len := 24 }), { en 0x42 with len := 24 }, by decide +kernel⟩,
   ⟨qe (up) 28 (en 66), en 66, 28, by decide +kernel⟩,
   ⟨{ up with ctrl := { up.ctrl with grant := some { chg := 0, dis := 0, expiry := 0, setPoint := 0, asker := none, iGrant := 0, announced := 0, horizon := 0, revisedAt := none } } }, { chg := 0, dis := 0, expiry := 0, setPoint := 0, asker := none, iGrant := 0, announced := 0, horizon := 0, revisedAt := none }, by decide +kernel⟩,
   ⟨up, by decide +kernel⟩,
   ⟨{ up with upd := { up.upd with svc := [true, true] }, ptp := { up.ptp with pre := 2 ^ 60 } }, [], by decide +kernel⟩,
   ⟨{ up with upd := { up.upd with svc := [true, true] } }, [], by decide +kernel⟩,
   ⟨up, by decide +kernel⟩⟩

theorem test_wit_TheLimitIsTheSmallestTerm :
    (limTerms up true ≠ [] ∧ limTerms up false ≠ []) :=
  by decide +kernel

theorem test_wit_SafetyRowsAct :
    (∃ (s : State), blocksUp s = true)
    ∧ (∃ (s : State), blocksUp s = true ∧ flag s R.SAFE_STATUS_FOG = false ∧ latched s 0 = false)
    ∧ (∃ (s : State), blocksUp s = true ∧ flag s R.SAFE_STATUS_FOG = false ∧ latched s 0 = true)
    ∧ (∃ (s : State), flag s R.SAFE_STATUS_FOG = true)
    ∧ (∃ (s : State), blocksUp s = true ∧ flag s R.SAFE_STATUS_FOG = true ∧ (s.tiles.all fun t => !t.present || t.fog) = true)
    ∧ (∃ (s : State), (s.tiles.all fun t => !t.present || t.fog) = false)
    ∧ (∃ (s : State), flag s R.SAFE_STATUS_HOLD_WIN = false ∧ s.safe.fw = true ∧ blocksUp s = true ∧ s.cfgPend = [] ∧ s.safe.set ≠ [])
    ∧ (∃ (s : State), flag s R.SAFE_STATUS_HOLD_WIN = true)
    ∧ (∃ (s : State) (fl : List (Nat × Nat)), setCheckOk (flipBytes s.safe.set fl) = true)
    ∧ (∃ (s : State) (fl : List (Nat × Nat)), s.safe.set ≠ [] ∧ s.safe.fw = true ∧ blocksUp s = true ∧ flag s R.SAFE_STATUS_HOLD_WIN = false
      ∧ setCheckOk (flipBytes s.safe.set fl) = false)
    ∧ (∃ (s : State) (i : Nat), i < 4 ∧ blocksUp s = true)
    ∧ (∃ (s : State) (i : Nat), i < 4 ∧ blocksUp s = true ∧ siBit s i 3 = true)
    ∧ (∃ (s : State) (i : Nat), siBit s i 3 = false)
    ∧ (∃ (s : State) (n : Nat), n < 4 ∧ (soHs s n = true ∨ soLs s n = true))
    ∧ (∃ (s : State) (n : Nat), soHs s n = false ∧ soLs s n = false)
    ∧ (∃ (s : State) (n : Nat), n < 4 ∧ soOn s n = true ∧ bitOf (soDiag s n) 7 = false)
    ∧ (∃ (s : State), s.safe.seq = 1 ∧ soReqOn s 7 = true) :=
  ⟨⟨up, by decide +kernel⟩,
   ⟨put up R.SAFE_STATUS_FOG false, by decide +kernel⟩,
   ⟨wr (put up R.SAFE_STATUS_FOG false) R.SAFE_TRIP_LATCH_SRC 1, by decide +kernel⟩,
   ⟨fl (up) [R.SAFE_STATUS_FOG], by decide +kernel⟩,
   ⟨{ (fl (up) [R.SAFE_STATUS_FOG]) with tiles := [] }, by decide +kernel⟩,
   ⟨upCh, by decide +kernel⟩,
   ⟨upSafe, by decide +kernel⟩,
   ⟨fl (up) [R.SAFE_STATUS_HOLD_WIN], by decide +kernel⟩,
   ⟨upSafe, [], by show setCheckOk set0 = true; exact set0_check⟩,
   ⟨{ upSafe with safe := { upSafe.safe with set := [0] } }, [], by decide +kernel⟩,
   ⟨up, 3, by decide +kernel⟩,
   ⟨wr up (R.SAFE_SI_STAT_STAT 3) 8, 3, by decide +kernel⟩,
   ⟨up, 3, by decide +kernel⟩,
   ⟨fl (up) [R.SAFE_SO_STAT_HS 3], 3, by decide +kernel⟩,
   ⟨up, 3, by decide +kernel⟩,
   ⟨wr up R.SAFE_STATUS_SO_ON 8, 3, by decide +kernel⟩,
   ⟨{ (wr upSafe R.SAFE_STATUS_SO_ON 1) with safe := { upSafe.safe with seq := 1 } }, by decide +kernel⟩⟩

theorem test_wit_OutputRowsAct :
    (∃ (s : State) (n : Nat), n < 4 ∧ permitNow s n = true ∧ requestNow s n = true ∧ s.safe.offOk.getD n false = true ∧ soHs s n = false
      ∧ soLs s n = false ∧ blocksUp s = true)
    ∧ (∃ (s : State) (n : Nat), (permitNow s n = false ∨ requestNow s n = false))
    ∧ (∃ (s : State) (n : Nat), n < 4 ∧ permitNow s n = true ∧ requestNow s n = true ∧ soLs s n = true ∧ soHs s n = false ∧ soOn s n = false ∧ blocksUp s = true)
    ∧ (∃ (s : State) (n : Nat), n < 4 ∧ (permitNow s n = false ∨ requestNow s n = false))
    ∧ (∃ (s : State) (n : Nat), permitNow s n = true ∧ requestNow s n = true)
    ∧ (∃ (s : State) (j : Nat), j < 8 ∧ blocksUp s = true ∧ soOn s (j % 4) = true ∧ soHs s (j % 4) = true ∧ soLs s (j % 4) = true
      ∧ flag s R.SAFE_STATUS_HOLD_WIN = false ∧ s.safe.test = none ∧ flag s R.SAFE_STATUS_SEQ_RUN = false)
    ∧ (∃ (s : State) (j : Nat) (y : Bool), j < 8 ∧ blocksUp s = true ∧ soOn s (j % 4) = true ∧ soHs s (j % 4) = true ∧ soLs s (j % 4) = true
      ∧ (y = true ∨ flag s R.SAFE_STATUS_HOLD_WIN = true ∨ s.safe.test.isSome = true))
    ∧ (∃ (s : State) (n : Nat) (low : Bool) (ma : Nat) (pin : Int) (mv : Int), s.safe.test = some (n, low) ∧ ma ≤ 5 ∧ (setPair s = true ∨ low = true
      ∧ mv - 2000 ≤ pin ∨ low = false ∧ pin ≤ 2000))
    ∧ (∃ (s : State) (n : Nat) (low : Bool) (ma : Nat) (pin : Int) (mv : Int), s.safe.test = some (n, low) ∧ (5 < ma ∨ setPair s = false ∧ low = true
      ∧ pin < mv - 2000 ∨ setPair s = false ∧ low = false ∧ 2000 < pin))
    ∧ (∃ (s : State) (n : Nat) (low : Bool), s.safe.test = some (n, low))
    ∧ (∃ (s : State), s.safe.seq = 0 ∧ preMain s = (true, true) ∧ startReq s = true ∧ follows s = false ∧ s.safe.fw = true)
    ∧ (∃ (s : State), s.safe.seq = 1 ∧ soReqOn s 7 = true ∧ (s.hvm.vStr - s.hvm.vLink).natAbs ≤ setU s 144 4)
    ∧ (∃ (s : State), setU s 144 4 < (s.hvm.vStr - s.hvm.vLink).natAbs)
    ∧ (∃ (s : State), s.safe.seq = 2 ∧ soReqOn s 8 = true)
    ∧ (∃ (s : State), s.safe.seq ≠ 0 ∧ startReq s = false)
    ∧ (∃ (s : State), startReq s = true)
    ∧ (∃ (s : State), startReq s = true ∧ s.safe.seq ≠ 0) :=
  ⟨⟨upSafe, 3, by decide +kernel⟩,
   ⟨up, 3, by decide +kernel⟩,
   ⟨fl upSafe [R.SAFE_SO_STAT_LS 3], 3, by decide +kernel⟩,
   ⟨up, 3, by decide +kernel⟩,
   ⟨upSafe, 3, by decide +kernel⟩,
   ⟨wr (fl upSafe [R.SAFE_SO_STAT_LS 3, R.SAFE_SO_STAT_HS 3]) R.SAFE_STATUS_SO_ON 8, 7, by decide +kernel⟩,
   ⟨wr (fl upSafe [R.SAFE_SO_STAT_LS 3, R.SAFE_SO_STAT_HS 3]) R.SAFE_STATUS_SO_ON 8, 7, true, by decide +kernel⟩,
   ⟨{ up with safe := { up.safe with test := some (3, true) } }, 3, true, 5, 22000, 24000, by decide +kernel⟩,
   ⟨{ up with safe := { up.safe with test := some (3, true) } }, 3, true, 6, 22000, 24000, by decide +kernel⟩,
   ⟨{ up with safe := { up.safe with test := some (3, true) } }, 3, true, by decide +kernel⟩,
   ⟨{ (upSafe) with safe := { upSafe.safe with edgeReq := true } }, by decide +kernel⟩,
   ⟨{ (wr upSafe R.SAFE_STATUS_SO_ON 1) with safe := { upSafe.safe with seq := 1 } }, by decide +kernel⟩,
   ⟨{ up with hvm := { up.hvm with vStr := 5001 } }, by decide +kernel⟩,
   ⟨{ (wr upSafe R.SAFE_STATUS_SO_ON 2) with safe := { upSafe.safe with seq := 2 } }, by decide +kernel⟩,
   ⟨{ (upSafe) with safe := { upSafe.safe with seq := 2 } }, by decide +kernel⟩,
   ⟨{ (upSafe) with safe := { upSafe.safe with edgeReq := true } }, by decide +kernel⟩,
   ⟨{ (upSafe) with safe := { upSafe.safe with edgeReq := true, seq := 1 } }, by decide +kernel⟩⟩

theorem test_wit_SafetyResetRowsAct :
    (∃ (s : State), blocksUp s = true ∧ flag s R.SAFE_RST_LEVEL = false)
    ∧ (∃ (s : State), flag s R.SAFE_RST_LEVEL = true)
    ∧ (∃ (s : State) (k : Nat), blocksUp s = true ∧ flag s R.SAFE_RST_HIGH_RUN = true ∧ k < 10000)
    ∧ (∃ (s : State) (k : Nat), blocksUp s = true ∧ flag s R.SAFE_RST_HIGH_RUN = true ∧ 200000 < k)
    ∧ (∃ (s : State) (k : Nat), blocksUp s = true ∧ flag s R.SAFE_RST_HIGH_RUN = true ∧ 10000 ≤ k ∧ k ≤ 200000)
    ∧ (∃ (s : State), blocksUp s = true ∧ flag s R.SAFE_RST_HIGH_RUN = false)
    ∧ (∃ (s : State), flag s R.SAFE_RST_HIGH_RUN = true)
    ∧ (∃ (s : State), s.safe.stlHigh.isSome = true)
    ∧ (∃ (s : State), flag s R.SAFE_RST_HIGH_RUN = false)
    ∧ (∃ (s : State), s.safe.stlHigh = none)
    ∧ (∃ (s : State) (src : Nat), (fogDeassert s).safe.rearm = some src ∧ flag (fogDeassert s) R.SAFE_STATUS_FOG = false)
    ∧ (∃ (s : State), (flag (fogDeassert s) R.SAFE_STATUS_FOG = true ∨ (fogDeassert s).safe.rearm = none))
    ∧ (∃ (s : State) (src : Nat), s.safe.rearm = some src)
    ∧ (∃ (s : State), s.safe.rearm = none)
    ∧ (∃ (s : State) (n : Nat), commOpen s n = false)
    ∧ (∃ (s : State) (n : Nat) (ofs : Nat) (d : List Byte), commOpen s n = true ∧ flag s R.SAFE_STATUS_SAFE_STATE = true
      ∧ (ofs = 0 ∨ ofs = s.safe.loadNext) ∧ ofs + d.length ≤ 4096)
    ∧ (∃ (s : State) (n : Nat) (ofs : Nat) (d : List Byte), commOpen s n = true ∧ flag s R.SAFE_STATUS_SAFE_STATE = true ∧ (ofs ≠ 0
      ∧ ofs ≠ s.safe.loadNext ∨ 4096 < ofs + d.length))
    ∧ (∃ (s : State) (n : Nat), commOpen s n = true ∧ flag s R.SAFE_STATUS_SAFE_STATE = false)
    ∧ (∃ (s : State) (n : Nat), commOpen s n = true ∧ flag s R.SAFE_STATUS_SAFE_STATE = true ∧ storTakes s = true ∧ s.safe.load = [])
    ∧ (∃ (s : State) (n : Nat) (o : Nat), commOpen s n = true ∧ flag s R.SAFE_STATUS_SAFE_STATE = true ∧ storTakes s = true ∧ s.safe.load ≠ []
      ∧ setRange s s.safe.load = some o)
    ∧ (∃ (s : State) (n : Nat), commOpen s n = true ∧ flag s R.SAFE_STATUS_SAFE_STATE = true ∧ storTakes s = true ∧ s.safe.load ≠ []
      ∧ setRange s s.safe.load = none ∧ setCheckOk s.safe.load = false)
    ∧ (∃ (s : State) (n : Nat), commOpen s n = true ∧ flag s R.SAFE_STATUS_SAFE_STATE = true ∧ storTakes s = true ∧ s.safe.load ≠ []
      ∧ setRange s s.safe.load = none ∧ setCheckOk s.safe.load = true)
    ∧ (∃ (s : State) (n : Nat) (v : Nat), commOpen s n = true ∧ s.safe.set ≠ [] ∧ (flag s R.SAFE_SET_STAT_SET_PENDING = true ∨ s.safe.repair = true)
      ∧ flag s R.SAFE_STATUS_SAFE_STATE = true ∧ storTakes s = true ∧ v = rd s R.SAFE_SET_CHECK_CHECK)
    ∧ (∃ (s : State) (n : Nat) (v : Nat), commOpen s n = true ∧ s.safe.set ≠ [] ∧ (flag s R.SAFE_SET_STAT_SET_PENDING = true ∨ s.safe.repair = true)
      ∧ flag s R.SAFE_STATUS_SAFE_STATE = true ∧ storTakes s = true ∧ v ≠ rd s R.SAFE_SET_CHECK_CHECK)
    ∧ (∃ (s : State) (n : Nat), commOpen s n = true ∧ s.safe.set ≠ [] ∧ (flag s R.SAFE_SET_STAT_SET_PENDING = true ∨ s.safe.repair = true)
      ∧ (flag s R.SAFE_STATUS_SAFE_STATE = false ∨ storTakes s = false))
    ∧ (∃ (s : State) (n : Nat), commOpen s n = true ∧ (s.safe.set = [] ∨ flag s R.SAFE_SET_STAT_SET_PENDING = false ∧ s.safe.repair = false))
    ∧ (∃ (s : State) (n : Nat), commOpen s n = true ∧ copyOk s s.nv.cfgA ≠ copyOk s s.nv.cfgB)
    ∧ (∃ (s : State) (n : Nat), commOpen s n = true ∧ copyOk s s.nv.cfgA ≠ copyOk s s.nv.cfgB)
    ∧ (∃ (s : State) (n : Nat), commOpen s n = true ∧ copyOk s s.nv.cfgA = copyOk s s.nv.cfgB) :=
  ⟨⟨put up R.SAFE_RST_LEVEL false, by decide +kernel⟩,
   ⟨fl (up) [R.SAFE_RST_LEVEL], by decide +kernel⟩,
   ⟨fl up [R.SAFE_RST_HIGH_RUN], 9999, by decide +kernel⟩,
   ⟨fl up [R.SAFE_RST_HIGH_RUN], 200001, by decide +kernel⟩,
   ⟨fl up [R.SAFE_RST_HIGH_RUN], 10000, by decide +kernel⟩,
   ⟨up, by decide +kernel⟩,
   ⟨fl up [R.SAFE_RST_HIGH_RUN], by decide +kernel⟩,
   ⟨{ up with safe := { up.safe with stlHigh := some 0 } }, by decide +kernel⟩,
   ⟨up, by decide +kernel⟩,
   ⟨up, by decide +kernel⟩,
   ⟨{ (put up R.SAFE_STATUS_FOG false) with safe := { up.safe with rearm := some 1 } }, 1, by decide +kernel⟩,
   ⟨up, by decide +kernel⟩,
   ⟨{ up with safe := { up.safe with rearm := some 1 } }, 1, by decide +kernel⟩,
   ⟨up, by decide +kernel⟩,
   ⟨up, 255, by decide +kernel⟩,
   ⟨upComm, 255, 0, List.replicate 4096 0, by decide +kernel⟩,
   ⟨upComm, 255, 7, [], by decide +kernel⟩,
   ⟨put upComm R.SAFE_STATUS_SAFE_STATE false, 255, by decide +kernel⟩,
   ⟨upComm, 255, by decide +kernel⟩,
   ⟨{ upComm with safe := { upComm.safe with load := [0] } }, 255, 0, by decide +kernel⟩,
   ⟨{ upComm with safe := { upComm.safe with load := set0.take 252 ++ [0, 0, 0, 0] } }, 255, by decide +kernel, by decide +kernel, by decide +kernel, by decide +kernel, by decide +kernel, by simp only [setCheckOk, crc32c_eq]; decide +kernel⟩,
   ⟨{ upComm with safe := { upComm.safe with load := set0 } }, 255, by decide +kernel, by decide +kernel, by decide +kernel, by decide +kernel, by decide +kernel, set0_check⟩,
   ⟨fl upComm [R.SAFE_SET_STAT_SET_PENDING], 255, 0, by decide +kernel⟩,
   ⟨fl upComm [R.SAFE_SET_STAT_SET_PENDING], 255, 1, by decide +kernel⟩,
   ⟨put (fl upComm [R.SAFE_SET_STAT_SET_PENDING]) R.SAFE_STATUS_SAFE_STATE false, 255, by decide +kernel⟩,
   ⟨upComm, 255, by decide +kernel⟩,
   ⟨upCopy, 255, by decide +kernel, fun h => absurd (confA_ok.symm.trans h) (by decide +kernel)⟩,
   ⟨upCopy, 255, by decide +kernel, fun h => absurd (confA_ok.symm.trans h) (by decide +kernel)⟩,
   ⟨upComm, 255, by decide +kernel⟩⟩

theorem test_wit_ATripLatchesItsSource :
    (∃ (s : State) (c : Nat), c < 16 ∧ latched s c = false ∧ blocksUp s = true)
    ∧ (∃ (s : State) (c : Nat) (d : Nat), c < 16 ∧ latched s c = false ∧ blocksUp s = true ∧ d < 16 ∧ d ≠ c)
    ∧ (∃ (s : State) (c : Nat), c < 16 ∧ latched s c = false ∧ blocksUp s = true ∧ flag s R.SAFE_FIRST_VALID = false)
    ∧ (∃ (s : State) (c : Nat), c < 16 ∧ latched s c = false ∧ blocksUp s = true ∧ flag s R.SAFE_FIRST_VALID = true) :=
  ⟨⟨up, 15, by decide +kernel⟩,
   ⟨up, 15, 14, by decide +kernel⟩,
   ⟨up, 15, by decide +kernel⟩,
   ⟨fl (up) [R.SAFE_FIRST_VALID], 15, by decide +kernel⟩⟩

theorem test_wit_NoOutputConductsUnpermitted :
    (∃ (s : State) (n : Nat), n < 4 ∧ (soHs (safeRefresh s) n = true ∨ soLs (safeRefresh s) n = true ∨ soOn (safeRefresh s) n = true)) :=
  ⟨fl upSafe [R.SAFE_SO_STAT_LS 3], 3, by decide +kernel⟩

theorem test_wit_StlRowsAct :
    (∃ (s : State) (n : Nat), n < 256 ∧ blocksUp s = true)
    ∧ (∃ (s : State) (n : Nat), n < 256 ∧ blocksUp s = true ∧ (stlSt s n = stlRun ∨ stlSt s n = stlOpening))
    ∧ (∃ (s : State) (n : Nat), stlSt s n ≠ stlRun ∧ stlSt s n ≠ stlOpening)
    ∧ (∃ (s : State) (e : Entry), Goes s 31 64 e ∧ memBad s e.addr e.len = false ∧ stlU s e.arg0 3 1 = 1 ∧ stlMedium s e.arg0 ≠ 0 ∧ stlMedium s e.arg0 ≠ medRelay)
    ∧ (∃ (s : State) (e : Entry), Goes s 31 64 e ∧ memBad s e.addr e.len = false ∧ (stlU s e.arg0 3 1 ≠ 1 ∨ stlMedium s e.arg0 = 0 ∨ stlMedium s e.arg0 = medRelay))
    ∧ (∃ (s : State) (e : Entry), Goes s 31 65 e ∧ stlSt s e.arg0 = stlRun ∧ stlMedium s e.arg0 ≠ 0 ∧ stlMedium s e.arg0 ≠ medRelay)
    ∧ (∃ (s : State) (e : Entry), Goes s 31 65 e ∧ stlSt s e.arg0 ≠ stlRun)
    ∧ (∃ (s : State) (e : Entry), Goes s 31 66 e ∧ memBad s e.addr e.len = false ∧ stlMedium s e.arg0 = medRelay ∧ relayUp s e.arg0 = true)
    ∧ (∃ (s : State) (e : Entry) (p : List Byte) (ps : List (List Byte)), Goes s 31 67 e ∧ stlMedium s e.arg0 = medRelay ∧ relayUp s e.arg0 = true
      ∧ (stlAt s e.arg0).relay = p :: ps)
    ∧ (∃ (s : State) (e : Entry), Goes s 31 67 e ∧ stlMedium s e.arg0 = medRelay ∧ relayUp s e.arg0 = true ∧ (stlAt s e.arg0).relay = [])
    ∧ (∃ (s : State) (e : Entry), Goes s 31 67 e ∧ stlMedium s e.arg0 ≠ medRelay)
    ∧ (∃ (s : State) (e : Entry), Goes s 31 67 e ∧ stlMedium s e.arg0 = medRelay ∧ relayUp s e.arg0 = false)
    ∧ (∃ (s : State) (e : Entry), Goes s 31 68 e ∧ (stlAt s e.arg0).lastPdu ≠ [])
    ∧ (∃ (s : State) (e : Entry), Goes s 31 68 e ∧ (stlAt s e.arg0).lastPdu = []) :=
  ⟨⟨up, 255, by decide +kernel⟩,
   ⟨wr up (R.STL_S_STAT_STATE 255) stlRun, 255, by decide +kernel⟩,
   ⟨up, 255, by decide +kernel⟩,
   ⟨qe (it up 31 1 (by8 [1, 0, 0, 1])) 31 (en 64), en 64, by decide +kernel⟩,
   ⟨qe (up) 31 (en 64), en 64, by decide +kernel⟩,
   ⟨qe (it (wr (up) (R.STL_S_STAT_STATE 0) stlRun) 31 1 (by8 [1])) 31 (en 65), en 65, by decide +kernel⟩,
   ⟨qe (up) 31 (en 65), en 65, by decide +kernel⟩,
   ⟨qe (it (wr (upSess) (R.STL_S_STAT_STATE 0) stlRun) 31 1 (by8 [5])) 31 (en 66), en 66, by decide +kernel⟩,
   ⟨qe (stlMod (it (wr (upSess) (R.STL_S_STAT_STATE 0) stlRun) 31 1 (by8 [5])) 0 (fun x => { x with relay := [[1]] })) 31 (en 67), en 67, [1], [], by decide +kernel⟩,
   ⟨qe (it (wr (upSess) (R.STL_S_STAT_STATE 0) stlRun) 31 1 (by8 [5])) 31 (en 67), en 67, by decide +kernel⟩,
   ⟨qe (up) 31 (en 67), en 67, by decide +kernel⟩,
   ⟨qe (it (wr (up) (R.STL_S_STAT_STATE 0) stlRun) 31 1 (by8 [5])) 31 (en 67), en 67, by decide +kernel⟩,
   ⟨qe (stlMod up 0 (fun x => { x with lastPdu := [1] })) 31 (en 68), en 68, by decide +kernel⟩,
   ⟨qe (up) 31 (en 68), en 68, by decide +kernel⟩⟩

theorem test_wit_BadFramesAreNotTaken :
    (∃ (s : State) (m : Nat) (src : Nat) (pdu : List Byte), blocksUp s = true ∧ flag s R.STL_STATUS_RUN = true ∧ crossOk s 10 = true ∧ stlFind s m src pdu = none)
    ∧ (∃ (s : State) (m : Nat) (src : Nat) (pdu : List Byte) (n : Nat), blocksUp s = true ∧ flag s R.STL_STATUS_RUN = true ∧ crossOk s 10 = true
      ∧ stlFind s m src pdu = some (n, false))
    ∧ (∃ (s : State) (m : Nat) (src : Nat) (pdu : List Byte) (n : Nat), blocksUp s = true ∧ flag s R.STL_STATUS_RUN = true ∧ crossOk s 10 = true
      ∧ stlFind s m src pdu = some (n, true) ∧ stlCheck m pdu = false)
    ∧ (∃ (s : State), crossOk s 10 = false) :=
  ⟨⟨fl up [R.STL_STATUS_RUN], 1, 0, [], by decide +kernel⟩,
   ⟨fl (it (wr (up) (R.STL_S_STAT_STATE 0) stlRun) 31 1 (by8 [1])) [R.STL_STATUS_RUN], 2, 0, [], 0, by decide +kernel⟩,
   ⟨fl (it (wr (up) (R.STL_S_STAT_STATE 0) stlRun) 31 1 (by8 [1])) [R.STL_STATUS_RUN], 1, 0, [], 0, by decide +kernel⟩,
   ⟨wr up R.CLK_XSTAT_TWO_FLOP (2 ^ 10), by decide +kernel⟩⟩

theorem test_wit_PairRowsAct :
    (∃ (s : State), pairOn s = true)
    ∧ (∃ (s : State), pairOn s = true ∧ role s = roleInit)
    ∧ (∃ (s : State), pairOn s = true ∧ role s = roleStandby)
    ∧ (∃ (s : State), pairOn s = true ∧ role s = roleClaiming ∧ s.red.answered = false)
    ∧ (∃ (s : State), pairOn s = true ∧ follows s = true)
    ∧ (∃ (s : State), pairOn s = true ∧ role s = roleActive)
    ∧ (∃ (s : State), role s ≠ roleActive)
    ∧ (∃ (s : State) (e : Entry), Goes s 32 64 e ∧ role s = roleActive ∧ peerHeard s = true ∧ s.red.hoWhy = 0)
    ∧ (∃ (s : State) (e : Entry), Goes s 32 64 e ∧ role s = roleActive ∧ peerHeard s = false)
    ∧ (∃ (s : State) (e : Entry), Goes s 32 64 e ∧ role s = roleActive ∧ peerHeard s = true ∧ s.red.hoWhy ≠ 0)
    ∧ (∃ (s : State), pairOn s = true ∧ role s = roleActive ∧ rd s R.RED_STATUS_HO_STEP = 1 ∧ s.red.hoPeer = true ∧ (s.red.hoWhy = 5 ∨ s.safe.seq ≠ 1 ∧ s.safe.seq ≠ 2))
    ∧ (∃ (s : State), s.red.hoWhy ≠ 5 ∧ (s.safe.seq = 1 ∨ s.safe.seq = 2))
    ∧ (∃ (s : State), pairOn s = true ∧ role s = roleActive ∧ rd s R.RED_STATUS_HO_STEP = 1 ∧ s.red.hoPeer = false ∧ 3 ≤ s.red.hoCount ∧ s.red.hoWhy = 1)
    ∧ (∃ (s : State), rd s R.RED_STATUS_HO_STEP = 1 ∧ s.red.hoCount < 3)
    ∧ (∃ (s : State), pairOn s = true ∧ role s = roleActive ∧ rd s R.RED_STATUS_HO_STEP = 2 ∧ s.red.hoWhy = 1)
    ∧ (∃ (s : State), pairOn s = true ∧ role s = roleActive ∧ s.red.awaitFinal = true)
    ∧ (∃ (s : State), pairOn s = true ∧ role s = roleActive ∧ s.red.hoWhy = 0 ∧ peerHealthy s = true ∧ healthy s = false)
    ∧ (∃ (s : State) (x : Nat), pairOn s = true ∧ s.red.tbFrom = some x ∧ x + cfgU s 32 3 2 2 * 250000000 ≤ s.power.ticks ∧ holdoffRuns s = true)
    ∧ (∃ (s : State) (x : Nat), s.red.tbFrom = some x ∧ s.power.ticks < x + cfgU s 32 3 2 2 * 250000000)
    ∧ (∃ (s : State), pairOn s = true ∧ flag s R.RED_STATUS_PEER_RING = false)
    ∧ (∃ (s : State), pairOn s = true ∧ flag s R.RED_STATUS_PEER_J5 = true)
    ∧ (∃ (s : State), pairOn s = true ∧ flag s R.RED_STATUS_KEEPER_OK = true) :=
  ⟨⟨inPair roleActive, by decide +kernel⟩,
   ⟨inPair roleInit, by decide +kernel⟩,
   ⟨inPair roleStandby, by decide +kernel⟩,
   ⟨inPair roleClaiming, by decide +kernel⟩,
   ⟨inPair roleStandby, by decide +kernel⟩,
   ⟨inPair roleActive, by decide +kernel⟩,
   ⟨inPair roleStandby, by decide +kernel⟩,
   ⟨qe (fl (inPair roleActive) [R.RED_STATUS_PEER_J5]) 32 (en 64), en 64, by decide +kernel⟩,
   ⟨qe (inPair roleActive) 32 (en 64), en 64, by decide +kernel⟩,
   ⟨qe ({ (fl (inPair roleActive) [R.RED_STATUS_PEER_J5]) with red := { up.red with hoWhy := 1 } }) 32 (en 64), en 64, by decide +kernel⟩,
   ⟨{ (wr (inPair roleActive) R.RED_STATUS_HO_STEP 1) with red := { up.red with hoPeer := true } }, by decide +kernel⟩,
   ⟨{ (inPair roleActive) with safe := { up.safe with seq := 1 } }, by decide +kernel⟩,
   ⟨{ (wr (inPair roleActive) R.RED_STATUS_HO_STEP 1) with red := { up.red with hoWhy := 1, hoCount := 3 } }, by decide +kernel⟩,
   ⟨{ (wr (inPair roleActive) R.RED_STATUS_HO_STEP 1) with red := { up.red with hoCount := 2 } }, by decide +kernel⟩,
   ⟨{ (wr (inPair roleActive) R.RED_STATUS_HO_STEP 2) with red := { up.red with hoWhy := 1 } }, by decide +kernel⟩,
   ⟨{ (inPair roleActive) with red := { up.red with awaitFinal := true } }, by decide +kernel⟩,
   ⟨it (wr (fl (inPair roleActive) [R.RED_STATUS_PEER_J5]) R.RED_HEALTH_PEER 0x1FFF) 32 3 (lay 32 [(6, 2, 1)]), by decide +kernel⟩,
   ⟨{ (it (it (fl (inPair roleStandby) [R.CHAIN_STATUS_RING_CLOSED]) 32 1 (by8 [0, 1])) 32 3 (lay 32 [(0, 1, 1)])) with red := { up.red with tbFrom := some 0, latest := bcn } }, 0, by decide +kernel⟩,
   ⟨{ (it (inPair roleActive) 32 3 (lay 32 [(2, 2, 1)])) with red := { up.red with tbFrom := some 0 } }, 0, by decide +kernel⟩,
   ⟨inPair roleActive, by decide +kernel⟩,
   ⟨fl (inPair roleActive) [R.RED_STATUS_PEER_J5], by decide +kernel⟩,
   ⟨fl (inPair roleActive) [R.RED_STATUS_KEEPER_OK], by decide +kernel⟩⟩

theorem test_wit_PairFramesAreTaken :
    (∃ (s : State), s.upd.await = none)
    ∧ (∃ (s : State) (path : Nat) (src : Nat) (fr : List Byte), s.upd.await = none ∧ (let t := redReceive s path src fr; t.upd.await = none))
    ∧ (∃ (s : State) (path : Nat) (src : Nat) (fr : List Byte), pairOn s = true ∧ ((path = 2 → keepPort s = true))
      ∧ (redCheckOk fr = false ∨ fieldAt fr 2 2 ≠ redPair s ∨ fromPeer s path src fr = false
      ∧ fromKeeper s path src fr = false ∨ fromPeer s path src fr = true ∧ fieldAt fr 24 1 ≠ roleInit
      ∧ 2 ^ 31 < redDelta s.red.peerIn (fieldAt fr 8 4) ∨ fromPeer s path src fr = false ∧ 2 ^ 31 < redDelta s.red.keepIn (fieldAt fr 8 4)))
    ∧ (∃ (s : State) (path : Nat) (src : Nat) (fr : List Byte), pairOn s = true ∧ redCheckOk fr = true ∧ fieldAt fr 2 2 = redPair s
      ∧ fromPeer s path src fr = true ∧ fieldAt fr 0 1 = 1 ∧ 1 ≤ redDelta s.red.peerIn (fieldAt fr 8 4)
      ∧ redDelta s.red.peerIn (fieldAt fr 8 4) ≤ 2 ^ 31)
    ∧ (∃ (s : State) (path : Nat) (src : Nat) (fr : List Byte), pairOn s = true ∧ redCheckOk fr = true ∧ fieldAt fr 2 2 = redPair s
      ∧ fromPeer s path src fr = true ∧ fieldAt fr 0 1 = 1 ∧ fieldAt fr 24 1 ≠ roleInit ∧ redDelta s.red.peerIn (fieldAt fr 8 4) = 0)
    ∧ (∃ (s : State) (path : Nat) (src : Nat) (fr : List Byte), pairOn s = true ∧ ((path = 2 → keepPort s = true)) ∧ redCheckOk fr = true
      ∧ fieldAt fr 2 2 = redPair s ∧ fromPeer s path src fr = false ∧ fromKeeper s path src fr = true ∧ 1 ≤ redDelta s.red.keepIn (fieldAt fr 8 4)
      ∧ redDelta s.red.keepIn (fieldAt fr 8 4) ≤ 2 ^ 31 ∧ (let ep := fieldAt fr 12 4; (let arg := fieldAt fr 24 4; fieldAt fr 0 1 = 3
      ∧ (arg ≠ redUnit s ∨ ep ≤ epochNow s))))
    ∧ (∃ (s : State) (path : Nat) (src : Nat) (fr : List Byte), pairOn s = true ∧ ((path = 2 → keepPort s = true)) ∧ redCheckOk fr = true
      ∧ fieldAt fr 2 2 = redPair s ∧ fromPeer s path src fr = false ∧ fromKeeper s path src fr = true ∧ 1 ≤ redDelta s.red.keepIn (fieldAt fr 8 4)
      ∧ redDelta s.red.keepIn (fieldAt fr 8 4) ≤ 2 ^ 31 ∧ (let ep := fieldAt fr 12 4; (let arg := fieldAt fr 24 4; fieldAt fr 0 1 = 3
      ∧ arg = redUnit s ∧ epochNow s < ep ∧ role s = roleClaiming)))
    ∧ (∃ (s : State) (path : Nat) (src : Nat) (fr : List Byte), pairOn s = true ∧ ((path = 2 → keepPort s = true)) ∧ redCheckOk fr = true
      ∧ fieldAt fr 2 2 = redPair s ∧ fromPeer s path src fr = false ∧ fromKeeper s path src fr = true ∧ 1 ≤ redDelta s.red.keepIn (fieldAt fr 8 4)
      ∧ redDelta s.red.keepIn (fieldAt fr 8 4) ≤ 2 ^ 31 ∧ (let ep := fieldAt fr 12 4; (let arg := fieldAt fr 24 4; fieldAt fr 0 1 = 3
      ∧ arg = redUnit s ∧ epochNow s < ep ∧ role s = roleStandby ∧ fieldAt s.red.latest 25 1 ≠ 3)))
    ∧ (∃ (s : State) (path : Nat) (src : Nat) (fr : List Byte), pairOn s = true ∧ ((path = 2 → keepPort s = true)) ∧ redCheckOk fr = true
      ∧ fieldAt fr 2 2 = redPair s ∧ fromPeer s path src fr = false ∧ fromKeeper s path src fr = true ∧ 1 ≤ redDelta s.red.keepIn (fieldAt fr 8 4)
      ∧ redDelta s.red.keepIn (fieldAt fr 8 4) ≤ 2 ^ 31 ∧ (let ep := fieldAt fr 12 4; (let arg := fieldAt fr 24 4; fieldAt fr 0 1 = 3
      ∧ arg = redUnit s ∧ epochNow s < ep ∧ role s = roleStandby ∧ fieldAt s.red.latest 25 1 = 3)))
    ∧ (∃ (s : State) (path : Nat) (src : Nat) (fr : List Byte), pairOn s = true ∧ ((path = 2 → keepPort s = true)) ∧ redCheckOk fr = true
      ∧ fieldAt fr 2 2 = redPair s ∧ fromPeer s path src fr = false ∧ fromKeeper s path src fr = true ∧ 1 ≤ redDelta s.red.keepIn (fieldAt fr 8 4)
      ∧ redDelta s.red.keepIn (fieldAt fr 8 4) ≤ 2 ^ 31 ∧ fieldAt fr 0 1 = 4 ∧ role s = roleClaiming)
    ∧ (∃ (s : State) (path : Nat) (src : Nat) (fr : List Byte), pairOn s = true ∧ ((path = 2 → keepPort s = true)) ∧ redCheckOk fr = true
      ∧ fieldAt fr 2 2 = redPair s ∧ fromPeer s path src fr = false ∧ fromKeeper s path src fr = true ∧ 1 ≤ redDelta s.red.keepIn (fieldAt fr 8 4)
      ∧ redDelta s.red.keepIn (fieldAt fr 8 4) ≤ 2 ^ 31 ∧ fieldAt fr 0 1 = 4 ∧ role s = roleActive ∧ rd s R.RED_STATUS_HO_STEP = 2)
    ∧ (∃ (s : State) (path : Nat) (src : Nat) (fr : List Byte), pairOn s = true ∧ ((path = 2 → keepPort s = true)) ∧ redCheckOk fr = true
      ∧ fieldAt fr 2 2 = redPair s ∧ fromPeer s path src fr = false ∧ fromKeeper s path src fr = true ∧ 1 ≤ redDelta s.red.keepIn (fieldAt fr 8 4)
      ∧ redDelta s.red.keepIn (fieldAt fr 8 4) ≤ 2 ^ 31 ∧ fieldAt fr 0 1 = 4 ∧ role s ≠ roleClaiming ∧ rd s R.RED_STATUS_HO_STEP ≠ 2)
    ∧ (∃ (s : State) (path : Nat) (src : Nat) (fr : List Byte), pairOn s = true ∧ ((path = 2 → keepPort s = true)) ∧ redCheckOk fr = true
      ∧ fieldAt fr 2 2 = redPair s ∧ fromPeer s path src fr = false ∧ fromKeeper s path src fr = true ∧ 1 ≤ redDelta s.red.keepIn (fieldAt fr 8 4)
      ∧ redDelta s.red.keepIn (fieldAt fr 8 4) ≤ 2 ^ 31 ∧ fieldAt fr 0 1 = 6 ∧ (role s = roleStandby ∨ role s = roleClaiming) ∧ s.upd.await = none)
    ∧ (∃ (s : State) (path : Nat) (src : Nat) (fr : List Byte), pairOn s = true ∧ ((path = 2 → keepPort s = true)) ∧ redCheckOk fr = true
      ∧ fieldAt fr 2 2 = redPair s ∧ fromPeer s path src fr = false ∧ fromKeeper s path src fr = true ∧ redDelta s.red.keepIn (fieldAt fr 8 4) = 0)
    ∧ (∃ (s : State) (path : Nat) (src : Nat) (fr : List Byte), pairOn s = true ∧ ((path = 2 → keepPort s = true)) ∧ redCheckOk fr = true
      ∧ fieldAt fr 2 2 = redPair s ∧ fromPeer s path src fr = false ∧ fromKeeper s path src fr = true ∧ redDelta s.red.keepIn (fieldAt fr 8 4) = 0
      ∧ s.upd.await = none) :=
  ⟨⟨inPair roleActive, by decide +kernel⟩,
   ⟨inPair roleActive, 1, 0, [1], by decide +kernel⟩,
   ⟨inPair roleActive, 1, 0, [1], by decide +kernel⟩,
   ⟨inPair roleActive, 0, 0, bcn, by decide +kernel, bcn_check, by decide +kernel⟩,
   ⟨{ (inPair roleActive) with red := { up.red with peerIn := some 5 } }, 0, 0, bcn, by decide +kernel, bcn_check, by decide +kernel⟩,
   ⟨inPair roleActive, 1, 0, frame 3 0xFF 5 7 1, by decide +kernel⟩,
   ⟨inPair roleClaiming, 1, 0, frame 3 0xFF 5 7 0, by decide +kernel⟩,
   ⟨inPair roleStandby, 1, 0, frame 3 0xFF 5 7 0, by decide +kernel⟩,
   ⟨{ (inPair roleStandby) with red := { up.red with latest := lay 196 [(25, 1, 3)] } }, 1, 0, frame 3 0xFF 5 7 0, by decide +kernel⟩,
   ⟨inPair roleClaiming, 1, 0, frame 4 0xFF 5 7 0, by decide +kernel⟩,
   ⟨wr (inPair roleActive) R.RED_STATUS_HO_STEP 2, 1, 0, frame 4 0xFF 5 7 0, by decide +kernel⟩,
   ⟨inPair roleActive, 1, 0, frame 4 0xFF 5 7 0, by decide +kernel⟩,
   ⟨inPair roleStandby, 1, 0, frame 6 0xFF 5 7 0, by decide +kernel⟩,
   ⟨{ (inPair roleActive) with red := { up.red with keepIn := some 5 } }, 1, 0, frame 3 0xFF 5 7 0, by decide +kernel⟩,
   ⟨{ (inPair roleActive) with red := { up.red with keepIn := some 5 } }, 1, 0, frame 3 0xFF 5 7 0, by decide +kernel⟩⟩

theorem test_wit_KeeperRowsAct :
    (∃ (s : State) (path : Nat) (src : Nat) (fr : List Byte) (p : Nat), flag s R.RED_CFG_KSVC = true ∧ blocksUp s = true ∧ redCheckOk fr = true
      ∧ fieldAt fr 4 1 ≤ 1 ∧ ((path = 2 → keepPort s = true))
      ∧ List.find? (fun p => decide (ksPairId s p = fieldAt fr 2 2)) (List.range (ksCount s)) = some p
      ∧ ((path = 1 → src = ksAddr s p (fieldAt fr 4 1))) ∧ fieldAt fr 0 1 = 1)
    ∧ (∃ (s : State) (path : Nat) (src : Nat) (fr : List Byte) (p : Nat), flag s R.RED_CFG_KSVC = true ∧ blocksUp s = true ∧ redCheckOk fr = true
      ∧ fieldAt fr 4 1 ≤ 1 ∧ ((path = 2 → keepPort s = true))
      ∧ List.find? (fun p => decide (ksPairId s p = fieldAt fr 2 2)) (List.range (ksCount s)) = some p
      ∧ ((path = 1 → src = ksAddr s p (fieldAt fr 4 1))) ∧ fieldAt fr 0 1 = 2 ∧ flag s (R.RED_KS_STATE_WARM p) = false)
    ∧ (∃ (s : State) (path : Nat) (src : Nat) (fr : List Byte) (p : Nat), flag s R.RED_CFG_KSVC = true ∧ blocksUp s = true ∧ redCheckOk fr = true
      ∧ fieldAt fr 4 1 ≤ 1 ∧ ((path = 2 → keepPort s = true))
      ∧ List.find? (fun p => decide (ksPairId s p = fieldAt fr 2 2)) (List.range (ksCount s)) = some p
      ∧ ((path = 1 → src = ksAddr s p (fieldAt fr 4 1))) ∧ fieldAt fr 0 1 = 2 ∧ flag s (R.RED_KS_STATE_WARM p) = true ∧ (ksAt s p).claim = none
      ∧ ksFree s p = true)
    ∧ (∃ (s : State) (path : Nat) (src : Nat) (fr : List Byte) (p : Nat), flag s R.RED_CFG_KSVC = true ∧ blocksUp s = true ∧ redCheckOk fr = true
      ∧ fieldAt fr 4 1 ≤ 1 ∧ ((path = 2 → keepPort s = true))
      ∧ List.find? (fun p => decide (ksPairId s p = fieldAt fr 2 2)) (List.range (ksCount s)) = some p
      ∧ ((path = 1 → src = ksAddr s p (fieldAt fr 4 1))) ∧ fieldAt fr 0 1 = 2 ∧ flag s (R.RED_KS_STATE_WARM p) = true ∧ (ksAt s p).claim = none
      ∧ ksFree s p = false)
    ∧ (∃ (s : State) (path : Nat) (src : Nat) (fr : List Byte) (p : Nat) (c : Nat × Nat), flag s R.RED_CFG_KSVC = true ∧ blocksUp s = true
      ∧ redCheckOk fr = true ∧ fieldAt fr 4 1 ≤ 1 ∧ ((path = 2 → keepPort s = true))
      ∧ List.find? (fun p => decide (ksPairId s p = fieldAt fr 2 2)) (List.range (ksCount s)) = some p
      ∧ ((path = 1 → src = ksAddr s p (fieldAt fr 4 1))) ∧ fieldAt fr 0 1 = 2 ∧ flag s (R.RED_KS_STATE_WARM p) = true ∧ (ksAt s p).claim = some c)
    ∧ (∃ (s : State) (path : Nat) (src : Nat) (fr : List Byte) (p : Nat), flag s R.RED_CFG_KSVC = true ∧ blocksUp s = true ∧ redCheckOk fr = true
      ∧ fieldAt fr 4 1 ≤ 1 ∧ ((path = 2 → keepPort s = true))
      ∧ List.find? (fun p => decide (ksPairId s p = fieldAt fr 2 2)) (List.range (ksCount s)) = some p
      ∧ ((path = 1 → src = ksAddr s p (fieldAt fr 4 1))) ∧ (let u := fieldAt fr 4 1; fieldAt fr 0 1 = 5 ∧ rd s (R.RED_KS_STATE_HOLDER p) = u
      ∧ fieldAt fr 24 4 = 1 - u))
    ∧ (∃ (s : State) (path : Nat) (src : Nat) (fr : List Byte) (p : Nat), flag s R.RED_CFG_KSVC = true ∧ blocksUp s = true ∧ redCheckOk fr = true
      ∧ fieldAt fr 4 1 ≤ 1 ∧ ((path = 2 → keepPort s = true))
      ∧ List.find? (fun p => decide (ksPairId s p = fieldAt fr 2 2)) (List.range (ksCount s)) = some p
      ∧ ((path = 1 → src = ksAddr s p (fieldAt fr 4 1))) ∧ (let u := fieldAt fr 4 1; fieldAt fr 0 1 = 5
      ∧ (rd s (R.RED_KS_STATE_HOLDER p) ≠ u ∨ fieldAt fr 24 4 ≠ 1 - u)))
    ∧ (∃ (s : State) (fr : List Byte), (flag s R.RED_CFG_KSVC = false ∨ blocksUp s = false ∨ redCheckOk fr = false ∨ 1 < fieldAt fr 4 1))
    ∧ (∃ (s : State) (p : Nat) (u : Nat) (ep : Nat), (ksAt s p).claim = some (u, ep) ∧ ksFree s p = true)
    ∧ (∃ (s : State) (p : Nat), ksFree s p = false)
    ∧ (∃ (s : State) (p : Nat) (u : Nat) (ep : Nat), (ksAt s p).claim = some (u, ep))
    ∧ (∃ (s : State) (p : Nat), (ksAt s p).claim = none)
    ∧ (∃ (s : State), flag s R.RED_CFG_KSVC = true ∧ s.red.ks.length ≤ 16)
    ∧ (∃ (s : State) (e : Entry), Goes s 32 65 e) :=
  ⟨⟨it (fl up [R.RED_CFG_KSVC]) 32 2 (lay 132 [(0, 1, 1)]), 2, 0, bcn, 0, by decide +kernel, by decide +kernel, bcn_check, by decide +kernel⟩,
   ⟨it (fl up [R.RED_CFG_KSVC]) 32 2 (lay 132 [(0, 1, 1)]), 1, 0, frame 2 1 5 7 0, 0, by decide +kernel⟩,
   ⟨wr (fl (it (fl up [R.RED_CFG_KSVC]) 32 2 (lay 132 [(0, 1, 1)])) [R.RED_KS_STATE_WARM 0]) (R.RED_KS_STATE_HOLDER 0) 3, 1, 0, frame 2 1 5 7 0, 0, by decide +kernel⟩,
   ⟨{ (wr (fl (it (fl up [R.RED_CFG_KSVC]) 32 2 (lay 132 [(0, 1, 1)])) [R.RED_KS_STATE_WARM 0]) (R.RED_KS_STATE_HOLDER 0) 0) with red := { up.red with ks := [{ KsPair.init with active := some 0 }] } }, 1, 0, frame 2 1 5 7 0, 0, by decide +kernel⟩,
   ⟨{ (fl (it (fl up [R.RED_CFG_KSVC]) 32 2 (lay 132 [(0, 1, 1)])) [R.RED_KS_STATE_WARM 0]) with red := { up.red with ks := [{ KsPair.init with claim := some (1, 7) }] } }, 1, 0, frame 2 1 5 7 0, 0, (1, 7), by decide +kernel⟩,
   ⟨wr (fl (it (fl up [R.RED_CFG_KSVC]) 32 2 (lay 132 [(0, 1, 1)])) [R.RED_KS_STATE_WARM 0]) (R.RED_KS_STATE_HOLDER 0) 1, 1, 0, frame 5 1 5 7 0, 0, by decide +kernel⟩,
   ⟨wr (fl (it (fl up [R.RED_CFG_KSVC]) 32 2 (lay 132 [(0, 1, 1)])) [R.RED_KS_STATE_WARM 0]) (R.RED_KS_STATE_HOLDER 0) 0, 1, 0, frame 5 1 5 7 0, 0, by decide +kernel⟩,
   ⟨it (fl up [R.RED_CFG_KSVC]) 32 2 (lay 132 [(0, 1, 1)]), [], by decide +kernel⟩,
   ⟨{ (wr (fl (it (fl up [R.RED_CFG_KSVC]) 32 2 (lay 132 [(0, 1, 1)])) [R.RED_KS_STATE_WARM 0]) (R.RED_KS_STATE_HOLDER 0) 3) with red := { up.red with ks := [{ KsPair.init with claim := some (1, 7) }] } }, 0, 1, 7, by decide +kernel⟩,
   ⟨{ (wr (fl (it (fl up [R.RED_CFG_KSVC]) 32 2 (lay 132 [(0, 1, 1)])) [R.RED_KS_STATE_WARM 0]) (R.RED_KS_STATE_HOLDER 0) 0) with red := { up.red with ks := [{ KsPair.init with active := some 0 }] } }, 0, by decide +kernel⟩,
   ⟨{ (fl (it (fl up [R.RED_CFG_KSVC]) 32 2 (lay 132 [(0, 1, 1)])) [R.RED_KS_STATE_WARM 0]) with red := { up.red with ks := [{ KsPair.init with claim := some (1, 7) }] } }, 0, 1, 7, by decide +kernel⟩,
   ⟨it (fl up [R.RED_CFG_KSVC]) 32 2 (lay 132 [(0, 1, 1)]), 0, by decide +kernel⟩,
   ⟨fl up [R.RED_CFG_KSVC], by decide +kernel⟩,
   ⟨qe (it (fl up [R.RED_CFG_KSVC]) 32 2 (lay 132 [(0, 1, 1)])) 32 (en 65), en 65, by decide +kernel⟩⟩

theorem test_wit_EthRowsAct :
    (∃ (s : State) (b : Bool) (fr : List Byte) (r : RingIn), portUp s b = true ∧ crossOk s (6 + b2n b) = true ∧ beAt fr 12 2 ≠ 34824
      ∧ ringHdrOk fr = false ∧ r.fcsOk = true)
    ∧ (∃ (s : State) (b : Bool) (fr : List Byte), portUp s b = true ∧ crossOk s (6 + b2n b) = true ∧ beAt fr 12 2 = 34824)
    ∧ (∃ (s : State) (b : Bool), (portUp s b = false ∨ crossOk s (6 + b2n b) = false))
    ∧ (∃ (s : State) (b : Bool) (fr : List Byte) (r : RingIn), portUp s b = true ∧ crossOk s (6 + b2n b) = true ∧ beAt fr 12 2 ≠ 34824
      ∧ ringHdrOk fr = true ∧ r.fcsOk = true ∧ bitOf (fieldAt fr 20 2) 14 = false ∧ fieldAt fr 20 2 % 2 ^ 14 = ethAddr s)
    ∧ (∃ (s : State) (b : Bool) (fr : List Byte) (r : RingIn), portUp s b = true ∧ crossOk s (6 + b2n b) = true ∧ beAt fr 12 2 ≠ 34824
      ∧ ringHdrOk fr = true ∧ r.fcsOk = true ∧ bitOf (fieldAt fr 20 2) 14 = false ∧ fieldAt fr 20 2 % 2 ^ 14 ≠ ethAddr s
      ∧ fieldAt fr 22 2 % 2 ^ 14 ≠ ethAddr s ∧ fieldAt fr 19 1 = 0)
    ∧ (∃ (s : State) (b : Bool) (fr : List Byte) (r : RingIn), portUp s b = true ∧ crossOk s (6 + b2n b) = true ∧ beAt fr 12 2 ≠ 34824
      ∧ (portUp s !b) = true ∧ ethForwards s = true ∧ ringHdrOk fr = true ∧ r.fcsOk = true ∧ bitOf (fieldAt fr 20 2) 14 = false
      ∧ fieldAt fr 20 2 % 2 ^ 14 ≠ ethAddr s ∧ fieldAt fr 22 2 % 2 ^ 14 ≠ ethAddr s ∧ fieldAt fr 19 1 ≠ 0 ∧ bits (fieldAt fr 18 1) 5 4 ≠ 0
      ∧ r.full = false)
    ∧ (∃ (s : State) (b : Bool) (up : Bool), blocksUp s = true ∧ linkUp s b ≠ up ∧ s.eth.on.getD (b2n b) false = true)
    ∧ (∃ (s : State) (p : List Byte), blocksUp s = true ∧ fieldAt p 2 1 ≠ 1 ∧ fieldAt p 1 1 = 1)
    ∧ (∃ (s : State) (p : List Byte), blocksUp s = true ∧ fieldAt p 2 1 = 1 ∧ fieldAt p 1 1 = 1)
    ∧ (∃ (s : State) (qp : Nat) (e : Entry), 33 ≤ qp ∧ qp ≤ 35 ∧ Goes s qp 64 e ∧ memBad s e.addr e.len = false
      ∧ svcOfQp qp (bits e.arg0 23 16) = true
      ∧ (let dst := e.arg0 % 2 ^ 15; let c := crcEgress s (bits e.arg0 23 16) (dst % 2 ^ 14) (memBytes s e.addr e.len); let u := pepperWait c.2 4 (b2n ((routeOf c.2 (dst % 2 ^ 14)).getD false)); (ethSend u (qp - 32) (bits e.arg0 23 16) dst c.1).isSome = true))
    ∧ (∃ (s : State) (qp : Nat) (e : Entry), 33 ≤ qp ∧ qp ≤ 35 ∧ Goes s qp 64 e ∧ memBad s e.addr e.len = false
      ∧ svcOfQp qp (bits e.arg0 23 16) = true
      ∧ (let dst := e.arg0 % 2 ^ 15; (let c := crcEgress s (bits e.arg0 23 16) (dst % 2 ^ 14) (memBytes s e.addr e.len); (let u := pepperWait c.2 4 (b2n ((routeOf c.2 (dst % 2 ^ 14)).getD false)); ethSend u (qp - 32) (bits e.arg0 23 16) dst c.1 = none))))
    ∧ (∃ (s : State) (qp : Nat) (e : Entry), 33 ≤ qp ∧ qp ≤ 35 ∧ Goes s qp 64 e ∧ memBad s e.addr e.len = false ∧ svcOfQp qp (bits e.arg0 23 16) = false) :=
  ⟨⟨ringUp (it up 36 1 (lay 10 [(0, 2, 0x41), (2, 1, 8)])), true, [], { fcsOk := true, agoNs := 0, full := false, waitNs := 0, resNs := 0, preempts := 0 }, by decide +kernel⟩,
   ⟨ringUp (it up 36 1 (lay 10 [(0, 2, 0x41), (2, 1, 8)])), true, lay 14 [(12, 1, 0x88), (13, 1, 8)], by decide +kernel⟩,
   ⟨up, true, by decide +kernel⟩,
   ⟨ringUp (it up 36 1 (lay 10 [(0, 2, 0x41), (2, 1, 8)])), true, ringFr 0 0x41, { fcsOk := true, agoNs := 0, full := false, waitNs := 0, resNs := 0, preempts := 0 }, by decide +kernel⟩,
   ⟨ringUp (it up 36 1 (lay 10 [(0, 2, 0x41), (2, 1, 8)])), true, ringFr 0 0x42, { fcsOk := true, agoNs := 0, full := false, waitNs := 0, resNs := 0, preempts := 0 }, by decide +kernel⟩,
   ⟨ringUp (it up 36 1 (lay 10 [(0, 2, 0x41), (2, 1, 8)])), false, ringFr 1 0x42, { fcsOk := true, agoNs := 0, full := false, waitNs := 0, resNs := 0, preempts := 0 }, by decide +kernel⟩,
   ⟨{ up with eth := { up.eth with on := [true, true] } }, true, true, by decide +kernel⟩,
   ⟨ringUp (it up 36 1 (lay 10 [(0, 2, 0x41), (2, 1, 8)])), by8 [3, 1, 0], by decide +kernel⟩,
   ⟨ringUp (it up 36 1 (lay 10 [(0, 2, 0x41), (2, 1, 8)])), by8 [3, 1, 1], by decide +kernel⟩,
   ⟨qe (ringUp (it up 36 1 (lay 10 [(0, 2, 0x41), (2, 1, 8)]))) 35 { en 0x40 with arg0 := 0x3F0042 }, 35, { en 0x40 with arg0 := 0x3F0042 }, by decide +kernel⟩,
   ⟨qe (it up 36 1 (lay 10 [(0, 2, 0x41), (2, 1, 8)])) 35 ({ en 0x40 with arg0 := 0x3F0042 }), 35, { en 0x40 with arg0 := 0x3F0042 }, by decide +kernel⟩,
   ⟨qe (ringUp (it up 36 1 (lay 10 [(0, 2, 0x41), (2, 1, 8)]))) 35 ({ en 0x40 with arg0 := 0x100000 }), 35, { en 0x40 with arg0 := 0x100000 }, by decide +kernel⟩⟩

theorem test_wit_PtpRowsAct :
    (∃ (s : State) (b : Bool) (m : List Byte), portUp s b = true ∧ crossOk s (6 + b2n b) = true ∧ crossOk s 9 = true ∧ msgDomain s m = none
      ∧ beAt m 0 1 % 16 ≠ 0 ∧ ethForwards s = true)
    ∧ (∃ (s : State) (b : Bool) (m : List Byte), portUp s b = true ∧ crossOk s (6 + b2n b) = true ∧ crossOk s 9 = true ∧ msgDomain s m = none
      ∧ beAt m 0 1 % 16 = 0 ∧ bitOf (beAt m 6 1) 1 = true ∧ ethForwards s = true
      ∧ List.find? (fun h => decide (h.1 = b) && decide (msgKey h.2 = msgKey m)) s.ptp.held = none)
    ∧ (∃ (s : State) (b : Bool) (m : List Byte) (d : Nat), portUp s b = true ∧ crossOk s (6 + b2n b) = true ∧ crossOk s 9 = true
      ∧ msgDomain s m = some d ∧ beAt m 0 1 % 16 = 0 ∧ ethForwards s = false)
    ∧ (∃ (s : State) (b : Bool) (m : List Byte) (d : Nat), portUp s b = true ∧ crossOk s (6 + b2n b) = true ∧ crossOk s 9 = true
      ∧ msgDomain s m = some d ∧ beAt m 0 1 % 16 ≠ 0 ∧ ethForwards s = true ∧ passesOn s (some d) (beAt m 0 1 % 16) = true)
    ∧ (∃ (s : State) (b : Bool), (portUp s b = false ∨ crossOk s (6 + b2n b) = false ∨ crossOk s 9 = false))
    ∧ (∃ (s : State) (b : Bool) (m : List Byte), portUp s b = true ∧ crossOk s (6 + b2n b) = true ∧ crossOk s 9 = true ∧ msgDomain s m = none
      ∧ ethForwards s = true ∧ beAt m 0 1 % 16 ≠ 8)
    ∧ (∃ (s : State) (b : Bool) (m : List Byte) (y : Bool × List Byte × Nat × Nat), portUp s b = true ∧ crossOk s (6 + b2n b) = true
      ∧ crossOk s 9 = true ∧ msgDomain s m = none ∧ ethForwards s = true ∧ beAt m 0 1 % 16 = 8
      ∧ List.find? (fun y => decide (y.1 = b) && decide (y.2.1 = msgKey m)) s.ptp.syncs = some y)
    ∧ (∃ (s : State) (b : Bool) (m : List Byte), portUp s b = true ∧ crossOk s (6 + b2n b) = true ∧ crossOk s 9 = true ∧ msgDomain s m = none
      ∧ ethForwards s = true ∧ beAt m 0 1 % 16 = 8 ∧ List.find? (fun y => decide (y.1 = b) && decide (y.2.1 = msgKey m)) s.ptp.syncs = none)
    ∧ (∃ (s : State) (h : Bool × List Byte) (l : List (Bool × List Byte)), s.ptp.held = h :: l)
    ∧ (∃ (s : State) (e : Entry), Goes s 37 64 e ∧ e.arg0 ≤ 1 ∧ e.arg0 ≠ ptpSel s ∧ flag s R.PTP_STATUS_ACQ = true)
    ∧ (∃ (s : State) (e : Entry), Goes s 37 64 e ∧ e.arg0 = ptpSel s)
    ∧ (∃ (s : State) (e : Entry), Goes s 37 65 e ∧ (let d := e.arg0 % 2; d = ptpSel s ∧ bitOf e.arg0 1 = true ∧ flag s R.PTP_STATUS_ACQ = false))
    ∧ (∃ (s : State) (e : Entry), Goes s 37 65 e ∧ (let d := e.arg0 % 2; (d ≠ ptpSel s ∨ bitOf e.arg0 1 = false ∨ flag s R.PTP_STATUS_ACQ = true)))
    ∧ (∃ (s : State) (e : Entry), Goes s 37 66 e ∧ memBad s e.addr e.len = false ∧ e.arg0 % 2 = ptpSel s ∧ flag s R.PTP_STATUS_ACQ = true ∧ bitOf e.arg0 1 = true)
    ∧ (∃ (s : State) (e : Entry), Goes s 37 66 e ∧ memBad s e.addr e.len = false)
    ∧ (∃ (s : State) (e : Entry), Goes s 37 67 e ∧ memBad s e.addr e.len = false ∧ bitOf e.arg0 0 = false ∧ bitOf e.arg0 1 = false)
    ∧ (∃ (s : State) (e : Entry), Goes s 37 67 e ∧ memBad s e.addr e.len = false ∧ bitOf e.arg0 0 = true ∧ portUp s false = true ∧ bitOf e.arg0 1 = false)
    ∧ (∃ (s : State) (d : Nat), ptpRuns s = true ∧ d ≤ 1 ∧ domEn s d = true ∧ ptpSel s = d ∧ cfgU s 37 3 0 1 ≠ 1)
    ∧ (∃ (s : State), s.ptp.s = 0)
    ∧ (∃ (s : State), s.ptp.s ≠ 0 ∧ ptpRuns s = true ∧ ptpInc s (ptpSel s) * cfgU s 37 3 2 2 ≠ 0)
    ∧ (∃ (s : State), ptpRuns s = true) :=
  ⟨⟨ringUp up, true, by8 [1], by decide +kernel⟩,
   ⟨ringUp up, true, by8 [0, 0, 0, 0, 0, 0, 2], by decide +kernel⟩,
   ⟨fl (inSt (ringUp up) .start) [R.PTP_STATUS_D0_EN], true, [], 0, by decide +kernel⟩,
   ⟨fl (ringUp up) [R.PTP_STATUS_D0_EN], true, by8 [1], 0, by decide +kernel⟩,
   ⟨up, true, by decide +kernel⟩,
   ⟨ringUp up, true, [], by decide +kernel⟩,
   ⟨{ (ringUp up) with ptp := { up.ptp with syncs := [(true, [], 0, 0)] } }, true, by8 [8], (true, [], 0, 0), by decide +kernel⟩,
   ⟨ringUp up, true, by8 [8], by decide +kernel⟩,
   ⟨{ up with ptp := { up.ptp with held := [(true, [])] } }, (true, []), [], by decide +kernel⟩,
   ⟨qe (fl up [R.PTP_STATUS_ACQ]) 37 ({ en 0x40 with arg0 := 1 }), { en 0x40 with arg0 := 1 }, by decide +kernel⟩,
   ⟨qe (ringUp up) 37 (en 64), en 64, by decide +kernel⟩,
   ⟨qe (ringUp up) 37 ({ en 0x41 with arg0 := 2 }), { en 0x41 with arg0 := 2 }, by decide +kernel⟩,
   ⟨qe (ringUp up) 37 ({ en 0x41 with arg0 := 1 }), { en 0x41 with arg0 := 1 }, by decide +kernel⟩,
   ⟨qe (fl up [R.PTP_STATUS_ACQ]) 37 ({ en 0x42 with arg0 := 2 }), { en 0x42 with arg0 := 2 }, by decide +kernel⟩,
   ⟨qe (ringUp up) 37 (en 66), en 66, by decide +kernel⟩,
   ⟨qe (ringUp up) 37 (en 67), en 67, by decide +kernel⟩,
   ⟨qe (ringUp up) 37 ({ en 0x43 with arg0 := 1 }), { en 0x43 with arg0 := 1 }, by decide +kernel⟩,
   ⟨it (fl up [R.PTP_STATUS_RUN, R.PTP_STATUS_D0_EN]) 37 3 [], 0, by decide +kernel⟩,
   ⟨up, by decide +kernel⟩,
   ⟨it { (wr (fl up [R.PTP_STATUS_RUN]) R.PTP_INC0_INC 0x40000000) with ptp := { up.ptp with s := 5 } } 37 3 (by8 [0, 0, 1, 0]), by decide +kernel⟩,
   ⟨fl up [R.PTP_STATUS_RUN], by decide +kernel⟩⟩

theorem test_wit_CanRowsAct :
    (∃ (s : State) (n : Nat) (fr : CanFrame), canLive s n = true ∧ crossOk s 8 = true ∧ fr.fdf = false
      ∧ List.find? (objMatches (canFollow (rxGood (canNotAlone (bump s (R.CAN_RX_CNT_COUNT n)) n) n) n) n fr) (List.range 128) = none)
    ∧ (∃ (s : State) (n : Nat) (fr : CanFrame) (k : Nat), canLive s n = true ∧ crossOk s 8 = true ∧ fr.fdf = false
      ∧ List.find? (objMatches (canFollow (rxGood (canNotAlone (bump s (R.CAN_RX_CNT_COUNT n)) n) n) n) n fr) (List.range 128) = some k
      ∧ objStl s n k = false ∧ objDir s n k = 2)
    ∧ (∃ (s : State) (n : Nat) (fr : CanFrame), canLive s n = true ∧ crossOk s 8 = false ∧ fr.fdf = false)
    ∧ (∃ (s : State) (n : Nat) (fr : CanFrame), canLive s n = true ∧ fr.fdf = true ∧ canU s n 1 1 = 0)
    ∧ (∃ (s : State) (n : Nat) (k : Nat), canLive s n = true ∧ n < s.can.length ∧ (canAt s n).attempt = none ∧ canU s n 0 1 ≠ 1 ∧ canPick s n = some k)
    ∧ (∃ (s : State) (n : Nat) (k : Nat), canUp s n = true ∧ (canAt s n).attempt = some (k, false) ∧ canU s n 0 1 = 0 ∧ (canAt s n).stopping = false ∧ canU s n 14 1 = 0)
    ∧ (∃ (s : State) (n : Nat) (k : Nat), canUp s n = true ∧ (canAt s n).attempt = some (k, false) ∧ objFlag s n k 4 = false
      ∧ (objAt s n k).next = none ∧ canU s n 14 1 = 0)
    ∧ (∃ (s : State) (n : Nat) (k : Nat) (c : Bool), canUp s n = true ∧ (canAt s n).attempt = some (k, c))
    ∧ (∃ (s : State) (n : Nat), n < 3 ∧ canLive s n = true ∧ canU s n 0 1 ≠ 1)
    ∧ (∃ (s : State) (n : Nat), n < 3 ∧ canLive s n = true ∧ canU s n 2 1 = 1)
    ∧ (∃ (s : State) (n : Nat), canU s n 2 1 ≠ 1)
    ∧ (∃ (s : State) (n : Nat) (e : Entry), n < 3 ∧ Goes s (38 + n) 64 e ∧ n < s.can.length ∧ objStl s n (e.arg0 % 128) = false
      ∧ objDir s n (e.arg0 % 128) = 1 ∧ canSt s n ≠ 0 ∧ canU s n 0 1 ≠ 1 ∧ memBad s e.addr e.len = false ∧ (canAt s n).attempt = none
      ∧ objPend s n (e.arg0 % 128) = false)
    ∧ (∃ (s : State) (n : Nat) (e : Entry), n < 3 ∧ Goes s (38 + n) 65 e ∧ objStl s n (e.arg0 % 128) = false ∧ objDir s n (e.arg0 % 128) = 1
      ∧ (canAt s n).attempt = none ∧ objPend s n (e.arg0 % 128) = false)
    ∧ (∃ (s : State) (n : Nat) (e : Entry), n < 3 ∧ Goes s (38 + n) 65 e ∧ objStl s n (e.arg0 % 128) = false ∧ objDir s n (e.arg0 % 128) = 1
      ∧ (canAt s n).attempt = none ∧ objPend s n (e.arg0 % 128) = true)
    ∧ (∃ (s : State) (n : Nat) (e : Entry), n < 3 ∧ Goes s (38 + n) 66 e ∧ canSt s n = 4)
    ∧ (∃ (s : State) (n : Nat) (e : Entry), n < 3 ∧ Goes s (38 + n) 66 e ∧ canSt s n ≠ 4)
    ∧ (∃ (s : State) (n : Nat), canUp s n = true ∧ canSt s n = 4 ∧ canU s n 3 1 = 1)
    ∧ (∃ (s : State) (n : Nat), canUp s n = true ∧ canSt s n = 5)
    ∧ (∃ (s : State) (n : Nat), canUp s n = true ∧ canSt s n = 1) :=
  ⟨⟨canIn 2 1, 2, fr0, by decide +kernel⟩,
   ⟨canIn 2 2, 2, fr0, 127, by decide +kernel⟩,
   ⟨wr (canIn 2 1) R.CLK_XSTAT_TWO_FLOP (2 ^ 8), 2, fr0, by decide +kernel⟩,
   ⟨it (canIn 2 1) 40 1 [], 2, { fr0 with fdf := true }, by decide +kernel⟩,
   ⟨put (wr (canIn 2 1) (R.CAN_TXPEND_PEND 2 3) 0x80000000) R.QMGR_GSTATUS_READY true, 2, 127, by decide +kernel⟩,
   ⟨{ it (canIn 2 1) 40 1 [] with can := modAt up.can 2 (fun c => { c with attempt := some (127, false) }) }, 2, 127, by decide +kernel⟩,
   ⟨{ it (canIn 2 1) 40 1 [] with can := modAt up.can 2 (fun c => { c with attempt := some (127, false) }) }, 2, 127, by decide +kernel⟩,
   ⟨{ it (canIn 2 1) 40 1 [] with can := modAt up.can 2 (fun c => { c with attempt := some (127, false) }) }, 2, 127, false, by decide +kernel⟩,
   ⟨canIn 2 1, 2, by decide +kernel⟩,
   ⟨it (canIn 2 1) 40 1 (by8 [0, 0, 1]), 2, by decide +kernel⟩,
   ⟨it (canIn 2 1) 40 1 [], 2, by decide +kernel⟩,
   ⟨qe (canIn 2 1) ((38 + 2)) ({ en 0x40 with arg0 := 127 }), 2, { en 0x40 with arg0 := 127 }, by decide +kernel⟩,
   ⟨qe (canIn 2 1) ((38 + 2)) ({ en 0x41 with arg0 := 127 }), 2, { en 0x41 with arg0 := 127 }, by decide +kernel⟩,
   ⟨qe (put (wr (canIn 2 1) (R.CAN_TXPEND_PEND 2 3) 0x80000000) R.QMGR_GSTATUS_READY true) ((38 + 2)) ({ en 0x41 with arg0 := 127 }), 2, { en 0x41 with arg0 := 127 }, by decide +kernel⟩,
   ⟨qe (canIn 4 1) ((38 + 2)) (en 66), 2, en 66, by decide +kernel⟩,
   ⟨qe (canIn 2 1) ((38 + 2)) (en 66), 2, en 66, by decide +kernel⟩,
   ⟨it (canIn 4 1) 40 1 (by8 [0, 0, 0, 1]), 2, by decide +kernel⟩,
   ⟨canIn 5 1, 2, by decide +kernel⟩,
   ⟨canIn 1 1, 2, by decide +kernel⟩⟩

theorem test_wit_ImageRowsAct :
    (∃ (s : State) (e : Entry) (c : Nat), Goes s 4 64 e ∧ memBad s e.addr e.len = false ∧ (let h := memBytes s e.addr e.len; hdrCause s h (hdrSigned h) = some c))
    ∧ ((∀ pub, hdrSigned hg pub = true) → (∃ s e, Goes s 4 0x40 e ∧ memBad s e.addr e.len = false ∧ memBytes s e.addr e.len = hg
      ∧ hdrCause s hg (hdrSigned hg) = none ∧ rxSlot s (hdrTarget hg) = none)
      ∧ (∃ s e, Goes s 4 0x40 e ∧ memBad s e.addr e.len = false ∧ memBytes s e.addr e.len = hg ∧ hdrCause s hg (hdrSigned hg) = none
      ∧ (rxSlot s (hdrTarget hg)).isSome = true ∧ s.upd.rx.isSome = true)
      ∧ (∃ s e, Goes s 4 0x40 e ∧ memBad s e.addr e.len = false ∧ memBytes s e.addr e.len = hg ∧ hdrCause s hg (hdrSigned hg) = none
      ∧ (rxSlot s (hdrTarget hg)).isSome = true ∧ s.upd.rx = none ∧ storTakes s = false)
      ∧ (∃ s e, Goes s 4 0x40 e ∧ memBad s e.addr e.len = false ∧ memBytes s e.addr e.len = hg ∧ hdrCause s hg (hdrSigned hg) = none
      ∧ (rxSlot s (hdrTarget hg)).isSome = true ∧ s.upd.rx = none ∧ storTakes s = true))
    ∧ (∃ (s : State) (e : Entry) (r : UpdRx), Goes s 4 65 e ∧ s.upd.rx = some r ∧ r.src = updHost ∧ r.verifying = false ∧ e.arg0 = r.next
      ∧ r.next < chunkCount (hdrLength (imgAt s r.slot).hdr) ∧ e.len = chunkLen (hdrLength (imgAt s r.slot).hdr) r.next
      ∧ memBad s e.addr e.len = false ∧ storTakes s = true)
    ∧ (∃ (s : State) (e : Entry) (r : UpdRx), Goes s 4 65 e ∧ s.upd.rx = some r ∧ r.src = updHost ∧ r.verifying = false
      ∧ (chunkCount (hdrLength (imgAt s r.slot).hdr) ≤ e.arg0 ∨ r.next < e.arg0 ∨ e.len ≠ chunkLen (hdrLength (imgAt s r.slot).hdr) e.arg0))
    ∧ (∃ (s : State) (e : Entry) (r : UpdRx), Goes s 4 66 e ∧ s.upd.rx = some r ∧ r.src = updHost ∧ r.verifying = false
      ∧ r.next = chunkCount (hdrLength (imgAt s r.slot).hdr))
    ∧ (∃ (s : State) (r : UpdRx), fullUp s = true ∧ s.upd.rx = some r ∧ r.verifying = true ∧ r.src = updHost ∧ storTakes (rxEnd s) = true)
    ∧ (∃ (s : State) (r : UpdRx), fullUp s = true ∧ s.upd.rx = some r ∧ r.verifying = true ∧ r.src = updHost
      ∧ storTakes (rxEnd (errRise s R.STOR_ERR_IMG_UE r.slot 0)) = true)
    ∧ (∃ (s : State) (e : Entry), s.upd.rx = none ∧ Goes s 4 65 e)
    ∧ (∃ (s : State) (e : Entry), s.upd.rx = none ∧ Goes s 4 66 e)
    ∧ (∃ (s : State) (e : Entry), s.upd.rx = none ∧ Goes s 4 67 e)
    ∧ (∃ (s : State) (e : Entry), Goes s 4 68 e ∧ slotSt s e.arg0 ≠ slotValid ∧ slotSt s e.arg0 ≠ slotRunning)
    ∧ (∃ (s : State) (e : Entry) (r : UpdRx), Goes s 4 67 e ∧ s.upd.rx = some r ∧ r.src = updHost ∧ r.verifying = false)
    ∧ (∃ (s : State) (e : Entry), Goes s 4 68 e ∧ s.upd.fwd = none ∧ (slotSt s e.arg0 = slotValid ∨ slotSt s e.arg0 = slotRunning))
    ∧ (∃ (s : State) (p : List Byte) (k : Nat), fullUp s = true ∧ 32 ≤ p.length ∧ fieldAt p 0 1 = 1 ∧ s.upd.rx = none ∧ cfgU s 4 1 4 1 = 1
      ∧ cfgU s 4 1 0 1 ≠ 1 ∧ (List.take 512 (List.drop 32 p)).length = 512 ∧ rxSlot s (hdrTarget (List.take 512 (List.drop 32 p))) = some k
      ∧ storTakes s = true)
    ∧ (∃ (s : State) (src : Nat) (p : List Byte) (f : UpdFwd), fullUp s = true ∧ 32 ≤ p.length ∧ fieldAt p 0 1 = 2 ∧ fwdFor s src p = some f ∧ f.accepted = false)
    ∧ (∃ (s : State) (src : Nat) (p : List Byte) (f : UpdFwd), fullUp s = true ∧ 32 ≤ p.length ∧ fieldAt p 0 1 = 3 ∧ fwdFor s src p = some f)
    ∧ (∃ (s : State) (src : Nat) (p : List Byte) (r : UpdRx), fullUp s = true ∧ 32 ≤ p.length ∧ fieldAt p 0 1 = 4 ∧ s.upd.rx = some r ∧ r.src = src
      ∧ r.xfer = updXfer p ∧ r.verifying = false ∧ updChunk p < chunkCount (hdrLength (imgAt s r.slot).hdr)
      ∧ ((have want := min 1024 (chunkLen (hdrLength (imgAt s r.slot).hdr) (updChunk p) - 1024 * fieldAt p 6 1); want ≠ 0
      ∧ (List.take (fieldAt p 8 2) (List.drop 32 p)).length = want)) ∧ r.next ≤ updChunk p
      ∧ (r.frags.any fun f => decide (f.1 = updChunk p) && decide (f.2.1 = fieldAt p 6 1)) = false)
    ∧ (∃ (s : State) (p : List Byte), fullUp s = true ∧ 32 ≤ p.length ∧ fieldAt p 0 1 = 4 ∧ s.upd.rx = none)
    ∧ (∃ (s : State) (src : Nat) (p : List Byte) (f : UpdFwd), fullUp s = true ∧ 32 ≤ p.length ∧ fieldAt p 0 1 = 5 ∧ fwdFor s src p = some f
      ∧ f.done = true ∧ updChunk p = 65535)
    ∧ (∃ (s : State) (src : Nat) (p : List Byte) (f : UpdFwd), fullUp s = true ∧ 32 ≤ p.length ∧ fieldAt p 0 1 = 5 ∧ fwdFor s src p = some f
      ∧ f.done = false ∧ f.accepted = true ∧ (f.unacked.any fun u => decide (u.1 = updChunk p)) = true)
    ∧ (∃ (s : State) (src : Nat) (p : List Byte) (f : UpdFwd), fullUp s = true ∧ 32 ≤ p.length ∧ fieldAt p 0 1 = 6 ∧ fwdFor s src p = some f
      ∧ f.done = false ∧ f.accepted = true)
    ∧ (∃ (s : State) (src : Nat) (p : List Byte) (r : UpdRx), fullUp s = true ∧ 32 ≤ p.length ∧ fieldAt p 0 1 = 7 ∧ s.upd.rx = some r ∧ r.src = src
      ∧ r.xfer = updXfer p ∧ r.next = chunkCount (hdrLength (imgAt s r.slot).hdr))
    ∧ (∃ (s : State) (src : Nat) (p : List Byte) (r : UpdRx), fullUp s = true ∧ 32 ≤ p.length ∧ fieldAt p 0 1 = 8 ∧ s.upd.fwd = none
      ∧ s.upd.rx = some r ∧ r.src = src ∧ r.xfer = updXfer p)
    ∧ (∃ (s : State) (p : List Byte), fullUp s = true ∧ 32 ≤ p.length ∧ fieldAt p 0 1 = 9)
    ∧ (∃ (s : State) (f : UpdFwd) (c : Nat) (n : Nat), fullUp s = true ∧ s.upd.fwd = some f ∧ List.find? (fun u => decide (u.1 = c)) f.unacked = some (c, n) ∧ 5 ≤ n)
    ∧ (∃ (s : State) (f : UpdFwd) (c : Nat) (n : Nat), fullUp s = true ∧ s.upd.fwd = some f
      ∧ List.find? (fun u => decide (u.1 = c)) f.unacked = some (c, n) ∧ n < 5 ∧ c ≠ 65535) :=
  ⟨⟨qe (slots up [3, 0, 2, 0] hdr1) 4 (en 64), en 64, 1, by decide +kernel⟩,
   fun ha => ⟨⟨qe (memWrite (slots up [slotFallback, slotTrial, 0, 0] hg) 0x1000 hg) 4 { en 0x40 with len := 512 }, { en 0x40 with len := 512 }, by decide +kernel, by decide +kernel, by decide +kernel, hg_cause _ ha (by decide +kernel) (by decide +kernel), by decide +kernel⟩,
     ⟨qe (memWrite (inRx (slots up [3, 0, 0, 0] hg) rx0) 0x1000 hg) 4 { en 0x40 with len := 512 }, { en 0x40 with len := 512 }, by decide +kernel, by decide +kernel, by decide +kernel, hg_cause _ ha (by decide +kernel) (by decide +kernel), by decide +kernel⟩,
     ⟨qe (memWrite (put (slots up [3, 0, 0, 0] hg) R.STOR_STATUS_READY false) 0x1000 hg) 4 { en 0x40 with len := 512 }, { en 0x40 with len := 512 }, by decide +kernel, by decide +kernel, by decide +kernel, hg_cause _ ha (by decide +kernel) (by decide +kernel), by decide +kernel⟩,
     ⟨qe (memWrite (slots up [3, 0, 0, 0] hg) 0x1000 hg) 4 { en 0x40 with len := 512 }, { en 0x40 with len := 512 }, by decide +kernel, by decide +kernel, by decide +kernel, hg_cause _ ha (by decide +kernel) (by decide +kernel), by decide +kernel⟩⟩,
   ⟨qe (inRx (slots up [3, 0, 2, 0] hdr1) rx0) 4 ({ en 0x41 with len := 1 }), { en 0x41 with len := 1 }, rx0, by decide +kernel⟩,
   ⟨qe (inRx (slots up [3, 0, 2, 0] hdr1) rx0) 4 ({ en 0x41 with len := 2 }), { en 0x41 with len := 2 }, rx0, by decide +kernel⟩,
   ⟨qe (inRx (slots up [3, 0, 2, 0] hdr1) { rx0 with next := 1 }) 4 (en 66), en 66, { rx0 with next := 1 }, by decide +kernel⟩,
   ⟨inRx (slots up [3, 0, 2, 0] hdr1) {  rx0 with next := 1 , verifying := true }, {  rx0 with next := 1 , verifying := true }, by decide +kernel⟩,
   ⟨inRx (slots up [3, 0, 2, 0] hdr1) {  rx0 with next := 1 , verifying := true }, {  rx0 with next := 1 , verifying := true }, by decide +kernel⟩,
   ⟨qe (slots up [3, 0, 2, 0] hdr1) 4 (en 65), en 65, by decide +kernel⟩,
   ⟨qe (slots up [3, 0, 2, 0] hdr1) 4 (en 66), en 66, by decide +kernel⟩,
   ⟨qe (slots up [3, 0, 2, 0] hdr1) 4 (en 67), en 67, by decide +kernel⟩,
   ⟨qe (slots up [3, 0, 2, 0] hdr1) 4 ({ en 0x44 with arg0 := 1 }), { en 0x44 with arg0 := 1 }, by decide +kernel⟩,
   ⟨qe (inRx (slots up [3, 0, 2, 0] hdr1) rx0) 4 (en 67), en 67, rx0, by decide +kernel⟩,
   ⟨qe (slots up [3, 0, 2, 0] hdr1) 4 ({ en 0x44 with arg0 := 2 }), { en 0x44 with arg0 := 2 }, by decide +kernel⟩,
   ⟨it (slots up [3, 0, 2, 0] hdr1) 4 1 (by8 [0, 0, 0, 0, 1]), lay 32 [(0, 1, 1)] ++ hdr1, 2, by decide +kernel⟩,
   ⟨inFwd up { fwd0 with accepted := false }, 0x41, lay 32 [(0, 1, 2)], { fwd0 with accepted := false }, by decide +kernel⟩,
   ⟨inFwd up fwd0, 0x41, lay 32 [(0, 1, 3)], fwd0, by decide +kernel⟩,
   ⟨inRx (slots up [3, 0, 2, 0] hdr1) { rx0 with src := 0x41 }, 0x41, lay 33 [(0, 1, 4), (8, 2, 1)], { rx0 with src := 0x41 }, by decide +kernel⟩,
   ⟨up, lay 32 [(0, 1, 4)], by decide +kernel⟩,
   ⟨inFwd up { fwd0 with done := true }, 0x41, lay 32 [(0, 1, 5), (4, 2, 65535)], { fwd0 with done := true }, by decide +kernel⟩,
   ⟨inFwd up fwd0, 0x41, lay 32 [(0, 1, 5)], fwd0, by decide +kernel⟩,
   ⟨inFwd up fwd0, 0x41, lay 32 [(0, 1, 6)], fwd0, by decide +kernel⟩,
   ⟨inRx (slots up [3, 0, 2, 0] hdr1) { rx0 with src := 0x41, next := 1 }, 0x41, lay 32 [(0, 1, 7)], { rx0 with src := 0x41, next := 1 }, by decide +kernel⟩,
   ⟨inRx (slots up [3, 0, 2, 0] hdr1) { rx0 with src := 0x41 }, 0x41, lay 32 [(0, 1, 8)], { rx0 with src := 0x41 }, by decide +kernel⟩,
   ⟨slots up [3, 0, 2, 0] hdr1, lay 32 [(0, 1, 9)], by decide +kernel⟩,
   ⟨inFwd up { fwd0 with unacked := [(0, 5)] }, { fwd0 with unacked := [(0, 5)] }, 0, 5, by decide +kernel⟩,
   ⟨inFwd up { fwd0 with unacked := [(0, 4)] }, { fwd0 with unacked := [(0, 4)] }, 0, 4, by decide +kernel⟩⟩

theorem test_wit_ActivationRowsAct :
    (∃ (s : State) (e : Entry), Goes s 5 64 e ∧ s.upd.ho = none ∧ s.upd.query = none ∧ slotSt s e.arg0 = slotValid ∧ setPair s = false ∧ storTakes s = true)
    ∧ (∃ (s : State) (e : Entry), Goes s 5 64 e ∧ setPair s = false ∧ (s.upd.ho.isSome = true ∨ s.upd.query.isSome = true))
    ∧ (∃ (s : State) (e : Entry), Goes s 5 64 e ∧ s.upd.ho = none ∧ s.upd.query = none ∧ slotSt s e.arg0 = slotValid ∧ setPair s = true
      ∧ slotTarget e.arg0 ≠ 4 ∧ storTakes s = true ∧ (role s = roleActive ∨ role s = roleStandby))
    ∧ (∃ (s : State) (e : Entry), Goes s 5 64 e ∧ setPair s = true ∧ role s ≠ roleStandby ∧ role s ≠ roleActive)
    ∧ (∃ (s : State) (e : Entry), Goes s 5 64 e ∧ setPair s = false ∧ s.upd.ho = none ∧ s.upd.query = none ∧ slotSt s e.arg0 ≠ slotValid)
    ∧ (∃ (s : State) (e : Entry) (h : UpdHo), Goes s 5 65 e ∧ readyWaits s = true ∧ s.upd.ho = some h ∧ h.pair = false ∧ h.ready = false
      ∧ clusterOf e.level = some (1 - h.old))
    ∧ (∃ (s : State) (e : Entry) (h : UpdHo), Goes s 5 65 e ∧ readyWaits s = true ∧ s.upd.ho = some h
      ∧ (h.pair = true ∨ h.ready = true ∨ clusterOf e.level ≠ some (1 - h.old)))
    ∧ (∃ (s : State) (h : UpdHo), readyWaits s = false ∧ s.upd.ho = some h ∧ h.pair = false ∧ h.ready = false ∧ fullUp s = true)
    ∧ (∃ (s : State) (e : Entry) (h : UpdHo), Goes s 5 66 e ∧ s.upd.ho = some h ∧ h.pair = false ∧ h.ready = true ∧ h.swapped = false ∧ clusterOf e.level = some h.old)
    ∧ (∃ (s : State) (e : Entry) (h : UpdHo), Goes s 5 67 e ∧ s.upd.ho = some h ∧ h.pair = false ∧ h.swapped = true ∧ h.back = false
      ∧ h.windowDone = true ∧ clusterOf e.level = some (1 - h.old) ∧ storTakes s = true)
    ∧ (∃ (s : State) (e : Entry) (h : UpdHo), Goes s 5 67 e ∧ s.upd.ho = some h ∧ h.pair = false ∧ h.swapped = true ∧ h.back = false
      ∧ h.windowDone = false ∧ clusterOf e.level = some (1 - h.old))
    ∧ (∃ (s : State) (e : Entry) (h : UpdHo), Goes s 5 68 e ∧ s.upd.ho = some h ∧ h.pair = false ∧ h.swapped = true ∧ flag s R.UPD_STATUS_HOLD_WIN = false)
    ∧ (∃ (s : State), windowDue s = true ∧ windowMay s = true)
    ∧ (∃ (s : State), (windowMay s = false ∨ windowDue s = false))
    ∧ (∃ (s : State), flag s R.UPD_STATUS_HOLD_WIN = true ∧ windowCheck s = true ∧ windowUs s < 38000)
    ∧ (∃ (s : State), flag s R.UPD_STATUS_HOLD_WIN = true ∧ (windowCheck s = false ∨ 38000 ≤ windowUs s))
    ∧ (∃ (s : State) (h : UpdHo), flag s R.UPD_STATUS_HOLD_WIN = true ∧ s.upd.ho = some h ∧ h.back = false)
    ∧ (∃ (s : State) (h : UpdHo), flag s R.UPD_STATUS_HOLD_WIN = false ∧ s.upd.winTrip = true ∧ s.upd.ho = some h ∧ h.back = false)
    ∧ (∃ (s : State), flag s R.UPD_STATUS_HOLD_WIN = false ∧ s.upd.winTrip = false)
    ∧ (∃ (s : State) (h : UpdHo), s.upd.ho = some h ∧ h.pair = false ∧ h.back = false ∧ s.upd.winTrip = false ∧ flag s R.UPD_STATUS_HOLD_WIN = false)
    ∧ (∃ (s : State), s.upd.query.isSome = true)
    ∧ (∃ (s : State) (src : Nat) (p : List Byte) (k : Nat), fullUp s = true ∧ 32 ≤ p.length ∧ fieldAt p 0 1 = 10 ∧ s.upd.query = some k
      ∧ src = cfgU s 32 1 4 2 ∧ fieldAt p 12 4 < hdrPairMin (imgAt s k).hdr)
    ∧ (∃ (s : State) (src : Nat) (p : List Byte) (k : Nat), fullUp s = true ∧ 32 ≤ p.length ∧ fieldAt p 0 1 = 10 ∧ s.upd.query = some k
      ∧ src = cfgU s 32 1 4 2 ∧ hdrPairMin (imgAt s k).hdr ≤ fieldAt p 12 4 ∧ (hasEntry s 5 fun e => Entry.runs 64 e && decide (8 ≤ e.note)) = false
      ∧ role s = roleActive ∧ s.red.hoWhy = 0)
    ∧ (∃ (s : State) (src : Nat) (p : List Byte) (k : Nat), fullUp s = true ∧ 32 ≤ p.length ∧ fieldAt p 0 1 = 10 ∧ s.upd.query = some k
      ∧ src = cfgU s 32 1 4 2 ∧ hdrPairMin (imgAt s k).hdr ≤ fieldAt p 12 4 ∧ role s = roleStandby) :=
  ⟨⟨qe (slots up [3, 0, 2, 0] hdr1) 5 ({ en 0x40 with arg0 := 2 }), { en 0x40 with arg0 := 2 }, by decide +kernel⟩,
   ⟨qe (inHo up ho0) 5 (en 64), en 64, by decide +kernel⟩,
   ⟨qe (slots (inPair roleActive) [3, 2, 2, 0] hdr1) 5 ({ en 0x40 with arg0 := 1 }), { en 0x40 with arg0 := 1 }, by decide +kernel⟩,
   ⟨qe (inPair roleInit) 5 (en 64), en 64, by decide +kernel⟩,
   ⟨qe (slots up [3, 0, 2, 0] hdr1) 5 (en 64), en 64, by decide +kernel⟩,
   ⟨qe (inHo (up) ho0) 5 ({ en 0x41 with level := .bM }), { en 0x41 with level := .bM }, ho0, by decide +kernel⟩,
   ⟨qe (inHo (up) ho0) 5 ({ en 0x41 with level := .aM }), { en 0x41 with level := .aM }, ho0, by decide +kernel⟩,
   ⟨inHo up ho0, ho0, by decide +kernel⟩,
   ⟨qe (inHo (up) { ho0 with ready := true }) 5 ({ en 0x42 with level := .aM }), { en 0x42 with level := .aM }, { ho0 with ready := true }, by decide +kernel⟩,
   ⟨qe (inHo (up) { ho0 with ready := true, swapped := true, windowDone := true }) 5 ({ en 0x43 with level := .bS }), { en 0x43 with level := .bS }, { ho0 with ready := true, swapped := true, windowDone := true }, by decide +kernel⟩,
   ⟨qe (inHo (up) { ho0 with ready := true, swapped := true }) 5 ({ en 0x43 with level := .bM }), { en 0x43 with level := .bM }, { ho0 with ready := true, swapped := true }, by decide +kernel⟩,
   ⟨qe (inHo (up) { ho0 with ready := true, swapped := true }) 5 ({ en 0x44 with level := .aM }), { en 0x44 with level := .aM }, { ho0 with ready := true, swapped := true }, by decide +kernel⟩,
   ⟨{ (upSafe) with upd := { up.upd with ho := some { ho0 with ready := true, swapped := true }, spOther := some 1 } }, by decide +kernel⟩,
   ⟨up, by decide +kernel⟩,
   ⟨upWin, by decide +kernel, upWin_check, by decide +kernel⟩,
   ⟨fl up [R.UPD_STATUS_HOLD_WIN], by decide +kernel⟩,
   ⟨inHo (fl up [R.UPD_STATUS_HOLD_WIN]) ho0, ho0, by decide +kernel⟩,
   ⟨{ (up) with upd := { up.upd with ho := some ho0, winTrip := true } }, ho0, by decide +kernel⟩,
   ⟨up, by decide +kernel⟩,
   ⟨inHo up ho0, ho0, by decide +kernel⟩,
   ⟨{ (up) with upd := { (up).upd with query := some 2 } }, by decide +kernel⟩,
   ⟨{ (slots up [3, 0, 2, 0] (lay 512 [(0x20, 4, 1)])) with upd := { (slots up [3, 0, 2, 0] (lay 512 [(0x20, 4, 1)])).upd with query := some 2 } }, 0, lay 32 [(0, 1, 10)], 2, by decide +kernel⟩,
   ⟨{ (inPair roleActive) with upd := { (inPair roleActive).upd with query := some 2 } }, 0, lay 32 [(0, 1, 10)], 2, by decide +kernel⟩,
   ⟨{ (inPair roleStandby) with upd := { (inPair roleStandby).upd with query := some 2 } }, 0, lay 32 [(0, 1, 10)], 2, by decide +kernel⟩⟩

theorem test_wit_OtherRowsKeepPowerAndHostMemory :
    (∃ (c : Instr) (s : State) (t : State), powerRow c = false ∧ exec c s = Host.Outcome.next t)
    ∧ (∃ (c : Instr) (s : State) (t : State), quietRow c = true ∧ exec c s = Host.Outcome.next t) :=
  ⟨⟨.nop 1, up, _, rfl, rfl⟩,
   ⟨.psFault true, up, _, rfl, rfl⟩⟩

end Sys2Proof.Tests
end

section
/-! Where a finished entry's completion goes (R87). First what the bookkeeping behind a completion leaves alone: the errors and interrupts that it
notes stand in registers of their own, so SEQ, CQ_TAIL and the bytes of the slot stay as the completion wrote them. -/

namespace Sys2Proof.Laws

open Sys2Proof Sys2Proof.Machine

/-! ### Registers of a queue pair -/

/-- An address among the registers of the queue pairs (R105). -/
abbrev InQpRegs (a : Nat) : Prop := R.QP_SQ_BASE_LO 0 ≤ a ∧ a < R.QP_SQ_BASE_LO 46

theorem InQpRegs.offRec {a : Nat} (h : InQpRegs a) : OffRec a := by
  simp only [InQpRegs, R.QP_SQ_BASE_LO] at h
  simp only [OffRec]
  omega

theorem irqPendFld_addr_ne {a : Nat} (qp : Nat) (h : InQpRegs a) : (irqPendFld qp).addr ≠ a := by
  simp only [InQpRegs, R.QP_SQ_BASE_LO] at h
  unfold irqPendFld
  split <;> simp only [R.QMGR_IRQPEND0_PEND, R.QMGR_IRQPEND0, R.QMGR_IRQPEND1_PEND, R.QMGR_IRQPEND1] <;> omega

theorem errPendFld_addr_ne {a : Nat} (qp : Nat) (h : InQpRegs a) : (errPendFld qp).addr ≠ a := by
  simp only [InQpRegs, R.QP_SQ_BASE_LO] at h
  unfold errPendFld
  split <;> simp only [R.QMGR_ERRPEND0_PEND, R.QMGR_ERRPEND0, R.QMGR_ERRPEND1_PEND, R.QMGR_ERRPEND1] <;> omega

/-! ### The bookkeeping of errors and interrupts -/

/-- An interrupt shows in IRQPEND0 or IRQPEND1: no register of a queue pair changes. -/
theorem regGet_irqCheck {a : Nat} (s : State) (qp : Nat) (h : InQpRegs a) : regGet (irqCheck s qp) a = regGet s a := by
  unfold irqCheck
  split
  · dsimp only
    rw [regGet_emit, regGet_qpMod]
    exact regGet_wr_ne _ _ _ _ (irqPendFld_addr_ne qp h)
  · rfl

theorem rd_irqCheck (s : State) (qp : Nat) (f : Fld) (h : InQpRegs f.addr) : rd (irqCheck s qp) f = rd s f := by
  unfold rd
  rw [regGet_irqCheck s qp h]

/-- Of a queue pair's registers an error completion changes ERR_CNT and LAST_ERR (R100). -/
theorem regGet_errNote {a : Nat} (s : State) (qp tag opc status : Nat) (h : InQpRegs a) (hcnt : R.QP_ERR_CNT qp ≠ a) (hlast : R.QP_LAST_ERR qp ≠ a) :
    regGet (errNote s qp tag opc status) a = regGet s a := by
  have hnoted : regGet (putBit (wr (wr (wr (bump s (R.QP_ERR_CNT_COUNT qp)) (R.QP_LAST_ERR_TAG qp) tag) (R.QP_LAST_ERR_OPC qp) opc)
      (R.QP_LAST_ERR_STATUS qp) status) (errPendFld qp) (qp % 32) true) a = regGet s a := by
    unfold putBit bump
    rw [regGet_wr_ne _ _ _ _ (errPendFld_addr_ne qp h), regGet_wr_ne _ _ _ _ hlast, regGet_wr_ne _ _ _ _ hlast, regGet_wr_ne _ _ _ _ hlast,
      regGet_wr_ne _ _ _ _ hcnt]
  unfold errNote
  dsimp only
  split
  · rfl
  · split
    · exact (regGet_record _ _ _ _ _ _ _ _ h.offRec).trans hnoted
    · exact hnoted

theorem rd_errNote (s : State) (qp tag opc status : Nat) (f : Fld) (h : InQpRegs f.addr) (hcnt : R.QP_ERR_CNT qp ≠ f.addr)
    (hlast : R.QP_LAST_ERR qp ≠ f.addr) : rd (errNote s qp tag opc status) f = rd s f := by
  unfold rd
  rw [regGet_errNote s qp tag opc status h hcnt hlast]

/-! ### A completion -/

/-- The address of the slot that a queue pair's next completion goes into (R87). -/
def cqSlotAddr (s : State) (qp : Nat) : Nat := (qpAt s qp).cqBase + 16 * (rd s (R.QP_SEQ_SEQ qp) % 2 ^ (qpAt s qp).cqLog)

/-- The bytes of a queue pair's next completion (R86, R87). -/
def cqSlotBytes (s : State) (qp : Nat) (e : Entry) (status result ext : Nat) : List Byte :=
  cqeBytes (rd s (R.QP_SEQ_SEQ qp)) e.tag e.opc status (cqPhase (rd s (R.QP_SEQ_SEQ qp)) (qpAt s qp).cqLog) (cqResult status result)
    (rd s (R.QP_STATUS_SQ_HEAD qp)) ext

/-- The state with a completion in its slot and the indices moved on, before errors and interrupts are noted. -/
def cqWritten (s : State) (qp : Nat) (e : Entry) (status result ext : Nat) : State :=
  wr (bump (memWrite (pepperWait s 2 qp) (cqSlotAddr s qp) (cqSlotBytes s qp e status result ext)) (R.QP_SEQ_SEQ qp)) (R.QP_STATUS_CQ_TAIL qp)
    ((rd s (R.QP_SEQ_SEQ qp) % 2 ^ (qpAt s qp).cqLog + 1) % 2 ^ (qpAt s qp).cqLog)

section
variable {s : State} {qp : Nat} {e : Entry} {status result ext : Nat} (hst : e.st = .done status result ext)
include hst

/-- A NOCOMP entry that ends with OK only frees its slot (R84). -/
theorem complete_eq_self (hno : status = 0 ∧ bitOf e.flags 0 = true) : complete qp s e = s := by
  unfold complete
  rw [hst]
  exact if_pos hno

/-- Any other finished entry writes its completion; what it notes beside that is errors and interrupts. -/
theorem complete_eq_noted (hcomp : ¬ (status = 0 ∧ bitOf e.flags 0 = true)) :
    complete qp s e = irqCheck (qpMod (errNote (cqWritten s qp e status result ext) qp e.tag e.opc status)
      qp (fun q => { q with unann := q.unann + 1, irqNote := q.irqNote || bitOf e.flags 1 })) qp := by
  unfold complete
  rw [hst]
  exact if_neg hcomp

/-- Host memory after a completion is that with the 16 bytes stored in the slot. -/
theorem complete_mem_eq (hcomp : ¬ (status = 0 ∧ bitOf e.flags 0 = true)) :
    (complete qp s e).mem = (memWrite s (cqSlotAddr s qp) (cqSlotBytes s qp e status result ext)).mem := by
  rw [complete_eq_noted hst hcomp, irqCheck_memeq, qpMod_mem_eq, errNote_memeq]
  simp [cqWritten, memWrite]

/-- A field of the queue pair reads after a completion as the moving of the indices left it, unless it counts or describes errors. -/
theorem rd_complete (hcomp : ¬ (status = 0 ∧ bitOf e.flags 0 = true)) (f : Fld) (h : InQpRegs f.addr) (hcnt : R.QP_ERR_CNT qp ≠ f.addr)
    (hlast : R.QP_LAST_ERR qp ≠ f.addr) : rd (complete qp s e) f = rd (cqWritten s qp e status result ext) f := by
  rw [complete_eq_noted hst hcomp, rd_irqCheck _ _ _ h, rd_qpMod, rd_errNote _ _ _ _ _ _ h hcnt hlast]

/-- The slot holds the completion, and every other byte of host memory reads as before. -/
theorem complete_fills_slot (hcomp : ¬ (status = 0 ∧ bitOf e.flags 0 = true)) :
    memBytes (complete qp s e) (cqSlotAddr s qp) 16 = cqSlotBytes s qp e status result ext
    ∧ ∀ b, b < cqSlotAddr s qp ∨ cqSlotAddr s qp + 16 ≤ b → memRd (complete qp s e) b = memRd s b := by
  have hmem := complete_mem_eq hst hcomp (s := s) (qp := qp)
  have hlen : (cqSlotBytes s qp e status result ext).length = 16 := cqe_len ..
  constructor
  · rw [memBytes_congr hmem, ← hlen]
    exact memBytes_memWrite ..
  · intro b hb
    rw [memRd_congr hmem]
    exact memRd_memWrite_out _ _ _ _ (by rwa [hlen])

/-- SEQ rises by one with each completion (R87). -/
theorem rd_seq_complete (hqp : qp < 46) (hcomp : ¬ (status = 0 ∧ bitOf e.flags 0 = true)) :
    rd (complete qp s e) (R.QP_SEQ_SEQ qp) = (rd s (R.QP_SEQ_SEQ qp) + 1) % 2 ^ 32 := by
  have hin : InQpRegs (R.QP_SEQ qp) := by simp only [InQpRegs, R.QP_SQ_BASE_LO, R.QP_SEQ]; omega
  rw [rd_complete hst hcomp (R.QP_SEQ_SEQ qp) hin (by simp [R.QP_SEQ_SEQ, R.QP_SEQ, R.QP_ERR_CNT])
    (by simp [R.QP_SEQ_SEQ, R.QP_SEQ, R.QP_LAST_ERR])]
  have hapart : Apart (R.QP_STATUS_CQ_TAIL qp) (R.QP_SEQ_SEQ qp) := .inl (by simp [R.QP_STATUS_CQ_TAIL, R.QP_STATUS, R.QP_SEQ_SEQ, R.QP_SEQ])
  have hfits : Fits (R.QP_SEQ_SEQ qp) := by simp [R.QP_SEQ_SEQ]
  unfold cqWritten
  rw [rd_wr_ne _ _ _ _ hapart, rd_bump_self _ _ hfits, rd_memWrite, rd_pepperWait _ _ _ _ hin.offRec]
  rfl

/-- CQ_TAIL points behind the slot just filled, on a ring whose indices it can hold. -/
theorem rd_cqTail_complete (hqp : qp < 46) (hlog : (qpAt s qp).cqLog ≤ 12) (hcomp : ¬ (status = 0 ∧ bitOf e.flags 0 = true)) :
    rd (complete qp s e) (R.QP_STATUS_CQ_TAIL qp)
      = (rd s (R.QP_SEQ_SEQ qp) % 2 ^ (qpAt s qp).cqLog + 1) % 2 ^ (qpAt s qp).cqLog := by
  have hin : InQpRegs (R.QP_STATUS qp) := by simp only [InQpRegs, R.QP_SQ_BASE_LO, R.QP_STATUS]; omega
  rw [rd_complete hst hcomp (R.QP_STATUS_CQ_TAIL qp) hin (by simp [R.QP_STATUS_CQ_TAIL, R.QP_STATUS, R.QP_ERR_CNT])
    (by simp [R.QP_STATUS_CQ_TAIL, R.QP_STATUS, R.QP_LAST_ERR])]
  have hfits : Fits (R.QP_STATUS_CQ_TAIL qp) := by simp [R.QP_STATUS_CQ_TAIL]
  unfold cqWritten
  rw [rd_wr_self _ _ _ hfits]
  refine Nat.mod_eq_of_lt ?_
  calc _ < 2 ^ (qpAt s qp).cqLog := Nat.mod_lt _ (by positivity)
    _ ≤ 2 ^ 12 := Nat.pow_le_pow_right (by decide) hlog

end

/-! ### Enabling -/

/-- Enabling a queue pair that may be enabled sets its SEQ to 0 (R87, R102). -/
theorem rd_seq_qpEnable (s : State) (qp : Nat) (hoff : qpOn s qp = false) (hidle : flag s (R.QP_STATUS_IDLE qp) = true) (hok : ringsOk s qp = true) :
    rd (qpEnable s qp) (R.QP_SEQ_SEQ qp) = 0 := by
  unfold qpEnable
  simp only [hoff, hidle, hok, Bool.not_true, Bool.or_false, Bool.false_eq_true, if_false, rd_qpMod]
  unfold rd
  rw [show (R.QP_SEQ_SEQ qp).addr = R.QP_SEQ qp from rfl, regGet_regSet_self]
  simp [fldGet]

end Sys2Proof.Laws

namespace Sys2Proof.Proofs

open Sys2Proof Sys2Proof.Machine Sys2Proof.Laws

/-- Settles O9: SEQ starts at 0, and each completion fills the slot of SEQ, moves SEQ and CQ_TAIL on and touches no other byte. -/
theorem completionsFillTheirSlot : Obligations.CompletionsFillTheirSlot := by
  unfold Obligations.CompletionsFillTheirSlot
  constructor
  · intro s lvl qp hwritable hoff hidle hok _
    exact ⟨qpEnable s qp, congrArg _ (if_pos hwritable), rd_seq_qpEnable s qp hoff hidle hok⟩
  · intro s qp e status result ext hst hqp hlog
    refine ⟨complete_eq_self hst, fun hcomp => ?_⟩
    obtain ⟨hslot, hothers⟩ := complete_fills_slot hst hcomp
    exact ⟨hslot, hothers, rd_seq_complete hst hqp hcomp, rd_cqTail_complete hst hqp hlog hcomp⟩

end Sys2Proof.Proofs
end

section
/-! R260: the window of MOD_TEMP inside which STOR may write, and the two flags that show it. -/

namespace Sys2Proof.Laws

open Sys2Proof Sys2Proof.Machine

/-! ### The storage-write window -/

/-- What R260 makes of a reading of MOD_TEMP: forbidden outside the outer bounds or without a reading, allowed inside the inner ones, and as it was between. -/
def writesForbidden (code : Nat) (was : Bool) : Bool :=
  if code = 0x8000 ∨ 10500 < sInt 16 code ∨ sInt 16 code < -4500 then true
  else if sInt 16 code ≤ 10000 ∧ -4000 ≤ sInt 16 code then false
  else was

theorem writesForbidden_outside {code : Nat} (was : Bool) (h : code = 0x8000 ∨ 10500 < sInt 16 code ∨ sInt 16 code < -4500) :
    writesForbidden code was = true := if_pos h

theorem writesForbidden_inside {code : Nat} (was : Bool) (hread : code ≠ 0x8000) (hhi : sInt 16 code ≤ 10000) (hlo : -4000 ≤ sInt 16 code) :
    writesForbidden code was = false := by
  have hin : ¬ (code = 0x8000 ∨ 10500 < sInt 16 code ∨ sInt 16 code < -4500) := by omega
  rw [writesForbidden, if_neg hin, if_pos ⟨hhi, hlo⟩]

theorem writesForbidden_between {code : Nat} (was : Bool) (hread : code ≠ 0x8000) (hband : 10000 < sInt 16 code ∨ sInt 16 code < -4000)
    (hhi : sInt 16 code ≤ 10500) (hlo : -4500 ≤ sInt 16 code) : writesForbidden code was = was := by
  have hin : ¬ (code = 0x8000 ∨ 10500 < sInt 16 code ∨ sInt 16 code < -4500) := by omega
  have hband' : ¬ (sInt 16 code ≤ 10000 ∧ -4000 ≤ sInt 16 code) := by omega
  rw [writesForbidden, if_neg hin, if_neg hband']

/-- The state in which THERM shows whether writes are forbidden and STOR follows it. -/
def windowShown (s : State) (forbid : Bool) : State := put (put s R.THERM_STATUS_WR_FORBID forbid) R.STOR_STATUS_WR_INHIBIT forbid

theorem writeWindow_eq (s : State) (code : Nat) :
    writeWindow s code =
      if writesForbidden code (flag s R.THERM_STATUS_WR_FORBID) && !flag s R.THERM_STATUS_WR_FORBID
      then errRise (windowShown s (writesForbidden code (flag s R.THERM_STATUS_WR_FORBID))) R.THERM_ERR_WR_FORBID 0 0
      else windowShown s (writesForbidden code (flag s R.THERM_STATUS_WR_FORBID)) := rfl

/-- Beside its two flags the window changes only its own error bit and what recording that error touches. -/
theorem flag_writeWindow (s : State) (code : Nat) (g : Fld) (hoff : OffRec g.addr) (hapart : Apart R.THERM_ERR_WR_FORBID g) :
    flag (writeWindow s code) g = flag (windowShown s (writesForbidden code (flag s R.THERM_STATUS_WR_FORBID))) g := by
  rw [writeWindow_eq]
  split
  · exact flag_errRise_ne _ _ g 0 0 hoff hapart
  · rfl

theorem flag_writeWindow_wrForbid (s : State) (code : Nat) :
    flag (writeWindow s code) R.THERM_STATUS_WR_FORBID = writesForbidden code (flag s R.THERM_STATUS_WR_FORBID) := by
  rw [flag_writeWindow s code _ (by decide) (by decide), windowShown, flag_put_ne _ _ _ _ (by decide), flag_put_self _ _ _ (by decide) (by decide)]

theorem flag_writeWindow_wrInhibit (s : State) (code : Nat) :
    flag (writeWindow s code) R.STOR_STATUS_WR_INHIBIT = writesForbidden code (flag s R.THERM_STATUS_WR_FORBID) := by
  rw [flag_writeWindow s code _ (by decide) (by decide), windowShown, flag_put_self _ _ _ (by decide) (by decide)]

/-- STOR takes no write while WR_INHIBIT is 1 (R77, R260). -/
theorem storTakes_eq_false_of_wrInhibit {s : State} (h : flag s R.STOR_STATUS_WR_INHIBIT = true) : storTakes s = false := by
  rw [storTakes, h, Bool.not_true, Bool.and_false]

end Sys2Proof.Laws

namespace Sys2Proof.Proofs

open Sys2Proof Sys2Proof.Machine Sys2Proof.Laws

/-- Settles O40: both flags become `writesForbidden`, which has one case for each part of the window, and STOR heeds the second. -/
theorem storageWriteWindow : Obligations.StorageWriteWindow := by
  unfold Obligations.StorageWriteWindow
  intro s code
  have hforbid := flag_writeWindow_wrForbid s code
  have hsame : flag (writeWindow s code) R.STOR_STATUS_WR_INHIBIT = flag (writeWindow s code) R.THERM_STATUS_WR_FORBID :=
    (flag_writeWindow_wrInhibit s code).trans hforbid.symm
  refine ⟨fun hout => ?outside, fun hread hhi hlo => ?inside, fun hread hband hhi hlo => ?between, hsame, fun hset => ?refused⟩
  case outside => exact hforbid.trans (writesForbidden_outside _ hout)
  case inside => exact hforbid.trans (writesForbidden_inside _ hread hhi hlo)
  case between => exact hforbid.trans (writesForbidden_between _ hread hband hhi hlo)
  case refused => exact storTakes_eq_false_of_wrInhibit (hsame.trans hset)

end Sys2Proof.Proofs
end

section
/-! The step: which command acts, what stays of the queue and of host memory's form, and when a step stops (log 1, log 2). -/

namespace Sys2Proof.Laws

open Sys2Proof Sys2Proof.Machine

/-- On a waiting command a step is that command on the queue's rest. -/
theorem step_cons {s : State} {c : Instr} {rest : List Instr} (h : s.pending = c :: rest) : step s = exec c (s.withPending rest) := by
  unfold step
  rw [h]

/-- On an empty queue a step is one tick. -/
theorem step_nil {s : State} (h : s.pending = []) : step s = .next (timePass s 1) := by
  unfold step
  rw [h]

/-- In OFF no time is kept. -/
theorem timePass_off {s : State} (n : Nat) (h : s.power.st = .off) : timePass s n = s := if_pos h

/-! ### What a step that goes on keeps -/

/-- A step that goes on is the tick of an empty queue, or what the command at the front answers. -/
theorem step_next_cases {s t : State} (h : step s = .next t) :
    (s.pending = [] ∧ t = timePass s 1) ∨ ∃ c rest, s.pending = c :: rest ∧ exec c (s.withPending rest) = .next t := by
  cases hq : s.pending with
  | nil =>
    rw [step_nil hq] at h
    exact .inl ⟨rfl, (Host.Outcome.next.inj h).symm⟩
  | cons c rest => exact .inr ⟨c, rest, rfl, step_cons hq ▸ h⟩

/-- What `exec_keeps` says of a command that answers a next state. -/
theorem exec_next_keeps {c : Instr} {s t : State} (h : exec c s = .next t) :
    t.pending = s.pending ∧ (MemoryCanonical s → MemoryCanonical t) := by
  have hkeeps := exec_keeps c s
  rwa [h] at hkeeps

/-- A step that goes on has taken the command at the front and nothing else. -/
theorem step_pending {s t : State} (h : step s = .next t) : t.pending = s.pending.tail := by
  obtain ⟨hq, rfl⟩ | ⟨c, rest, hq, hexec⟩ := step_next_cases h
  · rw [timePass_pending, hq, List.tail_nil]
  · rw [(exec_next_keeps hexec).1, hq]
    rfl

/-- A step that goes on keeps host memory in its canonical form. -/
theorem step_memoryCanonical {s t : State} (hmem : MemoryCanonical s) (h : step s = .next t) : MemoryCanonical t := by
  obtain ⟨-, rfl⟩ | ⟨c, rest, -, hexec⟩ := step_next_cases h
  · exact timePass_mem s 1 hmem
  · exact (exec_next_keeps hexec).2 hmem

/-! ### When a command stops -/

theorem safe_next (t : State) : Safe (.next t) := ⟨t, rfl⟩

theorem safe_ite {c : Prop} [Decidable c] {a b : Host.Outcome State Fault Refusal} (ha : Safe a) (hb : Safe b) : Safe (if c then a else b) := by
  split
  · exact ha
  · exact hb

/-- Every command but SQ_TAIL answers a next state: its meaning is `.next` of a state, or chooses between such answers. -/
theorem exec_safe (c : Instr) (s : State) (hc : ∀ lvl qp v writes, c ≠ .sqTail lvl qp v writes) : Safe (exec c s) := by
  cases c with
  | sqTail lvl qp v writes => exact absurd rfl (hc lvl qp v writes)
  | tregWr | enum | tileWake | comparatorTrip | comparatorSelfTest | syncLoss | linkDown | probeReturn | ringClose | hvmReport | bleedPowerTick
  | bleedSilence | hallFault => exact safe_ite (safe_next _) (safe_next _)
  | probeFrame => exact safe_ite (safe_next _) (safe_ite (safe_next _) (safe_ite (safe_next _) (safe_next _)))
  | actFault => exact safe_ite (safe_next _) (safe_ite (safe_next _) (safe_ite (safe_next _) (safe_next _)))
  | insulationSlotStart => exact safe_ite (safe_next _) (safe_ite (safe_next _) (safe_ite (safe_next _) (safe_ite (safe_next _) (safe_next _))))
  | _ => exact safe_next _

/-- SQ_TAIL goes on where its stores stay in host memory, and stops at the first that does not. -/
theorem exec_sqTail_cases (s : State) (lvl : Level) (qp v : Nat) (writes : List (Nat × List Byte)) :
    Safe (exec (.sqTail lvl qp v writes) s)
      ∨ ∃ a, coreStores s writes = .error a ∧ exec (.sqTail lvl qp v writes) s = .fault (.noHostMemory a) := by
  change Safe (execSqTail lvl qp v writes s) ∨ ∃ a, _ ∧ execSqTail lvl qp v writes s = _
  unfold execSqTail
  cases hstores : coreStores s writes with
  | ok s1 => exact .inl (safe_next _)
  | error a => exact .inr ⟨a, rfl, rfl⟩

/-- Nothing is written at reset: a register holds its reset value, a byte of host memory 0. -/
theorem regGet_reset (a : Nat) : regGet State.reset a = resetVal a := rfl

theorem memRd_reset (a : Nat) : memRd State.reset a = 0 := rfl

/-- A register's value after reset is the one of its row. -/
theorem resetVal_of_row {a : Nat} {r : R.Row} (h : findRow a = some r) : resetVal a = BitVec.ofNat 32 r.reset := by
  unfold resetVal
  rw [h]

end Sys2Proof.Laws

namespace Sys2Proof.Proofs

open Sys2Proof Sys2Proof.Machine Sys2Proof.Laws

/-- Settles O2: a tick and every command leave the queue to the step, which takes its front. -/
theorem stepsKeepTheQueueInOrder : Obligations.StepsKeepTheQueueInOrder := by
  unfold Obligations.StepsKeepTheQueueInOrder
  intro s t h
  have htail := step_pending h
  refine ⟨htail, fun hwf c hc => hwf c ?_⟩
  rw [htail] at hc
  exact List.mem_of_mem_tail hc

/-- Settles O3: the canonical form is kept by a tick and by every command (`exec_keeps`). -/
theorem stepsKeepMemoryCanonical : Obligations.StepsKeepMemoryCanonical := by
  unfold Obligations.StepsKeepMemoryCanonical
  exact fun s t hmem h => step_memoryCanonical hmem h

/-- Settles O4: a tick and every command but SQ_TAIL answer a next state, and SQ_TAIL stops only at a store outside host memory. -/
theorem onlyStoresOutsideHostMemoryStop : Obligations.OnlyStoresOutsideHostMemoryStop := by
  unfold Obligations.OnlyStoresOutsideHostMemoryStop
  intro s
  cases hq : s.pending with
  | nil =>
    rw [step_nil hq]
    exact .inl (safe_next _)
  | cons c rest =>
    rw [step_cons hq]
    by_cases hc : ∃ lvl qp v writes, c = .sqTail lvl qp v writes
    · obtain ⟨lvl, qp, v, writes, rfl⟩ := hc
      obtain hsafe | ⟨a, hstores, hfault⟩ := exec_sqTail_cases (s.withPending rest) lvl qp v writes
      · exact .inl hsafe
      · exact .inr ⟨lvl, qp, v, writes, rest, a, rfl, hstores, hfault⟩
    · exact .inl (exec_safe c _ (fun lvl qp v writes h => hc ⟨lvl, qp, v, writes, h⟩))

/-- Settles O1: `step` by its two cases. -/
theorem stepRunsTheFrontCommand : Obligations.StepRunsTheFrontCommand := by
  unfold Obligations.StepRunsTheFrontCommand
  refine ⟨fun s c rest h => step_cons h, fun s h => ⟨step_nil h, ?_, timePass_off 1⟩⟩
  rw [timePass_pending, h]

/-- Settles O5: nothing is written at reset, so that every register and byte reads as its default and both invariants hold of empty lists. -/
theorem resetLeavesEveryRegisterAtItsResetValue : Obligations.ResetLeavesEveryRegisterAtItsResetValue := by
  unfold Obligations.ResetLeavesEveryRegisterAtItsResetValue
  refine ⟨rfl, rfl, regGet_reset, ?rows, memRd_reset, ?queue, rfl⟩
  case rows =>
    intro b r n _ _ _ _ _ hrow
    rw [regGet_reset, resetVal_of_row hrow]
  case queue => exact fun c hc => absurd hc List.not_mem_nil

end Sys2Proof.Proofs
end

section
/-! What a row answers, put in one step: a row that answers a state outright, and one that runs its queue pair's entry. -/

namespace Sys2Proof.Laws

open Sys2Proof Sys2Proof.Machine

/-- A row that answers a state gives what holds of that state. -/
theorem gives_of_exec {i : Instr} {s t : State} {P : State → Prop} (hexec : exec i s = .next t) (hP : P t) : Gives i s P := ⟨t, hexec, hP⟩

/-- A row that runs its queue pair's entry leaves the entry as its action answers. -/
theorem leaves_of_act {i : Instr} {s s1 : State} {qp opc : Nat} {e : Entry} {act : Entry → State → State × EntrySt} {st : EntrySt} {P : State → Prop}
    (hgoes : Goes s qp opc e) (hact : act e s = (s1, st)) (hP : P s1) (hexec : exec i s = .next (runEntry s qp opc act) := by rfl)
    (hopc : opc ≠ opMark := by decide) : Leaves i s qp st P := by
  refine ⟨s1, ?_, hP⟩
  rw [hexec, runEntry_goes' hgoes act hopc, hact]

/-- An action that reads a buffer without an uncorrectable error goes on with its bytes. -/
theorem withBuf_ok {e : Entry} {s : State} (h : memBad s e.addr e.len = false) (k : List Byte → State × EntrySt) :
    withBuf e s k = k (memBytes s e.addr e.len) := by
  unfold withBuf
  rw [h]
  rfl

end Sys2Proof.Laws
end

section
/-! QMGR's rows: doorbells, fetching, timed starts, coalescing, enabling and disabling (R90 to R108). -/

namespace Sys2Proof.Laws

open Sys2Proof Sys2Proof.Machine

/-! ### Doorbells -/

/-- An SQ_TAIL that R91 does not reject takes the tail over and makes the entries that it passes ready at the writer's level. -/
theorem sqTailWrite_accepted {s : State} {lvl : Level} {qp v : Nat} (hreaches : dbReaches s lvl qp = true) (howned : dbOwned s lvl qp = true)
    (hon : qpOn s qp = true) (hv : v < 2 ^ (qpAt s qp).sqLog)
    (hahead : (rd s (R.QP_DB_STATE_SQ_TAIL qp) + 2 ^ (qpAt s qp).sqLog - rd s (R.QP_STATUS_SQ_HEAD qp)) % 2 ^ (qpAt s qp).sqLog
      ≤ (v + 2 ^ (qpAt s qp).sqLog - rd s (R.QP_STATUS_SQ_HEAD qp)) % 2 ^ (qpAt s qp).sqLog) :
    sqTailWrite s lvl qp v = qpMod (wr s (R.QP_DB_STATE_SQ_TAIL qp) v) qp (fun q =>
      { q with levels := q.levels ++ List.replicate ((v + 2 ^ (qpAt s qp).sqLog - rd s (R.QP_DB_STATE_SQ_TAIL qp)) % 2 ^ (qpAt s qp).sqLog) lvl }) := by
  have hrej : (!qpOn s qp || decide (2 ^ (qpAt s qp).sqLog ≤ v) || decide ((v + 2 ^ (qpAt s qp).sqLog - rd s (R.QP_STATUS_SQ_HEAD qp)) % 2 ^ (qpAt s qp).sqLog
      < (rd s (R.QP_DB_STATE_SQ_TAIL qp) + 2 ^ (qpAt s qp).sqLog - rd s (R.QP_STATUS_SQ_HEAD qp)) % 2 ^ (qpAt s qp).sqLog)) = false := by
    simp [hon, hv, hahead]
  unfold sqTailWrite
  simp only [hreaches, howned, hrej, Bool.not_true, Bool.false_eq_true, if_false]

/-- A CQ_HEAD that R91 does not reject is taken over. -/
theorem cqHeadWrite_accepted {s : State} {lvl : Level} {qp v : Nat} (hreaches : dbReaches s lvl qp = true) (howned : clusterOf lvl = some (ownerOf s qp))
    (hon : qpOn s qp = true) (hv : v < 2 ^ (qpAt s qp).cqLog)
    (hbehind : (v + 2 ^ (qpAt s qp).cqLog - rd s (R.QP_DB_STATE_CQ_HEAD qp)) % 2 ^ (qpAt s qp).cqLog
      ≤ (rd s (R.QP_STATUS_CQ_TAIL qp) + 2 ^ (qpAt s qp).cqLog - rd s (R.QP_DB_STATE_CQ_HEAD qp)) % 2 ^ (qpAt s qp).cqLog) :
    cqHeadWrite s lvl qp v = wr s (R.QP_DB_STATE_CQ_HEAD qp) v := by
  have hrej : (!qpOn s qp || decide (2 ^ (qpAt s qp).cqLog ≤ v) || decide ((rd s (R.QP_STATUS_CQ_TAIL qp) + 2 ^ (qpAt s qp).cqLog
      - rd s (R.QP_DB_STATE_CQ_HEAD qp)) % 2 ^ (qpAt s qp).cqLog < (v + 2 ^ (qpAt s qp).cqLog - rd s (R.QP_DB_STATE_CQ_HEAD qp)) % 2 ^ (qpAt s qp).cqLog)) = false := by
    simp [hon, hv, hbehind]
  have hdb : dbOwned s lvl qp = true := by simp [dbOwned, howned]
  unfold cqHeadWrite
  simp only [hreaches, hdb, hrej, Bool.not_true, Bool.false_eq_true, if_false]

theorem rd_sqTail_self (s : State) (qp v : Nat) : rd (wr s (R.QP_DB_STATE_SQ_TAIL qp) v) (R.QP_DB_STATE_SQ_TAIL qp) = v % 2 ^ 12 :=
  rd_wr_self _ _ _ (by simp [R.QP_DB_STATE_SQ_TAIL])

theorem rd_cqHead_self (s : State) (qp v : Nat) : rd (wr s (R.QP_DB_STATE_CQ_HEAD qp) v) (R.QP_DB_STATE_CQ_HEAD qp) = v % 2 ^ 12 :=
  rd_wr_self _ _ _ (by simp [R.QP_DB_STATE_CQ_HEAD])

end Sys2Proof.Laws

namespace Sys2Proof.Proofs

open Sys2Proof Sys2Proof.Machine Sys2Proof.Laws

/-- Settles O6: no condition of R91 rejects the doorbell, so the tail and the levels of the entries passed are all that changes. -/
theorem sqTailMakesEntriesReady : Obligations.SqTailMakesEntriesReady := by
  unfold Obligations.SqTailMakesEntriesReady
  intro s s1 lvl qp v writes hstores hreaches howned hon hv hahead
  refine ⟨?_, rd_sqTail_self s1 qp v⟩
  change execSqTail lvl qp v writes s = _
  unfold execSqTail
  rw [hstores]
  exact congrArg _ (sqTailWrite_accepted hreaches howned hon hv hahead)

end Sys2Proof.Proofs
end

section
/-! QMGR's rows beside the doorbells: fetching, timed starts, coalescing, enabling and disabling (R95 to R108). -/

namespace Sys2Proof.Laws

open Sys2Proof Sys2Proof.Machine

/-! ### Fetching -/

/-- The entry that the bytes at the fetch index spell. -/
def frontEntry (s : State) (qp : Nat) : Entry :=
  entryOf (memBytes s ((qpAt s qp).sqBase + 32 * rd s (R.QP_STATUS_SQ_HEAD qp)) 32) ((qpAt s qp).levels.headD .u)

/-- The queue pair with an entry fetched: the fetch index is one further, and what is finished at the front leaves. -/
def fetchTakes (s : State) (qp : Nat) (e : Entry) : State :=
  drain (qpMod (wr (put (put (pepperWait s 1 qp) (R.QP_STATUS_STALLED qp) false) (R.QP_STATUS_IDLE qp) false) (R.QP_STATUS_SQ_HEAD qp)
    ((rd s (R.QP_STATUS_SQ_HEAD qp) + 1) % 2 ^ (qpAt s qp).sqLog)) qp
      (fun q => { q with levels := q.levels.drop 1, entries := q.entries ++ [e] })) qp

/-- An uncorrectable error that arises meanwhile marks its aligned word before the fetch. -/
theorem fetchNext_marks (s : State) (qp : Nat) (ue : List Nat) :
    fetchNext s qp ue
      = fetchNext { s with memErr := s.memErr ++ (ue.map (fun a => a / 8 * 8)).filter (fun a => decide (a ∉ s.memErr)) } qp [] := by
  unfold fetchNext
  simp only [List.map_nil, List.filter_nil, List.append_nil]

section
variable {s : State} {qp : Nat} (hhost : hostReach s = true) (hon : qpOn s qp = true)
  (hwaits : rd s (R.QP_STATUS_SQ_HEAD qp) ≠ rd s (R.QP_DB_STATE_SQ_TAIL qp))
include hhost hon hwaits

/-- Without a free completion slot the fetch stalls (R97). -/
theorem fetchNext_stalls (hslot : slotFree s qp = false) : fetchNext s qp [] = put s (R.QP_STATUS_STALLED qp) true := by
  unfold fetchNext
  simp [hhost, hon, hwaits, hslot]

/-- With a free slot an entry is taken: as spelled where it passes the checks, with its STATUS where it does not (R521). -/
theorem fetchNext_readable (hslot : slotFree s qp = true)
    (hok : memBad s ((qpAt s qp).sqBase + 32 * rd s (R.QP_STATUS_SQ_HEAD qp)) 32 = false) :
    fetchNext s qp [] = fetchTakes s qp (match judge s qp (frontEntry s qp) with
      | some st => { frontEntry s qp with st := .done st 0 0 }
      | none => if qp = 7 ∧ (frontEntry s qp).opc = 0x40 then { frontEntry s qp with snap := s.meas.staged }
        else if qp = 0 ∧ (frontEntry s qp).opc = 0x40 then { frontEntry s qp with snap := [leBytes 4 (regGet s R.PWR_WAKE_CFG).toNat] }
        else frontEntry s qp) := by
  unfold fetchNext
  simp only [hhost, hon, hwaits, hslot, hok, List.map_nil, List.filter_nil, List.append_nil, Bool.not_true, Bool.or_false, decide_false,
    Bool.false_eq_true, if_false]
  rfl

/-- An entry with an unreadable word completes with MEM_ERR (R101). -/
theorem fetchNext_unreadable (hslot : slotFree s qp = true)
    (hbad : memBad s ((qpAt s qp).sqBase + 32 * rd s (R.QP_STATUS_SQ_HEAD qp)) 32 = true) :
    fetchNext s qp [] = fetchTakes s qp { frontEntry s qp with tag := 0xFFFF, opc := 0xFF, flags := 0, st := .done 0x0A 0 0 } := by
  unfold fetchNext
  simp only [hhost, hon, hwaits, hslot, hbad, List.map_nil, List.filter_nil, List.append_nil, Bool.not_true, Bool.or_false, decide_false,
    Bool.false_eq_true, if_false, if_true]
  rfl

end

/-! ### Timed starts -/

section
variable {s : State} {qp i : Nat} {e : Entry} (hfront : frontIdx (qpAt s qp).entries = some i) (hentry : (qpAt s qp).entries[i]? = some e)
  (hwait : e.st = .waiting)
include hfront hentry hwait

/-- A waiting entry whose time has come is ready. -/
theorem timedStart_now (hnow : whenOf s e = .now) :
    timedStart s qp = qpMod s qp (fun q => { q with entries := modAt q.entries i (fun e => { e with st := .ready, flags := e.flags % 4 }) }) := by
  unfold timedStart
  simp [hfront, hentry, hwait, hnow]

/-- One that is more than 1 ms late ends TOO_LATE. -/
theorem timedStart_late (hlate : whenOf s e = .late) : timedStart s qp = setEntry s qp i (.done 8 0 0) := by
  unfold timedStart
  simp [hfront, hentry, hwait, hlate]

end

/-! ### Enabling -/

/-- The registers of a queue pair as enabling leaves them: enabled and idle, every index and SEQ at 0 (R102). -/
def qpCleared (s : State) (qp : Nat) : State :=
  regSet (regSet (regSet (put s (R.QP_CTRL_ENABLE qp) true) (R.QP_STATUS qp) (BitVec.ofNat 32 (1 <<< 29))) (R.QP_DB_STATE qp) 0) (R.QP_SEQ qp) 0

theorem qpOn_qpCleared (s : State) (qp : Nat) : qpOn (qpCleared s qp) qp = true := by
  unfold qpOn qpCleared
  rw [flag_regSet_ne, flag_regSet_ne, flag_regSet_ne, flag_put_self] <;>
    simp [R.QP_CTRL_ENABLE, R.QP_CTRL, R.QP_SEQ, R.QP_DB_STATE, R.QP_STATUS]

theorem regGet_qpCleared_status (s : State) (qp : Nat) : regGet (qpCleared s qp) (R.QP_STATUS qp) = BitVec.ofNat 32 (1 <<< 29) := by
  unfold qpCleared
  rw [regGet_regSet_ne, regGet_regSet_ne, regGet_regSet_self] <;> simp [R.QP_SEQ, R.QP_DB_STATE, R.QP_STATUS]

theorem regGet_qpCleared_dbState (s : State) (qp : Nat) : regGet (qpCleared s qp) (R.QP_DB_STATE qp) = 0 := by
  unfold qpCleared
  rw [regGet_regSet_ne, regGet_regSet_self]
  simp [R.QP_SEQ, R.QP_DB_STATE]

theorem regGet_qpCleared_seq (s : State) (qp : Nat) : regGet (qpCleared s qp) (R.QP_SEQ qp) = 0 := regGet_regSet_self _ _ _

section
variable {s : State} {qp : Nat} (hoff : qpOn s qp = false) (hidle : flag s (R.QP_STATUS_IDLE qp) = true)
include hoff hidle

/-- A queue pair with good rings comes up with them, cleared. -/
theorem qpEnable_goodRings (hok : ringsOk s qp = true) : qpEnable s qp = qpMod (qpCleared s qp) qp (fun _ => ringsOf s qp) := by
  unfold qpEnable
  simp only [hoff, hidle, hok, Bool.not_true, Bool.or_false, Bool.false_eq_true, if_false]
  rfl

/-- One with bad rings shows CFG_ERR and stays off. -/
theorem qpEnable_badRings (hbad : ringsOk s qp = false) : qpEnable s qp = put s (R.QP_STATUS_CFG_ERR qp) true := by
  unfold qpEnable
  simp [hoff, hidle, hbad]

end

theorem qpAt_qpMod_self (s : State) (qp : Nat) (f : QpState → QpState) (h : qp < s.qps.length) : qpAt (qpMod s qp f) qp = f (qpAt s qp) := by
  simp [qpAt, qpMod, modAt, h]

theorem qpOn_put_cfgErr (s : State) (qp : Nat) (b : Bool) : qpOn (put s (R.QP_STATUS_CFG_ERR qp) b) qp = qpOn s qp := by
  unfold qpOn
  exact flag_put_ne _ _ _ _ (.inl (by simp [R.QP_STATUS_CFG_ERR, R.QP_STATUS, R.QP_CTRL_ENABLE, R.QP_CTRL]))

/-- Disabling stops fetching and drains what was fetched (R102). -/
theorem qpDisable_on {s : State} {qp : Nat} (hon : qpOn s qp = true) :
    qpDisable s qp = drain (qpMod (put (put s (R.QP_CTRL_ENABLE qp) false) (R.QP_STATUS_STALLED qp) false) qp
      (fun q => { q with levels := [], entries := q.entries.map (fun e => { e with st := disabledSt e.st }) })) qp := by
  unfold qpDisable
  simp [hon]

theorem rd_put_stalled_sqHead (s : State) (qp : Nat) (b : Bool) :
    rd (put s (R.QP_STATUS_STALLED qp) b) (R.QP_STATUS_SQ_HEAD qp) = rd s (R.QP_STATUS_SQ_HEAD qp) :=
  rd_put_ne _ _ _ _ (.inr (by simp [R.QP_STATUS_STALLED, R.QP_STATUS_SQ_HEAD]))

end Sys2Proof.Laws

namespace Sys2Proof.Proofs

open Sys2Proof Sys2Proof.Machine Sys2Proof.Laws

/-- Settles O8: each row by the lemma of its operation. -/
theorem queueManagerRowsAct : Obligations.QueueManagerRowsAct := by
  unfold Obligations.QueueManagerRowsAct
  refine ⟨?head, ?fetch, ?unreadable, ?marks, ?stall, ?timed, ?late, ?coalesce, ?clear, ?enable, ?badRings, ?disable, ?idle⟩
  case head =>
    intro s lvl qp v hreaches howned hon hv hbehind
    exact ⟨_, rfl, cqHeadWrite_accepted hreaches howned hon hv hbehind, (congrArg (rd · _) (cqHeadWrite_accepted hreaches howned hon hv hbehind)).trans
      (rd_cqHead_self s qp v)⟩
  case fetch =>
    intro s qp hhost hon hwaits hslot hok
    exact ⟨_, rfl, fetchNext_readable hhost hon hwaits hslot hok⟩
  case unreadable =>
    intro s qp hhost hon hwaits hslot hbad
    exact ⟨_, rfl, fetchNext_unreadable hhost hon hwaits hslot hbad⟩
  case marks => exact fun s qp ue => congrArg Host.Outcome.next (fetchNext_marks s qp ue)
  case stall =>
    intro s qp hhost hon hwaits hslot
    refine ⟨put s (R.QP_STATUS_STALLED qp) true, congrArg _ (fetchNext_stalls hhost hon hwaits hslot), flag_put_self _ _ _ ?_ ?_,
      rd_put_stalled_sqHead s qp true, rfl⟩ <;> simp [R.QP_STATUS_STALLED]
  case timed =>
    intro s qp i e hfront hentry hwait hnow
    exact ⟨_, rfl, timedStart_now hfront hentry hwait hnow⟩
  case late =>
    intro s qp i e hfront hentry hwait hlate
    exact ⟨_, rfl, timedStart_late hfront hentry hwait hlate⟩
  case coalesce =>
    intro s qp hunann hcoal
    exact ⟨_, rfl, if_pos (by simp [hunann, hcoal])⟩
  case clear =>
    intro s lvl hi v hhost howns
    exact ⟨_, rfl, if_pos (by simp [hhost, howns])⟩
  case enable =>
    intro s lvl qp hwritable hoff hidle hok hqp
    refine ⟨qpMod (qpCleared s qp) qp (fun _ => ringsOf s qp), ?_, qpOn_qpCleared s qp, ?_, ?_, ?_, ?_, ?_, qpAt_qpMod_self _ _ _ hqp⟩
    · exact congrArg _ ((if_pos hwritable).trans (qpEnable_goodRings hoff hidle hok))
    · exact congrArg (fldGet · 0 32) (regGet_qpCleared_seq s qp)
    · exact congrArg (fldGet · 0 12) (regGet_qpCleared_status s qp)
    · exact congrArg (fldGet · 16 12) (regGet_qpCleared_status s qp)
    · exact congrArg (fldGet · 0 12) (regGet_qpCleared_dbState s qp)
    · exact congrArg (fldGet · 16 12) (regGet_qpCleared_dbState s qp)
  case badRings =>
    intro s lvl qp hwritable hoff hidle hbad
    refine ⟨put s (R.QP_STATUS_CFG_ERR qp) true, congrArg _ ((if_pos hwritable).trans (qpEnable_badRings hoff hidle hbad)),
      flag_put_self _ _ _ ?_ ?_, (qpOn_put_cfgErr s qp true).trans hoff⟩ <;> simp [R.QP_STATUS_CFG_ERR]
  case disable =>
    intro s lvl qp hwritable hon
    exact ⟨_, rfl, (if_pos hwritable).trans (qpDisable_on hon)⟩
  case idle =>
    intro s qp hempty
    refine ⟨put s (R.QP_STATUS_IDLE qp) true, congrArg _ (if_pos (by simp [hempty])), flag_put_self _ _ _ ?_ ?_, rfl⟩ <;> simp [R.QP_STATUS_IDLE]

end Sys2Proof.Proofs
end

section
/-! The common opcodes (R104), each on an entry that goes. -/

namespace Sys2Proof.Laws

open Sys2Proof Sys2Proof.Machine

theorem length_flatMap_leBytes (l : List Nat) (n : Nat) (f : Nat → Nat) : (l.flatMap (fun a => leBytes n (f a))).length = n * l.length := by
  simp [List.length_flatMap, leBytes_len, Nat.mul_comm]

theorem length_statusBytes (s : State) (qp : Nat) (lvl : Level) : (statusBytes s qp lvl).length = 4 * (statusAddrs qp).length :=
  length_flatMap_leBytes _ _ _

/-- Beside PERF, GET_STATUS stores the status block of the state as it stands. -/
theorem getStatus_eq {qp : Nat} (hqp : qp ≠ 42) (e : Entry) (s : State) :
    getStatus qp e s = (memWrite s e.addr (statusBytes s qp e.level), .done 0 (4 * (statusAddrs qp).length) 0) := by
  unfold getStatus okR
  simp only [if_neg hqp, length_statusBytes]

/-- MARK starts at the front of its queue pair only, and ends with plant time there. -/
theorem runEntry_mark {s : State} {qp : Nat} {e : Entry} (hgoes : Goes s qp opMark e) (hfront : frontIdx (qpAt s qp).entries = some 0) :
    runEntry s qp opMark markPt = setFront s qp (.done 0 (ptNow s % 2 ^ 32) (ptNow s / 2 ^ 32 % 2 ^ 16)) :=
  runEntry_goes hgoes markPt (fun _ => hfront)

end Sys2Proof.Laws

namespace Sys2Proof.Proofs

open Sys2Proof Sys2Proof.Machine Sys2Proof.Laws

/-- Settles O10: each opcode leaves its entry as its action answers; GET_STATUS stores the status block and nothing else. -/
theorem commonOpcodesAct : Obligations.CommonOpcodesAct := by
  unfold Obligations.CommonOpcodesAct
  refine ⟨fun s qp e hgoes => leaves_of_act hgoes rfl rfl, ?status, fun s qp e hgoes => leaves_of_act hgoes rfl rfl,
    fun s qp e hgoes => leaves_of_act hgoes rfl rfl, fun s qp e hgoes => leaves_of_act hgoes rfl rfl, ?enableBal,
    fun s qp e hgoes => leaves_of_act hgoes rfl rfl, ?disableBal, fun s qp e hgoes => leaves_of_act hgoes rfl rfl, ?mark,
    fun s qp e hgoes => leaves_of_act hgoes rfl rfl⟩
  case status =>
    intro s qp e hgoes hqp
    have hlen := length_statusBytes s qp e.level
    refine leaves_of_act hgoes (getStatus_eq hqp e s) ⟨?_, fun b hb => memRd_memWrite_out _ _ _ _ (hlen ▸ hb), rfl, rfl⟩
    rw [← hlen]
    exact memBytes_memWrite ..
  case enableBal =>
    exact fun s e hgoes => leaves_of_act hgoes rfl ⟨flag_put_self _ _ _ (by decide) (by decide), rfl⟩
  case disableBal =>
    exact fun s e hgoes => leaves_of_act hgoes rfl ⟨flag_put_self _ _ _ (by decide) (by decide), rfl⟩
  case mark =>
    exact fun s qp e hgoes hfront => ⟨s, congrArg Host.Outcome.next (runEntry_mark hgoes hfront), rfl⟩

end Sys2Proof.Proofs
end

section
/-! The set-up window: what a write through it leaves (R9, R12, R117, R388, R494). -/

namespace Sys2Proof.Laws

open Sys2Proof Sys2Proof.Machine

/-! ### The word that a write leaves -/

/-- R9 bit by bit. -/
theorem getLsbD_writeWord (r : R.Row) (old v : Word) (i : Nat) (hi : i < 32) :
    (writeWord r old v).getLsbD i =
      (if (BitVec.ofNat 32 r.w1c).getLsbD i && v.getLsbD i then false
       else if (BitVec.ofNat 32 r.rw).getLsbD i then v.getLsbD i else old.getLsbD i) := by
  unfold writeWord
  simp only [BitVec.getLsbD_and, BitVec.getLsbD_or, BitVec.getLsbD_not, hi, decide_true, Bool.true_and]
  cases (BitVec.ofNat 32 r.w1c).getLsbD i <;> cases (BitVec.ofNat 32 r.rw).getLsbD i <;> simp [Bool.and_comm]

/-! ### Where a write goes -/

/-- No register below the doorbell page's span is a doorbell. -/
abbrev OffDoorbells (a : Nat) : Prop := ¬ (0x10018000 ≤ a ∧ a < 0x10018170)

theorem offDoorbells_of_ownRule {a : Nat} (h : ownRule a = false) : OffDoorbells a := by
  simp only [ownRule, Bool.or_eq_false_iff, Bool.and_eq_false_iff, decide_eq_false_iff_not] at h
  omega

/-- A violation changes nothing (R115). -/
theorem regWrite_violation {s : State} {lvl : Level} {a : Nat} (v : Word) (hdb : OffDoorbells a) (hno : writeAllowed s lvl a = none) :
    regWrite s lvl a v = s := by
  unfold regWrite
  rw [if_neg (fun h => hdb ⟨h.1, h.2.1⟩), hno]

/-- An allowed write of a register that is not frozen takes its effect. -/
theorem regWrite_allowed {s : State} {lvl : Level} {a : Nat} {r : R.Row} (v : Word) (hdb : OffDoorbells a) (hok : writeAllowed s lvl a = some r)
    (hfree : regFrozen s a = false) : regWrite s lvl a v = regTake s lvl a r v := by
  unfold regWrite
  rw [if_neg (fun h => hdb ⟨h.1, h.2.1⟩), hok]
  exact if_neg (by simp [hfree])

/-- PERF's registers lie in PERF's span. -/
theorem blockOf_perf {a : Nat} (h0 : 0x10130000 ≤ a) (h1 : a < 0x10140000) : blockOf a = some .perf := by
  have hspan : a / 0x10000 - 0x1000 = 19 := by omega
  unfold blockOf
  rw [if_neg (by omega), hspan]
  rfl

theorem ne_of_ownRule {a b : Nat} (h : ownRule a = false) (hb : ownRule b = true) : a ≠ b := by
  rintro rfl
  rw [h] at hb
  cases hb

/-- A register without a rule of its own takes the last three ways of a write alone: staged, committed, or plain. -/
theorem regTake_ownRule {a : Nat} (h : ownRule a = false) (s : State) (lvl : Level) (r : R.Row) (v : Word) :
    regTake s lvl a r v =
      if isPairLo a ∧ r.rw ≠ 0 then pairStage s lvl a v else if isPairHi a ∧ r.rw ≠ 0 then pairCommit s lvl a r v else plainWrite s r a v := by
  have hlist : a ∉ [R.SYS_LOCK_SET, R.CLK_GATE, R.PWR_WAKE_CFG, R.QMGR_IRQPEND0, R.QMGR_IRQPEND1, R.PTP_INC0, R.PTP_INC1] := by
    simp only [ownRule, Bool.or_eq_false_iff, decide_eq_false_iff_not] at h
    obtain ⟨⟨⟨⟨⟨hlist, -⟩, -⟩, -⟩, -⟩, -⟩ := h
    exact hlist
  have hctrl : ¬ (R.QP_CTRL 0 ≤ a ∧ a < R.QP_CTRL 46 ∧ (a - R.QP_CTRL 0) % 0x40 = 0) := by
    simp only [ownRule, Bool.or_eq_false_iff, Bool.and_eq_false_iff, decide_eq_false_iff_not] at h
    omega
  have hperf : blockOf a ≠ some .perf := by
    simp only [ownRule, Bool.or_eq_false_iff, decide_eq_false_iff_not] at h
    obtain ⟨⟨-, hperf⟩, -⟩ := h
    exact hperf
  have hpreset : ¬ (R.PERF_C_PRESET 0 ≤ a ∧ a < R.PERF_C_PRESET 16 ∧ (a - R.PERF_C_PRESET 0) % 0x20 = 0) := by
    rintro ⟨h0, h1, -⟩
    simp only [R.PERF_C_PRESET] at h0 h1
    exact hperf (blockOf_perf (by omega) (by omega))
  simp only [List.mem_cons, List.not_mem_nil, or_false, not_or] at hlist
  obtain ⟨hlock, hgate, hwake, hirq0, hirq1, hinc0, hinc1⟩ := hlist
  unfold regTake
  simp only [if_neg hlock, if_neg hgate, if_neg hwake, if_neg hirq0, if_neg hirq1, if_neg hctrl, if_neg hinc0, if_neg hinc1, if_neg hpreset, if_neg hperf]

/-! ### Pairs -/

theorem find?_filter_append {α : Type} (p : α → Bool) (l : List α) (x : α) (hx : p x = true) : (l.filter (fun e => !p e) ++ [x]).find? p = some x := by
  rw [List.find?_append, List.find?_eq_none.mpr]
  · simp [hx]
  · simp

/-- What was staged last for a level is found. -/
theorem pairStage_finds (s : State) (lvl : Level) (a : Nat) (v : Word) :
    (pairStage s lvl a v).stages.find? (fun e => decide (e.1 = (lvl, a))) = some ((lvl, a), v) := by
  have h := find?_filter_append (fun e : (Level × Nat) × Word => decide (e.1 = (lvl, a))) s.stages ((lvl, a), v) (by simp)
  simpa [pairStage] using h

/-- The upper half commits with the staged low half, and the stage is empty after. -/
theorem pairCommit_staged {s : State} {lvl : Level} {a : Nat} {r rl : R.Row} {lo v : Word} (ha : 4 ≤ a) (hown : ownRule a = false) (hownLo : ownRule (a - 4) = false)
    (hrow : findRow (a - 4) = some rl) (hstage : s.stages.find? (fun e => decide (e.1 = (lvl, a - 4))) = some ((lvl, a - 4), lo)) :
    regGet (pairCommit s lvl a r v) a = writeWord r (regGet s a) v
      ∧ regGet (pairCommit s lvl a r v) (a - 4) = writeWord rl (regGet s (a - 4)) lo
      ∧ (pairCommit s lvl a r v).stages.find? (fun e => decide (e.1 = (lvl, a - 4))) = none := by
  have hne : a - 4 ≠ a := by omega
  have hcommit : pairCommit s lvl a r v = regSet { regSet s (a - 4) (writeWord rl (regGet s (a - 4)) lo) with
      stages := s.stages.filter (fun e => decide (e.1 ≠ (lvl, a - 4))) } a (writeWord r (regGet s a) v) := by
    unfold pairCommit
    simp only [hstage, hrow, plainWrite_own _ _ _ _ hown, plainWrite_own _ _ _ _ hownLo]
    have hlow : regGet { regSet s (a - 4) (writeWord rl (regGet s (a - 4)) lo) with
        stages := s.stages.filter (fun e => decide (e.1 ≠ (lvl, a - 4))) } a = regGet s a := regGet_regSet_ne s _ _ _ hne
    exact congrArg (fun w => regSet _ a (writeWord r w v)) hlow
  rw [hcommit]
  refine ⟨regGet_regSet_self _ _ _, (regGet_regSet_ne _ _ _ _ hne.symm).trans (regGet_regSet_self s _ _), ?_⟩
  simp

/-! ### Registers with a rule of their own -/

section
variable {s : State} {lvl : Level} {r : R.Row} (v : Word)

theorem regWrite_lockSet (hok : writeAllowed s lvl R.SYS_LOCK_SET = some r) : regWrite s lvl R.SYS_LOCK_SET v = lockSet s v.toNat :=
  regWrite_allowed v (by decide) hok rfl

theorem regWrite_ptpInc0 (hok : writeAllowed s lvl R.PTP_INC0 = some r) : regWrite s lvl R.PTP_INC0 v = incWrite s 0 v.toNat :=
  regWrite_allowed v (by decide) hok rfl

theorem regWrite_ptpInc1 (hok : writeAllowed s lvl R.PTP_INC1 = some r) : regWrite s lvl R.PTP_INC1 v = incWrite s 1 v.toNat :=
  regWrite_allowed v (by decide) hok rfl

end

/-- The locked bits after a lock: those before and those set (R117). -/
theorem rd_lockSet_wr (s : State) (n : Nat) :
    rd (wr s R.SYS_LOCK_LOCKED (rd s R.SYS_LOCK_LOCKED ||| n % 2 ^ 25)) R.SYS_LOCK_LOCKED = rd s R.SYS_LOCK_LOCKED ||| n % 2 ^ 25 := by
  rw [rd_wr_self _ _ _ (by decide)]
  exact Nat.mod_eq_of_lt (Nat.or_lt_two_pow (rd_lt s R.SYS_LOCK_LOCKED) (Nat.mod_lt _ (by decide)))

theorem toNat_loW (v : Nat) : (loW v).toNat = v % 2 ^ 32 := BitVec.toNat_ofNat v 32

/-- The field of a domain's increment. -/
def incFld (dom : Nat) : Fld := if dom = 0 then R.PTP_INC0_INC else R.PTP_INC1_INC

theorem incFld_cases (dom : Nat) : incFld dom = R.PTP_INC0_INC ∨ incFld dom = R.PTP_INC1_INC := by
  unfold incFld
  split <;> simp

/-- An increment is held within its bounds, and shows INC_SAT where it had to be (R388). -/
theorem incWrite_clamps (s : State) (dom n : Nat) :
    rd (incWrite s dom n) (incFld dom) = clampNat 0x3FF7CED9 0x40083127 n % 2 ^ 32
      ∧ ((n < 0x3FF7CED9 ∨ 0x40083127 < n) → flag (incWrite s dom n) R.PTP_ERR_INC_SAT = true) := by
  have hincWrite : incWrite s dom n = if n < 0x3FF7CED9 ∨ 0x40083127 < n
      then errRise (wr s (incFld dom) (clampNat 0x3FF7CED9 0x40083127 n)) R.PTP_ERR_INC_SAT 0 0
      else wr s (incFld dom) (clampNat 0x3FF7CED9 0x40083127 n) := rfl
  have hself : rd (wr s (incFld dom) (clampNat 0x3FF7CED9 0x40083127 n)) (incFld dom) = clampNat 0x3FF7CED9 0x40083127 n % 2 ^ 32 := by
    obtain h | h := incFld_cases dom <;> rw [h] <;> exact rd_wr_self _ _ _ (by decide)
  have hkeep : ∀ u : State, rd (errRise u R.PTP_ERR_INC_SAT 0 0) (incFld dom) = rd u (incFld dom) := by
    intro u
    obtain h | h := incFld_cases dom <;> rw [h] <;> exact rd_errRise_ne _ _ _ _ _ (by decide) (by decide)
  rw [hincWrite]
  split
  · exact ⟨(hkeep _).trans hself, fun _ => flag_errRise_self _ _ _ _ (by decide) (by decide) (by decide)⟩
  · next hin => exact ⟨hself, fun hout => absurd hout hin⟩

/-- A preset reaches `perfPreset` of its counter (R494). -/
theorem regWrite_preset {s : State} {lvl : Level} {r : R.Row} {n : Nat} (v : Word) (hn : n < 16) (hok : writeAllowed s lvl (R.PERF_C_PRESET n) = some r) :
    regWrite s lvl (R.PERF_C_PRESET n) v = perfPreset s n v.toNat := by
  have hdb : OffDoorbells (R.PERF_C_PRESET n) := by simp only [R.PERF_C_PRESET]; omega
  have hfree : regFrozen s (R.PERF_C_PRESET n) = false := by
    interval_cases n <;> rfl
  rw [regWrite_allowed v hdb hok hfree]
  interval_cases n <;> rfl

/-- A preset loads VALUE and clears HI (R494). -/
theorem perfPreset_loads (s : State) (n v : Nat) :
    rd (perfPreset s n v) (R.PERF_C_VAL_LO_VALUE n) = v % 2 ^ 32 ∧ rd (perfPreset s n v) (R.PERF_C_VAL_HI_HI n) = 0 := by
  have hapart : Apart (R.PERF_C_VAL_HI_HI n) (R.PERF_C_VAL_LO_VALUE n) :=
    .inl (by simp [R.PERF_C_VAL_HI_HI, R.PERF_C_VAL_HI, R.PERF_C_VAL_LO_VALUE, R.PERF_C_VAL_LO])
  unfold perfPreset
  constructor
  · rw [rd_wr_ne _ _ _ _ hapart]
    exact rd_wr_self _ _ _ (by simp [R.PERF_C_VAL_LO_VALUE])
  · exact rd_wr_self _ _ _ (by simp [R.PERF_C_VAL_HI_HI])

end Sys2Proof.Laws

namespace Sys2Proof.Proofs

open Sys2Proof Sys2Proof.Machine Sys2Proof.Laws

/-- Settles O13: R9 on each bit. -/
theorem writesKeepReservedAndReadOnlyBits : Obligations.WritesKeepReservedAndReadOnlyBits := by
  unfold Obligations.WritesKeepReservedAndReadOnlyBits
  exact getLsbD_writeWord

/-- Settles O11: where an allowed write goes (`regTake`), and what it leaves there. -/
theorem registerWritesAct : Obligations.RegisterWritesAct := by
  unfold Obligations.RegisterWritesAct
  refine ⟨?lock, ?lockPepper, ?plain, ?violation, ?width, ?stage, ?commit, ?inc0, ?inc1, ?preset⟩
  case lock =>
    intro s lvl v r hok hbit
    have hmod : v % 2 ^ 32 % 2 ^ 25 = v % 2 ^ 25 := Nat.mod_mod_of_dvd v (by decide)
    refine ⟨wr s R.SYS_LOCK_LOCKED (rd s R.SYS_LOCK_LOCKED ||| v % 2 ^ 25), ?_, rd_lockSet_wr s v, fun a ha => regGet_wr_ne _ _ _ _ (Ne.symm ha)⟩
    refine congrArg Host.Outcome.next ((regWrite_lockSet (loW v) hok).trans ?_)
    unfold lockSet
    rw [toNat_loW, hmod, hbit]
    rfl
  case lockPepper =>
    intro s lvl v r hok hbit
    refine ⟨_, rfl, (regWrite_lockSet (loW v) hok).trans ?_⟩
    unfold lockSet
    rw [toNat_loW, hbit]
    rfl
  case plain =>
    intro s lvl a v r ha hplain hok hfree
    simp only [plainReg, Bool.and_eq_true, Bool.not_eq_true'] at hplain
    obtain ⟨⟨hown, hlo⟩, hhi⟩ := hplain
    have hwrite : regWrite s lvl a (loW v) = regSet s a (writeWord r (regGet s a) (loW v)) := by
      rw [regWrite_allowed _ (offDoorbells_of_ownRule hown) hok hfree, regTake_ownRule hown, if_neg (by simp [hlo]), if_neg (by simp [hhi]),
        plainWrite_own _ _ _ _ hown]
    exact ⟨regSet s a (writeWord r (regGet s a) (loW v)), congrArg Host.Outcome.next ((if_pos ⟨rfl, ha⟩).trans hwrite), regGet_regSet_self _ _ _,
      fun b hb => regGet_regSet_ne _ _ _ _ hb.symm⟩
  case violation =>
    intro s lvl a v hdb hno
    refine ⟨s, congrArg Host.Outcome.next ?_, rfl⟩
    unfold busWrite
    split
    · exact regWrite_violation _ hdb hno
    · exact if_neg (fun h => absurd h.1 (by decide))
  case width =>
    intro s lvl a w v h4 h8
    refine ⟨s, congrArg Host.Outcome.next ?_, rfl⟩
    unfold busWrite
    rw [if_neg (fun h => h4 h.1), if_neg (fun h => h8 h.1)]
  case stage =>
    intro s lvl a v r hlo hrw hown hok hfree
    have hwrite : regWrite s lvl a (loW v) = pairStage s lvl a (loW v) := by
      rw [regWrite_allowed _ (offDoorbells_of_ownRule hown) hok hfree, regTake_ownRule hown, if_pos ⟨hlo, hrw⟩]
    exact ⟨pairStage s lvl a (loW v), congrArg Host.Outcome.next ((if_pos hlo).trans hwrite), rfl, pairStage_finds s lvl a (loW v)⟩
  case commit =>
    intro s lvl a v r rl lo hhi hlo hrw hown hownLo hok hfree hrow hstage
    have hwrite : regWrite s lvl a (loW v) = pairCommit s lvl a r (loW v) := by
      rw [regWrite_allowed _ (offDoorbells_of_ownRule hown) hok hfree, regTake_ownRule hown, if_neg (by simp [hlo]), if_pos ⟨hhi, hrw⟩]
    have ha : 4 ≤ a := by
      simp only [isPairHi, Bool.and_eq_true, decide_eq_true_eq] at hhi
      exact hhi.1
    exact ⟨pairCommit s lvl a r (loW v), congrArg Host.Outcome.next ((if_pos hhi).trans hwrite), pairCommit_staged ha hown hownLo hrow hstage⟩
  case inc0 =>
    intro s lvl v r hok
    refine ⟨incWrite s 0 (v % 2 ^ 32), congrArg Host.Outcome.next ?_, incWrite_clamps s 0 (v % 2 ^ 32)⟩
    rw [← toNat_loW]
    exact regWrite_ptpInc0 (loW v) hok
  case inc1 =>
    intro s lvl v r hok
    refine ⟨incWrite s 1 (v % 2 ^ 32), congrArg Host.Outcome.next ?_, incWrite_clamps s 1 (v % 2 ^ 32)⟩
    rw [← toNat_loW]
    exact regWrite_ptpInc1 (loW v) hok
  case preset =>
    intro s lvl n v r hn hok
    have hloads := perfPreset_loads s n (loW v).toNat
    rw [toNat_loW, Nat.mod_mod] at hloads
    refine ⟨perfPreset s n (loW v).toNat, congrArg Host.Outcome.next ((if_pos hn).trans (regWrite_preset _ hn hok)), ?_⟩
    rw [toNat_loW]
    exact hloads

end Sys2Proof.Proofs
end

section
/-! Reads through the set-up window: what a read returns, and the shadow that a pair's two halves are read by (R9, R12, R115). -/

namespace Sys2Proof.Laws

open Sys2Proof Sys2Proof.Machine

/-- The state in which a read of a block's register finds it: a perturbed read has waited, PERF's counters are up to date. -/
def readFinds (s : State) (b : Block) : State := if b = .perf then perfSync (pepperWait s 7 (srcOf b)) else pepperWait s 7 (srcOf b)

theorem readFinds_ne_perf {b : Block} (h : b ≠ .perf) (s : State) : readFinds s b = pepperWait s 7 (srcOf b) := if_neg h

section
variable {s : State} {lvl : Level} {a : Nat} {b : Block} {r : R.Row} (hreach : regReach s lvl a = some (b, r))
include hreach

/-- The read of a _LO shows its half and keeps _HI of that instant for the level. -/
theorem regRead_lo (hlo : isPairLo a = true) :
    regRead s lvl a = { readFinds s b with
      bus := (regShow (readFinds s b) lvl a).setWidth 64
      shadows := (readFinds s b).shadows.filter (fun e => decide (e.1 ≠ (lvl, a + 4))) ++ [((lvl, a + 4), regShow (readFinds s b) lvl (a + 4))] } := by
  unfold regRead
  simp only [hreach, hlo, if_true]
  rfl

/-- The read of a _HI returns the level's shadow. -/
theorem regRead_hi {v : Word} (hlo : isPairLo a = false) (hhi : isPairHi a = true)
    (hshadow : (readFinds s b).shadows.find? (fun e => decide (e.1 = (lvl, a))) = some ((lvl, a), v)) :
    regRead s lvl a = { readFinds s b with bus := v.setWidth 64 } := by
  unfold readFinds at hshadow
  unfold regRead readFinds
  simp only [hreach, hlo, hhi, hshadow, Bool.false_eq_true, if_false, if_true]

/-- The read of a register that is no half of a pair shows it. -/
theorem regRead_plain (hlo : isPairLo a = false) (hhi : isPairHi a = false) :
    regRead s lvl a = { readFinds s b with bus := (regShow (readFinds s b) lvl a).setWidth 64 } := by
  unfold regRead readFinds
  simp only [hreach, hlo, hhi, Bool.false_eq_true, if_false]

end

/-- A read that is a violation returns 0. -/
theorem regRead_violation {s : State} {lvl : Level} {a : Nat} (hno : regReach s lvl a = none) : regRead s lvl a = { s with bus := 0 } := by
  unfold regRead
  rw [hno]

/-- What a level's _LO read kept is what its _HI read finds. -/
theorem shadow_found (l : List ((Level × Nat) × Word)) (k : Level × Nat) (v : Word) :
    (l.filter (fun e => decide (e.1 ≠ k)) ++ [(k, v)]).find? (fun e => decide (e.1 = k)) = some (k, v) := by
  have h := find?_filter_append (fun e : (Level × Nat) × Word => decide (e.1 = k)) l (k, v) (by simp)
  simpa using h

theorem busRead_word {a : Nat} (ha : a % 4 = 0) (s : State) (lvl : Level) : busRead s lvl a 4 = regRead s lvl a := if_pos ⟨rfl, ha⟩

/-- _HI stands 4 above _LO. -/
theorem isPairHi_add_four {a : Nat} (h : isPairLo a = true) : isPairHi (a + 4) = true := by simp [isPairHi, h]

/-- Taking what the monitors show leaves the shadows. -/
theorem readTake_shadows (s : State) (a : Nat) (now : SupplyIn) : (readTake s a now).shadows = s.shadows := by
  unfold readTake
  split <;> rfl

end Sys2Proof.Laws

namespace Sys2Proof.Proofs

open Sys2Proof Sys2Proof.Machine Sys2Proof.Laws

/-- Settles O12: the _LO read puts the level's shadow last, so that the next _HI read finds it, whatever else has changed. -/
theorem pairReadsAreOneInstant : Obligations.PairReadsAreOneInstant := by
  unfold Obligations.PairReadsAreOneInstant
  refine ⟨?pair, ?low, ?high, ?wide, ?violation, ?width, ?plain⟩
  case pair =>
    intro s lvl a now b r ha hlo hreach hb
    refine ⟨_, congrArg Host.Outcome.next ((busRead_word ha _ lvl).trans (regRead_lo hreach hlo)), ?_⟩
    rw [readFinds_ne_perf hb]
    refine ⟨rfl, fun u now2 b2 r2 hu hreach2 hb2 hlo2 => ?_⟩
    refine ⟨_, congrArg Host.Outcome.next ((busRead_word (by omega) _ lvl).trans (regRead_hi hreach2 hlo2 (isPairHi_add_four hlo) ?_)), rfl⟩
    rw [readFinds_ne_perf hb2, pepperWait_shadows_eq, readTake_shadows, hu]
    exact shadow_found _ _ _
  case low =>
    intro s lvl a now b r ha hlo hreach
    exact ⟨_, congrArg Host.Outcome.next ((busRead_word ha _ lvl).trans (regRead_lo hreach hlo)), rfl, rfl, shadow_found _ _ _⟩
  case high =>
    intro s lvl a now b r v ha hlo hhi hreach s1 hshadow
    exact ⟨_, congrArg Host.Outcome.next ((busRead_word ha _ lvl).trans (regRead_hi hreach hlo hhi hshadow)), rfl⟩
  case wide =>
    intro s lvl a now ha
    refine ⟨_, congrArg Host.Outcome.next ?_, rfl⟩
    unfold busRead
    rw [if_neg (fun h => absurd h.1 (by decide)), if_pos ⟨rfl, ha⟩]
  case violation =>
    intro s lvl a now ha hno
    exact ⟨_, congrArg Host.Outcome.next ((busRead_word ha _ lvl).trans (regRead_violation hno)), rfl⟩
  case width =>
    intro s lvl a w now h4 h8
    exact ⟨_, rfl, (if_neg h4).trans (if_neg h8)⟩
  case plain =>
    intro s lvl a now b r ha hlo hhi hreach hb
    refine ⟨_, congrArg Host.Outcome.next ((busRead_word ha _ lvl).trans (regRead_plain hreach hlo hhi)), ?_⟩
    rw [readFinds_ne_perf hb]

end Sys2Proof.Proofs
end

section
/-! Power states, resets and the draw (R61 to R79, R485 to R487). -/

namespace Sys2Proof.Laws

open Sys2Proof Sys2Proof.Machine

/-! ### Which blocks run -/

theorem fullUp_of_start {s : State} (h : s.power.st = .start) (hcool : s.power.dieHot = false) : fullUp s = true := by simp [fullUp, h, hcool]
theorem not_watch_of_fullUp {s : State} (h : fullUp s = true) : s.power.st ≠ .watch := by
  intro hw
  simp [fullUp, hw] at h

/-- A start-up under any scope begins in START. -/
theorem startUp_starts (s : State) (por : Bool) (cause row : Nat) (down fresh : Bool) (env : Option StartEnv) :
    (startUp s por cause row down fresh env).power.st = .start := by rw [startUp_power]

theorem unitOff_st (s : State) : (unitOff s).power.st = .off := rfl
theorem unitOff_nv (s : State) : (unitOff s).nv = s.nv := rfl

/-! ### The supply -/

/-- An event of the rail shows, notes what the monitors show, and leaves the power state. -/
theorem railEvent_up {s : State} (hup : blocksUp s = true) (f : Fld) (now : SupplyIn) : railEvent s f now = errRise (supplyTake s now) f 0 0 :=
  if_pos (.inl hup)

/-- Past its threshold a power-fail or an over-voltage of a unit that is up enters HOLDUP. -/
theorem powerFail_up {s : State} {ov : Bool} {now : SupplyIn} (hpast : ¬ (if ov then now.rail ≤ 36000 else 4000 ≤ now.rail)) (hup : fullUp s = true) :
    powerFail s ov now = holdupEnter (supplyTake s now) ov := by
  unfold powerFail
  rw [if_neg hpast, if_pos hup]

/-- Short of its threshold neither does anything. -/
theorem powerFail_within {s : State} {ov : Bool} {now : SupplyIn} (hwithin : if ov then now.rail ≤ 36000 else 4000 ≤ now.rail) :
    powerFail s ov now = s := if_pos hwithin

/-- In WATCH a power-fail goes to the flush phase at once. -/
theorem powerFail_watch {s : State} {now : SupplyIn} (hlow : now.rail < 4000) (hwatch : s.power.st = .watch) :
    powerFail s false now = powerTo { supplyTake s now with power := { s.power with fromWatch := true } } .flush 4 := by
  unfold powerFail
  rw [if_neg (by simpa using hlow), if_neg (fun h => not_watch_of_fullUp h hwatch), if_pos (.inl hwatch)]

theorem supplyTake_nv (s : State) (e : SupplyIn) : (supplyTake s e).nv = s.nv := rfl

/-- Back within its range the rail ends the ride-through phase. -/
theorem railReturn_power {s : State} {now : SupplyIn} (hride : s.power.st = .ride) (hback : 4500 < now.rail) (hov : s.power.ov = true → now.rail < 36000) :
    (railReturn s now).power = { s.power with st := .run, ov := false, fromStart := false, drawFrom := s.power.ot } := by
  have hin : ¬ (s.power.st ≠ .ride ∨ now.rail ≤ 4500 ∨ (s.power.ov ∧ 36000 ≤ now.rail)) := by
    rintro (h | h | ⟨h, h'⟩)
    · exact h hride
    · omega
    · have := hov h
      omega
  unfold railReturn
  rw [if_neg hin]
  simp [powerTo_power]

theorem flushBegin_st {s : State} (hride : s.power.st = .ride) : (flushBegin s).power.st = .flush := by
  unfold flushBegin
  rw [if_neg (by simp [hride])]
  simp [powerTo_power]

/-- The flush phase ends off, or in START where the rail has come back meanwhile. -/
theorem flushEnd_st {s : State} {env : StartEnv} (hflush : s.power.st = .flush) : (flushEnd s env).power.st = if s.power.railBack then .start else .off := by
  unfold flushEnd
  rw [if_neg (by simp [hflush])]
  cases s.power.railBack
  · exact unitOff_st _
  · exact startUp_starts _ _ _ _ _ _ _

/-- SERVICE_FW_RUNNING where an image passes: START becomes RUN. -/
theorem serviceFw_runs {s : State} {k : Nat} (hstart : s.power.st = .start) (hcool : s.power.dieHot = false) (hpick : (bootPick s 0).2 = some k) :
    Gives .serviceFwRunning s (fun t => t.power.st = .run) := by
  refine ⟨_, rfl, ?_⟩
  have hst : ∀ c v, (clusterRuns (bootPick (bootPick s 0).1 2).1 c v).power.st = .start := by intro c v; simp [hstart]
  simp only [fullUp_of_start hstart hcool, hpick, hst, Bool.not_true, Bool.false_eq_true, if_false, if_true]
  rw [updShow_power, powerTo_power]

end Sys2Proof.Laws

namespace Sys2Proof.Proofs

open Sys2Proof Sys2Proof.Machine Sys2Proof.Laws

/-- Settles O14: each row by the lemma of its operation, the power state by what a start-up, HOLDUP and the unit's end leave of it. -/
theorem supplyRowsAct : Obligations.SupplyRowsAct := by
  unfold Obligations.SupplyRowsAct
  refine ⟨?rise, ?firmware, ?recovery, ?low, ?high, ?notLow, ?notHigh, ?overVoltage, ?powerFail, ?noFail, ?watchFail, ?railReturn, ?rideEnd, ?flushOff,
    ?flushStart, ?exhausted, ?backInFlush⟩
  case rise =>
    intro s env hoff hrail
    refine gives_of_exec (congrArg Host.Outcome.next (if_pos ⟨hoff, hrail⟩)) ⟨rfl, startUp_starts _ _ _ _ _ _ _, ?_, ?_⟩ <;> simp [startUp_power]
  case firmware => exact fun s k hstart hcool hpick => serviceFw_runs hstart hcool hpick
  case recovery =>
    intro s hstart hcool hnone
    refine ⟨_, rfl, ?_⟩
    simp only [fullUp_of_start hstart hcool, hnone, Bool.not_true, Bool.false_eq_true, if_false]
    refine ⟨?_, trivial⟩
    rw [updShow_power]
    simp [hstart]
  case low =>
    intro s now hup hlow
    refine ⟨_, congrArg Host.Outcome.next ((if_pos hlow).trans (railEvent_up hup _ _)), ?_, rfl, by simp⟩
    exact flag_errRise_self _ _ _ _ (by decide) (by decide) (by decide)
  case high =>
    intro s now hup hhigh
    refine ⟨_, congrArg Host.Outcome.next ((if_pos hhigh).trans (railEvent_up hup _ _)), ?_, rfl, by simp⟩
    exact flag_errRise_self _ _ _ _ (by decide) (by decide) (by decide)
  case notLow => exact fun s now h => congrArg Host.Outcome.next (if_neg (by omega))
  case notHigh => exact fun s now h => ⟨congrArg Host.Outcome.next (if_neg (by omega)), congrArg Host.Outcome.next (powerFail_within (by simpa using h))⟩
  case overVoltage =>
    intro s now hup hhigh
    refine ⟨_, congrArg Host.Outcome.next (powerFail_up (by simpa using hhigh) hup), ?_⟩
    simp [holdupEnter_power]
  case powerFail =>
    intro s now hup hlow
    refine ⟨_, congrArg Host.Outcome.next (powerFail_up (by simpa using hlow) hup), ?_⟩
    simp [holdupEnter_power]
  case noFail => exact fun s now h => congrArg Host.Outcome.next (powerFail_within (by simpa using h))
  case watchFail => exact fun s now hwatch hlow => ⟨_, congrArg Host.Outcome.next (powerFail_watch hlow hwatch), rfl, rfl, rfl⟩
  case railReturn =>
    intro s now hride hback hov
    refine ⟨_, rfl, ?_⟩
    simp [railReturn_power hride hback hov]
  case rideEnd => exact fun s hride => ⟨_, rfl, flushBegin_st hride⟩
  case flushOff => exact fun s env hflush hback => ⟨_, rfl, by simp [flushEnd_st hflush, hback]⟩
  case flushStart => exact fun s env hflush hback => ⟨_, rfl, by simp [flushEnd_st hflush, hback]⟩
  case exhausted =>
    intro s hhold
    refine ⟨_, congrArg Host.Outcome.next (if_pos hhold), unitOff_st _, fun hfresh => ?_, rfl, rfl, rfl⟩
    rw [unitOff_nv]
    simp [hfresh]
  case backInFlush => exact fun s hflush => ⟨_, congrArg Host.Outcome.next (if_pos hflush), rfl⟩

end Sys2Proof.Proofs
end

section
/-! WATCH and its wake sources (R65, R66, R124). -/

namespace Sys2Proof.Laws

open Sys2Proof Sys2Proof.Machine

/-- An accepted WATCH request begins the entry with the wake sources that it found. -/
theorem watchOp_accepted {s : State} {e : Entry} (hrun : s.power.st = .run) (hno : watchCause s (wakeFound e) = none) :
    (watchOp e s).2 = .done 0 0 0
    ∧ (watchOp e s).1.power = { s.power with watchEntry := 1, heldWake := 0, wakeCfg := wakeFound e } := by
  simp [watchOp, hrun, hno, okR, watchHandover]

/-- One for which a condition of R65 or R124 fails is refused with its cause. -/
theorem watchOp_refused {s : State} {e : Entry} {c : Nat} (hrun : s.power.st = .run) (hcause : watchCause s (wakeFound e) = some c) :
    watchOp e s = (record s 1 0x2002 1 0 c 0, .done 0x40 0 c) := by
  unfold watchOp
  rw [if_neg (by simp [hrun]), hcause]
  rfl

/-- Outside RUN the request ends with STATE. -/
theorem watchOp_notRun {s : State} {e : Entry} (hnot : s.power.st ≠ .run) : watchOp e s = (s, .done 6 0 0) := if_pos hnot

/-- The entry reached leaves AON alone, or starts up again where a wake source was held meanwhile. -/
theorem watchReached_st {s : State} {env : StartEnv} (hrun : s.power.st = .run) (hentry : s.power.watchEntry ≠ 0)
    (hnoWindow : flag s R.UPD_STATUS_HOLD_WIN = false) : (watchReached s env).power.st = if s.power.heldWake = 0 then .watch else .start := by
  unfold watchReached
  rw [if_neg (by simp [hrun, hentry, hnoWindow])]
  dsimp only
  split
  · rfl
  · exact startUp_starts _ _ _ _ _ _ _

/-- An enabled wake source starts a unit in WATCH up. -/
theorem wake_inWatch {s : State} {src : Nat} {enabled : Bool} {env : StartEnv} (hwatch : s.power.st = .watch) (hen : enabled = true) :
    wake s src enabled env = startUp (wr s R.PWR_WAKE_SRC_SRC src) false 2 2 true false (some env) := by
  unfold wake
  rw [if_neg (by simp [hen]), if_pos hwatch]

end Sys2Proof.Laws

namespace Sys2Proof.Proofs

open Sys2Proof Sys2Proof.Machine Sys2Proof.Laws

/-- Settles O15: the coil rows by their guards, the request by what its action answers, the wakes by the start-up they begin. -/
theorem coilAndWatchRowsAct : Obligations.CoilAndWatchRowsAct := by
  unfold Obligations.CoilAndWatchRowsAct
  refine ⟨?coilLow, ?coilBack, ?accepted, ?refused, ?notRun, ?reached, ?reachedHeld, ?wakeInput, ?can0, ?timer⟩
  case coilLow =>
    intro s now hup hlow
    refine ⟨_, congrArg Host.Outcome.next (if_neg ?_), rfl, by simp⟩
    simp [hup, hlow]
  case coilBack =>
    intro s now hup hback
    refine ⟨_, congrArg Host.Outcome.next (if_neg ?_), rfl, by simp⟩
    simp [hup, hback]
  case accepted =>
    intro s e hgoes hrun hno
    obtain ⟨hst, hpower⟩ := watchOp_accepted hrun hno
    refine leaves_of_act hgoes (Prod.ext rfl hst) ?_
    simp [hpower, hrun]
  case refused => exact fun s e c hgoes hrun hcause => leaves_of_act hgoes (watchOp_refused hrun hcause) ⟨by simp, rfl⟩
  case notRun => exact fun s e hgoes hnot => leaves_of_act hgoes (watchOp_notRun hnot) rfl
  case reached => exact fun s env hrun hentry hnoWindow hheld => ⟨_, rfl, by simp [watchReached_st hrun hentry hnoWindow, hheld]⟩
  case reachedHeld => exact fun s env hrun hentry hnoWindow hheld => ⟨_, rfl, by simp [watchReached_st hrun hentry hnoWindow, hheld]⟩
  case wakeInput => exact fun s env hwatch hen => ⟨_, congrArg Host.Outcome.next (wake_inWatch hwatch hen), rfl, startUp_starts _ _ _ _ _ _ _⟩
  case can0 => exact fun s env hwatch hen => ⟨_, congrArg Host.Outcome.next (wake_inWatch hwatch hen), rfl, startUp_starts _ _ _ _ _ _ _⟩
  case timer =>
    exact fun s env hwatch hen => ⟨_, congrArg Host.Outcome.next (wake_inWatch hwatch (decide_eq_true hen)), rfl, startUp_starts _ _ _ _ _ _ _⟩

end Sys2Proof.Proofs
end

section
/-! Resets, the draw and the clock domains (R69, R70, R79, R485 to R487). -/

namespace Sys2Proof.Laws

open Sys2Proof Sys2Proof.Machine

/-! ### Resets -/

/-- Completing the entry at the front leaves the blocks up. -/
theorem fullUp_setFront (s : State) (qp : Nat) (st : EntrySt) : fullUp (setFront s qp st) = fullUp s := by simp [fullUp]

theorem fullUp_of_hostReach {s : State} (h : hostReach s = true) : fullUp s = true := by
  simp only [hostReach, Bool.and_eq_true] at h
  exact h.1

theorem hostReach_of_goes {s : State} {qp opc : Nat} {e : Entry} (h : Goes s qp opc e) : hostReach s = true := by
  obtain ⟨hgo, -, -⟩ := h
  obtain ⟨i, -, -, hreach, -⟩ := entryGoes_cases hgo
  exact hreach

/-- A start-up lets a held unit go. -/
theorem startUp_cool (s : State) (por : Bool) (cause row : Nat) (down fresh : Bool) (env : Option StartEnv) :
    (startUp s por cause row down fresh env).power.dieHot = false := by
  rw [startUp_power]
  rfl

/-- A SYSTEM-scope reset of a unit that is up is a start-up. -/
theorem systemReset_up {s : State} (hup : blocksUp s = true) (cause row : Nat) (env : StartEnv) :
    systemReset s cause row env = startUp s false cause row false false (some env) := if_pos hup

theorem appReset_pw (s : State) (c row : Nat) : (appReset s c row).power = s.power := by simp

/-- The state in which a die above its limit holds the unit (R70). -/
def heldHot (s : State) (now : SupplyIn) : State :=
  { wrS (wr (unitReset s false) R.SYS_RESET_CAUSE_CAUSE 4) R.PWR_DIE_TEMP_TEMP (satTemp now.dieTemp) with
    power := { (unitReset s false).power with dieHot := true } }

theorem rd_heldHot_cause (s : State) (now : SupplyIn) : rd (heldHot s now) R.SYS_RESET_CAUSE_CAUSE = 4 := by
  rw [rd_congr (t := heldHot s now) (s := wrS (wr (unitReset s false) R.SYS_RESET_CAUSE_CAUSE 4) R.PWR_DIE_TEMP_TEMP (satTemp now.dieTemp)) rfl,
    rd_wrS_ne _ _ _ _ (by decide), rd_wr_self _ _ _ (by decide)]
  rfl

/-! ### The draw -/

theorem flag_throttle_appb (s : State) (on : Bool) : flag (throttle s on) R.PWR_THROTTLE_APPB_SLOW = on := by
  unfold throttle
  rw [flag_put_ne _ _ _ _ (by decide), flag_put_ne _ _ _ _ (by decide), flag_put_self _ _ _ (by decide) (by decide)]
theorem flag_throttle_stor (s : State) (on : Bool) : flag (throttle s on) R.PWR_THROTTLE_STOR_PACED = on := by
  unfold throttle
  rw [flag_put_ne _ _ _ _ (by decide), flag_put_self _ _ _ (by decide) (by decide)]
theorem flag_throttle_clk (s : State) (on : Bool) : flag (throttle s on) R.CLK_APP_RATE_SLOW_B = on :=
  flag_put_self _ _ _ (by decide) (by decide)

/-! ### The clock domains -/

/-- A domain's bit says whether it is ready, and its crossings take the two-flop path where it is not. -/
theorem bitIn_domainTo_ok {d : Nat} (s : State) (ok : Bool) (hd : d < 12) : bitIn (domainTo s d ok) R.CLK_STATUS_DOM_OK d = ok := by
  unfold domainTo
  rw [bitIn_putBit_ne _ _ _ _ _ _ (by decide), bitIn_putBit_self _ _ _ _ (by decide) hd]
theorem bitIn_domainTo_twoFlop {d : Nat} (s : State) (ok : Bool) (hd : d < 12) : bitIn (domainTo s d ok) R.CLK_XSTAT_TWO_FLOP d = !ok :=
  bitIn_putBit_self _ _ _ _ (by decide) hd
theorem crossOk_domainTo {d : Nat} (s : State) (ok : Bool) (hd : d < 12) : crossOk (domainTo s d ok) d = ok := by
  unfold crossOk
  rw [bitIn_domainTo_twoFlop _ _ hd, Bool.not_not]

/-- The count of recovered crossings is apart from the domains' own bits. -/
theorem rd_domainTo_recovered (s : State) (d : Nat) (ok : Bool) : rd (domainTo s d ok) R.CLK_XRECOV_CNT_COUNT = rd (perfSync s) R.CLK_XRECOV_CNT_COUNT := by
  unfold domainTo
  rw [rd_putBit_ne _ _ _ _ _ (by decide), rd_putBit_ne _ _ _ _ _ (by decide)]

end Sys2Proof.Laws

namespace Sys2Proof.Proofs

open Sys2Proof Sys2Proof.Machine Sys2Proof.Laws

/-- Settles O16: each cause by its guard; what a start-up and a SAFETY or an APP scope leave of the power state is their own lemma. -/
theorem resetRowsAct : Obligations.ResetRowsAct := by
  unfold Obligations.ResetRowsAct
  refine ⟨?unit, ?cluster, ?oscillator, ?oscillatorOk, ?dieHot, ?dieCool, ?release, ?stillHot, ?lockstep, ?watchdog, ?safety, ?clusterWatchdog,
    ?safeIsland, ?safeIslandOk, ?aonIsland, ?aonIslandOk⟩
  case unit =>
    intro s e env hgoes
    have hup : blocksUp (setFront s 0 (.done 0 0 0)) = true :=
      blocksUp_of_full ((fullUp_setFront _ _ _).trans (fullUp_of_hostReach (hostReach_of_goes hgoes)))
    refine ⟨startUp (setFront s 0 (.done 0 0 0)) false 5 5 false false (some env), congrArg Host.Outcome.next ?_, rfl, startUp_starts _ _ _ _ _ _ _⟩
    rw [hgoes.1, runEntry_goes' hgoes]
    exact systemReset_up hup _ _ _
  case cluster =>
    intro s e c hgoes hc
    refine ⟨appReset (setFront s 0 (.done 0 0 0)) c 9, congrArg Host.Outcome.next ?_, rfl, by simp⟩
    rw [hgoes.1, runEntry_goes' hgoes]
    simp only [hc]
    rfl
  case oscillator =>
    intro s now env hup hfar
    exact ⟨_, congrArg Host.Outcome.next ((if_neg (by omega)).trans (systemReset_up hup _ _ _)), rfl, startUp_starts _ _ _ _ _ _ _⟩
  case oscillatorOk => exact fun s now env h => congrArg Host.Outcome.next (if_pos h)
  case dieHot =>
    intro s now hup hhot
    refine ⟨heldHot s now, congrArg Host.Outcome.next (if_neg ?_), rfl, rfl, rd_heldHot_cause s now, rfl, rfl⟩
    simp [hup, hhot]
  case dieCool => exact fun s now h => congrArg Host.Outcome.next (if_pos (.inr h))
  case release =>
    intro s env hhot hstart hcool
    exact ⟨_, congrArg Host.Outcome.next (if_pos ⟨hhot, hstart, hcool⟩), rfl, startUp_starts _ _ _ _ _ _ _, startUp_cool _ _ _ _ _ _ _⟩
  case stillHot => exact fun s env h => congrArg Host.Outcome.next (if_neg (by omega))
  case lockstep => exact fun s _ => ⟨_, rfl, rfl, safetyReset_pw _ _⟩
  case watchdog => exact fun s _ => ⟨_, rfl, rfl, safetyReset_pw _ _⟩
  case safety => exact fun s row hrow _ => ⟨_, congrArg Host.Outcome.next (if_pos hrow), rfl, safetyReset_pw _ _⟩
  case clusterWatchdog => exact fun s c hc hup => ⟨_, congrArg Host.Outcome.next (if_pos ⟨hc, hup⟩), rfl, appReset_pw _ _ _⟩
  case safeIsland => exact fun s now hup hfar => ⟨_, congrArg Host.Outcome.next (if_pos ⟨hup, hfar⟩), rfl, safetyReset_pw _ _⟩
  case safeIslandOk => exact fun s now h => congrArg Host.Outcome.next (if_neg (by omega))
  case aonIsland =>
    intro s now env hup hfar
    refine ⟨_, congrArg Host.Outcome.next ((if_pos ⟨hup, hfar⟩).trans (systemReset_up ?_ _ _ _)), rfl, startUp_starts _ _ _ _ _ _ _⟩
    exact hup
  case aonIslandOk => exact fun s now env h => congrArg Host.Outcome.next (if_neg (by omega))

/-- Settles O17: the draw's rows by the throttle's bits, the domains' by what a domain's change leaves in CLK. -/
theorem drawAndDomainRowsAct : Obligations.DrawAndDomainRowsAct := by
  unfold Obligations.DrawAndDomainRowsAct
  refine ⟨?limit, ?noLimit, ?release, ?noRelease, ?notOk, ?recovery, ?control⟩
  case limit =>
    intro s now hup hlong hdraw
    refine ⟨_, congrArg Host.Outcome.next (if_neg ?_), ?_, ?_, ?_, ?_, rfl, ?_⟩
    · simp [hup, hlong, hdraw]
    · exact (flag_errRise_ne _ _ _ _ _ (by decide) (by decide)).trans (flag_throttle_appb _ _)
    · exact (flag_errRise_ne _ _ _ _ _ (by decide) (by decide)).trans (flag_throttle_stor _ _)
    · exact (flag_errRise_ne _ _ _ _ _ (by decide) (by decide)).trans (flag_throttle_clk _ _)
    · exact flag_errRise_self _ _ _ _ (by decide) (by decide) (by decide)
    · simp
  case noLimit => exact fun s now h => congrArg Host.Outcome.next (if_pos (.inr h))
  case release =>
    intro s now sum hup hmean
    refine ⟨_, congrArg Host.Outcome.next (if_neg ?_), flag_throttle_appb _ _, flag_throttle_stor _ _, flag_throttle_clk _ _, rfl, by simp⟩
    simp [hup, hmean]
  case noRelease => exact fun s now span sum h => congrArg Host.Outcome.next (if_pos (.inr (.inr h)))
  case notOk =>
    intro s d hd hup
    exact ⟨_, congrArg Host.Outcome.next (if_pos ⟨hd, hup⟩), bitIn_domainTo_ok s false hd, bitIn_domainTo_twoFlop s false hd, crossOk_domainTo s false hd⟩
  case recovery =>
    intro s d n hd hctrl hport0 hport1 hup
    have hback : d < 12 ∧ blocksUp s = true ∧ (d ≠ 6 ∨ linkUp s false = true) ∧ (d ≠ 7 ∨ linkUp s true = true) :=
      ⟨hd, hup, or_iff_not_imp_left.mpr (fun h => hport0 (not_not.mp h)), or_iff_not_imp_left.mpr (fun h => hport1 (not_not.mp h))⟩
    refine ⟨bumpBy (domainTo s d true) R.CLK_XRECOV_CNT_COUNT n, congrArg Host.Outcome.next ((if_pos hback).trans (if_neg (fun h => hctrl h.1))),
      ?_, ?_, rfl, ?_⟩
    · exact (bitIn_wr_ne _ _ _ _ _ (by decide)).trans (bitIn_domainTo_ok s true hd)
    · exact (congrArg not (bitIn_wr_ne _ _ _ _ _ (by decide))).trans (crossOk_domainTo s true hd)
    · refine (rd_wr_self _ _ _ (by decide)).trans ?_
      rw [rd_domainTo_recovered]
      rfl
  case control =>
    intro s n hup
    refine ⟨_, congrArg Host.Outcome.next (if_pos ⟨by decide, hup, .inl (by decide), .inl (by decide)⟩), ?_⟩
    simp

end Sys2Proof.Proofs
end

section
/-! What QMGR changes when it completes entries and fills posted buffers: host memory, the queue pairs, its own registers, and the recorder with PEPPER
as records are made. Everything else stays, so that a row which appends to a stream or ends an entry can be read past it. -/

namespace Sys2Proof.Laws

open Sys2Proof Sys2Proof.Machine

/-- An address outside the spans of QMGR, REC and PEPPER. -/
abbrev OffQueue (a : Nat) : Prop := OffRec a ∧ ¬ (0x10010000 ≤ a ∧ a ≤ 0x1001FFFF)

/-- Nothing but host memory, the queue pairs, the recorder, the generators, what the module sends, and the registers of QMGR, REC and PEPPER differs. -/
def QueueOnly (s t : State) : Prop :=
  ∃ rg rc pp mm me qs ou, t = { s with regs := rg, recd := rc, pepper := pp, mem := mm, memErr := me, qps := qs, out := ou }
    ∧ ∀ a, OffQueue a → mapGet resetVal rg a = regGet s a

theorem QueueOnly.refl (s : State) : QueueOnly s s := ⟨s.regs, s.recd, s.pepper, s.mem, s.memErr, s.qps, s.out, rfl, fun _ _ => rfl⟩
theorem QueueOnly.trans {s t u : State} (h : QueueOnly s t) (k : QueueOnly t u) : QueueOnly s u := by
  obtain ⟨rg, rc, pp, mm, me, qs, ou, rfl, h⟩ := h
  obtain ⟨rg2, rc2, pp2, mm2, me2, qs2, ou2, rfl, k⟩ := k
  exact ⟨rg2, rc2, pp2, mm2, me2, qs2, ou2, rfl, fun a ha => (k a ha).trans (h a ha)⟩
theorem RecOnly.queueOnly {s t : State} (h : RecOnly s t) : QueueOnly s t := by
  obtain ⟨rg, rc, pp, rfl, h⟩ := h
  exact ⟨rg, rc, pp, s.mem, s.memErr, s.qps, s.out, rfl, fun a ha => h a ha.1⟩
theorem queueOnly_wr (s : State) (f : Fld) (v : Nat) (h : ¬ OffQueue f.addr) : QueueOnly s (wr s f v) :=
  ⟨_, s.recd, s.pepper, s.mem, s.memErr, s.qps, s.out, rfl, fun a ha => regGet_wr_ne s f v a (fun e => h (e ▸ ha))⟩
theorem queueOnly_qpMod (s : State) (qp : Nat) (f : QpState → QpState) : QueueOnly s (qpMod s qp f) :=
  ⟨s.regs, s.recd, s.pepper, s.mem, s.memErr, _, s.out, rfl, fun _ _ => rfl⟩
theorem queueOnly_memWrite (s : State) (a : Nat) (bs : List Byte) : QueueOnly s (memWrite s a bs) :=
  ⟨s.regs, s.recd, s.pepper, _, _, s.qps, s.out, rfl, fun _ _ => rfl⟩
theorem queueOnly_emit (s : State) (k : OutKind) (args : List Nat) (data : List Byte) : QueueOnly s (emit s k args data) :=
  ⟨s.regs, s.recd, s.pepper, s.mem, s.memErr, s.qps, _, rfl, fun _ _ => rfl⟩

/-- The registers of a queue pair stand in QMGR's span. -/
theorem not_offQueue_qp {qp : Nat} (hqp : qp < 46) (c : Nat) (hlo : 0x10010000 ≤ c) (hhi : c ≤ 0x10010200) : ¬ OffQueue (c + 0x40 * qp) := by
  rintro ⟨-, h⟩
  omega

section
variable (s : State) {qp : Nat} (hqp : qp < 46)
include hqp

omit hqp in
theorem queueOnly_irqCheck : QueueOnly s (irqCheck s qp) := by
  have hpend : ¬ OffQueue (irqPendFld qp).addr := by unfold irqPendFld; split <;> decide
  unfold irqCheck
  split
  · exact ((queueOnly_wr _ _ _ hpend).trans (queueOnly_qpMod _ _ _)).trans (queueOnly_emit _ _ _ _)
  · exact QueueOnly.refl s

theorem queueOnly_errNote (tag opc status : Nat) : QueueOnly s (errNote s qp tag opc status) := by
  have hpend : ¬ OffQueue (errPendFld qp).addr := by unfold errPendFld; split <;> decide
  have hcnt : ¬ OffQueue (R.QP_ERR_CNT qp) := not_offQueue_qp hqp _ (by decide) (by decide)
  have hlast : ¬ OffQueue (R.QP_LAST_ERR qp) := not_offQueue_qp hqp _ (by decide) (by decide)
  unfold errNote
  split
  · exact QueueOnly.refl s
  · have hnoted : QueueOnly s (putBit (wr (wr (wr (bump s (R.QP_ERR_CNT_COUNT qp)) (R.QP_LAST_ERR_TAG qp) tag) (R.QP_LAST_ERR_OPC qp) opc)
        (R.QP_LAST_ERR_STATUS qp) status) (errPendFld qp) (qp % 32) true) :=
      ((((queueOnly_wr _ _ _ hcnt).trans (queueOnly_wr _ _ _ hlast)).trans (queueOnly_wr _ _ _ hlast)).trans (queueOnly_wr _ _ _ hlast)).trans
        (queueOnly_wr _ _ _ hpend)
    dsimp only
    split
    · exact hnoted.trans (recOnly_record _ _ _ _ _ _ _).queueOnly
    · exact hnoted

theorem queueOnly_complete (e : Entry) : QueueOnly s (complete qp s e) := by
  cases hst : e.st
  case done status result ext =>
    have hseq : ¬ OffQueue (R.QP_SEQ qp) := not_offQueue_qp hqp _ (by decide) (by decide)
    have htail : ¬ OffQueue (R.QP_STATUS qp) := not_offQueue_qp hqp _ (by decide) (by decide)
    by_cases hno : status = 0 ∧ bitOf e.flags 0 = true
    · rw [complete_eq_self hst hno]
      exact QueueOnly.refl s
    · rw [complete_eq_noted hst hno]
      have hwritten : QueueOnly s (cqWritten s qp e status result ext) :=
        (((recOnly_pepperWait s 2 qp).queueOnly.trans (queueOnly_memWrite _ _ _)).trans (queueOnly_wr _ _ _ hseq)).trans (queueOnly_wr _ _ _ htail)
      exact ((hwritten.trans (queueOnly_errNote _ hqp _ _ _)).trans (queueOnly_qpMod _ _ _)).trans (queueOnly_irqCheck _)
  all_goals
    unfold complete
    rw [hst]
    exact QueueOnly.refl s

theorem queueOnly_completes (es : List Entry) : QueueOnly s (es.foldl (complete qp) s) := by
  induction es generalizing s with
  | nil => exact QueueOnly.refl s
  | cons e es ih => exact (queueOnly_complete s hqp e).trans (ih _)

theorem queueOnly_drain : QueueOnly s (drain s qp) := by
  have hidle : ¬ OffQueue (R.QP_STATUS qp) := not_offQueue_qp hqp _ (by decide) (by decide)
  have hdone := (queueOnly_qpMod s qp (fun q => { q with entries := (qpAt s qp).entries.dropWhile Entry.isDone })).trans
    (queueOnly_completes _ hqp ((qpAt s qp).entries.takeWhile Entry.isDone))
  unfold drain
  dsimp only
  split
  · exact hdone.trans (queueOnly_wr _ _ _ hidle)
  · exact hdone

theorem queueOnly_setEntry (i : Nat) (st : EntrySt) : QueueOnly s (setEntry s qp i st) :=
  (queueOnly_qpMod _ _ _).trans (queueOnly_drain _ hqp)

theorem queueOnly_setFront (st : EntrySt) : QueueOnly s (setFront s qp st) := by
  unfold setFront
  split
  · exact queueOnly_setEntry s hqp _ st
  · exact QueueOnly.refl s

theorem queueOnly_finishEntry (p : Entry → Bool) (status result ext : Nat) : QueueOnly s (finishEntry s qp p status result ext) := by
  unfold finishEntry
  split
  · exact queueOnly_setEntry s hqp _ _
  · exact QueueOnly.refl s

theorem queueOnly_flushPosted : QueueOnly s (flushPosted s qp) := (queueOnly_qpMod _ _ _).trans (queueOnly_drain _ hqp)

theorem queueOnly_streamWrite (data : List Byte) : QueueOnly s (streamWrite s qp data).2 := by
  have hact := (recOnly_pepperAct s 3 qp).queueOnly
  unfold streamWrite
  generalize pepperAct s 3 qp = p at hact ⊢
  dsimp only
  split
  · exact hact
  · split
    · exact hact
    · split
      · exact hact
      · split
        · exact (hact.trans (queueOnly_memWrite _ _ _)).trans (queueOnly_setEntry _ hqp _ _)
        · exact (hact.trans (queueOnly_memWrite _ _ _)).trans (queueOnly_qpMod _ _ _)

/-- A stream's record: what the stream itself changes, then, where no buffer took it, what its loss leaves. -/
theorem queueOnly_streamOr (data : List Byte) (lost : State → State) :
    QueueOnly s (streamOr s qp data lost) ∨ ∃ u, QueueOnly s u ∧ streamOr s qp data lost = lost u := by
  unfold streamOr
  dsimp only
  split
  · exact .inl (queueOnly_streamWrite s hqp data)
  · exact .inr ⟨_, queueOnly_streamWrite s hqp data, rfl⟩

end

theorem QueueOnly.regGet {s t : State} (h : QueueOnly s t) (a : Nat) (ha : OffQueue a) : regGet t a = regGet s a := by
  obtain ⟨rg, rc, pp, mm, me, qs, ou, rfl, h⟩ := h
  exact h a ha
theorem QueueOnly.rd {s t : State} (h : QueueOnly s t) (f : Fld) (hf : OffQueue f.addr) : rd t f = rd s f := by
  unfold Machine.rd
  rw [h.regGet _ hf]
theorem QueueOnly.flag {s t : State} (h : QueueOnly s t) (f : Fld) (hf : OffQueue f.addr) : flag t f = flag s f := by
  unfold Machine.flag
  rw [h.rd _ hf]

end Sys2Proof.Laws
end

section
/-! REC's commands on QP2 (R450 to R454). What a record leaves of the clearing nonce and of PEPPER's slots comes first. -/

namespace Sys2Proof.Laws

open Sys2Proof Sys2Proof.Machine

/-! ### Records beside the nonce and PEPPER's slots -/

/-- An address outside REC's span that is no count of a slot's acts. -/
abbrev OffActs (a : Nat) : Prop := ¬ (0x10100000 ≤ a ∧ a ≤ 0x1010FFFF) ∧ ∀ k < 8, R.PEPPER_S_ACTS k ≠ a

/-- The clearing nonce stays, and no register but REC's own and the counts of PEPPER's acts changes. -/
def RecQuiet (s t : State) : Prop := t.recd.nonce = s.recd.nonce ∧ ∀ a, OffActs a → regGet t a = regGet s a

theorem RecQuiet.refl (s : State) : RecQuiet s s := ⟨rfl, fun _ _ => rfl⟩
theorem RecQuiet.trans {s t u : State} (h : RecQuiet s t) (k : RecQuiet t u) : RecQuiet s u :=
  ⟨k.1.trans h.1, fun a ha => (k.2 a ha).trans (h.2 a ha)⟩
theorem recQuiet_wr (s : State) (f : Fld) (v : Nat) (h : ¬ OffActs f.addr) : RecQuiet s (wr s f v) :=
  ⟨rfl, fun a ha => regGet_wr_ne s f v a (fun e => h (e ▸ ha))⟩
/-- Fields of the recorder beside the nonce. -/
theorem recQuiet_recd (s : State) (r : RecSt) (h : r.nonce = s.recd.nonce) : RecQuiet s { s with recd := r } := ⟨h, fun _ _ => rfl⟩
theorem recQuiet_pepper (s : State) (p : PepperSt) : RecQuiet s { s with pepper := p } := ⟨rfl, fun _ _ => rfl⟩

/-- A register of REC's own. -/
theorem recQuiet_wrRec (s : State) (f : Fld) (v : Nat) (h : 0x10100000 ≤ f.addr ∧ f.addr ≤ 0x1010FFFF) : RecQuiet s (wr s f v) :=
  recQuiet_wr s f v (fun k => k.1 h)

theorem recQuiet_ite {c : Prop} [Decidable c] {s t u : State} (ht : RecQuiet s t) (hu : RecQuiet s u) : RecQuiet s (if c then t else u) := by
  split
  · exact ht
  · exact hu

theorem recQuiet_pepperSlot (target inst : Nat) {k : Nat} (hk : k < 8) (r : Bool × State) : RecQuiet r.2 (pepperSlot target inst k r).2 := by
  have hacts : ¬ OffActs (R.PEPPER_S_ACTS k) := fun h => h.2 k hk rfl
  unfold pepperSlot
  dsimp only
  split
  · split
    · exact (recQuiet_pepper _ _).trans (recQuiet_wr _ _ _ hacts)
    · exact recQuiet_pepper _ _
  · exact RecQuiet.refl _
theorem recQuiet_pepperSlots (target inst : Nat) (l : List Nat) (hl : ∀ k ∈ l, k < 8) (r : Bool × State) :
    RecQuiet r.2 (l.foldl (fun r k => pepperSlot target inst k r) r).2 := by
  induction l generalizing r with
  | nil => exact RecQuiet.refl _
  | cons k t ih => exact (recQuiet_pepperSlot target inst (hl k (by simp)) r).trans (ih (fun j hj => hl j (by simp [hj])) _)
theorem recQuiet_pepperAct (s : State) (target inst : Nat) : RecQuiet s (pepperAct s target inst).2 :=
  recQuiet_pepperSlots target inst (List.range 8) (fun k hk => by simpa using hk) (false, s)
theorem recQuiet_pepperWait (s : State) (target inst : Nat) : RecQuiet s (pepperWait s target inst) := recQuiet_pepperAct s target inst
theorem recQuiet_recShow (s : State) : RecQuiet s (recShow s) := (recQuiet_wrRec _ _ _ (by decide)).trans (recQuiet_wrRec _ _ _ (by decide))
theorem recQuiet_recWriteStart (s : State) : RecQuiet s (recWriteStart s) := by
  have hwriting : ∀ x : State, RecQuiet s x → RecQuiet s { x with recd := { x.recd with writing := x.recd.buf.length } } := fun x hx =>
    hx.trans (recQuiet_recd x _ (by rfl))
  unfold recWriteStart
  split
  · exact RecQuiet.refl _
  · split
    · exact (recQuiet_wrRec _ _ _ (by decide)).trans (recQuiet_wrRec _ _ _ (by decide))
    · exact ((hwriting _ (recQuiet_pepperWait s 6 0)).trans (recQuiet_wrRec _ _ _ (by decide))).trans (recQuiet_wrRec _ _ _ (by decide))
theorem recQuiet_recEnter (s : State) (src code level inst suppr arg0 arg1 : Nat) : RecQuiet s (recEnter s src code level inst suppr arg0 arg1) := by
  have hwants : ∀ x : State, RecQuiet s x → RecQuiet s (recShow (if recWants x then recWriteStart x else x)) := fun x hx =>
    (recQuiet_ite (hx.trans (recQuiet_recWriteStart _)) hx).trans (recQuiet_recShow _)
  have hdropped : RecQuiet s (put (bump { s with recd := { s.recd with nextSeq := (s.recd.nextSeq + 1) % 2 ^ 32 } } R.REC_DROP_CNT_COUNT) R.REC_ERR_DROP true) :=
    ((recQuiet_recd s _ (by rfl)).trans (recQuiet_wrRec _ _ _ (by decide))).trans (recQuiet_wrRec _ _ _ (by decide))
  unfold recEnter
  split
  · exact RecQuiet.refl _
  · refine hwants _ ?_
    split
    · exact recQuiet_recd s _ (by rfl)
    · split <;> exact hdropped.trans (recQuiet_recd _ _ (by rfl))
theorem recQuiet_finish {s s1 : State} (h : RecQuiet s s1) (src code level inst arg0 arg1 : Nat) (t : Bool × Nat × Bucket) :
    RecQuiet s (if t.1 then (true, recEnter s1 src code level inst t.2.1 arg0 arg1) else (false, bump s1 R.REC_SUPPR_CNT_COUNT)).2 := by
  split
  · exact h.trans (recQuiet_recEnter _ _ _ _ _ _ _ _)
  · exact h.trans (recQuiet_wrRec _ _ _ (by decide))
theorem recQuiet_recOffer1 (s : State) (src code level inst arg0 arg1 : Nat) : RecQuiet s (recOffer1 s src code level inst arg0 arg1).2 := by
  unfold recOffer1
  split
  · exact RecQuiet.refl _
  · dsimp only
    split
    · exact recQuiet_finish (recQuiet_recd _ _ (by rfl)) _ _ _ _ _ _ _
    · split
      · exact recQuiet_finish ((recQuiet_recd _ _ (by rfl)).trans (recQuiet_recShow _)) _ _ _ _ _ _ _
      · exact recQuiet_finish ((recQuiet_recd _ _ (by rfl)).trans (recQuiet_wrRec _ _ _ (by decide))) _ _ _ _ _ _ _
theorem recQuiet_recOwnErr (s : State) (f : Fld) (h : 0x10100000 ≤ f.addr ∧ f.addr ≤ 0x1010FFFF) : RecQuiet s (recOwnErr s f) :=
  (recQuiet_wrRec _ _ _ h).trans (recQuiet_recOffer1 _ _ _ _ _ _ _)
theorem recQuiet_recAfter (s0 s : State) : RecQuiet s (recAfter s0 s) := by
  have hown : ∀ (x : State) (f : Fld), 0x10100000 ≤ f.addr ∧ f.addr ≤ 0x1010FFFF → RecQuiet s x → RecQuiet s (recOwnErr x f) := fun x f h hx => hx.trans (recQuiet_recOwnErr _ _ h)
  have hdrop := recQuiet_ite (c := rd s R.REC_DROP_CNT_COUNT ≠ rd s0 R.REC_DROP_CNT_COUNT) (hown s R.REC_ERR_DROP (by decide) (RecQuiet.refl s)) (RecQuiet.refl s)
  have hshared := recQuiet_ite (c := s.recd.shared ≠ s0.recd.shared) (hown _ R.REC_ERR_SHARED (by decide) hdrop) hdrop
  exact recQuiet_ite (hown _ R.REC_ERR_STOR (by decide) hshared) hshared
theorem recQuiet_recOffer (s : State) (src code level inst arg0 arg1 : Nat) : RecQuiet s (recOffer s src code level inst arg0 arg1).2 :=
  (recQuiet_recOffer1 _ _ _ _ _ _ _).trans (recQuiet_recAfter _ _)
theorem recQuiet_record (s : State) (src code level inst arg0 arg1 : Nat) : RecQuiet s (record s src code level inst arg0 arg1) :=
  recQuiet_recOffer _ _ _ _ _ _ _
theorem recQuiet_recAlways (s : State) (src code level inst arg0 arg1 : Nat) : RecQuiet s (recAlways s src code level inst arg0 arg1) :=
  (recQuiet_recEnter _ _ _ _ _ _ _ _).trans (recQuiet_recAfter _ _)

theorem record_nonce (s : State) (src code level inst arg0 arg1 : Nat) : (record s src code level inst arg0 arg1).recd.nonce = s.recd.nonce :=
  (recQuiet_record s src code level inst arg0 arg1).1
theorem recAlways_nonce (s : State) (src code level inst arg0 arg1 : Nat) : (recAlways s src code level inst arg0 arg1).recd.nonce = s.recd.nonce :=
  (recQuiet_recAlways s src code level inst arg0 arg1).1
theorem errRise_nonce (s : State) (f : Fld) (inst arg1 : Nat) : (errRise s f inst arg1).recd.nonce = s.recd.nonce := record_nonce _ _ _ _ _ _ _

/-! ### READ -/

theorem recDamage_memEq (s : State) (bad : List Nat) : (recDamage s bad).mem = s.mem := by
  unfold recDamage
  dsimp only
  split
  · exact errRise_mem_eq _ _ _ _
  · rfl

/-- Where the copy finds nothing damaged nothing changes. -/
theorem recDamage_nil (s : State) : recDamage s [] = s := by simp [recDamage]

theorem recRead_gone {s : State} {e : Entry} {bad : List Nat} (hgone : seqBefore e.arg0 s.recd.oldest = true) :
    recRead bad e s = (s, .done 0x40 0 0) := if_pos hgone

/-- READ copies the records selected from the first SEQ on, as the copy finds them. -/
theorem recRead_held {s : State} {e : Entry} {bad : List Nat} (hheld : seqBefore e.arg0 s.recd.oldest = false) :
    let u := recDamage s (bad.filter (fun q => !seqBefore q e.arg0))
    let sel := recSelect (min (e.len / 32) e.arg1) ((recAll u).filter (fun r => !seqBefore r.seq e.arg0))
    recRead bad e s = (memWrite u e.addr (sel.1.map recBytes).flatten,
      .done 0 sel.1.length (b2n (sel.1.any (fun r => !seqBefore r.seq u.recd.stored)) + 2 * b2n sel.2.2 + 4 * b2n sel.2.1)) := by
  unfold recRead
  simp only [hheld, Bool.false_eq_true, if_false]
  rfl

/-! ### SYNC and the clearing nonce -/

/-- SYNC of a buffer that holds records runs until they are durable. -/
theorem recSync_waits {s : State} {e : Entry} (htakes : storTakes s = true) (hbuf : s.recd.buf ≠ []) :
    recSync e s = (recWriteStart s, .running s.recd.nextSeq) := by
  unfold recSync
  simp [htakes, hbuf]

theorem recSync_empty {s : State} {e : Entry} (htakes : storTakes s = true) (hbuf : s.recd.buf = []) : recSync e s = (s, .done 0 s.recd.stored 0) := by
  unfold recSync
  simp [htakes, hbuf, okR]

theorem recSync_refused {s : State} {e : Entry} (hno : storTakes s = false) : recSync e s = (s, .done 0x42 0 0) := by
  unfold recSync
  simp [hno, failR]

/-- The state with a fresh clearing nonce, held and stored. -/
def nonceDrawn (s : State) (addr : Nat) : State :=
  memWrite (put { (drawRandom s).2 with recd := { s.recd with nonce := some (Config.drbg s.idk.draws).toNat } } R.REC_STATUS_NONCE true) addr
    (leBytes 8 (Config.drbg s.idk.draws).toNat)

theorem recClearNonce_draws {s : State} {e : Entry} (hrng : flag s R.IDK_STATUS_RNG_FAIL = false) :
    recClearNonce e s = (nonceDrawn s e.addr, .done 0 8 0) := by
  unfold recClearNonce
  simp only [hrng, Bool.false_eq_true, if_false]
  rfl

/-- Eight bytes stored read back, and every other byte stays. -/
theorem memBytes_memWrite_leBytes (s : State) (a n v : Nat) : memBytes (memWrite s a (leBytes n v)) a n = leBytes n v := by
  have h := memBytes_memWrite s a (leBytes n v)
  rwa [leBytes_len] at h

/-! ### CLEAR -/

theorem recDropNonce_none (s : State) : (recDropNonce s).recd.nonce = none := rfl

/-- The state after a token that CLEAR refuses with a cause. -/
def clearRefused (s : State) (t : List Byte) (c : Nat) : State :=
  errRise (record (recDropNonce (if c = 5 then bump s R.IDK_SIG_FAIL_CNT_COUNT else s)) 17 0x0006 1 c (fieldAt t 4 4) (fieldAt t 0x1C 4)) R.REC_ERR_CLEAR_REFUSED 0 c

/-- A token that fails a check is refused with its cause; the nonce goes. -/
theorem recClear_refused {s : State} {e : Entry} {c : Nat} (hok : memBad s e.addr e.len = false) (hc : clearCause s (memBytes s e.addr e.len) = some c) :
    recClear e s = (clearRefused s (memBytes s e.addr e.len) c, .done 0x41 0 c) := by
  unfold recClear
  rw [withBuf_ok hok, hc]
  rfl

theorem clearRefused_durable (s : State) (t : List Byte) (c : Nat) : (clearRefused s t c).recd.durable = s.recd.durable := by
  unfold clearRefused
  split <;> simp
theorem clearRefused_nonce (s : State) (t : List Byte) (c : Nat) : (clearRefused s t c).recd.nonce = none := by
  unfold clearRefused
  rw [errRise_nonce, record_nonce, recDropNonce_none]

/-- The state after a token that CLEAR takes: the records below UPTO go, and so does the nonce. -/
def clearTaken (s : State) (t : List Byte) : State :=
  recAlways (recDropNonce { s with recd := { s.recd with durable := s.recd.durable.filter (fun r => !seqBefore r.seq (fieldAt t 4 4)), oldest := fieldAt t 4 4 } })
    17 0x0003 1 0 (s.recd.durable.length - (s.recd.durable.filter (fun r => !seqBefore r.seq (fieldAt t 4 4))).length) (fieldAt t 0x1C 4)

theorem recClear_taken {s : State} {e : Entry} (hok : memBad s e.addr e.len = false) (hc : clearCause s (memBytes s e.addr e.len) = none)
    (htakes : storTakes s = true) : recClear e s = (clearTaken s (memBytes s e.addr e.len),
      .done 0 (s.recd.durable.length - (s.recd.durable.filter (fun r => !seqBefore r.seq (fieldAt (memBytes s e.addr e.len) 4 4))).length) 0) := by
  unfold recClear
  rw [withBuf_ok hok, hc]
  simp only [htakes, Bool.not_true, Bool.false_eq_true, if_false]
  rfl

theorem recClear_noStor {s : State} {e : Entry} (hok : memBad s e.addr e.len = false) (hc : clearCause s (memBytes s e.addr e.len) = none)
    (hno : storTakes s = false) : recClear e s = (s, .done 0x42 0 0) := by
  unfold recClear
  rw [withBuf_ok hok, hc]
  simp [hno, failR]

end Sys2Proof.Laws

namespace Sys2Proof.Proofs

open Sys2Proof Sys2Proof.Machine Sys2Proof.Laws

/-- Settles O19: each command by what its action answers. -/
theorem recorderCommandsAct : Obligations.RecorderCommandsAct := by
  unfold Obligations.RecorderCommandsAct
  refine ⟨?read, recDamage_nil, ?readGone, ?log, ?syncEmpty, ?syncRuns, ?syncRefused, ?clearNonce, ?clear⟩
  case read =>
    intro s e bad hgoes hheld u sel
    refine leaves_of_act hgoes (recRead_held hheld) ⟨rfl, memBytes_memWrite _ _ _, fun b hb => ?_⟩
    exact (memRd_memWrite_out _ _ _ _ hb).trans (memRd_congr (recDamage_memEq _ _) b)
  case readGone => exact fun s e bad hgoes hgone => leaves_of_act hgoes (recRead_gone hgone) rfl
  case log =>
    intro s e hgoes hok o
    have hact : recLog e s = (o.2, if o.1 then .done 0 s.recd.nextSeq 0 else .done 0 0 1) := by
      unfold recLog
      rw [withBuf_ok hok]
      change (if o.1 = true then okX o.2 s.recd.nextSeq 0 else okX o.2 0 1) = _
      split <;> rfl
    exact leaves_of_act hgoes hact rfl
  case syncEmpty => exact fun s e hgoes htakes hbuf => leaves_of_act hgoes (recSync_empty htakes hbuf) rfl
  case syncRuns => exact fun s e hgoes htakes hbuf => leaves_of_act hgoes (recSync_waits htakes hbuf) rfl
  case syncRefused => exact fun s e hgoes hno => leaves_of_act hgoes (recSync_refused hno) rfl
  case clearNonce =>
    intro s e hgoes hrng
    refine leaves_of_act hgoes (recClearNonce_draws hrng) ⟨rfl, ?_, memBytes_memWrite_leBytes _ _ _ _, fun b hb => ?_⟩
    · exact (flag_memWrite _ _ _ _).trans (flag_put_self _ _ _ (by decide) (by decide))
    · exact memRd_memWrite_out _ _ _ _ (by rwa [leBytes_len])
  case clear =>
    intro s e hgoes hok t
    cases hc : clearCause s t with
    | none =>
      refine ⟨fun htakes => leaves_of_act hgoes (recClear_taken hok hc htakes) ⟨?_, ?_⟩, fun hno => leaves_of_act hgoes (recClear_noStor hok hc hno) rfl⟩
      · exact (recAlways_durable _ _ _ _ _ _ _).trans (recDropNonce_durable _)
      · exact (recAlways_nonce _ _ _ _ _ _ _).trans (recDropNonce_none _)
    | some c => exact leaves_of_act hgoes (recClear_refused hok hc) ⟨clearRefused_durable _ _ _, clearRefused_nonce _ _ _⟩

end Sys2Proof.Proofs
end

section
/-! PERF's counters and snapshots (R490 to R501), and PEPPER's slots (R505 to R507). -/

namespace Sys2Proof.Laws

open Sys2Proof Sys2Proof.Machine

/-! ### One counter -/

/-- The threshold lies among the next k values of a counter exactly where its distance ahead of VALUE is below k (R495). -/
theorem threshold_ahead_iff {v thr k : Nat} (hv : v < 2 ^ 32) (hthr : thr < 2 ^ 32) :
    (thr + 2 ^ 32 + 2 ^ 32 - v - 1) % 2 ^ 32 < k ↔ ∃ j, 1 ≤ j ∧ j ≤ k ∧ (v + j) % 2 ^ 32 = thr := by
  constructor
  · intro h
    exact ⟨(thr + 2 ^ 32 + 2 ^ 32 - v - 1) % 2 ^ 32 + 1, by omega, by omega, by omega⟩
  · rintro ⟨j, h1, hk, hj⟩
    omega

section
variable (s : State) (n k : Nat)

/-- The registers of a counter k further: VALUE wraps; a pass through 0 raises HI and sets WRAP. -/
def counted : State :=
  let t := wr s (R.PERF_C_VAL_LO_VALUE n) ((rd s (R.PERF_C_VAL_LO_VALUE n) + k) % 2 ^ 32)
  if (rd s (R.PERF_C_VAL_LO_VALUE n) + k) / 2 ^ 32 = 0 then t
  else putBit (bumpBy t (R.PERF_C_VAL_HI_HI n) ((rd s (R.PERF_C_VAL_LO_VALUE n) + k) / 2 ^ 32)) R.PERF_WRAP_WRAP n true

theorem perfCount_regs : (perfCount s n k).2.regs = (counted s n k).regs := by
  unfold perfCount counted
  dsimp only
  split <;> rfl

theorem rd_perfCount (f : Fld) : rd (perfCount s n k).2 f = rd (counted s n k) f := rd_congr (perfCount_regs s n k) f

theorem perfCount_fires :
    (perfCount s n k).1 = decide ((rd s (R.PERF_C_THR_THR n) + 2 ^ 32 + 2 ^ 32 - rd s (R.PERF_C_VAL_LO_VALUE n) - 1) % 2 ^ 32 < k) := by
  unfold perfCount
  dsimp only
  split <;> rfl

/-- A counter's advance changes no field apart from its VALUE, its HI and WRAP. -/
theorem rd_perfCount_ne (f : Fld) (hlo : Apart (R.PERF_C_VAL_LO_VALUE n) f) (hhi : Apart (R.PERF_C_VAL_HI_HI n) f) (hwrap : Apart R.PERF_WRAP_WRAP f) :
    rd (perfCount s n k).2 f = rd s f := by
  rw [rd_perfCount]
  unfold counted
  dsimp only
  split
  · exact rd_wr_ne _ _ _ _ hlo
  · exact (rd_putBit_ne _ _ _ _ _ hwrap).trans ((rd_bumpBy_ne _ _ _ _ hhi).trans (rd_wr_ne _ _ _ _ hlo))

theorem rd_perfCount_value : rd (perfCount s n k).2 (R.PERF_C_VAL_LO_VALUE n) = (rd s (R.PERF_C_VAL_LO_VALUE n) + k) % 2 ^ 32 := by
  have hself : rd (wr s (R.PERF_C_VAL_LO_VALUE n) ((rd s (R.PERF_C_VAL_LO_VALUE n) + k) % 2 ^ 32)) (R.PERF_C_VAL_LO_VALUE n)
      = (rd s (R.PERF_C_VAL_LO_VALUE n) + k) % 2 ^ 32 := (rd_wr_self _ _ _ (by simp [R.PERF_C_VAL_LO_VALUE])).trans (Nat.mod_mod _ _)
  rw [rd_perfCount]
  unfold counted
  dsimp only
  split
  · exact hself
  · refine (rd_putBit_ne _ _ _ _ _ (.inl ?_)).trans ((rd_bumpBy_ne _ _ _ _ (.inl ?_)).trans hself)
    · simp only [R.PERF_WRAP_WRAP, R.PERF_WRAP, R.PERF_C_VAL_LO_VALUE, R.PERF_C_VAL_LO]
      omega
    · simp only [R.PERF_C_VAL_HI_HI, R.PERF_C_VAL_HI, R.PERF_C_VAL_LO_VALUE, R.PERF_C_VAL_LO]
      omega

variable {s n k}

theorem rd_perfCount_noWrap (h : rd s (R.PERF_C_VAL_LO_VALUE n) + k < 2 ^ 32) (f : Fld) (hlo : Apart (R.PERF_C_VAL_LO_VALUE n) f) :
    rd (perfCount s n k).2 f = rd s f := by
  rw [rd_perfCount]
  unfold counted
  rw [if_pos (Nat.div_eq_of_lt h)]
  exact rd_wr_ne _ _ _ _ hlo

/-- Passing through 0 raises HI by as many passes and sets WRAP. -/
theorem perfCount_wraps (hn : n < 16) (h : 2 ^ 32 ≤ rd s (R.PERF_C_VAL_LO_VALUE n) + k) :
    rd (perfCount s n k).2 (R.PERF_C_VAL_HI_HI n)
      = (rd s (R.PERF_C_VAL_HI_HI n) + (rd s (R.PERF_C_VAL_LO_VALUE n) + k) / 2 ^ 32) % 2 ^ (R.PERF_C_VAL_HI_HI n).width
    ∧ bitIn (perfCount s n k).2 R.PERF_WRAP_WRAP n = true := by
  have hpass : (rd s (R.PERF_C_VAL_LO_VALUE n) + k) / 2 ^ 32 ≠ 0 := by omega
  have hwrapHi : Apart R.PERF_WRAP_WRAP (R.PERF_C_VAL_HI_HI n) :=
    .inl (by simp only [R.PERF_WRAP_WRAP, R.PERF_WRAP, R.PERF_C_VAL_HI_HI, R.PERF_C_VAL_HI]; omega)
  have hloHi : Apart (R.PERF_C_VAL_LO_VALUE n) (R.PERF_C_VAL_HI_HI n) :=
    .inl (by simp only [R.PERF_C_VAL_LO_VALUE, R.PERF_C_VAL_LO, R.PERF_C_VAL_HI_HI, R.PERF_C_VAL_HI]; omega)
  unfold bitIn
  rw [rd_perfCount, rd_perfCount]
  unfold counted
  rw [if_neg hpass]
  constructor
  · refine (rd_putBit_ne _ _ _ _ _ hwrapHi).trans ((rd_wr_self _ _ _ (by simp [R.PERF_C_VAL_HI_HI])).trans ?_)
    rw [rd_wr_ne _ _ _ _ hloHi]
  · exact bitIn_putBit_self _ _ _ _ (by decide) hn

end

/-! ### The counters brought up to date -/

/-- Bringing the counters up to date leaves SNAP.SEQ. -/
theorem rd_snapSeq_perfSync1 (r : List Nat × State) (n : Nat) : rd (perfSync1 r n).2 R.PERF_SNAP_SEQ_SEQ = rd r.2 R.PERF_SNAP_SEQ_SEQ := by
  unfold perfSync1
  dsimp only
  split
  · rfl
  · split
    · rfl
    · refine (rd_perfCount_ne _ _ _ _ (.inl ?_) (.inl ?_) (by decide)).trans (rd_congr rfl _)
      · simp only [R.PERF_C_VAL_LO_VALUE, R.PERF_C_VAL_LO, R.PERF_SNAP_SEQ_SEQ, R.PERF_SNAP_SEQ]
        omega
      · simp only [R.PERF_C_VAL_HI_HI, R.PERF_C_VAL_HI, R.PERF_SNAP_SEQ_SEQ, R.PERF_SNAP_SEQ]
        omega

theorem rd_snapSeq_perfSyncs (l : List Nat) (r : List Nat × State) : rd (l.foldl perfSync1 r).2 R.PERF_SNAP_SEQ_SEQ = rd r.2 R.PERF_SNAP_SEQ_SEQ := by
  induction l generalizing r with
  | nil => rfl
  | cons n l ih => exact (ih _).trans (rd_snapSeq_perfSync1 r n)

/-- The actions of a fired event leave SNAP.SEQ. -/
theorem rd_snapSeq_perfFire (s : State) (n : Nat) : rd (perfFire s n) R.PERF_SNAP_SEQ_SEQ = rd s R.PERF_SNAP_SEQ_SEQ := by
  have hirq : rd (if bitOf (rd s (R.PERF_C_ACT_ACT n)) 0 then
      (if bitIn s R.PERF_THR_PEND_PEND n then errRise s R.PERF_ERR_THR_OVERRUN n 0
       else emit (putBit s R.PERF_THR_PEND_PEND n true) .perfIrq [ownerOf s 42, n] []) else s) R.PERF_SNAP_SEQ_SEQ = rd s R.PERF_SNAP_SEQ_SEQ := by
    split
    · split
      · exact rd_errRise_ne _ _ _ _ _ (by decide) (by decide)
      · exact (rd_emit _ _ _ _ _).trans (rd_putBit_ne _ _ _ _ _ (by decide))
    · rfl
  unfold perfFire
  dsimp only
  split
  · exact (rd_errRise_ne _ _ _ _ _ (by decide) (by decide)).trans hirq
  · exact hirq

theorem rd_snapSeq_perfReload (s : State) (n : Nat) : rd (perfReload s n) R.PERF_SNAP_SEQ_SEQ = rd s R.PERF_SNAP_SEQ_SEQ := by
  unfold perfReload
  split
  · refine rd_wr_ne _ _ _ _ (.inl ?_)
    simp only [R.PERF_C_VAL_LO_VALUE, R.PERF_C_VAL_LO, R.PERF_SNAP_SEQ_SEQ, R.PERF_SNAP_SEQ]
    omega
  · rfl

/-- A field that each step of a fold leaves is left by the fold. -/
theorem rd_foldl {α : Type} {f : State → α → State} {g : Fld} (h : ∀ s x, rd (f s x) g = rd s g) (l : List α) (s : State) :
    rd (l.foldl f s) g = rd s g := by
  induction l generalizing s with
  | nil => rfl
  | cons x l ih => exact (ih _).trans (h s x)

/-- A snapshot takes the next SEQ, kept or lost. -/
theorem rd_snapSeq_perfSnap (s : State) (cause hits : Nat) :
    rd (perfSnap s cause hits) R.PERF_SNAP_SEQ_SEQ = (rd s R.PERF_SNAP_SEQ_SEQ + 1) % 2 ^ 32 := by
  have hseq : rd (bump s R.PERF_SNAP_SEQ_SEQ) R.PERF_SNAP_SEQ_SEQ = (rd s R.PERF_SNAP_SEQ_SEQ + 1) % 2 ^ 32 := rd_bump_self _ _ (by decide)
  unfold perfSnap
  dsimp only
  rcases queueOnly_streamOr { bump s R.PERF_SNAP_SEQ_SEQ with perf := { (bump s R.PERF_SNAP_SEQ_SEQ).perf with wraps := 0 } } (qp := 42) (by decide)
    (cloveBytes (bump s R.PERF_SNAP_SEQ_SEQ) (rd (bump s R.PERF_SNAP_SEQ_SEQ) R.PERF_SNAP_SEQ_SEQ) cause hits)
    (fun s => errRise (bump s R.PERF_SNAP_LOST_CNT_COUNT) R.PERF_ERR_LOST 0 0) with hkept | ⟨u, hu, hlost⟩
  · exact (hkept.rd _ (by decide)).trans ((rd_congr rfl _).trans hseq)
  · rw [hlost, rd_errRise_ne _ _ _ _ _ (by decide) (by decide), rd_bump_ne _ _ _ (by decide)]
    exact (hu.rd _ (by decide)).trans ((rd_congr rfl _).trans hseq)

/-- With a cause of its own a look at the counters takes a snapshot. -/
theorem rd_snapSeq_perfSyncWith (s : State) {cause : Nat} (hcause : cause ≠ 0) :
    rd (perfSyncWith s cause) R.PERF_SNAP_SEQ_SEQ = (rd s R.PERF_SNAP_SEQ_SEQ + 1) % 2 ^ 32 := by
  unfold perfSyncWith
  dsimp only
  rw [rd_foldl rd_snapSeq_perfReload, if_neg (by omega), rd_snapSeq_perfSnap, rd_foldl rd_snapSeq_perfFire, rd_snapSeq_perfSyncs]

/-- With no counter enabled a look at them changes nothing. -/
theorem perfSync_noneEnabled {s : State} (hnone : rd s R.PERF_STATUS_EN = 0) : perfSyncWith s 0 = s := by
  have hskip : ∀ n, perfSync1 ([], s) n = ([], s) := by
    intro n
    have hoff : bitIn s R.PERF_STATUS_EN n = false := by simp [bitIn, hnone]
    unfold perfSync1
    simp [hoff]
  have hfold : ∀ l : List Nat, l.foldl perfSync1 ([], s) = ([], s) := by
    intro l
    induction l with
    | nil => rfl
    | cons n l ih => rw [List.foldl_cons, hskip, ih]
  unfold perfSyncWith
  rw [hfold]
  rfl

/-! ### PEPPER's slots -/

theorem recQuiet_errRise (s : State) (f : Fld) (inst arg1 a : Nat) (ha : OffActs a) (h : f.addr ≠ a) : regGet (errRise s f inst arg1) a = regGet s a :=
  ((recQuiet_record _ _ _ _ _ _ _).2 a ha).trans (regGet_wr_ne _ _ _ _ h)

/-- A slot's status is no count of acts. -/
theorem offActs_stat {k : Nat} (hk : k < 8) : OffActs (R.PEPPER_S_STAT k) := by
  refine ⟨?_, fun j hj => ?_⟩
  · simp only [R.PEPPER_S_STAT]
    omega
  · simp only [R.PEPPER_S_ACTS, R.PEPPER_S_STAT]
    omega

theorem regGet_putBit_ne (s : State) (f : Fld) (i : Nat) (b : Bool) (a : Nat) (h : f.addr ≠ a) : regGet (putBit s f i b) a = regGet s a :=
  regGet_wr_ne _ _ _ _ h

section
variable (s : State) {k : Nat} (forced : Bool)

/-- Disarming a slot leaves the status of every other slot. -/
theorem regGet_pepperDisarm_ne {j : Nat} (hj : j < 8) (h : j ≠ k) : regGet (pepperDisarm s k forced) (R.PEPPER_S_STAT j) = regGet s (R.PEPPER_S_STAT j) := by
  have hstat : R.PEPPER_S_STAT k ≠ R.PEPPER_S_STAT j := by simp only [R.PEPPER_S_STAT]; omega
  have hstatus : R.PEPPER_STATUS ≠ R.PEPPER_S_STAT j := by simp only [R.PEPPER_STATUS, R.PEPPER_S_STAT]; omega
  have herr : R.PEPPER_ERR ≠ R.PEPPER_S_STAT j := by simp only [R.PEPPER_ERR, R.PEPPER_S_STAT]; omega
  have hoff : ∀ x : State, regGet (putBit (put (put x (R.PEPPER_S_STAT_ARMED k) false) (R.PEPPER_S_STAT_FORCED_OFF k) forced) R.PEPPER_STATUS_ARMED k false)
      (R.PEPPER_S_STAT j) = regGet x (R.PEPPER_S_STAT j) := fun x =>
    (regGet_wr_ne _ _ _ _ hstatus).trans ((regGet_wr_ne _ _ _ _ hstat).trans (regGet_wr_ne _ _ _ _ hstat))
  unfold pepperDisarm
  split
  · rfl
  · dsimp only
    split
    · exact (recQuiet_errRise _ _ _ _ _ (offActs_stat hj) herr).trans (hoff s)
    · exact hoff s

/-- A disarmed slot is not armed. -/
theorem flag_armed_pepperDisarm (hk : k < 8) : flag (pepperDisarm s k forced) (R.PEPPER_S_STAT_ARMED k) = false := by
  have hstatus : Apart R.PEPPER_STATUS_ARMED (R.PEPPER_S_STAT_ARMED k) :=
    .inl (by simp only [R.PEPPER_STATUS_ARMED, R.PEPPER_STATUS, R.PEPPER_S_STAT_ARMED, R.PEPPER_S_STAT]; omega)
  have herr : R.PEPPER_ERR ≠ R.PEPPER_S_STAT k := by simp only [R.PEPPER_ERR, R.PEPPER_S_STAT]; omega
  have hoff : flag (putBit (put (put s (R.PEPPER_S_STAT_ARMED k) false) (R.PEPPER_S_STAT_FORCED_OFF k) forced) R.PEPPER_STATUS_ARMED k false)
      (R.PEPPER_S_STAT_ARMED k) = false :=
    (flag_wr_ne _ _ _ _ hstatus).trans ((flag_put_ne _ _ _ _ (.inr (by simp [R.PEPPER_S_STAT_ARMED, R.PEPPER_S_STAT_FORCED_OFF]))).trans
      (flag_put_self _ _ _ (by simp [R.PEPPER_S_STAT_ARMED]) (by simp [R.PEPPER_S_STAT_ARMED])))
  unfold pepperDisarm
  split
  · rename_i h
    simpa using h
  · dsimp only
    split
    · unfold flag rd at hoff ⊢
      rw [show (R.PEPPER_S_STAT_ARMED k).addr = R.PEPPER_S_STAT k from rfl] at hoff ⊢
      rw [recQuiet_errRise _ _ _ _ _ (offActs_stat hk) herr]
      exact hoff
    · exact hoff

theorem flag_armed_pepperDisarm_ne {j : Nat} (hj : j < 8) (h : j ≠ k) :
    flag (pepperDisarm s k forced) (R.PEPPER_S_STAT_ARMED j) = flag s (R.PEPPER_S_STAT_ARMED j) := by
  unfold flag rd
  rw [show (R.PEPPER_S_STAT_ARMED j).addr = R.PEPPER_S_STAT j from rfl, regGet_pepperDisarm_ne s forced hj h]

end

/-- An armed slot disarmed without force: its own bits alone. -/
theorem pepperDisarm_armed {s : State} {k : Nat} (harmed : flag s (R.PEPPER_S_STAT_ARMED k) = true) :
    pepperDisarm s k false = putBit (put (put s (R.PEPPER_S_STAT_ARMED k) false) (R.PEPPER_S_STAT_FORCED_OFF k) false) R.PEPPER_STATUS_ARMED k false := by
  unfold pepperDisarm
  simp [harmed]

theorem flag_forcedOff_pepperDisarm {s : State} {k : Nat} (harmed : flag s (R.PEPPER_S_STAT_ARMED k) = true) :
    flag (pepperDisarm s k false) (R.PEPPER_S_STAT_FORCED_OFF k) = false := by
  have hstatus : Apart R.PEPPER_STATUS_ARMED (R.PEPPER_S_STAT_FORCED_OFF k) :=
    .inl (by simp only [R.PEPPER_STATUS_ARMED, R.PEPPER_STATUS, R.PEPPER_S_STAT_FORCED_OFF, R.PEPPER_S_STAT]; omega)
  rw [pepperDisarm_armed harmed]
  exact (flag_wr_ne _ _ _ _ hstatus).trans (flag_put_self _ _ _ (by simp [R.PEPPER_S_STAT_FORCED_OFF]) (by simp [R.PEPPER_S_STAT_FORCED_OFF]))

theorem bitIn_status_pepperDisarm {s : State} {k : Nat} (hk : k < 8) (harmed : flag s (R.PEPPER_S_STAT_ARMED k) = true) :
    bitIn (pepperDisarm s k false) R.PEPPER_STATUS_ARMED k = false := by
  rw [pepperDisarm_armed harmed]
  exact bitIn_putBit_self _ _ _ _ (by decide) hk

/-- Disarming touches REC and PEPPER alone, so that what forces a disarm stays. -/
theorem recOnly_pepperDisarm (s : State) {k : Nat} (hk : k < 8) (forced : Bool) : RecOnly s (pepperDisarm s k forced) := by
  have hstat : ¬ OffRec (R.PEPPER_S_STAT k) := by simp only [OffRec, R.PEPPER_S_STAT]; omega
  have hoff : RecOnly s (putBit (put (put s (R.PEPPER_S_STAT_ARMED k) false) (R.PEPPER_S_STAT_FORCED_OFF k) forced) R.PEPPER_STATUS_ARMED k false) :=
    ((recOnly_put _ _ _ hstat).trans (recOnly_put _ _ _ hstat)).trans (recOnly_wr _ _ _ (by decide))
  unfold pepperDisarm
  split
  · exact RecOnly.refl s
  · dsimp only
    split
    · exact (hoff.trans (recOnly_put _ _ _ (by decide))).trans (recOnly_record _ _ _ _ _ _ _)
    · exact hoff

theorem pepperAllOff_recOnly {s t : State} (h : RecOnly s t) : pepperAllOff t = pepperAllOff s := by
  have hpower : t.power = s.power := by
    obtain ⟨_, _, _, rfl, _⟩ := h
    rfl
  have hlock : rd t R.SYS_LOCK_LOCKED = rd s R.SYS_LOCK_LOCKED := h.rd _ (by decide)
  unfold pepperAllOff blockLocked bitIn
  rw [hpower, h.flag R.UPD_STATUS_HO_RUN (by decide), hlock]

/-- The step of a forced disarm. -/
theorem pepperForce_step {s : State} (hoff : pepperAllOff s = true) (k : Nat) :
    (if pepperAllOff s || (pepperClassS s k && !pepperSOk s) then pepperDisarm s k true else s) = pepperDisarm s k true := by simp [hoff]

/-- While every slot must be off, a forced disarm leaves no slot of those it visits armed. -/
theorem armed_forceSteps (l : List Nat) (hl : ∀ k ∈ l, k < 8) (s : State) (hoff : pepperAllOff s = true) {j : Nat} (hj : j < 8)
    (h : j ∈ l ∨ flag s (R.PEPPER_S_STAT_ARMED j) = false) :
    flag (l.foldl (fun s k => if pepperAllOff s || (pepperClassS s k && !pepperSOk s) then pepperDisarm s k true else s) s) (R.PEPPER_S_STAT_ARMED j) = false := by
  induction l generalizing s with
  | nil => simpa using h
  | cons k l ih =>
    rw [List.foldl_cons, pepperForce_step hoff]
    refine ih (fun m hm => hl m (by simp [hm])) _ ((pepperAllOff_recOnly (recOnly_pepperDisarm s (hl k (by simp)) true)).trans hoff) ?_
    by_cases hjk : j = k
    · subst hjk
      exact .inr (flag_armed_pepperDisarm s true hj)
    · rcases h with h | h
      · exact .inl (by simpa [hjk] using h)
      · exact .inr ((flag_armed_pepperDisarm_ne s true hj hjk).trans h)

end Sys2Proof.Laws

namespace Sys2Proof.Proofs

open Sys2Proof Sys2Proof.Machine Sys2Proof.Laws

/-- Settles O20: a look at the counters is perfSyncWith, whose snapshot takes the next SEQ. -/
theorem perfRowsAct : Obligations.PerfRowsAct := by
  unfold Obligations.PerfRowsAct
  refine ⟨?threshold, ?wrap, ?none, ?periodic, ?notPeriodic, ?snap⟩
  case threshold => exact fun s => ⟨_, rfl, rfl⟩
  case wrap => exact fun s => ⟨_, rfl, rfl⟩
  case none => exact fun s hnone => ⟨congrArg Host.Outcome.next (perfSync_noneEnabled hnone), congrArg Host.Outcome.next (perfSync_noneEnabled hnone)⟩
  case periodic =>
    exact fun s hon => ⟨_, congrArg Host.Outcome.next (if_pos hon), rfl, rd_snapSeq_perfSyncWith s (by decide)⟩
  case notPeriodic => exact fun s hoff => congrArg Host.Outcome.next (if_neg (by simp [hoff]))
  case snap =>
    intro s e hgoes
    have hact : perfSnapOp e s = (perfSyncWith s 2, .done 0 ((rd s R.PERF_SNAP_SEQ_SEQ + 1) % 2 ^ 32) 0) := by
      rw [← rd_snapSeq_perfSyncWith s (by decide : (2 : Nat) ≠ 0)]
      rfl
    exact leaves_of_act hgoes hact rfl

/-- Settles O21: one counter's advance, field by field. -/
theorem countersWrapIntoHi : Obligations.CountersWrapIntoHi := by
  unfold Obligations.CountersWrapIntoHi
  intro s n k hn v t
  refine ⟨rd_perfCount_value s n k, fun h => ?_, fun h => perfCount_wraps hn h, fun m hm hne => ?_, ?_⟩
  · exact ⟨rd_perfCount_noWrap h _ (.inl (by simp only [R.PERF_C_VAL_LO_VALUE, R.PERF_C_VAL_LO, R.PERF_C_VAL_HI_HI, R.PERF_C_VAL_HI]; omega)),
      rd_perfCount_noWrap h _ (.inl (by simp only [R.PERF_C_VAL_LO_VALUE, R.PERF_C_VAL_LO, R.PERF_WRAP_WRAP, R.PERF_WRAP]; omega))⟩
  · refine rd_perfCount_ne s n k _ (.inl ?_) (.inl ?_) (.inl ?_)
    · simp only [R.PERF_C_VAL_LO_VALUE, R.PERF_C_VAL_LO]
      omega
    · simp only [R.PERF_C_VAL_HI_HI, R.PERF_C_VAL_HI, R.PERF_C_VAL_LO_VALUE, R.PERF_C_VAL_LO]
      omega
    · simp only [R.PERF_WRAP_WRAP, R.PERF_WRAP, R.PERF_C_VAL_LO_VALUE, R.PERF_C_VAL_LO]
      omega
  · rw [perfCount_fires, decide_eq_true_iff]
    exact threshold_ahead_iff (rd_lt s _) (rd_lt s _)

/-- Settles O22: a forced disarm reaches every slot; one slot's disarm is its own. -/
theorem perturbationRowsAct : Obligations.PerturbationRowsAct := by
  unfold Obligations.PerturbationRowsAct
  refine ⟨fun s hoff => ⟨_, rfl, fun k hk => ?_⟩, fun s k hk harmed => ⟨_, rfl, flag_armed_pepperDisarm s false hk,
    flag_forcedOff_pepperDisarm harmed, if_neg ?_, bitIn_status_pepperDisarm hk harmed, fun j hj hne => flag_armed_pepperDisarm_ne s false hj hne⟩⟩
  · exact armed_forceSteps (List.range 8) (fun k hk => by simpa using hk) s hoff hk (.inl (by simpa using hk))
  · simp [flag_armed_pepperDisarm s false hk]

end Sys2Proof.Proofs
end

section
/-! IDK: certificates, nonces, key records and management sessions (R460 to R469). -/

namespace Sys2Proof.Laws

open Sys2Proof Sys2Proof.Machine

/-! ### Lengths of what is stored -/

theorem length_padTo (n : Nat) (bs : List Byte) : (padTo n bs).length = n := by
  simp only [padTo, zeros, List.length_append, List.length_take, List.length_replicate]
  omega

/-- The leading bytes of what was stored read back. -/
theorem memBytes_memWrite_prefix (s : State) (a : Nat) (bs cs : List Byte) : memBytes (memWrite s a (bs ++ cs)) a bs.length = bs := by
  have h := memBytes_memWrite s a (bs ++ cs)
  unfold memBytes at h ⊢
  have htake := congrArg (List.take bs.length) h
  rwa [← List.map_take, List.take_range, List.take_left, List.length_append, Nat.min_eq_left (by omega)] at htake

/-- Bytes longer than the padding are cut to it, so that a short beginning stays. -/
theorem padTo_append {n : Nat} {bs : List Byte} (cs : List Byte) (h : bs.length ≤ n) : ∃ ds, padTo n (bs ++ cs) = bs ++ ds := by
  refine ⟨(cs.take (n - bs.length)) ++ zeros (n - (bs ++ cs).length), ?_⟩
  rw [padTo, List.take_append, List.take_of_length_le h, List.append_assoc]

theorem length_memBytes (s : State) (a n : Nat) : (memBytes s a n).length = n := by simp [memBytes]

/-! ### ATTEST and NONCE -/

/-- The body that ATTEST signs: the challenge, then what the unit says of itself. -/
def attestBody (s : State) (a : Nat) : List Byte :=
  padTo 96 (memBytes s a 32 ++ leBytes 8 Config.serial.toNat ++ leBytes 8 (otNow s) ++ leBytes 4 (pcNow s) ++ leBytes 4 (regGet s R.SYS_FW_VER_SP).toNat
    ++ leBytes 4 (rd s R.SYS_FW_VER_A_VER) ++ leBytes 4 (rd s R.SYS_FW_VER_B_VER)
    ++ leBytes 4 (Config.bootCrc ((cfgNewest s).boot.st ++ [(cfgNewest s).boot.floorSys, (cfgNewest s).boot.floorApp, (cfgNewest s).boot.trials])).toNat)

/-- What ATTEST stores: the body and its signature. -/
def attestBytes (s : State) (a : Nat) : List Byte := attestBody s a ++ leBytes 64 (Config.unitSign (attestBody s a)).toNat

theorem idkAttest_stores {s : State} {e : Entry} (hok : memBad s e.addr 32 = false) :
    idkAttest e s = (memWrite s e.addr (attestBytes s e.addr), .done 0 160 0) := by
  unfold idkAttest
  rw [withBuf_ok (e := { e with len := 32 }) hok]
  rfl

theorem length_attestBytes (s : State) (a : Nat) : (attestBytes s a).length = 160 := by
  rw [attestBytes, List.length_append, leBytes_len, attestBody, length_padTo]

/-- The attestation begins with the challenge. -/
theorem attestBytes_challenge (s : State) (a : Nat) : ∃ ds, attestBytes s a = memBytes s a 32 ++ ds := by
  have hlen : (memBytes s a 32).length ≤ 96 := by rw [length_memBytes]; omega
  unfold attestBytes attestBody
  simp only [List.append_assoc]
  obtain ⟨ds, hds⟩ := padTo_append (n := 96) (bs := memBytes s a 32) (leBytes 8 Config.serial.toNat ++ (leBytes 8 (otNow s) ++ (leBytes 4 (pcNow s)
    ++ (leBytes 4 (regGet s R.SYS_FW_VER_SP).toNat ++ (leBytes 4 (rd s R.SYS_FW_VER_A_VER) ++ (leBytes 4 (rd s R.SYS_FW_VER_B_VER)
    ++ leBytes 4 (Config.bootCrc ((cfgNewest s).boot.st ++ [(cfgNewest s).boot.floorSys, (cfgNewest s).boot.floorApp, (cfgNewest s).boot.trials])).toNat)))))) hlen
  rw [hds]
  exact ⟨_, List.append_assoc _ _ _⟩

theorem memBytes_attest (s : State) (a : Nat) : memBytes (memWrite s a (attestBytes s a)) a 32 = memBytes s a 32 := by
  obtain ⟨ds, hds⟩ := attestBytes_challenge s a
  rw [hds]
  simpa [length_memBytes] using memBytes_memWrite_prefix s a (memBytes s a 32) ds

/-- The state with a fresh nonce for the next key record or session, held and stored. -/
def keyNonceDrawn (s : State) (addr : Nat) : State :=
  memWrite (put { s with idk := { s.idk with draws := s.idk.draws + 1, nonce := some (Config.drbg s.idk.draws).toNat } } R.IDK_STATUS_NONCE true) addr
    (leBytes 8 (Config.drbg s.idk.draws).toNat)

theorem idkNonce_draws {s : State} {e : Entry} (hrng : flag s R.IDK_STATUS_RNG_FAIL = false) : idkNonce e s = (keyNonceDrawn s e.addr, .done 0 8 0) := by
  unfold idkNonce
  simp only [hrng, Bool.false_eq_true, if_false]
  rfl

/-! ### Key records -/

/-- Whether a record revokes a release key, whose fuse burns. -/
def burnsFuse (r : List Byte) : Bool := decide (fieldAt r 4 1 = 2) && isRelKey (fieldAt r 0x1C 4)

/-- The state with a record that passed every check taken over. -/
def keyRecordTaken (s : State) (r : List Byte) : State :=
  let id := fieldAt r 0x1C 4
  let u := idkDropNonce s
  if burnsFuse r then { u with idk := { u.idk with burned := setBit u.idk.burned (id - 1) true } }
  else if fieldAt r 4 1 = 1 then
    tabStore u { u.idk.tab with
      keys := u.idk.tab.keys ++ [{ id := id, oper := fieldAt r 0x20 4, rights := fieldAt r 5 1, pub := (r.drop 0x28).take 64 }]
      seq := u.idk.tab.seq + 1
      tagOk := true }
  else
    sessCloseKey (tabStore u { u.idk.tab with
      keys := u.idk.tab.keys.filter (fun k => decide (k.id ≠ id))
      revoked := u.idk.tab.revoked ++ u.idk.tab.keys.filter (fun k => decide (k.id = id))
      seq := u.idk.tab.seq + 1
      tagOk := true }) id

/-- Where STOR takes the change, and it is not the last release key that goes, the record is judged by the checks of R465 alone. -/
theorem idkKeyRecord_judged {s : State} {e : Entry} {r : List Byte} (hr : memBytes s e.addr e.len = r) (hok : memBad s e.addr e.len = false)
    (hstor : burnsFuse r = false → storTakes s = true) (hlast : burnsFuse r = true → relLive s ≠ [fieldAt r 0x1C 4]) :
    idkKeyRecord e s = match recordCause s r with
      | some c => recRefuse s c
      | none => (keyRecordTaken s r, .done 0 (fieldAt r 0x1C 4) 0) := by
  unfold idkKeyRecord
  rw [withBuf_ok hok, hr]
  have hstor' : (!(decide (fieldAt r 4 1 = 2) && isRelKey (fieldAt r 0x1C 4)) && !storTakes s) = false := by
    cases hf : burnsFuse r
    · simp [hstor hf]
    · rw [burnsFuse] at hf
      simp [hf]
  have hlast' : ¬ (2 < (recordCause s r).getD 9 ∧ (decide (fieldAt r 4 1 = 2) && isRelKey (fieldAt r 0x1C 4)) = true ∧ relLive s = [fieldAt r 0x1C 4]) :=
    fun h => hlast h.2.1 h.2.2
  dsimp only
  rw [hstor', if_neg (by decide), if_neg hlast']
  cases recordCause s r
  · dsimp only
    unfold keyRecordTaken burnsFuse
    split
    · rfl
    · split <;> rfl
  · rfl

theorem recRefuse_answer (s : State) (c : Nat) : (recRefuse s c).2 = .done 0x40 0 c := rfl
theorem recRefuse_idk (s : State) (c : Nat) : (recRefuse s c).1.idk = s.idk := by
  unfold recRefuse failX
  split <;> simp
theorem flag_recRefuse (s : State) (c : Nat) : flag (recRefuse s c).1 R.IDK_ERR_REC_REJ = true :=
  flag_errRise_self _ _ _ _ (by decide) (by decide) (by decide)

theorem tabStore_idk (s : State) (t : KeyTab) : (tabStore s t).idk = { s.idk with tab := t } := by simp [tabStore]

theorem burnsFuse_enrol {r : List Byte} (h : fieldAt r 4 1 = 1) : burnsFuse r = false := by simp [burnsFuse, h]
theorem burnsFuse_operator {r : List Byte} (h : isRelKey (fieldAt r 0x1C 4) = false) : burnsFuse r = false := by simp [burnsFuse, h]
theorem burnsFuse_release {r : List Byte} (h2 : fieldAt r 4 1 = 2) (h : isRelKey (fieldAt r 0x1C 4) = true) : burnsFuse r = true := by
  simp [burnsFuse, h2, h]

/-- An ENROL adds its key to the table. -/
theorem keyRecordTaken_enrol {s : State} {r : List Byte} (h : fieldAt r 4 1 = 1) : (keyRecordTaken s r).idk = { s.idk with
    nonce := none
    tab := { s.idk.tab with
      keys := s.idk.tab.keys ++ [{ id := fieldAt r 0x1C 4, oper := fieldAt r 0x20 4, rights := fieldAt r 5 1, pub := (r.drop 0x28).take 64 }]
      seq := s.idk.tab.seq + 1
      tagOk := true } } := by
  unfold keyRecordTaken
  simp only [burnsFuse_enrol h, Bool.false_eq_true, if_false, if_pos h, tabStore_idk]
  rfl

/-- A release key's revocation burns its fuse. -/
theorem keyRecordTaken_release {s : State} {r : List Byte} (h2 : fieldAt r 4 1 = 2) (h : isRelKey (fieldAt r 0x1C 4) = true) :
    (keyRecordTaken s r).idk = { s.idk with nonce := none, burned := setBit s.idk.burned (fieldAt r 0x1C 4 - 1) true } := by
  unfold keyRecordTaken
  simp only [burnsFuse_release h2 h, if_true]
  rfl

/-- An operator key's revocation moves it to the revoked ones and closes its sessions. -/
theorem keyRecordTaken_operator {s : State} {r : List Byte} (h2 : fieldAt r 4 1 = 2) (h : isRelKey (fieldAt r 0x1C 4) = false) :
    keyRecordTaken s r = sessCloseKey (tabStore (idkDropNonce s) { s.idk.tab with
      keys := s.idk.tab.keys.filter (fun k => decide (k.id ≠ fieldAt r 0x1C 4))
      revoked := s.idk.tab.revoked ++ s.idk.tab.keys.filter (fun k => decide (k.id = fieldAt r 0x1C 4))
      seq := s.idk.tab.seq + 1
      tagOk := true }) (fieldAt r 0x1C 4) := by
  unfold keyRecordTaken
  simp only [burnsFuse_operator h, Bool.false_eq_true, if_false, h2]
  rfl

/-! ### KEY_LIST -/

/-- The 80 bytes of a listed key; `st` 1 in the table, 2 revoked. -/
def keyListBytes (st : Nat) (k : OpKey) : List Byte :=
  leBytes 4 k.id ++ leBytes 4 k.oper ++ leBytes 1 k.rights ++ leBytes 1 st ++ zeros 6 ++ padTo 64 k.pub

theorem length_keyListBytes (st : Nat) (k : OpKey) : (keyListBytes st k).length = 80 := by
  simp [keyListBytes, leBytes_len, length_padTo, zeros]

/-- Equal pieces joined. -/
theorem length_flatten_of_forall {l : List (List Byte)} {n : Nat} (h : ∀ x ∈ l, x.length = n) : l.flatten.length = n * l.length := by
  induction l with
  | nil => simp
  | cons x l ih =>
    rw [List.flatten_cons, List.length_append, h x (by simp), ih (fun y hy => h y (by simp [hy])), List.length_cons, Nat.mul_succ, Nat.add_comm]

/-- What KEY_LIST stores: the keys of the table, then the revoked ones, as many as fit. -/
def keyListing (s : State) (n : Nat) : List Byte :=
  ((s.idk.tab.keys.map (keyListBytes 1) ++ s.idk.tab.revoked.map (keyListBytes 2)).take n).flatten

theorem length_keyListing (s : State) (n : Nat) : (keyListing s n).length = 80 * min n (s.idk.tab.keys.length + s.idk.tab.revoked.length) := by
  unfold keyListing
  rw [length_flatten_of_forall (n := 80)]
  · simp
  · intro x hx
    have hmem := List.mem_of_mem_take hx
    simp only [List.mem_append, List.mem_map] at hmem
    rcases hmem with ⟨k, -, rfl⟩ | ⟨k, -, rfl⟩ <;> exact length_keyListBytes _ _

theorem idkKeyList_lists (s : State) (e : Entry) : idkKeyList e s = (memWrite s e.addr (keyListing s (e.len / 80)),
    .done 0 (80 * min (e.len / 80) (s.idk.tab.keys.length + s.idk.tab.revoked.length)) 0) := by
  rw [← length_keyListing]
  rfl

/-! ### Sessions -/

section
variable {s : State} {e : Entry} {m : List Byte} (hm : memBytes s e.addr e.len = m) (hok : memBad s e.addr e.len = false)
include hm hok

theorem idkSessOpen_wrongNonce (hnonce : s.idk.nonce ≠ some (fieldAt m 84 8)) : idkSessOpen e s = recRefuse s 1 := by
  unfold idkSessOpen
  rw [withBuf_ok hok, hm, if_pos hnonce]

theorem idkSessOpen_noKey (hnonce : s.idk.nonce = some (fieldAt m 84 8)) (hkey : operKey s (fieldAt m 0 4) rightSession = none) :
    idkSessOpen e s = recRefuse s 3 := by
  unfold idkSessOpen
  rw [withBuf_ok hok, hm, if_neg (by simp [hnonce]), hkey]

theorem idkSessOpen_badSignature {k : OpKey} (hnonce : s.idk.nonce = some (fieldAt m 84 8)) (hkey : operKey s (fieldAt m 0 4) rightSession = some k)
    (hsig : Config.ecdsaOk k.pub (m.take 92) ((m.drop 92).take 64) = false) : idkSessOpen e s = recRefuse s 4 := by
  unfold idkSessOpen
  rw [withBuf_ok hok, hm, if_neg (by simp [hnonce]), hkey]
  simp [hsig]

/-- With nonce, key and signature good the session opens in the first free place; the nonce is used up. -/
theorem idkSessOpen_opens {k : OpKey} {n : Nat} (hnonce : s.idk.nonce = some (fieldAt m 84 8)) (hkey : operKey s (fieldAt m 0 4) rightSession = some k)
    (hsig : Config.ecdsaOk k.pub (m.take 92) ((m.drop 92).take 64) = true) (hfree : s.idk.sess.findIdx? Option.isNone = some n)
    (hrng : flag s R.IDK_STATUS_RNG_FAIL = false) :
    ∃ x : MgmtSess, x.keyId = k.id ∧ (idkSessOpen e s).2 = .done 0 n 0 ∧ (idkSessOpen e s).1.idk.sess = s.idk.sess.set n (some x)
      ∧ (idkSessOpen e s).1.idk.nonce = none := by
  unfold idkSessOpen
  rw [withBuf_ok hok, hm, if_neg (by simp [hnonce]), hkey]
  simp only [hsig, hfree, hrng, Bool.not_true, Bool.false_eq_true, if_false]
  exact ⟨_, rfl, rfl, rfl, rfl⟩

end

/-- What was set at a place of the list stands there. -/
theorem getD_set_of_findIdx? {α : Type} {l : List α} {p : α → Bool} {n : Nat} (h : l.findIdx? p = some n) (x d : α) : (l.set n x).getD n d = x := by
  have hlt : n < l.length := by
    obtain ⟨hlt, -⟩ := List.findIdx?_eq_some_iff_getElem.mp h
    exact hlt
  simp [List.getD_eq_getElem?_getD, hlt]

/-- The next entry of QP3 is of the direction that its ARG0 says. -/
theorem nextSessOut_of_goes {s : State} {opc : Nat} {e : Entry} (h : Goes s 3 opc e) : nextSessOut s = some (bitOf e.arg0 8) := by
  obtain ⟨hgo, -, -⟩ := h
  obtain ⟨i, hfront, hentry, -⟩ := entryGoes_cases hgo
  unfold nextSessOut
  rw [hfront]
  simp [hentry]

section
variable {s : State} {e : Entry} {x : MgmtSess} (hok : memBad s e.addr e.len = false) (hsess : s.idk.sess.getD (e.arg0 % 4) none = some x)
  (hnew : x.cntIn < fieldAt (memBytes s e.addr e.len) 0 8)
include hok hsess hnew

/-- A message with a new counter that opens is taken over. -/
theorem idkSessIn_opens {p : List Byte} (hopen : Config.gcmOpen x.keyIn (sessIv (e.arg0 % 4) (fieldAt (memBytes s e.addr e.len) 0 8))
      ((memBytes s e.addr e.len).drop 8) = some p) :
    idkSessIn e s = ({ s with idk := { s.idk with
      sess := s.idk.sess.set (e.arg0 % 4) (some { x with cntIn := fieldAt (memBytes s e.addr e.len) 0 8 })
      inbox := s.idk.inbox.set (e.arg0 % 4) p } }, .done 0 e.len 0) := by
  unfold idkSessIn
  rw [withBuf_ok hok]
  dsimp only
  rw [hsess]
  simp only [if_pos hnew, hopen]
  rfl

/-- One that does not is counted against the session, which stays open below three of them. -/
theorem idkSessIn_fails (hopen : Config.gcmOpen x.keyIn (sessIv (e.arg0 % 4) (fieldAt (memBytes s e.addr e.len) 0 8))
      ((memBytes s e.addr e.len).drop 8) = none) (hfew : x.bad < 2) :
    idkSessIn e s = (bump { s with idk := { s.idk with sess := s.idk.sess.set (e.arg0 % 4) (some { x with bad := x.bad + 1 }) } } R.IDK_SESS_BAD_CNT_COUNT,
      .done 0 0 0) := by
  unfold idkSessIn
  rw [withBuf_ok hok]
  dsimp only
  rw [hsess]
  simp only [if_pos hnew, hopen, if_neg (Nat.not_le.mpr hfew)]
  rfl

end

theorem idkClose_open {s : State} {e : Entry} {x : MgmtSess} (hsess : s.idk.sess.getD e.arg0 none = some x) :
    idkClose e s = (sessClose s e.arg0 false, .done 0 0 0) := by
  unfold idkClose
  rw [hsess]
  rfl

theorem idkSessOut_waits {s : State} {e : Entry} {x : MgmtSess} (hsess : s.idk.sess.getD (e.arg0 % 4) none = some x) :
    idkSessOut e s = (s, .await (e.arg0 % 4)) := by
  unfold idkSessOut
  rw [hsess]
  rfl

end Sys2Proof.Laws

namespace Sys2Proof.Proofs

open Sys2Proof Sys2Proof.Machine Sys2Proof.Laws

/-- Settles O23: each command by what its action answers; a key record by the first check of R465 that fails, or by what it changes. -/
theorem identityRowsAct : Obligations.IdentityRowsAct := by
  unfold Obligations.IdentityRowsAct
  refine ⟨?cert, ?attest, ?nonce, ?enrol, ?revoke, ?release, ?list, ?sessOpen, ?input, ?output, ?close, ?lapse, ?idle, ?rng⟩
  case cert => exact fun s e hgoes => leaves_of_act hgoes rfl rfl
  case attest =>
    intro s e hgoes hok
    exact leaves_of_act hgoes (idkAttest_stores hok) ⟨memBytes_attest s e.addr, memWrite_regs_eq _ _ _,
      fun b hb => memRd_memWrite_out s e.addr (attestBytes s e.addr) b (by rwa [length_attestBytes])⟩
  case nonce =>
    intro s e hgoes hrng
    refine leaves_of_act hgoes (idkNonce_draws hrng) ⟨rfl, ?_, rfl, memBytes_memWrite_leBytes _ _ _ _⟩
    exact (flag_memWrite _ _ _ _).trans (flag_put_self _ _ _ (by decide) (by decide))
  case enrol =>
    intro s e hgoes hok htakes r henrol
    have hact := idkKeyRecord_judged (r := r) rfl hok (fun _ => htakes) (fun hf => absurd hf (by simp [burnsFuse_enrol henrol]))
    cases hc : recordCause s r with
    | none =>
      rw [hc] at hact
      refine leaves_of_act hgoes hact ?_
      rw [keyRecordTaken_enrol henrol]
      exact ⟨rfl, rfl, rfl⟩
    | some c =>
      rw [hc] at hact
      exact leaves_of_act hgoes hact ⟨recRefuse_idk _ _, flag_recRefuse _ _⟩
  case revoke =>
    intro s e hgoes hok htakes r id hrevoke hoper
    have hact := idkKeyRecord_judged (r := r) rfl hok (fun _ => htakes) (fun hf => absurd hf (by simp [burnsFuse_operator hoper]))
    cases hc : recordCause s r with
    | none =>
      rw [hc] at hact
      exact leaves_of_act hgoes hact (keyRecordTaken_operator hrevoke hoper)
    | some c =>
      rw [hc] at hact
      exact leaves_of_act hgoes hact ⟨recRefuse_idk _ _, flag_recRefuse _ _⟩
  case release =>
    intro s e hgoes hok r id hrevoke hrel hlive
    have hact := idkKeyRecord_judged (r := r) rfl hok (fun hf => absurd hf (by simp [burnsFuse_release hrevoke hrel])) (fun _ => hlive)
    cases hc : recordCause s r with
    | none =>
      rw [hc] at hact
      refine leaves_of_act hgoes hact ?_
      rw [keyRecordTaken_release hrevoke hrel]
      exact ⟨rfl, rfl, rfl⟩
    | some c =>
      rw [hc] at hact
      exact leaves_of_act hgoes hact ⟨recRefuse_idk _ _, flag_recRefuse _ _⟩
  case list => exact fun s e hgoes => leaves_of_act hgoes (idkKeyList_lists s e) ⟨memWrite_idk_eq _ _ _, memWrite_regs_eq _ _ _⟩
  case sessOpen =>
    intro s e hgoes hok m
    refine ⟨fun hno => ?_, fun hnonce hno => ?_, fun k hnonce hkey => ?_⟩
    · exact leaves_of_act hgoes (idkSessOpen_wrongNonce rfl hok hno) (recRefuse_idk _ _)
    · exact leaves_of_act hgoes (idkSessOpen_noKey rfl hok hnonce hno) (recRefuse_idk _ _)
    · cases hsig : Config.ecdsaOk k.pub (m.take 92) ((m.drop 92).take 64) with
      | false => exact leaves_of_act hgoes (idkSessOpen_badSignature rfl hok hnonce hkey hsig) (recRefuse_idk _ _)
      | true =>
        intro n hfree hrng
        obtain ⟨x, hx, hanswer, hplaced, hused⟩ := idkSessOpen_opens rfl hok hnonce hkey hsig hfree hrng
        refine leaves_of_act hgoes (Prod.ext rfl hanswer) ⟨?_, hused⟩
        rw [hplaced, getD_set_of_findIdx? hfree]
        exact congrArg some hx
  case input =>
    intro s e x hgoes hdir hok hsess m hnew
    have hrow : exec .sessIn s = .next (runEntry s 3 0x46 idkSessIn) := congrArg Host.Outcome.next (if_pos ((nextSessOut_of_goes hgoes).trans (by rw [hdir])))
    cases hopen : Config.gcmOpen x.keyIn (sessIv (e.arg0 % 4) (fieldAt m 0 8)) (m.drop 8) with
    | some p => exact leaves_of_act hgoes (idkSessIn_opens hok hsess hnew hopen) ⟨rfl, rfl⟩ hrow
    | none => exact fun hfew => leaves_of_act hgoes (idkSessIn_fails hok hsess hnew hopen hfew) rfl hrow
  case output =>
    intro s e x hgoes hdir hsess
    have hrow : exec .sessOut s = .next (runEntry s 3 0x46 idkSessOut) := congrArg Host.Outcome.next (if_pos ((nextSessOut_of_goes hgoes).trans (by rw [hdir])))
    exact leaves_of_act hgoes (idkSessOut_waits hsess) rfl hrow
  case close => exact fun s e x hgoes hsess => leaves_of_act hgoes (idkClose_open hsess) rfl
  case lapse => exact fun s => ⟨_, rfl, rfl, flag_put_self _ _ _ (by decide) (by decide), rfl⟩
  case idle => exact fun s n x hn _ => ⟨_, congrArg Host.Outcome.next (if_pos hn), rfl⟩
  case rng =>
    intro s hup
    refine ⟨_, congrArg Host.Outcome.next (if_pos hup), ?_, flag_errRise_self _ _ _ _ (by decide) (by decide) (by decide), by simp⟩
    exact (flag_errRise_ne _ _ _ _ _ (by decide) (by decide)).trans (flag_put_self _ _ _ (by decide) (by decide))

end Sys2Proof.Proofs
end

section
/-! The tiles: frames, protection, measurements and bleeding (R130 to R132, R158 to R163, R183 to R191). -/

namespace Sys2Proof.Laws

open Sys2Proof Sys2Proof.Machine

/-! ### One tile changed -/

theorem tileMod_tileMod (s : State) (k : Nat) (f g : Tile → Tile) : tileMod (tileMod s k f) k g = tileMod s k (fun x => g (f x)) := by
  simp [tileMod, modAt, List.modify_modify_eq, Function.comp_def]

theorem tileAt_tileMod_self {s : State} {k : Nat} (hk : k < s.tiles.length) (f : Tile → Tile) : tileAt (tileMod s k f) k = f (tileAt s k) := by
  simp [tileAt, tileMod, modAt, hk]

/-- A tile that is there stands in the list. -/
theorem lt_of_present {s : State} {k : Nat} (h : (tileAt s k).present = true) : k < s.tiles.length := by
  by_contra hk
  simp [tileAt, hk] at h

theorem tileMod_self {s : State} {k : Nat} {f : Tile → Tile} (h : f (tileAt s k) = tileAt s k) : tileMod s k f = s := by
  rw [tileMod_congr (g := id) h]
  simp [tileMod, modAt]

theorem up_of_state {t : Tile} (hp : t.present = true) (hst : t.st ≠ .sleep) : t.up = true := by simp [Tile.up, hp, hst]

/-! ### A frame at a tile -/

section
variable {s : State} {k : Nat} (hup : (tileAt s k).up = true)
include hup

/-- An intact frame acts. -/
theorem tileFrame_ok (payload : Bool) (act : Tile → Tile) : tileFrame s k .ok payload act = tileMod s k act := if_pos hup

/-- A command whose payload fails is ignored and counted. -/
theorem tileFrame_payload (x3 : Bool) (n : Nat) (act : Tile → Tile) :
    tileFrame s k (.payload x3 n) true act = tileMod s k (fun x => refuseFrame (x.codeErr x3 n)) := if_pos hup

/-- A frame whose header fails acts on nothing, is counted, and shows in CHAIN.ERR. -/
theorem tileFrame_header (x3 : Bool) (n : Nat) (payload : Bool) (act : Tile → Tile) :
    tileFrame s k (.header x3 n) payload act = hdrErr (tileMod s k (fun x => refuseFrame (x.codeErr x3 n))) k (.header x3 n) := if_pos hup

end

theorem flag_hdrErr (s : State) (k : Nat) (x3 : Bool) (n : Nat) : flag (hdrErr s k (.header x3 n)) R.CHAIN_ERR_HCRC = true :=
  flag_errRise_self _ _ _ _ (by decide) (by decide) (by decide)

/-- A read back of the thresholds. -/
theorem execSafeRd_ok {s : State} {k : Nat} (hup : (tileAt s k).up = true) : execSafeRd k .ok s = .next { s with chain := { s.chain with
    readBack := s.chain.readBack.set k (some ((tileAt s k).ovThr, (tileAt s k).uvThr, (tileAt s k).filt)) } } := by
  unfold execSafeRd
  dsimp only
  rw [tileFrame_ok hup, tileMod_self (f := fun t => t) rfl]
  simp [hup]

/-! ### Trips -/

/-- An armed tile beyond its over-voltage threshold trips. -/
theorem execComparatorTrip_ov {s : State} {k cell : Nat} {v : Int} (hcell : cell < 24) (hp : (tileAt s k).present = true) (harmed : (tileAt s k).st = .armed)
    (hcross : cmpCrosses (tileAt s k) cell true v = true) : execComparatorTrip k cell true v s
      = .next (tileMod s k (fun x => { x with st := .tripped, fog := false, tripCell := cell, tripOv := true })) := by
  unfold execComparatorTrip
  have hx : tileMod s k (fun t => tileTrip t (cell % 24) true)
      = tileMod s k (fun x => { x with st := .tripped, fog := false, tripCell := cell, tripOv := true }) :=
    tileMod_congr (by simp [tileTrip, harmed, Nat.mod_eq_of_lt hcell])
  simp [Nat.mod_eq_of_lt hcell, hp, harmed, hcross, ← hx]

/-- One beyond its under-voltage threshold besides clears every timer, and the trip is noted. -/
theorem execComparatorTrip_uv {s : State} {k cell : Nat} {v : Int} (hcell : cell < 24) (hp : (tileAt s k).present = true) (harmed : (tileAt s k).st = .armed)
    (hcross : cmpCrosses (tileAt s k) cell false v = true) : execComparatorTrip k cell false v s
      = .next (errRise (tileMod s k (fun x => { x with
          st := .tripped, fog := false, tripCell := cell, tripOv := false, timers := List.replicate 24 0, msOn := List.replicate 24 0, uvStop := true }))
          R.BAL_ERR_UV_TRIP (tileAt s k).pos (24 * (tileAt s k).pos + cell)) := by
  unfold execComparatorTrip
  have hx : tileMod s k (fun t => tileTrip t (cell % 24) false) = tileMod s k (fun x => { x with
      st := .tripped, fog := false, tripCell := cell, tripOv := false, timers := List.replicate 24 0, msOn := List.replicate 24 0, uvStop := true }) :=
    tileMod_congr (by simp [tileTrip, harmed, Nat.mod_eq_of_lt hcell])
  dsimp only
  rw [hx]
  simp [Nat.mod_eq_of_lt hcell, hp, harmed, hcross]

/-! ### Waking -/

/-- What a wake places: the tile that stands there, or the one newly placed, with its stack as found. -/
def wakePlace (fresh : Option TileTrim) (stack : Nat) (t : Tile) : Tile :=
  let t0 := if t.present then t else match fresh with
    | some f => Tile.asleep f
    | none => t
  { t0 with held := decide (stack < 3000), supplyLow := t0.supplyLow || decide (stack < 3600) }

/-- A tile at place k that wakes: the one placed, unless a low stack holds it. -/
theorem execTileWake_placed {s : State} {k : Nat} {fresh : Option TileTrim} {stack : Nat} (hsleep : (tileAt s k).st = .sleep)
    (hthere : (tileAt s k).present = true ∨ fresh.isSome = true) :
    execTileWake k fresh stack s = .next (
      let u := tileMod s k (fun x => wakeTile s k (wakePlace fresh stack x))
      if (tileAt u k).up then wakeWalk (wakeWalk u (waysUp (k + 1))) (waysDown k) else u) := by
  have hgo : ¬ ((tileAt s k).st ≠ .sleep ∨ ((!(tileAt s k).present) = true ∧ fresh.isNone = true)) := by
    rintro (h | ⟨hp, hf⟩)
    · exact h hsleep
    · rcases hthere with h | h
      · simp [h] at hp
      · simp [Option.isSome_iff_ne_none, Option.isNone_iff_eq_none] at h hf
        exact h hf
  unfold execTileWake
  dsimp only
  rw [if_neg hgo]
  show Host.Outcome.next (
    let u := tileMod (tileMod s k (wakePlace fresh stack)) k (wakeTile s k)
    if (tileAt u k).up = true then wakeWalk (wakeWalk u (waysUp (k + 1))) (waysDown k) else u) = _
  rw [tileMod_tileMod]

/-- A placed tile that no low stack holds is awake, its receivers in sync where their hops pass frames. -/
theorem wakeTile_awake {s : State} {k : Nat} {t : Tile} (hp : t.present = true) (hsleep : t.st = .sleep) (hheld : t.held = false) :
    wakeTile s k t = { Tile.asleep t.trim with
      st := .awake, supplyLow := t.supplyLow, syncX2 := decide (k ∉ s.chain.cuts), syncX3 := decide (k + 1 ∉ s.chain.cuts) } := by
  unfold wakeTile
  simp [hp, hsleep, hheld, hopOk]

theorem wakeTile_held {s : State} {k : Nat} {t : Tile} (hheld : t.held = true) : wakeTile s k t = t := by
  unfold wakeTile
  simp [hheld]

/-- A wake that no low stack holds: the tile placed is awake, and the walks go on from it. -/
theorem execTileWake_wakes {s : State} {k : Nat} {fresh : Option TileTrim} {stack : Nat} {f : Tile → Tile} (hk : k < s.tiles.length)
    (hsleep : (tileAt s k).st = .sleep) (hthere : (tileAt s k).present = true ∨ fresh.isSome = true)
    (hf : wakeTile s k (wakePlace fresh stack (tileAt s k)) = f (tileAt s k)) (hup : (f (tileAt s k)).up = true) :
    execTileWake k fresh stack s = .next (wakeWalk (wakeWalk (tileMod s k f) (waysUp (k + 1))) (waysDown k)) := by
  have hu : tileMod s k (fun x => wakeTile s k (wakePlace fresh stack x)) = tileMod s k f := tileMod_congr hf
  rw [execTileWake_placed hsleep hthere, hu]
  dsimp only
  rw [tileAt_tileMod_self hk, if_pos hup]

end Sys2Proof.Laws

namespace Sys2Proof.Proofs

open Sys2Proof Sys2Proof.Machine Sys2Proof.Laws

/-- Settles O24: a frame at an awake tile by its check, the other rows by what they do to a tile that their guard admits. -/
theorem tileTimingRowsAct : Obligations.TileTimingRowsAct := by
  unfold Obligations.TileTimingRowsAct
  refine ⟨?arm, ?mark, ?delays, ?spoilt, ?header, ?clock, ?pause, ?resume⟩
  case arm => exact fun s k snum lead x3 hup => ⟨_, congrArg Host.Outcome.next (tileFrame_ok hup _ _), rfl⟩
  case mark =>
    intro s k m hup
    refine ⟨_, congrArg Host.Outcome.next (tileFrame_ok hup _ _), tileMod_congr ?_⟩
    have hsat : satU 16 m = min m 65535 := by
      unfold satU clampInt
      split
      · omega
      · split <;> omega
    rw [hsat]
  case delays => exact fun s k a b c hup => ⟨_, congrArg Host.Outcome.next (tileFrame_ok hup _ _), rfl⟩
  case spoilt => exact fun s k a b c x3 n hup => ⟨_, congrArg Host.Outcome.next (tileFrame_payload hup _ _ _), rfl⟩
  case header =>
    intro s k a b c lead side x3 n hup t
    exact ⟨congrArg Host.Outcome.next (tileFrame_header hup _ _ _ _),
      congrArg Host.Outcome.next (tileFrame_header hup _ _ _ _), congrArg Host.Outcome.next (tileFrame_header hup _ _ _ _), flag_hdrErr _ _ _ _⟩
  case clock => exact fun s k onX3 ok hup => ⟨_, rfl, tileMod_congr (if_pos hup)⟩
  case pause => exact fun s k hup hcomp harm => ⟨_, rfl, tileMod_congr (if_pos (by simp [hup, hcomp, harm]))⟩
  case resume => exact fun s k hpaused => ⟨_, rfl, tileMod_congr (if_pos hpaused)⟩

/-- Settles O25: frames by their check, the trips and wakes by their own lemmas. -/
theorem tileProtectionRowsAct : Obligations.TileProtectionRowsAct := by
  unfold Obligations.TileProtectionRowsAct
  refine ⟨?load, ?loadForeign, ?loadSpoilt, ?readBack, ?arm, ?rearm, ?armForeign, ?rearmForeign, ?header, ?tripOv, ?tripUv, ?noTrip, ?sleep, ?reset,
    ?wakeHeld, ?wake, ?wakeFresh, ?low, ?restored⟩
  case load =>
    intro s k ov uv f hup
    refine ⟨_, congrArg Host.Outcome.next (tileFrame_ok hup _ _), tileMod_congr ?_⟩
    rw [← clampNat_eq]
    rfl
  case loadForeign => exact fun s k ov uv f hup => ⟨_, congrArg Host.Outcome.next (tileFrame_ok hup _ _), rfl⟩
  case loadSpoilt => exact fun s k ov uv f sp x3 n hup => ⟨_, congrArg Host.Outcome.next (tileFrame_payload hup _ _ _), rfl⟩
  case readBack => exact fun s k hup => ⟨_, execSafeRd_ok hup, rfl, rfl, rfl⟩
  case arm =>
    intro s k hp hst hloaded
    have hup := up_of_state hp (by simp [hst])
    exact ⟨_, congrArg Host.Outcome.next (tileFrame_ok hup _ _), tileMod_congr (show tileArmSafe (tileAt s k) = _ from if_pos ⟨hst, hloaded⟩)⟩
  case rearm =>
    intro s k hp hst
    have hup := up_of_state hp (by simp [hst])
    exact ⟨_, congrArg Host.Outcome.next (tileFrame_ok hup _ _), tileMod_congr (show tileRearm (tileAt s k) = _ from if_pos hst)⟩
  case armForeign => exact fun s k hup => ⟨_, congrArg Host.Outcome.next (tileFrame_ok hup _ _), rfl⟩
  case rearmForeign => exact fun s k hup => ⟨_, congrArg Host.Outcome.next (tileFrame_ok hup _ _), rfl⟩
  case header =>
    intro s k ov uv f sp x3 n hup t
    refine ⟨congrArg Host.Outcome.next (tileFrame_header hup _ _ _ _), congrArg Host.Outcome.next ((if_neg ?_).trans (tileFrame_header hup _ _ _ _)),
      congrArg Host.Outcome.next (tileFrame_header hup _ _ _ _), congrArg Host.Outcome.next (tileFrame_header hup _ _ _ _),
      congrArg Host.Outcome.next (tileFrame_header hup _ _ _ _)⟩
    simp
  case tripOv => exact fun s k cell v hcell hp harmed hcross => ⟨_, execComparatorTrip_ov hcell hp harmed hcross, rfl⟩
  case tripUv =>
    intro s k cell v hcell hp harmed hcross
    refine ⟨_, execComparatorTrip_uv hcell hp harmed hcross, errRise_tiles_eq _ _ _ _, ?_, errRise_mem_eq _ _ _ _, errRise_power_eq _ _ _ _⟩
    exact flag_errRise_self _ _ _ _ (by decide) (by decide) (by decide)
  case noTrip =>
    intro s k cell ov v hnot
    show execComparatorTrip k cell ov v s = _
    unfold execComparatorTrip
    simp [hnot]
  case sleep =>
    intro s k hup t
    exact ⟨congrArg Host.Outcome.next (tileFrame_ok hup _ _), congrArg Host.Outcome.next (tileMod_congr (if_pos hup))⟩
  case reset => exact fun s k hp => ⟨_, rfl, tileMod_congr (if_pos hp)⟩
  case wakeHeld =>
    intro s k fresh stack hsleep hp hlow
    have hplace : wakeTile s k (wakePlace fresh stack (tileAt s k)) = { tileAt s k with held := true, supplyLow := true } := by
      rw [wakeTile_held (by simp [wakePlace, hlow])]
      simp [wakePlace, hp, hlow, Nat.lt_trans hlow (by decide : 3000 < 3600)]
    have hu : tileMod s k (fun x => wakeTile s k (wakePlace fresh stack x)) = tileMod s k (fun x => { x with held := true, supplyLow := true }) := tileMod_congr hplace
    refine ⟨_, (execTileWake_placed hsleep (.inl hp)).trans (congrArg Host.Outcome.next ?_), rfl⟩
    rw [hu]
    refine if_neg ?_
    rw [tileAt_tileMod_self (lt_of_present hp)]
    simp [Tile.up, hsleep]
  case wake =>
    intro s k fresh stack hk hsleep hp hhigh
    have hfree : ¬ stack < 3000 := by omega
    refine ⟨_, execTileWake_wakes hk hsleep (.inl hp) (f := fun x => { Tile.asleep x.trim with
      st := .awake
      supplyLow := x.supplyLow || decide (stack < 3600)
      syncX2 := decide (k ∉ s.chain.cuts)
      syncX3 := decide (k + 1 ∉ s.chain.cuts) }) ?_ rfl, _, rfl, rfl⟩
    rw [wakeTile_awake] <;> simp [wakePlace, hp, hsleep, hfree]
  case wakeFresh =>
    intro s k f stack hk hsleep hp hhigh
    have hfree : ¬ stack < 3000 := by omega
    refine ⟨_, execTileWake_wakes hk hsleep (.inr rfl) (f := fun _ => { Tile.asleep f with
      st := .awake
      supplyLow := decide (stack < 3600)
      syncX2 := decide (k ∉ s.chain.cuts)
      syncX3 := decide (k + 1 ∉ s.chain.cuts) }) ?_ rfl, _, rfl, rfl⟩
    rw [wakeTile_awake] <;> simp [wakePlace, hp, hfree, Tile.asleep]
  case low => exact fun s k hp => ⟨_, rfl, tileMod_congr (if_pos hp)⟩
  case restored => exact fun s k hp => ⟨_, rfl, tileMod_congr (if_pos hp)⟩

end Sys2Proof.Proofs
end

section
/-! The tiles' samples, comparator tests and bleeding, and the ranges of conversions (R136, R158 to R163, R170, R184 to R187). -/

namespace Sys2Proof.Laws

open Sys2Proof Sys2Proof.Machine

/-! ### A sample -/

section
variable (t : Tile) (next : Nat) (si : StrobeIn)

/-- A fire counts one conversion: the checks on the way leave the count. -/
theorem tileFire_convCnt : (tileFire t next si).tile.convCnt = t.convCnt + 1 := by
  unfold tileFire owTurn
  dsimp only
  rw [owEval_conv, refCheck_conv]

/-- It uses the ARM up. -/
theorem tileFire_arm : (tileFire t next si).tile.arm = none := rfl

/-- Its number is the ARM's, else one above the last. -/
theorem tileFire_snum : (tileFire t next si).tile.snumNew = match t.arm with
    | some a => a.1 % 65536
    | none => (t.snumNew + 1) % 65536 := rfl

end

/-- A strobe at a tile with a position, later than 5 µs after the last fire: the tile fires, and what its checks newly found is noted. -/
def strobed (s : State) (k : Nat) (si : StrobeIn) : State :=
  let t := tileAt s k
  let f := tileFire t s.meas.next si
  let s1 := tileMod s k (fun _ => f.tile)
  let s2 := match f.ref with
    | some c => errRise s1 R.MEAS_ERR_REF_FAIL t.pos (24 * t.pos + c)
    | none => s1
  match f.tap with
  | some j =>
    let s3 := errRise s2 R.MEAS_ERR_OW_OPEN t.pos j
    if besideTaps (1 <<< j) &&& t.active ≠ 0 then errRise s3 R.BAL_ERR_OPEN_TAP t.pos j else s3
  | none => s2

theorem tileStrobe_fires {s : State} {k : Nat} {si : StrobeIn} (hnum : (tileAt s k).numbered = true) (hlate : si.within5us = false) :
    tileStrobe s k si = strobed s k si := if_neg (by simp [hnum, hlate])

/-- Beside the tiles a strobe only notes errors. -/
theorem strobed_keeps (s : State) (k : Nat) (si : StrobeIn) :
    (strobed s k si).tiles = (tileMod s k (fun x => (tileFire x s.meas.next si).tile)).tiles ∧ (strobed s k si).mem = s.mem
    ∧ (strobed s k si).power = s.power := by
  have htile : tileMod s k (fun _ => (tileFire (tileAt s k) s.meas.next si).tile) = tileMod s k (fun x => (tileFire x s.meas.next si).tile) :=
    tileMod_congr rfl
  rw [← htile]
  unfold strobed
  dsimp only
  split <;> split <;> (try split) <;> simp [tileMod]

/-- A channel newly in fault shows in MEAS.ERR. -/
theorem flag_strobed_ref {s : State} {k : Nat} {si : StrobeIn} (h : (tileFire (tileAt s k) s.meas.next si).ref.isSome = true) :
    flag (strobed s k si) R.MEAS_ERR_REF_FAIL = true := by
  obtain ⟨c, hc⟩ := Option.isSome_iff_exists.mp h
  have hrises : ∀ x : State, flag (errRise x R.MEAS_ERR_REF_FAIL (tileAt s k).pos (24 * (tileAt s k).pos + c)) R.MEAS_ERR_REF_FAIL = true :=
    fun x => flag_errRise_self _ _ _ _ (by decide) (by decide) (by decide)
  unfold strobed
  dsimp only
  rw [hc]
  split
  · split
    · rw [flag_errRise_ne _ _ _ _ _ (by decide) (by decide), flag_errRise_ne _ _ _ _ _ (by decide) (by decide), hrises]
    · rw [flag_errRise_ne _ _ _ _ _ (by decide) (by decide), hrises]
  · exact hrises _

/-- A tap newly confirmed open shows there too. -/
theorem flag_strobed_tap {s : State} {k : Nat} {si : StrobeIn} (h : (tileFire (tileAt s k) s.meas.next si).tap.isSome = true) :
    flag (strobed s k si) R.MEAS_ERR_OW_OPEN = true := by
  obtain ⟨j, hj⟩ := Option.isSome_iff_exists.mp h
  have hrises : ∀ x : State, flag (errRise x R.MEAS_ERR_OW_OPEN (tileAt s k).pos j) R.MEAS_ERR_OW_OPEN = true :=
    fun x => flag_errRise_self _ _ _ _ (by decide) (by decide) (by decide)
  unfold strobed
  dsimp only
  rw [hj]
  dsimp only
  split
  · rw [flag_errRise_ne _ _ _ _ _ (by decide) (by decide), hrises]
  · exact hrises _

/-! ### Comparator tests -/

/-- A comparator test of an awake tile. -/
theorem execComparatorSelfTest_up {s : State} {k : Nat} {us stand : Option Nat} (hup : (tileAt s k).up = true) :
    execComparatorSelfTest k us stand s = .next (
      let r := tileCmpTest (tileAt s k) us stand
      if r.2 then errRise (tileMod s k (fun x => (tileCmpTest x us stand).1)) R.MEAS_ERR_CMP_FAIL (tileAt s k).pos (24 * (tileAt s k).pos + r.1.cmpIdx / 2)
      else tileMod s k (fun x => (tileCmpTest x us stand).1)) := by
  have htile : tileMod s k (fun _ => (tileCmpTest (tileAt s k) us stand).1) = tileMod s k (fun x => (tileCmpTest x us stand).1) := tileMod_congr rfl
  unfold execComparatorSelfTest
  simp [hup, htile]

/-! ### Bleeding -/

/-- The power of a mask's cells is that of the latest conversion, whatever the diode says. -/
theorem maskPower_hot (t : Tile) (b : Bool) (m : Nat) : maskPower { t with hot := b } m = maskPower t m := rfl

/-- A hot tile allows no power, so that any power asked for is derated. -/
theorem tilePower_hot {t : Tile} (hhot : tileHot t = true) : (tilePower t).derated = true ∨ maskPower t t.active = 0 := by
  by_cases hreq : maskPower t t.active = 0
  · exact .inr hreq
  · refine .inl ?_
    have hpos : 0 < maskPower { t with hot := tileHot t } ({ t with hot := tileHot t } : Tile).active := Nat.pos_of_ne_zero hreq
    unfold tilePower
    simp only [hhot, if_true] at hpos ⊢
    simp [hpos]

theorem tilePower_hot_eq (t : Tile) : (tilePower t).hot = tileHot t := rfl

/-- A power tick of an awake tile; a tile that the diode newly stops while timers run is noted. -/
theorem execBleedPowerTick_up {s : State} {k : Nat} (hup : (tileAt s k).up = true) :
    execBleedPowerTick k s = .next (if tileHot (tileAt s k) && !(tileAt s k).hot && decide ((tileAt s k).active ≠ 0)
      then errRise (tileMod s k tilePower) R.BAL_ERR_HOT (tileAt s k).pos 0 else tileMod s k tilePower) := by
  unfold execBleedPowerTick
  simp [hup]

theorem execBleedSilence_up {s : State} {k : Nat} (hup : (tileAt s k).up = true) :
    execBleedSilence k s = .next (errRise (tileMod s k tileSilent) R.BAL_ERR_SILENCE (tileAt s k).pos 0) := by
  unfold execBleedSilence
  simp [hup]

/-! ### Clamps -/

theorem clampInt_mem {lo hi x : Int} (h : lo ≤ hi) : lo ≤ clampInt lo hi x ∧ clampInt lo hi x ≤ hi := by
  unfold clampInt
  split
  · exact ⟨le_refl _, h⟩
  · split
    · exact ⟨h, le_refl _⟩
    · constructor <;> omega

theorem clampInt_of_mem {lo hi x : Int} (h1 : lo ≤ x) (h2 : x ≤ hi) : clampInt lo hi x = x := by
  unfold clampInt
  rw [if_neg (by omega), if_neg (by omega)]

theorem clampInt_of_le {lo hi x : Int} (h : lo ≤ hi) (hx : hi ≤ x) : clampInt lo hi x = hi := by
  unfold clampInt
  rw [if_neg (by omega)]
  split <;> omega

end Sys2Proof.Laws

namespace Sys2Proof.Proofs

open Sys2Proof Sys2Proof.Machine Sys2Proof.Laws

/-- Settles O26: a strobe by what the tile's fire leaves and notes, the tests by what they move on. -/
theorem tileMeasurementRowsAct : Obligations.TileMeasurementRowsAct := by
  unfold Obligations.TileMeasurementRowsAct
  refine ⟨?fires, ?ignored, ?comparator, ?openWire⟩
  case fires =>
    intro s k si hnum hlate
    obtain ⟨htiles, hmem, hpower⟩ := strobed_keeps s k si
    refine ⟨_, congrArg Host.Outcome.next (tileStrobe_fires hnum hlate), htiles, hmem, hpower, tileFire_convCnt _ _ _, rfl, fun a ha => ?_, fun hno => ?_,
      flag_strobed_ref, flag_strobed_tap⟩
    · rw [tileFire_snum, ha]
    · rw [tileFire_snum, hno]
  case ignored => exact fun s k si hno => ⟨_, congrArg Host.Outcome.next (if_pos (by rcases hno with h | h <;> simp [h])), rfl⟩
  case comparator =>
    intro s k us st hup
    refine ⟨_, execComparatorSelfTest_up hup, ?_, rfl, fun hfail => ?_⟩
    · dsimp only
      split
      · exact errRise_tiles_eq _ _ _ _
      · rfl
    · dsimp only
      rw [if_pos hfail]
      exact flag_errRise_self _ _ _ _ (by decide) (by decide) (by decide)
  case openWire => exact fun s hany => ⟨_, congrArg Host.Outcome.next (if_pos hany), rfl⟩

/-- Settles O27: a conversion by the range of its input, a clamped value by its bounds. -/
theorem conversionsSaturate : Obligations.ConversionsSaturate := by
  unfold Obligations.ConversionsSaturate
  refine ⟨fun v => ⟨fun h0 h1 => ?_, fun h => if_pos h, fun h => ?_⟩, fun v => ?_, fun v => ?_, fun s nv h => ?_⟩
  · unfold convert
    rw [if_neg (by omega), if_neg (by omega)]
  · unfold convert
    rw [if_neg (by omega), if_pos h]
  · obtain ⟨hlo, hhi⟩ := clampInt_mem (lo := 0) (hi := 2400000) (x := v) (by decide)
    exact ⟨hlo, hhi, clampInt_of_mem⟩
  · obtain ⟨hlo, hhi⟩ := clampInt_mem (lo := -2400000) (hi := 2400000) (x := v) (by decide)
    exact ⟨hlo, hhi, clampInt_of_mem⟩
  · unfold shuntMa
    rw [clampInt_of_le (by decide) h, clampInt_of_le (by decide) (le_refl _)]

/-- Settles O28: the timers' end, silence and the power tick by what each does to an awake tile. -/
theorem bleedingRowsAct : Obligations.BleedingRowsAct := by
  unfold Obligations.BleedingRowsAct
  refine ⟨?expiry, ?silence, ?tick⟩
  case expiry => exact fun s k cell hzero => ⟨_, rfl, tileMod_congr (if_pos hzero)⟩
  case silence =>
    exact fun s k hup => ⟨_, execBleedSilence_up hup, errRise_tiles_eq _ _ _ _, flag_errRise_self _ _ _ _ (by decide) (by decide) (by decide),
      errRise_mem_eq _ _ _ _, errRise_power_eq _ _ _ _⟩
  case tick =>
    intro s k hup
    refine ⟨_, execBleedPowerTick_up hup, ?_, tilePower_hot_eq _, tilePower_hot, fun hhot hwas hruns => ?_⟩
    · split
      · exact errRise_tiles_eq _ _ _ _
      · rfl
    · rw [if_pos (by simp [hhot, hwas, hruns])]
      exact flag_errRise_self _ _ _ _ (by decide) (by decide) (by decide)

end Sys2Proof.Proofs
end

section
/-! The chain: frames, breaks and the ring (R130, R134, R143 to R148). -/

namespace Sys2Proof.Laws

open Sys2Proof Sys2Proof.Machine

/-! ### What the reach depends on -/

/-- The positions reached depend on the tiles, the cuts, the configuration and the role alone. -/
theorem posMask_congr {s t : State} (htiles : t.tiles = s.tiles) (hcuts : t.chain.cuts = s.chain.cuts) (hcfg : t.cfg = s.cfg)
    (hrole : rd t R.RED_STATUS_ROLE = rd s R.RED_STATUS_ROLE) : posMask t = posMask s := by
  have htile : ∀ k, tileAt t k = tileAt s k := fun k => by unfold tileAt; rw [htiles]
  simp only [posMask, tileByPos, reached, lowReach, highReach, lowDoor, highDoor, hopOk, ringN, farCommands, setPair, setFarEnd, commands, role, cfgU,
    cfgItem, htile, htiles, hcuts, hcfg, hrole]
  rfl

theorem setNn_congr {s t : State} (hcfg : t.cfg = s.cfg) : setNn t = setNn s := by simp only [setNn, cfgU, cfgItem, hcfg]

/-- A matching ring shows the number of the set at positions. -/
theorem popCount_of_nnMatch {s : State} (h : nnMatch s = true) : popCount 24 (posMask s) = setNn s := by
  simp only [nnMatch, Bool.and_eq_true, decide_eq_true_eq] at h
  obtain ⟨-, h⟩ := h
  exact h

/-! ### TREG_RD and TREG_WR -/

/-- A frame that does not check brings no word. -/
theorem execTregRd_fails (s : State) (k reg : Nat) {chk : FrameChk} (hchk : chk ≠ .ok) :
    execTregRd k reg chk s = .next { tileFrame s k chk true (fun t => t) with bus := 0 } := by
  unfold execTregRd
  simp [hchk]

section
variable {s : State} {k : Nat} (hup : (tileAt s k).up = true)
include hup

theorem execTregRd_ok (reg : Nat) (hreach : reached s k = true) :
    execTregRd k reg .ok s = .next { s with bus := BitVec.ofNat 64 (tileReg (tileAt s k) reg + 1 <<< 16) } := by
  unfold execTregRd
  dsimp only
  rw [tileFrame_ok hup, tileMod_self (f := fun t => t) rfl]
  simp [hup, hreach]

theorem execTregWr_commands (ws : List (Nat × Nat)) (chk : FrameChk) (hcommands : commands s = true) :
    execTregWr k ws chk s = .next (tileFrame s k chk true (fun x => ws.foldl tileRegWr x)) := by
  unfold execTregWr
  simp [hup, hcommands]

end

/-! ### PROBE -/

theorem execProbeFrame_missed {s : State} {k : Nat} {b : Bool} (chk : FrameChk) (hno : portReach s b k = false) : execProbeFrame k b chk s = .next s := by
  unfold execProbeFrame
  simp [hno]

section
variable {s : State} {k : Nat} {b : Bool} (hnum : (tileAt s k).numbered = true) (hreach : portReach s b k = true)
include hnum hreach

/-- A frame that does not check sets no bit. -/
theorem execProbeFrame_fails {chk : FrameChk} (hchk : chk ≠ .ok) : execProbeFrame k b chk s = .next (tileFrame s k chk true (fun t => t)) := by
  unfold execProbeFrame
  simp [hnum, hreach, hchk]

/-- An intact one sets the tile's bit in the PROBE word of its port. -/
theorem execProbeFrame_ok : execProbeFrame k b .ok s = .next (if b
    then { s with chain := { s.chain with probeB := setBit s.chain.probeB (tileAt s k).pos true } }
    else { s with chain := { s.chain with probeA := setBit s.chain.probeA (tileAt s k).pos true } }) := by
  have hup : (tileAt s k).up = true := by
    unfold Tile.numbered at hnum
    cases hst : (tileAt s k).st <;> simp [Tile.up, hst] at hnum ⊢ <;> exact hnum
  unfold execProbeFrame
  dsimp only
  rw [tileFrame_ok hup, tileMod_self (f := fun t => t) rfl]
  simp only [hnum, hreach, Bool.not_true, Bool.or_self, Bool.false_eq_true, if_false, ne_eq, not_true_eq_false]
  split <;> rfl

end

theorem testBit_setBit_self (x i : Nat) : (setBit x i true).testBit i = true := by rw [testBit_setBit, if_pos rfl]

/-! ### Hops cut and closed -/

theorem mem_cuts_hopCut (s : State) (h : Nat) : h ∈ (hopCut s h).chain.cuts := by
  unfold hopCut
  split
  · assumption
  · simp

theorem hopCut_keeps (s : State) (h : Nat) : (hopCut s h).regs = s.regs ∧ (hopCut s h).mem = s.mem ∧ (hopCut s h).tiles = s.tiles := by
  unfold hopCut
  split <;> exact ⟨rfl, rfl, rfl⟩

/-- The tile that loses sync on a side. -/
def syncLost (x3 : Bool) (n : Nat) (x : Tile) : Tile :=
  let y := { x.codeErr x3 n with locked := x.locked && (x.lockX3 != x3) }
  if x3 then { y with loopX3 := true, syncX3 := false } else { y with loopX2 := true, syncX2 := false }

theorem tileLoses_keeps (s : State) (k : Nat) (x3 : Bool) (n : Nat) :
    (tileLoses s k x3 n).regs = s.regs ∧ (tileLoses s k x3 n).mem = s.mem
    ∧ ((tileAt s k).up = true → (tileLoses s k x3 n).tiles = (tileMod s k (syncLost x3 n)).tiles) := by
  by_cases hup : (tileAt s k).up = true
  · cases x3
    · simp only [tileLoses, hup, Bool.not_true, Bool.false_eq_true, if_false]
      split <;> exact ⟨rfl, rfl, fun _ => rfl⟩
    · simp only [tileLoses, hup, Bool.not_true, Bool.false_eq_true, if_false, if_true]
      split <;> exact ⟨rfl, rfl, fun _ => rfl⟩
  · simp only [tileLoses, hup]
    exact ⟨rfl, rfl, fun h => absurd h (by simp)⟩

theorem ringOpen_keeps (s : State) : (ringOpen s).tiles = s.tiles ∧ (ringOpen s).mem = s.mem ∧ (ringOpen s).chain.cuts = s.chain.cuts := ⟨rfl, rfl, rfl⟩

theorem ringOpen_regs (s : State) : (ringOpen s).regs = (put (put s R.CHAIN_STATUS_RING_CLOSED false) R.CHAIN_STATUS_NN_MATCH false).regs := rfl

theorem flag_ringOpen_closed (s : State) : flag (ringOpen s) R.CHAIN_STATUS_RING_CLOSED = false := by
  rw [flag_congr (ringOpen_regs s), flag_put_ne _ _ _ _ (by decide), flag_put_self _ _ _ (by decide) (by decide)]
theorem flag_ringOpen_match (s : State) : flag (ringOpen s) R.CHAIN_STATUS_NN_MATCH = false := by
  rw [flag_congr (ringOpen_regs s), flag_put_self _ _ _ (by decide) (by decide)]
theorem flag_ringOpen_ne (s : State) (f : Fld) (h1 : Apart R.CHAIN_STATUS_NN_MATCH f) (h2 : Apart R.CHAIN_STATUS_RING_CLOSED f) : flag (ringOpen s) f = flag s f := by
  rw [flag_congr (ringOpen_regs s), flag_put_ne _ _ _ _ h1, flag_put_ne _ _ _ _ h2]

/-- The bit of CHAIN.ERR for a port's lost sync. -/
def syncErr (portB : Bool) : Fld := if portB then R.CHAIN_ERR_SYNC_B else R.CHAIN_ERR_SYNC_A

/-- A port that loses sync: its hop is cut, the error noted, and the ring open. -/
def portLost (s : State) (portB : Bool) (n : Nat) : State := ringOpen (errRise (hopCut (portCode s portB n) (portHop s portB)) (syncErr portB) 0 0)

theorem execSyncLoss_port {k : Nat} (hk : 24 ≤ k) (s : State) (x3 : Bool) (n : Nat) : execSyncLoss k x3 n s = .next (portLost s x3 n) := if_neg (by omega)
theorem execSyncLoss_tile {k : Nat} (hk : k < 24) (s : State) (x3 : Bool) (n : Nat) :
    execSyncLoss k x3 n s = .next (hopCut (tileLoses s k x3 n) (if x3 then k + 1 else k)) := if_pos hk

theorem flag_portLost_err (s : State) (b : Bool) (n : Nat) : flag (portLost s b n) (syncErr b) = true := by
  unfold portLost
  rw [flag_ringOpen_ne _ _ (by cases b <;> decide) (by cases b <;> decide)]
  exact flag_errRise_self _ _ _ _ (by cases b <;> decide) (by cases b <;> decide) (by cases b <;> decide)

theorem portLost_keeps (s : State) (b : Bool) (n : Nat) :
    portHop s b ∈ (portLost s b n).chain.cuts ∧ (portLost s b n).tiles = s.tiles ∧ (portLost s b n).mem = s.mem := by
  obtain ⟨htiles, hmem, hcuts⟩ := ringOpen_keeps (errRise (hopCut (portCode s b n) (portHop s b)) (syncErr b) 0 0)
  obtain ⟨-, hmem', htiles'⟩ := hopCut_keeps (portCode s b n) (portHop s b)
  refine ⟨?_, ?_, ?_⟩
  · unfold portLost
    rw [hcuts, errRise_chain_eq]
    exact mem_cuts_hopCut _ _
  · unfold portLost
    rw [htiles, errRise_tiles_eq, htiles']
    rfl
  · unfold portLost
    rw [hmem, errRise_mem_eq, hmem']
    rfl

/-! ### LINK_DOWN and RING_CLOSE -/

theorem ringOpen_hopCut_cfg (s : State) (h : Nat) : (ringOpen (hopCut s h)).cfg = s.cfg := by
  change (hopCut s h).cfg = s.cfg
  unfold hopCut
  split <;> rfl

/-- The tiles that a port still reaches once a tile has reported a lost side. -/
def reachLeft (s : State) (pos : Nat) (lostX3 : Bool) : Nat :=
  maskOf (fun p => decide (p < setNn s) && (if lostX3 then decide (p ≤ pos) else decide (pos ≤ p))) (List.range 24)

/-- The ring open at a hop, the read frame of a port aborted and its reach what is left. -/
def linkCut (s : State) (portB : Bool) (hop reach : Nat) : State :=
  let s1 := ringOpen (hopCut s hop)
  if portB then { s1 with chain := { s1.chain with reachB := reach, readB := 0 } } else { s1 with chain := { s1.chain with reachA := reach, readA := 0 } }

theorem linkCut_regs (s : State) (b : Bool) (h r : Nat) : (linkCut s b h r).regs = (ringOpen (hopCut s h)).regs := by
  unfold linkCut
  cases b <;> rfl

theorem mem_cuts_linkCut (s : State) (b : Bool) (h r : Nat) : h ∈ (linkCut s b h r).chain.cuts := by
  have hcut := mem_cuts_hopCut s h
  unfold linkCut
  cases b <;> exact hcut

theorem execLinkDown_run {s : State} {b : Bool} {pos : Nat} {x3 : Bool} (hrun : flag s R.CHAIN_STATUS_RUN = true) :
    ∃ reach, execLinkDown b pos x3 s = .next (launchProbe (holdLaunch
      (linkCut s b (if x3 then (tileByPos s pos).getD pos + 1 else (tileByPos s pos).getD pos) reach) b reach)) := by
  refine ⟨reachLeft (ringOpen (hopCut s (if x3 then (tileByPos s pos).getD pos + 1 else (tileByPos s pos).getD pos))) pos x3, ?_⟩
  unfold execLinkDown
  simp only [hrun, Bool.not_true, Bool.false_eq_true, if_false]
  unfold linkCut reachLeft
  rw [setNn_congr (ringOpen_hopCut_cfg s _)]

/-- The ring closed: the break words clear, and NN_MATCH as the enumeration found it. -/
def ringShut (s : State) : State :=
  let s1 := put (put (put s R.CHAIN_STATUS_RING_CLOSED true) R.CHAIN_BREAK_A_VALID false) R.CHAIN_BREAK_B_VALID false
  put s1 R.CHAIN_STATUS_NN_MATCH (nnMatch s1)

theorem execRingClose_closes {s : State} (a b : Nat) (ms : List (Option Nat)) (hrun : flag s R.CHAIN_STATUS_RUN = true)
    (hopen : flag s R.CHAIN_STATUS_RING_CLOSED = false) (hwhole : probeWhole s = true) :
    execRingClose a b ms s = .next (dlyMeasured (chainReport (ringShut s) 2 0xFF 0 0) a b ms) := by
  unfold execRingClose
  simp only [hrun, hopen, hwhole, Bool.not_true, Bool.or_self, Bool.false_eq_true, if_false]
  rfl

theorem flag_ringShut_closed (s : State) : flag (ringShut s) R.CHAIN_STATUS_RING_CLOSED = true := by
  unfold ringShut
  rw [flag_put_ne _ _ _ _ (by decide), flag_put_ne _ _ _ _ (by decide), flag_put_ne _ _ _ _ (by decide), flag_put_self _ _ _ (by decide) (by decide)]
theorem flag_ringShut_breakA (s : State) : flag (ringShut s) R.CHAIN_BREAK_A_VALID = false := by
  unfold ringShut
  rw [flag_put_ne _ _ _ _ (by decide), flag_put_ne _ _ _ _ (by decide), flag_put_self _ _ _ (by decide) (by decide)]
theorem flag_ringShut_breakB (s : State) : flag (ringShut s) R.CHAIN_BREAK_B_VALID = false := by
  unfold ringShut
  rw [flag_put_ne _ _ _ _ (by decide), flag_put_self _ _ _ (by decide) (by decide)]

/-- NN_MATCH on a ring just closed says that the set's number of tiles is reached. -/
theorem popCount_of_ringShut {s : State} (h : flag (ringShut s) R.CHAIN_STATUS_NN_MATCH = true) : popCount 24 (posMask s) = setNn s := by
  unfold ringShut at h
  rw [flag_put_self _ _ _ (by decide) (by decide)] at h
  have hmask := posMask_congr (s := s) (t := put (put (put s R.CHAIN_STATUS_RING_CLOSED true) R.CHAIN_BREAK_A_VALID false) R.CHAIN_BREAK_B_VALID false)
    rfl rfl rfl (by rw [rd_put_ne _ _ _ _ (by decide), rd_put_ne _ _ _ _ (by decide), rd_put_ne _ _ _ _ (by decide)])
  exact (congrArg (popCount 24) hmask).symm.trans (popCount_of_nnMatch h)

/-! ### Enumeration -/

/-- What a pass of ENUM leads to: the new tiles of a unit that commands get their delays and thresholds. -/
theorem execEnum_run {s : State} {b : Bool} (hrun : flag s R.CHAIN_STATUS_RUN = true) (hup : blocksUp s = true) :
    execEnum b s = .next (
      let u := if commands (enumPass s b).1 then (enumPass s b).2.foldl tileJoin (dlyKeep (enumPass s b).1) else (enumPass s b).1
      if b then roundSafe (afterEnum u) else u) := by
  unfold execEnum
  simp only [hrun, hup, Bool.not_true, Bool.or_self, Bool.false_eq_true, if_false]

/-! ### READ_INCOMPLETE -/

/-- The reads that were under way given up. -/
def readsDropped (s : State) : State :=
  { s with chain := { s.chain with asm := s.chain.asm.map (fun w => { w with twoDir := w.twoDir || !ringWhole s }), readA := 0, readB := 0 } }

theorem flag_readsDropped (s : State) (f : Fld) : flag (readsDropped s) f = flag s f := flag_congr rfl f

end Sys2Proof.Laws

namespace Sys2Proof.Proofs

open Sys2Proof Sys2Proof.Machine Sys2Proof.Laws

/-- Settles O30: each frame by its check and its reach, each happening by the lemma of its operation. -/
theorem chainRowsAct : Obligations.ChainRowsAct := by
  unfold Obligations.ChainRowsAct
  refine ⟨?sweepRd, ?holdUnderWay, ?holdLaunched, ?tregRd, ?tregRdSpoilt, ?tregWr, ?tregWrSpoilt, ?header, ?enumA, ?enumB, ?enumShadow, ?probe, ?probeMissed,
    ?syncTile, ?syncPort, ?loopTile, ?loopPort, ?linkDown, ?incompleteClosed, ?incompleteOpen, ?probeReturn, ?ringClose, ?notWhole, ?remeasure, ?notWanted,
    ?round⟩
  case sweepRd => exact fun s k ns fate => ⟨_, rfl, rfl⟩
  case holdUnderWay =>
    intro s k ns fate hway
    refine ⟨_, rfl, ?_⟩
    dsimp only
    rw [if_pos hway]
  case holdLaunched =>
    intro s k ns fate hway hcommands
    refine ⟨_, rfl, ?_⟩
    dsimp only
    rw [if_neg (by simp [hway]), if_pos hcommands]
  case tregRd => exact fun s k reg hup hreach => ⟨_, execTregRd_ok hup reg hreach, rfl, rfl, rfl, rfl⟩
  case tregRdSpoilt =>
    intro s k reg x3 n hup
    refine ⟨_, execTregRd_fails s k reg (by simp), ?_⟩
    rw [tileFrame_payload hup]
  case tregWr => exact fun s k ws hup hcommands => ⟨_, execTregWr_commands hup ws _ hcommands, tileFrame_ok hup _ _⟩
  case tregWrSpoilt => exact fun s k ws x3 n hup hcommands => ⟨_, execTregWr_commands hup ws _ hcommands, tileFrame_payload hup _ _ _⟩
  case header =>
    intro s k reg ws b x3 n hup hnum hreach hcommands t
    refine ⟨(execTregRd_fails s k reg (by simp)).trans ?_, (execTregWr_commands hup ws _ hcommands).trans ?_,
      (execProbeFrame_fails hnum hreach (by simp)).trans ?_, flag_hdrErr _ _ _ _⟩
    · rw [tileFrame_header hup]
    · rw [tileFrame_header hup]
    · rw [tileFrame_header hup]
  case enumA =>
    intro s hrun hup hcommands
    refine ⟨_, execEnum_run hrun hup, ?_⟩
    simp [hcommands]
  case enumB =>
    intro s hrun hup hcommands
    refine ⟨_, execEnum_run hrun hup, ?_⟩
    simp [hcommands]
  case enumShadow =>
    intro s b hrun hup hcommands
    refine ⟨_, execEnum_run hrun hup, ?_⟩
    simp [hcommands]
  case probe =>
    intro s k b hnum hreach
    refine ⟨_, execProbeFrame_ok hnum hreach, ?_⟩
    cases b <;> exact ⟨testBit_setBit_self _ _, rfl, rfl, rfl⟩
  case probeMissed => exact fun s k b chk hno => execProbeFrame_missed chk hno
  case syncTile =>
    intro s k x3 n hk
    obtain ⟨hregs, hmem, htiles⟩ := hopCut_keeps (tileLoses s k x3 n) (if x3 then k + 1 else k)
    obtain ⟨hregs', hmem', htiles'⟩ := tileLoses_keeps s k x3 n
    exact ⟨_, execSyncLoss_tile hk s x3 n, mem_cuts_hopCut _ _, hregs.trans hregs', hmem.trans hmem', fun hup => htiles.trans (htiles' hup)⟩
  case syncPort =>
    intro s k x3 n hk
    obtain ⟨hcut, htiles, hmem⟩ := portLost_keeps s x3 n
    exact ⟨_, execSyncLoss_port hk s x3 n, hcut, flag_portLost_err s x3 n, flag_ringOpen_closed _, flag_ringOpen_match _, htiles, hmem⟩
  case loopTile =>
    intro s k x3 hk hup
    refine ⟨_, rfl, ?_, ?_, ?_⟩
    · simp [hk]
    · dsimp only
      rw [if_pos hk]
      rfl
    · dsimp only
      rw [if_pos hk]
      exact congrArg State.tiles (tileMod_congr (by simp [hup]))
  case loopPort =>
    intro s k x3 hk
    refine ⟨_, rfl, ?_⟩
    dsimp only
    rw [if_neg (by omega), if_neg (by omega)]
  case linkDown =>
    intro s b pos x3 hrun
    obtain ⟨reach, hexec⟩ := execLinkDown_run (b := b) (pos := pos) (x3 := x3) hrun
    refine ⟨_, hexec, _, reach, rfl, ?_, ?_, ?_, ?_, mem_cuts_linkCut _ _ _ _⟩
    · exact (flag_congr (linkCut_regs _ _ _ _) _).trans (flag_ringOpen_closed _)
    · exact (flag_congr (linkCut_regs _ _ _ _) _).trans (flag_ringOpen_match _)
    · cases b <;> rfl
    · cases b <;> rfl
  case incompleteClosed =>
    intro s ns hclosed
    refine ⟨_, congrArg Host.Outcome.next (if_pos ((flag_readsDropped s _).trans hclosed)), readsDropped s, rfl, rfl⟩
  case incompleteOpen =>
    intro s ns hopen
    refine ⟨_, congrArg Host.Outcome.next (if_neg (fun h => by
      have hclosed := (flag_readsDropped s _).symm.trans h
      simp [hopen] at hclosed)),
      readsDropped s, _, _, rfl, rfl, rfl, rfl⟩
  case probeReturn => exact fun s hrun => ⟨_, if_neg (by simp [hrun]), rfl⟩
  case ringClose =>
    exact fun s a b ms hrun hopen hwhole => ⟨_, execRingClose_closes a b ms hrun hopen hwhole, _, rfl, flag_ringShut_closed s, flag_ringShut_breakA s,
      flag_ringShut_breakB s, popCount_of_ringShut⟩
  case notWhole => exact fun s a b ms hno => if_pos (by simp [hno])
  case remeasure => exact fun s a b ms hrun hcommands hwanted => ⟨_, congrArg Host.Outcome.next (if_pos (by simp [hrun, hcommands, hwanted])), rfl⟩
  case notWanted => exact fun s a b ms hno => congrArg Host.Outcome.next (if_neg (by simp [hno]))
  case round => exact fun s _ _ => ⟨_, rfl, rfl⟩

end Sys2Proof.Proofs
end

section
/-! Sample instants, the delivery of sweeps, and QP12 (R136, R144, R153, R157). -/

namespace Sys2Proof.Laws

open Sys2Proof Sys2Proof.Machine

/-! ### What an instant's frames and strobes leave of its sweep -/

theorem launchRead_keeps (s : State) (b : Bool) (ty snum mask : Nat) :
    (launchRead s b ty snum mask).chain.asm = s.chain.asm ∧ (launchRead s b ty snum mask).meas = s.meas := by
  unfold launchRead
  cases b <;> exact ⟨rfl, rfl⟩

theorem launchSample_keeps (s : State) (b : Bool) (snum mask : Nat) :
    (launchSample s b snum mask).chain.asm = s.chain.asm ∧ (launchSample s b snum mask).meas = s.meas := by
  unfold launchSample
  dsimp only
  obtain ⟨hasm, hmeas⟩ := launchRead_keeps (pepperWait (emit (launch s b 1 0 snum (armArg s) []) .strobe
    [b2n b, ptNow (launch s b 1 0 snum (armArg s) []) - rd (launch s b 1 0 snum (armArg s) []) R.CHAIN_ALIGN_D_ALIGN_NS] []) 11 0) b 2 snum mask
  rw [hasm, hmeas]
  simp [launch]

theorem instLaunch_keeps (s : State) (snum : Nat) : (instLaunch s snum).chain.asm = s.chain.asm ∧ (instLaunch s snum).meas = s.meas := by
  unfold instLaunch
  split
  · split
    · dsimp only
      exact launchSample_keeps ..
    · obtain ⟨hasm, hmeas⟩ := launchSample_keeps (launchSample s false snum (sideMask s false)) true snum (sideMask s true)
      obtain ⟨hasm', hmeas'⟩ := launchSample_keeps s false snum (sideMask s false)
      exact ⟨hasm.trans hasm', hmeas.trans hmeas'⟩
  · exact ⟨rfl, rfl⟩

theorem rateTake_keeps (s : State) :
    (rateTake s).chain = s.chain ∧ (rateTake s).meas.next = s.meas.next ∧ (rateTake s).meas.first = s.meas.first := by
  unfold rateTake
  dsimp only
  split <;> exact ⟨rfl, rfl, rfl⟩

theorem gapEnd_keeps (s : State) (b : Bool) : (gapEnd s b).chain = s.chain ∧ (gapEnd s b).meas = s.meas := by
  unfold gapEnd
  split
  · exact ⟨rfl, rfl⟩
  · split
    · split <;> exact ⟨rfl, rfl⟩
    · split <;> exact ⟨rfl, rfl⟩

/-- The end of an instant keeps the sweep that it opened and the number it goes on with. -/
theorem instEnd_keeps (s : State) (q : Nat) :
    (gapEnd (instLaunch (rateTake s) q) true).chain.asm = s.chain.asm
    ∧ (gapEnd (instLaunch (rateTake s) q) true).meas.next = s.meas.next
    ∧ (gapEnd (instLaunch (rateTake s) q) true).meas.first = s.meas.first := by
  obtain ⟨hgapChain, hgapMeas⟩ := gapEnd_keeps (instLaunch (rateTake s) q) true
  obtain ⟨hasm, hmeas⟩ := instLaunch_keeps (rateTake s) q
  obtain ⟨hchain, hnext, hfirst⟩ := rateTake_keeps s
  rw [hgapChain, hgapMeas, hasm, hmeas, hchain]
  exact ⟨rfl, hnext, hfirst⟩

/-- A sample instant of a running MEAS opens the sweep of its number, with no slot back. -/
theorem sampleInstant_opens {s : State} (hrun : flag s R.MEAS_STATUS_RUN = true) (hup : blocksUp s = true) (rx : Option Nat) (hv : HvmIn)
    (tr : Option Nat) : ∃ w, (sampleInstant s rx hv tr).chain.asm = some w ∧ (sampleInstant s rx hv tr).meas.next = (w.snum + 1) % 2 ^ 32
      ∧ w.slots = Sweep.none.slots ∧ (sampleInstant s rx hv tr).meas.first = false := by
  unfold sampleInstant
  rw [if_neg (by simp [hrun, hup])]
  dsimp only
  obtain ⟨hasm, hnext, hfirst⟩ := instEnd_keeps _ _
  exact ⟨_, hasm, hnext, rfl, hfirst⟩

theorem sweepDeliver_none {s : State} (h : s.chain.asm = none) : sweepDeliver s = s := by
  unfold sweepDeliver
  rw [h]

/-! ### QP12 -/

section
variable {s : State} (hrun : flag s R.CHAIN_STATUS_RUN = true)
include hrun

theorem chainTileRd_found {e : Entry} {k : Nat} (h : tileByPos s (e.arg0 % 32) = some k) :
    chainTileRd e s = (s, .done 0 (tileReg (tileAt s k) (e.arg0 / 256) % 65536) 0) := by
  unfold chainTileRd
  simp [hrun, h, okR]

theorem chainTileRd_missing {e : Entry} (h : tileByPos s (e.arg0 % 32) = none) : chainTileRd e s = (s, .done 0x40 0 0) := by
  unfold chainTileRd
  simp [hrun, h, failR]

theorem chainProbe_run (e : Entry) : chainProbe e s = (launchProbe s, .running 0) := if_neg (by simp [hrun])

theorem chainDlyMeasure_run (a b : Nat) (ms : List (Option Nat)) (e : Entry) :
    chainDlyMeasure a b ms e s = (dlyRun s a b ms, .done 0 (rd (dlyRun s a b ms) R.CHAIN_ALIGN_D_ALIGN_NS) 0) := if_neg (by simp [hrun])

end

/-- Registers 0x00 to 0x0F of every position. -/
def tileSnapBytes (s : State) : List Byte :=
  ((List.range 24).map (fun p => match tileByPos s p with
    | some k => ((List.range 16).map (fun a => leBytes 2 (tileReg (tileAt s k) a))).flatten
    | none => zeros 32)).flatten

theorem chainTileSnap_run {s : State} (hrun : flag s R.CHAIN_STATUS_RUN = true) (e : Entry) :
    chainTileSnap e s = (memWrite s e.addr (tileSnapBytes s), .done 0 768 0) := if_neg (by simp [hrun])

theorem length_tileSnapBytes (s : State) : (tileSnapBytes s).length = 768 := by
  unfold tileSnapBytes
  rw [length_flatten_of_forall (n := 32)]
  · simp
  · intro bs hbs
    obtain ⟨p, -, rfl⟩ := List.mem_map.1 hbs
    split
    · rw [length_flatten_of_forall (n := 2)]
      · simp
      · intro cs hcs
        obtain ⟨a, -, rfl⟩ := List.mem_map.1 hcs
        exact leBytes_len _ _
    · simp [zeros]

end Sys2Proof.Laws

namespace Sys2Proof.Proofs

open Sys2Proof Sys2Proof.Machine Sys2Proof.Laws

/-- Settles O31: the instant ends with the sweep it opened under assembly, and delivery acts on a whole sweep or at its deadline. -/
theorem sweepRowsAct : Obligations.SweepRowsAct := by
  unfold Obligations.SweepRowsAct
  refine ⟨?instant, fun s hwhole => ⟨_, congrArg Host.Outcome.next (if_pos hwhole), rfl⟩,
    fun s hno => congrArg Host.Outcome.next (if_neg (by simp [hno])), fun s => ⟨_, rfl, rfl, sweepDeliver_none⟩⟩
  case instant =>
    intro s rx hv tr hrun hup
    obtain ⟨w, hasm, hnext, hslots, hfirst⟩ := sampleInstant_opens hrun hup rx hv tr
    exact ⟨_, rfl, rfl, w, hasm, hnext, hslots, hfirst, sampleInstant_power s rx hv tr⟩

/-- Settles O32: each opcode of QP12 by its action. -/
theorem chainCommandsAct : Obligations.ChainCommandsAct := by
  unfold Obligations.ChainCommandsAct
  refine ⟨fun s e hgoes hrun k hfound => leaves_of_act hgoes (chainTileRd_found hrun hfound) rfl,
    fun s e hgoes hrun hmissing => leaves_of_act hgoes (chainTileRd_missing hrun hmissing) rfl,
    fun s e hgoes hrun => leaves_of_act hgoes (chainProbe_run hrun e) rfl,
    fun s e a b ms hgoes hrun => leaves_of_act hgoes (chainDlyMeasure_run hrun a b ms e) rfl, ?snap, ?stopped⟩
  case snap =>
    intro s e hgoes hrun
    refine leaves_of_act hgoes (chainTileSnap_run hrun e) ⟨memWrite_regs_eq .., memWrite_tiles_eq .., memWrite_chain_eq .., fun b hb => ?_⟩
    exact memRd_memWrite_out _ _ _ _ (by rwa [length_tileSnapBytes])
  case stopped =>
    intro s e hrun
    have hno : (!flag s R.CHAIN_STATUS_RUN) = true := by simp [hrun]
    exact ⟨fun hgoes => leaves_of_act hgoes (if_pos hno) rfl, fun hgoes => leaves_of_act hgoes (if_pos hno) rfl,
      fun a b ms hgoes => leaves_of_act hgoes (if_pos hno) rfl, fun hgoes => leaves_of_act hgoes (if_pos hno) rfl⟩

end Sys2Proof.Proofs
end

section
/-! HVM: values, the insulation cycle, and faults of the current paths (R170 to R173, R181). -/

namespace Sys2Proof.Laws

open Sys2Proof Sys2Proof.Machine

/-- Where nothing waits, an item's boundary changes nothing. -/
theorem cfgBoundary_none {s : State} (h : s.cfgPend = []) (key : Nat) : cfgBoundary s key = s := by
  unfold cfgBoundary
  rw [h]
  rfl

theorem cfgBoundary_hvm (s : State) (key : Nat) : (cfgBoundary s key).hvm = s.hvm := by
  unfold cfgBoundary
  split <;> rfl

theorem cfgBoundary_regs (s : State) (key : Nat) : (cfgBoundary s key).regs = s.regs := by
  unfold cfgBoundary
  split <;> rfl

/-! ### The insulation cycle -/

theorem isoPhase_p0 {s : State} (h : s.hvm.iso = .p0) (vc u m um : Int) :
    isoPhase s vc u m um = put { s with hvm := { s.hvm with
      vc := s.hvm.vc ++ [(vc, decide (200 * (m.natAbs : Int) < s.hvm.vStr), u)], isoLow := s.hvm.isoLow || decide (um < 50000), iso := .p1 } }
      R.HVM_STATUS_ISO_ACTIVE true := by
  unfold isoPhase
  simp only [h]

theorem isoPhase_p1 {s : State} (h : s.hvm.iso = .p1) (hfew : s.hvm.vc.length < 3) (vc u m um : Int) :
    isoPhase s vc u m um = { s with hvm := { s.hvm with
      vc := s.hvm.vc ++ [(vc, decide (200 * (m.natAbs : Int) < s.hvm.vStr), u)], isoLow := s.hvm.isoLow || decide (um < 50000), iso := .p2 } } := by
  unfold isoPhase
  simp only [h]
  rw [if_neg (by omega)]

theorem isoPhase_p2 {s : State} (h : s.hvm.iso = .p2) (hfew : s.hvm.vc.length < 3) (vc u m um : Int) :
    isoPhase s vc u m um = put { s with hvm := { s.hvm with
      vc := s.hvm.vc ++ [(vc, decide (200 * (m.natAbs : Int) < s.hvm.vStr), u)], isoLow := s.hvm.isoLow || decide (um < 50000) } }
      R.HVM_STATUS_ISO_ACTIVE false := by
  unfold isoPhase
  simp only [h]
  rw [if_neg (by omega)]

theorem isoBegin_vc {s : State} (h : s.hvm.vc = []) : (isoBegin s).hvm.vc = [] := by
  unfold isoBegin
  dsimp only
  split
  · exact (congrArg HvmSt.vc (cfgBoundary_hvm s _)).trans h
  · rfl

/-- A cycle that has ended keeps none of its values. -/
theorem isoNext_vc (s : State) : (isoNext s).hvm.vc = [] := by
  unfold isoNext
  dsimp only
  split
  · exact congrArg HvmSt.vc (cfgBoundary_hvm _ _)
  · exact isoBegin_vc (congrArg HvmSt.vc (cfgBoundary_hvm _ _))

theorem isoEnd_vc {s : State} (hrun : s.hvm.iso ≠ .idle) (hdone : 3 ≤ s.hvm.vc.length ∨ s.hvm.isoLow = true) : (isoEnd s).hvm.vc = [] := by
  have hgo : ¬ (s.hvm.iso = .idle ∨ (s.hvm.vc.length < 3 ∧ !s.hvm.isoLow)) := by
    rintro (hidle | ⟨hfew, hnotLow⟩)
    · exact hrun hidle
    · rcases hdone with h3 | hlow
      · omega
      · simp [hlow] at hnotLow
  unfold isoEnd
  dsimp only
  rw [if_neg hgo]
  exact isoNext_vc _

section
variable {s : State} (hidle : s.hvm.iso = .idle) (hrun : flag s R.HVM_STATUS_RUN = true) (hnone : s.cfgPend = []) (hcommands : commands s = true)
  (hen : cfgU s 13 2 0 1 = 1)

/-- The unit's cycle as its slot begins. -/
def isoSlot (s : State) : State := isoBegin (put s R.HVM_STATUS_NO_SLOT false)

include hrun hnone hcommands hen in
/-- In a slot a unit that may inject begins with phase 0. -/
theorem isoSlot_begins : (isoSlot s).hvm.iso = .p0 ∧ (isoSlot s).hvm.vc = [] ∧ flag (isoSlot s) R.HVM_STATUS_NO_SLOT = false := by
  have hmay : isoMay (put s R.HVM_STATUS_NO_SLOT false) = true := by
    have hcommands' : commands (put s R.HVM_STATUS_NO_SLOT false) = true := by
      unfold commands role
      rw [rd_put_ne _ _ _ _ (by decide)]
      exact hcommands
    unfold isoMay
    rw [flag_put_ne _ _ _ _ (by decide), hrun, hcommands']
    exact decide_eq_true hen
  unfold isoSlot isoBegin
  rw [cfgBoundary_none (by simpa using hnone)]
  dsimp only
  rw [hmay]
  exact ⟨rfl, rfl, (flag_congr rfl _).trans (flag_put_self s _ _ (by decide) (by decide))⟩

include hidle hrun hnone in
theorem execInsulationSlotStart_one (hone : cfgU s 13 2 1 1 ≤ 1) : execInsulationSlotStart s = .next (isoSlot s) := by
  unfold execInsulationSlotStart
  rw [if_neg (by simp [hidle, hrun]), cfgBoundary_none hnone]
  exact if_pos hone

include hidle hrun hnone in
theorem execInsulationSlotStart_many (hmany : 1 < cfgU s 13 2 1 1) (hacq : flag s R.PTP_STATUS_ACQ = true) (hslot : inSlot s = true) :
    execInsulationSlotStart s = .next (isoSlot s) := by
  unfold execInsulationSlotStart
  rw [if_neg (by simp [hidle, hrun]), cfgBoundary_none hnone]
  dsimp only
  rw [if_neg (by omega), if_neg (by simp [hacq]), if_neg (by simp [hslot])]
  rfl

end

/-! ### The values shown -/

theorem rd_hvmShow_shunt {s : State} (h : s.hvm.iShunt = none) : rd (hvmShow s) R.HVM_I_SHUNT_MA = 0x80000000 := by
  unfold hvmShow
  dsimp only
  rw [h, rd_put_ne _ _ _ _ (by decide), rd_wr_ne _ _ _ _ (by decide), rd_wr_self _ _ _ (by decide)]
  rfl

theorem rd_hvmShow_hall {s : State} (h : s.hvm.iHall = none) : rd (hvmShow s) R.HVM_I_HALL_MA = 0x80000000 := by
  unfold hvmShow
  dsimp only
  rw [h, rd_put_ne _ _ _ _ (by decide), rd_wr_self _ _ _ (by decide)]
  rfl

theorem flag_hvmShow_shunt (s : State) : flag (hvmShow s) R.HVM_STATUS_SHUNT_FAULT = (s.hvm.shOver || s.hvm.shCm) := by
  unfold hvmShow
  exact flag_put_self _ _ _ (by decide) (by decide)

/-- hvmShow writes HVM's values and SHUNT_FAULT alone. -/
theorem flag_hvmShow_ne (s : State) (f : Fld) (h0 : Apart R.HVM_STATUS_SHUNT_FAULT f)
    (h1 : Apart R.HVM_I_HALL_MA f) (h2 : Apart R.HVM_I_SHUNT_MA f) (h3 : Apart R.HVM_V_LINK_NEG_MV f) (h4 : Apart R.HVM_V_PRE_MV f)
    (h5 : Apart R.HVM_V_LINK_MV f) (h6 : Apart R.HVM_V_STR_MV f) : flag (hvmShow s) f = flag s f := by
  unfold hvmShow wrS
  rw [flag_put_ne _ _ _ _ h0, flag_wr_ne _ _ _ _ h1, flag_wr_ne _ _ _ _ h2, flag_wr_ne _ _ _ _ h3, flag_wr_ne _ _ _ _ h4, flag_wr_ne _ _ _ _ h5,
    flag_wr_ne _ _ _ _ h6]

theorem hvmShow_hvm (s : State) : (hvmShow s).hvm = s.hvm := rfl

/-! ### Faults of the shunt -/

/-- The shunt's values in a fault: its current gone and the fault of its kind standing. -/
def shuntGone (s : State) (cm : Bool) : State :=
  hvmShow { s with hvm := { s.hvm with shOver := s.hvm.shOver || !cm, shCm := s.hvm.shCm || cm, iShunt := none } }

theorem shuntFault_eq (s : State) (cm : Bool) :
    shuntFault s cm = if s.hvm.shOver || s.hvm.shCm then shuntGone s cm else errRise (shuntGone s cm) R.HVM_ERR_SHUNT 0 0 := rfl

theorem shuntGone_hvm (s : State) (cm : Bool) :
    (shuntGone s cm).hvm = { s.hvm with shOver := s.hvm.shOver || !cm, shCm := s.hvm.shCm || cm, iShunt := none } := rfl

theorem shuntFault_hvm (s : State) (cm : Bool) :
    (shuntFault s cm).hvm = { s.hvm with shOver := s.hvm.shOver || !cm, shCm := s.hvm.shCm || cm, iShunt := none } := by
  rw [shuntFault_eq]
  split
  · exact shuntGone_hvm s cm
  · rw [errRise_hvm_eq]
    exact shuntGone_hvm s cm

theorem shuntGone_shows (s : State) (cm : Bool) : rd (shuntGone s cm) R.HVM_I_SHUNT_MA = 0x80000000
    ∧ flag (shuntGone s cm) R.HVM_STATUS_SHUNT_FAULT = true := by
  refine ⟨rd_hvmShow_shunt (by rfl), (flag_hvmShow_shunt _).trans ?_⟩
  cases cm <;> simp

theorem shuntFault_shows (s : State) (cm : Bool) : rd (shuntFault s cm) R.HVM_I_SHUNT_MA = 0x80000000
    ∧ flag (shuntFault s cm) R.HVM_STATUS_SHUNT_FAULT = true := by
  rw [shuntFault_eq]
  split
  · exact shuntGone_shows s cm
  · rw [rd_errRise_ne _ _ _ _ _ (by decide) (by decide), flag_errRise_ne _ _ _ _ _ (by decide) (by decide)]
    exact shuntGone_shows s cm

theorem shuntFault_noted {s : State} (cm : Bool) (h : (s.hvm.shOver || s.hvm.shCm) = false) : flag (shuntFault s cm) R.HVM_ERR_SHUNT = true := by
  rw [shuntFault_eq, if_neg (by simp [h])]
  exact flag_errRise_self _ _ _ _ (by decide) (by decide) (by decide)

/-! ### The Hall pins -/

theorem hallFollow_keeps (s : State) (a b : Int) : (hallFollow s a b).hvm = s.hvm ∧ (hallFollow s a b).cfg = s.cfg := by
  unfold hallFollow
  split
  · split
    · exact ⟨rfl, rfl⟩
    · rw [errRise_hvm_eq, errRise_cfg_eq]
      exact ⟨rfl, rfl⟩
  · exact ⟨rfl, rfl⟩

theorem flag_hallFollow (s : State) (a b : Int) : flag (hallFollow s a b) R.HVM_STATUS_HALL_FAULT = hallBad a b := by
  unfold hallFollow
  cases hbad : hallBad a b
  · exact flag_put_self _ _ _ (by decide) (by decide)
  · cases hwas : flag s R.HVM_STATUS_HALL_FAULT
    · simp only [if_true, Bool.false_eq_true, if_false]
      rw [flag_errRise_ne _ _ _ _ _ (by decide) (by decide)]
      exact flag_put_self _ _ _ (by decide) (by decide)
    · exact hwas

theorem hallFollow_noted {s : State} {a b : Int} (hbad : hallBad a b = true) (hwas : flag s R.HVM_STATUS_HALL_FAULT = false) :
    flag (hallFollow s a b) R.HVM_ERR_HALL = true := by
  unfold hallFollow
  rw [if_pos hbad, if_neg (by simp [hwas])]
  exact flag_errRise_self _ _ _ _ (by decide) (by decide) (by decide)

theorem hallMa_congr {s t : State} (h : t.cfg = s.cfg) (a b : Int) : hallMa t a b = hallMa s a b := by
  simp only [hallMa, cfgS, cfgU, cfgItem, h]

/-- The Hall current as its pins stand. -/
def hallTaken (s : State) (a b : Int) : State :=
  { hallFollow s a b with hvm := { (hallFollow s a b).hvm with iHall := if hallBad a b then none else some (hallMa (hallFollow s a b) a b) } }

theorem execHallFault_run {s : State} (hrun : flag s R.HVM_STATUS_RUN = true) (a b : Int) :
    execHallFault a b s = .next (hvmShow (hallTaken s a b)) := if_neg (by simp [hrun])

theorem flag_hvmShow_hallTaken (s : State) (a b : Int) (f : Fld) (h0 : Apart R.HVM_STATUS_SHUNT_FAULT f)
    (h1 : Apart R.HVM_I_HALL_MA f) (h2 : Apart R.HVM_I_SHUNT_MA f) (h3 : Apart R.HVM_V_LINK_NEG_MV f) (h4 : Apart R.HVM_V_PRE_MV f)
    (h5 : Apart R.HVM_V_LINK_MV f) (h6 : Apart R.HVM_V_STR_MV f) : flag (hvmShow (hallTaken s a b)) f = flag (hallFollow s a b) f :=
  (flag_hvmShow_ne _ f h0 h1 h2 h3 h4 h5 h6).trans (flag_congr rfl f)

end Sys2Proof.Laws

namespace Sys2Proof.Proofs

open Sys2Proof Sys2Proof.Machine Sys2Proof.Laws

/-- Settles O34: the report by its definition, each phase by its equation, the faults by what HVM shows. -/
theorem hvmRowsAct : Obligations.HvmRowsAct := by
  unfold Obligations.HvmRowsAct
  refine ⟨?report, ?p0, ?p1, ?p2, ?cycleEnd, ?ownSlot, ?oneSlot, ?overRange, ?commonMode, ?hall⟩
  case report =>
    intro s m a b hrun
    refine ⟨_, if_neg (by simp [hrun]), _, _, _, _, rfl, rfl, rfl, rfl, rfl, rfl, fun hgood => ?_, fun hbad => ?_, rfl⟩
    · simp [hgood]
    · simp [hbad]
  case p0 =>
    exact fun s vc u m um h => ⟨_, congrArg Host.Outcome.next (isoPhase_p0 h vc u m um), rfl,
      flag_put_self _ _ _ (by decide) (by decide), rfl, rfl⟩
  case p1 => exact fun s vc u m um h hfew => ⟨_, congrArg Host.Outcome.next (isoPhase_p1 h hfew vc u m um), rfl, rfl, rfl, rfl⟩
  case p2 =>
    exact fun s vc u m um h hfew => ⟨_, congrArg Host.Outcome.next (isoPhase_p2 h hfew vc u m um),
      flag_put_self _ _ _ (by decide) (by decide), rfl, rfl⟩
  case cycleEnd => exact fun s hrun hdone => ⟨_, rfl, rfl, isoEnd_vc hrun hdone⟩
  case ownSlot =>
    exact fun s hidle hrun hnone hmany hacq hslot hcommands hen => ⟨_, execInsulationSlotStart_many hidle hrun hnone hmany hacq hslot,
      isoSlot_begins hrun hnone hcommands hen⟩
  case oneSlot =>
    exact fun s hidle hrun hnone hone hcommands hen => ⟨_, execInsulationSlotStart_one hidle hrun hnone hone,
      isoSlot_begins hrun hnone hcommands hen⟩
  case overRange =>
    intro s n hrun
    obtain ⟨hma, hfault⟩ := shuntFault_shows (overCount s n true) false
    refine ⟨_, congrArg Host.Outcome.next (if_pos hrun), ?_, ?_, hma, hfault, fun hwas => shuntFault_noted _ hwas⟩
    · rw [shuntFault_hvm]
    · rw [shuntFault_hvm]
      simp
  case commonMode =>
    intro s hrun
    obtain ⟨hma, hfault⟩ := shuntFault_shows s true
    refine ⟨_, congrArg Host.Outcome.next (if_pos hrun), ?_, ?_, hma, hfault, fun hwas => shuntFault_noted _ hwas⟩
    · rw [shuntFault_hvm]
    · rw [shuntFault_hvm]
      simp
  case hall =>
    intro s a b hrun
    refine ⟨_, execHallFault_run hrun a b, ?_, fun hbad => ⟨?_, rd_hvmShow_hall ?_, fun hwas => ?_⟩, fun hgood => ?_⟩
    · exact (flag_hvmShow_hallTaken s a b _ (by decide) (by decide) (by decide) (by decide) (by decide) (by decide) (by decide)).trans
        (flag_hallFollow s a b)
    · simp [hvmShow_hvm, hallTaken, hbad]
    · simp [hallTaken, hbad]
    · exact (flag_hvmShow_hallTaken s a b _ (by decide) (by decide) (by decide) (by decide) (by decide) (by decide) (by decide)).trans
        (hallFollow_noted hbad hwas)
    · simp [hvmShow_hvm, hallTaken, hgood, hallMa_congr (hallFollow_keeps s a b).2]

end Sys2Proof.Proofs
end

section
/-! BAL: the end of a calibration posts the completion of its TAP_CAL (R192, R199). -/

namespace Sys2Proof.Proofs

open Sys2Proof Sys2Proof.Machine

/-- A TAP_CAL under way, alone in its queue pair. -/
def tapCalEntry : Entry :=
  { opc := 0x43, flags := 0, tag := 1, arg0 := 0, addr := 0x1000, len := 0, arg1 := 0, at64 := 0, level := .aM, st := .running 0, snap := [] }

/-- A unit whose calibration of no tile runs on an enabled QP14. -/
def calRunning : State :=
  let s := put (put (put State.reset (R.QP_CTRL_ENABLE 14) true) R.BAL_STATUS_RUN true) R.BAL_STATUS_CAL_RUN true
  qpMod { s with bal := { s.bal with calMask := some 0 } } 14 (fun q => { q with entries := [tapCalEntry] })

/-- Steps of a calibration that measured nothing. -/
def noSteps : List (List CalStep) := List.replicate 24 (List.replicate 24 { offLo := 0, off := 0, offHi := 0, onLo := 0, on := 0, onHi := 0 })

/-- Cells of 0 V are outside the range of R192. -/
theorem calHeld_calRunning : calHeld calRunning 0 0 0 0 = false := by decide +kernel

/-- The completion's opcode byte stands in the ring, where host memory held 0. -/
theorem memRd_balCalDone_calRunning : memRd (balCalDone calRunning 0 0 0 noSteps (List.replicate 24 0)) 6 = 0x43 := by decide +kernel

theorem memRd_calRunning : memRd calRunning 6 = 0 := by decide +kernel

/-- Refutes O35: a calibration whose conditions did not hold ends its TAP_CAL with STATUS 0x42, and that completion is written into the completion
ring of QP14, so that host memory does not stay as it was. -/
theorem not_balRowsAct : ¬ Obligations.BalRowsAct := by
  unfold Obligations.BalRowsAct
  rintro ⟨-, -, -, -, -, -, -, hfailed, -⟩
  obtain ⟨t, hexec, -, -, -, -, hmem⟩ := hfailed calRunning 0 0 0 noSteps (List.replicate 24 0) 0 rfl calHeld_calRunning
  have ht : t = balCalDone calRunning 0 0 0 noSteps (List.replicate 24 0) := (Host.Outcome.next.inj hexec).symm
  have hsame : memRd t 6 = memRd calRunning 6 := by
    unfold memRd
    rw [hmem]
  rw [ht, memRd_balCalDone_calRunning, memRd_calRunning] at hsame
  exact absurd hsame (by decide)

end Sys2Proof.Proofs
end

section
/-! The estimator: its timed rows and the queue pair of chemistries, resets and snapshots (R207, R210, R215, R216, R225). -/

namespace Sys2Proof.Laws

open Sys2Proof Sys2Proof.Machine

section
variable {s : State} (hrun : flag s R.EST_STATUS_RUN = true)
include hrun

/-! ### The cycle -/

/-- The window that waited is left, and the gap shows. -/
def windowLost (s : State) : State := { s with est := { s.est with input := none, gap := true } }

variable {w : EstWin} (hfull : fullUp s = true) (hinput : s.est.input = some w)
include hfull hinput

theorem estCycle_current {i : Int} {alt : Bool} (hcur : estCurrent s w = some (i, alt)) : estCycle s = estCycleRun s w i alt := by
  unfold estCycle
  simp [hrun, hfull, hinput, hcur]

/-- Without a valid current the cells stay, and the missing current is noted where it was not. -/
theorem estCycle_noCurrent (hcur : estCurrent s w = none) : estCycle s = if flag s R.EST_STATUS_NO_CURRENT then windowLost s
    else errRise (put (windowLost s) R.EST_STATUS_NO_CURRENT true) R.EST_ERR_NO_CURRENT 0 0 := by
  unfold estCycle
  simp only [hrun, hfull, hinput, hcur, Bool.not_true, Bool.or_self, Bool.false_eq_true, if_false]
  rfl

omit hfull hinput in
theorem estFlag_run (c : Nat) (f : EstCell → EstCell) : estFlag s c f = estCounts { s with est := { s.est with cells := modAt s.est.cells c f } } false :=
  if_pos hrun

end

/-- What a missing current leaves. -/
theorem noCurrent_leaves (s : State) {t : State} (ht : t = if flag s R.EST_STATUS_NO_CURRENT then windowLost s
    else errRise (put (windowLost s) R.EST_STATUS_NO_CURRENT true) R.EST_ERR_NO_CURRENT 0 0) :
    flag t R.EST_STATUS_NO_CURRENT = true ∧ t.est = { s.est with input := none, gap := true }
    ∧ (flag s R.EST_STATUS_NO_CURRENT = false → flag t R.EST_ERR_NO_CURRENT = true) := by
  subst ht
  cases hwas : flag s R.EST_STATUS_NO_CURRENT
  · simp only [Bool.false_eq_true, if_false]
    refine ⟨?_, ?_, fun _ => flag_errRise_self _ _ _ _ (by decide) (by decide) (by decide)⟩
    · rw [flag_errRise_ne _ _ _ _ _ (by decide) (by decide)]
      exact flag_put_self _ _ _ (by decide) (by decide)
    · rw [errRise_est_eq]
      rfl
  · exact ⟨hwas, rfl, fun h => absurd h (by decide)⟩

/-! ### Marks of cells -/

theorem estCounts_keeps (s : State) : (estCounts s false).est = s.est ∧ (estCounts s false).mem = s.mem ∧ (estCounts s false).power = s.power := ⟨rfl, rfl, rfl⟩

theorem rd_estCounts_stale (s : State) :
    rd (estCounts s false) R.EST_N_NOW_STALE = (s.est.cells.filter (fun x => x.stale)).length % 2 ^ R.EST_N_NOW_STALE.width := rd_wr_self _ _ _ (by decide)

theorem estFlag_stopped {s : State} (hrun : flag s R.EST_STATUS_RUN = false) (c : Nat) (f : EstCell → EstCell) : estFlag s c f = s := by
  unfold estFlag
  rw [hrun]
  rfl

/-! ### Snapshots -/

/-- A snapshot that STOR does not take is noted. -/
theorem estSnapshot_refused {s : State} (h : storTakes s = false) : estSnapshot s 2 = (false, errRise s R.EST_ERR_SNAP_FAIL 0 2) := by
  unfold estSnapshot
  simp [h]

theorem estSnapshot_taken {s : State} (h : storTakes s = true) : (estSnapshot s 2).1 = true := by
  unfold estSnapshot
  simp [h]

/-! ### CHEM_COMMIT -/

theorem isEmpty_eq_false {α : Type} {l : List α} (h : l ≠ []) : l.isEmpty = false := by cases l <;> simp at h ⊢

section
variable {s : State} {e : Entry} (hstor : storTakes s = true)
include hstor

section
variable (hhdr : cfgItem s 15 2 ≠ []) (hocv : cfgItem s 15 3 ≠ []) (hpar : cfgItem s 15 4 ≠ [])
include hhdr hocv hpar

theorem estCommit_bad {n : Nat} (hbad : chemBad (cfgItem s 15 2) (cfgItem s 15 3) (cfgItem s 15 4) = some n) :
    estCommit e s = (errRise s R.EST_ERR_CHEM_REJ 0 0, .done 0x41 0 n) := by
  unfold estCommit
  simp [hstor, isEmpty_eq_false hhdr, isEmpty_eq_false hocv, isEmpty_eq_false hpar, hbad, failX]

/-- The chemistry of an entry waits. -/
def chemWaits (s : State) (e : Entry) : State :=
  { s with est := { s.est with pend := some ({ id := e.arg0, hdr := cfgItem s 15 2, ocv := cfgItem s 15 3, par := cfgItem s 15 4 }, bitOf e.arg1 0) } }

theorem estCommit_good (hgood : chemBad (cfgItem s 15 2) (cfgItem s 15 3) (cfgItem s 15 4) = none) :
    estCommit e s = if flag s R.EST_STATUS_RUN then (chemWaits s e, .running 0)
      else (estCommitNow (chemWaits s e), .done 0 ((rd s R.EST_CYCLE_CNT_COUNT + 1) % 2 ^ 32) 0) := by
  unfold estCommit
  simp only [hstor, isEmpty_eq_false hhdr, isEmpty_eq_false hocv, isEmpty_eq_false hpar, hgood, Bool.not_true, Bool.or_self, Bool.false_eq_true, if_false]
  rfl

end

theorem estCommit_unstaged (hno : cfgItem s 15 2 = [] ∨ cfgItem s 15 3 = [] ∨ cfgItem s 15 4 = []) : estCommit e s = (s, .done 0x42 0 0) := by
  have hempty : ((cfgItem s 15 2).isEmpty || (cfgItem s 15 3).isEmpty || (cfgItem s 15 4).isEmpty) = true := by
    rcases hno with h | h | h <;> simp [h]
  unfold estCommit
  simp only [hstor, hempty, Bool.not_true, Bool.false_eq_true, if_false, if_true]
  rfl

end

end Sys2Proof.Laws

namespace Sys2Proof.Proofs

open Sys2Proof Sys2Proof.Machine Sys2Proof.Laws

/-- Settles O36: the cycle by whether it has a current, the marks and the snapshot by their operations. -/
theorem estTimedRowsAct : Obligations.EstTimedRowsAct := by
  unfold Obligations.EstTimedRowsAct
  refine ⟨?cycle, ?noCurrent, fun s => ⟨_, rfl, rfl⟩, ?noEis, ?stale, ?stopped, ?stored, ?notTaken, ?power⟩
  case cycle => exact fun s w i alt hrun hfull hinput hcur => ⟨_, rfl, estCycle_current hrun hfull hinput hcur⟩
  case noCurrent =>
    intro s w hrun hfull hinput hcur
    obtain ⟨hflag, hest, hnoted⟩ := noCurrent_leaves s (estCycle_noCurrent hrun hfull hinput hcur)
    exact ⟨_, rfl, hflag, by rw [hest], by rw [hest], by rw [hest], hnoted⟩
  case noEis => exact fun s c hrun => ⟨_, congrArg Host.Outcome.next (estFlag_run hrun c _), rfl, rfl, rfl⟩
  case stale => exact fun s c hrun => ⟨_, congrArg Host.Outcome.next (estFlag_run hrun c _), rfl, rd_estCounts_stale _⟩
  case stopped =>
    exact fun s c hrun => ⟨congrArg Host.Outcome.next (estFlag_stopped hrun c _), congrArg Host.Outcome.next (estFlag_stopped hrun c _)⟩
  case stored => exact fun s hrun hmin _ => ⟨_, congrArg Host.Outcome.next (if_pos (by simp [hrun, hmin])), rfl⟩
  case notTaken =>
    intro s hrun hmin hstor
    refine ⟨_, congrArg Host.Outcome.next (if_pos (by simp [hrun, hmin])), ?_⟩
    rw [estSnapshot_refused hstor]
    exact ⟨flag_errRise_self _ _ _ _ (by decide) (by decide) (by decide), errRise_nv_eq .., errRise_est_eq ..⟩
  case power => exact fun s _ _ ch _ => ⟨_, rfl, rfl⟩

/-- Settles O37: each opcode of QP15 by its action. -/
theorem estCommandsAct : Obligations.EstCommandsAct := by
  unfold Obligations.EstCommandsAct
  refine ⟨?commit, ?unstaged, ?storRefuses, ?reset, ?snapshot, ?notTaken, ?stopped⟩
  case commit =>
    intro s e hgoes hstor hhdr hocv hpar
    dsimp only
    split
    case h_1 hgood =>
      have hact := estCommit_good (e := e) hstor hhdr hocv hpar hgood
      exact ⟨fun hrun => leaves_of_act hgoes (hact.trans (if_pos hrun)) rfl, fun hrun => leaves_of_act hgoes (hact.trans (if_neg (by simp [hrun]))) rfl⟩
    case h_2 n hbad =>
      exact leaves_of_act hgoes (estCommit_bad hstor hhdr hocv hpar hbad)
        ⟨errRise_est_eq .., flag_errRise_self _ _ _ _ (by decide) (by decide) (by decide)⟩
  case unstaged => exact fun s e hgoes hstor hno => leaves_of_act hgoes (estCommit_unstaged hstor hno) rfl
  case storRefuses =>
    intro s e hgoes hstor
    have hno : (!storTakes s) = true := by simp [hstor]
    exact leaves_of_act hgoes (if_pos hno) rfl
  case reset =>
    intro s e hgoes hrun
    have hgo : ¬ (!flag s R.EST_STATUS_RUN) = true := by simp [hrun]
    exact leaves_of_act hgoes (if_neg hgo) rfl
  case snapshot =>
    intro s e hgoes hrun hstor
    refine leaves_of_act hgoes (s1 := (estSnapshot s 2).2) ?_ rfl
    unfold estSnapshotOp
    simp [hrun, estSnapshot_taken hstor, okR]
  case notTaken =>
    intro s e hgoes hrun hstor
    refine leaves_of_act hgoes (s1 := errRise s R.EST_ERR_SNAP_FAIL 0 2) ?_
      ⟨errRise_nv_eq .., flag_errRise_self _ _ _ _ (by decide) (by decide) (by decide)⟩
    unfold estSnapshotOp
    simp [hrun, estSnapshot_refused hstor, failR]
  case stopped =>
    intro s e hrun
    have hno : (!flag s R.EST_STATUS_RUN) = true := by simp [hrun]
    exact ⟨fun hgoes => leaves_of_act hgoes (if_pos hno) rfl, fun hgoes => leaves_of_act hgoes (if_pos hno) rfl⟩

end Sys2Proof.Proofs
end

section
/-! The impedance engine: segments, integrations, and PLAN_COMMIT (R233, R235 to R237, R244, R245). -/

namespace Sys2Proof.Laws

open Sys2Proof Sys2Proof.Machine

theorem QueueOnly.eis {s t : State} (h : QueueOnly s t) : t.eis = s.eis := by
  obtain ⟨rg, rc, pp, mm, me, qs, ou, rfl, -⟩ := h
  rfl

/-! ### What EIS shows -/

theorem flag_withEis (s : State) (x : EisSt) (f : Fld) : flag { s with eis := x } f = flag s f := rfl

/-- The fields that follow EIS's state (R247). -/
def eisShown : List Fld :=
  [R.EIS_STATUS_MODE, R.EIS_FS_RATE, R.EIS_AMP_PK_MA, R.EIS_STATUS_PLAN_OK, R.EIS_STATUS_PENDING, R.EIS_STATUS_REF_OK, R.EIS_SEG_DONE, R.EIS_SEG_NSEG,
    R.EIS_S_FIRST_SNUM, R.EIS_PLAN_ID_ID]

theorem eisShow_eis (s : State) : (eisShow s).eis = s.eis := rfl
theorem eisShow_est (s : State) : (eisShow s).est = s.est := rfl

theorem eisTake_eis (s : State) (p : List Byte) (t : Option (List Byte)) (b : Bool) : (eisTake s p t b).eis = (eisPlan s (some p) t b).eis := by
  unfold eisTake
  rw [eisShow_eis]
  split
  · exact cfgStore_eis_eq _ _
  · rfl

theorem eisComDone_keeps (s : State) (first : Option Nat) :
    (eisComDone s first).eis.on = s.eis.on ∧ (eisComDone s first).eis.plan = s.eis.plan := by
  unfold eisComDone
  split
  · exact ⟨rfl, rfl⟩
  · rw [(queueOnly_finishEntry _ (by decide) _ _ _ _).eis]
    exact ⟨rfl, rfl⟩

section
variable {f : Fld} (hf : ∀ g ∈ eisShown, Apart g f)
include hf

theorem flag_eisShow_ne (s : State) : flag (eisShow s) f = flag s f := by
  unfold eisShow
  rw [flag_wr_ne _ _ _ _ (hf _ (by simp [eisShown])), flag_wr_ne _ _ _ _ (hf _ (by simp [eisShown])), flag_wr_ne _ _ _ _ (hf _ (by simp [eisShown])),
    flag_wr_ne _ _ _ _ (hf _ (by simp [eisShown])), flag_put_ne _ _ _ _ (hf _ (by simp [eisShown])), flag_put_ne _ _ _ _ (hf _ (by simp [eisShown])),
    flag_put_ne _ _ _ _ (hf _ (by simp [eisShown])), flag_wr_ne _ _ _ _ (hf _ (by simp [eisShown])), flag_wr_ne _ _ _ _ (hf _ (by simp [eisShown])),
    flag_wr_ne _ _ _ _ (hf _ (by simp [eisShown]))]

variable (hrec : OffRec f.addr) (hstor : f.addr ≠ R.STOR_STATUS) (hqueue : OffQueue f.addr)

include hrec hstor in
theorem flag_eisTake (s : State) (p : List Byte) (t : Option (List Byte)) (b : Bool) : flag (eisTake s p t b) f = flag s f := by
  unfold eisTake
  rw [flag_eisShow_ne hf]
  split
  · rw [flag_cfgStore _ _ _ hrec hstor]
    exact flag_congr rfl f
  · exact flag_congr rfl f

omit hf in
include hqueue in
theorem flag_eisComDone (s : State) (first : Option Nat) : flag (eisComDone s first) f = flag s f := by
  unfold eisComDone
  split
  · rfl
  · exact ((queueOnly_finishEntry _ (by decide) _ _ _ _).flag f hqueue).trans (flag_congr rfl f)

include hrec hstor hqueue in
theorem flag_eisCommitNow (s : State) : flag (eisCommitNow s) f = flag s f := by
  have hbound : flag (cfgBoundary s (itemKey 18 1)) f = flag s f := flag_congr (cfgBoundary_regs s _) f
  unfold eisCommitNow
  dsimp only
  split
  · rw [flag_eisShow_ne hf, hbound]
  · rename_i p t b hpend
    have htake : flag { eisTake (cfgBoundary s (itemKey 18 1)) p t b with
        eis := { (eisTake (cfgBoundary s (itemKey 18 1)) p t b).eis with comDue := true } } f = flag s f := by
      rw [flag_withEis, flag_eisTake hf hrec hstor, hbound]
    split
    · exact htake
    · exact (flag_eisComDone hqueue _ _).trans htake

omit hf in
include hrec hqueue in
theorem flag_eisWrite (s : State) (bs : List Byte) (hcnt : Apart R.EIS_RESULT_LOST_CNT_COUNT f) (hlost : Apart R.EIS_ERR_LOST f) :
    flag (eisWrite s bs) f = flag s f := by
  unfold eisWrite
  rcases queueOnly_streamOr s (qp := 19) (by decide) bs (fun s => errRise (bump s R.EIS_RESULT_LOST_CNT_COUNT) R.EIS_ERR_LOST 0 0) with h | ⟨u, hu, h⟩
  · exact h.flag f hqueue
  · rw [h, flag_errRise_ne _ _ _ _ _ hrec hlost, flag_bump_ne _ _ _ hcnt]
    exact hu.flag f hqueue

end

/-! ### Segments -/

section
variable {s : State} {p : List Byte} (hplan : s.eis.plan = some p) (hdue : s.eis.segDue = true)
include hplan hdue

/-- A segment dropped: too many substitutes, or no sample. -/
theorem eisSegEnd_dropped (hbad : s.eis.i0 = none ∨ cfgU s 18 1 3 1 * planN p < 1000 * s.eis.iSubs) :
    (eisSegEnd s).eis.segDue = false ∧ (eisSegEnd s).eis.segOn = false ∧ (eisSegEnd s).eis.i0 = none ∧ (eisSegEnd s).eis.iSubs = 0
    ∧ (eisSegEnd s).eis.iAcc = List.replicate (planNpt p) (0, 0) ∧ (eisSegEnd s).est = s.est
    ∧ (eisSegEnd s).eis.iKept = s.eis.iKept ∧ (eisSegEnd s).eis.absent = s.eis.absent + 1 := by
  have hcond : (s.eis.i0.isNone || decide (cfgU s 18 1 3 1 * planN p < 1000 * s.eis.iSubs)) = true := by
    rcases hbad with h | h <;> simp [h]
  unfold eisSegEnd
  rw [hplan]
  dsimp only
  rw [if_neg (by simp [hdue]), if_pos hcond]
  exact ⟨rfl, rfl, rfl, rfl, rfl, rfl, rfl, rfl⟩

/-- A segment kept joins the integration. -/
theorem eisSegEnd_kept (hsample : s.eis.i0 ≠ none) (hfew : 1000 * s.eis.iSubs ≤ cfgU s 18 1 3 1 * planN p) :
    (eisSegEnd s).eis.segDue = false ∧ (eisSegEnd s).eis.segOn = false ∧ (eisSegEnd s).eis.i0 = none ∧ (eisSegEnd s).eis.iSubs = 0
    ∧ (eisSegEnd s).eis.iAcc = List.replicate (planNpt p) (0, 0) ∧ (eisSegEnd s).est = s.est
    ∧ (eisSegEnd s).eis.iKept = s.eis.iKept + 1 ∧ (eisSegEnd s).eis.absent = s.eis.absent
    ∧ (eisSegEnd s).eis.intDue = decide (eisNseg s ≤ s.eis.iKept + 1) := by
  have hcond : ¬ (s.eis.i0.isNone || decide (cfgU s 18 1 3 1 * planN p < 1000 * s.eis.iSubs)) = true := by
    simp [Option.isNone_iff_eq_none, hsample]
    omega
  unfold eisSegEnd
  rw [hplan]
  dsimp only
  rw [if_neg (by simp [hdue]), if_neg hcond]
  exact ⟨rfl, rfl, rfl, rfl, rfl, rfl, rfl, rfl, rfl⟩

end

theorem eisSegEnd_notDue {s : State} (hdue : s.eis.segDue = false) : eisSegEnd s = s := by
  unfold eisSegEnd
  split
  · rfl
  · exact if_pos (by simp [hdue])

theorem eisIntEnd_notDue {s : State} (hdue : s.eis.intDue = false) : eisIntEnd s = s := by
  unfold eisIntEnd
  split
  · rfl
  · exact if_pos (by simp [hdue])

/-! ### A hold that lasts too long -/

/-- The integration's record written as abandoned, with what waited for its end in force. -/
def abandonWrite (s : State) (p : List Byte) : State :=
  let s1 := errRise (bump (bump s R.EIS_INT_CNT_COUNT) R.EIS_ABANDON_CNT_COUNT) R.EIS_ERR_ABANDONED 0 0
  eisOver (eisWrite s1 (eisRecord s1 p true []))

theorem eisAbandon_eq {s : State} {p : List Byte} (hplan : s.eis.plan = some p) (hon : s.eis.on = true) :
    eisAbandon s = { abandonWrite s p with eis := { (abandonWrite s p).eis with waitExc := true } } := by
  unfold eisAbandon abandonWrite
  rw [hplan]
  dsimp only
  rw [if_neg (by simp [hon])]

theorem flag_abandonWrite_held (s : State) (p : List Byte) : flag (abandonWrite s p) R.EIS_STATUS_HELD = false := by
  unfold abandonWrite eisOver
  rw [flag_eisCommitNow (by decide) (by decide) (by decide) (by decide)]
  exact flag_put_self _ _ _ (by decide) (by decide)

theorem flag_abandonWrite_noted (s : State) (p : List Byte) : flag (abandonWrite s p) R.EIS_ERR_ABANDONED = true := by
  unfold abandonWrite eisOver
  rw [flag_eisCommitNow (by decide) (by decide) (by decide) (by decide), flag_put_ne _ _ _ _ (by decide)]
  rw [flag_withEis, flag_eisWrite (by decide) (by decide) _ _ (by decide) (by decide)]
  exact flag_errRise_self _ _ _ _ (by decide) (by decide) (by decide)

/-! ### PLAN_COMMIT -/

section
variable {s : State} {e : Entry} (hstor : storTakes s = true)
include hstor

theorem eisPlanCommit_unstaged (hno : cfgItem s 18 2 = []) : eisPlanCommit e s = (s, .done 0x43 0 0) := by
  unfold eisPlanCommit
  simp [hstor, hno, failR]

variable (hplan : cfgItem s 18 2 ≠ [])
include hplan

theorem eisPlanCommit_refused {i : Nat} (hbad : planRefused s (cfgItem s 18 2) = some i) :
    eisPlanCommit e s = (errRise s R.EIS_ERR_PLAN_REJ 0 0, .done 0x41 0 i) := by
  unfold eisPlanCommit
  simp [hstor, isEmpty_eq_false hplan, hbad, failX]

variable (hgood : planRefused s (cfgItem s 18 2) = none)
include hgood

theorem eisPlanCommit_badTable (htable : cfgItem s 18 3 ≠ []) (hbad : phaseOk (cfgItem s 18 3) = false) :
    eisPlanCommit e s = (errRise s R.EIS_ERR_TABLE_REJ 0 0, .done 0x42 0 0) := by
  unfold eisPlanCommit
  simp [hstor, isEmpty_eq_false hplan, hgood, isEmpty_eq_false htable, hbad, failR]

theorem eisPlanCommit_takes (htable : cfgItem s 18 3 = [] ∨ phaseOk (cfgItem s 18 3) = true) :
    eisPlanCommit e s = planTake s (cfgItem s 18 2) (if cfgItem s 18 3 = [] then none else some (cfgItem s 18 3)) (bitOf e.arg1 0) := by
  have hok : ¬ (!(cfgItem s 18 3).isEmpty && !phaseOk (cfgItem s 18 3)) = true := by
    rcases htable with h | h <;> simp [h]
  unfold eisPlanCommit
  simp only [hstor, isEmpty_eq_false hplan, hgood, Bool.not_true, Bool.false_eq_true, if_false, if_neg hok, List.isEmpty_iff]

end

/-- What an accepted commit finds: an earlier one that still waited has completed. -/
def planFound (s : State) : State := eisComDone (if s.eis.pend.isSome then finishEntry s 18 (Entry.runs 0x40) 0x44 0 0 else s) none

theorem planFound_keeps (s : State) : (planFound s).eis.on = s.eis.on ∧ (planFound s).eis.plan = s.eis.plan := by
  obtain ⟨hon, hplan⟩ := eisComDone_keeps (if s.eis.pend.isSome then finishEntry s 18 (Entry.runs 0x40) 0x44 0 0 else s) none
  have heis : (if s.eis.pend.isSome then finishEntry s 18 (Entry.runs 0x40) 0x44 0 0 else s).eis = s.eis := by
    split
    · exact (queueOnly_finishEntry _ (by decide) _ _ _ _).eis
    · rfl
  unfold planFound
  rw [hon, hplan, heis]
  exact ⟨rfl, rfl⟩

/-- A commit in force at once. -/
def planNow (s : State) (p : List Byte) (t : Option (List Byte)) (b : Bool) : State :=
  eisTake { planFound s with eis := { (planFound s).eis with pend := none } } p t b

section
variable {s : State} {p : List Byte} {t : Option (List Byte)} {b : Bool}

theorem planTake_waits (hrun : flag (planFound s) R.EIS_STATUS_RUN = true) (hon : s.eis.on = true) :
    planTake s p t b = (eisShow { planFound s with eis := { (planFound s).eis with pend := some (p, t, b) } }, .running 0) := by
  have hcond : (flag (planFound s) R.EIS_STATUS_RUN && (planFound s).eis.on) = true := by rw [hrun, (planFound_keeps s).1, hon]; rfl
  exact if_pos hcond

theorem planTake_now (hfree : flag (planFound s) R.EIS_STATUS_RUN = false ∨ s.eis.on = false) :
    planTake s p t b = if eisMay (planNow s p t b) then ({ planNow s p t b with eis := { (planNow s p t b).eis with comDue := true } }, .running 0)
      else ((fresh (planNow s p t b)).2, .done 0 ((fresh (planNow s p t b)).1 % 2 ^ 32) 0) := by
  have hcond : ¬ (flag (planFound s) R.EIS_STATUS_RUN && (planFound s).eis.on) = true := by
    rw [(planFound_keeps s).1]
    rcases hfree with h | h <;> simp [h]
  exact if_neg hcond

theorem fresh_eis (s : State) : (fresh s).2.eis = s.eis := rfl

/-- A commit in force whose entry waits for its first integration. -/
def comWaits (s : State) : State := { s with eis := { s.eis with comDue := true } }

theorem comWaits_eis (s : State) : (comWaits s).eis.plan = s.eis.plan ∧ (comWaits s).eis.pend = s.eis.pend := ⟨rfl, rfl⟩

theorem planNow_eis : (planNow s p t b).eis.plan = some p ∧ (planNow s p t b).eis.pend = none := by
  unfold planNow
  rw [eisTake_eis]
  exact ⟨rfl, rfl⟩

end

/-! ### The history of EIS -/

theorem head?_histAdd {s : State} {kind : Nat} {bs : List Byte} (h : bs.length ≤ histMax) :
    (histAdd s kind bs).nv.hist.head? = some { kind := kind, data := bs } := by
  unfold histAdd
  dsimp only
  unfold histKeep
  rw [if_pos h]
  rfl

end Sys2Proof.Laws

namespace Sys2Proof.Proofs

open Sys2Proof Sys2Proof.Machine Sys2Proof.Laws

/-- Settles O38: segments by whether they are kept, a commit by whether an integration runs and whether one can begin. -/
theorem eisRowsAct : Obligations.EisRowsAct := by
  unfold Obligations.EisRowsAct
  refine ⟨?segment, fun s hdue => congrArg Host.Outcome.next (eisSegEnd_notDue hdue), fun s _ _ => ⟨_, rfl, rfl⟩,
    fun s hdue => congrArg Host.Outcome.next (eisIntEnd_notDue hdue), ?hold, fun s hno => congrArg Host.Outcome.next (if_neg (by simp [hno])),
    ?commit, ?refused, ?badTable, ?unstaged, ?storRefuses, ?history, ?noHistory⟩
  case segment =>
    intro s p hplan hdue
    by_cases hbad : s.eis.i0 = none ∨ cfgU s 18 1 3 1 * planN p < 1000 * s.eis.iSubs
    · obtain ⟨h1, h2, h3, h4, h5, h6, hkept, habsent⟩ := eisSegEnd_dropped hplan hdue hbad
      refine ⟨_, rfl, rfl, h1, h2, h3, h4, h5, h6, fun _ => ⟨hkept, habsent⟩, fun hsample hfew => ?_⟩
      rcases hbad with h | h
      · exact absurd h hsample
      · omega
    · obtain ⟨hsample, hfew⟩ := not_or.1 hbad
      obtain ⟨h1, h2, h3, h4, h5, h6, hkept, habsent, hint⟩ := eisSegEnd_kept hplan hdue hsample (by omega)
      exact ⟨_, rfl, rfl, h1, h2, h3, h4, h5, h6, fun h => absurd h hbad, fun _ _ => ⟨hkept, habsent, hint⟩⟩
  case hold =>
    intro s hheld hon hplan
    obtain ⟨p, hp⟩ := Option.isSome_iff_exists.1 hplan
    refine ⟨_, congrArg Host.Outcome.next (if_pos hheld), rfl, ?_⟩
    rw [eisAbandon_eq hp hon]
    exact ⟨rfl, (flag_withEis _ _ _).trans (flag_abandonWrite_held s p), (flag_withEis _ _ _).trans (flag_abandonWrite_noted s p)⟩
  case commit =>
    intro s e hgoes hstor hplan hgood htable tbl u
    have hu : u = planFound s := rfl
    clear_value u
    subst hu
    have hact := eisPlanCommit_takes (e := e) hstor hplan hgood htable
    constructor
    · intro hrun hon
      exact leaves_of_act hgoes (hact.trans (planTake_waits (s := s) hrun hon)) ⟨by rw [eisShow_eis], by rw [eisShow_eis]; exact (planFound_keeps s).2⟩
    · intro hfree v
      have hv : v = planNow s (cfgItem s 18 2) tbl (bitOf e.arg1 0) := rfl
      obtain ⟨hplan', hpend'⟩ := planNow_eis (s := s) (p := cfgItem s 18 2) (t := tbl) (b := bitOf e.arg1 0)
      have htake : eisPlanCommit e s = _ := hact.trans (planTake_now (s := s) hfree)
      rw [← hv] at hplan' hpend' htake
      clear_value v
      constructor
      · intro hmay
        rw [if_pos hmay] at htake
        exact leaves_of_act hgoes htake ⟨rfl, (comWaits_eis v).1.trans hplan', (comWaits_eis v).2.trans hpend'⟩
      · intro hno
        rw [if_neg (by simp [hno])] at htake
        exact leaves_of_act hgoes htake ⟨rfl, by rw [fresh_eis, hplan'], by rw [fresh_eis, hpend']⟩
  case refused =>
    exact fun s e i hgoes hstor hplan hbad => leaves_of_act hgoes (eisPlanCommit_refused hstor hplan hbad)
      ⟨errRise_eis_eq .., flag_errRise_self _ _ _ _ (by decide) (by decide) (by decide)⟩
  case badTable =>
    exact fun s e hgoes hstor hplan hgood htable hbad => leaves_of_act hgoes (eisPlanCommit_badTable hstor hplan hgood htable hbad)
      ⟨errRise_eis_eq .., flag_errRise_self _ _ _ _ (by decide) (by decide) (by decide)⟩
  case unstaged => exact fun s e hgoes hstor hno => leaves_of_act hgoes (eisPlanCommit_unstaged hstor hno) rfl
  case storRefuses =>
    intro s e hgoes hstor
    have hno : (!storTakes s) = true := by simp [hstor]
    exact leaves_of_act hgoes (if_pos hno) rfl
  case history =>
    exact fun s hrun hmin hlatest hstor => ⟨_, congrArg Host.Outcome.next (if_pos (by simp [hrun, hmin, hlatest, hstor])), rfl, head?_histAdd⟩
  case noHistory =>
    intro s hno
    refine congrArg Host.Outcome.next (if_neg ?_)
    rcases hno with h | h | h | h <;> simp [h]

end Sys2Proof.Proofs
end

section
/-! THERM's rounds and actuators, the heater relay, and the limit of a direction (R252, R261 to R263, R280). -/

namespace Sys2Proof.Laws

open Sys2Proof Sys2Proof.Machine

/-! ### Rounds and actuators -/

/-- A fast round without FAST leaves THERM as it is. -/
theorem thermRound_notFast {s : State} (x : ThermIn) (hfast : flag s R.THERM_STATUS_FAST = false) : thermRound s x false = s := by
  unfold thermRound
  split
  · rfl
  · split
    · rfl
    · exact if_pos (by simp [hfast])

theorem flag_actShow_ne (s : State) (f : Fld) (h1 : Apart R.THERM_STATUS_COOL_FAULT f) (h2 : Apart R.THERM_ACT_DRIVEN f) : flag (actShow s) f = flag s f := by
  unfold actShow
  dsimp only
  rw [flag_put_ne _ _ _ _ h1, flag_wr_ne _ _ _ _ h2]
  exact flag_congr rfl f

theorem bitIn_actShow_fault (s : State) (a : Nat) : bitIn (actShow s) R.THERM_ACT_FAULT a = bitIn s R.THERM_ACT_FAULT a := by
  unfold actShow bitIn
  dsimp only
  rw [rd_put_ne _ _ _ _ (by decide), rd_wr_ne _ _ _ _ (by decide)]
  exact congrArg (Nat.testBit · a) (rd_congr rfl _)

section
variable {s : State} {a : Nat} (ha : a < 3)
include ha

theorem bitIn_putBit_actFault (b : Bool) : bitIn (putBit s R.THERM_ACT_FAULT a b) R.THERM_ACT_FAULT a = b :=
  bitIn_putBit_self _ _ _ _ (by decide) (lt_of_lt_of_le ha (by decide))

theorem execActFault_slow (hslow : actSlow s a = true) (hno : bitIn s R.THERM_ACT_FAULT a = false) :
    execActFault a s = .next (actShow (errRise (putBit s R.THERM_ACT_FAULT a true) R.THERM_ERR_ACT_FAULT a 0)) := by
  unfold execActFault
  rw [if_neg (by omega), if_pos (by simp [hslow, hno])]

theorem execActFault_well (hwell : actSlow s a = false) : execActFault a s = .next (actShow (putBit s R.THERM_ACT_FAULT a false)) := by
  unfold execActFault
  rw [if_neg (by omega), if_neg (by simp [hwell]), if_pos (by simp [hwell])]

end

/-! ### The heater relay -/

section
variable {s : State} (hdriven : actDriven s 3 = true)
include hdriven

theorem heaterFollow_dwell (hdwell : s.therm.dwell = true) : heaterFollow s = s := by
  unfold heaterFollow
  simp [hdriven, hdwell]

variable (hfree : s.therm.dwell = false)
include hfree

theorem heaterFollow_on (hoff : s.therm.heater = false) (hduty : 5000 ≤ actDuty s 3) :
    heaterFollow s = { s with therm := { s.therm with heater := true, dwell := true } } := by
  unfold heaterFollow
  simp [hdriven, hfree, hoff, hduty]

theorem heaterFollow_off (hon : s.therm.heater = true) (hduty : actDuty s 3 ≤ 2500) :
    heaterFollow s = { s with therm := { s.therm with heater := false, dwell := true } } := by
  unfold heaterFollow
  simp [hdriven, hfree, hon, hduty]

theorem heaterFollow_staysOff (hoff : s.therm.heater = false) (hduty : actDuty s 3 < 5000) : heaterFollow s = s := by
  unfold heaterFollow
  simp [hdriven, hfree, hoff, hduty]

theorem heaterFollow_staysOn (hon : s.therm.heater = true) (hduty : 2500 < actDuty s 3) : heaterFollow s = s := by
  unfold heaterFollow
  simp [hdriven, hfree, hon, hduty]

end

theorem heaterFollow_released {s : State} (hno : actDriven s 3 = false) :
    heaterFollow s = { s with therm := { s.therm with heater := false, dwell := s.therm.dwell || s.therm.heater } } := if_pos (by simp [hno])

/-! ### The limit of a direction -/

/-- A term is the least of a list, at the lowest code that has its value. -/
def LeastTerm (m : Nat × Nat) (l : List (Nat × Nat)) : Prop := m ∈ l ∧ ∀ x ∈ l, m.1 ≤ x.1 ∧ (x.1 = m.1 → m.2 ≤ x.2)

/-- Over terms of rising codes, the fold keeps the first of the least. -/
theorem leastTerm_foldl (t : List (Nat × Nat)) (m : Nat × Nat) (hrise : (m :: t).Pairwise (fun x y => x.2 ≤ y.2)) :
    LeastTerm (t.foldl (fun m y => if y.1 < m.1 then y else m) m) (m :: t) := by
  induction t generalizing m with
  | nil =>
    refine ⟨by simp, fun x hx => ?_⟩
    obtain rfl : x = m := by simpa using hx
    exact ⟨le_rfl, fun _ => le_rfl⟩
  | cons y t ih =>
    obtain ⟨hm, hy, ht⟩ := by simpa only [List.pairwise_cons] using hrise
    rw [List.foldl_cons]
    by_cases hlt : y.1 < m.1
    · rw [if_pos hlt]
      obtain ⟨hmem, hleast⟩ := ih y (List.pairwise_cons.2 ⟨hy, ht⟩)
      refine ⟨List.mem_cons_of_mem _ hmem, fun x hx => ?_⟩
      rcases List.mem_cons.1 hx with rfl | hx
      · have := (hleast y (by simp)).1
        exact ⟨by omega, fun _ => by omega⟩
      · exact hleast x hx
    · rw [if_neg hlt]
      obtain ⟨hmem, hleast⟩ := ih m (List.pairwise_cons.2 ⟨fun x hx => hm x (List.mem_cons_of_mem _ hx), ht⟩)
      refine ⟨?_, fun x hx => ?_⟩
      · rcases List.mem_cons.1 hmem with h | h
        · rw [h]
          simp
        · exact List.mem_cons_of_mem _ (List.mem_cons_of_mem _ h)
      · have hleastM := hleast m (by simp)
        rcases List.mem_cons.1 hx with rfl | hx
        · exact hleastM
        · rcases List.mem_cons.1 hx with rfl | hx
          · have hcode := hm x (by simp)
            exact ⟨by omega, fun he => (hleastM.2 (by omega)).trans hcode⟩
          · exact hleast x (List.mem_cons_of_mem _ hx)

theorem leastTerm_limMin {l : List (Nat × Nat)} (hne : l ≠ []) (hrise : l.Pairwise (fun x y => x.2 ≤ y.2)) : LeastTerm (limMin l) l := by
  cases l with
  | nil => exact absurd rfl hne
  | cons x t => exact leastTerm_foldl t x hrise

theorem limTerms_rise (s : State) (chg : Bool) : limTerms s chg ≠ [] ∧ (limTerms s chg).Pairwise (fun x y => x.2 ≤ y.2) := by
  unfold limTerms
  dsimp only
  split <;> simp

end Sys2Proof.Laws

namespace Sys2Proof.Proofs

open Sys2Proof Sys2Proof.Machine Sys2Proof.Laws

/-- Settles O39: the rounds by their definition, the actuators by whether they turn too slowly. -/
theorem thermRowsAct : Obligations.ThermRowsAct := by
  unfold Obligations.ThermRowsAct
  refine ⟨fun s x => ⟨_, rfl, rfl⟩, fun s x => ⟨_, rfl, rfl⟩, ?notFast, fun s => ⟨_, rfl, rfl⟩, ?slow, ?well⟩
  case notFast =>
    intro s x hfast
    exact ⟨_, rfl, congrArg dispRevise (thermRound_notFast x ((flag_congr rfl _).trans hfast))⟩
  case slow =>
    intro s a ha hslow hno
    refine ⟨_, execActFault_slow ha hslow hno, rfl, ?_, ?_⟩
    · rw [bitIn_actShow_fault]
      unfold bitIn
      rw [rd_errRise_ne _ _ _ _ _ (by decide) (by decide)]
      exact bitIn_putBit_actFault ha true
    · rw [flag_actShow_ne _ _ (by decide) (by decide)]
      exact flag_errRise_self _ _ _ _ (by decide) (by decide) (by decide)
  case well =>
    intro s a ha hwell
    refine ⟨_, execActFault_well ha hwell, rfl, (bitIn_actShow_fault _ _).trans (bitIn_putBit_actFault ha false), ?_⟩
    rw [flag_actShow_ne _ _ (by decide) (by decide)]
    exact flag_wr_ne _ _ _ _ (by decide)

/-- Settles O41: the relay's demand by its duty, its state and its dwell. -/
theorem heaterRelayDwells : Obligations.HeaterRelayDwells := by
  unfold Obligations.HeaterRelayDwells
  refine ⟨fun s hdriven => ⟨heaterFollow_dwell hdriven, ?on, ?off, heaterFollow_staysOff hdriven, heaterFollow_staysOn hdriven⟩, ?released⟩
  case on =>
    intro hfree hoff hduty
    rw [heaterFollow_on hdriven hfree hoff hduty]
    exact ⟨rfl, rfl⟩
  case off =>
    intro hfree hon hduty
    rw [heaterFollow_off hdriven hfree hon hduty]
    exact ⟨rfl, rfl⟩
  case released =>
    intro s hno
    rw [heaterFollow_released hno]
    exact ⟨rfl, rfl⟩

/-- Settles O44: the terms stand in the order of their codes, and the minimum keeps the first of the least. -/
theorem theLimitIsTheSmallestTerm : Obligations.TheLimitIsTheSmallestTerm := by
  unfold Obligations.TheLimitIsTheSmallestTerm
  intro s chg
  obtain ⟨hne, hrise⟩ := limTerms_rise s chg
  exact leastTerm_limMin hne hrise

end Sys2Proof.Proofs
end

section
/-! The control loops and the power stage: opening, trips, cycles and valleys (R274, R275, R281 to R283, R287). -/

namespace Sys2Proof.Laws

open Sys2Proof Sys2Proof.Machine

/-- Two fields of a register that share no bit are apart, whatever the register. -/
theorem apart_bits (a lo w lo' w' : Nat) (h : lo + w ≤ 32) (h' : lo' + w' ≤ 32) (hbits : lo + w ≤ lo' ∨ lo' + w' ≤ lo) :
    Apart ⟨a, lo, w⟩ ⟨a, lo', w'⟩ := .inr ⟨h, h', hbits⟩

/-! ### A channel's state -/

theorem rd_lcMod (s : State) (n : Nat) (f : LcSt → LcSt) (g : Fld) : rd (lcMod s n f) g = rd s g := rfl
theorem flag_lcMod (s : State) (n : Nat) (f : LcSt → LcSt) (g : Fld) : flag (lcMod s n f) g = flag s g := rfl

theorem ne_lcState_out (n : Nat) : R.LC_OUT n ≠ R.LC_STATE n := by
  simp only [R.LC_OUT, R.LC_STATE]
  omega

theorem ne_lcState_status (n : Nat) : R.CTRL_STATUS ≠ R.LC_STATE n := by
  simp only [R.CTRL_STATUS, R.LC_STATE]
  omega

theorem ne_lcOut_status (n : Nat) : R.CTRL_STATUS ≠ R.LC_OUT n := by
  simp only [R.CTRL_STATUS, R.LC_OUT]
  omega

theorem lcSt_lcPut (s : State) (n st : Nat) (hst : st < 4) : lcSt (lcPut s n st) n = st := by
  have hfits : Fits (R.LC_STATE_STATE n) := show (0 + 2 ≤ 32) by decide
  unfold lcSt lcPut putBit
  dsimp only
  rw [rd_wr_ne _ _ (R.LC_STATE_STATE n) _ (.inl (ne_lcState_status n)), rd_wr_ne _ _ (R.LC_STATE_STATE n) _ (.inl (ne_lcState_status n)),
    rd_wr_self _ _ _ hfits]
  exact Nat.mod_eq_of_lt hst

/-- A channel's state stands through writes of the other fields of its register. -/
theorem lcSt_put (s : State) (n lo : Nat) (b : Bool) (h : 2 ≤ lo) (h' : lo + 1 ≤ 32) : lcSt (put s ⟨R.LC_STATE n, lo, 1⟩ b) n = lcSt s n :=
  rd_put_ne _ _ _ _ (apart_bits _ _ _ _ _ h' (by decide) (.inr h))

theorem lcSt_wr_other (s : State) (n : Nat) (f : Fld) (v : Nat) (h : f.addr ≠ R.LC_STATE n) : lcSt (wr s f v) n = lcSt s n := rd_wr_ne _ _ _ _ (.inl h)

/-! ### Opening -/

/-- A channel open with its cause, before its output follows. -/
def lcShut (s : State) (n why : Nat) (held : Bool) : State :=
  lcMod (wr (put (put (lcPut s n lcOpenC) (R.LC_STATE_DWELL n) false) (R.LC_STATE_LIMITED n) false) (R.LC_STATE_WHY n) why) n
    (fun c => { c with dwell := false, preload := false, mir := none, held := held, failing := false })

theorem lcOpen_eq (s : State) (n why : Nat) :
    lcOpen s n why false = if n = 0 then put (wrS (lcShut s n why false) (R.LC_OUT_U n) (lcStopVal (lcShut s n why false) n)) R.CTRL_STATUS_EXC false
      else wrS (lcShut s n why false) (R.LC_OUT_U n) (lcStopVal (lcShut s n why false) n) := rfl

theorem lcSt_lcShut (s : State) (n why : Nat) (held : Bool) : lcSt (lcShut s n why held) n = lcOpenC := by
  unfold lcShut
  rw [show ∀ t f, lcSt (lcMod t n f) n = lcSt t n from fun _ _ => rfl]
  have hwhy : ∀ t, lcSt (wr t (R.LC_STATE_WHY n) why) n = lcSt t n := fun t => rd_wr_ne _ _ _ _ (apart_bits _ _ _ _ _ (by decide) (by decide) (by decide))
  rw [hwhy, show R.LC_STATE_LIMITED n = ⟨R.LC_STATE n, 4, 1⟩ from rfl, lcSt_put _ _ _ _ (by decide) (by decide),
    show R.LC_STATE_DWELL n = ⟨R.LC_STATE n, 5, 1⟩ from rfl, lcSt_put _ _ _ _ (by decide) (by decide), lcSt_lcPut _ _ _ (by decide)]

theorem rd_lcShut_why (s : State) (n : Nat) (held : Bool) {why : Nat} (hwhy : why < 256) : rd (lcShut s n why held) (R.LC_STATE_WHY n) = why := by
  unfold lcShut
  rw [rd_lcMod, rd_wr_self _ _ _ (show (8 + 8 ≤ 32) by decide)]
  exact Nat.mod_eq_of_lt hwhy

/-- Shutting writes LCn_STATE and CTRL.STATUS alone. -/
theorem rd_lcShut_ne (s : State) (n why : Nat) (held : Bool) (f : Fld) (h : R.LC_STATE n ≠ f.addr) (h' : R.CTRL_STATUS ≠ f.addr) :
    rd (lcShut s n why held) f = rd s f := by
  unfold lcShut lcPut putBit
  rw [rd_lcMod, rd_wr_ne _ _ _ _ (.inl h), rd_put_ne _ _ _ _ (.inl h), rd_put_ne _ _ _ _ (.inl h), rd_wr_ne _ _ _ _ (.inl h'), rd_wr_ne _ _ _ _ (.inl h'),
    rd_wr_ne _ _ _ _ (.inl h)]

theorem lcStopVal_lcShut (s : State) (n why : Nat) (held : Bool) : lcStopVal (lcShut s n why held) n = lcStopVal s n := by
  unfold lcStopVal rdS
  rw [rd_lcShut_ne s n why held (R.LC_OPEN_OUT_OUT n) (by simp only [R.LC_STATE, R.LC_OPEN_OUT_OUT, R.LC_OPEN_OUT]; omega)
    (by simp only [R.CTRL_STATUS, R.LC_OPEN_OUT_OUT, R.LC_OPEN_OUT]; omega)]

/-- An open channel shows its cause and its stop value. -/
theorem lcOpen_shows (s u : State) (n : Nat) {why : Nat} (hwhy : why < 256) : lcSt (lcOpen s n why false) n = lcOpenC
    ∧ rd (lcOpen s n why false) (R.LC_STATE_WHY n) = why
    ∧ rdS (lcOpen s n why false) (R.LC_OUT_U n) = rdS (wrS u (R.LC_OUT_U n) (lcStopVal s n)) (R.LC_OUT_U n) := by
  have hfits : Fits (R.LC_OUT_U n) := show (0 + 32 ≤ 32) by decide
  have hst : lcSt (wrS (lcShut s n why false) (R.LC_OUT_U n) (lcStopVal (lcShut s n why false) n)) n = lcOpenC :=
    (lcSt_wr_other _ _ _ _ (ne_lcState_out n)).trans (lcSt_lcShut s n why false)
  have hrd : rd (wrS (lcShut s n why false) (R.LC_OUT_U n) (lcStopVal (lcShut s n why false) n)) (R.LC_STATE_WHY n) = why :=
    (rd_wrS_ne _ _ _ _ (.inl (ne_lcState_out n))).trans (rd_lcShut_why s n false hwhy)
  have hout : rdS (wrS (lcShut s n why false) (R.LC_OUT_U n) (lcStopVal (lcShut s n why false) n)) (R.LC_OUT_U n)
      = rdS (wrS u (R.LC_OUT_U n) (lcStopVal s n)) (R.LC_OUT_U n) := by
    unfold rdS wrS
    rw [rd_wr_self _ _ _ hfits, rd_wr_self _ _ _ hfits, lcStopVal_lcShut]
  rw [lcOpen_eq]
  split
  · refine ⟨(lcSt_wr_other _ _ _ _ (ne_lcState_status n)).trans hst, (rd_put_ne _ _ _ _ (.inl (ne_lcState_status n))).trans hrd, ?_⟩
    unfold rdS at hout ⊢
    rw [rd_put_ne _ _ _ _ (.inl (ne_lcOut_status n))]
    exact hout
  · exact ⟨hst, hrd, hout⟩

/-! ### What opening leaves of the power stage -/

/-- No channel's register is one of PWM's status. -/
theorem flag_lcOpen_psFault (s : State) (n why : Nat) (held : Bool) : flag (lcOpen s n why held) R.PWM_STATUS_PS_FAULT = flag s R.PWM_STATUS_PS_FAULT := by
  have hstate : R.LC_STATE n ≠ R.PWM_STATUS_PS_FAULT.addr := by simp only [R.LC_STATE, R.PWM_STATUS_PS_FAULT, R.PWM_STATUS]; omega
  have hout : R.LC_OUT n ≠ R.PWM_STATUS_PS_FAULT.addr := by simp only [R.LC_OUT, R.PWM_STATUS_PS_FAULT, R.PWM_STATUS]; omega
  have hshut : flag (lcShut s n why held) R.PWM_STATUS_PS_FAULT = flag s R.PWM_STATUS_PS_FAULT := by
    unfold flag
    rw [rd_lcShut_ne _ _ _ _ _ hstate (by decide)]
  have hfollow : ∀ v, flag (wrS (lcShut s n why held) (R.LC_OUT_U n) v) R.PWM_STATUS_PS_FAULT = flag s R.PWM_STATUS_PS_FAULT :=
    fun v => (flag_wr_ne _ _ _ _ (.inl hout)).trans hshut
  unfold lcOpen
  dsimp only
  split
  · rw [flag_put_ne _ _ _ _ (by decide)]
    split
    · exact hshut
    · exact hfollow _
  · split
    · exact hshut
    · exact hfollow _

/-- One channel of LC0's chain opens where it regulates. -/
def chainStep (why : Nat) (r : Bool × State) (n : Nat) : Bool × State := if lcRuns r.2 n then (true, lcOpen r.2 n why false) else r

theorem lcOpenChain_eq (s : State) (why : Nat) : lcOpenChain s why false = ((0 :: lcChain s 8 0).eraseDups).foldl (chainStep why) (false, s) := by
  unfold lcOpenChain chainStep
  simp only [Bool.false_eq_true, if_false]

theorem flag_chainSteps_psFault (why : Nat) (l : List Nat) (r : Bool × State) :
    flag (l.foldl (chainStep why) r).2 R.PWM_STATUS_PS_FAULT = flag r.2 R.PWM_STATUS_PS_FAULT := by
  induction l generalizing r with
  | nil => rfl
  | cons n l ih =>
    rw [List.foldl_cons, ih]
    unfold chainStep
    split
    · exact flag_lcOpen_psFault _ _ _ _
    · rfl

theorem flag_lcOpenChain_psFault (s : State) (why : Nat) :
    flag (lcOpenChain s why false).2 R.PWM_STATUS_PS_FAULT = flag s R.PWM_STATUS_PS_FAULT := by
  rw [lcOpenChain_eq]
  exact flag_chainSteps_psFault why _ (false, s)

theorem recOnly_pepperFollow (s : State) : RecOnly s (pepperFollow s) := by
  have hfold : ∀ (l : List Nat), (∀ k ∈ l, k < 8) → ∀ u, RecOnly u (l.foldl (fun s k => if pepperClassS s k then pepperDisarm s k true else s) u) := by
    intro l
    induction l with
    | nil => exact fun _ u => RecOnly.refl u
    | cons k l ih =>
      intro hl u
      refine RecOnly.trans ?_ (ih (fun m hm => hl m (by simp [hm])) _)
      dsimp only
      split
      · exact recOnly_pepperDisarm u (hl k (by simp)) true
      · exact RecOnly.refl u
  unfold pepperFollow
  split
  · exact RecOnly.refl s
  · exact hfold _ (fun k hk => by simpa using hk) s

theorem pwmShow_ctrl (s : State) : (pwmShow s).ctrl = s.ctrl := (recOnly_pepperFollow _).ctrl

theorem flag_pwmShow_ne (s : State) (f : Fld) (hrec : OffRec f.addr) (h : Apart R.PWM_STATUS_PS_EN f) (h' : Apart R.PWM_STATUS_DRIVEN f) :
    flag (pwmShow s) f = flag s f := by
  unfold pwmShow
  dsimp only
  rw [(recOnly_pepperFollow _).flag f hrec, flag_put_ne _ _ _ _ h, flag_put_ne _ _ _ _ h']

theorem flag_pwmShow_driven (s : State) : flag (pwmShow s) R.PWM_STATUS_DRIVEN = s.ctrl.legOn.any id := by
  unfold pwmShow
  dsimp only
  rw [(recOnly_pepperFollow _).flag _ (by decide), flag_put_ne _ _ _ _ (by decide), flag_put_self _ _ _ (by decide) (by decide)]

/-- A power stage in fault has its enable off. -/
theorem flag_pwmShow_en {s : State} (hfault : flag s R.PWM_STATUS_PS_FAULT = true) : flag (pwmShow s) R.PWM_STATUS_PS_EN = false := by
  unfold pwmShow
  dsimp only
  rw [(recOnly_pepperFollow _).flag _ (by decide), flag_put_self _ _ _ (by decide) (by decide), hfault]
  simp

/-! ### Every line off -/

theorem pwmOff_legOn (s : State) : (pwmOff s).ctrl.legOn = List.replicate 4 false := by
  unfold pwmOff
  rw [pwmShow_ctrl]

theorem flag_pwmOff_driven (s : State) : flag (pwmOff s) R.PWM_STATUS_DRIVEN = false := by
  unfold pwmOff
  rw [flag_pwmShow_driven]
  rfl

theorem flag_pwmOff_psFault (s : State) : flag (pwmOff s) R.PWM_STATUS_PS_FAULT = flag s R.PWM_STATUS_PS_FAULT := by
  unfold pwmOff
  rw [flag_pwmShow_ne _ _ (by decide) (by decide) (by decide)]
  exact flag_congr rfl _

theorem flag_pwmOff_en {s : State} (hfault : flag s R.PWM_STATUS_PS_FAULT = true) : flag (pwmOff s) R.PWM_STATUS_PS_EN = false := by
  unfold pwmOff
  exact flag_pwmShow_en ((flag_congr rfl _).trans hfault)

/-- A trip for a fault of the power stage: every line off, its enable off, and both blocks' errors noted. -/
theorem psTrip_fault {s : State} (hfault : flag s R.PWM_STATUS_PS_FAULT = true) (why leg : Nat) :
    flag (psTrip s why R.CTRL_ERR_PS_FAULT R.PWM_ERR_PS_FAULT leg) R.PWM_STATUS_PS_FAULT = true
    ∧ flag (psTrip s why R.CTRL_ERR_PS_FAULT R.PWM_ERR_PS_FAULT leg) R.PWM_STATUS_DRIVEN = false
    ∧ flag (psTrip s why R.CTRL_ERR_PS_FAULT R.PWM_ERR_PS_FAULT leg) R.PWM_STATUS_PS_EN = false
    ∧ (psTrip s why R.CTRL_ERR_PS_FAULT R.PWM_ERR_PS_FAULT leg).ctrl.legOn = List.replicate 4 false
    ∧ flag (psTrip s why R.CTRL_ERR_PS_FAULT R.PWM_ERR_PS_FAULT leg) R.CTRL_ERR_PS_FAULT = true
    ∧ flag (psTrip s why R.CTRL_ERR_PS_FAULT R.PWM_ERR_PS_FAULT leg) R.PWM_ERR_PS_FAULT = true := by
  have hopen : flag (lcOpenChain s why false).2 R.PWM_STATUS_PS_FAULT = true := (flag_lcOpenChain_psFault s why).trans hfault
  have hthrough : ∀ f, OffRec f.addr → Apart R.PWM_ERR_PS_FAULT f → Apart R.CTRL_ERR_PS_FAULT f →
      flag (psTrip s why R.CTRL_ERR_PS_FAULT R.PWM_ERR_PS_FAULT leg) f = flag (pwmOff (lcOpenChain s why false).2) f := by
    intro f hrec h h'
    unfold psTrip
    rw [flag_errRise_ne _ _ _ _ _ hrec h, flag_errRise_ne _ _ _ _ _ hrec h']
  refine ⟨?_, ?_, ?_, ?_, ?_, ?_⟩
  · rw [hthrough _ (by decide) (by decide) (by decide)]
    exact (flag_pwmOff_psFault _).trans hopen
  · rw [hthrough _ (by decide) (by decide) (by decide)]
    exact flag_pwmOff_driven _
  · rw [hthrough _ (by decide) (by decide) (by decide)]
    exact flag_pwmOff_en hopen
  · unfold psTrip
    rw [errRise_ctrl_eq, errRise_ctrl_eq]
    exact pwmOff_legOn _
  · unfold psTrip
    rw [flag_errRise_ne _ _ _ _ _ (by decide) (by decide)]
    exact flag_errRise_self _ _ _ _ (by decide) (by decide) (by decide)
  · exact flag_errRise_self _ _ _ _ (by decide) (by decide) (by decide)

/-! ### LC0's trigger -/

section
variable {s : State} {x : Lc0In} (harmed : flag s R.PWM_STATUS_ARMED = true) (hup : blocksUp s = true)

/-- What LC0's trigger finds: the leg currents taken and the limits shown. -/
def lc0Found (s : State) (x : Lc0In) : State := limShow (wrS (legCurrents (dispStart s) x.isense).1 (R.LC_FB_Y 0) x.y)

/-- The legs that stay over their current. -/
def lc0High (s : State) (x : Lc0In) : List Nat := (legCurrents (dispStart s) x.isense).2

include harmed hup in
theorem lc0Cycle_eq : lc0Cycle s x = if !(lc0High s x).isEmpty && lcRuns (lc0Found s x) 0
    then psTrip (lc0Found s x) 6 R.CTRL_ERR_LEG_OC R.PWM_ERR_LEG_OC ((lc0High s x).headD 0)
    else if !lcRuns (lc0Found s x) 0 then lc0Found s x
    else match x.vLink with
      | none => errRise (lcOpenChain (lc0Found s x) 7 false).2 R.CTRL_ERR_LINK 0 0
      | some v => lc0Loop (lc0Found s x) x v := if_neg (by simp [harmed, hup])

end

theorem lc0Cycle_idle {s : State} (x : Lc0In) (hno : flag s R.PWM_STATUS_ARMED = false ∨ blocksUp s = false) : lc0Cycle s x = s := by
  refine if_pos ?_
  rcases hno with h | h <;> simp [h]

theorem lcCycles_up {s : State} (hup : blocksUp s = true) (x : CtrlIn) (slow : Bool) (dt : Word) :
    lcCycles s x slow dt = ((List.range 8).filter (fun n => decide (n ≠ 0) && decide (lcSlow s n = slow) && lcRuns s n)).foldl (fun s n => lcCycle s n x dt)
      (dispStart s) := if_neg (by simp [hup])

/-! ### Dwell and valleys -/

/-- A channel that has something of its own stands in the list. -/
theorem lt_of_dwell {s : State} {n : Nat} (h : (lcAt s n).dwell = true) : n < s.ctrl.lcs.length := by
  by_contra hno
  unfold lcAt at h
  rw [List.getD_eq_default _ _ (by omega)] at h
  exact absurd h (by decide)

theorem lcAt_lcMod {s : State} {n : Nat} (hn : n < s.ctrl.lcs.length) (f : LcSt → LcSt) : lcAt (lcMod s n f) n = f (lcAt s n) := by
  simp [lcAt, lcMod, modAt, hn]

section
variable {s : State} {leg : Nat} {rdy : Bool} (harmed : flag s R.PWM_STATUS_ARMED = true) (hup : blocksUp s = true) (hleg : leg < 4)
  (hno : commands s = false ∨ flag s R.SAFE_STATUS_INHIBIT = true ∨ flag s R.PWM_STATUS_PS_FAULT = true ∨ lcRuns s 0 = false ∨ legsUsed s ≤ leg)

/-- A carrier period counted at leg 0's valley. -/
def valleySeen (s : State) (leg : Nat) : State := if leg = 0 then bump s R.PWM_PERIOD_CNT_COUNT else s

theorem rd_valleySeen (s : State) (leg : Nat) (f : Fld) (h : Apart R.PWM_PERIOD_CNT_COUNT f) : rd (valleySeen s leg) f = rd s f := by
  unfold valleySeen
  split
  · exact rd_bump_ne _ _ _ h
  · rfl

include hno in
/-- A leg that may not be driven may not be driven at its valley either. -/
theorem valleySeen_mayNot : (lcRuns (valleySeen s leg) 0 && commands (valleySeen s leg) && !flag (valleySeen s leg) R.SAFE_STATUS_INHIBIT
    && !flag (valleySeen s leg) R.PWM_STATUS_PS_FAULT && decide (leg < legsUsed (valleySeen s leg))) = false := by
  have hruns : lcRuns (valleySeen s leg) 0 = lcRuns s 0 := by
    unfold lcRuns lcSt
    rw [rd_valleySeen _ _ _ (by decide)]
  have hcommands : commands (valleySeen s leg) = commands s := by
    unfold commands role
    rw [rd_valleySeen _ _ _ (by decide)]
  have hflag : ∀ f, Apart R.PWM_PERIOD_CNT_COUNT f → flag (valleySeen s leg) f = flag s f := by
    intro f hf
    unfold flag
    rw [rd_valleySeen _ _ _ hf]
  have hlegs : legsUsed (valleySeen s leg) = legsUsed s := by
    unfold legsUsed
    rw [rd_valleySeen _ _ _ (by decide)]
  rw [hruns, hcommands, hflag _ (by decide), hflag _ (by decide), hlegs]
  rcases hno with h | h | h | h | h
  · simp [h]
  · simp [h]
  · simp [h]
  · simp [h]
  · simp [Nat.not_lt.2 h]

include harmed hup hleg hno in
theorem carrierValley_eq : carrierValley s leg rdy = pwmShow { valleySeen s leg with ctrl := { (valleySeen s leg).ctrl with
    legOn := (valleySeen s leg).ctrl.legOn.set leg false, cNow := (valleySeen s leg).ctrl.cNow.set leg 0 } } := by
  have hcond : ¬ (!flag s R.PWM_STATUS_ARMED || !blocksUp s || decide (4 ≤ leg)) = true := by
    simp [harmed, hup]
    omega
  have hmay : (!(lcRuns (valleySeen s leg) 0 && commands (valleySeen s leg) && !flag (valleySeen s leg) R.SAFE_STATUS_INHIBIT
      && !flag (valleySeen s leg) R.PWM_STATUS_PS_FAULT && decide (leg < legsUsed (valleySeen s leg)))) = true := by
    rw [valleySeen_mayNot hno]
    rfl
  unfold carrierValley
  rw [if_neg hcond]
  exact if_pos hmay

omit harmed hup hleg hno in
theorem gapEnd_ctrl (b : Bool) : (gapEnd s b).ctrl = s.ctrl := by
  unfold gapEnd
  split
  · rfl
  · split
    · split <;> rfl
    · split <;> rfl

include harmed hup hleg hno in
theorem carrierValley_off : (gapEnd (carrierValley s leg rdy) false).ctrl.legOn.getD leg false = false := by
  rw [gapEnd_ctrl, carrierValley_eq harmed hup hleg hno, pwmShow_ctrl]
  dsimp only
  rw [List.getD_eq_getElem?_getD, List.getElem?_set]
  split
  · split <;> rfl
  · contradiction

end

end Sys2Proof.Laws

namespace Sys2Proof.Proofs

open Sys2Proof Sys2Proof.Machine Sys2Proof.Laws

/-- Settles O42: LC0's trigger by its four ways, the other rows by their operations. -/
theorem controlRowsAct : Obligations.ControlRowsAct := by
  unfold Obligations.ControlRowsAct
  refine ⟨?trigger, fun s x hno => congrArg Host.Outcome.next (lc0Cycle_idle x hno), fun s x hup => ⟨_, congrArg Host.Outcome.next (lcCycles_up hup x _ _), rfl⟩,
    ?slow, ?dwell, fun s x h _ _ => ⟨_, rfl, rfl⟩, ?notRegulating, ?stopping, ?psFault, ?psGood, ?valley⟩
  case trigger =>
    intro s x harmed hup
    have heq := lc0Cycle_eq (x := x) harmed hup
    refine ⟨fun hno => ⟨_, congrArg Host.Outcome.next (heq.trans ?_), rfl⟩, fun v hlegs hrun hlink => ⟨_, congrArg Host.Outcome.next (heq.trans ?_), rfl⟩,
      fun hlegs hrun hlink => ⟨_, congrArg Host.Outcome.next (heq.trans ?_), flag_errRise_self _ _ _ _ (by decide) (by decide) (by decide), rfl⟩,
      fun hlegs hrun => ⟨_, congrArg Host.Outcome.next (heq.trans (if_pos ?_)), rfl, flag_errRise_self _ _ _ _ (by decide) (by decide) (by decide)⟩⟩
    · change lcRuns (lc0Found s x) 0 = false at hno
      rw [if_neg (by simp [hno]), if_pos (by simp [hno])]
      rfl
    · change lcRuns (lc0Found s x) 0 = true at hrun
      change lc0High s x = [] at hlegs
      rw [if_neg (by simp [hlegs]), if_neg (by simp [hrun]), hlink]
      rfl
    · change lcRuns (lc0Found s x) 0 = true at hrun
      change lc0High s x = [] at hlegs
      rw [if_neg (by simp [hlegs]), if_neg (by simp [hrun]), hlink]
      rfl
    · change lcRuns (lc0Found s x) 0 = true at hrun
      change lc0High s x ≠ [] at hlegs
      simp [hrun, hlegs]
  case slow =>
    intro s x dt hup
    refine ⟨_, rfl, ?_⟩
    rw [lcCycles_up hup]
  case dwell =>
    intro s n hn hdwell
    refine ⟨_, congrArg Host.Outcome.next (if_pos ⟨hn, hdwell⟩), ?_, flag_put_self _ _ _ (show (5 + 1 ≤ 32) by decide) (show 0 < 1 by decide)⟩
    exact congrArg LcSt.dwell (lcAt_lcMod (lt_of_dwell hdwell) (fun c => { c with dwell := false }))
  case notRegulating =>
    intro s x h hno
    have hcond : (!lcRuns s 0 || !blocksUp s) = true := by simp [hno]
    exact ⟨_, rfl, if_pos hcond⟩
  case stopping =>
    intro s n hn hstop hfail
    exact ⟨_, congrArg Host.Outcome.next (if_pos ⟨hn, hstop, hfail⟩), rfl, lcOpen_shows s _ n (why := 3) (by decide)⟩
  case psFault =>
    intro s hno
    exact ⟨_, congrArg Host.Outcome.next (if_pos (by simp [hno])), psTrip_fault (flag_put_self _ _ _ (by decide) (by decide)) 5 0⟩
  case psGood =>
    intro s
    refine ⟨_, congrArg Host.Outcome.next (if_neg (by simp)), ?_, pwmShow_ctrl _⟩
    rw [flag_pwmShow_ne _ _ (by decide) (by decide) (by decide)]
    exact flag_put_self _ _ _ (by decide) (by decide)
  case valley => exact fun s leg rdy harmed hup hleg => ⟨_, rfl, rfl, carrierValley_off harmed hup hleg⟩

end Sys2Proof.Proofs
end

section
/-! QP21 to QP28 and the dispatch service (R292 to R297). -/

namespace Sys2Proof.Laws

open Sys2Proof Sys2Proof.Machine

/-! ### Signed fields -/

theorem sInt_mem (a : Nat) : -(2 ^ 31) ≤ sInt 32 a ∧ sInt 32 a < 2 ^ 31 := by
  have h : a % 2 ^ 32 < 2 ^ 32 := Nat.mod_lt _ (by decide)
  unfold sInt
  split <;> omega

/-- A signed word reads back. -/
theorem sInt_sCode {v : Int} (h : -(2 ^ 31) ≤ v) (h' : v < 2 ^ 31) : sInt 32 (sCode 32 v % 2 ^ 32) = v := by
  have hcode : ((v % 2 ^ 32).toNat : Int) = v % 2 ^ 32 := Int.toNat_of_nonneg (Int.emod_nonneg _ (by decide))
  unfold sInt sCode
  split <;> omega

theorem rdS_wrS_self (s : State) (f : Fld) {v : Int} (hfits : Fits f) (hwidth : f.width = 32) (h : -(2 ^ 31) ≤ v) (h' : v < 2 ^ 31) :
    rdS (wrS s f v) f = v := by
  unfold rdS wrS
  rw [rd_wr_self _ _ _ hfits, hwidth, sInt_sCode h h']

/-! ### STOP and SET_REF -/

section
variable {s : State} {e : Entry} {n : Nat}

/-- A channel that begins its stop. -/
def lcStopped (s : State) (n : Nat) : State := put (lcPut s n lcStopC) (R.LC_STATE_SUP_FAIL n) false

theorem lcStop_closed (h : lcSt s n = lcClosedC) : lcStop n e s = (lcStopped s n, .done 0 0 0) := if_pos h

theorem lcStop_stopping (h : lcSt s n = lcStopC) : lcStop n e s = (s, .done 0 0 0) := by
  unfold lcStop
  rw [if_neg (by rw [h]; decide), if_pos h]
  rfl

theorem lcStop_open (h : lcSt s n = lcOpenC) : lcStop n e s = (s, .done 6 0 0) := by
  unfold lcStop
  rw [if_neg (by rw [h]; decide), if_neg (by rw [h]; decide)]
  rfl

theorem lcStopped_shows (s : State) (n : Nat) :
    lcSt (lcStopped s n) n = lcStopC ∧ flag (lcStopped s n) (R.LC_STATE_SUP_FAIL n) = false ∧ (lcStopped s n).ctrl = s.ctrl :=
  ⟨(lcSt_put _ n 6 false (by decide) (by decide)).trans (lcSt_lcPut _ _ _ (by decide)),
    flag_put_self _ _ _ (show (6 + 1 ≤ 32) by decide) (show 0 < 1 by decide), rfl⟩

end

/-! ### Dispatch -/

/-- Nothing that plant time depends on differs. -/
def SameTime (s t : State) : Prop :=
  t.ptp = s.ptp ∧ flag t R.PTP_STATUS_ACQ = flag s R.PTP_STATUS_ACQ ∧ flag t R.PTP_STATUS_SEL = flag s R.PTP_STATUS_SEL

theorem SameTime.refl (s : State) : SameTime s s := ⟨rfl, rfl, rfl⟩
theorem SameTime.trans {s t u : State} (h : SameTime s t) (k : SameTime t u) : SameTime s u := by
  obtain ⟨hptp, hacq, hsel⟩ := h
  obtain ⟨kptp, kacq, ksel⟩ := k
  exact ⟨kptp.trans hptp, kacq.trans hacq, ksel.trans hsel⟩
theorem SameTime.ptNow {s t : State} (h : SameTime s t) : ptNow t = ptNow s := by
  obtain ⟨hptp, hacq, hsel⟩ := h
  simp only [Machine.ptNow, ptFine, tSel, hptp, hacq, hsel]
theorem RecOnly.sameTime {s t : State} (h : RecOnly s t) : SameTime s t := ⟨h.ptp, h.flag _ (by decide), h.flag _ (by decide)⟩

theorem sameTime_dispShow (s : State) : SameTime s (dispShow s) := by
  have hflag : ∀ f, Apart R.CTRL_STATUS_DISP f → Apart R.CTRL_DISP_EXP_HI_EXPIRY f → Apart R.CTRL_DISP_EXP_LO_EXPIRY f → flag (dispShow s) f = flag s f := by
    intro f h1 h2 h3
    unfold dispShow dispShow.setPairReg
    rw [flag_put_ne _ _ _ _ h1, flag_wr_ne _ _ _ _ h2, flag_wr_ne _ _ _ _ h3]
  exact ⟨rfl, hflag _ (by decide) (by decide) (by decide), hflag _ (by decide) (by decide) (by decide)⟩

theorem sameTime_dispRevoke (s : State) : SameTime s (dispRevoke s) := by
  unfold dispRevoke
  split
  · split
    · split <;> exact ⟨rfl, rfl, rfl⟩
    · exact SameTime.refl s
  · exact SameTime.refl s

theorem sameTime_withCtrl (s : State) (c : CtrlSt) : SameTime s { s with ctrl := c } := ⟨rfl, rfl, rfl⟩

/-- The state with a grant in force. -/
def withGrant (s : State) (g : Grant) : State := { s with ctrl := { s.ctrl with grant := some g } }

theorem sameTime_withGrant (s : State) (g : Grant) : SameTime s (withGrant s g) := ⟨rfl, rfl, rfl⟩
theorem withGrant_grant (s : State) (g : Grant) : (withGrant s g).ctrl.grant = some g := rfl

theorem grantPut_eq (s : State) (g : Grant) : grantPut s g = dispShow (pepperWait (withGrant (dispRevoke s) g) 8 0) := rfl

theorem sameTime_grantPut (s : State) (g : Grant) : SameTime s (grantPut s g) := by
  rw [grantPut_eq]
  exact (((sameTime_dispRevoke s).trans (sameTime_withGrant _ _)).trans (recOnly_pepperWait _ 8 0).sameTime).trans (sameTime_dispShow _)

/-- Grants that start leave plant time as it is. -/
theorem sameTime_grantDue (s : State) (l : List (Nat × Grant)) : SameTime s (grantDue s l) := by
  induction l generalizing s with
  | nil => exact sameTime_withCtrl _ _
  | cons x t ih =>
    unfold grantDue
    split
    · exact sameTime_withCtrl _ _
    · refine SameTime.trans ?_ (ih _)
      split
      · exact SameTime.refl s
      · exact sameTime_grantPut s x.2

theorem dispShow_ctrl (s : State) : (dispShow s).ctrl = s.ctrl := rfl
theorem flag_dispShow (s : State) : flag (dispShow s) R.CTRL_STATUS_DISP = s.ctrl.grant.isSome := flag_put_self _ _ _ (by decide) (by decide)

theorem grantPut_shows (s : State) (g : Grant) : flag (grantPut s g) R.CTRL_STATUS_DISP = true ∧ (grantPut s g).ctrl.grant = some g := by
  rw [grantPut_eq, flag_dispShow, dispShow_ctrl, pepperWait_ctrl_eq, withGrant_grant]
  exact ⟨rfl, rfl⟩

/-- The grant of a SET_DISPATCH's buffer. -/
def grantOf (bs : List Byte) : Grant :=
  { chg := fieldAt bs 0 4, dis := fieldAt bs 4 4, expiry := fieldAt bs 8 8, setPoint := sInt 32 (fieldAt bs 16 4), asker := none, iGrant := 0,
    announced := 0, horizon := 0, revisedAt := none }

theorem lcSetDispatch_buf {s : State} {e : Entry} (hgood : memBad s e.addr e.len = false) :
    lcSetDispatch 0 e s = if fieldAt (memBytes s e.addr e.len) 20 4 ≠ 0 then failX s 0x40 20
      else if fieldAt (memBytes s e.addr e.len) 8 8 < ptNow s then failR s 0x08
      else okR (grantPut s (grantOf (memBytes s e.addr e.len))) 0 := by
  unfold lcSetDispatch
  rw [if_neg (by simp), withBuf_ok hgood]
  rfl

/-- The grant taken back. -/
def grantGone (s : State) : State := dispShow { s with ctrl := { s.ctrl with grant := none } }

theorem dispExpire_due {s : State} {g : Grant} (hgrant : (dispStart s).ctrl.grant = some g) (hdue : g.expiry ≤ ptNow s) :
    dispExpire s = errRise (grantGone (dispStart s)) R.CTRL_ERR_DISP_EXPIRED 0 0 := by
  have htime : ptNow (dispStart s) = ptNow s := (sameTime_grantDue s s.ctrl.later).ptNow
  unfold dispExpire
  dsimp only
  rw [hgrant]
  dsimp only
  rw [if_pos (by rw [htime]; exact hdue)]
  rfl

theorem dispExpire_none {s : State} (hgrant : (dispStart s).ctrl.grant = none) : dispExpire s = dispStart s := by
  unfold dispExpire
  dsimp only
  rw [hgrant]

theorem grantGone_shows (s : State) : (grantGone s).ctrl.grant = none ∧ flag (grantGone s) R.CTRL_STATUS_DISP = false := ⟨rfl, flag_dispShow _⟩

/-! ### Power requests -/

/-- An answer to a request stands at the head of what the module sent. -/
def Answered (sender id : Nat) (t : State) : Prop :=
  ∃ m, t.out.head? = some m ∧ m.kind = .dispatch ∧ m.args = [sender] ∧ m.data.take 4 = leBytes 4 id

theorem answered_emit (s : State) (sender id verdict cause horizon : Nat) (p i : Int) (valid : Nat) (u : State) :
    Answered sender id (emit s .dispatch [sender] (dispAnswer u id verdict cause horizon p i valid)) := by
  refine ⟨_, rfl, rfl, rfl, ?_⟩
  dsimp only
  unfold dispAnswer
  simp only [List.append_assoc]
  exact List.take_left' (leBytes_len _ _)

theorem powerRequest_late {s : State} (a : Nat) {req : List Byte} (hruns : dispRuns s = true) (hlate : fieldAt req 16 8 < ptNow s) :
    powerRequest s a req = { s with ctrl := { s.ctrl with lateReqs := s.ctrl.lateReqs + 1 } } := by
  unfold powerRequest
  dsimp only
  rw [if_neg (by simp [hruns]), if_pos hlate]

/-- Every request in time is answered, whatever the verdict. -/
theorem powerRequest_answers {s : State} (a : Nat) {req : List Byte} (hruns : dispRuns s = true) (htime : ptNow s ≤ fieldAt req 16 8) :
    Answered a (fieldAt req 0 4) (powerRequest s a req) := by
  unfold powerRequest
  dsimp only
  rw [if_neg (by simp [hruns]), if_neg (by omega)]
  repeat' (refine iteInduction (motive := Answered a (fieldAt req 0 4)) (fun _ => answered_emit ..) (fun _ => ?_))
  exact answered_emit ..

end Sys2Proof.Laws

namespace Sys2Proof.Proofs

open Sys2Proof Sys2Proof.Machine Sys2Proof.Laws

/-- Settles O43: STOP by the channel's state, a grant by its buffer, a request by its deadline. -/
theorem controlCommandsAct : Obligations.ControlCommandsAct := by
  unfold Obligations.ControlCommandsAct
  have hrow : ∀ {qp : Nat} {α : Type} (x y : α), 21 ≤ qp → qp ≤ 28 → (if 21 ≤ qp ∧ qp ≤ 28 then x else y) = x := fun x y h h' => if_pos ⟨h, h'⟩
  refine ⟨?stopClosed, ?stopStopping, ?stopOpen, ?setRef, ?setRefSource, ?setDispatch, ?notLc0, ?expiry, fun s hno => congrArg Host.Outcome.next (dispExpire_none hno),
    fun s a req hruns hlate => ⟨_, rfl, powerRequest_late a hruns hlate⟩, fun s a req hruns htime => ⟨_, rfl, powerRequest_answers a hruns htime⟩,
    fun s a req hno => congrArg Host.Outcome.next (if_pos (by simp [hno]))⟩
  case stopClosed =>
    exact fun s e qp h h' hgoes hst => leaves_of_act hgoes (lcStop_closed hst) (lcStopped_shows s (qp - 21)) (congrArg Host.Outcome.next (hrow _ _ h h'))
  case stopStopping =>
    exact fun s e qp h h' hgoes hst => leaves_of_act hgoes (lcStop_stopping hst) rfl (congrArg Host.Outcome.next (hrow _ _ h h'))
  case stopOpen =>
    exact fun s e qp h h' hgoes hst => leaves_of_act hgoes (lcStop_open hst) rfl (congrArg Host.Outcome.next (hrow _ _ h h'))
  case setRef =>
    intro s e qp h h' hgoes hsrc
    obtain ⟨hlo, hhi⟩ := sInt_mem e.arg0
    have hact : lcSetRef (qp - 21) e s = _ := if_neg (not_not.2 hsrc)
    exact leaves_of_act hgoes hact ⟨rdS_wrS_self _ _ (show (0 + 32 ≤ 32) by decide) rfl hlo hhi, rfl, rfl⟩ (congrArg Host.Outcome.next (hrow _ _ h h'))
  case setRefSource =>
    intro s e qp h h' hgoes hsrc
    have hact : lcSetRef (qp - 21) e s = _ := if_pos hsrc
    exact leaves_of_act hgoes hact rfl (congrArg Host.Outcome.next (hrow _ _ h h'))
  case setDispatch =>
    intro s e hgoes hgood bs
    have hbs : memBytes s e.addr e.len = bs := rfl
    clear_value bs
    have hact := lcSetDispatch_buf hgood
    rw [hbs] at hact
    have hexec : exec (.setDispatch 21) s = .next (runEntry s 21 0x42 (lcSetDispatch (lcOf 21))) :=
      congrArg Host.Outcome.next (hrow _ _ (by decide) (by decide))
    refine ⟨fun hzero htime => ?_, fun hzero hlate => ?_, fun hres => ?_⟩
    · obtain ⟨hflag, hgrant⟩ := grantPut_shows s (grantOf bs)
      exact leaves_of_act hgoes (hact.trans ((if_neg (not_not.2 hzero)).trans (if_neg (Nat.not_lt.2 htime))))
        ⟨hflag, _, hgrant, rfl, rfl, rfl, rfl⟩ hexec
    · exact leaves_of_act hgoes (hact.trans ((if_neg (not_not.2 hzero)).trans (if_pos hlate))) rfl hexec
    · exact leaves_of_act hgoes (hact.trans (if_pos hres)) rfl hexec
  case notLc0 =>
    intro s e qp h h' hgoes
    have hne : qp - 21 ≠ 0 := by omega
    have hact : lcSetDispatch (qp - 21) e s = _ := if_pos hne
    exact leaves_of_act hgoes hact rfl (congrArg Host.Outcome.next (hrow _ _ (by omega) h'))
  case expiry =>
    intro s g hgrant hdue
    obtain ⟨hgone, hdisp⟩ := grantGone_shows (dispStart s)
    refine ⟨_, congrArg Host.Outcome.next (dispExpire_due hgrant hdue), ?_, ?_, flag_errRise_self _ _ _ _ (by decide) (by decide) (by decide)⟩
    · rw [errRise_ctrl_eq, hgone]
    · rw [flag_errRise_ne _ _ _ _ _ (by decide) (by decide), hdisp]

end Sys2Proof.Proofs
end

section
/-! What trips and what is judged (R307 to R321): the Fog line, SP's evaluation and check of the set, inputs, and the checks of outputs. -/

namespace Sys2Proof.Laws

open Sys2Proof Sys2Proof.Machine

/-! ### The Fog line (R48, R311) -/

section
variable {s : State}

/-- The Fog loop with what is open outside the tiles. -/
def withLoop (s : State) (o : Bool) : State := { s with safe := { s.safe with loopOpen := o } }

theorem fogAssert_eq (s : State) (o : Bool) : fogAssert s o =
    (let u := withLoop s (s.safe.loopOpen || o)
     if !blocksUp s || flag s R.SAFE_STATUS_FOG then u
     else if latched s 0 then safeRefresh (put u R.SAFE_STATUS_FOG true)
     else safeTrip (put u R.SAFE_STATUS_FOG true) 0 (fogTile u).1 (fogTile u).2 none 0) := rfl

theorem fogAssert_asserted (o : Bool) (hfog : flag s R.SAFE_STATUS_FOG = true) : fogAssert s o = withLoop s (s.safe.loopOpen || o) := by
  rw [fogAssert_eq]
  exact if_pos (by simp [hfog])

theorem fogAssert_trips (o : Bool) (hup : blocksUp s = true) (hfog : flag s R.SAFE_STATUS_FOG = false) (hlatch : latched s 0 = false) :
    fogAssert s o = safeTrip (put (withLoop s (s.safe.loopOpen || o)) R.SAFE_STATUS_FOG true) 0 (fogTile (withLoop s (s.safe.loopOpen || o))).1
      (fogTile (withLoop s (s.safe.loopOpen || o))).2 none 0 := by
  rw [fogAssert_eq]
  exact (if_neg (by simp [hup, hfog])).trans (if_neg (by simp [hlatch]))

theorem fogAssert_latched (o : Bool) (hup : blocksUp s = true) (hfog : flag s R.SAFE_STATUS_FOG = false) (hlatch : latched s 0 = true) :
    fogAssert s o = safeRefresh (put (withLoop s (s.safe.loopOpen || o)) R.SAFE_STATUS_FOG true) := by
  rw [fogAssert_eq]
  exact (if_neg (by simp [hup, hfog])).trans (if_pos hlatch)

theorem fogDeassert_closed (hup : blocksUp s = true) (hfog : flag s R.SAFE_STATUS_FOG = true) (hclosed : fogClosed s = true) :
    fogDeassert s = safeRefresh (put s R.SAFE_STATUS_FOG false) := if_pos (by simp [hup, hfog, hclosed])

theorem fogDeassert_open (hopen : fogClosed s = false) : fogDeassert s = s := if_neg (by simp [hopen])

/-! ### SP's evaluation and its check of the set (R306, R309, R327) -/

theorem spEvaluate_held (ms : Nat) (hhold : flag s R.SAFE_STATUS_HOLD_WIN = true) : spEvaluate s ms = s := if_pos (by simp [hhold])

theorem spEvaluate_runs (ms : Nat) (hhold : flag s R.SAFE_STATUS_HOLD_WIN = false) (hfw : s.safe.fw = true) (hup : blocksUp s = true)
    (hpend : s.cfgPend = []) (hset : s.safe.set ≠ []) :
    spEvaluate s ms = safeRefresh (judgeAll (evalTimers (s.safe.queue.foldl evalSweep { s with safe := { s.safe with queue := [] } }) ms)) := by
  unfold spEvaluate
  rw [if_neg (by simp [hhold, hfw, hup]), cfgBoundary_none hpend]
  exact if_neg (by simp [hset])

theorem setCrc_held (fl : List (Nat × Nat)) (hhold : flag s R.SAFE_STATUS_HOLD_WIN = true) : setCrc s fl = s := if_pos (by simp [hhold])

theorem setCrc_good {fl : List (Nat × Nat)} (hgood : setCheckOk (flipBytes s.safe.set fl) = true) : setCrc s fl = s := by
  unfold setCrc
  split
  · rfl
  · exact if_pos hgood

theorem setCrc_bad {fl : List (Nat × Nat)} (hset : s.safe.set ≠ []) (hfw : s.safe.fw = true) (hup : blocksUp s = true)
    (hhold : flag s R.SAFE_STATUS_HOLD_WIN = false) (hbad : setCheckOk (flipBytes s.safe.set fl) = false) :
    setCrc s fl = safeRefresh (if setOk (namedFollow (safeReadSet (safeTripPlain (put s R.SAFE_SET_STAT_RAM_ERR true) 15)))
      then namedFollow (safeReadSet (safeTripPlain (put s R.SAFE_SET_STAT_RAM_ERR true) 15))
      else safeNote (namedFollow (safeReadSet (safeTripPlain (put s R.SAFE_SET_STAT_RAM_ERR true) 15))) 9 0xFF 0 0) :=
  (if_neg (by simp [hset, hfw, hup, hhold])).trans (if_neg (by simp [hbad]))

/-! ### Inputs and findings -/

theorem siChange_unused {i : Nat} (b on : Bool) (hmode : siMode s i = 0) :
    siChange s i b on = wr s (R.SAFE_SI_STAT_STAT i) (setBit (siStat s i) (b2n b) on) := if_pos hmode

end

end Sys2Proof.Laws

namespace Sys2Proof.Proofs

open Sys2Proof Sys2Proof.Machine Sys2Proof.Laws

/-- Settles O45: each row takes the path of its rule. -/
theorem safetyRowsAct : Obligations.SafetyRowsAct := by
  unfold Obligations.SafetyRowsAct
  refine ⟨?ready, ?fogOn, ?fogStill, ?fogOff, ?fogOpen, ?evaluate, ?hold, ?crcGood, ?crcBad, ?input, ?disc, ?noDisc, ?pulse, ?off, ?overCur, ?noOver, ?overdue,
    ?preTime⟩
  case ready => exact fun s hup => ⟨_, congrArg Host.Outcome.next (if_pos hup), rfl⟩
  case fogOn =>
    intro s lo hup hfog u
    exact ⟨fun hlatch => ⟨_, rfl, fogAssert_trips lo hup hfog hlatch⟩, fun hlatch => ⟨_, rfl, fogAssert_latched lo hup hfog hlatch⟩⟩
  case fogStill => exact fun s lo hfog => congrArg Host.Outcome.next (fogAssert_asserted lo hfog)
  case fogOff =>
    intro s hup hfog htiles
    exact ⟨_, rfl, fogDeassert_closed hup hfog (by simp only [fogClosed, htiles]; rfl)⟩
  case fogOpen =>
    intro s htiles
    exact congrArg Host.Outcome.next (fogDeassert_open (by simp only [fogClosed, htiles]; rfl))
  case evaluate => exact fun s hhold hfw hup hpend hset => ⟨_, rfl, spEvaluate_runs 1 hhold hfw hup hpend hset⟩
  case hold => exact fun s fl hhold => ⟨congrArg Host.Outcome.next (spEvaluate_held 1 hhold), congrArg Host.Outcome.next (setCrc_held fl hhold)⟩
  case crcGood => exact fun s fl hgood => ⟨_, rfl, setCrc_good hgood⟩
  case crcBad =>
    intro s fl hset hfw hup hhold hbad
    exact ⟨_, rfl, _, _, rfl, setCrc_bad hset hfw hup hhold hbad, fun h => if_pos h, fun h => if_neg (by simp [h])⟩
  case input =>
    intro s i b on hi hup
    exact ⟨_, congrArg Host.Outcome.next (if_pos ⟨hi, hup⟩), rfl, fun hmode => siChange_unused b on hmode⟩
  case disc =>
    intro s i hi hup hrun
    exact ⟨_, congrArg Host.Outcome.next (if_pos ⟨hi, hup⟩), if_pos hrun⟩
  case noDisc =>
    intro s i hno
    have hsame : siTimeout s i = s := if_neg (by simp [hno])
    exact congrArg Host.Outcome.next (by rw [hsame, ite_self])
  case pulse => exact fun s b r hup => ⟨_, congrArg Host.Outcome.next (if_pos hup), rfl⟩
  case off =>
    intro s ps mv hup
    refine ⟨_, congrArg Host.Outcome.next (if_pos hup), rfl, ?_⟩
    rintro rfl
    rfl
  case overCur =>
    intro s n hn hon
    exact ⟨_, congrArg Host.Outcome.next (if_pos ⟨hn, by simpa using hon⟩), rfl⟩
  case noOver => exact fun s n hhs hls => congrArg Host.Outcome.next (if_neg (by simp [hhs, hls]))
  case overdue => exact fun s n hn hon hdiag => ⟨_, rfl, if_pos ⟨hn, hon, by simp [hdiag]⟩⟩
  case preTime => exact fun s hseq hon => ⟨_, rfl, if_pos ⟨hseq, hon⟩⟩

end Sys2Proof.Proofs
end

section
/-! The outputs of SAFE (R312 to R318): what following PERMIT and REQUEST changes, and what it leaves for the outputs beside. -/

namespace Sys2Proof.Laws

open Sys2Proof Sys2Proof.Machine

/-! ### Reports (R329) -/

/-- Nothing but what a completion changes and the count of lost reports differs. -/
def ReportOnly (s t : State) : Prop :=
  ∃ rg rc pp mm me qs ou, t = { s with regs := rg, recd := rc, pepper := pp, mem := mm, memErr := me, qps := qs, out := ou }
    ∧ ∀ a, OffQueue a → a ≠ R.SAFE_RPT_LOST_CNT → mapGet resetVal rg a = regGet s a

theorem QueueOnly.reportOnly {s t : State} (h : QueueOnly s t) : ReportOnly s t := by
  obtain ⟨rg, rc, pp, mm, me, qs, ou, rfl, h⟩ := h
  exact ⟨rg, rc, pp, mm, me, qs, ou, rfl, fun a ha _ => h a ha⟩

theorem QueueOnly.reportOnly_bump {s t : State} (h : QueueOnly s t) : ReportOnly s (bump t R.SAFE_RPT_LOST_CNT_COUNT) := by
  obtain ⟨rg, rc, pp, mm, me, qs, ou, rfl, h⟩ := h
  exact ⟨_, rc, pp, mm, me, qs, ou, rfl, fun a ha hne => (regGet_wr_ne _ _ _ a hne.symm).trans (h a ha)⟩

section
variable {s t : State} (h : ReportOnly s t)
include h

theorem ReportOnly.regGet (a : Nat) (ha : OffQueue a) (hne : a ≠ R.SAFE_RPT_LOST_CNT) : regGet t a = regGet s a := by
  obtain ⟨rg, rc, pp, mm, me, qs, ou, rfl, h⟩ := h
  exact h a ha hne
theorem ReportOnly.rd (f : Fld) (hf : OffQueue f.addr) (hne : f.addr ≠ R.SAFE_RPT_LOST_CNT) : rd t f = rd s f := by
  unfold Machine.rd
  rw [h.regGet _ hf hne]
theorem ReportOnly.safe : t.safe = s.safe := by
  obtain ⟨rg, rc, pp, mm, me, qs, ou, rfl, -⟩ := h
  rfl
theorem ReportOnly.stl : t.stl = s.stl := by
  obtain ⟨rg, rc, pp, mm, me, qs, ou, rfl, -⟩ := h
  rfl

end

theorem reportOnly_safeReport (s : State) (kind src soMask info cell tile : Nat) (value : Option Int) (snum : Nat) :
    ReportOnly s (safeReport s kind src soMask info cell tile value snum) := by
  unfold safeReport
  generalize safeReportBytes s kind src soMask info cell tile value snum = bs
  have hrec := (recOnly_record s 26 (0x3000 + kind) 3 src (fieldAt bs 0x10 4) snum).queueOnly
  obtain h | ⟨u, hu, h⟩ := queueOnly_streamOr (record s 26 (0x3000 + kind) 3 src (fieldAt bs 0x10 4) snum) (qp := 30) (by decide) bs
    (fun s => bump s R.SAFE_RPT_LOST_CNT_COUNT)
  · exact (hrec.trans h).reportOnly
  · exact h ▸ (hrec.trans hu).reportOnly_bump

theorem reportOnly_safeNote (s : State) (kind src soMask info : Nat) : ReportOnly s (safeNote s kind src soMask info) := reportOnly_safeReport _ _ _ _ _ _ _ _ _

/-! ### What PERMIT and REQUEST depend on (R312) -/

theorem leNat_lt (bs : List Byte) : leNat bs < 256 ^ bs.length := by
  induction bs with
  | nil => exact Nat.one_pos
  | cons b t ih =>
    have hb : b.toNat < 256 := b.isLt
    simp only [leNat, List.length_cons, pow_succ]
    omega

theorem fieldAt_lt (bs : List Byte) (ofs n : Nat) : fieldAt bs ofs n < 256 ^ n :=
  (leNat_lt _).trans_le (Nat.pow_le_pow_right (by decide) (List.length_take_le _ _))

/-- The fields of SAFE that PERMIT and REQUEST read. -/
def permitPart (f : SafeSt) : List Byte × Bool × Bool × Bool × Nat × Nat × Nat := (f.set, f.edge, f.forced, f.fw, f.withheld, f.mirSo, f.seq)

/-- A field that following the outputs leaves alone. -/
abbrev BesideOutputs (f : Fld) : Prop :=
  OffQueue f.addr ∧ f.addr ≠ R.SAFE_RPT_LOST_CNT ∧ f.addr ≠ R.SAFE_SO_STAT ∧ f.addr ≠ R.SAFE_TEST_ABORT_CNT ∧ f.addr ≠ R.SAFE_TRIP_ACTIVE
    ∧ Apart R.SAFE_STATUS_SO_ON f ∧ Apart R.SAFE_STATUS_SEQ_RUN f ∧ Apart R.SAFE_STATUS_READY f

/-- Everything that PERMIT and REQUEST read is the same. -/
structure SamePermit (s t : State) : Prop where
  power : t.power = s.power
  stl : t.stl = s.stl
  part : permitPart t.safe = permitPart s.safe
  rd : ∀ f, BesideOutputs f → rd t f = rd s f

theorem SamePermit.refl (s : State) : SamePermit s s := ⟨rfl, rfl, rfl, fun _ _ => rfl⟩
theorem SamePermit.trans {s t u : State} (h : SamePermit s t) (k : SamePermit t u) : SamePermit s u :=
  ⟨k.power.trans h.power, k.stl.trans h.stl, k.part.trans h.part, fun f hf => (k.rd f hf).trans (h.rd f hf)⟩
theorem samePermit_wr (s : State) (f : Fld) (v : Nat) (h : ∀ g, BesideOutputs g → Apart f g) : SamePermit s (wr s f v) :=
  ⟨rfl, rfl, rfl, fun g hg => rd_wr_ne s f g v (h g hg)⟩
theorem samePermit_safe (s : State) (f : SafeSt) (h : permitPart f = permitPart s.safe) : SamePermit s { s with safe := f } := ⟨rfl, rfl, h, fun _ _ => rfl⟩
theorem ReportOnly.samePermit {s t : State} (h : ReportOnly s t) (hpower : t.power = s.power) : SamePermit s t :=
  ⟨hpower, h.stl, by rw [h.safe], fun f hf => h.rd f hf.1 hf.2.1⟩
theorem samePermit_safeNote (s : State) (kind src soMask info : Nat) : SamePermit s (safeNote s kind src soMask info) :=
  (reportOnly_safeNote s kind src soMask info).samePermit (by simp)

/-- A field of SO_STAT is beside everything that PERMIT and REQUEST read. -/
theorem apart_soStat {f : Fld} (hf : f.addr = R.SAFE_SO_STAT) (g : Fld) (hg : BesideOutputs g) : Apart f g := by
  obtain ⟨-, -, hne, -⟩ := hg
  exact .inl (fun e => hne (e.symm.trans hf))

section
variable {s t : State} (h : SamePermit s t)
include h

theorem SamePermit.safeFields : t.safe.set = s.safe.set ∧ t.safe.edge = s.safe.edge ∧ t.safe.forced = s.safe.forced ∧ t.safe.fw = s.safe.fw
    ∧ t.safe.withheld = s.safe.withheld ∧ t.safe.mirSo = s.safe.mirSo ∧ t.safe.seq = s.safe.seq := by
  have hpart := h.part
  simpa only [permitPart, Prod.mk.injEq] using hpart

theorem SamePermit.role : role t = role s := h.rd _ (by decide)
theorem SamePermit.latched (c : Nat) : latched t c = latched s c := by
  unfold Machine.latched bitIn
  rw [h.rd _ (by decide)]
theorem SamePermit.setOk : setOk t = setOk s := by
  unfold Machine.setOk flag
  rw [h.rd _ (by decide), h.rd _ (by decide)]
theorem SamePermit.latchActs (n : Nat) : latchActs t n = latchActs s n := by
  obtain ⟨hset, -⟩ := h.safeFields
  simp only [Machine.latchActs, tripMask, setU, hset, h.latched]
theorem SamePermit.safeStateNow : safeStateNow t = safeStateNow s := by
  obtain ⟨-, hedge, hforced, hfw, -⟩ := h.safeFields
  simp only [Machine.safeStateNow, outputsMay, h.power, h.latched, h.setOk, hedge, hforced, hfw]
theorem SamePermit.follows : follows t = follows s := by
  unfold Machine.follows
  rw [h.role]
theorem SamePermit.permitNow (n : Nat) : permitNow t n = permitNow s n := by
  obtain ⟨-, hedge, -, -, hwithheld, hmir, -⟩ := h.safeFields
  simp only [Machine.permitNow, commands, h.setOk, h.safeStateNow, h.latchActs, hedge, hwithheld, h.role, h.follows, hmir]

theorem SamePermit.stlSt {n : Nat} (hn : n < 256) : stlSt t n = stlSt s n := by
  refine h.rd _ ?_
  simp only [BesideOutputs, OffQueue, OffRec, Apart, R.STL_S_STAT_STATE, R.STL_S_STAT, R.SAFE_RPT_LOST_CNT, R.SAFE_SO_STAT, R.SAFE_TEST_ABORT_CNT,
    R.SAFE_TRIP_ACTIVE, R.SAFE_STATUS_SO_ON, R.SAFE_STATUS_SEQ_RUN, R.SAFE_STATUS_READY, R.SAFE_STATUS]
  omega

theorem SamePermit.requestNow (n : Nat) : requestNow t n = requestNow s n := by
  obtain ⟨hset, -, -, -, -, hmir, hseq⟩ := h.safeFields
  have hses : soSes s n < 256 := fieldAt_lt _ _ 1
  have hsession : Machine.stlSt t (soSes s n) = Machine.stlSt s (soSes s n) := h.stlSt hses
  have hreq : soReq t n = soReq s n ∧ soSes t n = soSes s n ∧ soBit t n = soBit s n := by simp only [soReq, soSes, soBit, setU, hset, and_self]
  obtain ⟨hreq, hsest, hbit⟩ := hreq
  have hin : Machine.rd t R.SAFE_STATUS_SI_ON = Machine.rd s R.SAFE_STATUS_SI_ON := h.rd _ (by decide)
  simp only [Machine.requestNow, hreq, hsest, hbit, hsession, stlAt, h.stl, h.follows, hmir, hseq, hin]

end

/-! ### An output that follows (R313) -/

/-- A switch of the output conducts, or the output counts as on. -/
def conducts (s : State) (n : Nat) : Bool := soHs s n || soLs s n || soOn s n

theorem conducts_wr_ne (s : State) (f : Fld) (v n : Nat) (hhs : Apart f (R.SAFE_SO_STAT_HS n)) (hls : Apart f (R.SAFE_SO_STAT_LS n))
    (hon : Apart f R.SAFE_STATUS_SO_ON) : conducts (wr s f v) n = conducts s n := by
  unfold conducts soHs soLs soOn
  rw [flag_wr_ne _ _ _ _ hhs, flag_wr_ne _ _ _ _ hls, bitIn_wr_ne _ _ _ _ _ hon]

theorem conducts_congr {s t : State} (n : Nat) (hstat : regGet t R.SAFE_SO_STAT = regGet s R.SAFE_SO_STAT)
    (hstatus : regGet t R.SAFE_STATUS = regGet s R.SAFE_STATUS) : conducts t n = conducts s n := by
  unfold conducts soHs soLs soOn flag bitIn rd
  rw [show (R.SAFE_SO_STAT_HS n).addr = R.SAFE_SO_STAT from rfl, show (R.SAFE_SO_STAT_LS n).addr = R.SAFE_SO_STAT from rfl,
    show R.SAFE_STATUS_SO_ON.addr = R.SAFE_STATUS from rfl, hstat, hstatus]

theorem ReportOnly.conducts {s t : State} (h : ReportOnly s t) (n : Nat) : conducts t n = conducts s n :=
  conducts_congr n (h.regGet _ (by decide) (by decide)) (h.regGet _ (by decide) (by decide))

/-- Two fields of SO_STAT, of different outputs or at different places of one output's byte, share no bit. -/
theorem apart_soStat_bits (m i w n j w' : Nat) (hm : m < 4) (hn : n < 4) (hi : i + w ≤ 8) (hj : j + w' ≤ 8)
    (h : m ≠ n ∨ i + w ≤ j ∨ j + w' ≤ i) : Apart ⟨R.SAFE_SO_STAT, 8 * m + i, w⟩ ⟨R.SAFE_SO_STAT, 8 * n + j, w'⟩ :=
  apart_bits _ _ _ _ _ (by omega) (by omega) (by omega)

/-- A write of STATE, REQ or PERMIT of any output switches nothing. -/
theorem conducts_wr_show (s : State) {m n i w : Nat} (v : Nat) (hm : m < 4) (hn : n < 4) (hi : i + w ≤ 4) :
    conducts (wr s ⟨R.SAFE_SO_STAT, 8 * m + i, w⟩ v) n = conducts s n :=
  conducts_wr_ne _ _ _ _ (apart_soStat_bits m i w n 4 1 hm hn (by omega) (by decide) (.inr (.inl hi)))
    (apart_soStat_bits m i w n 5 1 hm hn (by omega) (by decide) (.inr (.inl (by omega)))) (.inl (show R.SAFE_SO_STAT ≠ R.SAFE_STATUS by decide))

/-- The switches of an output off, before a test of it is abandoned. -/
def soCut (s : State) (n : Nat) : State := put (put (putBit s R.SAFE_STATUS_SO_ON n false) (R.SAFE_SO_STAT_HS n) false) (R.SAFE_SO_STAT_LS n) false

/-- An output that is off has its off-state check and its low-current count begin anew. -/
def soRest (s : State) (n : Nat) : State := { s with safe := { s.safe with offOk := s.safe.offOk.set n false, lowN := s.safe.lowN.set n 0 } }

/-- Whether the test under way is of this output. -/
def testsOutput (s : State) (n : Nat) : Bool := match s.safe.test with
  | some (m, _) => decide (m = n)
  | none => false

/-- The test under way, replaced. -/
def withTest (s : State) (x : Option (Nat × Bool)) : State := { s with safe := { s.safe with test := x } }

/-- A test is abandoned (R318). -/
def testAborted (s : State) (n : Nat) : State := safeNote (bump (withTest s none) R.SAFE_TEST_ABORT_CNT_COUNT) 6 0xFF (1 <<< n) 0

theorem soOff_eq (s : State) (n : Nat) : soOff s n = if testsOutput s n then testAborted (soRest (soCut s n) n) n else soRest (soCut s n) n := by
  unfold soOff testsOutput
  rfl

theorem samePermit_soRest (s : State) (n : Nat) : SamePermit s (soRest s n) := samePermit_safe _ _ rfl
theorem conducts_soRest (s : State) (m n : Nat) : conducts (soRest s m) n = conducts s n := conducts_congr n rfl rfl

theorem samePermit_soCut (s : State) (n : Nat) : SamePermit s (soRest (soCut s n) n) := by
  have hon : SamePermit s (putBit s R.SAFE_STATUS_SO_ON n false) := samePermit_wr _ _ _ (fun g hg => hg.2.2.2.2.2.1)
  exact ((hon.trans (samePermit_wr _ (R.SAFE_SO_STAT_HS n) _ (apart_soStat rfl))).trans (samePermit_wr _ (R.SAFE_SO_STAT_LS n) _ (apart_soStat rfl))).trans
    (samePermit_soRest _ n)

theorem samePermit_testAborted (s : State) (n : Nat) : SamePermit s (testAborted s n) := by
  have hnone : SamePermit s (withTest s none) := samePermit_safe _ _ rfl
  exact (hnone.trans (samePermit_wr _ R.SAFE_TEST_ABORT_CNT_COUNT _ (fun g hg => .inl hg.2.2.2.1.symm))).trans (samePermit_safeNote _ _ _ _ _)

theorem conducts_testAborted (s : State) (m n : Nat) : conducts (testAborted s m) n = conducts s n := by
  unfold testAborted
  rw [(reportOnly_safeNote _ _ _ _ _).conducts n]
  exact conducts_congr n (regGet_wr_ne (withTest s none) _ _ _ (by decide)) (regGet_wr_ne (withTest s none) _ _ _ (by decide))

theorem samePermit_soOff (s : State) (n : Nat) : SamePermit s (soOff s n) := by
  rw [soOff_eq]
  split
  · exact (samePermit_soCut s n).trans (samePermit_testAborted _ n)
  · exact samePermit_soCut s n

theorem conducts_soOff (s : State) (m n : Nat) : conducts (soOff s m) n = conducts (soCut s m) n := by
  rw [soOff_eq]
  split
  · rw [conducts_testAborted, conducts_soRest]
  · exact conducts_soRest _ _ _

theorem conducts_soCut_self (s : State) {n : Nat} (hn : n < 4) : conducts (soCut s n) n = false := by
  have hhs : soHs (soCut s n) n = false := by
    refine (flag_put_ne _ _ _ _ (apart_soStat_bits n 5 1 n 4 1 hn hn (by decide) (by decide) (.inr (.inr (by decide))))).trans ?_
    exact flag_put_self _ _ _ (show 8 * n + 4 + 1 ≤ 32 by omega) (show 0 < 1 by decide)
  have hls : soLs (soCut s n) n = false := flag_put_self _ _ _ (show 8 * n + 5 + 1 ≤ 32 by omega) (show 0 < 1 by decide)
  have hon : soOn (soCut s n) n = false := by
    refine (bitIn_wr_ne _ _ _ _ _ (.inl (show R.SAFE_SO_STAT ≠ R.SAFE_STATUS by decide))).trans ?_
    refine (bitIn_wr_ne _ _ _ _ _ (.inl (show R.SAFE_SO_STAT ≠ R.SAFE_STATUS by decide))).trans ?_
    exact bitIn_putBit_self _ _ _ _ (by decide) hn
  unfold conducts
  rw [hhs, hls, hon]
  rfl

theorem conducts_soCut_other (s : State) {m n : Nat} (hm : m < 4) (hn : n < 4) (hne : n ≠ m) : conducts (soCut s m) n = conducts s n := by
  have hlow : conducts (soCut s m) n = conducts (put (putBit s R.SAFE_STATUS_SO_ON m false) (R.SAFE_SO_STAT_HS m) false) n :=
    conducts_wr_ne _ _ _ _ (apart_soStat_bits m 5 1 n 4 1 hm hn (by decide) (by decide) (.inl hne.symm))
      (apart_soStat_bits m 5 1 n 5 1 hm hn (by decide) (by decide) (.inl hne.symm)) (.inl (show R.SAFE_SO_STAT ≠ R.SAFE_STATUS by decide))
  have hhigh : conducts (put (putBit s R.SAFE_STATUS_SO_ON m false) (R.SAFE_SO_STAT_HS m) false) n = conducts (putBit s R.SAFE_STATUS_SO_ON m false) n :=
    conducts_wr_ne _ _ _ _ (apart_soStat_bits m 4 1 n 4 1 hm hn (by decide) (by decide) (.inl hne.symm))
      (apart_soStat_bits m 4 1 n 5 1 hm hn (by decide) (by decide) (.inl hne.symm)) (.inl (show R.SAFE_SO_STAT ≠ R.SAFE_STATUS by decide))
  have hon : soOn (putBit s R.SAFE_STATUS_SO_ON m false) n = soOn s n := by
    unfold soOn
    rw [bitIn_putBit _ _ _ _ _ (by decide) hn, if_neg hne]
  refine (hlow.trans hhigh).trans ?_
  unfold conducts
  rw [hon]
  unfold soHs soLs putBit
  rw [flag_wr_ne _ _ _ _ (.inl (show R.SAFE_STATUS ≠ R.SAFE_SO_STAT by decide)), flag_wr_ne _ _ _ _ (.inl (show R.SAFE_STATUS ≠ R.SAFE_SO_STAT by decide))]

/-- An output with PERMIT and REQUEST shown. -/
def soShown (s : State) (n : Nat) : State := put (put s (R.SAFE_SO_STAT_PERMIT n) (permitNow s n)) (R.SAFE_SO_STAT_REQ n) (requestNow s n)

/-- The output as it follows, before STATE shows it. -/
def soTaken (s : State) (n : Nat) : State := if conducts (soShown s n) n && !(permitNow s n && requestNow s n) then soOff (soShown s n) n else soShown s n

theorem soFollow_eq (s : State) (n : Nat) : soFollow s n = wr (soTaken s n) (R.SAFE_SO_STAT_STATE n) (soState (soTaken s n) n) := rfl

theorem samePermit_soShown (s : State) (n : Nat) : SamePermit s (soShown s n) :=
  (samePermit_wr _ (R.SAFE_SO_STAT_PERMIT n) _ (apart_soStat rfl)).trans (samePermit_wr _ (R.SAFE_SO_STAT_REQ n) _ (apart_soStat rfl))

theorem samePermit_soTaken (s : State) (n : Nat) : SamePermit s (soTaken s n) := by
  unfold soTaken
  split
  · exact (samePermit_soShown s n).trans (samePermit_soOff _ n)
  · exact samePermit_soShown s n

theorem samePermit_soFollow (s : State) (n : Nat) : SamePermit s (soFollow s n) :=
  (samePermit_soTaken s n).trans (samePermit_wr _ (R.SAFE_SO_STAT_STATE n) _ (apart_soStat rfl))

section
variable {s : State} {m n : Nat} (hm : m < 4) (hn : n < 4)
include hm hn

theorem conducts_soShown : conducts (soShown s m) n = conducts s n :=
  (conducts_wr_show _ (i := 2) (w := 1) _ hm hn (by decide)).trans (conducts_wr_show _ (i := 3) (w := 1) _ hm hn (by decide))

theorem conducts_soFollow : conducts (soFollow s m) n = conducts (soTaken s m) n := conducts_wr_show _ (i := 0) (w := 2) _ hm hn (by decide)

theorem conducts_soFollow_other (hne : n ≠ m) : conducts (soFollow s m) n = conducts s n := by
  rw [conducts_soFollow hm hn]
  unfold soTaken
  split
  · rw [conducts_soOff, conducts_soCut_other _ hm hn hne, conducts_soShown hm hn]
  · exact conducts_soShown hm hn

end

/-- The output conducts only as PERMIT and REQUEST let it. -/
def Settled (s : State) (n : Nat) : Prop := conducts s n = true → permitNow s n = true ∧ requestNow s n = true

theorem SamePermit.settled {s t : State} (h : SamePermit s t) {n : Nat} (hcond : conducts t n = conducts s n) (hs : Settled s n) : Settled t n := by
  unfold Settled
  rw [h.permitNow, h.requestNow, hcond]
  exact hs

theorem settled_soFollow_self (s : State) {n : Nat} (hn : n < 4) : Settled (soFollow s n) n := by
  unfold Settled
  rw [(samePermit_soFollow s n).permitNow, (samePermit_soFollow s n).requestNow, conducts_soFollow hn hn]
  unfold soTaken
  split
  next => rw [conducts_soOff, conducts_soCut_self _ hn]; simp
  next hno =>
    intro hcond
    rw [hcond] at hno
    simpa using hno

theorem settled_soFollow {s : State} {m n : Nat} (hm : m < 4) (hn : n < 4) (h : n = m ∨ Settled s n) : Settled (soFollow s m) n := by
  by_cases hne : n = m
  · subst hne
    exact settled_soFollow_self s hn
  · exact (samePermit_soFollow s m).settled (conducts_soFollow_other hm hn hne) (h.resolve_left hne)

theorem settled_soFollows {n : Nat} (hn : n < 4) (l : List Nat) (hl : ∀ m ∈ l, m < 4) (s : State) (h : n ∈ l ∨ Settled s n) : Settled (l.foldl soFollow s) n := by
  induction l generalizing s with
  | nil => exact h.resolve_left List.not_mem_nil
  | cons m l ih =>
    refine ih (fun k hk => hl k (List.mem_cons_of_mem _ hk)) _ ?_
    by_cases hmem : n ∈ l
    · exact .inl hmem
    · refine .inr (settled_soFollow (hl m List.mem_cons_self) hn ?_)
      rcases h with h | h
      · exact .inl ((List.mem_cons.mp h).resolve_right hmem)
      · exact .inr h

/-! ### The end of SAFE's round -/

/-- What SAFE shows once the outputs have followed. -/
def safeShown (s : State) : State :=
  put (wr s R.SAFE_TRIP_ACTIVE_SRC (tripActive s)) R.SAFE_STATUS_SEQ_RUN (decide (s.safe.seq = 1) || decide (s.safe.seq = 2))

/-- READY with its reports (R72). -/
def readyShown (s : State) : State :=
  if readyNow s && !flag s R.SAFE_STATUS_READY then safeNote (put s R.SAFE_STATUS_READY (readyNow s)) 10 0xFF 0 0
  else if flag s R.SAFE_STATUS_READY && !readyNow s then safeNote (put s R.SAFE_STATUS_READY (readyNow s)) 11 0xFF 0 0
  else put s R.SAFE_STATUS_READY (readyNow s)

/-- SAFE's conditions as they show, before the inhibit and the outputs follow. -/
def condShown (s : State) : State :=
  put (put (pepperFollow (put (put s R.SAFE_STATUS_SAFE_STATE (safeStateNow s)) R.SAFE_STATUS_INHIBIT (inhibitNow s))) R.SAFE_STATUS_RST_NEEDED
    (!s.safe.edge || decide (s.safe.withheld ≠ 0) || (List.range 4).any (latchActs s))) R.SAFE_STATUS_STANDBY (follows s)

/-- The inhibit and the precharge sequence as they follow. -/
def inhFollow (s : State) : State :=
  seqFollow (if inhibitNow s && !flag s R.SAFE_STATUS_INHIBIT then pwmInhibit (condShown s) else condShown s)

theorem safeRefresh_eq (s : State) : safeRefresh s = readyShown (safeShown ((List.range 4).foldl soFollow (inhFollow s))) := rfl

theorem samePermit_safeShown (s : State) : SamePermit s (safeShown s) :=
  (samePermit_wr _ R.SAFE_TRIP_ACTIVE_SRC _ (fun _ hg => .inl hg.2.2.2.2.1.symm)).trans (samePermit_wr _ R.SAFE_STATUS_SEQ_RUN _ (fun _ hg => hg.2.2.2.2.2.2.1))

theorem samePermit_readyShown (s : State) : SamePermit s (readyShown s) := by
  have hready : SamePermit s (put s R.SAFE_STATUS_READY (readyNow s)) := samePermit_wr _ _ _ (fun g hg => hg.2.2.2.2.2.2.2)
  unfold readyShown
  split
  · exact hready.trans (samePermit_safeNote _ _ _ _ _)
  · split
    · exact hready.trans (samePermit_safeNote _ _ _ _ _)
    · exact hready

theorem conducts_safeShown (s : State) (n : Nat) : conducts (safeShown s) n = conducts s n := by
  refine (conducts_wr_ne _ _ _ _ (.inl (show R.SAFE_STATUS ≠ R.SAFE_SO_STAT by decide)) (.inl (show R.SAFE_STATUS ≠ R.SAFE_SO_STAT by decide)) (by decide)).trans ?_
  exact conducts_congr n (regGet_wr_ne _ _ _ _ (by decide)) (regGet_wr_ne _ _ _ _ (by decide))

theorem conducts_readyShown (s : State) (n : Nat) : conducts (readyShown s) n = conducts s n := by
  have hready : conducts (put s R.SAFE_STATUS_READY (readyNow s)) n = conducts s n :=
    conducts_wr_ne _ _ _ _ (.inl (show R.SAFE_STATUS ≠ R.SAFE_SO_STAT by decide)) (.inl (show R.SAFE_STATUS ≠ R.SAFE_SO_STAT by decide)) (by decide)
  unfold readyShown
  split
  · rw [(reportOnly_safeNote _ _ _ _ _).conducts n, hready]
  · split
    · rw [(reportOnly_safeNote _ _ _ _ _).conducts n, hready]
    · exact hready

theorem settled_safeRefresh (s : State) {n : Nat} (hn : n < 4) : Settled (safeRefresh s) n := by
  rw [safeRefresh_eq]
  have hout : Settled ((List.range 4).foldl soFollow (inhFollow s)) n :=
    settled_soFollows hn _ (fun m hm => List.mem_range.mp hm) _ (.inl (List.mem_range.mpr hn))
  have hshown := (samePermit_safeShown _).settled (conducts_safeShown _ n) hout
  exact (samePermit_readyShown _).settled (conducts_readyShown _ n) hshown

/-! ### Switching on and test pulses (R313, R317) -/

section
variable {s : State}

theorem soLowOn_on {n : Nat} (hn : n < 4) (hp : permitNow s n = true) (hq : requestNow s n = true) (hoff : s.safe.offOk.getD n false = true)
    (hhs : soHs s n = false) (hls : soLs s n = false) (hup : blocksUp s = true) : soLowOn s n = safeRefresh (put s (R.SAFE_SO_STAT_LS n) true) :=
  if_pos (by simp only [hn, hp, hq, hoff, hhs, hls, hup]; rfl)

theorem soHighOn_on {n : Nat} (hn : n < 4) (hp : permitNow s n = true) (hq : requestNow s n = true) (hls : soLs s n = true)
    (hhs : soHs s n = false) (hon : soOn s n = false) (hup : blocksUp s = true) :
    soHighOn s n = safeRefresh (putBit (put s (R.SAFE_SO_STAT_HS n) true) R.SAFE_STATUS_SO_ON n true) :=
  if_pos (by simp only [hn, hp, hq, hhs, hls, hon, hup]; rfl)

theorem soOn_unpermitted {n : Nat} (h : permitNow s n = false ∨ requestNow s n = false) : soLowOn s n = s ∧ soHighOn s n = s := by
  constructor <;> refine if_neg ?_ <;> rcases h with h | h <;> simp [h]

/-- The state in which a test pulse has opened a switch, before STATE shows it. -/
def testOpened (s : State) (j : Nat) : State :=
  put (put (withTest s (some (j % 4, decide (4 ≤ j)))) R.SAFE_STATUS_TEST_SUSP false)
    (if 4 ≤ j then R.SAFE_SO_STAT_LS (j % 4) else R.SAFE_SO_STAT_HS (j % 4)) false

theorem testSlot_opens {j : Nat} (hj : j < 8) (hup : blocksUp s = true) (hon : soOn s (j % 4) = true) (hhs : soHs s (j % 4) = true)
    (hls : soLs s (j % 4) = true) (hhold : flag s R.SAFE_STATUS_HOLD_WIN = false) (htest : s.safe.test = none)
    (hseq : flag s R.SAFE_STATUS_SEQ_RUN = false) :
    testSlot s j false = wr (testOpened s j) (R.SAFE_SO_STAT_STATE (j % 4)) (soState (testOpened s j) (j % 4)) :=
  (if_neg (by simp [hup, hj, hon, hhs, hls])).trans (if_neg (by simp [hhold, htest, hseq]))

theorem testSlot_suspends {j : Nat} {y : Bool} (hj : j < 8) (hup : blocksUp s = true) (hon : soOn s (j % 4) = true) (hhs : soHs s (j % 4) = true)
    (hls : soLs s (j % 4) = true) (h : y = true ∨ flag s R.SAFE_STATUS_HOLD_WIN = true ∨ s.safe.test.isSome = true) :
    testSlot s j y = put s R.SAFE_STATUS_TEST_SUSP true :=
  (if_neg (by simp [hup, hj, hon, hhs, hls])).trans (if_pos (by rcases h with h | h | h <;> simp [h]))

/-- The one switch is open, the other one stays. -/
theorem testOpened_switches {j : Nat} (hhs : soHs s (j % 4) = true) (hls : soLs s (j % 4) = true) :
    soHs (testOpened s j) (j % 4) = decide (4 ≤ j) ∧ soLs (testOpened s j) (j % 4) = decide (j < 4)
      ∧ flag (testOpened s j) R.SAFE_STATUS_TEST_SUSP = false := by
  have hn : j % 4 < 4 := Nat.mod_lt _ (by decide)
  generalize hm : j % 4 = m at hhs hls hn ⊢
  have hkeep : ∀ f : Fld, f.addr = R.SAFE_SO_STAT →
      flag (put (withTest s (some (m, decide (4 ≤ j)))) R.SAFE_STATUS_TEST_SUSP false) f = flag s f := fun f hf =>
    (flag_put_ne _ _ _ _ (.inl (by rw [hf]; decide))).trans (flag_congr (show (withTest s _).regs = s.regs from rfl) f)
  have hsusp : ∀ f : Fld, f.addr = R.SAFE_SO_STAT →
      flag (put (put (withTest s (some (m, decide (4 ≤ j)))) R.SAFE_STATUS_TEST_SUSP false) f false) R.SAFE_STATUS_TEST_SUSP
        = false := fun f hf =>
    (flag_put_ne _ _ _ _ (.inl (by rw [hf]; decide))).trans (flag_put_self _ _ _ (by decide) (by decide))
  have hhs32 : Fits (R.SAFE_SO_STAT_HS m) := show 8 * m + 4 + 1 ≤ 32 by omega
  have hls32 : Fits (R.SAFE_SO_STAT_LS m) := show 8 * m + 5 + 1 ≤ 32 by omega
  unfold testOpened soHs soLs
  rw [hm]
  split
  next hge =>
    refine ⟨?_, ?_, hsusp _ rfl⟩
    · rw [flag_put_ne _ _ _ _ (show Apart (R.SAFE_SO_STAT_LS m) (R.SAFE_SO_STAT_HS m) from .inr ⟨hls32, hhs32, .inr (show 8 * m + 4 + 1 ≤ 8 * m + 5 by omega)⟩), hkeep _ rfl, decide_eq_true hge]
      exact hhs
    · rw [flag_put_self _ _ _ hls32 (show 0 < 1 by decide), decide_eq_false (by omega)]
  next hlt =>
    refine ⟨?_, ?_, hsusp _ rfl⟩
    · rw [flag_put_self _ _ _ hhs32 (show 0 < 1 by decide), decide_eq_false hlt]
    · rw [flag_put_ne _ _ _ _ (show Apart (R.SAFE_SO_STAT_HS m) (R.SAFE_SO_STAT_LS m) from .inr ⟨hhs32, hls32, .inl (show 8 * m + 4 + 1 ≤ 8 * m + 5 by omega)⟩), hkeep _ rfl, decide_eq_true (by omega)]
      exact hls

variable {n : Nat} {low : Bool} (htest : s.safe.test = some (n, low))
include htest

theorem testEval_passes {ma : Nat} {pin mv : Int} (hma : ma ≤ 5)
    (hpin : setPair s = true ∨ (low = true ∧ mv - 2000 ≤ pin) ∨ (low = false ∧ pin ≤ 2000)) : testEval s ma pin mv = bump s R.SAFE_TEST_CNT_COUNT := by
  unfold testEval
  rw [htest]
  refine if_pos ⟨hma, ?_⟩
  rcases hpin with h | ⟨rfl, h⟩ | ⟨rfl, h⟩ <;> simp [h]

theorem testEval_fails {ma : Nat} {pin mv : Int}
    (hbad : 5 < ma ∨ (setPair s = false ∧ low = true ∧ pin < mv - 2000) ∨ (setPair s = false ∧ low = false ∧ 2000 < pin)) :
    testEval s ma pin mv = soFault { s with safe := { s.safe with test := none } } n (if low then 2 else 1) := by
  unfold testEval
  rw [htest]
  refine if_neg ?_
  rintro ⟨hma, hpin⟩
  rcases hbad with h | ⟨hpair, rfl, h⟩ | ⟨hpair, rfl, h⟩
  · omega
  · simp [hpair] at hpin
    omega
  · simp [hpair] at hpin
    omega

theorem testEnd_conducts : testEnd s true false =
    safeRefresh (put { s with safe := { s.safe with test := none } } (if low then R.SAFE_SO_STAT_LS n else R.SAFE_SO_STAT_HS n) true) := by
  unfold testEnd
  rw [htest]
  exact (if_neg (by decide)).trans (if_neg (by decide))
theorem testEnd_open : testEnd s false false = soFault { s with safe := { s.safe with test := none } } n 4 := by
  unfold testEnd
  rw [htest]
  exact (if_neg (by decide)).trans (if_pos (by decide))
theorem testEnd_late (c : Bool) : testEnd s c true = soFault { s with safe := { s.safe with test := none } } n (if low then 2 else 1) := by
  unfold testEnd
  rw [htest]
  exact if_pos rfl

end

end Sys2Proof.Laws

namespace Sys2Proof.Proofs

open Sys2Proof Sys2Proof.Machine Sys2Proof.Laws

/-- Settles O49: an output that follows conducts only as PERMIT and REQUEST let it, and the outputs after it change neither for it. -/
theorem noOutputConductsUnpermitted : Obligations.NoOutputConductsUnpermitted := by
  unfold Obligations.NoOutputConductsUnpermitted
  intro s n hn hcond
  refine settled_safeRefresh s hn ?_
  unfold conducts
  rcases hcond with h | h | h <;> simp [h]

/-- Settles O46: each row of the outputs takes the path of its rule. -/
theorem outputRowsAct : Obligations.OutputRowsAct := by
  unfold Obligations.OutputRowsAct
  refine ⟨?low, ?none, ?high, ?off, ?stay, ?test, ?susp, fun s n low ma pin mv htest hma hpin => ⟨_, rfl, testEval_passes htest hma hpin⟩,
    fun s n low ma pin mv htest hbad => ⟨_, rfl, testEval_fails htest hbad⟩, fun s n low htest => ⟨_, rfl, testEnd_conducts htest⟩,
    fun s n low htest => ⟨_, rfl, testEnd_open htest⟩, fun s n low c htest => ⟨_, rfl, testEnd_late htest c⟩, ?preStart, ?settled, ?unsettled, ?overlap,
    ?startOff, ?startOn⟩
  case low => exact fun s n hn hp hq hoff hhs hls hup => ⟨_, rfl, soLowOn_on hn hp hq hoff hhs hls hup⟩
  case none => exact fun s n h => ⟨congrArg Host.Outcome.next (soOn_unpermitted h).1, congrArg Host.Outcome.next (soOn_unpermitted h).2⟩
  case high => exact fun s n hn hp hq hls hhs hon hup => ⟨_, rfl, soHighOn_on hn hp hq hls hhs hon hup⟩
  case off =>
    intro s n hn h
    refine ⟨_, congrArg Host.Outcome.next (if_pos ⟨hn, by rcases h with h | h <;> simp [h]⟩), rfl, fun _ => ?_⟩
    have hsettled := settled_soFollow_self s hn
    unfold Settled at hsettled
    rw [(samePermit_soFollow s n).permitNow, (samePermit_soFollow s n).requestNow] at hsettled
    have hno : conducts (soFollow s n) n = false := by
      refine Bool.eq_false_iff.mpr (fun hcond => ?_)
      obtain ⟨hp, hq⟩ := hsettled hcond
      rcases h with h | h
      · exact absurd (hp.symm.trans h) (by decide)
      · exact absurd (hq.symm.trans h) (by decide)
    simpa [conducts, and_assoc] using hno
  case stay => exact fun s n hp hq => congrArg Host.Outcome.next (if_neg (by simp [hp, hq]))
  case test =>
    intro s j hj hup hon hhs hls hhold htest hseq
    obtain ⟨hhs', hls', hsusp⟩ := testOpened_switches (s := s) hhs hls
    have hn : j % 4 < 4 := Nat.mod_lt _ (by decide)
    have hopens := testSlot_opens hj hup hon hhs hls hhold htest hseq
    refine ⟨_, congrArg Host.Outcome.next hopens, rfl, ?_, ?_, ?_⟩
    · exact (flag_wr_ne _ _ _ _ (.inl (show R.SAFE_SO_STAT ≠ R.SAFE_STATUS by decide))).trans hsusp
    · exact (flag_wr_ne _ _ _ _ (apart_soStat_bits _ 0 2 _ 4 1 hn hn (by decide) (by decide) (.inr (.inl (by decide))))).trans hhs'
    · exact (flag_wr_ne _ _ _ _ (apart_soStat_bits _ 0 2 _ 5 1 hn hn (by decide) (by decide) (.inr (.inl (by decide))))).trans hls'
  case susp => exact fun s j y hj hup hon hhs hls h => ⟨_, rfl, testSlot_suspends hj hup hon hhs hls h⟩
  case preStart =>
    intro s hseq hpm hstart hfollows hfw
    exact ⟨_, rfl, if_pos ⟨hseq, by rw [hpm], by rw [hpm], hstart, by simp [hfollows], hfw⟩⟩
  case settled => exact fun s hseq hon hdv => ⟨_, rfl, if_pos ⟨hseq, hon, hdv⟩⟩
  case unsettled => exact fun s hdv => congrArg Host.Outcome.next (if_neg (fun h => absurd h.2.2 (Nat.not_le.mpr hdv)))
  case overlap => exact fun s hseq hon => ⟨_, rfl, if_pos ⟨hseq, hon⟩⟩
  case startOff => exact fun s hseq hno => ⟨_, congrArg Host.Outcome.next (if_pos ⟨hseq, by simp [hno]⟩), rfl⟩
  case startOn =>
    intro s hstart
    exact ⟨congrArg Host.Outcome.next (if_neg (by simp [hstart])), fun hseq => congrArg Host.Outcome.next (if_neg (fun h => hseq h.1))⟩

end Sys2Proof.Proofs
end

section
/-! What SAFE's following and the frames it sends leave alone: the latch, FIRST and the count of trips, the set and the reset's state (R308, R323), and
every block but those that are switched off, sent through or recorded in. -/

namespace Sys2Proof.Laws

open Sys2Proof Sys2Proof.Machine

/-! ### The frame -/

/-- A register that SAFE's following and its frames leave alone: outside QMGR, REC, PEPPER, CTRL, ETH, CAN and PWM, and of SAFE the latch, FIRST and
the count of trips. -/
abbrev SafeKept (a : Nat) : Prop :=
  OffQueue a ∧ ¬ (0x10080000 ≤ a ∧ a ≤ 0x1008FFFF) ∧ ¬ (0x100C0000 ≤ a ∧ a ≤ 0x100CFFFF) ∧ ¬ (0x100E0000 ≤ a ∧ a ≤ 0x100EFFFF)
    ∧ ¬ (0x10160000 ≤ a ∧ a ≤ 0x1016FFFF)
    ∧ (0x10090000 ≤ a ∧ a ≤ 0x1009FFFF → a = R.SAFE_TRIP_LATCH ∨ a = R.SAFE_FIRST ∨ a = R.SAFE_TRIP_CNT)

/-- What the sessions last accepted is the same. -/
def SameAccepted (l l' : List StlSess) : Prop :=
  ∀ n, (l'.getD n StlSess.init).lastPdu = (l.getD n StlSess.init).lastPdu ∧ (l'.getD n StlSess.init).ack = (l.getD n StlSess.init).ack

theorem SameAccepted.trans {l l' l'' : List StlSess} (h : SameAccepted l l') (k : SameAccepted l' l'') : SameAccepted l l'' :=
  fun n => ⟨(k n).1.trans (h n).1, (k n).2.trans (h n).2⟩

theorem sameAccepted_modAt (l : List StlSess) (n : Nat) {f : StlSess → StlSess} (hf : ∀ x, (f x).lastPdu = x.lastPdu ∧ (f x).ack = x.ack) :
    SameAccepted l (modAt l n f) := by
  intro k
  simp only [modAt, List.getD_eq_getElem?_getD, List.getElem?_modify]
  cases l[k]? with
  | none => simp
  | some x =>
    by_cases hk : n = k
    · simpa [hk] using hf x
    · simp [hk]

/-- Those registers stay, and of SAFE's state everything but its outputs and the precharge sequence; the pair's and the images' state too, and
what the sessions accepted. -/
structure SafeFrame (s t : State) : Prop where
  regs : ∀ a, SafeKept a → regGet t a = regGet s a
  safe : ∃ o l x q e, t.safe = { s.safe with offOk := o, lowN := l, test := x, seq := q, edgeReq := e }
  red : t.red = s.red
  upd : t.upd = s.upd
  stl : SameAccepted s.stl t.stl

theorem SafeFrame.refl (s : State) : SafeFrame s s := ⟨fun _ _ => rfl, ⟨_, _, _, _, _, rfl⟩, rfl, rfl, fun _ => ⟨rfl, rfl⟩⟩
theorem SafeFrame.trans {s t u : State} (h : SafeFrame s t) (k : SafeFrame t u) : SafeFrame s u := by
  obtain ⟨hregs, ⟨o, l, x, q, e, hsafe⟩, hred, hupd, hstl⟩ := h
  obtain ⟨kregs, ⟨o', l', x', q', e', ksafe⟩, kred, kupd, kstl⟩ := k
  exact ⟨fun a ha => (kregs a ha).trans (hregs a ha), ⟨o', l', x', q', e', by rw [ksafe, hsafe]⟩, kred.trans hred, kupd.trans hupd,
    hstl.trans kstl⟩

theorem safeFrame_wr (s : State) (f : Fld) (v : Nat) (h : ¬ SafeKept f.addr) : SafeFrame s (wr s f v) :=
  ⟨fun a ha => regGet_wr_ne s f v a (fun e => h (e ▸ ha)), ⟨_, _, _, _, _, rfl⟩, rfl, rfl, fun _ => ⟨rfl, rfl⟩⟩
theorem QueueOnly.safeFrame {s t : State} (h : QueueOnly s t) : SafeFrame s t := by
  obtain ⟨rg, rc, pp, mm, me, qs, ou, rfl, h⟩ := h
  exact ⟨fun a ha => h a ha.1, ⟨_, _, _, _, _, rfl⟩, rfl, rfl, fun _ => ⟨rfl, rfl⟩⟩
theorem RecOnly.safeFrame {s t : State} (h : RecOnly s t) : SafeFrame s t := h.queueOnly.safeFrame
theorem not_safeKept_report : ¬ SafeKept R.SAFE_RPT_LOST_CNT := by decide
theorem ReportOnly.safeFrame {s t : State} (h : ReportOnly s t) : SafeFrame s t := by
  obtain ⟨rg, rc, pp, mm, me, qs, ou, rfl, h⟩ := h
  exact ⟨fun a ha => h a ha.1 (fun e => not_safeKept_report (e ▸ ha)), ⟨_, _, _, _, _, rfl⟩, rfl, rfl, fun _ => ⟨rfl, rfl⟩⟩
theorem safeFrame_safeNote (s : State) (kind src soMask info : Nat) : SafeFrame s (safeNote s kind src soMask info) :=
  (reportOnly_safeNote s kind src soMask info).safeFrame
theorem safeFrame_errRise (s : State) (f : Fld) (inst arg1 : Nat) (h : ¬ SafeKept f.addr) : SafeFrame s (errRise s f inst arg1) :=
  (safeFrame_wr s f _ h).trans (recOnly_record _ _ _ _ _ _ _).safeFrame

theorem safeFrame_foldl {α : Type} {p : α → Prop} {f : State → α → State} (hf : ∀ s x, p x → SafeFrame s (f s x)) (l : List α) (hl : ∀ x ∈ l, p x)
    (s : State) : SafeFrame s (l.foldl f s) := by
  induction l generalizing s with
  | nil => exact SafeFrame.refl s
  | cons x l ih => exact (hf s x (hl x List.mem_cons_self)).trans (ih (fun y hy => hl y (List.mem_cons_of_mem _ hy)) _)

theorem safeFrame_foldl_snd {α β : Type} {p : α → Prop} {f : β × State → α → β × State} (hf : ∀ r x, p x → SafeFrame r.2 (f r x).2) (l : List α)
    (hl : ∀ x ∈ l, p x) (r : β × State) : SafeFrame r.2 (l.foldl f r).2 := by
  induction l generalizing r with
  | nil => exact SafeFrame.refl _
  | cons x l ih => exact (hf r x (hl x List.mem_cons_self)).trans (ih (fun y hy => hl y (List.mem_cons_of_mem _ hy)) _)

section
variable {s t : State} (h : SafeFrame s t)
include h

theorem SafeFrame.rd (f : Fld) (hf : SafeKept f.addr) : rd t f = rd s f := by
  unfold Machine.rd
  rw [h.regs _ hf]
theorem SafeFrame.flag (f : Fld) (hf : SafeKept f.addr) : flag t f = flag s f := by
  unfold Machine.flag
  rw [h.rd _ hf]
theorem SafeFrame.latched (c : Nat) : latched t c = latched s c := by
  unfold Machine.latched bitIn
  rw [h.rd _ (by decide)]
theorem SafeFrame.resetFields : t.safe.set = s.safe.set ∧ t.safe.edge = s.safe.edge ∧ t.safe.rearm = s.safe.rearm ∧ t.safe.load = s.safe.load
    ∧ t.safe.repair = s.safe.repair := by
  obtain ⟨o, l, x, q, e, hsafe⟩ := h.safe
  simp only [hsafe, and_self]

end

/-! ### The power stage (R33) -/

section
variable (s : State) {n : Nat} (hn : n ≤ 7)
include hn

theorem not_safeKept_lc (c : Nat) (hlo : 0x10080000 ≤ c) (hhi : c ≤ 0x1008FC00) : ¬ SafeKept (c + 0x80 * n) := by
  rintro ⟨-, h, -⟩
  omega

omit hn in
theorem safeFrame_lcMod (f : LcSt → LcSt) : SafeFrame s (lcMod s n f) := ⟨fun _ _ => rfl, ⟨_, _, _, _, _, rfl⟩, rfl, rfl, fun _ => ⟨rfl, rfl⟩⟩

theorem safeFrame_lcPut (st : Nat) : SafeFrame s (lcPut s n st) :=
  ((safeFrame_wr s (R.LC_STATE_STATE n) _ (not_safeKept_lc hn _ (by decide) (by decide))).trans (safeFrame_wr _ R.CTRL_STATUS_CLOSED _ (by decide))).trans
    (safeFrame_wr _ R.CTRL_STATUS_STOPPING _ (by decide))

theorem safeFrame_lcShut (why : Nat) (held : Bool) : SafeFrame s (lcShut s n why held) := by
  have hstate : ¬ SafeKept (R.LC_STATE n) := not_safeKept_lc hn _ (by decide) (by decide)
  exact ((((safeFrame_lcPut s hn _).trans (safeFrame_wr _ (R.LC_STATE_DWELL n) _ hstate)).trans (safeFrame_wr _ (R.LC_STATE_LIMITED n) _ hstate)).trans
    (safeFrame_wr _ (R.LC_STATE_WHY n) _ hstate)).trans (safeFrame_lcMod _ _)

theorem safeFrame_lcOpen (why : Nat) : SafeFrame s (lcOpen s n why false) := by
  have hout : SafeFrame s (wrS (lcShut s n why false) (R.LC_OUT_U n) (lcStopVal (lcShut s n why false) n)) :=
    (safeFrame_lcShut s hn why false).trans (safeFrame_wr _ (R.LC_OUT_U n) _ (not_safeKept_lc hn _ (by decide) (by decide)))
  rw [lcOpen_eq]
  split
  · exact hout.trans (safeFrame_wr _ R.CTRL_STATUS_EXC _ (by decide))
  · exact hout

end

theorem lcChain_le (s : State) (fuel n : Nat) : ∀ r ∈ lcChain s fuel n, r ≤ 7 := by
  induction fuel generalizing n with
  | zero => intro r hr; cases hr
  | succ fuel ih =>
    unfold lcChain
    dsimp only
    split
    next h =>
      intro r hr
      rcases List.mem_cons.mp hr with rfl | hr
      · exact h.2
      · exact ih _ r hr
    next => intro r hr; cases hr

theorem safeFrame_lcOpenChain (s : State) (why : Nat) (zero : Bool) : SafeFrame s (lcOpenChain s why zero).2 := by
  unfold lcOpenChain
  refine safeFrame_foldl_snd (p := fun n => n ≤ 7) (fun r n hn => ?_) _ (fun n hn => ?_) (false, s)
  · dsimp only
    split
    · dsimp only
      have hopen := safeFrame_lcOpen r.2 hn why
      split
      · exact (hopen.trans (safeFrame_lcMod _ _)).trans (safeFrame_wr _ (R.LC_INTEG_I n) _ (not_safeKept_lc hn _ (by decide) (by decide)))
      · exact hopen
    · exact SafeFrame.refl _
  · rcases List.mem_cons.mp (List.mem_eraseDups.mp hn) with rfl | hmem
    · exact Nat.zero_le _
    · exact lcChain_le s 8 0 n hmem

theorem safeFrame_pwmShow (s : State) : SafeFrame s (pwmShow s) :=
  ((safeFrame_wr s R.PWM_STATUS_DRIVEN _ (by decide)).trans (safeFrame_wr _ R.PWM_STATUS_PS_EN _ (by decide))).trans (recOnly_pepperFollow _).safeFrame

theorem safeFrame_withCtrl (s : State) (c : CtrlSt) : SafeFrame s { s with ctrl := c } := ⟨fun _ _ => rfl, ⟨_, _, _, _, _, rfl⟩, rfl, rfl, fun _ => ⟨rfl, rfl⟩⟩

theorem safeFrame_pwmInhibit (s : State) : SafeFrame s (pwmInhibit s) := by
  have hoff : SafeFrame s (put (pwmOff (lcOpenChain s 4 true).2) R.CTRL_STATUS_EXC false) :=
    (((safeFrame_lcOpenChain s 4 true).trans (safeFrame_withCtrl _ _)).trans (safeFrame_pwmShow _)).trans (safeFrame_wr _ R.CTRL_STATUS_EXC _ (by decide))
  unfold pwmInhibit
  dsimp only
  split
  · exact hoff.trans (safeFrame_errRise _ R.CTRL_ERR_INHIBIT _ _ (by decide))
  · exact hoff

/-! ### SAFE as it follows its conditions -/

theorem safeFrame_safe (s : State) (f : SafeSt) (h : ∃ o l x q e, f = { s.safe with offOk := o, lowN := l, test := x, seq := q, edgeReq := e }) :
    SafeFrame s { s with safe := f } := ⟨fun _ _ => rfl, h, rfl, rfl, fun _ => ⟨rfl, rfl⟩⟩

theorem safeFrame_seqFollow (s : State) : SafeFrame s (seqFollow s) := by
  unfold seqFollow
  dsimp only
  split
  · split <;> exact safeFrame_safe _ _ ⟨_, _, _, _, _, rfl⟩
  · exact SafeFrame.refl s

theorem safeFrame_condShown (s : State) : SafeFrame s (condShown s) :=
  ((((safeFrame_wr s R.SAFE_STATUS_SAFE_STATE _ (by decide)).trans (safeFrame_wr _ R.SAFE_STATUS_INHIBIT _ (by decide))).trans
    (recOnly_pepperFollow _).safeFrame).trans (safeFrame_wr _ R.SAFE_STATUS_RST_NEEDED _ (by decide))).trans (safeFrame_wr _ R.SAFE_STATUS_STANDBY _ (by decide))

theorem safeFrame_inhFollow (s : State) : SafeFrame s (inhFollow s) := by
  unfold inhFollow
  split
  · exact ((safeFrame_condShown s).trans (safeFrame_pwmInhibit _)).trans (safeFrame_seqFollow _)
  · exact (safeFrame_condShown s).trans (safeFrame_seqFollow _)

theorem not_safeKept_soStat : ¬ SafeKept R.SAFE_SO_STAT := by decide

theorem safeFrame_soRest (s : State) (n : Nat) : SafeFrame s (soRest s n) := safeFrame_safe _ _ ⟨_, _, _, _, _, rfl⟩
theorem safeFrame_withTest (s : State) (x : Option (Nat × Bool)) : SafeFrame s (withTest s x) := safeFrame_safe _ _ ⟨_, _, _, _, _, rfl⟩
theorem safeFrame_soCut (s : State) (n : Nat) : SafeFrame s (soCut s n) :=
  ((safeFrame_wr s R.SAFE_STATUS_SO_ON _ (by decide)).trans (safeFrame_wr _ (R.SAFE_SO_STAT_HS n) _ not_safeKept_soStat)).trans
    (safeFrame_wr _ (R.SAFE_SO_STAT_LS n) _ not_safeKept_soStat)
theorem safeFrame_testAborted (s : State) (n : Nat) : SafeFrame s (testAborted s n) :=
  ((safeFrame_withTest s none).trans (safeFrame_wr _ R.SAFE_TEST_ABORT_CNT_COUNT _ (by decide))).trans (safeFrame_safeNote _ _ _ _ _)
theorem safeFrame_soOff (s : State) (n : Nat) : SafeFrame s (soOff s n) := by
  have hrest := (safeFrame_soCut s n).trans (safeFrame_soRest _ n)
  rw [soOff_eq]
  split
  · exact hrest.trans (safeFrame_testAborted _ n)
  · exact hrest
theorem safeFrame_soFollow (s : State) (n : Nat) : SafeFrame s (soFollow s n) := by
  have hshown : SafeFrame s (soShown s n) :=
    (safeFrame_wr s (R.SAFE_SO_STAT_PERMIT n) _ not_safeKept_soStat).trans (safeFrame_wr _ (R.SAFE_SO_STAT_REQ n) _ not_safeKept_soStat)
  have htaken : SafeFrame s (soTaken s n) := by
    unfold soTaken
    split
    · exact hshown.trans (safeFrame_soOff _ n)
    · exact hshown
  exact htaken.trans (safeFrame_wr _ (R.SAFE_SO_STAT_STATE n) _ not_safeKept_soStat)

theorem safeFrame_readyShown (s : State) : SafeFrame s (readyShown s) := by
  have hready : SafeFrame s (put s R.SAFE_STATUS_READY (readyNow s)) := safeFrame_wr _ R.SAFE_STATUS_READY _ (by decide)
  unfold readyShown
  split
  · exact hready.trans (safeFrame_safeNote _ _ _ _ _)
  · split
    · exact hready.trans (safeFrame_safeNote _ _ _ _ _)
    · exact hready

/-- SAFE as it follows its conditions. -/
theorem safeFrame_safeRefresh (s : State) : SafeFrame s (safeRefresh s) := by
  rw [safeRefresh_eq]
  have hout := (safeFrame_inhFollow s).trans
    (safeFrame_foldl (p := fun _ => True) (fun u n _ => safeFrame_soFollow u n) (List.range 4) (fun _ _ => trivial) (inhFollow s))
  have hshown : ∀ u, SafeFrame u (safeShown u) := fun u =>
    (safeFrame_wr u R.SAFE_TRIP_ACTIVE_SRC _ (by decide)).trans (safeFrame_wr _ R.SAFE_STATUS_SEQ_RUN _ (by decide))
  exact (hout.trans (hshown _)).trans (safeFrame_readyShown _)

/-! ### Frames sent (R332, R379, R412) -/

theorem safeFrame_emit (s : State) (k : OutKind) (args : List Nat) (data : List Byte) : SafeFrame s (emit s k args data) := (queueOnly_emit s k args data).safeFrame

theorem not_safeKept_ethPort (b : Bool) (c : Nat) (hlo : 0x100C0000 ≤ c) (hhi : c ≤ 0x100C1000) : ¬ SafeKept (c + 0x20 * b2n b) := by
  have hb : b2n b ≤ 1 := by cases b <;> decide
  rintro ⟨-, -, h, -⟩
  omega

theorem safeFrame_ethOut (s : State) (b : Bool) (cls stomped : Nat) (bs : List Byte) : SafeFrame s (ethOut s b cls stomped bs) := by
  have hsent : SafeFrame s (bump (emit s .ringFrame [b2n b, stomped] bs) (R.ETH_P_TX_COUNT (b2n b))) :=
    (safeFrame_emit _ _ _ _).trans (safeFrame_wr _ (R.ETH_P_TX_COUNT (b2n b)) _ (not_safeKept_ethPort b _ (by decide) (by decide)))
  unfold ethOut
  dsimp only
  split
  · exact hsent.trans (safeFrame_wr _ (R.ETH_P_CL0_COUNT (b2n b)) _ (not_safeKept_ethPort b _ (by decide) (by decide)))
  · exact hsent

theorem safeFrame_ethBoth (s : State) (cls dst svc hops rseq : Nat) (payload : List Byte) : SafeFrame s (ethBoth s cls dst svc hops rseq payload) := by
  unfold ethBoth
  refine safeFrame_foldl (p := fun _ => True) (fun u b _ => ?_) _ (fun _ _ => trivial) s
  split
  · exact safeFrame_ethOut _ _ _ _ _
  · exact SafeFrame.refl u

theorem safeFrame_ethCount (s : State) : SafeFrame s (ethCount s) := ⟨fun _ _ => rfl, ⟨_, _, _, _, _, rfl⟩, rfl, rfl, fun _ => ⟨rfl, rfl⟩⟩

theorem safeFrame_ethSend {s t : State} {cls svc dst : Nat} {payload : List Byte} (h : ethSend s cls svc dst payload = some t) : SafeFrame s t := by
  unfold ethSend at h
  split at h
  · cases h
  · dsimp only at h
    split at h
    · cases h
      exact (safeFrame_ethCount s).trans (safeFrame_ethBoth _ _ _ _ _ _ _)
    · split at h
      · cases h
        exact (safeFrame_ethCount s).trans (safeFrame_ethBoth _ _ _ _ _ _ _)
      · obtain ⟨b, -, rfl⟩ := Option.map_eq_some_iff.mp h
        exact (safeFrame_ethCount s).trans (safeFrame_ethOut _ _ _ _ _)

theorem safeFrame_ethHardware (s : State) (cls svc dst : Nat) (payload : List Byte) : SafeFrame s (ethHardware s cls svc dst payload) := by
  unfold ethHardware
  split
  next h => exact safeFrame_ethSend h
  next => exact safeFrame_wr s R.ETH_NO_ROUTE_CNT_COUNT _ (by decide)

section
variable (s : State) {n : Nat} (hn : n < 3)
include hn

theorem not_safeKept_can (c : Nat) (hlo : 0x100E0000 ≤ c) (hhi : c ≤ 0x100E1000) : ¬ SafeKept (c + 0x1000 * n) := by
  rintro ⟨-, -, -, h, -⟩
  omega

omit hn in
theorem safeFrame_canMod (f : CanCtl → CanCtl) : SafeFrame s (canMod s n f) := ⟨fun _ _ => rfl, ⟨_, _, _, _, _, rfl⟩, rfl, rfl, fun _ => ⟨rfl, rfl⟩⟩

theorem safeFrame_objRecord (k kind time : Nat) (data : List Byte) (attempts : Nat) : SafeFrame s (objRecord s n k kind time data attempts) := by
  unfold objRecord
  split
  · exact SafeFrame.refl s
  · unfold canRecord
    dsimp only
    obtain h | ⟨u, hu, h⟩ := queueOnly_streamOr s (qp := 38 + n) (by omega) (_ ++ leBytes 4 (crc32c _))
      (fun s => errRise (bump s (R.CAN_RPT_LOST_CNT_COUNT n)) (R.CAN_ERR_LOST n) 0 0)
    · exact h.safeFrame
    · exact h ▸ (hu.safeFrame.trans (safeFrame_wr _ (R.CAN_RPT_LOST_CNT_COUNT n) _ (not_safeKept_can hn _ (by decide) (by decide)))).trans
        (safeFrame_errRise _ (R.CAN_ERR_LOST n) _ _ (not_safeKept_can hn _ (by decide) (by decide)))

theorem safeFrame_setPend {k : Nat} (hk : k < 256) (b : Bool) : SafeFrame s (setPend s n k b) := by
  refine safeFrame_wr s (R.CAN_TXPEND_PEND n (k / 32)) _ ?_
  rintro ⟨-, -, -, h, -⟩
  simp only [R.CAN_TXPEND_PEND, R.CAN_TXPEND] at h
  omega

theorem safeFrame_objDone {k : Nat} (hk : k < 256) (kind time : Nat) : SafeFrame s (objDone s n k kind time) := by
  have hrec := safeFrame_objRecord s hn k kind time (objAt s n k).data (objAt s n k).attempts
  unfold objDone
  dsimp only
  split
  · exact hrec.trans (safeFrame_canMod _ _)
  · exact (hrec.trans (safeFrame_canMod _ _)).trans (safeFrame_setPend _ hn hk false)

theorem safeFrame_objLoad_load {k : Nat} (hk : k < 256) (d : List Byte) : SafeFrame s (objLoad.load n k d s) := by
  unfold objLoad.load
  dsimp only
  split
  · exact (((safeFrame_canMod _ _).trans (safeFrame_objDone _ hn hk _ _)).trans (safeFrame_canMod _ _)).trans (safeFrame_setPend _ hn hk _)
  · exact (safeFrame_canMod _ _).trans (safeFrame_setPend _ hn hk _)

theorem safeFrame_objLoad {k : Nat} (hk : k < 256) (d : List Byte) : SafeFrame s (objLoad s n k d) := by
  unfold objLoad
  split
  · split
    · dsimp only
      split
      · exact (safeFrame_objRecord _ hn _ _ _ _ _).trans (safeFrame_canMod _ _)
      · exact safeFrame_canMod _ _
    · exact safeFrame_objLoad_load s hn hk d
  · exact safeFrame_objLoad_load s hn hk d

end

theorem safeFrame_cfgForce (s : State) (key : Nat) (bs : List Byte) : SafeFrame s (cfgForce s key bs) := ⟨fun _ _ => rfl, ⟨_, _, _, _, _, rfl⟩, rfl, rfl, fun _ => ⟨rfl, rfl⟩⟩
theorem safeFrame_stlMod (s : State) (n : Nat) {f : StlSess → StlSess} (hf : ∀ x, (f x).lastPdu = x.lastPdu ∧ (f x).ack = x.ack) :
    SafeFrame s (stlMod s n f) := ⟨fun _ _ => rfl, ⟨_, _, _, _, _, rfl⟩, rfl, rfl, sameAccepted_modAt s.stl n hf⟩

theorem safeFrame_stlLaunch (s : State) (n : Nat) (pdu : List Byte) : SafeFrame s (stlLaunch s n pdu) := by
  have hk : stlU s n 0x24 1 < 256 := fieldAt_lt _ _ 1
  unfold stlLaunch
  dsimp only
  split
  · exact safeFrame_ethHardware _ _ _ _ _
  · split
    next hmed =>
      have hc : stlMedium s n - 2 < 3 := by
        simp only [isCanMed, Bool.and_eq_true, decide_eq_true_eq] at hmed
        omega
      split
      · exact SafeFrame.refl s
      · exact (safeFrame_cfgForce _ _ _).trans (safeFrame_objLoad _ hc hk _)
    next =>
      split
      · exact safeFrame_stlMod _ _ (fun _ => ⟨rfl, rfl⟩)
      · exact SafeFrame.refl s

/-- The session's counters as a frame leaves. -/
def stlCount (x : StlSess) : StlSess := { x with seq := (x.seq + 1) % 2 ^ 32, sent := x.sent + 1 }

theorem stlSend_open {s : State} {n : Nat} (kind : Nat) (host : Bool) (d : List Byte) (h : ¬ (stlSt s n = stlClosed ∨ stlSt s n = stlLost)) :
    stlSend s n kind host d = stlLaunch (stlMod s n stlCount) n (stlPdu s n kind host d) := if_neg h

theorem safeFrame_stlSend (s : State) (n kind : Nat) (host : Bool) (d : List Byte) : SafeFrame s (stlSend s n kind host d) := by
  by_cases h : stlSt s n = stlClosed ∨ stlSt s n = stlLost
  · rw [show stlSend s n kind host d = s from if_pos h]
    exact SafeFrame.refl s
  · rw [stlSend_open kind host d h]
    exact (safeFrame_stlMod s n (f := stlCount) (fun _ => ⟨rfl, rfl⟩)).trans (safeFrame_stlLaunch _ _ _)

theorem safeFrame_stlEvent (s : State) (n kind : Nat) (host : Bool) (d : List Byte) : SafeFrame s (stlEvent s n kind host d) := by
  unfold stlEvent
  split
  · exact safeFrame_stlSend _ _ _ _ _
  · exact SafeFrame.refl s

theorem safeFrame_commCheck (s : State) (n : Nat) : SafeFrame s (commCheck s n) := safeFrame_stlEvent _ _ _ _ _

end Sys2Proof.Laws
end

section
/-! Trips, reset edges and commissioning of SAFE (R308, R322, R323, R326). -/

namespace Sys2Proof.Laws

open Sys2Proof Sys2Proof.Machine

/-! ### A trip (R308) -/

/-- The registers that a trip latches in, and the set, stay. -/
def TripSame (s t : State) : Prop :=
  (∀ a, a = R.SAFE_TRIP_LATCH ∨ a = R.SAFE_FIRST ∨ a = R.SAFE_TRIP_CNT → regGet t a = regGet s a) ∧ t.safe.set = s.safe.set

theorem TripSame.trans {s t u : State} (h : TripSame s t) (k : TripSame t u) : TripSame s u :=
  ⟨fun a ha => (k.1 a ha).trans (h.1 a ha), k.2.trans h.2⟩

theorem SafeFrame.tripSame {s t : State} (h : SafeFrame s t) : TripSame s t := by
  refine ⟨fun a ha => h.regs a ?_, h.resetFields.1⟩
  rcases ha with rfl | rfl | rfl <;> decide

theorem TripSame.rd {s t : State} (h : TripSame s t) (f : Fld) (hf : f.addr = R.SAFE_TRIP_LATCH ∨ f.addr = R.SAFE_FIRST ∨ f.addr = R.SAFE_TRIP_CNT) :
    rd t f = rd s f := by
  unfold Machine.rd
  rw [h.1 _ hf]

theorem TripSame.refl (s : State) : TripSame s s := ⟨fun _ _ => rfl, rfl⟩

theorem tripSame_wr (s : State) (f : Fld) (v : Nat) (h : ¬ (f.addr = R.SAFE_TRIP_LATCH ∨ f.addr = R.SAFE_FIRST ∨ f.addr = R.SAFE_TRIP_CNT)) :
    TripSame s (wr s f v) := ⟨fun a ha => regGet_wr_ne s f v a (fun e => h (e ▸ ha)), rfl⟩

theorem safeFrame_edgeRefuse (s : State) (src res high : Nat) : SafeFrame s (edgeRefuse s src res high) :=
  ((((safeFrame_wr s R.SAFE_RST_LAST_SRC _ (by decide)).trans (safeFrame_wr _ R.SAFE_RST_LAST_RES _ (by decide))).trans
    (safeFrame_wr _ R.SAFE_RST_HIGH_MS _ (by decide))).trans (safeFrame_wr _ R.SAFE_RST_CNT_REFUSED _ (by decide))).trans (safeFrame_safeNote _ _ _ _ _)

/-- No edge waits for re-arming. -/
def unarmed (s : State) : State := { s with safe := { s.safe with rearm := none } }

/-- A trip refuses the edge that waits for re-arming. -/
def tripRefused (s : State) : State := match s.safe.rearm with
  | some src => edgeRefuse (unarmed s) src 7 (rd s R.SAFE_RST_HIGH_MS)
  | none => s

/-- The source latched and counted. -/
def tripLatched (s : State) (c : Nat) : State := bump (putBit s R.SAFE_TRIP_LATCH_SRC c true) R.SAFE_TRIP_CNT_COUNT

/-- FIRST and FIRST_T with a source. -/
def firstShown (s : State) (c tile cell t : Nat) : State :=
  wr (wr (wr (wr (wr (put s R.SAFE_FIRST_VALID true) R.SAFE_FIRST_SRC c) R.SAFE_FIRST_TILE tile) R.SAFE_FIRST_CELL cell) R.SAFE_FIRST_T_LO_TIME t)
    R.SAFE_FIRST_T_HI_TIME (t / 2 ^ 32)

/-- The source latched, FIRST where it is the first. -/
def tripTaken (s : State) (c tile cell : Nat) : State :=
  if flag s R.SAFE_FIRST_VALID then tripLatched s c else firstShown (tripLatched s c) c tile cell (ptNow s)

theorem tripSame_tripRefused (s : State) : TripSame s (tripRefused s) := by
  unfold tripRefused
  split
  · exact TripSame.trans (t := unarmed s) ⟨fun _ _ => rfl, rfl⟩ (safeFrame_edgeRefuse _ _ _ _).tripSame
  · exact TripSame.refl s

theorem tripSame_windowTrip (s : State) : TripSame s (windowTrip s) := by
  have hshut : TripSame s (put s R.SAFE_STATUS_HOLD_WIN false) := tripSame_wr _ _ _ (by decide)
  unfold windowTrip
  dsimp only
  split
  · exact hshut
  · exact ((hshut.trans (tripSame_wr _ R.UPD_STATUS_HOLD_WIN _ (by decide))).trans (tripSame_wr _ R.UPD_HOLD_LAST_US_US _ (by decide))).trans
      ⟨fun _ _ => rfl, rfl⟩

theorem safeFrame_tripNotice (s : State) (bs : List Byte) : SafeFrame s (tripNotice s bs) := by
  unfold tripNotice
  dsimp only
  split
  · exact SafeFrame.refl s
  · exact safeFrame_stlEvent _ _ _ _ _

section
variable {s : State} {c : Nat} (tile cell : Nat)

theorem tripSame_safeTrip (v : Option Int) (n : Nat) (hno : latched s c = false) (hup : blocksUp s = true) :
    TripSame (tripTaken s c tile cell) (safeTrip s c tile cell v n) := by
  have hkept := (tripSame_windowTrip (tripTaken s c tile cell)).trans (tripSame_tripRefused _)
  have hrep : ∀ u k m i cl, TripSame u (safeReport u k c m i cl tile v n) := fun u k m i cl => (reportOnly_safeReport u _ _ _ _ _ _ _ _).safeFrame.tripSame
  have hnotice : ∀ u bs, TripSame u (safeRefresh (tripNotice u bs)) := fun u bs =>
    ((safeFrame_tripNotice u bs).trans (safeFrame_safeRefresh _)).tripSame
  unfold safeTrip
  rw [if_neg (by simp [hno, hup])]
  exact (hkept.trans (hrep _ 1 _ 0 _)).trans (hnotice _ _)

theorem rd_tripLatched (s : State) (c : Nat) (f : Fld) (hlatch : R.SAFE_TRIP_LATCH ≠ f.addr) (hcnt : R.SAFE_TRIP_CNT ≠ f.addr) :
    rd (tripLatched s c) f = rd s f := by
  unfold tripLatched putBit
  rw [rd_bump_ne _ _ _ (.inl hcnt), rd_wr_ne _ _ _ _ (.inl hlatch)]

theorem rd_firstShown_ne (s : State) (c tile cell t : Nat) (f : Fld) (hfirst : R.SAFE_FIRST ≠ f.addr) (hlo : R.SAFE_FIRST_T_LO ≠ f.addr)
    (hhi : R.SAFE_FIRST_T_HI ≠ f.addr) : rd (firstShown s c tile cell t) f = rd s f := by
  unfold firstShown
  rw [rd_wr_ne _ _ _ _ (.inl hhi), rd_wr_ne _ _ _ _ (.inl hlo), rd_wr_ne _ _ _ _ (.inl hfirst), rd_wr_ne _ _ _ _ (.inl hfirst),
    rd_wr_ne _ _ _ _ (.inl hfirst), rd_put_ne _ _ _ _ (.inl hfirst)]

theorem firstShown_shows (s : State) {c : Nat} (tile cell t : Nat) (hc : c < 16) :
    rd (firstShown s c tile cell t) R.SAFE_FIRST_SRC = c ∧ flag (firstShown s c tile cell t) R.SAFE_FIRST_VALID = true := by
  unfold firstShown
  constructor
  · rw [rd_wr_ne _ _ _ _ (by decide), rd_wr_ne _ _ _ _ (by decide), rd_wr_ne _ _ _ _ (by decide), rd_wr_ne _ _ _ _ (by decide),
      rd_wr_self _ _ _ (by decide)]
    exact Nat.mod_eq_of_lt hc
  · rw [flag_wr_ne _ _ _ _ (by decide), flag_wr_ne _ _ _ _ (by decide), flag_wr_ne _ _ _ _ (by decide), flag_wr_ne _ _ _ _ (by decide),
      flag_wr_ne _ _ _ _ (by decide), flag_put_self _ _ _ (by decide) (by decide)]

/-- FIRST alone differs between a first trip and a later one. -/
theorem rd_tripTaken (f : Fld) (hfirst : R.SAFE_FIRST ≠ f.addr) (hlo : R.SAFE_FIRST_T_LO ≠ f.addr) (hhi : R.SAFE_FIRST_T_HI ≠ f.addr) :
    rd (tripTaken s c tile cell) f = rd (tripLatched s c) f := by
  unfold tripTaken
  split
  · rfl
  · exact rd_firstShown_ne _ _ _ _ _ f hfirst hlo hhi

theorem latched_tripTaken (d : Nat) (hd : d < 16) : latched (tripTaken s c tile cell) d = if d = c then true else latched s d := by
  unfold latched bitIn
  rw [rd_tripTaken tile cell _ (by decide) (by decide) (by decide)]
  refine Eq.trans ?_ (bitIn_putBit s R.SAFE_TRIP_LATCH_SRC c d true (by decide) hd)
  unfold tripLatched bitIn
  rw [rd_bump_ne _ _ _ (by decide)]

theorem count_tripTaken : rd (tripTaken s c tile cell) R.SAFE_TRIP_CNT_COUNT = (rd s R.SAFE_TRIP_CNT_COUNT + 1) % 2 ^ 32 := by
  rw [rd_tripTaken tile cell _ (by decide) (by decide) (by decide)]
  unfold tripLatched bump putBit
  rw [rd_wr_self _ _ _ (by decide), rd_wr_ne _ _ _ _ (by decide)]
  rfl

end

/-! ### An accepted edge (R323) -/

theorem rd_withSafe (s : State) (x : SafeSt) (f : Fld) : rd { s with safe := x } f = rd s f := rfl
theorem rd_wr_siStat_latch (s : State) (i v : Nat) : rd (wr s (R.SAFE_SI_STAT_STAT i) v) R.SAFE_TRIP_LATCH_SRC = rd s R.SAFE_TRIP_LATCH_SRC :=
  rd_wr_ne _ _ _ _ (.inl (show R.SAFE_SI_STAT ≠ R.SAFE_TRIP_LATCH by decide))

/-- The state of SAFE after an accepted edge. -/
def edgeTaken (s : State) (src : Nat) : State :=
  bump (wr (wr { s with safe := { s.safe with edge := true, withheld := 0, edgeReq := true, rearm := none } } R.SAFE_RST_LAST_SRC src) R.SAFE_RST_LAST_RES 1)
    R.SAFE_RST_CNT_ACCEPTED

theorem edgeTaken_fields (s : State) (src : Nat) : (edgeTaken s src).safe.edge = true ∧ (edgeTaken s src).safe.rearm = none := ⟨rfl, rfl⟩

theorem rd_edgeTaken_latch (s : State) (src : Nat) : rd (edgeTaken s src) R.SAFE_TRIP_LATCH_SRC = rd s R.SAFE_TRIP_LATCH_SRC := by
  unfold edgeTaken
  rw [rd_bump_ne _ _ _ (by decide), rd_wr_ne _ _ _ _ (by decide), rd_wr_ne _ _ _ _ (by decide)]
  exact rd_congr rfl _

theorem edgeAccept_clears (s : State) (src : Nat) :
    ∃ u, edgeAccept s src = safeRefresh (safeNote (edgeTaken u src) 2 0xFF 0 1) ∧ rd u R.SAFE_TRIP_LATCH_SRC = 0 := by
  unfold edgeAccept
  dsimp only
  generalize hfold : List.foldl _ (List.foldl _ _ _) _ = u
  refine ⟨u, rfl, ?_⟩
  rw [← hfold, rd_foldl (fun u i => ?input), rd_foldl (fun _ _ => rd_wr_ne _ _ _ _ (.inl (show R.SAFE_SO_DIAG ≠ R.SAFE_TRIP_LATCH by decide))),
    rd_wr_ne _ _ _ _ (by decide), rd_wr_ne _ _ _ _ (by decide), rd_wr_ne _ _ _ _ (by decide), rd_wr_ne _ _ _ _ (by decide), rd_wr_self _ _ _ (by decide)]
  · rfl
  case input =>
    split
    · exact (rd_withSafe (wr u (R.SAFE_SI_STAT_STAT i) (setBit (setBit (siStat u i) 4 false) 5 false)) _ _).trans (rd_wr_siStat_latch u i _)
    · rfl

theorem edgeAccept_shows (s : State) (src : Nat) :
    (edgeAccept s src).safe.edge = true ∧ (edgeAccept s src).safe.rearm = none ∧ rd (edgeAccept s src) R.SAFE_TRIP_LATCH_SRC = 0 := by
  obtain ⟨u, heq, hlatch⟩ := edgeAccept_clears s src
  rw [heq]
  have hframe := (safeFrame_safeNote (edgeTaken u src) 2 0xFF 0 1).trans (safeFrame_safeRefresh _)
  obtain ⟨-, hedge, hrearm, -⟩ := hframe.resetFields
  refine ⟨hedge.trans (edgeTaken_fields u src).1, hrearm.trans (edgeTaken_fields u src).2, ?_⟩
  rw [hframe.rd _ (by decide), rd_edgeTaken_latch, hlatch]

/-! ### Edges in time (R322) -/

section
variable {s : State} {k : Nat}

theorem edgeFall_short (src : Nat) (h : k < 10000) : edgeFall s src k = edgeRefuse s src 2 (roundNat k 100) := if_pos h
theorem edgeFall_long (src : Nat) (h : 200000 < k) : edgeFall s src k = edgeRefuse s src 3 2000 := (if_neg (by omega)).trans (if_pos h)
theorem edgeFall_judged (h : 10000 ≤ k) (h' : k ≤ 200000) :
    edgeFall s 1 k = edgeJudge { s with safe := { s.safe with stlHigh := none } } 1 (roundNat k 100) := (if_neg (by omega)).trans (if_neg (by omega))

end

/-! ### Commissioning (R326, R345) -/

theorem namedFollow_safe (s : State) : (namedFollow s).safe = s.safe := by
  have hshow : ∀ (l : List Nat) (p : Nat → Bool) (u : State), (l.foldl (fun s n => put s (R.STL_S_STAT_NAMED n) (p n)) u).safe = u.safe := by
    intro l p u
    induction l generalizing u with
    | nil => rfl
    | cons n l ih => exact ih _
  have hnamed : (namedShow s).safe = s.safe := by
    unfold namedShow
    dsimp only
    rw [wr_safe_eq]
    exact hshow _ (fun n => decide (n ∈ namedSess s)) s
  unfold namedFollow
  dsimp only
  split
  · exact hnamed
  · exact (recOnly_record _ _ _ _ _ _ _).safe.trans hnamed

theorem thrWrite_safe (s : State) : (thrWrite s).safe = s.safe := by
  unfold thrWrite
  split <;> rfl
theorem thrCheck_load (s : State) : (thrCheck s).safe.load = s.safe.load := by
  unfold thrCheck
  split <;> rfl

section
variable {s : State} {n : Nat}

theorem comm_closed (ofs : Nat) (d : List Byte) (v : Nat) (c : Option Nat) (op : Nat) (hno : commOpen s n = false) :
    commLoad s n ofs d = s ∧ commLoadEnd s n = s ∧ commConfirm s n v op = s ∧ commRepair s n c op = s :=
  ⟨if_pos (by simp [hno]), if_pos (by simp [hno]), if_pos (by simp [hno]), if_pos (by simp [hno])⟩

variable (hopen : commOpen s n = true)
include hopen

theorem commLoad_unsafe (ofs : Nat) (d : List Byte) (hno : flag s R.SAFE_STATUS_SAFE_STATE = false) : commLoad s n ofs d = commResult s n 1 :=
  (if_neg (by simp [hopen])).trans (if_pos (by simp [hno]))
theorem commLoadEnd_unsafe (hno : flag s R.SAFE_STATUS_SAFE_STATE = false) : commLoadEnd s n = commResult s n 1 :=
  (if_neg (by simp [hopen])).trans (if_pos (by simp [hno]))

theorem commLoad_takes {ofs : Nat} {d : List Byte} (hsafe : flag s R.SAFE_STATUS_SAFE_STATE = true) (hofs : ofs = 0 ∨ ofs = s.safe.loadNext)
    (hlen : ofs + d.length ≤ 4096) : commLoad s n ofs d =
      commResult { s with safe := { s.safe with load := if ofs = 0 then d else s.safe.load ++ d,
                                                loadNext := (if ofs = 0 then d else s.safe.load ++ d).length } } n 0 :=
  (if_neg (by simp [hopen])).trans ((if_neg (by simp [hsafe])).trans (if_neg (by omega)))

theorem commLoad_refuses {ofs : Nat} {d : List Byte} (hsafe : flag s R.SAFE_STATUS_SAFE_STATE = true)
    (hbad : (ofs ≠ 0 ∧ ofs ≠ s.safe.loadNext) ∨ 4096 < ofs + d.length) : commLoad s n ofs d = commResult (commDrop s) n 4 :=
  (if_neg (by simp [hopen])).trans ((if_neg (by simp [hsafe])).trans (if_pos hbad))

/-- The set taken over at LOAD_END, waiting for its confirmation. -/
def loadTaken (s : State) : State :=
  let s1 := safeReadSet (safeStore s (fun c => { c with set := s.safe.load, pend := true }))
  namedFollow (commDrop { s1 with safe := { s1.safe with repair := false, edge := false } })

omit hopen in
theorem loadTaken_fields (s : State) : (loadTaken s).safe.load = [] ∧ (loadTaken s).safe.repair = false := by
  unfold loadTaken
  dsimp only
  rw [namedFollow_safe]
  exact ⟨rfl, rfl⟩

section
variable (hsafe : flag s R.SAFE_STATUS_SAFE_STATE = true) (hstor : storTakes s = true)
include hsafe hstor

theorem commLoadEnd_none (hload : s.safe.load = []) : commLoadEnd s n = commResult s n 4 :=
  (if_neg (by simp [hopen])).trans ((if_neg (by simp [hsafe, hstor])).trans (if_pos (by simp [hload])))

theorem commLoadEnd_loaded (hload : s.safe.load ≠ []) : commLoadEnd s n = match setRange s s.safe.load with
    | some o => commResult (commDrop (wr (put s R.SAFE_SET_STAT_RANGE_ERR true) R.SAFE_SET_STAT_ERR_OFS o)) n 2
    | none => if !setCheckOk s.safe.load then commResult (commDrop s) n 3
      else commCheck (safeNote (safeRefresh (thrCheck (thrWrite (loadTaken s)))) 7 0xFF 0 0) n :=
  (if_neg (by simp [hopen])).trans ((if_neg (by simp [hsafe, hstor])).trans (if_neg (by simp [hload])))

theorem commLoadEnd_range {o : Nat} (hload : s.safe.load ≠ []) (hrange : setRange s s.safe.load = some o) :
    commLoadEnd s n = commResult (commDrop (wr (put s R.SAFE_SET_STAT_RANGE_ERR true) R.SAFE_SET_STAT_ERR_OFS o)) n 2 := by
  rw [commLoadEnd_loaded hopen hsafe hstor hload, hrange]

theorem commLoadEnd_check (hload : s.safe.load ≠ []) (hrange : setRange s s.safe.load = none) (hbad : setCheckOk s.safe.load = false) :
    commLoadEnd s n = commResult (commDrop s) n 3 := by
  rw [commLoadEnd_loaded hopen hsafe hstor hload, hrange]
  exact if_pos (by simp [hbad])

theorem commLoadEnd_takes (hload : s.safe.load ≠ []) (hrange : setRange s s.safe.load = none) (hgood : setCheckOk s.safe.load = true) :
    commLoadEnd s n = commCheck (safeNote (safeRefresh (thrCheck (thrWrite (loadTaken s)))) 7 0xFF 0 0) n := by
  rw [commLoadEnd_loaded hopen hsafe hstor hload, hrange]
  exact if_neg (by simp [hgood])

omit hopen hsafe hstor in
theorem loadEnd_drops (s : State) (n : Nat) : (commCheck (safeNote (safeRefresh (thrCheck (thrWrite (loadTaken s)))) 7 0xFF 0 0) n).safe.load = [] := by
  have hframe := ((safeFrame_safeRefresh (thrCheck (thrWrite (loadTaken s)))).trans (safeFrame_safeNote _ 7 0xFF 0 0)).trans (safeFrame_commCheck _ n)
  obtain ⟨-, -, -, hload, -⟩ := hframe.resetFields
  rw [hload, thrCheck_load, thrWrite_safe]
  exact (loadTaken_fields s).1

end

theorem commConfirm_none {v op : Nat} (hno : s.safe.set = [] ∨ (flag s R.SAFE_SET_STAT_SET_PENDING = false ∧ s.safe.repair = false)) :
    commConfirm s n v op = commResult s n 4 :=
  (if_neg (by simp [hopen])).trans (if_pos (by rcases hno with h | ⟨h, h'⟩ <;> simp [*]))

section
variable (hset : s.safe.set ≠ []) (hpend : flag s R.SAFE_SET_STAT_SET_PENDING = true ∨ s.safe.repair = true)
include hset hpend

theorem commConfirm_waits (v op : Nat) : commConfirm s n v op =
    if !flag s R.SAFE_STATUS_SAFE_STATE || !storTakes s then commResult s n 1
    else if v ≠ rd s R.SAFE_SET_CHECK_CHECK then commResult s n 3
    else
      let conf := confBytes s ((setSeqMax s + 1) % 2 ^ 32) (rd s R.SAFE_SET_CHECK_CHECK) op
      let s1 := safeReadSet (safeStore s (fun _ => { set := s.safe.set, pend := false, conf := conf }))
      commResult (safeNote (safeRefresh (namedFollow { s1 with safe := { s1.safe with repair := false, edge := false } })) 8 0xFF 0 0) n 0 :=
  (if_neg (by simp [hopen])).trans (if_neg (by rcases hpend with h | h <;> simp [h, hset]))

end

/-- The set of the one good copy. -/
def goodSet (s : State) : List Byte := if copyOk s s.nv.cfgA then s.nv.cfgA.safe.set else s.nv.cfgB.safe.set

/-- The set of the one good copy taken over for a repair. -/
def repairTaken (s : State) (n : Nat) : State :=
  commCheck (safeRefresh (namedFollow (wr { s with safe := { s.safe with set := goodSet s, repair := true } } R.SAFE_SET_CHECK_CHECK (setCheckOf (goodSet s))))) n

theorem commRepair_takes (c : Option Nat) (op : Nat) (hne : copyOk s s.nv.cfgA ≠ copyOk s s.nv.cfgB) :
    commRepair s n c op = match c with
      | some v => commConfirm (repairTaken s n) n v op
      | none => repairTaken s n := by
  unfold commRepair
  rw [if_neg (by simp [hopen])]
  dsimp only
  rw [if_neg (by simpa using hne)]
  rfl

theorem commRepair_agree (c : Option Nat) (op : Nat) (heq : copyOk s s.nv.cfgA = copyOk s s.nv.cfgB) : commRepair s n c op = commResult s n 4 :=
  (if_neg (by simp [hopen])).trans (if_pos (by simpa using heq))

end

end Sys2Proof.Laws

namespace Sys2Proof.Proofs

open Sys2Proof Sys2Proof.Machine Sys2Proof.Laws

/-- Settles O48: what follows the latching of a trip leaves the latch, the count, FIRST and the set alone. -/
theorem aTripLatchesItsSource : Obligations.ATripLatchesItsSource := by
  unfold Obligations.ATripLatchesItsSource
  intro s c tile cell v n hc hno hup t
  have hsame : TripSame (tripTaken s c tile cell) t := tripSame_safeTrip tile cell v n hno hup
  have hpower : t.power = s.power := safeTrip_power s c tile cell v n
  clear_value t
  have hlatch : ∀ d, d < 16 → latched t d = if d = c then true else latched s d := by
    intro d hd
    unfold latched bitIn
    rw [hsame.rd _ (.inl rfl)]
    exact latched_tripTaken tile cell d hd
  refine ⟨by rw [hlatch c hc, if_pos rfl], fun d hd hne => by rw [hlatch d hd, if_neg hne], ?count, ?first, ?later, ?set, hpower⟩
  case count => rw [hsame.rd _ (.inr (.inr rfl)), count_tripTaken]
  case first =>
    intro hvalid
    have htaken : tripTaken s c tile cell = firstShown (tripLatched s c) c tile cell (ptNow s) := if_neg (by simp [hvalid])
    unfold flag
    rw [hsame.rd _ (.inr (.inl rfl)), hsame.rd _ (.inr (.inl rfl)), htaken]
    exact firstShown_shows (tripLatched s c) tile cell (ptNow s) hc
  case later =>
    intro hvalid
    have htaken : tripTaken s c tile cell = tripLatched s c := if_pos hvalid
    rw [hsame.rd _ (.inr (.inl rfl)), htaken, rd_tripLatched _ _ _ (by decide) (by decide)]
  case set =>
    rw [hsame.2]
    unfold tripTaken
    split <;> rfl

/-- Settles O47: each reset and commissioning row takes the path of its rule. -/
theorem safetyResetRowsAct : Obligations.SafetyResetRowsAct := by
  unfold Obligations.SafetyResetRowsAct
  refine ⟨?rise, ?high, ?fall, ?noRun, ?discard, ?discardStl, ?noDiscard, ?complete, ?waits, ?timeout, ?noTimeout, ?closed, ?load, ?unsafeState, ?loadEnd, ?confirm,
    ?noConfirm, ?repair, ?agree⟩
  case rise =>
    intro s hup hlow
    refine ⟨_, congrArg Host.Outcome.next (if_neg (by simp [hup, hlow])), ?_, flag_put_self _ _ _ (by decide) (by decide), rfl, rfl⟩
    rw [flag_put_ne _ _ _ _ (by decide)]
    exact flag_put_self _ _ _ (by decide) (by decide)
  case high => exact fun s hhigh => congrArg Host.Outcome.next (if_pos (by simp [hhigh]))
  case fall =>
    intro s k hup hrun u
    have hfall : exec (.rstInFall k) s = .next (edgeFall u 1 k) := congrArg Host.Outcome.next ((if_neg (by simp [hup])).trans (if_pos hrun))
    exact ⟨fun h => ⟨_, hfall, edgeFall_short 1 h⟩, fun h => ⟨_, hfall, edgeFall_long 1 h⟩, fun h h' => ⟨_, hfall, edgeFall_judged h h'⟩⟩
  case noRun =>
    intro s k hup hrun
    refine ⟨_, congrArg Host.Outcome.next ((if_neg (by simp [hup])).trans (if_neg (by simp [hrun]))), ?_, rfl⟩
    rw [flag_put_ne _ _ _ _ (by decide)]
    exact flag_put_self _ _ _ (by decide) (by decide)
  case discard => exact fun s hrun => ⟨_, congrArg Host.Outcome.next ((if_neg (by decide)).trans (if_pos hrun)), rfl⟩
  case discardStl => exact fun s hrun => ⟨_, congrArg Host.Outcome.next ((if_pos rfl).trans (if_pos hrun)), rfl⟩
  case noDiscard =>
    exact fun s => ⟨fun h => congrArg Host.Outcome.next ((if_neg (by decide)).trans (if_neg (by simp [h]))),
      fun h => congrArg Host.Outcome.next ((if_pos rfl).trans (if_neg (by simp [h])))⟩
  case complete =>
    intro s src hrearm hfog
    refine ⟨edgeAccept (fogDeassert s) src, ?_, rfl, edgeAccept_shows _ src⟩
    change execRearmComplete s = _
    unfold execRearmComplete
    dsimp only
    rw [hrearm]
    exact congrArg Host.Outcome.next (if_neg (by simp [hfog]))
  case waits =>
    intro s h
    change execRearmComplete s = _
    unfold execRearmComplete
    dsimp only
    cases hrearm : (fogDeassert s).safe.rearm with
    | none => rfl
    | some src => exact congrArg Host.Outcome.next (if_pos (h.resolve_right (by simp [hrearm])))
  case timeout =>
    intro s src hrearm
    refine ⟨_, ?_, rfl⟩
    change execRearmTimeout s = _
    unfold execRearmTimeout
    rw [hrearm]
  case noTimeout =>
    intro s hrearm
    change execRearmTimeout s = _
    unfold execRearmTimeout
    rw [hrearm]
  case closed =>
    intro s n ofs d v c op hno
    obtain ⟨hload, hend, hconf, hrep⟩ := comm_closed ofs d v c op hno
    exact ⟨congrArg Host.Outcome.next hload, congrArg Host.Outcome.next hend, congrArg Host.Outcome.next hconf, congrArg Host.Outcome.next hrep⟩
  case load =>
    intro s n ofs d hopen hsafe
    exact ⟨fun hofs hlen => ⟨_, rfl, _, rfl, commLoad_takes hopen hsafe hofs hlen⟩, fun hbad => ⟨_, rfl, commLoad_refuses hopen hsafe hbad⟩⟩
  case unsafeState =>
    exact fun s n ofs d hopen hno => ⟨congrArg Host.Outcome.next (commLoad_unsafe hopen ofs d hno), congrArg Host.Outcome.next (commLoadEnd_unsafe hopen hno)⟩
  case loadEnd =>
    intro s n hopen hsafe hstor
    refine ⟨fun hload => ⟨_, rfl, commLoadEnd_none hopen hsafe hstor hload⟩, fun o hload hrange => ⟨_, rfl, commLoadEnd_range hopen hsafe hstor hload hrange⟩,
      fun hload hrange hbad => ⟨_, rfl, commLoadEnd_check hopen hsafe hstor hload hrange hbad⟩, fun hload hrange hgood => ?_⟩
    exact ⟨_, congrArg Host.Outcome.next (commLoadEnd_takes hopen hsafe hstor hload hrange hgood), loadEnd_drops s n, _, rfl, (loadTaken_fields s).2⟩
  case confirm =>
    intro s n v op hopen hset hpend
    have hconf := commConfirm_waits hopen hset hpend v op
    refine ⟨fun hsafe hstor hv => ?_, fun hsafe hstor hv => ?_, fun hno => ?_⟩
    · refine ⟨_, congrArg Host.Outcome.next (hconf.trans ((if_neg (by simp [hsafe, hstor])).trans (if_neg (by simp [hv])))), _, rfl, ?_⟩
      rw [namedFollow_safe]
    · exact ⟨_, congrArg Host.Outcome.next (hconf.trans ((if_neg (by simp [hsafe, hstor])).trans (if_pos hv))), rfl⟩
    · exact ⟨_, congrArg Host.Outcome.next (hconf.trans (if_pos (by rcases hno with h | h <;> simp [h]))), rfl⟩
  case noConfirm => exact fun s n v op hopen hno => ⟨_, congrArg Host.Outcome.next (commConfirm_none hopen hno), rfl⟩
  case repair =>
    intro s n op hopen hne
    exact ⟨congrArg Host.Outcome.next (commRepair_takes hopen none op hne), fun v => congrArg Host.Outcome.next (commRepair_takes hopen (some v) op hne)⟩
  case agree => exact fun s n c op hopen heq => congrArg Host.Outcome.next (commRepair_agree hopen c op heq)

end Sys2Proof.Proofs
end

section
/-! The safety transport (R330 to R346): a frame that fails a check is not taken, and QP31. -/

namespace Sys2Proof.Laws

open Sys2Proof Sys2Proof.Machine

/-! ### What a failing frame leaves of the session (R335, R339) -/

theorem SameAccepted.refl (l : List StlSess) : SameAccepted l l := fun _ => ⟨rfl, rfl⟩

theorem windowTrip_stl (s : State) : (windowTrip s).stl = s.stl := by
  unfold windowTrip
  dsimp only
  split <;> rfl

theorem sameAccepted_tripRefused (s : State) : SameAccepted s.stl (tripRefused s).stl := by
  unfold tripRefused
  split
  · exact (safeFrame_edgeRefuse (unarmed s) _ _ _).stl
  · exact SameAccepted.refl _

theorem tripTaken_stl (s : State) (c tile cell : Nat) : (tripTaken s c tile cell).stl = s.stl := by
  unfold tripTaken
  split <;> rfl

theorem sameAccepted_safeTrip (s : State) (c tile cell : Nat) (v : Option Int) (n : Nat) : SameAccepted s.stl (safeTrip s c tile cell v n).stl := by
  have hkept : SameAccepted s.stl (tripRefused (windowTrip (tripTaken s c tile cell))).stl := by
    have h := sameAccepted_tripRefused (windowTrip (tripTaken s c tile cell))
    rwa [windowTrip_stl, tripTaken_stl] at h
  have hrep : ∀ u k m i cl, SafeFrame u (safeReport u k c m i cl tile v n) := fun u k m i cl => (reportOnly_safeReport u _ _ _ _ _ _ _ _).safeFrame
  have hnotice : ∀ u bs, SafeFrame u (safeRefresh (tripNotice u bs)) := fun u bs => (safeFrame_tripNotice u bs).trans (safeFrame_safeRefresh _)
  unfold safeTrip
  split
  · exact SameAccepted.refl _
  · exact (hkept.trans (hrep _ 1 _ 0 _).stl).trans (hnotice _ _).stl

theorem stlSetSt_stl (s : State) (n st : Nat) : (stlSetSt s n st).stl = s.stl := rfl

/-- The request of a session gone, and its failures forgotten. -/
def wordGone (x : StlSess) : StlSess := { x with word := 0, errs := [] }

theorem commDrop_stl (s : State) : (commDrop s).stl = s.stl := rfl

/-- The request of a session gone, with the bytes being loaded through it. -/
def sessionCut (s : State) (n : Nat) : State := if stlMedium s n = medRelay then commDrop (stlMod s n wordGone) else stlMod s n wordGone

/-- A watched session trips STL. -/
def lossTrip (s : State) (n : Nat) (trip : Bool) : State := if trip && decide (n ∈ stlWatched s) && s.safe.fw then safeTripPlain s 14 else s

theorem stlLossActs_eq (s : State) (n : Nat) (trip : Bool) : stlLossActs s n trip = safeRefresh (lossTrip (sessionCut s n) n trip) := rfl

theorem sameAccepted_sessionCut (s : State) (n : Nat) : SameAccepted s.stl (sessionCut s n).stl := by
  have hgone : SameAccepted s.stl (stlMod s n wordGone).stl := sameAccepted_modAt s.stl n (f := wordGone) (fun _ => ⟨rfl, rfl⟩)
  unfold sessionCut
  split
  · rw [commDrop_stl]
    exact hgone
  · exact hgone

theorem sameAccepted_lossTrip (s : State) (n : Nat) (trip : Bool) : SameAccepted s.stl (lossTrip s n trip).stl := by
  unfold lossTrip
  split
  · exact sameAccepted_safeTrip _ _ _ _ _ _
  · exact SameAccepted.refl _

theorem sameAccepted_stlLossActs (s : State) (n : Nat) (trip : Bool) : SameAccepted s.stl (stlLossActs s n trip).stl := by
  rw [stlLossActs_eq]
  exact ((sameAccepted_sessionCut s n).trans (sameAccepted_lossTrip _ n trip)).trans (safeFrame_safeRefresh _).stl

theorem sameAccepted_stlVerdict (s : State) (n : Nat) : SameAccepted s.stl (stlVerdict s n).stl := by
  unfold stlVerdict
  split
  · refine SameAccepted.trans ?_ (sameAccepted_stlLossActs _ n true)
    rw [(recOnly_record _ _ _ _ _ _ _).stl]
    exact SameAccepted.refl _
  · exact SameAccepted.refl _

theorem sameAccepted_stlErr (s : State) (n : Nat) : SameAccepted s.stl (stlErr s n).stl := by
  have herrs : ∀ l, SameAccepted s.stl (stlMod s n (fun x => { x with errs := l })).stl := fun l =>
    sameAccepted_modAt s.stl n (f := fun x => { x with errs := l }) (fun _ => ⟨rfl, rfl⟩)
  unfold stlErr
  dsimp only
  split
  · exact (herrs _).trans (sameAccepted_stlVerdict _ n)
  · exact herrs _

section
variable {s : State} {m src : Nat} {pdu : List Byte}

theorem stlReceive_stopped (hcross : crossOk s 10 = false) : stlReceive s m src pdu = s := if_pos (by simp [hcross])

variable (hup : blocksUp s = true) (hrun : flag s R.STL_STATUS_RUN = true) (hcross : crossOk s 10 = true)
include hup hrun hcross

theorem stlReceive_unknown (hfind : stlFind s m src pdu = none) : stlReceive s m src pdu = bump s R.STL_MASQ_CNT_COUNT := by
  unfold stlReceive
  rw [if_neg (by simp [hup, hrun, hcross]), hfind]

theorem stlReceive_misplaced {n : Nat} (hfind : stlFind s m src pdu = some (n, false)) : stlReceive s m src pdu = bump s (R.STL_S_STAT_MASQ n) := by
  unfold stlReceive
  rw [if_neg (by simp [hup, hrun, hcross]), hfind]

theorem stlReceive_broken {n : Nat} (hfind : stlFind s m src pdu = some (n, true)) (hbad : stlCheck m pdu = false) :
    stlReceive s m src pdu = stlErr (bump s (R.STL_S_ERR_CRC_ERR n)) n := by
  unfold stlReceive
  rw [if_neg (by simp [hup, hrun, hcross]), hfind]
  exact if_pos (by simp [hbad])

end

/-! ### Cyclic frames and the verdict -/

section
variable {s : State} {n : Nat}

theorem stlCyclic_silent (h : stlSt s n = stlClosed ∨ stlSt s n = stlLost) : stlCyclic s n = s := if_pos h

theorem stlVerdict_settled (hrun : stlSt s n ≠ stlRun) (hopening : stlSt s n ≠ stlOpening) : stlVerdict s n = s :=
  if_neg (fun h => h.elim hrun hopening)

end

/-! ### QP31 (R346) -/

section
variable {s : State} {e : Entry}

theorem stlSetData_host (hgood : memBad s e.addr e.len = false) (hsrc : stlU s e.arg0 3 1 = 1) (hmed : stlMedium s e.arg0 ≠ 0)
    (hrelay : stlMedium s e.arg0 ≠ medRelay) :
    stlSetData e s = (stlMod s e.arg0 (fun x => { x with data := memBytes s e.addr e.len }), .done 0 0 0) := by
  have hno : ¬ (stlU s e.arg0 3 1 ≠ 1 ∨ stlMedium s e.arg0 = 0 ∨ stlMedium s e.arg0 = medRelay) := by simp [hsrc, hmed, hrelay]
  unfold stlSetData
  dsimp only
  rw [withBuf_ok hgood, if_neg hno]
  rfl

theorem stlSetData_other (hgood : memBad s e.addr e.len = false)
    (hno : stlU s e.arg0 3 1 ≠ 1 ∨ stlMedium s e.arg0 = 0 ∨ stlMedium s e.arg0 = medRelay) : stlSetData e s = (s, .done 0x42 0 0) := by
  unfold stlSetData
  dsimp only
  rw [withBuf_ok hgood, if_pos hno]
  rfl

theorem stlResetCmd_runs (hst : stlSt s e.arg0 = stlRun) (hmed : stlMedium s e.arg0 ≠ 0) (hrelay : stlMedium s e.arg0 ≠ medRelay) :
    stlResetCmd e s = (stlSend s e.arg0 (2 + e.arg1) true [], .done 0 (stlAt s e.arg0).seq 0) :=
  (if_neg (fun h => h hst)).trans (if_neg (fun h => h.elim hmed hrelay))

theorem stlResetCmd_idle (hst : stlSt s e.arg0 ≠ stlRun) : stlResetCmd e s = (s, .done 6 0 0) := if_pos hst

theorem stlRelayRx_takes (hgood : memBad s e.addr e.len = false) (hmed : stlMedium s e.arg0 = medRelay) (hup : relayUp s e.arg0 = true) :
    stlRelayRx e s = (stlReceive s medRelay 0 (memBytes s e.addr e.len), .done 0 0 0) :=
  (if_neg (fun h => h hmed)).trans ((if_neg (by simp [hup])).trans (withBuf_ok hgood _))

theorem stlRelayTx_up (hmed : stlMedium s e.arg0 = medRelay) (hup : relayUp s e.arg0 = true) :
    stlRelayTx e s = match (stlAt s e.arg0).relay with
      | pdu :: rest => okR (stlMod (memWrite s e.addr pdu) e.arg0 (fun x => { x with relay := rest })) pdu.length
      | [] => (s, .await 0) :=
  (if_neg (fun h => h hmed)).trans (if_neg (by simp [hup]))

theorem stlRelayTx_sends {p : List Byte} {ps : List (List Byte)} (hmed : stlMedium s e.arg0 = medRelay) (hup : relayUp s e.arg0 = true)
    (hwait : (stlAt s e.arg0).relay = p :: ps) :
    stlRelayTx e s = (stlMod (memWrite s e.addr p) e.arg0 (fun x => { x with relay := ps }), .done 0 p.length 0) := by
  rw [stlRelayTx_up hmed hup, hwait]
  rfl

theorem stlRelayTx_waits (hmed : stlMedium s e.arg0 = medRelay) (hup : relayUp s e.arg0 = true) (hnone : (stlAt s e.arg0).relay = []) :
    stlRelayTx e s = (s, .await 0) := by rw [stlRelayTx_up hmed hup, hnone]

theorem stlRelayTx_other (hmed : stlMedium s e.arg0 ≠ medRelay) : stlRelayTx e s = (s, .done 0x42 0 0) := if_pos hmed
theorem stlRelayTx_down (hmed : stlMedium s e.arg0 = medRelay) (hno : relayUp s e.arg0 = false) : stlRelayTx e s = (s, .done 6 0 0) :=
  (if_neg (fun h => h hmed)).trans (if_pos (by simp [hno]))

theorem stlSessRead_some (h : (stlAt s e.arg0).lastPdu ≠ []) :
    stlSessRead e s = (memWrite s e.addr ((stlAt s e.arg0).lastPdu ++ leBytes 4 (stlAt s e.arg0).lastUs), .done 0 ((stlAt s e.arg0).lastPdu.length + 4) 0) :=
  if_neg (by simpa using h)
theorem stlSessRead_none (h : (stlAt s e.arg0).lastPdu = []) : stlSessRead e s = (s, .done 6 0 0) := if_pos (by simp [h])

end

end Sys2Proof.Laws

namespace Sys2Proof.Proofs

open Sys2Proof Sys2Proof.Machine Sys2Proof.Laws

/-- Settles O51: whatever a failing frame leads to, a loss and a trip included, no session's accepted frame changes. -/
theorem badFramesAreNotTaken : Obligations.BadFramesAreNotTaken := by
  unfold Obligations.BadFramesAreNotTaken
  refine ⟨fun s m src pdu hup hrun hcross => ⟨stlReceive_unknown hup hrun hcross, fun n => stlReceive_misplaced hup hrun hcross, fun n hfind hbad => ?_⟩,
    fun s m src pdu => stlReceive_stopped⟩
  rw [stlReceive_broken hup hrun hcross hfind hbad]
  exact sameAccepted_stlErr (bump s (R.STL_S_ERR_CRC_ERR n)) n n

/-- Settles O50: each row of STL and QP31 takes the path of its rule. -/
theorem stlRowsAct : Obligations.StlRowsAct := by
  unfold Obligations.StlRowsAct
  refine ⟨?cyclic, ?receive, ?verdict, ?settled, ?setData, ?resetCmd, ?resetIdle, ?relayRx, ?relayTx, ?relayWaits, ?relayOther, ?relayDown, ?sessRead, ?sessNone⟩
  case cyclic => exact fun s n hn hup => ⟨_, congrArg Host.Outcome.next (if_pos ⟨hn, hup⟩), rfl, stlCyclic_silent⟩
  case receive =>
    intro s m src pdu t
    exact ⟨rfl, rfl, rfl, rfl⟩
  case verdict => exact fun s n hn hup _ => ⟨_, congrArg Host.Outcome.next (if_pos ⟨hn, hup⟩), rfl⟩
  case settled =>
    intro s n hrun hopening
    have hsame : stlVerdict s n = s := stlVerdict_settled hrun hopening
    exact congrArg Host.Outcome.next (by rw [hsame, ite_self])
  case setData =>
    intro s e hgoes hgood
    exact ⟨fun hsrc hmed hrelay => leaves_of_act hgoes (stlSetData_host hgood hsrc hmed hrelay) rfl,
      fun hno => leaves_of_act hgoes (stlSetData_other hgood hno) rfl⟩
  case resetCmd => exact fun s e hgoes hst hmed hrelay => leaves_of_act hgoes (stlResetCmd_runs hst hmed hrelay) rfl
  case resetIdle => exact fun s e hgoes hst => leaves_of_act hgoes (stlResetCmd_idle hst) rfl
  case relayRx =>
    intro s e hgoes hgood hmed hup
    refine ⟨_, congrArg Host.Outcome.next (congrArg (relayServe 16) ?_), rfl⟩
    rw [runEntry_goes' hgoes stlRelayRx (by decide), stlRelayRx_takes hgood hmed hup]
  case relayTx =>
    intro s e p ps hgoes hmed hup hwait
    refine leaves_of_act hgoes (stlRelayTx_sends hmed hup hwait) ⟨?_, memWrite_regs_eq s e.addr p, ?_⟩
    · exact (memBytes_congr rfl _ _).trans (memBytes_memWrite s e.addr p)
    · exact congrArg (fun l => modAt l e.arg0 (fun x => { x with relay := ps })) (memWrite_stl_eq s e.addr p)
  case relayWaits => exact fun s e hgoes hmed hup hnone => leaves_of_act hgoes (stlRelayTx_waits hmed hup hnone) rfl
  case relayOther => exact fun s e hgoes hmed => leaves_of_act hgoes (stlRelayTx_other hmed) rfl
  case relayDown => exact fun s e hgoes hmed hno => leaves_of_act hgoes (stlRelayTx_down hmed hno) rfl
  case sessRead => exact fun s e hgoes hsome => leaves_of_act hgoes (stlSessRead_some hsome) rfl
  case sessNone => exact fun s e hgoes hnone => leaves_of_act hgoes (stlSessRead_none hnone) rfl

end Sys2Proof.Proofs
end

section
/-! The members of a pair (R352 to R369): what they do on their own, and the frames that reach them. -/

namespace Sys2Proof.Laws

open Sys2Proof Sys2Proof.Machine

/-! ### What changing the role and claiming leave of RED's state -/

theorem heaterFollow_red (s : State) : (heaterFollow s).red = s.red := by
  unfold heaterFollow
  dsimp only
  repeat' split
  all_goals rfl

theorem driveFollow_red (s : State) : (driveFollow s).red = s.red := by
  unfold driveFollow
  rw [heaterFollow_red]
  exact (safeFrame_pwmShow { s with therm := { s.therm with j10On := false } }).red

theorem roleTake_red (s : State) (r : Nat) : (roleTake s r).red = s.red := by
  unfold roleTake
  split
  · rfl
  · rw [(safeFrame_safeRefresh _).red, driveFollow_red, (recOnly_record _ _ _ _ _ _ _).red]
    rfl

theorem toKeeper_red (s : State) (bs : List Byte) : (toKeeper s bs).red = s.red := by
  unfold toKeeper
  split
  · exact (safeFrame_ethHardware _ _ _ _ _).red
  · unfold keepEmit
    split <;> rfl

theorem keeperSend_red (s : State) (ty arg : Nat) : (keeperSend s ty arg).red = (redCount s).red := toKeeper_red _ _

/-- A claim begins with no answer and no readiness. -/
def claimBegun (s : State) : State := { s with red := { s.red with answered := false, hoReady := false } }

theorem claimStart_eq (s : State) : claimStart s = keeperSend (roleTake (claimBegun s) roleClaiming) 2 0 := rfl

/-- The failure verdict noted. -/
def withVerdict (s : State) : State := { s with red := { s.red with verdict := true } }

theorem claimStart_red (s : State) : (claimStart s).red = (redCount (claimBegun s)).red := by
  rw [claimStart_eq, keeperSend_red]
  unfold redCount
  rw [roleTake_red]

theorem claimStart_fields (s : State) :
    (claimStart s).red.answered = false ∧ (claimStart s).red.verdict = s.red.verdict ∧ (claimStart s).red.seq = (s.red.seq + 1) % 2 ^ 32 := by
  rw [claimStart_red]
  exact ⟨rfl, rfl, rfl⟩

/-! ### The delay set after a path is lost -/

theorem rd_dlyWrite (s : State) (f : Fld) : rd (dlyWrite s) f = rd s f := rfl

section
variable (s : State) (f : Fld) (hf : 0x100B0000 ≤ f.addr ∧ f.addr ≤ 0x100BFFFF)
include hf

theorem rd_dlySet (ds : List (Nat × Nat × Nat)) (hds : ∀ d ∈ ds, d.1 < 24) :
    rd (ds.foldl (fun s d => wr (wr s (R.CHAIN_DLY_DLY_A_NS d.1) d.2.1) (R.CHAIN_DLY_DLY_B_NS d.1) d.2.2) s) f = rd s f := by
  induction ds generalizing s with
  | nil => rfl
  | cons d ds ih =>
    have hd : d.1 < 24 := hds d List.mem_cons_self
    have hne : R.CHAIN_DLY d.1 ≠ f.addr := by
      simp only [R.CHAIN_DLY]
      omega
    rw [List.foldl_cons, ih _ (fun x hx => hds x (List.mem_cons_of_mem _ hx)), rd_wr_ne _ _ _ _ (.inl hne), rd_wr_ne _ _ _ _ (.inl hne)]

theorem rd_dlyForce (ds : List (Nat × Nat × Nat)) (hds : ∀ d ∈ ds, d.1 < 24) : rd (dlyForce s ds) f = rd s f := by
  have hne : R.CHAIN_ALIGN ≠ f.addr := by
    simp only [R.CHAIN_ALIGN]
    omega
  unfold dlyForce
  dsimp only
  rw [rd_dlyWrite, rd_wr_ne _ R.CHAIN_ALIGN_D_ALIGN_NS _ _ (.inl hne)]
  exact rd_dlySet s f hf ds hds

theorem rd_dlyPartner : rd (dlyPartner s) f = rd s f := by
  unfold dlyPartner
  dsimp only
  split
  · rfl
  · refine (rd_congr rfl f).trans (rd_dlyForce s f hf _ (fun d hd => ?_))
    obtain ⟨p, hp, rfl⟩ := List.mem_map.mp hd
    exact List.mem_range.mp (List.mem_of_mem_filter hp)

end

/-! ### Planned handover (R367, R368) -/

section
variable {s : State}

theorem hoStart_shows (s : State) (why : Nat) :
    rd (hoStart s why) R.RED_STATUS_HO_STEP = 1 ∧ flag (hoStart s why) R.RED_STATUS_HO_RUN = true
      ∧ (hoStart s why).red = { s.red with hoWhy := why, hoPeer := false, hoCount := 0 } := by
  refine ⟨rd_wr_self _ _ _ (by decide), ?_, rfl⟩
  unfold hoStart
  rw [flag_wr_ne _ _ _ _ (by decide)]
  exact flag_put_self _ _ _ (by decide) (by decide)

/-- A planned handover that HANDOVER asked for ends with its request. -/
theorem hoAbort_asked {status ext : Nat} (hwhy : s.red.hoWhy = 1) :
    hoAbort s status ext = finishEntry (errRise (hoClear s) R.RED_ERR_HO_ABORT 0 0) 32 (Entry.runs 0x40) status 0 ext := by
  have hno : s.red.hoWhy ≠ 0 := by rw [hwhy]; decide
  have hupd : s.red.hoWhy ≠ 2 := by rw [hwhy]; decide
  exact (if_neg hno).trans (if_neg hupd)

theorem idle_unless_active (h : role s ≠ roleActive) : fenceTake s = s ∧ hoReleaseSend s = s ∧ hoTimeout s = s ∧ degradeTake s = s :=
  ⟨if_pos h, if_pos (.inl h), if_pos h, if_neg (fun hall => h hall.1)⟩

theorem fenceTake_active (h : role s = roleActive) : fenceTake s =
    errRise (bump (roleTake (driveStop { hoAbort s 0x42 0 with red := { (hoAbort s 0x42 0).red with awaitFinal := false } }) roleFenced) R.RED_FENCE_CNT_COUNT)
      R.RED_ERR_FENCED 0 0 := if_neg (fun hne => hne h)

theorem hoReleaseSend_goes (hrole : role s = roleActive) (hstep : rd s R.RED_STATUS_HO_STEP = 1) (hpeer : s.red.hoPeer = true)
    (hquiet : s.red.hoWhy = 5 ∨ (s.safe.seq ≠ 1 ∧ s.safe.seq ≠ 2)) :
    hoReleaseSend s = keeperSend (wr s R.RED_STATUS_HO_STEP 2) 5 (1 - redUnit s) := by
  have hready : ¬ (role s ≠ roleActive ∨ rd s R.RED_STATUS_HO_STEP ≠ 1 ∨ (!s.red.hoPeer) = true) := by simp [hrole, hstep, hpeer]
  have hseq : ¬ (s.red.hoWhy ≠ 5 ∧ (s.safe.seq = 1 ∨ s.safe.seq = 2)) := by omega
  exact (if_neg hready).trans (if_neg hseq)

theorem hoReleaseSend_precharge (hwhy : s.red.hoWhy ≠ 5) (hseq : s.safe.seq = 1 ∨ s.safe.seq = 2) : hoReleaseSend s = s := by
  unfold hoReleaseSend
  split
  · rfl
  · exact if_pos ⟨hwhy, hseq⟩

theorem hoTimeout_step (hrole : role s = roleActive) : hoTimeout s = match rd s R.RED_STATUS_HO_STEP with
    | 1 => if s.red.hoPeer ∨ s.red.hoCount < 3 then s else hoAbort s 0x41 ((missingBit s (peerHealth s)).getD 0xFFFF)
    | 2 => hoAbort s 0x42 0
    | _ => s := if_neg (fun h => h hrole)

theorem hoTimeout_unready (hrole : role s = roleActive) (hstep : rd s R.RED_STATUS_HO_STEP = 1) (hpeer : s.red.hoPeer = false) (hcount : 3 ≤ s.red.hoCount) :
    hoTimeout s = hoAbort s 0x41 ((missingBit s (peerHealth s)).getD 0xFFFF) := by
  rw [hoTimeout_step hrole, hstep]
  exact if_neg (by simp [hpeer, hcount])

theorem hoTimeout_ungranted (hrole : role s = roleActive) (hstep : rd s R.RED_STATUS_HO_STEP = 2) : hoTimeout s = hoAbort s 0x42 0 := by
  rw [hoTimeout_step hrole, hstep]
  rfl

theorem hoTimeout_early (hstep : rd s R.RED_STATUS_HO_STEP = 1) (hcount : s.red.hoCount < 3) : hoTimeout s = s := by
  unfold hoTimeout
  rw [hstep]
  split
  · rfl
  · exact if_pos (.inr hcount)

end

theorem holdoffDone_from {s : State} {x : Nat} (hfrom : s.red.tbFrom = some x) :
    holdoffDone s = decide (x + cfgU s 32 3 2 2 * 250000000 ≤ s.power.ticks) := by
  unfold holdoffDone
  rw [hfrom, Option.any_some]

/-! ### Frames that reach a member (R358 to R362) -/

section
variable {s : State} {path src : Nat} {fr : List Byte}

theorem redReceive_path (hon : pairOn s = true) (hpath : path = 2 → keepPort s = true) : redReceive s path src fr =
    if !redCheckOk fr || decide (fieldAt fr 2 2 ≠ redPair s) then redBad s
    else if fromPeer s path src fr then
      (if (decide (fieldAt fr 0 1 = 1) && decide (fieldAt fr 0x18 1 = roleInit))
          || (decide (1 ≤ redDelta s.red.peerIn (fieldAt fr 8 4)) && decide (redDelta s.red.peerIn (fieldAt fr 8 4) ≤ 2 ^ 31)) then
        (if fieldAt fr 0 1 = 1 then beaconTake s path fr else { s with red := { s.red with peerIn := some (fieldAt fr 8 4) } })
      else if redDelta s.red.peerIn (fieldAt fr 8 4) = 0 then (if fieldAt fr 0 1 = 1 then pathShow s path else s)
      else redBad s)
    else if fromKeeper s path src fr then
      (if decide (1 ≤ redDelta s.red.keepIn (fieldAt fr 8 4)) && decide (redDelta s.red.keepIn (fieldAt fr 8 4) ≤ 2 ^ 31) then
        (if fieldAt fr 0 1 = 3 then grantTake { s with red := { s.red with keepIn := some (fieldAt fr 8 4) } } (fieldAt fr 0x0C 4) (fieldAt fr 0x18 4)
         else if fieldAt fr 0 1 = 4 then denyTake { s with red := { s.red with keepIn := some (fieldAt fr 8 4) } } (fieldAt fr 0x18 4)
         else if fieldAt fr 0 1 = 6 then ackTake { s with red := { s.red with keepIn := some (fieldAt fr 8 4) } } fr
         else { s with red := { s.red with keepIn := some (fieldAt fr 8 4) } })
      else if redDelta s.red.keepIn (fieldAt fr 8 4) = 0 then s
      else redBad s)
    else redBad s := by
  refine if_neg ?_
  by_cases h : path = 2
  · simp [hon, hpath h]
  · simp [hon, h]

theorem redReceive_dropped (hon : pairOn s = true) (hpath : path = 2 → keepPort s = true)
    (hbad : redCheckOk fr = false ∨ fieldAt fr 2 2 ≠ redPair s ∨ (fromPeer s path src fr = false ∧ fromKeeper s path src fr = false)
      ∨ (fromPeer s path src fr = true ∧ fieldAt fr 0x18 1 ≠ roleInit ∧ 2 ^ 31 < redDelta s.red.peerIn (fieldAt fr 8 4))
      ∨ (fromPeer s path src fr = false ∧ 2 ^ 31 < redDelta s.red.keepIn (fieldAt fr 8 4))) : redReceive s path src fr = redBad s := by
  rw [redReceive_path hon hpath]
  rcases hbad with h | h | ⟨hpeer, hkeeper⟩ | ⟨hpeer, hinit, hold⟩ | ⟨hpeer, hold⟩
  · exact if_pos (by simp [h])
  · exact if_pos (by simp [h])
  · rw [hpeer, hkeeper]
    simp only [Bool.false_eq_true, if_false, ite_self]
  · have hnew : ¬ ((decide (fieldAt fr 0 1 = 1) && decide (fieldAt fr 0x18 1 = roleInit))
        || (decide (1 ≤ redDelta s.red.peerIn (fieldAt fr 8 4)) && decide (redDelta s.red.peerIn (fieldAt fr 8 4) ≤ 2 ^ 31))) = true := by
      simp only [hinit, decide_false, Bool.and_false, Bool.false_or, Bool.and_eq_true, decide_eq_true_eq]
      omega
    have hzero : ¬ redDelta s.red.peerIn (fieldAt fr 8 4) = 0 := by omega
    rw [if_pos hpeer, if_neg hnew, if_neg hzero, ite_self]
  · have hnew : ¬ (decide (1 ≤ redDelta s.red.keepIn (fieldAt fr 8 4)) && decide (redDelta s.red.keepIn (fieldAt fr 8 4) ≤ 2 ^ 31)) = true := by
      simp only [Bool.and_eq_true, decide_eq_true_eq]
      omega
    have hzero : ¬ redDelta s.red.keepIn (fieldAt fr 8 4) = 0 := by omega
    have hno : ¬ fromPeer s path src fr = true := by simp [hpeer]
    rw [if_neg hno, if_neg hnew, if_neg hzero, ite_self, ite_self]

/-- The pair link and the ring are the only paths of the partner. -/
theorem fromPeer_path (h : fromPeer s path src fr = true) : path ≠ 2 := by
  rintro rfl
  simp [fromPeer] at h

theorem pathShow_shows (s : State) (path : Nat) :
    (pathShow s path).red = s.red ∧ flag (pathShow s path) (if path = 0 then R.RED_STATUS_PEER_J5 else R.RED_STATUS_PEER_RING) = true
      ∧ flag (pathShow s path) R.RED_STATUS_LONE = false := by
  refine ⟨rfl, ?_, flag_put_self _ _ _ (by decide) (by decide)⟩
  unfold pathShow
  split <;> exact (flag_put_ne _ _ _ _ (by decide)).trans (flag_put_self _ _ _ (by decide) (by decide))

section
variable (hon : pairOn s = true) (hcheck : redCheckOk fr = true) (hpair : fieldAt fr 2 2 = redPair s)
include hon hcheck hpair

section
variable (hpeer : fromPeer s path src fr = true) (hty : fieldAt fr 0 1 = 1)
include hpeer hty

theorem redReceive_beacon (hlow : 1 ≤ redDelta s.red.peerIn (fieldAt fr 8 4)) (hhigh : redDelta s.red.peerIn (fieldAt fr 8 4) ≤ 2 ^ 31) :
    redReceive s path src fr = beaconTake s path fr := by
  rw [redReceive_path hon (fun h => absurd h (fromPeer_path hpeer)), if_neg (by simp [hcheck, hpair]), if_pos hpeer,
    if_pos (Bool.or_eq_true_iff.mpr (.inr (Bool.and_eq_true_iff.mpr ⟨decide_eq_true hlow, decide_eq_true hhigh⟩))), if_pos hty]

theorem redReceive_copy (hinit : fieldAt fr 0x18 1 ≠ roleInit) (hzero : redDelta s.red.peerIn (fieldAt fr 8 4) = 0) :
    redReceive s path src fr = pathShow s path := by
  rw [redReceive_path hon (fun h => absurd h (fromPeer_path hpeer)), if_neg (by simp [hcheck, hpair]), if_pos hpeer, if_neg (by simp [hinit, hzero]), if_pos hzero,
    if_pos hty]

end

section
variable (hpath : path = 2 → keepPort s = true) (hpeer : fromPeer s path src fr = false) (hkeeper : fromKeeper s path src fr = true)
include hpath hpeer hkeeper

theorem redReceive_keeperCopy (hzero : redDelta s.red.keepIn (fieldAt fr 8 4) = 0) : redReceive s path src fr = s := by
  rw [redReceive_path hon hpath, if_neg (by simp [hcheck, hpair]), if_neg (by simp [hpeer]), if_pos hkeeper, if_neg (by simp [hzero]), if_pos hzero]

/-- The Keeper's latest sequence number noted. -/
def keeperSeen (s : State) (fr : List Byte) : State := { s with red := { s.red with keepIn := some (fieldAt fr 8 4) } }

theorem redReceive_keeper (hlow : 1 ≤ redDelta s.red.keepIn (fieldAt fr 8 4)) (hhigh : redDelta s.red.keepIn (fieldAt fr 8 4) ≤ 2 ^ 31) :
    redReceive s path src fr = if fieldAt fr 0 1 = 3 then grantTake (keeperSeen s fr) (fieldAt fr 0x0C 4) (fieldAt fr 0x18 4)
      else if fieldAt fr 0 1 = 4 then denyTake (keeperSeen s fr) (fieldAt fr 0x18 4)
      else if fieldAt fr 0 1 = 6 then ackTake (keeperSeen s fr) fr else keeperSeen s fr := by
  rw [redReceive_path hon hpath, if_neg (by simp [hcheck, hpair]), if_neg (by simp [hpeer]), if_pos hkeeper,
    if_pos (Bool.and_eq_true_iff.mpr ⟨decide_eq_true hlow, decide_eq_true hhigh⟩)]
  rfl

end

end

/-! ### The Keeper's answers (R353, R365, R367) -/

theorem grantTake_other {u : State} {ep arg : Nat} (h : arg ≠ redUnit u ∨ ep ≤ epochNow u) : grantTake u ep arg = u :=
  if_pos (h.elim .inl (fun h => .inr (.inl h)))

/-- A granted unit: it has its answer and is no longer being readied. -/
def granted (s : State) (ep : Nat) : State :=
  { activeEnter s ep with red := { (activeEnter s ep).red with hoReady := false, answered := true } }

theorem grantTake_taken {u : State} {ep arg : Nat} (hunit : arg = redUnit u) (hep : epochNow u < ep) (hrole : role u = roleStandby ∨ role u = roleClaiming) :
    grantTake u ep arg = if decide (role u = roleStandby) && decide (fieldAt u.red.latest 0x19 1 ≠ 3) then
        { granted u ep with red := { (granted u ep).red with awaitFinal := true } }
      else takeOver (granted u ep) := by
  have hno : ¬ (arg ≠ redUnit u ∨ ep ≤ epochNow u ∨ (role u ≠ roleStandby ∧ role u ≠ roleClaiming)) := by
    rintro (h | h | ⟨h, h'⟩)
    · exact h hunit
    · omega
    · exact hrole.elim h h'
  exact if_neg hno

/-- A DENY counted and noted. -/
def denied (s : State) (cause : Nat) : State := errRise (bump s R.RED_DENY_CNT_COUNT) R.RED_ERR_DENIED 0 cause

theorem rd_denied (u : State) (cause : Nat) (f : Fld) (hf : f.addr = R.RED_STATUS) : rd (denied u cause) f = rd u f := by
  have hoff : OffRec f.addr := by rw [hf]; decide
  unfold denied errRise
  dsimp only
  rw [(recOnly_record _ _ _ _ _ _ _).rd f hoff, rd_put_ne _ _ _ _ (.inl (by rw [hf]; decide)), rd_bump_ne _ _ _ (.inl (by rw [hf]; decide))]

theorem denyTake_eq (u : State) (cause : Nat) : denyTake u cause =
    if role u = roleClaiming then roleTake { denied u cause with red := { (denied u cause).red with answered := true, verdict := false } } roleStandby
    else if role u = roleActive ∧ rd u R.RED_STATUS_HO_STEP = 2 then hoAbort (denied u cause) 0x42 cause
    else denied u cause := by
  have hrole : role (denied u cause) = role u := rd_denied u cause _ rfl
  have hstep : rd (denied u cause) R.RED_STATUS_HO_STEP = rd u R.RED_STATUS_HO_STEP := rd_denied u cause _ rfl
  unfold denyTake
  change (if role (denied u cause) = roleClaiming then _
    else if role (denied u cause) = roleActive ∧ rd (denied u cause) R.RED_STATUS_HO_STEP = 2 then _ else _) = _
  rw [hrole, hstep]
  rfl

theorem ackTake_waiting {u : State} (h : role u = roleStandby ∨ role u = roleClaiming) : ackTake u fr = put u R.RED_STATUS_KEEPER_OK true := by
  have hrole : role (put u R.RED_STATUS_KEEPER_OK true) = role u := rd_put_ne _ _ _ _ (by decide)
  have hactive : role (put u R.RED_STATUS_KEEPER_OK true) ≠ roleActive := by rw [hrole]; rcases h with h | h <;> rw [h] <;> decide
  have hfenced : role (put u R.RED_STATUS_KEEPER_OK true) ≠ roleFenced := by rw [hrole]; rcases h with h | h <;> rw [h] <;> decide
  exact (if_neg (fun hc => hactive hc.1)).trans ((if_neg (fun hc => hfenced hc.1)).trans (if_neg (fun hc => hfenced hc.1)))

theorem updStandby_none {u : State} (h : u.upd.await = none) : updStandby u = u := by
  unfold updStandby
  rw [h]

end

end Sys2Proof.Laws

namespace Sys2Proof.Proofs

open Sys2Proof Sys2Proof.Machine Sys2Proof.Laws

/-- Settles O52: each row that a member of a pair does on its own. -/
theorem pairRowsAct : Obligations.PairRowsAct := by
  unfold Obligations.PairRowsAct
  refine ⟨?beacon, ?init, ?verdict, ?resend, ?hold, ?fence, ?idle, ?handover, ?noPeer, ?runs, ?release, ?precharge, ?unready, ?early, ?ungranted, ?final, ?degrade,
    ?holdoff, ?holdoffWaits, ?lone, ?ring, ?keeper⟩
  case beacon => exact fun s now hon => ⟨_, rfl, if_neg (by simp [hon])⟩
  case init =>
    intro s hon hrole
    refine ⟨_, congrArg Host.Outcome.next (if_pos (by simp [hon, hrole])), claimStart_eq s, ?_⟩
    obtain ⟨hans, -, hseq⟩ := claimStart_fields s
    exact ⟨hans, hseq⟩
  case verdict =>
    intro s hon hrole
    have hexec : exec .failureVerdict s = .next (claimStart (withVerdict (errRise s R.RED_ERR_BEACON_LOST 0 0))) :=
      congrArg Host.Outcome.next ((if_pos hon).trans (if_neg (fun h => h hrole)))
    obtain ⟨-, hverdict, -⟩ := claimStart_fields (withVerdict (errRise s R.RED_ERR_BEACON_LOST 0 0))
    exact ⟨_, hexec, ⟨_, rfl, rfl⟩, hverdict⟩
  case resend => exact fun s hon hrole hans => ⟨_, congrArg Host.Outcome.next (if_pos (by simp [hon, hrole, hans])), rfl⟩
  case hold => exact fun s hon hfollows => ⟨_, congrArg Host.Outcome.next ((if_pos hon).trans (if_neg (by simp [hfollows]))), _, rfl, rfl⟩
  case fence =>
    intro s hon hrole
    exact ⟨_, congrArg Host.Outcome.next ((if_pos hon).trans (fenceTake_active hrole)), _, _, rfl, rfl, rfl,
      flag_errRise_self _ R.RED_ERR_FENCED _ _ (by decide) (by decide) (by decide)⟩
  case idle =>
    intro s hrole
    obtain ⟨hfence, hrel, htime, hdeg⟩ := idle_unless_active hrole
    exact ⟨congrArg Host.Outcome.next (by rw [hfence, ite_self]), congrArg Host.Outcome.next (by rw [hrel, ite_self]),
      congrArg Host.Outcome.next (by rw [htime, ite_self]), congrArg Host.Outcome.next (by rw [hdeg, ite_self])⟩
  case handover =>
    intro s e hgoes hrole hpeer hwhy
    have hact : redHandover e s = (hoStart s 1, .running 0) :=
      (if_neg (fun h => h hrole)).trans ((if_neg (by simp [hpeer])).trans (if_neg (fun h => h hwhy)))
    obtain ⟨hstep, hrun, hred⟩ := hoStart_shows s 1
    refine leaves_of_act hgoes hact ⟨hstep, hrun, ?_⟩
    rw [hred]
    exact ⟨rfl, rfl, rfl⟩
  case noPeer =>
    intro s e hgoes hrole hpeer
    have hact : redHandover e s = (s, .done 0x43 0 0) := (if_neg (fun h => h hrole)).trans (if_pos (by simp [hpeer]))
    exact leaves_of_act hgoes hact rfl
  case runs =>
    intro s e hgoes hrole hpeer hwhy
    have hact : redHandover e s = (s, .done 6 0 0) := (if_neg (fun h => h hrole)).trans ((if_neg (by simp [hpeer])).trans (if_pos hwhy))
    exact leaves_of_act hgoes hact rfl
  case release =>
    exact fun s hon hrole hstep hpeer hquiet =>
      ⟨_, congrArg Host.Outcome.next ((if_pos hon).trans (hoReleaseSend_goes hrole hstep hpeer hquiet)), rfl⟩
  case precharge =>
    intro s hwhy hseq
    have hsame := hoReleaseSend_precharge hwhy hseq
    exact congrArg Host.Outcome.next (by rw [hsame, ite_self])
  case unready =>
    intro s hon hrole hstep hpeer hcount hwhy
    exact ⟨_, congrArg Host.Outcome.next ((if_pos hon).trans ((hoTimeout_unready hrole hstep hpeer hcount).trans (hoAbort_asked hwhy))), rfl⟩
  case early =>
    intro s hstep hcount
    have hsame := hoTimeout_early hstep hcount
    exact congrArg Host.Outcome.next (by rw [hsame, ite_self])
  case ungranted =>
    intro s hon hrole hstep hwhy
    exact ⟨_, congrArg Host.Outcome.next ((if_pos hon).trans ((hoTimeout_ungranted hrole hstep).trans (hoAbort_asked hwhy))), rfl⟩
  case final => exact fun s hon hrole hawait => ⟨_, congrArg Host.Outcome.next (if_pos (by simp [hon, hrole, hawait])), rfl⟩
  case degrade =>
    intro s hon hrole hwhy hpeer hill
    have hmissing : (missingBit s (healthNow s)).isSome = true := by
      unfold healthy at hill
      simpa using hill
    obtain ⟨hstep, hrun, hred⟩ := hoStart_shows s 4
    refine ⟨_, congrArg Host.Outcome.next ((if_pos hon).trans (if_pos ⟨hrole, hwhy, hpeer, hmissing⟩)), ?_, hstep, hrun⟩
    rw [hred]
  case holdoff =>
    intro s x hon hfrom htime hruns
    have hdone : holdoffDone s = true := (holdoffDone_from hfrom).trans (decide_eq_true htime)
    exact ⟨_, congrArg Host.Outcome.next (if_pos (by simp [hon, hdone, hruns])), flag_put_self _ _ _ (by decide) (by decide), rfl⟩
  case holdoffWaits =>
    intro s x hfrom htime
    have hdone : holdoffDone s = false := (holdoffDone_from hfrom).trans (decide_eq_false (Nat.not_le.mpr htime))
    exact congrArg Host.Outcome.next (if_neg (by simp [hdone]))
  case lone =>
    intro s ring hon hno
    have hj5 : ∀ u, u = put s R.RED_STATUS_PEER_J5 false ∨ u = put (put s R.RED_STATUS_PEER_J5 false) R.RED_STATUS_PEER_RING false →
        flag u R.RED_STATUS_PEER_J5 = false ∧ flag u R.RED_STATUS_PEER_RING = false := by
      rintro u (rfl | rfl)
      · exact ⟨flag_put_self _ _ _ (by decide) (by decide), (flag_put_ne _ _ _ _ (by decide)).trans hno⟩
      · exact ⟨(flag_put_ne _ _ _ _ (by decide)).trans (flag_put_self _ _ _ (by decide) (by decide)), flag_put_self _ _ _ (by decide) (by decide)⟩
    have hcase : ∀ r : Bool, (if r then put (put s R.RED_STATUS_PEER_J5 false) R.RED_STATUS_PEER_RING false else put s R.RED_STATUS_PEER_J5 false)
          = put s R.RED_STATUS_PEER_J5 false
        ∨ (if r then put (put s R.RED_STATUS_PEER_J5 false) R.RED_STATUS_PEER_RING false else put s R.RED_STATUS_PEER_J5 false)
          = put (put s R.RED_STATUS_PEER_J5 false) R.RED_STATUS_PEER_RING false := fun r => by cases r <;> simp
    obtain ⟨hpeer, hring⟩ := hj5 _ (hcase ring)
    refine ⟨_, congrArg Host.Outcome.next (if_neg (by simp [hon])), _, congrArg holdoffFollow (if_neg (by simp [peerHeard, hpeer, hring])), ?_,
      flag_put_self _ _ _ (by decide) (by decide)⟩
    refine (flag_put_ne _ _ _ _ (by decide)).trans ?_
    unfold flag at hpeer ⊢
    rw [rd_dlyPartner _ _ (by decide)]
    exact hpeer
  case ring =>
    intro s hon hj5
    have hheard : peerHeard (put s R.RED_STATUS_PEER_RING false) = true := by
      unfold peerHeard
      rw [flag_put_ne _ _ _ _ (by decide), hj5]
      rfl
    exact ⟨_, congrArg Host.Outcome.next (if_neg (by simp [hon])), congrArg holdoffFollow (if_pos hheard)⟩
  case keeper => exact fun s hon hok => ⟨_, congrArg Host.Outcome.next (if_pos (by simp [hon, hok])), rfl⟩

/-- Settles O53: a frame takes the path of its sender, its sequence number and its type. -/
theorem pairFramesAreTaken : Obligations.PairFramesAreTaken := by
  unfold Obligations.PairFramesAreTaken
  refine ⟨?rows, ?dropped, ?beacon, ?copy, ?keeper, ?keeperCopy⟩
  case rows =>
    intro s path src fr _ t
    exact ⟨rfl, rfl, rfl, fun h => congrArg Host.Outcome.next (updStandby_none h)⟩
  case dropped => exact fun s path src fr hon hpath hbad => ⟨_, rfl, redReceive_dropped hon hpath hbad⟩
  case beacon => exact fun s path src fr hon hcheck hpair hpeer hty hlow hhigh => ⟨_, rfl, redReceive_beacon hon hcheck hpair hpeer hty hlow hhigh⟩
  case copy =>
    intro s path src fr hon hcheck hpair hpeer hty hinit hzero
    exact ⟨_, congrArg Host.Outcome.next (redReceive_copy hon hcheck hpair hpeer hty hinit hzero), pathShow_shows s path⟩
  case keeper =>
    intro s path src fr hon hpath hcheck hpair hpeer hkeeper hlow hhigh u ep arg v w d
    have hrec := redReceive_keeper hon hcheck hpair hpath hpeer hkeeper hlow hhigh
    have hu : keeperSeen s fr = u := rfl
    have hw : granted u ep = w := rfl
    have hd : denied u arg = d := rfl
    have hroleU : role u = role s := rfl
    have hstepU : rd u R.RED_STATUS_HO_STEP = rd s R.RED_STATUS_HO_STEP := rfl
    have hunitU : redUnit u = redUnit s := rfl
    have hepU : epochNow u = epochNow s := rfl
    have hlateU : u.red.latest = s.red.latest := rfl
    have hawaitU : u.upd.await = s.upd.await := rfl
    have heq : fieldAt fr 0x0C 4 = ep := rfl
    have harg : fieldAt fr 0x18 4 = arg := rfl
    clear_value w d v u ep arg
    rw [hu, heq, harg] at hrec
    refine ⟨fun hty hno => ?_, fun hty hunit hep hrole => ?_, fun hty hunit hep hrole hlate => ?_, fun hty hunit hep hrole hlate => ?_, fun hty hrole => ?_,
      fun hty hrole hstep => ?_, fun hty hrole hstep => ?_, fun hty hrole hawait => ?_⟩
    · exact ⟨_, congrArg Host.Outcome.next (hrec.trans (if_pos hty)), grantTake_other (by rwa [hunitU, hepU])⟩
    · have hne : ¬ role u = roleStandby := by
        rw [hroleU, hrole]
        decide
      have htaken := grantTake_taken (u := u) (hunit.trans hunitU.symm) (hepU ▸ hep) (.inr (hroleU.trans hrole))
      rw [if_neg (by simp [hne]), hw] at htaken
      exact ⟨_, congrArg Host.Outcome.next (hrec.trans (if_pos hty)), htaken⟩
    · have htaken := grantTake_taken (u := u) (hunit.trans hunitU.symm) (hepU ▸ hep) (.inl (hroleU.trans hrole))
      rw [hlateU, if_pos (Bool.and_eq_true_iff.mpr ⟨decide_eq_true (hroleU.trans hrole), decide_eq_true hlate⟩), hw] at htaken
      exact ⟨_, congrArg Host.Outcome.next (hrec.trans (if_pos hty)), htaken⟩
    · have htaken := grantTake_taken (u := u) (hunit.trans hunitU.symm) (hepU ▸ hep) (.inl (hroleU.trans hrole))
      rw [hlateU, if_neg (fun h => of_decide_eq_true (p := fieldAt s.red.latest 0x19 1 ≠ 3) (Bool.and_eq_true_iff.mp h).2 hlate), hw] at htaken
      exact ⟨_, congrArg Host.Outcome.next (hrec.trans (if_pos hty)), htaken⟩
    all_goals
      have hnot3 : ¬ fieldAt fr 0 1 = 3 := by omega
      have hdeny := denyTake_eq u arg
      rw [hroleU, hstepU, hd] at hdeny
    · rw [if_pos hrole] at hdeny
      exact ⟨_, congrArg Host.Outcome.next (hrec.trans ((if_neg hnot3).trans (if_pos hty))), hdeny⟩
    · rw [if_neg (by rw [hrole]; decide), if_pos ⟨hrole, hstep⟩] at hdeny
      exact ⟨_, congrArg Host.Outcome.next (hrec.trans ((if_neg hnot3).trans (if_pos hty))), hdeny⟩
    · rw [if_neg hrole, if_neg (fun h => hstep h.2)] at hdeny
      exact ⟨_, congrArg Host.Outcome.next (hrec.trans ((if_neg hnot3).trans (if_pos hty))), hdeny⟩
    · have hnot4 : ¬ fieldAt fr 0 1 = 4 := by omega
      have hack : redReceive s path src fr = put u R.RED_STATUS_KEEPER_OK true :=
        hrec.trans ((if_neg hnot3).trans ((if_neg hnot4).trans ((if_pos hty).trans (ackTake_waiting (by rwa [hroleU])))))
      exact ⟨_, congrArg (fun x => Host.Outcome.next (updStandby x)) hack, updStandby_none (hawaitU.trans hawait)⟩
  case keeperCopy =>
    intro s path src fr hon hpath hcheck hpair hpeer hkeeper hzero
    have hsame := redReceive_keeperCopy hon hcheck hpair hpath hpeer hkeeper hzero
    exact ⟨congrArg Host.Outcome.next hsame, congrArg Host.Outcome.next hsame,
      fun h => (congrArg (fun x => Host.Outcome.next (updStandby x)) hsame).trans (congrArg Host.Outcome.next (updStandby_none h))⟩

end Sys2Proof.Proofs
end

section
/-! The Keeper service (R360, R361, R371). -/

namespace Sys2Proof.Laws

open Sys2Proof Sys2Proof.Machine

/-- A change of one element that keeps a part of it keeps that part of every element. -/
theorem getD_modAt_keeps {α β : Type} (g : α → β) {f : α → α} (hf : ∀ x, g (f x) = g x) (l : List α) (k j : Nat) (d : α) :
    g ((modAt l k f).getD j d) = g (l.getD j d) := by
  simp only [modAt, List.getD_eq_getElem?_getD, List.getElem?_modify]
  cases l[j]? with
  | none => simp
  | some x =>
    by_cases hk : k = j
    · simpa [hk] using hf x
    · simp [hk]

/-! ### Frames that reach the service -/

/-- The way by which a pair's units reach the Keeper. -/
def ksWay (s : State) (p path : Nat) : State := ksMod s p (fun k => { k with direct := decide (path = 2) })

section
variable (s : State) (p path : Nat)

theorem ksAt_ksWay_claim : (ksAt (ksWay s p path) p).claim = (ksAt s p).claim :=
  getD_modAt_keeps KsPair.claim (f := fun k => { k with direct := decide (path = 2) }) (fun _ => rfl) s.red.ks p p KsPair.init
theorem ksAt_ksWay_active : (ksAt (ksWay s p path) p).active = (ksAt s p).active :=
  getD_modAt_keeps KsPair.active (f := fun k => { k with direct := decide (path = 2) }) (fun _ => rfl) s.red.ks p p KsPair.init
theorem ksFree_ksWay : ksFree (ksWay s p path) p = ksFree s p := by
  unfold ksFree
  rw [ksAt_ksWay_active]
  rfl

end

section
variable {s : State} {path src p : Nat} {fr : List Byte}

theorem ksReceive_ignored (h : flag s R.RED_CFG_KSVC = false ∨ blocksUp s = false ∨ redCheckOk fr = false ∨ 1 < fieldAt fr 4 1) :
    ksReceive s path src fr = s := by
  refine if_pos ?_
  rcases h with h | h | h | h <;> simp [h]

theorem ksReceive_pair (hksvc : flag s R.RED_CFG_KSVC = true) (hup : blocksUp s = true) (hcheck : redCheckOk fr = true) (hunit : fieldAt fr 4 1 ≤ 1)
    (hpath : path = 2 → keepPort s = true)
    (hpair : (List.range (ksCount s)).find? (fun p => decide (ksPairId s p = fieldAt fr 2 2)) = some p)
    (hsrc : path = 1 → src = ksAddr s p (fieldAt fr 4 1)) :
    ksReceive s path src fr = if fieldAt fr 0 1 = 1 then ksBeacon (ksWay s p path) p (fieldAt fr 4 1) fr
      else if fieldAt fr 0 1 = 2 then ksClaim (ksWay s p path) p (fieldAt fr 4 1) (fieldAt fr 0x0C 4)
      else if fieldAt fr 0 1 = 5 then ksRelease (ksWay s p path) p (fieldAt fr 4 1) (fieldAt fr 0x18 4)
      else ksWay s p path := by
  have hgo : ¬ (!flag s R.RED_CFG_KSVC || !blocksUp s || !redCheckOk fr || decide (1 < fieldAt fr 4 1) || (decide (path = 2) && !keepPort s)) = true := by
    by_cases h : path = 2
    · simp [hksvc, hup, hcheck, hunit, hpath h]
    · simp [hksvc, hup, hcheck, hunit, h]
  unfold ksReceive
  dsimp only
  rw [if_neg hgo, hpair]
  exact if_neg (fun h => h.2 (hsrc h.1))

end

/-! ### Claims and releases (R360) -/

section
variable {s : State} {p u ep : Nat}

theorem ksClaim_cold (hcold : flag s (R.RED_KS_STATE_WARM p) = false) : ksClaim s p u ep = ksDeny s p (ksPairId s p) u 5 := if_pos (by simp [hcold])

theorem ksClaim_warm (hwarm : flag s (R.RED_KS_STATE_WARM p) = true) : ksClaim s p u ep = match (ksAt s p).claim with
    | some c => if c.1 ≠ u then ksDeny s p (ksPairId s p) u 2 else ksMod s p (fun k => { k with claim := some (u, ep) })
    | none => if ksFree s p then ksGrant s p u ep
      else put (ksMod s p (fun k => { k with claim := some (u, ep) })) (R.RED_KS_STATE_PENDING p) true := if_neg (by simp [hwarm])

theorem ksClaim_free (hwarm : flag s (R.RED_KS_STATE_WARM p) = true) (hnone : (ksAt s p).claim = none) (hfree : ksFree s p = true) :
    ksClaim s p u ep = ksGrant s p u ep := by
  rw [ksClaim_warm hwarm, hnone]
  exact if_pos hfree

theorem ksClaim_waits (hwarm : flag s (R.RED_KS_STATE_WARM p) = true) (hnone : (ksAt s p).claim = none) (hheld : ksFree s p = false) :
    ksClaim s p u ep = put (ksMod s p (fun k => { k with claim := some (u, ep) })) (R.RED_KS_STATE_PENDING p) true := by
  rw [ksClaim_warm hwarm, hnone]
  exact if_neg (by simp [hheld])

theorem ksClaim_again {c : Nat × Nat} (hwarm : flag s (R.RED_KS_STATE_WARM p) = true) (hclaim : (ksAt s p).claim = some c) :
    ksClaim s p u ep = if c.1 = u then ksMod s p (fun k => { k with claim := some (u, ep) }) else ksDeny s p (ksPairId s p) u 2 := by
  rw [ksClaim_warm hwarm, hclaim]
  exact ite_not ..

theorem ksRelease_holder {dst : Nat} (hholder : rd s (R.RED_KS_STATE_HOLDER p) = u) (hdst : dst = 1 - u) : ksRelease s p u dst =
    ksSend (ksSend (ksHold s p ((rd s (R.RED_KS_EPOCH_EPOCH p) + 1) % 2 ^ 32) (1 - u)) p (ksPairId s p) (1 - u) 3 (1 - u)
      ((rd s (R.RED_KS_EPOCH_EPOCH p) + 1) % 2 ^ 32)) p (ksPairId s p) u 6 (1 - u) ((rd s (R.RED_KS_EPOCH_EPOCH p) + 1) % 2 ^ 32) := by
  subst hdst
  exact if_neg (fun h => h.elim (fun h => h hholder) (fun h => h rfl))

theorem ksRelease_other {dst : Nat} (hno : rd s (R.RED_KS_STATE_HOLDER p) ≠ u ∨ dst ≠ 1 - u) : ksRelease s p u dst = ksDeny s p (ksPairId s p) u 3 := if_pos hno

theorem ksServe_free (hclaim : (ksAt s p).claim = some (u, ep)) (hfree : ksFree s p = true) : ksServe s p = ksGrant s p u ep := by
  unfold ksServe
  rw [hclaim]
  exact if_pos hfree

theorem ksServe_held (hheld : ksFree s p = false) : ksServe s p = s := by
  unfold ksServe
  split
  · exact if_neg (by simp [hheld])
  · rfl

theorem ksExpire_some (hclaim : (ksAt s p).claim = some (u, ep)) : ksExpire s p = ksDeny (ksDrop s p) p (ksPairId s p) u 1 := by
  unfold ksExpire
  rw [hclaim]
theorem ksExpire_none (hnone : (ksAt s p).claim = none) : ksExpire s p = s := by
  unfold ksExpire
  rw [hnone]

end

/-! ### Warm-up -/

/-- One pair becomes warm. -/
def warmStep (s : State) (p : Nat) : State :=
  if flag s (R.RED_KS_STATE_WARM p) then s
  else put (ksTake s p (max (rd s (R.RED_KS_EPOCH_EPOCH p)) (ksAt s p).heardEp) ((ksAt s p).heardBy.getD (rd s (R.RED_KS_STATE_HOLDER p))))
    (R.RED_KS_STATE_WARM p) true

theorem ksWarm_on {s : State} (h : flag s R.RED_CFG_KSVC = true) : ksWarm s = (List.range s.red.ks.length).foldl warmStep s := if_neg (by simp [h])

theorem warmStep_red (s : State) (p : Nat) : (warmStep s p).red = s.red := by
  unfold warmStep
  split <;> rfl

theorem warmSteps_red (l : List Nat) (s : State) : (l.foldl warmStep s).red = s.red := by
  induction l generalizing s with
  | nil => rfl
  | cons p l ih => rw [List.foldl_cons, ih, warmStep_red]

theorem warm_warmStep (s : State) (p q : Nat) (h : p = q ∨ flag s (R.RED_KS_STATE_WARM p) = true) : flag (warmStep s q) (R.RED_KS_STATE_WARM p) = true := by
  have hfits : Fits (R.RED_KS_STATE_WARM p) := by simp [R.RED_KS_STATE_WARM]
  unfold warmStep
  split
  next hwarm =>
    rcases h with rfl | h
    · exact hwarm
    · exact h
  next =>
    by_cases hpq : p = q
    · subst hpq
      exact flag_put_self _ _ _ hfits Nat.one_pos
    · have hstate : R.RED_KS_STATE q ≠ R.RED_KS_STATE p := by simp only [R.RED_KS_STATE]; omega
      have hepoch : R.RED_KS_EPOCH q ≠ R.RED_KS_STATE p := by simp only [R.RED_KS_EPOCH, R.RED_KS_STATE]; omega
      unfold ksTake
      rw [flag_put_ne _ _ _ _ (.inl hstate), flag_wr_ne _ _ _ _ (.inl hstate), flag_wr_ne _ _ _ _ (.inl hepoch)]
      exact h.resolve_left hpq

theorem warm_warmSteps (l : List Nat) (s : State) (p : Nat) (h : p ∈ l ∨ flag s (R.RED_KS_STATE_WARM p) = true) :
    flag (l.foldl warmStep s) (R.RED_KS_STATE_WARM p) = true := by
  induction l generalizing s with
  | nil => exact h.resolve_left List.not_mem_nil
  | cons q l ih =>
    refine ih _ ?_
    by_cases hmem : p ∈ l
    · exact .inl hmem
    · refine .inr (warm_warmStep s p q ?_)
      exact h.imp_left (fun h => (List.mem_cons.mp h).resolve_right hmem)

end Sys2Proof.Laws

namespace Sys2Proof.Proofs

open Sys2Proof Sys2Proof.Machine Sys2Proof.Laws

/-- Settles O54: a frame takes the path of its type, the claim that is pending and the holder's silence. -/
theorem keeperRowsAct : Obligations.KeeperRowsAct := by
  unfold Obligations.KeeperRowsAct
  refine ⟨?frames, ?ignored, fun s p u ep hclaim hfree => ⟨_, rfl, ksServe_free hclaim hfree⟩, fun s p hheld => congrArg Host.Outcome.next (ksServe_held hheld),
    fun s p u ep hclaim => ⟨_, rfl, ksExpire_some hclaim⟩, fun s p hnone => congrArg Host.Outcome.next (ksExpire_none hnone), ?warmUp, ?snap⟩
  case frames =>
    intro s path src fr p hksvc hup hcheck hunit hpath hpair hsrc u s1
    have hrec := ksReceive_pair hksvc hup hcheck hunit hpath hpair hsrc
    have hclaim : (ksAt s1 p).claim = (ksAt s p).claim := ksAt_ksWay_claim s p path
    have hfree : ksFree s1 p = ksFree s p := ksFree_ksWay s p path
    have hs1 : ksWay s p path = s1 := rfl
    have hu : fieldAt fr 4 1 = u := rfl
    have hreg : ∀ f, rd s1 f = rd s f := fun _ => rfl
    have hwarm : flag s1 (R.RED_KS_STATE_WARM p) = flag s (R.RED_KS_STATE_WARM p) := rfl
    have hid : ksPairId s1 p = ksPairId s p := rfl
    clear_value s1 u
    rw [hs1, hu] at hrec
    refine ⟨fun hty => ?_, fun hty hcold => ?_, fun hty hw hnone hf => ?_, fun hty hw hnone hf => ?_, fun c hty hw hsome => ?_, fun hty hholder hdst => ?_,
      fun hty hno => ?_⟩
    · exact congrArg Host.Outcome.next (hrec.trans (if_pos hty))
    all_goals have hnot1 : ¬ fieldAt fr 0 1 = 1 := by omega
    · exact congrArg Host.Outcome.next (hrec.trans ((if_neg hnot1).trans ((if_pos hty).trans (hid ▸ ksClaim_cold (hwarm.trans hcold)))))
    · refine ⟨_, _, rfl, rfl, congrArg Host.Outcome.next (hrec.trans ((if_neg hnot1).trans ((if_pos hty).trans ?_)))⟩
      rw [ksClaim_free (hwarm.trans hw) (hclaim.trans hnone) (hfree.trans hf)]
      unfold ksGrant
      dsimp only
      rw [hreg, hid]
    · exact congrArg Host.Outcome.next (hrec.trans ((if_neg hnot1).trans ((if_pos hty).trans
        (ksClaim_waits (hwarm.trans hw) (hclaim.trans hnone) (hfree.trans hf)))))
    · exact congrArg Host.Outcome.next (hrec.trans ((if_neg hnot1).trans ((if_pos hty).trans (hid ▸ ksClaim_again (hwarm.trans hw) (hclaim.trans hsome)))))
    all_goals have hnot2 : ¬ fieldAt fr 0 1 = 2 := by omega
    · refine ⟨_, _, rfl, rfl, congrArg Host.Outcome.next (hrec.trans ((if_neg hnot1).trans ((if_neg hnot2).trans ((if_pos hty).trans ?_))))⟩
      rw [ksRelease_holder ((hreg _).trans hholder) hdst, hreg, hid]
    · refine congrArg Host.Outcome.next (hrec.trans ((if_neg hnot1).trans ((if_neg hnot2).trans ((if_pos hty).trans ?_))))
      rw [ksRelease_other (by rwa [hreg]), hid]
  case ignored =>
    intro s path src fr h
    have hsame := ksReceive_ignored (path := path) (src := src) h
    exact ⟨congrArg Host.Outcome.next hsame, congrArg Host.Outcome.next hsame, congrArg Host.Outcome.next hsame⟩
  case warmUp =>
    intro s hksvc _
    refine ⟨_, congrArg Host.Outcome.next (ksWarm_on hksvc), warmSteps_red _ s, fun p hp => warm_warmSteps _ s p (.inl (List.mem_range.mpr hp))⟩
  case snap =>
    intro s e hgoes
    have hact : ∃ bs, bs.length = 256 ∧ ksSnap e s = (memWrite s e.addr bs, .done 0 256 0) := ⟨_, length_padTo 256 _, rfl⟩
    obtain ⟨bs, hlen, hact⟩ := hact
    refine leaves_of_act hgoes hact ⟨memWrite_regs_eq s e.addr bs, memWrite_red_eq s e.addr bs, fun a ha => ?_⟩
    exact memRd_memWrite_out s e.addr bs a (by rwa [hlen])

end Sys2Proof.Proofs
end

section
/-! The rings (R379 to R387, R396, R400). -/

namespace Sys2Proof.Laws

open Sys2Proof Sys2Proof.Machine

/-! ### What the counters, a record and a stream leave of ETH -/

theorem QueueOnly.eth {s t : State} (h : QueueOnly s t) : t.eth = s.eth := by
  obtain ⟨rg, rc, pp, mm, me, qs, ou, rfl, -⟩ := h
  rfl

theorem streamOr_eth (s : State) {qp : Nat} (hqp : qp < 46) (data : List Byte) {lost : State → State} (hlost : ∀ u, (lost u).eth = u.eth) :
    (streamOr s qp data lost).eth = s.eth := by
  obtain h | ⟨u, hu, h⟩ := queueOnly_streamOr s hqp data lost
  · exact h.eth
  · rw [h, hlost, hu.eth]

theorem perfCount_eth (s : State) (n k : Nat) : (perfCount s n k).2.eth = s.eth := by
  unfold perfCount
  dsimp only
  split <;> rfl

theorem perfSync1_eth (r : List Nat × State) (n : Nat) : (perfSync1 r n).2.eth = r.2.eth := by
  unfold perfSync1
  dsimp only
  split
  · rfl
  · split
    · rfl
    · exact perfCount_eth _ _ _

theorem perfSyncs_eth (l : List Nat) (r : List Nat × State) : (l.foldl perfSync1 r).2.eth = r.2.eth := by
  induction l generalizing r with
  | nil => rfl
  | cons n l ih => exact (ih _).trans (perfSync1_eth r n)

theorem perfFire_eth (s : State) (n : Nat) : (perfFire s n).eth = s.eth := by
  have hirq : (if bitOf (rd s (R.PERF_C_ACT_ACT n)) 0 then
      (if bitIn s R.PERF_THR_PEND_PEND n then errRise s R.PERF_ERR_THR_OVERRUN n 0
       else emit (putBit s R.PERF_THR_PEND_PEND n true) .perfIrq [ownerOf s 42, n] []) else s).eth = s.eth := by
    split
    · split
      · exact errRise_eth_eq _ _ _ _
      · rfl
    · rfl
  unfold perfFire
  dsimp only
  split
  · exact (errRise_eth_eq _ _ _ _).trans hirq
  · exact hirq

theorem perfSnap_eth (s : State) (cause hits : Nat) : (perfSnap s cause hits).eth = s.eth := by
  unfold perfSnap
  exact (streamOr_eth _ (by decide) _ (fun u => errRise_eth_eq (bump u R.PERF_SNAP_LOST_CNT_COUNT) _ _ _)).trans rfl

theorem perfReload_eth (s : State) (n : Nat) : (perfReload s n).eth = s.eth := by
  unfold perfReload
  split <;> rfl

/-- What each step of a fold leaves of ETH is left by the fold. -/
theorem foldl_eth {α : Type} {f : State → α → State} (h : ∀ s x, (f s x).eth = s.eth) (l : List α) (s : State) : (l.foldl f s).eth = s.eth := by
  induction l generalizing s with
  | nil => rfl
  | cons x l ih => exact (ih _).trans (h s x)

theorem perfSync_eth (s : State) : (perfSync s).eth = s.eth := by
  unfold perfSync perfSyncWith
  dsimp only
  have hfire := (foldl_eth perfFire_eth ((List.range 16).foldl perfSync1 ([], s)).1 _).trans (perfSyncs_eth (List.range 16) ([], s))
  refine (foldl_eth perfReload_eth _ _).trans ?_
  generalize (0 + if List.isEmpty _ then 0 else 4) = c
  split
  · exact hfire
  · exact (perfSnap_eth _ _ _).trans hfire

/-! ### Breaks (R387, R400) -/

section
variable (s : State)

theorem ringShow_eth : (ringShow s).eth = s.eth := rfl

theorem ringShow_valid : flag (ringShow s) R.ETH_BREAK_VALID = !s.eth.down.isEmpty := by
  unfold ringShow
  dsimp only
  rw [flag_put_ne _ _ _ _ (by decide), flag_put_self _ _ _ (by decide) (by decide)]

/-- RING_OK holds where both links are up and no break is known. -/
theorem ringShow_ok : flag (ringShow s) R.ETH_STATUS_RING_OK = (linkUp s false && linkUp s true && s.eth.down.isEmpty) := by
  unfold ringShow
  dsimp only
  rw [flag_put_self _ _ _ (by decide) (by decide)]

end

/-! ### A link's change (R384) -/

/-- What a link's change shows, and what the notice of it and the breaks leave: the links' status, the domains and the ports that are
enabled. -/
structure LinkKept (s t : State) : Prop where
  on : t.eth.on = s.eth.on
  down : t.eth.down = s.eth.down
  linkA : flag t R.ETH_STATUS_LINK_A = flag s R.ETH_STATUS_LINK_A
  linkB : flag t R.ETH_STATUS_LINK_B = flag s R.ETH_STATUS_LINK_B
  domOk : rd t R.CLK_STATUS_DOM_OK = rd s R.CLK_STATUS_DOM_OK
  twoFlop : rd t R.CLK_XSTAT_TWO_FLOP = rd s R.CLK_XSTAT_TWO_FLOP

/-- A field apart from what a link's change shows. -/
abbrev OffLink (f : Fld) : Prop :=
  Apart f R.ETH_STATUS_LINK_A ∧ Apart f R.ETH_STATUS_LINK_B ∧ Apart f R.CLK_STATUS_DOM_OK ∧ Apart f R.CLK_XSTAT_TWO_FLOP

theorem LinkKept.refl (s : State) : LinkKept s s := ⟨rfl, rfl, rfl, rfl, rfl, rfl⟩
theorem LinkKept.trans {s t u : State} (h : LinkKept s t) (g : LinkKept t u) : LinkKept s u :=
  ⟨g.on.trans h.on, g.down.trans h.down, g.linkA.trans h.linkA, g.linkB.trans h.linkB, g.domOk.trans h.domOk, g.twoFlop.trans h.twoFlop⟩

theorem linkKept_wr (s : State) {f : Fld} (v : Nat) (h : OffLink f) : LinkKept s (wr s f v) := by
  obtain ⟨ha, hb, hok, hflop⟩ := h
  exact ⟨rfl, rfl, flag_wr_ne _ _ _ _ ha, flag_wr_ne _ _ _ _ hb, rd_wr_ne _ _ _ _ hok, rd_wr_ne _ _ _ _ hflop⟩

theorem linkKept_errRise (s : State) {f : Fld} (inst arg : Nat) (h : OffLink f) : LinkKept s (errRise s f inst arg) := by
  obtain ⟨ha, hb, hok, hflop⟩ := h
  exact ⟨by rw [errRise_eth_eq], by rw [errRise_eth_eq], flag_errRise_ne _ _ _ _ _ (by decide) ha, flag_errRise_ne _ _ _ _ _ (by decide) hb,
    rd_errRise_ne _ _ _ _ _ (by decide) hok, rd_errRise_ne _ _ _ _ _ (by decide) hflop⟩

theorem offLink_port {f : Nat → Fld} (b : Bool) (h0 : OffLink (f 0)) (h1 : OffLink (f 1)) : OffLink (f (b2n b)) := by
  cases b
  · exact h0
  · exact h1

theorem linkKept_emit (s : State) (k : OutKind) (args : List Nat) (data : List Byte) : LinkKept s (emit s k args data) := ⟨rfl, rfl, rfl, rfl, rfl, rfl⟩

theorem linkKept_ethOut (s : State) (b : Bool) (cls stomped : Nat) (bs : List Byte) : LinkKept s (ethOut s b cls stomped bs) := by
  have htx : LinkKept s (bump (emit s .ringFrame [b2n b, stomped] bs) (R.ETH_P_TX_COUNT (b2n b))) :=
    (linkKept_emit s _ _ _).trans (linkKept_wr _ _ (offLink_port (f := R.ETH_P_TX_COUNT) b (by decide) (by decide)))
  unfold ethOut
  dsimp only
  split
  · exact htx.trans (linkKept_wr _ _ (offLink_port (f := R.ETH_P_CL0_COUNT) b (by decide) (by decide)))
  · exact htx

theorem linkKept_ethCount (s : State) : LinkKept s (ethCount s) := ⟨rfl, rfl, rfl, rfl, rfl, rfl⟩

theorem linkKept_noticeSend (s : State) (b up : Bool) : LinkKept s (noticeSend s b up) := by
  unfold noticeSend ethCopy
  dsimp only
  split
  · exact (linkKept_ethCount s).trans (linkKept_ethOut _ _ _ _ _)
  · split
    · exact (linkKept_ethCount s).trans (linkKept_ethOut _ _ _ _ _)
    · exact LinkKept.refl s

theorem linkKept_ringShow (s : State) : LinkKept s (ringShow s) :=
  ((linkKept_wr s _ (f := R.ETH_BREAK_POS) (by decide)).trans (linkKept_wr _ _ (f := R.ETH_BREAK_VALID) (by decide))).trans
    (linkKept_wr _ _ (f := R.ETH_STATUS_RING_OK) (by decide))

/-- A port's link as its status shows it, with the port's domain. -/
def linkShown (s : State) (b up pre : Bool) : State :=
  let s1 := put (put s (if b then R.ETH_STATUS_LINK_B else R.ETH_STATUS_LINK_A) up) (if b then R.ETH_STATUS_PREEMPT_B else R.ETH_STATUS_PREEMPT_A) pre
  let s2 := putBit s1 R.CLK_STATUS_DOM_OK (6 + b2n b) up
  if up then s2 else putBit s2 R.CLK_XSTAT_TWO_FLOP (6 + b2n b) true

section
variable (s : State) (b up pre : Bool)

theorem linkShown_eth : (linkShown s b up pre).eth = s.eth := by
  unfold linkShown
  dsimp only
  split <;> rfl

theorem linkUp_linkShown : linkUp (linkShown s b up pre) b = up := by
  have h1 : linkUp (put (put s (if b then R.ETH_STATUS_LINK_B else R.ETH_STATUS_LINK_A) up)
      (if b then R.ETH_STATUS_PREEMPT_B else R.ETH_STATUS_PREEMPT_A) pre) b = up := by
    cases b
    · exact (flag_put_ne _ _ _ _ (by decide)).trans (flag_put_self _ _ _ (by decide) (by decide))
    · exact (flag_put_ne _ _ _ _ (by decide)).trans (flag_put_self _ _ _ (by decide) (by decide))
  have h2 (u : State) (f : Fld) (i : Nat) (x : Bool) (hf : f.addr ≠ R.ETH_STATUS) : linkUp (putBit u f i x) b = linkUp u b := by
    cases b
    · exact flag_wr_ne _ _ _ _ (.inl hf)
    · exact flag_wr_ne _ _ _ _ (.inl hf)
  unfold linkShown
  dsimp only
  split
  · rw [h2 _ _ _ _ (by decide), h1]
  · rw [h2 _ _ _ _ (by decide), h2 _ _ _ _ (by decide), h1]

theorem domOk_linkShown : bitIn (linkShown s b up pre) R.CLK_STATUS_DOM_OK (6 + b2n b) = up := by
  have hp : 6 + b2n b < 12 := by cases b <;> decide
  unfold linkShown
  dsimp only
  split
  · exact bitIn_putBit_self _ _ _ _ (by decide) hp
  · rw [bitIn_putBit_ne _ _ _ _ _ _ (by decide)]
    exact bitIn_putBit_self _ _ _ _ (by decide) hp

theorem crossOk_linkShown_down : crossOk (linkShown s b false pre) (6 + b2n b) = false := by
  have hp : 6 + b2n b < 12 := by cases b <;> decide
  have hbit : bitIn (linkShown s b false pre) R.CLK_XSTAT_TWO_FLOP (6 + b2n b) = true := bitIn_putBit_self _ _ _ _ (by decide) hp
  unfold crossOk
  rw [hbit]
  rfl

end

section
variable {s t : State} (h : LinkKept s t)
include h

theorem LinkKept.linkUp (b : Bool) : linkUp t b = linkUp s b := by
  cases b
  · exact h.linkA
  · exact h.linkB
theorem LinkKept.bitIn_domOk (d : Nat) : bitIn t R.CLK_STATUS_DOM_OK d = bitIn s R.CLK_STATUS_DOM_OK d := congrArg (Nat.testBit · d) h.domOk
theorem LinkKept.crossOk (d : Nat) : crossOk t d = crossOk s d := congrArg (fun x => !Nat.testBit x d) h.twoFlop

end

/-- The port's error bits at a change of its link. -/
def linkTold (s : State) (b up pre : Bool) : State :=
  if up then (if pre then s else errRise s R.ETH_ERR_NO_PREEMPT (b2n b) 0) else errRise s (if b then R.ETH_ERR_LINK_B else R.ETH_ERR_LINK_A) (b2n b) 0

theorem linkKept_linkTold (s : State) (b up pre : Bool) : LinkKept s (linkTold s b up pre) := by
  unfold linkTold
  split
  · split
    · exact .refl _
    · exact linkKept_errRise _ _ _ (by decide)
  · refine linkKept_errRise _ _ _ ?_
    cases b
    · exact (by decide : OffLink R.ETH_ERR_LINK_A)
    · exact (by decide : OffLink R.ETH_ERR_LINK_B)

/-- Whether a port preempts frames once its link is up. -/
def linkPreempts (s : State) (b up verified : Bool) : Bool := up && verified && decide (cfgU s 36 (2 + b2n b) 1 1 = 1)

theorem linkChange_eq (s : State) (b up v : Bool) :
    linkChange s b up v = if linkUp s b = up ∨ (up ∧ s.eth.on.getD (b2n b) false = false) then s
      else ringShow (noticeSend (linkTold (linkShown (perfSync s) b up (linkPreempts (perfSync s) b up v)) b up (linkPreempts (perfSync s) b up v)) b up) := rfl

/-- A link that changes: what it shows, then only what its status and the domains keep. -/
theorem linkChange_shown {s : State} {b up : Bool} (v : Bool) (hne : linkUp s b ≠ up) (hon : s.eth.on.getD (b2n b) false = true) :
    LinkKept (linkShown (perfSync s) b up (linkPreempts (perfSync s) b up v)) (linkChange s b up v) := by
  have hgo : ¬ (linkUp s b = up ∨ (up ∧ s.eth.on.getD (b2n b) false = false)) := by
    rw [hon]
    simp [hne]
  rw [linkChange_eq, if_neg hgo]
  exact (linkKept_linkTold _ b up _).trans ((linkKept_noticeSend _ b up).trans (linkKept_ringShow _))

/-! ### Received frames (R380, R381) -/

section
variable {s : State} (b : Bool)

theorem linkKept_rx (s : State) : LinkKept s (bump s (R.ETH_P_RX_COUNT (b2n b))) :=
  linkKept_wr s _ (offLink_port (f := R.ETH_P_RX_COUNT) b (by decide) (by decide))

theorem portUp_rx (s : State) (c : Bool) : portUp (bump s (R.ETH_P_RX_COUNT (b2n b))) c = portUp s c := by
  have hgate : flag (bump s (R.ETH_P_RX_COUNT (b2n b))) R.CLK_GATE_ETHB_OFF = flag s R.CLK_GATE_ETHB_OFF := by
    cases b
    · exact flag_bump_ne _ _ _ (by decide)
    · exact flag_bump_ne _ _ _ (by decide)
  unfold portUp
  rw [hgate, (linkKept_rx b s).linkUp]
  rfl

end

/-! ### SEND (R396) -/

/-- SEND of a service of the queue pair: the payload with its check value, by the way that leads to its unit. -/
theorem ethSendOp_sends {s : State} {qp : Nat} {e : Entry} (hgood : memBad s e.addr e.len = false) (hsvc : svcOfQp qp (bits e.arg0 23 16) = true)
    {dst : Nat} (hdst : e.arg0 % 2 ^ 15 = dst)
    {c : List Byte × State} (hc : crcEgress s (bits e.arg0 23 16) (dst % 2 ^ 14) (memBytes s e.addr e.len) = c)
    {u : State} (hu : pepperWait c.2 4 (b2n ((routeOf c.2 (dst % 2 ^ 14)).getD false)) = u) :
    ethSendOp qp e s = match ethSend u (qp - 32) (bits e.arg0 23 16) dst c.1 with
      | some s1 => (s1, .done 0 s1.eth.rseq 0)
      | none => (s, .done 0x41 0 0) := by
  have hsends : ¬ (!svcOfQp qp (bits e.arg0 23 16)) = true := by simp [hsvc]
  unfold ethSendOp
  rw [withBuf_ok hgood]
  dsimp only
  rw [if_neg hsends, hdst, hc, hu]
  cases ethSend u (qp - 32) (bits e.arg0 23 16) dst c.1 with
  | none => rfl
  | some s1 => rfl

end Sys2Proof.Laws
namespace Sys2Proof.Proofs

open Sys2Proof Sys2Proof.Machine Sys2Proof.Laws

/-- Settles O55: the conditions select the branch of a frame's path; what a link's change shows outlasts its notice and the breaks. -/
theorem ethRowsAct : Obligations.EthRowsAct := by
  unfold Obligations.EthRowsAct
  refine ⟨?badHeader, ?pause, ?off, ?delivered, ?noHops, ?forwarded, ?link, ?down, ?up, ?expiry, ?send, ?refused⟩
  case off =>
    intro s b fr r hoff
    refine congrArg Host.Outcome.next (if_pos ?_)
    rcases hoff with h | h <;> simp [h]
  case badHeader =>
    intro s b fr r hport hcross htype hhdr hfcs
    exact ⟨_, congrArg Host.Outcome.next (by simp [ringFrame, hport, hcross, htype, hhdr, hfcs]), rfl⟩
  case pause =>
    intro s b fr r hport hcross htype
    exact ⟨_, congrArg Host.Outcome.next (by simp [ringFrame, hport, hcross, htype]), rfl⟩
  case delivered =>
    intro s b fr r hport hcross htype hhdr hfcs hcast hown
    refine ⟨_, congrArg Host.Outcome.next ?_, rfl⟩
    simp only [ringFrame, hport, hcross, htype, hhdr, hfcs, hcast, hown, Bool.not_true, Bool.not_false, Bool.or_false, Bool.true_or, Bool.and_true,
      Bool.false_eq_true, if_true, if_false, decide_true]
  case noHops =>
    intro s b fr r hport hcross htype hhdr hfcs hcast hother hsrc hhops
    refine ⟨_, congrArg Host.Outcome.next ?_, rfl⟩
    simp only [ringFrame, hport, hcross, htype, hhdr, hfcs, hcast, hother, hsrc, hhops, Bool.not_true, Bool.or_false, Bool.false_eq_true, Bool.false_and,
      if_true, if_false, decide_false]
  case forwarded =>
    intro s b fr r hport hcross htype hout hforwards hhdr hfcs hcast hother hsrc hhops hcls hroom
    have hforwards2 : ethForwards (bump s (R.ETH_P_RX_COUNT (b2n b))) = true := hforwards
    have hout2 := (portUp_rx (s := s) b (!b)).trans hout
    refine ⟨_, congrArg Host.Outcome.next ?_, rfl⟩
    simp only [ringFrame, hport, hcross, htype, hhdr, hfcs, hcast, hother, hsrc, hhops, hcls, hroom, hforwards2, hout2, Bool.not_true, Bool.or_false,
      Bool.false_eq_true, Bool.false_and, ne_eq, not_false_eq_true, if_true, if_false, decide_false]
    rfl
  case link =>
    intro s b up v hblocks hne hon
    have hkept := linkChange_shown v hne hon
    refine ⟨_, congrArg Host.Outcome.next (if_pos hblocks), (hkept.linkUp b).trans (linkUp_linkShown _ _ _ _),
      (hkept.bitIn_domOk _).trans (domOk_linkShown _ _ _ _), fun hdown => ?_, ?_, ?_⟩
    · subst hdown
      exact (hkept.crossOk _).trans (crossOk_linkShown_down _ _ _)
    · rw [hkept.on, linkShown_eth, perfSync_eth]
    · rw [hkept.down, linkShown_eth, perfSync_eth]
  case down =>
    intro s p hblocks hdown hport
    refine ⟨_, congrArg Host.Outcome.next (if_pos hblocks), ?_⟩
    unfold noticeTake
    dsimp only
    rw [if_neg hdown, if_pos hport]
    refine ⟨?_, (ringShow_valid _).trans rfl, ?_⟩
    · rw [ringShow_eth]
      simp
    · rw [ringShow_ok]
      simp
  case up =>
    intro s p hblocks hup hport
    refine ⟨_, congrArg Host.Outcome.next (if_pos hblocks), ?_⟩
    unfold noticeTake
    dsimp only
    rw [if_pos hup, if_pos hport]
    rfl
  case expiry =>
    intro s
    exact ⟨_, rfl, rfl, ringShow_valid _, (ringShow_ok _).trans (Bool.and_true _)⟩
  case send =>
    intro s qp e hlo hhi hgoes hgood hsvc dst c u
    have hact := ethSendOp_sends hgood hsvc (dst := dst) rfl (c := c) rfl (u := u) rfl
    clear_value u c dst
    refine ⟨fun s1 hsome => ?_, fun hnone => ?_⟩
    · rw [hsome] at hact
      exact leaves_of_act hgoes hact rfl (congrArg Host.Outcome.next (if_pos ⟨hlo, hhi⟩))
    · rw [hnone] at hact
      exact leaves_of_act hgoes hact rfl (congrArg Host.Outcome.next (if_pos ⟨hlo, hhi⟩))
  case refused =>
    intro s qp e hlo hhi hgoes hgood hsvc
    have hact : ethSendOp qp e s = failR s 0x40 := by
      unfold ethSendOp
      rw [withBuf_ok hgood]
      simp only [hsvc, Bool.not_false, if_true]
    exact leaves_of_act hgoes hact rfl (congrArg Host.Outcome.next (if_pos ⟨hlo, hhi⟩))

end Sys2Proof.Proofs
end

section
/-! Plant time (R388 to R395, R398). -/

namespace Sys2Proof.Laws

open Sys2Proof Sys2Proof.Machine

/-! ### What leaves the counters, STATUS and the step counters -/

/-- A step that leaves PTP's own state, its STATUS and its step counters. -/
structure PtpKept (s t : State) : Prop where
  ptp : t.ptp = s.ptp
  status : regGet t R.PTP_STATUS = regGet s R.PTP_STATUS
  steps : regGet t R.PTP_STEP_CNT = regGet s R.PTP_STEP_CNT

theorem PtpKept.refl (s : State) : PtpKept s s := ⟨rfl, rfl, rfl⟩
theorem PtpKept.trans {s t u : State} (h : PtpKept s t) (g : PtpKept t u) : PtpKept s u :=
  ⟨g.ptp.trans h.ptp, g.status.trans h.status, g.steps.trans h.steps⟩

section
variable {s t : State} (h : PtpKept s t)
include h

theorem PtpKept.rd {f : Fld} (hf : f.addr = R.PTP_STATUS ∨ f.addr = R.PTP_STEP_CNT) : rd t f = rd s f := by
  have hreg : regGet t f.addr = regGet s f.addr := by
    rcases hf with hf | hf
    · rw [hf, h.status]
    · rw [hf, h.steps]
  unfold Machine.rd
  rw [hreg]
theorem PtpKept.flag {f : Fld} (hf : f.addr = R.PTP_STATUS ∨ f.addr = R.PTP_STEP_CNT) : flag t f = flag s f := by
  unfold Machine.flag
  rw [h.rd hf]

end

theorem ptpKept_regs {s t : State} (hptp : t.ptp = s.ptp) (hregs : t.regs = s.regs) : PtpKept s t := ⟨hptp, regGet_congr hregs _, regGet_congr hregs _⟩
theorem ptpKept_wr (s : State) {f : Fld} (v : Nat) (hstatus : f.addr ≠ R.PTP_STATUS) (hsteps : f.addr ≠ R.PTP_STEP_CNT) : PtpKept s (wr s f v) :=
  ⟨rfl, regGet_wr_ne _ _ _ _ hstatus, regGet_wr_ne _ _ _ _ hsteps⟩
theorem RecOnly.ptpKept {s t : State} (h : RecOnly s t) : PtpKept s t := ⟨h.ptp, h.regGet _ (by decide), h.regGet _ (by decide)⟩
theorem ptpKept_errRise (s : State) {f : Fld} (inst arg : Nat) (hstatus : f.addr ≠ R.PTP_STATUS) (hsteps : f.addr ≠ R.PTP_STEP_CNT) :
    PtpKept s (errRise s f inst arg) := (ptpKept_wr s _ hstatus hsteps).trans (recOnly_record _ _ _ _ _ _ _).ptpKept

theorem ptpKept_cfgBoundary (s : State) (key : Nat) : PtpKept s (cfgBoundary s key) := by
  unfold cfgBoundary
  split
  · exact ⟨rfl, rfl, rfl⟩
  · exact .refl s

theorem ptpKept_isoBegin (s : State) : PtpKept s (isoBegin s) := by
  have h := ptpKept_cfgBoundary s (itemKey 13 2)
  unfold isoBegin
  dsimp only
  split
  · exact h.trans ⟨rfl, rfl, rfl⟩
  · exact h.trans ⟨rfl, rfl, rfl⟩

/-- Where an insulation cycle stands is HVM's own. -/
theorem ptpKept_hvm (s : State) (h : HvmSt) : PtpKept s { s with hvm := h } := ⟨rfl, rfl, rfl⟩

theorem ptpKept_isoNext (s : State) : PtpKept s (isoNext s) := by
  have hend := (ptpKept_hvm s { s.hvm with iso := .idle, vc := [] }).trans (ptpKept_cfgBoundary _ (itemKey 13 2))
  unfold isoNext
  dsimp only
  generalize cfgBoundary { s with hvm := { s.hvm with iso := .idle, vc := [] } } (itemKey 13 2) = u at hend ⊢
  have hshown (x : Bool) : PtpKept s (put (put u R.HVM_STATUS_ISO_ACTIVE false) R.HVM_STATUS_NO_SLOT x) :=
    hend.trans ((ptpKept_wr _ _ (by decide) (by decide)).trans (ptpKept_wr _ _ (by decide) (by decide)))
  split
  · exact hshown _
  · exact (hshown _).trans (ptpKept_isoBegin _)

theorem ptpKept_isoAbort (s : State) : PtpKept s (isoAbort s) := by
  unfold isoAbort
  split
  · exact .refl s
  · exact ptpKept_isoNext s

theorem ptpKept_anchorOut (s : State) : PtpKept s (anchorOut s) := ⟨rfl, rfl, rfl⟩

/-! ### Acquisition and steps (R393, R394) -/

theorem ptpKept_ptStepped (s : State) (why : Nat) : PtpKept (bump s R.PTP_STEP_CNT_STEPS) (ptStepped s why) :=
  ((ptpKept_errRise _ 0 0 (by decide) (by decide)).trans (recOnly_timeMarkRec _ why).ptpKept).trans
    ((ptpKept_isoAbort _).trans (ptpKept_anchorOut _))

/-- The state whose plant time is the selected domain's counter. -/
def acquired (s : State) : State := slewShow (put { s with ptp := { s.ptp with s := 0 } } R.PTP_STATUS_ACQ true)

theorem ptpKept_acquire (s : State) : PtpKept (bump (acquired s) R.PTP_STEP_CNT_STEPS) (acquire s) := ptpKept_ptStepped (acquired s) 0

section
variable (s : State)

theorem acquire_ptp : (acquire s).ptp = { s.ptp with s := 0 } := (ptpKept_acquire s).ptp
theorem acquire_acq : flag (acquire s) R.PTP_STATUS_ACQ = true := by
  rw [(ptpKept_acquire s).flag (.inl rfl), flag_bump_ne _ _ _ (by decide)]
  unfold acquired slewShow
  rw [flag_put_ne _ _ _ _ (by decide), flag_put_self _ _ _ (by decide) (by decide)]
theorem rd_steps_acquired : rd (acquired s) R.PTP_STEP_CNT_STEPS = rd s R.PTP_STEP_CNT_STEPS := by
  unfold acquired slewShow
  rw [rd_put_ne _ _ _ _ (by decide), rd_put_ne _ _ _ _ (by decide)]
  exact rd_congr rfl _
theorem acquire_steps : rd (acquire s) R.PTP_STEP_CNT_STEPS = (rd s R.PTP_STEP_CNT_STEPS + 1) % 2 ^ R.PTP_STEP_CNT_STEPS.width := by
  rw [(ptpKept_acquire s).rd (.inr rfl), rd_bump_self _ _ (by decide), rd_steps_acquired]

end

/-! ### The selected domain changes (R395) -/

/-- S as the change to a domain leaves it. -/
def switchS (s : State) (d : Nat) : Int := if flag s R.PTP_STATUS_ACQ then (domCnt s d : Int) - ptFine s else 0

/-- The state with another domain selected, before the records and the anchor of the change. -/
def domSwitched (s : State) (d : Nat) : State :=
  put (slewShow (bump (wr { s with ptp := { s.ptp with s := switchS s d } } R.PTP_STATUS_SEL d) R.PTP_STEP_CNT_SWITCHES)) R.PTP_STATUS_HOLDOVER
    (!domSync s d)

theorem ptpKept_domSwitch (s : State) (d : Nat) (auto : Bool) : PtpKept (domSwitched s d) (domSwitch s d auto) := by
  have hrec : PtpKept (domSwitched s d) (record (domSwitched s d) (srcAt R.PTP_STATUS) 0x5004 1 d
      (sCode 32 (clampInt (-2147483648) 2147483647 (roundDiv (switchS s d) (2 ^ 28)))) (b2n auto)) := (recOnly_record _ _ _ _ _ _ _).ptpKept
  unfold domSwitch
  refine .trans ?_ ((recOnly_timeMarkRec _ 2).ptpKept.trans (ptpKept_anchorOut _))
  cases auto with
  | false => exact hrec
  | true => exact hrec.trans (ptpKept_errRise _ 0 0 (by decide) (by decide))

section
variable (s : State) (d : Nat)

theorem domSwitched_ptp : (domSwitched s d).ptp = { s.ptp with s := switchS s d } := rfl
/-- The change of domain leaves every flag of STATUS but SEL, SLEWING and HOLDOVER. -/
theorem flag_domSwitched {f : Fld} (hsel : Apart R.PTP_STATUS_SEL f) (hslew : Apart R.PTP_STATUS_SLEWING f) (hhold : Apart R.PTP_STATUS_HOLDOVER f)
    (hcnt : Apart R.PTP_STEP_CNT_SWITCHES f) : flag (domSwitched s d) f = flag s f := by
  unfold domSwitched slewShow
  rw [flag_put_ne _ _ _ _ hhold, flag_put_ne _ _ _ _ hslew, flag_bump_ne _ _ _ hcnt, flag_wr_ne _ _ _ _ hsel]
  exact flag_congr rfl _
theorem rd_sel_domSwitched : rd (domSwitched s d) R.PTP_STATUS_SEL = d % 2 := by
  unfold domSwitched slewShow
  rw [rd_put_ne _ _ _ _ (by decide), rd_put_ne _ _ _ _ (by decide), rd_bump_ne _ _ _ (by decide), rd_wr_self _ _ _ (by decide)]
  rfl
theorem rd_switches_domSwitched :
    rd (domSwitched s d) R.PTP_STEP_CNT_SWITCHES = (rd s R.PTP_STEP_CNT_SWITCHES + 1) % 2 ^ R.PTP_STEP_CNT_SWITCHES.width := by
  unfold domSwitched slewShow
  rw [rd_put_ne _ _ _ _ (by decide), rd_put_ne _ _ _ _ (by decide), rd_bump_self _ _ (by decide), rd_wr_ne _ _ _ _ (by decide)]
  exact congrArg (fun x => (x + 1) % 2 ^ R.PTP_STEP_CNT_SWITCHES.width) (rd_congr rfl _)

end

section
variable {s : State} {d : Nat} (auto : Bool)

theorem ptpSel_domSwitch (hd : d ≤ 1) : ptpSel (domSwitch s d auto) = d := by
  unfold ptpSel
  rw [(ptpKept_domSwitch s d auto).rd (.inl rfl), rd_sel_domSwitched]
  omega

theorem domSwitch_ptp : (domSwitch s d auto).ptp = { s.ptp with s := switchS s d } := (ptpKept_domSwitch s d auto).ptp

theorem domSwitch_acq : flag (domSwitch s d auto) R.PTP_STATUS_ACQ = flag s R.PTP_STATUS_ACQ :=
  ((ptpKept_domSwitch s d auto).flag (.inl rfl)).trans (flag_domSwitched s d (by decide) (by decide) (by decide) (by decide))

theorem domSwitch_switches :
    rd (domSwitch s d auto) R.PTP_STEP_CNT_SWITCHES = (rd s R.PTP_STEP_CNT_SWITCHES + 1) % 2 ^ R.PTP_STEP_CNT_SWITCHES.width :=
  ((ptpKept_domSwitch s d auto).rd (.inr rfl)).trans (rd_switches_domSwitched s d)

theorem domLock_domSwitch (k : Nat) : domLock (domSwitch s d auto) k = domLock s k := by
  unfold domLock
  split
  · exact ((ptpKept_domSwitch s d auto).flag (.inl rfl)).trans (flag_domSwitched s d (by decide) (by decide) (by decide) (by decide))
  · exact ((ptpKept_domSwitch s d auto).flag (.inl rfl)).trans (flag_domSwitched s d (by decide) (by decide) (by decide) (by decide))

/-- The selected domain's counter. -/
theorem tSel_eq_domCnt (u : State) (hd : d ≤ 1) (hsel : ptpSel u = d) : tSel u = domCnt u d := by
  have hflag : flag u R.PTP_STATUS_SEL = decide (d = 1) := by
    have hrd : rd u R.PTP_STATUS_SEL = d := hsel
    unfold flag
    rw [hrd]
    obtain rfl | rfl : d = 0 ∨ d = 1 := by omega
    · rfl
    · rfl
  unfold tSel domCnt
  rw [hflag]
  obtain rfl | rfl : d = 0 ∨ d = 1 := by omega
  · rfl
  · rfl

/-- Plant time does not step at a change of domain. -/
theorem ptFine_domSwitch (hd : d ≤ 1) (hacq : flag s R.PTP_STATUS_ACQ = true) : ptFine (domSwitch s d auto) = ptFine s := by
  have hcnt : domCnt (domSwitch s d auto) d = domCnt s d := by
    unfold domCnt
    rw [domSwitch_ptp]
  have hs : (domSwitch s d auto).ptp.s = (domCnt s d : Int) - ptFine s := by
    rw [domSwitch_ptp]
    exact if_pos hacq
  calc ptFine (domSwitch s d auto) = (tSel (domSwitch s d auto) : Int) - (domSwitch s d auto).ptp.s := if_pos ((domSwitch_acq auto).trans hacq)
    _ = (domCnt s d : Int) - ((domCnt s d : Int) - ptFine s) := by rw [tSel_eq_domCnt _ hd (ptpSel_domSwitch auto hd), hcnt, hs]
    _ = ptFine s := by omega

end

theorem domLock_autoFollow (s : State) (k : Nat) : domLock (autoFollow s) k = domLock s k := by
  unfold autoFollow
  dsimp only
  split
  · exact domLock_domSwitch true k
  · rfl
theorem autoFollow_servo (s : State) : (autoFollow s).ptp.servo = s.ptp.servo := by
  unfold autoFollow
  dsimp only
  split
  · rw [domSwitch_ptp]
  · rfl
theorem autoFollow_noHoldover {s : State} (h : flag s R.PTP_STATUS_HOLDOVER = false) : autoFollow s = s :=
  if_neg (by simp [h])
theorem autoFollow_manual {s : State} (h : cfgU s 37 3 0 1 ≠ 1) : autoFollow s = s :=
  if_neg (by simp [h])


/-! ### Messages (R391, R392) -/

theorem ptpOut_ptp (s : State) (b : Bool) (m : List Byte) : (ptpOut s b m).ptp = s.ptp := by
  unfold ptpOut
  split <;> rfl

/-- A received frame's count is no part of a link delay. -/
theorem corrOf_rx (s : State) (dom : Option Nat) (b : Bool) (res : Nat) : corrOf (bump s (R.ETH_P_RX_COUNT (b2n b))) dom b res = corrOf s dom b res := by
  have hdly : rd (bump s (R.ETH_P_RX_COUNT (b2n b))) (if b then R.PTP_LINK_DLY_B_NS else R.PTP_LINK_DLY_A_NS)
      = rd s (if b then R.PTP_LINK_DLY_B_NS else R.PTP_LINK_DLY_A_NS) := by
    cases b
    · exact rd_bump_ne _ _ _ (by decide)
    · exact rd_bump_ne _ _ _ (by decide)
  unfold corrOf
  rw [hdly]
  rfl

theorem ptpMessage_lost {s : State} {b : Bool} (h : portUp s b = false ∨ crossOk s (6 + b2n b) = false ∨ crossOk s 9 = false) :
    (!portUp s b || !crossOk s (6 + b2n b) || !crossOk s 9) = true := by
  rcases h with h | h | h <;> simp [h]

theorem ptpMessage_taken {s : State} {b : Bool} (hport : portUp s b = true) (hcross : crossOk s (6 + b2n b) = true) (hptp : crossOk s 9 = true) :
    ¬ (!portUp s b || !crossOk s (6 + b2n b) || !crossOk s 9) = true := by
  simp [hport, hcross, hptp]

/-- What a module that may pass the message on does with it, whose correction grows by `add`. -/
def eventPassed (s1 : State) (dom : Option Nat) (b : Bool) (m : List Byte) (add : Nat) : State :=
  if !passesOn s1 dom (beAt m 0 1 % 16) || !ethForwards s1 then s1
  else if decide (beAt m 0 1 % 16 = 0) && bitOf (beAt m 6 1) 1 then
    let s3 := ptpOut s1 (!b) m
    match s3.ptp.held.find? (fun h => decide (h.1 = b) && decide (msgKey h.2 = msgKey m)) with
    | some h => ptpOut { s3 with ptp := { s3.ptp with held := s3.ptp.held.filter (fun x => decide (x ≠ h)) } } (!b) (addCorr h.2 add)
    | none => { s3 with ptp := { s3.ptp with syncs := (b, msgKey m, add, s3.power.ticks) :: s3.ptp.syncs } }
  else ptpOut s1 (!b) (addCorr m add)

/-- A stamped message as its domain takes it. -/
def eventTaken (s2 : State) (d : Nat) (b : Bool) (m : List Byte) (ago : Nat) : State :=
  let s3 := if beAt m 0 1 % 16 = 0 then syncSeen s2 d else s2
  ptpDeliver s3 (ptpRecord (fineNs (domCnt s3 d) - ago - 232) (ptNow s3 - ago - 232) (decide (d = 1)) b false m)

section
variable {s : State} {b : Bool} (m : List Byte) (ago res : Nat) (hport : portUp s b = true) (hcross : crossOk s (6 + b2n b) = true)
  (hptp : crossOk s 9 = true)
include hport hcross hptp

theorem ptpEvent_none (hdom : msgDomain s m = none) :
    ptpEvent s b m ago res = eventPassed (bump s (R.ETH_P_RX_COUNT (b2n b))) none b m (res * 65536) := by
  unfold ptpEvent
  rw [if_neg (ptpMessage_taken hport hcross hptp), hdom]
  rfl
theorem ptpEvent_some {d : Nat} (hdom : msgDomain s m = some d) :
    ptpEvent s b m ago res
      = eventTaken (eventPassed (bump s (R.ETH_P_RX_COUNT (b2n b))) (some d) b m (corrOf s (some d) b res)) d b m ago := by
  unfold ptpEvent
  rw [if_neg (ptpMessage_taken hport hcross hptp), hdom, ← corrOf_rx]
  rfl

/-- A general message of no domain passes on, as a Follow_Up where it is one. -/
theorem ptpGeneral_none (hdom : msgDomain s m = none) (hforwards : ethForwards s = true) :
    ptpGeneral s b m = if beAt m 0 1 % 16 = 8 then followUp (bump s (R.ETH_P_RX_COUNT (b2n b))) b m
      else ptpOut (bump s (R.ETH_P_RX_COUNT (b2n b))) (!b) m := by
  have hpass : ¬ (!passesOn (bump s (R.ETH_P_RX_COUNT (b2n b))) none (beAt m 0 1 % 16) || !ethForwards (bump s (R.ETH_P_RX_COUNT (b2n b)))) = true := by
    have h : ethForwards (bump s (R.ETH_P_RX_COUNT (b2n b))) = true := hforwards
    simp [passesOn, h]
  unfold ptpGeneral
  rw [if_neg (ptpMessage_taken hport hcross hptp), hdom]
  dsimp only
  rw [if_neg hpass]
  simp only [Bool.and_true, decide_eq_true_eq]

end

section
variable {s1 : State} {dom : Option Nat} {b : Bool} {m : List Byte} (add : Nat)

theorem eventPassed_still (h : ethForwards s1 = false) : eventPassed s1 dom b m add = s1 := if_pos (by simp [h])

theorem eventPassed_other (hforwards : ethForwards s1 = true) (hpass : passesOn s1 dom (beAt m 0 1 % 16) = true) (hty : beAt m 0 1 % 16 ≠ 0) :
    eventPassed s1 dom b m add = ptpOut s1 (!b) (addCorr m add) := by
  unfold eventPassed
  rw [if_neg (by simp [hforwards, hpass]), if_neg (by simp [hty])]

/-- A Sync of two steps whose Follow_Up has not come waits for it. -/
theorem eventPassed_twoStep (hforwards : ethForwards s1 = true) (hpass : passesOn s1 dom (beAt m 0 1 % 16) = true) (hty : beAt m 0 1 % 16 = 0)
    (htwo : bitOf (beAt m 6 1) 1 = true) (hheld : s1.ptp.held.find? (fun h => decide (h.1 = b) && decide (msgKey h.2 = msgKey m)) = none) :
    eventPassed s1 dom b m add = { ptpOut s1 (!b) m with
      ptp := { (ptpOut s1 (!b) m).ptp with syncs := (b, msgKey m, add, (ptpOut s1 (!b) m).power.ticks) :: (ptpOut s1 (!b) m).ptp.syncs } } := by
  have hheld2 : (ptpOut s1 (!b) m).ptp.held.find? (fun h => decide (h.1 = b) && decide (msgKey h.2 = msgKey m)) = none := by rw [ptpOut_ptp, hheld]
  unfold eventPassed
  rw [if_neg (by simp [hforwards, hpass]), if_pos (by simp [hty, htwo])]
  dsimp only
  rw [hheld2]

end

section
variable {s : State} {b : Bool} {m : List Byte}

theorem followUp_seen {y : Bool × List Byte × Nat × Nat}
    (h : s.ptp.syncs.find? (fun y => decide (y.1 = b) && decide (y.2.1 = msgKey m)) = some y) {u : State}
    (hu : { s with ptp := { s.ptp with syncs := s.ptp.syncs.filter (fun x => decide (x ≠ y)) } } = u) :
    followUp s b m = if u.power.ticks ≤ y.2.2.2 + 2500000 then ptpOut u (!b) (addCorr m y.2.2.1) else ptpOut (bump u R.PTP_TC_MISS_COUNT) (!b) m := by
  subst hu
  unfold followUp
  rw [h]
theorem followUp_held (h : s.ptp.syncs.find? (fun y => decide (y.1 = b) && decide (y.2.1 = msgKey m)) = none) :
    followUp s b m = { s with ptp := { s.ptp with held := s.ptp.held ++ [(b, m)] } } := by
  unfold followUp
  rw [h]

end

/-! ### Loss and slewing (R389, R393) -/

section
variable {s : State} {d : Nat} (hruns : ptpRuns s = true) (hd : d ≤ 1) (hen : domEn s d = true)

/-- The selected domain's Sync fails to come: the state with HOLDOVER, before any change of domain. -/
def holdoverState (s : State) (d : Nat) : State :=
  put (errRise (domSyncPut s d false) (if d = 0 then R.PTP_ERR_LOSS_D0 else R.PTP_ERR_LOSS_D1) 0 0) R.PTP_STATUS_HOLDOVER true

theorem ptpKept_lossRise (s : State) (d : Nat) : PtpKept s (errRise s (if d = 0 then R.PTP_ERR_LOSS_D0 else R.PTP_ERR_LOSS_D1) 0 0) := by
  refine ptpKept_errRise s 0 0 ?_ ?_
  · split <;> decide
  · split <;> decide

theorem ptpSel_domSyncPut (s : State) (d : Nat) (b : Bool) : ptpSel (domSyncPut s d b) = ptpSel s := by
  unfold ptpSel domSyncPut
  refine rd_put_ne _ _ _ _ ?_
  split <;> decide

theorem domSync_domSyncPut (s : State) (d : Nat) (b : Bool) : domSync (domSyncPut s d b) d = b := by
  unfold domSync domSyncPut
  refine flag_put_self _ _ _ ?_ ?_
  · split <;> decide
  · split <;> decide

include hruns hd hen in
theorem syncLost_selected (hsel : ptpSel s = d) (hmanual : cfgU s 37 3 0 1 ≠ 1) : Machine.syncLost s d = holdoverState s d := by
  have hkept := ptpKept_lossRise (domSyncPut s d false) d
  have hsel1 : ptpSel (errRise (domSyncPut s d false) (if d = 0 then R.PTP_ERR_LOSS_D0 else R.PTP_ERR_LOSS_D1) 0 0) = d :=
    (hkept.rd (f := R.PTP_STATUS_SEL) (.inl rfl)).trans ((ptpSel_domSyncPut s d false).trans hsel)
  have hmanual1 : cfgU (holdoverState s d) 37 3 0 1 ≠ 1 := by
    unfold cfgU cfgItem at *
    unfold holdoverState
    rw [put_cfg_eq, errRise_cfg_eq]
    exact hmanual
  unfold Machine.syncLost
  rw [if_neg (by simp [hruns, hen, hd])]
  dsimp only
  rw [if_neg (not_not.mpr hsel1)]
  exact autoFollow_manual hmanual1

theorem holdoverState_holdover (s : State) (d : Nat) : flag (holdoverState s d) R.PTP_STATUS_HOLDOVER = true :=
  flag_put_self _ _ _ (by decide) (by decide)
theorem holdoverState_ptp (s : State) (d : Nat) : (holdoverState s d).ptp = s.ptp := (ptpKept_lossRise (domSyncPut s d false) d).ptp
theorem holdoverState_sync (s : State) (d : Nat) : domSync (holdoverState s d) d = false := by
  have hkept := ptpKept_lossRise (domSyncPut s d false) d
  refine Eq.trans ?_ (domSync_domSyncPut s d false)
  unfold domSync holdoverState
  rw [flag_put_ne _ _ _ _ (by split <;> decide)]
  refine hkept.flag (.inl ?_)
  split <;> rfl

end

theorem slewShow_slewing (s : State) : flag (slewShow s) R.PTP_STATUS_SLEWING = decide (s.ptp.s ≠ 0) := flag_put_self _ _ _ (by decide) (by decide)

/-- The ticks that SLEW_END lets pass, whose slewing moves S by `per` each million. -/
def slewTicks (s : Int) (per : Nat) : Nat := (s.natAbs * 1000000 + per - 1) / per

theorem slewTicks_enough (s : Int) {per : Nat} (h : 0 < per) : s.natAbs ≤ slewTicks s per * per / 1000000 := by
  unfold slewTicks
  have hq := Nat.div_add_mod (s.natAbs * 1000000 + per - 1) per
  have hr := Nat.mod_lt (s.natAbs * 1000000 + per - 1) h
  rw [Nat.le_div_iff_mul_le (by omega), Nat.mul_comm ((s.natAbs * 1000000 + per - 1) / per) per]
  omega

theorem towardZero_reached {x : Int} {m : Nat} (h : x.natAbs ≤ m) : towardZero x m = 0 := by
  unfold towardZero
  split <;> omega

theorem ptpPass_s (s : State) (n : Nat) : (ptpPass s n).ptp.s = towardZero s.ptp.s (slewMove s n) := rfl

theorem ptpInc_otPass (s : State) (n d : Nat) : ptpInc (otPass s n) d = ptpInc s d := rfl
theorem ptpSel_otPass (s : State) (n : Nat) : ptpSel (otPass s n) = ptpSel s := rfl
theorem cfgU_otPass (s : State) (n e i o l : Nat) : cfgU (otPass s n) e i o l = cfgU s e i o l := rfl

theorem timePass_runs {s : State} (h : ptpRuns s = true) (n : Nat) : timePass s n = slewShow (ptpPass (otPass s n) n) := by
  have hon : s.power.st ≠ .off := by
    intro hoff
    simp [ptpRuns, blocksUp, fullUp, hoff] at h
  unfold timePass
  rw [if_neg hon]
  exact if_pos h

theorem slewMove_otPass (s : State) (n : Nat) : slewMove (otPass s n) n = n * (ptpInc s (ptpSel s) * cfgU s 37 3 2 2) / 1000000 := by
  unfold slewMove
  rw [ptpInc_otPass, ptpSel_otPass, cfgU_otPass, Nat.mul_assoc]

theorem timePass_s {s : State} (h : ptpRuns s = true) (n : Nat) : (timePass s n).ptp.s = towardZero s.ptp.s (slewMove (otPass s n) n) := by
  rw [timePass_runs h]
  rfl
theorem timePass_slewing {s : State} (h : ptpRuns s = true) (n : Nat) :
    flag (timePass s n) R.PTP_STATUS_SLEWING = decide ((timePass s n).ptp.s ≠ 0) := by
  rw [timePass_runs h]
  exact slewShow_slewing _

/-- After SLEW_END's ticks S is 0 (R389). -/
theorem timePass_slewEnd {s : State} (hruns : ptpRuns s = true) {per : Nat} (hper : ptpInc s (ptpSel s) * cfgU s 37 3 2 2 = per) (hpos : per ≠ 0) :
    (timePass s (slewTicks s.ptp.s per)).ptp.s = 0 ∧ flag (timePass s (slewTicks s.ptp.s per)) R.PTP_STATUS_SLEWING = false := by
  have hs : (timePass s (slewTicks s.ptp.s per)).ptp.s = 0 := by
    rw [timePass_s hruns, slewMove_otPass, hper]
    exact towardZero_reached (slewTicks_enough s.ptp.s (Nat.pos_of_ne_zero hpos))
  refine ⟨hs, ?_⟩
  rw [timePass_slewing hruns, hs]
  rfl

/-! ### STEP and PTP_TX (R394, R398) -/

/-- A domain's counter set to a value. -/
def domMoved (s : State) (d cnt : Nat) : State := { s with ptp := if d = 0 then { s.ptp with d0 := cnt } else { s.ptp with d1 := cnt } }

/-- The selected domain's counter and S moved alike. -/
def slewed (u : State) (ofs : Int) : State := anchorOut (slewShow { u with ptp := { u.ptp with s := u.ptp.s + ofs } })

section
variable (s : State) (d cnt : Nat)

theorem domMoved_s : (domMoved s d cnt).ptp.s = s.ptp.s := by
  unfold domMoved
  dsimp only
  split <;> rfl
theorem domCnt_domMoved : domCnt (domMoved s d cnt) d = cnt := by
  unfold domCnt domMoved
  by_cases h : d = 0
  · simp only [if_pos h]
  · simp only [if_neg h]
theorem domMoved_regs : (domMoved s d cnt).regs = s.regs := rfl

end

/-- The counter that STEP leaves a domain. -/
def stepCnt (s : State) (d : Nat) (ofs : Int) : Nat := (((domCnt s d : Int) + ofs) % (2 ^ 92)).toNat

theorem ptpStepOp_eq {e : Entry} {s : State} (hgood : memBad s e.addr e.len = false) {ofs : Int}
    (hofs : sInt 64 (fieldAt (memBytes s e.addr e.len) 0 8) * 2 ^ 28 = ofs) {u : State} (hu : domMoved s (e.arg0 % 2) (stepCnt s (e.arg0 % 2) ofs) = u) :
    ptpStepOp e s = if e.arg0 % 2 ≠ ptpSel s ∨ !flag s R.PTP_STATUS_ACQ then okR u 0
      else if bitOf e.arg0 1 then okR (slewed u ofs) 0 else okR (ptStepped u 1) 0 := by
  have hsel : ptpSel u = ptpSel s := by rw [← hu]; exact rd_congr rfl _
  have hacq : flag u R.PTP_STATUS_ACQ = flag s R.PTP_STATUS_ACQ := by rw [← hu]; exact flag_congr rfl _
  have heq : ptpStepOp e s = if e.arg0 % 2 ≠ ptpSel u ∨ !flag u R.PTP_STATUS_ACQ then okR u 0
      else if bitOf e.arg0 1 then okR (slewed u ofs) 0 else okR (ptStepped u 1) 0 := by
    subst hofs hu
    exact withBuf_ok hgood _
  rw [heq, hsel, hacq]

section
variable {u : State} {ofs : Int}

theorem slewed_s : (slewed u ofs).ptp.s = u.ptp.s + ofs := rfl
theorem slewed_regs (s : State) (d cnt : Nat) (ofs : Int) :
    (slewed (domMoved s d cnt) ofs).regs = (slewShow { s with ptp := (slewed (domMoved s d cnt) ofs).ptp }).regs := rfl

end

/-- One port's part of PTP_TX. -/
def ptpTxPort (e : Entry) (m : List Byte) (d : Nat) (s : State) (b : Bool) : State :=
  if bitOf e.arg0 (b2n b) && portUp s b then
    ptpDeliver (ptpOut s b m) (ptpRecord (fineNs (domCnt s d) + 184) (ptNow s + 184) (decide (d = 1)) b true m)
  else s

section
variable {e : Entry} {s : State}

theorem ptpTx_eq (hgood : memBad s e.addr e.len = false) {m : List Byte} (hm : memBytes s e.addr e.len = m) :
    ptpTx e s = okR (ptpTxPort e m ((msgDomain s m).getD (ptpSel s)) (ptpTxPort e m ((msgDomain s m).getD (ptpSel s)) s false) true) 0 := by
  subst hm
  unfold ptpTx
  rw [withBuf_ok hgood]
  rfl
theorem ptpTxPort_not {b : Bool} (h : bitOf e.arg0 (b2n b) = false) (m : List Byte) (d : Nat) : ptpTxPort e m d s b = s :=
  if_neg (by simp [h])
theorem ptpTxPort_named {b : Bool} (h : bitOf e.arg0 (b2n b) = true) (hport : portUp s b = true) (m : List Byte) (d : Nat) :
    ptpTxPort e m d s b = ptpDeliver (ptpOut s b m) (ptpRecord (fineNs (domCnt s d) + 184) (ptNow s + 184) (decide (d = 1)) b true m) :=
  if_pos (by simp [h, hport])

end

/-! ### SELECT and DOM_STATE (R393, R395) -/

theorem ptpSelect_same {e : Entry} {s : State} (h : e.arg0 = ptpSel s) :
    ptpSelect e s = (s, .done 0 (sCode 32 (clampInt (-2147483648) 2147483647 (roundDiv s.ptp.s (2 ^ 28)))) 0) := by
  unfold ptpSelect
  rw [if_pos h]
  rfl
theorem ptpSelect_other {e : Entry} {s : State} (h : e.arg0 ≠ ptpSel s) {t : State} (ht : domSwitch s e.arg0 false = t) :
    ptpSelect e s = (t, .done 0 (sCode 32 (clampInt (-2147483648) 2147483647 (roundDiv t.ptp.s (2 ^ 28)))) 0) := by
  unfold ptpSelect
  rw [if_neg h, ht]
  rfl

/-- DOM_STATE's flag and servo words of a domain. -/
def domStated (s : State) (d arg : Nat) (lock : Bool) : State :=
  put { s with ptp := { s.ptp with servo := s.ptp.servo.set d arg } } (if d = 0 then R.PTP_STATUS_D0_LOCK else R.PTP_STATUS_D1_LOCK) lock

section
variable (s : State) (d arg : Nat) (lock : Bool)

/-- A domain's LOCK is apart from the rest of STATUS. -/
theorem flag_domStated {f : Fld} (h0 : Apart R.PTP_STATUS_D0_LOCK f) (h1 : Apart R.PTP_STATUS_D1_LOCK f) : flag (domStated s d arg lock) f = flag s f := by
  unfold domStated
  refine (flag_put_ne _ _ _ _ ?_).trans (flag_congr rfl _)
  split
  · exact h0
  · exact h1
theorem ptpSel_domStated : ptpSel (domStated s d arg lock) = ptpSel s := by
  unfold ptpSel domStated
  refine (rd_put_ne _ _ _ _ ?_).trans (rd_congr rfl _)
  split <;> decide
theorem domLock_domStated : domLock (domStated s d arg lock) d = lock := by
  unfold domLock domStated
  refine flag_put_self _ _ _ ?_ ?_
  · split <;> decide
  · split <;> decide
theorem domStated_ptp : (domStated s d arg lock).ptp = { s.ptp with servo := s.ptp.servo.set d arg } := rfl
theorem rd_steps_domStated : rd (domStated s d arg lock) R.PTP_STEP_CNT_STEPS = rd s R.PTP_STEP_CNT_STEPS := by
  unfold domStated
  refine (rd_put_ne _ _ _ _ (.inl ?_)).trans (rd_congr rfl _)
  split <;> decide

end

theorem ptpDomState_eq {e : Entry} {s : State} {u : State} (hu : domStated s (e.arg0 % 2) e.arg1 (bitOf e.arg0 1) = u) :
    ptpDomState e s = if bitOf e.arg0 1 && decide (e.arg0 % 2 = ptpSel s) && !flag s R.PTP_STATUS_ACQ then okR (acquire u) 1 else okR (autoFollow u) 0 := by
  have hsel : ptpSel u = ptpSel s := by rw [← hu]; exact ptpSel_domStated _ _ _ _
  have hacq : flag u R.PTP_STATUS_ACQ = flag s R.PTP_STATUS_ACQ := by rw [← hu]; exact flag_domStated _ _ _ _ (by decide) (by decide)
  unfold ptpDomState
  dsimp only
  rw [← domStated, hu, hsel, hacq]

end Sys2Proof.Laws
namespace Sys2Proof.Proofs

open Sys2Proof Sys2Proof.Machine Sys2Proof.Laws

/-- Settles O56: each message by what passes on and what its domain takes; SELECT, DOM_STATE and STEP leave the counters and STATUS as PtpKept
says; SLEW_END's ticks are enough to bring S to 0. -/
theorem ptpRowsAct : Obligations.PtpRowsAct := by
  unfold Obligations.PtpRowsAct
  refine ⟨?event, ?lost, ?general, ?late, ?select, ?selectSame, ?domState, ?stepSlew, ?stepAt, ?txNone, ?txA, ?loss, ?slewZero, ?slewEnd, ?anchor⟩
  case event =>
    intro s b m ago res hport hcross hptp s1 rec1
    refine ⟨fun hdom hty hforwards => ?_, fun hdom hty htwo hforwards hheld => ?_, fun d hdom hty hforwards => ?_, fun d hdom hty hforwards hpass => ?_⟩
    · refine ⟨_, congrArg Host.Outcome.next ((ptpEvent_none m ago res hport hcross hptp hdom).trans ?_), rfl⟩
      exact eventPassed_other (s1 := s1) _ hforwards rfl hty
    · refine ⟨_, congrArg Host.Outcome.next ((ptpEvent_none m ago res hport hcross hptp hdom).trans ?_), _, rfl, rfl⟩
      exact eventPassed_twoStep (s1 := s1) _ hforwards rfl hty htwo hheld
    · refine ⟨_, congrArg Host.Outcome.next ((ptpEvent_some m ago res hport hcross hptp hdom).trans ?_), rfl⟩
      rw [eventPassed_still (s1 := bump s (R.ETH_P_RX_COUNT (b2n b))) _ hforwards]
      unfold eventTaken
      rw [if_pos hty]
    · refine ⟨_, congrArg Host.Outcome.next ((ptpEvent_some m ago res hport hcross hptp hdom).trans ?_), _, rfl, rfl⟩
      have hpass1 : passesOn (bump s (R.ETH_P_RX_COUNT (b2n b))) (some d) (beAt m 0 1 % 16) = true := hpass
      rw [eventPassed_other (s1 := bump s (R.ETH_P_RX_COUNT (b2n b))) _ hforwards hpass1 hty]
      unfold eventTaken
      rw [if_neg hty]
  case lost =>
    exact fun s b m ago res h => ⟨congrArg Host.Outcome.next (if_pos (ptpMessage_lost h)), congrArg Host.Outcome.next (if_pos (ptpMessage_lost h))⟩
  case general =>
    intro s b m hport hcross hptp hdom hforwards s1
    have hgeneral := ptpGeneral_none m hport hcross hptp hdom hforwards
    refine ⟨fun hty => ?_, fun y hty hsync => ?_, fun hty hsync => ?_⟩
    · exact ⟨_, congrArg Host.Outcome.next (hgeneral.trans (if_neg hty)), rfl⟩
    · refine ⟨_, congrArg Host.Outcome.next (hgeneral.trans (if_pos hty)), _, rfl, ?_⟩
      exact followUp_seen (s := s1) hsync rfl
    · refine ⟨_, congrArg Host.Outcome.next (hgeneral.trans (if_pos hty)), ?_⟩
      exact followUp_held (s := s1) hsync
  case late =>
    intro s h l hheld
    have hlate : followUpLate s = ptpOut (bump { s with ptp := { s.ptp with held := l } } R.PTP_TC_MISS_COUNT) (!h.1) h.2 := by
      unfold followUpLate
      rw [hheld]
    refine ⟨_, congrArg Host.Outcome.next hlate, ?_, rfl⟩
    rw [ptpOut_ptp]
    rfl
  case select =>
    intro s e hgoes hd hne hacq
    have hact := ptpSelect_other hne rfl
    refine ⟨_, leaves_of_act hgoes hact ⟨ptpSel_domSwitch false hd, ptFine_domSwitch false hd hacq, ?_, rfl, domSwitch_switches false⟩⟩
    rw [domSwitch_ptp]
    exact if_pos hacq
  case selectSame => exact fun s e hgoes hsame => leaves_of_act hgoes (ptpSelect_same hsame) rfl
  case domState =>
    intro s e hgoes d u
    have hu : domStated s d e.arg1 (bitOf e.arg0 1) = u := rfl
    have hact := ptpDomState_eq (e := e) hu
    have hptp : u.ptp = { s.ptp with servo := s.ptp.servo.set d e.arg1 } := rfl
    have hlock : domLock u d = bitOf e.arg0 1 := domLock_domStated s d e.arg1 (bitOf e.arg0 1)
    have hhold : flag u R.PTP_STATUS_HOLDOVER = flag s R.PTP_STATUS_HOLDOVER := flag_domStated s d e.arg1 (bitOf e.arg0 1) (by decide) (by decide)
    have hsteps : rd u R.PTP_STEP_CNT_STEPS = rd s R.PTP_STEP_CNT_STEPS := rd_steps_domStated s d e.arg1 (bitOf e.arg0 1)
    clear_value u
    refine ⟨fun hsel hlocked hno => ?_, fun hother => ?_⟩
    · refine leaves_of_act hgoes (hact.trans (if_pos ?_)) ⟨acquire_acq u, ?_, ?_, ?_, ?_⟩
      · have h : e.arg0 % 2 = ptpSel s := hsel
        simp [hlocked, h, hno]
      · rw [acquire_ptp]
      · rw [acquire_ptp, hptp]
      · rw [acquire_ptp, hptp]
      · rw [acquire_steps, hsteps]
    · refine leaves_of_act hgoes (hact.trans (if_neg ?_)) ⟨rfl, (domLock_autoFollow u d).trans hlock, (autoFollow_servo u).trans (by rw [hptp]), fun h => ?_⟩
      · have h : e.arg0 % 2 ≠ ptpSel s ∨ bitOf e.arg0 1 = false ∨ flag s R.PTP_STATUS_ACQ = true := hother
        rcases h with h | h | h <;> simp [h]
      · rw [autoFollow_noHoldover (hhold.trans h), hptp]
  case stepSlew =>
    intro s e hgoes hgood hsel hacq hslew
    have hgo : ¬ (e.arg0 % 2 ≠ ptpSel s ∨ (!flag s R.PTP_STATUS_ACQ) = true) := by simp [hsel, hacq]
    refine leaves_of_act hgoes ((ptpStepOp_eq hgood rfl rfl).trans ((if_neg hgo).trans (if_pos hslew))) ⟨?_, slewed_regs _ _ _ _⟩
    rw [slewed_s, domMoved_s]
  case stepAt =>
    intro s e hgoes hgood
    refine ⟨domMoved s (e.arg0 % 2) (stepCnt s (e.arg0 % 2) (sInt 64 (fieldAt (memBytes s e.addr e.len) 0 8) * 2 ^ 28)), rfl, domMoved_s _ _ _,
      domCnt_domMoved _ _ _, fun hother => ?_, fun hsel hacq hstep => ?_⟩
    · refine leaves_of_act hgoes ((ptpStepOp_eq hgood rfl rfl).trans (if_pos ?_)) rfl
      rcases hother with h | h
      · exact .inl h
      · exact .inr (by simp [h])
    · refine leaves_of_act hgoes ((ptpStepOp_eq hgood rfl rfl).trans ((if_neg ?_).trans (if_neg ?_))) rfl
      · simp [hsel, hacq]
      · simp [hstep]
  case txNone =>
    intro s e hgoes hgood hnoA hnoB
    refine leaves_of_act hgoes (ptpTx_eq hgood rfl) ?_
    rw [ptpTxPort_not (b := false) hnoA, ptpTxPort_not (b := true) hnoB]
  case txA =>
    intro s e hgoes hgood hA hport hnoB
    refine leaves_of_act hgoes (ptpTx_eq hgood rfl) ⟨_, _, rfl, rfl, ?_⟩
    rw [ptpTxPort_named (b := false) hA hport, ptpTxPort_not (b := true) hnoB]
  case loss =>
    intro s d hruns hd hen hsel hmanual
    exact ⟨_, congrArg Host.Outcome.next (syncLost_selected hruns hd hen hsel hmanual), holdoverState_holdover s d, holdoverState_sync s d,
      holdoverState_ptp s d⟩
  case slewZero =>
    intro s hzero
    refine ⟨_, congrArg Host.Outcome.next (if_pos (.inl hzero)), rfl, (slewShow_slewing s).trans ?_⟩
    rw [hzero]
    rfl
  case slewEnd =>
    intro s hs hruns hper
    refine ⟨_, congrArg Host.Outcome.next (if_neg ?_), timePass_slewEnd hruns rfl hper⟩
    simp [hs, hruns, hper]
  case anchor =>
    intro s hruns
    exact ⟨_, congrArg Host.Outcome.next (if_pos hruns), rfl, rfl, _, rfl, rfl, rfl⟩

end Sys2Proof.Proofs
end

section
/-! The CAN controllers (R403 to R418). -/

namespace Sys2Proof.Laws

open Sys2Proof Sys2Proof.Machine

/-! ### What is left of the controllers -/

theorem QueueOnly.can {s t : State} (h : QueueOnly s t) : t.can = s.can := by
  obtain ⟨rg, rc, pp, mm, me, qs, ou, rfl, -⟩ := h
  rfl

theorem canUp_lt {s : State} {n : Nat} (h : canUp s n = true) : n < 3 := by
  unfold canUp at h
  simp only [Bool.and_eq_true, decide_eq_true_eq] at h
  exact h.1.1

theorem canUp_of_live {s : State} {n : Nat} (h : canLive s n = true) : canUp s n = true := (Bool.and_eq_true_iff.mp h).1

/-- A register of a controller is none of the recorder's or of the generators'. -/
theorem offRec_can {n : Nat} (hn : n < 3) (c : Nat) (hlo : 0x100E0000 ≤ c) (hhi : c ≤ 0x100E1000) : OffRec (c + 0x1000 * n) := by
  constructor <;> omega
theorem offQueue_can {n : Nat} (hn : n < 3) (c : Nat) (hlo : 0x100E0000 ≤ c) (hhi : c ≤ 0x100E1000) : OffQueue (c + 0x1000 * n) :=
  ⟨offRec_can hn c hlo hhi, by omega⟩

/-- A field of a controller's register by its offset, and its distance from another one of the same controller. -/
theorem apart_can {n : Nat} {f g : Fld} (a b : Nat) (hf : f.addr = a + 0x1000 * n) (hg : g.addr = b + 0x1000 * n) (h : a ≠ b) : Apart f g :=
  .inl (by omega)

section
variable {s : State} {n : Nat} (hn : n < 3)
include hn

theorem canRecord_can (time kind obj ff dlc id info : Nat) (data : List Byte) : (canRecord s n time kind obj ff dlc id info data).can = s.can := by
  unfold canRecord
  dsimp only
  obtain h | ⟨u, hu, h⟩ := queueOnly_streamOr s (qp := 38 + n) (by omega) (_ ++ leBytes 4 (crc32c _))
    (fun s => errRise (bump s (R.CAN_RPT_LOST_CNT_COUNT n)) (R.CAN_ERR_LOST n) 0 0)
  · exact h.can
  · exact (congrArg State.can h).trans ((errRise_can_eq _ _ _ _).trans hu.can)

/-- A record leaves the controller's fields, beside the count of lost records and ERR. -/
theorem rd_canRecord (time kind obj ff dlc id info : Nat) (data : List Byte) {g : Fld} (hg : OffQueue g.addr)
    (hlost : Apart (R.CAN_RPT_LOST_CNT_COUNT n) g) (herr : Apart (R.CAN_ERR_LOST n) g) :
    rd (canRecord s n time kind obj ff dlc id info data) g = rd s g := by
  unfold canRecord
  dsimp only
  obtain h | ⟨u, hu, h⟩ := queueOnly_streamOr s (qp := 38 + n) (by omega) (_ ++ leBytes 4 (crc32c _))
    (fun s => errRise (bump s (R.CAN_RPT_LOST_CNT_COUNT n)) (R.CAN_ERR_LOST n) 0 0)
  · exact h.rd g hg
  · exact (congrArg (fun x => rd x g) h).trans ((rd_errRise_ne _ _ _ _ _ hg.1 herr).trans ((rd_bump_ne _ _ _ hlost).trans (hu.rd g hg)))

theorem objRecord_can (k kind time : Nat) (data : List Byte) (attempts : Nat) : (objRecord s n k kind time data attempts).can = s.can := by
  unfold objRecord
  split
  · rfl
  · exact canRecord_can hn _ _ _ _ _ _ _ _
theorem canState_can : (canState s n).can = s.can := by
  unfold canState
  exact canRecord_can hn _ _ _ _ _ _ _ _

end

theorem canFollow_can (s : State) (n : Nat) : (canFollow s n).can = s.can := by
  unfold canFollow
  dsimp only
  split
  · split
    · exact errRise_can_eq _ _ _ _
    · rfl
  · rfl

theorem rd_canFollow (s : State) (n : Nat) {g : Fld} (hg : OffRec g.addr) (hst : Apart (R.CAN_STATUS_STATE n) g) (herr : Apart (R.CAN_ERR_PASSIVE n) g) :
    rd (canFollow s n) g = rd s g := by
  unfold canFollow
  dsimp only
  split
  · split
    · exact (rd_errRise_ne _ _ _ _ _ hg herr).trans (rd_wr_ne _ _ _ _ hst)
    · exact rd_wr_ne _ _ _ _ hst
  · rfl

theorem rd_rxGood (s : State) (n : Nat) {g : Fld} (h : Apart (R.CAN_ECNT_RXEC n) g) : rd (rxGood s n) g = rd s g := by
  unfold rxGood
  dsimp only
  split
  · rfl
  · split
    · exact (rd_wr_ne _ _ _ _ h).trans (rd_congr rfl _)
    · exact rd_wr_ne _ _ _ _ h

theorem rd_canMod (s : State) (n : Nat) (f : CanCtl → CanCtl) (g : Fld) : rd (canMod s n f) g = rd s g := rfl

theorem rd_canNotAlone (s : State) (n : Nat) {g : Fld} (h : Apart (R.CAN_STATUS_ALONE n) g) : rd (canNotAlone s n) g = rd s g := by
  unfold canNotAlone
  rw [rd_put_ne _ _ _ _ h, rd_canMod]

/-! ### A received frame (R403, R409) -/

/-- The controller as a frame received well leaves it. -/
def canHeard (s : State) (n : Nat) : State := canFollow (rxGood (canNotAlone (bump s (R.CAN_RX_CNT_COUNT n)) n) n) n

/-- A frame received well changes the controller's STATUS, ECNT, RX_CNT and ERR alone. -/
theorem rd_canHeard (s : State) (n : Nat) {g : Fld} (hg : OffRec g.addr) (hst : g.addr ≠ R.CAN_STATUS n) (hecnt : g.addr ≠ R.CAN_ECNT n)
    (hrx : g.addr ≠ R.CAN_RX_CNT n) (herr : g.addr ≠ R.CAN_ERR n) : rd (canHeard s n) g = rd s g := by
  unfold canHeard
  rw [rd_canFollow _ _ hg (.inl hst.symm) (.inl herr.symm), rd_rxGood _ _ (.inl hecnt.symm), rd_canNotAlone _ _ (.inl hst.symm),
    rd_bump_ne _ _ _ (.inl hrx.symm)]

theorem crossOk_canHeard {s : State} {n : Nat} (hn : n < 3) (d : Nat) : crossOk (canHeard s n) d = crossOk s d := by
  have hrd : rd (canHeard s n) R.CLK_XSTAT_TWO_FLOP = rd s R.CLK_XSTAT_TWO_FLOP := by
    refine rd_canHeard s n (by decide) ?_ ?_ ?_ ?_
    · simp only [R.CLK_XSTAT_TWO_FLOP, R.CLK_XSTAT, R.CAN_STATUS]; omega
    · simp only [R.CLK_XSTAT_TWO_FLOP, R.CLK_XSTAT, R.CAN_ECNT]; omega
    · simp only [R.CLK_XSTAT_TWO_FLOP, R.CLK_XSTAT, R.CAN_RX_CNT]; omega
    · simp only [R.CLK_XSTAT_TWO_FLOP, R.CLK_XSTAT, R.CAN_ERR]; omega
  exact congrArg (fun x => !Nat.testBit x d) hrd

theorem objStl_canHeard {s : State} {n k : Nat} (hn : n < 3) (hk : k < 128) : objStl (canHeard s n) n k = objStl s n k := by
  have hrd : rd (canHeard s n) (R.CAN_STL_OWN_OWN n (k / 32)) = rd s (R.CAN_STL_OWN_OWN n (k / 32)) := by
    refine rd_canHeard s n ?_ ?_ ?_ ?_ ?_
    · simp only [R.CAN_STL_OWN_OWN, R.CAN_STL_OWN, OffRec]; omega
    · simp only [R.CAN_STL_OWN_OWN, R.CAN_STL_OWN, R.CAN_STATUS]; omega
    · simp only [R.CAN_STL_OWN_OWN, R.CAN_STL_OWN, R.CAN_ECNT]; omega
    · simp only [R.CAN_STL_OWN_OWN, R.CAN_STL_OWN, R.CAN_RX_CNT]; omega
    · simp only [R.CAN_STL_OWN_OWN, R.CAN_STL_OWN, R.CAN_ERR]; omega
  exact congrArg (Nat.testBit · (k % 32)) hrd

theorem rxGood_cfg (s : State) (n : Nat) : (rxGood s n).cfg = s.cfg := by
  unfold rxGood
  dsimp only
  split
  · rfl
  · split <;> rfl
theorem canFollow_cfg (s : State) (n : Nat) : (canFollow s n).cfg = s.cfg := by
  unfold canFollow
  dsimp only
  split
  · split
    · exact errRise_cfg_eq _ _ _ _
    · rfl
  · rfl
theorem canHeard_cfg (s : State) (n : Nat) : (canHeard s n).cfg = s.cfg := by
  unfold canHeard
  rw [canFollow_cfg, rxGood_cfg]
  rfl

/-- A configuration's field follows the items alone. -/
theorem cfgU_congr {s t : State} (h : t.cfg = s.cfg) (e i o l : Nat) : cfgU t e i o l = cfgU s e i o l := by
  unfold cfgU cfgItem
  rw [h]

theorem objDir_canHeard (s : State) (n k : Nat) : objDir (canHeard s n) n k = objDir s n k := cfgU_congr (canHeard_cfg s n) _ _ _ _

section
variable {s : State} {n : Nat} {fr : CanFrame} (hlive : canLive s n = true) (hclassic : fr.fdf = false)
include hlive hclassic

theorem canReceive_classic (stl : Nat → List Byte → State → State) : canReceive s n fr stl = canOffer (canHeard s n) n fr stl := by
  unfold canReceive
  rw [if_neg (by simp [hlive]), if_neg (by simp [hclassic])]
  rfl

end

section
variable {s : State} {n : Nat} {fr : CanFrame} (hcross : crossOk s 8 = true)

theorem canOffer_lost (hlost : crossOk s 8 = false) (stl : Nat → List Byte → State → State) : canOffer s n fr stl = s := if_pos (by simp [hlost])
include hcross
theorem canOffer_none (hnone : (List.range 128).find? (objMatches s n fr) = none) (stl : Nat → List Byte → State → State) :
    canOffer s n fr stl = bump s (R.CAN_NOMATCH_CNT_COUNT n) := by
  unfold canOffer
  rw [if_neg (by simp [hcross]), hnone]
theorem canOffer_mailbox {k : Nat} (hsome : (List.range 128).find? (objMatches s n fr) = some k) (hstl : objStl s n k = false) (hdir : objDir s n k = 2)
    (stl : Nat → List Byte → State → State) : canOffer s n fr stl = imgWrite s n k fr := by
  unfold canOffer
  rw [if_neg (by simp [hcross]), hsome]
  dsimp only
  rw [if_neg (by simp [hstl]), if_pos hdir]

end

/-! ### Attempts (R412, R413) -/

theorem canAt_canMod {s : State} {n : Nat} (h : n < s.can.length) (f : CanCtl → CanCtl) : canAt (canMod s n f) n = f (canAt s n) := by
  unfold canAt canMod modAt
  simp [List.getD_eq_getElem?_getD, h]

/-- No attempt runs at a controller. -/
def NoAttempt (s : State) (n : Nat) : Prop := (canAt s n).attempt = none

section
variable {s t : State} {n : Nat}

theorem NoAttempt.congr (h : NoAttempt s n) (hcan : t.can = s.can) : NoAttempt t n := by
  unfold NoAttempt canAt at *
  rw [hcan]
  exact h

theorem NoAttempt.canMod (h : NoAttempt s n) {f : CanCtl → CanCtl} (hf : ∀ c, c.attempt = none → (f c).attempt = none) : NoAttempt (canMod s n f) n := by
  unfold NoAttempt Machine.canAt at h
  unfold NoAttempt Machine.canAt Machine.canMod modAt
  simp only [List.getD_eq_getElem?_getD, List.getElem?_modify] at h ⊢
  cases hc : s.can[n]? with
  | none => simp [CanCtl.init]
  | some c =>
    rw [hc] at h
    simpa using hf c h

/-- An attempt that is taken away runs no more. -/
theorem noAttempt_cleared (s : State) (n : Nat) : NoAttempt (Machine.canMod s n (fun c => { c with attempt := none })) n := by
  unfold NoAttempt Machine.canAt Machine.canMod modAt
  simp only [List.getD_eq_getElem?_getD, List.getElem?_modify]
  cases s.can[n]? with
  | none => simp [CanCtl.init]
  | some c => simp

theorem NoAttempt.objMod (h : NoAttempt s n) (k : Nat) (f : CanObj → CanObj) : NoAttempt (Machine.objMod s n k f) n := h.canMod (fun _ hc => hc)

theorem NoAttempt.objDone (h : NoAttempt s n) (hn : n < 3) (k kind time : Nat) : NoAttempt (Machine.objDone s n k kind time) n := by
  have hrec := h.congr (objRecord_can hn k kind time (objAt s n k).data (objAt s n k).attempts)
  unfold Machine.objDone
  dsimp only
  split
  · exact hrec.objMod _ _
  · exact (hrec.objMod k _).congr rfl

theorem NoAttempt.objFailed (h : NoAttempt s n) (hn : n < 3) (k : Nat) (cancelled : Bool) : NoAttempt (Machine.objFailed s n k cancelled) n := by
  unfold Machine.objFailed
  split
  · exact h.objDone hn _ _ _
  · split
    · exact h.objDone hn _ _ _
    · split
      · exact h.objDone hn _ _ _
      · exact h

theorem NoAttempt.canAlone (h : NoAttempt s n) (hn : n < 3) (ack : Bool) : NoAttempt (Machine.canAlone s n ack) n := by
  unfold Machine.canAlone
  generalize (if ack = true then (Machine.canAt s n).aloneRun + 1 else 0) = run
  have hrun : NoAttempt (Machine.canMod s n (fun c => { c with aloneRun := run })) n := h.canMod (fun _ hc => hc)
  dsimp only
  split
  · refine hrun.congr ?_
    rw [canState_can hn, errRise_can_eq]
    rfl
  · exact hrun

theorem NoAttempt.canGoOff (h : NoAttempt s n) (hn : n < 3) : NoAttempt (Machine.canGoOff s n) n := by
  refine h.congr ?_
  unfold Machine.canGoOff
  rw [canState_can hn, errRise_can_eq]
  rfl

theorem cfgBoundary_can (s : State) (key : Nat) : (cfgBoundary s key).can = s.can := by
  unfold cfgBoundary
  split <;> rfl

/-- A step that starts no attempt, done for each of a list. -/
theorem NoAttempt.foldl {α : Type} (h : NoAttempt s n) {f : State → α → State} (hf : ∀ u x, NoAttempt u n → NoAttempt (f u x) n) (l : List α) :
    NoAttempt (l.foldl f s) n := by
  induction l generalizing s with
  | nil => exact h
  | cons x l ih => exact ih (hf s x h)

/-- An object's request given up with its waiting data. -/
theorem NoAttempt.dropped (h : NoAttempt s n) (hn : n < 3) (k time : Nat) :
    NoAttempt (Machine.objDone (Machine.objMod s n k (fun o => { o with next := none })) n k 3 time) n := (h.objMod k _).objDone hn k 3 time

theorem NoAttempt.canItems (h : NoAttempt s n) (hn : n < 3) : NoAttempt (Machine.canItems s n) n := by
  refine h.foldl (fun u k hu => ?_) _
  dsimp only
  split
  · refine NoAttempt.congr ?_ (cfgBoundary_can _ _)
    split
    · exact hu.dropped hn k _
    · exact hu
  · exact hu

theorem NoAttempt.canLeave (h : NoAttempt s n) (hn : n < 3) : NoAttempt (Machine.canLeave s n) n :=
  ((h.foldl (fun _ k hu => hu.dropped hn k _) ((List.range 128).filter (objPend s n))).canMod
    (f := fun c => { c with attempt := none, stopping := false, aloneRun := 0 }) (fun _ _ => rfl)).congr rfl

theorem NoAttempt.canAfter (h : NoAttempt s n) (hn : n < 3) : NoAttempt (Machine.canAfter s n) n := by
  unfold Machine.canAfter
  dsimp only
  split
  · exact ((h.canItems hn).canLeave hn).congr (queueOnly_finishEntry _ (by omega) _ _ _ _).can
  · exact h.canItems hn

end

/-! ### An attempt's begin and end -/

theorem canAttempt_picks {s : State} {n k : Nat} (hlive : canLive s n = true) (hno : (canAt s n).attempt = none) (hmode : canU s n 0 1 ≠ 1)
    (hpick : canPick s n = some k) :
    canAttempt s n = put (objMod (canMod (pepperWait s 5 n) n (fun c => { c with attempt := some (k, false) })) n k
      (fun o => { o with attempts := o.attempts + 1 })) (R.CAN_STATUS_TX_BUSY n) true := by
  unfold canAttempt
  rw [if_neg (by simp [hlive, hno, hmode]), hpick]

theorem rd_objMod (s : State) (n k : Nat) (f : CanObj → CanObj) (g : Fld) : rd (objMod s n k f) g = rd s g := rfl
theorem canAt_put (s : State) (f : Fld) (b : Bool) (n : Nat) : canAt (put s f b) n = canAt s n := rfl

theorem objPend_congr {s t : State} {n j : Nat} (h : rd t (R.CAN_TXPEND_PEND n (j / 32)) = rd s (R.CAN_TXPEND_PEND n (j / 32))) :
    objPend t n j = objPend s n j := congrArg (Nat.testBit · (j % 32)) h

/-- A start of frame leaves every object pending that was. -/
theorem objPend_attempt {s : State} {n j : Nat} (hn : n < 3) (hj : j < 128) (f : CanCtl → CanCtl) (k : Nat) (g : CanObj → CanObj) (b : Bool) :
    objPend (put (objMod (canMod (pepperWait s 5 n) n f) n k g) (R.CAN_STATUS_TX_BUSY n) b) n j = objPend s n j := by
  refine objPend_congr ((rd_put_ne _ _ _ _ (.inl ?_)).trans (Eq.trans ?_ ((recOnly_pepperWait s 5 n).rd _ ?_)))
  · simp only [R.CAN_STATUS_TX_BUSY, R.CAN_STATUS, R.CAN_TXPEND_PEND, R.CAN_TXPEND]; omega
  · rw [rd_objMod, rd_canMod]
  · simp only [R.CAN_TXPEND_PEND, R.CAN_TXPEND, OffRec]; omega

theorem canAt_attempt {s : State} {n : Nat} (h : n < s.can.length) (f : CanCtl → CanCtl) (k : Nat) (g : CanObj → CanObj) (b : Bool) :
    (canAt (put (objMod (canMod (pepperWait s 5 n) n f) n k g) (R.CAN_STATUS_TX_BUSY n) b) n).attempt = (f (canAt s n)).attempt := by
  have hlen : n < (pepperWait s 5 n).can.length := by rw [pepperWait_can_eq]; exact h
  have hat : canAt (pepperWait s 5 n) n = canAt s n := by
    unfold canAt
    rw [pepperWait_can_eq]
  rw [canAt_put]
  calc (canAt (objMod (canMod (pepperWait s 5 n) n f) n k g) n).attempt = (canAt (canMod (pepperWait s 5 n) n f) n).attempt :=
        getD_modAt_keeps CanCtl.attempt (f := fun c => { c with objs := modAt c.objs k g }) (fun _ => rfl) _ n n CanCtl.init
    _ = (f (canAt s n)).attempt := by rw [canAt_canMod hlen, hat]

theorem canTdc_off {s : State} {n : Nat} (h : canU s n 14 1 = 0) (k : Nat) (tdcv : Option Nat) : canTdc s n k tdcv = s := by
  unfold canTdc
  split
  · rfl
  · exact if_pos (.inl h)

/-- The state in which a controller's attempt has ended, before what its end brings. -/
def attemptOver (s : State) (n k : Nat) (tdcv : Option Nat) : State :=
  put (canTdc (canMod s n (fun c => { c with attempt := none })) n k tdcv) (R.CAN_STATUS_TX_BUSY n) false

/-- A frame sent: counted and driven, with the error counter one lower. -/
def attemptSent (s0 : State) (n k sof : Nat) : State :=
  let s1 := canDrive (canNotAlone (bump s0 (R.CAN_TX_CNT_COUNT n)) n) n (objFrame s0 n k sof)
  let s2 := canFollow (wr s1 (R.CAN_ECNT_TEC n) (rd s1 (R.CAN_ECNT_TEC n) - 1)) n
  objDone s2 n k 2 (ptNow s2 - sof)

/-- An attempt that ended in an error: the error counter with it, and off the bus above 255. -/
def attemptError (s0 : State) (n code : Nat) (dp dom : Bool) : State :=
  let ack := decide (code = 3)
  let hold := ack && decide (canSt s0 n = canPassive) && !dom
  let s1 := canErrFrame s0 n code dp true
  let tec := rd s1 (R.CAN_ECNT_TEC n) + (if hold then 0 else 8)
  let s2 := wr s1 (R.CAN_ECNT_TEC n) (min tec 511)
  let s3 := canAlone (canFollow s2 n) n ack
  if 255 < tec then canGoOff s3 n else s3

section
variable {s : State} {n k : Nat} {c : Bool} (tdcv : Option Nat) (stl : Nat → List Byte → State → State) (hup : canUp s n = true)
  (hattempt : (canAt s n).attempt = some (k, c))
include hup hattempt

theorem canAttemptEnd_sent (hloop : canU s n 0 1 ≠ 2) (sof : Nat) :
    canAttemptEnd s n (.sent sof) tdcv stl = canAfter (attemptSent (attemptOver s n k tdcv) n k sof) n := by
  unfold canAttemptEnd
  rw [if_neg (by simp [hup]), hattempt]
  dsimp only
  rw [if_neg hloop]
  rfl
theorem canAttemptEnd_lost :
    canAttemptEnd s n .lost tdcv stl = canAfter (objFailed (canAlone (attemptOver s n k tdcv) n false) n k c) n := by
  unfold canAttemptEnd
  rw [if_neg (by simp [hup]), hattempt]
  rfl
theorem canAttemptEnd_error (code : Nat) (dp dom : Bool) :
    canAttemptEnd s n (.error code dp dom) tdcv stl = canAfter (objFailed (attemptError (attemptOver s n k tdcv) n code dp dom) n k c) n := by
  unfold canAttemptEnd
  rw [if_neg (by simp [hup]), hattempt]
  rfl

end

theorem attemptOver_off {s : State} {n : Nat} (h : canU s n 14 1 = 0) (k : Nat) (tdcv : Option Nat) :
    attemptOver s n k tdcv = put (canMod s n (fun c => { c with attempt := none })) (R.CAN_STATUS_TX_BUSY n) false := by
  have hoff : canU (canMod s n (fun c => { c with attempt := none })) n 14 1 = 0 := h
  unfold attemptOver
  rw [canTdc_off hoff]

theorem canTdc_can (s : State) (n k : Nat) (tdcv : Option Nat) : (canTdc s n k tdcv).can = s.can := by
  unfold canTdc
  split
  · rfl
  · split
    · rfl
    · rename_i v _
      have hwr : (if canU s n 16 1 ≤ v then wr s (R.CAN_TDC_TDCV n) (min v 127) else s).can = s.can := by split <;> rfl
      generalize (if canU s n 16 1 ≤ v then wr s (R.CAN_TDC_TDCV n) (min v 127) else s) = u at hwr ⊢
      dsimp only
      split
      · exact (errRise_can_eq _ _ _ _).trans hwr
      · exact hwr

theorem noAttempt_attemptOver (s : State) (n k : Nat) (tdcv : Option Nat) : NoAttempt (attemptOver s n k tdcv) n :=
  (noAttempt_cleared s n).congr (canTdc_can _ _ _ _)

theorem NoAttempt.ite {p : Prop} [Decidable p] {s t : State} {n : Nat} (hs : NoAttempt s n) (ht : NoAttempt t n) :
    NoAttempt (if p then s else t) n := by
  split
  · exact hs
  · exact ht

theorem canErrFrame_can (s : State) (n code : Nat) (dp tx : Bool) : (canErrFrame s n code dp tx).can = s.can := rfl

theorem NoAttempt.attemptError {s : State} {n : Nat} (h : NoAttempt s n) (hn : n < 3) (code : Nat) (dp dom : Bool) :
    NoAttempt (attemptError s n code dp dom) n := by
  have halone (v : Nat) (ack : Bool) :
      NoAttempt (Machine.canAlone (canFollow (wr (canErrFrame s n code dp true) (R.CAN_ECNT_TEC n) v) n) n ack) n := by
    refine NoAttempt.canAlone (h.congr ?_) hn ack
    rw [canFollow_can, wr_can_eq, canErrFrame_can]
  exact NoAttempt.ite ((halone _ _).canGoOff hn) (halone _ _)

/-- A lost arbitration keeps a request that no data waits for. -/
theorem objFailed_keeps {s : State} {n k : Nat} (hone : objFlag s n k 4 = false) (hnext : (objAt s n k).next = none) : objFailed s n k false = s := by
  unfold objFailed
  rw [if_neg (by decide), if_neg (by simp [hone]), if_neg (by simp [hnext])]

/-- The controllers' other state is no part of an object. -/
theorem objAt_canMod (s : State) (n k : Nat) {f : CanCtl → CanCtl} (hf : ∀ c, (f c).objs = c.objs) : objAt (canMod s n f) n k = objAt s n k :=
  congrArg (fun l : List CanObj => l.getD k { data := [], attempts := 0, next := none, ucnt := 0 })
    (getD_modAt_keeps CanCtl.objs hf s.can n n CanCtl.init)

theorem canAlone_run (s : State) (n : Nat) : canAlone s n false = canMod s n (fun c => { c with aloneRun := 0 }) := rfl

theorem objAt_put (s : State) (f : Fld) (b : Bool) (n k : Nat) : objAt (put s f b) n k = objAt s n k := rfl

theorem objAt_afterLoss (s : State) (n k : Nat) :
    objAt (canAlone (put (canMod s n (fun c => { c with attempt := none })) (R.CAN_STATUS_TX_BUSY n) false) n false) n k = objAt s n k := by
  rw [canAlone_run, objAt_canMod _ _ _ (f := fun c => { c with aloneRun := 0 }) (fun _ => rfl), objAt_put]
  exact objAt_canMod s n k (fun _ => rfl)

theorem objFlag_afterLoss (s : State) (n k b : Nat) :
    objFlag (canAlone (put (canMod s n (fun c => { c with attempt := none })) (R.CAN_STATUS_TX_BUSY n) false) n false) n k b = objFlag s n k b := rfl

/-! ### Errors, integration and bus-off (R403, R414, R416) -/

section
variable {s : State} {n : Nat} (hn : n < 3)
include hn

theorem canRxError_counted (code : Nat) (dp : Bool) (add : Nat) (hmode : canU s n 0 1 ≠ 1) :
    rd (canRxError s n code dp add) (R.CAN_ECNT_RXEC n) = min 511 (rd s (R.CAN_ECNT_RXEC n) + add) % 2 ^ (R.CAN_ECNT_RXEC n).width
    ∧ rd (canRxError s n code dp add) (R.CAN_LEC_CODE n) = code % 2 ^ (R.CAN_LEC_CODE n).width
    ∧ flag (canRxError s n code dp add) (R.CAN_LEC_TX n) = false := by
  have hact : canRxError s n code dp add = canFollow (wr (canErrFrame s n code dp false) (R.CAN_ECNT_RXEC n)
      (min 511 (rd (canErrFrame s n code dp false) (R.CAN_ECNT_RXEC n) + add))) n := if_neg hmode
  have hrxec : rd (canErrFrame s n code dp false) (R.CAN_ECNT_RXEC n) = rd s (R.CAN_ECNT_RXEC n) := by
    unfold canErrFrame
    refine (rd_put_ne _ _ _ _ ?_).trans ((rd_put_ne _ _ _ _ ?_).trans ((rd_wr_ne _ _ _ _ ?_).trans (rd_bump_ne _ _ _ ?_)))
    · exact apart_can 0x100E0008 0x100E0004 rfl rfl (by decide)
    · exact apart_can 0x100E0008 0x100E0004 rfl rfl (by decide)
    · exact apart_can 0x100E0008 0x100E0004 rfl rfl (by decide)
    · exact apart_can 0x100E0020 0x100E0004 rfl rfl (by decide)
  have hlec {g : Fld} (hg : g.addr = R.CAN_LEC n) (u : State) : rd (canFollow u n) g = rd u g := by
    refine rd_canFollow u n ?_ (apart_can 0x100E0000 0x100E0008 rfl hg (by decide)) (apart_can 0x100E0030 0x100E0008 rfl hg (by decide))
    rw [hg]
    exact offRec_can hn 0x100E0008 (by decide) (by decide)
  have hecnt {g : Fld} (hg : g.addr = R.CAN_LEC n) (u : State) (v : Nat) : rd (wr u (R.CAN_ECNT_RXEC n) v) g = rd u g := by
    exact rd_wr_ne _ _ _ _ (apart_can 0x100E0004 0x100E0008 rfl hg (by decide))
  rw [hact]
  refine ⟨?_, ?_, ?_⟩
  · refine (rd_canFollow _ _ (offRec_can hn 0x100E0004 (by decide) (by decide)) ?_ ?_).trans ?_
    · exact apart_can 0x100E0000 0x100E0004 rfl rfl (by decide)
    · exact apart_can 0x100E0030 0x100E0004 rfl rfl (by decide)
    · rw [rd_wr_self _ _ _ (show 16 + 9 ≤ 32 by omega), hrxec]
  · rw [hlec rfl, hecnt rfl]
    unfold canErrFrame
    rw [rd_put_ne _ _ _ _ (.inr ⟨show 4 + 1 ≤ 32 by omega, show 0 + 3 ≤ 32 by omega, .inr (show 0 + 3 ≤ 4 by omega)⟩),
      rd_put_ne _ _ _ _ (.inr ⟨show 3 + 1 ≤ 32 by omega, show 0 + 3 ≤ 32 by omega, .inr (show 0 + 3 ≤ 3 by omega)⟩),
      rd_wr_self _ _ _ (show 0 + 3 ≤ 32 by omega)]
  · unfold flag
    rw [hlec rfl, hecnt rfl]
    exact flag_put_self _ _ false (show 4 + 1 ≤ 32 by omega) (show 0 < 1 by omega)

theorem rd_status_canState {g : Fld} (hg : g.addr = R.CAN_STATUS n) : rd (canState s n) g = rd s g := by
  unfold canState
  refine rd_canRecord hn _ _ _ _ _ _ _ _ ?_ (apart_can 0x100E0028 0x100E0000 rfl hg (by decide)) (apart_can 0x100E0030 0x100E0000 rfl hg (by decide))
  rw [hg]
  exact offQueue_can hn 0x100E0000 (by decide) (by decide)
theorem rd_ecnt_canState {g : Fld} (hg : g.addr = R.CAN_ECNT n) : rd (canState s n) g = rd s g := by
  unfold canState
  refine rd_canRecord hn _ _ _ _ _ _ _ _ ?_ (apart_can 0x100E0028 0x100E0004 rfl hg (by decide)) (apart_can 0x100E0030 0x100E0004 rfl hg (by decide))
  rw [hg]
  exact offQueue_can hn 0x100E0004 (by decide) (by decide)
theorem canSt_canState : canSt (canState s n) n = canSt s n := rd_status_canState hn rfl

end

theorem canSt_wr_state (s : State) (n : Nat) {v : Nat} (hv : v < 8) : canSt (wr s (R.CAN_STATUS_STATE n) v) n = v :=
  (rd_wr_self s (R.CAN_STATUS_STATE n) v (show 0 + 3 ≤ 32 by omega)).trans (Nat.mod_eq_of_lt hv)

theorem canErrSt_lt (s : State) (n : Nat) : canErrSt s n < 8 := by
  unfold canErrSt
  split <;> decide

theorem canPxe_shows {s : State} {n : Nat} (hn : n < 3) : canSt (canPxe s n) n = 1 ∧ flag (canPxe s n) (R.CAN_ERR_PXE n) = true := by
  unfold canPxe
  constructor
  · refine (rd_errRise_ne _ _ _ _ _ (offRec_can hn 0x100E0000 (by decide) (by decide)) ?_).trans (canSt_wr_state _ n (by decide))
    exact apart_can 0x100E0030 0x100E0000 rfl rfl (by decide)
  · exact flag_errRise_self _ _ _ _ (offRec_can hn 0x100E0030 (by decide) (by decide)) (show 3 + 1 ≤ 32 by omega) (show 0 < 1 by omega)

/-- A controller that comes back from bus-off, before its record. -/
def backOnBus (s : State) (n : Nat) : State := wr (wr (wr s (R.CAN_ECNT_TEC n) 0) (R.CAN_ECNT_RXEC n) 0) (R.CAN_STATUS_STATE n) canActive

theorem backOnBus_tec (s : State) (n : Nat) : rd (backOnBus s n) (R.CAN_ECNT_TEC n) = 0 := by
  unfold backOnBus
  refine (rd_wr_ne _ _ _ _ ?_).trans ((rd_wr_ne _ _ _ _ ?_).trans ((rd_wr_self _ _ _ (show 0 + 9 ≤ 32 by omega)).trans rfl))
  · exact apart_can 0x100E0000 0x100E0004 rfl rfl (by decide)
  · exact .inr ⟨show 16 + 9 ≤ 32 by omega, show 0 + 9 ≤ 32 by omega, .inr (show 0 + 9 ≤ 16 by omega)⟩
theorem backOnBus_rxec (s : State) (n : Nat) : rd (backOnBus s n) (R.CAN_ECNT_RXEC n) = 0 := by
  unfold backOnBus
  refine (rd_wr_ne _ _ _ _ ?_).trans ((rd_wr_self _ _ _ (show 16 + 9 ≤ 32 by omega)).trans rfl)
  exact apart_can 0x100E0000 0x100E0004 rfl rfl (by decide)

/-! ### TX_SET and TX_CANCEL (R412, R413) -/

section
variable {s : State} {n k : Nat} (hno : (canAt s n).attempt = none)
include hno

theorem objLoad_idle (hpend : objPend s n k = false) (d : List Byte) :
    objLoad s n k d = setPend (objMod s n k (fun o => { o with data := d, attempts := 0, next := none })) n k true := by
  unfold objLoad
  rw [hno]
  unfold objLoad.load
  dsimp only
  rw [if_neg (by simp [hpend])]

theorem objCancel_idle : objCancel s n k = if objPend s n k then (0, objDone s n k 3 (ptNow s)) else (2, s) := by
  unfold objCancel
  rw [hno]
  rfl

end

theorem objPend_setPend (s : State) (n k : Nat) (b : Bool) : objPend (setPend s n k b) n k = b :=
  bitIn_putBit_self _ _ _ _ (show 0 + 32 ≤ 32 by omega) (show k % 32 < 32 by omega)

theorem objAt_objMod {s : State} {n k : Nat} (hn : n < s.can.length) (hk : k < (canAt s n).objs.length) (f : CanObj → CanObj) :
    objAt (objMod s n k f) n k = f (objAt s n k) := by
  unfold objAt objMod
  rw [canAt_canMod hn]
  simp [modAt, List.getD_eq_getElem?_getD, hk]


theorem exec_txSet {n : Nat} (hn : n < 3) (s : State) : exec (.txSet (38 + n)) s = .next (runEntry s (38 + n) 0x40 (canTxSet n)) := by
  refine congrArg Host.Outcome.next ((if_pos ⟨by omega, by omega⟩).trans ?_)
  rw [Nat.add_sub_cancel_left]
theorem exec_txCancel {n : Nat} (hn : n < 3) (s : State) : exec (.txCancel (38 + n)) s = .next (runEntry s (38 + n) 0x41 (canTxCancel n)) := by
  refine congrArg Host.Outcome.next ((if_pos ⟨by omega, by omega⟩).trans ?_)
  rw [Nat.add_sub_cancel_left]
theorem exec_recover {n : Nat} (hn : n < 3) (s : State) : exec (.recover (38 + n)) s = .next (runEntry s (38 + n) 0x42 (canRecover n)) := by
  refine congrArg Host.Outcome.next ((if_pos ⟨by omega, by omega⟩).trans ?_)
  rw [Nat.add_sub_cancel_left]

/-- Outside LOOPBACK a frame is driven on the bus (R406). -/
theorem canDrive_on {s : State} {n : Nat} (h : canU s n 0 1 ≠ 2) (fr : CanFrame) :
    canDrive s n fr = emit s .canFrame [n, fr.id, fflags fr.ide fr.fdf fr.brs fr.esi fr.rtr, fr.dlc] (frBytes fr) := if_neg h

theorem canU_notAlone (s : State) (n : Nat) (f : Fld) (m o w : Nat) : canU (canNotAlone (bump s f) m) n o w = canU s n o w := rfl
theorem canU_attemptEnded (s : State) (n : Nat) (f : Fld) (b : Bool) (g : CanCtl → CanCtl) (o w : Nat) : canU (put (canMod s n g) f b) n o w = canU s n o w := rfl

end Sys2Proof.Laws
namespace Sys2Proof.Proofs

open Sys2Proof Sys2Proof.Machine Sys2Proof.Laws

/-- Settles O57: a received frame changes nothing that its objects are chosen by; an attempt that has ended starts no other. -/
theorem canRowsAct : Obligations.CanRowsAct := by
  unfold Obligations.CanRowsAct
  refine ⟨?noMatch, ?mailbox, ?crossing, ?fdOff, ?attempt, ?sent, ?lost, ?error, ?rxError, ?pxe, ?formError, ?txSet, ?txCancel, ?recover, ?notOff,
    ?hold, ?back, ?integrated⟩
  case noMatch =>
    intro s n fr hlive hcross hfdf hnone
    have hcross2 := (crossOk_canHeard (canUp_lt (canUp_of_live hlive)) 8).trans hcross
    exact ⟨_, congrArg Host.Outcome.next ((canReceive_classic hlive hfdf _).trans (canOffer_none hcross2 hnone _)), rfl⟩
  case mailbox =>
    intro s n fr k hlive hcross hfdf hsome hstl hdir
    have hn := canUp_lt (canUp_of_live hlive)
    have hk : k < 128 := List.mem_range.mp (List.mem_of_find?_eq_some hsome)
    exact ⟨_, congrArg Host.Outcome.next ((canReceive_classic hlive hfdf _).trans (canOffer_mailbox ((crossOk_canHeard hn 8).trans hcross) hsome
      ((objStl_canHeard hn hk).trans hstl) ((objDir_canHeard s n k).trans hdir) _)), rfl⟩
  case crossing =>
    intro s n fr hlive hcross hfdf
    have hcross2 := (crossOk_canHeard (canUp_lt (canUp_of_live hlive)) 8).trans hcross
    exact ⟨_, congrArg Host.Outcome.next ((canReceive_classic hlive hfdf _).trans (canOffer_lost hcross2 _)), rfl⟩
  case fdOff =>
    intro s n fr hlive hfdf hoff
    have hdead : ¬ (!canLive s n) = true := by simp [hlive]
    have hfd : (fr.fdf && decide (canU s n 1 1 = 0)) = true := by simp [hfdf, hoff]
    exact (congrArg Host.Outcome.next ((if_neg hdead).trans (if_pos hfd))).trans (congrArg Host.Outcome.next (if_neg hdead)).symm
  case attempt =>
    intro s n k hlive hlen hno hmode hpick
    refine ⟨_, congrArg Host.Outcome.next (canAttempt_picks hlive hno hmode hpick), canAt_attempt hlen _ _ _ _,
      flag_put_self _ _ _ (show 6 + 1 ≤ 32 by omega) (show 0 < 1 by omega), fun j hj => objPend_attempt (canUp_lt (canUp_of_live hlive)) hj _ _ _ _⟩
  case sent =>
    intro s n k sof tv hup hattempt hmode hstop htdc
    refine ⟨_, congrArg Host.Outcome.next (canAttemptEnd_sent tv _ hup hattempt (by omega) sof), _, _, rfl, rfl, ?_⟩
    rw [attemptOver_off htdc]
    unfold attemptSent
    dsimp only
    rw [canDrive_on (by rw [canU_notAlone, canU_attemptEnded]; omega)]
  case lost =>
    intro s n k tv hup hattempt hone hnext htdc
    refine ⟨_, congrArg Host.Outcome.next (canAttemptEnd_lost tv _ hup hattempt), ?_⟩
    rw [attemptOver_off htdc, objFailed_keeps ((objFlag_afterLoss s n k 4).trans hone) (by rw [objAt_afterLoss]; exact hnext)]
  case error =>
    intro s n k c code dp dom tv hup hattempt
    have hn := canUp_lt hup
    exact ⟨_, congrArg Host.Outcome.next (canAttemptEnd_error tv _ hup hattempt code dp dom),
      (((noAttempt_attemptOver s n k tv).attemptError hn code dp dom).objFailed hn k c).canAfter hn⟩
  case rxError =>
    intro s n code dp add hn hlive hmode
    exact ⟨_, congrArg Host.Outcome.next (if_neg (by simp [hlive])), canRxError_counted hn code dp add hmode⟩
  case pxe =>
    intro s n hn hlive hon
    exact ⟨_, congrArg Host.Outcome.next ((if_neg (by simp [hlive])).trans (if_pos hon)), canPxe_shows hn⟩
  case formError =>
    intro s n hoff
    have hexcept : canExcept s n = canRxError s n 2 false 1 := if_neg hoff
    exact congrArg (fun t => Host.Outcome.next (if !canLive s n then s else t)) hexcept
  case txSet =>
    intro s n e hn hgoes hlen hstl hdir hon hmode hgood hno hpend
    have hact : canTxSet n e s = okR (objLoad s n (e.arg0 % 128) (memBytes s e.addr e.len)) 0 := by
      unfold canTxSet
      dsimp only
      rw [if_neg (by simp [hstl]), if_neg (by simp [hdir]), if_neg (show ¬ canSt s n = canOff from hon), if_neg hmode, withBuf_ok hgood]
    rw [objLoad_idle hno hpend] at hact
    refine leaves_of_act hgoes hact ⟨objPend_setPend _ _ _ _, fun hk => ?_⟩ (exec_txSet hn s)
    have hdata := congrArg CanObj.data (objAt_objMod hlen hk (fun o => { o with data := memBytes s e.addr e.len, attempts := 0, next := none }))
    exact hdata
  case txCancel =>
    intro s n e hn hgoes hstl hdir hno
    have hact : canTxCancel n e s = okR (objCancel s n (e.arg0 % 128)).2 (objCancel s n (e.arg0 % 128)).1 := by
      unfold canTxCancel
      dsimp only
      rw [if_neg (by simp [hstl]), if_neg (by simp [hdir])]
    rw [objCancel_idle hno] at hact
    refine ⟨fun hpend => ?_, fun hpend => ?_⟩
    · rw [if_neg (by simp [hpend])] at hact
      exact leaves_of_act hgoes hact rfl (exec_txCancel hn s)
    · rw [if_pos hpend] at hact
      exact leaves_of_act hgoes hact rfl (exec_txCancel hn s)
  case recover =>
    intro s n e hn hgoes hoff
    exact leaves_of_act hgoes (if_pos hoff) (canSt_wr_state s n (by decide)) (exec_recover hn s)
  case notOff =>
    intro s n e hn hgoes hoff
    exact leaves_of_act hgoes (if_neg hoff) rfl (exec_recover hn s)
  case hold =>
    intro s n hup hst hauto
    exact ⟨_, congrArg Host.Outcome.next (if_pos (by simp [hup, hst, hauto, canBusOff])), canSt_wr_state s n (by decide)⟩
  case back =>
    intro s n hup hst
    have hn := canUp_lt hup
    refine ⟨canState (backOnBus s n) n, congrArg Host.Outcome.next (if_pos (by simp [hup, hst, canRecov])), ?_, ?_, ?_⟩
    · exact (canSt_canState hn).trans (canSt_wr_state _ n (by decide))
    · exact (rd_ecnt_canState hn rfl).trans (backOnBus_tec s n)
    · exact (rd_ecnt_canState hn rfl).trans (backOnBus_rxec s n)
  case integrated =>
    intro s n hup hst
    exact ⟨_, congrArg Host.Outcome.next (if_pos (by simp [hup, hst, canInteg])), canSt_wr_state s n (canErrSt_lt s n)⟩

end Sys2Proof.Proofs
end

section
/-! Reception and forwarding of images (R426 to R432). -/

namespace Sys2Proof.Laws

open Sys2Proof Sys2Proof.Machine

/-! ### Steps that change registers alone -/

/-- Nothing but registers differs. -/
def RegsOnly (s t : State) : Prop := ∃ rg, t = { s with regs := rg }

theorem RegsOnly.refl (s : State) : RegsOnly s s := ⟨s.regs, rfl⟩
theorem RegsOnly.trans {s t u : State} (h : RegsOnly s t) (k : RegsOnly t u) : RegsOnly s u := by
  obtain ⟨rg, rfl⟩ := h
  obtain ⟨rg', rfl⟩ := k
  exact ⟨rg', rfl⟩
theorem regsOnly_wr (s : State) (f : Fld) (v : Nat) : RegsOnly s (wr s f v) := ⟨_, rfl⟩
theorem RegsOnly.foldl {α : Type} {f : State → α → State} (hf : ∀ s x, RegsOnly s (f s x)) (l : List α) (s : State) : RegsOnly s (l.foldl f s) := by
  induction l generalizing s with
  | nil => exact .refl s
  | cons x l ih => exact (hf s x).trans (ih _)

theorem RegsOnly.cfg {s t : State} (h : RegsOnly s t) : t.cfg = s.cfg := by
  obtain ⟨rg, rfl⟩ := h
  rfl
theorem RegsOnly.upd {s t : State} (h : RegsOnly s t) : t.upd = s.upd := by
  obtain ⟨rg, rfl⟩ := h
  rfl

/-- What a slot shows. -/
theorem regsOnly_slotShow (s : State) (k st : Nat) (h : List Byte) :
    RegsOnly s (wr (wr (wr s (R.UPD_SLOT_STATE k) st) (R.UPD_SLOT_SEC_LEVEL k) (hdrSec h)) (R.UPD_VER_VERSION k) (hdrVersion h)) :=
  ((regsOnly_wr _ _ _).trans (regsOnly_wr _ _ _)).trans (regsOnly_wr _ _ _)

theorem regsOnly_updShow (s : State) : RegsOnly s (updShow s) := by
  unfold updShow
  exact (((((((regsOnly_wr s _ _).trans (regsOnly_wr _ _ _)).trans (regsOnly_wr _ _ _)).trans (regsOnly_wr _ _ _)).trans (regsOnly_wr _ _ _)).trans
    (regsOnly_wr _ _ _)).trans (regsOnly_wr _ _ _)).trans (.foldl (fun u k => regsOnly_slotShow u k _ _) _ _)

/-! ### What leaves the items in force -/

theorem QueueOnly.cfg {s t : State} (h : QueueOnly s t) : t.cfg = s.cfg := by
  obtain ⟨rg, rc, pp, mm, me, qs, ou, rfl, -⟩ := h
  rfl

theorem streamOr_cfg (s : State) {qp : Nat} (hqp : qp < 46) (data : List Byte) {lost : State → State} (hlost : ∀ u, (lost u).cfg = u.cfg) :
    (streamOr s qp data lost).cfg = s.cfg := by
  obtain h | ⟨u, hu, h⟩ := queueOnly_streamOr s hqp data lost
  · exact h.cfg
  · rw [h, hlost, hu.cfg]

theorem bootStore_cfg (s : State) (f : BootRec → BootRec) : (bootStore s f).cfg = s.cfg := by
  unfold bootStore
  dsimp only
  split
  · exact errRise_cfg_eq _ _ _ _
  · rw [(regsOnly_updShow _).cfg, cfgStore_cfg_eq, cfgStore_cfg_eq]

theorem updReport_cfg (s : State) (kind slot cause src : Nat) (h : List Byte) : (updReport s kind slot cause src h).cfg = s.cfg := by
  unfold updReport
  exact streamOr_cfg s (by decide) _ (fun u => errRise_cfg_eq _ _ _ _)

theorem ethOut_cfg (s : State) (b : Bool) (cls stomped : Nat) (bs : List Byte) : (ethOut s b cls stomped bs).cfg = s.cfg := by
  unfold ethOut
  dsimp only
  split <;> rfl

theorem ethBoth_cfg (s : State) (cls dst svc hops rseq : Nat) (payload : List Byte) : (ethBoth s cls dst svc hops rseq payload).cfg = s.cfg := by
  have hone (u : State) (b : Bool) : (if portUp u b then ethCopy u b cls dst svc hops rseq true payload else u).cfg = u.cfg := by
    split
    · exact ethOut_cfg _ _ _ _ _
    · rfl
  exact (hone _ true).trans (hone s false)

theorem ethSend_cfg {s t : State} {cls svc dst : Nat} {payload : List Byte} (h : ethSend s cls svc dst payload = some t) : t.cfg = s.cfg := by
  have hcount : (ethCount s).cfg = s.cfg := rfl
  unfold ethSend at h
  split at h
  · cases h
  · dsimp only at h
    split at h
    · cases h
      exact (ethBoth_cfg _ _ _ _ _ _ _).trans hcount
    · split at h
      · cases h
        exact (ethBoth_cfg _ _ _ _ _ _ _).trans hcount
      · obtain ⟨b, -, rfl⟩ := Option.map_eq_some_iff.mp h
        exact (ethOut_cfg _ _ _ _ _).trans hcount

theorem ethHardware_cfg (s : State) (cls svc dst : Nat) (payload : List Byte) : (ethHardware s cls svc dst payload).cfg = s.cfg := by
  unfold ethHardware
  split
  next h => exact ethSend_cfg h
  next => rfl

theorem updAbout_cfg (s : State) (dst op xfer chunk frag cause : Nat) (h data : List Byte) :
    (updAbout s dst op xfer chunk frag cause h data).cfg = s.cfg := ethHardware_cfg _ _ _ _ _

/-- A reception as it stands at its begin. -/
def rxOpened (s : State) (slot src xfer : Nat) : State :=
  { s with upd := { s.upd with rx := some { slot := slot, src := src, xfer := xfer, next := 0, frags := [], verifying := false } } }

/-- What a reception shows at its begin. -/
def rxShown (s : State) (slot src : Nat) (h : List Byte) : State :=
  wr (put (wr (wr (wr (put s R.UPD_STATUS_RX true) R.UPD_RX_PROG_DONE 0) R.UPD_RX_PROG_TOTAL (chunkCount (hdrLength h)))
    R.UPD_RX_SRC_ADDR (if src = updHost then 0 else src)) R.UPD_RX_SRC_HOST (decide (src = updHost))) R.UPD_RX_SRC_SLOT slot

/-- A slot given a header whose data are to come. -/
def slotTaken (s : State) (slot : Nat) (h : List Byte) : State := { s with nv := { s.nv with imgs := s.nv.imgs.set slot ⟨h, [], false⟩ } }

theorem regsOnly_rxShown (s : State) (slot src : Nat) (h : List Byte) : RegsOnly s (rxShown s slot src h) :=
  (((((regsOnly_wr s _ _).trans (regsOnly_wr _ _ _)).trans (regsOnly_wr _ _ _)).trans (regsOnly_wr _ _ _)).trans (regsOnly_wr _ _ _)).trans
    (regsOnly_wr _ _ _)

theorem rxBegin_eq (s : State) (slot src xfer : Nat) (h : List Byte) :
    rxBegin s slot src xfer h = rxShown (rxOpened (slotPut (slotTaken s slot h) slot slotReceiving) slot src xfer) slot src h := rfl

theorem rxBegin_cfg (s : State) (slot src xfer : Nat) (h : List Byte) : (rxBegin s slot src xfer h).cfg = s.cfg := by
  have hslot : (slotPut (slotTaken s slot h) slot slotReceiving).cfg = s.cfg := bootStore_cfg (slotTaken s slot h) _
  rw [rxBegin_eq, (regsOnly_rxShown _ _ _ _).cfg]
  exact hslot

/-! ### QP4 (R428) -/

section
variable {s : State} {e : Entry} {h : List Byte}

theorem imgBegin_eq (hgood : memBad s e.addr e.len = false) (hh : memBytes s e.addr e.len = h) :
    imgBegin e s = match hdrCause s h (hdrSigned h) with
      | some c => failX (hdrRefuse s c updHost h) 0x40 c
      | none =>
        match rxSlot s (hdrTarget h) with
        | none => failR s 0x42
        | some k =>
          if s.upd.rx.isSome then failR s 0x43
          else if !storTakes s then failR (errRise s R.UPD_ERR_STOR 0 0) 0x44 else okR (rxBegin s k updHost 0 h) k := by
  subst hh
  exact withBuf_ok hgood _

end

section
variable {s : State} {e : Entry} {r : UpdRx} (hrx : s.upd.rx = some r) (hhost : r.src = updHost) (hopen : r.verifying = false)
include hrx hhost hopen

theorem imgChunk_misfit (hbad : chunkCount (hdrLength (imgAt s r.slot).hdr) ≤ e.arg0 ∨ r.next < e.arg0
    ∨ e.len ≠ chunkLen (hdrLength (imgAt s r.slot).hdr) e.arg0) : imgChunk e s = failR s 5 := by
  unfold imgChunk
  rw [hrx]
  dsimp only
  rw [if_neg (by simp [hhost, hopen]), if_pos hbad]

theorem imgChunk_due (hnext : e.arg0 = r.next) (hcount : r.next < chunkCount (hdrLength (imgAt s r.slot).hdr))
    (hlen : e.len = chunkLen (hdrLength (imgAt s r.slot).hdr) r.next) (hgood : memBad s e.addr e.len = false) (hstor : storTakes s = true) :
    imgChunk e s = okR (fwdGo (rxWrite s r (memBytes s e.addr e.len))) (r.next + 1) := by
  have hfit : ¬ (chunkCount (hdrLength (imgAt s r.slot).hdr) ≤ e.arg0 ∨ r.next < e.arg0 ∨ e.len ≠ chunkLen (hdrLength (imgAt s r.slot).hdr) e.arg0) := by
    rw [hnext]
    omega
  unfold imgChunk
  rw [hrx]
  dsimp only
  rw [if_neg (by simp [hhost, hopen]), if_neg hfit, withBuf_ok hgood, if_neg (by omega), if_neg (by simp [hstor])]

theorem imgEnd_whole (hall : r.next = chunkCount (hdrLength (imgAt s r.slot).hdr)) :
    imgEnd e s = ({ s with upd := { s.upd with rx := some { r with verifying := true } } }, .running r.slot) := by
  unfold imgEnd
  rw [hrx]
  dsimp only
  rw [if_neg (by simp [hhost, hopen, ← hall])]

theorem imgAbort_drops : imgAbort e s = okR (rxDrop s r 13) r.slot := by
  unfold imgAbort
  rw [hrx]
  dsimp only
  rw [if_neg (by simp [hhost, hopen])]

end

/-- A reception whose read-back has ended, by what it found. -/
def rxJudged (s : State) (r : UpdRx) (good : Bool) : State :=
  if good then
    finishEntry (updReport (slotPut { rxEnd s with nv := { (rxEnd s).nv with imgs := (rxEnd s).nv.imgs.set r.slot { imgAt s r.slot with ok := true } } } r.slot
      slotValid) 2 r.slot 0 r.src (imgAt s r.slot).hdr) 4 (Entry.runs 0x42) 0 r.slot 0
  else finishEntry (errRise (slotPut (rxEnd s) r.slot slotBad) R.UPD_ERR_HASH r.slot 0) 4 (Entry.runs 0x42) 0x41 0 0

section
variable {s : State} {r : UpdRx} (hrx : s.upd.rx = some r) (hverify : r.verifying = true) (hhost : r.src = updHost)
include hrx hverify hhost

theorem imgVerified_read (hstor : storTakes (rxEnd s) = true) :
    imgVerified s false = rxJudged s r (imgHashes (imgAt s r.slot).hdr (imgAt s r.slot).data) := by
  unfold imgVerified
  rw [hrx]
  dsimp only
  rw [if_neg (by simp [hverify]), if_neg Bool.false_ne_true, if_neg (by simp [hstor])]
  unfold rxJudged
  cases imgHashes (imgAt s r.slot).hdr (imgAt s r.slot).data with
  | true => rw [if_pos (show (!false && true) = true from rfl), if_pos hhost, if_pos rfl]
  | false => rw [if_neg (show ¬ (!false && false) = true from Bool.false_ne_true), if_pos hhost, if_neg Bool.false_ne_true]
theorem imgVerified_unread (hstor : storTakes (rxEnd (errRise s R.STOR_ERR_IMG_UE r.slot 0)) = true) :
    imgVerified s true = rxJudged (errRise s R.STOR_ERR_IMG_UE r.slot 0) r false := by
  unfold imgVerified
  rw [hrx]
  dsimp only
  rw [if_neg (by simp [hverify]), if_pos rfl, if_neg (by simp [hstor])]
  exact (if_neg Bool.false_ne_true).trans (if_pos hhost)

end

/-! ### Frames of the ring (R429, R430) -/

/-- A frame of an opcode as the running module takes it. -/
def updTaken (s : State) (op src : Nat) (p : List Byte) : State :=
  if op = opOffer then takeOffer s src p
  else if op = opAccept then takeAccept s src p
  else if op = opRefuse then takeRefuse s src p
  else if op = opData then takeData s src p
  else if op = opChunkAck then takeAck s src p
  else if op = opChunkNak then takeNak s src p
  else if op = opDone then takeDone s src p
  else if op = opCancel then takeCancel s src p
  else if op = opQuery then takeQuery s src p
  else if op = opInfo then (if (takeInfo s src p).2.isSome then updRestart (takeInfo s src p).1 else (takeInfo s src p).1)
  else s

section
variable {s : State} {src op : Nat} {p : List Byte} (hfull : fullUp s = true) (hlen : 32 ≤ p.length) (hop : fieldAt p 0 1 = op)
include hfull hlen hop

theorem updRow_taken : updRow s op src p = .next (updTaken s op src p) := by
  have hgo : ¬ (!fullUp s || decide (p.length < 32)) = true := by simp [hfull, hlen]
  subst hop
  refine congrArg Host.Outcome.next ((if_pos rfl).trans ?_)
  exact if_neg hgo

end

section
variable {s : State} {src : Nat} {p : List Byte}

theorem fwdFor_idle (h : s.upd.fwd = none) : fwdFor s src p = none := by
  unfold fwdFor
  rw [h]

/-- An OFFER taken with nothing forwarded on (R431). -/
theorem takeOffer_taken {k : Nat} (hrx : s.upd.rx = none) (htake : cfgU s 4 1 4 1 = 1) (hfwd : cfgU s 4 1 0 1 ≠ 1)
    {h : List Byte} (hh : (p.drop 32).take 512 = h) (hlen : h.length = 512) (hslot : rxSlot s (hdrTarget h) = some k) (hstor : storTakes s = true) :
    takeOffer s src p = match hdrCause s h (hdrSigned h) with
      | some c => updAbout (hdrRefuse s c src h) src 3 (updXfer p) 0 0 c h []
      | none => updAbout (updReport (rxBegin s k src (updXfer p) h) 1 k 0 src h) src 2 (updXfer p) 0 0 0 h [] := by
  have hfwd2 : cfgU (updAbout (updReport (rxBegin s k src (updXfer p) h) 1 k 0 src h) src opAccept (updXfer p) 0 0 0 h []) 4 1 0 1 ≠ 1 := by
    rw [cfgU_congr ((updAbout_cfg _ _ _ _ _ _ _ _ _).trans ((updReport_cfg _ _ _ _ _ _).trans (rxBegin_cfg _ _ _ _ _)))]
    exact hfwd
  unfold takeOffer
  dsimp only
  rw [hh, if_neg (by simp [htake, hlen]), hrx]
  dsimp only
  cases hdrCause s h (hdrSigned h) with
  | some c => rfl
  | none =>
    dsimp only
    rw [hslot]
    dsimp only
    rw [if_neg (by simp [hstor]), if_neg (fun hgo => hfwd2 hgo.1)]
    rfl

end

section
variable {s : State} {src : Nat} {p : List Byte}

theorem takeAccept_first {f : UpdFwd} (hfor : fwdFor s src p = some f) (hno : f.accepted = false) :
    takeAccept s src p = fwdGo { s with upd := { s.upd with fwd := some { f with accepted := true, unacked := [] } } } := by
  unfold takeAccept
  rw [hfor]
  exact if_neg (by simp [hno])
theorem takeRefuse_for {f : UpdFwd} (hfor : fwdFor s src p = some f) : takeRefuse s src p = fwdEnd s f (fieldAt p 7 1) := by
  unfold takeRefuse
  rw [hfor]
theorem takeData_none (hrx : s.upd.rx = none) : takeData s src p = bump s R.UPD_RETRY_CNT_COUNT := by
  unfold takeData
  rw [hrx]
  rfl
/-- A fragment that the reception lacks joins those held. -/
theorem takeData_new {r : UpdRx} (hrx : s.upd.rx = some r) (hsrc : r.src = src) (hxfer : r.xfer = updXfer p) (hopen : r.verifying = false)
    (hchunk : updChunk p < chunkCount (hdrLength (imgAt s r.slot).hdr))
    (hwant : min 1024 (chunkLen (hdrLength (imgAt s r.slot).hdr) (updChunk p) - 1024 * fieldAt p 6 1) ≠ 0)
    (hlen : ((p.drop 32).take (fieldAt p 8 2)).length = min 1024 (chunkLen (hdrLength (imgAt s r.slot).hdr) (updChunk p) - 1024 * fieldAt p 6 1))
    (hnext : r.next ≤ updChunk p) (hnew : r.frags.any (fun f => decide (f.1 = updChunk p) && decide (f.2.1 = fieldAt p 6 1)) = false) :
    takeData s src p = rxDrain 8 { s with upd := { s.upd with rx := some { r with
      frags := r.frags ++ [(updChunk p, fieldAt p 6 1, (p.drop 32).take (fieldAt p 8 2))] } } } := by
  unfold takeData
  rw [hrx]
  dsimp only
  rw [if_neg, if_neg (by omega), if_neg (by simp [hnew])]
  rintro (h | h | h | h | h | h)
  · exact h hsrc
  · exact h hxfer
  · simp [hopen] at h
  · omega
  · exact h hlen
  · exact hwant h
theorem takeAck_last {f : UpdFwd} (hfor : fwdFor s src p = some f) (hdone : f.done = true) (hchunk : updChunk p = 0xFFFF) :
    takeAck s src p = fwdEnd s f 0 := by
  unfold takeAck
  rw [hfor]
  dsimp only
  rw [if_pos hdone, if_pos hchunk]
theorem takeAck_chunk {f : UpdFwd} (hfor : fwdFor s src p = some f) (hdone : f.done = false) (haccepted : f.accepted = true)
    (hwaits : f.unacked.any (fun u => decide (u.1 = updChunk p)) = true) :
    takeAck s src p = fwdGo { s with upd := { s.upd with fwd := some { f with
      unacked := f.unacked.filter (fun u => decide (u.1 ≠ updChunk p)), acked := f.acked + 1 } } } := by
  unfold takeAck
  rw [hfor]
  dsimp only
  rw [if_neg (by simp [hdone]), if_pos (by rw [haccepted, hwaits]; rfl)]
theorem takeNak_open {f : UpdFwd} (hfor : fwdFor s src p = some f) (hdone : f.done = false) (haccepted : f.accepted = true) :
    takeNak s src p = fwdRetry s (updChunk p) := by
  unfold takeNak
  rw [hfor]
  exact if_pos (by simp [hdone, haccepted])
theorem takeDone_whole {r : UpdRx} (hrx : s.upd.rx = some r) (hsrc : r.src = src) (hxfer : r.xfer = updXfer p)
    (hall : r.next = chunkCount (hdrLength (imgAt s r.slot).hdr)) :
    takeDone s src p = { s with upd := { s.upd with rx := some { r with verifying := true } } } := by
  unfold takeDone
  rw [hrx]
  exact if_pos ⟨hsrc, hxfer, hall⟩
theorem takeCancel_rx {r : UpdRx} (hfwd : s.upd.fwd = none) (hrx : s.upd.rx = some r) (hsrc : r.src = src) (hxfer : r.xfer = updXfer p) :
    takeCancel s src p = rxDrop s r (fieldAt p 7 1) := by
  unfold takeCancel
  rw [fwdFor_idle hfwd]
  dsimp only
  rw [hrx]
  exact if_pos ⟨hsrc, hxfer⟩

end

section
variable {s : State} {f : UpdFwd} {c n : Nat} (hfwd : s.upd.fwd = some f) (hfind : f.unacked.find? (fun u => decide (u.1 = c)) = some (c, n))
include hfwd hfind

theorem fwdRetry_gives (hn : 5 ≤ n) : fwdRetry s c = fwdEnd (updAbout s f.dst 8 f.xfer 0 0 13 (imgAt s f.slot).hdr []) f 13 := by
  unfold fwdRetry
  rw [hfwd]
  dsimp only
  rw [hfind]
  exact if_pos hn
theorem fwdRetry_chunk (hn : n < 5) (hc : c ≠ 0xFFFF) {g : UpdFwd}
    (hg : { f with unacked := f.unacked.map (fun v => if v.1 = c then (v.1, v.2 + 1) else v) } = g) :
    fwdRetry s c = fwdChunk (bump { s with upd := { s.upd with fwd := some g } } R.UPD_RETRY_CNT_COUNT) g c := by
  subst hg
  unfold fwdRetry
  rw [hfwd]
  dsimp only
  rw [hfind]
  exact (if_neg (Nat.not_le.mpr hn)).trans (if_pos hc)

end

end Sys2Proof.Laws
namespace Sys2Proof.Proofs

open Sys2Proof Sys2Proof.Machine Sys2Proof.Laws

/-- Settles O58: each command and each frame by the branch that its conditions name. -/
theorem imageRowsAct : Obligations.ImageRowsAct := by
  unfold Obligations.ImageRowsAct
  refine ⟨?begin, ?chunk, ?misfit, ?theEnd, ?read, ?unread, ?noRx, ?notForward, ?abort, ?forward, ?frames, ?gives, ?again⟩
  case begin =>
    intro s e hgoes hgood h
    have hact := imgBegin_eq hgood (h := h) rfl
    clear_value h
    refine ⟨fun c hc => ?_, fun hok hslot => ?_, fun k hok hslot => ⟨fun hrx => ?_, fun hrx hstor => ?_, fun hrx hstor => ?_⟩⟩
    · rw [hc] at hact
      exact leaves_of_act hgoes hact rfl
    all_goals
      simp only [hok, hslot] at hact
    · exact leaves_of_act hgoes hact rfl
    · exact leaves_of_act hgoes (hact.trans (if_pos hrx)) rfl
    · exact leaves_of_act hgoes (hact.trans ((if_neg (by simp [hrx])).trans (if_pos (by simp [hstor])))) rfl
    · exact leaves_of_act hgoes (hact.trans ((if_neg (by simp [hrx])).trans (if_neg (by simp [hstor])))) rfl
  case chunk =>
    exact fun s e r hgoes hrx hhost hopen hnext hcount hlen hgood hstor =>
      leaves_of_act hgoes (imgChunk_due hrx hhost hopen hnext hcount hlen hgood hstor) rfl
  case misfit => exact fun s e r hgoes hrx hhost hopen hbad => leaves_of_act hgoes (imgChunk_misfit hrx hhost hopen hbad) rfl
  case theEnd => exact fun s e r hgoes hrx hhost hopen hall => leaves_of_act hgoes (imgEnd_whole hrx hhost hopen hall) rfl
  case read =>
    exact fun s r hfull hrx hverify hhost hstor => ⟨_, congrArg Host.Outcome.next ((if_pos hfull).trans (imgVerified_read hrx hverify hhost hstor)), rfl⟩
  case unread =>
    exact fun s r hfull hrx hverify hhost hstor => ⟨_, congrArg Host.Outcome.next ((if_pos hfull).trans (imgVerified_unread hrx hverify hhost hstor)), rfl⟩
  case noRx =>
    intro s e hrx
    have hchunk : imgChunk e s = failR s 6 := by unfold imgChunk; rw [hrx]
    have hend : imgEnd e s = failR s 6 := by unfold imgEnd; rw [hrx]
    have habort : imgAbort e s = failR s 6 := by unfold imgAbort; rw [hrx]
    exact ⟨fun hgoes => leaves_of_act hgoes hchunk rfl, fun hgoes => leaves_of_act hgoes hend rfl, fun hgoes => leaves_of_act hgoes habort rfl⟩
  case notForward =>
    intro s e hgoes hvalid hrunning
    have hact : imgForward e s = failR s 6 := if_pos ⟨hvalid, hrunning⟩
    exact leaves_of_act hgoes hact rfl
  case abort => exact fun s e r hgoes hrx hhost hopen => leaves_of_act hgoes (imgAbort_drops hrx hhost hopen) rfl
  case forward =>
    intro s e hgoes hfwd hst
    have hact : imgForward e s = (fwdStart s e.arg0 e.arg1, .running e.arg0) := by
      unfold imgForward
      dsimp only
      rw [if_neg (by rcases hst with h | h <;> simp [h]), if_neg (by simp [hfwd])]
    exact leaves_of_act hgoes hact rfl
  case frames =>
    intro s src p hfull hlen
    refine ⟨fun k hop hrx htake hfwd hsize hslot hstor => ?_, fun f hop hfor hno => ?_, fun f hop hfor => ?_,
      fun r hop hrx hsrc hxfer hopen hchunk hwant hnext hnew => ?_, fun hop hrx => ?_, fun f hop hfor hdone hchunk => ?_,
      fun f hop hfor hdone hacc hwaits => ?_, fun f hop hfor hdone hacc => ?_, fun r hop hrx hsrc hxfer hall => ?_,
      fun r hop hfwd hrx hsrc hxfer => ?_, fun hop => ?_⟩
    · exact ⟨_, rfl, (updRow_taken hfull hlen hop).trans (congrArg Host.Outcome.next (takeOffer_taken hrx htake hfwd rfl hsize hslot hstor))⟩
    · exact (updRow_taken hfull hlen hop).trans (congrArg Host.Outcome.next (takeAccept_first hfor hno))
    · exact (updRow_taken hfull hlen hop).trans (congrArg Host.Outcome.next (takeRefuse_for hfor))
    · exact (updRow_taken hfull hlen hop).trans (congrArg Host.Outcome.next (takeData_new hrx hsrc hxfer hopen hchunk hwant.1 hwant.2 hnext hnew))
    · exact (updRow_taken hfull hlen hop).trans (congrArg Host.Outcome.next (takeData_none hrx))
    · exact (updRow_taken hfull hlen hop).trans (congrArg Host.Outcome.next (takeAck_last hfor hdone hchunk))
    · exact (updRow_taken hfull hlen hop).trans (congrArg Host.Outcome.next (takeAck_chunk hfor hdone hacc hwaits))
    · exact (updRow_taken hfull hlen hop).trans (congrArg Host.Outcome.next (takeNak_open hfor hdone hacc))
    · exact (updRow_taken hfull hlen hop).trans (congrArg Host.Outcome.next (takeDone_whole hrx hsrc hxfer hall))
    · exact (updRow_taken hfull hlen hop).trans (congrArg Host.Outcome.next (takeCancel_rx hfwd hrx hsrc hxfer))
    · exact updRow_taken hfull hlen hop
  case gives =>
    exact fun s f c n hfull hfwd hfind hn => ⟨_, congrArg Host.Outcome.next ((if_pos hfull).trans (fwdRetry_gives hfwd hfind hn)), rfl⟩
  case again =>
    exact fun s f c n hfull hfwd hfind hn hc =>
      ⟨_, congrArg Host.Outcome.next ((if_pos hfull).trans (fwdRetry_chunk hfwd hfind hn hc rfl)), _, rfl, rfl⟩

end Sys2Proof.Proofs
end

section
/-! Activation of an image: handover, hold window, commit and rollback (R434 to R440). -/

namespace Sys2Proof.Laws

open Sys2Proof Sys2Proof.Machine

/-! ### What leaves UPD's own state -/

theorem QueueOnly.upd {s t : State} (h : QueueOnly s t) : t.upd = s.upd := by
  obtain ⟨rg, rc, pp, mm, me, qs, ou, rfl, -⟩ := h
  rfl

theorem finishEntry_upd (s : State) {qp : Nat} (hqp : qp < 46) (p : Entry → Bool) (status result ext : Nat) :
    (finishEntry s qp p status result ext).upd = s.upd := (queueOnly_finishEntry s hqp p status result ext).upd

theorem bootStore_upd (s : State) (f : BootRec → BootRec) : (bootStore s f).upd = s.upd := by
  unfold bootStore
  dsimp only
  split
  · exact errRise_upd_eq _ _ _ _
  · rw [(regsOnly_updShow _).upd, cfgStore_upd_eq, cfgStore_upd_eq]

theorem regsOnly_bumpSat (s : State) (f : Fld) : RegsOnly s (bumpSat s f) := by
  unfold bumpSat
  split
  · exact regsOnly_wr _ _ _
  · exact .refl s

/-- A cluster whose service firmware no longer runs. -/
def svcStopped (s : State) (c : Nat) : State := { s with upd := { s.upd with svc := s.upd.svc.set c false } }

theorem clusterReset_upd (s : State) (c : Nat) : (clusterReset s c).upd = { s.upd with svc := s.upd.svc.set c false } := by
  have hcount := (regsOnly_bumpSat s (if c = 0 then R.SYS_RST_CNT_APP_A else R.SYS_RST_CNT_APP_B)).upd
  have hstop : (svcStopped (bumpSat s (if c = 0 then R.SYS_RST_CNT_APP_A else R.SYS_RST_CNT_APP_B)) c).upd = { s.upd with svc := s.upd.svc.set c false } := by
    unfold svcStopped
    rw [hcount]
  unfold clusterReset
  exact hstop

theorem emits_upd (l : List Nat) (c : Nat) (s : State) : (l.foldl (fun s qp => emit s .irq [c, qp] []) s).upd = s.upd := by
  induction l generalizing s with
  | nil => rfl
  | cons x l ih => exact ih _
theorem emits_regs (l : List Nat) (c : Nat) (s : State) : (l.foldl (fun s qp => emit s .irq [c, qp] []) s).regs = s.regs := by
  induction l generalizing s with
  | nil => rfl
  | cons x l ih => exact ih _

/-- Each owner bit as a cluster gets it. -/
def ownersSet (s : State) (c : Nat) : State :=
  wr (wr s R.QMGR_OWNER0_OWNER (if c = 0 then 0 else 0xFFFFFFFF)) R.QMGR_OWNER1_OWNER ((if c = 0 then 0 else 0xFFF) + 0x2000)

theorem ownAll_eq (s : State) (c : Nat) : ownAll s c
    = ((List.range 44).filter (fun qp => bitIn (ownersSet s c) (irqPendFld qp) (qp % 32))).foldl (fun s qp => emit s .irq [c, qp] []) (ownersSet s c) := rfl

theorem ownAll_upd (s : State) (c : Nat) : (ownAll s c).upd = s.upd := by
  rw [ownAll_eq, emits_upd]
  rfl
theorem ownAll_owner (s : State) (c : Nat) : rd (ownAll s c) R.QMGR_OWNER0_OWNER = if c = 0 then 0 else 0xFFFFFFFF := by
  rw [ownAll_eq, rd_congr (emits_regs _ _ _)]
  unfold ownersSet
  rw [rd_wr_ne _ _ _ _ (by decide), rd_wr_self _ _ _ (by decide)]
  by_cases h : c = 0
  · rw [if_pos h]
    rfl
  · rw [if_neg h]
    rfl

theorem updHoEnd_upd (s : State) : (updHoEnd s).upd = { s.upd with ho := none, await := none, query := none, spOther := none, winTrip := false } := rfl

/-! ### The generators' slots -/

theorem recOnly_pepperForces (l : List Nat) (hl : ∀ k ∈ l, k < 8) (s : State) :
    RecOnly s (l.foldl (fun s k => if pepperAllOff s || (pepperClassS s k && !pepperSOk s) then pepperDisarm s k true else s) s) := by
  induction l generalizing s with
  | nil => exact RecOnly.refl s
  | cons k l ih =>
    have hone : RecOnly s (if pepperAllOff s || (pepperClassS s k && !pepperSOk s) then pepperDisarm s k true else s) := by
      split
      · exact recOnly_pepperDisarm s (hl k List.mem_cons_self) true
      · exact RecOnly.refl s
    exact hone.trans (ih (fun j hj => hl j (List.mem_cons_of_mem k hj)) _)

theorem recOnly_pepperForce (s : State) : RecOnly s (pepperForce s) := recOnly_pepperForces (List.range 8) (fun _ hk => List.mem_range.mp hk) s

/-! ### A trip with no window open -/

section
variable {s : State} (hshut : s.upd.winFrom = none)
include hshut

theorem windowTrip_shut : (windowTrip s).upd = s.upd := by
  have h : (put s R.SAFE_STATUS_HOLD_WIN false).upd.winFrom = none := hshut
  unfold windowTrip
  dsimp only
  rw [h]
  rfl

end

theorem tripRefused_upd (s : State) : (tripRefused s).upd = s.upd := by
  unfold tripRefused
  split
  · exact (safeFrame_edgeRefuse (unarmed s) _ _ _).upd
  · rfl

theorem tripTaken_upd (s : State) (c tile cell : Nat) : (tripTaken s c tile cell).upd = s.upd := by
  unfold tripTaken
  split <;> rfl

theorem safeTrip_upd {s : State} (hshut : s.upd.winFrom = none) (c tile cell : Nat) (v : Option Int) (n : Nat) :
    (safeTrip s c tile cell v n).upd = s.upd := by
  have hkept : (tripRefused (windowTrip (tripTaken s c tile cell))).upd = s.upd := by
    rw [tripRefused_upd, windowTrip_shut (by rw [tripTaken_upd]; exact hshut), tripTaken_upd]
  have hrep : ∀ u k m i cl, SafeFrame u (safeReport u k c m i cl tile v n) := fun u k m i cl => (reportOnly_safeReport u _ _ _ _ _ _ _ _).safeFrame
  have hnotice : ∀ u bs, SafeFrame u (safeRefresh (tripNotice u bs)) := fun u bs => (safeFrame_tripNotice u bs).trans (safeFrame_safeRefresh _)
  unfold safeTrip
  split
  · rfl
  · exact (hnotice _ _).upd.trans ((hrep _ 1 _ 0 _).upd.trans hkept)

/-- A judgement trips its source, or does nothing. -/
theorem judgeTrip_trips (s : State) (c : Nat) : judgeTrip s c = s ∨ ∃ tile cell v n, judgeTrip s c = safeTrip s c tile cell v n := by
  unfold judgeTrip
  dsimp only
  split
  · exact .inl rfl
  · split
    case h_10 => exact .inl rfl
    case h_6 =>
      split
      · exact .inr ⟨_, _, _, _, rfl⟩
      · exact .inl rfl
    all_goals
      right
    case h_3 | h_4 | h_5 | h_7 => exact ⟨_, _, _, _, rfl⟩
    case h_9 =>
      split
      · split <;> exact ⟨_, _, _, _, rfl⟩
      · exact ⟨_, _, _, _, rfl⟩
      · exact ⟨_, _, _, _, rfl⟩
    all_goals
      split <;> exact ⟨_, _, _, _, rfl⟩

theorem judgeTrip_upd {s : State} (hshut : s.upd.winFrom = none) (c : Nat) : (judgeTrip s c).upd = s.upd := by
  rcases judgeTrip_trips s c with h | ⟨tile, cell, v, n, h⟩
  · rw [h]
  · rw [h, safeTrip_upd hshut]

theorem judgeTrips_upd {s : State} (hshut : s.upd.winFrom = none) (l : List Nat) : (l.foldl judgeTrip s).upd = s.upd := by
  induction l generalizing s with
  | nil => rfl
  | cons c l ih =>
    have hone := judgeTrip_upd hshut c
    exact (ih (by rw [hone]; exact hshut)).trans hone

theorem judgeAll_upd {s : State} (hshut : s.upd.winFrom = none) : (judgeAll s).upd = s.upd := by
  unfold judgeAll
  split
  · rfl
  · exact judgeTrips_upd hshut _

theorem evalSweeps_upd (l : List Sweep) (s : State) : (l.foldl evalSweep s).upd = s.upd := by
  induction l generalizing s with
  | nil => rfl
  | cons w l ih => exact (ih _).trans rfl

theorem cfgBoundary_upd (s : State) (key : Nat) : (cfgBoundary s key).upd = s.upd := by
  unfold cfgBoundary
  split <;> rfl

/-- No sweep waits for SP. -/
def queueTaken (s : State) : State := { s with safe := { s.safe with queue := [] } }

theorem spEvaluate_eq (s : State) (ms : Nat) : spEvaluate s ms =
    if flag s R.SAFE_STATUS_HOLD_WIN || !s.safe.fw || !blocksUp s then s
    else if (cfgBoundary s (itemKey 13 1)).safe.set.isEmpty then safeRefresh (queueTaken (cfgBoundary s (itemKey 13 1)))
    else safeRefresh (judgeAll (evalTimers ((cfgBoundary s (itemKey 13 1)).safe.queue.foldl evalSweep (queueTaken (cfgBoundary s (itemKey 13 1)))) ms)) := rfl

theorem spEvaluate_upd {s : State} (hshut : s.upd.winFrom = none) (ms : Nat) : (spEvaluate s ms).upd = s.upd := by
  have hbound := cfgBoundary_upd s (itemKey 13 1)
  have htimers : (evalTimers ((cfgBoundary s (itemKey 13 1)).safe.queue.foldl evalSweep (queueTaken (cfgBoundary s (itemKey 13 1)))) ms).upd = s.upd :=
    (evalSweeps_upd _ _).trans hbound
  rw [spEvaluate_eq]
  split
  · rfl
  · split
    · exact (safeFrame_safeRefresh _).upd.trans hbound
    · exact (safeFrame_safeRefresh _).upd.trans ((judgeAll_upd (by rw [htimers]; exact hshut)).trans htimers)

/-- The window's flags off and its length shown. -/
def windowLowered (s : State) (us : Nat) : State :=
  { wr (put (put s R.UPD_STATUS_HOLD_WIN false) R.SAFE_STATUS_HOLD_WIN false) R.UPD_HOLD_LAST_US_US us with upd := { s.upd with winFrom := none } }

theorem windowShut_eq (s : State) : windowShut s = spEvaluate (windowLowered s (windowUs s)) (max 1 ((windowUs s + 999) / 1000)) := rfl

theorem windowShut_upd (s : State) : (windowShut s).upd = { s.upd with winFrom := none } := by
  rw [windowShut_eq]
  exact spEvaluate_upd (s := windowLowered s (windowUs s)) rfl _

/-! ### The owner bits through a completion -/

/-- The owner bits of QP0 to QP31 stay. -/
def OwnerKept (s t : State) : Prop := regGet t R.QMGR_OWNER0 = regGet s R.QMGR_OWNER0

theorem OwnerKept.trans {s t u : State} (h : OwnerKept s t) (k : OwnerKept t u) : OwnerKept s u := Eq.trans k h
theorem ownerKept_wr (s : State) (f : Fld) (v : Nat) (h : f.addr ≠ R.QMGR_OWNER0) : OwnerKept s (wr s f v) := regGet_wr_ne s f v _ h
theorem RecOnly.ownerKept {s t : State} (h : RecOnly s t) : OwnerKept s t := h.regGet _ (by decide)
theorem ownerKept_regs {s t : State} (h : t.regs = s.regs) : OwnerKept s t := regGet_congr h _

theorem ownerKept_memWrite (s : State) (a : Nat) (bs : List Byte) : OwnerKept s (memWrite s a bs) := rfl

/-- A register of a queue pair's own is none of the owners'. -/
theorem qp_ne_owner {qp c : Nat} (hc : 0x10010100 ≤ c) : c + 0x40 * qp ≠ R.QMGR_OWNER0 := by
  simp only [R.QMGR_OWNER0]
  omega

section
variable (s : State) (qp : Nat)

theorem ownerKept_irqCheck : OwnerKept s (irqCheck s qp) := by
  have hpend : (irqPendFld qp).addr ≠ R.QMGR_OWNER0 := by unfold irqPendFld; split <;> decide
  unfold irqCheck
  split
  · exact (ownerKept_wr s (irqPendFld qp) _ hpend).trans (ownerKept_regs rfl)
  · exact rfl

theorem ownerKept_errNote (tag opc status : Nat) : OwnerKept s (errNote s qp tag opc status) := by
  have hpend : (errPendFld qp).addr ≠ R.QMGR_OWNER0 := by unfold errPendFld; split <;> decide
  have hcnt : R.QP_ERR_CNT qp ≠ R.QMGR_OWNER0 := qp_ne_owner (by decide)
  have hlast : R.QP_LAST_ERR qp ≠ R.QMGR_OWNER0 := qp_ne_owner (by decide)
  have hnoted : OwnerKept s (putBit (wr (wr (wr (bump s (R.QP_ERR_CNT_COUNT qp)) (R.QP_LAST_ERR_TAG qp) tag) (R.QP_LAST_ERR_OPC qp) opc)
      (R.QP_LAST_ERR_STATUS qp) status) (errPendFld qp) (qp % 32) true) :=
    ((((ownerKept_wr s (R.QP_ERR_CNT_COUNT qp) _ hcnt).trans (ownerKept_wr _ (R.QP_LAST_ERR_TAG qp) _ hlast)).trans
      (ownerKept_wr _ (R.QP_LAST_ERR_OPC qp) _ hlast)).trans (ownerKept_wr _ (R.QP_LAST_ERR_STATUS qp) _ hlast)).trans
      (ownerKept_wr _ (errPendFld qp) _ hpend)
  unfold errNote
  split
  · exact rfl
  · dsimp only
    split
    · exact hnoted.trans (recOnly_record _ _ _ _ _ _ _).ownerKept
    · exact hnoted

theorem ownerKept_cqWritten (e : Entry) (status result ext : Nat) : OwnerKept s (cqWritten s qp e status result ext) :=
  (((recOnly_pepperWait s 2 qp).ownerKept.trans (ownerKept_memWrite _ _ _)).trans (ownerKept_wr _ (R.QP_SEQ_SEQ qp) _ (qp_ne_owner (by decide)))).trans
    (ownerKept_wr _ (R.QP_STATUS_CQ_TAIL qp) _ (qp_ne_owner (by decide)))

theorem ownerKept_complete (e : Entry) : OwnerKept s (complete qp s e) := by
  cases hst : e.st
  case done status result ext =>
    by_cases hno : status = 0 ∧ bitOf e.flags 0 = true
    · rw [complete_eq_self hst hno]
      exact rfl
    · rw [complete_eq_noted hst hno]
      exact (((ownerKept_cqWritten s qp e status result ext).trans (ownerKept_errNote _ qp _ _ _)).trans (ownerKept_regs rfl)).trans
        (ownerKept_irqCheck _ qp)
  all_goals
    unfold complete
    rw [hst]
    exact rfl

theorem ownerKept_completes (es : List Entry) : OwnerKept s (es.foldl (complete qp) s) := by
  induction es generalizing s with
  | nil => exact rfl
  | cons e es ih => exact (ownerKept_complete s qp e).trans (ih _)

theorem ownerKept_drain : OwnerKept s (drain s qp) := by
  have hdone : OwnerKept s (((qpAt s qp).entries.takeWhile Entry.isDone).foldl (complete qp)
      (qpMod s qp (fun q => { q with entries := (qpAt s qp).entries.dropWhile Entry.isDone }))) :=
    OwnerKept.trans (t := qpMod s qp (fun q => { q with entries := (qpAt s qp).entries.dropWhile Entry.isDone })) rfl (ownerKept_completes _ qp _)
  unfold drain
  dsimp only
  split
  · exact hdone.trans (ownerKept_wr _ (R.QP_STATUS_IDLE qp) _ (qp_ne_owner (by decide)))
  · exact hdone

theorem ownerKept_finishEntry (p : Entry → Bool) (status result ext : Nat) : OwnerKept s (finishEntry s qp p status result ext) := by
  unfold finishEntry setEntry
  split
  · exact OwnerKept.trans (ownerKept_regs rfl) (ownerKept_drain _ qp)
  · exact rfl

end

theorem rd_owner_finishEntry (s : State) (qp : Nat) (p : Entry → Bool) (status result ext : Nat) :
    rd (finishEntry s qp p status result ext) R.QMGR_OWNER0_OWNER = rd s R.QMGR_OWNER0_OWNER := by
  have h : regGet (finishEntry s qp p status result ext) R.QMGR_OWNER0_OWNER.addr = regGet s R.QMGR_OWNER0_OWNER.addr :=
    ownerKept_finishEntry s qp p status result ext
  unfold rd
  rw [h]

/-! ### ACTIVATE (R434, R438) -/

/-- A handover between the clusters as it begins. -/
def hoNew (s : State) (slot : Nat) : UpdHo :=
  { slot := slot, pair := false, old := engineOwner s, ready := false, swapped := false, windowDone := false, back := false }

/-- A handover under way, with no query waiting. -/
def hoSet (s : State) (ho : UpdHo) : State := { s with upd := { s.upd with ho := some ho, query := none } }

/-- The slot TRIAL and the new cluster in reset. -/
def hoBegun (s : State) (slot : Nat) : State :=
  clusterReset (hoSet (bootStore s (fun b => { b with st := b.st.set slot slotTrial, trials := 0 })) (hoNew s slot)) (1 - engineOwner s)

/-- Whether SP stages the slot's SAFETY section. -/
def hoStaged (s : State) (slot : Nat) (staged : Bool) : State :=
  put { s with upd := { s.upd with spOther := if staged then some slot else none } } R.UPD_STATUS_SP_STAGED staged

/-- STATUS of a handover between the clusters at its step 1. -/
def hoShown (s : State) : State := hoStep (wr (put s R.UPD_STATUS_HO_RUN true) R.UPD_STATUS_HO_KIND 1) 1

theorem updHoStart_eq (s : State) (slot : Nat) : updHoStart s slot
    = (pepperForce (hoShown (hoStaged (hoBegun s slot) slot (decide (slotTarget slot = 3) && slotBoots (hoBegun s slot) slot))), .running slot) := rfl

section
variable (s : State)

theorem hoShown_step : rd (hoShown s) R.UPD_STATUS_HO_STEP = 1 := rd_wr_self _ _ _ (by decide)
theorem hoShown_run : flag (hoShown s) R.UPD_STATUS_HO_RUN = true := by
  unfold hoShown hoStep
  rw [flag_wr_ne _ _ _ _ (by decide), flag_wr_ne _ _ _ _ (by decide), flag_put_self _ _ _ (by decide) (by decide)]
theorem hoShown_kind : rd (hoShown s) R.UPD_STATUS_HO_KIND = 1 := by
  unfold hoShown hoStep
  rw [rd_wr_ne _ _ _ _ (by decide), rd_wr_self _ _ _ (by decide)]
  rfl

end

theorem hoBegun_ho (s : State) (slot : Nat) : (hoBegun s slot).upd.ho = some (hoNew s slot) := by
  unfold hoBegun
  rw [clusterReset_upd]
  rfl

theorem hoShown_ho (s : State) (slot : Nat) (staged : Bool) : (hoShown (hoStaged s slot staged)).upd.ho = s.upd.ho := rfl

theorem pepperForce_hoShown (u : State) : rd (pepperForce (hoShown u)) R.UPD_STATUS_HO_STEP = 1 ∧ flag (pepperForce (hoShown u)) R.UPD_STATUS_HO_RUN = true
    ∧ rd (pepperForce (hoShown u)) R.UPD_STATUS_HO_KIND = 1 ∧ (pepperForce (hoShown u)).upd = (hoShown u).upd := by
  have hforce := recOnly_pepperForce (hoShown u)
  exact ⟨(hforce.rd _ (by decide)).trans (hoShown_step u), (hforce.flag _ (by decide)).trans (hoShown_run u), (hforce.rd _ (by decide)).trans (hoShown_kind u),
    hforce.upd⟩

/-- What ACTIVATE's handover shows, and the handover itself. -/
theorem updHoStart_shows (s : State) (slot : Nat) :
    rd (updHoStart s slot).1 R.UPD_STATUS_HO_STEP = 1 ∧ flag (updHoStart s slot).1 R.UPD_STATUS_HO_RUN = true
    ∧ rd (updHoStart s slot).1 R.UPD_STATUS_HO_KIND = 1 ∧ (updHoStart s slot).1.upd.ho = some (hoNew s slot) := by
  have heq : (updHoStart s slot).1 = pepperForce (hoShown (hoStaged (hoBegun s slot) slot (decide (slotTarget slot = 3) && slotBoots (hoBegun s slot) slot))) := by
    rw [updHoStart_eq]
  generalize (decide (slotTarget slot = 3) && slotBoots (hoBegun s slot) slot) = staged at heq
  obtain ⟨hstep, hrun, hkind, hupd⟩ := pepperForce_hoShown (hoStaged (hoBegun s slot) slot staged)
  rw [heq]
  refine ⟨hstep, hrun, hkind, ?_⟩
  rw [hupd, hoShown_ho, hoBegun_ho]

section
variable {s : State} {e : Entry}

theorem updActivate_single (hho : s.upd.ho = none) (hquery : s.upd.query = none) (hvalid : slotSt s e.arg0 = slotValid) (hsingle : setPair s = false)
    (hstor : storTakes s = true) : updActivate e s = updHoStart s e.arg0 := by
  unfold updActivate
  dsimp only
  rw [if_neg (by simp [hsingle]), if_neg (by simp [hho, hquery]), if_neg (not_not.mpr hvalid), if_neg (by simp [hstor]), if_pos (by simp [hsingle])]

theorem updActivate_runs (hsingle : setPair s = false) (hrun : s.upd.ho.isSome = true ∨ s.upd.query.isSome = true) :
    updActivate e s = failR s 0x43 := by
  unfold updActivate
  dsimp only
  rw [if_neg (by simp [hsingle]), if_pos (by rcases hrun with h | h <;> simp [h])]

theorem updActivate_notValid (hsingle : setPair s = false) (hho : s.upd.ho = none) (hquery : s.upd.query = none) (hvalid : slotSt s e.arg0 ≠ slotValid) :
    updActivate e s = failR s 0x49 := by
  unfold updActivate
  dsimp only
  rw [if_neg (by simp [hsingle]), if_neg (by simp [hho, hquery]), if_pos hvalid]

theorem updActivate_noRole (hpair : setPair s = true) (hstandby : role s ≠ roleStandby) (hactive : role s ≠ roleActive) :
    updActivate e s = failR s 6 := if_pos (by simp [hpair, hstandby, hactive])

/-- A query of the partner's version under way. -/
def queryAsked (s : State) (k : Nat) : State := { s with upd := { s.upd with xfer := (s.upd.xfer + 1) % 65536, query := some k } }

theorem updActivate_pair (hho : s.upd.ho = none) (hquery : s.upd.query = none) (hvalid : slotSt s e.arg0 = slotValid) (hpair : setPair s = true)
    (hsystem : slotTarget e.arg0 ≠ 4) (hstor : storTakes s = true) (hrole : role s = roleActive ∨ role s = roleStandby) :
    updActivate e s = (updSend (queryAsked s e.arg0) (cfgU s 32 1 4 2) opQuery s.upd.xfer 0 0 0 (sysVersion s) [] [],
      .running (e.arg0 + 8 * (e.arg1 % 2))) := by
  unfold updActivate
  dsimp only
  rw [if_neg (by rcases hrole with h | h <;> simp [h]), if_neg (by simp [hho, hquery]), if_neg (not_not.mpr hvalid), if_neg (by simp [hstor]),
    if_neg (by simp [hpair, hsystem])]
  rfl

theorem updSend_upd (s : State) (dst op xfer chunk frag cause ver : Nat) (sha data : List Byte) :
    (updSend s dst op xfer chunk frag cause ver sha data).upd = s.upd := (safeFrame_ethHardware _ _ _ _ _).upd

end

/-! ### READY and SWAP (R434) -/

/-- The version of the service firmware that the new cluster runs. -/
def readyVersion (s : State) : Nat :=
  match (match [0, 1].find? (fun k => decide (slotSt s k = slotTrial)) with
    | some k => some k
    | none => [0, 1].find? (fun k => decide (slotSt s k = slotRunning))) with
  | some k => secVer (imgAt s k).hdr 2
  | none => 0

theorem readyTake_shows (s : State) (h : UpdHo) :
    (readyTake s h).upd.ho = some { h with ready := true } ∧ rd (readyTake s h) R.UPD_STATUS_HO_STEP = 3 ∧ (readyTake s h).qps = s.qps :=
  ⟨rfl, rd_wr_self _ _ _ (by decide), rfl⟩

section
variable {s : State} {e : Entry} {h : UpdHo} (hho : s.upd.ho = some h)
include hho

theorem updReady_takes (hpair : h.pair = false) (hno : h.ready = false) (hlevel : clusterOf e.level = some (1 - h.old)) :
    updReady e s = okR (readyTake s h) 0 := by
  unfold updReady
  rw [hho]
  exact if_neg (by simp [hpair, hno, hlevel])
theorem updReady_refuses (hbad : h.pair = true ∨ h.ready = true ∨ clusterOf e.level ≠ some (1 - h.old)) : updReady e s = failR s 6 := by
  unfold updReady
  rw [hho]
  exact if_pos (by rcases hbad with h | h | h <;> simp [h])
theorem readyReport_takes (hpair : h.pair = false) (hno : h.ready = false) (hfull : fullUp s = true) : readyReport s = readyTake s h := by
  unfold readyReport
  rw [hho]
  exact if_neg (by simp [hpair, hno, hfull])

end

/-- The owner bits passed on at SWAP, with the handover's next step. -/
def swapShown (s : State) (h : UpdHo) (window : Bool) : State :=
  hoStep (ownAll { s with upd := { s.upd with ho := some { h with swapped := true, windowDone := !window } } } (1 - h.old)) (if window then 5 else 6)

theorem updSwap_takes {s : State} {e : Entry} {h : UpdHo} (hho : s.upd.ho = some h) (hpair : h.pair = false) (hready : h.ready = true)
    (hno : h.swapped = false) (hlevel : clusterOf e.level = some h.old) :
    updSwap e s = okR (finishEntry (swapShown s h (newSafety s h.slot)) 5 (Entry.runs 0x40) 0 h.slot 0) (1 - h.old) := by
  unfold updSwap
  rw [hho]
  exact if_neg (by simp [hpair, hready, hno, hlevel])

section
variable (s : State) (h : UpdHo) (window : Bool)

theorem swapShown_ho : (swapShown s h window).upd.ho = some { h with swapped := true, windowDone := !window } := by
  unfold swapShown hoStep
  rw [wr_upd_eq, ownAll_upd]
theorem swapShown_step : rd (swapShown s h window) R.UPD_STATUS_HO_STEP = if window then 5 else 6 := by
  unfold swapShown hoStep
  rw [rd_wr_self _ _ _ (by decide)]
  cases window <;> rfl
theorem swapShown_owner : rd (swapShown s h window) R.QMGR_OWNER0_OWNER = if 1 - h.old = 0 then 0 else 0xFFFFFFFF := by
  unfold swapShown hoStep
  rw [rd_wr_ne _ _ _ _ (by decide), ownAll_owner]

end

/-- A cluster's level names one of the two clusters. -/
theorem clusterOf_lt {l : Level} {c : Nat} (h : clusterOf l = some c) : c = 0 ∨ c = 1 := by
  cases l <;> simp [clusterOf] at h <;> omega

/-! ### COMMIT and ROLLBACK (R436, R437) -/

section
variable {s : State} {e : Entry} {h : UpdHo} (hho : s.upd.ho = some h) (hpair : h.pair = false) (hswapped : h.swapped = true)
include hho hpair hswapped

theorem updCommit_takes (hforth : h.back = false) (hdone : h.windowDone = true) (hlevel : clusterOf e.level = some (1 - h.old)) (hstor : storTakes s = true) :
    updCommit e s = okR (updCommitHo s h) h.slot := by
  unfold updCommit
  rw [hho]
  exact (if_neg (by simp [hpair, hswapped, hforth, hlevel])).trans ((if_neg (by simp [hdone])).trans (if_neg (by simp [hstor])))
theorem updCommit_waits (hforth : h.back = false) (hdone : h.windowDone = false) (hlevel : clusterOf e.level = some (1 - h.old)) :
    updCommit e s = (s, .running h.slot) := by
  unfold updCommit
  rw [hho]
  exact (if_neg (by simp [hpair, hswapped, hforth, hlevel])).trans (if_pos (by simp [hdone]))
theorem updRollbackOp_takes (hshut : flag s R.UPD_STATUS_HOLD_WIN = false) : updRollbackOp e s = okR (updRollback s h 6) h.slot := by
  unfold updRollbackOp
  rw [hho]
  exact if_neg (by simp [hpair, hswapped, hshut])

end

/-! ### The hold window (R435) -/

section
variable {s : State}

/-- A window that has opened. -/
def windowOpened (s : State) : State :=
  put (put { s with upd := { s.upd with winFrom := some s.power.ticks } } R.UPD_STATUS_HOLD_WIN true) R.SAFE_STATUS_HOLD_WIN true

theorem windowOpen_opens (hdue : windowDue s = true) (hmay : windowMay s = true) : windowOpen s = windowOpened s := if_neg (by simp [hdue, hmay])
theorem windowOpen_not (h : windowMay s = false ∨ windowDue s = false) : windowOpen s = s := if_pos (by rcases h with h | h <;> simp [h])

theorem windowOpened_shows : flag (windowOpened s) R.UPD_STATUS_HOLD_WIN = true ∧ flag (windowOpened s) R.SAFE_STATUS_HOLD_WIN = true := by
  unfold windowOpened
  exact ⟨by rw [flag_put_ne _ _ _ _ (by decide), flag_put_self _ _ _ (by decide) (by decide)], flag_put_self _ _ _ (by decide) (by decide)⟩

/-- A window reverted: SP_REVERT counted and shown, without the trip that ended it. -/
def revertShown (s : State) : State :=
  errRise (bump { s with upd := { s.upd with winTrip := false } } R.UPD_ROLLBACK_CNT_REVERT) R.UPD_ERR_SP_REVERT 0 0

theorem revertShown_upd (s : State) : (revertShown s).upd = { s.upd with winTrip := false } := by
  unfold revertShown
  rw [errRise_upd_eq]
  rfl

theorem windowRevert_eq (s : State) : windowRevert s =
    if !flag s R.UPD_STATUS_HOLD_WIN && !s.upd.winTrip then s
    else match (revertShown (if flag s R.UPD_STATUS_HOLD_WIN then windowShut s else s)).upd.ho with
      | some h => if h.back then revertShown (if flag s R.UPD_STATUS_HOLD_WIN then windowShut s else s)
        else updRollback (revertShown (if flag s R.UPD_STATUS_HOLD_WIN then windowShut s else s)) h 0x46
      | none => revertShown (if flag s R.UPD_STATUS_HOLD_WIN then windowShut s else s) := rfl

theorem windowRevert_idle (hshut : flag s R.UPD_STATUS_HOLD_WIN = false) (hno : s.upd.winTrip = false) : windowRevert s = s := if_pos (by simp [hshut, hno])

theorem windowRevert_open {h : UpdHo} (hopen : flag s R.UPD_STATUS_HOLD_WIN = true) (hho : s.upd.ho = some h) (hforth : h.back = false) :
    windowRevert s = updRollback (revertShown (windowShut s)) h 0x46 := by
  have hho2 : (revertShown (windowShut s)).upd.ho = some h := by rw [revertShown_upd, windowShut_upd]; exact hho
  rw [windowRevert_eq, if_neg (by simp [hopen]), if_pos hopen, hho2]
  exact if_neg (by simp [hforth])

theorem windowRevert_tripped {h : UpdHo} (hshut : flag s R.UPD_STATUS_HOLD_WIN = false) (htrip : s.upd.winTrip = true) (hho : s.upd.ho = some h)
    (hforth : h.back = false) : windowRevert s = updRollback (revertShown s) h 0x46 := by
  have hho2 : (revertShown s).upd.ho = some h := by rw [revertShown_upd]; exact hho
  rw [windowRevert_eq, if_neg (by simp [htrip]), if_neg (by simp [hshut]), hho2]
  exact if_neg (by simp [hforth])

theorem windowEnd_shut (hshut : flag s R.UPD_STATUS_HOLD_WIN = false) : windowEnd s = windowRevert s := if_pos (by simp [hshut])
theorem windowEnd_fails (hopen : flag s R.UPD_STATUS_HOLD_WIN = true) (hbad : windowCheck s = false ∨ 38000 ≤ windowUs s) : windowEnd s = windowRevert s :=
  (if_neg (by simp [hopen])).trans (if_pos (by
    rcases hbad with h | h
    · simp [h]
    · rw [decide_eq_true h, Bool.or_true]))

/-- SP on the firmware of the other bank. -/
def windowSwapped (s : State) : State := { s with upd := { s.upd with spSlot := s.upd.spOther, spOther := s.upd.spSlot } }

/-- The version that SP's register shows for a slot. -/
def spVersion (s : State) (slot : Option Nat) : Word := match slot with
  | some k => BitVec.ofNat 32 (secVer (imgAt s k).hdr 1)
  | none => 0

/-- What the handover goes on with when the window has ended on the new firmware. -/
def windowGoesOn (s2 : State) : State := match s2.upd.ho with
  | none => s2
  | some h =>
    if h.back then updHoEnd s2
    else
      let s3 := hoStep { s2 with upd := { s2.upd with ho := some { h with windowDone := true } } } 6
      if !hasEntry s3 5 (Entry.runs 0x43) then s3
      else if !storTakes s3 then finishEntry (errRise s3 R.UPD_ERR_STOR 0 0) 5 (Entry.runs 0x43) 0x44 0 0
      else finishEntry (updCommitHo s3 h) 5 (Entry.runs 0x43) 0 h.slot 0

theorem windowEnd_good (hopen : flag s R.UPD_STATUS_HOLD_WIN = true) (hcheck : windowCheck s = true) (htime : windowUs s < 38000) :
    windowEnd s = windowGoesOn (regSet (windowShut (windowSwapped s)) R.SYS_FW_VER_SP (spVersion (windowShut (windowSwapped s)) s.upd.spOther)) := by
  have hgo : ¬ (!windowCheck s || decide (38000 ≤ windowUs s)) = true := by
    rw [hcheck, decide_eq_false (Nat.not_le.mpr htime)]
    decide
  exact (if_neg (by simp [hopen])).trans (if_neg hgo)

/-- A step that leaves SP's slot and no window open. -/
def SpKept (s t : State) : Prop := t.upd.spSlot = s.upd.spSlot ∧ t.upd.winFrom = s.upd.winFrom

theorem SpKept.trans {s t u : State} (h : SpKept s t) (k : SpKept t u) : SpKept s u := ⟨k.1.trans h.1, k.2.trans h.2⟩
theorem spKept_of_upd {s t : State} (h : t.upd = s.upd) : SpKept s t := ⟨by rw [h], by rw [h]⟩

theorem spKept_updHoEnd (s : State) : SpKept s (updHoEnd s) := ⟨rfl, rfl⟩
theorem spKept_updCommitHo (s : State) (h : UpdHo) : SpKept s (updCommitHo s h) := by
  have hstore : (updCommitSlot s h.slot).upd = s.upd := by
    unfold updCommitSlot
    exact bootStore_upd s _
  have hreset : SpKept s (clusterReset (updCommitSlot s h.slot) h.old) := by
    unfold SpKept
    rw [clusterReset_upd, hstore]
    exact ⟨rfl, rfl⟩
  exact hreset.trans (spKept_updHoEnd _)

theorem spKept_windowGoesOn (s : State) : SpKept s (windowGoesOn s) := by
  unfold windowGoesOn
  split
  · exact ⟨rfl, rfl⟩
  · rename_i h _
    split
    · exact spKept_updHoEnd s
    · have hstep : SpKept s (hoStep { s with upd := { s.upd with ho := some { h with windowDone := true } } } 6) := ⟨rfl, rfl⟩
      have hfinish (x : State) (st res ext : Nat) : SpKept x (finishEntry x 5 (Entry.runs 0x43) st res ext) :=
        spKept_of_upd (finishEntry_upd x (by decide) _ _ _ _)
      dsimp only
      generalize hoStep { s with upd := { s.upd with ho := some { h with windowDone := true } } } 6 = u at hstep ⊢
      split
      · exact hstep
      · split
        · exact hstep.trans ((spKept_of_upd (errRise_upd_eq u R.UPD_ERR_STOR 0 0)).trans (hfinish _ _ _ _))
        · exact hstep.trans ((spKept_updCommitHo u h).trans (hfinish _ _ _ _))

/-- The window ends on the new firmware. -/
theorem windowEnd_shows (hopen : flag s R.UPD_STATUS_HOLD_WIN = true) (hcheck : windowCheck s = true) (htime : windowUs s < 38000) :
    (windowEnd s).upd.spSlot = s.upd.spOther ∧ (windowEnd s).upd.winFrom = none := by
  have hshut := windowShut_upd (windowSwapped s)
  rw [windowEnd_good hopen hcheck htime]
  obtain ⟨hslot, hfrom⟩ := spKept_windowGoesOn
    (regSet (windowShut (windowSwapped s)) R.SYS_FW_VER_SP (spVersion (windowShut (windowSwapped s)) s.upd.spOther))
  rw [hslot, hfrom, regSet_upd_eq, hshut]
  exact ⟨rfl, rfl⟩

end

section
variable {s : State} {h : UpdHo} (hho : s.upd.ho = some h)
include hho

theorem updTimeout_tripped (htrip : s.upd.winTrip = true) : updTimeout s = windowRevert s := by
  unfold updTimeout
  rw [hho]
  exact if_pos htrip
theorem updTimeout_runs (hpair : h.pair = false) (hforth : h.back = false) (hno : s.upd.winTrip = false) (hshut : flag s R.UPD_STATUS_HOLD_WIN = false) :
    updTimeout s = if h.swapped then updRollback s h 6 else updHoAbort s h := by
  unfold updTimeout
  rw [hho]
  dsimp only
  rw [if_neg (by simp [hno]), if_neg (by simp [hpair, hforth, hshut])]
  cases h.swapped <;> rfl

end

/-! ### The partner's version (R438, R439) -/

section
variable {s : State} {src k : Nat} {p : List Byte} (hquery : s.upd.query = some k) (hsrc : src = cfgU s 32 1 4 2)
include hquery hsrc

theorem takeInfo_old (hver : fieldAt p 0x0C 4 < hdrPairMin (imgAt s k).hdr) :
    takeInfo s src p = (finishEntry (updHoEnd s) 5 (Entry.runs 0x40) 0x47 0 0, none) := by
  unfold takeInfo
  rw [hquery]
  dsimp only
  rw [if_neg (not_not.mpr hsrc), if_pos hver]

section
variable (hver : hdrPairMin (imgAt s k).hdr ≤ fieldAt p 0x0C 4) {u : State} {restart : Bool}
include hver

theorem takeInfo_running {slot : Nat} (hr : updPairGo s k (hasEntry s 5 (fun e => Entry.runs 0x40 e && decide (8 ≤ e.note))) = (u, .running slot, restart)) :
    takeInfo s src p = (u, none) := by
  unfold takeInfo
  rw [hquery]
  dsimp only
  rw [if_neg (not_not.mpr hsrc), if_neg (Nat.not_lt.mpr hver), hr]

theorem takeInfo_done {st res ext : Nat}
    (hr : updPairGo s k (hasEntry s 5 (fun e => Entry.runs 0x40 e && decide (8 ≤ e.note))) = (u, .done st res ext, restart)) :
    takeInfo s src p = (finishEntry u 5 (Entry.runs 0x40) st res ext, if restart then some k else none) := by
  unfold takeInfo
  rw [hquery]
  dsimp only
  rw [if_neg (not_not.mpr hsrc), if_neg (Nat.not_lt.mpr hver), hr]

end

end

theorem updTaken_info (s : State) (src : Nat) (p : List Byte) :
    updTaken s 10 src p = if (takeInfo s src p).2.isSome then updRestart (takeInfo s src p).1 else (takeInfo s src p).1 := rfl
theorem updTaken_info_stays {s u : State} {src : Nat} {p : List Byte} (h : takeInfo s src p = (u, none)) : updTaken s 10 src p = u := by
  rw [updTaken_info, h]
  exact if_neg Bool.false_ne_true
theorem updTaken_info_restarts {s u : State} {src k : Nat} {p : List Byte} (h : takeInfo s src p = (u, some k)) : updTaken s 10 src p = updRestart u := by
  rw [updTaken_info, h]
  exact if_pos rfl

/-- The active unit's handover of a pair update. -/
def pairHoSet (s : State) (slot : Nat) : State :=
  wr (put { s with upd := { s.upd with
    ho := some { slot := slot, pair := true, old := engineOwner s, ready := false, swapped := false, windowDone := false, back := false },
    await := some slot, query := none } } R.UPD_STATUS_HO_RUN true) R.UPD_STATUS_HO_KIND 2

section
variable {s : State} {k : Nat}

theorem updPairGo_active (hrole : role s = roleActive) (hwhy : s.red.hoWhy = 0) :
    updPairGo s k false = (pepperForce (hoStart (pairHoSet s k) 2), .running k, false) := by
  have hstandby : ¬ role s = roleStandby := by rw [hrole]; decide
  exact (if_neg hstandby).trans ((if_neg (not_not.mpr hrole)).trans ((if_neg Bool.false_ne_true).trans (if_neg (not_not.mpr hwhy))))

theorem updPairGo_standby (hrole : role s = roleStandby) (cluster : Bool) :
    updPairGo s k cluster = (bootStore { s with upd := { s.upd with query := none } } (fun b => { b with st := b.st.set k slotTrial, trials := 0 }),
      .done 0 k 0, true) := if_pos hrole

theorem pairHo_shows (s : State) (k : Nat) :
    (pepperForce (hoStart (pairHoSet s k) 2)).red.hoWhy = 2 ∧ rd (pepperForce (hoStart (pairHoSet s k) 2)) R.RED_STATUS_HO_STEP = 1
    ∧ (pepperForce (hoStart (pairHoSet s k) 2)).upd.await = some k ∧ (pepperForce (hoStart (pairHoSet s k) 2)).upd.query = none := by
  obtain ⟨hstep, -, hred⟩ := hoStart_shows (pairHoSet s k) 2
  have hforce := recOnly_pepperForce (hoStart (pairHoSet s k) 2)
  refine ⟨?_, (hforce.rd _ (by decide)).trans hstep, ?_, ?_⟩
  · rw [hforce.red, hred]
  · rw [hforce.upd]
    rfl
  · rw [hforce.upd]
    rfl

end

end Sys2Proof.Laws
namespace Sys2Proof.Proofs

open Sys2Proof Sys2Proof.Machine Sys2Proof.Laws

/-- Settles O59: each step of the activation by its branch; the hold window's end leaves SP's slot, for no window is open while SP evaluates. -/
theorem activationRowsAct : Obligations.ActivationRowsAct := by
  unfold Obligations.ActivationRowsAct
  refine ⟨?single, ?runs, ?pair, ?noRole, ?notValid, ?ready, ?notReady, ?report, ?swap, ?commit, ?commitWaits, ?rollback, ?opens, ?notOpen, ?ends, ?fails,
    ?revert, ?tripped, ?idle, ?timeout, ?noAnswer, ?old, ?active, ?standby⟩
  case single =>
    intro s e hgoes hho hquery hvalid hsingle hstor
    have hact : updActivate e s = ((updHoStart s e.arg0).1, .running e.arg0) := (updActivate_single hho hquery hvalid hsingle hstor).trans (by rw [updHoStart_eq])
    exact leaves_of_act hgoes hact (updHoStart_shows s e.arg0)
  case runs => exact fun s e hgoes hsingle hrun => leaves_of_act hgoes (updActivate_runs hsingle hrun) rfl
  case pair =>
    intro s e hgoes hho hquery hvalid hpair hsystem hstor hrole
    refine leaves_of_act hgoes (updActivate_pair hho hquery hvalid hpair hsystem hstor hrole) ?_
    rw [updSend_upd]
    rfl
  case noRole => exact fun s e hgoes hpair hstandby hactive => leaves_of_act hgoes (updActivate_noRole hpair hstandby hactive) rfl
  case notValid => exact fun s e hgoes hsingle hho hquery hvalid => leaves_of_act hgoes (updActivate_notValid hsingle hho hquery hvalid) rfl
  case ready =>
    intro s e h hgoes hwaits hho hpair hno hlevel
    exact leaves_of_act hgoes (updReady_takes hho hpair hno hlevel) ⟨rfl, (readyTake_shows s h).1, (readyTake_shows s h).2.1⟩
      (congrArg Host.Outcome.next (if_pos hwaits))
  case notReady =>
    intro s e h hgoes hwaits hho hbad
    exact leaves_of_act hgoes (updReady_refuses hho hbad) rfl (congrArg Host.Outcome.next (if_pos hwaits))
  case report =>
    intro s h hwaits hho hpair hno hfull
    have hrow : (if readyWaits s then runEntry s 5 0x41 updReady else readyReport s) = readyTake s h :=
      (if_neg (by simp [hwaits])).trans (readyReport_takes hho hpair hno hfull)
    exact ⟨_, congrArg Host.Outcome.next hrow, readyTake_shows s h⟩
  case swap =>
    intro s e h hgoes hho hpair hready hno hlevel
    have hown : (if 1 - h.old = 0 then 0 else 0xFFFFFFFF) = if h.old = 1 then 0 else 0xFFFFFFFF := by
      rcases clusterOf_lt hlevel with h0 | h1
      · rw [h0]; rfl
      · rw [h1]; rfl
    refine leaves_of_act hgoes (updSwap_takes hho hpair hready hno hlevel) ⟨?_, ?_, ?_⟩
    · rw [finishEntry_upd _ (by decide), swapShown_ho]
    · rw [(queueOnly_finishEntry _ (by decide) _ _ _ _).rd _ (by decide), swapShown_step]
    · rw [rd_owner_finishEntry, swapShown_owner, hown]
  case commit =>
    exact fun s e h hgoes hho hpair hswapped hforth hdone hlevel hstor =>
      leaves_of_act hgoes (updCommit_takes hho hpair hswapped hforth hdone hlevel hstor) ⟨rfl, rfl⟩
  case commitWaits =>
    exact fun s e h hgoes hho hpair hswapped hforth hdone hlevel => leaves_of_act hgoes (updCommit_waits hho hpair hswapped hforth hdone hlevel) rfl
  case rollback => exact fun s e h hgoes hho hpair hswapped hshut => leaves_of_act hgoes (updRollbackOp_takes hho hpair hswapped hshut) rfl
  case opens =>
    intro s hdue hmay
    exact ⟨_, congrArg Host.Outcome.next (windowOpen_opens hdue hmay), windowOpened_shows.1, windowOpened_shows.2, rfl⟩
  case notOpen => exact fun s h => congrArg Host.Outcome.next (windowOpen_not h)
  case ends => exact fun s hopen hcheck htime => ⟨_, rfl, windowEnd_shows hopen hcheck htime⟩
  case fails => exact fun s hopen hbad => congrArg Host.Outcome.next (windowEnd_fails hopen hbad)
  case revert =>
    exact fun s h hopen hho hforth => ⟨_, congrArg Host.Outcome.next (windowRevert_open hopen hho hforth), _, _, rfl, rfl, rfl⟩
  case tripped =>
    intro s h hshut htrip hho hforth v
    have hrevert : windowRevert s = updRollback v h 0x46 := windowRevert_tripped hshut htrip hho hforth
    clear_value v
    exact ⟨congrArg Host.Outcome.next hrevert, congrArg Host.Outcome.next ((windowEnd_shut hshut).trans hrevert),
      congrArg Host.Outcome.next ((updTimeout_tripped hho htrip).trans hrevert)⟩
  case idle =>
    intro s hshut hno
    have hrevert := windowRevert_idle hshut hno
    exact ⟨congrArg Host.Outcome.next hrevert, congrArg Host.Outcome.next ((windowEnd_shut hshut).trans hrevert)⟩
  case timeout =>
    exact fun s h hho hpair hforth hno hshut => ⟨_, congrArg Host.Outcome.next (updTimeout_runs hho hpair hforth hno hshut), rfl⟩
  case noAnswer =>
    intro s hquery
    refine ⟨_, congrArg Host.Outcome.next (if_pos hquery), rfl, ?_⟩
    rw [finishEntry_upd _ (by decide), updHoEnd_upd]
  case old =>
    intro s src p k hfull hlen hop hquery hsrc hver
    have hinfo := takeInfo_old (p := p) hquery hsrc hver
    refine ⟨_, (updRow_taken hfull hlen hop).trans (congrArg Host.Outcome.next (updTaken_info_stays hinfo)), rfl, ?_⟩
    rw [finishEntry_upd _ (by decide), updHoEnd_upd]
  case active =>
    intro s src p k hfull hlen hop hquery hsrc hver hcluster hrole hwhy
    have hgo := updPairGo_active (k := k) hrole hwhy
    have hinfo := takeInfo_running (p := p) hquery hsrc hver (by rw [hcluster]; exact hgo)
    exact ⟨_, (updRow_taken hfull hlen hop).trans (congrArg Host.Outcome.next (updTaken_info_stays hinfo)), pairHo_shows s k⟩
  case standby =>
    intro s src p k hfull hlen hop hquery hsrc hver hrole
    have hinfo := takeInfo_done (p := p) hquery hsrc hver (updPairGo_standby (k := k) hrole _)
    rw [if_pos rfl] at hinfo
    exact ⟨_, (updRow_taken hfull hlen hop).trans (congrArg Host.Outcome.next (updTaken_info_restarts hinfo)), _, rfl, rfl⟩

end Sys2Proof.Proofs
end

section
/-! The rows outside `powerRow` leave the power state as it was (O60). -/

namespace Sys2Proof.Laws

open Sys2Proof Sys2Proof.Machine

/-- An outcome whose next state has the power state as it was. -/
def PowerKept (s : State) : Host.Outcome State Fault Refusal → Prop
  | .next t => t.power = s.power
  | _ => True

theorem powerKept_next {s t : State} (h : t.power = s.power) : PowerKept s (.next t) := h
theorem powerKept_run {s : State} {qp opc : Nat} {act : Entry → State → State × EntrySt} (h : ∀ e u, (act e u).1.power = u.power) :
    PowerKept s (.next (runEntry s qp opc act)) := runEntry_power s qp opc act h
theorem powerKept_run_if {s : State} {p : Prop} [Decidable p] {qp opc : Nat} {act : Entry → State → State × EntrySt}
    (h : ∀ e u, (act e u).1.power = u.power) : PowerKept s (.next (if p then runEntry s qp opc act else s)) := by
  split
  · exact runEntry_power s qp opc act h
  · exact rfl

theorem execSafeReady_power (s : State) : PowerKept s (execSafeReady s) := by
  exact powerKept_next (by simp)
theorem execLowWarning_power (now : SupplyIn) (s : State) : PowerKept s (execLowWarning now s) := by
  exact powerKept_next (by simp)
theorem execRailHigh_power (now : SupplyIn) (s : State) : PowerKept s (execRailHigh now s) := by
  exact powerKept_next (by simp)
theorem execCoilUv_power (now : SupplyIn) (s : State) : PowerKept s (execCoilUv now s) := by
  exact powerKept_next (by simp)
theorem execLockstepMismatch_power (s : State) : PowerKept s (execLockstepMismatch s) := by
  exact powerKept_next (by simp)
theorem execSpWatchdogExpiry_power (s : State) : PowerKept s (execSpWatchdogExpiry s) := by
  exact powerKept_next (by simp)
theorem execSafetyReset_power (row : Nat) (s : State) : PowerKept s (execSafetyReset row s) := by
  exact powerKept_next (by simp)
theorem execClusterWatchdogExpiry_power (c : Nat) (s : State) : PowerKept s (execClusterWatchdogExpiry c s) := by
  exact powerKept_next (by simp)
theorem execSafeIslandLimit_power (now : SupplyIn) (s : State) : PowerKept s (execSafeIslandLimit now s) := by
  exact powerKept_next (by simp)
theorem execPeakDrawLimit_power (now : SupplyIn) (s : State) : PowerKept s (execPeakDrawLimit now s) := by
  exact powerKept_next (by simp)
theorem execPeakDrawRelease_power (now : SupplyIn) (spanMs mwMs : Nat) (s : State) : PowerKept s (execPeakDrawRelease now spanMs mwMs s) := by
  exact powerKept_next (by simp)
theorem execCqHead_power (lvl : Level) (qp value : Nat) (s : State) : PowerKept s (execCqHead lvl qp value s) := by
  exact powerKept_next (by simp)
theorem execSqFetch_power (qp : Nat) (ue : List Nat) (s : State) : PowerKept s (execSqFetch qp ue s) := by
  exact powerKept_next (by simp)
theorem execTimedStart_power (qp : Nat) (s : State) : PowerKept s (execTimedStart qp s) := by
  exact powerKept_next (by simp)
theorem execCoalTimeout_power (qp : Nat) (s : State) : PowerKept s (execCoalTimeout qp s) := by
  exact powerKept_next (by simp)
theorem execIrqpendClear_power (lvl : Level) (hi : Bool) (value : Nat) (s : State) : PowerKept s (execIrqpendClear lvl hi value s) := by
  exact powerKept_next (by simp)
theorem execQpEnable_power (lvl : Level) (qp : Nat) (s : State) : PowerKept s (execQpEnable lvl qp s) := by
  exact powerKept_next (by simp)
theorem execQpDisable_power (lvl : Level) (qp : Nat) (s : State) : PowerKept s (execQpDisable lvl qp s) := by
  exact powerKept_next (by simp)
theorem execQpIdle_power (qp : Nat) (s : State) : PowerKept s (execQpIdle qp s) := by
  exact powerKept_next (by simp)
theorem execNop_power (qp : Nat) (s : State) : PowerKept s (execNop qp s) := powerKept_run (fun _ _ => by simp)
theorem execGetStatus_power (qp : Nat) (s : State) : PowerKept s (execGetStatus qp s) := powerKept_run (fun _ _ => by simp)
theorem execSetConfig_power (qp : Nat) (s : State) : PowerKept s (execSetConfig qp s) := powerKept_run (fun _ _ => by simp)
theorem execGetConfig_power (qp : Nat) (s : State) : PowerKept s (execGetConfig qp s) := powerKept_run (fun _ _ => by simp)
theorem execEnable_power (qp : Nat) (s : State) : PowerKept s (execEnable qp s) := powerKept_run (fun _ _ => by simp)
theorem execDisable_power (qp : Nat) (s : State) : PowerKept s (execDisable qp s) := powerKept_run (fun _ _ => by simp)
theorem execPostBuffer_power (qp : Nat) (s : State) : PowerKept s (execPostBuffer qp s) := powerKept_run (fun _ _ => by simp)
theorem execMark_power (qp : Nat) (s : State) : PowerKept s (execMark qp s) := powerKept_run (fun _ _ => by simp)
theorem execFlush_power (qp : Nat) (s : State) : PowerKept s (execFlush qp s) := powerKept_run (fun _ _ => by simp)
theorem execLockSet_power (lvl : Level) (value : Nat) (s : State) : PowerKept s (execLockSet lvl value s) := by
  exact powerKept_next (by simp)
theorem execRegisterWrite_power (lvl : Level) (addr width value : Nat) (s : State) : PowerKept s (execRegisterWrite lvl addr width value s) := by
  exact powerKept_next (by simp)
theorem execLoRead_power (lvl : Level) (addr width : Nat) (now : SupplyIn) (s : State) : PowerKept s (execLoRead lvl addr width now s) := by
  exact powerKept_next (by simp)
theorem execLoWrite_power (lvl : Level) (addr value : Nat) (s : State) : PowerKept s (execLoWrite lvl addr value s) := by
  exact powerKept_next (by simp)
theorem execHiWrite_power (lvl : Level) (addr value : Nat) (s : State) : PowerKept s (execHiWrite lvl addr value s) := by
  exact powerKept_next (by simp)
theorem execIncWrite_power (lvl : Level) (dom value : Nat) (s : State) : PowerKept s (execIncWrite lvl dom value s) := by
  exact powerKept_next (by simp)
theorem execPreset_power (lvl : Level) (ctr value : Nat) (s : State) : PowerKept s (execPreset lvl ctr value s) := by
  exact powerKept_next (by simp)
theorem execSampleInstant_power (rx : Option Nat) (hv : HvmIn) (transit : Option Nat) (s : State) : PowerKept s (execSampleInstant rx hv transit s) := by
  exact powerKept_next (by simp)
theorem execArm_power (k snum lead : Nat) (fromX3 : Bool) (chk : FrameChk) (s : State) : PowerKept s (execArm k snum lead fromX3 chk s) := by
  exact powerKept_next (by simp)
theorem execStrobe_power (k : Nat) (si : StrobeIn) (s : State) : PowerKept s (execStrobe k si s) := by
  exact powerKept_next (by simp)
theorem execSweepRd_power (k sinceNs : Nat) (fate : SlotFate) (s : State) : PowerKept s (execSweepRd k sinceNs fate s) := by
  exact powerKept_next (by simp)
theorem execHoldRd_power (k sinceNs : Nat) (fate : SlotFate) (s : State) : PowerKept s (execHoldRd k sinceNs fate s) := by
  exact powerKept_next (by simp)
theorem execTregRd_power (k reg : Nat) (chk : FrameChk) (s : State) : PowerKept s (execTregRd k reg chk s) := by
  exact powerKept_next (by simp)
theorem execTregWr_power (k : Nat) (ws : List (Nat × Nat)) (chk : FrameChk) (s : State) : PowerKept s (execTregWr k ws chk s) := by
  unfold execTregWr
  dsimp only
  (repeat' split) <;> exact powerKept_next (by simp)
theorem execEnum_power (portB : Bool) (s : State) : PowerKept s (execEnum portB s) := by
  unfold execEnum
  dsimp only
  (repeat' split) <;> exact powerKept_next (by simp)
theorem execDlyMark_power (k m : Nat) (chk : FrameChk) (s : State) : PowerKept s (execDlyMark k m chk s) := by
  exact powerKept_next (by simp)
theorem execDlySet_power (k x2 x3 align : Nat) (chk : FrameChk) (s : State) : PowerKept s (execDlySet k x2 x3 align chk s) := by
  exact powerKept_next (by simp)
theorem execProbeFrame_power (k : Nat) (portB : Bool) (chk : FrameChk) (s : State) : PowerKept s (execProbeFrame k portB chk s) := by
  unfold execProbeFrame
  dsimp only
  (repeat' split) <;> exact powerKept_next (by simp)
theorem execSafeWr_power (k ov uv filt : Nat) (srcSp : Bool) (chk : FrameChk) (s : State) : PowerKept s (execSafeWr k ov uv filt srcSp chk s) := by
  exact powerKept_next (by simp)
theorem execSafeRd_power (k : Nat) (chk : FrameChk) (s : State) : PowerKept s (execSafeRd k chk s) := by
  exact powerKept_next (by simp)
theorem execRearm_power (k : Nat) (srcSp : Bool) (chk : FrameChk) (s : State) : PowerKept s (execRearm k srcSp chk s) := by
  exact powerKept_next (by simp)
theorem execArmSafe_power (k : Nat) (srcSp : Bool) (chk : FrameChk) (s : State) : PowerKept s (execArmSafe k srcSp chk s) := by
  exact powerKept_next (by simp)
theorem execSleep_power (k : Nat) (chk : FrameChk) (s : State) : PowerKept s (execSleep k chk s) := by
  exact powerKept_next (by simp)
theorem execTileSilenceTimeout_power (k : Nat) (s : State) : PowerKept s (execTileSilenceTimeout k s) := by
  exact powerKept_next (by simp)
theorem execTileWake_power (k : Nat) (fresh : Option TileTrim) (stack : Nat) (s : State) : PowerKept s (execTileWake k fresh stack s) := by
  unfold execTileWake
  dsimp only
  (repeat' split) <;> exact powerKept_next (by simp)
theorem execTileClockLock_power (k : Nat) (onX3 ok : Bool) (s : State) : PowerKept s (execTileClockLock k onX3 ok s) := by
  exact powerKept_next (by simp)
theorem execStackLow_power (k : Nat) (s : State) : PowerKept s (execStackLow k s) := by
  exact powerKept_next (by simp)
theorem execStackRestored_power (k : Nat) (s : State) : PowerKept s (execStackRestored k s) := by
  exact powerKept_next (by simp)
theorem execComparatorTrip_power (k cell : Nat) (ov : Bool) (v : Int) (s : State) : PowerKept s (execComparatorTrip k cell ov v s) := by
  unfold execComparatorTrip
  dsimp only
  (repeat' split) <;> exact powerKept_next (by simp)
theorem execComparatorSelfTest_power (k : Nat) (tripUs standInUs : Option Nat) (s : State) : PowerKept s (execComparatorSelfTest k tripUs standInUs s) := by
  unfold execComparatorSelfTest
  dsimp only
  (repeat' split) <;> exact powerKept_next (by simp)
theorem execOpenWireTest_power (s : State) : PowerKept s (execOpenWireTest s) := by
  exact powerKept_next (by simp)
theorem execSyncLoss_power (node : Nat) (x3 : Bool) (codes : Nat) (s : State) : PowerKept s (execSyncLoss node x3 codes s) := by
  unfold execSyncLoss
  dsimp only
  (repeat' split) <;> exact powerKept_next (by simp)
theorem execLoopModeExit_power (k : Nat) (x3 : Bool) (s : State) : PowerKept s (execLoopModeExit k x3 s) := by
  exact powerKept_next (by simp)
theorem execLinkDown_power (portB : Bool) (pos : Nat) (lostX3 : Bool) (s : State) : PowerKept s (execLinkDown portB pos lostX3 s) := by
  unfold execLinkDown
  dsimp only
  (repeat' split) <;> exact powerKept_next (by simp)
theorem execReadIncomplete_power (sinceNs : Nat) (s : State) : PowerKept s (execReadIncomplete sinceNs s) := by
  exact powerKept_next (by simp)
theorem execSweepDeadline_power (s : State) : PowerKept s (execSweepDeadline s) := by
  exact powerKept_next (by simp)
theorem execSweepComplete_power (s : State) : PowerKept s (execSweepComplete s) := by
  exact powerKept_next (by simp)
theorem execProbeReturn_power (s : State) : PowerKept s (execProbeReturn s) := by
  unfold execProbeReturn
  dsimp only
  (repeat' split) <;> exact powerKept_next (by simp)
theorem execRingClose_power (tAB tBA : Nat) (marks : List (Option Nat)) (s : State) : PowerKept s (execRingClose tAB tBA marks s) := by
  unfold execRingClose
  dsimp only
  (repeat' split) <;> exact powerKept_next (by simp)
theorem execChainRound_power (s : State) : PowerKept s (execChainRound s) := by
  exact powerKept_next (by simp)
theorem execDelayRemeasure_power (tAB tBA : Nat) (marks : List (Option Nat)) (s : State) : PowerKept s (execDelayRemeasure tAB tBA marks s) := by
  exact powerKept_next (by simp)
theorem execTileRd_power (s : State) : PowerKept s (execTileRd s) := powerKept_run (fun _ _ => by simp)
theorem execProbe_power (s : State) : PowerKept s (execProbe s) := powerKept_run (fun _ _ => by simp)
theorem execDlyMeasure_power (tAB tBA : Nat) (marks : List (Option Nat)) (s : State) : PowerKept s (execDlyMeasure tAB tBA marks s) := powerKept_run (fun _ _ => by simp)
theorem execTileSnap_power (s : State) : PowerKept s (execTileSnap s) := powerKept_run (fun _ _ => by simp)
theorem execTableCommit_power (s : State) : PowerKept s (execTableCommit s) := powerKept_run (fun _ _ => by simp)
theorem execRevert_power (s : State) : PowerKept s (execRevert s) := powerKept_run (fun _ _ => by simp)
theorem execScheduleBoundary_power (s : State) : PowerKept s (execScheduleBoundary s) := by
  exact powerKept_next (by simp)
theorem execQuarterLoad_power (qp : Nat) (s : State) : PowerKept s (execQuarterLoad qp s) := powerKept_run_if (fun _ _ => by simp)
theorem execCarrierStop_power (s : State) : PowerKept s (execCarrierStop s) := by
  exact powerKept_next (by simp)
theorem execCarrierRestart_power (s : State) : PowerKept s (execCarrierRestart s) := by
  exact powerKept_next (by simp)
theorem execCarrierPeriodChange_power (s : State) : PowerKept s (execCarrierPeriodChange s) := by
  exact powerKept_next (by simp)
theorem execHvmReport_power (means : HvmIn) (iMinNv iMaxNv : Int) (s : State) : PowerKept s (execHvmReport means iMinNv iMaxNv s) := by
  unfold execHvmReport
  dsimp only
  (repeat' split) <;> exact powerKept_next (by simp)
theorem execInsulationPhaseEnd_power (vc u100 moved uMin : Int) (s : State) : PowerKept s (execInsulationPhaseEnd vc u100 moved uMin s) := by
  exact powerKept_next (by simp)
theorem execInsulationCycleEnd_power (s : State) : PowerKept s (execInsulationCycleEnd s) := by
  exact powerKept_next (by simp)
theorem execShuntOverRange_power (overN : Nat) (s : State) : PowerKept s (execShuntOverRange overN s) := by
  exact powerKept_next (by simp)
theorem execSetTimers_power (s : State) : PowerKept s (execSetTimers s) := powerKept_run (fun _ _ => by simp)
theorem execBleedStop_power (s : State) : PowerKept s (execBleedStop s) := powerKept_run (fun _ _ => by simp)
theorem execBalSnap_power (s : State) : PowerKept s (execBalSnap s) := powerKept_run (fun _ _ => by simp)
theorem execTapCal_power (iMa : Int) (s : State) : PowerKept s (execTapCal iMa s) := powerKept_run (fun _ _ => by simp)
theorem execTapCalDone_power (iMax vMin vMax : Nat) (steps : List (List CalStep)) (tcals : List Nat) (s : State) : PowerKept s (execTapCalDone iMax vMin vMax steps tcals s) := by
  exact powerKept_next (by simp)
theorem execBleedTimerExpiry_power (k cell : Nat) (s : State) : PowerKept s (execBleedTimerExpiry k cell s) := by
  exact powerKept_next (by simp)
theorem execBleedPowerTick_power (k : Nat) (s : State) : PowerKept s (execBleedPowerTick k s) := by
  unfold execBleedPowerTick
  dsimp only
  (repeat' split) <;> exact powerKept_next (by simp)
theorem execBleedSilence_power (k : Nat) (s : State) : PowerKept s (execBleedSilence k s) := by
  unfold execBleedSilence
  dsimp only
  (repeat' split) <;> exact powerKept_next (by simp)
theorem execPauseFetsOff_power (k : Nat) (s : State) : PowerKept s (execPauseFetsOff k s) := by
  exact powerKept_next (by simp)
theorem execPauseFetsOn_power (k : Nat) (s : State) : PowerKept s (execPauseFetsOn k s) := by
  exact powerKept_next (by simp)
theorem execBalRound_power (elapsedS : Nat) (s : State) : PowerKept s (execBalRound elapsedS s) := by
  exact powerKept_next (by simp)
theorem execEstCycle_power (s : State) : PowerKept s (execEstCycle s) := by
  exact powerKept_next (by simp)
theorem execAgeWaitExpiry_power (s : State) : PowerKept s (execAgeWaitExpiry s) := by
  exact powerKept_next (by simp)
theorem execNoEisTimeout_power (c : Nat) (s : State) : PowerKept s (execNoEisTimeout c s) := by
  exact powerKept_next (by simp)
theorem execStaleTimeout_power (c : Nat) (s : State) : PowerKept s (execStaleTimeout c s) := by
  exact powerKept_next (by simp)
theorem execSopEvaluation_power (s : State) : PowerKept s (execSopEvaluation s) := by
  exact powerKept_next (by simp)
theorem execSnapshotTimer_power (s : State) : PowerKept s (execSnapshotTimer s) := by
  exact powerKept_next (by simp)
theorem execChemCommit_power (s : State) : PowerKept s (execChemCommit s) := powerKept_run (fun _ _ => by simp)
theorem execCellReset_power (s : State) : PowerKept s (execCellReset s) := powerKept_run (fun _ _ => by simp)
theorem execSnapshot_power (s : State) : PowerKept s (execSnapshot s) := powerKept_run (fun _ _ => by simp)
theorem execSegmentEnd_power (s : State) : PowerKept s (execSegmentEnd s) := by
  exact powerKept_next (by simp)
theorem execIntegrationEnd_power (s : State) : PowerKept s (execIntegrationEnd s) := by
  exact powerKept_next (by simp)
theorem execHoldTimeout_power (s : State) : PowerKept s (execHoldTimeout s) := by
  exact powerKept_next (by simp)
theorem execPlanCommit_power (s : State) : PowerKept s (execPlanCommit s) := powerKept_run (fun _ _ => by simp)
theorem execEisHistoryTimer_power (s : State) : PowerKept s (execEisHistoryTimer s) := by
  exact powerKept_next (by simp)
theorem execHousekeepingRound_power (tin : ThermIn) (s : State) : PowerKept s (execHousekeepingRound tin s) := by
  exact powerKept_next (by simp)
theorem execFastRound_power (tin : ThermIn) (s : State) : PowerKept s (execFastRound tin s) := by
  exact powerKept_next (by simp)
theorem execHeaterDwellEnd_power (s : State) : PowerKept s (execHeaterDwellEnd s) := by
  exact powerKept_next (by simp)
theorem execActFault_power (a : Nat) (s : State) : PowerKept s (execActFault a s) := by
  unfold execActFault
  (repeat' split) <;> exact powerKept_next (by simp)
theorem execLc0Cycle_power (x : Lc0In) (s : State) : PowerKept s (execLc0Cycle x s) := by
  exact powerKept_next (by simp)
theorem execFastCycle_power (x : CtrlIn) (s : State) : PowerKept s (execFastCycle x s) := by
  exact powerKept_next (by simp)
theorem execSlowCycle_power (x : CtrlIn) (dtNs : Nat) (s : State) : PowerKept s (execSlowCycle x dtNs s) := by
  exact powerKept_next (by simp)
theorem execDwellEnd_power (n : Nat) (s : State) : PowerKept s (execDwellEnd n s) := by
  exact powerKept_next (by simp)
theorem execSupervisionCheck_power (x : CtrlIn) (iHall : Int) (s : State) : PowerKept s (execSupervisionCheck x iHall s) := by
  exact powerKept_next (by simp)
theorem execStoppingTimeout_power (n : Nat) (s : State) : PowerKept s (execStoppingTimeout n s) := by
  exact powerKept_next (by simp)
theorem execPsFault_power (low : Bool) (s : State) : PowerKept s (execPsFault low s) := by
  exact powerKept_next (by simp)
theorem execStop_power (qp : Nat) (s : State) : PowerKept s (execStop qp s) := powerKept_run_if (fun _ _ => by simp)
theorem execSetRef_power (qp : Nat) (s : State) : PowerKept s (execSetRef qp s) := powerKept_run_if (fun _ _ => by simp)
theorem execSetDispatch_power (qp : Nat) (s : State) : PowerKept s (execSetDispatch qp s) := powerKept_run_if (fun _ _ => by simp)
theorem execDispatchExpiry_power (s : State) : PowerKept s (execDispatchExpiry s) := by
  exact powerKept_next (by simp)
theorem execPowerRequest_power (sender : Nat) (req : List Byte) (s : State) : PowerKept s (execPowerRequest sender req s) := by
  exact powerKept_next (by simp)
theorem execFogAssert_power (loopOpen : Bool) (s : State) : PowerKept s (execFogAssert loopOpen s) := by
  exact powerKept_next (by simp)
theorem execFogDeassert_power (s : State) : PowerKept s (execFogDeassert s) := by
  exact powerKept_next (by simp)
theorem execSpEvaluation_power (s : State) : PowerKept s (execSpEvaluation s) := by
  exact powerKept_next (by simp)
theorem execSetCrcCheck_power (flips : List (Nat × Nat)) (s : State) : PowerKept s (execSetCrcCheck flips s) := by
  exact powerKept_next (by simp)
theorem execSiChannelChange_power (n : Nat) (chB on : Bool) (s : State) : PowerKept s (execSiChannelChange n chB on s) := by
  exact powerKept_next (by simp)
theorem execDiscrepancyTimeout_power (n : Nat) (s : State) : PowerKept s (execDiscrepancyTimeout n s) := by
  exact powerKept_next (by simp)
theorem execInputTestPulse_power (tpb : Bool) (reads : Nat) (s : State) : PowerKept s (execInputTestPulse tpb reads s) := by
  exact powerKept_next (by simp)
theorem execOutputSwitchOn_power (n : Nat) (s : State) : PowerKept s (execOutputSwitchOn n s) := by
  exact powerKept_next (by simp)
theorem execHighSideOn_power (n : Nat) (s : State) : PowerKept s (execHighSideOn n s) := by
  exact powerKept_next (by simp)
theorem execOutputSwitchOff_power (n : Nat) (s : State) : PowerKept s (execOutputSwitchOff n s) := by
  exact powerKept_next (by simp)
theorem execOffStateCheck_power (pins : List SoPins) (coilMv : Int) (s : State) : PowerKept s (execOffStateCheck pins coilMv s) := by
  exact powerKept_next (by simp)
theorem execOvercurr_power (n : Nat) (s : State) : PowerKept s (execOvercurr n s) := by
  exact powerKept_next (by simp)
theorem execTestPulseSlot_power (j : Nat) (young : Bool) (s : State) : PowerKept s (execTestPulseSlot j young s) := by
  exact powerKept_next (by simp)
theorem execTestPulseEvaluate_power (ma : Nat) (pinMv coilMv : Int) (s : State) : PowerKept s (execTestPulseEvaluate ma pinMv coilMv s) := by
  exact powerKept_next (by simp)
theorem execTestPulseEnd_power (conducts late : Bool) (s : State) : PowerKept s (execTestPulseEnd conducts late s) := by
  exact powerKept_next (by simp)
theorem execTestOverdue_power (n : Nat) (s : State) : PowerKept s (execTestOverdue n s) := by
  exact powerKept_next (by simp)
theorem execRstInRise_power (s : State) : PowerKept s (execRstInRise s) := by
  exact powerKept_next (by simp)
theorem execRstInFall_power (ticks : Nat) (s : State) : PowerKept s (execRstInFall ticks s) := by
  exact powerKept_next (by simp)
theorem execResetHighDiscard_power (stl : Bool) (s : State) : PowerKept s (execResetHighDiscard stl s) := by
  exact powerKept_next (by simp)
theorem execRearmComplete_power (s : State) : PowerKept s (execRearmComplete s) := by
  unfold execRearmComplete
  dsimp only
  (repeat' split) <;> exact powerKept_next (by simp)
theorem execRearmTimeout_power (s : State) : PowerKept s (execRearmTimeout s) := by
  unfold execRearmTimeout
  dsimp only
  (repeat' split) <;> exact powerKept_next (by simp)
theorem execPrechargeStart_power (s : State) : PowerKept s (execPrechargeStart s) := by
  exact powerKept_next (by simp)
theorem execPrechargeSettled_power (s : State) : PowerKept s (execPrechargeSettled s) := by
  exact powerKept_next (by simp)
theorem execPrechargeTimeout_power (s : State) : PowerKept s (execPrechargeTimeout s) := by
  exact powerKept_next (by simp)
theorem execPrechargeOverlapEnd_power (s : State) : PowerKept s (execPrechargeOverlapEnd s) := by
  exact powerKept_next (by simp)
theorem execStartRequestOff_power (s : State) : PowerKept s (execStartRequestOff s) := by
  exact powerKept_next (by simp)
theorem execLoad_power (sess ofs : Nat) (data : List Byte) (s : State) : PowerKept s (execLoad sess ofs data s) := by
  exact powerKept_next (by simp)
theorem execLoadEnd_power (sess : Nat) (s : State) : PowerKept s (execLoadEnd sess s) := by
  exact powerKept_next (by simp)
theorem execConfirm_power (sess value oper : Nat) (s : State) : PowerKept s (execConfirm sess value oper s) := by
  exact powerKept_next (by simp)
theorem execRepair_power (sess : Nat) (confirmed : Option Nat) (oper : Nat) (s : State) : PowerKept s (execRepair sess confirmed oper s) := by
  exact powerKept_next (by simp)
theorem execCyclicSend_power (n : Nat) (s : State) : PowerKept s (execCyclicSend n s) := by
  exact powerKept_next (by simp)
theorem execCyclic_power (medium src : Nat) (pdu : List Byte) (s : State) : PowerKept s (execCyclic medium src pdu s) := by
  exact powerKept_next (by simp)
theorem execResetRise_power (medium src : Nat) (pdu : List Byte) (s : State) : PowerKept s (execResetRise medium src pdu s) := by
  exact powerKept_next (by simp)
theorem execResetFall_power (medium src : Nat) (pdu : List Byte) (s : State) : PowerKept s (execResetFall medium src pdu s) := by
  exact powerKept_next (by simp)
theorem execSessionOpen_power (medium src : Nat) (pdu : List Byte) (s : State) : PowerKept s (execSessionOpen medium src pdu s) := by
  exact powerKept_next (by simp)
theorem execLossVerdict_power (n : Nat) (s : State) : PowerKept s (execLossVerdict n s) := by
  exact powerKept_next (by simp)
theorem execSetData_power (s : State) : PowerKept s (execSetData s) := powerKept_run (fun _ _ => by simp)
theorem execResetCmd_power (s : State) : PowerKept s (execResetCmd s) := powerKept_run (fun _ _ => by simp)
theorem execRelayTx_power (s : State) : PowerKept s (execRelayTx s) := powerKept_run (fun _ _ => by simp)
theorem execSessRead_power (s : State) : PowerKept s (execSessRead s) := powerKept_run (fun _ _ => by simp)
theorem execBeaconSend_power (now : SupplyIn) (s : State) : PowerKept s (execBeaconSend now s) := by
  exact powerKept_next (by simp)
theorem execBeaconReceive_power (path src : Nat) (frame : List Byte) (s : State) : PowerKept s (execBeaconReceive path src frame s) := by
  exact powerKept_next (by simp)
theorem execInitTimeout_power (s : State) : PowerKept s (execInitTimeout s) := by
  exact powerKept_next (by simp)
theorem execFailureVerdict_power (s : State) : PowerKept s (execFailureVerdict s) := by
  exact powerKept_next (by simp)
theorem execClaimResend_power (s : State) : PowerKept s (execClaimResend s) := by
  exact powerKept_next (by simp)
theorem execHoldExpired_power (s : State) : PowerKept s (execHoldExpired s) := by
  exact powerKept_next (by simp)
theorem execGrant_power (path src : Nat) (frame : List Byte) (s : State) : PowerKept s (execGrant path src frame s) := by
  exact powerKept_next (by simp)
theorem execDeny_power (path src : Nat) (frame : List Byte) (s : State) : PowerKept s (execDeny path src frame s) := by
  exact powerKept_next (by simp)
theorem execFence_power (s : State) : PowerKept s (execFence s) := by
  exact powerKept_next (by simp)
theorem execHandover_power (s : State) : PowerKept s (execHandover s) := powerKept_run (fun _ _ => by simp)
theorem execHandoverRelease_power (s : State) : PowerKept s (execHandoverRelease s) := by
  exact powerKept_next (by simp)
theorem execHandoverAbort_power (s : State) : PowerKept s (execHandoverAbort s) := by
  exact powerKept_next (by simp)
theorem execFinalBeaconTimeout_power (s : State) : PowerKept s (execFinalBeaconTimeout s) := by
  exact powerKept_next (by simp)
theorem execDegradation_power (s : State) : PowerKept s (execDegradation s) := by
  exact powerKept_next (by simp)
theorem execTakebackHoldoffEnd_power (s : State) : PowerKept s (execTakebackHoldoffEnd s) := by
  exact powerKept_next (by simp)
theorem execKeeperSnap_power (s : State) : PowerKept s (execKeeperSnap s) := powerKept_run (fun _ _ => by simp)
theorem execKeeperBeacon_power (path src : Nat) (frame : List Byte) (s : State) : PowerKept s (execKeeperBeacon path src frame s) := by
  exact powerKept_next (by simp)
theorem execClaim_power (path src : Nat) (frame : List Byte) (s : State) : PowerKept s (execClaim path src frame s) := by
  exact powerKept_next (by simp)
theorem execKeeperClaimGrant_power (p : Nat) (s : State) : PowerKept s (execKeeperClaimGrant p s) := by
  exact powerKept_next (by simp)
theorem execKeeperClaimTimeout_power (p : Nat) (s : State) : PowerKept s (execKeeperClaimTimeout p s) := by
  exact powerKept_next (by simp)
theorem execRelease_power (path src : Nat) (frame : List Byte) (s : State) : PowerKept s (execRelease path src frame s) := by
  exact powerKept_next (by simp)
theorem execKeeperWarmUp_power (s : State) : PowerKept s (execKeeperWarmUp s) := by
  exact powerKept_next (by simp)
theorem execLinkChange_power (portB up verified : Bool) (s : State) : PowerKept s (execLinkChange portB up verified s) := by
  exact powerKept_next (by simp)
theorem execRingStateNotice_power (payload : List Byte) (s : State) : PowerKept s (execRingStateNotice payload s) := by
  exact powerKept_next (by simp)
theorem execBreakRecordExpiry_power (s : State) : PowerKept s (execBreakRecordExpiry s) := by
  exact powerKept_next (by simp)
theorem execSend_power (qp : Nat) (s : State) : PowerKept s (execSend qp s) := powerKept_run_if (fun _ _ => by simp)
theorem execPtpEventMessage_power (portB : Bool) (msg : List Byte) (agoNs resNs : Nat) (s : State) : PowerKept s (execPtpEventMessage portB msg agoNs resNs s) := by
  exact powerKept_next (by simp)
theorem execFollowUpTimeout_power (s : State) : PowerKept s (execFollowUpTimeout s) := by
  exact powerKept_next (by simp)
theorem execSelect_power (s : State) : PowerKept s (execSelect s) := powerKept_run (fun _ _ => by simp)
theorem execDomState_power (s : State) : PowerKept s (execDomState s) := powerKept_run (fun _ _ => by simp)
theorem execStep_power (s : State) : PowerKept s (execStep s) := powerKept_run (fun _ _ => by simp)
theorem execPtpTx_power (s : State) : PowerKept s (execPtpTx s) := powerKept_run (fun _ _ => by simp)
theorem execSyncLossTimeout_power (d : Nat) (s : State) : PowerKept s (execSyncLossTimeout d s) := by
  exact powerKept_next (by simp)
theorem execAnchorPublish_power (s : State) : PowerKept s (execAnchorPublish s) := by
  exact powerKept_next (by simp)
theorem execTransmitAttempt_power (n : Nat) (s : State) : PowerKept s (execTransmitAttempt n s) := by
  exact powerKept_next (by simp)
theorem execTxSet_power (qp : Nat) (s : State) : PowerKept s (execTxSet qp s) := powerKept_run_if (fun _ _ => by simp)
theorem execTxCancel_power (qp : Nat) (s : State) : PowerKept s (execTxCancel qp s) := powerKept_run_if (fun _ _ => by simp)
theorem execRecover_power (qp : Nat) (s : State) : PowerKept s (execRecover qp s) := powerKept_run_if (fun _ _ => by simp)
theorem execBusOffHoldExpiry_power (n : Nat) (s : State) : PowerKept s (execBusOffHoldExpiry n s) := by
  exact powerKept_next (by simp)
theorem execBusOffRecoveryEnd_power (n : Nat) (s : State) : PowerKept s (execBusOffRecoveryEnd n s) := by
  exact powerKept_next (by simp)
theorem execImgBegin_power (s : State) : PowerKept s (execImgBegin s) := powerKept_run (fun _ _ => by simp)
theorem execImgChunk_power (s : State) : PowerKept s (execImgChunk s) := powerKept_run (fun _ _ => by simp)
theorem execImgEnd_power (s : State) : PowerKept s (execImgEnd s) := powerKept_run (fun _ _ => by simp)
theorem execImageVerified_power (readErr : Bool) (s : State) : PowerKept s (execImageVerified readErr s) := by
  exact powerKept_next (by simp)
theorem execImgAbort_power (s : State) : PowerKept s (execImgAbort s) := powerKept_run (fun _ _ => by simp)
theorem execForward_power (s : State) : PowerKept s (execForward s) := powerKept_run (fun _ _ => by simp)
theorem execChunkRetryTimeout_power (chunk : Nat) (s : State) : PowerKept s (execChunkRetryTimeout chunk s) := by
  exact powerKept_next (by simp)
theorem execActivate_power (s : State) : PowerKept s (execActivate s) := powerKept_run (fun _ _ => by simp)
theorem execSwap_power (s : State) : PowerKept s (execSwap s) := powerKept_run (fun _ _ => by simp)
theorem execCommit_power (s : State) : PowerKept s (execCommit s) := powerKept_run (fun _ _ => by simp)
theorem execRollback_power (s : State) : PowerKept s (execRollback s) := powerKept_run (fun _ _ => by simp)
theorem execHoldWindowOpen_power (s : State) : PowerKept s (execHoldWindowOpen s) := by
  exact powerKept_next (by simp)
theorem execHoldWindowEnd_power (s : State) : PowerKept s (execHoldWindowEnd s) := by
  exact powerKept_next (by simp)
theorem execHoldWindowRevert_power (s : State) : PowerKept s (execHoldWindowRevert s) := by
  exact powerKept_next (by simp)
theorem execHandoverTimeout_power (s : State) : PowerKept s (execHandoverTimeout s) := by
  exact powerKept_next (by simp)
theorem execPeerQueryTimeout_power (s : State) : PowerKept s (execPeerQueryTimeout s) := by
  exact powerKept_next (by simp)
theorem execRecordEntry_power (src code level inst arg0 arg1 : Nat) (s : State) : PowerKept s (execRecordEntry src code level inst arg0 arg1 s) := by
  exact powerKept_next (by simp)
theorem execRecFlushTimer_power (s : State) : PowerKept s (execRecFlushTimer s) := by
  exact powerKept_next (by simp)
theorem execRecWriteDone_power (s : State) : PowerKept s (execRecWriteDone s) := by
  exact powerKept_next (by simp)
theorem execTimeMark_power (s : State) : PowerKept s (execTimeMark s) := by
  exact powerKept_next (by simp)
theorem execRead_power (bad : List Nat) (s : State) : PowerKept s (execRead bad s) := powerKept_run (fun _ _ => by simp)
theorem execLog_power (s : State) : PowerKept s (execLog s) := powerKept_run (fun _ _ => by simp)
theorem execSync_power (s : State) : PowerKept s (execSync s) := powerKept_run (fun _ _ => by simp)
theorem execClearNonce_power (s : State) : PowerKept s (execClearNonce s) := powerKept_run (fun _ _ => by simp)
theorem execClear_power (s : State) : PowerKept s (execClear s) := powerKept_run (fun _ _ => by simp)
theorem execClearNonceLapse_power (s : State) : PowerKept s (execClearNonceLapse s) := by
  exact powerKept_next (by simp)
theorem execGetCert_power (s : State) : PowerKept s (execGetCert s) := powerKept_run (fun _ _ => by simp)
theorem execAttest_power (s : State) : PowerKept s (execAttest s) := powerKept_run (fun _ _ => by simp)
theorem execNonce_power (s : State) : PowerKept s (execNonce s) := powerKept_run (fun _ _ => by simp)
theorem execKeyRecord_power (s : State) : PowerKept s (execKeyRecord s) := powerKept_run (fun _ _ => by simp)
theorem execKeyList_power (s : State) : PowerKept s (execKeyList s) := powerKept_run (fun _ _ => by simp)
theorem execSessOpen_power (s : State) : PowerKept s (execSessOpen s) := powerKept_run (fun _ _ => by simp)
theorem execSessIn_power (s : State) : PowerKept s (execSessIn s) := powerKept_run_if (fun _ _ => by simp)
theorem execSessOut_power (s : State) : PowerKept s (execSessOut s) := powerKept_run_if (fun _ _ => by simp)
theorem execClose_power (s : State) : PowerKept s (execClose s) := powerKept_run (fun _ _ => by simp)
theorem execKeyNonceLapse_power (s : State) : PowerKept s (execKeyNonceLapse s) := by
  exact powerKept_next (by simp)
theorem execSessionIdleTimeout_power (n : Nat) (s : State) : PowerKept s (execSessionIdleTimeout n s) := by
  exact powerKept_next (by simp)
theorem execRngFail_power (s : State) : PowerKept s (execRngFail s) := by
  exact powerKept_next (by simp)
theorem execThresholdEvent_power (s : State) : PowerKept s (execThresholdEvent s) := by
  exact powerKept_next (by simp)
theorem execCounterWrap_power (s : State) : PowerKept s (execCounterWrap s) := by
  exact powerKept_next (by simp)
theorem execPeriodicSnapshot_power (s : State) : PowerKept s (execPeriodicSnapshot s) := by
  exact powerKept_next (by simp)
theorem execSnap_power (s : State) : PowerKept s (execSnap s) := powerKept_run (fun _ _ => by simp)
theorem execPepperForcedDisarm_power (s : State) : PowerKept s (execPepperForcedDisarm s) := by
  exact powerKept_next (by simp)
theorem execPepperDurExpiry_power (k : Nat) (s : State) : PowerKept s (execPepperDurExpiry k s) := by
  exact powerKept_next (by simp)
theorem execDomainNotOk_power (dom : Nat) (s : State) : PowerKept s (execDomainNotOk dom s) := by
  exact powerKept_next (by simp)
theorem execCrossingRecovery_power (dom n : Nat) (s : State) : PowerKept s (execCrossingRecovery dom n s) := by
  exact powerKept_next (by simp)
theorem execPartnerBeaconTimeout_power (j5 ring : Bool) (s : State) : PowerKept s (execPartnerBeaconTimeout j5 ring s) := by
  exact powerKept_next (by simp)
theorem execKeeperAckTimeout_power (s : State) : PowerKept s (execKeeperAckTimeout s) := by
  exact powerKept_next (by simp)
theorem execPtpGeneralMessage_power (portB : Bool) (msg : List Byte) (s : State) : PowerKept s (execPtpGeneralMessage portB msg s) := by
  exact powerKept_next (by simp)
theorem execCanReceiveError_power (n : Nat) (r : CanRxErr) (s : State) : PowerKept s (execCanReceiveError n r s) := by
  unfold execCanReceiveError
  (repeat' split) <;> exact powerKept_next (by simp)
theorem execBusIntegrationEnd_power (n : Nat) (s : State) : PowerKept s (execBusIntegrationEnd n s) := by
  exact powerKept_next (by simp)
theorem execHallFault_power (hallSig hallRef : Int) (s : State) : PowerKept s (execHallFault hallSig hallRef s) := by
  unfold execHallFault
  dsimp only
  (repeat' split) <;> exact powerKept_next (by simp)
theorem execShuntCommonModeFault_power (s : State) : PowerKept s (execShuntCommonModeFault s) := by
  exact powerKept_next (by simp)
theorem execVcoilReturn_power (now : SupplyIn) (s : State) : PowerKept s (execVcoilReturn now s) := by
  exact powerKept_next (by simp)
theorem execTileStackReset_power (k : Nat) (s : State) : PowerKept s (execTileStackReset k s) := by
  exact powerKept_next (by simp)
theorem execInsulationSlotStart_power (s : State) : PowerKept s (execInsulationSlotStart s) := by
  unfold execInsulationSlotStart
  dsimp only
  (repeat' split) <;> exact powerKept_next (by simp)
theorem execCarrierValley_power (leg : Nat) (ready : Bool) (s : State) : PowerKept s (execCarrierValley leg ready s) := by
  exact powerKept_next (by simp)
theorem execClusterReset_power (s : State) : PowerKept s (execClusterReset s) := by
  have hrun : (runEntry s 0 0x42 (fun _ s => okR s 0)).power = s.power := runEntry_power s 0 0x42 _ (fun _ _ => by simp)
  unfold execClusterReset
  refine powerKept_next ?_
  split
  · dsimp only
    split
    · exact (appReset_power _ _ _).trans hrun
    · exact hrun
  · exact hrun
theorem execRelayRx_power (s : State) : PowerKept s (execRelayRx s) :=
  powerKept_next ((relayServe_power _ _).trans (runEntry_power s 31 0x42 stlRelayRx (fun _ _ => by simp)))
theorem execReady_power (s : State) : PowerKept s (execReady s) := by
  unfold execReady
  split
  · exact powerKept_run (fun _ _ => by simp)
  · exact powerKept_next (by simp)
theorem execCanFrameReceive_power (n : Nat) (fr : CanFrame) (s : State) : PowerKept s (execCanFrameReceive n fr s) :=
  powerKept_next (canReceive_power s n fr (canStl n) (fun _ _ _ => canStl_power _ _ _ _))
theorem execAttemptEnd_power (n : Nat) (r : CanEnd) (tdcv : Option Nat) (s : State) : PowerKept s (execAttemptEnd n r tdcv s) :=
  powerKept_next (canAttemptEnd_power s n r tdcv (canStl n) (fun _ _ _ => canStl_power _ _ _ _))
theorem execSqTail_power (lvl : Level) (qp value : Nat) (writes : List (Nat × List Byte)) (s : State) :
    PowerKept s (execSqTail lvl qp value writes s) := by
  unfold execSqTail
  split
  case h_1 s1 hs1 => exact powerKept_next ((sqTailWrite_power s1 lvl qp value).trans (coreStores_power writes s s1 hs1))
  case h_2 => exact trivial

/-- Of the frames of the ring only INFO restarts the unit (R439). -/
theorem updReceive_power (s : State) (src : Nat) (p : List Byte) (hop : fieldAt p 0 1 ≠ opInfo) : (updReceive s src p).power = s.power := by
  unfold updReceive
  simp only [hop, if_false]
  (repeat' split) <;> simp
theorem updRow_power (s : State) (op src : Nat) (p : List Byte) (hop : op ≠ opInfo) : PowerKept s (updRow s op src p) := by
  unfold updRow
  split
  case isTrue h => exact powerKept_next (updReceive_power s src p (h ▸ hop))
  case isFalse => exact powerKept_next rfl
theorem execOffer_power (src : Nat) (frame : List Byte) (s : State) : PowerKept s (execOffer src frame s) :=
  updRow_power s _ src frame (by decide)
theorem execAccept_power (src : Nat) (frame : List Byte) (s : State) : PowerKept s (execAccept src frame s) :=
  updRow_power s _ src frame (by decide)
theorem execRefuse_power (src : Nat) (frame : List Byte) (s : State) : PowerKept s (execRefuse src frame s) :=
  updRow_power s _ src frame (by decide)
theorem execData_power (src : Nat) (frame : List Byte) (s : State) : PowerKept s (execData src frame s) :=
  updRow_power s _ src frame (by decide)
theorem execChunkAck_power (src : Nat) (frame : List Byte) (s : State) : PowerKept s (execChunkAck src frame s) :=
  updRow_power s _ src frame (by decide)
theorem execChunkNak_power (src : Nat) (frame : List Byte) (s : State) : PowerKept s (execChunkNak src frame s) :=
  updRow_power s _ src frame (by decide)
theorem execDone_power (src : Nat) (frame : List Byte) (s : State) : PowerKept s (execDone src frame s) :=
  updRow_power s _ src frame (by decide)
theorem execCancel_power (src : Nat) (frame : List Byte) (s : State) : PowerKept s (execCancel src frame s) :=
  updRow_power s _ src frame (by decide)
theorem execQuery_power (src : Nat) (frame : List Byte) (s : State) : PowerKept s (execQuery src frame s) :=
  updRow_power s _ src frame (by decide)

/-- A row outside `powerRow` keeps the power state. -/
theorem exec_powerKept (c : Instr) (s : State) (h : powerRow c = false) : PowerKept s (exec c s) := by
  cases c with
  | safeReady => exact execSafeReady_power s
  | lowWarning now => exact execLowWarning_power now s
  | railHigh now => exact execRailHigh_power now s
  | coilUv now => exact execCoilUv_power now s
  | clusterReset => exact execClusterReset_power s
  | lockstepMismatch => exact execLockstepMismatch_power s
  | spWatchdogExpiry => exact execSpWatchdogExpiry_power s
  | safetyReset row => exact execSafetyReset_power row s
  | clusterWatchdogExpiry c => exact execClusterWatchdogExpiry_power c s
  | safeIslandLimit now => exact execSafeIslandLimit_power now s
  | peakDrawLimit now => exact execPeakDrawLimit_power now s
  | peakDrawRelease now spanMs mwMs => exact execPeakDrawRelease_power now spanMs mwMs s
  | sqTail lvl qp value writes => exact execSqTail_power lvl qp value writes s
  | cqHead lvl qp value => exact execCqHead_power lvl qp value s
  | sqFetch qp ue => exact execSqFetch_power qp ue s
  | timedStart qp => exact execTimedStart_power qp s
  | coalTimeout qp => exact execCoalTimeout_power qp s
  | irqpendClear lvl hi value => exact execIrqpendClear_power lvl hi value s
  | qpEnable lvl qp => exact execQpEnable_power lvl qp s
  | qpDisable lvl qp => exact execQpDisable_power lvl qp s
  | qpIdle qp => exact execQpIdle_power qp s
  | nop qp => exact execNop_power qp s
  | getStatus qp => exact execGetStatus_power qp s
  | setConfig qp => exact execSetConfig_power qp s
  | getConfig qp => exact execGetConfig_power qp s
  | enable qp => exact execEnable_power qp s
  | disable qp => exact execDisable_power qp s
  | postBuffer qp => exact execPostBuffer_power qp s
  | mark qp => exact execMark_power qp s
  | flush qp => exact execFlush_power qp s
  | lockSet lvl value => exact execLockSet_power lvl value s
  | registerWrite lvl addr width value => exact execRegisterWrite_power lvl addr width value s
  | loRead lvl addr width now => exact execLoRead_power lvl addr width now s
  | loWrite lvl addr value => exact execLoWrite_power lvl addr value s
  | hiWrite lvl addr value => exact execHiWrite_power lvl addr value s
  | incWrite lvl dom value => exact execIncWrite_power lvl dom value s
  | preset lvl ctr value => exact execPreset_power lvl ctr value s
  | sampleInstant rx hv transit => exact execSampleInstant_power rx hv transit s
  | arm k snum lead fromX3 chk => exact execArm_power k snum lead fromX3 chk s
  | strobe k si => exact execStrobe_power k si s
  | sweepRd k sinceNs fate => exact execSweepRd_power k sinceNs fate s
  | holdRd k sinceNs fate => exact execHoldRd_power k sinceNs fate s
  | tregRd k reg chk => exact execTregRd_power k reg chk s
  | tregWr k ws chk => exact execTregWr_power k ws chk s
  | enum portB => exact execEnum_power portB s
  | dlyMark k m chk => exact execDlyMark_power k m chk s
  | dlySet k x2 x3 align chk => exact execDlySet_power k x2 x3 align chk s
  | probeFrame k portB chk => exact execProbeFrame_power k portB chk s
  | safeWr k ov uv filt srcSp chk => exact execSafeWr_power k ov uv filt srcSp chk s
  | safeRd k chk => exact execSafeRd_power k chk s
  | rearm k srcSp chk => exact execRearm_power k srcSp chk s
  | armSafe k srcSp chk => exact execArmSafe_power k srcSp chk s
  | sleep k chk => exact execSleep_power k chk s
  | tileSilenceTimeout k => exact execTileSilenceTimeout_power k s
  | tileWake k fresh stack => exact execTileWake_power k fresh stack s
  | tileClockLock k onX3 ok => exact execTileClockLock_power k onX3 ok s
  | stackLow k => exact execStackLow_power k s
  | stackRestored k => exact execStackRestored_power k s
  | comparatorTrip k cell ov v => exact execComparatorTrip_power k cell ov v s
  | comparatorSelfTest k tripUs standInUs => exact execComparatorSelfTest_power k tripUs standInUs s
  | openWireTest => exact execOpenWireTest_power s
  | syncLoss node x3 codes => exact execSyncLoss_power node x3 codes s
  | loopModeExit k x3 => exact execLoopModeExit_power k x3 s
  | linkDown portB pos lostX3 => exact execLinkDown_power portB pos lostX3 s
  | readIncomplete sinceNs => exact execReadIncomplete_power sinceNs s
  | sweepDeadline => exact execSweepDeadline_power s
  | sweepComplete => exact execSweepComplete_power s
  | probeReturn => exact execProbeReturn_power s
  | ringClose tAB tBA marks => exact execRingClose_power tAB tBA marks s
  | chainRound => exact execChainRound_power s
  | delayRemeasure tAB tBA marks => exact execDelayRemeasure_power tAB tBA marks s
  | tileRd => exact execTileRd_power s
  | probe => exact execProbe_power s
  | dlyMeasure tAB tBA marks => exact execDlyMeasure_power tAB tBA marks s
  | tileSnap => exact execTileSnap_power s
  | tableCommit => exact execTableCommit_power s
  | revert => exact execRevert_power s
  | scheduleBoundary => exact execScheduleBoundary_power s
  | quarterLoad qp => exact execQuarterLoad_power qp s
  | carrierStop => exact execCarrierStop_power s
  | carrierRestart => exact execCarrierRestart_power s
  | carrierPeriodChange => exact execCarrierPeriodChange_power s
  | hvmReport means iMinNv iMaxNv => exact execHvmReport_power means iMinNv iMaxNv s
  | insulationPhaseEnd vc u100 moved uMin => exact execInsulationPhaseEnd_power vc u100 moved uMin s
  | insulationCycleEnd => exact execInsulationCycleEnd_power s
  | shuntOverRange overN => exact execShuntOverRange_power overN s
  | setTimers => exact execSetTimers_power s
  | bleedStop => exact execBleedStop_power s
  | balSnap => exact execBalSnap_power s
  | tapCal iMa => exact execTapCal_power iMa s
  | tapCalDone iMax vMin vMax steps tcals => exact execTapCalDone_power iMax vMin vMax steps tcals s
  | bleedTimerExpiry k cell => exact execBleedTimerExpiry_power k cell s
  | bleedPowerTick k => exact execBleedPowerTick_power k s
  | bleedSilence k => exact execBleedSilence_power k s
  | pauseFetsOff k => exact execPauseFetsOff_power k s
  | pauseFetsOn k => exact execPauseFetsOn_power k s
  | balRound elapsedS => exact execBalRound_power elapsedS s
  | estCycle => exact execEstCycle_power s
  | ageWaitExpiry => exact execAgeWaitExpiry_power s
  | noEisTimeout c => exact execNoEisTimeout_power c s
  | staleTimeout c => exact execStaleTimeout_power c s
  | sopEvaluation => exact execSopEvaluation_power s
  | snapshotTimer => exact execSnapshotTimer_power s
  | chemCommit => exact execChemCommit_power s
  | cellReset => exact execCellReset_power s
  | snapshot => exact execSnapshot_power s
  | segmentEnd => exact execSegmentEnd_power s
  | integrationEnd => exact execIntegrationEnd_power s
  | holdTimeout => exact execHoldTimeout_power s
  | planCommit => exact execPlanCommit_power s
  | eisHistoryTimer => exact execEisHistoryTimer_power s
  | housekeepingRound tin => exact execHousekeepingRound_power tin s
  | fastRound tin => exact execFastRound_power tin s
  | heaterDwellEnd => exact execHeaterDwellEnd_power s
  | actFault a => exact execActFault_power a s
  | lc0Cycle x => exact execLc0Cycle_power x s
  | fastCycle x => exact execFastCycle_power x s
  | slowCycle x dtNs => exact execSlowCycle_power x dtNs s
  | dwellEnd n => exact execDwellEnd_power n s
  | supervisionCheck x iHall => exact execSupervisionCheck_power x iHall s
  | stoppingTimeout n => exact execStoppingTimeout_power n s
  | psFault low => exact execPsFault_power low s
  | stop qp => exact execStop_power qp s
  | setRef qp => exact execSetRef_power qp s
  | setDispatch qp => exact execSetDispatch_power qp s
  | dispatchExpiry => exact execDispatchExpiry_power s
  | powerRequest sender req => exact execPowerRequest_power sender req s
  | fogAssert loopOpen => exact execFogAssert_power loopOpen s
  | fogDeassert => exact execFogDeassert_power s
  | spEvaluation => exact execSpEvaluation_power s
  | setCrcCheck flips => exact execSetCrcCheck_power flips s
  | siChannelChange n chB on => exact execSiChannelChange_power n chB on s
  | discrepancyTimeout n => exact execDiscrepancyTimeout_power n s
  | inputTestPulse tpb reads => exact execInputTestPulse_power tpb reads s
  | outputSwitchOn n => exact execOutputSwitchOn_power n s
  | highSideOn n => exact execHighSideOn_power n s
  | outputSwitchOff n => exact execOutputSwitchOff_power n s
  | offStateCheck pins coilMv => exact execOffStateCheck_power pins coilMv s
  | overcurr n => exact execOvercurr_power n s
  | testPulseSlot j young => exact execTestPulseSlot_power j young s
  | testPulseEvaluate ma pinMv coilMv => exact execTestPulseEvaluate_power ma pinMv coilMv s
  | testPulseEnd conducts late => exact execTestPulseEnd_power conducts late s
  | testOverdue n => exact execTestOverdue_power n s
  | rstInRise => exact execRstInRise_power s
  | rstInFall ticks => exact execRstInFall_power ticks s
  | resetHighDiscard stl => exact execResetHighDiscard_power stl s
  | rearmComplete => exact execRearmComplete_power s
  | rearmTimeout => exact execRearmTimeout_power s
  | prechargeStart => exact execPrechargeStart_power s
  | prechargeSettled => exact execPrechargeSettled_power s
  | prechargeTimeout => exact execPrechargeTimeout_power s
  | prechargeOverlapEnd => exact execPrechargeOverlapEnd_power s
  | startRequestOff => exact execStartRequestOff_power s
  | load sess ofs data => exact execLoad_power sess ofs data s
  | loadEnd sess => exact execLoadEnd_power sess s
  | confirm sess value oper => exact execConfirm_power sess value oper s
  | repair sess confirmed oper => exact execRepair_power sess confirmed oper s
  | cyclicSend n => exact execCyclicSend_power n s
  | cyclic medium src pdu => exact execCyclic_power medium src pdu s
  | resetRise medium src pdu => exact execResetRise_power medium src pdu s
  | resetFall medium src pdu => exact execResetFall_power medium src pdu s
  | sessionOpen medium src pdu => exact execSessionOpen_power medium src pdu s
  | lossVerdict n => exact execLossVerdict_power n s
  | setData => exact execSetData_power s
  | resetCmd => exact execResetCmd_power s
  | relayRx => exact execRelayRx_power s
  | relayTx => exact execRelayTx_power s
  | sessRead => exact execSessRead_power s
  | beaconSend now => exact execBeaconSend_power now s
  | beaconReceive path src frame => exact execBeaconReceive_power path src frame s
  | initTimeout => exact execInitTimeout_power s
  | failureVerdict => exact execFailureVerdict_power s
  | claimResend => exact execClaimResend_power s
  | holdExpired => exact execHoldExpired_power s
  | grant path src frame => exact execGrant_power path src frame s
  | deny path src frame => exact execDeny_power path src frame s
  | fence => exact execFence_power s
  | handover => exact execHandover_power s
  | handoverRelease => exact execHandoverRelease_power s
  | handoverAbort => exact execHandoverAbort_power s
  | finalBeaconTimeout => exact execFinalBeaconTimeout_power s
  | degradation => exact execDegradation_power s
  | takebackHoldoffEnd => exact execTakebackHoldoffEnd_power s
  | keeperSnap => exact execKeeperSnap_power s
  | keeperBeacon path src frame => exact execKeeperBeacon_power path src frame s
  | claim path src frame => exact execClaim_power path src frame s
  | keeperClaimGrant p => exact execKeeperClaimGrant_power p s
  | keeperClaimTimeout p => exact execKeeperClaimTimeout_power p s
  | release path src frame => exact execRelease_power path src frame s
  | keeperWarmUp => exact execKeeperWarmUp_power s
  | linkChange portB up verified => exact execLinkChange_power portB up verified s
  | ringStateNotice payload => exact execRingStateNotice_power payload s
  | breakRecordExpiry => exact execBreakRecordExpiry_power s
  | send qp => exact execSend_power qp s
  | ptpEventMessage portB msg agoNs resNs => exact execPtpEventMessage_power portB msg agoNs resNs s
  | followUpTimeout => exact execFollowUpTimeout_power s
  | select => exact execSelect_power s
  | domState => exact execDomState_power s
  | step => exact execStep_power s
  | ptpTx => exact execPtpTx_power s
  | syncLossTimeout d => exact execSyncLossTimeout_power d s
  | anchorPublish => exact execAnchorPublish_power s
  | canFrameReceive n fr => exact execCanFrameReceive_power n fr s
  | transmitAttempt n => exact execTransmitAttempt_power n s
  | attemptEnd n r tdcv => exact execAttemptEnd_power n r tdcv s
  | txSet qp => exact execTxSet_power qp s
  | txCancel qp => exact execTxCancel_power qp s
  | recover qp => exact execRecover_power qp s
  | busOffHoldExpiry n => exact execBusOffHoldExpiry_power n s
  | busOffRecoveryEnd n => exact execBusOffRecoveryEnd_power n s
  | imgBegin => exact execImgBegin_power s
  | imgChunk => exact execImgChunk_power s
  | imgEnd => exact execImgEnd_power s
  | imageVerified readErr => exact execImageVerified_power readErr s
  | imgAbort => exact execImgAbort_power s
  | forward => exact execForward_power s
  | offer src frame => exact execOffer_power src frame s
  | accept src frame => exact execAccept_power src frame s
  | refuse src frame => exact execRefuse_power src frame s
  | data src frame => exact execData_power src frame s
  | chunkAck src frame => exact execChunkAck_power src frame s
  | chunkNak src frame => exact execChunkNak_power src frame s
  | chunkRetryTimeout chunk => exact execChunkRetryTimeout_power chunk s
  | done src frame => exact execDone_power src frame s
  | cancel src frame => exact execCancel_power src frame s
  | query src frame => exact execQuery_power src frame s
  | activate => exact execActivate_power s
  | ready => exact execReady_power s
  | swap => exact execSwap_power s
  | commit => exact execCommit_power s
  | rollback => exact execRollback_power s
  | holdWindowOpen => exact execHoldWindowOpen_power s
  | holdWindowEnd => exact execHoldWindowEnd_power s
  | holdWindowRevert => exact execHoldWindowRevert_power s
  | handoverTimeout => exact execHandoverTimeout_power s
  | peerQueryTimeout => exact execPeerQueryTimeout_power s
  | recordEntry src code level inst arg0 arg1 => exact execRecordEntry_power src code level inst arg0 arg1 s
  | recFlushTimer => exact execRecFlushTimer_power s
  | recWriteDone => exact execRecWriteDone_power s
  | timeMark => exact execTimeMark_power s
  | read bad => exact execRead_power bad s
  | log => exact execLog_power s
  | sync => exact execSync_power s
  | clearNonce => exact execClearNonce_power s
  | clear => exact execClear_power s
  | clearNonceLapse => exact execClearNonceLapse_power s
  | getCert => exact execGetCert_power s
  | attest => exact execAttest_power s
  | nonce => exact execNonce_power s
  | keyRecord => exact execKeyRecord_power s
  | keyList => exact execKeyList_power s
  | sessOpen => exact execSessOpen_power s
  | sessIn => exact execSessIn_power s
  | sessOut => exact execSessOut_power s
  | close => exact execClose_power s
  | keyNonceLapse => exact execKeyNonceLapse_power s
  | sessionIdleTimeout n => exact execSessionIdleTimeout_power n s
  | rngFail => exact execRngFail_power s
  | thresholdEvent => exact execThresholdEvent_power s
  | counterWrap => exact execCounterWrap_power s
  | periodicSnapshot => exact execPeriodicSnapshot_power s
  | snap => exact execSnap_power s
  | pepperForcedDisarm => exact execPepperForcedDisarm_power s
  | pepperDurExpiry k => exact execPepperDurExpiry_power k s
  | domainNotOk dom => exact execDomainNotOk_power dom s
  | crossingRecovery dom n => exact execCrossingRecovery_power dom n s
  | partnerBeaconTimeout j5 ring => exact execPartnerBeaconTimeout_power j5 ring s
  | keeperAckTimeout => exact execKeeperAckTimeout_power s
  | ptpGeneralMessage portB msg => exact execPtpGeneralMessage_power portB msg s
  | canReceiveError n r => exact execCanReceiveError_power n r s
  | busIntegrationEnd n => exact execBusIntegrationEnd_power n s
  | hallFault hallSig hallRef => exact execHallFault_power hallSig hallRef s
  | shuntCommonModeFault => exact execShuntCommonModeFault_power s
  | vcoilReturn now => exact execVcoilReturn_power now s
  | tileStackReset k => exact execTileStackReset_power k s
  | insulationSlotStart => exact execInsulationSlotStart_power s
  | carrierValley leg ready => exact execCarrierValley_power leg ready s
  | _ => exact absurd h (by simp [powerRow])

end Sys2Proof.Laws
end

section
/-! SUPPORT. What leaves host memory alone: the operations that the quiet rows run. -/

namespace Sys2Proof.Laws

open Sys2Proof Sys2Proof.Machine

@[simp ↓] theorem ite_sameMem {c : Prop} [Decidable c] (a b : State) : (if c then a else b).mem = if c then a.mem else b.mem := by
  split <;> rfl
@[simp ↓] theorem foldl_sameMem {α : Type} (f : State → α → State) (hf : ∀ s x, (f s x).mem = s.mem) (l : List α) (s : State) :
    (l.foldl f s).mem = s.mem := by
  induction l generalizing s with
  | nil => rfl
  | cons x t ih => simp [ih, hf]
theorem foldl_snd_sameMem {α β : Type} (f : β × State → α → β × State) (hf : ∀ r x, (f r x).2.mem = r.2.mem) (l : List α) (r : β × State) :
    (l.foldl f r).2.mem = r.2.mem := by
  induction l generalizing r with
  | nil => rfl
  | cons x t ih => simp [ih, hf]
/-! Restated as rules whose use leaves a rewriting step in the proof term: by definition alone, a chain of register writes is unfolded whole. -/
theorem wr_sameMem (s : State) (f : Fld) (v : Nat) : (wr s f v).mem = s.mem := (wr_mem_eq s f v).trans rfl
theorem wrS_sameMem (s : State) (f : Fld) (v : Int) : (wrS s f v).mem = s.mem := (wrS_mem_eq s f v).trans rfl
theorem put_sameMem (s : State) (f : Fld) (b : Bool) : (put s f b).mem = s.mem := (put_mem_eq s f b).trans rfl
theorem bump_sameMem (s : State) (f : Fld) : (bump s f).mem = s.mem := (bump_mem_eq s f).trans rfl
@[simp ↓] theorem bumpSat_sameMem (s : State) (f : Fld) : (bumpSat s f).mem = s.mem := by
  simp [bumpSat]
@[simp ↓] theorem fresh_sameMem (s : State) : (fresh s).2.mem = s.mem := by
  simp [fresh]
@[simp ↓] theorem supplyTake_sameMem (s : State) (e : SupplyIn) : (supplyTake s e).mem = s.mem := by
  simp [supplyTake]
@[simp ↓] theorem pepperSlot_sameMem (target inst k : Nat) (r : Bool × State) : (pepperSlot target inst k r).2.mem = r.2.mem := by
  simp [pepperSlot]
@[simp ↓] theorem pepperAct_sameMem (s : State) (target inst : Nat) : (pepperAct s target inst).2.mem = s.mem := by
  unfold pepperAct; rw [foldl_snd_sameMem]; intro r x; simp
@[simp ↓] theorem recShow_sameMem (s : State) : (recShow s).mem = s.mem := by
  simp [recShow]
@[simp ↓] theorem recOffer1_sameMem (s : State) (src : Nat) (code : Nat) (level : Nat) (inst : Nat) (arg0 : Nat) (arg1 : Nat) : (recOffer1 s src code level inst arg0 arg1).2.mem = s.mem := by
  unfold recOffer1; (repeat' split) <;> simp [*]
@[simp ↓] theorem recOwnErr_sameMem (s : State) (f : Fld) : (recOwnErr s f).mem = s.mem := by
  simp [recOwnErr]
@[simp ↓] theorem recAfter_sameMem (s0 : State) (s : State) : (recAfter s0 s).mem = s.mem := by
  simp [recAfter]
@[simp ↓] theorem dbReject_sameMem (s : State) (qp : Nat) (value : Nat) (head : Bool) (foreign : Bool) : (dbReject s qp value head foreign).mem = s.mem := by
  simp [dbReject]
@[simp ↓] theorem cqHeadWrite_sameMem (s : State) (lvl : Level) (qp : Nat) (v : Nat) : (cqHeadWrite s lvl qp v).mem = s.mem := by
  simp [cqHeadWrite]
@[simp ↓] theorem qpEnable_sameMem (s : State) (qp : Nat) : (qpEnable s qp).mem = s.mem := by
  simp [qpEnable]
@[simp ↓] theorem qpIdleCheck_sameMem (s : State) (qp : Nat) : (qpIdleCheck s qp).mem = s.mem := by
  simp [qpIdleCheck]
@[simp ↓] theorem irqPendClear_sameMem (s : State) (hi : Bool) (v : Nat) : (irqPendClear s hi v).mem = s.mem := by
  unfold irqPendClear
  exact (foldl_sameMem _ (fun _ _ => irqCheck_memeq _ _) _ _).trans (wr_mem_eq _ _ _)
@[simp ↓] theorem pepperDisarm_sameMem (s : State) (k : Nat) (forced : Bool) : (pepperDisarm s k forced).mem = s.mem := by
  simp [pepperDisarm]
@[simp ↓] theorem pepperFollow_sameMem (s : State) : (pepperFollow s).mem = s.mem := by
  simp [pepperFollow]
@[simp ↓] theorem recDropNonce_sameMem (s : State) : (recDropNonce s).mem = s.mem := by
  simp [recDropNonce]
@[simp ↓] theorem tileMod_sameMem (s : State) (k : Nat) (f : Tile → Tile) : (tileMod s k f).mem = s.mem := by
  simp [tileMod]
@[simp ↓] theorem tileStrobe_sameMem (s : State) (k : Nat) (si : StrobeIn) : (tileStrobe s k si).mem = s.mem := by
  unfold tileStrobe; dsimp only; (repeat' split) <;> simp [*]
@[simp ↓] theorem hdrErr_sameMem (s : State) (k : Nat) (chk : FrameChk) : (hdrErr s k chk).mem = s.mem := by
  unfold hdrErr; split <;> simp [*]
@[simp ↓] theorem tileFrame_sameMem (s : State) (k : Nat) (chk : FrameChk) (payload : Bool) (act : Tile → Tile) : (tileFrame s k chk payload act).mem = s.mem := by
  simp [tileFrame]
@[simp ↓] theorem launch_sameMem (s : State) (portB : Bool) (ty : Nat) (count : Nat) (snum : Nat) (arg : Nat) (payload : List Byte) : (launch s portB ty count snum arg payload).mem = s.mem := by
  simp [launch]
@[simp ↓] theorem launchRead_sameMem (s : State) (portB : Bool) (ty : Nat) (snum : Nat) (mask : Nat) : (launchRead s portB ty snum mask).mem = s.mem := by
  simp [launchRead]
@[simp ↓] theorem dlyWrite_sameMem (s : State) : (dlyWrite s).mem = s.mem := by
  simp [dlyWrite]
@[simp ↓] theorem dlyForce_sameMem (s : State) (ds : List (Nat × Nat × Nat)) : (dlyForce s ds).mem = s.mem := by
  unfold dlyForce
  refine (dlyWrite_sameMem _).trans ((wr_sameMem _ _ _).trans (foldl_sameMem _ (fun s d => ?_) _ _))
  simp only [wr_sameMem]
@[simp ↓] theorem dlyPartner_sameMem (s : State) : (dlyPartner s).mem = s.mem := by
  simp [dlyPartner]
@[simp ↓] theorem ringOpen_sameMem (s : State) : (ringOpen s).mem = s.mem := by
  simp [ringOpen]
@[simp ↓] theorem slotReturn_sameMem (s : State) (pos : Nat) (bs : List Byte) (hold : Bool) : (slotReturn s pos bs hold).mem = s.mem := by
  simp [slotReturn]
@[simp ↓] theorem readOff_sameMem (s : State) (p : Nat) : (readOff s p).mem = s.mem := by
  simp [readOff]
@[simp ↓] theorem portCode_sameMem (s : State) (portB : Bool) (n : Nat) : (portCode s portB n).mem = s.mem := by
  simp [portCode]
@[simp ↓] theorem readSlot_sameMem (s : State) (k : Nat) (sinceNs : Nat) (fate : SlotFate) (hold : Bool) : (readSlot s k sinceNs fate hold).mem = s.mem := by
  unfold readSlot; (repeat' split) <;> simp [*]
@[simp ↓] theorem holdLaunch_sameMem (s : State) (portB : Bool) (mask : Nat) : (holdLaunch s portB mask).mem = s.mem := by
  unfold holdLaunch; split <;> simp [*]
@[simp ↓] theorem hopCut_sameMem (s : State) (h : Nat) : (hopCut s h).mem = s.mem := by
  simp [hopCut]
@[simp ↓] theorem tileLoses_sameMem (s : State) (k : Nat) (x3 : Bool) (codes : Nat) : (tileLoses s k x3 codes).mem = s.mem := by
  simp [tileLoses]
@[simp ↓] theorem hvmShow_sameMem (s : State) : (hvmShow s).mem = s.mem := by
  simp [hvmShow]
@[simp ↓] theorem hallFollow_sameMem (s : State) (sig : Int) (ref : Int) : (hallFollow s sig ref).mem = s.mem := by
  simp [hallFollow]
@[simp ↓] theorem shuntFault_sameMem (s : State) (cm : Bool) : (shuntFault s cm).mem = s.mem := by
  simp [shuntFault]
@[simp ↓] theorem overCount_sameMem (s : State) (n : Nat) (now : Bool) : (overCount s n now).mem = s.mem := by
  simp [overCount]
@[simp ↓] theorem isoPhase_sameMem (s : State) (vc : Int) (u100 : Int) (moved : Int) (uMin : Int) : (isoPhase s vc u100 moved uMin).mem = s.mem := by
  unfold isoPhase; split <;> simp [*]
@[simp ↓] theorem balWrite_sameMem (s : State) (p : Nat) (new : List Nat) : (balWrite s p new).mem = s.mem := by
  unfold balWrite; split <;> simp [*]
@[simp ↓] theorem balRoundTile_sameMem (elapsed : Nat) (s : State) (p : Nat) : (balRoundTile elapsed s p).mem = s.mem := by
  unfold balRoundTile; split <;> simp [*]
@[simp ↓] theorem balRound_sameMem (s : State) (elapsed : Nat) : (balRound s elapsed).mem = s.mem := by
  simp [balRound]
@[simp ↓] theorem eisSaveOfs_sameMem (s : State) : (eisSaveOfs s).mem = s.mem := by
  simp [eisSaveOfs]
@[simp ↓] theorem estSnapshot_sameMem (s0 : State) (kind : Nat) : (estSnapshot s0 kind).2.mem = s0.mem := by
  simp [estSnapshot]
@[simp ↓] theorem estCounts_sameMem (s : State) (decided : Bool) : (estCounts s decided).mem = s.mem := by
  simp [estCounts]
@[simp ↓] theorem estFlag_sameMem (s : State) (c : Nat) (f : EstCell → EstCell) : (estFlag s c f).mem = s.mem := by
  simp [estFlag]
@[simp ↓] theorem eisShow_sameMem (s : State) : (eisShow s).mem = s.mem := by
  simp [eisShow]
@[simp ↓] theorem eisSegEnd_sameMem (s : State) : (eisSegEnd s).mem = s.mem := by
  unfold eisSegEnd; split <;> simp [*]
@[simp ↓] theorem heaterFollow_sameMem (s : State) : (heaterFollow s).mem = s.mem := by
  simp [heaterFollow]
@[simp ↓] theorem actShow_sameMem (s : State) : (actShow s).mem = s.mem := by
  simp [actShow]
@[simp ↓] theorem lcMod_sameMem (s : State) (n : Nat) (f : LcSt → LcSt) : (lcMod s n f).mem = s.mem := by
  simp [lcMod]
@[simp ↓] theorem lcPut_sameMem (s : State) (n : Nat) (st : Nat) : (lcPut s n st).mem = s.mem := by
  simp [lcPut]
@[simp ↓] theorem pwmShow_sameMem (s : State) : (pwmShow s).mem = s.mem := by
  simp [pwmShow]
@[simp ↓] theorem pwmOff_sameMem (s : State) : (pwmOff s).mem = s.mem := by
  simp [pwmOff]
@[simp ↓] theorem lcOpen_sameMem (s : State) (n : Nat) (why : Nat) (held : Bool) : (lcOpen s n why held).mem = s.mem := by
  simp only [lcOpen, ite_sameMem, put_sameMem, wrS_sameMem, lcMod_sameMem, wr_sameMem, lcPut_sameMem, ite_self]
@[simp ↓] theorem lcOpenChain_sameMem (s : State) (why : Nat) (zero : Bool) : (lcOpenChain s why zero).2.mem = s.mem := by
  unfold lcOpenChain; rw [foldl_snd_sameMem]; intro r x; dsimp only; (repeat' split) <;> simp
@[simp ↓] theorem psTrip_sameMem (s : State) (why : Nat) (fc : Fld) (fp : Fld) (leg : Nat) : (psTrip s why fc fp leg).mem = s.mem := by
  simp [psTrip]
@[simp ↓] theorem limShow_sameMem (s : State) : (limShow s).mem = s.mem := by
  simp [limShow]
@[simp ↓] theorem dispShow_sameMem (s : State) : (dispShow s).mem = s.mem := by
  simp [dispShow, dispShow.setPairReg]
@[simp ↓] theorem dispRevoke_sameMem (s : State) : (dispRevoke s).mem = s.mem := by
  unfold dispRevoke; (repeat' split) <;> simp [*]
@[simp ↓] theorem grantPut_sameMem (s : State) (g : Grant) : (grantPut s g).mem = s.mem := by
  simp [grantPut]
@[simp ↓] theorem grantDue_sameMem (s : State) (l : List (Nat × Grant)) : (grantDue s l).mem = s.mem := by
  induction l generalizing s with
  | nil => rfl
  | cons x t ih => unfold grantDue; (repeat' split) <;> simp [ih]
@[simp ↓] theorem dispStart_sameMem (s : State) : (dispStart s).mem = s.mem := by
  simp [dispStart]
@[simp ↓] theorem lcShow_sameMem (s : State) (n : Nat) (c : LcSt) (t : Int) (y : Int) (x : LoopIn) (u : Word) (limited : Bool) : (lcShow s n c t y x u limited).mem = s.mem := by
  simp [lcShow]
@[simp ↓] theorem lcArrive_sameMem (s : State) (n : Nat) : (lcArrive s n).mem = s.mem := by
  simp [lcArrive]
@[simp ↓] theorem lcFail_sameMem (s : State) (n : Nat) (check : Nat) : (lcFail s n check).mem = s.mem := by
  simp only [lcFail, ite_sameMem, errRise_mem_eq, bump_sameMem, put_sameMem, lcPut_sameMem, lcMod_sameMem, ite_self]
@[simp ↓] theorem lcModel_sameMem (s : State) (n : Nat) (dt : Word) (y : Word) : (lcModel s n dt y).mem = s.mem := by
  simp [lcModel]
@[simp ↓] theorem supCheck_sameMem (s : State) (x : CtrlIn) (iHall : Int) : (supCheck s x iHall).mem = s.mem := by
  simp [supCheck]
@[simp ↓] theorem lcCycle_sameMem (s : State) (n : Nat) (x : CtrlIn) (dt : Word) : (lcCycle s n x dt).mem = s.mem := by
  simp [lcCycle]
@[simp ↓] theorem lcCycles_sameMem (s : State) (x : CtrlIn) (slow : Bool) (dt : Word) : (lcCycles s x slow dt).mem = s.mem := by
  simp [lcCycles]
@[simp ↓] theorem loopTake_sameMem (s : State) : (loopTake s).mem = s.mem := by
  simp [loopTake]
@[simp ↓] theorem legCurrents_sameMem (s : State) (uvs : List Int) : (legCurrents s uvs).1.mem = s.mem := by
  simp [legCurrents]
@[simp ↓] theorem dutySet_sameMem (s : State) (ds : List Word) : (dutySet s ds).mem = s.mem := by
  simp [dutySet]
@[simp ↓] theorem ocvTerm_sameMem (s : State) (y : Int) : (ocvTerm s y).2.mem = s.mem := by
  simp [ocvTerm]
@[simp ↓] theorem lc0Loop_sameMem (s0 : State) (x : Lc0In) (vLink : Int) : (lc0Loop s0 x vLink).mem = s0.mem := by
  simp only [lc0Loop, lcArrive_sameMem, dutySet_sameMem, put_sameMem, lcShow_sameMem, ocvTerm_sameMem]
@[simp ↓] theorem lc0Cycle_sameMem (s : State) (x : Lc0In) : (lc0Cycle s x).mem = s.mem := by
  unfold lc0Cycle; (repeat' split) <;> simp [*]
@[simp ↓] theorem carrierValley_sameMem (s : State) (leg : Nat) (ready : Bool) : (carrierValley s leg ready).mem = s.mem := by
  simp [carrierValley]
@[simp ↓] theorem gapEnd_sameMem (s : State) (strobe : Bool) : (gapEnd s strobe).mem = s.mem := by
  unfold gapEnd; split <;> simp [*]
@[simp ↓] theorem dispExpire_sameMem (s0 : State) : (dispExpire s0).mem = s0.mem := by
  unfold dispExpire; dsimp only; (repeat' split) <;> simp [*]
@[simp ↓] theorem powerRequest_sameMem (s : State) (sender : Nat) (req : List Byte) : (powerRequest s sender req).mem = s.mem := by
  simp [powerRequest]
@[simp ↓] theorem canMod_sameMem (s : State) (n : Nat) (f : CanCtl → CanCtl) : (canMod s n f).mem = s.mem := by
  simp [canMod]
@[simp ↓] theorem objMod_sameMem (s : State) (n : Nat) (k : Nat) (f : CanObj → CanObj) : (objMod s n k f).mem = s.mem := by
  simp [objMod]
@[simp ↓] theorem canAttempt_sameMem (s : State) (n : Nat) : (canAttempt s n).mem = s.mem := by
  unfold canAttempt; (repeat' split) <;> simp [*]
@[simp ↓] theorem ethOut_sameMem (s : State) (portB : Bool) (cls : Nat) (stomped : Nat) (bs : List Byte) : (ethOut s portB cls stomped bs).mem = s.mem := by
  simp [ethOut]
@[simp ↓] theorem ethCopy_sameMem (s : State) (portB : Bool) (cls : Nat) (dst : Nat) (svc : Nat) (hops : Nat) (rseq : Nat) (dual : Bool) (payload : List Byte) : (ethCopy s portB cls dst svc hops rseq dual payload).mem = s.mem := by
  simp [ethCopy]
@[simp ↓] theorem ethCount_sameMem (s : State) : (ethCount s).mem = s.mem := by
  simp [ethCount]
@[simp ↓] theorem ethBoth_sameMem (s : State) (cls : Nat) (dst : Nat) (svc : Nat) (hops : Nat) (rseq : Nat) (payload : List Byte) : (ethBoth s cls dst svc hops rseq payload).mem = s.mem := by
  simp [ethBoth]
theorem ethSend_sameMem (s : State) (cls svc dst : Nat) (payload : List Byte) (t : State) (ht : ethSend s cls svc dst payload = some t) :
    t.mem = s.mem := by
  unfold ethSend at ht
  split at ht
  · cases ht
  dsimp only at ht
  split at ht
  · cases ht; simp
  split at ht
  · cases ht; simp
  · simp only [Option.map_eq_some_iff] at ht
    obtain ⟨b, _, rfl⟩ := ht; simp
@[simp ↓] theorem ethHardware_sameMem (s : State) (cls svc dst : Nat) (payload : List Byte) :
    (ethHardware s cls svc dst payload).mem = s.mem := by
  unfold ethHardware; split
  · exact ethSend_sameMem _ _ _ _ _ _ ‹_›
  · simp
@[simp ↓] theorem testSlot_sameMem (s : State) (j : Nat) (young : Bool) : (testSlot s j young).mem = s.mem := by
  simp only [testSlot, ite_sameMem, put_sameMem, wr_sameMem, ite_self]
@[simp ↓] theorem redCount_sameMem (s : State) : (redCount s).mem = s.mem := by
  simp [redCount]
@[simp ↓] theorem keepEmit_sameMem (s : State) (pid : Nat) (u : Nat) (bs : List Byte) : (keepEmit s pid u bs).mem = s.mem := by
  simp [keepEmit]
@[simp ↓] theorem toKeeper_sameMem (s : State) (bs : List Byte) : (toKeeper s bs).mem = s.mem := by
  simp [toKeeper]
@[simp ↓] theorem beaconPaths_sameMem (s : State) (bs : List Byte) : (beaconPaths s bs).mem = s.mem := by
  simp [beaconPaths]
@[simp ↓] theorem beaconOut_sameMem (s : State) : (beaconOut s).mem = s.mem := by
  simp [beaconOut]
@[simp ↓] theorem keeperSend_sameMem (s : State) (ty : Nat) (arg : Nat) : (keeperSend s ty arg).mem = s.mem := by
  simp [keeperSend]
@[simp ↓] theorem driveFollow_sameMem (s : State) : (driveFollow s).mem = s.mem := by
  simp [driveFollow]
@[simp ↓] theorem agreeFollow_sameMem (s : State) : (agreeFollow s).mem = s.mem := by
  simp [agreeFollow]
@[simp ↓] theorem holdoffFollow_sameMem (s : State) : (holdoffFollow s).mem = s.mem := by
  simp [holdoffFollow]
@[simp ↓] theorem hoStart_sameMem (s : State) (why : Nat) : (hoStart s why).mem = s.mem := by
  simp [hoStart]
@[simp ↓] theorem beaconSend_sameMem (s : State) (now : SupplyIn) : (beaconSend s now).mem = s.mem := by
  simp [beaconSend]
@[simp ↓] theorem hoReleaseSend_sameMem (s : State) : (hoReleaseSend s).mem = s.mem := by
  simp [hoReleaseSend]
@[simp ↓] theorem degradeTake_sameMem (s : State) : (degradeTake s).mem = s.mem := by
  simp [degradeTake]
@[simp ↓] theorem ksMod_sameMem (s : State) (p : Nat) (f : KsPair → KsPair) : (ksMod s p f).mem = s.mem := by
  simp [ksMod]
@[simp ↓] theorem ksSend_sameMem (s : State) (p : Nat) (pid : Nat) (u : Nat) (ty : Nat) (arg : Nat) (epoch : Nat) : (ksSend s p pid u ty arg epoch).mem = s.mem := by
  simp [ksSend]
@[simp ↓] theorem ksDeny_sameMem (s : State) (p : Nat) (pid : Nat) (u : Nat) (cause : Nat) : (ksDeny s p pid u cause).mem = s.mem := by
  simp [ksDeny]
@[simp ↓] theorem ksTake_sameMem (s : State) (p : Nat) (epoch : Nat) (holder : Nat) : (ksTake s p epoch holder).mem = s.mem := by
  simp [ksTake]
@[simp ↓] theorem ksDrop_sameMem (s : State) (p : Nat) : (ksDrop s p).mem = s.mem := by
  simp [ksDrop]
@[simp ↓] theorem ksHold_sameMem (s : State) (p : Nat) (epoch : Nat) (u : Nat) : (ksHold s p epoch u).mem = s.mem := by
  simp [ksHold]
@[simp ↓] theorem ksGrant_sameMem (s : State) (p : Nat) (u : Nat) (claimed : Nat) : (ksGrant s p u claimed).mem = s.mem := by
  simp [ksGrant]
@[simp ↓] theorem ksRefuse_sameMem (s : State) (p : Nat) (holds : Bool) : (ksRefuse s p holds).mem = s.mem := by
  unfold ksRefuse; split <;> simp [*]
@[simp ↓] theorem ksHear_sameMem (s : State) (p : Nat) (u : Nat) (fr : List Byte) : (ksHear s p u fr).mem = s.mem := by
  simp [ksHear]
@[simp ↓] theorem ksBeacon_sameMem (s : State) (p : Nat) (u : Nat) (fr : List Byte) : (ksBeacon s p u fr).mem = s.mem := by
  simp [ksBeacon]
@[simp ↓] theorem ksClaim_sameMem (s : State) (p : Nat) (u : Nat) (ep : Nat) : (ksClaim s p u ep).mem = s.mem := by
  unfold ksClaim; (repeat' split) <;> simp [*]
@[simp ↓] theorem ksRelease_sameMem (s : State) (p : Nat) (u : Nat) (dst : Nat) : (ksRelease s p u dst).mem = s.mem := by
  simp [ksRelease]
@[simp ↓] theorem ksUnserved_sameMem (s : State) (path : Nat) (src : Nat) (pid : Nat) (u : Nat) : (ksUnserved s path src pid u).mem = s.mem := by
  simp [ksUnserved]
@[simp ↓] theorem ksReceive_sameMem (s : State) (path : Nat) (src : Nat) (fr : List Byte) : (ksReceive s path src fr).mem = s.mem := by
  unfold ksReceive; dsimp only; (repeat' split) <;> simp [*]
@[simp ↓] theorem ksServe_sameMem (s : State) (p : Nat) : (ksServe s p).mem = s.mem := by
  unfold ksServe; split <;> simp [*]
@[simp ↓] theorem ksExpire_sameMem (s : State) (p : Nat) : (ksExpire s p).mem = s.mem := by
  unfold ksExpire; split <;> simp [*]
@[simp ↓] theorem ksWarm_sameMem (s : State) : (ksWarm s).mem = s.mem := by
  unfold ksWarm
  split
  · rfl
  · exact foldl_sameMem _ (fun s p => by simp only [ite_sameMem, put_sameMem, ksTake_sameMem, ite_self]) _ s
@[simp ↓] theorem slewShow_sameMem (s : State) : (slewShow s).mem = s.mem := by
  simp [slewShow]
@[simp ↓] theorem anchorOut_sameMem (s : State) : (anchorOut s).mem = s.mem := by
  simp [anchorOut]
@[simp ↓] theorem domSyncPut_sameMem (s : State) (d : Nat) (b : Bool) : (domSyncPut s d b).mem = s.mem := by
  simp [domSyncPut]
@[simp ↓] theorem domSwitch_sameMem (s : State) (d : Nat) (auto : Bool) : (domSwitch s d auto).mem = s.mem := by
  simp [domSwitch]
@[simp ↓] theorem autoFollow_sameMem (s : State) : (autoFollow s).mem = s.mem := by
  simp [autoFollow]
@[simp ↓] theorem syncLost_sameMem (s : State) (d : Nat) : (Sys2Proof.Machine.syncLost s d).mem = s.mem := by
  unfold Sys2Proof.Machine.syncLost; dsimp only; (repeat' split) <;> simp
@[simp ↓] theorem ptpOut_sameMem (s : State) (b : Bool) (m : List Byte) : (ptpOut s b m).mem = s.mem := by
  simp [ptpOut]
@[simp ↓] theorem followUpLate_sameMem (s : State) : (followUpLate s).mem = s.mem := by
  unfold followUpLate; split <;> simp [*]
@[simp ↓] theorem idkDropNonce_sameMem (s : State) : (idkDropNonce s).mem = s.mem := by
  simp [idkDropNonce]
@[simp ↓] theorem updShow_sameMem (s : State) : (updShow s).mem = s.mem := by
  unfold updShow
  refine (foldl_sameMem _ (fun s k => ?_) _ _).trans ?_ <;> simp only [wr_sameMem, put_sameMem]
@[simp ↓] theorem bootStore_sameMem (s : State) (f : BootRec → BootRec) : (bootStore s f).mem = s.mem := by
  simp [bootStore]
@[simp ↓] theorem slotPut_sameMem (s : State) (k : Nat) (st : Nat) : (slotPut s k st).mem = s.mem := by
  simp [slotPut]
@[simp ↓] theorem bootPick_sameMem (s : State) (a : Nat) : (bootPick s a).1.mem = s.mem := by
  unfold bootPick; dsimp only; (repeat' split) <;> simp [*]
@[simp ↓] theorem bootCount_sameMem (s : State) : (bootCount s).mem = s.mem := by
  simp [bootCount]
@[simp ↓] theorem clusterReset_sameMem (s : State) (c : Nat) : (clusterReset s c).mem = s.mem := by
  simp [clusterReset]
@[simp ↓] theorem clusterRuns_sameMem (s : State) (c : Nat) (ver : Nat) : (clusterRuns s c ver).mem = s.mem := by
  simp [clusterRuns]
@[simp ↓] theorem windowOpen_sameMem (s : State) : (windowOpen s).mem = s.mem := by
  simp [windowOpen]
@[simp ↓] theorem ringShow_sameMem (s : State) : (ringShow s).mem = s.mem := by
  simp [ringShow]
@[simp ↓] theorem noticeTake_sameMem (s : State) (p : List Byte) : (noticeTake s p).mem = s.mem := by
  simp [noticeTake]
@[simp ↓] theorem railEvent_sameMem (s : State) (f : Fld) (now : SupplyIn) : (railEvent s f now).mem = s.mem := by
  simp [railEvent]
@[simp ↓] theorem throttle_sameMem (s : State) (on : Bool) : (throttle s on).mem = s.mem := by
  simp [throttle]

end Sys2Proof.Laws
end

section
/-! The quiet rows leave host memory as it was (O60). -/

namespace Sys2Proof.Laws

open Sys2Proof Sys2Proof.Machine

/-- An outcome whose next state has host memory as it was. -/
def MemKept (s : State) : Host.Outcome State Fault Refusal → Prop
  | .next t => t.mem = s.mem
  | _ => True

theorem memKept_next {s t : State} (h : t.mem = s.mem) : MemKept s (.next t) := h

@[simp ↓] theorem powerTo_sameMem (s : State) (st : PState) (code : Nat) : (powerTo s st code).mem = s.mem := by
  simp [powerTo]
@[simp ↓] theorem railReturn_sameMem (s : State) (now : SupplyIn) : (railReturn s now).mem = s.mem := by
  unfold railReturn; split <;> simp
@[simp ↓] theorem timePass_sameMem (s : State) (n : Nat) : (timePass s n).mem = s.mem := by
  unfold timePass; dsimp only; (repeat' split) <;> simp [otPass, ptpPass]

@[simp ↓] theorem wakeWalk_sameMem (s : State) (ks : List (Nat × Nat)) : (wakeWalk s ks).mem = s.mem := by
  induction ks generalizing s with
  | nil => rfl
  | cons k t ih => unfold wakeWalk; split <;> simp [ih]
theorem execServiceFwRunning_sameMem (s : State) : MemKept s (execServiceFwRunning s) := by
  unfold execServiceFwRunning
  dsimp only
  (repeat' split) <;> exact memKept_next (by simp)
theorem execLowWarning_sameMem (now : SupplyIn) (s : State) : MemKept s (execLowWarning now s) := by
  exact memKept_next (by simp)
theorem execRailHigh_sameMem (now : SupplyIn) (s : State) : MemKept s (execRailHigh now s) := by
  exact memKept_next (by simp)
theorem execRailReturn_sameMem (now : SupplyIn) (s : State) : MemKept s (execRailReturn now s) := by
  exact memKept_next (by simp)
theorem execRailReturnInFlush_sameMem (s : State) : MemKept s (execRailReturnInFlush s) := by
  exact memKept_next (by simp)
theorem execPeakDrawLimit_sameMem (now : SupplyIn) (s : State) : MemKept s (execPeakDrawLimit now s) := by
  exact memKept_next (by simp)
theorem execPeakDrawRelease_sameMem (now : SupplyIn) (spanMs mwMs : Nat) (s : State) : MemKept s (execPeakDrawRelease now spanMs mwMs s) := by
  exact memKept_next (by simp)
theorem execCqHead_sameMem (lvl : Level) (qp value : Nat) (s : State) : MemKept s (execCqHead lvl qp value s) := by
  exact memKept_next (by simp)
theorem execCoalTimeout_sameMem (qp : Nat) (s : State) : MemKept s (execCoalTimeout qp s) := by
  unfold execCoalTimeout
  split
  · exact memKept_next ((irqCheck_memeq _ _).trans (qpMod_mem_eq _ _ _))
  · exact memKept_next rfl
theorem execIrqpendClear_sameMem (lvl : Level) (hi : Bool) (value : Nat) (s : State) : MemKept s (execIrqpendClear lvl hi value s) := by
  exact memKept_next (by simp)
theorem execQpEnable_sameMem (lvl : Level) (qp : Nat) (s : State) : MemKept s (execQpEnable lvl qp s) := by
  exact memKept_next (by simp)
theorem execQpIdle_sameMem (qp : Nat) (s : State) : MemKept s (execQpIdle qp s) := by
  exact memKept_next (by simp)
theorem execArm_sameMem (k snum lead : Nat) (fromX3 : Bool) (chk : FrameChk) (s : State) : MemKept s (execArm k snum lead fromX3 chk s) := by
  exact memKept_next (by simp)
theorem execStrobe_sameMem (k : Nat) (si : StrobeIn) (s : State) : MemKept s (execStrobe k si s) := by
  exact memKept_next (by simp)
theorem execSweepRd_sameMem (k sinceNs : Nat) (fate : SlotFate) (s : State) : MemKept s (execSweepRd k sinceNs fate s) := by
  exact memKept_next (by simp)
theorem execHoldRd_sameMem (k sinceNs : Nat) (fate : SlotFate) (s : State) : MemKept s (execHoldRd k sinceNs fate s) := by
  exact memKept_next (by simp)
theorem execTregRd_sameMem (k reg : Nat) (chk : FrameChk) (s : State) : MemKept s (execTregRd k reg chk s) := by
  exact memKept_next (by simp)
theorem execTregWr_sameMem (k : Nat) (ws : List (Nat × Nat)) (chk : FrameChk) (s : State) : MemKept s (execTregWr k ws chk s) := by
  unfold execTregWr
  dsimp only
  (repeat' split) <;> exact memKept_next (by simp)
theorem execDlyMark_sameMem (k m : Nat) (chk : FrameChk) (s : State) : MemKept s (execDlyMark k m chk s) := by
  exact memKept_next (by simp)
theorem execDlySet_sameMem (k x2 x3 align : Nat) (chk : FrameChk) (s : State) : MemKept s (execDlySet k x2 x3 align chk s) := by
  exact memKept_next (by simp)
theorem execProbeFrame_sameMem (k : Nat) (portB : Bool) (chk : FrameChk) (s : State) : MemKept s (execProbeFrame k portB chk s) := by
  unfold execProbeFrame
  dsimp only
  (repeat' split) <;> exact memKept_next (by simp)
theorem execSafeWr_sameMem (k ov uv filt : Nat) (srcSp : Bool) (chk : FrameChk) (s : State) : MemKept s (execSafeWr k ov uv filt srcSp chk s) := by
  exact memKept_next (by simp)
theorem execSafeRd_sameMem (k : Nat) (chk : FrameChk) (s : State) : MemKept s (execSafeRd k chk s) := by
  exact memKept_next (by simp)
theorem execRearm_sameMem (k : Nat) (srcSp : Bool) (chk : FrameChk) (s : State) : MemKept s (execRearm k srcSp chk s) := by
  exact memKept_next (by simp)
theorem execArmSafe_sameMem (k : Nat) (srcSp : Bool) (chk : FrameChk) (s : State) : MemKept s (execArmSafe k srcSp chk s) := by
  exact memKept_next (by simp)
theorem execSleep_sameMem (k : Nat) (chk : FrameChk) (s : State) : MemKept s (execSleep k chk s) := by
  exact memKept_next (by simp)
theorem execTileSilenceTimeout_sameMem (k : Nat) (s : State) : MemKept s (execTileSilenceTimeout k s) := by
  exact memKept_next (by simp)
theorem execTileWake_sameMem (k : Nat) (fresh : Option TileTrim) (stack : Nat) (s : State) : MemKept s (execTileWake k fresh stack s) := by
  unfold execTileWake
  dsimp only
  (repeat' split) <;> exact memKept_next (by simp)
theorem execTileClockLock_sameMem (k : Nat) (onX3 ok : Bool) (s : State) : MemKept s (execTileClockLock k onX3 ok s) := by
  exact memKept_next (by simp)
theorem execStackLow_sameMem (k : Nat) (s : State) : MemKept s (execStackLow k s) := by
  exact memKept_next (by simp)
theorem execStackRestored_sameMem (k : Nat) (s : State) : MemKept s (execStackRestored k s) := by
  exact memKept_next (by simp)
theorem execComparatorTrip_sameMem (k cell : Nat) (ov : Bool) (v : Int) (s : State) : MemKept s (execComparatorTrip k cell ov v s) := by
  unfold execComparatorTrip
  dsimp only
  (repeat' split) <;> exact memKept_next (by simp)
theorem execComparatorSelfTest_sameMem (k : Nat) (tripUs standInUs : Option Nat) (s : State) : MemKept s (execComparatorSelfTest k tripUs standInUs s) := by
  unfold execComparatorSelfTest
  dsimp only
  (repeat' split) <;> exact memKept_next (by simp)
theorem execOpenWireTest_sameMem (s : State) : MemKept s (execOpenWireTest s) := by
  exact memKept_next (by simp)
theorem execSyncLoss_sameMem (node : Nat) (x3 : Bool) (codes : Nat) (s : State) : MemKept s (execSyncLoss node x3 codes s) := by
  unfold execSyncLoss
  dsimp only
  (repeat' split) <;> exact memKept_next (by simp)
theorem execLoopModeExit_sameMem (k : Nat) (x3 : Bool) (s : State) : MemKept s (execLoopModeExit k x3 s) := by
  exact memKept_next (by simp)
theorem execReadIncomplete_sameMem (sinceNs : Nat) (s : State) : MemKept s (execReadIncomplete sinceNs s) := by
  exact memKept_next (by simp)
theorem execInsulationPhaseEnd_sameMem (vc u100 moved uMin : Int) (s : State) : MemKept s (execInsulationPhaseEnd vc u100 moved uMin s) := by
  exact memKept_next (by simp)
theorem execShuntOverRange_sameMem (overN : Nat) (s : State) : MemKept s (execShuntOverRange overN s) := by
  exact memKept_next (by simp)
theorem execBleedTimerExpiry_sameMem (k cell : Nat) (s : State) : MemKept s (execBleedTimerExpiry k cell s) := by
  exact memKept_next (by simp)
theorem execBleedPowerTick_sameMem (k : Nat) (s : State) : MemKept s (execBleedPowerTick k s) := by
  unfold execBleedPowerTick
  dsimp only
  (repeat' split) <;> exact memKept_next (by simp)
theorem execBleedSilence_sameMem (k : Nat) (s : State) : MemKept s (execBleedSilence k s) := by
  unfold execBleedSilence
  dsimp only
  (repeat' split) <;> exact memKept_next (by simp)
theorem execPauseFetsOff_sameMem (k : Nat) (s : State) : MemKept s (execPauseFetsOff k s) := by
  exact memKept_next (by simp)
theorem execPauseFetsOn_sameMem (k : Nat) (s : State) : MemKept s (execPauseFetsOn k s) := by
  exact memKept_next (by simp)
theorem execBalRound_sameMem (elapsedS : Nat) (s : State) : MemKept s (execBalRound elapsedS s) := by
  exact memKept_next (by simp)
theorem execAgeWaitExpiry_sameMem (s : State) : MemKept s (execAgeWaitExpiry s) := by
  exact memKept_next (by simp)
theorem execNoEisTimeout_sameMem (c : Nat) (s : State) : MemKept s (execNoEisTimeout c s) := by
  exact memKept_next (by simp)
theorem execStaleTimeout_sameMem (c : Nat) (s : State) : MemKept s (execStaleTimeout c s) := by
  exact memKept_next (by simp)
theorem execSnapshotTimer_sameMem (s : State) : MemKept s (execSnapshotTimer s) := by
  exact memKept_next (by simp)
theorem execSegmentEnd_sameMem (s : State) : MemKept s (execSegmentEnd s) := by
  exact memKept_next (by simp)
theorem execEisHistoryTimer_sameMem (s : State) : MemKept s (execEisHistoryTimer s) := by
  exact memKept_next (by simp)
theorem execHeaterDwellEnd_sameMem (s : State) : MemKept s (execHeaterDwellEnd s) := by
  exact memKept_next (by simp)
theorem execActFault_sameMem (a : Nat) (s : State) : MemKept s (execActFault a s) := by
  unfold execActFault
  (repeat' split) <;> exact memKept_next (by simp)
theorem execLc0Cycle_sameMem (x : Lc0In) (s : State) : MemKept s (execLc0Cycle x s) := by
  exact memKept_next (by simp)
theorem execFastCycle_sameMem (x : CtrlIn) (s : State) : MemKept s (execFastCycle x s) := by
  exact memKept_next (by simp)
theorem execSlowCycle_sameMem (x : CtrlIn) (dtNs : Nat) (s : State) : MemKept s (execSlowCycle x dtNs s) := by
  exact memKept_next (by simp)
theorem execDwellEnd_sameMem (n : Nat) (s : State) : MemKept s (execDwellEnd n s) := by
  exact memKept_next (by simp)
theorem execSupervisionCheck_sameMem (x : CtrlIn) (iHall : Int) (s : State) : MemKept s (execSupervisionCheck x iHall s) := by
  exact memKept_next (by simp)
theorem execStoppingTimeout_sameMem (n : Nat) (s : State) : MemKept s (execStoppingTimeout n s) := by
  exact memKept_next (by simp)
theorem execPsFault_sameMem (low : Bool) (s : State) : MemKept s (execPsFault low s) := by
  exact memKept_next (by simp)
theorem execDispatchExpiry_sameMem (s : State) : MemKept s (execDispatchExpiry s) := by
  exact memKept_next (by simp)
theorem execPowerRequest_sameMem (sender : Nat) (req : List Byte) (s : State) : MemKept s (execPowerRequest sender req s) := by
  exact memKept_next (by simp)
theorem execTestPulseSlot_sameMem (j : Nat) (young : Bool) (s : State) : MemKept s (execTestPulseSlot j young s) := by
  exact memKept_next (by simp)
theorem execRstInRise_sameMem (s : State) : MemKept s (execRstInRise s) := by
  exact memKept_next (by simp)
theorem execBeaconSend_sameMem (now : SupplyIn) (s : State) : MemKept s (execBeaconSend now s) := by
  exact memKept_next (by simp)
theorem execClaimResend_sameMem (s : State) : MemKept s (execClaimResend s) := by
  exact memKept_next (by simp)
theorem execHandoverRelease_sameMem (s : State) : MemKept s (execHandoverRelease s) := by
  exact memKept_next (by simp)
theorem execDegradation_sameMem (s : State) : MemKept s (execDegradation s) := by
  exact memKept_next (by simp)
theorem execTakebackHoldoffEnd_sameMem (s : State) : MemKept s (execTakebackHoldoffEnd s) := by
  exact memKept_next (by simp)
theorem execKeeperBeacon_sameMem (path src : Nat) (frame : List Byte) (s : State) : MemKept s (execKeeperBeacon path src frame s) := by
  exact memKept_next (by simp)
theorem execClaim_sameMem (path src : Nat) (frame : List Byte) (s : State) : MemKept s (execClaim path src frame s) := by
  exact memKept_next (by simp)
theorem execKeeperClaimGrant_sameMem (p : Nat) (s : State) : MemKept s (execKeeperClaimGrant p s) := by
  exact memKept_next (by simp)
theorem execKeeperClaimTimeout_sameMem (p : Nat) (s : State) : MemKept s (execKeeperClaimTimeout p s) := by
  exact memKept_next (by simp)
theorem execRelease_sameMem (path src : Nat) (frame : List Byte) (s : State) : MemKept s (execRelease path src frame s) := by
  exact memKept_next (by simp)
theorem execKeeperWarmUp_sameMem (s : State) : MemKept s (execKeeperWarmUp s) := by
  exact memKept_next (by simp)
theorem execRingStateNotice_sameMem (payload : List Byte) (s : State) : MemKept s (execRingStateNotice payload s) := by
  exact memKept_next (by simp)
theorem execBreakRecordExpiry_sameMem (s : State) : MemKept s (execBreakRecordExpiry s) := by
  exact memKept_next (by simp)
theorem execFollowUpTimeout_sameMem (s : State) : MemKept s (execFollowUpTimeout s) := by
  exact memKept_next (by simp)
theorem execSyncLossTimeout_sameMem (d : Nat) (s : State) : MemKept s (execSyncLossTimeout d s) := by
  exact memKept_next (by simp)
theorem execSlewEnd_sameMem (s : State) : MemKept s (execSlewEnd s) := by
  unfold execSlewEnd
  dsimp only
  (repeat' split) <;> exact memKept_next (by simp)
theorem execAnchorPublish_sameMem (s : State) : MemKept s (execAnchorPublish s) := by
  exact memKept_next (by simp)
theorem execTransmitAttempt_sameMem (n : Nat) (s : State) : MemKept s (execTransmitAttempt n s) := by
  exact memKept_next (by simp)
theorem execBusOffHoldExpiry_sameMem (n : Nat) (s : State) : MemKept s (execBusOffHoldExpiry n s) := by
  exact memKept_next (by simp)
theorem execHoldWindowOpen_sameMem (s : State) : MemKept s (execHoldWindowOpen s) := by
  exact memKept_next (by simp)
theorem execRecordEntry_sameMem (src code level inst arg0 arg1 : Nat) (s : State) : MemKept s (execRecordEntry src code level inst arg0 arg1 s) := by
  exact memKept_next (by simp)
theorem execRecFlushTimer_sameMem (s : State) : MemKept s (execRecFlushTimer s) := by
  exact memKept_next (by simp)
theorem execTimeMark_sameMem (s : State) : MemKept s (execTimeMark s) := by
  exact memKept_next (by simp)
theorem execClearNonceLapse_sameMem (s : State) : MemKept s (execClearNonceLapse s) := by
  exact memKept_next (by simp)
theorem execKeyNonceLapse_sameMem (s : State) : MemKept s (execKeyNonceLapse s) := by
  exact memKept_next (by simp)
theorem execRngFail_sameMem (s : State) : MemKept s (execRngFail s) := by
  exact memKept_next (by simp)
theorem execPepperDurExpiry_sameMem (k : Nat) (s : State) : MemKept s (execPepperDurExpiry k s) := by
  exact memKept_next (by simp)
theorem execPartnerBeaconTimeout_sameMem (j5 ring : Bool) (s : State) : MemKept s (execPartnerBeaconTimeout j5 ring s) := by
  exact memKept_next (by simp)
theorem execKeeperAckTimeout_sameMem (s : State) : MemKept s (execKeeperAckTimeout s) := by
  exact memKept_next (by simp)
theorem execBusIntegrationEnd_sameMem (n : Nat) (s : State) : MemKept s (execBusIntegrationEnd n s) := by
  exact memKept_next (by simp)
theorem execHallFault_sameMem (hallSig hallRef : Int) (s : State) : MemKept s (execHallFault hallSig hallRef s) := by
  unfold execHallFault
  dsimp only
  (repeat' split) <;> exact memKept_next (by simp)
theorem execShuntCommonModeFault_sameMem (s : State) : MemKept s (execShuntCommonModeFault s) := by
  exact memKept_next (by simp)
theorem execTileStackReset_sameMem (k : Nat) (s : State) : MemKept s (execTileStackReset k s) := by
  exact memKept_next (by simp)
theorem execCarrierValley_sameMem (leg : Nat) (ready : Bool) (s : State) : MemKept s (execCarrierValley leg ready s) := by
  exact memKept_next (by simp)

/-- A row of `quietRow` keeps host memory. -/
theorem exec_memKept (c : Instr) (s : State) (h : quietRow c = true) : MemKept s (exec c s) := by
  cases c with
  | serviceFwRunning => exact execServiceFwRunning_sameMem s
  | lowWarning now => exact execLowWarning_sameMem now s
  | railHigh now => exact execRailHigh_sameMem now s
  | railReturn now => exact execRailReturn_sameMem now s
  | railReturnInFlush => exact execRailReturnInFlush_sameMem s
  | peakDrawLimit now => exact execPeakDrawLimit_sameMem now s
  | peakDrawRelease now spanMs mwMs => exact execPeakDrawRelease_sameMem now spanMs mwMs s
  | cqHead lvl qp value => exact execCqHead_sameMem lvl qp value s
  | coalTimeout qp => exact execCoalTimeout_sameMem qp s
  | irqpendClear lvl hi value => exact execIrqpendClear_sameMem lvl hi value s
  | qpEnable lvl qp => exact execQpEnable_sameMem lvl qp s
  | qpIdle qp => exact execQpIdle_sameMem qp s
  | arm k snum lead fromX3 chk => exact execArm_sameMem k snum lead fromX3 chk s
  | strobe k si => exact execStrobe_sameMem k si s
  | sweepRd k sinceNs fate => exact execSweepRd_sameMem k sinceNs fate s
  | holdRd k sinceNs fate => exact execHoldRd_sameMem k sinceNs fate s
  | tregRd k reg chk => exact execTregRd_sameMem k reg chk s
  | tregWr k ws chk => exact execTregWr_sameMem k ws chk s
  | dlyMark k m chk => exact execDlyMark_sameMem k m chk s
  | dlySet k x2 x3 align chk => exact execDlySet_sameMem k x2 x3 align chk s
  | probeFrame k portB chk => exact execProbeFrame_sameMem k portB chk s
  | safeWr k ov uv filt srcSp chk => exact execSafeWr_sameMem k ov uv filt srcSp chk s
  | safeRd k chk => exact execSafeRd_sameMem k chk s
  | rearm k srcSp chk => exact execRearm_sameMem k srcSp chk s
  | armSafe k srcSp chk => exact execArmSafe_sameMem k srcSp chk s
  | sleep k chk => exact execSleep_sameMem k chk s
  | tileSilenceTimeout k => exact execTileSilenceTimeout_sameMem k s
  | tileWake k fresh stack => exact execTileWake_sameMem k fresh stack s
  | tileClockLock k onX3 ok => exact execTileClockLock_sameMem k onX3 ok s
  | stackLow k => exact execStackLow_sameMem k s
  | stackRestored k => exact execStackRestored_sameMem k s
  | comparatorTrip k cell ov v => exact execComparatorTrip_sameMem k cell ov v s
  | comparatorSelfTest k tripUs standInUs => exact execComparatorSelfTest_sameMem k tripUs standInUs s
  | openWireTest => exact execOpenWireTest_sameMem s
  | syncLoss node x3 codes => exact execSyncLoss_sameMem node x3 codes s
  | loopModeExit k x3 => exact execLoopModeExit_sameMem k x3 s
  | readIncomplete sinceNs => exact execReadIncomplete_sameMem sinceNs s
  | insulationPhaseEnd vc u100 moved uMin => exact execInsulationPhaseEnd_sameMem vc u100 moved uMin s
  | shuntOverRange overN => exact execShuntOverRange_sameMem overN s
  | bleedTimerExpiry k cell => exact execBleedTimerExpiry_sameMem k cell s
  | bleedPowerTick k => exact execBleedPowerTick_sameMem k s
  | bleedSilence k => exact execBleedSilence_sameMem k s
  | pauseFetsOff k => exact execPauseFetsOff_sameMem k s
  | pauseFetsOn k => exact execPauseFetsOn_sameMem k s
  | balRound elapsedS => exact execBalRound_sameMem elapsedS s
  | ageWaitExpiry => exact execAgeWaitExpiry_sameMem s
  | noEisTimeout c => exact execNoEisTimeout_sameMem c s
  | staleTimeout c => exact execStaleTimeout_sameMem c s
  | snapshotTimer => exact execSnapshotTimer_sameMem s
  | segmentEnd => exact execSegmentEnd_sameMem s
  | eisHistoryTimer => exact execEisHistoryTimer_sameMem s
  | heaterDwellEnd => exact execHeaterDwellEnd_sameMem s
  | actFault a => exact execActFault_sameMem a s
  | lc0Cycle x => exact execLc0Cycle_sameMem x s
  | fastCycle x => exact execFastCycle_sameMem x s
  | slowCycle x dtNs => exact execSlowCycle_sameMem x dtNs s
  | dwellEnd n => exact execDwellEnd_sameMem n s
  | supervisionCheck x iHall => exact execSupervisionCheck_sameMem x iHall s
  | stoppingTimeout n => exact execStoppingTimeout_sameMem n s
  | psFault low => exact execPsFault_sameMem low s
  | dispatchExpiry => exact execDispatchExpiry_sameMem s
  | powerRequest sender req => exact execPowerRequest_sameMem sender req s
  | testPulseSlot j young => exact execTestPulseSlot_sameMem j young s
  | rstInRise => exact execRstInRise_sameMem s
  | beaconSend now => exact execBeaconSend_sameMem now s
  | claimResend => exact execClaimResend_sameMem s
  | handoverRelease => exact execHandoverRelease_sameMem s
  | degradation => exact execDegradation_sameMem s
  | takebackHoldoffEnd => exact execTakebackHoldoffEnd_sameMem s
  | keeperBeacon path src frame => exact execKeeperBeacon_sameMem path src frame s
  | claim path src frame => exact execClaim_sameMem path src frame s
  | keeperClaimGrant p => exact execKeeperClaimGrant_sameMem p s
  | keeperClaimTimeout p => exact execKeeperClaimTimeout_sameMem p s
  | release path src frame => exact execRelease_sameMem path src frame s
  | keeperWarmUp => exact execKeeperWarmUp_sameMem s
  | ringStateNotice payload => exact execRingStateNotice_sameMem payload s
  | breakRecordExpiry => exact execBreakRecordExpiry_sameMem s
  | followUpTimeout => exact execFollowUpTimeout_sameMem s
  | syncLossTimeout d => exact execSyncLossTimeout_sameMem d s
  | slewEnd => exact execSlewEnd_sameMem s
  | anchorPublish => exact execAnchorPublish_sameMem s
  | transmitAttempt n => exact execTransmitAttempt_sameMem n s
  | busOffHoldExpiry n => exact execBusOffHoldExpiry_sameMem n s
  | holdWindowOpen => exact execHoldWindowOpen_sameMem s
  | recordEntry src code level inst arg0 arg1 => exact execRecordEntry_sameMem src code level inst arg0 arg1 s
  | recFlushTimer => exact execRecFlushTimer_sameMem s
  | timeMark => exact execTimeMark_sameMem s
  | clearNonceLapse => exact execClearNonceLapse_sameMem s
  | keyNonceLapse => exact execKeyNonceLapse_sameMem s
  | rngFail => exact execRngFail_sameMem s
  | pepperDurExpiry k => exact execPepperDurExpiry_sameMem k s
  | partnerBeaconTimeout j5 ring => exact execPartnerBeaconTimeout_sameMem j5 ring s
  | keeperAckTimeout => exact execKeeperAckTimeout_sameMem s
  | busIntegrationEnd n => exact execBusIntegrationEnd_sameMem n s
  | hallFault hallSig hallRef => exact execHallFault_sameMem hallSig hallRef s
  | shuntCommonModeFault => exact execShuntCommonModeFault_sameMem s
  | tileStackReset k => exact execTileStackReset_sameMem k s
  | carrierValley leg ready => exact execCarrierValley_sameMem leg ready s
  | _ => exact absurd h (by simp [quietRow])

end Sys2Proof.Laws

namespace Sys2Proof.Proofs

open Sys2Proof Sys2Proof.Machine Sys2Proof.Laws

/-- Settles O60, row by row: each operation that a row outside `powerRow` runs keeps the power state, and each that a quiet row runs keeps host
memory. -/
theorem otherRowsKeepPowerAndHostMemory : Obligations.OtherRowsKeepPowerAndHostMemory := by
  unfold Obligations.OtherRowsKeepPowerAndHostMemory
  refine ⟨fun c s t hrow hexec => ?_, fun c s t hrow hexec => ?_⟩
  · have hkept := exec_powerKept c s hrow
    rw [hexec] at hkept
    exact hkept
  · have hkept := exec_memKept c s hrow
    rw [hexec] at hkept
    exact hkept

end Sys2Proof.Proofs
end
